-- ==== Sys2Proof/Syntax.lean ====
section
/-! DEFINITION. The commands of the block: one constructor for each row of the opcode table.
Every command carries the instant `t` at which it happens, in quarters of a nanosecond of master-clock time (R71). -/

namespace Sys2Proof

/-- What the host answers to a read that the module issued (R22). -/
inductive HostAnswer where
  /-- Data of a completion, with the 64-byte lines (numbered from 0) that came with the poisoned indication. -/
  | data (bytes : List Byte) (poisoned : List Nat)
  /-- Unsupported Request or Completer Abort. -/
  | refused
  deriving DecidableEq, Repr

/-- A PCI Express configuration request (R21). -/
inductive CfgRequest where
  | read (reg : Nat)
  | busMaster (on : Bool)
  | bar2Size (log2 : Nat)
  | power (d3hot : Bool)
  | other (reg : Nat) (value : Word)
  deriving DecidableEq, Repr

/-- Which host write could not be issued within 50 ms (R22): a command's data, or a completion or event record. -/
inductive HostWrite where
  | command (q : Nat) (seq : Nat)
  | ring (q : Nat) (denied : Bool)
  deriving DecidableEq, Repr

/-- The outcome of a flash write (R40): performed and read back, failed, or cut off by a reset. -/
inductive FlashResult where
  | ok | error | cut
  deriving DecidableEq, Repr

/-- The outcome a forwarded command carries back (R32). -/
structure FwdOutcome where
  status : Nat
  reason : Nat
  detail : Nat
  source : Nat
  result : Nat
  deriving DecidableEq, Repr

/-- A PTP message and what the standard's port and servo conclude from it (R75, R78): offsets in quarters of a
nanosecond, rates in units of 2⁻¹⁶ ppb. -/
inductive PtpMessage where
  /-- Announce: the best port's portState, the grandmaster's clockClass and identity. -/
  | announce (portState : Nat) (gmClass : Nat) (gmId : Nat)
  /-- Sync: the servo's offset from the grandmaster, the rate it sets, and the phase term working time's servo asks for. -/
  | sync (portState : Nat) (offset : Int) (rate : Int) (phase : Int)
  /-- Delay or peer-delay messages: no effect on the state modelled. -/
  | delay
  /-- Management: GET of the four data sets, or any other action. -/
  | management (get : Bool)
  deriving DecidableEq, Repr

/-- What the headers of an access unit say of its picture, by the standards (R129, R131, R143 to R145). -/
structure PicInfo where
  /-- POC for H.265, frame_num for H.264. -/
  order : Int
  /-- The picture is marked as used for reference. -/
  isRef : Bool
  /-- nal_ref_idc 0, or a sub-layer non-reference picture at the highest TemporalId (R141). -/
  droppable : Bool
  /-- An IDR picture, or an IRAP picture that starts a coded video sequence (R145). -/
  idr : Bool
  rasl : Bool
  /-- recovery_poc_cnt or recovery_frame_cnt of a recovery point SEI (R145). -/
  recovery : Option Nat
  /-- MaxFrameNum of the active SPS (R145). -/
  maxFrameNum : Nat
  /-- POC or frame_num of the entries of the active reference lists (R143). -/
  refs : List Int
  /-- POC or frame_num of the earlier pictures that the standard's marking keeps as references. -/
  keeps : List Int
  profileOk : Bool
  level : Nat
  width : Nat
  height : Nat
  /-- Cropped size (R146). -/
  cropW : Nat
  cropH : Nat
  /-- Reference slots needed by the active SPS (R131). -/
  refSlots : Nat
  tenBit : Bool
  chroma420 : Bool
  fields : Bool
  reorder : Bool
  deriving DecidableEq, Repr

/-- What one RTP packet carries of an access unit (R111, R124, R270). -/
structure AuPart where
  bytes : Nat
  /-- The packetisation is one that R111 accepts. -/
  supported : Bool
  /-- An IDR or IRAP picture, or a recovery point SEI (R124). -/
  sync : Bool
  /-- Parameter sets carried, and those that the picture refers to. -/
  carries : List Nat
  uses : List Nat
  /-- A freshness SEI: the bytes after its UUID (R269). -/
  sei : Option (List Byte)
  pic : Option PicInfo
  deriving DecidableEq, Repr

/-- One sample row segment of an ST 2110-20 packet: line, offset in pixels, samples in pixel-group order. -/
structure RowPart where
  line : Nat
  offset : Nat
  samples : List Nat
  deriving DecidableEq, Repr

/-- The payload of an RTP packet. -/
inductive RtpPayload where
  | au (p : AuPart)
  /-- ST 2110-20: the field bit, and up to three row segments. -/
  | rows (field : Bool) (rows : List RowPart)
  deriving DecidableEq, Repr

/-- An RTP packet. -/
structure RtpPacket where
  version : Nat
  pt : Nat
  marker : Bool
  seq : Nat
  ts : Nat
  ssrc : Nat
  payload : RtpPayload
  deriving DecidableEq, Repr

/-- A UDP datagram's match fields (R109). -/
structure UdpInfo where
  ipv6 : Bool
  vlan : Option Nat
  dst : Nat
  src : Nat
  dport : Nat
  rtp : Option RtpPacket
  deriving DecidableEq, Repr

/-- An Ethernet frame as the port sees it (R106, R107). -/
inductive EthFrame where
  | badFcs
  /-- Fragmented, or with an unsupported IPv6 extension header. -/
  | fragment
  /-- ARP, ICMP, ICMPv6, IGMP or EtherType 0x88F7. -/
  | firmware
  | udp (u : UdpInfo)
  /-- Any other frame. -/
  | other
  deriving DecidableEq, Repr

/-- What an engine reports of a picture it has decoded (R144): concealed blocks, poisoned coded data, poisoned
reference samples, and the planes it wrote from the start of the slot. -/
structure DecodeResult where
  concealed : Bool
  poisonCoded : Bool
  poisonRef : Bool
  planes : List Byte
  deriving DecidableEq, Repr

/-- A head group's membership in a canvas: module, group and the group's standard mode (R151). -/
structure CanvasMember where
  module : Nat
  group : Nat
  mode : Nat
  deriving DecidableEq, Repr

/-- A PREPARE of a canvas commit: submitting module, its queue and SEQ, and the receiving member's update entries
(R163). -/
structure CanvasPrepare where
  canvas : Nat
  origin : Nat
  queue : Nat
  seq : Nat
  entries : List (List Byte)
  deriving DecidableEq, Repr

/-- What a sink's DPCD reports (R213, R215, R223): RATE 0 to 3, LANES 0 to 2 for 1, 2, 4. -/
structure SinkCaps where
  rate : Nat
  lanes : Nat
  mst : Bool
  async : Bool
  deriving DecidableEq, Repr

/-- What a sink answers to an AUX transaction after any retries on DEFER (R230). -/
inductive AuxReply where
  | ack (data : List Byte)
  | nack
  | timeout
  deriving DecidableEq, Repr

/-- What an encode engine hands over for a row (R268): the delimiter, parameter sets and SEI before the slice of row 0, the
slice, each as NAL units, and whether the budget made it skip-code. -/
structure EncRow where
  head : List (List Byte)
  slice : List Byte
  skipped : Bool
  deriving DecidableEq, Repr
/-- A link of the system that is in routing (R308): its two ends, and the Mb/s that each direction may reserve (R313,
R336). -/
structure PaentLink where
  a : Nat
  aPort : Nat
  aLimit : Nat
  b : Nat
  bPort : Nat
  bLimit : Nat
  deriving DecidableEq, Repr

/-- A multicast group of the system (R310). -/
structure McastGroup where
  group : Nat
  source : Nat
  context : Nat
  members : List Nat
  deriving DecidableEq, Repr

/-- A class 2 reservation of the system (R313): data home, reception entry, source, priority class of the source context,
Mb/s. -/
structure Resv where
  home : Nat
  entry : Nat
  source : Nat
  prio : Nat
  res : Nat
  deriving DecidableEq, Repr

/-- One MCAST entry (R310). -/
structure McastEntry where
  valid : Bool
  source : Nat
  context : Nat
  local' : Bool
  ports : Nat
  deriving DecidableEq, Repr

/-- What the system manager installs in a module (R308 to R310, R313): ROUTE entries (module, PRIMARY, FAILOVER), MCAST
entries, reservations outward by port, unicast subscribers by context, reception entries shed, and whether VC1 injection
is held. -/
structure RouteSet where
  routes : List (Nat × Nat × Nat)
  mcast : List (Nat × McastEntry)
  resOut : List Nat
  subs : List (Nat × List Nat)
  shed : List Nat
  hold : Bool
  deriving DecidableEq, Repr

/-- Geometry of a source context's slots (R131, R133): DEPTH10, MAXW, MAXH, TYPE and FORMAT. -/
structure SlotGeometry where
  tenBit : Bool
  maxW : Nat
  maxH : Nat
  type : Nat
  format : Nat
  deriving DecidableEq, Repr

/-- What the source module and the system manager answer about a remote source (R313, R317): the source context's decode
setup, its nominal rate, and of each link of both ways the reservations held and the limit, Mb/s. -/
structure RemoteSource where
  setup : Option SlotGeometry
  rateNum : Nat
  rateDen : Nat
  links : List (Nat × Nat)
  deriving DecidableEq, Repr

/-- An announcement (R302, R314), with its number at its module. -/
structure Announce where
  module : Nat
  uid : Nat
  x : Nat
  y : Nat
  prio : Nat
  manager : Nat
  num : Nat
  deriving DecidableEq, Repr

/-- What a port learns of its neighbour (R300, R301). -/
structure Neighbour where
  module : Nat
  x : Nat
  y : Nat
  clocking : Nat
  /-- Modules that the two parts of the system joined by the port hold together. -/
  joint : Nat
  deriving DecidableEq, Repr

/-- What a heartbeat says (R347). -/
structure Heartbeat where
  module : Nat
  state : Nat
  preferred : Bool
  claim : Bool
  inSync : Bool
  relinquish : Bool
  /-- Planned handover instant in quarters of a nanosecond of working time, 0 for none; only in an envelope. -/
  planned : Nat
  deriving DecidableEq, Repr

/-- A reception entry's parameters in force (R317, R351). -/
structure Reception where
  entry : Nat
  module : Nat
  context : Nat
  guaranteed : Bool
  geometry : SlotGeometry
  lease : Nat
  base : Nat
  res : Nat
  deriving DecidableEq, Repr

/-- A mirror record (R346, R351 to R354). -/
inductive MirrorItem where
  /-- A snapshot begins, and ends. -/
  | snapBegin
  | snapEnd
  /-- The state of a queue at a snapshot: Q_EXP_SEQ, SQ_HEAD, Q_DONE_SEQ, completion position and PHASE. -/
  | queuePos (q expSeq sqHead doneSeq cqTail : Nat) (phase : Bool)
  /-- Parameters in force of a context (0x0400) or decode setup (0x0600), as the PARAM that set them. -/
  | inForce (opcode : Nat) (param : List Byte)
  | reception (r : Reception)
  /-- An accepted command entry with its queue and SQ index. -/
  | accepted (q sqIndex : Nat) (entry : List Byte)
  /-- A parameter block that a command fetched from host memory, and its poisoned lines. -/
  | params (q seq : Nat) (bytes : List Byte) (poisoned : List Nat)
  /-- A commit took its snapshot. -/
  | marker (q seq : Nat)
  /-- A commit is READY for frame N. -/
  | ready (q seq n : Nat)
  /-- A command's outcome, with its short working time of completion. -/
  | outcome (q seq : Nat) (out : FwdOutcome) (ctime : Nat)
  /-- A completion, or a record, is written; the ring position and PHASE after it. -/
  | written (q seq cqTail : Nat) (phase : Bool)
  | recordWritten (entry : List Byte) (cqTail : Nat) (phase : Bool)
  /-- A host write of a mirrored register. -/
  | regWrite (off : Nat) (value : Word)
  /-- A commit of a group applied at frame N. -/
  | applied (group n : Nat)
  /-- A planned handover instant. -/
  | planned (h : Nat)
  /-- Time, servo and selector state: WT_STATUS, WT_RATE, PAENT_TIME_OFFSET, REFSEL_STATUS, the terms of WT_RATE and the
  rates of TB0 and TB1, and the qualified references. -/
  | times (ws : List Int)
  deriving DecidableEq, Repr

/-- What a unit answers over the mirror (R352 to R356). -/
inductive MirrorReply where
  /-- Every record up to number n is applied. -/
  | ack (n : Nat)
  /-- A command and its outcome, or a commit's READY, are confirmed. -/
  | confirm (q seq : Nat)
  /-- The standby is SYNCING again. -/
  | diverged
  | snapshotRequest
  /-- A revert request. -/
  | revert
  deriving DecidableEq, Repr

/-- What reading a DRAM line gives (R370). -/
inductive EccRead where
  | clean
  | corrected (device : Nat)
  | uncorrectable
  deriving DecidableEq, Repr


/-- An event as firmware or a block hands it to the recorder (R433, R434): KIND 0 to 4, source, bits 5:0 of its NUMBER, and its
parameters. -/
structure RecEvent where
  agent : Nat
  kind : Nat
  index : Nat
  p0 : Nat
  p1 : Nat
  p2 : Nat
  deriving DecidableEq, Repr

/-- What a loss of the logic interrupts (R465, R466): the write of a profile slot, of the selection record, or of a recorder
entry. -/
structure CutOff where
  slot : Option Nat
  sel : Bool
  entry : Bool
  deriving DecidableEq, Repr

/-- The commands of the block, one constructor for each row of the table of operations and events. -/
inductive Instr where
  /-- DOMAIN_CLOCK_LOST (R11): An edge domain's clock stops; its PRESENT bit falls, LOST is set, a recorder event is written and the domain's absence behaviour applies. -/
  | domainClockLost (t : Nat) (dom inst : Nat)
  /-- DOMAIN_CLOCK_PRESENT (R11): An edge domain's clock is detected and its PRESENT bit is set. -/
  | domainClockPresent (t : Nat) (dom inst : Nat)
  /-- WATCHDOG_EXPIRY (R17): A management core's 100 ms watchdog expires; the core and its agents restart from saved state and a CONTAINED event is written. -/
  | watchdogExpiry (t : Nat) (core : Nat)
  /-- MGMT_CORE_RESTART_DONE (R17): A restarting management core completes its restart and resumes its pending commits and commands. -/
  | mgmtCoreRestartDone (t : Nat) (core : Nat)
  /-- REGISTER_WRITE (R5): A host write to a register that has no row of its own takes effect by its access type, or is ignored or refused as its rules state. -/
  | registerWrite (t : Nat) (off size : Nat) (v : Word)
  /-- LOW_WORD_LATCH_READ (R4): A read of the low word of a multi-word register latches the high word and any companion registers. -/
  | lowWordLatchRead (t : Nat) (off size : Nat)
  /-- PCIE_CONFIG_REQUEST (R21): A PCI Express configuration request from the host is answered. -/
  | pcieConfigRequest (t : Nat) (r : CfgRequest)
  /-- BAR2_READ (R23): A host read through the BAR2 window is checked by the HOST checker and served from DRAM or refused. -/
  | bar2Read (t : Nat) (off len : Nat)
  /-- BAR2_WRITE (R23): A host posted write through the BAR2 window passes the HOST checker and the lease guard and is performed or dropped. -/
  | bar2Write (t : Nat) (off : Nat) (bytes : List Byte)
  /-- BAR2_OFFSET_WRITE (R23): A write of BAR2_OFFSET moves the BAR2 window, or is ignored when not a multiple of the BAR2 size. -/
  | bar2OffsetWrite (t : Nat) (v : Word)
  /-- HOST_READ_COMPLETION (R22): A completion for a module read of host memory arrives with data, refusal status or poisoned data. -/
  | hostReadCompletion (t : Nat) (q : Nat) (seq : Option Nat) (a : HostAnswer)
  /-- HOST_READ_TIMEOUT (R22): No completion arrives within 50 ms for a module read of host memory; the command fails TIMEOUT or the queue enters ERROR. -/
  | hostReadTimeout (t : Nat) (q : Nat) (seq : Option Nat)
  /-- HOST_WRITE_TIMEOUT (R22): A write to host memory could not be issued within 50 ms; the command fails TIMEOUT or R490 applies. -/
  | hostWriteTimeout (t : Nat) (w : HostWrite)
  /-- QUEUE_ENABLE (R27): Q_CTRL.ENABLE written 1 starts a queue, or puts it in ERROR (CONFIG), and writes held completions and records first. -/
  | queueEnable (t : Nat) (q : Nat) (v : Word)
  /-- QUEUE_DISABLE (R27): Q_CTRL.ENABLE written 0 stops fetching and starts draining, abandoning unstarted commands. -/
  | queueDisable (t : Nat) (q : Nat) (v : Word)
  /-- SQ_TAIL_DOORBELL (R27): A write of SQ_TAIL_DB sets a new submission tail and starts fetching, or sets BAD_DOORBELL. -/
  | sqTailDoorbell (t : Nat) (q : Nat) (v : Word)
  /-- CQ_HEAD_DOORBELL (R28): A write of CQ_HEAD_DB releases completion ring slots, and held completions are written as space frees. -/
  | cqHeadDoorbell (t : Nat) (q : Nat) (v : Word)
  /-- COMMAND_ENTRY_FETCHED (R30): A fetched submission entry is compared with Q_EXP_SEQ and accepted, consumed as a duplicate or refused with SEQ_ERROR. -/
  | commandEntryFetched (t : Nat) (q : Nat) (entry : List Byte)
  /-- COMMAND_START (R35): A waiting command whose predecessors have started and whose acquire fence is reached starts in its domain. -/
  | commandStart (t : Nat) (q seq : Nat)
  /-- COMMAND_DEADLINE (R35): A waiting command's deadline passes and it completes with DEADLINE. -/
  | commandDeadline (t : Nat) (q seq : Nat)
  /-- COMPLETION_WRITE (R28): The module writes a command completion in acceptance order, raises MSI-X as due and signals the release fence. -/
  | completionWrite (t : Nat) (q : Nat)
  /-- FENCE_WRITE (R34): A host write of FENCE_VAL advances a fence, or is ignored and recorded when backward. -/
  | fenceWrite (t : Nat) (f : Nat) (v : Word)
  /-- NOP (R33): The NOP command completes with RESULT 0. -/
  | nop (t : Nat) (q seq : Nat)
  /-- SYNC (R35): The SYNC command completes once every command accepted before it on any queue has completed. -/
  | sync (t : Nat) (q seq : Nat)
  /-- FENCE_SIGNAL (R34): The FENCE_SIGNAL command advances a fence to a later value. -/
  | fenceSignal (t : Nat) (q seq : Nat)
  /-- DMA_COPY (R36): The DMA_COPY command copies bytes between host and DRAM through the checkers and lease guard. -/
  | dmaCopy (t : Nat) (q seq : Nat)
  /-- DMA_FILL (R36): The DMA_FILL command fills a destination with a 32-bit pattern through the checkers and lease guard. -/
  | dmaFill (t : Nat) (q seq : Nat)
  /-- REG_READ_BLOCK (R37): The REG_READ_BLOCK command reads BAR0 registers in order into host memory. -/
  | regReadBlock (t : Nat) (q seq : Nat)
  /-- REG_WRITE_BATCH (R37): The REG_WRITE_BATCH command applies offset-value pairs in order and stops at the first failure. -/
  | regWriteBatch (t : Nat) (q seq : Nat)
  /-- FORWARDED_COMMAND_RECEIVED (R32): An owner module receives a forwarded command over class 3 and executes it once or returns its recorded outcome. -/
  | forwardedCommandReceived (t : Nat) (origin oq : Nat) (entry : List Byte)
  /-- FORWARDED_OUTCOME (R32): The outcome of a forwarded command returns to the submitting module and completes the local command. -/
  | forwardedOutcome (t : Nat) (q seq : Nat) (o : FwdOutcome)
  /-- FORWARD_TIMEOUT (R32): A forwarded command's outcome does not return within FWD_TIMEOUT and it completes OWNER_UNREACHABLE. -/
  | forwardTimeout (t : Nat) (q seq : Nat)
  /-- BOOT_START (R63): At M, the later of MRST_N rising and power good, the boot ROM starts and PROFSEL and PREFERRED are sampled. -/
  | bootStart (t : Nat) (profsel : Nat) (preferred : Bool)
  /-- BOOT_FIRMWARE_LOADED (R63): Firmware copy A or B is read and verified, or the module enters HALTED. -/
  | bootFirmwareLoaded (t : Nat) (okA okB : Bool)
  /-- BOOT_IMAGE_VALIDATED (R56): The boot-slot image is read and validated, leading to CONFIGURE or MAINTENANCE. -/
  | bootImageValidated (t : Nat)
  /-- BOOT_MEMORY_TRAINED (R361): DRAM training, spare poisoning and frame-store BIST complete and the TIME phase starts, or boot stops with MEMORY_FAIL. -/
  | bootMemoryTrained (t : Nat) (badRanks : List Nat) (repairs : List (Nat × Nat))
  /-- OCXO_STEADY (R63): The OCXO runs steadily and CD-HOUSE moves to it. -/
  | ocxoSteady (t : Nat)
  /-- OCXO_READY (R484): OCXO warm-up completes and OCXO_READY is set. -/
  | ocxoReady (t : Nat)
  /-- BOOT_OUTPUTS (R63): After the initial step, DisplayPort links train, heads start at their first B(N), and RUNNING follows. -/
  | bootOutputs (t : Nat)
  /-- IMAGE_CHECK (R66): The IMAGE_CHECK command validates an image in host memory without storing it. -/
  | imageCheck (t : Nat) (q seq : Nat)
  /-- IMAGE_WRITE (R66): The IMAGE_WRITE command validates an image and writes it into a profile slot with its validity marker. -/
  | imageWrite (t : Nat) (q seq : Nat) (flashOk : Bool)
  /-- SLOT_ERASE (R66): The SLOT_ERASE command erases a profile slot other than the one in force. -/
  | slotErase (t : Nat) (q seq : Nat) (flashOk : Bool)
  /-- SLOT_CHOOSE (R41): The SLOT_CHOOSE command writes a copy of the selection record naming a slot. -/
  | slotChoose (t : Nat) (q seq : Nat) (flashOk : Bool)
  /-- PROFILE_SWITCH (R67): The PROFILE_SWITCH command validates a target slot, abandons pending commits, blanks heads and restarts the compose fabric under the new image. -/
  | profileSwitch (t : Nat) (q seq : Nat)
  /-- FABRIC_RESTART_DONE (R67): The compose fabric restart of a profile switch or fault restart ends and heads resume at a B(N) of their grid. -/
  | fabricRestartDone (t : Nat)
  /-- LIFECYCLE_SEAL (R59): The LIFECYCLE_SEAL command fuses key hashes and moves the module irreversibly to SEALED. -/
  | lifecycleSeal (t : Nat) (q seq : Nat)
  /-- WT_UNSET_TIMEOUT (R64): M + 30 s passes with no domain qualified and working time starts from TB2 in NO_PTP. -/
  | wtUnsetTimeout (t : Nat)
  /-- PTP_MESSAGE_RECEIVED (R78): A PTP message for TB0 or TB1 is received and processed by the port and servo. -/
  | ptpMessageReceived (t : Nat) (dom port : Nat) (m : PtpMessage)
  /-- PTP_RECEIPT_TIMEOUT (R75): An announce-receipt or sync-receipt timeout expires on a PTP port. -/
  | ptpReceiptTimeout (t : Nat) (dom : Nat)
  /-- HOLDOVER_TRUST_EXPIRY (R84): NO_PTP has lasted HOLDOVER_TRUST; TRUST_EXPIRED is set and CAPTURE-SYNCED postmarks are downgraded. -/
  | holdoverTrustExpiry (t : Nat)
  /-- WT_FOLLOW (R91): The WT_FOLLOW command switches working time to another qualified domain without a step. -/
  | wtFollow (t : Nat) (q seq : Nat)
  /-- PTP_PORTS (R91): The PTP_PORTS command sets the ports, transport, step mode and VLAN of a domain. -/
  | ptpPorts (t : Nat) (q seq : Nat)
  /-- TIME_SNAP (R86): A write of TIME_SNAP.SNAP latches working time and TB0-TB3 at one edge and sets DONE. -/
  | timeSnap (t : Nat) (v : Word)
  /-- TB3_APPLY (R87): A write of TB3_APPLY sets TB3 from the staged value, or is ignored when the nanoseconds are out of range. -/
  | tb3Apply (t : Nat) (v : Word)
  /-- TB3_RATE_ADJ_WRITE (R87): A write of TB3_RATE_ADJ sets TB3's rate from the next edge, or is ignored beyond ±32,767 ppb. -/
  | tb3RateAdjWrite (t : Nat) (v : Word)
  /-- PPS_CTRL_WRITE (R90): A write of PPS_CTRL.ENABLE starts or stops PPS_OUT pulses, a running pulse completing. -/
  | ppsCtrlWrite (t : Nat) (v : Word)
  /-- PPS_OUT_RISE (R90): At each whole second of working time PPS_OUT rises. -/
  | ppsOutRise (t : Nat)
  /-- PPS_OUT_FALL (R90): PPS_OUT falls 100 ms after it rose. -/
  | ppsOutFall (t : Nat)
  /-- ETH_FRAME_RECEIVED (R109): An Ethernet frame is received and stamped, passed to firmware, matched against the flow table or dropped. -/
  | ethFrameReceived (t : Nat) (port size : Nat) (f : EthFrame)
  /-- LAUNCH_FRAME_SUBMIT (R80): A launch-timed frame is queued at the MAC, or dropped with LAUNCH_FAR. -/
  | launchFrameSubmit (t : Nat) (p at48 : Nat) (bytes : List Byte) (gated : Bool)
  /-- LAUNCH_TIME_REACHED (R80): Working time reaches a queued frame's launch time and the frame leaves the MAC, or is dropped late or gated. -/
  | launchTimeReached (t : Nat) (p : Nat)
  /-- TRIG_APPLY (R88): A write of TRIG_CTRL with APPLY arms, replaces or disarms a trigger unit's schedule. -/
  | trigApply (t : Nat) (u : Nat) (v : Word)
  /-- TRIGGER_EVENT (R88): A trigger unit fires at its scheduled working-time instant and starts its pulse and consumers. -/
  | triggerEvent (t : Nat) (u : Nat)
  /-- TRIGGER_PULSE_END (R88): A trigger pulse on a GPIO line ends after its width. -/
  | triggerPulseEnd (t : Nat) (u : Nat)
  /-- CAPTURE_EDGE (R89): An edge on a capture source is stamped into the unit's FIFO, or lost with OVERRUN. -/
  | captureEdge (t : Nat) (u : Nat) (fall : Bool)
  /-- CAP_TIME_LO_READ (R89): A read of CAP_TIME_LO returns and removes the oldest capture entry and latches its upper bits. -/
  | capTimeLoRead (t : Nat) (u : Nat)
  /-- REF_ACTIVITY_LOST (R94): A reference's activity monitor trips and the reference is disqualified at once. -/
  | refActivityLost (t : Nat) (r : Nat)
  /-- REF_FREQ_GATE (R94): A 1 s frequency gate ends; the reference's mean and drift are updated and qualification judged. -/
  | refFreqGate (t : Nat) (r : Nat) (gate : Int)
  /-- REF_WTR_EXPIRY (R95): A reference's wait-to-restore completes and it becomes qualified. -/
  | refWtrExpiry (t : Nat) (r : Nat)
  /-- PULL_COMPLETE (R100): The remaining pull error reaches 0 and the selector becomes LOCKED. -/
  | pullComplete (t : Nat)
  /-- HOLDOVER_READY_TIMER (R99): The selector has been LOCKED for 60 s with warm-up complete and HOLDOVER_READY is set. -/
  | holdoverReadyTimer (t : Nat)
  /-- OCXO_LOST (R96): The OCXO is absent; MON_BASIS clears and monitors hold their values. -/
  | ocxoLost (t : Nat)
  /-- OCXO_RETURN (R96): The OCXO returns and every monitor restarts its gates. -/
  | ocxoReturn (t : Nat)
  /-- REFSEL_APPLY (R105): A write of REFSEL_CTRL with APPLY sets force, bandwidth and pull slope, or is ignored with BAD_CONFIG. -/
  | refselApply (t : Nat) (v : Word)
  /-- REF_CFG_APPLY (R105): A write of REF_CFG with APPLY sets a reference's configuration and limits, or is ignored with BAD_CONFIG. -/
  | refCfgApply (t : Nat) (r : Nat) (v : Word)
  /-- ETH_CTRL_WRITE (R108): A write of ETH_CTRL enables or disables a port and sets its rate, FEC and frame size. -/
  | ethCtrlWrite (t : Nat) (p : Nat) (v : Word)
  /-- ETH_LINK_LOST (R108): An enabled Ethernet port loses block lock or receive clock; LINK_LOST is set and an event written. -/
  | ethLinkLost (t : Nat) (p : Nat)
  /-- ETH_LINK_UP (R108): An Ethernet port achieves block lock with its receive clock and LINK rises. -/
  | ethLinkUp (t : Nat) (p : Nat)
  /-- FLOW_APPLY (R110): A write of FLOW_CTRL with APPLY puts a staged flow entry in force. -/
  | flowApply (t : Nat) (n : Nat) (v : Word)
  /-- FRAME_HOLD_EXPIRY (R113): An open frame's hold time expires and the frame closes. -/
  | frameHoldExpiry (t : Nat) (c ts : Nat)
  /-- ASSEMBLY_TIMEOUT (R116): A frame has not closed by its frame-assembly timeout; it is discarded and the context enters RESYNC. -/
  | assemblyTimeout (t : Nat) (c ts : Nat)
  /-- LEG_INACTIVE (R122): A DUAL leg has delivered no packet for 100 ms; its ACTIVE bit clears and a path alarm is recorded. -/
  | legInactive (t : Nat) (c leg : Nat)
  /-- STREAM_OPEN (R125): The STREAM_OPEN command validates and admits a stream context, or rejects or dead-letters it. -/
  | streamOpen (t : Nat) (q seq : Nat)
  /-- STREAM_CLOSE (R127): The STREAM_CLOSE command closes a context and clears OUT and REF. -/
  | streamClose (t : Nat) (q seq : Nat)
  /-- MCAST_JOIN (R127): The MCAST_JOIN command adds a multicast membership on the named ports. -/
  | mcastJoin (t : Nat) (q seq : Nat)
  /-- MCAST_LEAVE (R127): The MCAST_LEAVE command removes a multicast membership on the named ports. -/
  | mcastLeave (t : Nat) (q seq : Nat)
  /-- DECODE_START (R136): A free decode engine takes the next queued frame by service order and restores its context. -/
  | decodeStart (t : Nat) (e : Nat)
  /-- DECODE_COMPLETE (R134): A decode or assembly of a picture completes; OUT moves, marks and FROZEN hash are set. -/
  | decodeComplete (t : Nat) (e : Nat) (r : DecodeResult)
  /-- DECODE_NO_SLOT_TIMEOUT (R135): A frame has waited one frame interval for a FREE slot; it is discarded and the context reset. -/
  | decodeNoSlotTimeout (t : Nat) (c : Nat)
  /-- DECODE_ENGINE_TIMEOUT (R138): A decode engine does not complete a frame in 100 ms and is taken out of service. -/
  | decodeEngineTimeout (t : Nat) (e : Nat)
  /-- DECODE_ENGINE_PARITY (R138): A decode engine reports a parity error and is taken out of service; GUARANTEED contexts may be shed. -/
  | decodeEngineParity (t : Nat) (e : Nat)
  /-- DECODE_WINDOW_END (R141): A 100 ms decode window ends; best-effort contexts are delayed, degraded, shed or restored. -/
  | decodeWindowEnd (t : Nat)
  /-- DECODE_SETUP (R148): The DECODE_SETUP command fixes a context's pool and decode limits. -/
  | decodeSetup (t : Nat) (q seq : Nat)
  /-- DECODE_RESET (R148): The DECODE_RESET command resets a decode context. -/
  | decodeReset (t : Nat) (q seq : Nat)
  /-- COMMIT (R165): The COMMIT command queues a commit of a head group's shadows. -/
  | commit (t : Nat) (q seq : Nat)
  /-- CANVAS_COMMIT (R163): The CANVAS_COMMIT command forwards a canvas commit to the system manager after its fence. -/
  | canvasCommit (t : Nat) (q seq : Nat)
  /-- CANVAS_JOIN (R165): The CANVAS_JOIN command sets which groups belong to a canvas. -/
  | canvasJoin (t : Nat) (q seq : Nat) (others : List CanvasMember)
  /-- COMMIT_VALIDATE (R158): A commit first in its order with its fence reached writes its updates, takes a snapshot and validates. -/
  | commitValidate (t : Nat) (q seq : Nat)
  /-- COMMIT_VALIDATION_DONE (R155): Validation of a commit ends; it fails, completes DEADLINE, or becomes READY for frame N. -/
  | commitValidationDone (t : Nat) (q seq : Nat)
  /-- HEAD_FRAME_BOUNDARY (R155): At a head's B(N), READY commits apply, leases are taken, sheds and head settings take effect and line 0 is released. -/
  | headFrameBoundary (t : Nat) (h n : Nat)
  /-- HEAD_FRAME_START (R162): At S(N, 0) presentation records fall due, late-line events are written, canvas holds end and writeback takes a buffer. -/
  | headFrameStart (t : Nat) (h n : Nat)
  /-- LEASE_END (R161): The last line of frame N-1 reading a removed range is composed or abandoned; the lease ends and a release record is written. -/
  | leaseEnd (t : Nat) (entry : Nat)
  /-- CANVAS_PREPARE (R163): A member module receives PREPARE, validates its update entries and answers ACCEPT or its reason. -/
  | canvasPrepare (t : Nat) (p : CanvasPrepare)
  /-- CANVAS_ACCEPT (R163): The system manager receives a member's answer and, at the last ACCEPT, sends APPLY(N) or DROP. -/
  | canvasAccept (t : Nat) (q seq module lead : Nat) (o : FwdOutcome)
  /-- CANVAS_APPLY (R163): A member receives APPLY(N) and applies at BG(N), or late with SPAN_LATE. -/
  | canvasApply (t : Nat) (q seq n ta : Nat)
  /-- CANVAS_DROP (R163): A member receives DROP and abandons the canvas commit. -/
  | canvasDrop (t : Nat) (q seq : Nat)
  /-- CANVAS_APPLIED_REPORT (R163): The system manager receives a member's APPLIED report and at the last report completes the commit. -/
  | canvasAppliedReport (t : Nat) (q seq module layers : Nat) (late : Bool)
  /-- CANVAS_MEMBER_TIMEOUT (R164): A member does not answer within 100 ms of PREPARE; DROP is sent and the commit is REJECTED. -/
  | canvasMemberTimeout (t : Nat) (q seq module : Nat)
  /-- CANVAS_READY_TIMEOUT (R164): A member holds READY without APPLY for 1 s and abandons the commit locally. -/
  | canvasReadyTimeout (t : Nat) (q seq : Nat)
  /-- CANVAS_REPORT_TIMEOUT (R164): A member's report is missing 1 s after its BG(N) and the commit completes with SPAN_INCOMPLETE. -/
  | canvasReportTimeout (t : Nat) (q seq module : Nat)
  /-- CANVAS_TRANSIT (R209): The CANVAS_TRANSIT command records a canvas transit allowance at the system manager. -/
  | canvasTransit (t : Nat) (q seq : Nat)
  /-- SCALER_PARITY_ERROR (R183): A scaler reports a parity error, is taken out of service and its layer is shed. -/
  | scalerParityError (t : Nat) (sc : Nat)
  /-- HEAD_OUT_FMT_WRITE (R187): A write of HEAD_OUT_FMT stages an output format, or is ignored as a whole for invalid codes. -/
  | headOutFmtWrite (t : Nat) (h : Nat) (v : Word)
  /-- LINE_RELEASE (R190): At C(N, L) a line is handed to the group's compose engines, reduced if the margin is low. -/
  | lineRelease (t : Nat) (h n line : Nat)
  /-- LINE_COMPOSED (R193): An engine finishes composing a line and writes its stamp with COMPLETE set. -/
  | lineComposed (t : Nat) (h n line : Nat)
  /-- LINE_READ (R194): At Rd(N, L) the scan-out checks the line's stamp, reads it or abandons it as late, and feeds tasters and writeback. -/
  | lineRead (t : Nat) (h n line : Nat) (ecc : Bool)
  /-- GOVERNOR_WINDOW (R206): A 1 ms governor window ends and the supply code is raised, lowered or held, and layers may be shed. -/
  | governorWindow (t : Nat) (hottest : Int)
  /-- HPD_RISE (R216): HPD rises on a DisplayPort port; capabilities are read and training starts. -/
  | hpdRise (t : Nat) (p : Nat) (caps : Option SinkCaps)
  /-- HPD_IRQ (R216): An HPD pulse of 0.25-2 ms is an IRQ that starts or restarts training. -/
  | hpdIrq (t : Nat) (p : Nat) (lost : Bool) (caps : Option SinkCaps)
  /-- HPD_UNPLUG (R216): HPD is low for more than 2 ms; training aborts or the stream stops and heads become NOSINK. -/
  | hpdUnplug (t : Nat) (p : Nat)
  /-- TRAINING_CONFIG_DONE (R215): A DisplayPort link configuration passes or fails, ending training or trying the next configuration. -/
  | trainingConfigDone (t : Nat) (p : Nat) (pass : Bool)
  /-- TRAINING_CONFIG_TIMEOUT (R215): A DisplayPort configuration has not passed within 100 ms and fails. -/
  | trainingConfigTimeout (t : Nat) (p : Nat)
  /-- TRAIN_RETRY_TIMER (R217): The TRAIN_FAIL backoff expires and training is retried. -/
  | trainRetryTimer (t : Nat) (p : Nat) (caps : Option SinkCaps)
  /-- DP_PORT_CLOCK_LOST (R216): A DisplayPort port's CD-DISP clock is absent and its heads become NOSINK (PORT_DOWN). -/
  | dpPortClockLost (t : Nat) (p : Nat)
  /-- DP_PORT_CLOCK_RETURN (R216): A DisplayPort port's CD-DISP clock returns and training starts when HPD is high. -/
  | dpPortClockReturn (t : Nat) (p : Nat) (caps : Option SinkCaps)
  /-- MODE_CHANGE_BOUNDARY (R221): At the mode-change boundary the stream stops, idle is sent and stamps are cleared. -/
  | modeChangeBoundary (t : Nat) (h : Nat)
  /-- MODE_CHANGE_LINK_READY (R221): The link is ready after a mode change and the head resumes at the next B(N') of the new grid. -/
  | modeChangeLinkReady (t : Nat) (h : Nat)
  /-- DP_CTRL_APPLY (R229): A write of DP_CTRL with APPLY sets link limits and retrains from the top of the order. -/
  | dpCtrlApply (t : Nat) (p : Nat) (v : Word) (caps : Option SinkCaps)
  /-- DP_AUX (R230): The DP_AUX command performs a native or I2C-over-AUX transaction. -/
  | dpAux (t : Nat) (q seq : Nat) (reply : AuxReply)
  /-- DP_RETRAIN (R230): The DP_RETRAIN command retrains a DisplayPort port. -/
  | dpRetrain (t : Nat) (q seq : Nat) (caps : Option SinkCaps)
  /-- TASTER_COMPARE (R243): A taster's signature completes and is compared; MISMATCH may set or clear. -/
  | tasterCompare (t : Nat) (k n : Nat)
  /-- SSP_READ (R252): The safety controller reads a status word from the current bank within one bus cycle. -/
  | sspRead (t : Nat) (a : Nat)
  /-- IMAGE_TICK_ADVANCE (R253): The compose agent advances IMAGE_TICK and IMAGE_CURRENT is set again. -/
  | imageTickAdvance (t : Nat)
  /-- IMAGE_TICK_TIMEOUT (R253): IMAGE_TICK has not advanced for 1 ms; IMAGE_CURRENT clears and the IMAGE cause is set. -/
  | imageTickTimeout (t : Nat)
  /-- ENCODE_OPEN (R273): The ENCODE_OPEN command validates and admits an encode context on an engine. -/
  | encodeOpen (t : Nat) (q seq : Nat)
  /-- ENCODE_CLOSE (R273): The ENCODE_CLOSE command closes an encode context. -/
  | encodeClose (t : Nat) (q seq : Nat)
  /-- ENCODE_REFRESH (R273): The ENCODE_REFRESH command forces an IDR or a new refresh cycle. -/
  | encodeRefresh (t : Nat) (q seq : Nat)
  /-- ENCODE_ROW_READY (R259): A coding row's last line is written back; it becomes ready, and unbegun rows of the previous frame are skip-coded. -/
  | encodeRowReady (t : Nat) (c n row : Nat) (skips : List (List Byte))
  /-- ENCODE_ROW_CODED (R260): An engine completes a row's slice, writes it to the ring and hands it to the MAC. -/
  | encodeRowCoded (t : Nat) (e : Nat) (r : EncRow)
  /-- ENCODE_ENGINE_TIMEOUT (R262): An encode engine does not finish a row within 10 ms and is taken out of service. -/
  | encodeEngineTimeout (t : Nat) (e : Nat)
  /-- ENCODE_ENGINE_PARITY (R262): An encode engine reports a parity error; its contexts move or are shed. -/
  | encodeEngineParity (t : Nat) (e : Nat)
  /-- TOUCH_SCAN_START (R275): A full touch scan starts at its 240 Hz grid instant. -/
  | touchScanStart (t : Nat) (p : Nat)
  /-- TOUCH_SCAN_PROCESSED (R276): The core finishes processing a scan: baseline, peaks, tracking and timeouts. -/
  | touchScanProcessed (t : Nat) (p : Nat) (raw : List (List Nat))
  /-- TOUCH_SCAN_RELEASE (R275): At its release instant a scan's result becomes the port state in force, or is discarded as late. -/
  | touchScanRelease (t : Nat) (p : Nat)
  /-- TOUCH_SIMMER_SCAN (R281): An 8 Hz simmer scan runs and may wake the port to FULL. -/
  | touchSimmerScan (t : Nat) (p : Nat) (sums : List Nat)
  /-- TOUCH_PORT_ENABLE (R278): TCH_CTRL.ENABLE written 1 starts a port in BASELINE. -/
  | touchPortEnable (t : Nat) (p : Nat) (v : Word)
  /-- TOUCH_PORT_DISABLE (R286): TCH_CTRL.ENABLE written 0 ends the port's entries and its ECHO layers become NOSOURCE. -/
  | touchPortDisable (t : Nat) (p : Nat) (v : Word)
  /-- TOUCH_APPLY (R286): TCH_CTRL.APPLY applies the staged touch settings, or is ignored with BAD_CONFIG. -/
  | touchApply (t : Nat) (p : Nat) (v : Word)
  /-- ADC_SEQUENCE_DONE (R288): A converter sequence completes and the channel results are stored. -/
  | adcSequenceDone (t : Nat) (samples : List (List Int))
  /-- ADC_APPLY (R289): ADC_CTRL.APPLY applies converter settings, or is ignored with BAD_CONFIG. -/
  | adcApply (t : Nat) (v : Word)
  /-- GPIO_INPUT_CHANGE (R290): A GPIO input line changes level and debouncing starts. -/
  | gpioInputChange (t : Nat) (n : Nat) (level : Bool)
  /-- GPIO_DEBOUNCE_EXPIRY (R290): A new GPIO input level has been stable for the debounce time and is accepted. -/
  | gpioDebounceExpiry (t : Nat) (n : Nat)
  /-- GPIO_OUT_WRITE (R290): A write of GPIO_OUT drives output lines within 1 µs. -/
  | gpioOutWrite (t : Nat) (v : Word)
  /-- COMMAND_FRAME_BUILT (R292): A command frame is built and handed to the MACs for launch. -/
  | commandFrameBuilt (t : Nat) (c : Nat)
  /-- CC_SETUP (R297): The CC_SETUP command sets up and starts a control cycle on its trigger unit. -/
  | ccSetup (t : Nat) (q seq : Nat)
  /-- CC_STOP (R297): The CC_STOP command stops a control cycle and releases its trigger unit. -/
  | ccStop (t : Nat) (q seq : Nat)
  /-- TOUCH_REBASE (R297): The TOUCH_REBASE command re-baselines every node at the next full scan. -/
  | touchRebase (t : Nat) (q seq : Nat)
  /-- PAENT_ID_WRITE (R299): A write of PAENT_ID sets the module ID and coordinates, or is ignored while a port is in service. -/
  | paentIdWrite (t : Nat) (v : Word)
  /-- FLIT_RECEIVED (R305): A flit is received, checked, accepted or discarded with NAK, and credits and ACKs are taken. -/
  | flitReceived (t : Nat) (p : Nat) (flit : List Byte)
  /-- REPLAY_TIMEOUT (R305): ACK has not advanced for 20 µs and the transmitter resends, retraining after 8 resends. -/
  | replayTimeout (t : Nat) (p : Nat)
  /-- ENVELOPE_RECEIVED (R304): A whole envelope is received and forwarded, delivered locally or dropped. -/
  | envelopeReceived (t : Nat) (p : Nat)
  /-- ROUTE_RECOMPUTE (R309): The system manager recomputes routes and multicast trees and sheds reservations that no longer fit. -/
  | routeRecompute (t : Nat) (ls : List PaentLink) (groups : List McastGroup) (resv : List Resv)
  /-- ROUTE_INSTALL (R308): A module receives and installs ROUTE and MCAST entries from the system manager. -/
  | routeInstall (t : Nat) (r : RouteSet)
  /-- VC1_HOLD_TIMEOUT (R309): VC1 injection hold for a new FAILOVER set ends at confirmation or after 10 ms. -/
  | vc1HoldTimeout (t : Nat) (confirmed : Bool)
  /-- PICTURE_ENVELOPE (R312): A data home receives a PICTURE envelope into its reception pool, completing the picture at LAST. -/
  | pictureEnvelope (t : Nat)
  /-- ANNOUNCE_TIMER (R314): Every 100 ms a module floods an ANNOUNCE. -/
  | announceTimer (t : Nat)
  /-- ANNOUNCE_RECEIVED (R314): A module receives an ANNOUNCE, forwards the first copy, updates the directory and checks for ID conflict. -/
  | announceReceived (t : Nat) (p : Nat) (a : Announce)
  /-- ELECTION_TIMER (R314): A module has been the best candidate heard for 500 ms and becomes system manager. -/
  | electionTimer (t : Nat)
  /-- MANAGER_SILENCE_TIMEOUT (R314): The manager's announcements stop for 500 ms and a new election starts. -/
  | managerSilenceTimeout (t : Nat)
  /-- TIME_EXCHANGE_TIMER (R315): Every 1 ms a port sends a TIME envelope to its neighbour. -/
  | timeExchangeTimer (t : Nat) (p : Nat)
  /-- TIME_ENVELOPE_RECEIVED (R315): A TIME envelope is received and delay and offset are updated. -/
  | timeEnvelopeReceived (t : Nat) (p : Nat) (t1 t2 t3 t4 : Int)
  /-- TIME_OFFSET_REPORT (R316): A module reports its offsets every 100 ms and the manager updates time lock. -/
  | timeOffsetReport (t : Nat) (rs : List (Nat × Option Int))
  /-- REMOTE_SETUP (R317): The REMOTE_SETUP command creates a reception entry and pool for a remote source, or rejects or dead-letters it. -/
  | remoteSetup (t : Nat) (q seq : Nat) (src : RemoteSource)
  /-- REMOTE_CLEAR (R317): The REMOTE_CLEAR command removes a reception entry and its reservation. -/
  | remoteClear (t : Nat) (q seq : Nat)
  /-- PAENT_ATTEMPT_START (R330): A Paent port starts a training attempt. -/
  | paentAttemptStart (t : Nat) (p : Nat)
  /-- PAENT_SWEEP_DONE (R331): The peaking sweep ends and each lane takes its setting or fails NO_WINDOW. -/
  | paentSweepDone (t : Nat) (p : Nat) (masks : List Nat)
  /-- PAENT_ALIGN_DONE (R332): The bit-slip alignment search ends, failing lanes with NO_MARKER, and deskew follows. -/
  | paentAlignDone (t : Nat) (p : Nat) (found : List (Nat × Nat × Nat))
  /-- LANE_SLIP (R332): A write of LN_CTRL.SLIP moves a lane's deserialiser one bit later and clears MATCH. -/
  | laneSlip (t : Nat) (p l : Nat) (v : Word)
  /-- PAENT_TRAINING_FRAME (R324): A training frame is received, carrying ALIGNED, PASS, READY or GO. -/
  | paentTrainingFrame (t : Nat) (p l : Nat) (region : List Bool)
  /-- PAENT_GO_RECEIVED (R330): GO has been sent and received; lane maps are in force and the port is UP. -/
  | paentGoReceived (t : Nat) (p : Nat) (n : Neighbour)
  /-- PAENT_STEP_TIMEOUT (R330): A training step exceeds 10 ms and the attempt fails to ABSENT or WAIT. -/
  | paentStepTimeout (t : Nat) (p : Nat)
  /-- PAENT_ATTEMPT_TIMEOUT (R330): A training attempt exceeds 200 ms and fails. -/
  | paentAttemptTimeout (t : Nat) (p : Nat)
  /-- PAENT_RETRY_TIMER (R329): The backoff of an ABSENT or WAIT port expires and an attempt starts. -/
  | paentRetryTimer (t : Nat) (p : Nat)
  /-- LANE_LOS (R328): A lane's loss-of-signal detector sets or clears. -/
  | laneLos (t : Nat) (p l : Nat) (set : Bool)
  /-- LANE_LOL (R328): A lane's loss-of-lock detector sets or clears. -/
  | laneLol (t : Nat) (p l : Nat) (set : Bool)
  /-- LANE_LOA (R328): A lane's marker is missing in 4 consecutive frames and loss of alignment is set. -/
  | laneLoa (t : Nat) (p l n : Nat)
  /-- PAENT_RETRAIN (R337): A write of PLN_CTRL.RETRAIN starts an attempt, ends sleeps and restarts the backoff. -/
  | paentRetrain (t : Nat) (p : Nat) (v : Word)
  /-- PAENT_HOLD (R339): A write of PLN_CTRL.HOLD takes the port out of routing or wakes it and returns it to routing. -/
  | paentHold (t : Nat) (p : Nat) (v : Word)
  /-- PAENT_TX_SLEEP (R338): TX_SLEEP written 1 sends SLEEP training frames and stops the transmitter. -/
  | paentTxSleep (t : Nat) (p : Nat) (v : Word)
  /-- PAENT_TX_WAKE (R339): TX_SLEEP written 0 powers the transmitter, sends training frames for 200 µs, then GO and data. -/
  | paentTxWake (t : Nat) (p : Nat) (v : Word)
  /-- PAENT_RX_SLEEP (R338): RX_SLEEP written 1 powers down the receiver. -/
  | paentRxSleep (t : Nat) (p : Nat) (v : Word)
  /-- PAENT_RX_WAKE (R339): RX_SLEEP written 0 powers up the receiver and realigns it on the running stream. -/
  | paentRxWake (t : Nat) (p : Nat) (v : Word)
  /-- PAENT_WAKE_TIMEOUT (R339): A woken direction is still not aligned after 10 ms and the port retrains. -/
  | paentWakeTimeout (t : Nat) (p : Nat)
  /-- HEARTBEAT_SEND (R347): The pair block sends a HEARTBEAT envelope every 500 µs and a wire frame every 100 µs. -/
  | heartbeatSend (t : Nat) (wire : Bool)
  /-- HEARTBEAT_RECEIVED (R347): A HEARTBEAT envelope from the partner is received and its state taken. -/
  | heartbeatReceived (t : Nat) (b : Heartbeat)
  /-- HEARTBEAT_WIRE_FRAME (R348): A Manchester heartbeat frame is received, or discarded for a bad CRC. -/
  | heartbeatWireFrame (t : Nat) (frame : List Byte)
  /-- HEARTBEAT_PATH_SILENT (R349): A heartbeat path is silent for DETECT; a path alarm or PARTNER_LOST is set. -/
  | heartbeatPathSilent (t : Nat) (wire : Bool)
  /-- PAIR_SEEK_TIMEOUT (R341): A SEEKING unit hears no partner for 100 ms and claims or sets PARTNER_HOLDS. -/
  | pairSeekTimeout (t : Nat)
  /-- PAIR_HANDOVER_INSTANT (R346): At a handover instant a unit releases or starts its claim, taking over with re-baseline and rewritten completions. -/
  | pairHandoverInstant (t : Nat)
  /-- INTERLOCK_LEVEL_CHANGE (R342): The interlock line classifies to a new level; OWNS follows and contention is handled. -/
  | interlockLevelChange (t : Nat) (il1 il2 : Nat)
  /-- CONTENTION_TIMEOUT (R344): TWO persists for 10 ms at a PREFERRED claimer, which withdraws into FAULT. -/
  | contentionTimeout (t : Nat)
  /-- HANDOVER_RETRY_TIMEOUT (R346): A claimer has found the line held for 10 ms of handover instants and enters FAULT. -/
  | handoverRetryTimeout (t : Nat)
  /-- INTERLOCK_FAULT (R357): An interlock fault condition holds for its time and the unit enters FAULT. -/
  | interlockFault (t : Nat)
  /-- MIRROR_RECORD (R352): The standby receives and applies a mirror record in order, and may become STANDBY or diverge. -/
  | mirrorRecord (t : Nat) (n : Nat) (item : MirrorItem)
  /-- MIRROR_CONFIRMATION (R353): The active unit receives the standby's confirmation and writes the awaiting completion. -/
  | mirrorConfirmation (t : Nat) (r : MirrorReply)
  /-- MIRROR_GAP_TIMEOUT (R429): A mirror gap is not filled within 1 ms and the standby returns to SYNCING. -/
  | mirrorGapTimeout (t : Nat)
  /-- PAIR_WTR_EXPIRY (R356): A PREFERRED standby's wait-to-restore ends and it sends a revert request. -/
  | pairWtrExpiry (t : Nat)
  /-- PAIR_APPLY (R359): PAIR_CTRL.APPLY applies PAIR_CTRL and PAIR_TIMING, or is ignored with BAD_CONFIG. -/
  | pairApply (t : Nat) (v : Word)
  /-- PAIR_SWITCHOVER (R346): PAIR_CMD.SWITCHOVER starts a planned handover to the partner. -/
  | pairSwitchover (t : Nat) (v : Word)
  /-- PAIR_TAKEOVER (R350): PAIR_CMD.TAKEOVER, with FORCE where needed, takes over at the next handover instant. -/
  | pairTakeover (t : Nat) (v : Word)
  /-- PAIR_CLEAR (R341): PAIR_CMD.CLEAR leaves FAULT for SEEKING. -/
  | pairClear (t : Nat) (v : Word)
  /-- DRAM_READ_ERROR (R370): A DRAM read is corrected or uncorrectable, and an uncorrectable read takes the rank out of service. -/
  | dramReadError (t : Nat) (line rank : Nat) (r : EccRead)
  /-- DRAM_WCRC_ALERT (R372): A DRAM write-CRC alert occurs and the write is retried, the rank leaving service after 4 retries. -/
  | dramWcrcAlert (t : Nat) (ch rank retry : Nat)
  /-- MIGRATION_COPY_LINE (R373): The migration copies the next line from source to target. -/
  | migrationCopyLine (t : Nat) (r : EccRead)
  /-- MIGRATION_DONE (R375): The last line is copied; the target goes into service and the source is retired. -/
  | migrationDone (t : Nat)
  /-- DRAM_REFRESH (R365): A same-bank refresh falls due. -/
  | dramRefresh (t : Nat) (ch rank bank : Nat) (postponed : Bool)
  /-- DRAM_TEMP_READ (R365): Every 16 ms device temperatures are read and the refresh rate set. -/
  | dramTempRead (t : Nat) (ch rank : Nat) (temps : List Int)
  /-- DRAM_DRIFT_CHECK (R369): Every 256 ms DQS oscillators are read and the rank re-centred if drift exceeds 0.05 UI. -/
  | dramDriftCheck (t : Nat) (ch rank drift : Nat)
  /-- DRAM_RETRAIN_STEP (R369): A step of a full DRAM retraining runs. -/
  | dramRetrainStep (t : Nat) (ch rank : Nat) (ok : Bool)
  /-- DRAM_PATROL_SCRUB (R370): The patrol scrub reads a line and writes corrected data back. -/
  | dramPatrolScrub (t : Nat) (line : Nat) (r : EccRead)
  /-- MIG_THROTTLE_WRITE (R382): A write of MIG_THROTTLE sets the migration rate within 1 µs, or is ignored out of range. -/
  | migThrottleWrite (t : Nat) (v : Word)
  /-- FS_REFRESH (R378): The frame-store gain cells are refreshed. -/
  | fsRefresh (t : Nat)
  /-- FS_SCRUB (R380): The frame-store scrub visits a row, corrects it and replaces failing rows with spares. -/
  | fsScrub (t : Nat) (bank row ce ue : Nat)
  /-- CHECKER_UPDATE_ENTER (R392): CHK_CTRL.UPDATE written 1 closes a checker for region updates. -/
  | checkerUpdateEnter (t : Nat) (k : Nat) (v : Word)
  /-- CHECKER_UPDATE_EXIT (R392): CHK_CTRL.UPDATE written 0 runs the exit check and returns to IN_SERVICE or FAULT_CLOSED. -/
  | checkerUpdateExit (t : Nat) (k : Nat) (v : Word)
  /-- CHECKER_CLOSED_TIMEOUT (R391): An access waits 4 µs at a closed checker and fails with CLOSED. -/
  | checkerClosedTimeout (t : Nat) (k : Nat)
  /-- REGION_REGISTER_WRITE (R387): A write to a region register takes effect in update mode, or is ignored for a locked region. -/
  | regionRegisterWrite (t : Nat) (k r reg : Nat) (v : Word)
  /-- PARCEL_OPEN (R410): The PARCEL_OPEN command opens a compression job. -/
  | parcelOpen (t : Nat) (q seq : Nat)
  /-- PARCEL_FEED (R402): The PARCEL_FEED command feeds input to a job with FLUSH and LAST flags. -/
  | parcelFeed (t : Nat) (q seq : Nat)
  /-- PARCEL_FEED_COMPLETE (R403): A feed's input is consumed; parcels are closed and the feed completes. -/
  | parcelFeedComplete (t : Nat) (j : Nat) (selfFail : Bool)
  /-- PARCEL_ABORT (R402): The PARCEL_ABORT command discards a job's open parcel and returns it to IDLE. -/
  | parcelAbort (t : Nat) (q seq : Nat)
  /-- CRC_CTRL_WRITE (R412): A write of CRC_CTRL selects a preset and loads its initial value. -/
  | crcCtrlWrite (t : Nat) (u : Nat) (v : Word)
  /-- CRC_DATA8 (R413): A write of CRC_DATA8 feeds one byte. -/
  | crcData8 (t : Nat) (u : Nat) (v : Word)
  /-- CRC_DATA16 (R413): A write of CRC_DATA16 feeds two bytes. -/
  | crcData16 (t : Nat) (u : Nat) (v : Word)
  /-- CRC_DATA32 (R413): A write of CRC_DATA32 feeds four bytes. -/
  | crcData32 (t : Nat) (u : Nat) (v : Word)
  /-- CRC_RESULT_READ (R413): A read of CRC_RESULT or CRC_COUNT waits for earlier writes to take effect. -/
  | crcResultRead (t : Nat) (u : Nat) (count : Bool)
  /-- COMPOSE_ENGINE_PARITY (R417): A compose engine parity error takes its cluster out of service and may declare FATAL. -/
  | composeEngineParity (t : Nat) (cluster : Nat)
  /-- FABRIC_FAULT (R430): A fault in shared fabric state starts a fault restart that requeues commits and restores from the journal. -/
  | fabricFault (t : Nat) (journalOk : Bool)
  /-- DUMP_WRITE (R446): After a FATAL release, firmware packs the state dump into a dump slot. -/
  | dumpWrite (t : Nat)
  /-- DUMP_COMPLETE (R446): The dump slot's parcels are written and its header is written with COMPLETE. -/
  | dumpComplete (t : Nat)
  /-- RECORDER_EVENT (R436): An event reaches the recorder, takes a token and an SEQ or is suppressed. -/
  | recorderEvent (t : Nat) (e : RecEvent)
  /-- RECORDER_FLASH_PROGRAM (R439): A buffered entry is programmed into the flash store, with LOST or FULL entries as due. -/
  | recorderFlashProgram (t : Nat)
  /-- REC_READ (R443): The REC_READ command copies recorder entries from flash or ring to host memory. -/
  | recRead (t : Nat) (q seq : Nat)
  /-- REC_CATALOGUE (R443): The REC_CATALOGUE command returns the catalogue record of an event NUMBER. -/
  | recCatalogue (t : Nat) (q seq : Nat)
  /-- DUMP_READ (R447): The DUMP_READ command copies bytes of a dump slot to host memory. -/
  | dumpRead (t : Nat) (q seq : Nat)
  /-- DUMP_KEEP (R447): The DUMP_KEEP command sets or clears a slot's KEEP flag. -/
  | dumpKeep (t : Nat) (q seq : Nat)
  /-- DUMP_ERASE (R447): The DUMP_ERASE command erases a dump slot. -/
  | dumpErase (t : Nat) (q seq : Nat)
  /-- TEST_START (R448): The TEST_START command engages a pattern generator and checker on a target. -/
  | testStart (t : Nat) (q seq : Nat)
  /-- TEST_STOP (R452): The TEST_STOP command releases a test and returns its counts. -/
  | testStop (t : Nat) (q seq errors bits : Nat)
  /-- MEM_INJECT (R449): The MEM_INJECT command corrupts the next full-line write to a PA. -/
  | memInject (t : Nat) (q seq : Nat)
  /-- TOUCH_TEST (R450): The TOUCH_TEST command measures a port's electrodes for opens and shorts. -/
  | touchTest (t : Nat) (q seq : Nat) (raw : List (List Nat)) (side : List Nat)
  /-- ADC_SELF_CHECK (R451): The ADC_SELF_CHECK command checks each channel against internal references. -/
  | adcSelfCheck (t : Nat) (q seq : Nat) (codes : List (List Int))
  /-- FEED_ABOVE_TURN_ON (R463): A feed rises above 34.0 V and its acceptance dwell starts. -/
  | feedAboveTurnOn (t : Nat) (feed : Nat)
  /-- FEED_ACCEPTED (R463): A feed has stayed above turn-on for its dwell and is accepted. -/
  | feedAccepted (t : Nat) (feed : Nat)
  /-- FEED_TURN_OFF (R463): A feed falls below 32.0 V for 10 µs and is disconnected, possibly starting hold-up. -/
  | feedTurnOff (t : Nat) (feed : Nat)
  /-- FEED_OVERVOLTAGE (R463): A feed exceeds its overvoltage limit and is disconnected with OV_SEEN. -/
  | feedOvervoltage (t : Nat) (feed : Nat)
  /-- HOLDUP_END (R464): The hold-up storage reaches 40 V and logic power is removed. -/
  | holdupEnd (t : Nat) (cut : CutOff)
  /-- POWER_GOOD (R464): Logic rails are good and contacts take their pre-CONFIGURE states. -/
  | powerGood (t : Nat)
  /-- MODULE_RESET (R467): MRST_N falls past its filter and all logic is held in reset. -/
  | moduleReset (t : Nat) (cut : CutOff)
  /-- HOST_INTERFACE_RESET (R468): PERST_N, hot reset or function-level reset resets the host interface and disables every queue. -/
  | hostInterfaceReset (t : Nat) (cut : List (Nat × Nat))
  /-- THERMAL_TRIP (R471): A thermal trip limit is held and logic power is removed. -/
  | thermalTrip (t : Nat) (cut : CutOff)
  /-- THERMAL_RESTART (R471): The plate has read 70 °C or less for 10 s after a trip and the logic cold-starts. -/
  | thermalRestart (t : Nat)
  /-- WT_SLEW_END (R74): The working-time phase term finishes its ramp to 0, SLEWING clears and, in OFFSET_HOLD, WT_OFFSET stops following the measured offset and becomes constant. -/
  | wtSlewEnd (t : Nat)
  /-- SSP_BANK_SWITCH (R251): At a rising edge of SSP_CLK with status updates pending, CD-SSP switches banks, and a new SSP_CTRL value takes effect at that edge. -/
  | sspBankSwitch (t : Nat)
  /-- DEBUG_ACCESS (R390): A memory access made through the JTAG port is checked by the DEBUG checker and performed, or answered with DENIED and recorded. -/
  | debugAccess (t : Nat) (write : Bool) (pa len : Nat) (bytes : List Byte) (authed : Bool)
  /-- PLATE_HIGH (R470): The plate sensor rises above 75 °C; PLATE_HIGH is set and one recorder event is written. -/
  | plateHigh (t : Nat) (plate : Int)
  /-- FLIT_SEND (R307): At each flit slot a Paent port schedules its output by class and credit and sends a data or null flit, ending a picture's send and its slot lease when the last envelope leaves. -/
  | flitSend (t : Nat) (p pick : Nat)
  deriving DecidableEq, Repr

end Sys2Proof
end

