-- ==== Sys2Proof/WellFormed.lean ====
section
/-! DEFINITION. Well-formed commands: operands within the ranges that the manual gives the objects they name. -/

namespace Sys2Proof

/-- The instant a command carries, in quarters of a nanosecond of master-clock time. -/
def Instr.instant : Instr → Nat
  | .domainClockLost t _ _ => t
  | .domainClockPresent t _ _ => t
  | .watchdogExpiry t _ => t
  | .mgmtCoreRestartDone t _ => t
  | .registerWrite t _ _ _ => t
  | .lowWordLatchRead t _ _ => t
  | .pcieConfigRequest t _ => t
  | .bar2Read t _ _ => t
  | .bar2Write t _ _ => t
  | .bar2OffsetWrite t _ => t
  | .hostReadCompletion t _ _ _ => t
  | .hostReadTimeout t _ _ => t
  | .hostWriteTimeout t _ => t
  | .queueEnable t _ _ => t
  | .queueDisable t _ _ => t
  | .sqTailDoorbell t _ _ => t
  | .cqHeadDoorbell t _ _ => t
  | .commandEntryFetched t _ _ => t
  | .commandStart t _ _ => t
  | .commandDeadline t _ _ => t
  | .completionWrite t _ => t
  | .fenceWrite t _ _ => t
  | .nop t _ _ => t
  | .sync t _ _ => t
  | .fenceSignal t _ _ => t
  | .dmaCopy t _ _ => t
  | .dmaFill t _ _ => t
  | .regReadBlock t _ _ => t
  | .regWriteBatch t _ _ => t
  | .forwardedCommandReceived t _ _ _ => t
  | .forwardedOutcome t _ _ _ => t
  | .forwardTimeout t _ _ => t
  | .bootStart t _ _ => t
  | .bootFirmwareLoaded t _ _ => t
  | .bootImageValidated t => t
  | .bootMemoryTrained t _ _ => t
  | .ocxoSteady t => t
  | .ocxoReady t => t
  | .bootOutputs t => t
  | .imageCheck t _ _ => t
  | .imageWrite t _ _ _ => t
  | .slotErase t _ _ _ => t
  | .slotChoose t _ _ _ => t
  | .profileSwitch t _ _ => t
  | .fabricRestartDone t => t
  | .lifecycleSeal t _ _ => t
  | .wtUnsetTimeout t => t
  | .ptpMessageReceived t _ _ _ => t
  | .ptpReceiptTimeout t _ => t
  | .holdoverTrustExpiry t => t
  | .wtFollow t _ _ => t
  | .ptpPorts t _ _ => t
  | .timeSnap t _ => t
  | .tb3Apply t _ => t
  | .tb3RateAdjWrite t _ => t
  | .ppsCtrlWrite t _ => t
  | .ppsOutRise t => t
  | .ppsOutFall t => t
  | .ethFrameReceived t _ _ _ => t
  | .launchFrameSubmit t _ _ _ _ => t
  | .launchTimeReached t _ => t
  | .trigApply t _ _ => t
  | .triggerEvent t _ => t
  | .triggerPulseEnd t _ => t
  | .captureEdge t _ _ => t
  | .capTimeLoRead t _ => t
  | .refActivityLost t _ => t
  | .refFreqGate t _ _ => t
  | .refWtrExpiry t _ => t
  | .pullComplete t => t
  | .holdoverReadyTimer t => t
  | .ocxoLost t => t
  | .ocxoReturn t => t
  | .refselApply t _ => t
  | .refCfgApply t _ _ => t
  | .ethCtrlWrite t _ _ => t
  | .ethLinkLost t _ => t
  | .ethLinkUp t _ => t
  | .flowApply t _ _ => t
  | .frameHoldExpiry t _ _ => t
  | .assemblyTimeout t _ _ => t
  | .legInactive t _ _ => t
  | .streamOpen t _ _ => t
  | .streamClose t _ _ => t
  | .mcastJoin t _ _ => t
  | .mcastLeave t _ _ => t
  | .decodeStart t _ => t
  | .decodeComplete t _ _ => t
  | .decodeNoSlotTimeout t _ => t
  | .decodeEngineTimeout t _ => t
  | .decodeEngineParity t _ => t
  | .decodeWindowEnd t => t
  | .decodeSetup t _ _ => t
  | .decodeReset t _ _ => t
  | .commit t _ _ => t
  | .canvasCommit t _ _ => t
  | .canvasJoin t _ _ _ => t
  | .commitValidate t _ _ => t
  | .commitValidationDone t _ _ => t
  | .headFrameBoundary t _ _ => t
  | .headFrameStart t _ _ => t
  | .leaseEnd t _ => t
  | .canvasPrepare t _ => t
  | .canvasAccept t _ _ _ _ _ => t
  | .canvasApply t _ _ _ _ => t
  | .canvasDrop t _ _ => t
  | .canvasAppliedReport t _ _ _ _ _ => t
  | .canvasMemberTimeout t _ _ _ => t
  | .canvasReadyTimeout t _ _ => t
  | .canvasReportTimeout t _ _ _ => t
  | .canvasTransit t _ _ => t
  | .scalerParityError t _ => t
  | .headOutFmtWrite t _ _ => t
  | .lineRelease t _ _ _ => t
  | .lineComposed t _ _ _ => t
  | .lineRead t _ _ _ _ => t
  | .governorWindow t _ => t
  | .hpdRise t _ _ => t
  | .hpdIrq t _ _ _ => t
  | .hpdUnplug t _ => t
  | .trainingConfigDone t _ _ => t
  | .trainingConfigTimeout t _ => t
  | .trainRetryTimer t _ _ => t
  | .dpPortClockLost t _ => t
  | .dpPortClockReturn t _ _ => t
  | .modeChangeBoundary t _ => t
  | .modeChangeLinkReady t _ => t
  | .dpCtrlApply t _ _ _ => t
  | .dpAux t _ _ _ => t
  | .dpRetrain t _ _ _ => t
  | .tasterCompare t _ _ => t
  | .sspRead t _ => t
  | .imageTickAdvance t => t
  | .imageTickTimeout t => t
  | .encodeOpen t _ _ => t
  | .encodeClose t _ _ => t
  | .encodeRefresh t _ _ => t
  | .encodeRowReady t _ _ _ _ => t
  | .encodeRowCoded t _ _ => t
  | .encodeEngineTimeout t _ => t
  | .encodeEngineParity t _ => t
  | .touchScanStart t _ => t
  | .touchScanProcessed t _ _ => t
  | .touchScanRelease t _ => t
  | .touchSimmerScan t _ _ => t
  | .touchPortEnable t _ _ => t
  | .touchPortDisable t _ _ => t
  | .touchApply t _ _ => t
  | .adcSequenceDone t _ => t
  | .adcApply t _ => t
  | .gpioInputChange t _ _ => t
  | .gpioDebounceExpiry t _ => t
  | .gpioOutWrite t _ => t
  | .commandFrameBuilt t _ => t
  | .ccSetup t _ _ => t
  | .ccStop t _ _ => t
  | .touchRebase t _ _ => t
  | .paentIdWrite t _ => t
  | .flitReceived t _ _ => t
  | .replayTimeout t _ => t
  | .envelopeReceived t _ => t
  | .routeRecompute t _ _ _ => t
  | .routeInstall t _ => t
  | .vc1HoldTimeout t _ => t
  | .pictureEnvelope t => t
  | .announceTimer t => t
  | .announceReceived t _ _ => t
  | .electionTimer t => t
  | .managerSilenceTimeout t => t
  | .timeExchangeTimer t _ => t
  | .timeEnvelopeReceived t _ _ _ _ _ => t
  | .timeOffsetReport t _ => t
  | .remoteSetup t _ _ _ => t
  | .remoteClear t _ _ => t
  | .paentAttemptStart t _ => t
  | .paentSweepDone t _ _ => t
  | .paentAlignDone t _ _ => t
  | .laneSlip t _ _ _ => t
  | .paentTrainingFrame t _ _ _ => t
  | .paentGoReceived t _ _ => t
  | .paentStepTimeout t _ => t
  | .paentAttemptTimeout t _ => t
  | .paentRetryTimer t _ => t
  | .laneLos t _ _ _ => t
  | .laneLol t _ _ _ => t
  | .laneLoa t _ _ _ => t
  | .paentRetrain t _ _ => t
  | .paentHold t _ _ => t
  | .paentTxSleep t _ _ => t
  | .paentTxWake t _ _ => t
  | .paentRxSleep t _ _ => t
  | .paentRxWake t _ _ => t
  | .paentWakeTimeout t _ => t
  | .heartbeatSend t _ => t
  | .heartbeatReceived t _ => t
  | .heartbeatWireFrame t _ => t
  | .heartbeatPathSilent t _ => t
  | .pairSeekTimeout t => t
  | .pairHandoverInstant t => t
  | .interlockLevelChange t _ _ => t
  | .contentionTimeout t => t
  | .handoverRetryTimeout t => t
  | .interlockFault t => t
  | .mirrorRecord t _ _ => t
  | .mirrorConfirmation t _ => t
  | .mirrorGapTimeout t => t
  | .pairWtrExpiry t => t
  | .pairApply t _ => t
  | .pairSwitchover t _ => t
  | .pairTakeover t _ => t
  | .pairClear t _ => t
  | .dramReadError t _ _ _ => t
  | .dramWcrcAlert t _ _ _ => t
  | .migrationCopyLine t _ => t
  | .migrationDone t => t
  | .dramRefresh t _ _ _ _ => t
  | .dramTempRead t _ _ _ => t
  | .dramDriftCheck t _ _ _ => t
  | .dramRetrainStep t _ _ _ => t
  | .dramPatrolScrub t _ _ => t
  | .migThrottleWrite t _ => t
  | .fsRefresh t => t
  | .fsScrub t _ _ _ _ => t
  | .checkerUpdateEnter t _ _ => t
  | .checkerUpdateExit t _ _ => t
  | .checkerClosedTimeout t _ => t
  | .regionRegisterWrite t _ _ _ _ => t
  | .parcelOpen t _ _ => t
  | .parcelFeed t _ _ => t
  | .parcelFeedComplete t _ _ => t
  | .parcelAbort t _ _ => t
  | .crcCtrlWrite t _ _ => t
  | .crcData8 t _ _ => t
  | .crcData16 t _ _ => t
  | .crcData32 t _ _ => t
  | .crcResultRead t _ _ => t
  | .composeEngineParity t _ => t
  | .fabricFault t _ => t
  | .dumpWrite t => t
  | .dumpComplete t => t
  | .recorderEvent t _ => t
  | .recorderFlashProgram t => t
  | .recRead t _ _ => t
  | .recCatalogue t _ _ => t
  | .dumpRead t _ _ => t
  | .dumpKeep t _ _ => t
  | .dumpErase t _ _ => t
  | .testStart t _ _ => t
  | .testStop t _ _ _ _ => t
  | .memInject t _ _ => t
  | .touchTest t _ _ _ _ => t
  | .adcSelfCheck t _ _ _ => t
  | .feedAboveTurnOn t _ => t
  | .feedAccepted t _ => t
  | .feedTurnOff t _ => t
  | .feedOvervoltage t _ => t
  | .holdupEnd t _ => t
  | .powerGood t => t
  | .moduleReset t _ => t
  | .hostInterfaceReset t _ => t
  | .thermalTrip t _ => t
  | .thermalRestart t => t
  | .wtSlewEnd t => t
  | .sspBankSwitch t => t
  | .debugAccess t _ _ _ _ _ => t
  | .plateHigh t _ => t
  | .flitSend t _ _ => t
/-- Queues that can hold commands: the module's own 16 (R25), or those that any of 512 modules forwards to it (R32, R301). -/
def isCmdQueue (q : Nat) : Bool := q < 16 || (32 ≤ q && q < 32 + 16 * 512)

/-- A command's place: its queue and the 32-bit sequence number of its entry (R25, R30). -/
def isPlace (q seq : Nat) : Bool := isCmdQueue q && seq < 2 ^ 32

/-- The place of a host read: a command's, or the ring of a queue where no command is named (R22). -/
def isReadPlace (q : Nat) (seq : Option Nat) : Bool :=
  match seq with
  | some n => isPlace q n
  | none => q < 16

/-- A fitted instance of an edge domain (R11): four Ethernet ports, sixteen DisplayPort ports, four Paent ports and their
six lanes each, and eight DRAM channels; the other domains have one instance. -/
def isDomain (dom inst : Nat) : Bool :=
  dom < 12 && inst < (if dom = 1 || dom = 3 then 4 else if dom = 2 then 16 else if dom = 4 then 24 else if dom = 5 then 8 else 1)


/-- The operands of a command name objects that the part has, by the numbering of its blocks (R487), its register blocks
and the sizes of what crosses its pins. The values that a command brings are not checked here: the rules say what the part
does with each, so every value has a meaning. -/
def Instr.WellFormed : Instr → Bool
  | .domainClockLost _ dom inst | .domainClockPresent _ dom inst => isDomain dom inst
  | .watchdogExpiry _ core | .mgmtCoreRestartDone _ core => core < 4
  | .hostReadCompletion _ q seq _ | .hostReadTimeout _ q seq => isReadPlace q seq
  | .queueEnable _ q _ | .queueDisable _ q _ | .cqHeadDoorbell _ q _ => q < 17
  | .sqTailDoorbell _ q _ | .completionWrite _ q => q < 16
  | .commandEntryFetched _ q entry => q < 16 && entry.length = 64
  | .commandStart _ q seq | .commandDeadline _ q seq | .nop _ q seq | .sync _ q seq | .fenceSignal _ q seq
  | .dmaCopy _ q seq | .dmaFill _ q seq | .regReadBlock _ q seq | .regWriteBatch _ q seq
  | .forwardedOutcome _ q seq _ | .forwardTimeout _ q seq | .imageCheck _ q seq | .imageWrite _ q seq _
  | .slotErase _ q seq _ | .slotChoose _ q seq _ | .profileSwitch _ q seq | .lifecycleSeal _ q seq
  | .wtFollow _ q seq | .ptpPorts _ q seq | .streamOpen _ q seq | .streamClose _ q seq | .mcastJoin _ q seq
  | .mcastLeave _ q seq | .decodeSetup _ q seq | .decodeReset _ q seq | .commit _ q seq | .canvasCommit _ q seq
  | .canvasJoin _ q seq _ | .commitValidate _ q seq | .commitValidationDone _ q seq | .canvasApply _ q seq _ _
  | .canvasDrop _ q seq | .canvasReadyTimeout _ q seq | .canvasTransit _ q seq | .dpAux _ q seq _
  | .dpRetrain _ q seq _ | .encodeOpen _ q seq | .encodeClose _ q seq | .encodeRefresh _ q seq | .ccSetup _ q seq
  | .ccStop _ q seq | .touchRebase _ q seq | .remoteSetup _ q seq _ | .remoteClear _ q seq | .parcelOpen _ q seq
  | .parcelFeed _ q seq | .parcelAbort _ q seq | .recRead _ q seq | .recCatalogue _ q seq | .dumpRead _ q seq
  | .dumpKeep _ q seq | .dumpErase _ q seq | .testStart _ q seq | .testStop _ q seq _ _ | .memInject _ q seq
  | .touchTest _ q seq _ _ | .adcSelfCheck _ q seq _ => isPlace q seq
  | .fenceWrite _ f _ => f < 1024
  | .forwardedCommandReceived _ origin oq entry => origin < 512 && oq < 16 && entry.length = 64
  | .bootStart _ profsel _ => profsel < 4
  | .ptpMessageReceived _ dom port _ => dom < 2 && port < 4
  | .ptpReceiptTimeout _ dom => dom < 2
  | .ethFrameReceived _ port _ _ => port < 4
  | .launchFrameSubmit _ p at48 _ _ => p < 4 && at48 < 2 ^ 48
  | .launchTimeReached _ p | .ethCtrlWrite _ p _ | .ethLinkLost _ p | .ethLinkUp _ p | .replayTimeout _ p
  | .envelopeReceived _ p | .announceReceived _ p _ | .timeExchangeTimer _ p | .timeEnvelopeReceived _ p _ _ _ _
  | .paentAttemptStart _ p | .paentSweepDone _ p _ | .paentAlignDone _ p _ | .paentGoReceived _ p _
  | .paentStepTimeout _ p | .paentAttemptTimeout _ p | .paentRetryTimer _ p | .paentRetrain _ p _ | .paentHold _ p _
  | .paentTxSleep _ p _ | .paentTxWake _ p _ | .paentRxSleep _ p _ | .paentRxWake _ p _ | .paentWakeTimeout _ p
  | .flitSend _ p _ => p < 4
  | .trigApply _ u _ | .triggerEvent _ u | .triggerPulseEnd _ u | .captureEdge _ u _ | .capTimeLoRead _ u => u < 16
  | .refActivityLost _ r | .refFreqGate _ r _ | .refWtrExpiry _ r | .refCfgApply _ r _ => r < 12
  | .flowApply _ n _ => n < 1024
  | .frameHoldExpiry _ c ts | .assemblyTimeout _ c ts => c < 256 && ts < 2 ^ 32
  | .legInactive _ c leg => c < 256 && leg < 2
  | .decodeStart _ e | .decodeComplete _ e _ | .decodeEngineTimeout _ e | .decodeEngineParity _ e => e < 8
  | .decodeNoSlotTimeout _ c => c < 256
  | .headFrameBoundary _ h n | .headFrameStart _ h n | .lineRelease _ h n _ | .lineComposed _ h n _
  | .lineRead _ h n _ _ => h < 32 && n < 2 ^ 32
  | .leaseEnd _ entry => entry < 2048
  | .canvasAccept _ q seq module _ _ | .canvasAppliedReport _ q seq module _ _ | .canvasMemberTimeout _ q seq module
  | .canvasReportTimeout _ q seq module => isPlace q seq && module < 512
  | .scalerParityError _ sc => sc < 128
  | .headOutFmtWrite _ h _ | .modeChangeBoundary _ h | .modeChangeLinkReady _ h => h < 32
  | .hpdRise _ p _ | .hpdIrq _ p _ _ | .hpdUnplug _ p | .trainingConfigDone _ p _ | .trainingConfigTimeout _ p
  | .trainRetryTimer _ p _ | .dpPortClockLost _ p | .dpPortClockReturn _ p _ | .dpCtrlApply _ p _ _ => p < 16
  | .tasterCompare _ k n => k < 1024 && n < 2 ^ 32
  | .sspRead _ a => a < 4096
  | .encodeRowReady _ c n _ _ => c < 256 && n < 2 ^ 32
  | .encodeRowCoded _ e _ | .encodeEngineTimeout _ e | .encodeEngineParity _ e => e < 2
  | .touchScanStart _ p | .touchScanProcessed _ p _ | .touchScanRelease _ p | .touchSimmerScan _ p _
  | .touchPortEnable _ p _ | .touchPortDisable _ p _ | .touchApply _ p _ => p < 2
  | .gpioInputChange _ n _ | .gpioDebounceExpiry _ n => n < 32
  | .commandFrameBuilt _ c => c < 4
  | .flitReceived _ p flit => p < 4 && flit.length = 64
  | .laneSlip _ p l _ | .paentTrainingFrame _ p l _ | .laneLos _ p l _ | .laneLol _ p l _ | .laneLoa _ p l _ => p < 4 && l < 6
  | .heartbeatWireFrame _ frame => frame.length = 6
  | .interlockLevelChange _ il1 il2 => il1 < 3 && il2 < 3
  | .dramReadError _ line rank _ => line < 2 ^ 30 && rank < 2
  | .dramWcrcAlert _ ch rank _ | .dramTempRead _ ch rank _ | .dramDriftCheck _ ch rank _
  | .dramRetrainStep _ ch rank _ => ch < 8 && rank < 2
  | .dramRefresh _ ch rank bank _ => ch < 8 && rank < 2 && bank < 32
  | .dramPatrolScrub _ line _ => line < 2 ^ 30
  | .fsScrub _ bank row _ _ => bank < 64 && row < 4160
  | .checkerUpdateEnter _ k _ | .checkerUpdateExit _ k _ | .checkerClosedTimeout _ k => k < 6
  | .regionRegisterWrite _ k r reg _ => k < 6 && r < 64 && reg < 3
  | .parcelFeedComplete _ j _ => j < 4
  | .crcCtrlWrite _ u _ | .crcData8 _ u _ | .crcData16 _ u _ | .crcData32 _ u _ | .crcResultRead _ u _ => u < 8
  | .composeEngineParity _ cluster => cluster < 6
  | .feedAboveTurnOn _ feed | .feedAccepted _ feed | .feedTurnOff _ feed | .feedOvervoltage _ feed => feed < 2
  | .registerWrite _ _ _ _ | .lowWordLatchRead _ _ _ | .pcieConfigRequest _ _ | .bar2Read _ _ _ | .bar2Write _ _ _
  | .bar2OffsetWrite _ _ | .hostWriteTimeout _ _ | .bootFirmwareLoaded _ _ _ | .bootImageValidated _
  | .bootMemoryTrained _ _ _ | .ocxoSteady _ | .ocxoReady _ | .bootOutputs _ | .fabricRestartDone _
  | .wtUnsetTimeout _ | .holdoverTrustExpiry _ | .timeSnap _ _ | .tb3Apply _ _ | .tb3RateAdjWrite _ _
  | .ppsCtrlWrite _ _ | .ppsOutRise _ | .ppsOutFall _ | .pullComplete _ | .holdoverReadyTimer _ | .ocxoLost _
  | .ocxoReturn _ | .refselApply _ _ | .decodeWindowEnd _ | .canvasPrepare _ _ | .governorWindow _ _
  | .imageTickAdvance _ | .imageTickTimeout _ | .adcSequenceDone _ _ | .adcApply _ _ | .gpioOutWrite _ _
  | .paentIdWrite _ _ | .routeRecompute _ _ _ _ | .routeInstall _ _ | .vc1HoldTimeout _ _ | .pictureEnvelope _
  | .announceTimer _ | .electionTimer _ | .managerSilenceTimeout _ | .timeOffsetReport _ _ | .heartbeatSend _ _
  | .heartbeatReceived _ _ | .heartbeatPathSilent _ _ | .pairSeekTimeout _ | .pairHandoverInstant _
  | .contentionTimeout _ | .handoverRetryTimeout _ | .interlockFault _ | .mirrorRecord _ _ _
  | .mirrorConfirmation _ _ | .mirrorGapTimeout _ | .pairWtrExpiry _ | .pairApply _ _ | .pairSwitchover _ _
  | .pairTakeover _ _ | .pairClear _ _ | .migrationCopyLine _ _ | .migrationDone _ | .migThrottleWrite _ _
  | .fsRefresh _ | .fabricFault _ _ | .dumpWrite _ | .dumpComplete _ | .recorderEvent _ _ | .recorderFlashProgram _
  | .holdupEnd _ _ | .powerGood _ | .moduleReset _ _ | .hostInterfaceReset _ _ | .thermalTrip _ _ | .thermalRestart _
  | .wtSlewEnd _ | .sspBankSwitch _ | .debugAccess _ _ _ _ _ _ | .plateHigh _ _ => true

end Sys2Proof
end

