-- ==== Sys2Proof/Config.lean ====
section
/-! DEFINITION. What an implementation fixes, and the free values the manual leaves open.
An opaque constant has no body: a statement about it holds for every value it could have. -/

namespace Sys2Proof.Config

/-- Bits 5:0 of the NUMBER of an event within its domain (R434: firmware holds the catalogue). Free value, log 4. -/
opaque eventIndex : Nat → BitVec 6

/-- The 256-byte catalogue record of an event NUMBER, and whether the NUMBER is defined (R443). Free value, log 4. -/
opaque catalogue : Nat → Option (List Byte)

/-- Whether an ECDSA P-384 signature block verifies over the signed bytes (R44). Free value, log 5. -/
opaque signatureVerifies : List Byte → List Byte → Bool

/-- SHA-384 of a public key, as a number (R58). Free value, log 5. -/
opaque sha384 : List Byte → Nat

/-- Contents of the PCI Express configuration space, by register (R21). Free value, log 6. -/
opaque cfgSpace : Nat → BitVec 32

/-- TS_CAL of an Ethernet port: factory PMA offsets (R87). Free value, log 7. -/
opaque tsCal : Nat → BitVec 32

/-- The data a read returns where the manual states none: numbered use, position. Free value, log 8. -/
opaque freeByte : Nat → Nat → BitVec 8

/-- A free word: numbered use, position. Free value, log 8. -/
opaque freeWord : Nat → Nat → BitVec 32

/-- Phase error of a reference against the loop's output when a pull starts, in ps, by reference and instant (R100).
Free value, log 11. -/
opaque phaseError : Nat → Nat → Int

/-- The block the compressor codes for a parcel's bytes: deterministic, not part of the interface (R400).
Free value, log 13. -/
opaque deflate : List Byte → List Byte

/-- The module's factory unique identifier (R302). Free value, log 16. -/
opaque moduleUid : Nat

/-- Whether admitted GUARANTEED streams fit the bandwidth classes of an image, by IMAGE_ID and instant (R68). Free value,
log 18. -/
opaque classesFit : Nat → Nat → Bool

end Sys2Proof.Config
end

