-- ==== Sys2Proof/Machine/Regs.lean ====
section
/-! DEFINITION. The registers of BAR0 (R4, R24): every register's offset, its array strides, its reset value,
its fields, and the access type of each bit (R5). A counter that is cleared by writing all ones is type CNT. -/

namespace Sys2Proof.Machine

/-- One register, or an array of them: first offset, strides of the two array indices, reset value. -/
structure RegDesc where
  base : Nat
  s1 : Nat
  s2 : Nat
  reset : Nat
  deriving DecidableEq, Repr

/-- One field of a register: bits `hi` down to `lo`. -/
structure FldDesc where
  reg : RegDesc
  hi : Nat
  lo : Nat
  deriving DecidableEq, Repr

/-- One row of the register map: the array lengths and the bit masks of the access types of R5. -/
structure RegRow where
  reg : RegDesc
  n1 : Nat
  n2 : Nat
  rw : Nat
  ro : Nat
  w1c : Nat
  w1s : Nat
  wo : Nat
  cnt : Nat
  deriving DecidableEq, Repr

/-- Offset of the register with array indices `i` and `j`. -/
def RegDesc.off (r : RegDesc) (i j : Nat) : Nat := r.base + i * r.s1 + j * r.s2

end Sys2Proof.Machine

namespace Sys2Proof.Machine.R

/-! ### Identity and global control -/

/-- R11. -/
def EDGE_CLK_STATUS : RegDesc := ⟨0x40, 0x0, 0x0, 0x0⟩
def EDGE_CLK_STATUS_LOST : FldDesc := ⟨EDGE_CLK_STATUS, 27, 16⟩
def EDGE_CLK_STATUS_PRESENT : FldDesc := ⟨EDGE_CLK_STATUS, 11, 0⟩

/-- R17. -/
def MGMT_CORE_STATUS : RegDesc := ⟨0x44, 0x0, 0x0, 0x0⟩
def MGMT_CORE_STATUS_RESTARTS3 : FldDesc := ⟨MGMT_CORE_STATUS, 23, 20⟩
def MGMT_CORE_STATUS_RESTARTS2 : FldDesc := ⟨MGMT_CORE_STATUS, 19, 16⟩
def MGMT_CORE_STATUS_RESTARTS1 : FldDesc := ⟨MGMT_CORE_STATUS, 15, 12⟩
def MGMT_CORE_STATUS_RESTARTS0 : FldDesc := ⟨MGMT_CORE_STATUS, 11, 8⟩
def MGMT_CORE_STATUS_STATE3 : FldDesc := ⟨MGMT_CORE_STATUS, 7, 6⟩
def MGMT_CORE_STATUS_STATE2 : FldDesc := ⟨MGMT_CORE_STATUS, 5, 4⟩
def MGMT_CORE_STATUS_STATE1 : FldDesc := ⟨MGMT_CORE_STATUS, 3, 2⟩
def MGMT_CORE_STATUS_STATE0 : FldDesc := ⟨MGMT_CORE_STATUS, 1, 0⟩

/-! ### Host queues -/

/-- R23. -/
def BAR2_OFFSET : RegDesc := ⟨0x48, 0x0, 0x0, 0x0⟩
def BAR2_OFFSET_OFFSET : FldDesc := ⟨BAR2_OFFSET, 31, 6⟩

/-- R25, R26. -/
def Q_CTRL : RegDesc := ⟨0x100000, 0x40, 0x0, 0x0⟩
def Q_CTRL_ENABLE : FldDesc := ⟨Q_CTRL, 31, 31⟩
def Q_CTRL_SQ_LOG2 : FldDesc := ⟨Q_CTRL, 27, 24⟩
def Q_CTRL_CQ_LOG2 : FldDesc := ⟨Q_CTRL, 23, 20⟩
def Q_CTRL_MSIX_VEC : FldDesc := ⟨Q_CTRL, 15, 8⟩
def Q_CTRL_COAL_CNT : FldDesc := ⟨Q_CTRL, 7, 0⟩

/-- R26. -/
def Q_STATUS : RegDesc := ⟨0x100004, 0x40, 0x0, 0x0⟩
def Q_STATUS_STATE : FldDesc := ⟨Q_STATUS, 31, 30⟩
def Q_STATUS_ERR : FldDesc := ⟨Q_STATUS, 23, 16⟩
def Q_STATUS_SQ_HEAD : FldDesc := ⟨Q_STATUS, 11, 0⟩

/-- R25. -/
def SQ_BASE_LO : RegDesc := ⟨0x100008, 0x40, 0x0, 0x0⟩
def SQ_BASE_LO_ADDR : FldDesc := ⟨SQ_BASE_LO, 31, 6⟩

/-- R25. -/
def SQ_BASE_HI : RegDesc := ⟨0x10000c, 0x40, 0x0, 0x0⟩
def SQ_BASE_HI_ADDR : FldDesc := ⟨SQ_BASE_HI, 31, 0⟩

/-- R25. -/
def CQ_BASE_LO : RegDesc := ⟨0x100010, 0x40, 0x0, 0x0⟩
def CQ_BASE_LO_ADDR : FldDesc := ⟨CQ_BASE_LO, 31, 6⟩

/-- R25. -/
def CQ_BASE_HI : RegDesc := ⟨0x100014, 0x40, 0x0, 0x0⟩
def CQ_BASE_HI_ADDR : FldDesc := ⟨CQ_BASE_HI, 31, 0⟩

/-- R25, R30. -/
def Q_EXP_SEQ : RegDesc := ⟨0x100018, 0x40, 0x0, 0x0⟩
def Q_EXP_SEQ_SEQ : FldDesc := ⟨Q_EXP_SEQ, 31, 0⟩

/-- R25, R31. -/
def Q_DONE_SEQ : RegDesc := ⟨0x10001c, 0x40, 0x0, 0x0⟩
def Q_DONE_SEQ_SEQ : FldDesc := ⟨Q_DONE_SEQ, 31, 0⟩

/-- R25, R30. -/
def Q_DUP_COUNT : RegDesc := ⟨0x100020, 0x40, 0x0, 0x0⟩
def Q_DUP_COUNT_COUNT : FldDesc := ⟨Q_DUP_COUNT, 31, 0⟩

/-- R25. -/
def EVQ_HELD : RegDesc := ⟨0x100024, 0x40, 0x0, 0x0⟩
def EVQ_HELD_HELD : FldDesc := ⟨EVQ_HELD, 16, 0⟩

/-- R25. -/
def EVQ_LOST : RegDesc := ⟨0x100028, 0x40, 0x0, 0x0⟩
def EVQ_LOST_LOST : FldDesc := ⟨EVQ_LOST, 31, 0⟩

/-- R25. -/
def SQ_TAIL_DB : RegDesc := ⟨0x110000, 0x1000, 0x0, 0x0⟩
def SQ_TAIL_DB_TAIL : FldDesc := ⟨SQ_TAIL_DB, 31, 0⟩

/-- R25. -/
def CQ_HEAD_DB : RegDesc := ⟨0x110004, 0x1000, 0x0, 0x0⟩
def CQ_HEAD_DB_HEAD : FldDesc := ⟨CQ_HEAD_DB, 31, 0⟩

/-- R32. -/
def FWD_TIMEOUT : RegDesc := ⟨0x100800, 0x0, 0x0, 0x64⟩
def FWD_TIMEOUT_MS : FldDesc := ⟨FWD_TIMEOUT, 13, 0⟩

/-- R34. -/
def FENCE_VAL : RegDesc := ⟨0x180000, 0x4, 0x0, 0x0⟩
def FENCE_VAL_VALUE : FldDesc := ⟨FENCE_VAL, 31, 0⟩

/-! ### Boot and profiles -/

/-- R61. -/
def PROF_STATUS : RegDesc := ⟨0x200000, 0x0, 0x0, 0x0⟩
def PROF_STATUS_SEALED : FldDesc := ⟨PROF_STATUS, 31, 31⟩
def PROF_STATUS_SLOT_VALID : FldDesc := ⟨PROF_STATUS, 27, 24⟩
def PROF_STATUS_PROFSEL : FldDesc := ⟨PROF_STATUS, 21, 20⟩
def PROF_STATUS_CHOSEN : FldDesc := ⟨PROF_STATUS, 17, 16⟩
def PROF_STATUS_SWITCHING : FldDesc := ⟨PROF_STATUS, 13, 13⟩
def PROF_STATUS_IN_FORCE : FldDesc := ⟨PROF_STATUS, 12, 12⟩
def PROF_STATUS_SLOT : FldDesc := ⟨PROF_STATUS, 9, 8⟩

/-- R62, R63. -/
def BOOT_STATUS : RegDesc := ⟨0x200004, 0x0, 0x0, 0x0⟩
def BOOT_STATUS_ERR : FldDesc := ⟨BOOT_STATUS, 23, 16⟩
def BOOT_STATUS_PHASE : FldDesc := ⟨BOOT_STATUS, 3, 0⟩

/-- R42. -/
def PROF_IMAGE_ID : RegDesc := ⟨0x200008, 0x0, 0x0, 0x0⟩
def PROF_IMAGE_ID_ID : FldDesc := ⟨PROF_IMAGE_ID, 31, 0⟩

/-! ### Time -/

/-- R72. -/
def WT_STATUS : RegDesc := ⟨0x300000, 0x0, 0x0, 0x0⟩
def WT_STATUS_STATE : FldDesc := ⟨WT_STATUS, 31, 30⟩
def WT_STATUS_FOLLOWS : FldDesc := ⟨WT_STATUS, 29, 28⟩
def WT_STATUS_SLEWING : FldDesc := ⟨WT_STATUS, 27, 27⟩
def WT_STATUS_TRUST_EXPIRED : FldDesc := ⟨WT_STATUS, 26, 26⟩
def WT_STATUS_TB1_QUAL : FldDesc := ⟨WT_STATUS, 25, 25⟩
def WT_STATUS_TB0_QUAL : FldDesc := ⟨WT_STATUS, 24, 24⟩
def WT_STATUS_SWITCHES : FldDesc := ⟨WT_STATUS, 23, 16⟩

/-- R74. -/
def WT_RATE : RegDesc := ⟨0x300008, 0x0, 0x0, 0x0⟩
def WT_RATE_RATE : FldDesc := ⟨WT_RATE, 31, 0⟩

/-- R74. -/
def WT_OFFSET_LO : RegDesc := ⟨0x30000c, 0x0, 0x0, 0x0⟩
def WT_OFFSET_LO_OFFSET : FldDesc := ⟨WT_OFFSET_LO, 31, 0⟩

/-- R74. -/
def WT_OFFSET_HI : RegDesc := ⟨0x300010, 0x0, 0x0, 0x0⟩
def WT_OFFSET_HI_OFFSET : FldDesc := ⟨WT_OFFSET_HI, 31, 0⟩

/-- R84. -/
def TIME_HOLDOVER_TRUST : RegDesc := ⟨0x300014, 0x0, 0x0, 0x2710⟩
def TIME_HOLDOVER_TRUST_MS : FldDesc := ⟨TIME_HOLDOVER_TRUST, 21, 0⟩

/-- R86. -/
def TIME_SNAP : RegDesc := ⟨0x300018, 0x0, 0x0, 0x0⟩
def TIME_SNAP_DONE : FldDesc := ⟨TIME_SNAP, 1, 1⟩
def TIME_SNAP_SNAP : FldDesc := ⟨TIME_SNAP, 0, 0⟩

/-- R86. -/
def SNAP_SEC_HI : RegDesc := ⟨0x300020, 0x10, 0x0, 0x0⟩
def SNAP_SEC_HI_SEC : FldDesc := ⟨SNAP_SEC_HI, 15, 0⟩

/-- R86. -/
def SNAP_SEC_LO : RegDesc := ⟨0x300024, 0x10, 0x0, 0x0⟩
def SNAP_SEC_LO_SEC : FldDesc := ⟨SNAP_SEC_LO, 31, 0⟩

/-- R86. -/
def SNAP_NS : RegDesc := ⟨0x300028, 0x10, 0x0, 0x0⟩
def SNAP_NS_NS : FldDesc := ⟨SNAP_NS, 31, 0⟩

/-- R86. -/
def SNAP_FRAC : RegDesc := ⟨0x30002c, 0x10, 0x0, 0x0⟩
def SNAP_FRAC_FRAC : FldDesc := ⟨SNAP_FRAC, 15, 0⟩

/-- R75. -/
def TB_STATUS : RegDesc := ⟨0x300080, 0x10, 0x0, 0x0⟩
def TB_STATUS_QUAL : FldDesc := ⟨TB_STATUS, 31, 31⟩
def TB_STATUS_PORT_STATE : FldDesc := ⟨TB_STATUS, 27, 24⟩
def TB_STATUS_PORT : FldDesc := ⟨TB_STATUS, 21, 20⟩
def TB_STATUS_GM_CLASS : FldDesc := ⟨TB_STATUS, 15, 8⟩
def TB_STATUS_STEPS : FldDesc := ⟨TB_STATUS, 7, 0⟩

/-- R87. -/
def TB_RATE_ADJ : RegDesc := ⟨0x300084, 0x10, 0x0, 0x0⟩
def TB_RATE_ADJ_RATE : FldDesc := ⟨TB_RATE_ADJ, 31, 0⟩

/-- R87. -/
def TB3_SET_SEC_HI : RegDesc := ⟨0x3000c0, 0x0, 0x0, 0x0⟩
def TB3_SET_SEC_HI_SEC : FldDesc := ⟨TB3_SET_SEC_HI, 15, 0⟩

/-- R87. -/
def TB3_SET_SEC_LO : RegDesc := ⟨0x3000c4, 0x0, 0x0, 0x0⟩
def TB3_SET_SEC_LO_SEC : FldDesc := ⟨TB3_SET_SEC_LO, 31, 0⟩

/-- R87. -/
def TB3_SET_NS : RegDesc := ⟨0x3000c8, 0x0, 0x0, 0x0⟩
def TB3_SET_NS_NS : FldDesc := ⟨TB3_SET_NS, 31, 0⟩

/-- R87. -/
def TB3_APPLY : RegDesc := ⟨0x3000cc, 0x0, 0x0, 0x0⟩
def TB3_APPLY_APPLY : FldDesc := ⟨TB3_APPLY, 0, 0⟩

/-- R90. -/
def PPS_CTRL : RegDesc := ⟨0x3000d0, 0x0, 0x0, 0x0⟩
def PPS_CTRL_ENABLE : FldDesc := ⟨PPS_CTRL, 0, 0⟩

/-- R87. -/
def TS_CAL : RegDesc := ⟨0x300100, 0x10, 0x0, 0x0⟩
def TS_CAL_TX : FldDesc := ⟨TS_CAL, 31, 16⟩
def TS_CAL_RX : FldDesc := ⟨TS_CAL, 15, 0⟩

/-- R87. -/
def TS_CARRIER : RegDesc := ⟨0x300104, 0x10, 0x0, 0x0⟩
def TS_CARRIER_TX : FldDesc := ⟨TS_CARRIER, 31, 16⟩
def TS_CARRIER_RX : FldDesc := ⟨TS_CARRIER, 15, 0⟩

/-- R80. -/
def LAUNCH_LATE : RegDesc := ⟨0x300108, 0x10, 0x0, 0x0⟩
def LAUNCH_LATE_COUNT : FldDesc := ⟨LAUNCH_LATE, 31, 0⟩

/-- R80. -/
def LAUNCH_FAR : RegDesc := ⟨0x30010c, 0x10, 0x0, 0x0⟩
def LAUNCH_FAR_COUNT : FldDesc := ⟨LAUNCH_FAR, 31, 0⟩

/-- R88. -/
def TRIG_CTRL : RegDesc := ⟨0x301000, 0x20, 0x0, 0x0⟩
def TRIG_CTRL_APPLY : FldDesc := ⟨TRIG_CTRL, 31, 31⟩
def TRIG_CTRL_ENABLE : FldDesc := ⟨TRIG_CTRL, 30, 30⟩
def TRIG_CTRL_MODE : FldDesc := ⟨TRIG_CTRL, 29, 28⟩
def TRIG_CTRL_WIDTH_M1 : FldDesc := ⟨TRIG_CTRL, 15, 0⟩

/-- R88. -/
def TRIG_STATUS : RegDesc := ⟨0x301004, 0x20, 0x0, 0x0⟩
def TRIG_STATUS_ARMED : FldDesc := ⟨TRIG_STATUS, 31, 31⟩
def TRIG_STATUS_MISSED : FldDesc := ⟨TRIG_STATUS, 30, 30⟩
def TRIG_STATUS_BAD_CONFIG : FldDesc := ⟨TRIG_STATUS, 29, 29⟩
def TRIG_STATUS_UNSET : FldDesc := ⟨TRIG_STATUS, 28, 28⟩
def TRIG_STATUS_FIRES : FldDesc := ⟨TRIG_STATUS, 15, 0⟩

/-- R88. -/
def TRIG_AT_LO : RegDesc := ⟨0x301008, 0x20, 0x0, 0x0⟩
def TRIG_AT_LO_AT : FldDesc := ⟨TRIG_AT_LO, 31, 0⟩

/-- R88. -/
def TRIG_AT_HI : RegDesc := ⟨0x30100c, 0x20, 0x0, 0x0⟩
def TRIG_AT_HI_AT : FldDesc := ⟨TRIG_AT_HI, 15, 0⟩

/-- R88. -/
def TRIG_PERIOD_M1 : RegDesc := ⟨0x301010, 0x20, 0x0, 0x0⟩
def TRIG_PERIOD_M1_PERIOD_M1 : FldDesc := ⟨TRIG_PERIOD_M1, 31, 0⟩

/-- R89. -/
def CAP_CTRL : RegDesc := ⟨0x302000, 0x10, 0x0, 0x0⟩
def CAP_CTRL_ENABLE : FldDesc := ⟨CAP_CTRL, 31, 31⟩
def CAP_CTRL_EDGE : FldDesc := ⟨CAP_CTRL, 30, 29⟩
def CAP_CTRL_SRC : FldDesc := ⟨CAP_CTRL, 28, 27⟩
def CAP_CTRL_NOTIFY : FldDesc := ⟨CAP_CTRL, 26, 26⟩

/-- R89. -/
def CAP_STATUS : RegDesc := ⟨0x302004, 0x10, 0x0, 0x0⟩
def CAP_STATUS_OVERRUN : FldDesc := ⟨CAP_STATUS, 31, 31⟩
def CAP_STATUS_LEVEL : FldDesc := ⟨CAP_STATUS, 20, 16⟩
def CAP_STATUS_LOST : FldDesc := ⟨CAP_STATUS, 15, 0⟩

/-- R89. -/
def CAP_TIME_LO : RegDesc := ⟨0x302008, 0x10, 0x0, 0x0⟩
def CAP_TIME_LO_TIME : FldDesc := ⟨CAP_TIME_LO, 31, 0⟩

/-- R89. -/
def CAP_TIME_HI : RegDesc := ⟨0x30200c, 0x10, 0x0, 0x0⟩
def CAP_TIME_HI_VALID : FldDesc := ⟨CAP_TIME_HI, 31, 31⟩
def CAP_TIME_HI_FALL : FldDesc := ⟨CAP_TIME_HI, 30, 30⟩
def CAP_TIME_HI_WT_STATE : FldDesc := ⟨CAP_TIME_HI, 29, 28⟩
def CAP_TIME_HI_TIME_HI : FldDesc := ⟨CAP_TIME_HI, 15, 0⟩

/-! ### Reference selector -/

/-- R99. -/
def REFSEL_STATUS : RegDesc := ⟨0x380000, 0x0, 0x0, 0x0⟩
def REFSEL_STATUS_STATE : FldDesc := ⟨REFSEL_STATUS, 31, 29⟩
def REFSEL_STATUS_SELECTED : FldDesc := ⟨REFSEL_STATUS, 27, 24⟩
def REFSEL_STATUS_HOLDOVER_READY : FldDesc := ⟨REFSEL_STATUS, 23, 23⟩
def REFSEL_STATUS_MON_BASIS : FldDesc := ⟨REFSEL_STATUS, 22, 22⟩
def REFSEL_STATUS_FORCE_LOST : FldDesc := ⟨REFSEL_STATUS, 21, 21⟩
def REFSEL_STATUS_BW_LIMITED : FldDesc := ⟨REFSEL_STATUS, 20, 20⟩
def REFSEL_STATUS_BAD_CONFIG : FldDesc := ⟨REFSEL_STATUS, 19, 19⟩
def REFSEL_STATUS_SWITCHES : FldDesc := ⟨REFSEL_STATUS, 15, 0⟩

/-- R105. -/
def REFSEL_CTRL : RegDesc := ⟨0x380004, 0x0, 0x0, 0x40009⟩
def REFSEL_CTRL_APPLY : FldDesc := ⟨REFSEL_CTRL, 31, 31⟩
def REFSEL_CTRL_FORCE_EN : FldDesc := ⟨REFSEL_CTRL, 30, 30⟩
def REFSEL_CTRL_FORCE_REF : FldDesc := ⟨REFSEL_CTRL, 27, 24⟩
def REFSEL_CTRL_LOOP_BW : FldDesc := ⟨REFSEL_CTRL, 19, 16⟩
def REFSEL_CTRL_PULL_SLOPE_M1 : FldDesc := ⟨REFSEL_CTRL, 13, 0⟩

/-- R100. -/
def REFSEL_PULL : RegDesc := ⟨0x380008, 0x0, 0x0, 0x0⟩
def REFSEL_PULL_ERROR : FldDesc := ⟨REFSEL_PULL, 31, 0⟩

/-- R105. -/
def REFSEL_FREQ : RegDesc := ⟨0x38000c, 0x0, 0x0, 0x0⟩
def REFSEL_FREQ_OFFSET : FldDesc := ⟨REFSEL_FREQ, 31, 0⟩

/-- R105. -/
def REF_CFG : RegDesc := ⟨0x380100, 0x20, 0x0, 0xa0032⟩
def REF_CFG_APPLY : FldDesc := ⟨REF_CFG, 31, 31⟩
def REF_CFG_LOCKOUT : FldDesc := ⟨REF_CFG, 30, 30⟩
def REF_CFG_PPS_REQ : FldDesc := ⟨REF_CFG, 29, 29⟩
def REF_CFG_PRIORITY : FldDesc := ⟨REF_CFG, 27, 24⟩
def REF_CFG_WTR_S : FldDesc := ⟨REF_CFG, 23, 16⟩
def REF_CFG_DRIFT_WARN : FldDesc := ⟨REF_CFG, 15, 0⟩

/-- R105. -/
def REF_LIMITS : RegDesc := ⟨0x380104, 0x20, 0x0, 0x11f823f0⟩
def REF_LIMITS_ACCEPT_PPB : FldDesc := ⟨REF_LIMITS, 31, 16⟩
def REF_LIMITS_REJECT_PPB : FldDesc := ⟨REF_LIMITS, 15, 0⟩

/-- R95. -/
def REF_STATUS : RegDesc := ⟨0x380108, 0x20, 0x0, 0x0⟩
def REF_STATUS_QUALIFIED : FldDesc := ⟨REF_STATUS, 31, 31⟩
def REF_STATUS_ACTIVE : FldDesc := ⟨REF_STATUS, 30, 30⟩
def REF_STATUS_IN_ACCEPT : FldDesc := ⟨REF_STATUS, 29, 29⟩
def REF_STATUS_WTR_RUNNING : FldDesc := ⟨REF_STATUS, 28, 28⟩
def REF_STATUS_DRIFT : FldDesc := ⟨REF_STATUS, 27, 27⟩
def REF_STATUS_REJECTED : FldDesc := ⟨REF_STATUS, 26, 26⟩
def REF_STATUS_BAD_CONFIG : FldDesc := ⟨REF_STATUS, 25, 25⟩
def REF_STATUS_WTR_LEFT : FldDesc := ⟨REF_STATUS, 23, 16⟩

/-- R94. -/
def REF_FREQ : RegDesc := ⟨0x38010c, 0x20, 0x0, 0x0⟩
def REF_FREQ_MEAN : FldDesc := ⟨REF_FREQ, 31, 0⟩

/-- R94. -/
def REF_DRIFT : RegDesc := ⟨0x380110, 0x20, 0x0, 0x0⟩
def REF_DRIFT_SLOPE : FldDesc := ⟨REF_DRIFT, 31, 0⟩

/-! ### Ingest -/

/-- R108. -/
def ETH_CTRL : RegDesc := ⟨0x400000, 0x100, 0x0, 0x2400⟩
def ETH_CTRL_ENABLE : FldDesc := ⟨ETH_CTRL, 31, 31⟩
def ETH_CTRL_RATE : FldDesc := ⟨ETH_CTRL, 30, 30⟩
def ETH_CTRL_FEC : FldDesc := ⟨ETH_CTRL, 29, 29⟩
def ETH_CTRL_MAX_FRAME : FldDesc := ⟨ETH_CTRL, 13, 0⟩

/-- R108. -/
def ETH_STATUS : RegDesc := ⟨0x400004, 0x100, 0x0, 0x0⟩
def ETH_STATUS_LINK : FldDesc := ⟨ETH_STATUS, 31, 31⟩
def ETH_STATUS_LINK_LOST : FldDesc := ⟨ETH_STATUS, 30, 30⟩
def ETH_STATUS_FEC_ACTIVE : FldDesc := ⟨ETH_STATUS, 29, 29⟩

/-- R108. -/
def ETH_IPV4 : RegDesc := ⟨0x400008, 0x100, 0x0, 0x0⟩
def ETH_IPV4_ADDR : FldDesc := ⟨ETH_IPV4, 31, 0⟩

/-- R108. -/
def ETH_RX_OK : RegDesc := ⟨0x400010, 0x100, 0x0, 0x0⟩
def ETH_RX_OK_COUNT : FldDesc := ⟨ETH_RX_OK, 31, 0⟩

/-- R108. -/
def ETH_RX_FCS : RegDesc := ⟨0x400014, 0x100, 0x0, 0x0⟩
def ETH_RX_FCS_COUNT : FldDesc := ⟨ETH_RX_FCS, 31, 0⟩

/-- R106. -/
def ETH_RX_FRAG : RegDesc := ⟨0x400018, 0x100, 0x0, 0x0⟩
def ETH_RX_FRAG_COUNT : FldDesc := ⟨ETH_RX_FRAG, 31, 0⟩

/-- R107. -/
def ETH_RX_TOFW : RegDesc := ⟨0x40001c, 0x100, 0x0, 0x0⟩
def ETH_RX_TOFW_COUNT : FldDesc := ⟨ETH_RX_TOFW, 31, 0⟩

/-- R107. -/
def ETH_RX_UNUSED : RegDesc := ⟨0x400020, 0x100, 0x0, 0x0⟩
def ETH_RX_UNUSED_COUNT : FldDesc := ⟨ETH_RX_UNUSED, 31, 0⟩

/-- R126. -/
def INGEST_LOAD : RegDesc := ⟨0x400800, 0x0, 0x0, 0x0⟩
def INGEST_LOAD_LOAD : FldDesc := ⟨INGEST_LOAD, 19, 0⟩

/-- R126. -/
def INGEST_BUDGET : RegDesc := ⟨0x400804, 0x0, 0x0, 0x0⟩
def INGEST_BUDGET_BUDGET : FldDesc := ⟨INGEST_BUDGET, 19, 0⟩

/-- R110. -/
def FLOW_CTRL : RegDesc := ⟨0x410000, 0x40, 0x0, 0x0⟩
def FLOW_CTRL_APPLY : FldDesc := ⟨FLOW_CTRL, 31, 31⟩
def FLOW_CTRL_VALID : FldDesc := ⟨FLOW_CTRL, 30, 30⟩
def FLOW_CTRL_IPV6 : FldDesc := ⟨FLOW_CTRL, 29, 29⟩
def FLOW_CTRL_M_SRC : FldDesc := ⟨FLOW_CTRL, 28, 28⟩
def FLOW_CTRL_M_SSRC : FldDesc := ⟨FLOW_CTRL, 27, 27⟩
def FLOW_CTRL_M_VLAN : FldDesc := ⟨FLOW_CTRL, 26, 26⟩
def FLOW_CTRL_PORTS : FldDesc := ⟨FLOW_CTRL, 25, 22⟩
def FLOW_CTRL_LEG : FldDesc := ⟨FLOW_CTRL, 21, 21⟩
def FLOW_CTRL_ACTION : FldDesc := ⟨FLOW_CTRL, 20, 19⟩
def FLOW_CTRL_CONTEXT : FldDesc := ⟨FLOW_CTRL, 7, 0⟩

/-- R109. -/
def FLOW_PORT : RegDesc := ⟨0x410004, 0x40, 0x0, 0x0⟩
def FLOW_PORT_VLAN : FldDesc := ⟨FLOW_PORT, 27, 16⟩
def FLOW_PORT_DPORT : FldDesc := ⟨FLOW_PORT, 15, 0⟩

/-- R109. -/
def FLOW_SSRC : RegDesc := ⟨0x410008, 0x40, 0x0, 0x0⟩
def FLOW_SSRC_SSRC : FldDesc := ⟨FLOW_SSRC, 31, 0⟩

/-- R109. -/
def FLOW_DST : RegDesc := ⟨0x410010, 0x40, 0x4, 0x0⟩
def FLOW_DST_ADDR : FldDesc := ⟨FLOW_DST, 31, 0⟩

/-- R109. -/
def FLOW_SRC : RegDesc := ⟨0x410020, 0x40, 0x4, 0x0⟩
def FLOW_SRC_ADDR : FldDesc := ⟨FLOW_SRC, 31, 0⟩

/-- R109. -/
def FLOW_HITS : RegDesc := ⟨0x410030, 0x40, 0x0, 0x0⟩
def FLOW_HITS_HITS : FldDesc := ⟨FLOW_HITS, 31, 0⟩

/-- R123. -/
def CTX_STATUS : RegDesc := ⟨0x420000, 0x40, 0x0, 0x0⟩
def CTX_STATUS_STATE : FldDesc := ⟨CTX_STATUS, 31, 29⟩
def CTX_STATUS_GUARANTEED : FldDesc := ⟨CTX_STATUS, 28, 28⟩
def CTX_STATUS_DUAL : FldDesc := ⟨CTX_STATUS, 27, 27⟩
def CTX_STATUS_LEG1_ACTIVE : FldDesc := ⟨CTX_STATUS, 26, 26⟩
def CTX_STATUS_LEG0_ACTIVE : FldDesc := ⟨CTX_STATUS, 25, 25⟩
def CTX_STATUS_OPEN_FRAMES : FldDesc := ⟨CTX_STATUS, 24, 20⟩
def CTX_STATUS_REASON : FldDesc := ⟨CTX_STATUS, 15, 0⟩

/-- R123. -/
def CTX_CFG : RegDesc := ⟨0x420004, 0x40, 0x0, 0x0⟩
def CTX_CFG_TYPE : FldDesc := ⟨CTX_CFG, 31, 30⟩
def CTX_CFG_CLASS : FldDesc := ⟨CTX_CFG, 29, 28⟩
def CTX_CFG_PRIORITY : FldDesc := ⟨CTX_CFG, 27, 26⟩
def CTX_CFG_MERGE : FldDesc := ⟨CTX_CFG, 25, 24⟩
def CTX_CFG_RATE : FldDesc := ⟨CTX_CFG, 23, 20⟩
def CTX_CFG_ASM_TIMEOUT : FldDesc := ⟨CTX_CFG, 19, 16⟩
def CTX_CFG_FORMAT : FldDesc := ⟨CTX_CFG, 15, 12⟩
def CTX_CFG_PT : FldDesc := ⟨CTX_CFG, 7, 0⟩

/-- R127. -/
def CTX_ALLOW : RegDesc := ⟨0x420008, 0x40, 0x0, 0x0⟩
def CTX_ALLOW_ALLOWANCE : FldDesc := ⟨CTX_ALLOW, 31, 0⟩

/-- R127. -/
def CTX_PEAK : RegDesc := ⟨0x42000c, 0x40, 0x0, 0x0⟩
def CTX_PEAK_PEAK_M1 : FldDesc := ⟨CTX_PEAK, 15, 0⟩

/-- R119. -/
def CTX_PM_LO : RegDesc := ⟨0x420010, 0x40, 0x0, 0x0⟩
def CTX_PM_LO_PM : FldDesc := ⟨CTX_PM_LO, 31, 0⟩

/-- R119. -/
def CTX_PM_HI : RegDesc := ⟨0x420014, 0x40, 0x0, 0x0⟩
def CTX_PM_HI_PM : FldDesc := ⟨CTX_PM_HI, 31, 0⟩

/-- R123. -/
def FRAMES_OK : RegDesc := ⟨0x420020, 0x40, 0x0, 0x0⟩
def FRAMES_OK_COUNT : FldDesc := ⟨FRAMES_OK, 31, 0⟩

/-- R115. -/
def FRAMES_IMPAIRED : RegDesc := ⟨0x420024, 0x40, 0x0, 0x0⟩
def FRAMES_IMPAIRED_COUNT : FldDesc := ⟨FRAMES_IMPAIRED, 31, 0⟩

/-- R116. -/
def DISCARD_PARTIAL : RegDesc := ⟨0x420028, 0x40, 0x0, 0x0⟩
def DISCARD_PARTIAL_COUNT : FldDesc := ⟨DISCARD_PARTIAL, 31, 0⟩

/-- R115. -/
def DISCARD_GAP : RegDesc := ⟨0x42002c, 0x40, 0x0, 0x0⟩
def DISCARD_GAP_COUNT : FldDesc := ⟨DISCARD_GAP, 31, 0⟩

/-- R123. -/
def DISCARD_SYNC : RegDesc := ⟨0x420030, 0x40, 0x0, 0x0⟩
def DISCARD_SYNC_COUNT : FldDesc := ⟨DISCARD_SYNC, 31, 0⟩

/-- R117. -/
def DISCARD_OVERSIZE : RegDesc := ⟨0x420034, 0x40, 0x0, 0x0⟩
def DISCARD_OVERSIZE_COUNT : FldDesc := ⟨DISCARD_OVERSIZE, 31, 0⟩

/-- R120. -/
def CAPT_BACKWARD : RegDesc := ⟨0x420038, 0x40, 0x0, 0x0⟩
def CAPT_BACKWARD_COUNT : FldDesc := ⟨CAPT_BACKWARD, 31, 0⟩

/-- R111. -/
def PKT_COUNTS : RegDesc := ⟨0x42003c, 0x40, 0x0, 0x0⟩
def PKT_COUNTS_DUP : FldDesc := ⟨PKT_COUNTS, 29, 20⟩
def PKT_COUNTS_LATE : FldDesc := ⟨PKT_COUNTS, 19, 10⟩
def PKT_COUNTS_UNSUPPORTED : FldDesc := ⟨PKT_COUNTS, 9, 0⟩

/-! ### Decode -/

/-- R138. -/
def DEC_ENG_STATUS : RegDesc := ⟨0x600000, 0x10, 0x0, 0x0⟩
def DEC_ENG_STATUS_BUSY : FldDesc := ⟨DEC_ENG_STATUS, 31, 31⟩
def DEC_ENG_STATUS_FAILED : FldDesc := ⟨DEC_ENG_STATUS, 30, 30⟩
def DEC_ENG_STATUS_CONTEXT : FldDesc := ⟨DEC_ENG_STATUS, 23, 16⟩
def DEC_ENG_STATUS_FRAMES : FldDesc := ⟨DEC_ENG_STATUS, 15, 0⟩

/-- R140. -/
def DEC_GLOAD : RegDesc := ⟨0x600100, 0x0, 0x0, 0x0⟩
def DEC_GLOAD_LOAD : FldDesc := ⟨DEC_GLOAD, 21, 0⟩

/-- R138. -/
def DEC_CAPACITY : RegDesc := ⟨0x600104, 0x0, 0x0, 0x0⟩
def DEC_CAPACITY_C : FldDesc := ⟨DEC_CAPACITY, 21, 0⟩

/-- R141. -/
def DEC_UTIL : RegDesc := ⟨0x600108, 0x0, 0x0, 0x0⟩
def DEC_UTIL_UTIL : FldDesc := ⟨DEC_UTIL, 9, 0⟩

/-- R147. -/
def DCTX_STATUS : RegDesc := ⟨0x610000, 0x40, 0x0, 0x0⟩
def DCTX_STATUS_STATE : FldDesc := ⟨DCTX_STATUS, 31, 29⟩
def DCTX_STATUS_SERVICE : FldDesc := ⟨DCTX_STATUS, 28, 26⟩
def DCTX_STATUS_IMPAIRED : FldDesc := ⟨DCTX_STATUS, 25, 25⟩
def DCTX_STATUS_FROZEN : FldDesc := ⟨DCTX_STATUS, 24, 24⟩
def DCTX_STATUS_REFRESHING : FldDesc := ⟨DCTX_STATUS, 23, 23⟩
def DCTX_STATUS_UNSUP_CAUSE : FldDesc := ⟨DCTX_STATUS, 19, 16⟩
def DCTX_STATUS_REASON : FldDesc := ⟨DCTX_STATUS, 15, 0⟩

/-- R148. -/
def DCTX_CFG : RegDesc := ⟨0x610004, 0x40, 0x0, 0x0⟩
def DCTX_CFG_DEPTH10 : FldDesc := ⟨DCTX_CFG, 31, 31⟩
def DCTX_CFG_SLOTS : FldDesc := ⟨DCTX_CFG, 28, 24⟩
def DCTX_CFG_LEASE_M1 : FldDesc := ⟨DCTX_CFG, 22, 20⟩
def DCTX_CFG_DPB_M1 : FldDesc := ⟨DCTX_CFG, 19, 16⟩
def DCTX_CFG_TYPE : FldDesc := ⟨DCTX_CFG, 13, 12⟩
def DCTX_CFG_FORMAT : FldDesc := ⟨DCTX_CFG, 11, 8⟩

/-- R148. -/
def DCTX_SIZE : RegDesc := ⟨0x610008, 0x40, 0x0, 0x0⟩
def DCTX_SIZE_MAXW_M1 : FldDesc := ⟨DCTX_SIZE, 27, 16⟩
def DCTX_SIZE_MAXH_M1 : FldDesc := ⟨DCTX_SIZE, 11, 0⟩

/-- R146. -/
def DCTX_FROZEN_RUN : RegDesc := ⟨0x61000c, 0x40, 0x0, 0x0⟩
def DCTX_FROZEN_RUN_RUN : FldDesc := ⟨DCTX_FROZEN_RUN, 15, 0⟩

/-- R148. -/
def DCTX_POOL_LO : RegDesc := ⟨0x610010, 0x40, 0x0, 0x0⟩
def DCTX_POOL_LO_BASE : FldDesc := ⟨DCTX_POOL_LO, 31, 0⟩

/-- R148. -/
def DCTX_POOL_HI : RegDesc := ⟨0x610014, 0x40, 0x0, 0x0⟩
def DCTX_POOL_HI_BASE : FldDesc := ⟨DCTX_POOL_HI, 31, 0⟩

/-- R134. -/
def DCTX_REF_MASK : RegDesc := ⟨0x610018, 0x40, 0x0, 0x0⟩
def DCTX_REF_MASK_MASK : FldDesc := ⟨DCTX_REF_MASK, 31, 0⟩

/-- R134. -/
def DCTX_LEASE_MASK : RegDesc := ⟨0x61001c, 0x40, 0x0, 0x0⟩
def DCTX_LEASE_MASK_MASK : FldDesc := ⟨DCTX_LEASE_MASK, 31, 0⟩

/-- R134. -/
def DCTX_OUT : RegDesc := ⟨0x610020, 0x40, 0x0, 0x0⟩
def DCTX_OUT_VALID : FldDesc := ⟨DCTX_OUT, 31, 31⟩
def DCTX_OUT_SLOT : FldDesc := ⟨DCTX_OUT, 4, 0⟩

/-- R139. -/
def DCTX_LOAD : RegDesc := ⟨0x610024, 0x40, 0x0, 0x0⟩
def DCTX_LOAD_LOAD : FldDesc := ⟨DCTX_LOAD, 31, 0⟩

/-- R134. -/
def FRAMES_DECODED : RegDesc := ⟨0x610028, 0x40, 0x0, 0x0⟩
def FRAMES_DECODED_COUNT : FldDesc := ⟨FRAMES_DECODED, 31, 0⟩

/-- R144. -/
def FRAMES_IMPAIRED_DEC : RegDesc := ⟨0x61002c, 0x40, 0x0, 0x0⟩
def FRAMES_IMPAIRED_DEC_COUNT : FldDesc := ⟨FRAMES_IMPAIRED_DEC, 31, 0⟩

/-- R141. -/
def DROPPED_NONREF : RegDesc := ⟨0x610030, 0x40, 0x0, 0x0⟩
def DROPPED_NONREF_COUNT : FldDesc := ⟨DROPPED_NONREF, 31, 0⟩

/-- R141. -/
def DROPPED_SHED : RegDesc := ⟨0x610034, 0x40, 0x0, 0x0⟩
def DROPPED_SHED_COUNT : FldDesc := ⟨DROPPED_SHED, 31, 0⟩

/-- R137. -/
def RESETS : RegDesc := ⟨0x610038, 0x40, 0x0, 0x0⟩
def RESETS_COUNT : FldDesc := ⟨RESETS, 31, 0⟩

/-- R143. -/
def DEC_COUNTS : RegDesc := ⟨0x61003c, 0x40, 0x0, 0x0⟩
def DEC_COUNTS_SUBSTITUTIONS : FldDesc := ⟨DEC_COUNTS, 29, 20⟩
def DEC_COUNTS_OVERRUN : FldDesc := ⟨DEC_COUNTS, 19, 10⟩
def DEC_COUNTS_NO_SLOT : FldDesc := ⟨DEC_COUNTS, 9, 0⟩

/-! ### Layers -/

/-- R152, R158. -/
def LD_SHADOW : RegDesc := ⟨0x800000, 0x100, 0x4, 0x0⟩
def LD_SHADOW_WORD : FldDesc := ⟨LD_SHADOW, 31, 0⟩

/-- R152. -/
def LD_CURRENT : RegDesc := ⟨0x800060, 0x100, 0x4, 0x0⟩
def LD_CURRENT_WORD : FldDesc := ⟨LD_CURRENT, 31, 0⟩

/-- R152. -/
def LAYER_STATUS : RegDesc := ⟨0x8000c0, 0x100, 0x0, 0x0⟩
def LAYER_STATUS_ACTIVE : FldDesc := ⟨LAYER_STATUS, 31, 31⟩
def LAYER_STATUS_GUARANTEED : FldDesc := ⟨LAYER_STATUS, 30, 30⟩
def LAYER_STATUS_SERVICE : FldDesc := ⟨LAYER_STATUS, 29, 27⟩
def LAYER_STATUS_FRESH : FldDesc := ⟨LAYER_STATUS, 26, 24⟩
def LAYER_STATUS_SPAN_SKEW : FldDesc := ⟨LAYER_STATUS, 23, 23⟩
def LAYER_STATUS_SPAN_LATE : FldDesc := ⟨LAYER_STATUS, 22, 22⟩
def LAYER_STATUS_SCALED : FldDesc := ⟨LAYER_STATUS, 21, 21⟩
def LAYER_STATUS_REASON : FldDesc := ⟨LAYER_STATUS, 15, 0⟩

/-- R152. -/
def LAYER_SEQ : RegDesc := ⟨0x8000c4, 0x100, 0x0, 0x0⟩
def LAYER_SEQ_SEQ : FldDesc := ⟨LAYER_SEQ, 31, 0⟩

/-- R152. -/
def LAYER_ORIGIN : RegDesc := ⟨0x8000c8, 0x100, 0x0, 0x0⟩
def LAYER_ORIGIN_MODULE : FldDesc := ⟨LAYER_ORIGIN, 24, 16⟩
def LAYER_ORIGIN_QUEUE : FldDesc := ⟨LAYER_ORIGIN, 3, 0⟩

/-- R158. -/
def LAYER_REFUSAL : RegDesc := ⟨0x8000cc, 0x100, 0x0, 0x0⟩
def LAYER_REFUSAL_SEQ : FldDesc := ⟨LAYER_REFUSAL, 31, 16⟩
def LAYER_REFUSAL_REASON : FldDesc := ⟨LAYER_REFUSAL, 15, 0⟩

/-- R159. -/
def LAYER_COST : RegDesc := ⟨0x8000d0, 0x100, 0x0, 0x0⟩
def LAYER_COST_COST : FldDesc := ⟨LAYER_COST, 15, 0⟩

/-- R200. -/
def LAYER_PM_LO : RegDesc := ⟨0x8000d4, 0x100, 0x0, 0x0⟩
def LAYER_PM_LO_PM : FldDesc := ⟨LAYER_PM_LO, 31, 0⟩

/-- R200. -/
def LAYER_PM_HI : RegDesc := ⟨0x8000d8, 0x100, 0x0, 0x0⟩
def LAYER_PM_HI_PM : FldDesc := ⟨LAYER_PM_HI, 31, 0⟩

/-- R201. -/
def LAYER_AGE : RegDesc := ⟨0x8000dc, 0x100, 0x0, 0x0⟩
def LAYER_AGE_AGE : FldDesc := ⟨LAYER_AGE, 31, 0⟩

/-- R154. -/
def GRP_PENDING : RegDesc := ⟨0x9f0000, 0x20, 0x0, 0x0⟩
def GRP_PENDING_PENDING : FldDesc := ⟨GRP_PENDING, 15, 0⟩

/-- R150. -/
def GRP_FRAME : RegDesc := ⟨0x9f0004, 0x20, 0x0, 0x0⟩
def GRP_FRAME_N : FldDesc := ⟨GRP_FRAME, 31, 0⟩

/-- R159. -/
def GRP_DG : RegDesc := ⟨0x9f0008, 0x20, 0x0, 0x0⟩
def GRP_DG_DG : FldDesc := ⟨GRP_DG, 31, 0⟩

/-- R159. -/
def GRP_DA : RegDesc := ⟨0x9f000c, 0x20, 0x0, 0x0⟩
def GRP_DA_DA : FldDesc := ⟨GRP_DA, 31, 0⟩

/-- R159. -/
def GRP_CAPACITY : RegDesc := ⟨0x9f0010, 0x20, 0x0, 0x0⟩
def GRP_CAPACITY_CAP : FldDesc := ⟨GRP_CAPACITY, 31, 0⟩

/-- R159. -/
def GRP_FETCH : RegDesc := ⟨0x9f0014, 0x20, 0x0, 0x0⟩
def GRP_FETCH_FETCH : FldDesc := ⟨GRP_FETCH, 31, 0⟩

/-- R151. -/
def GRP_CANVAS : RegDesc := ⟨0x9f0018, 0x20, 0x0, 0x0⟩
def GRP_CANVAS_MEMBER : FldDesc := ⟨GRP_CANVAS, 15, 15⟩
def GRP_CANVAS_CANVAS : FldDesc := ⟨GRP_CANVAS, 9, 0⟩

/-! ### Chase -/

/-- R205. -/
def GRP_TRANSIT : RegDesc := ⟨0x9f001c, 0x20, 0x0, 0x0⟩
def GRP_TRANSIT_TA : FldDesc := ⟨GRP_TRANSIT, 19, 0⟩

/-! ### Pixel pipeline -/

/-- R187. -/
def HEAD_OUT_FMT : RegDesc := ⟨0x900040, 0x100, 0x0, 0x84000000⟩
def HEAD_OUT_FMT_DITHER : FldDesc := ⟨HEAD_OUT_FMT, 31, 31⟩
def HEAD_OUT_FMT_TF : FldDesc := ⟨HEAD_OUT_FMT, 28, 26⟩
def HEAD_OUT_FMT_GAMUT : FldDesc := ⟨HEAD_OUT_FMT, 25, 24⟩

/-- R187. -/
def HEAD_OUT_FMT_CUR : RegDesc := ⟨0x900044, 0x100, 0x0, 0x84000000⟩
def HEAD_OUT_FMT_CUR_DITHER : FldDesc := ⟨HEAD_OUT_FMT_CUR, 31, 31⟩
def HEAD_OUT_FMT_CUR_TF : FldDesc := ⟨HEAD_OUT_FMT_CUR, 28, 26⟩
def HEAD_OUT_FMT_CUR_GAMUT : FldDesc := ⟨HEAD_OUT_FMT_CUR, 25, 24⟩

/-- R183. -/
def SCALER_STATUS : RegDesc := ⟨0x90e000, 0x4, 0x0, 0x0⟩
def SCALER_STATUS_IN_USE : FldDesc := ⟨SCALER_STATUS, 31, 31⟩
def SCALER_STATUS_FAILED : FldDesc := ⟨SCALER_STATUS, 30, 30⟩
def SCALER_STATUS_BOUND : FldDesc := ⟨SCALER_STATUS, 29, 29⟩
def SCALER_STATUS_GROUP : FldDesc := ⟨SCALER_STATUS, 26, 24⟩
def SCALER_STATUS_LAYER : FldDesc := ⟨SCALER_STATUS, 11, 0⟩

/-! ### Chase -/

/-- R192. -/
def HEAD_CHASE_LEAD : RegDesc := ⟨0x900000, 0x100, 0x0, 0x80⟩
def HEAD_CHASE_LEAD_LEAD : FldDesc := ⟨HEAD_CHASE_LEAD, 11, 0⟩

/-- R192. -/
def HEAD_CHASE_LEAD_CUR : RegDesc := ⟨0x900004, 0x100, 0x0, 0x80⟩
def HEAD_CHASE_LEAD_CUR_LEAD : FldDesc := ⟨HEAD_CHASE_LEAD_CUR, 11, 0⟩

/-- R196. -/
def HEAD_CHASE_STATUS : RegDesc := ⟨0x900008, 0x100, 0x0, 0x0⟩
def HEAD_CHASE_STATUS_LATE : FldDesc := ⟨HEAD_CHASE_STATUS, 31, 31⟩
def HEAD_CHASE_STATUS_REDUCED : FldDesc := ⟨HEAD_CHASE_STATUS, 30, 30⟩
def HEAD_CHASE_STATUS_ECC : FldDesc := ⟨HEAD_CHASE_STATUS, 29, 29⟩
def HEAD_CHASE_STATUS_MARGIN_MIN : FldDesc := ⟨HEAD_CHASE_STATUS, 27, 16⟩
def HEAD_CHASE_STATUS_REDUCE_AT : FldDesc := ⟨HEAD_CHASE_STATUS, 11, 0⟩

/-- R196. -/
def HEAD_LATE_LINES : RegDesc := ⟨0x90000c, 0x100, 0x0, 0x0⟩
def HEAD_LATE_LINES_COUNT : FldDesc := ⟨HEAD_LATE_LINES, 31, 0⟩

/-- R198. -/
def HEAD_REDUCED_LINES : RegDesc := ⟨0x900010, 0x100, 0x0, 0x0⟩
def HEAD_REDUCED_LINES_COUNT : FldDesc := ⟨HEAD_REDUCED_LINES, 31, 0⟩

/-- R204. -/
def HEAD_SKEW_COUNT : RegDesc := ⟨0x900014, 0x100, 0x0, 0x0⟩
def HEAD_SKEW_COUNT_COUNT : FldDesc := ⟨HEAD_SKEW_COUNT, 31, 0⟩

/-- R188. -/
def HEAD_PART_BASE : RegDesc := ⟨0x900018, 0x100, 0x0, 0x0⟩
def HEAD_PART_BASE_BASE : FldDesc := ⟨HEAD_PART_BASE, 31, 0⟩

/-- R188. -/
def HEAD_PART_SIZE : RegDesc := ⟨0x90001c, 0x100, 0x0, 0x0⟩
def HEAD_PART_SIZE_SIZE : FldDesc := ⟨HEAD_PART_SIZE, 31, 0⟩

/-- R196. -/
def HEAD_LAST_LATE : RegDesc := ⟨0x900020, 0x100, 0x0, 0x0⟩
def HEAD_LAST_LATE_N : FldDesc := ⟨HEAD_LAST_LATE, 31, 16⟩
def HEAD_LAST_LATE_LINE : FldDesc := ⟨HEAD_LAST_LATE, 11, 0⟩

/-- R206. -/
def GOV_STATUS : RegDesc := ⟨0x90f000, 0x0, 0x0, 0x18⟩
def GOV_STATUS_THERMAL : FldDesc := ⟨GOV_STATUS, 31, 31⟩
def GOV_STATUS_AT_CEILING : FldDesc := ⟨GOV_STATUS, 30, 30⟩
def GOV_STATUS_HOTTEST : FldDesc := ⟨GOV_STATUS, 23, 16⟩
def GOV_STATUS_FLOOR : FldDesc := ⟨GOV_STATUS, 13, 8⟩
def GOV_STATUS_CODE : FldDesc := ⟨GOV_STATUS, 5, 0⟩

/-- R207. -/
def GOV_LIMIT : RegDesc := ⟨0x90f004, 0x0, 0x0, 0x30⟩
def GOV_LIMIT_CEIL : FldDesc := ⟨GOV_LIMIT, 5, 0⟩

/-- R208. -/
def GOV_SHEDS : RegDesc := ⟨0x90f008, 0x0, 0x0, 0x0⟩
def GOV_SHEDS_COUNT : FldDesc := ⟨GOV_SHEDS, 31, 0⟩

/-! ### Display -/

/-- R229. -/
def HEAD_MODE : RegDesc := ⟨0x900048, 0x100, 0x0, 0x80000000⟩
def HEAD_MODE_BPC10 : FldDesc := ⟨HEAD_MODE, 31, 31⟩
def HEAD_MODE_MODE : FldDesc := ⟨HEAD_MODE, 5, 0⟩

/-- R229. -/
def HEAD_MODE_CUR : RegDesc := ⟨0x90004c, 0x100, 0x0, 0x80000000⟩
def HEAD_MODE_CUR_BPC10 : FldDesc := ⟨HEAD_MODE_CUR, 31, 31⟩
def HEAD_MODE_CUR_MODE : FldDesc := ⟨HEAD_MODE_CUR, 5, 0⟩

/-- R223. -/
def HEAD_ASYNC : RegDesc := ⟨0x900050, 0x100, 0x0, 0x3b⟩
def HEAD_ASYNC_ENABLE : FldDesc := ⟨HEAD_ASYNC, 31, 31⟩
def HEAD_ASYNC_DIV : FldDesc := ⟨HEAD_ASYNC, 25, 24⟩
def HEAD_ASYNC_HOLD_M1 : FldDesc := ⟨HEAD_ASYNC, 7, 0⟩

/-- R216. -/
def HEAD_DISP_STATUS : RegDesc := ⟨0x900054, 0x100, 0x0, 0x0⟩
def HEAD_DISP_STATUS_STATE : FldDesc := ⟨HEAD_DISP_STATUS, 31, 29⟩
def HEAD_DISP_STATUS_LOWERED : FldDesc := ⟨HEAD_DISP_STATUS, 28, 28⟩
def HEAD_DISP_STATUS_CAUSE : FldDesc := ⟨HEAD_DISP_STATUS, 27, 24⟩
def HEAD_DISP_STATUS_PORT : FldDesc := ⟨HEAD_DISP_STATUS, 19, 16⟩
def HEAD_DISP_STATUS_STREAM : FldDesc := ⟨HEAD_DISP_STATUS, 15, 15⟩

/-- R228. -/
def HEAD_WB_CTRL : RegDesc := ⟨0x900058, 0x100, 0x0, 0x0⟩
def HEAD_WB_CTRL_ENABLE : FldDesc := ⟨HEAD_WB_CTRL, 31, 31⟩
def HEAD_WB_CTRL_FMT : FldDesc := ⟨HEAD_WB_CTRL, 27, 26⟩
def HEAD_WB_CTRL_MATRIX : FldDesc := ⟨HEAD_WB_CTRL, 25, 24⟩
def HEAD_WB_CTRL_FULL : FldDesc := ⟨HEAD_WB_CTRL, 23, 23⟩
def HEAD_WB_CTRL_NBUF : FldDesc := ⟨HEAD_WB_CTRL, 19, 18⟩

/-- R228. -/
def HEAD_WB_BASE_LO : RegDesc := ⟨0x90005c, 0x100, 0x0, 0x0⟩
def HEAD_WB_BASE_LO_ADDR : FldDesc := ⟨HEAD_WB_BASE_LO, 31, 16⟩

/-- R228. -/
def HEAD_WB_BASE_HI : RegDesc := ⟨0x900060, 0x100, 0x0, 0x0⟩
def HEAD_WB_BASE_HI_ADDR : FldDesc := ⟨HEAD_WB_BASE_HI, 3, 0⟩

/-- R227. -/
def HEAD_WB_STATUS : RegDesc := ⟨0x900064, 0x100, 0x0, 0x0⟩
def HEAD_WB_STATUS_ACTIVE : FldDesc := ⟨HEAD_WB_STATUS, 31, 31⟩
def HEAD_WB_STATUS_OUT : FldDesc := ⟨HEAD_WB_STATUS, 25, 24⟩
def HEAD_WB_STATUS_OUT_VALID : FldDesc := ⟨HEAD_WB_STATUS, 23, 23⟩
def HEAD_WB_STATUS_ROW : FldDesc := ⟨HEAD_WB_STATUS, 11, 0⟩

/-- R227. -/
def WB_FRAME : RegDesc := ⟨0x900068, 0x100, 0x0, 0x0⟩
def WB_FRAME_N : FldDesc := ⟨WB_FRAME, 31, 0⟩

/-- R227. -/
def WB_SKIPPED : RegDesc := ⟨0x90006c, 0x100, 0x0, 0x0⟩
def WB_SKIPPED_COUNT : FldDesc := ⟨WB_SKIPPED, 31, 0⟩

/-- R225. -/
def WB_SIZE : RegDesc := ⟨0x900070, 0x100, 0x0, 0x0⟩
def WB_SIZE_SIZE : FldDesc := ⟨WB_SIZE, 31, 0⟩

/-- R229. -/
def DP_CTRL : RegDesc := ⟨0x908000, 0x100, 0x0, 0xb000000⟩
def DP_CTRL_APPLY : FldDesc := ⟨DP_CTRL, 31, 31⟩
def DP_CTRL_SSC : FldDesc := ⟨DP_CTRL, 30, 30⟩
def DP_CTRL_MAX_LANES : FldDesc := ⟨DP_CTRL, 27, 26⟩
def DP_CTRL_MAX_RATE : FldDesc := ⟨DP_CTRL, 25, 24⟩

/-- R216. -/
def DP_STATUS : RegDesc := ⟨0x908004, 0x100, 0x0, 0x0⟩
def DP_STATUS_HPD : FldDesc := ⟨DP_STATUS, 31, 31⟩
def DP_STATUS_LINK_UP : FldDesc := ⟨DP_STATUS, 30, 30⟩
def DP_STATUS_MST : FldDesc := ⟨DP_STATUS, 29, 29⟩
def DP_STATUS_ASYNC_CAP : FldDesc := ⟨DP_STATUS, 28, 28⟩
def DP_STATUS_LANES : FldDesc := ⟨DP_STATUS, 27, 26⟩
def DP_STATUS_RATE : FldDesc := ⟨DP_STATUS, 25, 24⟩
def DP_STATUS_HPD_LOST : FldDesc := ⟨DP_STATUS, 23, 23⟩

/-- R215. -/
def DP_TRAINS : RegDesc := ⟨0x908008, 0x100, 0x0, 0x0⟩
def DP_TRAINS_COUNT : FldDesc := ⟨DP_TRAINS, 31, 0⟩

/-- R215. -/
def DP_FAILS : RegDesc := ⟨0x90800c, 0x100, 0x0, 0x0⟩
def DP_FAILS_COUNT : FldDesc := ⟨DP_FAILS, 31, 0⟩

/-! ### Freshness -/

/-- R249. -/
def FRESH_SUMMARY : RegDesc := ⟨0xa00000, 0x0, 0x0, 0x0⟩
def FRESH_SUMMARY_BOUND : FldDesc := ⟨FRESH_SUMMARY, 26, 16⟩
def FRESH_SUMMARY_WORD : FldDesc := ⟨FRESH_SUMMARY, 15, 0⟩

/-- R249. -/
def ALARM_CAUSE : RegDesc := ⟨0xa00004, 0x0, 0x0, 0x0⟩
def ALARM_CAUSE_CAUSE : FldDesc := ⟨ALARM_CAUSE, 15, 11⟩

/-- R252. -/
def SSP_CTRL : RegDesc := ⟨0xa00008, 0x0, 0x0, 0x80000000⟩
def SSP_CTRL_DRIVE : FldDesc := ⟨SSP_CTRL, 31, 31⟩

/-- R252. -/
def SSP_READS : RegDesc := ⟨0xa0000c, 0x0, 0x0, 0x0⟩
def SSP_READS_COUNT : FldDesc := ⟨SSP_READS, 31, 0⟩

/-- R248. -/
def VIEW_MAP : RegDesc := ⟨0xa01000, 0x4, 0x0, 0x0⟩
def VIEW_MAP_BOUND : FldDesc := ⟨VIEW_MAP, 31, 31⟩
def VIEW_MAP_LAYER : FldDesc := ⟨VIEW_MAP, 11, 0⟩

/-- R250. -/
def SSP_IMAGE : RegDesc := ⟨0xa02000, 0x4, 0x0, 0x0⟩
def SSP_IMAGE_WORD : FldDesc := ⟨SSP_IMAGE, 15, 0⟩

/-- R247. -/
def TST_CTRL : RegDesc := ⟨0xa10000, 0x80, 0x0, 0x0⟩
def TST_CTRL_ENABLE : FldDesc := ⟨TST_CTRL, 31, 31⟩
def TST_CTRL_MODE : FldDesc := ⟨TST_CTRL, 30, 28⟩
def TST_CTRL_HEAD : FldDesc := ⟨TST_CTRL, 27, 23⟩
def TST_CTRL_ALARM : FldDesc := ⟨TST_CTRL, 22, 22⟩
def TST_CTRL_NOTIFY : FldDesc := ⟨TST_CTRL, 21, 21⟩
def TST_CTRL_VIEW_EN : FldDesc := ⟨TST_CTRL, 20, 20⟩
def TST_CTRL_MISS_M1 : FldDesc := ⟨TST_CTRL, 19, 16⟩
def TST_CTRL_VIEW : FldDesc := ⟨TST_CTRL, 9, 0⟩

/-- R247. -/
def TST_POS : RegDesc := ⟨0xa10004, 0x80, 0x0, 0x0⟩
def TST_POS_X : FldDesc := ⟨TST_POS, 31, 16⟩
def TST_POS_Y : FldDesc := ⟨TST_POS, 15, 0⟩

/-- R247. -/
def TST_SIZE : RegDesc := ⟨0xa10008, 0x80, 0x0, 0x0⟩
def TST_SIZE_W : FldDesc := ⟨TST_SIZE, 31, 16⟩
def TST_SIZE_H : FldDesc := ⟨TST_SIZE, 15, 0⟩

/-- R245. -/
def TST_EXP : RegDesc := ⟨0xa1000c, 0x80, 0x4, 0x0⟩
def TST_EXP_SIG : FldDesc := ⟨TST_EXP, 31, 0⟩

/-- R247. -/
def TST_CUR : RegDesc := ⟨0xa10040, 0x80, 0x4, 0x0⟩
def TST_CUR_WORD : FldDesc := ⟨TST_CUR, 31, 0⟩

/-- R243. -/
def TST_SIG : RegDesc := ⟨0xa10070, 0x80, 0x0, 0x0⟩
def TST_SIG_SIG : FldDesc := ⟨TST_SIG, 31, 0⟩

/-- R246. -/
def TST_STATUS : RegDesc := ⟨0xa10074, 0x80, 0x0, 0x0⟩
def TST_STATUS_MISMATCH : FldDesc := ⟨TST_STATUS, 31, 31⟩
def TST_STATUS_EVER : FldDesc := ⟨TST_STATUS, 30, 30⟩
def TST_STATUS_RUN : FldDesc := ⟨TST_STATUS, 15, 0⟩

/-- R243. -/
def TST_FRAME : RegDesc := ⟨0xa10078, 0x80, 0x0, 0x0⟩
def TST_FRAME_N : FldDesc := ⟨TST_FRAME, 31, 0⟩

/-! ### Encode -/

/-- R262. -/
def ENC_ENG_STATUS : RegDesc := ⟨0x600200, 0x10, 0x0, 0x0⟩
def ENC_ENG_STATUS_BUSY : FldDesc := ⟨ENC_ENG_STATUS, 31, 31⟩
def ENC_ENG_STATUS_FAILED : FldDesc := ⟨ENC_ENG_STATUS, 30, 30⟩
def ENC_ENG_STATUS_BACKLOG : FldDesc := ⟨ENC_ENG_STATUS, 29, 29⟩
def ENC_ENG_STATUS_CONTEXT : FldDesc := ⟨ENC_ENG_STATUS, 23, 16⟩
def ENC_ENG_STATUS_ROWS : FldDesc := ⟨ENC_ENG_STATUS, 15, 0⟩

/-- R262. -/
def ENC_ENG_GLOAD : RegDesc := ⟨0x600204, 0x10, 0x0, 0x0⟩
def ENC_ENG_GLOAD_LOAD : FldDesc := ⟨ENC_ENG_GLOAD, 21, 0⟩

/-- R262. -/
def ENC_ENG_LOAD : RegDesc := ⟨0x600208, 0x10, 0x0, 0x0⟩
def ENC_ENG_LOAD_LOAD : FldDesc := ⟨ENC_ENG_LOAD, 21, 0⟩

/-- R258. -/
def ENC_STATUS : RegDesc := ⟨0x620000, 0x40, 0x0, 0x0⟩
def ENC_STATUS_STATE : FldDesc := ⟨ENC_STATUS, 31, 29⟩
def ENC_STATUS_SERVICE : FldDesc := ⟨ENC_STATUS, 28, 26⟩
def ENC_STATUS_ENGINE : FldDesc := ⟨ENC_STATUS, 25, 25⟩
def ENC_STATUS_CANDIDATE : FldDesc := ⟨ENC_STATUS, 24, 24⟩
def ENC_STATUS_VOIDED : FldDesc := ⟨ENC_STATUS, 23, 23⟩
def ENC_STATUS_WAIT_CAUSE : FldDesc := ⟨ENC_STATUS, 22, 20⟩
def ENC_STATUS_REASON : FldDesc := ⟨ENC_STATUS, 15, 0⟩

/-- R266. -/
def ENC_CTRL : RegDesc := ⟨0x620004, 0x40, 0x0, 0x0⟩
def ENC_CTRL_TEST : FldDesc := ⟨ENC_CTRL, 31, 31⟩

/-- R271. -/
def ENC_WPTR : RegDesc := ⟨0x620008, 0x40, 0x0, 0x0⟩
def ENC_WPTR_PTR : FldDesc := ⟨ENC_WPTR, 27, 0⟩

/-- R271. -/
def ENC_RPTR : RegDesc := ⟨0x62000c, 0x40, 0x0, 0x0⟩
def ENC_RPTR_PTR : FldDesc := ⟨ENC_RPTR, 27, 0⟩

/-- R263. -/
def ENC_FRAME : RegDesc := ⟨0x620010, 0x40, 0x0, 0x0⟩
def ENC_FRAME_N : FldDesc := ⟨ENC_FRAME, 31, 0⟩

/-- R262. -/
def ENC_LOAD : RegDesc := ⟨0x620014, 0x40, 0x0, 0x0⟩
def ENC_LOAD_LOAD : FldDesc := ⟨ENC_LOAD, 31, 0⟩

/-- R273. -/
def FRAMES_ENCODED : RegDesc := ⟨0x620018, 0x40, 0x0, 0x0⟩
def FRAMES_ENCODED_COUNT : FldDesc := ⟨FRAMES_ENCODED, 31, 0⟩

/-- R268. -/
def ROWS_SKIPPED : RegDesc := ⟨0x62001c, 0x40, 0x0, 0x0⟩
def ROWS_SKIPPED_COUNT : FldDesc := ⟨ROWS_SKIPPED, 31, 0⟩

/-- R261. -/
def ROWS_LATE : RegDesc := ⟨0x620020, 0x40, 0x0, 0x0⟩
def ROWS_LATE_COUNT : FldDesc := ⟨ROWS_LATE, 31, 0⟩

/-- R271. -/
def RING_DROPS : RegDesc := ⟨0x620024, 0x40, 0x0, 0x0⟩
def RING_DROPS_COUNT : FldDesc := ⟨RING_DROPS, 31, 0⟩

/-- R267. -/
def ENC_LAST_BYTES : RegDesc := ⟨0x620028, 0x40, 0x0, 0x0⟩
def ENC_LAST_BYTES_BYTES : FldDesc := ⟨ENC_LAST_BYTES, 31, 0⟩

/-- R270. -/
def SEI_USED : RegDesc := ⟨0x620030, 0x40, 0x0, 0x0⟩
def SEI_USED_COUNT : FldDesc := ⟨SEI_USED, 31, 0⟩

/-- R270. -/
def SEI_BAD : RegDesc := ⟨0x620034, 0x40, 0x0, 0x0⟩
def SEI_BAD_COUNT : FldDesc := ⟨SEI_BAD, 31, 0⟩

/-! ### Operator I/O -/

/-- R286. -/
def TCH_CTRL : RegDesc := ⟨0x1000000, 0x1000, 0x0, 0x472f00⟩
def TCH_CTRL_APPLY : FldDesc := ⟨TCH_CTRL, 31, 31⟩
def TCH_CTRL_ENABLE : FldDesc := ⟨TCH_CTRL, 30, 30⟩
def TCH_CTRL_MODE : FldDesc := ⟨TCH_CTRL, 29, 28⟩
def TCH_CTRL_SIMMER_EN : FldDesc := ⟨TCH_CTRL, 27, 27⟩
def TCH_CTRL_USED_DRV_M1 : FldDesc := ⟨TCH_CTRL, 22, 16⟩
def TCH_CTRL_USED_SNS_M1 : FldDesc := ⟨TCH_CTRL, 13, 8⟩
def TCH_CTRL_MARK_SIZE : FldDesc := ⟨TCH_CTRL, 7, 0⟩

/-- R286. -/
def TCH_THRESH : RegDesc := ⟨0x1000004, 0x1000, 0x0, 0x614414⟩
def TCH_THRESH_HOVER_THR : FldDesc := ⟨TCH_THRESH, 29, 20⟩
def TCH_THRESH_TOUCH_THR : FldDesc := ⟨TCH_THRESH, 19, 10⟩
def TCH_THRESH_ANTI_THR : FldDesc := ⟨TCH_THRESH, 9, 0⟩

/-- R286. -/
def TCH_TIMING : RegDesc := ⟨0x1000008, 0x1000, 0x0, 0x1d003c⟩
def TCH_TIMING_IDLE_M1 : FldDesc := ⟨TCH_TIMING, 23, 16⟩
def TCH_TIMING_MAX_S : FldDesc := ⟨TCH_TIMING, 11, 0⟩

/-- R286. -/
def TCH_MARK_SHAPE : RegDesc := ⟨0x100000c, 0x1000, 0x0, 0x0⟩
def TCH_MARK_SHAPE_SWAP : FldDesc := ⟨TCH_MARK_SHAPE, 8, 8⟩
def TCH_MARK_SHAPE_SHAPE : FldDesc := ⟨TCH_MARK_SHAPE, 1, 0⟩

/-- R286. -/
def TCH_MARK_COLOUR : RegDesc := ⟨0x1000010, 0x1000, 0x0, 0x0⟩
def TCH_MARK_COLOUR_COLOUR : FldDesc := ⟨TCH_MARK_COLOUR, 31, 0⟩

/-- R286. -/
def TCH_HOVER_COLOUR : RegDesc := ⟨0x1000014, 0x1000, 0x0, 0x0⟩
def TCH_HOVER_COLOUR_COLOUR : FldDesc := ⟨TCH_HOVER_COLOUR, 31, 0⟩

/-- R286. -/
def TCH_MAP_SX : RegDesc := ⟨0x1000018, 0x1000, 0x0, 0x0⟩
def TCH_MAP_SX_SCALE : FldDesc := ⟨TCH_MAP_SX, 31, 0⟩

/-- R286. -/
def TCH_MAP_SY : RegDesc := ⟨0x100001c, 0x1000, 0x0, 0x0⟩
def TCH_MAP_SY_SCALE : FldDesc := ⟨TCH_MAP_SY, 31, 0⟩

/-- R286. -/
def TCH_MAP_OFF : RegDesc := ⟨0x1000020, 0x1000, 0x0, 0x0⟩
def TCH_MAP_OFF_OFF_X : FldDesc := ⟨TCH_MAP_OFF, 31, 16⟩
def TCH_MAP_OFF_OFF_Y : FldDesc := ⟨TCH_MAP_OFF, 15, 0⟩

/-- R286. -/
def TCH_STATUS : RegDesc := ⟨0x1000024, 0x1000, 0x0, 0x0⟩
def TCH_STATUS_STATE : FldDesc := ⟨TCH_STATUS, 31, 30⟩
def TCH_STATUS_VALID : FldDesc := ⟨TCH_STATUS, 29, 29⟩
def TCH_STATUS_OVERFLOW : FldDesc := ⟨TCH_STATUS, 28, 28⟩
def TCH_STATUS_BAD_CONFIG : FldDesc := ⟨TCH_STATUS, 27, 27⟩
def TCH_STATUS_COUNT : FldDesc := ⟨TCH_STATUS, 19, 16⟩
def TCH_STATUS_SCANS : FldDesc := ⟨TCH_STATUS, 15, 0⟩

/-- R286. -/
def TCH_SCAN_LO : RegDesc := ⟨0x1000028, 0x1000, 0x0, 0x0⟩
def TCH_SCAN_LO_TIME : FldDesc := ⟨TCH_SCAN_LO, 31, 0⟩

/-- R286. -/
def TCH_SCAN_HI : RegDesc := ⟨0x100002c, 0x1000, 0x0, 0x0⟩
def TCH_SCAN_HI_TIME : FldDesc := ⟨TCH_SCAN_HI, 31, 0⟩

/-- R286. -/
def TCH_SLOT : RegDesc := ⟨0x1000040, 0x1000, 0x4, 0x0⟩
def TCH_SLOT_WORD : FldDesc := ⟨TCH_SLOT, 31, 0⟩

/-- R280. -/
def TCH_TIMEOUTS : RegDesc := ⟨0x1000090, 0x1000, 0x0, 0x0⟩
def TCH_TIMEOUTS_COUNT : FldDesc := ⟨TCH_TIMEOUTS, 31, 0⟩

/-- R279. -/
def TCH_REBASE : RegDesc := ⟨0x1000094, 0x1000, 0x0, 0x0⟩
def TCH_REBASE_COUNT : FldDesc := ⟨TCH_REBASE, 31, 0⟩

/-- R277. -/
def TCH_DROPPED : RegDesc := ⟨0x1000098, 0x1000, 0x0, 0x0⟩
def TCH_DROPPED_COUNT : FldDesc := ⟨TCH_DROPPED, 31, 0⟩

/-- R275. -/
def TCH_LATE_SCANS : RegDesc := ⟨0x100009c, 0x1000, 0x0, 0x0⟩
def TCH_LATE_SCANS_COUNT : FldDesc := ⟨TCH_LATE_SCANS, 31, 0⟩

/-- R289. -/
def ADC_CTRL : RegDesc := ⟨0x1004000, 0x0, 0x0, 0x0⟩
def ADC_CTRL_APPLY : FldDesc := ⟨ADC_CTRL, 31, 31⟩
def ADC_CTRL_TRIG_EN : FldDesc := ⟨ADC_CTRL, 30, 30⟩
def ADC_CTRL_TRIG_UNIT : FldDesc := ⟨ADC_CTRL, 19, 16⟩

/-- R287. -/
def ADC_STATUS : RegDesc := ⟨0x1004004, 0x0, 0x0, 0x0⟩
def ADC_STATUS_BUSY : FldDesc := ⟨ADC_STATUS, 31, 31⟩
def ADC_STATUS_BAD_CONFIG : FldDesc := ⟨ADC_STATUS, 30, 30⟩
def ADC_STATUS_MISSED : FldDesc := ⟨ADC_STATUS, 15, 0⟩

/-- R289. -/
def ADC_TIME_LO : RegDesc := ⟨0x1004008, 0x0, 0x0, 0x0⟩
def ADC_TIME_LO_TIME : FldDesc := ⟨ADC_TIME_LO, 31, 0⟩

/-- R289. -/
def ADC_TIME_HI : RegDesc := ⟨0x100400c, 0x0, 0x0, 0x0⟩
def ADC_TIME_HI_TIME : FldDesc := ⟨ADC_TIME_HI, 31, 0⟩

/-- R289. -/
def ADC_CH : RegDesc := ⟨0x1004010, 0x4, 0x0, 0x0⟩
def ADC_CH_ENABLE : FldDesc := ⟨ADC_CH, 31, 31⟩
def ADC_CH_RANGE : FldDesc := ⟨ADC_CH, 30, 30⟩
def ADC_CH_OVS : FldDesc := ⟨ADC_CH, 26, 24⟩

/-- R289. -/
def ADC_DATA : RegDesc := ⟨0x1004080, 0x4, 0x0, 0x0⟩
def ADC_DATA_VALID : FldDesc := ⟨ADC_DATA, 31, 31⟩
def ADC_DATA_OVR : FldDesc := ⟨ADC_DATA, 30, 30⟩
def ADC_DATA_CODE : FldDesc := ⟨ADC_DATA, 17, 0⟩

/-- R290. -/
def GPIO_IN : RegDesc := ⟨0x1006000, 0x0, 0x0, 0x0⟩
def GPIO_IN_LEVELS : FldDesc := ⟨GPIO_IN, 31, 0⟩

/-- R290. -/
def GPIO_OUT : RegDesc := ⟨0x1006004, 0x0, 0x0, 0x0⟩
def GPIO_OUT_LEVELS : FldDesc := ⟨GPIO_OUT, 31, 0⟩

/-- R290. -/
def GPIO_DEB : RegDesc := ⟨0x1006008, 0x0, 0x0, 0x0⟩
def GPIO_DEB_DEB : FldDesc := ⟨GPIO_DEB, 1, 0⟩

/-- R297. -/
def CC_STATUS : RegDesc := ⟨0x1008000, 0x100, 0x0, 0x0⟩
def CC_STATUS_RUNNING : FldDesc := ⟨CC_STATUS, 31, 31⟩
def CC_STATUS_LATE : FldDesc := ⟨CC_STATUS, 30, 30⟩
def CC_STATUS_TRIG_UNIT : FldDesc := ⟨CC_STATUS, 19, 16⟩
def CC_STATUS_FRAMES : FldDesc := ⟨CC_STATUS, 15, 0⟩

/-- R297. -/
def CC_PERIOD : RegDesc := ⟨0x1008004, 0x100, 0x0, 0x0⟩
def CC_PERIOD_US : FldDesc := ⟨CC_PERIOD, 31, 0⟩

/-- R297. -/
def CC_LEAD : RegDesc := ⟨0x1008008, 0x100, 0x0, 0x0⟩
def CC_LEAD_US : FldDesc := ⟨CC_LEAD, 31, 0⟩

/-- R297. -/
def CC_NEXT_LO : RegDesc := ⟨0x100800c, 0x100, 0x0, 0x0⟩
def CC_NEXT_LO_TIME : FldDesc := ⟨CC_NEXT_LO, 31, 0⟩

/-- R297. -/
def CC_NEXT_HI : RegDesc := ⟨0x1008010, 0x100, 0x0, 0x0⟩
def CC_NEXT_HI_TIME : FldDesc := ⟨CC_NEXT_HI, 31, 0⟩

/-- R297. -/
def CC_SENT_A : RegDesc := ⟨0x1008014, 0x100, 0x0, 0x0⟩
def CC_SENT_A_COUNT : FldDesc := ⟨CC_SENT_A, 31, 0⟩

/-- R297. -/
def CC_SENT_B : RegDesc := ⟨0x1008018, 0x100, 0x0, 0x0⟩
def CC_SENT_B_COUNT : FldDesc := ⟨CC_SENT_B, 31, 0⟩

/-- R293. -/
def CC_GATED : RegDesc := ⟨0x100801c, 0x100, 0x0, 0x0⟩
def CC_GATED_COUNT : FldDesc := ⟨CC_GATED, 31, 0⟩

/-- R293. -/
def CC_LATE : RegDesc := ⟨0x1008020, 0x100, 0x0, 0x0⟩
def CC_LATE_COUNT : FldDesc := ⟨CC_LATE, 31, 0⟩

/-- R293. -/
def CC_PORT_DOWN : RegDesc := ⟨0x1008024, 0x100, 0x0, 0x0⟩
def CC_PORT_DOWN_COUNT : FldDesc := ⟨CC_PORT_DOWN, 31, 0⟩

/-! ### Paent system -/

/-- R299. -/
def PAENT_ID : RegDesc := ⟨0xb00000, 0x0, 0x0, 0x0⟩
def PAENT_ID_VALID : FldDesc := ⟨PAENT_ID, 31, 31⟩
def PAENT_ID_Y : FldDesc := ⟨PAENT_ID, 23, 19⟩
def PAENT_ID_X : FldDesc := ⟨PAENT_ID, 18, 14⟩
def PAENT_ID_MODULE : FldDesc := ⟨PAENT_ID, 8, 0⟩

/-- R314. -/
def PAENT_MGR : RegDesc := ⟨0xb00004, 0x0, 0x0, 0x1000000⟩
def PAENT_MGR_MGR_PRIO : FldDesc := ⟨PAENT_MGR, 31, 24⟩
def PAENT_MGR_IS_MANAGER : FldDesc := ⟨PAENT_MGR, 23, 23⟩
def PAENT_MGR_ID_CONFLICT : FldDesc := ⟨PAENT_MGR, 22, 22⟩
def PAENT_MGR_TIME_LOCK : FldDesc := ⟨PAENT_MGR, 21, 21⟩
def PAENT_MGR_MODULES : FldDesc := ⟨PAENT_MGR, 18, 9⟩
def PAENT_MGR_MANAGER : FldDesc := ⟨PAENT_MGR, 8, 0⟩

/-- R315. -/
def PAENT_TIME_OFFSET : RegDesc := ⟨0xb00008, 0x0, 0x0, 0x0⟩
def PAENT_TIME_OFFSET_OFFSET : FldDesc := ⟨PAENT_TIME_OFFSET, 31, 0⟩

/-- R300. -/
def PNT_PSTATUS : RegDesc := ⟨0xb00100, 0x40, 0x0, 0x0⟩
def PNT_PSTATUS_ROUTED : FldDesc := ⟨PNT_PSTATUS, 31, 31⟩
def PNT_PSTATUS_CAUSE : FldDesc := ⟨PNT_PSTATUS, 30, 28⟩
def PNT_PSTATUS_ROLE : FldDesc := ⟨PNT_PSTATUS, 27, 25⟩
def PNT_PSTATUS_NEIGHBOUR : FldDesc := ⟨PNT_PSTATUS, 24, 16⟩

/-- R315. -/
def PNT_DELAY : RegDesc := ⟨0xb00104, 0x40, 0x0, 0x0⟩
def PNT_DELAY_DELAY : FldDesc := ⟨PNT_DELAY, 31, 0⟩

/-- R315. -/
def PNT_OFFSET : RegDesc := ⟨0xb00108, 0x40, 0x0, 0x0⟩
def PNT_OFFSET_OFFSET : FldDesc := ⟨PNT_OFFSET, 31, 0⟩

/-- R313. -/
def PNT_RES_OUT : RegDesc := ⟨0xb0010c, 0x40, 0x0, 0x0⟩
def PNT_RES_OUT_RES : FldDesc := ⟨PNT_RES_OUT, 16, 0⟩

/-- R305. -/
def PNT_REPLAYS : RegDesc := ⟨0xb00110, 0x40, 0x0, 0x0⟩
def PNT_REPLAYS_COUNT : FldDesc := ⟨PNT_REPLAYS, 31, 0⟩

/-- R305. -/
def PNT_CRC_ERR : RegDesc := ⟨0xb00114, 0x40, 0x0, 0x0⟩
def PNT_CRC_ERR_COUNT : FldDesc := ⟨PNT_CRC_ERR, 31, 0⟩

/-- R304. -/
def PNT_TTL_DROP : RegDesc := ⟨0xb00118, 0x40, 0x0, 0x0⟩
def PNT_TTL_DROP_COUNT : FldDesc := ⟨PNT_TTL_DROP, 31, 0⟩

/-- R304. -/
def PNT_BAD_TYPE : RegDesc := ⟨0xb0011c, 0x40, 0x0, 0x0⟩
def PNT_BAD_TYPE_COUNT : FldDesc := ⟨PNT_BAD_TYPE, 31, 0⟩

/-- R308. -/
def ROUTE : RegDesc := ⟨0xb10000, 0x4, 0x0, 0x0⟩
def ROUTE_VALID : FldDesc := ⟨ROUTE, 31, 31⟩
def ROUTE_ON_FAILOVER : FldDesc := ⟨ROUTE, 30, 30⟩
def ROUTE_FAILOVER : FldDesc := ⟨ROUTE, 6, 4⟩
def ROUTE_PRIMARY : FldDesc := ⟨ROUTE, 2, 0⟩

/-- R310. -/
def MCAST : RegDesc := ⟨0xb11000, 0x4, 0x0, 0x0⟩
def MCAST_VALID : FldDesc := ⟨MCAST, 31, 31⟩
def MCAST_SOURCE : FldDesc := ⟨MCAST, 29, 21⟩
def MCAST_CONTEXT : FldDesc := ⟨MCAST, 20, 13⟩
def MCAST_LOCAL : FldDesc := ⟨MCAST, 4, 4⟩
def MCAST_PORTS : FldDesc := ⟨MCAST, 3, 0⟩

/-- R317. -/
def RX_STATUS : RegDesc := ⟨0xb20000, 0x20, 0x0, 0x0⟩
def RX_STATUS_VALID : FldDesc := ⟨RX_STATUS, 31, 31⟩
def RX_STATUS_GUARANTEED : FldDesc := ⟨RX_STATUS, 30, 30⟩
def RX_STATUS_SHED : FldDesc := ⟨RX_STATUS, 29, 29⟩
def RX_STATUS_SOURCE : FldDesc := ⟨RX_STATUS, 28, 20⟩
def RX_STATUS_CONTEXT : FldDesc := ⟨RX_STATUS, 19, 12⟩
def RX_STATUS_SLOTS : FldDesc := ⟨RX_STATUS, 4, 0⟩

/-- R312. -/
def RX_OUT : RegDesc := ⟨0xb20004, 0x20, 0x0, 0x0⟩
def RX_OUT_VALID : FldDesc := ⟨RX_OUT, 31, 31⟩
def RX_OUT_SLOT : FldDesc := ⟨RX_OUT, 4, 0⟩

/-- R313. -/
def RX_RES : RegDesc := ⟨0xb20008, 0x20, 0x0, 0x0⟩
def RX_RES_RES : FldDesc := ⟨RX_RES, 31, 0⟩

/-- R312. -/
def RX_PICTURES : RegDesc := ⟨0xb2000c, 0x20, 0x0, 0x0⟩
def RX_PICTURES_COUNT : FldDesc := ⟨RX_PICTURES, 31, 0⟩

/-- R312. -/
def RX_NO_SLOT : RegDesc := ⟨0xb20010, 0x20, 0x0, 0x0⟩
def RX_NO_SLOT_COUNT : FldDesc := ⟨RX_NO_SLOT, 31, 0⟩

/-- R312. -/
def RX_DISCARD : RegDesc := ⟨0xb20014, 0x20, 0x0, 0x0⟩
def RX_DISCARD_COUNT : FldDesc := ⟨RX_DISCARD, 31, 0⟩

/-- R312. -/
def RX_TIME_REJECT : RegDesc := ⟨0xb20018, 0x20, 0x0, 0x0⟩
def RX_TIME_REJECT_COUNT : FldDesc := ⟨RX_TIME_REJECT, 31, 0⟩

/-! ### Paent lanes -/

/-- R329. -/
def PLN_CTRL : RegDesc := ⟨0xb40000, 0x400, 0x0, 0x0⟩
def PLN_CTRL_RETRAIN : FldDesc := ⟨PLN_CTRL, 31, 31⟩
def PLN_CTRL_HOLD : FldDesc := ⟨PLN_CTRL, 30, 30⟩
def PLN_CTRL_MANUAL : FldDesc := ⟨PLN_CTRL, 29, 29⟩
def PLN_CTRL_TX_SLEEP : FldDesc := ⟨PLN_CTRL, 28, 28⟩
def PLN_CTRL_RX_SLEEP : FldDesc := ⟨PLN_CTRL, 27, 27⟩

/-- R329. -/
def PLN_STATUS : RegDesc := ⟨0xb40004, 0x400, 0x0, 0x0⟩
def PLN_STATUS_STATE : FldDesc := ⟨PLN_STATUS, 31, 29⟩
def PLN_STATUS_STEP : FldDesc := ⟨PLN_STATUS, 28, 26⟩
def PLN_STATUS_TX_WIDTH : FldDesc := ⟨PLN_STATUS, 25, 23⟩
def PLN_STATUS_RX_WIDTH : FldDesc := ⟨PLN_STATUS, 22, 20⟩
def PLN_STATUS_TX_ASLEEP : FldDesc := ⟨PLN_STATUS, 19, 19⟩
def PLN_STATUS_RX_ASLEEP : FldDesc := ⟨PLN_STATUS, 18, 18⟩
def PLN_STATUS_PARTNER_TX_ASLEEP : FldDesc := ⟨PLN_STATUS, 17, 17⟩
def PLN_STATUS_LAST_FAIL : FldDesc := ⟨PLN_STATUS, 15, 12⟩
def PLN_STATUS_LAST_STEP : FldDesc := ⟨PLN_STATUS, 11, 8⟩
def PLN_STATUS_NEXT_TRY : FldDesc := ⟨PLN_STATUS, 7, 0⟩

/-- R330. -/
def PLN_ATTEMPTS : RegDesc := ⟨0xb40008, 0x400, 0x0, 0x0⟩
def PLN_ATTEMPTS_COUNT : FldDesc := ⟨PLN_ATTEMPTS, 31, 0⟩

/-- R330. -/
def PLN_FAILS : RegDesc := ⟨0xb4000c, 0x400, 0x0, 0x0⟩
def PLN_FAILS_COUNT : FldDesc := ⟨PLN_FAILS, 31, 0⟩

/-- R337. -/
def PLN_RETRAINS : RegDesc := ⟨0xb40010, 0x400, 0x0, 0x0⟩
def PLN_RETRAINS_COUNT : FldDesc := ⟨PLN_RETRAINS, 31, 0⟩

/-- R336. -/
def PLN_SPARE_USES : RegDesc := ⟨0xb40014, 0x400, 0x0, 0x0⟩
def PLN_SPARE_USES_COUNT : FldDesc := ⟨PLN_SPARE_USES, 31, 0⟩

/-- R332. -/
def LN_CTRL : RegDesc := ⟨0xb40100, 0x400, 0x20, 0x0⟩
def LN_CTRL_SLIP : FldDesc := ⟨LN_CTRL, 31, 31⟩
def LN_CTRL_DISABLE : FldDesc := ⟨LN_CTRL, 30, 30⟩
def LN_CTRL_PEAK : FldDesc := ⟨LN_CTRL, 3, 0⟩

/-- R328. -/
def LN_STATUS : RegDesc := ⟨0xb40104, 0x400, 0x20, 0x0⟩
def LN_STATUS_LOS : FldDesc := ⟨LN_STATUS, 31, 31⟩
def LN_STATUS_LOL : FldDesc := ⟨LN_STATUS, 30, 30⟩
def LN_STATUS_LOA : FldDesc := ⟨LN_STATUS, 29, 29⟩
def LN_STATUS_MATCH : FldDesc := ⟨LN_STATUS, 28, 28⟩
def LN_STATUS_LOS_SEEN : FldDesc := ⟨LN_STATUS, 27, 27⟩
def LN_STATUS_LOL_SEEN : FldDesc := ⟨LN_STATUS, 26, 26⟩
def LN_STATUS_LOA_SEEN : FldDesc := ⟨LN_STATUS, 25, 25⟩
def LN_STATUS_FAILED : FldDesc := ⟨LN_STATUS, 24, 24⟩
def LN_STATUS_CAUSE : FldDesc := ⟨LN_STATUS, 23, 21⟩
def LN_STATUS_TX_LOGICAL : FldDesc := ⟨LN_STATUS, 20, 18⟩
def LN_STATUS_RX_LOGICAL : FldDesc := ⟨LN_STATUS, 17, 15⟩
def LN_STATUS_SLIP_POS : FldDesc := ⟨LN_STATUS, 12, 8⟩
def LN_STATUS_WIN_LO : FldDesc := ⟨LN_STATUS, 7, 4⟩
def LN_STATUS_WIN_HI : FldDesc := ⟨LN_STATUS, 3, 0⟩

/-- R328. -/
def LN_MARKER_ERR : RegDesc := ⟨0xb40108, 0x400, 0x20, 0x0⟩
def LN_MARKER_ERR_COUNT : FldDesc := ⟨LN_MARKER_ERR, 31, 0⟩

/-- R323. -/
def LN_STUFF : RegDesc := ⟨0xb4010c, 0x400, 0x20, 0x0⟩
def LN_STUFF_COUNT : FldDesc := ⟨LN_STUFF, 31, 0⟩

/-! ### Pair -/

/-- R359. -/
def PAIR_CTRL : RegDesc := ⟨0xc00000, 0x0, 0x0, 0x0⟩
def PAIR_CTRL_APPLY : FldDesc := ⟨PAIR_CTRL, 31, 31⟩
def PAIR_CTRL_NO_REVERT : FldDesc := ⟨PAIR_CTRL, 30, 30⟩
def PAIR_CTRL_TIMING_HEAD : FldDesc := ⟨PAIR_CTRL, 20, 16⟩

/-- R359. -/
def PAIR_TIMING : RegDesc := ⟨0xc00004, 0x0, 0x0, 0x12c001e⟩
def PAIR_TIMING_WTR_S : FldDesc := ⟨PAIR_TIMING, 31, 16⟩
def PAIR_TIMING_DETECT : FldDesc := ⟨PAIR_TIMING, 9, 0⟩

/-- R341. -/
def PAIR_STATUS : RegDesc := ⟨0xc00008, 0x0, 0x0, 0x0⟩
def PAIR_STATUS_STATE : FldDesc := ⟨PAIR_STATUS, 31, 29⟩
def PAIR_STATUS_PREFERRED : FldDesc := ⟨PAIR_STATUS, 28, 28⟩
def PAIR_STATUS_CLAIM : FldDesc := ⟨PAIR_STATUS, 27, 27⟩
def PAIR_STATUS_OWNS : FldDesc := ⟨PAIR_STATUS, 26, 26⟩
def PAIR_STATUS_IL_LEVEL : FldDesc := ⟨PAIR_STATUS, 25, 24⟩
def PAIR_STATUS_IN_SYNC : FldDesc := ⟨PAIR_STATUS, 23, 23⟩
def PAIR_STATUS_TIME_ALIGNED : FldDesc := ⟨PAIR_STATUS, 22, 22⟩
def PAIR_STATUS_WTR_RUNNING : FldDesc := ⟨PAIR_STATUS, 21, 21⟩
def PAIR_STATUS_PARTNER_HOLDS : FldDesc := ⟨PAIR_STATUS, 20, 20⟩
def PAIR_STATUS_BAD_CONFIG : FldDesc := ⟨PAIR_STATUS, 19, 19⟩
def PAIR_STATUS_FAULT : FldDesc := ⟨PAIR_STATUS, 18, 16⟩
def PAIR_STATUS_CMD_ERR : FldDesc := ⟨PAIR_STATUS, 15, 12⟩
def PAIR_STATUS_WTR_LEFT : FldDesc := ⟨PAIR_STATUS, 11, 0⟩

/-- R349. -/
def PAIR_HB : RegDesc := ⟨0xc0000c, 0x0, 0x0, 0x0⟩
def PAIR_HB_PAENT_OK : FldDesc := ⟨PAIR_HB, 31, 31⟩
def PAIR_HB_WIRE_OK : FldDesc := ⟨PAIR_HB, 30, 30⟩
def PAIR_HB_PAENT_ALARM : FldDesc := ⟨PAIR_HB, 29, 29⟩
def PAIR_HB_WIRE_ALARM : FldDesc := ⟨PAIR_HB, 28, 28⟩
def PAIR_HB_PARTNER_LOST : FldDesc := ⟨PAIR_HB, 27, 27⟩
def PAIR_HB_PARTNER_STATE : FldDesc := ⟨PAIR_HB, 26, 24⟩
def PAIR_HB_PARTNER_PREFERRED : FldDesc := ⟨PAIR_HB, 23, 23⟩
def PAIR_HB_PARTNER_CLAIM : FldDesc := ⟨PAIR_HB, 22, 22⟩
def PAIR_HB_PARTNER_MODULE : FldDesc := ⟨PAIR_HB, 8, 0⟩

/-- R359. -/
def PAIR_CMD : RegDesc := ⟨0xc00010, 0x0, 0x0, 0x0⟩
def PAIR_CMD_SWITCHOVER : FldDesc := ⟨PAIR_CMD, 31, 31⟩
def PAIR_CMD_TAKEOVER : FldDesc := ⟨PAIR_CMD, 30, 30⟩
def PAIR_CMD_FORCE : FldDesc := ⟨PAIR_CMD, 29, 29⟩
def PAIR_CMD_CLEAR : FldDesc := ⟨PAIR_CMD, 28, 28⟩

/-- R350. -/
def PAIR_TAKEOVERS : RegDesc := ⟨0xc00014, 0x0, 0x0, 0x0⟩
def PAIR_TAKEOVERS_COUNT : FldDesc := ⟨PAIR_TAKEOVERS, 31, 0⟩

/-- R350. -/
def PAIR_HANDOVERS : RegDesc := ⟨0xc00018, 0x0, 0x0, 0x0⟩
def PAIR_HANDOVERS_COUNT : FldDesc := ⟨PAIR_HANDOVERS, 31, 0⟩

/-- R354. -/
def PAIR_DIVERGE : RegDesc := ⟨0xc0001c, 0x0, 0x0, 0x0⟩
def PAIR_DIVERGE_COUNT : FldDesc := ⟨PAIR_DIVERGE, 31, 0⟩

/-- R348. -/
def PAIR_WIRE_BAD : RegDesc := ⟨0xc00020, 0x0, 0x0, 0x0⟩
def PAIR_WIRE_BAD_COUNT : FldDesc := ⟨PAIR_WIRE_BAD, 31, 0⟩

/-- R353. -/
def PAIR_MIRROR_LAG : RegDesc := ⟨0xc00024, 0x0, 0x0, 0x0⟩
def PAIR_MIRROR_LAG_LAG : FldDesc := ⟨PAIR_MIRROR_LAG, 15, 0⟩

/-! ### Memory -/

/-- R375. -/
def MEM_STATUS : RegDesc := ⟨0xd00000, 0x0, 0x0, 0x0⟩
def MEM_STATUS_MIGRATING : FldDesc := ⟨MEM_STATUS, 31, 31⟩
def MEM_STATUS_MIG_CH : FldDesc := ⟨MEM_STATUS, 30, 28⟩
def MEM_STATUS_FAILED_CH : FldDesc := ⟨MEM_STATUS, 23, 16⟩
def MEM_STATUS_NO_SPARE : FldDesc := ⟨MEM_STATUS, 15, 8⟩
def MEM_STATUS_HOT : FldDesc := ⟨MEM_STATUS, 7, 0⟩

/-- R382. -/
def MIG_THROTTLE : RegDesc := ⟨0xd00004, 0x0, 0x0, 0xfa0⟩
def MIG_THROTTLE_MBPS : FldDesc := ⟨MIG_THROTTLE, 15, 0⟩

/-- R362. -/
def MEM_MAP0 : RegDesc := ⟨0xd00010, 0x0, 0x0, 0x824040⟩
def MEM_MAP0_MASK : FldDesc := ⟨MEM_MAP0, 29, 0⟩

/-- R362. -/
def MEM_MAP1 : RegDesc := ⟨0xd00014, 0x0, 0x0, 0x1048080⟩
def MEM_MAP1_MASK : FldDesc := ⟨MEM_MAP1, 29, 0⟩

/-- R362. -/
def MEM_MAP2 : RegDesc := ⟨0xd00018, 0x0, 0x0, 0x2090100⟩
def MEM_MAP2_MASK : FldDesc := ⟨MEM_MAP2, 29, 0⟩

/-- R362. -/
def MEM_MAP3 : RegDesc := ⟨0xd0001c, 0x0, 0x0, 0x4100200⟩
def MEM_MAP3_MASK : FldDesc := ⟨MEM_MAP3, 29, 0⟩

/-- R362. -/
def MEM_MAP4 : RegDesc := ⟨0xd00020, 0x0, 0x0, 0x8200400⟩
def MEM_MAP4_MASK : FldDesc := ⟨MEM_MAP4, 29, 0⟩

/-- R362. -/
def MEM_MAP5 : RegDesc := ⟨0xd00024, 0x0, 0x0, 0x10400800⟩
def MEM_MAP5_MASK : FldDesc := ⟨MEM_MAP5, 29, 0⟩

/-- R362. -/
def MEM_MAP6 : RegDesc := ⟨0xd00028, 0x0, 0x0, 0x20021000⟩
def MEM_MAP6_MASK : FldDesc := ⟨MEM_MAP6, 29, 0⟩

/-- R362. -/
def MEM_MAP7 : RegDesc := ⟨0xd0002c, 0x0, 0x0, 0x4042000⟩
def MEM_MAP7_MASK : FldDesc := ⟨MEM_MAP7, 29, 0⟩

/-- R375. -/
def CH_STATUS : RegDesc := ⟨0xd01000, 0x100, 0x0, 0x0⟩
def CH_STATUS_STATE : FldDesc := ⟨CH_STATUS, 31, 29⟩
def CH_STATUS_RANK0 : FldDesc := ⟨CH_STATUS, 27, 25⟩
def CH_STATUS_RANK1 : FldDesc := ⟨CH_STATUS, 24, 22⟩
def CH_STATUS_HOT : FldDesc := ⟨CH_STATUS, 21, 21⟩
def CH_STATUS_CASE_TEMP : FldDesc := ⟨CH_STATUS, 15, 8⟩
def CH_STATUS_CAUSE : FldDesc := ⟨CH_STATUS, 7, 4⟩

/-- R373. -/
def CH_MIG_PTR : RegDesc := ⟨0xd01004, 0x100, 0x0, 0x0⟩
def CH_MIG_PTR_LINE : FldDesc := ⟨CH_MIG_PTR, 26, 0⟩

/-- R370. -/
def CH_ERR_LO : RegDesc := ⟨0xd01008, 0x100, 0x0, 0x0⟩
def CH_ERR_LO_PA : FldDesc := ⟨CH_ERR_LO, 31, 6⟩

/-- R370. -/
def CH_ERR_HI : RegDesc := ⟨0xd0100c, 0x100, 0x0, 0x0⟩
def CH_ERR_HI_UE : FldDesc := ⟨CH_ERR_HI, 31, 31⟩
def CH_ERR_HI_POISON : FldDesc := ⟨CH_ERR_HI, 30, 30⟩
def CH_ERR_HI_DEVICE : FldDesc := ⟨CH_ERR_HI, 10, 8⟩
def CH_ERR_HI_PA_HI : FldDesc := ⟨CH_ERR_HI, 3, 0⟩

/-- R370. -/
def CH_CE : RegDesc := ⟨0xd01010, 0x100, 0x0, 0x0⟩
def CH_CE_COUNT : FldDesc := ⟨CH_CE, 31, 0⟩

/-- R370. -/
def CH_UE : RegDesc := ⟨0xd01014, 0x100, 0x0, 0x0⟩
def CH_UE_COUNT : FldDesc := ⟨CH_UE, 31, 0⟩

/-- R372. -/
def CH_WCRC : RegDesc := ⟨0xd01018, 0x100, 0x0, 0x0⟩
def CH_WCRC_COUNT : FldDesc := ⟨CH_WCRC, 31, 0⟩

/-- R369. -/
def CH_RETRAINS : RegDesc := ⟨0xd0101c, 0x100, 0x0, 0x0⟩
def CH_RETRAINS_COUNT : FldDesc := ⟨CH_RETRAINS, 31, 0⟩

/-- R373. -/
def CH_POISON_WR : RegDesc := ⟨0xd01020, 0x100, 0x0, 0x0⟩
def CH_POISON_WR_COUNT : FldDesc := ⟨CH_POISON_WR, 31, 0⟩

/-- R371. -/
def CH_POISON_RD : RegDesc := ⟨0xd01024, 0x100, 0x0, 0x0⟩
def CH_POISON_RD_COUNT : FldDesc := ⟨CH_POISON_RD, 31, 0⟩

/-- R380. -/
def FS_STATUS : RegDesc := ⟨0xd08000, 0x0, 0x0, 0x0⟩
def FS_STATUS_BIST_DONE : FldDesc := ⟨FS_STATUS, 31, 31⟩
def FS_STATUS_SPARES_OUT : FldDesc := ⟨FS_STATUS, 30, 30⟩
def FS_STATUS_SPARED : FldDesc := ⟨FS_STATUS, 11, 0⟩

/-- R379. -/
def FS_CE : RegDesc := ⟨0xd08004, 0x0, 0x0, 0x0⟩
def FS_CE_COUNT : FldDesc := ⟨FS_CE, 31, 0⟩

/-- R379. -/
def FS_UE : RegDesc := ⟨0xd08008, 0x0, 0x0, 0x0⟩
def FS_UE_COUNT : FldDesc := ⟨FS_UE, 31, 0⟩

/-- R381. -/
def FS_BANK : RegDesc := ⟨0xd08100, 0x4, 0x0, 0x0⟩
def FS_BANK_BIST_REPAIRS : FldDesc := ⟨FS_BANK, 22, 16⟩
def FS_BANK_SPARES_USED : FldDesc := ⟨FS_BANK, 6, 0⟩

/-! ### Checkers -/

/-- R391. -/
def CHK_CTRL : RegDesc := ⟨0xe00000, 0x1000, 0x0, 0x0⟩
def CHK_CTRL_UPDATE : FldDesc := ⟨CHK_CTRL, 31, 31⟩
def CHK_CTRL_NOTIFY : FldDesc := ⟨CHK_CTRL, 30, 30⟩

/-- R393. -/
def CHK_STATUS : RegDesc := ⟨0xe00004, 0x1000, 0x0, 0x0⟩
def CHK_STATUS_STATE : FldDesc := ⟨CHK_STATUS, 31, 30⟩
def CHK_STATUS_ENFORCING : FldDesc := ⟨CHK_STATUS, 29, 29⟩
def CHK_STATUS_EXIT_FAULT : FldDesc := ⟨CHK_STATUS, 28, 27⟩
def CHK_STATUS_REGION_B : FldDesc := ⟨CHK_STATUS, 11, 6⟩
def CHK_STATUS_REGION_A : FldDesc := ⟨CHK_STATUS, 5, 0⟩

/-- R396. -/
def CHK_FAULT_LO : RegDesc := ⟨0xe00008, 0x1000, 0x0, 0x0⟩
def CHK_FAULT_LO_PA : FldDesc := ⟨CHK_FAULT_LO, 31, 0⟩

/-- R396. -/
def CHK_FAULT_HI : RegDesc := ⟨0xe0000c, 0x1000, 0x0, 0x0⟩
def CHK_FAULT_HI_VALID : FldDesc := ⟨CHK_FAULT_HI, 31, 31⟩
def CHK_FAULT_HI_OVERFLOW : FldDesc := ⟨CHK_FAULT_HI, 30, 30⟩
def CHK_FAULT_HI_WRITE : FldDesc := ⟨CHK_FAULT_HI, 29, 29⟩
def CHK_FAULT_HI_CODE : FldDesc := ⟨CHK_FAULT_HI, 28, 26⟩
def CHK_FAULT_HI_MASTER : FldDesc := ⟨CHK_FAULT_HI, 25, 16⟩
def CHK_FAULT_HI_PA_HI : FldDesc := ⟨CHK_FAULT_HI, 3, 0⟩

/-- R391. -/
def CHK_FAULTS : RegDesc := ⟨0xe00010, 0x1000, 0x0, 0x0⟩
def CHK_FAULTS_COUNT : FldDesc := ⟨CHK_FAULTS, 31, 0⟩

/-- R396. -/
def CHK_CLOSED : RegDesc := ⟨0xe00014, 0x1000, 0x0, 0x0⟩
def CHK_CLOSED_COUNT : FldDesc := ⟨CHK_CLOSED, 31, 0⟩

/-- R387. -/
def RGN_CTRL : RegDesc := ⟨0xe00100, 0x1000, 0x10, 0x0⟩
def RGN_CTRL_LOCK : FldDesc := ⟨RGN_CTRL, 31, 31⟩
def RGN_CTRL_W : FldDesc := ⟨RGN_CTRL, 30, 30⟩
def RGN_CTRL_R : FldDesc := ⟨RGN_CTRL, 29, 29⟩

/-- R387. -/
def RGN_BASE : RegDesc := ⟨0xe00104, 0x1000, 0x10, 0x0⟩
def RGN_BASE_BASE : FldDesc := ⟨RGN_BASE, 31, 8⟩

/-- R387. -/
def RGN_SIZE : RegDesc := ⟨0xe00108, 0x1000, 0x10, 0x0⟩
def RGN_SIZE_PAGES : FldDesc := ⟨RGN_SIZE, 24, 0⟩

/-- R394. -/
def LG_STATUS : RegDesc := ⟨0xe08000, 0x0, 0x0, 0x0⟩
def LG_STATUS_HIGH : FldDesc := ⟨LG_STATUS, 27, 16⟩
def LG_STATUS_IN_USE : FldDesc := ⟨LG_STATUS, 11, 0⟩

/-- R394. -/
def LG_FAULT_LO : RegDesc := ⟨0xe08008, 0x0, 0x0, 0x0⟩
def LG_FAULT_LO_PA : FldDesc := ⟨LG_FAULT_LO, 31, 0⟩

/-- R394. -/
def LG_FAULT_HI : RegDesc := ⟨0xe0800c, 0x0, 0x0, 0x0⟩
def LG_FAULT_HI_VALID : FldDesc := ⟨LG_FAULT_HI, 31, 31⟩
def LG_FAULT_HI_OVERFLOW : FldDesc := ⟨LG_FAULT_HI, 30, 30⟩
def LG_FAULT_HI_CHECKER : FldDesc := ⟨LG_FAULT_HI, 29, 27⟩
def LG_FAULT_HI_ENTRY : FldDesc := ⟨LG_FAULT_HI, 26, 16⟩
def LG_FAULT_HI_PA_HI : FldDesc := ⟨LG_FAULT_HI, 3, 0⟩

/-- R394. -/
def LG_DROPS : RegDesc := ⟨0xe08010, 0x0, 0x0, 0x0⟩
def LG_DROPS_COUNT : FldDesc := ⟨LG_DROPS, 31, 0⟩

/-- R394. -/
def LG_ENTRY_BASE : RegDesc := ⟨0xe09000, 0x8, 0x0, 0x0⟩
def LG_ENTRY_BASE_BASE : FldDesc := ⟨LG_ENTRY_BASE, 31, 8⟩
def LG_ENTRY_BASE_VALID : FldDesc := ⟨LG_ENTRY_BASE, 0, 0⟩

/-- R394. -/
def LG_ENTRY_SIZE : RegDesc := ⟨0xe09004, 0x8, 0x0, 0x0⟩
def LG_ENTRY_SIZE_PAGES : FldDesc := ⟨LG_ENTRY_SIZE, 24, 0⟩

/-! ### Compression and CRC -/

/-- R402. -/
def CMP_JOB_STATUS : RegDesc := ⟨0xf00000, 0x20, 0x0, 0x0⟩
def CMP_JOB_STATUS_STATE : FldDesc := ⟨CMP_JOB_STATUS, 31, 29⟩
def CMP_JOB_STATUS_MODE : FldDesc := ⟨CMP_JOB_STATUS, 28, 27⟩
def CMP_JOB_STATUS_QUEUE : FldDesc := ⟨CMP_JOB_STATUS, 19, 16⟩
def CMP_JOB_STATUS_REASON : FldDesc := ⟨CMP_JOB_STATUS, 15, 0⟩

/-- R402. -/
def CMP_PARCELS : RegDesc := ⟨0xf00004, 0x20, 0x0, 0x0⟩
def CMP_PARCELS_COUNT : FldDesc := ⟨CMP_PARCELS, 31, 0⟩

/-- R402. -/
def CMP_OUT_OFFSET : RegDesc := ⟨0xf00008, 0x20, 0x0, 0x0⟩
def CMP_OUT_OFFSET_OFFSET : FldDesc := ⟨CMP_OUT_OFFSET, 31, 0⟩

/-- R402. -/
def CMP_PENDING : RegDesc := ⟨0xf0000c, 0x20, 0x0, 0x0⟩
def CMP_PENDING_BYTES : FldDesc := ⟨CMP_PENDING, 18, 0⟩

/-- R402. -/
def CMP_UNVERIFIED : RegDesc := ⟨0xf00010, 0x20, 0x0, 0x0⟩
def CMP_UNVERIFIED_COUNT : FldDesc := ⟨CMP_UNVERIFIED, 31, 0⟩

/-- R402. -/
def CMP_SELF_FAIL : RegDesc := ⟨0xf00014, 0x20, 0x0, 0x0⟩
def CMP_SELF_FAIL_COUNT : FldDesc := ⟨CMP_SELF_FAIL, 31, 0⟩

/-- R412. -/
def CRC_CTRL : RegDesc := ⟨0xf10000, 0x20, 0x0, 0x0⟩
def CRC_CTRL_PRESET : FldDesc := ⟨CRC_CTRL, 1, 0⟩

/-- R413. -/
def CRC_DATA8 : RegDesc := ⟨0xf10004, 0x20, 0x0, 0x0⟩
def CRC_DATA8_DATA : FldDesc := ⟨CRC_DATA8, 7, 0⟩

/-- R413. -/
def CRC_DATA16 : RegDesc := ⟨0xf10008, 0x20, 0x0, 0x0⟩
def CRC_DATA16_DATA : FldDesc := ⟨CRC_DATA16, 15, 0⟩

/-- R413. -/
def CRC_DATA32 : RegDesc := ⟨0xf1000c, 0x20, 0x0, 0x0⟩
def CRC_DATA32_DATA : FldDesc := ⟨CRC_DATA32, 31, 0⟩

/-- R413. -/
def CRC_RESULT : RegDesc := ⟨0xf10010, 0x20, 0x0, 0x0⟩
def CRC_RESULT_RESULT : FldDesc := ⟨CRC_RESULT, 31, 0⟩

/-- R413. -/
def CRC_COUNT : RegDesc := ⟨0xf10014, 0x20, 0x0, 0x0⟩
def CRC_COUNT_COUNT : FldDesc := ⟨CRC_COUNT, 31, 0⟩

/-! ### Errors -/

/-- R415. -/
def ERR_STATUS : RegDesc := ⟨0x50, 0x0, 0x0, 0x0⟩
def ERR_STATUS_FATAL : FldDesc := ⟨ERR_STATUS, 31, 31⟩
def ERR_STATUS_DEGRADED : FldDesc := ⟨ERR_STATUS, 30, 30⟩
def ERR_STATUS_FATAL_CAUSE : FldDesc := ⟨ERR_STATUS, 23, 16⟩

/-- R419. -/
def ERR_CTRL : RegDesc := ⟨0x54, 0x0, 0x0, 0xc0000000⟩
def ERR_CTRL_DEGRADED_FAULT : FldDesc := ⟨ERR_CTRL, 31, 31⟩
def ERR_CTRL_NOTIFY : FldDesc := ⟨ERR_CTRL, 30, 30⟩

/-- R415. -/
def ERR_CORRECTED : RegDesc := ⟨0x58, 0x0, 0x0, 0x0⟩
def ERR_CORRECTED_COUNT : FldDesc := ⟨ERR_CORRECTED, 31, 0⟩

/-- R415. -/
def ERR_CONTAINED : RegDesc := ⟨0x5c, 0x0, 0x0, 0x0⟩
def ERR_CONTAINED_COUNT : FldDesc := ⟨ERR_CONTAINED, 31, 0⟩

/-- R415. -/
def ERR_DEGRADED : RegDesc := ⟨0x60, 0x0, 0x0, 0x0⟩
def ERR_DEGRADED_COUNT : FldDesc := ⟨ERR_DEGRADED, 31, 0⟩

/-! ### Recorder and test -/

/-- R443. -/
def REC_STATUS : RegDesc := ⟨0x1100000, 0x0, 0x0, 0x0⟩
def REC_STATUS_RECORDER_FULL : FldDesc := ⟨REC_STATUS, 31, 31⟩
def REC_STATUS_TORN : FldDesc := ⟨REC_STATUS, 30, 30⟩
def REC_STATUS_BUFFER_LOSS : FldDesc := ⟨REC_STATUS, 29, 29⟩
def REC_STATUS_BUFFERED : FldDesc := ⟨REC_STATUS, 13, 0⟩

/-- R437. -/
def REC_SEQ : RegDesc := ⟨0x1100004, 0x0, 0x0, 0x0⟩
def REC_SEQ_SEQ : FldDesc := ⟨REC_SEQ, 31, 0⟩

/-- R437. -/
def REC_FLASH_USED : RegDesc := ⟨0x1100008, 0x0, 0x0, 0x0⟩
def REC_FLASH_USED_USED : FldDesc := ⟨REC_FLASH_USED, 31, 0⟩

/-- R437. -/
def REC_BOOTS : RegDesc := ⟨0x110000c, 0x0, 0x0, 0x0⟩
def REC_BOOTS_BOOTS : FldDesc := ⟨REC_BOOTS, 31, 0⟩

/-- R437. -/
def REC_SUPPRESSED : RegDesc := ⟨0x1101000, 0x4, 0x0, 0x0⟩
def REC_SUPPRESSED_COUNT : FldDesc := ⟨REC_SUPPRESSED, 31, 0⟩

/-- R447. -/
def DUMP_STATUS : RegDesc := ⟨0x1100100, 0x4, 0x0, 0x0⟩
def DUMP_STATUS_FLAGS : FldDesc := ⟨DUMP_STATUS, 31, 24⟩
def DUMP_STATUS_DUMP_SEQ : FldDesc := ⟨DUMP_STATUS, 15, 0⟩

/-- R452. -/
def TEST_ERRORS : RegDesc := ⟨0x1200000, 0x10, 0x0, 0x0⟩
def TEST_ERRORS_ERRORS : FldDesc := ⟨TEST_ERRORS, 31, 0⟩

/-- R452. -/
def TEST_BITS : RegDesc := ⟨0x1200004, 0x10, 0x0, 0x0⟩
def TEST_BITS_BITS : FldDesc := ⟨TEST_BITS, 31, 0⟩

/-! ### Power and reset -/

/-- R463. -/
def PWR_STATUS : RegDesc := ⟨0x70, 0x0, 0x0, 0x0⟩
def PWR_STATUS_FEED_A_OK : FldDesc := ⟨PWR_STATUS, 31, 31⟩
def PWR_STATUS_FEED_B_OK : FldDesc := ⟨PWR_STATUS, 30, 30⟩
def PWR_STATUS_ON_HOLDUP : FldDesc := ⟨PWR_STATUS, 29, 29⟩
def PWR_STATUS_HOLDUP_READY : FldDesc := ⟨PWR_STATUS, 28, 28⟩
def PWR_STATUS_FEED_A_LOST : FldDesc := ⟨PWR_STATUS, 27, 27⟩
def PWR_STATUS_FEED_B_LOST : FldDesc := ⟨PWR_STATUS, 26, 26⟩
def PWR_STATUS_OV_SEEN : FldDesc := ⟨PWR_STATUS, 25, 25⟩
def PWR_STATUS_REVERSE : FldDesc := ⟨PWR_STATUS, 24, 24⟩
def PWR_STATUS_HOLDUP_V : FldDesc := ⟨PWR_STATUS, 7, 0⟩

/-- R463. -/
def PWR_FEED_A : RegDesc := ⟨0x74, 0x0, 0x0, 0x0⟩
def PWR_FEED_A_VOLTS : FldDesc := ⟨PWR_FEED_A, 31, 16⟩
def PWR_FEED_A_MILLIAMPS : FldDesc := ⟨PWR_FEED_A, 15, 0⟩

/-- R463. -/
def PWR_FEED_B : RegDesc := ⟨0x78, 0x0, 0x0, 0x0⟩
def PWR_FEED_B_VOLTS : FldDesc := ⟨PWR_FEED_B, 31, 16⟩
def PWR_FEED_B_MILLIAMPS : FldDesc := ⟨PWR_FEED_B, 15, 0⟩

/-- R463. -/
def PWR_INPUT : RegDesc := ⟨0x7c, 0x0, 0x0, 0x0⟩
def PWR_INPUT_POWER : FldDesc := ⟨PWR_INPUT, 15, 0⟩

/-- R470. -/
def THERM_STATUS : RegDesc := ⟨0x80, 0x0, 0x0, 0x0⟩
def THERM_STATUS_PLATE : FldDesc := ⟨THERM_STATUS, 31, 24⟩
def THERM_STATUS_DRAM_MAX : FldDesc := ⟨THERM_STATUS, 23, 16⟩
def THERM_STATUS_FRAME_STORE : FldDesc := ⟨THERM_STATUS, 15, 8⟩
def THERM_STATUS_OCXO_READY : FldDesc := ⟨THERM_STATUS, 7, 7⟩
def THERM_STATUS_PLATE_HIGH : FldDesc := ⟨THERM_STATUS, 6, 6⟩

/-- R471. -/
def RESET_CAUSE : RegDesc := ⟨0x84, 0x0, 0x0, 0x0⟩
def RESET_CAUSE_CAUSE : FldDesc := ⟨RESET_CAUSE, 31, 30⟩
def RESET_CAUSE_RESETS : FldDesc := ⟨RESET_CAUSE, 15, 0⟩

end Sys2Proof.Machine.R

namespace Sys2Proof.Machine

/-- The register map of Identity and global control. -/
def regRows01 : List RegRow := [
  ⟨R.EDGE_CLK_STATUS, 1, 1, 0x0, 0xfff, 0xfff0000, 0x0, 0x0, 0x0⟩,
  ⟨R.MGMT_CORE_STATUS, 1, 1, 0x0, 0xffffff, 0x0, 0x0, 0x0, 0x0⟩]

/-- The register map of Host queues. -/
def regRows02 : List RegRow := [
  ⟨R.BAR2_OFFSET, 1, 1, 0xffffffc0, 0x0, 0x0, 0x0, 0x0, 0x0⟩,
  ⟨R.Q_CTRL, 17, 1, 0x8ff0ffff, 0x0, 0x0, 0x0, 0x0, 0x0⟩,
  ⟨R.Q_STATUS, 17, 1, 0x0, 0xc0ff0fff, 0x0, 0x0, 0x0, 0x0⟩,
  ⟨R.SQ_BASE_LO, 17, 1, 0xffffffc0, 0x0, 0x0, 0x0, 0x0, 0x0⟩,
  ⟨R.SQ_BASE_HI, 17, 1, 0xffffffff, 0x0, 0x0, 0x0, 0x0, 0x0⟩,
  ⟨R.CQ_BASE_LO, 17, 1, 0xffffffc0, 0x0, 0x0, 0x0, 0x0, 0x0⟩,
  ⟨R.CQ_BASE_HI, 17, 1, 0xffffffff, 0x0, 0x0, 0x0, 0x0, 0x0⟩,
  ⟨R.Q_EXP_SEQ, 17, 1, 0xffffffff, 0x0, 0x0, 0x0, 0x0, 0x0⟩,
  ⟨R.Q_DONE_SEQ, 17, 1, 0x0, 0xffffffff, 0x0, 0x0, 0x0, 0x0⟩,
  ⟨R.Q_DUP_COUNT, 17, 1, 0x0, 0x0, 0x0, 0x0, 0x0, 0xffffffff⟩,
  ⟨R.EVQ_HELD, 17, 1, 0x0, 0x1ffff, 0x0, 0x0, 0x0, 0x0⟩,
  ⟨R.EVQ_LOST, 17, 1, 0x0, 0x0, 0x0, 0x0, 0x0, 0xffffffff⟩,
  ⟨R.SQ_TAIL_DB, 17, 1, 0x0, 0x0, 0x0, 0x0, 0xffffffff, 0x0⟩,
  ⟨R.CQ_HEAD_DB, 17, 1, 0x0, 0x0, 0x0, 0x0, 0xffffffff, 0x0⟩,
  ⟨R.FWD_TIMEOUT, 1, 1, 0x3fff, 0x0, 0x0, 0x0, 0x0, 0x0⟩,
  ⟨R.FENCE_VAL, 1024, 1, 0xffffffff, 0x0, 0x0, 0x0, 0x0, 0x0⟩]

/-- The register map of Boot and profiles. -/
def regRows03 : List RegRow := [
  ⟨R.PROF_STATUS, 1, 1, 0x0, 0x8f333300, 0x0, 0x0, 0x0, 0x0⟩,
  ⟨R.BOOT_STATUS, 1, 1, 0x0, 0xff000f, 0x0, 0x0, 0x0, 0x0⟩,
  ⟨R.PROF_IMAGE_ID, 1, 1, 0x0, 0xffffffff, 0x0, 0x0, 0x0, 0x0⟩]

/-- The register map of Time. -/
def regRows04 : List RegRow := [
  ⟨R.WT_STATUS, 1, 1, 0x0, 0xffff0000, 0x0, 0x0, 0x0, 0x0⟩,
  ⟨R.WT_RATE, 1, 1, 0x0, 0xffffffff, 0x0, 0x0, 0x0, 0x0⟩,
  ⟨R.WT_OFFSET_LO, 1, 1, 0x0, 0xffffffff, 0x0, 0x0, 0x0, 0x0⟩,
  ⟨R.WT_OFFSET_HI, 1, 1, 0x0, 0xffffffff, 0x0, 0x0, 0x0, 0x0⟩,
  ⟨R.TIME_HOLDOVER_TRUST, 1, 1, 0x3fffff, 0x0, 0x0, 0x0, 0x0, 0x0⟩,
  ⟨R.TIME_SNAP, 1, 1, 0x0, 0x2, 0x0, 0x1, 0x0, 0x0⟩,
  ⟨R.SNAP_SEC_HI, 5, 1, 0x0, 0xffff, 0x0, 0x0, 0x0, 0x0⟩,
  ⟨R.SNAP_SEC_LO, 5, 1, 0x0, 0xffffffff, 0x0, 0x0, 0x0, 0x0⟩,
  ⟨R.SNAP_NS, 5, 1, 0x0, 0xffffffff, 0x0, 0x0, 0x0, 0x0⟩,
  ⟨R.SNAP_FRAC, 5, 1, 0x0, 0xffff, 0x0, 0x0, 0x0, 0x0⟩,
  ⟨R.TB_STATUS, 4, 1, 0x0, 0x8f30ffff, 0x0, 0x0, 0x0, 0x0⟩,
  ⟨R.TB_RATE_ADJ, 4, 1, 0x0, 0xffffffff, 0x0, 0x0, 0x0, 0x0⟩,
  ⟨R.TB3_SET_SEC_HI, 1, 1, 0xffff, 0x0, 0x0, 0x0, 0x0, 0x0⟩,
  ⟨R.TB3_SET_SEC_LO, 1, 1, 0xffffffff, 0x0, 0x0, 0x0, 0x0, 0x0⟩,
  ⟨R.TB3_SET_NS, 1, 1, 0xffffffff, 0x0, 0x0, 0x0, 0x0, 0x0⟩,
  ⟨R.TB3_APPLY, 1, 1, 0x0, 0x0, 0x0, 0x0, 0x1, 0x0⟩,
  ⟨R.PPS_CTRL, 1, 1, 0x1, 0x0, 0x0, 0x0, 0x0, 0x0⟩,
  ⟨R.TS_CAL, 4, 1, 0x0, 0xffffffff, 0x0, 0x0, 0x0, 0x0⟩,
  ⟨R.TS_CARRIER, 4, 1, 0xffffffff, 0x0, 0x0, 0x0, 0x0, 0x0⟩,
  ⟨R.LAUNCH_LATE, 4, 1, 0x0, 0x0, 0x0, 0x0, 0x0, 0xffffffff⟩,
  ⟨R.LAUNCH_FAR, 4, 1, 0x0, 0x0, 0x0, 0x0, 0x0, 0xffffffff⟩,
  ⟨R.TRIG_CTRL, 16, 1, 0x7000ffff, 0x0, 0x0, 0x0, 0x80000000, 0x0⟩,
  ⟨R.TRIG_STATUS, 16, 1, 0x0, 0x8000ffff, 0x70000000, 0x0, 0x0, 0x0⟩,
  ⟨R.TRIG_AT_LO, 16, 1, 0xffffffff, 0x0, 0x0, 0x0, 0x0, 0x0⟩,
  ⟨R.TRIG_AT_HI, 16, 1, 0xffff, 0x0, 0x0, 0x0, 0x0, 0x0⟩,
  ⟨R.TRIG_PERIOD_M1, 16, 1, 0xffffffff, 0x0, 0x0, 0x0, 0x0, 0x0⟩,
  ⟨R.CAP_CTRL, 16, 1, 0xfc000000, 0x0, 0x0, 0x0, 0x0, 0x0⟩,
  ⟨R.CAP_STATUS, 16, 1, 0x0, 0x1fffff, 0x80000000, 0x0, 0x0, 0x0⟩,
  ⟨R.CAP_TIME_LO, 16, 1, 0x0, 0xffffffff, 0x0, 0x0, 0x0, 0x0⟩,
  ⟨R.CAP_TIME_HI, 16, 1, 0x0, 0xf000ffff, 0x0, 0x0, 0x0, 0x0⟩]

/-- The register map of Reference selector. -/
def regRows05 : List RegRow := [
  ⟨R.REFSEL_STATUS, 1, 1, 0x0, 0xeff0ffff, 0x80000, 0x0, 0x0, 0x0⟩,
  ⟨R.REFSEL_CTRL, 1, 1, 0x4f0f3fff, 0x0, 0x0, 0x0, 0x80000000, 0x0⟩,
  ⟨R.REFSEL_PULL, 1, 1, 0x0, 0xffffffff, 0x0, 0x0, 0x0, 0x0⟩,
  ⟨R.REFSEL_FREQ, 1, 1, 0x0, 0xffffffff, 0x0, 0x0, 0x0, 0x0⟩,
  ⟨R.REF_CFG, 12, 1, 0x6fffffff, 0x0, 0x0, 0x0, 0x80000000, 0x0⟩,
  ⟨R.REF_LIMITS, 12, 1, 0xffffffff, 0x0, 0x0, 0x0, 0x0, 0x0⟩,
  ⟨R.REF_STATUS, 12, 1, 0x0, 0xf0ff0000, 0xe000000, 0x0, 0x0, 0x0⟩,
  ⟨R.REF_FREQ, 12, 1, 0x0, 0xffffffff, 0x0, 0x0, 0x0, 0x0⟩,
  ⟨R.REF_DRIFT, 12, 1, 0x0, 0xffffffff, 0x0, 0x0, 0x0, 0x0⟩]

/-- The register map of Ingest. -/
def regRows06 : List RegRow := [
  ⟨R.ETH_CTRL, 4, 1, 0xe0003fff, 0x0, 0x0, 0x0, 0x0, 0x0⟩,
  ⟨R.ETH_STATUS, 4, 1, 0x0, 0xa0000000, 0x40000000, 0x0, 0x0, 0x0⟩,
  ⟨R.ETH_IPV4, 4, 1, 0xffffffff, 0x0, 0x0, 0x0, 0x0, 0x0⟩,
  ⟨R.ETH_RX_OK, 4, 1, 0x0, 0x0, 0x0, 0x0, 0x0, 0xffffffff⟩,
  ⟨R.ETH_RX_FCS, 4, 1, 0x0, 0x0, 0x0, 0x0, 0x0, 0xffffffff⟩,
  ⟨R.ETH_RX_FRAG, 4, 1, 0x0, 0x0, 0x0, 0x0, 0x0, 0xffffffff⟩,
  ⟨R.ETH_RX_TOFW, 4, 1, 0x0, 0x0, 0x0, 0x0, 0x0, 0xffffffff⟩,
  ⟨R.ETH_RX_UNUSED, 4, 1, 0x0, 0x0, 0x0, 0x0, 0x0, 0xffffffff⟩,
  ⟨R.INGEST_LOAD, 1, 1, 0x0, 0xfffff, 0x0, 0x0, 0x0, 0x0⟩,
  ⟨R.INGEST_BUDGET, 1, 1, 0x0, 0xfffff, 0x0, 0x0, 0x0, 0x0⟩,
  ⟨R.FLOW_CTRL, 1024, 1, 0x7ff800ff, 0x0, 0x0, 0x0, 0x80000000, 0x0⟩,
  ⟨R.FLOW_PORT, 1024, 1, 0xfffffff, 0x0, 0x0, 0x0, 0x0, 0x0⟩,
  ⟨R.FLOW_SSRC, 1024, 1, 0xffffffff, 0x0, 0x0, 0x0, 0x0, 0x0⟩,
  ⟨R.FLOW_DST, 1024, 4, 0xffffffff, 0x0, 0x0, 0x0, 0x0, 0x0⟩,
  ⟨R.FLOW_SRC, 1024, 4, 0xffffffff, 0x0, 0x0, 0x0, 0x0, 0x0⟩,
  ⟨R.FLOW_HITS, 1024, 1, 0x0, 0xffffffff, 0x0, 0x0, 0x0, 0x0⟩,
  ⟨R.CTX_STATUS, 256, 1, 0x0, 0xfff0ffff, 0x0, 0x0, 0x0, 0x0⟩,
  ⟨R.CTX_CFG, 256, 1, 0x0, 0xfffff0ff, 0x0, 0x0, 0x0, 0x0⟩,
  ⟨R.CTX_ALLOW, 256, 1, 0x0, 0xffffffff, 0x0, 0x0, 0x0, 0x0⟩,
  ⟨R.CTX_PEAK, 256, 1, 0x0, 0xffff, 0x0, 0x0, 0x0, 0x0⟩,
  ⟨R.CTX_PM_LO, 256, 1, 0x0, 0xffffffff, 0x0, 0x0, 0x0, 0x0⟩,
  ⟨R.CTX_PM_HI, 256, 1, 0x0, 0xffffffff, 0x0, 0x0, 0x0, 0x0⟩,
  ⟨R.FRAMES_OK, 256, 1, 0x0, 0x0, 0x0, 0x0, 0x0, 0xffffffff⟩,
  ⟨R.FRAMES_IMPAIRED, 256, 1, 0x0, 0x0, 0x0, 0x0, 0x0, 0xffffffff⟩,
  ⟨R.DISCARD_PARTIAL, 256, 1, 0x0, 0x0, 0x0, 0x0, 0x0, 0xffffffff⟩,
  ⟨R.DISCARD_GAP, 256, 1, 0x0, 0x0, 0x0, 0x0, 0x0, 0xffffffff⟩,
  ⟨R.DISCARD_SYNC, 256, 1, 0x0, 0x0, 0x0, 0x0, 0x0, 0xffffffff⟩,
  ⟨R.DISCARD_OVERSIZE, 256, 1, 0x0, 0x0, 0x0, 0x0, 0x0, 0xffffffff⟩,
  ⟨R.CAPT_BACKWARD, 256, 1, 0x0, 0x0, 0x0, 0x0, 0x0, 0xffffffff⟩,
  ⟨R.PKT_COUNTS, 256, 1, 0x0, 0x0, 0x0, 0x0, 0x0, 0x3fffffff⟩]

/-- The register map of Decode. -/
def regRows07 : List RegRow := [
  ⟨R.DEC_ENG_STATUS, 8, 1, 0x0, 0xc0ffffff, 0x0, 0x0, 0x0, 0x0⟩,
  ⟨R.DEC_GLOAD, 1, 1, 0x0, 0x3fffff, 0x0, 0x0, 0x0, 0x0⟩,
  ⟨R.DEC_CAPACITY, 1, 1, 0x0, 0x3fffff, 0x0, 0x0, 0x0, 0x0⟩,
  ⟨R.DEC_UTIL, 1, 1, 0x0, 0x3ff, 0x0, 0x0, 0x0, 0x0⟩,
  ⟨R.DCTX_STATUS, 256, 1, 0x0, 0xff8fffff, 0x0, 0x0, 0x0, 0x0⟩,
  ⟨R.DCTX_CFG, 256, 1, 0x0, 0x9f7f3f00, 0x0, 0x0, 0x0, 0x0⟩,
  ⟨R.DCTX_SIZE, 256, 1, 0x0, 0xfff0fff, 0x0, 0x0, 0x0, 0x0⟩,
  ⟨R.DCTX_FROZEN_RUN, 256, 1, 0xffff, 0x0, 0x0, 0x0, 0x0, 0x0⟩,
  ⟨R.DCTX_POOL_LO, 256, 1, 0x0, 0xffffffff, 0x0, 0x0, 0x0, 0x0⟩,
  ⟨R.DCTX_POOL_HI, 256, 1, 0x0, 0xffffffff, 0x0, 0x0, 0x0, 0x0⟩,
  ⟨R.DCTX_REF_MASK, 256, 1, 0x0, 0xffffffff, 0x0, 0x0, 0x0, 0x0⟩,
  ⟨R.DCTX_LEASE_MASK, 256, 1, 0x0, 0xffffffff, 0x0, 0x0, 0x0, 0x0⟩,
  ⟨R.DCTX_OUT, 256, 1, 0x0, 0x8000001f, 0x0, 0x0, 0x0, 0x0⟩,
  ⟨R.DCTX_LOAD, 256, 1, 0x0, 0xffffffff, 0x0, 0x0, 0x0, 0x0⟩,
  ⟨R.FRAMES_DECODED, 256, 1, 0x0, 0x0, 0x0, 0x0, 0x0, 0xffffffff⟩,
  ⟨R.FRAMES_IMPAIRED_DEC, 256, 1, 0x0, 0x0, 0x0, 0x0, 0x0, 0xffffffff⟩,
  ⟨R.DROPPED_NONREF, 256, 1, 0x0, 0x0, 0x0, 0x0, 0x0, 0xffffffff⟩,
  ⟨R.DROPPED_SHED, 256, 1, 0x0, 0x0, 0x0, 0x0, 0x0, 0xffffffff⟩,
  ⟨R.RESETS, 256, 1, 0x0, 0x0, 0x0, 0x0, 0x0, 0xffffffff⟩,
  ⟨R.DEC_COUNTS, 256, 1, 0x0, 0x0, 0x0, 0x0, 0x0, 0x3fffffff⟩]

/-- The register map of Layers. -/
def regRows08 : List RegRow := [
  ⟨R.LD_SHADOW, 4096, 24, 0xffffffff, 0x0, 0x0, 0x0, 0x0, 0x0⟩,
  ⟨R.LD_CURRENT, 4096, 24, 0x0, 0xffffffff, 0x0, 0x0, 0x0, 0x0⟩,
  ⟨R.LAYER_STATUS, 4096, 1, 0x0, 0xffe0ffff, 0x0, 0x0, 0x0, 0x0⟩,
  ⟨R.LAYER_SEQ, 4096, 1, 0x0, 0xffffffff, 0x0, 0x0, 0x0, 0x0⟩,
  ⟨R.LAYER_ORIGIN, 4096, 1, 0x0, 0x1ff000f, 0x0, 0x0, 0x0, 0x0⟩,
  ⟨R.LAYER_REFUSAL, 4096, 1, 0x0, 0xffffffff, 0x0, 0x0, 0x0, 0x0⟩,
  ⟨R.LAYER_COST, 4096, 1, 0x0, 0xffff, 0x0, 0x0, 0x0, 0x0⟩,
  ⟨R.LAYER_PM_LO, 4096, 1, 0x0, 0xffffffff, 0x0, 0x0, 0x0, 0x0⟩,
  ⟨R.LAYER_PM_HI, 4096, 1, 0x0, 0xffffffff, 0x0, 0x0, 0x0, 0x0⟩,
  ⟨R.LAYER_AGE, 4096, 1, 0x0, 0xffffffff, 0x0, 0x0, 0x0, 0x0⟩,
  ⟨R.GRP_PENDING, 6, 1, 0x0, 0xffff, 0x0, 0x0, 0x0, 0x0⟩,
  ⟨R.GRP_FRAME, 6, 1, 0x0, 0xffffffff, 0x0, 0x0, 0x0, 0x0⟩,
  ⟨R.GRP_DG, 6, 1, 0x0, 0xffffffff, 0x0, 0x0, 0x0, 0x0⟩,
  ⟨R.GRP_DA, 6, 1, 0x0, 0xffffffff, 0x0, 0x0, 0x0, 0x0⟩,
  ⟨R.GRP_CAPACITY, 6, 1, 0x0, 0xffffffff, 0x0, 0x0, 0x0, 0x0⟩,
  ⟨R.GRP_FETCH, 6, 1, 0x0, 0xffffffff, 0x0, 0x0, 0x0, 0x0⟩,
  ⟨R.GRP_CANVAS, 6, 1, 0x0, 0x83ff, 0x0, 0x0, 0x0, 0x0⟩]

/-- The register map of Chase. -/
def regRows10 : List RegRow := [
  ⟨R.GRP_TRANSIT, 6, 1, 0x0, 0xfffff, 0x0, 0x0, 0x0, 0x0⟩,
  ⟨R.HEAD_CHASE_LEAD, 32, 1, 0xfff, 0x0, 0x0, 0x0, 0x0, 0x0⟩,
  ⟨R.HEAD_CHASE_LEAD_CUR, 32, 1, 0x0, 0xfff, 0x0, 0x0, 0x0, 0x0⟩,
  ⟨R.HEAD_CHASE_STATUS, 32, 1, 0x0, 0xfff0fff, 0xe0000000, 0x0, 0x0, 0x0⟩,
  ⟨R.HEAD_LATE_LINES, 32, 1, 0x0, 0x0, 0x0, 0x0, 0x0, 0xffffffff⟩,
  ⟨R.HEAD_REDUCED_LINES, 32, 1, 0x0, 0x0, 0x0, 0x0, 0x0, 0xffffffff⟩,
  ⟨R.HEAD_SKEW_COUNT, 32, 1, 0x0, 0x0, 0x0, 0x0, 0x0, 0xffffffff⟩,
  ⟨R.HEAD_PART_BASE, 32, 1, 0x0, 0xffffffff, 0x0, 0x0, 0x0, 0x0⟩,
  ⟨R.HEAD_PART_SIZE, 32, 1, 0x0, 0xffffffff, 0x0, 0x0, 0x0, 0x0⟩,
  ⟨R.HEAD_LAST_LATE, 32, 1, 0x0, 0xffff0fff, 0x0, 0x0, 0x0, 0x0⟩,
  ⟨R.GOV_STATUS, 1, 1, 0x0, 0xc0ff3f3f, 0x0, 0x0, 0x0, 0x0⟩,
  ⟨R.GOV_LIMIT, 1, 1, 0x3f, 0x0, 0x0, 0x0, 0x0, 0x0⟩,
  ⟨R.GOV_SHEDS, 1, 1, 0x0, 0x0, 0x0, 0x0, 0x0, 0xffffffff⟩]

/-- The register map of Pixel pipeline. -/
def regRows09 : List RegRow := [
  ⟨R.HEAD_OUT_FMT, 32, 1, 0x9f000000, 0x0, 0x0, 0x0, 0x0, 0x0⟩,
  ⟨R.HEAD_OUT_FMT_CUR, 32, 1, 0x0, 0x9f000000, 0x0, 0x0, 0x0, 0x0⟩,
  ⟨R.SCALER_STATUS, 128, 1, 0x0, 0xe7000fff, 0x0, 0x0, 0x0, 0x0⟩]

/-- The register map of Display. -/
def regRows11 : List RegRow := [
  ⟨R.HEAD_MODE, 32, 1, 0x8000003f, 0x0, 0x0, 0x0, 0x0, 0x0⟩,
  ⟨R.HEAD_MODE_CUR, 32, 1, 0x0, 0x8000003f, 0x0, 0x0, 0x0, 0x0⟩,
  ⟨R.HEAD_ASYNC, 32, 1, 0x830000ff, 0x0, 0x0, 0x0, 0x0, 0x0⟩,
  ⟨R.HEAD_DISP_STATUS, 32, 1, 0x0, 0xff0f8000, 0x0, 0x0, 0x0, 0x0⟩,
  ⟨R.HEAD_WB_CTRL, 32, 1, 0x8f8c0000, 0x0, 0x0, 0x0, 0x0, 0x0⟩,
  ⟨R.HEAD_WB_BASE_LO, 32, 1, 0xffff0000, 0x0, 0x0, 0x0, 0x0, 0x0⟩,
  ⟨R.HEAD_WB_BASE_HI, 32, 1, 0xf, 0x0, 0x0, 0x0, 0x0, 0x0⟩,
  ⟨R.HEAD_WB_STATUS, 32, 1, 0x0, 0x83800fff, 0x0, 0x0, 0x0, 0x0⟩,
  ⟨R.WB_FRAME, 32, 1, 0x0, 0xffffffff, 0x0, 0x0, 0x0, 0x0⟩,
  ⟨R.WB_SKIPPED, 32, 1, 0x0, 0x0, 0x0, 0x0, 0x0, 0xffffffff⟩,
  ⟨R.WB_SIZE, 32, 1, 0x0, 0xffffffff, 0x0, 0x0, 0x0, 0x0⟩,
  ⟨R.DP_CTRL, 16, 1, 0x4f000000, 0x0, 0x0, 0x0, 0x80000000, 0x0⟩,
  ⟨R.DP_STATUS, 16, 1, 0x0, 0xff000000, 0x800000, 0x0, 0x0, 0x0⟩,
  ⟨R.DP_TRAINS, 16, 1, 0x0, 0x0, 0x0, 0x0, 0x0, 0xffffffff⟩,
  ⟨R.DP_FAILS, 16, 1, 0x0, 0x0, 0x0, 0x0, 0x0, 0xffffffff⟩]

/-- The register map of Freshness. -/
def regRows12 : List RegRow := [
  ⟨R.FRESH_SUMMARY, 1, 1, 0x0, 0x7ffffff, 0x0, 0x0, 0x0, 0x0⟩,
  ⟨R.ALARM_CAUSE, 1, 1, 0x0, 0x0, 0xf800, 0x0, 0x0, 0x0⟩,
  ⟨R.SSP_CTRL, 1, 1, 0x80000000, 0x0, 0x0, 0x0, 0x0, 0x0⟩,
  ⟨R.SSP_READS, 1, 1, 0x0, 0x0, 0x0, 0x0, 0x0, 0xffffffff⟩,
  ⟨R.VIEW_MAP, 1024, 1, 0x0, 0x80000fff, 0x0, 0x0, 0x0, 0x0⟩,
  ⟨R.SSP_IMAGE, 4096, 1, 0x0, 0xffff, 0x0, 0x0, 0x0, 0x0⟩,
  ⟨R.TST_CTRL, 1024, 1, 0xffff03ff, 0x0, 0x0, 0x0, 0x0, 0x0⟩,
  ⟨R.TST_POS, 1024, 1, 0xffffffff, 0x0, 0x0, 0x0, 0x0, 0x0⟩,
  ⟨R.TST_SIZE, 1024, 1, 0xffffffff, 0x0, 0x0, 0x0, 0x0, 0x0⟩,
  ⟨R.TST_EXP, 1024, 8, 0xffffffff, 0x0, 0x0, 0x0, 0x0, 0x0⟩,
  ⟨R.TST_CUR, 1024, 12, 0x0, 0xffffffff, 0x0, 0x0, 0x0, 0x0⟩,
  ⟨R.TST_SIG, 1024, 1, 0x0, 0xffffffff, 0x0, 0x0, 0x0, 0x0⟩,
  ⟨R.TST_STATUS, 1024, 1, 0x0, 0x8000ffff, 0x40000000, 0x0, 0x0, 0x0⟩,
  ⟨R.TST_FRAME, 1024, 1, 0x0, 0xffffffff, 0x0, 0x0, 0x0, 0x0⟩]

/-- The register map of Encode. -/
def regRows13 : List RegRow := [
  ⟨R.ENC_ENG_STATUS, 2, 1, 0x0, 0xe0ffffff, 0x0, 0x0, 0x0, 0x0⟩,
  ⟨R.ENC_ENG_GLOAD, 2, 1, 0x0, 0x3fffff, 0x0, 0x0, 0x0, 0x0⟩,
  ⟨R.ENC_ENG_LOAD, 2, 1, 0x0, 0x3fffff, 0x0, 0x0, 0x0, 0x0⟩,
  ⟨R.ENC_STATUS, 256, 1, 0x0, 0xfff0ffff, 0x0, 0x0, 0x0, 0x0⟩,
  ⟨R.ENC_CTRL, 256, 1, 0x80000000, 0x0, 0x0, 0x0, 0x0, 0x0⟩,
  ⟨R.ENC_WPTR, 256, 1, 0x0, 0xfffffff, 0x0, 0x0, 0x0, 0x0⟩,
  ⟨R.ENC_RPTR, 256, 1, 0xfffffff, 0x0, 0x0, 0x0, 0x0, 0x0⟩,
  ⟨R.ENC_FRAME, 256, 1, 0x0, 0xffffffff, 0x0, 0x0, 0x0, 0x0⟩,
  ⟨R.ENC_LOAD, 256, 1, 0x0, 0xffffffff, 0x0, 0x0, 0x0, 0x0⟩,
  ⟨R.FRAMES_ENCODED, 256, 1, 0x0, 0x0, 0x0, 0x0, 0x0, 0xffffffff⟩,
  ⟨R.ROWS_SKIPPED, 256, 1, 0x0, 0x0, 0x0, 0x0, 0x0, 0xffffffff⟩,
  ⟨R.ROWS_LATE, 256, 1, 0x0, 0x0, 0x0, 0x0, 0x0, 0xffffffff⟩,
  ⟨R.RING_DROPS, 256, 1, 0x0, 0x0, 0x0, 0x0, 0x0, 0xffffffff⟩,
  ⟨R.ENC_LAST_BYTES, 256, 1, 0x0, 0xffffffff, 0x0, 0x0, 0x0, 0x0⟩,
  ⟨R.SEI_USED, 256, 1, 0x0, 0x0, 0x0, 0x0, 0x0, 0xffffffff⟩,
  ⟨R.SEI_BAD, 256, 1, 0x0, 0x0, 0x0, 0x0, 0x0, 0xffffffff⟩]

/-- The register map of Operator I/O. -/
def regRows14 : List RegRow := [
  ⟨R.TCH_CTRL, 2, 1, 0x787f3fff, 0x0, 0x0, 0x0, 0x80000000, 0x0⟩,
  ⟨R.TCH_THRESH, 2, 1, 0x3fffffff, 0x0, 0x0, 0x0, 0x0, 0x0⟩,
  ⟨R.TCH_TIMING, 2, 1, 0xff0fff, 0x0, 0x0, 0x0, 0x0, 0x0⟩,
  ⟨R.TCH_MARK_SHAPE, 2, 1, 0x103, 0x0, 0x0, 0x0, 0x0, 0x0⟩,
  ⟨R.TCH_MARK_COLOUR, 2, 1, 0xffffffff, 0x0, 0x0, 0x0, 0x0, 0x0⟩,
  ⟨R.TCH_HOVER_COLOUR, 2, 1, 0xffffffff, 0x0, 0x0, 0x0, 0x0, 0x0⟩,
  ⟨R.TCH_MAP_SX, 2, 1, 0xffffffff, 0x0, 0x0, 0x0, 0x0, 0x0⟩,
  ⟨R.TCH_MAP_SY, 2, 1, 0xffffffff, 0x0, 0x0, 0x0, 0x0, 0x0⟩,
  ⟨R.TCH_MAP_OFF, 2, 1, 0xffffffff, 0x0, 0x0, 0x0, 0x0, 0x0⟩,
  ⟨R.TCH_STATUS, 2, 1, 0x0, 0xf00fffff, 0x8000000, 0x0, 0x0, 0x0⟩,
  ⟨R.TCH_SCAN_LO, 2, 1, 0x0, 0xffffffff, 0x0, 0x0, 0x0, 0x0⟩,
  ⟨R.TCH_SCAN_HI, 2, 1, 0x0, 0xffffffff, 0x0, 0x0, 0x0, 0x0⟩,
  ⟨R.TCH_SLOT, 2, 20, 0x0, 0xffffffff, 0x0, 0x0, 0x0, 0x0⟩,
  ⟨R.TCH_TIMEOUTS, 2, 1, 0x0, 0x0, 0x0, 0x0, 0x0, 0xffffffff⟩,
  ⟨R.TCH_REBASE, 2, 1, 0x0, 0x0, 0x0, 0x0, 0x0, 0xffffffff⟩,
  ⟨R.TCH_DROPPED, 2, 1, 0x0, 0x0, 0x0, 0x0, 0x0, 0xffffffff⟩,
  ⟨R.TCH_LATE_SCANS, 2, 1, 0x0, 0x0, 0x0, 0x0, 0x0, 0xffffffff⟩,
  ⟨R.ADC_CTRL, 1, 1, 0x400f0000, 0x0, 0x0, 0x0, 0x80000000, 0x0⟩,
  ⟨R.ADC_STATUS, 1, 1, 0x0, 0x8000ffff, 0x40000000, 0x0, 0x0, 0x0⟩,
  ⟨R.ADC_TIME_LO, 1, 1, 0x0, 0xffffffff, 0x0, 0x0, 0x0, 0x0⟩,
  ⟨R.ADC_TIME_HI, 1, 1, 0x0, 0xffffffff, 0x0, 0x0, 0x0, 0x0⟩,
  ⟨R.ADC_CH, 16, 1, 0xc7000000, 0x0, 0x0, 0x0, 0x0, 0x0⟩,
  ⟨R.ADC_DATA, 16, 1, 0x0, 0xc003ffff, 0x0, 0x0, 0x0, 0x0⟩,
  ⟨R.GPIO_IN, 1, 1, 0x0, 0xffffffff, 0x0, 0x0, 0x0, 0x0⟩,
  ⟨R.GPIO_OUT, 1, 1, 0xffffffff, 0x0, 0x0, 0x0, 0x0, 0x0⟩,
  ⟨R.GPIO_DEB, 1, 1, 0x3, 0x0, 0x0, 0x0, 0x0, 0x0⟩,
  ⟨R.CC_STATUS, 4, 1, 0x0, 0x800fffff, 0x40000000, 0x0, 0x0, 0x0⟩,
  ⟨R.CC_PERIOD, 4, 1, 0x0, 0xffffffff, 0x0, 0x0, 0x0, 0x0⟩,
  ⟨R.CC_LEAD, 4, 1, 0x0, 0xffffffff, 0x0, 0x0, 0x0, 0x0⟩,
  ⟨R.CC_NEXT_LO, 4, 1, 0x0, 0xffffffff, 0x0, 0x0, 0x0, 0x0⟩,
  ⟨R.CC_NEXT_HI, 4, 1, 0x0, 0xffffffff, 0x0, 0x0, 0x0, 0x0⟩,
  ⟨R.CC_SENT_A, 4, 1, 0x0, 0x0, 0x0, 0x0, 0x0, 0xffffffff⟩,
  ⟨R.CC_SENT_B, 4, 1, 0x0, 0x0, 0x0, 0x0, 0x0, 0xffffffff⟩,
  ⟨R.CC_GATED, 4, 1, 0x0, 0x0, 0x0, 0x0, 0x0, 0xffffffff⟩,
  ⟨R.CC_LATE, 4, 1, 0x0, 0x0, 0x0, 0x0, 0x0, 0xffffffff⟩,
  ⟨R.CC_PORT_DOWN, 4, 1, 0x0, 0x0, 0x0, 0x0, 0x0, 0xffffffff⟩]

/-- The register map of Paent system. -/
def regRows15 : List RegRow := [
  ⟨R.PAENT_ID, 1, 1, 0x80ffc1ff, 0x0, 0x0, 0x0, 0x0, 0x0⟩,
  ⟨R.PAENT_MGR, 1, 1, 0xff000000, 0xe7ffff, 0x0, 0x0, 0x0, 0x0⟩,
  ⟨R.PAENT_TIME_OFFSET, 1, 1, 0x0, 0xffffffff, 0x0, 0x0, 0x0, 0x0⟩,
  ⟨R.PNT_PSTATUS, 4, 1, 0x0, 0xffff0000, 0x0, 0x0, 0x0, 0x0⟩,
  ⟨R.PNT_DELAY, 4, 1, 0x0, 0xffffffff, 0x0, 0x0, 0x0, 0x0⟩,
  ⟨R.PNT_OFFSET, 4, 1, 0x0, 0xffffffff, 0x0, 0x0, 0x0, 0x0⟩,
  ⟨R.PNT_RES_OUT, 4, 1, 0x0, 0x1ffff, 0x0, 0x0, 0x0, 0x0⟩,
  ⟨R.PNT_REPLAYS, 4, 1, 0x0, 0x0, 0x0, 0x0, 0x0, 0xffffffff⟩,
  ⟨R.PNT_CRC_ERR, 4, 1, 0x0, 0x0, 0x0, 0x0, 0x0, 0xffffffff⟩,
  ⟨R.PNT_TTL_DROP, 4, 1, 0x0, 0x0, 0x0, 0x0, 0x0, 0xffffffff⟩,
  ⟨R.PNT_BAD_TYPE, 4, 1, 0x0, 0x0, 0x0, 0x0, 0x0, 0xffffffff⟩,
  ⟨R.ROUTE, 512, 1, 0x0, 0xc0000077, 0x0, 0x0, 0x0, 0x0⟩,
  ⟨R.MCAST, 256, 1, 0x0, 0xbfffe01f, 0x0, 0x0, 0x0, 0x0⟩,
  ⟨R.RX_STATUS, 256, 1, 0x0, 0xfffff01f, 0x0, 0x0, 0x0, 0x0⟩,
  ⟨R.RX_OUT, 256, 1, 0x0, 0x8000001f, 0x0, 0x0, 0x0, 0x0⟩,
  ⟨R.RX_RES, 256, 1, 0x0, 0xffffffff, 0x0, 0x0, 0x0, 0x0⟩,
  ⟨R.RX_PICTURES, 256, 1, 0x0, 0x0, 0x0, 0x0, 0x0, 0xffffffff⟩,
  ⟨R.RX_NO_SLOT, 256, 1, 0x0, 0x0, 0x0, 0x0, 0x0, 0xffffffff⟩,
  ⟨R.RX_DISCARD, 256, 1, 0x0, 0x0, 0x0, 0x0, 0x0, 0xffffffff⟩,
  ⟨R.RX_TIME_REJECT, 256, 1, 0x0, 0x0, 0x0, 0x0, 0x0, 0xffffffff⟩]

/-- The register map of Paent lanes. -/
def regRows16 : List RegRow := [
  ⟨R.PLN_CTRL, 4, 1, 0x78000000, 0x0, 0x0, 0x0, 0x80000000, 0x0⟩,
  ⟨R.PLN_STATUS, 4, 1, 0x0, 0xfffeffff, 0x0, 0x0, 0x0, 0x0⟩,
  ⟨R.PLN_ATTEMPTS, 4, 1, 0x0, 0x0, 0x0, 0x0, 0x0, 0xffffffff⟩,
  ⟨R.PLN_FAILS, 4, 1, 0x0, 0x0, 0x0, 0x0, 0x0, 0xffffffff⟩,
  ⟨R.PLN_RETRAINS, 4, 1, 0x0, 0x0, 0x0, 0x0, 0x0, 0xffffffff⟩,
  ⟨R.PLN_SPARE_USES, 4, 1, 0x0, 0x0, 0x0, 0x0, 0x0, 0xffffffff⟩,
  ⟨R.LN_CTRL, 4, 6, 0x4000000f, 0x0, 0x0, 0x0, 0x80000000, 0x0⟩,
  ⟨R.LN_STATUS, 4, 6, 0x0, 0xf1ff9fff, 0xe000000, 0x0, 0x0, 0x0⟩,
  ⟨R.LN_MARKER_ERR, 4, 6, 0x0, 0x0, 0x0, 0x0, 0x0, 0xffffffff⟩,
  ⟨R.LN_STUFF, 4, 6, 0x0, 0x0, 0x0, 0x0, 0x0, 0xffffffff⟩]

/-- The register map of Pair. -/
def regRows17 : List RegRow := [
  ⟨R.PAIR_CTRL, 1, 1, 0x401f0000, 0x0, 0x0, 0x0, 0x80000000, 0x0⟩,
  ⟨R.PAIR_TIMING, 1, 1, 0xffff03ff, 0x0, 0x0, 0x0, 0x0, 0x0⟩,
  ⟨R.PAIR_STATUS, 1, 1, 0x0, 0xfff7ffff, 0x80000, 0x0, 0x0, 0x0⟩,
  ⟨R.PAIR_HB, 1, 1, 0x0, 0xc7c001ff, 0x38000000, 0x0, 0x0, 0x0⟩,
  ⟨R.PAIR_CMD, 1, 1, 0x0, 0x0, 0x0, 0x0, 0xf0000000, 0x0⟩,
  ⟨R.PAIR_TAKEOVERS, 1, 1, 0x0, 0x0, 0x0, 0x0, 0x0, 0xffffffff⟩,
  ⟨R.PAIR_HANDOVERS, 1, 1, 0x0, 0x0, 0x0, 0x0, 0x0, 0xffffffff⟩,
  ⟨R.PAIR_DIVERGE, 1, 1, 0x0, 0x0, 0x0, 0x0, 0x0, 0xffffffff⟩,
  ⟨R.PAIR_WIRE_BAD, 1, 1, 0x0, 0x0, 0x0, 0x0, 0x0, 0xffffffff⟩,
  ⟨R.PAIR_MIRROR_LAG, 1, 1, 0x0, 0xffff, 0x0, 0x0, 0x0, 0x0⟩]

/-- The register map of Memory. -/
def regRows18 : List RegRow := [
  ⟨R.MEM_STATUS, 1, 1, 0x0, 0xf0ffffff, 0x0, 0x0, 0x0, 0x0⟩,
  ⟨R.MIG_THROTTLE, 1, 1, 0xffff, 0x0, 0x0, 0x0, 0x0, 0x0⟩,
  ⟨R.MEM_MAP0, 1, 1, 0x0, 0x3fffffff, 0x0, 0x0, 0x0, 0x0⟩,
  ⟨R.MEM_MAP1, 1, 1, 0x0, 0x3fffffff, 0x0, 0x0, 0x0, 0x0⟩,
  ⟨R.MEM_MAP2, 1, 1, 0x0, 0x3fffffff, 0x0, 0x0, 0x0, 0x0⟩,
  ⟨R.MEM_MAP3, 1, 1, 0x0, 0x3fffffff, 0x0, 0x0, 0x0, 0x0⟩,
  ⟨R.MEM_MAP4, 1, 1, 0x0, 0x3fffffff, 0x0, 0x0, 0x0, 0x0⟩,
  ⟨R.MEM_MAP5, 1, 1, 0x0, 0x3fffffff, 0x0, 0x0, 0x0, 0x0⟩,
  ⟨R.MEM_MAP6, 1, 1, 0x0, 0x3fffffff, 0x0, 0x0, 0x0, 0x0⟩,
  ⟨R.MEM_MAP7, 1, 1, 0x0, 0x3fffffff, 0x0, 0x0, 0x0, 0x0⟩,
  ⟨R.CH_STATUS, 8, 1, 0x0, 0xefe0fff0, 0x0, 0x0, 0x0, 0x0⟩,
  ⟨R.CH_MIG_PTR, 8, 1, 0x0, 0x7ffffff, 0x0, 0x0, 0x0, 0x0⟩,
  ⟨R.CH_ERR_LO, 8, 1, 0x0, 0xffffffc0, 0x0, 0x0, 0x0, 0x0⟩,
  ⟨R.CH_ERR_HI, 8, 1, 0x0, 0xc000070f, 0x0, 0x0, 0x0, 0x0⟩,
  ⟨R.CH_CE, 8, 1, 0x0, 0x0, 0x0, 0x0, 0x0, 0xffffffff⟩,
  ⟨R.CH_UE, 8, 1, 0x0, 0x0, 0x0, 0x0, 0x0, 0xffffffff⟩,
  ⟨R.CH_WCRC, 8, 1, 0x0, 0x0, 0x0, 0x0, 0x0, 0xffffffff⟩,
  ⟨R.CH_RETRAINS, 8, 1, 0x0, 0x0, 0x0, 0x0, 0x0, 0xffffffff⟩,
  ⟨R.CH_POISON_WR, 8, 1, 0x0, 0x0, 0x0, 0x0, 0x0, 0xffffffff⟩,
  ⟨R.CH_POISON_RD, 8, 1, 0x0, 0x0, 0x0, 0x0, 0x0, 0xffffffff⟩,
  ⟨R.FS_STATUS, 1, 1, 0x0, 0xc0000fff, 0x0, 0x0, 0x0, 0x0⟩,
  ⟨R.FS_CE, 1, 1, 0x0, 0x0, 0x0, 0x0, 0x0, 0xffffffff⟩,
  ⟨R.FS_UE, 1, 1, 0x0, 0x0, 0x0, 0x0, 0x0, 0xffffffff⟩,
  ⟨R.FS_BANK, 64, 1, 0x0, 0x7f007f, 0x0, 0x0, 0x0, 0x0⟩]

/-- The register map of Checkers. -/
def regRows19 : List RegRow := [
  ⟨R.CHK_CTRL, 6, 1, 0x40000000, 0x0, 0x0, 0x0, 0x80000000, 0x0⟩,
  ⟨R.CHK_STATUS, 6, 1, 0x0, 0xf8000fff, 0x0, 0x0, 0x0, 0x0⟩,
  ⟨R.CHK_FAULT_LO, 6, 1, 0x0, 0xffffffff, 0x0, 0x0, 0x0, 0x0⟩,
  ⟨R.CHK_FAULT_HI, 6, 1, 0x0, 0x3fff000f, 0xc0000000, 0x0, 0x0, 0x0⟩,
  ⟨R.CHK_FAULTS, 6, 1, 0x0, 0x0, 0x0, 0x0, 0x0, 0xffffffff⟩,
  ⟨R.CHK_CLOSED, 6, 1, 0x0, 0x0, 0x0, 0x0, 0x0, 0xffffffff⟩,
  ⟨R.RGN_CTRL, 6, 64, 0xe0000000, 0x0, 0x0, 0x0, 0x0, 0x0⟩,
  ⟨R.RGN_BASE, 6, 64, 0xffffff00, 0x0, 0x0, 0x0, 0x0, 0x0⟩,
  ⟨R.RGN_SIZE, 6, 64, 0x1ffffff, 0x0, 0x0, 0x0, 0x0, 0x0⟩,
  ⟨R.LG_STATUS, 1, 1, 0x0, 0xfff0fff, 0x0, 0x0, 0x0, 0x0⟩,
  ⟨R.LG_FAULT_LO, 1, 1, 0x0, 0xffffffff, 0x0, 0x0, 0x0, 0x0⟩,
  ⟨R.LG_FAULT_HI, 1, 1, 0x0, 0x3fff000f, 0xc0000000, 0x0, 0x0, 0x0⟩,
  ⟨R.LG_DROPS, 1, 1, 0x0, 0x0, 0x0, 0x0, 0x0, 0xffffffff⟩,
  ⟨R.LG_ENTRY_BASE, 2048, 1, 0x0, 0xffffff01, 0x0, 0x0, 0x0, 0x0⟩,
  ⟨R.LG_ENTRY_SIZE, 2048, 1, 0x0, 0x1ffffff, 0x0, 0x0, 0x0, 0x0⟩]

/-- The register map of Compression and CRC. -/
def regRows20 : List RegRow := [
  ⟨R.CMP_JOB_STATUS, 4, 1, 0x0, 0xf80fffff, 0x0, 0x0, 0x0, 0x0⟩,
  ⟨R.CMP_PARCELS, 4, 1, 0x0, 0x0, 0x0, 0x0, 0x0, 0xffffffff⟩,
  ⟨R.CMP_OUT_OFFSET, 4, 1, 0x0, 0xffffffff, 0x0, 0x0, 0x0, 0x0⟩,
  ⟨R.CMP_PENDING, 4, 1, 0x0, 0x7ffff, 0x0, 0x0, 0x0, 0x0⟩,
  ⟨R.CMP_UNVERIFIED, 4, 1, 0x0, 0x0, 0x0, 0x0, 0x0, 0xffffffff⟩,
  ⟨R.CMP_SELF_FAIL, 4, 1, 0x0, 0x0, 0x0, 0x0, 0x0, 0xffffffff⟩,
  ⟨R.CRC_CTRL, 8, 1, 0x3, 0x0, 0x0, 0x0, 0x0, 0x0⟩,
  ⟨R.CRC_DATA8, 8, 1, 0x0, 0x0, 0x0, 0x0, 0xff, 0x0⟩,
  ⟨R.CRC_DATA16, 8, 1, 0x0, 0x0, 0x0, 0x0, 0xffff, 0x0⟩,
  ⟨R.CRC_DATA32, 8, 1, 0x0, 0x0, 0x0, 0x0, 0xffffffff, 0x0⟩,
  ⟨R.CRC_RESULT, 8, 1, 0x0, 0xffffffff, 0x0, 0x0, 0x0, 0x0⟩,
  ⟨R.CRC_COUNT, 8, 1, 0x0, 0xffffffff, 0x0, 0x0, 0x0, 0x0⟩]

/-- The register map of Errors. -/
def regRows21 : List RegRow := [
  ⟨R.ERR_STATUS, 1, 1, 0x0, 0xc0ff0000, 0x0, 0x0, 0x0, 0x0⟩,
  ⟨R.ERR_CTRL, 1, 1, 0xc0000000, 0x0, 0x0, 0x0, 0x0, 0x0⟩,
  ⟨R.ERR_CORRECTED, 1, 1, 0x0, 0x0, 0x0, 0x0, 0x0, 0xffffffff⟩,
  ⟨R.ERR_CONTAINED, 1, 1, 0x0, 0x0, 0x0, 0x0, 0x0, 0xffffffff⟩,
  ⟨R.ERR_DEGRADED, 1, 1, 0x0, 0x0, 0x0, 0x0, 0x0, 0xffffffff⟩]

/-- The register map of Recorder and test. -/
def regRows22 : List RegRow := [
  ⟨R.REC_STATUS, 1, 1, 0x0, 0xe0003fff, 0x0, 0x0, 0x0, 0x0⟩,
  ⟨R.REC_SEQ, 1, 1, 0x0, 0xffffffff, 0x0, 0x0, 0x0, 0x0⟩,
  ⟨R.REC_FLASH_USED, 1, 1, 0x0, 0xffffffff, 0x0, 0x0, 0x0, 0x0⟩,
  ⟨R.REC_BOOTS, 1, 1, 0x0, 0xffffffff, 0x0, 0x0, 0x0, 0x0⟩,
  ⟨R.REC_SUPPRESSED, 1024, 1, 0x0, 0xffffffff, 0x0, 0x0, 0x0, 0x0⟩,
  ⟨R.DUMP_STATUS, 4, 1, 0x0, 0xff00ffff, 0x0, 0x0, 0x0, 0x0⟩,
  ⟨R.TEST_ERRORS, 7, 1, 0x0, 0xffffffff, 0x0, 0x0, 0x0, 0x0⟩,
  ⟨R.TEST_BITS, 7, 1, 0x0, 0xffffffff, 0x0, 0x0, 0x0, 0x0⟩]

/-- The register map of Power and reset. -/
def regRows23 : List RegRow := [
  ⟨R.PWR_STATUS, 1, 1, 0x0, 0xf10000ff, 0xe000000, 0x0, 0x0, 0x0⟩,
  ⟨R.PWR_FEED_A, 1, 1, 0x0, 0xffffffff, 0x0, 0x0, 0x0, 0x0⟩,
  ⟨R.PWR_FEED_B, 1, 1, 0x0, 0xffffffff, 0x0, 0x0, 0x0, 0x0⟩,
  ⟨R.PWR_INPUT, 1, 1, 0x0, 0xffff, 0x0, 0x0, 0x0, 0x0⟩,
  ⟨R.THERM_STATUS, 1, 1, 0x0, 0xffffffc0, 0x0, 0x0, 0x0, 0x0⟩,
  ⟨R.RESET_CAUSE, 1, 1, 0x0, 0xc000ffff, 0x0, 0x0, 0x0, 0x0⟩]

/-- The whole register map (R24). -/
def regRows : List RegRow :=
  regRows01 ++ regRows02 ++ regRows03 ++ regRows04 ++ regRows05 ++ regRows06 ++ regRows07 ++ regRows08 ++ regRows10 ++ regRows09 ++ regRows11 ++ regRows12 ++ regRows13 ++ regRows14 ++ regRows15 ++ regRows16 ++ regRows17 ++ regRows18 ++ regRows19 ++ regRows20 ++ regRows21 ++ regRows22 ++ regRows23

/-- Whether `off` is a register of the row, and its array indices. -/
def RegRow.find (r : RegRow) (off : Nat) : Option (Nat × Nat) :=
  if off < r.reg.base then none
  else
    let d := off - r.reg.base
    let i := if r.reg.s1 = 0 then 0 else d / r.reg.s1
    let e := if r.reg.s1 = 0 then d else d % r.reg.s1
    let j := if r.reg.s2 = 0 then 0 else e / r.reg.s2
    if i < r.n1 && j < r.n2 && r.reg.off i j == off then some (i, j) else none

/-- The row and indices of the register at an offset; none at an unassigned offset (R24). -/
def regAt (off : Nat) : Option (RegRow × Nat × Nat) :=
  regRows.findSome? fun r => (r.find off).map fun (i, j) => (r, i, j)

end Sys2Proof.Machine
end

