-- ==== Sys2Proof/Machine/Tab.lean ====
section
/-! DEFINITION. Sparse tables: lists of (key, value) pairs with strictly rising keys. They hold register values,
contexts, layers and memory bytes; an unlisted key stands for the default of the table. -/

namespace Sys2Proof.Machine

/-- A sparse table: pairs with strictly rising keys. -/
abbrev Tab (α : Type) := List (Nat × α)

/-- The value listed at a key. -/
def tabGet? {α : Type} : Tab α → Nat → Option α
  | [], _ => none
  | (k, v) :: r, i => if i = k then some v else tabGet? r i

/-- The value at a key, `d` where none is listed. -/
def tabGetD {α : Type} (t : Tab α) (d : α) (i : Nat) : α := (tabGet? t i).getD d

/-- List `v` at key `i`, in its place. -/
def tabPut {α : Type} : Tab α → Nat → α → Tab α
  | [], i, v => [(i, v)]
  | (k, w) :: r, i, v =>
    if i < k then (i, v) :: (k, w) :: r
    else if i = k then (i, v) :: r
    else (k, w) :: tabPut r i v

/-- Remove the entry at key `i`. -/
def tabDel {α : Type} : Tab α → Nat → Tab α
  | [], _ => []
  | (k, w) :: r, i => if i = k then tabDel r i else (k, w) :: tabDel r i

/-- Write `v` at key `i` of a table whose default is `d`, keeping only entries that differ from `d`. -/
def tabSet {α : Type} [DecidableEq α] (t : Tab α) (d : α) (i : Nat) (v : α) : Tab α :=
  if v = d then tabDel t i else tabPut t i v

/-- Apply `f` to the value at key `i`. -/
def tabUpd {α : Type} [DecidableEq α] (t : Tab α) (d : α) (i : Nat) (f : α → α) : Tab α :=
  tabSet t d i (f (tabGetD t d i))

/-- Keys strictly rising from above `lo`. -/
def tabSortedFrom {α : Type} : Option Nat → Tab α → Bool
  | _, [] => true
  | lo, (k, _) :: r => (match lo with | none => true | some l => decide (l < k)) && tabSortedFrom (some k) r

/-- The canonical form of a table with default `d`: keys strictly rising, no entry equal to the default. -/
def tabWf {α : Type} [DecidableEq α] (d : α) (t : Tab α) : Bool :=
  tabSortedFrom none t && t.all fun e => decide (e.2 ≠ d)

end Sys2Proof.Machine
end

