-- ==== Sys2Proof/Machine/StControl.lean ====
section
/-! DEFINITION. The parts of the state that belong to the host interface, boot, time, references, protection,
errors, the recorder and power. Each field's docstring names its rule and its value after reset. -/

namespace Sys2Proof.Machine

/-- The events a block hands to the recorder. Their NUMBERs are firmware's (R434); see `Config.eventIndex`. -/
inductive Ev where
  | unassignedWrite | fenceBackward | clockLost | watchdog | fatal | feedLost | holdup | plateHigh
  | degradedHouse | wtSwitch | wtFollow | wtNoPtp | trustExpired | trigMissed | refSwitch | refHoldover
  | refDrift | ctxRefused | ctxResync | legAlarm | linkFall | unsupported | ctxReset | engineFailed
  | serviceChange | refreshDone | ctxShed | decodePoison | encodeWaits | encRefused | freshChange | lateLines
  | clusterFailed | scalerFailed | layerShed | ladlePoison | recordLost | commitFailed | fabricFault
  | tasterMismatch | tasterClear | spanSkew | headState | portUp | portDown | laneFail | laneRestored
  | idConflict | managerChange | timeLock | flitResent | dramCe | dramUe | rankOut | migrationDone
  | channelFailed | bar2PoisonWrite | spareRetired | fsSpared | fsSparesOut | touchTimeout
  | ccDropped | pairFault | mirrorIgnored | pairAlarm | takeover | handover | diverge | partnerLost
  | checkerFault | checkerExit | lockedWrite | leaseDrop | cmpSelfFail | boot | suppressed | lost | full
  | dumpNone | firmware
  /-- An event that this list does not name, by bits 5:0 of its NUMBER (R434). -/
  | other (n : Nat)
  deriving DecidableEq, Repr

/-- KIND of a recorder entry (R433). -/
inductive Kind where
  | info | corrected | contained | degraded | fatal | recorder
  deriving DecidableEq, Repr

/-- What a command's completion carries (R33). -/
structure Outcome where
  status : Nat
  reason : Nat
  detail : Nat
  source : Nat
  result : Nat
  deriving DecidableEq, Repr

/-- Progress of an accepted command (R27, R35). -/
inductive CmdSt where
  | waiting | started | forwarded | done
  deriving DecidableEq, Repr

/-- One accepted command. -/
structure Cmd where
  seq : Nat
  opcode : Nat
  flags : Nat
  target : Nat
  acqFence : Nat
  acqValue : Nat
  relFence : Nat
  relValue : Nat
  deadline : Nat
  origSeq : Nat
  param : List Byte
  /-- Byte offset of the first entry field that breaks the entry rules, if any. -/
  badField : Option Nat
  st : CmdSt
  /-- Order of acceptance over all queues, for SYNC (R35). -/
  order : Nat
  /-- Data the host returned for the command's reads (R22), with its poisoned 64-byte lines. -/
  hostData : Option (List Byte × List Nat)
  out : Option Outcome
  /-- Short working time of the start, then of the completion. -/
  ctime : Nat
  /-- Waits for the standby's confirmation (R353). -/
  awaiting : Bool
  /-- An entry-error completion, not a command completion (R30). -/
  entryErr : Bool
  deriving DecidableEq, Repr

/-- A record held for the event queue (R162): the 32 bytes without PHASE, in order. -/
structure EvRecord where
  bytes : List Byte
  deriving DecidableEq, Repr

/-- One queue's internal state (R25 to R31). -/
structure Queue where
  /-- Commands accepted whose completion is not written, oldest first (R31; reset empty). -/
  cmds : List Cmd
  /-- Submission tail last written (R27; reset 0). -/
  sqTail : Nat
  /-- Completion head last written (R28; reset 0). -/
  cqHead : Nat
  /-- Next write position of the completion ring (R28; reset 0). -/
  cqTail : Nat
  /-- PHASE of the next completion (completion entry; reset true: it starts at 1 after enable). -/
  phase : Bool
  /-- Completions since the last coalesced MSI-X message (R29; reset 0). -/
  coal : Nat
  /-- Completions are held, not written: ring full, queue in ERROR or disabled (R28, R490; reset false). -/
  holding : Bool
  /-- Event queue only: records held, oldest first (R162; reset empty). -/
  records : List EvRecord
  deriving DecidableEq, Repr

/-- Queue state after reset. -/
def Queue.init : Queue := ⟨[], 0, 0, 0, true, 0, false, []⟩

/-- What the module issues to the host: a posted write, or an MSI-X message. -/
inductive Posted where
  | write (addr : Nat) (bytes : List Byte) (poisoned : Bool)
  | msix (vector : Nat)
  deriving DecidableEq, Repr

/-- The response to the last host access (R4, R389). -/
inductive Response where
  | none
  | ok
  | error
  | data (bytes : List Byte)
  | poisoned
  | completerAbort
  deriving DecidableEq, Repr

/-- Outcome kept at an owner for a forwarded command (R32). -/
structure FwdRecord where
  origin : Nat
  queue : Nat
  seq : Nat
  out : FwdOutcome
  deriving DecidableEq, Repr

/-- Host interface (02). -/
structure HostSt where
  /-- The 17 queues by number (R25; reset all initial). Number 32 + 16 × origin + queue holds the commands that
  another module forwarded here (R32). -/
  queues : Tab Queue
  /-- Commands accepted since reset, over all queues (R35; reset 0). -/
  accepted : Nat
  /-- Writes and messages issued to the host, newest first (R22, R29; reset empty). -/
  posted : List Posted
  /-- The response to the last register or BAR2 access (R4; reset none). -/
  resp : Response
  /-- Bus Master Enable of the function (R22; reset false). -/
  busMaster : Bool
  /-- log2 of the BAR2 size (R21; reset 30, 1 GiB). -/
  bar2Log2 : Nat
  /-- Function power state D3hot (R21; reset false, D0). -/
  d3hot : Bool
  /-- Outcomes kept of forwarded commands executed here, newest first (R32; reset empty). -/
  fwdKept : List FwdRecord
  /-- Outcomes sent back to the origin of a forwarded command, newest first (R32; reset empty). -/
  replies : List FwdRecord
  /-- Forwarded commands sent over class 3, newest first: origin queue and the command (R19; reset empty). -/
  forwards : List (Nat × Cmd)
  deriving DecidableEq, Repr

/-- Host interface after reset. -/
def HostSt.init : HostSt := ⟨[], 0, [], .none, false, 30, false, [], [], []⟩

/-- A validated structure image in force (R42 to R55): its header identity and its sections. -/
structure HeadEntry where
  head : Nat
  flags : Nat
  maxMode : Nat
  port : Nat
  lead : Nat
  group : Nat
  background : Nat
  deriving DecidableEq, Repr

/-- CHECKER_REGIONS entry (R53). -/
structure RegionEntry where
  checker : Nat
  region : Nat
  perm : Nat
  lock : Bool
  base : Nat
  size : Nat
  deriving DecidableEq, Repr

/-- COMPOSE_BINDING entry (R48). -/
structure BindingEntry where
  group : Nat
  clusters : Nat
  wide : Nat
  narrow : Nat
  deriving DecidableEq, Repr

/-- A parsed structure image. -/
structure Image where
  imageId : Nat
  heads : List HeadEntry
  /-- FRAME_STORE: head, base, size (R47). -/
  frameStore : List (Nat × Nat × Nat)
  bindings : List BindingEntry
  /-- BANDWIDTH: requester, index, reserve (R49). -/
  bandwidth : List (Nat × Nat × Nat)
  /-- PAENT: port, role, clocking, peaking (R50). -/
  paent : List (Nat × Nat × Nat × Nat)
  tb0Domain : Nat
  tb1Domain : Nat
  ptpProfile : Nat
  loopBw : Nat
  holdoverTrust : Nat
  /-- TIME_REF entries: ref, priority, wtr (R51). -/
  refs : List (Nat × Nat × Nat)
  /-- PINS: gpio, function, unit, flags (R52). -/
  pins : List (Nat × Nat × Nat × Nat)
  regions : List RegionEntry
  /-- RECORDER_RATES: code, burst, rate (R54). -/
  rates : List (Nat × Nat × Nat)
  debugPolicy : Nat
  keyMask : Nat
  switchPolicy : Nat
  deriving DecidableEq, Repr

/-- No image in force. -/
def Image.empty : Image := ⟨0, [], [], [], [], [], 0, 0xFF, 0, 4, 10000, [], [], [], [], 0, 0, 0⟩

/-- One profile slot of the boot flash (R40). -/
structure Slot where
  bytes : List Byte
  valid : Bool
  deriving DecidableEq, Repr

/-- One copy of the selection record (R41). -/
structure SelCopy where
  valid : Bool
  slot : Nat
  counter : Nat
  deriving DecidableEq, Repr

/-- Boot, profiles and lifecycle (03). -/
structure BootSt where
  /-- The instant M, quarter nanoseconds (R63; reset 0). -/
  mInst : Nat
  /-- Profile slots in boot flash (R39; outlives reset; initially empty). -/
  slots : Tab Slot
  /-- Selection record copies 0 and 1 (R41; outlive reset; initially invalid). -/
  sel0 : SelCopy
  sel1 : SelCopy
  /-- Lifecycle fuse SEALED (R58; initially OPEN). -/
  isSealed : Bool
  /-- Fused key hashes by index (R58; initially none). -/
  keys : Tab Nat
  /-- Revoked key indices (R58; initially none). -/
  revoked : List Nat
  /-- The image in force (R58; none after reset). -/
  image : Option Image
  /-- Bytes of the image in force, for the byte comparison of R68. -/
  imageBytes : List Byte
  /-- Sampled PREFERRED strap (R340; reset false). -/
  preferred : Bool
  /-- A PROFILE_SWITCH whose fabric restart is under way: queue, SEQ, target slot, CHOOSE (R67; reset none). -/
  switch : Option (Nat × Nat × Nat × Bool)
  /-- A PROFILE_SWITCH that waits for the first scan of the new profile: queue, SEQ, slot (R67; reset none). -/
  firstScan : Option (Nat × Nat × Nat)
  /-- M has come since the last reset (R466; reset false), and PROFSEL sampled at M (R61; reset 0). -/
  begun : Bool
  profsel : Nat
  /-- Ranks and frame store passed their boot tests (R361; reset false). -/
  memoryUp : Bool
  /-- CD-HOUSE runs on the OCXO (R63; reset false). -/
  houseOcxo : Bool
  deriving DecidableEq, Repr

/-- Boot state after reset of an unprogrammed module. -/
def BootSt.init : BootSt :=
  ⟨0, [], ⟨false, 0, 0⟩, ⟨false, 0, 0⟩, false, [], [], none, [], false, none, none, false, 0, false, false⟩

/-- A time base as an anchor: at instant `at` it read `val`, and it runs at 1 + rate × 2⁻¹⁶ × 10⁻⁹ (R70). -/
structure Anchor where
  tick : Nat
  val : Nat
  rate : Int
  deriving DecidableEq, Repr

/-- A PTP domain's port configuration and state (R75, R78, R91). -/
structure PtpDomain where
  /-- Port mask (R91; reset 0). -/
  mask : Nat
  transport : Nat
  step : Bool
  vlan : Nat
  /-- Sync intervals in SLAVE with an offset within 1 µs, up to 16 (R75; reset 0). -/
  good : Nat
  /-- Grandmaster identity last announced (R75; reset none). -/
  gm : Option Nat
  deriving DecidableEq, Repr

/-- A trigger unit's schedule in force (R88). -/
structure Trig where
  armed : Bool
  periodic : Bool
  /-- Short working time of the next event. -/
  next : Nat
  period : Nat
  width : Nat
  /-- A pulse is on the pin. -/
  pulse : Bool
  deriving DecidableEq, Repr

/-- One capture entry: 48-bit time, falling edge, STATE of WT_STATUS (R89). -/
structure CapEntry where
  time : Nat
  fall : Bool
  state : Nat
  deriving DecidableEq, Repr

/-- A launch-timed frame held at a MAC (R80). -/
structure Launch where
  at48 : Nat
  bytes : List Byte
  /-- Whether the frame is gated by OWNS (R293, R358). -/
  gated : Bool
  /-- Control cycle that submitted it, if one: 2 × cycle, plus 1 for the copy on PORT_B. -/
  cycle : Option Nat
  deriving DecidableEq, Repr

/-- Time bases, working time, triggers and captures (04). -/
structure TimeSt where
  tb0 : Anchor
  tb1 : Anchor
  /-- TB3's anchor counts against working time (R70; reset 0 at M). -/
  tb3 : Anchor
  /-- Working time's anchor against the master clock (R72; reset: reads as TB2). -/
  wt : Anchor
  /-- Frequency term of WT_RATE, 2⁻¹⁶ ppb (R74; reset 0). -/
  freq : Int
  /-- Phase term of WT_RATE, 2⁻¹⁶ ppb (R74; reset 0). -/
  phase : Int
  /-- Instant of the last change of WT_RATE (R74; reset 0). -/
  rateAt : Nat
  /-- Constant offset of OFFSET_HOLD, quarter nanoseconds (R74; reset 0). -/
  offset : Int
  /-- Working time has been in OFFSET_HOLD since module reset (R72; reset false). -/
  heldOffset : Bool
  /-- Instant at which NO_PTP was entered (R84; reset 0). -/
  noPtpAt : Nat
  /-- Working time at that instant (R84; reset 0). -/
  noPtpWt : Nat
  /-- Last measured WT − TBx for x = 0, 1, with its instant (R84; reset 0). -/
  lastDiff0 : Int
  lastDiff1 : Int
  dom0 : PtpDomain
  dom1 : PtpDomain
  /-- Instant at which a domain was followed from UNSET or NO_PTP (R72; reset none). -/
  followAt : Option Nat
  trigs : Tab Trig
  /-- Capture FIFOs, oldest first (R89; reset empty). -/
  caps : Tab (List CapEntry)
  /-- Instant of the last accepted edge of each capture unit (R89; reset none). -/
  capLast : Tab Nat
  /-- PPS_OUT level (R90; reset low). -/
  ppsHigh : Bool
  /-- Launch queues of the MACs, in submission order (R80; reset empty). -/
  launch : Tab (List Launch)
  /-- Frames sent by the MACs: port, bytes, newest first (reset empty). -/
  sent : List (Nat × List Byte)
  deriving DecidableEq, Repr

/-- Time state after reset. -/
def TimeSt.init : TimeSt :=
  ⟨⟨0, 0, 0⟩, ⟨0, 0, 0⟩, ⟨0, 0, 0⟩, ⟨0, 0, 0⟩, 0, 0, 0, 0, false, 0, 0, 0, 0,
   ⟨0, 0, false, 0xFFFF, 0, none⟩, ⟨0, 0, false, 0xFFFF, 0, none⟩, none, [], [], [], false, [], []⟩

/-- One reference's settings in force and its monitors (R94, R95, R105). -/
structure RefMon where
  lockout : Bool
  ppsReq : Bool
  priority : Nat
  wtr : Nat
  driftWarn : Nat
  accept : Nat
  reject : Nat
  /-- Gate values of the last 64 gates, newest first, 0.001 ppb (R94; reset empty). -/
  gates : List Int
  /-- Instant from which the mean has stayed within ACCEPT_PPB (R95; reset none). -/
  inSince : Option Nat
  deriving DecidableEq, Repr

/-- Reset values of REF_CFG and REF_LIMITS (R105). -/
def RefMon.init : RefMon := ⟨false, false, 0, 10, 50, 4600, 9200, [], none⟩

/-- Reference selector (05). -/
structure RefSt where
  refs : Tab RefMon
  forceEn : Bool
  forceRef : Nat
  loopBw : Nat
  pullSlope : Nat
  /-- Pull error at its start, signed ps, and the instant it started (R100; reset 0). -/
  pull : Int
  pullAt : Nat
  /-- Since when the selector has been LOCKED (R99; reset none). -/
  lockedAt : Option Nat
  /-- OCXO present (R96) and warmed up (R99; reset false). -/
  ocxo : Bool
  warm : Bool
  deriving DecidableEq, Repr

/-- Selector after reset: no reference selected, OCXO not yet running. -/
def RefSt.init : RefSt := ⟨[], false, 0, 4, 9, 0, 0, none, false, false⟩

/-- A recorder entry (R433) before its bytes. -/
structure RecEntry where
  wt : Nat
  tb2 : Nat
  kind : Kind
  ev : Ev
  module : Nat
  wtState : Nat
  agent : Nat
  seq : Nat
  p0 : Nat
  p1 : Nat
  p2 : Nat
  deriving DecidableEq, Repr

/-- One slot of the recorder's flash store (R438, R440). -/
inductive FlashSlot where
  | entry (e : RecEntry)
  | torn
  deriving DecidableEq, Repr

/-- One dump slot of boot flash (R445). -/
structure DumpSlot where
  erased : Bool
  complete : Bool
  truncated : Bool
  keep : Bool
  cause : Nat
  seq : Nat
  wt : Nat
  tb2 : Nat
  parcels : Nat
  imageId : Nat
  recSeq : Nat
  /-- The packed bytes after the header. -/
  body : List Byte
  deriving DecidableEq, Repr

/-- An erased dump slot. -/
def DumpSlot.init : DumpSlot := ⟨true, false, false, false, 0, 0, 0, 0, 0, 0, 0, []⟩

/-- The recorder (22). -/
structure RecSt where
  /-- Token buckets by event: level in millionths of a token, TB2 millisecond of the last refill (R436; full at boot). -/
  buckets : Tab (Nat × Nat)
  /-- Suppressed counts by event (R437; reset 0). -/
  suppressed : Tab Nat
  /-- Flash store by slot (R438; outlives reset). -/
  flash : Tab FlashSlot
  /-- Entries on their way to flash, oldest first, at most 8,192 (R439; reset empty). -/
  buffer : List RecEntry
  /-- Entries lost by the full buffer, not yet told (R439; reset 0). -/
  lostCount : Nat
  /-- Volatile ring, newest first, at most 65,536 (R442; reset empty). -/
  ring : List RecEntry
  /-- Dump slots of boot flash (R445; outlive reset; initially erased). -/
  dumps : Tab DumpSlot
  /-- The slot of a dump under way (R446; reset none). -/
  dumping : Option Nat
  /-- The dump that follows FATAL has been begun or given up (R446; reset false). -/
  dumped : Bool
  /-- SEQ of the FATAL entry, and the instants of the declaration (R445; reset 0). -/
  fatalSeq : Nat
  fatalWt : Nat
  fatalTb2 : Nat
  /-- MEM_INJECT commands whose line is armed: queue, SEQ, line (R449; reset none). -/
  inject : List (Nat × Nat × Nat)
  /-- Tests under way: target, instance, pattern, flags (R448; reset none). -/
  tests : List (Nat × Nat × Nat × Nat)
  deriving DecidableEq, Repr

/-- Recorder after reset of an unused module. -/
def RecSt.init : RecSt := ⟨[], [], [], [], 0, [], [], none, false, 0, 0, 0, [], []⟩

/-- Errors and management cores (01, 21). -/
structure ErrSt where
  /-- Clocks that run, by domain × 64 + instance (R11; reset none). -/
  clocks : List Nat
  /-- SEQ of the next error notification (R418; reset 1). -/
  seq : Nat
  /-- DEGRADED errors that stand until reset, other than lanes (R415; reset 0). -/
  degraded : Nat
  /-- Lanes whose failure stands: port × 8 + lane (R415; reset none). -/
  lanes : List Nat
  /-- Instants of the watchdog restarts of each core, newest first (R17; reset none). -/
  restarts : Tab (List Nat)
  /-- Instant of the last fabric fault restart (R431; reset none). -/
  fabricAt : Option Nat
  /-- A fabric restart is running (R430; reset false). -/
  fabricRun : Bool
  /-- Error notifications posted, newest first, last 256 (R444; reset none). -/
  notes : List (List Byte)
  deriving DecidableEq, Repr

/-- Errors after reset. -/
def ErrSt.init : ErrSt := ⟨[], 1, 0, [], [], none, false, []⟩

/-- An access waiting at a closed checker (R391). -/
inductive WaitAccess where
  | bar2Read (off len : Nat)
  | bar2Write (off : Nat) (bytes : List Byte)
  | cmd (q seq : Nat) (write : Bool) (pa : Nat)
  | debug (write : Bool) (pa : Nat) (bytes : List Byte)
  deriving DecidableEq, Repr

/-- One entry of the lease guard (R394). -/
structure LeaseEntry where
  base : Nat
  pages : Nat
  /-- Number of layers that hold the range (equal ranges share one entry). -/
  holders : Nat
  deriving DecidableEq, Repr

/-- One recorded fault: first denied address and the upper word of the record. -/
structure FaultRec where
  pa : Nat
  hi : Word
  deriving DecidableEq, Repr

/-- Checkers and lease guard (19). -/
structure ProtSt where
  /-- Accesses waiting at closed checkers: checker, arrival, access (R391; reset none). -/
  waiting : List (Nat × Nat × WaitAccess)
  /-- Lease guard entries by index (R394; reset none). -/
  leases : Tab LeaseEntry
  /-- Regions locked: checker × 64 + region (R387; reset none). -/
  locked : List Nat
  /-- First fault of each checker, and of the lease guard at index 6 (R396; reset none). -/
  faults : Tab FaultRec
  /-- Status of the last debug access on the JTAG port (R389; reset none). -/
  debugResp : Response
  deriving DecidableEq, Repr

/-- Checkers after reset. -/
def ProtSt.init : ProtSt := ⟨[], [], [], [], .none⟩

/-- One feed of the power stage (R463). -/
structure Feed where
  /-- Instant at which the feed rose above turn-on, while its dwell runs. -/
  rising : Option Nat
  ok : Bool
  /-- It was disconnected for overvoltage and is accepted again only after 1 s below 75 V (R463). -/
  ov : Bool
  deriving DecidableEq, Repr

/-- Power stage and reset (23). It outlives module reset while a feed is present. -/
structure PwrSt where
  feedA : Feed
  feedB : Feed
  /-- Logic rails are up (R464; initially false). -/
  logicOn : Bool
  /-- MRST_N is low: all logic held in reset (R466; initially false). -/
  mrstLow : Bool
  /-- A thermal trip holds logic power off (R471; initially false). -/
  tripped : Bool
  tripAt : Nat
  /-- V3P3_OUT on (R461; initially false). -/
  v3p3 : Bool
  /-- Contacts hold their pre-CONFIGURE states (R461; initially true). -/
  preConfigure : Bool
  deriving DecidableEq, Repr

/-- Power stage of the module after reset with feed power present. -/
def PwrSt.init : PwrSt := ⟨⟨none, false, false⟩, ⟨none, false, false⟩, false, false, false, 0, false, true⟩

end Sys2Proof.Machine
end

