-- ==== Sys2Proof/Machine/StVideo.lean ====
section
/-! DEFINITION. The parts of the state that belong to ingest and decoding. Each field's docstring names its rule and
its value after reset. -/

namespace Sys2Proof.Machine

/-- A postmark (R81). -/
structure Postmark where
  capt : Nat
  tbid : Nat
  cls : Nat
  flags : Nat
  deriving DecidableEq, Repr

/-- CLASS NONE (R82). -/
def Postmark.none : Postmark := ⟨0, 0, 3, 0⟩

/-! ### Ingest (06) -/

/-- A flow entry in force (R109). -/
structure Flow where
  ctrl : Word
  port : Word
  ssrc : Word
  dst : Nat
  src : Nat
  deriving DecidableEq, Repr

/-- A multicast membership (R127). -/
structure Membership where
  ipv6 : Bool
  exclude : Bool
  group : Nat
  source : Nat
  deriving DecidableEq, Repr

/-- A packet held in an open frame. -/
structure HeldPkt where
  seq : Nat
  leg : Nat
  /-- Working time of its stamp. -/
  stamp : Nat
  line0 : Bool
  part : Option AuPart
  deriving DecidableEq, Repr

/-- The working-time state at a frame's first-packet stamp, for its postmark (R84, R85). -/
structure StampState where
  /-- Working time of the stamp, quarter nanoseconds. -/
  wt : Nat
  /-- WT − TBx when the context's domain is trusted. -/
  diff : Option Int
  noPtp : Bool
  deriving DecidableEq, Repr

/-- An open frame (R113). -/
structure OpenFrame where
  ts : Nat
  stamp : StampState
  /-- Packets in order of arrival. -/
  pkts : List HeldPkt
  /-- Sequence number of the marker packet, and working time of its arrival. -/
  marker : Option (Nat × Nat)
  /-- Working time of the first packet of a later frame. -/
  laterAt : Option Nat
  closed : Bool
  bytes : Nat
  /-- Assembly slot of an ST 2110-20 frame (R132). -/
  slot : Option Nat
  /-- The frame before it was never assembled for want of a slot, so its start is not judged (R132). -/
  skipped : Bool
  deriving DecidableEq, Repr

/-- Ingest of a stream context (R123). Its STATE, settings and counters are registers. -/
structure Ctx where
  width : Nat
  height : Nat
  /-- Open frames in RTP timestamp order (R114; reset none). -/
  frames : List OpenFrame
  /-- Timestamps of frames that have closed or were discarded, latest first (R116; reset none). -/
  ended : List Nat
  /-- Timestamp of the last frame that found no assembly slot (R132; reset none). -/
  noSlotTs : Option Nat
  /-- Sequence numbers accepted in delivered frames, and the highest (R118; reset none). -/
  seen : List Nat
  high : Option Nat
  /-- Sequence number of the marker of the last frame that ended. -/
  endSeq : Option Nat
  /-- Parameter sets received since STREAM_OPEN (R124). -/
  sets : List Nat
  /-- CAPT of the last delivered frame whose CLASS is not NONE (R120). -/
  lastCapt : Option Nat
  delivered : Nat
  /-- Working time of the last packet of each leg (R122). -/
  leg0 : Nat
  leg1 : Nat
  /-- A path alarm stands for the leg (R122). -/
  alarm0 : Bool
  alarm1 : Bool
  deriving DecidableEq, Repr

/-- A context without frames. -/
def Ctx.init : Ctx := ⟨0, 0, [], [], none, [], none, none, [], none, 0, 0, 0, false, false⟩

/-- Ethernet ports, flow table and contexts. -/
structure NetSt where
  /-- Flow entries in force by index (R110; reset none). -/
  flows : Tab Flow
  ctxs : Tab Ctx
  /-- Memberships by port (R127; reset none). -/
  members : Tab (List Membership)
  /-- Frames passed to firmware, by port, newest first (R107; reset none). -/
  toFw : List (Nat × EthFrame)
  deriving DecidableEq, Repr

/-- Ingest after reset. -/
def NetSt.init : NetSt := ⟨[], [], [], []⟩

/-! ### Decoding (07) -/

/-- A slot of a reference or reception pool (R134). -/
structure PicSlot where
  isRef : Bool
  out : Bool
  lease : Nat
  /-- The decoder, assembly or reception is writing it. -/
  writing : Bool
  pm : Postmark
  frozen : Bool
  order : Int
  /-- Decode order within the context. -/
  num : Nat
  width : Nat
  height : Nat
  /-- Working time of completion. -/
  done : Nat
  /-- Picture number in a reception pool (R312). -/
  pic : Nat
  deriving DecidableEq, Repr

/-- A FREE slot. -/
def PicSlot.free : PicSlot := ⟨false, false, 0, false, .none, false, 0, 0, 0, 0, 0, 0⟩

/-- A decode setup (R131, R148). -/
structure Setup where
  tenBit : Bool
  dpb : Nat
  lease : Nat
  maxW : Nat
  maxH : Nat
  type : Nat
  format : Nat
  base : Nat
  deriving DecidableEq, Repr

/-- A frame in a context's decode queue (R136). -/
structure Queued where
  pm : Postmark
  /-- Working time of delivery and of the first-packet stamp. -/
  arrived : Nat
  stamp : Nat
  pic : Option PicInfo
  carries : List Nat
  uses : List Nat
  /-- VOID of the frame's freshness SEI (R264). -/
  void : Bool
  deriving DecidableEq, Repr

/-- An open refresh cycle (R145): the SEI picture's order, the count to the target, MaxFrameNum, and its decode number. -/
structure Refresh where
  start : Int
  count : Nat
  maxFrameNum : Nat
  num : Nat
  deriving DecidableEq, Repr

/-- Decoding of a context (R147). Its STATE, SERVICE and counters are registers. -/
structure Dctx where
  setup : Option Setup
  slots : Tab PicSlot
  /-- Queue, oldest first (R136; reset empty). -/
  queue : List Queued
  /-- Whether saved state is held, and its parameter sets (R137). -/
  saved : Bool
  sets : List Nat
  /-- Pictures decoded since STREAM_OPEN. -/
  num : Nat
  /-- Impairment is not inherited from pictures decoded before this number (R145). -/
  baseNum : Nat
  /-- RASL pictures inherit from this number on. -/
  refreshNum : Nat
  cycle : Option Refresh
  /-- RUN and hash of the last picture (R146). -/
  run : Nat
  hash : Nat
  /-- A frame waited more than one interval in this window (R141). -/
  waited : Bool
  delayRun : Nat
  quietRun : Nat
  degradedRun : Nat
  /-- Shed while an engine holds its frame: REF is cleared when that frame completes (R147). -/
  shedding : Bool
  deriving DecidableEq, Repr

/-- Decoding of a context after reset. -/
def Dctx.init : Dctx := ⟨none, [], [], false, [], 0, 0, 0, none, 0, 0, false, 0, 0, 0, false⟩

/-- What an engine is decoding (R136). -/
structure Engine where
  ctx : Nat
  frame : Queued
  slot : Nat
  /-- Instant of the start. -/
  start : Nat
  /-- The frame's result is to be discarded: its context was closed (R147). -/
  dead : Bool
  deriving DecidableEq, Repr

/-- Decode engines and contexts. -/
structure DecSt where
  ctxs : Tab Dctx
  /-- Frame in progress by engine (reset none). -/
  engines : Tab Engine
  /-- Instant at which the present 100 ms window started, and engine busy time in it (R141). -/
  winAt : Nat
  busy : Nat
  /-- Windows since the last shed or restore, and quiet windows among them (R141). -/
  since : Nat
  quiet : Nat
  /-- Contexts shed under pressure, most recent first (R141). -/
  shedStack : List Nat
  deriving DecidableEq, Repr

/-- Decoding after reset. -/
def DecSt.init : DecSt := ⟨[], [], 0, 0, 0, 0, []⟩

end Sys2Proof.Machine
end

