-- ==== Sys2Proof/Machine/StSystem.lean ====
section
/-! DEFINITION. The parts of the state that belong to compression, the Paent link and the redundant pair. Each field's
docstring names its rule and its value after reset. -/

namespace Sys2Proof.Machine

/-- A compression job (R402). -/
structure Job where
  /-- IDLE 0, WAITING 1, RUNNING 2, ERROR 3 (R402; reset 0). -/
  state : Nat
  mode : Nat
  /-- Queue that opened the job (R402). -/
  owner : Nat
  outAddr : Nat
  outSize : Nat
  /-- Pending input of a compressing job, or the unread part of a parcel (R403 to R405; reset empty). -/
  pending : List Byte
  parcels : Nat
  offset : Nat
  /-- The feed that runs: queue and SEQ. -/
  feed : Option (Nat × Nat)
  deriving DecidableEq, Repr

/-- An idle job. -/
def Job.idle : Job := ⟨0, 0, 0, 0, 0, [], 0, 0, none⟩

/-- A message that this module sends to another over Paent class 3 (R163, R162). -/
inductive PaentMsg where
  /-- PREPARE of a canvas commit: canvas, submitting module, its queue and SEQ; the update entries travel with it. -/
  | canvasPrepare (canvas origin q seq : Nat) (entries : List (List Byte))
  /-- A member's answer: identity, outcome, its largest lead time. -/
  | canvasAnswer (q seq : Nat) (status reason result detail lead : Nat)
  | canvasApply (q seq n ta : Nat)
  | canvasDrop (q seq : Nat)
  | canvasReport (q seq layers : Nat) (late : Bool)
  /-- ROUTE entries (module, PRIMARY, FAILOVER) and MCAST entries from the system manager (R308 to R310). -/
  | routes (rs : List (Nat × Nat × Nat)) (gs : List (Nat × McastEntry))
  /-- The system manager sheds a reception entry (R313). -/
  | shed (entry : Nat)
  /-- A data home subscribes to a source context, or leaves it (R310, R317). -/
  | subscribe (module context : Nat)
  | unsubscribe (module context : Nat)
  /-- A presentation or release record for the event queue of the module that accepted the commit. -/
  | record (bytes : List Byte)
  deriving DecidableEq, Repr

/-- A picture that is being received (R312). -/
structure RxPic where
  slot : Nat
  pic : Nat
  /-- Record offset expected next. -/
  off : Nat
  /-- The record's 64 bytes of metadata. -/
  info : List Byte
  deriving DecidableEq, Repr

/-- A reception entry of the Paent link (R311 to R313). -/
structure Recv where
  module : Nat
  context : Nat
  guaranteed : Bool
  /-- Geometry of the pool's slots: the source context's decode setup, at POOL_BASE (R311). -/
  setup : Setup
  lease : Nat
  slots : Tab PicSlot
  rx : Option RxPic
  /-- Cleared by REMOTE_CLEAR while leases are still held (R317). -/
  gone : Bool
  deriving DecidableEq, Repr

/-! ### Paent envelopes and links (R303 to R310) -/

/-- An envelope (R304). -/
structure Env where
  cls : Nat
  vc : Nat
  mcast : Bool
  type : Nat
  dest : Nat
  src : Nat
  ttl : Nat
  /-- TYPE_DATA, 8 bytes. -/
  td : List Byte
  data : List Byte
  deriving DecidableEq, Repr

/-- An envelope that waits at a port to be sent. -/
structure OutEnv where
  env : Env
  /-- Receive buffer it still occupies: port and class × 2 + VC (R306). -/
  back : Option (Nat × Nat)
  /-- It entered VC1 at this module (R309). -/
  injected : Bool
  /-- Number of the picture send whose last envelope it is (R311). -/
  closes : Option Nat
  deriving DecidableEq, Repr

/-- A data flit kept for replay (R305). -/
structure Kept where
  seq : Nat
  content : List Byte
  /-- CR_SEL × 8 + CR_UNITS. -/
  credit : Nat
  deriving DecidableEq, Repr

/-- The link layer of a port (R303 to R307, R315). -/
structure Link where
  /-- Envelopes that wait, in order (reset none). -/
  queue : List OutEnv
  /-- The envelope being sent and the contents of its flits not yet sent. -/
  cur : Option (OutEnv × List (List Byte))
  /-- SEQ of the next data flit (reset 0). -/
  txSeq : Nat
  /-- Unacknowledged flits, oldest first, at most 1,024 (reset none). -/
  replay : List Kept
  /-- SEQ to be resent next. -/
  resend : Option Nat
  /-- Consecutive resends without an advance of ACK (reset 0). -/
  tries : Nat
  /-- Instant of the last advance of ACK, or of the first flit outstanding. -/
  ackAt : Nat
  /-- Credits spent, by class × 2 + VC (reset 0). -/
  spent : Tab Nat
  /-- Flits freed and not yet returned, by class × 2 + VC (reset 0). -/
  owed : Tab Nat
  /-- SEQ expected next (reset 0). -/
  rxSeq : Nat
  /-- NAK is to be sent; NAK was set since the last flit accepted. -/
  nakDue : Bool
  nakSet : Bool
  /-- Contents of the envelope being received. -/
  part : List (List Byte)
  /-- Whole envelopes that wait to be dealt with, oldest first. -/
  whole : List Env
  /-- Bandwidth of classes 0, 1 and 3 not yet used, in quarter bits, and the instant of the last refill (R307). -/
  tokens : Tab Nat
  tokAt : Nat
  /-- Class that took the last turn of the capacity left over. -/
  turn : Nat
  neighbour : Option Neighbour
  /-- Last 16 exchanges: delay and offset, quarter nanoseconds, newest first (R315; reset none). -/
  times : List (Int × Int)
  /-- The last flit sent (reset none). -/
  sent : List Byte
  deriving DecidableEq, Repr

/-- A link that is down. -/
def Link.init : Link :=
  ⟨[], none, 0, [], none, 0, 0, [], [], 0, false, false, [], [], [], 0, 0, none, [], []⟩

/-- A picture being sent to a subscriber (R311). -/
structure PicSend where
  id : Nat
  context : Nat
  /-- Module, or multicast group. -/
  dest : Nat
  mcast : Bool
  slot : Nat
  pic : Nat
  off : Nat
  /-- A picture queued behind it and not begun. -/
  next : Option Nat
  deriving DecidableEq, Repr

/-- A module in the directory (R302, R314). -/
structure DirEntry where
  uid : Nat
  x : Nat
  y : Nat
  prio : Nat
  manager : Nat
  /-- Number of its last announcement, and the instant it came. -/
  num : Nat
  heard : Nat
  deriving DecidableEq, Repr

/-- Time lock of a module (R316): consecutive good and bad reports. -/
structure TimeLock where
  good : Nat
  bad : Nat
  lock : Bool
  deriving DecidableEq, Repr

/-- Training of a port's lanes (R329 to R339). -/
structure Train where
  /-- Start of the attempt, and of the step under way. -/
  start : Nat
  stepAt : Nat
  /-- t0 of R330. -/
  t0 : Option Nat
  /-- Consecutive failed attempts, and the instant of the next retry (R329). -/
  fails : Nat
  retryAt : Nat
  /-- Receive lanes that passed, and the partner's PASS. -/
  pass : Nat
  peerPass : Nat
  /-- READY and GO received. -/
  ready : Bool
  go : Bool
  /-- Training frames received on each lane since its last slip. -/
  frames : Tab Nat
  /-- STATE × 2¹² + TX_WIDTH × 2⁸ + RX_WIDTH × 2⁴ + LAST_FAIL last told to the recorder (R335). -/
  told : Nat
  /-- FAILED and CAUSE last told, by lane. -/
  toldLane : Tab Nat
  /-- SLEEP seen while UP (R338). -/
  sleepSeen : Bool
  /-- Consecutive training frames seen while UP (R337). -/
  ams : Nat
  /-- Instant of a wake of the receive direction that has not aligned (R339). -/
  wakeRx : Option Nat
  /-- Instant from which the transmitter carries data again after a wake (R339). -/
  txFrom : Nat
  /-- MODULE and CLOCKING of the partner's training block (R324). -/
  peer : Option (Nat × Nat)
  deriving DecidableEq, Repr

/-- A port that is OFF. -/
def Train.init : Train := ⟨0, 0, none, 0, 0, 0, 0, false, false, [], 0, [], false, 0, none, 0, none⟩

/-- Compression engine and system-scale units. -/
structure SysSt where
  /-- Jobs by number (R402; reset idle). -/
  jobs : Tab Job
  /-- Reception entries (R317; reset none). -/
  recvs : Tab Recv
  /-- Messages sent to other modules, newest first: target and message (reset none). -/
  out : List (Nat × PaentMsg)
  /-- Link layer of each port (R305; reset down). -/
  links : Tab Link
  /-- Lane training of each port (R329; reset OFF). -/
  trains : Tab Train
  /-- Envelopes delivered to this module and not yet taken, oldest first, with their port (reset none). -/
  inbox : List (Nat × Env)
  /-- Subscribers of each context that are served by unicast (R310, R311; reset none). -/
  subs : Tab (List Nat)
  /-- Pictures being sent (R311; reset none). -/
  sends : List PicSend
  /-- Number of the next picture send and picture (reset 0). -/
  sendId : Nat
  /-- Modules heard of, by ID (R314; reset none). -/
  dir : Tab DirEntry
  /-- Number of this module's next announcement (reset 0). -/
  annNum : Nat
  /-- Since when this module has been the best candidate it has heard (R314; reset none). -/
  bestFrom : Option Nat
  /-- The module whose manager this module follows, if any (R314; reset none). -/
  manager : Option Nat
  /-- Time lock of each module (R316; reset none held). -/
  locks : Tab TimeLock
  /-- VC1 injection is held since this instant (R309; reset none). -/
  vc1Hold : Option Nat
  deriving DecidableEq, Repr

/-- System units after reset. -/
def SysSt.init : SysSt := ⟨[], [], [], [], [], [], [], [], 0, [], 0, none, none, [], none⟩

end Sys2Proof.Machine
end

