-- ==== Sys2Proof/Machine/StCompose.lean ====
section
/-! DEFINITION. The parts of the state that belong to layers, commits, composition, display outputs and freshness.
Each field's docstring names its rule and its value after reset. -/

namespace Sys2Proof.Machine

/-! ### Commits and canvases (08) -/

/-- The staged head settings that a commit takes into its snapshot (R153, R187, R192, R229), as register words. -/
structure HeadSet where
  lead : Nat
  outFmt : Nat
  mode : Nat
  async : Nat
  wbCtrl : Nat
  wbLo : Nat
  wbHi : Nat
  deriving DecidableEq, Repr

/-- Progress of a commit (R155). -/
inductive CommitSt where
  | queued | validating | ready
  deriving DecidableEq, Repr

/-- What validation answers (R158). -/
structure Verdict where
  status : Nat
  reason : Nat
  detail : Nat
  result : Nat
  deriving DecidableEq, Repr

/-- A snapshot (R153): the layers, heads and tasters in scope, and what validation allocated. -/
structure Snap where
  /-- The 24 words of each layer in scope. -/
  layers : Tab (List Nat)
  heads : Tab HeadSet
  /-- The 12 words of each taster in scope (R247). -/
  tasters : Tab (List Nat)
  /-- Layers named by the update list (R160). -/
  named : List Nat
  /-- Scaler of each scaled layer (R158). -/
  scalers : Tab Nat
  /-- cost_l of each admitted layer (R159). -/
  costs : Tab Nat
  /-- DG and DA by group, layer-pixels per second (R159). -/
  demand : Tab (Nat × Nat)
  deriving DecidableEq, Repr

/-- An empty snapshot. -/
def Snap.init : Snap := ⟨[], [], [], [], [], [], []⟩

/-- A commit in its groups' order, from its queueing to its application (R154, R155). -/
structure Commit where
  q : Nat
  seq : Nat
  groups : List Nat
  /-- Place in the order of acceptance (R154). -/
  order : Nat
  /-- CHECK_ONLY: no place in the groups' order (R165). -/
  check : Bool
  /-- The canvas of a canvas commit received as a PREPARE (R163). -/
  canvas : Option Nat
  st : CommitSt
  entries : List (List Byte)
  verdict : Option Verdict
  snap : Snap
  /-- Target frame N, once known. -/
  target : Option Nat
  /-- Transit allowance that APPLY carries, in µs (R205). -/
  ta : Option Nat
  /-- The APPLY came after BG(N) (R164). -/
  late : Bool
  /-- Instant at which READY was entered. -/
  readyAt : Nat
  /-- Heads at which it has applied. -/
  done : List Nat
  /-- Lease-guard entries left without a holder by this commit (R161). -/
  freed : List Nat
  deriving DecidableEq, Repr

/-- A record held until its commit's completion is written and its instant has passed (R161, R162). -/
structure HeldRec where
  q : Nat
  seq : Nat
  release : Bool
  /-- Working time from which it is due. -/
  due : Nat
  /-- Group, or 0x8000 + canvas ID, or lease-guard entry. -/
  subject : Nat
  /-- Bytes 24 to 31. -/
  tail : Nat
  deriving DecidableEq, Repr

/-- A range whose last layer has gone (R161): its entry in the lease guard, and the commit that removed it. -/
structure Freed where
  entry : Nat
  q : Nat
  seq : Nat
  deriving DecidableEq, Repr

/-- Where a canvas commit stands at the system manager (R163, R164). -/
inductive CanvasStage where
  | preparing | applying
  deriving DecidableEq, Repr

/-- A canvas commit that the system manager runs (R163). -/
structure CanvasRun where
  canvas : Nat
  q : Nat
  seq : Nat
  deadline : Nat
  stage : CanvasStage
  /-- Modules whose answer or report is awaited. -/
  awaited : List Nat
  members : List Nat
  /-- Largest lead time reported, quarter nanoseconds. -/
  lead : Nat
  n : Nat
  layers : Nat
  late : Bool
  deriving DecidableEq, Repr

/-- What the compose domain holds of one layer beyond its registers. -/
structure LayerSt where
  /-- Postmark of the last latch (R237; reset none). -/
  pm : Postmark
  /-- Age of the last latch in ns; none while unknown (R232; reset none). -/
  age : Option Int
  /-- FUTURE (R235). -/
  future : Bool
  /-- Skew of the last 64 latches, newest first (R204). -/
  skews : List Bool
  /-- CAPT of the picture last latched, and of the newest picture whose hold R203 ended. -/
  lastCapt : Option Nat
  lostCapt : Option Nat
  /-- The canvas limit of the last latch, and whether a skew of it is already counted (R204). -/
  limit : Option Nat
  counted : Bool
  /-- A late line crossed the layer in the last completed frame (R249; reset false). -/
  lateLine : Bool
  /-- A shed that takes effect at the next B(N): its reason (R160, R208). -/
  shedNext : Option Nat
  /-- HOST postmark in force, converted at commit application (R82). -/
  host : Postmark
  deriving DecidableEq, Repr

/-- A layer that nothing has latched. -/
def LayerSt.init : LayerSt := ⟨.none, none, false, [], none, none, none, false, false, none, .none⟩

/-- Layers, commits and canvases. -/
structure LaySt where
  layers : Tab LayerSt
  /-- Commits in QUEUED, VALIDATING or READY, in order of acceptance (R154; reset none). -/
  commits : List Commit
  /-- Records not yet due or not yet allowed (R162; reset none). -/
  held : List HeldRec
  /-- Ranges whose leases are ending (R161; reset none). -/
  freed : List Freed
  /-- Canvas commits run as system manager, in order of receipt (R163; reset none). -/
  runs : List CanvasRun
  /-- Members of canvases known to the system manager (R151; reset none). -/
  dir : Tab (List CanvasMember)
  /-- Transit allowances recorded by the system manager (R205; reset none). -/
  transit : Tab Nat
  /-- N of the last commit applied to a group (R223; reset none). -/
  lastApply : Tab Nat
  /-- Clusters out of service (R417; reset none). -/
  clustersOut : List Nat
  /-- Groups that must shed at their next B(N) (R417; reset none). -/
  reshed : List Nat
  deriving DecidableEq, Repr

/-- Layers after reset. -/
def LaySt.init : LaySt := ⟨[], [], [], [], [], [], [], [], [], []⟩

/-! ### Composition (09, 10) -/

/-- A pool of slots that layers latch. -/
inductive Pool where
  | ctx (c : Nat)
  | recv (r : Nat)
  | wb (h : Nat)
  deriving DecidableEq, Repr

/-- How the ladle reads a picture. -/
inductive Layout where
  /-- 4:2:0 planes, luma then interleaved chroma. -/
  | p420 (ten : Bool)
  /-- 4:2:2 planes, luma then interleaved chroma. -/
  | p422 (ten : Bool)
  /-- Three planes: Y, Cb, Cr, or G, B, R. -/
  | p444 (ten : Bool) (rgb : Bool)
  /-- A packed surface format, FMT 0 to 4. -/
  | packed (fmt : Nat)
  /-- FMT 5: bytes Y0, Cb, Y1, Cr. -/
  | packed422
  deriving DecidableEq, Repr

/-- A picture in DRAM and how its codes are to be read (R168, R172 to R176). -/
structure SrcView where
  layout : Layout
  addr : Nat
  pitch : Nat
  /-- Lines of a plane, Ha. -/
  planeH : Nat
  /-- Picture size. -/
  width : Nat
  height : Nat
  matrix : Nat
  full : Bool
  tf : Nat
  gamut : Nat
  deriving DecidableEq, Repr

/-- A marker of an ECHO layer (R283): top-left corner, colour. -/
structure Marker where
  x : Int
  y : Int
  colour : Nat
  deriving DecidableEq, Repr

/-- What a layer shows in one frame. -/
inductive Shown where
  /-- A picture or surface in DRAM. -/
  | view (v : SrcView)
  | fill (colour : Nat)
  /-- Markers: MARK_SIZE, SHAPE, and the markers in report order (R283, R284). -/
  | echo (size shape : Nat) (ms : List Marker)
  /-- The missing-source treatment (R160, R236). -/
  | missing
  deriving DecidableEq, Repr

/-- A layer as it is composed in one frame (R200, R237). -/
structure Scene where
  layer : Nat
  words : List Nat
  shown : Shown
  /-- FRESH in this frame. -/
  fresh : Nat
  /-- Age in ns for the badge; none while unknown. -/
  age : Option Int
  /-- Postmark latched, for writeback (R227). -/
  pm : Option Postmark
  /-- Lease held on a slot (R161). -/
  lease : Option (Pool × Nat)
  /-- Lines it covers. -/
  top : Nat
  bot : Nat
  deriving DecidableEq, Repr

/-- One frame of a head, from its B(N) until S(N + 1, 0). -/
structure FrameSt where
  mode : Nat
  bpc10 : Bool
  outFmt : Nat
  background : Nat
  lead : Nat
  /-- Next line to be released. -/
  next : Nat
  scene : List Scene
  /-- Layers of the frame not yet latched, with their words at B(N) (R200). -/
  todo : Tab (List Nat)
  /-- Released lines not yet composed or abandoned, with the layers left out of each (R198). -/
  open' : Tab (List Nat)
  /-- Lines composed or abandoned. -/
  done : List Nat
  /-- Lines as sent (R195, R225). -/
  sent : Tab (List Nat)
  late : List Nat
  reduced : Bool
  leftOut : List Nat
  marginMin : Nat
  /-- Writeback buffer of this frame: key, address, HEAD_WB_CTRL in force (R227). -/
  wb : Option (Nat × Nat × Nat)
  deriving DecidableEq, Repr

/-- A head's composition, scan-out and writeback. -/
structure HeadSt where
  /-- The grid runs (R216; reset false). -/
  grid : Bool
  /-- N of the last B(N), and of the last S(N, 0) (R219; reset 0). -/
  n : Nat
  shown : Nat
  frames : Tab FrameSt
  /-- Frame store contents and generation stamps by line (R188, R193; reset COMPLETE 0). -/
  store : Tab (List Nat)
  stamps : Tab Nat
  /-- Frame and line of the next read (R198). -/
  nextRead : Nat × Nat
  /-- HEAD_ASYNC and the writeback settings in force (R229; reset as the registers). -/
  async : Nat
  wbCtrl : Nat
  wbLo : Nat
  wbHi : Nat
  /-- A lead that takes force at B(N + 1) (R192; reset none). -/
  leadNext : Option Nat
  /-- First frame composed after a mode change or a restart (R221; reset none). -/
  resume : Option Nat
  /-- Working time of a mode-change boundary to come (R221; reset none). -/
  boundary : Option Nat
  /-- The link has passed training and the stream starts at the next S(N, 0) (R216). -/
  linkUp : Bool
  /-- Writeback buffers, and the next buffer in ring order (R227; reset none). -/
  bufs : Tab PicSlot
  wbNext : Nat
  /-- Key in `bufs` of buffer 0 of the ring in force; leased buffers of earlier rings keep lower keys (R228). -/
  wbKey : Nat
  /-- Least margin in the present governor window, and whether a line was late or reduced in it (R206). -/
  winMargin : Option Nat
  winLate : Bool
  winReduced : Bool
  /-- The last completed frame held a late line, a reduced line (R249). -/
  frameLate : Bool
  frameReduced : Bool
  deriving DecidableEq, Repr

/-- A head after reset. -/
def HeadSt.init : HeadSt :=
  ⟨false, 0, 0, [], [], [], (0, 0), 0x3B, 0, 0, 0, none, none, none, false, [], 0, 0, none, false, false, false, false⟩

/-- A picture of a canvas context held for canvas latches (R203). -/
structure Hold where
  pool : Pool
  slot : Nat
  deriving DecidableEq, Repr

/-! ### Display ports (11) -/

/-- A DisplayPort port. HPD, LINK_UP, LANES and RATE are registers. -/
structure PortSt where
  /-- The port's CD-DISP clock is absent (R216; reset false). -/
  clockOut : Bool
  /-- Capabilities last read from the sink (R213; reset none). -/
  caps : Option SinkCaps
  /-- Configuration in training, 0 to 11, with the instant it started (R215; reset none). -/
  trying : Option (Nat × Nat)
  /-- The training is a retry after TRAIN_FAIL: its events wait for its end (R217; reset false). -/
  retry : Bool
  /-- Configuration in force (R215; reset none). -/
  trained : Option Nat
  /-- Failed trainings in turn, and the instant the last one ended (R217; reset 0). -/
  fails : Nat
  failAt : Nat
  /-- DP_RETRAIN commands that wait for the training to end (R230; reset none). -/
  waiting : List (Nat × Nat)
  /-- Settings applied by DP_CTRL.APPLY (R229; reset 0x0B00_0000). -/
  ctrl : Nat
  deriving DecidableEq, Repr

/-- A port after reset. -/
def PortSt.init : PortSt := ⟨false, none, none, false, none, 0, 0, [], 0x0B000000⟩

/-! ### Freshness (12) -/

/-- A taster beyond its registers. -/
structure TasterSt where
  /-- It became current, and no frame has passed since (R243). -/
  fresh : Bool
  /-- Signature of the previous checked frame. -/
  prev : Option Nat
  deriving DecidableEq, Repr

/-- Composition, display and freshness. -/
structure CompSt where
  heads : Tab HeadSt
  holds : List Hold
  ports : Tab PortSt
  tasters : Tab TasterSt
  /-- Governor: consecutive high windows, blocked raises (R206, R208; reset 0). -/
  high : Nat
  blocked : Nat
  /-- CEIL in force (R207; reset 48). -/
  ceil : Nat
  /-- IMAGE_TICK, working time of its last advance, IMAGE_CURRENT (R253; reset 0, false). -/
  tick : Nat
  tickAt : Nat
  current : Bool
  /-- The bank of the status image that is presented (R251; reset 0). -/
  bank : Tab Nat
  /-- DRIVE in force (R252; reset 1), and the last word driven on SSP_D, none at high impedance. -/
  drive : Bool
  sspD : Option Nat
  deriving DecidableEq, Repr

/-- Composition after reset. -/
def CompSt.init : CompSt := ⟨[], [], [], [], 0, 0, 48, 0, 0, false, [], true, none⟩

end Sys2Proof.Machine
end

