-- ==== Sys2Proof/Machine/StEncode.lean ====
section
/-! DEFINITION. The parts of the state that belong to encoding (13). Each field's docstring names its rule and its value
after reset. -/

namespace Sys2Proof.Machine

/-- What ENCODE_OPEN set for a context (R273). -/
structure EncOpen where
  head : Nat
  /-- 0 H.264 High, 1 H.265 Main, 2 H.265 Main 10. -/
  codec : Nat
  guaranteed : Bool
  rtp : Bool
  gate : Bool
  ipv6 : Bool
  /-- Packet size in bytes. -/
  packet : Nat
  qpMin : Nat
  qpMax : Nat
  period : Nat
  kbps : Nat
  cap : Nat
  base : Nat
  /-- Ring size in bytes. -/
  ring : Nat
  work : Nat
  ports : Nat
  pt : Nat
  ssrc : Nat
  srcPort : Nat
  dstPort : Nat
  dst : List Byte
  /-- Active size, and frame rate as a fraction, of the head's mode at the open. -/
  w : Nat
  h : Nat
  rateNum : Nat
  rateDen : Nat
  deriving DecidableEq, Repr

/-- A frame that is being encoded (R259). -/
structure EncFrame where
  n : Nat
  /-- Writeback buffer leased: its key at the head. -/
  key : Nat
  /-- S(N, 0), quarter nanoseconds of working time. -/
  start : Nat
  /-- WT_OFFSET and the followed domain at S(N, 0), when SYNCED (R269). -/
  sync : Option (Int × Nat)
  idr : Bool
  cycleStart : Bool
  cycleLast : Bool
  /-- Rows to intra-code (R263). -/
  intra : List Nat
  /-- Budget B (R267), slice bytes b and all bytes so far (R268). -/
  budget : Nat
  used : Nat
  bytes : Nat
  /-- Ready instants of rows, by row (R259). -/
  ready : Tab Nat
  done : List Nat
  /-- Rows not refreshed (R261, R268), and IDR rows coded without residual (R265). -/
  notRef : List Nat
  poor : List Nat
  /-- The budget has run out in this frame (R268). -/
  cut : Bool
  late : Bool
  /-- The frame is counted in RING_DROPS (R271). -/
  dropped : Bool
  deriving DecidableEq, Repr

/-- An encode context. STATE, SERVICE and its counters are registers. -/
structure EncCtx where
  open' : Option EncOpen
  /-- RTP sequence number (R272; reset 0). -/
  rtpSeq : Nat
  /-- Pictures encoded since the open (R273). -/
  pictures : Nat
  idrNext : Bool
  cycleNext : Bool
  /-- Pictures since the last IDR (R266). -/
  sinceIdr : Nat
  /-- Refresh order of the cycle, and pictures of it begun (R263). -/
  order : List Nat
  place : Nat
  /-- Rows intra-coded within the cycle (R264). -/
  intraDone : List Nat
  /-- Rows to place first in the next refresh order (R263, R265). -/
  first : List Nat
  /-- Capture instant recorded for each row (R268). -/
  rowCapt : Tab Nat
  /-- B and bytes used of the last picture (R267). -/
  lastB : Nat
  lastUsed : Nat
  /-- The last picture had late rows; the next is the first on a new engine (R266). -/
  recovery : Bool
  moved : Bool
  /-- Slices are dropped from the ring until the next IDR or cycle start (R271). -/
  dropping : Bool
  /-- Frames being encoded, oldest first. -/
  frames : List EncFrame
  deriving DecidableEq, Repr

/-- A closed encode context. -/
def EncCtx.init : EncCtx :=
  ⟨none, 0, 0, false, false, 0, [], 0, [], [], [], 0, 0, false, false, false, []⟩

/-- The row an engine codes: context, frame, row and the instant it began. -/
structure EncRun where
  ctx : Nat
  n : Nat
  row : Nat
  start : Nat
  deriving DecidableEq, Repr

/-- Encode engines and contexts. -/
structure EncSt where
  ctxs : Tab EncCtx
  /-- Row in progress by engine (R259; reset none). -/
  engines : Tab EncRun
  /-- RTP packets sent: port, context, packet from its RTP header on; newest first (R272; reset none). -/
  sent : List (Nat × Nat × List Byte)
  deriving DecidableEq, Repr

/-- Encoding after reset. -/
def EncSt.init : EncSt := ⟨[], [], []⟩

end Sys2Proof.Machine
end

