-- ==== Sys2Proof/Machine/StIo.lean ====
section
/-! DEFINITION. The parts of the state that belong to operator inputs and outputs. Each field's docstring names its rule
and its value after reset. -/

namespace Sys2Proof.Machine

/-- An entry of a released touch scan (R283, R295): event 1 DOWN, 2 HELD, 3 UP, 4 UP_TIMEOUT, 5 HOVER. -/
structure TouchEntry where
  id : Nat
  event : Nat
  z : Nat
  x : Nat
  y : Nat
  deriving DecidableEq, Repr

/-- The marker and map settings a scan runs under (R286), as register words. -/
structure TouchMap where
  shape : Nat
  colour : Nat
  hover : Nat
  sx : Nat
  sy : Nat
  off : Nat
  deriving DecidableEq, Repr

/-- A number for each node (i, j): the row of drive electrode i, by sense electrode j. -/
abbrev Grid := List (List Nat)

/-- Touch settings in force (R286). -/
structure TouchCfg where
  mode : Nat
  simmer : Bool
  hoverThr : Nat
  touchThr : Nat
  antiThr : Nat
  /-- IDLE_M1 + 1, s. -/
  idle : Nat
  maxS : Nat
  map : TouchMap
  deriving DecidableEq, Repr

/-- The settings after reset: the registers' reset values. -/
def TouchCfg.init : TouchCfg := ⟨0, false, 6, 81, 20, 30, 60, ⟨0, 0, 0, 0, 0, 0⟩⟩

/-- An entry that is tracked (R277): its ID, the scan instants of its first scan and of its first scan as a touch, and its
last position. -/
structure TouchLive where
  id : Nat
  hover : Bool
  /-- Scan instant of its first scan as a touch, quarter nanoseconds of working time (R280). -/
  since : Nat
  /-- Release instant of its first scan, none before that (R295). -/
  shown : Option Nat
  z : Nat
  x : Nat
  y : Nat
  deriving DecidableEq, Repr

/-- The touch state released last: working time of its scan, its entries in report order, the entries tracked, and its
settings (R282, R286). -/
structure TouchRel where
  instant : Nat
  entries : List TouchEntry
  live : List TouchLive
  map : TouchMap
  overflow : Bool
  deriving DecidableEq, Repr

/-- The scan under way on a port (R275, R281). -/
structure TouchScan where
  start : Nat
  duration : Nat
  simmer : Bool
  cfg : TouchCfg
  /-- The core has finished processing it. -/
  done : Bool
  overflow : Bool
  /-- Entries that this scan ended, with their last position. -/
  ended : List TouchEntry
  /-- TOUCH_REBASE commands that this scan answers: queue and SEQ (R297). -/
  rebased : List (Nat × Nat)
  deriving DecidableEq, Repr

/-- A touch port beyond its registers. -/
structure TouchSt where
  /-- State in force: the scan released last (reset none). -/
  rel : Option TouchRel
  /-- Settings in force (R286). -/
  cfg : TouchCfg
  /-- The scan under way (reset none). -/
  scan : Option TouchScan
  /-- Grid index of the scan started last (R275; reset none). -/
  lastJ : Option Nat
  /-- Baseline of each node (R278; reset empty). -/
  base : Grid
  /-- Sums of the raw counts over the BASELINE scans, and how many scans they hold (R278; reset empty, 0). -/
  sums : Grid
  scans : Nat
  /-- Entries tracked, in order of first appearance (R277, R295; reset none). -/
  live : List TouchLive
  /-- Next ID to be given (R277; reset 1). -/
  nextId : Nat
  /-- Scans without touch or hover since a baseline moved (R278; reset 0). -/
  quiet : Nat
  /-- Working time since which the port has reported no touch and no hover in FULL (R281; reset 0). -/
  idleFrom : Nat
  /-- Simmer baseline by sense electrode, set by the first simmer scan (R281; reset none). -/
  simBase : Option (List Nat)
  /-- A simmer scan saw a touch: the next full-scan start returns to FULL (R281; reset false). -/
  wake : Bool
  /-- Whether each of the last three scheduled scans was released, newest first (R282; reset none). -/
  hist : List Bool
  /-- A re-baseline is due at the next full scan, and the TOUCH_REBASE commands that wait for it (R297, R350; reset
  false, none). -/
  rebase : Bool
  rebaseCmds : List (Nat × Nat)
  deriving DecidableEq, Repr

/-- A touch port after reset. -/
def TouchSt.init : TouchSt := ⟨none, .init, none, none, [], [], 0, [], 1, 0, 0, none, false, [], false, []⟩

/-- Converter settings in force (R289). -/
structure AdcCfg where
  trigEn : Bool
  unit : Nat
  /-- ADC_CH0 to ADC_CH15. -/
  ch : List Nat
  deriving DecidableEq, Repr

/-- Converters with every channel off. -/
def AdcCfg.init : AdcCfg := ⟨false, 0, List.replicate 16 0⟩

/-- A converter sequence under way (R287). -/
structure AdcSeq where
  /-- Start, quarter nanoseconds of working time. -/
  start : Nat
  cfg : AdcCfg
  /-- Control cycles that it serves. -/
  serves : List Nat
  deriving DecidableEq, Repr

/-- Converters beyond their registers. -/
structure AdcSt where
  /-- Settings applied (R289; reset all off). -/
  cfg : AdcCfg
  seq : Option AdcSeq
  deriving DecidableEq, Repr

/-- A GPIO line's level that is not yet stable for the debounce time: level, and instant of the edge (R290). -/
structure Bounce where
  level : Bool
  since : Nat
  deriving DecidableEq, Repr

/-- Touch state of one port as a control cycle captured it (R292, R294, R295). -/
structure CcTouch where
  valid : Bool
  state : Nat
  mode : Nat
  /-- SCAN_AGE, µs. -/
  age : Nat
  entries : List TouchEntry
  overflow : Bool
  deriving DecidableEq, Repr

/-- What a control cycle captured at its sample instant (R292). -/
structure CcCapture where
  k : Nat
  /-- Ts, short working time. -/
  ts : Nat
  /-- L_k, short working time. -/
  lk : Nat
  synced : Bool
  holdover : Bool
  trustExpired : Bool
  /-- Domain followed: 0 or 1. -/
  dom : Nat
  /-- SAMPLE_PTP. -/
  ptp : Nat
  gpio : Nat
  touch : List CcTouch
  /-- The converter sequence: none while it runs; then each channel's ADC_CH and ADC_DATA words, no channel listed when the
  sequence was missed. -/
  adc : Option (List (Nat × Nat))
  deriving DecidableEq, Repr

/-- A control cycle (R291 to R293). -/
structure Cycle where
  running : Bool
  unit : Nat
  portB : Bool
  a : Nat
  b : Nat
  /-- PERIOD, LEAD and the offsets, µs. -/
  period : Nat
  lead : Nat
  anchor : Nat
  offA : Nat
  offB : Nat
  hdrA : List Byte
  hdrB : List Byte
  /-- Frames built since setup (R297). -/
  built : Nat
  capture : Option CcCapture
  /-- GPIO_LEVELS of the last frame (R294). -/
  gpioLast : Option Nat
  /-- Working time of the last sample instant, or of the setup (R295). -/
  prevTs : Nat
  /-- Entries that ended since then, by port (R295). -/
  ended : Tab (List TouchEntry)
  /-- The last copy was late (R293). -/
  late : Bool
  deriving DecidableEq, Repr

/-- A stopped control cycle. -/
def Cycle.init : Cycle := ⟨false, 0, false, 0, 0, 0, 0, 0, 0, 0, [], [], 0, none, none, 0, [], false⟩

/-- Operator inputs and outputs. -/
structure IoSt where
  /-- Touch ports (reset off). -/
  touch : Tab TouchSt
  /-- Converters (reset off, idle). -/
  adc : AdcSt
  /-- Raw GPIO line levels by line, listed while high (R290; reset low). -/
  lines : Tab Bool
  /-- Lines whose new level is being debounced (R290; reset none). -/
  bounce : Tab Bounce
  /-- Control cycles (R291; reset stopped). -/
  cycles : Tab Cycle
  deriving DecidableEq, Repr

/-- Operator inputs and outputs after reset. -/
def IoSt.init : IoSt := ⟨[], ⟨.init, none⟩, [], [], []⟩

end Sys2Proof.Machine
end

