-- ==== Sys2Proof/Machine/StPair.lean ====
section
/-! DEFINITION. The parts of the state that belong to the redundant pair and to the memory controllers. Each field's
docstring names its rule and its value after reset. -/

namespace Sys2Proof.Machine

/-- A claim that is due (R341, R350): the first handover instant at or after a working time. -/
structure ClaimPlan where
  from_ : Nat
  /-- It follows the partner's planned handover (R346). -/
  planned : Bool
  /-- Trigger that the recorder event names. -/
  why : Nat
  deriving DecidableEq, Repr

/-- What a unit sends its partner over the mirror (R351). -/
inductive PairMsg where
  | item (n : Nat) (x : MirrorItem)
  | reply (r : MirrorReply)
  deriving DecidableEq, Repr

/-- The pair block and the pair agent (17). -/
structure PairSt where
  /-- Queues acted when the unit declared FATAL (R420; reset false). -/
  acted : Bool
  /-- Settings in force (R359; reset 300 s, 30, 0, false). -/
  wtr : Nat
  detect : Nat
  timingHead : Nat
  noRevert : Bool
  /-- Last valid heartbeat on each path: instant and DETECT then (R349, R359; reset none). -/
  paent : Option (Nat × Nat)
  wire : Option (Nat × Nat)
  /-- Classes of IL_1 and IL_2 (R342; reset NONE), and the instant of the last change of the line's reading. -/
  il1 : Nat
  il2 : Nat
  levelAt : Nat
  /-- Instant at which the claim last started or ended (R357; reset 0). -/
  claimAt : Nat
  /-- Since when TWO has persisted at this claimer (R344; reset none). -/
  contAt : Option Nat
  /-- Entry to SEEKING, or the last heartbeat since (R341; reset 0). -/
  seekAt : Nat
  /-- No claim until a heartbeat is heard or FAULT is left (R344; reset false). -/
  barred : Bool
  /-- The claim that is due, and the first instant at which the line did not let it start (R346; reset none). -/
  plan : Option ClaimPlan
  failAt : Option Nat
  /-- The handover instant of the release that is planned, working time (R346; reset none). -/
  release : Option Nat
  /-- Last heartbeat envelope and wire frame sent, and COUNT of the next (R347, R348; reset none, 0). -/
  hbSent : Option Heartbeat
  wireSent : List Byte
  wireCount : Nat
  /-- Entry to STANDBY: instant, working time, and the wait in s (R356; reset none). -/
  wtrFrom : Option (Nat × Nat × Nat)
  /-- Active unit: number of the next mirror record, and of the first not acknowledged (R353; reset 0). -/
  sent : Nat
  acked : Nat
  /-- Standby: number expected next, records that came ahead of it, and since when (R352, R429; reset 0, none). -/
  next : Nat
  ahead : Tab MirrorItem
  gapAt : Option Nat
  /-- Synchronisation (R354): snapshot applied, instant of the last acknowledgement, last N the partner applied at by group,
  groups that applied at the same N (reset none). -/
  snapDone : Bool
  ackAt : Option Nat
  theirs : Tab Nat
  groupsOk : List Nat
  /-- Outcomes of the active unit not yet compared: queue, SEQ, outcome, time (R353; reset none). -/
  expects : List (Nat × Nat × FwdOutcome × Nat)
  /-- Frames for which the active unit's commits are READY, not yet confirmed (R353; reset none). -/
  readies : List (Nat × Nat × Nat)
  /-- Active unit: confirmations that came before the outcome (R353; reset none). -/
  confirmed : List (Nat × Nat)
  /-- Completion-written and record-written notices ahead of this unit's own (R355; reset none). -/
  notices : List (Nat × Nat)
  recNotices : List (List Byte)
  /-- PARAM of the commands whose parameters are in force, by opcode × 2⁸ + context (R351; reset none). -/
  params : Tab (List Byte)
  /-- Instant of the last time record sent (R351; reset 0), and the partner's last (reset none). -/
  timesAt : Nat
  partnerTimes : List Int
  /-- While a snapshot is taken over: contexts, setups and reception entries that it has named (R354; reset none). -/
  seen : List Nat
  /-- Messages sent to the partner, newest first (reset none). -/
  out : List PairMsg
  deriving DecidableEq, Repr

/-- The pair block after reset. -/
def PairSt.init : PairSt :=
  { acted := false, wtr := 300, detect := 30, timingHead := 0, noRevert := false, paent := none, wire := none
    il1 := 0, il2 := 0, levelAt := 0, claimAt := 0, contAt := none, seekAt := 0, barred := false, plan := none
    failAt := none, release := none, hbSent := none, wireSent := [], wireCount := 0, wtrFrom := none, sent := 0
    acked := 0, next := 0, ahead := [], gapAt := none, snapDone := false, ackAt := none, theirs := [], groupsOk := []
    expects := [], readies := [], confirmed := [], notices := [], recNotices := [], params := [], timesAt := 0
    partnerTimes := [], seen := [], out := [] }

/-- The memory controllers and the frame store (18). -/
structure MemCtl where
  /-- The migration that runs: channel, next rank line, and the instant from which it may be copied (R373, R374; reset
  none). -/
  mig : Option (Nat × Nat × Nat)
  /-- Channels whose migration waits, in order (R374; reset none). -/
  waiting : List Nat
  /-- Instants of the last corrections, newest first, by (channel × 2 + rank) × 8 + device (R372; reset none). -/
  ce : Tab (List Nat)
  /-- Case temperatures last read, and at the last full retraining, by channel × 2 + rank (R365, R369; reset none). -/
  temps : Tab (List Int)
  refTemps : Tab (List Int)
  /-- Full retrainings under way: steps run and the instant of the last, by channel × 2 + rank (R369; reset none). -/
  steps : Tab (Nat × Nat)
  /-- Refreshes postponed, by (channel × 2 + rank) × 32 + bank (R365; reset 0). -/
  debt : Tab Nat
  /-- Frame store: consecutive passes with a corrected error, by bank × 8192 + row (R380; reset 0). -/
  streak : Tab Nat
  /-- Rows that stay in use for want of a spare row (R380; reset none). -/
  noSpare : List Nat
  /-- Instant of the last frame-store refresh (R378; reset 0). -/
  fsAt : Nat
  deriving DecidableEq, Repr

/-- Memory controllers after reset. -/
def MemCtl.init : MemCtl := ⟨none, [], [], [], [], [], [], [], [], 0⟩

end Sys2Proof.Machine
end

