-- ==== Sys2Proof/Machine/State.lean ====
section
/-! DEFINITION. The state of the block: registers, memory, the internal state of every unit, and the queue of the
commands that wait. -/

namespace Sys2Proof.Machine

/-- DRAM as the masters see it (18). A line is a 64-byte line of the physical address space, numbered PA / 64. -/
structure Mem where
  /-- Bytes by physical address; an unlisted address reads 0 (log 3). -/
  bytes : List Host.Cell
  /-- Poisoned lines (R371), rising. -/
  poison : Tab Unit
  /-- Lines uncorrectable in the rank in service (R370, R372), rising. -/
  ue : Tab Unit
  /-- Lines written whole to the target since the migration began (R373), rising. -/
  target : Tab Unit
  /-- Lines whose next full-line write will be corrupted (R449): devices × 8 + device. -/
  armed : Tab Nat
  /-- Lines that hold such a write (R449), likewise. -/
  injected : Tab Nat
  deriving DecidableEq, Repr

/-- DRAM with nothing listed. -/
def Mem.init : Mem := ⟨[], [], [], [], [], []⟩

/-- Everything but memory and the queue of waiting commands. -/
structure Dev where
  /-- The present instant, in quarters of a nanosecond of master-clock time (R71; reset 0). -/
  now : Nat
  /-- Registers by offset; an unlisted register holds its reset value (R4). -/
  regs : Tab Word
  /-- Upper words and companions that a read of the low word latches, by offset of the latching register (R4). -/
  latch : Tab Word
  host : HostSt
  boot : BootSt
  time : TimeSt
  ref : RefSt
  recd : RecSt
  err : ErrSt
  prot : ProtSt
  pwr : PwrSt
  sys : SysSt
  net : NetSt
  dec : DecSt
  lay : LaySt
  comp : CompSt
  enc : EncSt
  io : IoSt
  pair : PairSt
  mctl : MemCtl
  deriving DecidableEq, Repr

/-- The block after reset. -/
def Dev.init : Dev :=
  { now := 0, regs := [], latch := [], host := .init, boot := .init, time := .init, ref := .init, recd := .init,
    err := .init, prot := .init, pwr := .init, sys := .init, net := .init, dec := .init,
    lay := .init, comp := .init, enc := .init, io := .init, pair := .init, mctl := .init }

/-- The state: the block, its DRAM, and the commands that wait, first in, first out. -/
structure State where
  dev : Dev
  mem : Mem
  pending : List Instr
  deriving DecidableEq, Repr

/-- The machine right after reset (R466): every register at its reset value, nothing queued. -/
def State.reset : State := ⟨.init, .init, []⟩

/-- `i` put at the front of the queue of waiting commands. -/
def State.queueFront (s : State) (i : Instr) : State := { s with pending := i :: s.pending }

/-- The reasons for which a step stops with a fault. -/
inductive Fault where
  /-- No command of the block faults: every effect of the manual is a next state. Raised by nobody; safe. -/
  | none
  deriving DecidableEq, Repr

/-- The reasons for which a command is refused. -/
inductive Refusal where
  /-- A command whose meaning is not written; raised by its arm in Dispatch; safe. -/
  | notModelled (mnemonic : String)
  deriving DecidableEq, Repr

end Sys2Proof.Machine
end

