-- ==== Sys2Proof/Machine/Operands.lean ====
section
/-! DEFINITION. Operand forms: little-endian fields of entries, PARAM blocks (R488) and register fields, and the
signed comparisons of R8. -/

namespace Sys2Proof.Machine

/-- `n` bytes of `v`, little-endian. -/
def leBytes : Nat → Nat → List Byte
  | 0, _ => []
  | n + 1, v => BitVec.ofNat 8 v :: leBytes n (v / 256)

/-- The little-endian number of a list of bytes. -/
def leNat : List Byte → Nat
  | [] => 0
  | b :: r => b.toNat + 256 * leNat r

/-- The field of `n` bytes at byte offset `off`; bytes beyond the end read 0. -/
def leAt (bs : List Byte) (off n : Nat) : Nat := leNat ((bs.drop off).take n)

/-- Whether all bytes from `off` on, `n` of them, are 0. -/
def zeroAt (bs : List Byte) (off n : Nat) : Bool := leAt bs off n == 0

/-- Offset of the first byte that is not 0 among the bytes from `off` to the end. -/
def firstNonZero (bs : List Byte) (off : Nat) : Option Nat :=
  ((bs.drop off).findIdx? (· ≠ 0)).map (· + off)

/-- Bit `i` of a number. -/
def bit (v i : Nat) : Bool := v / 2 ^ i % 2 == 1

/-- Bits `hi` down to `lo` of a number. -/
def bits (v hi lo : Nat) : Nat := v / 2 ^ lo % 2 ^ (hi - lo + 1)

/-- A Bool as 0 or 1. -/
def b2n (b : Bool) : Nat := if b then 1 else 0

/-- A number of `w` bits read as signed. -/
def toSigned (w v : Nat) : Int :=
  let u := v % 2 ^ w
  if u < 2 ^ (w - 1) then u else (u : Int) - 2 ^ w

/-- A signed number as its two's complement in `w` bits. -/
def ofSigned (w : Nat) (v : Int) : Nat := (v % (2 ^ w : Int)).toNat

/-- Signed difference b − a of two counters of `w` bits (R8). -/
def sdiff (w b a : Nat) : Int := toSigned w ((b % 2 ^ w) + 2 ^ w - a % 2 ^ w)

/-- b is later than a (R8). -/
def later (w b a : Nat) : Bool := decide (0 < sdiff w b a)

/-- Restrict a signed number to ±limit. -/
def clampInt (limit : Int) (v : Int) : Int := max (-limit) (min limit v)

/-- The parsed command entry, and the first entry field that breaks the entry rules (02, "Command entry"). -/
def entryBadField (e : List Byte) : Option Nat :=
  let flags := leAt e 6 2
  if flags ≥ 32 then some 6
  else if !bit flags 2 && leAt e 8 2 ≠ 0 || leAt e 8 2 ≥ 512 then some 8
  else if (if bit flags 0 then leAt e 10 2 ≥ 1024 else leAt e 10 2 ≠ 0) then some 10
  else if !bit flags 0 && leAt e 12 4 ≠ 0 then some 12
  else if (if bit flags 1 then leAt e 16 2 ≥ 1024 else leAt e 16 2 ≠ 0) then some 16
  else if leAt e 18 2 ≠ 0 then some 18
  else if !bit flags 1 && leAt e 20 4 ≠ 0 then some 20
  else if leAt e 30 2 ≠ 0 then some 30
  else if !bit flags 4 && leAt e 32 4 ≠ 0 then some 32
  else none

/-- A command from its 64-byte entry. -/
def Cmd.ofEntry (e : List Byte) (order : Nat) : Cmd :=
  { seq := leAt e 0 4, opcode := leAt e 4 2, flags := leAt e 6 2, target := leAt e 8 2 % 512,
    acqFence := leAt e 10 2, acqValue := leAt e 12 4, relFence := leAt e 16 2, relValue := leAt e 20 4,
    deadline := leAt e 24 6, origSeq := leAt e 32 4, param := (e.drop 36).take 28,
    badField := entryBadField e, st := .waiting, order := order, hostData := none, out := none, ctime := 0,
    awaiting := false, entryErr := false }

/-- ACQ_EN of a command. -/
def Cmd.acqEn (c : Cmd) : Bool := bit c.flags 0
/-- REL_EN of a command. -/
def Cmd.relEn (c : Cmd) : Bool := bit c.flags 1
/-- REMOTE of a command. -/
def Cmd.remote (c : Cmd) : Bool := bit c.flags 2
/-- NOTIFY of a command. -/
def Cmd.notify (c : Cmd) : Bool := bit c.flags 3
/-- RETRY of a command. -/
def Cmd.retry (c : Cmd) : Bool := bit c.flags 4
/-- The PARAM field of `n` bytes at `off`. -/
def Cmd.p (c : Cmd) (off n : Nat) : Nat := leAt c.param off n
/-- PARAM bytes from `off` on are all 0 (R488). -/
def Cmd.tailZero (c : Cmd) (off : Nat) : Bool := zeroAt c.param off 28

end Sys2Proof.Machine
end

