-- ==== Sys2Proof/Machine/Crc.lean ====
section
/-! DEFINITION. The CRCs of the module (R412), and the CRC units' arithmetic. -/

namespace Sys2Proof.Machine

/-- One bit of a reflected CRC-32: the register shifts right. -/
def crcBitR (poly v : Nat) : Nat := if v % 2 = 1 then (v / 2) ^^^ poly else v / 2

/-- Eight bits of a reflected CRC-32. -/
def crcByteR (poly v : Nat) (b : Byte) : Nat :=
  (List.range 8).foldl (fun v _ => crcBitR poly v) (v ^^^ b.toNat)

/-- One bit of an unreflected CRC of `w` bits: the register shifts left. -/
def crcBitF (w poly v : Nat) : Nat :=
  if v / 2 ^ (w - 1) % 2 = 1 then (v * 2 % 2 ^ w) ^^^ poly else v * 2 % 2 ^ w

/-- Eight bits of an unreflected CRC. -/
def crcByteF (w poly v : Nat) (b : Byte) : Nat :=
  (List.range 8).foldl (fun v _ => crcBitF w poly v) (v ^^^ (b.toNat * 2 ^ (w - 8)))

/-- Initial register of a preset (R412). -/
def crcInit (preset : Nat) : Nat :=
  match preset with
  | 0 => 0xFFFFFFFF
  | 1 => 0xFFFFFFFF
  | 2 => 0xFFFF
  | _ => 0

/-- The register after one more byte (R412). The reflected polynomials of presets 0 and 1 are 0xEDB88320 and
0x82F63B78. -/
def crcFeed (preset v : Nat) (b : Byte) : Nat :=
  match preset with
  | 0 => crcByteR 0xEDB88320 v b
  | 1 => crcByteR 0x82F63B78 v b
  | 2 => crcByteF 16 0x1021 v b
  | _ => crcByteF 8 0x07 v b

/-- RESULT of a register: the final XOR (R412). -/
def crcOut (preset v : Nat) : Nat :=
  match preset with
  | 0 => v ^^^ 0xFFFFFFFF
  | 1 => v ^^^ 0xFFFFFFFF
  | _ => v

/-- The register a RESULT stands for: the final XOR undone. -/
def crcBack (preset r : Nat) : Nat := crcOut preset r

/-- CRC of bytes under a preset (R412). -/
def crcOf (preset : Nat) (bs : List Byte) : Nat := crcOut preset (bs.foldl (crcFeed preset) (crcInit preset))

end Sys2Proof.Machine
end

