-- ==== Sys2Proof/Machine/Modes.lean ====
section
/-! DEFINITION. The standard modes (R218). -/

namespace Sys2Proof.Machine

/-- One standard mode (R218): active size, pixel clock as a fraction of Hz, horizontal and vertical front porch, sync
width and total, and whether it is MST-capable. -/
structure ModeRow where
  w : Nat
  h : Nat
  clkNum : Nat
  clkDen : Nat
  hFront : Nat
  hSync : Nat
  hTotal : Nat
  vFront : Nat
  vSync : Nat
  vTotal : Nat
  mst : Bool
  deriving DecidableEq, Repr

/-- Modes 0 to 15. -/
def modes0 : List ModeRow := [
  ⟨640, 480, 25175000, 1, 16, 96, 800, 10, 2, 525, true⟩,
  ⟨720, 480, 27000000, 1, 16, 62, 858, 9, 6, 525, true⟩,
  ⟨720, 576, 27000000, 1, 12, 64, 864, 5, 5, 625, true⟩,
  ⟨1280, 720, 74250000, 1, 110, 40, 1650, 5, 5, 750, true⟩,
  ⟨1280, 720, 74250000000, 1001, 110, 40, 1650, 5, 5, 750, true⟩,
  ⟨1280, 720, 74250000, 1, 440, 40, 1980, 5, 5, 750, true⟩,
  ⟨1280, 720, 74250000, 1, 1760, 40, 3300, 5, 5, 750, true⟩,
  ⟨1280, 720, 74250000, 1, 2420, 40, 3960, 5, 5, 750, true⟩,
  ⟨1280, 720, 148500000, 1, 110, 40, 1650, 5, 5, 750, true⟩,
  ⟨1280, 720, 148500000, 1, 440, 40, 1980, 5, 5, 750, true⟩,
  ⟨1920, 1080, 148500000, 1, 88, 44, 2200, 4, 5, 1125, true⟩,
  ⟨1920, 1080, 148500000000, 1001, 88, 44, 2200, 4, 5, 1125, true⟩,
  ⟨1920, 1080, 148500000, 1, 528, 44, 2640, 4, 5, 1125, true⟩,
  ⟨1920, 1080, 74250000, 1, 88, 44, 2200, 4, 5, 1125, true⟩,
  ⟨1920, 1080, 74250000000, 1001, 88, 44, 2200, 4, 5, 1125, true⟩,
  ⟨1920, 1080, 74250000, 1, 528, 44, 2640, 4, 5, 1125, true⟩]

/-- Modes 16 to 31. -/
def modes1 : List ModeRow := [
  ⟨1920, 1080, 74250000, 1, 638, 44, 2750, 4, 5, 1125, true⟩,
  ⟨1920, 1080, 74250000000, 1001, 638, 44, 2750, 4, 5, 1125, true⟩,
  ⟨1920, 1080, 297000000, 1, 88, 44, 2200, 4, 5, 1125, false⟩,
  ⟨1920, 1080, 297000000000, 1001, 88, 44, 2200, 4, 5, 1125, false⟩,
  ⟨1920, 1080, 297000000, 1, 528, 44, 2640, 4, 5, 1125, false⟩,
  ⟨3840, 2160, 594000000, 1, 176, 88, 4400, 8, 10, 2250, false⟩,
  ⟨3840, 2160, 594000000000, 1001, 176, 88, 4400, 8, 10, 2250, false⟩,
  ⟨3840, 2160, 594000000, 1, 1056, 88, 5280, 8, 10, 2250, false⟩,
  ⟨3840, 2160, 297000000, 1, 176, 88, 4400, 8, 10, 2250, false⟩,
  ⟨3840, 2160, 297000000000, 1001, 176, 88, 4400, 8, 10, 2250, false⟩,
  ⟨3840, 2160, 297000000, 1, 1056, 88, 5280, 8, 10, 2250, false⟩,
  ⟨3840, 2160, 297000000, 1, 1276, 88, 5500, 8, 10, 2250, false⟩,
  ⟨3840, 2160, 297000000000, 1001, 1276, 88, 5500, 8, 10, 2250, false⟩,
  ⟨800, 600, 40000000, 1, 40, 128, 1056, 1, 4, 628, true⟩,
  ⟨1024, 768, 65000000, 1, 24, 136, 1344, 3, 6, 806, true⟩,
  ⟨1024, 768, 78750000, 1, 16, 96, 1312, 1, 3, 800, true⟩]

/-- Modes 32 to 47. -/
def modes2 : List ModeRow := [
  ⟨1280, 800, 71000000, 1, 48, 32, 1440, 3, 6, 823, true⟩,
  ⟨1280, 960, 108000000, 1, 96, 112, 1800, 1, 3, 1000, true⟩,
  ⟨1280, 1024, 108000000, 1, 48, 112, 1688, 1, 3, 1066, true⟩,
  ⟨1280, 1024, 135000000, 1, 16, 144, 1688, 1, 3, 1066, true⟩,
  ⟨1366, 768, 85500000, 1, 70, 143, 1792, 3, 3, 798, true⟩,
  ⟨1400, 1050, 101000000, 1, 48, 32, 1560, 3, 4, 1080, true⟩,
  ⟨1440, 900, 88750000, 1, 48, 32, 1600, 3, 6, 926, true⟩,
  ⟨1600, 900, 108000000, 1, 24, 80, 1800, 1, 3, 1000, true⟩,
  ⟨1600, 1200, 162000000, 1, 64, 192, 2160, 1, 3, 1250, true⟩,
  ⟨1680, 1050, 119000000, 1, 48, 32, 1840, 3, 6, 1080, true⟩,
  ⟨1920, 1200, 154000000, 1, 48, 32, 2080, 3, 6, 1235, true⟩,
  ⟨2048, 1152, 162000000, 1, 26, 80, 2250, 1, 3, 1200, true⟩,
  ⟨2560, 1600, 268500000, 1, 48, 32, 2720, 3, 6, 1646, false⟩,
  ⟨1920, 1080, 138500000, 1, 48, 32, 2080, 3, 5, 1111, true⟩,
  ⟨2560, 1440, 241500000, 1, 48, 32, 2720, 3, 5, 1481, true⟩,
  ⟨3840, 2160, 533250000, 1, 48, 32, 4000, 3, 5, 2222, false⟩]

/-- The table of R218. -/
def modeTable : List ModeRow := modes0 ++ modes1 ++ modes2

/-- A mode by its index; indices from 48 on name no mode and give mode 0. -/
def modeRow (i : Nat) : ModeRow := modeTable.getD i ⟨640, 480, 25175000, 1, 16, 96, 800, 10, 2, 525, true⟩

/-- Quarter nanoseconds of a number of lines of a mode, rounded down (R190). -/
def ModeRow.lines (m : ModeRow) (n : Nat) : Nat := n * m.hTotal * m.clkDen * 4000000000 / m.clkNum

/-- Quarter nanoseconds of a frame of a mode, rounded down. -/
def ModeRow.frame (m : ModeRow) : Nat := m.lines m.vTotal

/-- S(N, 0) of a mode (R219). -/
def ModeRow.start (m : ModeRow) (n : Nat) : Nat := m.lines (n * m.vTotal)
/-- B(N) of a mode at a lead (R190). -/
def ModeRow.boundary (m : ModeRow) (lead n : Nat) : Nat := m.start n - m.lines lead

/-- Whether two modes have equal frame periods. -/
def ModeRow.sameRate (a b : ModeRow) : Bool :=
  a.hTotal * a.vTotal * a.clkDen * b.clkNum == b.hTotal * b.vTotal * b.clkDen * a.clkNum

/-- First N, from `n` on, whose `f` is at least `w`, where `f` rises with N by at least `step` each frame. -/
def firstFrame (f : Nat → Nat) (w step n : Nat) : Nat :=
  let n1 := if f n < w then n + (w - f n) / (step + 1) else n
  if w ≤ f n1 then n1 else if w ≤ f (n1 + 1) then n1 + 1 else n1 + 2

/-- First N whose S(N, 0) − `lead` is at or after a working time (R155, R221). -/
def ModeRow.nextFrame (m : ModeRow) (leadQ w : Nat) : Nat :=
  let n0 := (w + leadQ) / (m.frame + 1)
  firstFrame (fun n => m.start n - leadQ) w m.frame n0

end Sys2Proof.Machine
end

