-- ==== Sys2Proof/Machine/Flags.lean ====
section
/-! DEFINITION. Register fields and their access types (R5), status codes (R33), pins and summary flags computed
from the state. -/

namespace Sys2Proof.Machine

/-- The value a register holds. -/
def Dev.reg (d : Dev) (r : RegDesc) (i : Nat := 0) (j : Nat := 0) : Nat :=
  (tabGetD d.regs (BitVec.ofNat 32 r.reset) (r.off i j)).toNat

/-- Set a whole register. -/
def Dev.setReg (d : Dev) (r : RegDesc) (v : Nat) (i : Nat := 0) (j : Nat := 0) : Dev :=
  { d with regs := tabSet d.regs (BitVec.ofNat 32 r.reset) (r.off i j) (BitVec.ofNat 32 v) }

/-- The value of a register field. -/
def Dev.get (d : Dev) (f : FldDesc) (i : Nat := 0) (j : Nat := 0) : Nat := bits (d.reg f.reg i j) f.hi f.lo

/-- A register value with one field replaced. -/
def putBits (old hi lo v : Nat) : Nat :=
  old - bits old hi lo * 2 ^ lo + (v % 2 ^ (hi - lo + 1)) * 2 ^ lo

/-- Set a register field. -/
def Dev.put (d : Dev) (f : FldDesc) (v : Nat) (i : Nat := 0) (j : Nat := 0) : Dev :=
  d.setReg f.reg (putBits (d.reg f.reg i j) f.hi f.lo v) i j

/-- Whether a one-bit field is 1. -/
def Dev.on (d : Dev) (f : FldDesc) (i : Nat := 0) (j : Nat := 0) : Bool := d.get f i j == 1

/-- Add to a counter field, saturating at its largest value. -/
def Dev.bump (d : Dev) (f : FldDesc) (i : Nat := 0) (n : Nat := 1) (j : Nat := 0) : Dev :=
  d.put f (min (d.get f i j + n) (2 ^ (f.hi - f.lo + 1) - 1)) i j

/-- Add to a counter field, wrapping. -/
def Dev.bumpWrap (d : Dev) (f : FldDesc) (i : Nat := 0) (n : Nat := 1) : Dev := d.put f (d.get f i + n) i

/-- Set the upper word (or a companion) that a read of a low word latches into the register (R4). -/
def Dev.setLatch (d : Dev) (r : RegDesc) (v : Nat) (i : Nat := 0) (j : Nat := 0) : Dev :=
  { d with latch := tabPut d.latch (r.off i j) (BitVec.ofNat 32 v) }

/-- The live value that a latching register will take. -/
def Dev.live (d : Dev) (r : RegDesc) (i : Nat := 0) : Nat := (tabGetD d.latch 0 (r.off i 0)).toNat

/-- The value a plain host write leaves in a register, by the access types of R5. -/
def hostWriteValue (r : RegRow) (old v : Nat) : Nat :=
  let a := (old &&& (r.ro ||| r.w1c ||| r.w1s ||| r.cnt)) ||| (v &&& r.rw)
  let b := (a ^^^ (a &&& (v &&& r.w1c))) ||| (v &&& r.w1s)
  if v = 0xFFFFFFFF then b ^^^ (b &&& r.cnt) else b

/-- The value a read of a register returns: WO and reserved bits read 0 (R5). -/
def readMask (r : RegRow) : Nat := r.rw ||| r.ro ||| r.w1c ||| r.w1s ||| r.cnt

namespace Status

def success : Nat := 0x00
def invalidOpcode : Nat := 0x01
def invalidField : Nat := 0x02
def zeroRejected : Nat := 0x03
def seqError : Nat := 0x04
def rejected : Nat := 0x05
def refused : Nat := 0x06
def deadline : Nat := 0x07
def abandoned : Nat := 0x08
def timeout : Nat := 0x09
def accessDenied : Nat := 0x0A
def closed : Nat := 0x0B
def poisoned : Nat := 0x0C
def ownerUnreachable : Nat := 0x0D
def noRoute : Nat := 0x0E
def domainDown : Nat := 0x0F

end Status

/-- BOOT_STATUS.PHASE values (R63). -/
def phaseConfigure : Nat := 3
/-- PHASE TIME. -/
def phaseTime : Nat := 5
/-- PHASE OUTPUTS. -/
def phaseOutputs : Nat := 6
/-- PHASE RUNNING. -/
def phaseRunning : Nat := 7
/-- PHASE MAINTENANCE. -/
def phaseMaintenance : Nat := 0xE
/-- PHASE HALTED. -/
def phaseHalted : Nat := 0xF

/-- BOOT_STATUS.PHASE. -/
def Dev.phase (d : Dev) : Nat := d.get R.BOOT_STATUS_PHASE

/-- Instances of an edge domain (R11): Ethernet ports, DisplayPort ports, Paent ports, lanes, channels. -/
def domainInstances : Nat → Nat
  | 1 => 4
  | 2 => 16
  | 3 => 4
  | 4 => 24
  | 5 => 8
  | _ => 1

/-- Whether the clock of an instance of an edge domain runs (R11). -/
def Dev.clockAt (d : Dev) (dom inst : Nat) : Bool := d.err.clocks.contains (dom * 64 + inst)

/-- Whether an edge domain has a clock: that of some instance (R11; log 9). -/
def Dev.clockOn (d : Dev) (dom : Nat) : Bool := d.err.clocks.any fun k => k / 64 == dom

/-- The edge domain that an offset's block needs, if any (R12, R24; log 9). -/
def blockDomain (off : Nat) : Option Nat :=
  if 0x300000 ≤ off ∧ off < 0x380000 then some 0
  else if 0x400000 ≤ off ∧ off < 0x600000 then some 1
  else if 0x908000 ≤ off ∧ off < 0x909000 then some 2
  else if 0xD00000 ≤ off ∧ off < 0xE00000 then some 5
  else if 0x1000000 ≤ off ∧ off < 0x1004000 then some 7
  else if 0x1004000 ≤ off ∧ off < 0x1006000 then some 8
  else none

/-- Whether an offset's block has no domain clock (R24). -/
def Dev.offDown (d : Dev) (off : Nat) : Bool :=
  match blockDomain off with
  | some n => !d.clockOn n
  | none => false

/-- Whether an offset is closed by the boot phase (R65): before CONFIGURE, and in MAINTENANCE and HALTED. -/
def Dev.offClosed (d : Dev) (off : Nat) : Bool :=
  let p := d.phase
  let early := off < 0x100000 || (0x200000 ≤ off && off < 0x300000)
  if p = phaseHalted then !(off == 0x200004)
  else if p = phaseMaintenance then !(early || (0x100000 ≤ off && off < 0x200000))
  else if p < phaseConfigure then !early
  else false

/-- FAULT_N (R419): low while the phase is not RUNNING, a FATAL error stands, the pair is in FAULT, or a DEGRADED
error stands and DEGRADED_FAULT is 1; also low while MRST_N holds the logic (R467). -/
def Dev.faultN (d : Dev) : Bool :=
  d.phase == phaseRunning && !d.on R.ERR_STATUS_FATAL && d.get R.PAIR_STATUS_STATE != 6 &&
    !(d.on R.ERR_STATUS_DEGRADED && d.on R.ERR_CTRL_DEGRADED_FAULT) && d.pwr.logicOn && !d.pwr.mrstLow

/-- Whether a test of a target runs (R448). -/
def Dev.underTest (d : Dev) (target : Nat) : Bool := d.recd.tests.any fun e => e.1 == target

end Sys2Proof.Machine
end

