-- ==== Sys2Proof/Machine/Ops.lean ====
section
/-! DEFINITION. The shared operations: time, the recorder and error reporting, the event queue, completions and
fences, access to DRAM, the access checkers and the lease guard. -/

namespace Sys2Proof.Machine

/-! ### Time -/

/-- Quarter nanoseconds in a nanosecond, microsecond, millisecond and second. -/
def qNs : Nat := 4
/-- Quarter nanoseconds in a microsecond. -/
def qUs : Nat := 4000
/-- Quarter nanoseconds in a millisecond. -/
def qMs : Nat := 4000000
/-- Quarter nanoseconds in a second. -/
def qS : Nat := 4000000000

/-- The instant of a command becomes the present; time never runs backward (log 1). -/
def Dev.clock (d : Dev) (t : Nat) : Dev := { d with now := max d.now t }

/-- A command that acts on everything but DRAM. -/
def State.onDev (s : State) (t : Nat) (f : Dev → Dev) : Host.Outcome State Fault Refusal :=
  .next { s with dev := f (s.dev.clock t) }

/-- A command that acts on DRAM too. -/
def State.onAll (s : State) (t : Nat) (f : Dev × Mem → Dev × Mem) : Host.Outcome State Fault Refusal :=
  .next { s with dev := (f (s.dev.clock t, s.mem)).1, mem := (f (s.dev.clock t, s.mem)).2 }

/-- What an anchored time base has advanced by over `dt` at a rate in units of 2⁻¹⁶ ppb (R71). -/
def advance (rate : Int) (dt : Nat) : Int := dt + (dt * rate) / 65536000000000

/-- The value of an anchored time base at an instant, quarter nanoseconds. -/
def Anchor.read (a : Anchor) (now : Nat) : Nat := (a.val + advance a.rate (now - a.tick)).toNat

/-- Move an anchor to an instant and give it a rate from there on. -/
def Anchor.retime (a : Anchor) (now : Nat) (rate : Int) : Anchor := ⟨now, a.read now, rate⟩

/-- TB2: master-clock time since M, quarter nanoseconds (R70). -/
def Dev.tb2 (d : Dev) : Nat := d.now - d.boot.mInst

/-- Working time, quarter nanoseconds (R72); before the initial step it reads as TB2 (R73). -/
def Dev.wt (d : Dev) : Nat := d.time.wt.read d.now

/-- Short working time, 48-bit nanoseconds (R71). -/
def Dev.wt48 (d : Dev) : Nat := d.wt / 4 % 2 ^ 48

/-- Short TB2 time. -/
def Dev.tb248 (d : Dev) : Nat := d.tb2 / 4 % 2 ^ 48

/-- STATE of WT_STATUS. -/
def Dev.wtState (d : Dev) : Nat := d.get R.WT_STATUS_STATE

/-- The module ID (R299). -/
def Dev.moduleId (d : Dev) : Nat := d.get R.PAENT_ID_MODULE

/-! ### Recorder (R433 to R443) -/

/-- Code of a KIND (R433). -/
def Kind.code : Kind → Nat
  | .info => 0
  | .corrected => 1
  | .contained => 2
  | .degraded => 3
  | .fatal => 4
  | .recorder => 5

/-- The place of an event in the model's list of events; events that the list does not name come from 128 on. -/
def Ev.code : Ev → Nat
  | .other n => 128 + n % 64
  | e => e.ctorIdx

/-- Bits 5:0 of the NUMBER of the event at a place (R434). -/
def evIndex (code : Nat) : Nat := if 128 ≤ code then code - 128 else (Config.eventIndex code).toNat

/-- The key of an event's token bucket: its domain and its place in the model's list of events. -/
def evKey (agent : Nat) (ev : Ev) : Nat := agent / 4096 % 16 * 256 + ev.code

/-- NUMBER of an event: the domain code above the index that firmware's catalogue gives it (R434, R437). -/
def evNumber (agent : Nat) (ev : Ev) : Nat :=
  match ev with
  | .boot => 1020
  | .suppressed => 1021
  | .lost => 1022
  | .full => 1023
  | e => agent / 4096 % 16 * 64 + evIndex e.code

/-- CODE of an entry (R433). -/
def evCode (kind : Kind) (agent : Nat) (ev : Ev) : Nat := kind.code * 8192 + evNumber agent ev

/-- BURST and RATE of an event under the image in force (R436). -/
def Dev.rateOf (d : Dev) (agent : Nat) (ev : Ev) : Nat × Nat :=
  match d.boot.image with
  | none => (16, 1000)
  | some im =>
    match im.rates.find? (fun e => e.1 == evNumber agent ev) with
    | some (_, b, r) => (b, r)
    | none => (16, 1000)

/-- The bucket of an event at the present TB2 millisecond, in millionths of a token (R436). -/
def Dev.bucketNow (d : Dev) (agent : Nat) (ev : Ev) : Nat :=
  let (burst, rate) := d.rateOf agent ev
  match tabGet? d.recd.buckets (evKey agent ev) with
  | none => burst * 1000000
  | some (level, ms) => min (burst * 1000000) (level + rate * (d.tb2 / qMs - ms))

/-- Capacity of the flash store, less the slot kept for FULL (R441). -/
def flashLimit : Nat := 33554431

/-- Append an accepted entry to both stores (R435, R439, R441, R442). -/
def Dev.storeEntry (d : Dev) (kind : Kind) (ev : Ev) (agent p0 p1 p2 : Nat) : Dev :=
  let sq := (d.reg R.REC_SEQ + 1) % 2 ^ 32
  let e : RecEntry := ⟨d.wt48, d.tb248, kind, ev, d.moduleId, d.wtState, agent, sq, p0, p1, p2⟩
  let r := d.recd
  let d := { d with recd := { r with ring := (e :: r.ring).take 65536 } }.setReg R.REC_SEQ sq
  let fullDue := r.buffer.any (fun x => x.ev == .full)
  if d.on R.REC_STATUS_RECORDER_FULL || fullDue then d
  else if flashLimit ≤ d.reg R.REC_FLASH_USED + r.buffer.length then
    let f : RecEntry := ⟨d.wt48, d.tb248, .recorder, .full, d.moduleId, d.wtState, 0xF000, (sq + 1) % 2 ^ 32, sq, 0, 0⟩
    let d := { d with recd := { d.recd with ring := (f :: d.recd.ring).take 65536, buffer := r.buffer ++ [f] } }
    (d.setReg R.REC_SEQ (sq + 1)).put R.REC_STATUS_BUFFERED (r.buffer.length + 1)
  else if 8192 ≤ r.buffer.length then
    { d with recd := { d.recd with lostCount := r.lostCount + 1 } }.put R.REC_STATUS_BUFFER_LOSS 1
  else
    { d with recd := { d.recd with buffer := r.buffer ++ [e] } }.put R.REC_STATUS_BUFFERED (r.buffer.length + 1)

/-- Whether the recorder accepts an event now: KIND 4 and 5 are never limited; the others need a token (R436). -/
def Dev.accepts (d : Dev) (kind : Kind) (ev : Ev) (agent : Nat) : Bool :=
  kind == .recorder || kind == .fatal || decide (1000000 ≤ d.bucketNow agent ev)

/-- An event reaches the recorder: it takes a token and an SEQ, or it is counted as suppressed (R436, R437). -/
def Dev.record (d : Dev) (ev : Ev) (kind : Kind) (agent p0 p1 p2 : Nat) : Dev :=
  let key := evKey agent ev
  if kind == .recorder || kind == .fatal then d.storeEntry kind ev agent p0 p1 p2
  else if d.accepts kind ev agent then
    let level := d.bucketNow agent ev - 1000000
    let n := tabGetD d.recd.suppressed 0 key
    let d := { d with recd := { d.recd with
      buckets := tabPut d.recd.buckets key (level, d.tb2 / qMs), suppressed := tabDel d.recd.suppressed key } }
    let d := if n = 0 then d else d.storeEntry .recorder .suppressed 0xF000 (evCode kind agent ev) n 0
    d.storeEntry kind ev agent p0 p1 p2
  else
    { d with recd := { d.recd with
      buckets := tabPut d.recd.buckets key (d.bucketNow agent ev, d.tb2 / qMs)
      suppressed := tabUpd d.recd.suppressed 0 key (fun n => min (n + 1) 0xFFFFFFFF) } }

/-- An INFO event (R433). -/
def Dev.info (d : Dev) (ev : Ev) (agent : Nat) (p0 : Nat := 0) (p1 : Nat := 0) (p2 : Nat := 0) : Dev :=
  d.record ev .info agent p0 p1 p2

/-! ### Clocks of the edge domains (R11) -/

/-- The clock of an instance stops: with the fall of PRESENT, LOST is set and one event names the domain. -/
def Dev.clockGone (d : Dev) (dom inst : Nat) : Dev :=
  let d := { d with err := { d.err with clocks := d.err.clocks.filter (· != dom * 64 + inst) } }
  let p := d.get R.EDGE_CLK_STATUS_PRESENT
  if bit p dom then
    ((d.put R.EDGE_CLK_STATUS_PRESENT (p - 2 ^ dom)).put R.EDGE_CLK_STATUS_LOST
      (d.get R.EDGE_CLK_STATUS_LOST ||| 2 ^ dom)).info .clockLost 0x0FFF dom
  else d

/-- The clock of an instance runs: PRESENT is set once every instance's does. -/
def Dev.clockBack (d : Dev) (dom inst : Nat) : Dev :=
  if 12 ≤ dom || domainInstances dom ≤ inst then d
  else
    let d := { d with err := { d.err with
      clocks := (dom * 64 + inst) :: d.err.clocks.filter (· != dom * 64 + inst) } }
    if (List.range (domainInstances dom)).all (d.clockAt dom) then
      d.put R.EDGE_CLK_STATUS_PRESENT (d.get R.EDGE_CLK_STATUS_PRESENT ||| 2 ^ dom)
    else d

/-! ### The redundant pair (17) -/

/-- The HEADS entry of an enabled head. -/
def Dev.headEntry (d : Dev) (h : Nat) : Option HeadEntry :=
  match d.boot.image with
  | none => none
  | some im => im.heads.find? fun e => e.head == h && bit e.flags 0

/-- Enabled heads, ascending. -/
def Dev.enabledHeads (d : Dev) : List Nat := (List.range 32).filter fun h => (d.headEntry h).isSome

/-- STATE of the pair (R341). -/
def Dev.pst (d : Dev) : Nat := d.get R.PAIR_STATUS_STATE
/-- OFF. -/
def prOff : Nat := 0
/-- SOLO. -/
def prSolo : Nat := 1
/-- SEEKING. -/
def prSeeking : Nat := 2
/-- SYNCING. -/
def prSyncing : Nat := 3
/-- STANDBY. -/
def prStandby : Nat := 4
/-- ACTIVE. -/
def prActive : Nat := 5
/-- FAULT. -/
def prFault : Nat := 6
/-- FAILED. -/
def prFailed : Nat := 7

/-- Set the pair block. -/
def Dev.setPair (d : Dev) (x : PairSt) : Dev := { d with pair := x }

/-- Whether the unit follows its partner's mirror: SYNCING or STANDBY. -/
def Dev.follows (d : Dev) : Bool := d.pst == prSyncing || d.pst == prStandby

/-- Whether the queues fetch and write (R355): not while the unit seeks, follows or is in FAULT; a FAILED unit's queues
keep doing what they did (R420). -/
def Dev.queueActs (d : Dev) : Bool :=
  d.pst == prOff || d.pst == prSolo || d.pst == prActive || (d.pst == prFailed && d.pair.acted)

/-- The timing head (R345). -/
def Dev.timingHead (d : Dev) : Option Nat :=
  if (d.headEntry d.pair.timingHead).isSome then some d.pair.timingHead else d.enabledHeads.head?

/-- The first handover instant at or after a working time (R345). -/
def Dev.handover (d : Dev) (w : Nat) : Nat :=
  match d.timingHead with
  | some h =>
    let m := modeRow (d.get R.HEAD_MODE_CUR_MODE h)
    m.start (m.nextFrame (4 * qUs) w) - 4 * qUs
  | none => (w + qMs - 1) / qMs * qMs

/-- Send a mirror record to a partner that follows (R351). -/
def Dev.mirror (d : Dev) (x : MirrorItem) : Dev :=
  let s := d.get R.PAIR_HB_PARTNER_STATE
  if d.pst == prActive && (s == prSyncing || s == prStandby) then
    d.setPair { d.pair with out := .item d.pair.sent x :: d.pair.out, sent := d.pair.sent + 1 }
  else d

/-- Answer the partner over the mirror. -/
def Dev.reply (d : Dev) (r : MirrorReply) : Dev := d.setPair { d.pair with out := .reply r :: d.pair.out }

/-- A planned release (R346): the first handover instant at least 200 µs ahead. -/
def Dev.planRelease (d : Dev) : Dev :=
  let h := d.handover (d.wt + 200 * qUs)
  (d.setPair { d.pair with release := some h }).mirror (.planned h)

/-! ### Queues: rings, records and notifications -/

/-- The event queue. -/
def evQ : Nat := 16

/-- A queue's internal state. -/
def Dev.queue (d : Dev) (q : Nat) : Queue := tabGetD d.host.queues Queue.init q

/-- Set a queue's internal state. -/
def Dev.setQueue (d : Dev) (q : Nat) (v : Queue) : Dev :=
  { d with host := { d.host with queues := tabSet d.host.queues Queue.init q v } }

/-- Entries a completion ring holds in all. -/
def Dev.cqSize (d : Dev) (q : Nat) : Nat := 2 ^ d.get R.Q_CTRL_CQ_LOG2 q

/-- Whether the completion ring is full (R28). -/
def Dev.cqFull (d : Dev) (q : Nat) : Bool := ((d.queue q).cqTail + 1) % d.cqSize q == (d.queue q).cqHead

/-- Whether entries may be written to a queue's completion ring now: it is enabled, nothing is held back,
the unit acts (R355), and CD-HOST has its clock (R11). -/
def Dev.cqOpen (d : Dev) (q : Nat) : Bool :=
  d.get R.Q_STATUS_STATE q != 0 && !(d.queue q).holding && !d.cqFull q && d.queueActs && d.clockOn 6

/-- STATE of a queue. -/
def Dev.qState (d : Dev) (q : Nat) : Nat := d.get R.Q_STATUS_STATE q
/-- DISABLED. -/
def qDisabled : Nat := 0
/-- RUNNING. -/
def qRunning : Nat := 1
/-- DRAINING. -/
def qDraining : Nat := 2
/-- ERROR. -/
def qError : Nat := 3

/-- A cause of ERR stops fetching (R26, R27). -/
def Dev.queueErr (d : Dev) (q code : Nat) : Dev :=
  if d.qState q = qRunning then
    (d.put R.Q_STATUS_STATE qError q).put R.Q_STATUS_ERR code q
  else d

/-- Base address of a completion ring. -/
def Dev.cqBase (d : Dev) (q : Nat) : Nat :=
  d.reg R.CQ_BASE_HI q * 2 ^ 32 + d.get R.CQ_BASE_LO_ADDR q * 64

/-- Issue a write or a message to the host. -/
def Dev.post (d : Dev) (p : Posted) : Dev := { d with host := { d.host with posted := p :: d.host.posted } }

/-- Replace byte 7's top bit, PHASE of STATUS. -/
def withPhase (bs : List Byte) (phase : Bool) : List Byte :=
  bs.mapIdx fun i b => if i = 7 then BitVec.ofNat 8 (b.toNat % 128 + b2n phase * 128) else b

/-- Write a 32-byte entry at the write position of a completion ring, with PHASE; then move on (R28, R29). -/
def Dev.ringPut (d : Dev) (q : Nat) (entry : List Byte) (notify : Bool) : Dev :=
  let s := d.queue q
  let next := (s.cqTail + 1) % d.cqSize q
  let n := d.get R.Q_CTRL_COAL_CNT q
  let due := n != 0 && decide (n ≤ s.coal + 1)
  let d1 := d.post (.write (d.cqBase q + s.cqTail * 32) (withPhase entry s.phase) false)
  let d2 := d1.setQueue q { s with
    cqTail := next, phase := if next = 0 then !s.phase else s.phase, coal := if due then 0 else s.coal + 1 }
  if due || notify then d2.post (.msix (d.get R.Q_CTRL_MSIX_VEC q)) else d2

/-- Post a notification: written at once when queue 16 can take it, otherwise not held (R162, R418, R489). -/
def Dev.notify (d : Dev) (entry : List Byte) : Dev :=
  if d.cqOpen evQ && (d.queue evQ).records.isEmpty && d.host.busMaster then d.ringPut evQ entry false else d

/-- Write held records while queue 16 has room (R162); `fuel` bounds the number of records. A record that the host
interface may not issue puts the queue into ERROR (R22, R490). -/
def Dev.flushRecords : Nat → Dev → Dev
  | 0, d => d
  | n + 1, d =>
    match (d.queue evQ).records with
    | [] => d.put R.EVQ_HELD_HELD 0 evQ
    | r :: rest =>
      if d.cqOpen evQ && !d.host.busMaster then
        let e := d.queueErr evQ 4
        e.setQueue evQ { e.queue evQ with holding := true }
      else if d.cqOpen evQ then
        let e := d.ringPut evQ r.bytes false
        let e := (e.setQueue evQ { e.queue evQ with records := rest }).put R.EVQ_HELD_HELD rest.length evQ
        Dev.flushRecords n (e.mirror (.recordWritten r.bytes (e.queue evQ).cqTail (e.queue evQ).phase))
      else d

/-- Whether two records say the same: SEQ, opcode, REASON and DETAIL_ID. -/
def sameRecord (a b : List Byte) : Bool := leAt a 0 6 == leAt b 0 6 && leAt a 8 4 == leAt b 8 4

/-- Write or hold a presentation or release record (R162). A standby holds none that the active unit has written (R355). -/
def Dev.postRecord (d : Dev) (entry : List Byte) (commitSeq : Nat) : Dev :=
  let s := d.queue evQ
  match d.pair.recNotices.find? (sameRecord entry) with
  | some e => d.setPair { d.pair with recNotices := d.pair.recNotices.erase e }
  | none =>
  if 65536 ≤ s.records.length then
    (d.bump R.EVQ_LOST_LOST evQ).info .recordLost 0x4FFF commitSeq
  else
    let d := (d.setQueue evQ { s with records := s.records ++ [⟨entry⟩] }).put R.EVQ_HELD_HELD (s.records.length + 1) evQ
    d.flushRecords (s.records.length + 1)

/-- A 32-byte entry in the completion layout, PHASE 0. -/
def entryBytes (seq opcode status reason detail sqHead source ctime tail : Nat) : List Byte :=
  leBytes 4 seq ++ leBytes 2 opcode ++ leBytes 2 status ++ leBytes 2 reason ++ leBytes 2 detail ++
    leBytes 2 sqHead ++ leBytes 2 source ++ leBytes 6 ctime ++ leBytes 2 0 ++ leBytes 8 tail

/-! ### Errors (R415 to R420) -/

/-- An error notification (R418), posted while ERR_CTRL.NOTIFY is 1; the module's error SEQ counts every error. -/
def Dev.errorNotify (d : Dev) (accepted : Bool) (kind : Kind) (ev : Ev) (agent p0 : Nat) : Dev :=
  let sq := d.err.seq
  let e := entryBytes sq 0x0010 0 (evCode kind agent ev) agent 0 d.moduleId d.wt48
    ((kind.code - 1) + p0 % 2 ^ 32 * 2 ^ 32)
  let d := { d with err := { d.err with seq := (sq + 1) % 2 ^ 32 } }
  if accepted && d.on R.ERR_CTRL_NOTIFY then
    { d with err := { d.err with notes := (e :: d.err.notes).take 256 } }.notify e
  else d

/-- A CORRECTED error (R415): the block's counter is the caller's; ERR_CORRECTED and one recorder event. -/
def Dev.corrected (d : Dev) (ev : Ev) (agent : Nat) (p0 : Nat := 0) (p1 : Nat := 0) : Dev :=
  (d.bump R.ERR_CORRECTED_COUNT).record ev .corrected agent p0 p1 0

/-- A CONTAINED error (R415). -/
def Dev.contained (d : Dev) (ev : Ev) (agent : Nat) (p0 : Nat := 0) (p1 : Nat := 0) : Dev :=
  let ok := d.accepts .contained ev agent
  ((d.bump R.ERR_CONTAINED_COUNT).record ev .contained agent p0 p1 0).errorNotify ok .contained ev agent p0

/-- A DEGRADED error whose standing is kept elsewhere (a lane, R336): counted, recorded and notified. -/
def Dev.degradedEvent (d : Dev) (ev : Ev) (agent : Nat) (p0 : Nat := 0) (p1 : Nat := 0) : Dev :=
  let ok := d.accepts .degraded ev agent
  (((d.bump R.ERR_DEGRADED_COUNT).record ev .degraded agent p0 p1 0).errorNotify ok .degraded ev agent p0).put
    R.ERR_STATUS_DEGRADED 1

/-- A DEGRADED error, which stands until module reset (R415). -/
def Dev.degraded (d : Dev) (ev : Ev) (agent : Nat) (p0 : Nat := 0) (p1 : Nat := 0) : Dev :=
  let d := { d with err := { d.err with degraded := d.err.degraded + 1 } }
  d.degradedEvent ev agent p0 p1

/-- FATAL_CAUSE values (R415). -/
def fatalClockTime : Nat := 1
/-- CHANNEL_FAILED. -/
def fatalChannel : Nat := 2
/-- WATCHDOG. -/
def fatalWatchdog : Nat := 3
/-- FIRMWARE_POISON. -/
def fatalPoison : Nat := 4
/-- NO_CLUSTER. -/
def fatalNoCluster : Nat := 5
/-- FABRIC. -/
def fatalFabric : Nat := 6

/-- A FATAL declaration (R420): ERR_STATUS.FATAL, the first cause, the pair state FAILED, one recorder event and one
notification. The release of OWNS follows at a handover instant (R346). -/
def Dev.fatal (d : Dev) (cause : Nat) : Dev :=
  let first := !d.on R.ERR_STATUS_FATAL
  let d := if first && d.on R.PAIR_STATUS_CLAIM then d.planRelease else d
  let d := d.setPair { d.pair with acted := d.queueActs, plan := none }
  let d := (d.put R.ERR_STATUS_FATAL 1).put R.PAIR_STATUS_STATE prFailed
  let d := if first then d.put R.ERR_STATUS_FATAL_CAUSE cause else d
  let d := (d.record .fatal .fatal 0x0FFF cause 0 0).errorNotify true .fatal .fatal 0x0FFF cause
  if first then
    { d with recd := { d.recd with fatalSeq := d.reg R.REC_SEQ, fatalWt := d.wt48, fatalTb2 := d.tb248 } }
  else d

/-! ### Commands: completion and fences -/

/-- The first accepted command of a queue with the given SEQ that is not yet complete. -/
def Dev.cmd? (d : Dev) (q seq : Nat) : Option Cmd :=
  (d.queue q).cmds.find? fun c => c.seq == seq && c.st != .done

/-- Replace the commands of a queue. -/
def Dev.setCmds (d : Dev) (q : Nat) (cs : List Cmd) : Dev := d.setQueue q { d.queue q with cmds := cs }

/-- Change the first command with the given SEQ that is not complete. -/
def updFirst (p : Cmd → Bool) (f : Cmd → Cmd) : List Cmd → List Cmd
  | [] => []
  | c :: r => if p c then f c :: r else c :: updFirst p f r

/-- Change a command that is not complete. -/
def Dev.updCmd (d : Dev) (q seq : Nat) (f : Cmd → Cmd) : Dev :=
  d.setCmds q (updFirst (fun c => c.seq == seq && c.st != .done) f (d.queue q).cmds)

/-- A fence takes a new value when it is later (R34); otherwise nothing moves and an event is recorded. -/
def Dev.fenceTo (d : Dev) (f v : Nat) : Dev :=
  if later 32 v (d.reg R.FENCE_VAL f) then d.setReg R.FENCE_VAL v f
  else if v % 2 ^ 32 = d.reg R.FENCE_VAL f then d
  else d.info .fenceBackward 0x0FFF f v

/-- Whether a fence has reached a value (R34). -/
def Dev.fenceReached (d : Dev) (f v : Nat) : Bool := decide (0 ≤ sdiff 32 (d.reg R.FENCE_VAL f) v)

/-- The queue that holds commands forwarded here by `origin`'s queue `oq`. -/
def fwdQueue (origin oq : Nat) : Nat := 32 + origin * 16 + oq

/-- The module that submitted the commands of a queue number, for checkers and records. -/
def queueOrigin (d : Dev) (q : Nat) : Nat := if q < 32 then d.moduleId else (q - 32) / 16

/-- Keep the last 4,096 outcomes of each origin queue (R32). -/
def keepOutcome (l : List FwdRecord) (r : FwdRecord) : List FwdRecord :=
  let same := (r :: l).filter fun x => x.origin == r.origin && x.queue == r.queue
  if same.length ≤ 4096 then r :: l
  else (r :: l).filter fun x => !(x.origin == r.origin && x.queue == r.queue) || (same.take 4096).contains x

/-- The standby returns to SYNCING (R354, R429) and asks for a snapshot. -/
def Dev.resync (d : Dev) : Dev :=
  if d.pst ≠ prStandby then d
  else
    let d := ((d.put R.PAIR_STATUS_STATE prSyncing).put R.PAIR_STATUS_IN_SYNC 0).put R.PAIR_STATUS_WTR_RUNNING 0
    let d := d.setPair { d.pair with
      snapDone := false, ackAt := none, groupsOk := [], theirs := [], expects := [], readies := [], wtrFrom := none
      ahead := [], gapAt := none, next := 0, plan := none, failAt := none }
    (d.reply .diverged).reply .snapshotRequest

/-- The standby's outcome differs, or it cannot confirm in time (R341, R354). -/
def Dev.diverged (d : Dev) : Dev :=
  if d.pst ≠ prStandby then d else ((d.bump R.PAIR_DIVERGE_COUNT).info .diverge 0x9FFF).resync

/-- The active unit's outcome of a command against this unit's own (R353, R354): equal ones are confirmed, and the
completion takes the mirrored bytes. -/
def Dev.settle (d : Dev) (q seq : Nat) : Dev :=
  match d.pair.expects.find? (fun e => e.1 == q && e.2.1 == seq),
    (d.queue q).cmds.find? (fun c => c.seq == seq && c.st == .done) with
  | some e, some c =>
    let o := e.2.2.1
    let d := d.setPair { d.pair with expects := d.pair.expects.erase e }
    let same := match c.out with
      | some x => x.status == o.status && x.reason == o.reason && x.detail == o.detail && x.result == o.result
      | none => false
    if same then
      let put : Cmd → Cmd := fun c => { c with
        out := some ⟨o.status, o.reason, o.detail, o.source, o.result⟩, ctime := e.2.2.2 }
      (d.setCmds q (updFirst (fun c => c.seq == seq) put (d.queue q).cmds)).reply (.confirm q seq)
    else d.diverged
  | _, _ => d

/-- Completions that the active unit has written leave the queues of the standby, in order (R355): Q_DONE_SEQ and the
release fence follow. -/
def Dev.popWritten : Nat → Dev → Nat → Dev
  | 0, d, _ => d
  | n + 1, d, q =>
    match (d.queue q).cmds with
    | [] => d
    | c :: rest =>
      if c.st == .done && d.pair.notices.contains (q, c.seq) then
        let d := (d.setCmds q rest).setReg R.Q_DONE_SEQ c.seq q
        let d := d.setPair { d.pair with notices := d.pair.notices.erase (q, c.seq) }
        Dev.popWritten n (if c.relEn && c.badField ≠ some 16 then d.fenceTo c.relFence c.relValue else d) q
      else d

/-- The parameters in force of contexts and decode setups follow their commands (R351). -/
def Dev.keepParams (d : Dev) (c : Cmd) (o : Outcome) : Dev :=
  let key := c.opcode * 256 + leAt c.param 0 1
  if o.status ≠ Status.success then d
  else if c.opcode = 0x0400 || c.opcode = 0x0600 then d.setPair { d.pair with params := tabPut d.pair.params key c.param }
  else if c.opcode = 0x0401 then
    d.setPair { d.pair with params := tabDel d.pair.params (0x0400 * 256 + leAt c.param 0 1) }
  else d

/-- A command completes (R31): the completion is made, to be written in acceptance order, and mirrored (R351, R353); a
command that another module forwarded sends its outcome back and is kept (R32). -/
def Dev.complete (d : Dev) (q seq : Nat) (o : Outcome) : Dev :=
  if q < 32 then
    match d.cmd? q seq with
    | none => d
    | some c =>
      let hold := d.on R.PAIR_STATUS_IN_SYNC && d.pst == prActive && !d.pair.confirmed.contains (q, seq)
      let d := (d.keepParams c o).updCmd q seq fun c => { c with
        st := .done, out := some o, ctime := d.wt48, awaiting := hold }
      let d := d.mirror (.outcome q seq ⟨o.status, o.reason, o.detail, o.source, o.result⟩ d.wt48)
      let d := d.setPair { d.pair with confirmed := d.pair.confirmed.filter (· != (q, seq)) }
      if d.follows then (d.settle q seq).popWritten (d.queue q).cmds.length q else d
  else
    let origin := (q - 32) / 16
    let r : FwdRecord := ⟨origin, (q - 32) % 16, seq, ⟨o.status, o.reason, o.detail, o.source, o.result⟩⟩
    let d := d.setCmds q ((d.queue q).cmds.filter fun c => !(c.seq == seq))
    { d with host := { d.host with fwdKept := keepOutcome d.host.fwdKept r, replies := r :: d.host.replies } }

/-- Complete with a status, a reason, a detail and a result, executed by this module. -/
def Dev.finish (d : Dev) (q seq status : Nat) (reason : Nat := 0) (result : Nat := 0) (detail : Nat := 0) : Dev :=
  d.complete q seq ⟨status, reason, detail, d.moduleId, result % 2 ^ 64⟩

/-- Complete SUCCESS with a RESULT. -/
def Dev.succeed (d : Dev) (q seq result : Nat) : Dev := d.finish q seq Status.success 0 result

/-- INVALID_FIELD for the PARAM field at byte `i`: REASON is its byte offset in the entry (log 12). -/
def Dev.bad (d : Dev) (q seq i : Nat) : Dev := d.finish q seq Status.invalidField (36 + i)

/-- REJECTED with a reason (R33). -/
def Dev.reject (d : Dev) (q seq reason : Nat) : Dev := d.finish q seq Status.rejected reason

/-- REFUSED with a reason: the command is dead-lettered whole (R33). -/
def Dev.refuse (d : Dev) (q seq reason : Nat) : Dev := d.finish q seq Status.refused reason

/-- The first field of a list of checks that fails: whether it is good, and its PARAM byte. -/
def firstBad : List (Bool × Nat) → Option Nat
  | [] => none
  | (ok, i) :: r => if ok then firstBad r else some i

/-- A PARAM whose bytes from `n` on are not 0 fails the command with INVALID_FIELD (R488); REASON is the byte's offset
in the entry. -/
def Dev.withTail (d : Dev) (q seq : Nat) (c : Cmd) (n : Nat) (f : Dev → Dev) : Dev :=
  match firstNonZero c.param n with
  | some i => d.finish q seq Status.invalidField (36 + i)
  | none => f d

/-- A compression job. -/
def Dev.job (d : Dev) (j : Nat) : Job := tabGetD d.sys.jobs Job.idle j

/-- Set a compression job, and its registers (20). -/
def Dev.setJob (d : Dev) (j : Nat) (v : Job) (reason : Nat := 0) : Dev :=
  let d := { d with sys := { d.sys with jobs := tabSet d.sys.jobs Job.idle j v } }
  let d := d.setReg R.CMP_JOB_STATUS (v.state * 2 ^ 29 + v.mode * 2 ^ 27 + v.owner % 16 * 2 ^ 16 + reason % 2 ^ 16) j
  ((d.setReg R.CMP_PARCELS v.parcels j).setReg R.CMP_OUT_OFFSET v.offset j).setReg R.CMP_PENDING
    (min v.pending.length 262144) j

/-- A failure of the feed that runs leaves its job in ERROR (R402, R407). -/
def Dev.feedFailed (d : Dev) (q seq reason : Nat) : Dev :=
  match (List.range 3).find? fun j => (d.job j).feed == some (q, seq) with
  | some j => d.setJob j { d.job j with state := 3, feed := none } reason
  | none => d

/-- The effect of an opcode's row: run `f` on the started command of that opcode, and leave the state as it is where
there is none (log 2). -/
def Dev.onCmd (d : Dev) (q seq opcode : Nat) (f : Cmd → Dev → Dev) : Dev :=
  match d.cmd? q seq with
  | some c => if c.st == .started && c.opcode == opcode then f c d else d
  | none => d

/-- The same for commands that reach DRAM. -/
def onCmdMem (d : Dev) (m : Mem) (q seq opcode : Nat) (f : Cmd → Dev → Mem → Dev × Mem) : Dev × Mem :=
  match d.cmd? q seq with
  | some c => if c.st == .started && c.opcode == opcode then f c d m else (d, m)
  | none => (d, m)

/-- The host data a command needs: what to do when it has come, when it has not, and when Bus Master Enable is 0 or
the data came poisoned (R22). -/
def Dev.withHost (d : Dev) (q seq : Nat) (c : Cmd) (f : List Byte → Dev → Dev) : Dev :=
  match c.hostData with
  | some (bs, []) => f bs d
  | some (_, _ :: _) => d.finish q seq Status.poisoned
  | none => if d.host.busMaster then d else d.finish q seq Status.accessDenied 0x0E06

/-- A command's write to host memory: issued when Bus Master Enable is 1 (R22), and by a unit that acts (R355). -/
def Dev.hostPut (d : Dev) (addr : Nat) (bs : List Byte) (poisoned : Bool := false) : Dev :=
  if bs.isEmpty || !d.queueActs then d else d.post (.write addr bs poisoned)

/-! ### Presentation and release records (R161, R162) -/

/-- Whether a command's completion is written: it is no longer among its queue's commands. -/
def Dev.written (d : Dev) (q seq : Nat) : Bool := !(d.queue q).cmds.any fun c => c.seq == seq

/-- Whether a held record may be written: its completion is written and its instant has come. -/
def Dev.recordDue (d : Dev) (r : HeldRec) : Bool := decide (r.due ≤ d.wt) && (decide (32 ≤ r.q) || d.written r.q r.seq)

/-- Write a record to the event queue of the module that accepted the commit (R162). -/
def Dev.writeRecord (d : Dev) (r : HeldRec) : Dev :=
  let e := entryBytes r.seq (if r.release then 0x0881 else 0x0880) Status.success (if r.q < 32 then r.q else (r.q - 32) % 16)
    r.subject 0 d.moduleId d.wt48 r.tail
  if r.q < 32 then d.postRecord e r.seq
  else { d with sys := { d.sys with out := ((r.q - 32) / 16, .record e) :: d.sys.out } }

/-- Write every held record that may be written, in order. -/
def Dev.flushHeld (d : Dev) : Dev :=
  let due := d.lay.held.filter d.recordDue
  let d := { d with lay := { d.lay with held := d.lay.held.filter fun r => !d.recordDue r } }
  due.foldl (fun d r => d.writeRecord r) d

/-! ### DRAM (18) -/

/-- Bits [29:0] of a MEM_MAP mask against PA[35:6] (R362): the XOR of the selected bits. -/
def xorBits : Nat → Nat → Bool
  | 0, _ => false
  | n + 1, v => (v % 2 == 1) ^^ xorBits n (v / 2)

/-- One hashed bit of a line number (R362). -/
def hashBit (mask line : Nat) : Nat := b2n (xorBits 30 (line &&& mask))

/-- Channel of a line (R362). -/
def chanOf (line : Nat) : Nat :=
  hashBit 0x00824040 line + 2 * hashBit 0x01048080 line + 4 * hashBit 0x02090100 line

/-- Bank group of a line (R362). -/
def bankGroupOf (line : Nat) : Nat :=
  hashBit 0x04100200 line + 2 * hashBit 0x08200400 line + 4 * hashBit 0x10400800 line

/-- Bank of a line (R362). -/
def bankOf (line : Nat) : Nat := hashBit 0x20021000 line + 2 * hashBit 0x04042000 line

/-- Row of a line: PA[35:20] (R363). -/
def rowOf (line : Nat) : Nat := line / 2 ^ 14 % 2 ^ 16

/-- Column burst of a line: PA[11:6] (R363). -/
def colOf (line : Nat) : Nat := line % 64

/-- Rank line number of a line (R373). -/
def rankLine (line : Nat) : Nat :=
  rowOf line * 2 ^ 11 + bankGroupOf line * 2 ^ 8 + bankOf line * 2 ^ 6 + colOf line

/-- The home bit of a mask, PA[19:12], that makes a hashed bit `v` given the line's other bits (R363). -/
def homeBit (mask line v home : Nat) : Nat :=
  b2n (bit v 0 ^^ xorBits 30 ((line &&& mask) &&& (2 ^ 30 - 1 - 2 ^ home))) * 2 ^ home

/-- The line of a channel with a given rank line number: the inverse of the mapping (R363). -/
def lineOfRank (ch rl : Nat) : Nat :=
  let base := rl / 2 ^ 11 * 2 ^ 14 + rl % 64
  let bg := rl / 2 ^ 8 % 8
  let bk := rl / 2 ^ 6 % 4
  base + homeBit 0x00824040 base ch 6 + homeBit 0x01048080 base (ch / 2) 7 + homeBit 0x02090100 base (ch / 4) 8 +
    homeBit 0x04100200 base bg 9 + homeBit 0x08200400 base (bg / 2) 10 + homeBit 0x10400800 base (bg / 4) 11 +
    homeBit 0x20021000 base bk 12 + homeBit 0x04042000 base (bk / 2) 13

/-- A byte of DRAM; memory nothing has written reads 0 (log 3). -/
def Mem.byte (m : Mem) (a : Nat) : Byte := tabGetD m.bytes 0 a

/-- Write one byte. -/
def Mem.setByte (m : Mem) (a : Nat) (b : Byte) : Mem := { m with bytes := tabSet m.bytes 0 a b }

/-- Write bytes from an address on. -/
def Mem.setBytes : Mem → Nat → List Byte → Mem
  | m, _, [] => m
  | m, a, b :: r => Mem.setBytes (m.setByte a b) (a + 1) r

/-- `n` bytes from an address on. -/
def Mem.getBytes (m : Mem) (a n : Nat) : List Byte := (List.range n).map fun i => m.byte (a + i)

/-- A little-endian number of `n` bytes in DRAM. -/
def Mem.le (m : Mem) (a n : Nat) : Nat := leNat (m.getBytes a n)

/-- The canonical form of memory: addresses strictly rising, no listed byte equal to what an unlisted one reads as. -/
def Mem.wf (m : Mem) : Bool := tabWf 0 m.bytes

/-- Whether a channel is FAILED (R376). -/
def Dev.chFailed (d : Dev) (ch : Nat) : Bool := bit (d.get R.MEM_STATUS_FAILED_CH) ch

/-- Whether a read of a line gives POISON (R371, R376). -/
def poisonLine (d : Dev) (m : Mem) (line : Nat) : Bool :=
  (tabGet? m.poison line).isSome || (tabGet? m.ue line).isSome || d.chFailed (chanOf line)

/-- The lines that `n` bytes from `a` touch. -/
def linesOf (a n : Nat) : List Nat :=
  if n = 0 then [] else (List.range ((a + n - 1) / 64 - a / 64 + 1)).map (a / 64 + ·)

/-- The poisoned lines among those that `n` bytes from `a` touch. -/
def poisonedIn (d : Dev) (m : Mem) (a n : Nat) : List Nat := (linesOf a n).filter (poisonLine d m)

/-- Count the poisoned lines a read returned (R371). -/
def countPoison : Dev → List Nat → Dev
  | d, [] => d
  | d, l :: r => countPoison (d.bump R.CH_POISON_RD_COUNT (chanOf l)) r

/-- A line is written whole: poison and uncorrectable data give way to data; an armed line is written corrupted, in two
devices uncorrectably (R449). -/
def Mem.fillLine (m : Mem) (line : Nat) : Mem :=
  let m := { m with poison := tabDel m.poison line, ue := tabDel m.ue line, injected := tabDel m.injected line }
  match tabGet? m.armed line with
  | none => m
  | some v => { m with
      armed := tabDel m.armed line, injected := tabPut m.injected line v
      ue := if v / 8 = 2 then tabPut m.ue line () else m.ue }

/-- A write during a migration of its channel goes whole to the target too (R373). -/
def Mem.toTarget (m : Mem) (d : Dev) (line : Nat) : Mem :=
  if d.get R.CH_STATUS_STATE (chanOf line) = 1 then { m with target := tabPut m.target line () } else m

/-- Write the part of `bs` (starting at `a`) that lies in `line` (R371, R373, R376): a full line replaces poison, a
partial write to a poisoned line is dropped, a failed channel drops the write. -/
def writeLine (d : Dev) (a : Nat) (bs : List Byte) (m : Mem) (line : Nat) : Mem :=
  let lo := max a (line * 64)
  let hi := min (a + bs.length) (line * 64 + 64)
  if d.chFailed (chanOf line) then m
  else if lo = line * 64 && hi = line * 64 + 64 then
    ((m.fillLine line).toTarget d line).setBytes lo ((bs.drop (lo - a)).take (hi - lo))
  else if poisonLine d m line then m
  else (m.toTarget d line).setBytes lo ((bs.drop (lo - a)).take (hi - lo))

/-- Write bytes to DRAM through the controller. -/
def dramWrite (d : Dev) (m : Mem) (a : Nat) (bs : List Byte) : Mem :=
  (linesOf a bs.length).foldl (writeLine d a bs) m

/-- Mark a line as poison (R371). -/
def Mem.setPoison (m : Mem) (line : Nat) : Mem :=
  { m with poison := tabPut m.poison line (), ue := tabDel m.ue line }

/-! ### Access checkers and the lease guard (19) -/

/-- Whether a region of a checker is enabled and covers a byte (R385). -/
def Dev.inRegion (d : Dev) (k r pa : Nat) : Bool :=
  let pages := d.get R.RGN_SIZE_PAGES k r
  let base := d.get R.RGN_BASE_BASE k r * 4096
  pages != 0 && base ≤ pa && pa < base + pages * 4096

/-- The verdict of checker `k` on one byte: none when it allows the access, otherwise the access code (R385). -/
def Dev.checkByte (d : Dev) (k : Nat) (write : Bool) (pa : Nat) : Option Nat :=
  if 2 ^ 36 ≤ pa then some 3
  else if !d.on R.CHK_STATUS_ENFORCING k then none
  else
    match (List.range 64).find? (fun r => d.inRegion k r pa) with
    | none => some 1
    | some r => if d.on (if write then R.RGN_CTRL_W else R.RGN_CTRL_R) k r then none else some 2

/-- The lease entry that covers a byte (R395). -/
def Dev.leased (d : Dev) (pa : Nat) : Option Nat :=
  (d.prot.leases.find? fun e => e.2.base ≤ pa && pa < e.2.base + e.2.pages * 4096).map (·.1)

/-- Whether the lease guard stands behind a checker: HOST, PAENT and DMA (R383). -/
def guarded (k : Nat) : Bool := k == 0 || k == 3 || k == 4

/-- A byte's denial: by the checker with its code, or by the lease guard with its entry. -/
inductive Denial where
  | checker (code : Nat)
  | lease (entry : Nat)
  deriving DecidableEq, Repr

/-- The verdict on one byte of an access: first the checker, then, for writes of guarded masters, the lease guard. -/
def Dev.verdict (d : Dev) (k : Nat) (write : Bool) (pa : Nat) : Option Denial :=
  match d.checkByte k write pa with
  | some c => some (.checker c)
  | none =>
    if write && guarded k then (d.leased pa).map .lease else none

/-- The verdicts on the `n` bytes from `pa`: offset and denial of each byte that is denied, rising. -/
def Dev.denials (d : Dev) (k : Nat) (write : Bool) (pa n : Nat) : List (Nat × Denial) :=
  (List.range n).filterMap fun i => (d.verdict k write (pa + i)).map fun x => (i, x)

/-- Access reason code of a denial (R397). -/
def Denial.reason : Denial → Nat
  | .checker c => 0x0E00 + c
  | .lease _ => 0x0E04

/-- Agent identifier of a checker, and of the lease guard (R487). -/
def checkerAgent (k : Nat) : Nat := 0xF010 + k

/-- An access-fault notification (R489). -/
def Dev.accessNotify (d : Dev) (reason agent : Nat) (write : Bool) (master pa : Nat) : Dev :=
  d.notify (entryBytes (d.reg R.REC_SEQ) 0x0011 0 reason agent 0 d.moduleId d.wt48
    ((b2n write + pa / 2 ^ 32 % 16 * 16) * 2 ^ 8 + master % 2 ^ 16 * 2 ^ 16 + pa % 2 ^ 32 * 2 ^ 32))

/-- Record a checker fault (R396): the first fault is kept, later ones set OVERFLOW; one recorder event. -/
def Dev.checkerFault (d : Dev) (k : Nat) (write : Bool) (master pa code : Nat) : Dev :=
  let hi := 2 ^ 31 + b2n write * 2 ^ 29 + code * 2 ^ 26 + master % 1024 * 2 ^ 16 + pa / 2 ^ 32 % 16
  let f : FaultRec :=
    match tabGet? d.prot.faults k with
    | none => ⟨pa, BitVec.ofNat 32 hi⟩
    | some f => { f with hi := f.hi ||| 0x40000000 }
  let d := { d with prot := { d.prot with faults := tabPut d.prot.faults k f } }
  let d := (d.setReg R.CHK_FAULT_LO f.pa k).setLatch R.CHK_FAULT_HI f.hi.toNat k
  let d := if code = 4 then d.bump R.CHK_CLOSED_COUNT k else d.bump R.CHK_FAULTS_COUNT k
  let ok := d.accepts .info .checkerFault (checkerAgent k)
  let d := d.info .checkerFault (checkerAgent k) (pa % 2 ^ 32) (code + master * 16)
  if ok && d.on R.CHK_CTRL_NOTIFY k then
    d.accessNotify (if code = 4 then 0x0E05 else 0x0E00 + code) (checkerAgent k) write master pa
  else d

/-- Record a drop by the lease guard (R395, R396). -/
def Dev.leaseDrop (d : Dev) (k entry pa : Nat) : Dev :=
  let hi := 2 ^ 31 + k * 2 ^ 27 + entry % 2048 * 2 ^ 16 + pa / 2 ^ 32 % 16
  let f : FaultRec :=
    match tabGet? d.prot.faults 6 with
    | none => ⟨pa, BitVec.ofNat 32 hi⟩
    | some f => { f with hi := f.hi ||| 0x40000000 }
  let d := { d with prot := { d.prot with faults := tabPut d.prot.faults 6 f } }
  let d := ((d.setReg R.LG_FAULT_LO f.pa).setLatch R.LG_FAULT_HI f.hi.toNat).bump R.LG_DROPS_COUNT
  let ok := d.accepts .info .leaseDrop 0xF020
  let d := d.info .leaseDrop 0xF020 (pa % 2 ^ 32) entry
  if ok && d.on R.CHK_CTRL_NOTIFY k then d.accessNotify 0x0E04 0xF020 true (entry % 2048 + k * 8192) pa else d

/-- Report the denials of one access (R388): the lowest address the checker denied, and the lowest the guard dropped. -/
def Dev.reportDenials (d : Dev) (k : Nat) (write : Bool) (master pa : Nat) (ds : List (Nat × Denial)) : Dev :=
  let d := match ds.findSome? (fun e => match e.2 with | .checker c => some (e.1, c) | _ => none) with
    | some (i, c) => d.checkerFault k write master (pa + i) c
    | none => d
  match ds.findSome? (fun e => match e.2 with | .lease n => some (e.1, n) | _ => none) with
  | some (i, n) => d.leaseDrop k n (pa + i)
  | none => d

/-- Whether a checker is closed: UPDATE or FAULT_CLOSED (R391). -/
def Dev.chkClosed (d : Dev) (k : Nat) : Bool := d.get R.CHK_STATUS_STATE k != 0

/-- Maximal runs of bytes allowed, as (offset, bytes): the parts an access is split into (R388). -/
def allowedRuns : Nat → List Byte → List Nat → List (Nat × List Byte)
  | _, [], _ => []
  | i, b :: r, denied =>
    match allowedRuns (i + 1) r denied with
    | runs =>
      if denied.contains i then runs
      else match runs with
        | (j, bs) :: rest => if j = i + 1 then (i, b :: bs) :: rest else (i, [b]) :: (j, bs) :: rest
        | [] => [(i, [b])]

/-- A checked write: allowed parts are performed, denied bytes dropped and reported; the denials are answered. -/
def checkedWrite (d : Dev) (m : Mem) (k master pa : Nat) (bs : List Byte) : Dev × Mem × List (Nat × Denial) :=
  let ds := d.denials k true pa bs.length
  let m' := (allowedRuns 0 bs (ds.map (·.1))).foldl (fun m r => dramWrite d m (pa + r.1) r.2) m
  (d.reportDenials k true master pa ds, m', ds)

/-- A checked read: denied bytes read 0; the denials and the poisoned lines among the bytes allowed are answered. -/
def checkedRead (d : Dev) (m : Mem) (k master pa n : Nat) :
    Dev × List Byte × List (Nat × Denial) × List Nat :=
  let ds := d.denials k false pa n
  let dn := ds.map (·.1)
  let bs := (List.range n).map fun i => if dn.contains i then 0 else m.byte (pa + i)
  let ps := (poisonedIn d m pa n).filter fun l =>
    (List.range n).any fun i => (pa + i) / 64 == l && !dn.contains i
  (countPoison (d.reportDenials k false master pa ds) ps, bs, ds, ps)

/-- An access is put to wait at a closed checker (R391). -/
def Dev.waitAt (d : Dev) (k : Nat) (a : WaitAccess) : Dev :=
  if d.prot.waiting.any (fun w => w.1 == k && w.2.2 == a) then d
  else { d with prot := { d.prot with waiting := d.prot.waiting ++ [(k, d.now, a)] } }

end Sys2Proof.Machine
end

