-- ==== Sys2Proof/Machine/Desc.lean ====
section
/-! DEFINITION. Layer descriptors, heads and groups, pools of slots and canvas holds: what decoding and composition share
(07, 08, 10). -/

namespace Sys2Proof.Machine

/-! ### Descriptor words (R152) -/

/-- A field of word `i` of a descriptor copy. -/
def ldF (w : List Nat) (i hi lo : Nat) : Nat := bits (w.getD i 0) hi lo
/-- ENABLE. -/
def ldEnable (w : List Nat) : Bool := ldF w 0 31 31 == 1
/-- GUARANTEED. -/
def ldGuaranteed (w : List Nat) : Bool := ldF w 0 30 30 == 1
/-- ROLE: 0 LIVE, 1 STATIC, 2 ECHO. -/
def ldRole (w : List Nat) : Nat := ldF w 0 29 28
/-- SRC_TYPE: 0 STREAM, 1 RAW, 2 HOST, 3 REMOTE, 4 WRITEBACK, 5 ECHO, 6 FILL. -/
def ldType (w : List Nat) : Nat := ldF w 0 27 25
/-- PRIORITY. -/
def ldPriority (w : List Nat) : Nat := ldF w 0 24 23
/-- HEAD. -/
def ldHead (w : List Nat) : Nat := ldF w 0 12 8
/-- Z. -/
def ldZ (w : List Nat) : Nat := ldF w 0 7 0
/-- DST_X. -/
def ldX (w : List Nat) : Int := toSigned 16 (ldF w 1 31 16)
/-- DST_Y. -/
def ldY (w : List Nat) : Int := toSigned 16 (ldF w 1 15 0)
/-- DW. -/
def ldDw (w : List Nat) : Nat := ldF w 2 31 16
/-- DH. -/
def ldDh (w : List Nat) : Nat := ldF w 2 15 0
/-- SRC_X. -/
def ldSx (w : List Nat) : Nat := ldF w 3 31 16
/-- SRC_Y. -/
def ldSy (w : List Nat) : Nat := ldF w 3 15 0
/-- SW. -/
def ldSw (w : List Nat) : Nat := ldF w 4 31 16
/-- SH. -/
def ldSh (w : List Nat) : Nat := ldF w 4 15 0
/-- LD_SOURCE. -/
def ldSource (w : List Nat) : Nat := w.getD 5 0
/-- LD_SURF. -/
def ldSurf (w : List Nat) : Nat := w.getD 6 0 + w.getD 7 0 * 2 ^ 32
/-- LD_PITCH. -/
def ldPitch (w : List Nat) : Nat := ldF w 8 19 0
/-- FMT of LD_FORMAT. -/
def ldFmt (w : List Nat) : Nat := ldF w 9 31 28
/-- Whether the source is a surface, RAW or HOST. -/
def ldSurface (w : List Nat) : Bool := ldType w == 1 || ldType w == 2
/-- Whether the layer is scaled (R158, step 7). -/
def ldScaled (w : List Nat) : Bool := ldSw w != ldDw w || ldSh w != ldDh w

/-- The current copy of a layer. -/
def Dev.curLd (d : Dev) (l : Nat) : List Nat := (List.range 24).map fun j => d.reg R.LD_CURRENT l j
/-- The shadow copy of a layer. -/
def Dev.shadowLd (d : Dev) (l : Nat) : List Nat := (List.range 24).map fun j => d.reg R.LD_SHADOW l j
/-- Write a shadow copy. -/
def Dev.setShadow (d : Dev) (l : Nat) (w : List Nat) : Dev :=
  (List.range 24).foldl (fun d j => d.setReg R.LD_SHADOW (w.getD j 0) l j) d
/-- Write a current copy. -/
def Dev.setCurLd (d : Dev) (l : Nat) (w : List Nat) : Dev :=
  (List.range 24).foldl (fun d j => d.setReg R.LD_CURRENT (w.getD j 0) l j) d

/-- Layers whose current ENABLE is 1, ascending. -/
def Dev.curLayers (d : Dev) : List Nat :=
  (d.regs.filter fun e => 0x800000 ≤ e.1 && e.1 < 0x900000 && e.1 % 256 == 0x60 && bit e.2.toNat 31).map fun e =>
    (e.1 - 0x800000) / 256

/-- Layers with a shadow word that is not 0, ascending. -/
def Dev.shadowLayers (d : Dev) : List Nat :=
  ((d.regs.filter fun e => 0x800000 ≤ e.1 && e.1 < 0x900000 && e.1 % 256 < 0x60).map fun e =>
    (e.1 - 0x800000) / 256).eraseDups

/-- What the compose domain holds of a layer. -/
def Dev.layerSt (d : Dev) (l : Nat) : LayerSt := tabGetD d.lay.layers LayerSt.init l
/-- Set it. -/
def Dev.setLayerSt (d : Dev) (l : Nat) (v : LayerSt) : Dev :=
  { d with lay := { d.lay with layers := tabSet d.lay.layers LayerSt.init l v } }

/-! ### Heads and groups (R46, R48, R150) -/

/-- Group of a head. -/
def Dev.headGroup (d : Dev) (h : Nat) : Nat := ((d.headEntry h).map (·.group)).getD 0

/-- Heads of a group, ascending. -/
def Dev.groupHeads (d : Dev) (g : Nat) : List Nat := d.enabledHeads.filter fun h => d.headGroup h == g

/-- A head. -/
def Dev.head (d : Dev) (h : Nat) : HeadSt := tabGetD d.comp.heads HeadSt.init h

/-- Set a head. -/
def Dev.setHead (d : Dev) (h : Nat) (v : HeadSt) : Dev :=
  { d with comp := { d.comp with heads := tabSet d.comp.heads HeadSt.init h v } }

/-! ### Slots of decode pools (R134) -/

/-- A context's decoding. -/
def Dev.dctx (d : Dev) (c : Nat) : Dctx := tabGetD d.dec.ctxs Dctx.init c

/-- A slot of a context's pool. -/
def Dctx.slot (x : Dctx) (i : Nat) : PicSlot := tabGetD x.slots PicSlot.free i

/-- Change a slot. -/
def Dctx.setSlot (x : Dctx) (i : Nat) (s : PicSlot) : Dctx := { x with slots := tabSet x.slots PicSlot.free i s }

/-- The slot that carries OUT. -/
def Dctx.outSlot (x : Dctx) : Option (Nat × PicSlot) := x.slots.find? fun e => e.2.out

/-- Change every slot. -/
def Dctx.mapSlots (x : Dctx) (f : PicSlot → PicSlot) : Dctx :=
  { x with slots := (x.slots.map fun e => (e.1, f e.2)).filter fun e => e.2 ≠ PicSlot.free }

/-- Whether a slot is FREE (R134). -/
def PicSlot.isFree (s : PicSlot) : Bool := !s.isRef && !s.out && s.lease == 0 && !s.writing

/-- A mask of the slots with a property. -/
def slotMask (t : Tab PicSlot) (p : PicSlot → Bool) : Nat :=
  t.foldl (fun m e => if p e.2 then m + 2 ^ e.1 else m) 0

/-- Set a context's decoding and the registers that show its pool (07, Registers). -/
def Dev.setDctx (d : Dev) (c : Nat) (x : Dctx) : Dev :=
  let d := { d with dec := { d.dec with ctxs := tabSet d.dec.ctxs Dctx.init c x } }
  let d := (d.setReg R.DCTX_REF_MASK (slotMask x.slots (·.isRef)) c).setReg R.DCTX_LEASE_MASK
    (slotMask x.slots fun s => s.lease != 0) c
  let d := match x.outSlot with
    | some (i, s) => ((d.setReg R.DCTX_OUT (2 ^ 31 + i) c).put R.DCTX_STATUS_IMPAIRED (s.pm.flags % 2) c).put
        R.DCTX_STATUS_FROZEN (b2n s.frozen) c
    | none => ((d.setReg R.DCTX_OUT 0 c).put R.DCTX_STATUS_IMPAIRED 0 c).put R.DCTX_STATUS_FROZEN 0 c
  d.put R.DCTX_STATUS_REFRESHING (b2n x.cycle.isSome) c

/-! ### Pools of slots -/

/-- The reception entry of a module and context. -/
def Dev.recvOf (d : Dev) (m c : Nat) : Option (Nat × Recv) :=
  d.sys.recvs.find? fun e => e.2.module == m && e.2.context == c && !e.2.gone

/-- The pool a layer latches from (R152). -/
def Dev.poolOf (d : Dev) (w : List Nat) : Option Pool :=
  match ldType w with
  | 0 => some (.ctx (ldF w 5 7 0))
  | 3 => (d.recvOf (ldF w 5 24 16) (ldF w 5 7 0)).map fun e => .recv e.1
  | 4 => some (.wb (ldF w 5 4 0))
  | _ => none

/-- Slots of a pool. -/
def Dev.poolSlots (d : Dev) : Pool → Tab PicSlot
  | .ctx c => (d.dctx c).slots
  | .recv r => ((tabGet? d.sys.recvs r).map (·.slots)).getD []
  | .wb h => (d.head h).bufs

/-- Change a slot of a pool. -/
def Dev.updSlot (d : Dev) (p : Pool) (i : Nat) (f : PicSlot → PicSlot) : Dev :=
  match p with
  | .ctx c => d.setDctx c ((d.dctx c).setSlot i (f ((d.dctx c).slot i)))
  | .recv r =>
    match tabGet? d.sys.recvs r with
    | none => d
    | some x => { d with sys := { d.sys with recvs := tabPut d.sys.recvs r { x with
        slots := tabUpd x.slots PicSlot.free i f } } }
  | .wb h => d.setHead h { d.head h with bufs := tabUpd (d.head h).bufs PicSlot.free i f }

/-- A lease on a slot ends (R134). -/
def Dev.unlease (d : Dev) (p : Pool) (i : Nat) : Dev := d.updSlot p i fun s => { s with lease := s.lease - 1 }

/-- A lease on a slot ends; a leased buffer of an earlier writeback ring goes with its last lease (R228), and so does a
cleared reception pool (R317). -/
def Dev.dropLease (d : Dev) (p : Pool) (i : Nat) : Dev :=
  let d := d.unlease p i
  match p with
  | .wb h =>
    if i < (d.head h).wbKey && (tabGetD (d.head h).bufs PicSlot.free i).lease = 0 then
      d.setHead h { d.head h with bufs := tabDel (d.head h).bufs i }
    else d
  | .recv r =>
    match tabGet? d.sys.recvs r with
    | some x =>
      if x.gone && x.slots.all fun s => s.2.lease == 0 then
        { d with sys := { d.sys with recvs := tabDel d.sys.recvs r } }
      else d
    | none => d
  | _ => d

/-! ### Canvas layers, holds and skew (R202 to R204) -/

/-- Whether a layer is a canvas layer: LIVE, STREAM or REMOTE, in a member group. -/
def Dev.isCanvas (d : Dev) (w : List Nat) : Bool :=
  ldRole w == 0 && (ldType w == 0 || ldType w == 3) && d.on R.GRP_CANVAS_MEMBER (d.headGroup (ldHead w))

/-- Current canvas layers that show a pool. -/
def Dev.canvasOn (d : Dev) (p : Pool) : List Nat :=
  d.curLayers.filter fun l => d.isCanvas (d.curLd l) && d.poolOf (d.curLd l) == some p

/-- The last latch of a canvas layer is skewed (R204): counted once. -/
def Dev.skewed (d : Dev) (l : Nat) : Dev :=
  let x := d.layerSt l
  let d := d.setLayerSt l { x with counted := true, skews := true :: x.skews.drop 1 }
  ((d.bump R.HEAD_SKEW_COUNT_COUNT (ldHead (d.curLd l))).put R.LAYER_STATUS_SPAN_SKEW 1 l).info .spanSkew 0x4FFF l

/-- A picture completes in a pool (R203, R204): a canvas hold while a canvas layer shows the pool, and the skew of a latch
that it should have served. -/
def Dev.canvasPicture (d : Dev) (p : Pool) (i : Nat) : Dev :=
  let ls := d.canvasOn p
  if ls.isEmpty then d
  else
    let capt := (tabGetD (d.poolSlots p) PicSlot.free i).pm.capt
    let d := d.updSlot p i fun s => { s with lease := s.lease + 1 }
    let d := { d with comp := { d.comp with holds := d.comp.holds ++ [⟨p, i⟩] } }
    ls.foldl (fun d l =>
      match (d.layerSt l).limit, (d.layerSt l).lastCapt with
      | some lim, some c => if !(d.layerSt l).counted && later 48 capt c && !later 48 capt lim then d.skewed l else d
      | _, _ => d) d

/-- A canvas hold ends. -/
def Dev.endHold (d : Dev) (h : Hold) : Dev :=
  ({ d with comp := { d.comp with holds := d.comp.holds.filter (· != h) } }).unlease h.pool h.slot

/-- The oldest picture of a pool that only a canvas hold keeps (R203). -/
def Dev.holdOnly (d : Dev) (p : Pool) : Option Hold :=
  d.comp.holds.find? fun h =>
    let s := tabGetD (d.poolSlots p) PicSlot.free h.slot
    h.pool == p && !s.isRef && !s.out && !s.writing && s.lease == 1

/-- The hold that keeps a pool from having a FREE slot ends, and its CAPT is recorded (R203). -/
def Dev.makeRoom (d : Dev) (p : Pool) (full : Bool) : Dev :=
  if !full then d
  else match d.holdOnly p with
    | none => d
    | some h =>
      let c := (tabGetD (d.poolSlots p) PicSlot.free h.slot).pm.capt
      ((d.canvasOn p).foldl (fun d l => d.setLayerSt l { d.layerSt l with lostCapt := some c }) d).endHold h

end Sys2Proof.Machine
end

