-- ==== Sys2Proof/Machine/Host.lean ====
section
/-! DEFINITION. The host interface (02): PCI Express, queues, command entries, completions, fences, and the common
commands. -/

namespace Sys2Proof.Machine

/-! ### PCI Express and BAR2 -/

/-- Whether the host interface can answer: logic powered and not held in reset, and CD-HOST's clock present (R11). -/
def Dev.hostAlive (d : Dev) : Bool := d.pwr.logicOn && !d.pwr.mrstLow && d.clockOn 6

/-- Set the response to the host. -/
def Dev.respond (d : Dev) (r : Response) : Dev := { d with host := { d.host with resp := r } }

/-- A host write to a register that has a row of its own: nothing in a closed or reset module (R65), an error response
where the block's edge domain has no clock (R12, R24), otherwise its effect. -/
def Dev.gated (d : Dev) (off : Nat) (f : Dev → Dev) : Dev :=
  if !d.hostAlive || d.offClosed off then d
  else if d.offDown off then d.respond .error
  else f d

/-- The registers whose host writes are mirrored (R351): fences, time and reference settings, the flow table, frozen runs,
layer descriptor shadows, staged head settings, tasters, ENC_CTRL, and the operator I/O settings. -/
def mirrored (off : Nat) : Bool :=
  let within : Nat → Nat → Bool := fun lo hi => lo ≤ off && off < hi
  within 0x180000 0x181000 || off == 0x300014 || off == 0x3000B4 || within 0x3000C0 0x3000D4 || off == 0x380004 ||
    (within 0x380100 0x380280 && off % 0x20 ≤ 4) || within 0x410000 0x420000 ||
    (within 0x610000 0x614000 && off % 0x40 == 0xC) || (within 0x620000 0x624000 && off % 0x40 == 4) ||
    (within 0x800000 0x900000 && off % 0x100 < 0x60) ||
    (within 0x900000 0x902000 && [0, 0x40, 0x48, 0x50, 0x58, 0x5C, 0x60].contains (off % 0x100)) ||
    (within 0xA10000 0xA30000 && off % 0x80 < 0x2C) || (within 0x1000000 0x1002000 && off % 0x1000 ≤ 0x20) ||
    off == 0x1004000 || within 0x1004010 0x1004050 || off == 0x1006004 || off == 0x1006008

/-- A host write to a register, by its offset and value: ignored with an event where it is mirrored and this unit follows
its partner, and otherwise performed and mirrored (R351). -/
def Dev.hostEffect (d : Dev) (off : Nat) (v : Word) (f : Dev → Dev) : Dev :=
  if !mirrored off then f d
  else if d.follows then d.info .mirrorIgnored 0x9FFF off v.toNat
  else (f d).mirror (.regWrite off v)

/-- A host write to a mirrored register that has a row of its own. -/
def Dev.gatedM (d : Dev) (off : Nat) (v : Word) (f : Dev → Dev) : Dev := d.gated off fun d => d.hostEffect off v f

/-- A configuration request is answered in every boot phase (R63, R65); writes take the effects of R21. -/
def cfgRequest (r : CfgRequest) (d : Dev) : Dev :=
  if !d.hostAlive then d
  else match r with
    | .read reg => d.respond (.data (leBytes 4 (Config.cfgSpace reg).toNat))
    | .busMaster on => { d with host := { d.host with busMaster := on, resp := .ok } }
    | .bar2Size n =>
      if 30 ≤ n && n ≤ 36 then { d with host := { d.host with bar2Log2 := n, resp := .ok } } else d.respond .ok
    | .power h => { d with host := { d.host with d3hot := h, resp := .ok } }
    | .other _ _ => d.respond .ok

def execPcieConfigRequest (t : Nat) (r : CfgRequest) (s : State) : Host.Outcome State Fault Refusal :=
  s.onDev t (cfgRequest r)

/-- Physical address of a BAR2 offset (R23): BAR2_OFFSET holds PA[35:10]. -/
def Dev.bar2Pa (d : Dev) (off : Nat) : Nat := d.get R.BAR2_OFFSET_OFFSET * 1024 + off

/-- A BAR2 read at an open checker (R23, R371, R389). -/
def bar2ReadNow (off len : Nat) (x : Dev × Mem) : Dev × Mem :=
  let (d, bs, ds, ps) := checkedRead x.1 x.2 0 0 (x.1.bar2Pa off) len
  (d.respond (if !ds.isEmpty then .completerAbort else if !ps.isEmpty then .poisoned else .data bs), x.2)

/-- A BAR2 read: outside the window an error, at a closed checker a wait (R391), otherwise served or refused. -/
def bar2Read (off len : Nat) (x : Dev × Mem) : Dev × Mem :=
  if !x.1.hostAlive then x
  else if 2 ^ x.1.host.bar2Log2 < off + len then (x.1.respond .error, x.2)
  else if x.1.chkClosed 0 then ((x.1.respond .none).waitAt 0 (.bar2Read off len), x.2)
  else bar2ReadNow off len x

def execBar2Read (t off len : Nat) (s : State) : Host.Outcome State Fault Refusal := s.onAll t (bar2Read off len)

/-- Lines that a write touches only in part and that are poisoned: the write to them is dropped (R371). -/
def droppedLines (d : Dev) (m : Mem) (a n : Nat) : List Nat :=
  (poisonedIn d m a n).filter fun l => !(a ≤ l * 64 && l * 64 + 64 ≤ a + n)

/-- A BAR2 write at an open checker (R23, R371, R388). -/
def bar2WriteNow (off : Nat) (bytes : List Byte) (x : Dev × Mem) : Dev × Mem :=
  let pa := x.1.bar2Pa off
  let dropped := droppedLines x.1 x.2 pa bytes.length
  let (d, m, _) := checkedWrite x.1 x.2 0 0 pa bytes
  (if dropped.isEmpty then d else d.info .bar2PoisonWrite 0x7FFF (pa % 2 ^ 32) (pa / 2 ^ 32), m)

/-- A posted BAR2 write (R23). -/
def bar2Write (off : Nat) (bytes : List Byte) (x : Dev × Mem) : Dev × Mem :=
  if !x.1.hostAlive || 2 ^ x.1.host.bar2Log2 < off + bytes.length then x
  else if x.1.chkClosed 0 then (x.1.waitAt 0 (.bar2Write off bytes), x.2)
  else bar2WriteNow off bytes x

def execBar2Write (t off : Nat) (bytes : List Byte) (s : State) : Host.Outcome State Fault Refusal :=
  s.onAll t (bar2Write off bytes)

/-- A write of BAR2_OFFSET takes effect only when the address is a multiple of the BAR2 size (R23). -/
def bar2OffsetWrite (v : Word) (d : Dev) : Dev :=
  if bits v.toNat 31 6 * 1024 % 2 ^ d.host.bar2Log2 = 0 then d.put R.BAR2_OFFSET_OFFSET (bits v.toNat 31 6) else d

def execBar2OffsetWrite (t : Nat) (v : Word) (s : State) : Host.Outcome State Fault Refusal :=
  s.onDev t (·.gated 0x48 (bar2OffsetWrite v))

/-! ### Queue state -/

/-- Whether a completed command's completion counts as held (R28, R490). -/
def Dev.isHeld (d : Dev) (q : Nat) : Bool := (d.queue q).holding || d.cqFull q

/-- DRAINING ends when no accepted command is left without its completion written or held (R27, R490). -/
def Dev.drainCheck (d : Dev) (q : Nat) : Dev :=
  let cs := (d.queue q).cmds
  if d.qState q = qDraining && (cs.isEmpty || (cs.all (fun c => c.st == .done) && d.isHeld q)) then
    (d.put R.Q_STATUS_STATE qDisabled q).setQueue q { d.queue q with holding := true }
  else d

/-- Write the completion of the oldest accepted command if it has completed and may be written (R28, R29, R490):
the entry goes to host memory, Q_DONE_SEQ advances, MSI-X follows as due, and then the release fence is signalled. -/
def Dev.writeFront (d : Dev) (q : Nat) : Option Dev :=
  match (d.queue q).cmds with
  | [] => none
  | c :: rest =>
    match c.out with
    | none => none
    | some o =>
      if c.st != .done || c.awaiting || !d.cqOpen q then none
      else if !d.host.busMaster then
        some ((d.queueErr q 4).setQueue q { d.queue q with holding := true })
      else
        let st := o.status + (if c.entryErr then 2 ^ 14 else 0)
        let e := entryBytes c.seq c.opcode st o.reason o.detail (d.get R.Q_STATUS_SQ_HEAD q) o.source c.ctime o.result
        let d := (d.ringPut q e c.notify).setCmds q rest
        let d := d.mirror (.written q c.seq (d.queue q).cqTail (d.queue q).phase)
        let d := if c.entryErr then d else d.setReg R.Q_DONE_SEQ c.seq q
        some (if c.relEn && c.badField ≠ some 16 then d.fenceTo c.relFence c.relValue else d)

/-- Write completions in acceptance order while they can be written; `fuel` bounds their number. -/
def Dev.flush : Nat → Dev → Nat → Dev
  | 0, d, _ => d
  | n + 1, d, q =>
    match d.writeFront q with
    | some d' => Dev.flush n d' q
    | none => d

/-- Write everything that is held on a queue, in order (R27, R28, R490). -/
def Dev.flushQueue (d : Dev) (q : Nat) : Dev :=
  if q = evQ then d.flushRecords (d.queue q).records.length else (d.flush (d.queue q).cmds.length q).flushHeld

/-- The Q_CTRL fields other than ENABLE take writes only while ENABLE is 0; queue 16 has no SQ_LOG2 (R26). -/
def Dev.qCtrlFields (d : Dev) (q : Nat) (v : Word) : Dev :=
  if d.on R.Q_CTRL_ENABLE q then d
  else
    let keep := if q = evQ then 0x00F0FFFF else 0x0FF0FFFF
    d.setReg R.Q_CTRL (v.toNat &&& keep) q

/-- Whether a queue's sizes are valid (R26, R27). -/
def Dev.qConfigOk (d : Dev) (q : Nat) : Bool :=
  let a := d.get R.Q_CTRL_SQ_LOG2 q
  let b := d.get R.Q_CTRL_CQ_LOG2 q
  4 ≤ b && b ≤ 12 && (q == evQ || (4 ≤ a && a ≤ 12 && a ≤ b))

/-- Q_CTRL written with ENABLE 1 (R27). -/
def queueEnable (q : Nat) (v : Word) (d : Dev) : Dev :=
  if q > evQ then d
  else
    let was := d.on R.Q_CTRL_ENABLE q
    let d := d.qCtrlFields q v
    if d.qState q ≠ qDisabled || was then d
    else if d.qConfigOk q then
      let d := ((d.put R.Q_CTRL_ENABLE 1 q).put R.Q_STATUS_STATE qRunning q).put R.Q_STATUS_SQ_HEAD 0 q
      let d := d.setQueue q { d.queue q with
        sqTail := 0, cqHead := 0, cqTail := 0, phase := true, coal := 0, holding := false }
      d.flushQueue q
    else
      (d.put R.Q_STATUS_STATE qError q).put R.Q_STATUS_ERR 1 q

def execQueueEnable (t q : Nat) (v : Word) (s : State) : Host.Outcome State Fault Refusal :=
  s.onDev t (·.gated 0x100000 (queueEnable q v))

/-- Opcodes whose command starts only when its commit applies at B(N) (R27). -/
def isCommitOp (op : Nat) : Bool := op == 0x0800 || op == 0x0801

/-- DMA commands, which start with their first write (R27). -/
def isDmaOp (op : Nat) : Bool := op == 0x0003 || op == 0x0004

/-- Whether a drain leaves a command to run: it has started, its domain having acted on it (R27). A DMA command's first
write and its end are one command of the block, so one that is not done has written nothing. -/
def Cmd.running (c : Cmd) : Bool :=
  c.st == .done || c.st == .forwarded || (c.st == .started && !isCommitOp c.opcode && !isDmaOp c.opcode)

/-- Complete every accepted command that has not started with ABANDONED, in order (R27). -/
def Dev.abandon (d : Dev) (q : Nat) (p : Cmd → Bool) : Dev :=
  ((d.queue q).cmds.filter p).foldl (fun d c => d.finish q c.seq Status.abandoned) d

/-- Q_CTRL written with ENABLE 0 (R27). -/
def queueDisable (q : Nat) (v : Word) (d : Dev) : Dev :=
  if q > evQ then d
  else
    let was := d.on R.Q_CTRL_ENABLE q
    let d := d.qCtrlFields q v
    if d.qState q = qRunning || d.qState q = qError then
      let d := ((d.put R.Q_CTRL_ENABLE 0 q).put R.Q_STATUS_STATE qDraining q).put R.Q_STATUS_ERR 0 q
      (d.abandon q fun c => !c.running).drainCheck q
    else if was then d.put R.Q_CTRL_ENABLE 0 q else d

def execQueueDisable (t q : Nat) (v : Word) (s : State) : Host.Outcome State Fault Refusal :=
  s.onDev t (·.gated 0x100000 (queueDisable q v))

/-- SQ_TAIL_DB (R25, R27): a new tail, or BAD_DOORBELL; queue 16 has none. -/
def sqDoorbell (q : Nat) (v : Word) (d : Dev) : Dev :=
  if q ≥ evQ || d.qState q ≠ qRunning then d
  else if 2 ^ d.get R.Q_CTRL_SQ_LOG2 q ≤ v.toNat then d.queueErr q 2
  else d.setQueue q { d.queue q with sqTail := v.toNat }

def execSqTailDoorbell (t q : Nat) (v : Word) (s : State) : Host.Outcome State Fault Refusal :=
  s.onDev t (·.gated 0x110000 (sqDoorbell q v))

/-- CQ_HEAD_DB (R28): slots are released, and held completions and records are written as space frees. -/
def cqDoorbell (q : Nat) (v : Word) (d : Dev) : Dev :=
  if q > evQ || d.qState q = qDisabled then d
  else if d.cqSize q ≤ v.toNat then d.queueErr q 2
  else (((d.setQueue q { d.queue q with cqHead := v.toNat }).flushQueue q).drainCheck q)

def execCqHeadDoorbell (t q : Nat) (v : Word) (s : State) : Host.Outcome State Fault Refusal :=
  s.onDev t (·.gated 0x110000 (cqDoorbell q v))

/-! ### Host reads and writes (R22) -/

/-- The host answers a read: of a submission entry (only a refusal acts here; its data is COMMAND_ENTRY_FETCHED), or
of a command's data. -/
def hostReadCompletion (q : Nat) (seq : Option Nat) (a : HostAnswer) (d : Dev) : Dev :=
  match seq, a with
  | none, .refused => d.queueErr q 4
  | none, .data _ _ => d
  | some n, .refused =>
    match d.cmd? q n with
    | some c => if c.st == .started then (d.feedFailed q n 0x0E06).finish q n Status.accessDenied 0x0E06 else d
    | none => d
  | some n, .data bs ps =>
    (if (d.cmd? q n).any fun c => c.st == .started then d.mirror (.params q n bs ps) else d).updCmd q n fun c =>
      if c.st == .started then
        { c with hostData := some (match c.hostData with
          | none => (bs, ps)
          | some (b0, p0) => (b0 ++ bs, p0 ++ ps.map (· + b0.length / 64))) }
      else c

def execHostReadCompletion (t q : Nat) (seq : Option Nat) (a : HostAnswer) (s : State) :
    Host.Outcome State Fault Refusal := s.onDev t (hostReadCompletion q seq a)

/-- No completion within 50 ms (R22). -/
def hostReadTimeout (q : Nat) (seq : Option Nat) (d : Dev) : Dev :=
  match seq with
  | none => d.queueErr q 3
  | some n =>
    match d.cmd? q n with
    | some c => if c.st == .started then (d.feedFailed q n 0).finish q n Status.timeout else d
    | none => d

def execHostReadTimeout (t q : Nat) (seq : Option Nat) (s : State) : Host.Outcome State Fault Refusal :=
  s.onDev t (hostReadTimeout q seq)

/-- A write not issued within 50 ms (R22); of a completion or record, R490 holds it and all later ones. -/
def hostWriteTimeout (w : HostWrite) (d : Dev) : Dev :=
  match w with
  | .command q n =>
    match d.cmd? q n with
    | some c => if c.st == .started then (d.feedFailed q n 0).finish q n Status.timeout else d
    | none => d
  | .ring q denied =>
    let d := d.queueErr q (if denied then 4 else 3)
    (d.setQueue q { d.queue q with holding := true }).drainCheck q

def execHostWriteTimeout (t : Nat) (w : HostWrite) (s : State) : Host.Outcome State Fault Refusal :=
  s.onDev t (hostWriteTimeout w)

/-! ### Command entries -/

/-- A fetched entry against Q_EXP_SEQ (R30): accepted, consumed as a duplicate, or an entry error. -/
def entryFetched (q : Nat) (e : List Byte) (d : Dev) : Dev :=
  let s := d.queue q
  let w := 2 ^ d.get R.Q_CTRL_SQ_LOG2 q
  let head := d.get R.Q_STATUS_SQ_HEAD q
  if q ≥ evQ || d.qState q ≠ qRunning || head = s.sqTail || d.cqFull q || !d.host.busMaster || !d.queueActs || !d.clockOn 6 then d
  else
    let d := d.put R.Q_STATUS_SQ_HEAD ((head + 1) % w) q
    let exp := d.reg R.Q_EXP_SEQ q
    let df := sdiff 32 (leAt e 0 4) exp
    let c := Cmd.ofEntry e d.host.accepted
    if df = 0 then
      let d := (d.setReg R.Q_EXP_SEQ (exp + 1) q).setQueue q { s with cmds := s.cmds ++ [c] }
      { d with host := { d.host with accepted := d.host.accepted + 1 } }.mirror (.accepted q head e)
    else if -(w : Int) ≤ df ∧ df < 0 then d.bump R.Q_DUP_COUNT_COUNT q
    else
      let err : Cmd := { c with
        st := .done, entryErr := true, relFence := 0, flags := 0, ctime := d.wt48, badField := none,
        out := some ⟨Status.seqError, 0, 0, d.moduleId, exp⟩ }
      ((d.setQueue q { s with cmds := s.cmds ++ [err] }).queueErr q 5)

def execCommandEntryFetched (t q : Nat) (entry : List Byte) (s : State) : Host.Outcome State Fault Refusal :=
  s.onDev t (entryFetched q entry)

/-- The opcodes of the command set (02 to 22). -/
def knownOpcodes : List Nat :=
  [0x0000, 0x0001, 0x0002, 0x0003, 0x0004, 0x0005, 0x0006, 0x0200, 0x0201, 0x0202, 0x0203, 0x0204, 0x0205,
   0x0300, 0x0301, 0x0400, 0x0401, 0x0402, 0x0403, 0x0600, 0x0601, 0x0610, 0x0611, 0x0612, 0x0800, 0x0801, 0x0802,
   0x0900, 0x0901, 0x0902, 0x0B00, 0x0B01, 0x0F00, 0x0F01, 0x0F02, 0x1000, 0x1001, 0x1002, 0x1100, 0x1101,
   0x1110, 0x1111, 0x1112, 0x1200, 0x1201, 0x1202, 0x1203, 0x1204]

/-- The boot phase from which the domain of an opcode takes commands (R63, R65; log 10). -/
def opPhase (op : Nat) : Nat :=
  match op / 256 with
  | 0x03 => phaseTime
  | 0x04 => phaseTime
  | 0x06 => phaseTime
  | 0x08 => phaseRunning
  | 0x09 => phaseOutputs
  | 0x0B => phaseTime
  | 0x0F => phaseTime
  | 0x10 => phaseTime
  | 0x12 => phaseTime
  | _ => phaseConfigure

/-- The management core that runs the agent of an opcode's domain (01). -/
def opCore (op : Nat) : Option Nat :=
  match op / 256 with
  | 0x00 => some 0
  | 0x02 => some 0
  | 0x03 => some 0
  | 0x04 => some 1
  | 0x06 => some 1
  | 0x08 => some 2
  | 0x09 => some 2
  | 0x0B => some 3
  | 0x10 => some 3
  | 0x12 => some 3
  | _ => none

/-- The edge domain an opcode needs (R12; log 9). -/
def opDomain (op : Nat) : Option Nat :=
  match op / 256 with
  | 0x03 => some 0
  | 0x04 => some 1
  | 0x09 => if op = 0x0900 then none else some 2
  | _ => none

/-- STATE of a management core. -/
def Dev.coreState (d : Dev) (n : Nat) : Nat :=
  match n with
  | 0 => d.get R.MGMT_CORE_STATUS_STATE0
  | 1 => d.get R.MGMT_CORE_STATUS_STATE1
  | 2 => d.get R.MGMT_CORE_STATUS_STATE2
  | _ => d.get R.MGMT_CORE_STATUS_STATE3

/-- Whether PRIMARY or FAILOVER reaches a module (R308, R309). -/
def Dev.routed (d : Dev) (m : Nat) : Bool :=
  d.on R.ROUTE_VALID m && (!d.on R.ROUTE_ON_FAILOVER m || d.get R.ROUTE_FAILOVER m != 7)

/-- Start a waiting command whose turn and fence have come (R35): entry errors, MAINTENANCE, absent clocks and missing
routes complete it; a REMOTE command is forwarded (R19, R32, R429); otherwise its domain takes it. -/
def startNow (q seq : Nat) (c : Cmd) (d : Dev) : Dev :=
  match c.badField with
  | some off => d.finish q seq Status.invalidField off
  | none =>
    if c.remote && c.target ≠ d.moduleId then
      if !d.routed c.target then d.finish q seq Status.noRoute
      else if (d.queue q).cmds.any (fun x => x.st == .forwarded) then d
      else
        let d := d.updCmd q seq fun c => { c with st := .forwarded, ctime := d.wt48 }
        { d with host := { d.host with forwards := (q, c) :: d.host.forwards } }
    else if !knownOpcodes.contains c.opcode then d.finish q seq Status.invalidOpcode
    else if d.phase = phaseMaintenance && !(c.opcode / 256 == 0 || c.opcode / 256 == 2) then
      d.finish q seq Status.domainDown
    else if (match opDomain c.opcode with | some n => !d.clockOn n | none => false) then
      d.finish q seq Status.domainDown
    else if d.phase ≠ phaseMaintenance && d.phase < opPhase c.opcode then d
    else if (match opCore c.opcode with | some n => decide (2 ≤ d.coreState n) | none => false) then d
    else d.updCmd q seq fun c => { c with st := .started, ctime := d.wt48 }

/-- Whether a command is the first of its queue that has not started; a commit has started once it has applied (R27,
R35, R154). -/
def isNext (cs : List Cmd) (seq : Nat) : Bool :=
  match cs.find? (fun c => !c.running) with
  | some c => c.seq == seq
  | none => false

/-- COMMAND_START (R35): the first waiting command of the queue starts when its acquire fence is reached and its
deadline has not passed. A commit of this module waits for its fence in its group's order instead (R155). -/
def commandStart (q seq : Nat) (d : Dev) : Dev :=
  match d.cmd? q seq with
  | none => d
  | some c =>
    if c.st != .waiting || !isNext (d.queue q).cmds seq then d
    else if c.badField.isNone && c.acqEn && (!isCommitOp c.opcode || (c.remote && c.target ≠ d.moduleId)) &&
      !d.fenceReached c.acqFence c.acqValue then d
    else if c.deadline ≠ 0 && later 48 d.wt48 c.deadline then d
    else startNow q seq c d

def execCommandStart (t q seq : Nat) (s : State) : Host.Outcome State Fault Refusal := s.onDev t (commandStart q seq)

/-- Whether a commit has left QUEUED: its deadline is then judged by its frame alone (R155, R163). -/
def Dev.commitBusy (d : Dev) (q seq : Nat) : Bool :=
  (d.lay.commits.any fun c => c.q == q && c.seq == seq && c.st != .queued) ||
    d.lay.runs.any fun r => r.q == q && r.seq == seq

/-- COMMAND_DEADLINE (R35): a command that has not started when its deadline passes completes with DEADLINE. -/
def commandDeadline (q seq : Nat) (d : Dev) : Dev :=
  match d.cmd? q seq with
  | none => d
  | some c =>
    if c.deadline ≠ 0 && !c.running && !later 48 c.deadline d.wt48 && !d.commitBusy q seq then
      d.finish q seq Status.deadline
    else d

def execCommandDeadline (t q seq : Nat) (s : State) : Host.Outcome State Fault Refusal :=
  s.onDev t (commandDeadline q seq)

/-- COMPLETION_WRITE (R28, R29, R36): the oldest accepted command's completion is written, and a drain may end. -/
def completionWrite (q : Nat) (d : Dev) : Dev :=
  match d.writeFront q with
  | some d' => (d'.drainCheck q).flushHeld
  | none => d.drainCheck q

def execCompletionWrite (t q : Nat) (s : State) : Host.Outcome State Fault Refusal := s.onDev t (completionWrite q)

/-- A host write of FENCE_VAL (R34). -/
def fenceWrite (f : Nat) (v : Word) (d : Dev) : Dev := if f < 1024 then d.fenceTo f v.toNat else d

def execFenceWrite (t f : Nat) (v : Word) (s : State) : Host.Outcome State Fault Refusal := s.onDev t (·.gatedM (R.FENCE_VAL.off f 0) v (fenceWrite f v))

/-! ### Common commands -/

/-- NOP (R33): RESULT 0. -/
def nop (q seq : Nat) (d : Dev) : Dev :=
  d.onCmd q seq 0x0000 fun c d => d.withTail q seq c 0 fun d => d.succeed q seq 0

def execNop (t q seq : Nat) (s : State) : Host.Outcome State Fault Refusal := s.onDev t (nop q seq)

/-- Whether every command accepted before `order`, on any queue, has completed (R35). -/
def Dev.allDoneBefore (d : Dev) (order : Nat) : Bool :=
  d.host.queues.all fun e => e.1 ≥ 32 || e.2.cmds.all fun c => c.order ≥ order || c.st == .done

/-- SYNC (R35): completes once every command accepted before it on any queue has completed. -/
def sync (q seq : Nat) (d : Dev) : Dev :=
  d.onCmd q seq 0x0001 fun c d => d.withTail q seq c 0 fun d =>
    if d.allDoneBefore c.order then d.succeed q seq 0 else d

def execSync (t q seq : Nat) (s : State) : Host.Outcome State Fault Refusal := s.onDev t (sync q seq)

/-- FENCE_SIGNAL (R34): fence (2 bytes), value (4 bytes); RESULT is the fence after the signal. -/
def fenceSignal (q seq : Nat) (d : Dev) : Dev :=
  d.onCmd q seq 0x0002 fun c d => d.withTail q seq c 6 fun d =>
    if 1024 ≤ c.p 0 2 then d.bad q seq 0
    else
      let d := d.fenceTo (c.p 0 2) (c.p 2 4)
      d.succeed q seq (d.reg R.FENCE_VAL (c.p 0 2))

def execFenceSignal (t q seq : Nat) (s : State) : Host.Outcome State Fault Refusal := s.onDev t (fenceSignal q seq)

/-- Checker that a command's DRAM accesses pass: DMA for this module's queues, PAENT for another's (R383). -/
def cmdChecker (q : Nat) : Nat := if q < 32 then 4 else 3

/-- MASTER of a command's accesses: the queue, or the source module (R396). -/
def cmdMaster (q : Nat) : Nat := if q < 32 then q else (q - 32) / 16

/-- How a DMA command ends (R389, R425): the failure at the lower offset, a denial on a tie. -/
def dmaEnd (q seq n : Nat) (ds : List (Nat × Denial)) (poison : Option Nat) (d : Dev) : Dev :=
  match ds.head?, poison with
  | none, none => d.succeed q seq n
  | some (_, e), none => d.finish q seq Status.accessDenied e.reason (n - ds.length)
  | none, some p => d.finish q seq Status.poisoned 0 p
  | some (i, e), some p =>
    if i ≤ p then d.finish q seq Status.accessDenied e.reason (n - ds.length)
    else d.finish q seq Status.poisoned 0 p

/-- Offset of the first byte of an access from `pa` that lies in one of the lines. -/
def firstOffset (pa : Nat) (lines : List Nat) : Option Nat :=
  (lines.map fun l => l * 64 - pa).min?

/-- Merge two rising lists of denials, the first one's winning at one offset. -/
def mergeDenials (a b : List (Nat × Denial)) : List (Nat × Denial) :=
  (a ++ b.filter fun e => !a.any fun f => f.1 == e.1).mergeSort fun x y => x.1 ≤ y.1

/-- DMA_FILL (R36, R38): the pattern is written from the destination on. -/
def dmaFill (q seq : Nat) (x : Dev × Mem) : Dev × Mem :=
  onCmdMem x.1 x.2 q seq 0x0004 fun c d m =>
    if !c.tailZero 16 then (d.withTail q seq c 16 id, m)
    else
      let dst := c.p 0 8
      let n := c.p 8 4
      let bs := (List.range n).map fun i => BitVec.ofNat 8 (c.p 12 4 / 256 ^ (i % 4) % 256)
      if n = 0 then (d.succeed q seq 0, m)
      else if dst < 2 ^ 63 then
        (if d.host.busMaster then (d.hostPut dst bs).succeed q seq n else d.finish q seq Status.accessDenied 0x0E06, m)
      else if !d.boot.memoryUp then (if d.phase = phaseMaintenance then d.finish q seq Status.domainDown else d, m)
      else if d.chkClosed (cmdChecker q) then (d.waitAt (cmdChecker q) (.cmd q seq true (dst - 2 ^ 63)), m)
      else
        let pa := dst - 2 ^ 63
        let dropped := firstOffset pa (droppedLines d m pa n)
        let (d, m, ds) := checkedWrite d m (cmdChecker q) (cmdMaster q) pa bs
        (dmaEnd q seq n ds dropped d, m)

def execDmaFill (t q seq : Nat) (s : State) : Host.Outcome State Fault Refusal := s.onAll t (dmaFill q seq)

/-- The destination lines that a copy writes as poison: those holding bytes of a poisoned source line (R425). -/
def poisonTargets (src dst n : Nat) (lines : List Nat) (denied : List Nat) : List Nat :=
  ((List.range n).filter fun i => lines.contains ((src + i) / 64) && !denied.contains i).map (fun i => (dst + i) / 64)
    |>.eraseDups

/-- DMA_COPY (R36, R388, R425): bytes between host memory and DRAM; denied source bytes are copied as 0, and poisoned
source lines make poison at the destination. -/
def dmaCopy (q seq : Nat) (x : Dev × Mem) : Dev × Mem :=
  onCmdMem x.1 x.2 q seq 0x0003 fun c d m =>
    if !c.tailZero 20 then (d.withTail q seq c 20 id, m)
    else
      let src := c.p 0 8
      let dst := c.p 8 8
      let n := c.p 16 4
      let k := cmdChecker q
      let dram := decide (2 ^ 63 ≤ src) || decide (2 ^ 63 ≤ dst)
      let host := decide (src < 2 ^ 63) || decide (dst < 2 ^ 63)
      if n = 0 then (d.succeed q seq 0, m)
      else if dram && !d.boot.memoryUp then
        (if d.phase = phaseMaintenance then d.finish q seq Status.domainDown else d, m)
      else if host && !d.host.busMaster then (d.finish q seq Status.accessDenied 0x0E06, m)
      else if dram && d.chkClosed k then (d.waitAt k
          (if 2 ^ 63 ≤ src then .cmd q seq false (src - 2 ^ 63) else .cmd q seq true (dst - 2 ^ 63)), m)
      else if src < 2 ^ 63 && c.hostData.isNone then (d, m)
      else
        let (d, bs, rds, rps) :=
          if 2 ^ 63 ≤ src then checkedRead d m k (cmdMaster q) (src - 2 ^ 63) n
          else match c.hostData with
            | some (b, ps) => (d, (List.range n).map (fun i => b.getD i 0), [], ps)
            | none => (d, [], [], [])
        let sbase := if 2 ^ 63 ≤ src then src - 2 ^ 63 else 0
        let rp := firstOffset sbase rps
        if dst < 2 ^ 63 then
          (dmaEnd q seq n rds rp (d.hostPut dst bs (!rps.isEmpty)), m)
        else
          let pa := dst - 2 ^ 63
          let wp := firstOffset pa (droppedLines d m pa n)
          let (d, m, wds) := checkedWrite d m k (cmdMaster q) pa bs
          let m := (poisonTargets sbase pa n rps (wds.map (·.1))).foldl Mem.setPoison m
          (dmaEnd q seq n (mergeDenials wds rds) ([rp, wp].filterMap id).min? d, m)

def execDmaCopy (t q seq : Nat) (s : State) : Host.Outcome State Fault Refusal := s.onAll t (dmaCopy q seq)

/-! ### Forwarded commands (R19, R32, R429) -/

/-- An owner receives a forwarded command: it runs once; a retry of a command already executed returns the recorded
outcome. Its fences are those of the submitting module, which has waited for the one and will signal the other (log 113). -/
def forwardedReceived (origin oq : Nat) (entry : List Byte) (d : Dev) : Dev :=
  let c := Cmd.ofEntry entry d.host.accepted
  let q := fwdQueue origin oq
  let key := if c.retry then c.origSeq else c.seq
  match d.host.fwdKept.find? (fun r => r.origin == origin && r.queue == oq && r.seq == key) with
  | some r => { d with host := { d.host with replies := { r with seq := c.seq } :: d.host.replies } }
  | none =>
    if (d.queue q).cmds.any (fun x => x.seq == key) then d
    else
      let d := d.setCmds q ((d.queue q).cmds ++ [{ c with flags := c.flags &&& 0x18 }])
      { d with host := { d.host with accepted := d.host.accepted + 1 } }

def execForwardedCommandReceived (t origin oq : Nat) (entry : List Byte) (s : State) :
    Host.Outcome State Fault Refusal := s.onDev t (forwardedReceived origin oq entry)

/-- The outcome returns and completes the local command (R32). -/
def forwardedOutcome (q seq : Nat) (o : FwdOutcome) (d : Dev) : Dev :=
  match d.cmd? q seq with
  | some c =>
    if c.st == .forwarded then d.complete q seq ⟨o.status, o.reason, o.detail, o.source, o.result⟩ else d
  | none => d

def execForwardedOutcome (t q seq : Nat) (o : FwdOutcome) (s : State) : Host.Outcome State Fault Refusal :=
  s.onDev t (forwardedOutcome q seq o)

/-- FWD_TIMEOUT passes without the outcome (R32). -/
def forwardTimeout (q seq : Nat) (d : Dev) : Dev :=
  match d.cmd? q seq with
  | some c =>
    if c.st == .forwarded && decide (d.get R.FWD_TIMEOUT_MS * 1000000 ≤ sdiff 48 d.wt48 c.ctime) then
      d.finish q seq Status.ownerUnreachable
    else d
  | none => d

def execForwardTimeout (t q seq : Nat) (s : State) : Host.Outcome State Fault Refusal :=
  s.onDev t (forwardTimeout q seq)

end Sys2Proof.Machine
end

