-- ==== Sys2Proof/Machine/RefSel.lean ====
section
/-! DEFINITION. Reference monitors, selection, pull and holdover (05). -/

namespace Sys2Proof.Machine

/-- A reference's settings in force and its monitors. -/
def Dev.refMon (d : Dev) (r : Nat) : RefMon := tabGetD d.ref.refs RefMon.init r

/-- Set a reference. -/
def Dev.setRefMon (d : Dev) (r : Nat) (m : RefMon) : Dev :=
  { d with ref := { d.ref with refs := tabSet d.ref.refs RefMon.init r m } }

/-- A candidate: qualified, not locked out (R97). -/
def Dev.candidate (d : Dev) (r : Nat) : Bool := d.on R.REF_STATUS_QUALIFIED r && !(d.refMon r).lockout

/-- The selector's choice (R97): FORCE_REF when it is a candidate, otherwise the lowest PRIORITY, then the lowest REF. -/
def Dev.choice (d : Dev) : Option Nat :=
  if d.ref.forceEn && d.candidate d.ref.forceRef then some d.ref.forceRef
  else ((List.range 12).filter d.candidate).foldl (fun best r =>
    match best with
    | none => some r
    | some b => if (d.refMon r).priority < (d.refMon b).priority then some r else best) none

/-- Phase period of a reference in ps, 0 for a numeric one (R93). -/
def Dev.phasePeriod (d : Dev) (r : Nat) : Nat :=
  if r = 0 then 100000
  else if r = 1 then 10000
  else if r < 6 then (if d.on R.ETH_CTRL_RATE (r - 2) then 2482 else 6206)
  else if r < 10 then 1333
  else 0

/-- Phase error at the start of a pull, within half a period (R100). -/
def Dev.pullError (d : Dev) (r : Nat) : Int :=
  let p := d.phasePeriod r
  if p = 0 then 0 else (Config.phaseError r d.now + p / 2) % p - p / 2

/-- REFSEL_STATUS.STATE values (R99). -/
def selFreeRun : Nat := 0
/-- LOCKED. -/
def selLocked : Nat := 1
/-- PULLING. -/
def selPulling : Nat := 2
/-- HOLDOVER. -/
def selHoldover : Nat := 3

/-- Bandwidth limit for a numeric reference (R103). -/
def Dev.bwLimited (d : Dev) (r : Nat) : Dev :=
  d.put R.REFSEL_STATUS_BW_LIMITED (b2n (decide (10 ≤ r) && decide (r < 12) && decide (4 < d.ref.loopBw)))

/-- Mean of a list of gate values, 0 when empty. -/
def meanOf (l : List Int) : Int := if l.isEmpty then 0 else l.sum / l.length

/-- Select a reference and start a pull from the present output phase (R99 to R101). -/
def Dev.startPull (d : Dev) (r : Nat) : Dev :=
  let e := d.pullError r
  let old := d.get R.REFSEL_STATUS_SELECTED
  let d := ((d.put R.REFSEL_STATUS_SELECTED r).bump R.REFSEL_STATUS_SWITCHES).info .refSwitch 0x1010 old r
  let st := if e = 0 then selLocked else selPulling
  let d := (d.put R.REFSEL_STATUS_STATE st).bwLimited r
  let d := d.setReg R.REFSEL_FREQ (ofSigned 32 (meanOf ((d.refMon r).gates.take 8)))
  { d with ref := { d.ref with pull := e, pullAt := d.now, lockedAt := if e = 0 then some d.now else none } }

/-- No candidate remains (R99, R102): hold the mean of the 60 s that ended 1 s before, or run at the OCXO's nominal. -/
def Dev.loseAll (d : Dev) : Dev :=
  let sel := d.get R.REFSEL_STATUS_SELECTED
  let d := (d.put R.REFSEL_STATUS_SELECTED 0xF).put R.REFSEL_STATUS_BW_LIMITED 0
  let held := meanOf (((d.refMon sel).gates.drop 1).take 60)
  let d := { d with ref := { d.ref with pull := 0, lockedAt := none } }
  if d.on R.REFSEL_STATUS_HOLDOVER_READY then
    ((d.put R.REFSEL_STATUS_STATE selHoldover).setReg R.REFSEL_FREQ (ofSigned 32 held)).info .refHoldover 0x1010 selHoldover
  else ((d.put R.REFSEL_STATUS_STATE selFreeRun).setReg R.REFSEL_FREQ 0).info .refHoldover 0x1010 selFreeRun

/-- One choice from the present candidates (R97 to R99). -/
def Dev.select (d : Dev) : Dev :=
  let d := d.put R.REFSEL_STATUS_FORCE_LOST (b2n (d.ref.forceEn && !d.candidate d.ref.forceRef))
  let st := d.get R.REFSEL_STATUS_STATE
  let active := st = selLocked || st = selPulling
  match d.choice with
  | some r => if active && d.get R.REFSEL_STATUS_SELECTED = r then d else d.startPull r
  | none => if active then d.loseAll else d

/-- A reference stops its wait-to-restore. -/
def Dev.stopWtr (d : Dev) (r : Nat) : Dev :=
  ((d.setRefMon r { d.refMon r with inSince := none }).put R.REF_STATUS_WTR_RUNNING 0 r).put R.REF_STATUS_WTR_LEFT 0 r

/-- The activity monitor trips (R94). -/
def refActivityLost (r : Nat) (d : Dev) : Dev :=
  if 12 ≤ r then d
  else (((d.put R.REF_STATUS_ACTIVE 0 r).put R.REF_STATUS_QUALIFIED 0 r).stopWtr r).select

def execRefActivityLost (t r : Nat) (s : State) : Host.Outcome State Fault Refusal := s.onDev t (refActivityLost r)

/-- Least-squares slope of gate values, newest first, in units of a gate value per second (R94). -/
def slopeOf (g : List Int) : Int :=
  let n : Int := g.length
  let xs := (List.range g.length).map fun (i : Nat) => n - 1 - (i : Int)
  let sx := xs.sum
  let sxx := (xs.map fun x => x * x).sum
  let sxy := ((xs.zip g).map fun p => p.1 * p.2).sum
  let den := n * sxx - sx * sx
  if den = 0 then 0 else (n * sxy - sx * g.sum) / den

/-- Whether a reference can be active: a numeric one needs its domain qualified (R94). -/
def Dev.refAlive (d : Dev) (r : Nat) : Bool :=
  if r = 10 then d.on R.WT_STATUS_TB0_QUAL else if r = 11 then d.on R.WT_STATUS_TB1_QUAL else true

/-- The slope that a gate gives: that of 64 gates, 0 before there are as many (R94). -/
def gateSlope (g : List Int) : Int := if g.length = 64 then slopeOf g else 0

/-- The last 64 gates with a new one. -/
def RefMon.gated (m : RefMon) (gate : Int) : List Int := (gate :: m.gates).take 64

/-- What a gate measures: the mean of 8 gates and the slope of 64 (R94). -/
def Dev.gateMeasured (d : Dev) (r : Nat) (g : List Int) (mean slope : Int) : Dev :=
  (((d.setRefMon r { d.refMon r with gates := g }).put R.REF_STATUS_ACTIVE 1 r).setReg R.REF_FREQ
    (ofSigned 32 mean) r).setReg R.REF_DRIFT (ofSigned 32 slope) r

/-- A slope beyond DRIFT_WARN sets DRIFT, with one event for each time it is set (R94). -/
def Dev.gateDrift (d : Dev) (r warn : Nat) (slope : Int) : Dev :=
  if warn ≠ 0 && warn * 10 < slope.natAbs && !d.on R.REF_STATUS_DRIFT r then
    (d.put R.REF_STATUS_DRIFT 1 r).info .refDrift (0x1020 + r) r
  else d

/-- REFSEL_FREQ follows the selected reference. -/
def Dev.gateFollowed (d : Dev) (r : Nat) (mean : Int) : Dev :=
  if d.get R.REFSEL_STATUS_SELECTED = r then d.setReg R.REFSEL_FREQ (ofSigned 32 mean) else d

/-- The wait-to-restore starts, or goes on (R95). -/
def Dev.gateWaits (d : Dev) (r : Nat) (m : RefMon) : Dev :=
  match m.inSince with
  | none => ((d.setRefMon r { d.refMon r with inSince := some d.now }).put R.REF_STATUS_WTR_RUNNING 1 r).put
      R.REF_STATUS_WTR_LEFT m.wtr r
  | some s => d.put R.REF_STATUS_WTR_LEFT (m.wtr - (d.now - s) / qS) r

/-- Qualification is judged (R95). -/
def Dev.gateJudged (d : Dev) (r : Nat) (m : RefMon) (mean : Int) (acc : Bool) : Dev :=
  if d.on R.REF_STATUS_QUALIFIED r then
    if m.reject * 1000 < mean.natAbs then ((d.put R.REF_STATUS_QUALIFIED 0 r).put R.REF_STATUS_REJECTED 1 r).select else d
  else if acc && m.priority ≠ 0 then d.gateWaits r m
  else d.stopWtr r

/-- A 1 s gate ends (R94, R95): mean of 8 gates, slope of 64, qualification judged. `gate` is in 0.001 ppb. -/
def refFreqGate (r : Nat) (gate : Int) (d : Dev) : Dev :=
  if 12 ≤ r || !d.on R.REFSEL_STATUS_MON_BASIS || !d.refAlive r then d
  else
    let m := d.refMon r
    let g := m.gated gate
    let mean := meanOf (g.take 8)
    let acc := decide (mean.natAbs ≤ m.accept * 1000)
    ((((d.gateMeasured r g mean (gateSlope g)).gateDrift r m.driftWarn (gateSlope g)).put R.REF_STATUS_IN_ACCEPT (b2n acc)
      r).gateFollowed r mean).gateJudged r m mean acc

def execRefFreqGate (t r : Nat) (gate : Int) (s : State) : Host.Outcome State Fault Refusal :=
  s.onDev t (refFreqGate r gate)

/-- The wait-to-restore completes (R95). -/
def refWtrExpiry (r : Nat) (d : Dev) : Dev :=
  let m := d.refMon r
  match m.inSince with
  | none => d
  | some s =>
    if r < 12 && d.on R.REF_STATUS_WTR_RUNNING r && d.on R.REF_STATUS_ACTIVE r && s + m.wtr * qS ≤ d.now then
      ((d.stopWtr r).put R.REF_STATUS_QUALIFIED 1 r).select
    else d

def execRefWtrExpiry (t r : Nat) (s : State) : Host.Outcome State Fault Refusal := s.onDev t (refWtrExpiry r)

/-- REFSEL_PULL as read (R100): the error still to be removed at PULL_SLOPE, in ps. -/
def Dev.pullLeft (d : Dev) : Int :=
  let gone : Nat := (d.now - d.ref.pullAt) * ((d.ref.pullSlope + 1) * 100) / qS
  if d.get R.REFSEL_STATUS_STATE ≠ selPulling then 0
  else if d.ref.pull.natAbs ≤ gone then 0
  else if 0 ≤ d.ref.pull then d.ref.pull - gone else d.ref.pull + gone

/-- The remaining pull error reaches 0 (R99, R100). -/
def pullComplete (d : Dev) : Dev :=
  if d.get R.REFSEL_STATUS_STATE = selPulling && d.pullLeft = 0 then
    { d with ref := { d.ref with pull := 0, lockedAt := some d.now } }.put R.REFSEL_STATUS_STATE selLocked
  else d

def execPullComplete (t : Nat) (s : State) : Host.Outcome State Fault Refusal := s.onDev t pullComplete

/-- LOCKED for 60 s with warm-up complete (R99). -/
def holdoverReady (d : Dev) : Dev :=
  match d.ref.lockedAt with
  | some s =>
    if d.get R.REFSEL_STATUS_STATE = selLocked && d.ref.warm && d.ref.ocxo && s + 60 * qS ≤ d.now then
      d.put R.REFSEL_STATUS_HOLDOVER_READY 1
    else d
  | none => d

def execHoldoverReadyTimer (t : Nat) (s : State) : Host.Outcome State Fault Refusal := s.onDev t holdoverReady

/-- The OCXO is absent (R96): monitors hold, waits stop, holdover is unavailable. -/
def ocxoLost (d : Dev) : Dev :=
  let d := { d with ref := { d.ref with ocxo := false } }
  let d := (d.put R.REFSEL_STATUS_MON_BASIS 0).put R.REFSEL_STATUS_HOLDOVER_READY 0
  (List.range 12).foldl (fun d r => d.stopWtr r) d

def execOcxoLost (t : Nat) (s : State) : Host.Outcome State Fault Refusal := s.onDev t ocxoLost

/-- The OCXO returns (R96): every monitor restarts its gates. -/
def ocxoReturn (d : Dev) : Dev :=
  let d := { d with ref := { d.ref with ocxo := true } }.put R.REFSEL_STATUS_MON_BASIS 1
  (List.range 12).foldl (fun d r => (d.setRefMon r { d.refMon r with gates := [] }).stopWtr r) d

def execOcxoReturn (t : Nat) (s : State) : Host.Outcome State Fault Refusal := s.onDev t ocxoReturn

/-- A write of REFSEL_CTRL: staged, and applied with APPLY (R105). -/
def refselApply (v : Word) (d : Dev) : Dev :=
  let n := v.toNat
  let d := d.setReg R.REFSEL_CTRL (n &&& 0x4F0F3FFF)
  if !bit n 31 then d
  else if 12 ≤ bits n 27 24 || 12 ≤ bits n 19 16 || 9999 < bits n 13 0 then d.put R.REFSEL_STATUS_BAD_CONFIG 1
  else
    let d := { d with ref := { d.ref with
      forceEn := bit n 30, forceRef := bits n 27 24, loopBw := bits n 19 16, pull := d.pullLeft, pullAt := d.now
      pullSlope := bits n 13 0 } }
    (d.bwLimited (d.get R.REFSEL_STATUS_SELECTED)).select

def execRefselApply (t : Nat) (v : Word) (s : State) : Host.Outcome State Fault Refusal :=
  s.onDev t (·.gatedM 0x380004 v (refselApply v))

/-- A write of REF_CFG: staged, and applied with APPLY together with REF_LIMITS (R105). -/
def refCfgApply (r : Nat) (v : Word) (d : Dev) : Dev :=
  if 12 ≤ r then d
  else
    let n := v.toNat
    let d := d.setReg R.REF_CFG (n &&& 0x6FFFFFFF) r
    let acc := d.get R.REF_LIMITS_ACCEPT_PPB r
    let rej := d.get R.REF_LIMITS_REJECT_PPB r
    if !bit n 31 then d
    else if bits n 23 16 = 0 || (bit n 29 && r ≠ 0) || acc = 0 || rej ≤ acc then d.put R.REF_STATUS_BAD_CONFIG 1 r
    else
      let m := d.refMon r
      let d := d.setRefMon r { m with
        lockout := bit n 30, ppsReq := bit n 29, priority := bits n 27 24, wtr := bits n 23 16,
        driftWarn := bits n 15 0, accept := acc, reject := rej,
        inSince := m.inSince.map fun _ => d.now }
      let d := if bits n 27 24 = 0 then (d.put R.REF_STATUS_QUALIFIED 0 r).stopWtr r else d
      d.select

def execRefCfgApply (t r : Nat) (v : Word) (s : State) : Host.Outcome State Fault Refusal :=
  s.onDev t (·.gatedM (R.REF_CFG.off r 0) v (refCfgApply r v))

end Sys2Proof.Machine
end

