-- ==== Sys2Proof/Machine/Time.lean ====
section
/-! DEFINITION. Time bases, working time, PTP, snapshots, PPS, trigger and capture units (04). -/

namespace Sys2Proof.Machine

/-- The image in force, or an image without entries. -/
def Dev.img (d : Dev) : Image := d.boot.image.getD Image.empty

/-- The anchor of TB0 or TB1. -/
def Dev.tb (d : Dev) (dom : Nat) : Anchor := if dom = 0 then d.time.tb0 else d.time.tb1

/-- Set the anchor of TB0 or TB1. -/
def Dev.setTb (d : Dev) (dom : Nat) (a : Anchor) : Dev :=
  if dom = 0 then { d with time := { d.time with tb0 := a } } else { d with time := { d.time with tb1 := a } }

/-- A PTP domain. -/
def Dev.ptp (d : Dev) (dom : Nat) : PtpDomain := if dom = 0 then d.time.dom0 else d.time.dom1

/-- Set a PTP domain. -/
def Dev.setPtp (d : Dev) (dom : Nat) (p : PtpDomain) : Dev :=
  if dom = 0 then { d with time := { d.time with dom0 := p } } else { d with time := { d.time with dom1 := p } }

/-- Whether a domain runs: TB1 does not when TB1_DOMAIN is 0xFF (R70). -/
def Dev.domRuns (d : Dev) (dom : Nat) : Bool := dom == 0 || (dom == 1 && d.img.tb1Domain != 0xFF)

/-- Value of TB0 or TB1, quarter nanoseconds; a base that does not run reads 0 (R70). -/
def Dev.tbNow (d : Dev) (dom : Nat) : Nat := if d.domRuns dom then (d.tb dom).read d.now else 0

/-- Value of TB3: its anchor counts working time (R70). -/
def Dev.tb3Now (d : Dev) : Nat := d.time.tb3.read d.wt

/-- Whether a domain is qualified (R75). -/
def Dev.qual (d : Dev) (dom : Nat) : Bool := d.on (if dom = 0 then R.WT_STATUS_TB0_QUAL else R.WT_STATUS_TB1_QUAL)

/-- Set whether a domain is qualified, in TBn_STATUS and WT_STATUS. -/
def Dev.setQual (d : Dev) (dom : Nat) (q : Bool) : Dev :=
  (d.put R.TB_STATUS_QUAL (b2n q) dom).put (if dom = 0 then R.WT_STATUS_TB0_QUAL else R.WT_STATUS_TB1_QUAL) (b2n q)

/-- WT − TBx, quarter nanoseconds. -/
def Dev.diff (d : Dev) (dom : Nat) : Int := (d.wt : Int) - d.tbNow dom

/-- STATE of working time. -/
def wtUnset : Nat := 0
/-- FOLLOWING. -/
def wtFollowing : Nat := 1
/-- OFFSET_HOLD. -/
def wtOffsetHold : Nat := 2
/-- NO_PTP. -/
def wtNoPtp : Nat := 3

/-- Set WT_RATE to frequency and phase terms (R74): the anchor moves to now, SLEWING follows the phase term. -/
def Dev.setRate (d : Dev) (freq phase : Int) : Dev :=
  let d := { d with time := { d.time with
    wt := d.time.wt.retime d.now (freq + phase), freq := freq, phase := phase, rateAt := d.now } }
  (d.setReg R.WT_RATE (ofSigned 32 (freq + phase))).put R.WT_STATUS_SLEWING (b2n (phase != 0))

/-- Largest |WT_RATE|, ±20 ppm (R74). -/
def rateLimit : Int := 20000 * 65536

/-- How far WT_RATE may move in `dt` quarter nanoseconds at ±2 ppm/s (R74). -/
def slopeLimit (dt : Nat) : Int := (dt * (2000 * 65536) / 4000000000 : Nat)

/-- Move WT_RATE toward a frequency and phase term under both limits of R74. -/
def Dev.steer (d : Dev) (freq phase : Int) : Dev :=
  let old := d.time.freq + d.time.phase
  let want := clampInt rateLimit (freq + phase)
  let new := old + clampInt (slopeLimit (d.now - d.time.rateAt)) (want - old)
  d.setRate freq (new - freq)

/-- Remember WT − TBx for extrapolation in NO_PTP (R84). -/
def Dev.measure (d : Dev) : Dev :=
  { d with time := { d.time with lastDiff0 := d.diff 0, lastDiff1 := d.diff 1 } }

/-- Follow a domain from the present working time and WT_RATE (R72, R77): OFFSET_HOLD when the offset exceeds 1 s, or
when `held`; otherwise FOLLOWING. -/
def Dev.follow (d : Dev) (dom : Nat) (held : Bool) : Dev :=
  let off := d.diff dom
  let hold := held || decide ((qS : Int) < off.natAbs)
  let rate := d.time.freq + d.time.phase
  let fr := (d.tb dom).rate
  let d := (d.setRate fr (rate - fr)).put R.WT_STATUS_FOLLOWS (dom + 1)
  let d := d.put R.WT_STATUS_STATE (if hold then wtOffsetHold else wtFollowing)
  let d := d.put R.WT_STATUS_TRUST_EXPIRED 0
  if hold then { d with time := { d.time with heldOffset := true, offset := off } } else d

/-- The initial step (R73): working time takes the value of a qualified time base, and its rate within ±20 ppm (R74).
TB3 does not step with it (R70). -/
def Dev.initialStep (d : Dev) (dom : Nat) : Dev :=
  let rate := clampInt rateLimit (d.tb dom).rate
  let d := { d with time := { d.time with
    wt := ⟨d.now, d.tbNow dom, rate⟩, tb3 := ⟨d.tbNow dom, d.tb3Now, d.time.tb3.rate⟩, freq := rate, phase := 0
    rateAt := d.now, followAt := some d.now } }
  ((d.setReg R.WT_RATE (ofSigned 32 rate)).put R.WT_STATUS_STATE wtFollowing).put R.WT_STATUS_FOLLOWS (dom + 1)

/-- A domain qualifies (R72): TB0 is followed if both qualify together, by the initial step or from NO_PTP. -/
def Dev.qualify (d : Dev) (dom : Nat) : Dev :=
  if d.qual dom then d
  else
    let d := d.setQual dom true
    let st := d.wtState
    if st = wtUnset then
      if d.now ≤ d.boot.mInst + 30 * qS then d.initialStep dom else d
    else if st = wtNoPtp then
      let d := (d.follow dom d.time.heldOffset).info .wtFollow 0x1002 dom
      { d with time := { d.time with followAt := some d.now } }
    else if dom = 0 && d.get R.WT_STATUS_FOLLOWS = 2 && d.time.followAt = some d.now then
      if d.time.noPtpAt ≠ 0 then d.follow 0 d.time.heldOffset else d.initialStep 0
    else d

/-- A switch of the followed domain (R76): one event, SWITCHES + 1, never a step. -/
def Dev.switchTo (d : Dev) (dom : Nat) : Dev :=
  let held := d.wtState = wtOffsetHold
  ((d.follow dom held).bump R.WT_STATUS_SWITCHES).info .wtSwitch 0x1002 dom

/-- A HOLDOVER_TRUST of 0 has passed as soon as NO_PTP is entered (R84). -/
def Dev.trustNow (d : Dev) : Dev :=
  if d.reg R.TIME_HOLDOVER_TRUST = 0 then (d.put R.WT_STATUS_TRUST_EXPIRED 1).info .trustExpired 0x1002 else d

/-- Working time loses its domain and enters NO_PTP (R72): the frequency term is held. -/
def Dev.enterNoPtp (d : Dev) : Dev :=
  let d := (d.measure.put R.WT_STATUS_STATE wtNoPtp).put R.WT_STATUS_FOLLOWS 0
  let d := { d with time := { d.time with noPtpAt := d.now, noPtpWt := d.wt } }
  (d.info .wtNoPtp 0x1002).trustNow

/-- A domain loses qualification (R72, R75): working time retargets or enters NO_PTP, and the numeric reference of the
domain is inactive (R94). -/
def Dev.disqualify (d : Dev) (dom : Nat) : Dev :=
  let was := d.qual dom
  let d := (d.setPtp dom { d.ptp dom with good := 0 }).setQual dom false
  let d := if was then refActivityLost (10 + dom) d else d
  if was && d.get R.WT_STATUS_FOLLOWS = dom + 1 then
    if d.qual (1 - dom) then d.switchTo (1 - dom) else d.enterNoPtp
  else d

/-- OFFSET_HOLD while a domain is followed (R74): entered when the offset exceeds 1 s. -/
def Dev.toHold (d : Dev) (dom : Nat) : Dev :=
  if d.wtState = wtOffsetHold then d
  else { d with time := { d.time with heldOffset := true, offset := d.diff dom } }.put R.WT_STATUS_STATE wtOffsetHold

/-- A sync message's servo result (R70, R75): a step beyond 10 µs, otherwise a rate; 16 good intervals qualify. -/
def Dev.servo (d : Dev) (dom portState : Nat) (offset rate phase : Int) : Dev :=
  if (40000 : Int) < offset.natAbs then
    let a := d.tb dom
    let d := d.setTb dom ⟨d.now, ((a.read d.now : Int) - offset).toNat, a.rate⟩
    (d.bump R.TB_STATUS_STEPS dom).disqualify dom
  else
    let d := (d.setTb dom ((d.tb dom).retime d.now rate)).setReg R.TB_RATE_ADJ (ofSigned 32 rate) dom
    let p := d.ptp dom
    let good := if portState = 9 && offset.natAbs ≤ 4000 then min 16 (p.good + 1) else 0
    let d := d.setPtp dom { p with good := good }
    let d := if good = 16 && d.get R.TB_STATUS_GM_CLASS dom < 248 then d.qualify dom else d
    if d.get R.WT_STATUS_FOLLOWS = dom + 1 then
      if d.wtState = wtFollowing && (d.diff dom).natAbs ≤ qS then d.steer rate phase
      else (d.toHold dom).steer rate 0
    else d

/-- A PTP message (R75, R78). -/
def ptpMessage (dom port : Nat) (m : PtpMessage) (d : Dev) : Dev :=
  if d.phase < phaseTime || phaseRunning < d.phase || !d.domRuns dom || !bit (d.ptp dom).mask port then d
  else match m with
    | .announce st cls gm =>
      let p := d.ptp dom
      let d := ((d.put R.TB_STATUS_PORT_STATE st dom).put R.TB_STATUS_PORT port dom).put R.TB_STATUS_GM_CLASS cls dom
      let d := d.setPtp dom { p with gm := some gm }
      if 248 ≤ cls || (p.gm.isSome && p.gm ≠ some gm) then d.disqualify dom else d
    | .sync st off rate phase =>
      ((d.put R.TB_STATUS_PORT_STATE st dom).put R.TB_STATUS_PORT port dom).servo dom st off rate phase
    | .delay => d
    | .management _ => d

def execPtpMessageReceived (t dom port : Nat) (m : PtpMessage) (s : State) : Host.Outcome State Fault Refusal :=
  s.onDev t (ptpMessage dom port m)

/-- Announce- or sync-receipt timeout on all ports of a domain (R75). -/
def ptpTimeout (dom : Nat) (d : Dev) : Dev :=
  if dom ≤ 1 && d.domRuns dom then (d.setPtp dom { d.ptp dom with gm := none }).disqualify dom else d

def execPtpReceiptTimeout (t dom : Nat) (s : State) : Host.Outcome State Fault Refusal := s.onDev t (ptpTimeout dom)

/-- M + 30 s passes with neither domain qualified: working time starts from TB2 in NO_PTP (R64, R72, R73). -/
def wtUnsetTimeout (d : Dev) : Dev :=
  if d.wtState = wtUnset && d.phase = phaseTime && d.boot.mInst + 30 * qS ≤ d.now then
    if d.qual 0 then d.initialStep 0
    else if d.qual 1 then d.initialStep 1
    else
      let d := { d with time := { d.time with wt := ⟨d.now, d.tb2, 0⟩ } }
      d.enterNoPtp
  else d

def execWtUnsetTimeout (t : Nat) (s : State) : Host.Outcome State Fault Refusal := s.onDev t wtUnsetTimeout

/-- NO_PTP has lasted HOLDOVER_TRUST (R84). -/
def trustExpiry (d : Dev) : Dev :=
  if d.wtState = wtNoPtp && !d.on R.WT_STATUS_TRUST_EXPIRED &&
      d.time.noPtpAt + d.reg R.TIME_HOLDOVER_TRUST * qMs ≤ d.now then
    (d.put R.WT_STATUS_TRUST_EXPIRED 1).info .trustExpired 0x1002
  else d

def execHoldoverTrustExpiry (t : Nat) (s : State) : Host.Outcome State Fault Refusal := s.onDev t trustExpiry

/-- The phase term has ramped to 0 (R74): SLEWING clears, and in OFFSET_HOLD the offset becomes constant. A phase term that
the slope limit does not let reach 0 yet goes on ramping. -/
def wtSlewEnd (d : Dev) : Dev :=
  if d.on R.WT_STATUS_SLEWING then
    let d := d.steer d.time.freq 0
    if d.wtState = wtOffsetHold && !d.on R.WT_STATUS_SLEWING then
      { d with time := { d.time with offset := d.diff (d.get R.WT_STATUS_FOLLOWS - 1) } }
    else d
  else d

def execWtSlewEnd (t : Nat) (s : State) : Host.Outcome State Fault Refusal := s.onDev t wtSlewEnd

/-- WT_OFFSET as read (R74): the measured WT − TBsel; constant in OFFSET_HOLD once the phase term is 0; 0 while no
domain is followed. -/
def Dev.wtOffset (d : Dev) : Int :=
  let f := d.get R.WT_STATUS_FOLLOWS
  if f = 0 then 0
  else if d.wtState = wtOffsetHold && !d.on R.WT_STATUS_SLEWING then d.time.offset
  else d.diff (f - 1)

/-- WT_FOLLOW (R91, R92). -/
def wtFollow (q seq : Nat) (d : Dev) : Dev :=
  d.onCmd q seq 0x0300 fun c d => d.withTail q seq c 1 fun d =>
    let dom := c.p 0 1
    if 2 ≤ dom then d.bad q seq 0
    else if !d.domRuns dom then d.finish q seq Status.rejected 0x0304
    else if d.get R.WT_STATUS_FOLLOWS = dom + 1 then d.succeed q seq dom
    else if !d.qual dom || d.get R.WT_STATUS_FOLLOWS = 0 then d.finish q seq Status.rejected 0x0301
    else (d.switchTo dom).succeed q seq dom

def execWtFollow (t q seq : Nat) (s : State) : Host.Outcome State Fault Refusal := s.onDev t (wtFollow q seq)

/-- Whether a transport is allowed under a PTP_PROFILE (R78). -/
def transportOk (profile transport : Nat) : Bool :=
  if profile = 2 then transport ≤ 1 else if profile = 3 then transport == 2 else true

/-- PTP_PORTS (R91, R92). -/
def ptpPorts (q seq : Nat) (d : Dev) : Dev :=
  d.onCmd q seq 0x0301 fun c d => d.withTail q seq c 6 fun d =>
    let dom := c.p 0 1
    let mask := c.p 1 1
    let tr := c.p 2 1
    let vlan := c.p 4 2
    if 2 ≤ dom then d.bad q seq 0
    else if 16 ≤ mask then d.bad q seq 1
    else if 3 ≤ tr then d.bad q seq 2
    else if 2 ≤ c.p 3 1 then d.bad q seq 3
    else if 4094 < vlan && vlan ≠ 0xFFFF then d.bad q seq 4
    else if !d.domRuns dom then d.finish q seq Status.rejected 0x0304
    else if !transportOk d.img.ptpProfile tr then d.finish q seq Status.rejected 0x0303
    else
      let o := d.ptp (1 - dom)
      if d.domRuns (1 - dom) && d.img.tb0Domain = d.img.tb1Domain && o.transport = tr && (o.mask &&& mask) ≠ 0 then
        d.finish q seq Status.rejected 0x0302
      else
        let best := d.get R.TB_STATUS_PORT dom
        let left := bit (d.ptp dom).mask best && !bit mask best
        let d := d.setPtp dom { d.ptp dom with mask := mask, transport := tr, step := bit (c.p 3 1) 0, vlan := vlan }
        let d := if left then d.disqualify dom else d
        let d := if mask = 0 then d.put R.TB_STATUS_PORT_STATE 0 dom
          else if left || d.get R.TB_STATUS_PORT_STATE dom = 0 then d.put R.TB_STATUS_PORT_STATE 4 dom else d
        d.succeed q seq mask

def execPtpPorts (t q seq : Nat) (s : State) : Host.Outcome State Fault Refusal := s.onDev t (ptpPorts q seq)

/-- Latch one base into the snapshot registers (R71, R86). -/
def Dev.snapBase (d : Dev) (b v : Nat) : Dev :=
  (((d.setReg R.SNAP_SEC_HI (v / qS / 2 ^ 32 % 2 ^ 16) b).setReg R.SNAP_SEC_LO (v / qS) b).setReg R.SNAP_NS
    (v % qS / 4) b).setReg R.SNAP_FRAC (v % 4 * 16384) b

/-- TIME_SNAP.SNAP (R86). -/
def timeSnap (v : Word) (d : Dev) : Dev :=
  if bit v.toNat 0 then
    (((((d.snapBase 0 d.wt).snapBase 1 (d.tbNow 0)).snapBase 2 (d.tbNow 1)).snapBase 3 d.tb2).snapBase 4 d.tb3Now).put
      R.TIME_SNAP_DONE 1
  else d

def execTimeSnap (t : Nat) (v : Word) (s : State) : Host.Outcome State Fault Refusal :=
  s.onDev t (·.gated 0x300018 (timeSnap v))

/-- TB3_APPLY (R87): ignored when the staged nanoseconds are out of range. -/
def tb3Apply (v : Word) (d : Dev) : Dev :=
  let ns := d.reg R.TB3_SET_NS
  let sec := d.get R.TB3_SET_SEC_HI_SEC * 2 ^ 32 + d.reg R.TB3_SET_SEC_LO
  if bit v.toNat 0 && ns < 1000000000 then
    { d with time := { d.time with tb3 := ⟨d.wt, (sec * 1000000000 + ns) * 4, d.time.tb3.rate⟩ } }
  else d

def execTb3Apply (t : Nat) (v : Word) (s : State) : Host.Outcome State Fault Refusal :=
  s.onDev t (·.gatedM 0x3000CC v (tb3Apply v))

/-- TB3_RATE_ADJ (R87): ignored beyond ±32,767 ppb. -/
def tb3Rate (v : Word) (d : Dev) : Dev :=
  let r := toSigned 32 v.toNat
  if r.natAbs ≤ 32767 * 65536 then
    { d with time := { d.time with tb3 := d.time.tb3.retime d.wt r } }.setReg R.TB_RATE_ADJ v.toNat 3
  else d

def execTb3RateAdjWrite (t : Nat) (v : Word) (s : State) : Host.Outcome State Fault Refusal :=
  s.onDev t (·.gatedM 0x3000B4 v (tb3Rate v))

/-- PPS_CTRL (R90): a pulse under way completes. -/
def ppsCtrl (v : Word) (d : Dev) : Dev := d.put R.PPS_CTRL_ENABLE (v.toNat % 2)

def execPpsCtrlWrite (t : Nat) (v : Word) (s : State) : Host.Outcome State Fault Refusal :=
  s.onDev t (·.gatedM 0x3000D0 v (ppsCtrl v))

/-- PPS_OUT rises at a whole second of working time (R90). -/
def ppsRise (d : Dev) : Dev :=
  if d.on R.PPS_CTRL_ENABLE && d.wtState ≠ wtUnset && d.wt / 4 % 1000000000 = 0 then
    { d with time := { d.time with ppsHigh := true } }
  else d

def execPpsOutRise (t : Nat) (s : State) : Host.Outcome State Fault Refusal := s.onDev t ppsRise

/-- PPS_OUT falls 100 ms after it rose (R90). -/
def ppsFall (d : Dev) : Dev := { d with time := { d.time with ppsHigh := false } }

def execPpsOutFall (t : Nat) (s : State) : Host.Outcome State Fault Refusal := s.onDev t ppsFall

/-! ### Trigger units (R88) -/

/-- A trigger unit with nothing scheduled. -/
def Trig.init : Trig := ⟨false, false, 0, 0, 0, false⟩

/-- A trigger unit. -/
def Dev.trig (d : Dev) (u : Nat) : Trig := tabGetD d.time.trigs Trig.init u

/-- Set a trigger unit's schedule; TRIG_STATUS.ARMED follows. -/
def Dev.setTrig (d : Dev) (u : Nat) (g : Trig) : Dev :=
  { d with time := { d.time with trigs := tabSet d.time.trigs Trig.init u g } }.put R.TRIG_STATUS_ARMED (b2n g.armed) u

/-- First event of a periodic unit: the earliest AT + k × period at least 1 µs ahead (R88). -/
def firstPeriodic (now48 at48 period : Nat) : Nat :=
  let ahead := sdiff 48 at48 now48
  if 1000 ≤ ahead then at48
  else (at48 + ((1000 - ahead).toNat + period - 1) / period * period) % 2 ^ 48

/-- TRIG_CTRL written (R88): staged, and applied with APPLY. A unit that a control cycle holds takes nothing (R291). -/
def trigWrite (u : Nat) (v : Word) (busy : Bool) (d : Dev) : Dev :=
  if 16 ≤ u then d
  else if busy then d.put R.TRIG_STATUS_BAD_CONFIG 1 u
  else if !bit v.toNat 31 then d.setReg R.TRIG_CTRL (v.toNat &&& 0x7000FFFF) u
  else
    let n := v.toNat
    let d := d.setReg R.TRIG_CTRL (n &&& 0x7000FFFF) u
    let at48 := d.get R.TRIG_AT_HI_AT u * 2 ^ 32 + d.reg R.TRIG_AT_LO u
    let period := d.reg R.TRIG_PERIOD_M1 u + 1
    let width := (bits n 15 0 + 1) * 8
    let mode := bits n 29 28
    if d.wtState = wtUnset then d.put R.TRIG_STATUS_UNSET 1 u
    else if 2 ≤ mode then d.put R.TRIG_STATUS_BAD_CONFIG 1 u
    else if !bit n 30 then d.setTrig u { d.trig u with armed := false }
    else if mode = 1 then
      if period ≤ width then d.put R.TRIG_STATUS_BAD_CONFIG 1 u
      else d.setTrig u { d.trig u with
        armed := true, periodic := true, next := firstPeriodic d.wt48 at48 period, period := period, width := width }
    else if sdiff 48 at48 d.wt48 < 1000 then
      ((d.setTrig u { d.trig u with armed := false }).put R.TRIG_STATUS_MISSED 1 u).info .trigMissed (0x1040 + u) u
    else d.setTrig u { d.trig u with
      armed := true, periodic := false, next := at48, period := 0, width := width }

/-- A pulse on a GPIO line ends after its width (R88). -/
def trigPulseEnd (u : Nat) (d : Dev) : Dev := d.setTrig u { d.trig u with pulse := false }

def execTriggerPulseEnd (t u : Nat) (s : State) : Host.Outcome State Fault Refusal := s.onDev t (trigPulseEnd u)

/-! ### Capture units (R89) -/

/-- Whether a capture unit takes edges: enabled, with a source, for this direction. -/
def Dev.capTakes (d : Dev) (u : Nat) (fall : Bool) : Bool :=
  let src := d.get R.CAP_CTRL_SRC u
  d.on R.CAP_CTRL_ENABLE u && bit (d.get R.CAP_CTRL_EDGE u) (b2n fall) && src ≠ 3 &&
    (src ≠ 0 || d.img.pins.any fun p => p.2.1 == 2 && p.2.2.1 == u)

/-- An edge on a capture source (R89): stamped into the FIFO, or lost when the FIFO is full or the edge follows the
last accepted one by less than 20 ns. -/
def captureEdge (u : Nat) (fall : Bool) (d : Dev) : Dev :=
  if 16 ≤ u || !d.capTakes u fall then d
  else
    let q := tabGetD d.time.caps [] u
    let near := match tabGet? d.time.capLast u with | some l => decide (d.now < l + 20 * qNs) | none => false
    if 16 ≤ q.length || near then (d.bump R.CAP_STATUS_LOST u).put R.CAP_STATUS_OVERRUN 1 u
    else
      let q' := q ++ [⟨d.wt48, fall, d.wtState⟩]
      let d := { d with time := { d.time with
        caps := tabSet d.time.caps [] u q', capLast := tabPut d.time.capLast u d.now } }
      let d := d.put R.CAP_STATUS_LEVEL q'.length u
      if q.isEmpty && d.on R.CAP_CTRL_NOTIFY u then
        let f := fun i => (Config.freeWord 1 i).toNat
        d.notify (entryBytes (f 0) (f 1) 0 (f 2) (0x1050 + u) 0 d.moduleId d.wt48 (f 3))
      else d

def execCaptureEdge (t u : Nat) (fall : Bool) (s : State) : Host.Outcome State Fault Refusal :=
  s.onDev t (captureEdge u fall)

/-- A read of CAP_TIME_LO (R89): the oldest entry's low word, the entry removed, its other bits latched; 0 when empty. -/
def capRead (u : Nat) (d : Dev) : Dev × Nat :=
  match tabGetD d.time.caps [] u with
  | [] => (d.setReg R.CAP_TIME_HI 0 u, 0)
  | e :: r =>
    let d := { d with time := { d.time with caps := tabSet d.time.caps [] u r } }
    ((d.put R.CAP_STATUS_LEVEL r.length u).setReg R.CAP_TIME_HI
      (2 ^ 31 + b2n e.fall * 2 ^ 30 + e.state * 2 ^ 28 + e.time / 2 ^ 32) u, e.time % 2 ^ 32)

def capReadRow (u : Nat) (d : Dev) : Dev :=
  d.gated 0x302008 fun d => (capRead u d).1.respond (.data (leBytes 4 (capRead u d).2))

def execCapTimeLoRead (t u : Nat) (s : State) : Host.Outcome State Fault Refusal := s.onDev t (capReadRow u)

end Sys2Proof.Machine
end

