-- ==== Sys2Proof/Machine/Paent.lean ====
section
/-! DEFINITION. Paent ports: envelopes, routing, credits, and how a port enters and leaves routing (15, 16). -/

namespace Sys2Proof.Machine

/-! ### State of ports -/

/-- Link layer of a port. -/
def Dev.link (d : Dev) (p : Nat) : Link := tabGetD d.sys.links Link.init p
/-- Set it. -/
def Dev.setLink (d : Dev) (p : Nat) (l : Link) : Dev :=
  { d with sys := { d.sys with links := tabSet d.sys.links Link.init p l } }
/-- Training of a port. -/
def Dev.lanes (d : Dev) (p : Nat) : Train := tabGetD d.sys.trains Train.init p
/-- Set it. -/
def Dev.setLanes (d : Dev) (p : Nat) (x : Train) : Dev :=
  { d with sys := { d.sys with trains := tabSet d.sys.trains Train.init p x } }

/-- STATE of a port (R329). -/
def Dev.pln (d : Dev) (p : Nat) : Nat := d.get R.PLN_STATUS_STATE p
/-- OFF. -/
def plnOff : Nat := 0
/-- ABSENT. -/
def plnAbsent : Nat := 1
/-- WAIT. -/
def plnWait : Nat := 2
/-- TRAINING. -/
def plnTraining : Nat := 3
/-- UP. -/
def plnUp : Nat := 4

/-- ROLE and CLOCKING of a port in the image in force (R50). -/
def Dev.paentRole (d : Dev) (p : Nat) : Nat := ((d.img.paent.find? fun e => e.1 == p).map (·.2.1)).getD 0
/-- CLOCKING: 0 forwarded clock, 1 common reference. -/
def Dev.clocking (d : Dev) (p : Nat) : Nat := ((d.img.paent.find? fun e => e.1 == p).map (·.2.2.1)).getD 0
/-- Whether a port is in routing, or serves as a pair port. -/
def Dev.inRouting (d : Dev) (p : Nat) : Bool := d.on R.PNT_PSTATUS_ROUTED p
/-- Whether a port is a grid port. -/
def Dev.isGrid (d : Dev) (p : Nat) : Bool := 1 ≤ d.paentRole p && d.paentRole p ≤ 4

/-- Agent identifier of a Paent port. -/
def paentAgent (p : Nat) : Nat := 0x6000 + p

/-! ### Envelopes (R304) -/

/-- Bytes of an envelope: header and data. -/
def Env.bytes (e : Env) : List Byte :=
  let n := (16 + e.data.length + 55) / 56
  let used := 16 + e.data.length - 56 * (n - 1)
  [BitVec.ofNat 8 (e.cls * 64 + e.vc * 32 + b2n e.mcast * 16 + e.type), BitVec.ofNat 8 (n - 1)] ++ leBytes 2 e.dest ++
    leBytes 2 e.src ++ [BitVec.ofNat 8 e.ttl, BitVec.ofNat 8 used] ++ e.td ++ e.data

/-- Cut into pieces of 56 bytes, the last filled with zeros. -/
def chunks56 : Nat → List Byte → List (List Byte)
  | 0, _ => []
  | n + 1, bs =>
    if bs.length ≤ 56 then [bs ++ List.replicate (56 - bs.length) 0] else bs.take 56 :: chunks56 n (bs.drop 56)

/-- The flit contents of an envelope: 1 to 64 of them. -/
def Env.flits (e : Env) : List (List Byte) := chunks56 64 e.bytes

/-- The envelope that flit contents spell. -/
def Env.ofFlits (cs : List (List Byte)) : Env :=
  let bs := cs.flatten.take (56 * (cs.length - 1) + leAt (cs.headD []) 7 1)
  let k := leAt bs 0 1
  ⟨bits k 7 6, bits k 5 5, bit k 4, bits k 3 0, if bit k 4 then leAt bs 2 2 % 256 else leAt bs 2 2 % 512,
    leAt bs 4 2 % 512, leAt bs 6 1, (bs.drop 8).take 8, bs.drop 16⟩

/-- The CLASS of a TYPE (R304); none for a TYPE not listed. -/
def typeClass : Nat → Option Nat
  | 0 => some 0
  | 1 => some 0
  | 3 => some 1
  | 4 => some 2
  | 5 => some 3
  | 6 => some 3
  | 7 => some 3
  | _ => none

/-- Initial credits of class × 2 + VC (R306). -/
def creditOf : Nat → Nat
  | 0 => 32
  | 1 => 32
  | 2 => 128
  | 3 => 32
  | 4 => 512
  | 5 => 64
  | 6 => 64
  | _ => 32

/-- An envelope of this module, with the content that its format gives; where the manual gives none, the content is free. -/
def Dev.ownEnv (d : Dev) (cls type dest : Nat) : Env :=
  ⟨cls, 0, false, type, dest, d.moduleId, 64, (List.range 8).map (Config.freeByte 20),
    (List.range 40).map (Config.freeByte 21)⟩

/-- A receive buffer is freed: its flits are owed to the sender as credits (R306). -/
def Dev.freeBuffer (d : Dev) (back : Option (Nat × Nat)) (flits : Nat) : Dev :=
  match back with
  | none => d
  | some (p, sel) =>
    let l := d.link p
    d.setLink p { l with owed := tabUpd l.owed 0 sel (· + flits) }

/-- An envelope waits to be sent on a port. -/
def Dev.enqueue (d : Dev) (p : Nat) (o : OutEnv) : Dev :=
  let l := d.link p
  d.setLink p { l with queue := l.queue ++ [o] }

/-- An envelope is delivered to this module. -/
def Dev.deliverEnv (d : Dev) (port : Nat) (e : Env) : Dev :=
  { d with sys := { d.sys with inbox := d.sys.inbox ++ [(port, e)] } }

/-- The oldest delivered envelope of a TYPE is taken by the agent that it is for. -/
def Dev.takeInbox (d : Dev) (type : Nat) : Dev :=
  match d.sys.inbox.find? fun e => e.2.type == type with
  | some e => { d with sys := { d.sys with inbox := d.sys.inbox.erase e } }
  | none => d

/-- The pair port that reaches the partner `m`, if it is up (R300). -/
def Dev.pairPort (d : Dev) (m : Nat) : Option Nat :=
  (List.range 4).find? fun p => d.paentRole p == 5 && d.inRouting p && d.get R.PNT_PSTATUS_NEIGHBOUR p == m

/-- Send an envelope on its way from this module (R304, R308 to R310): local, by multicast copies, by the pair port, on
PRIMARY, or on FAILOVER in VC1; dropped where nothing reaches the destination. -/
def Dev.routeEnv (d : Dev) (port : Nat) (o : OutEnv) : Dev :=
  let e := o.env
  let n := e.flits.length
  if e.mcast then
    let g := e.dest
    let ports := (List.range 4).filter fun p =>
      d.on R.MCAST_VALID g && bit (d.get R.MCAST_PORTS g) p && d.inRouting p && p != port
    let d := if d.on R.MCAST_VALID g && d.on R.MCAST_LOCAL g then d.deliverEnv port e else d
    match ports.getLast? with
    | none => d.freeBuffer o.back n
    | some z => ports.foldl (fun d p => d.enqueue p (if p = z then o else { o with back := none, closes := none })) d
  else if e.dest = d.moduleId then (d.deliverEnv port e).freeBuffer o.back n
  else match d.pairPort e.dest with
    | some p => d.enqueue p o
    | none =>
      let primary := d.get R.ROUTE_PRIMARY e.dest
      let alt := d.get R.ROUTE_FAILOVER e.dest
      if !d.on R.ROUTE_VALID e.dest then d.freeBuffer o.back n
      else if e.vc = 0 && !d.on R.ROUTE_ON_FAILOVER e.dest then
        if primary ≤ 3 then d.enqueue primary o else d.freeBuffer o.back n
      else if alt ≤ 3 && d.inRouting alt then
        d.enqueue alt { o with env := { e with vc := 1 }, injected := o.injected || e.vc == 0 }
      else d.freeBuffer o.back n

/-! ### Pictures for subscribers (R311) -/

/-- Change or end a picture send. -/
def Dev.updSend (d : Dev) (id : Nat) (f : PicSend → Option PicSend) : Dev :=
  { d with sys := { d.sys with sends := d.sys.sends.filterMap fun x => if x.id = id then f x else some x } }

/-- A picture begins to be sent to a subscriber: a lease on its slot (R311). -/
def Dev.beginSend (d : Dev) (c dest : Nat) (mcast : Bool) (slot : Nat) : Dev :=
  let id := d.sys.sendId
  let d := { d with sys := { d.sys with
    sendId := id + 1, sends := d.sys.sends ++ [PicSend.mk id c dest mcast slot (id % 65536) 0 none] } }
  d.updSlot (.ctx c) slot fun s => { s with lease := s.lease + 1 }

/-- A picture has reached OUT in context `c` (R311): it is sent to every subscriber, or queued behind the picture that is
being sent, in place of one not yet begun. -/
def Dev.offerPicture (d : Dev) (c slot : Nat) : Dev :=
  let uni := (tabGetD d.sys.subs [] c).map fun m => (m, false)
  let mul := ((List.range 256).filter fun g => d.on R.MCAST_VALID g && d.get R.MCAST_SOURCE g == d.moduleId &&
    d.get R.MCAST_CONTEXT g == c).map fun g => (g, true)
  (uni ++ mul).foldl (fun d t =>
    match d.sys.sends.find? fun s => s.context == c && s.dest == t.1 && s.mcast == t.2 with
    | some s => d.updSend s.id fun s => some { s with next := some slot }
    | none => d.beginSend c t.1 t.2 slot) d

/-! ### Entering and leaving routing (R300 to R302, R309) -/

/-- ON_FAILOVER of every entry follows its PRIMARY port (R309). -/
def Dev.failoverBits (d : Dev) (p : Nat) (down : Bool) : Dev :=
  (List.range 512).foldl (fun d m =>
    if d.on R.ROUTE_VALID m && d.get R.ROUTE_PRIMARY m = p then d.put R.ROUTE_ON_FAILOVER (b2n down) m else d) d

/-- A port leaves routing with a cause (R309): entries switch to FAILOVER, an envelope partly sent is lost, and those that
wait take their new way, but for multicast envelopes, which are not rerouted (R310). -/
def Dev.leaveRouting (d : Dev) (p cause : Nat) : Dev :=
  let was := d.inRouting p
  let d := (d.put R.PNT_PSTATUS_ROUTED 0 p).put R.PNT_PSTATUS_CAUSE cause p
  if !was then d
  else
    let d := if d.isGrid p then d.failoverBits p true else d
    let l := d.link p
    let d := d.setLink p { l with queue := [], cur := none }
    let d := match l.cur with
      | some (o, rest) =>
        if o.env.mcast || rest.length < o.env.flits.length then d.freeBuffer o.back rest.length else d.routeEnv p o
      | none => d
    l.queue.foldl (fun d o => if o.env.mcast then d.freeBuffer o.back o.env.flits.length else d.routeEnv p o) d

/-- Why a port that is UP stays out of routing (R300 to R302), 0 for none. -/
def Dev.routeCause (d : Dev) (p : Nat) (n : Neighbour) : Nat :=
  let x := d.get R.PAENT_ID_X
  let y := d.get R.PAENT_ID_Y
  let place := match d.paentRole p with
    | 1 => n.x == x + 1 && n.y == y
    | 2 => n.x + 1 == x && n.y == y
    | 3 => n.x == x && n.y == y + 1
    | 4 => n.x == x && n.y + 1 == y
    | _ => true
  if !place then 2
  else if n.clocking ≠ d.clocking p then 3
  else if d.isGrid p && d.clocking p = 0 && 32 < n.joint then 4
  else if d.on R.PAENT_MGR_ID_CONFLICT && d.isGrid p then 5
  else 0

/-- The ends of a port have exchanged their identities (R300): a port that is UP and not held enters routing, or stays out
with its cause. -/
def Dev.identify (d : Dev) (p : Nat) : Dev :=
  match (d.link p).neighbour with
  | none => d
  | some n =>
    if d.pln p ≠ plnUp || d.on R.PLN_CTRL_HOLD p then d.leaveRouting p 1
    else
      let d := d.put R.PNT_PSTATUS_NEIGHBOUR n.module p
      let cause := d.routeCause p n
      if cause ≠ 0 then d.leaveRouting p cause
      else
        let was := d.inRouting p
        let d := (d.put R.PNT_PSTATUS_ROUTED 1 p).put R.PNT_PSTATUS_CAUSE 0 p
        if was || !d.isGrid p then d else d.failoverBits p false

/-! ### Attempts (R329, R330, R335 to R337) -/

/-- Lanes of a port that carry a state of LOS. -/
def Dev.los (d : Dev) (p l : Nat) : Bool := d.on R.LN_STATUS_LOS p l

/-- Whether a port hears its partner: LOS clear on a data lane, and on the clock lane in forwarded-clock mode (R330). -/
def Dev.hears (d : Dev) (p : Nat) : Bool :=
  (List.range 4).any (fun l => !d.los p l) && (d.clocking p != 0 || !d.los p 5)

/-- The recorder hears of a change of STATE, TX_WIDTH, RX_WIDTH or a failure's cause, once (R335). -/
def Dev.tellPort (d : Dev) (p : Nat) : Dev :=
  let v := d.pln p * 4096 + d.get R.PLN_STATUS_TX_WIDTH p * 256 + d.get R.PLN_STATUS_RX_WIDTH p * 16 +
    d.get R.PLN_STATUS_LAST_FAIL p
  let x := d.lanes p
  if x.told = v then d
  else (d.setLanes p { x with told := v }).info (if d.pln p = plnUp then .portUp else .portDown) (paentAgent p) v

/-- FAILED and CAUSE of a lane, with one event for a change: a failure is DEGRADED and stands until the lane passes (R336,
R415). -/
def Dev.setLaneCause (d : Dev) (p l : Nat) (failed : Bool) (cause : Nat) : Dev :=
  let d := (d.put R.LN_STATUS_FAILED (b2n failed) p l).put R.LN_STATUS_CAUSE cause p l
  let x := d.lanes p
  let v := b2n failed * 8 + cause
  if tabGetD x.toldLane 0 l = v then d
  else
    let d := d.setLanes p { x with toldLane := tabSet x.toldLane 0 l v }
    let agent := 0x6010 + 8 * p + l
    let key := p * 8 + l
    if failed then
      ({ d with err := { d.err with lanes := (key :: d.err.lanes).eraseDups } }).degradedEvent .laneFail agent cause
    else
      let d := { d with err := { d.err with lanes := d.err.lanes.filter (· != key) } }
      (if d.err.degraded = 0 && d.err.lanes.isEmpty then d.put R.ERR_STATUS_DEGRADED 0 else d).info .laneRestored agent cause

/-- The step under way. -/
def Dev.setStep (d : Dev) (p n : Nat) : Dev :=
  (d.setLanes p { d.lanes p with stepAt := d.now }).put R.PLN_STATUS_STEP n p

/-- DETECT has heard the partner: t0, and the sweep (R330). -/
def Dev.detected (d : Dev) (p : Nat) : Dev :=
  (d.setLanes p { d.lanes p with t0 := some d.now }).setStep p 2

/-- An attempt starts (R329, R330). From UP the port leaves routing and the attempt counts as a retraining. -/
def Dev.attempt (d : Dev) (p : Nat) : Dev :=
  let up := d.pln p == plnUp
  let d := d.leaveRouting p 1
  let d := (d.bump R.PLN_ATTEMPTS_COUNT p).put R.PLN_STATUS_STATE plnTraining p
  let d := ((d.put R.PLN_STATUS_TX_WIDTH 0 p).put R.PLN_STATUS_RX_WIDTH 0 p).put R.PLN_STATUS_NEXT_TRY 0 p
  let d := (List.range 6).foldl (fun d l =>
    ((d.put R.LN_STATUS_TX_LOGICAL 7 p l).put R.LN_STATUS_RX_LOGICAL 7 p l).put R.LN_STATUS_MATCH 0 p l) d
  let x := d.lanes p
  let d := d.setLanes p { x with
    start := d.now, t0 := none, pass := 0, peerPass := 0, ready := false, go := false, frames := []
    sleepSeen := false, ams := 0, wakeRx := none, peer := none }
  let d := d.put R.PLN_STATUS_PARTNER_TX_ASLEEP 0 p
  let d := if up then (d.bump R.PLN_RETRAINS_COUNT p).tellPort p else d
  let d := d.setStep p 1
  if d.hears p then d.detected p else d

/-- Seconds of the wait after the n-th failed attempt: 1, 2, 4, 8, then 16 (R329). -/
def backoff (n : Nat) : Nat := 2 ^ min (n - 1) 4

/-- The link of a port goes down: replay, credits and what was being received are discarded (R305, R337). -/
def Dev.paentDown (d : Dev) (p : Nat) : Dev := d.setLink p { Link.init with sent := (d.link p).sent }

/-- An attempt fails (R329, R335): ABSENT when nothing is heard, otherwise WAIT, and the backoff starts. -/
def Dev.failAttempt (d : Dev) (p fail : Nat) : Dev :=
  let absent := (List.range 4).all (d.los p) || (d.clocking p == 0 && d.los p 5)
  let x := d.lanes p
  let n := x.fails + 1
  let step := d.get R.PLN_STATUS_STEP p
  let d := (d.bump R.PLN_FAILS_COUNT p).put R.PLN_STATUS_STATE (if absent then plnAbsent else plnWait) p
  let d := ((d.put R.PLN_STATUS_LAST_FAIL fail p).put R.PLN_STATUS_LAST_STEP step p).put R.PLN_STATUS_STEP 0 p
  let d := d.put R.PLN_STATUS_NEXT_TRY (backoff n) p
  ((d.setLanes p { d.lanes p with fails := n, retryAt := d.now + backoff n * qS }).paentDown p).tellPort p

end Sys2Proof.Machine
end

