-- ==== Sys2Proof/Machine/Codec.lean ====
section
/-! DEFINITION. Decode contexts, reference pools, engines and their scheduling, admission and overload (07). -/

namespace Sys2Proof.Machine

/-! ### Rates and geometry -/

/-- Nominal frame rates by RATE, as fractions of a hertz (R127, R139). -/
def frameRate (rate : Nat) : Nat × Nat :=
  match rate with
  | 0 => (10, 1)
  | 1 => (25, 2)
  | 2 => (15, 1)
  | 3 => (20, 1)
  | 4 => (24000, 1001)
  | 5 => (24, 1)
  | 6 => (25, 1)
  | 7 => (30000, 1001)
  | 8 => (30, 1)
  | 9 => (50, 1)
  | 10 => (60000, 1001)
  | _ => (60, 1)

/-- `n / m` rounded up. -/
def ceilDiv (n m : Nat) : Nat := (n + m - 1) / m

/-- `n` rounded up to a multiple of `m`. -/
def roundUp (n m : Nat) : Nat := ceilDiv n m * m

/-- One frame interval, quarter nanoseconds. -/
def frameInterval (rate : Nat) : Nat := ceilDiv (qS * (frameRate rate).2) (frameRate rate).1

/-- Block alignment A (R133). -/
def blockAlign (type : Nat) : Nat := if type = 1 then 64 else 16

/-- Wa (R133). -/
def Setup.wa (s : Setup) : Nat := roundUp s.maxW (blockAlign s.type)
/-- Ha (R133). -/
def Setup.ha (s : Setup) : Nat := roundUp s.maxH (blockAlign s.type)
/-- Bs (R133). -/
def Setup.bs (s : Setup) : Nat := if s.tenBit then 2 else 1
/-- P (R133). -/
def Setup.pitch (s : Setup) : Nat := roundUp (s.wa * s.bs) 256
/-- Twice the plane factor k (R133). -/
def Setup.k2 (s : Setup) : Nat := if s.type ≤ 1 then 3 else if s.format = 0 then 4 else 6
/-- M (R133). -/
def Setup.motion (s : Setup) : Nat := if s.type ≤ 1 then s.wa / 16 * (s.ha / 16) * 16 else 0
/-- The slot size (R133). -/
def Setup.slotSize (s : Setup) : Nat := roundUp (s.pitch * s.ha * s.k2 / 2 + s.motion) 4096 + 4096
/-- SLOTS (R131). -/
def Setup.slots (s : Setup) : Nat := s.dpb + 2 + s.lease
/-- Pool size with the context save area (R133). -/
def Setup.poolSize (s : Setup) : Nat := s.slots * s.slotSize + 65536
/-- Address of a slot. -/
def Setup.slotAddr (s : Setup) (i : Nat) : Nat := s.base + i * s.slotSize
/-- Address of the save area. -/
def Setup.saveAddr (s : Setup) : Nat := s.base + s.slots * s.slotSize

/-! ### Contexts -/

/-- Decode state of a context. -/
def dcIdle : Nat := 0
/-- WAIT_SYNC. -/
def dcWaitSync : Nat := 1
/-- RUNNING. -/
def dcRunning : Nat := 2
/-- SHED. -/
def dcShed : Nat := 3
/-- REFUSED. -/
def dcRefused : Nat := 4
/-- SERVICE codes. -/
def svServed : Nat := 0
/-- DEGRADED. -/
def svDegraded : Nat := 1
/-- DELAYED. -/
def svDelayed : Nat := 2

/-- STATE of a context's decoding. -/
def Dev.dcState (d : Dev) (c : Nat) : Nat := d.get R.DCTX_STATUS_STATE c
/-- SERVICE of a context. -/
def Dev.dcService (d : Dev) (c : Nat) : Nat := d.get R.DCTX_STATUS_SERVICE c
/-- The lowest FREE slot of a pool. -/
def Dctx.freeSlot (x : Dctx) : Option Nat :=
  match x.setup with
  | none => none
  | some s => (List.range s.slots).find? fun i => (x.slot i).isFree



/-- Agent of a context's decoding (R487). -/
def dcAgent (c : Nat) : Nat := 0x3100 + c

/-- TYPE of a context. -/
def Dev.ctxType (d : Dev) (c : Nat) : Nat := d.get R.CTX_CFG_TYPE c
/-- One frame interval of a context. -/
def Dev.ctxInterval (d : Dev) (c : Nat) : Nat := frameInterval (d.get R.CTX_CFG_RATE c)
/-- Whether a context was opened GUARANTEED. -/
def Dev.ctxGuaranteed (d : Dev) (c : Nat) : Bool := d.on R.CTX_STATUS_GUARANTEED c

/-! ### Ingest's side of a reset -/

/-- Ingest of a context. -/
def Dev.ctx (d : Dev) (c : Nat) : Ctx := tabGetD d.net.ctxs Ctx.init c

/-- Set a context's ingest, and OPEN_FRAMES. -/
def Dev.setCtx (d : Dev) (c : Nat) (x : Ctx) : Dev :=
  { d with net := { d.net with ctxs := tabSet d.net.ctxs Ctx.init c x } }.put R.CTX_STATUS_OPEN_FRAMES
    (x.frames.countP fun (f : OpenFrame) => !f.closed) c

/-- Ingest states (R123). -/
def inClosed : Nat := 0
/-- RESYNC. -/
def inResync : Nat := 1
/-- RUNNING. -/
def inRunning : Nat := 2
/-- REFUSED. -/
def inRefused : Nat := 3

/-- STATE of a context's ingest. -/
def Dev.inState (d : Dev) (c : Nat) : Nat := d.get R.CTX_STATUS_STATE c

/-- A frame ends: its timestamp and marker are kept, its assembly slot is given back. -/
def Dev.endFrame (d : Dev) (c : Nat) (f : OpenFrame) : Dev :=
  let x := d.ctx c
  let d := d.setCtx c { x with
    ended := f.ts :: x.ended.filter (fun t => t != f.ts && decide (sdiff 32 f.ts t < 2 ^ 30))
    endSeq := f.marker.map (·.1) }
  match f.slot with
  | some i => d.setDctx c ((d.dctx c).setSlot i { (d.dctx c).slot i with writing := false })
  | none => d

/-- Discard every open frame of a context. -/
def Dev.discardFrames (d : Dev) (c : Nat) : Dev :=
  let fs := (d.ctx c).frames
  let d := d.setCtx c { d.ctx c with frames := [] }
  fs.foldl (fun d f => d.endFrame c f) d

/-- The codec domain puts ingest into RESYNC (R123, R137). -/
def Dev.ingestResync (d : Dev) (c : Nat) : Dev :=
  if d.inState c = inResync || d.inState c = inRunning then (d.discardFrames c).put R.CTX_STATUS_STATE inResync c else d

/-! ### Context reset (R137) -/

/-- Engine busy time up to now is counted in the present window (R141). -/
def Dev.engineStop (d : Dev) (e : Nat) : Dev :=
  match tabGet? d.dec.engines e with
  | none => d
  | some g =>
    { d with dec := { d.dec with
      engines := tabDel d.dec.engines e, busy := d.dec.busy + (d.now - max g.start d.dec.winAt) } }.put
      R.DEC_ENG_STATUS_BUSY 0 e

/-- The engine that holds a live frame of a context. -/
def Dev.engineOf (d : Dev) (c : Nat) : Option (Nat × Engine) :=
  d.dec.engines.find? fun g => g.2.ctx == c && !g.2.dead

/-- The frame in progress of a context is discarded. -/
def Dev.abortEngine (d : Dev) (c : Nat) : Dev :=
  match d.engineOf c with
  | none => d
  | some (e, g) =>
    let d := d.engineStop e
    d.setDctx c ((d.dctx c).setSlot g.slot { (d.dctx c).slot g.slot with writing := false })

/-- A context reset (R137); `dropSets` when the saved state was poisoned. -/
def Dev.ctxReset (d : Dev) (c : Nat) (dropSets : Bool) (agent : Nat) : Dev :=
  let d := d.abortEngine c
  let x := (d.dctx c).mapSlots fun s => { s with isRef := false }
  let d := d.setDctx c { x with
    queue := [], saved := false, cycle := none, run := 0, baseNum := x.num + 1, shedding := false
    sets := if dropSets then [] else x.sets }
  let d := (d.put R.DCTX_STATUS_STATE dcWaitSync c).bump R.RESETS_COUNT c
  (d.contained .ctxReset agent c).ingestResync c

/-! ### Delivery and completion -/

/-- A sample of the plane that R146 hashes, at native depth. -/
def planeSample (m : Mem) (s : Setup) (addr x y : Nat) : Nat :=
  if s.tenBit then m.le (addr + y * s.pitch + x * 2) 2 / 64 else m.le (addr + y * s.pitch + x) 1

/-- The frozen hash: CRC-32C over 64 × 64 samples in raster order (R146). -/
def frozenHash (m : Mem) (s : Setup) (addr w h : Nat) : Nat :=
  crcOf 1 ((List.range 64).flatMap fun j => (List.range 64).flatMap fun i =>
    leBytes 2 (planeSample m s addr ((2 * i + 1) * w / 128) ((2 * j + 1) * h / 128)))

/-- The lines of a range give way to data: poison and uncorrectable marks go (R371). -/
def Mem.freshen (m : Mem) (a n : Nat) : Mem :=
  let out : Nat × Unit → Bool := fun e => !(decide (a ≤ e.1 * 64) && decide (e.1 * 64 + 64 ≤ a + n))
  { m with poison := m.poison.filter out, ue := m.ue.filter out }

/-- A picture completes in a slot (R134, R146): OUT moves, RUN and FROZEN follow the hash, counters advance. -/
def pictureDone (c i : Nat) (pm : Postmark) (order : Int) (isRef : Bool) (w h : Nat) (x : Dev × Mem) : Dev × Mem :=
  let d := x.1
  let k := d.dctx c
  match k.setup with
  | none => x
  | some su =>
    let hash := frozenHash x.2 su (su.slotAddr i) w h
    let run := if k.run ≠ 0 && hash = k.hash then k.run + 1 else 1
    let lim := d.get R.DCTX_FROZEN_RUN_RUN c
    let frozen := lim ≠ 0 && decide (lim ≤ run)
    let k := (k.mapSlots fun s => { s with out := false })
    let k := k.setSlot i { k.slot i with
      writing := false, out := true, isRef := isRef, pm := pm, frozen := frozen, order := order, num := k.num
      width := w, height := h, done := d.wt }
    let d := ((d.setDctx c { k with run := run, hash := hash }).bump R.FRAMES_DECODED_COUNT c)
    let d := (d.canvasPicture (.ctx c) i).offerPicture c i
    (if pm.flags % 2 = 1 then d.bump R.FRAMES_IMPAIRED_DEC_COUNT c else d, x.2.freshen (su.slotAddr i) (su.slotSize - 4096))

/-- Count one drop for want of a FREE slot (R132, R135). -/
def Dev.noSlot (d : Dev) (c : Nat) : Dev := d.bumpWrap R.DEC_COUNTS_NO_SLOT c

/-- A compressed frame reaches its context's queue (R136, R141, R147). -/
def Dev.deliver (d : Dev) (c : Nat) (f : Queued) : Dev :=
  let st := d.dcState c
  if st = dcShed then d.bump R.DROPPED_SHED_COUNT c
  else if st ≠ dcWaitSync && st ≠ dcRunning then d
  else if d.dcService c = svDegraded && (f.pic.map (·.droppable)).getD false then d.bump R.DROPPED_NONREF_COUNT c
  else
    let d := d.put R.DCTX_STATUS_STATE dcRunning c
    let x := d.dctx c
    match x.queue with
    | old :: rest =>
      if x.queue.length < 4 then d.setDctx c { x with queue := x.queue ++ [f] }
      else
        let x := { x with waited := x.waited || decide ((old.arrived + d.ctxInterval c : Int) < d.wt) }
        let d := (d.setDctx c x).bumpWrap R.DEC_COUNTS_OVERRUN c
        if (old.pic.map (·.isRef)).getD true then d.ctxReset c false (dcAgent c)
        else d.setDctx c { x with queue := rest ++ [f] }
    | [] => d.setDctx c { x with queue := [f] }

/-! ### Engines (R136, R138, R142) -/

/-- Engines in service. -/
def Dev.engines (d : Dev) : Nat := ((List.range 8).filter fun e => !d.on R.DEC_ENG_STATUS_FAILED e).length

/-- C, in pixels per second (R138). -/
def Dev.decCapacity (d : Dev) : Nat := 400000000 * d.engines

/-- LOAD of a context under its setup and rate (R139). -/
def decLoad (s : Setup) (rate : Nat) : Nat :=
  ceilDiv ((s.wa * s.ha + 65536) * (frameRate rate).1) (frameRate rate).2

/-- LOAD of an open context; ST 2110-20 contexts have none. -/
def Dev.ctxLoad (d : Dev) (c : Nat) : Nat :=
  match (d.dctx c).setup with
  | some s => if d.ctxType c < 2 then decLoad s (d.get R.CTX_CFG_RATE c) else 0
  | none => 0

/-- Whether a context is admitted GUARANTEED and not shed. -/
def Dev.decCounted (d : Dev) (c : Nat) : Bool :=
  d.ctxGuaranteed c && (d.dcState c == dcWaitSync || d.dcState c == dcRunning)

/-- Admitted GUARANTEED load (R140). -/
def Dev.decGload (d : Dev) : Nat :=
  (List.range 256).foldl (fun n c => if d.decCounted c then n + d.ctxLoad c else n) 0

/-- DEC_GLOAD and DEC_CAPACITY (07, Registers). -/
def Dev.decRegs (d : Dev) : Dev :=
  (d.setReg R.DEC_GLOAD (ceilDiv d.decGload 1000)).setReg R.DEC_CAPACITY (d.decCapacity / 1000)

/-- Shed order (R141): BACKGROUND first, then the highest context number. -/
def Dev.shedOrder (d : Dev) (cs : List Nat) : List Nat :=
  cs.mergeSort fun a b =>
    let pa := d.get R.CTX_CFG_PRIORITY a
    let pb := d.get R.CTX_CFG_PRIORITY b
    decide (pb < pa) || (pa == pb && decide (b ≤ a))

/-- Shed a context (R141, R142, R147): a frame in an engine completes; the queue goes; REF is cleared. -/
def Dev.shedCtx (d : Dev) (c reason : Nat) : Dev :=
  let busy := (d.engineOf c).isSome
  let x := if busy then d.dctx c else (d.dctx c).mapSlots fun s => { s with isRef := false }
  let d := d.setDctx c { x with queue := [], shedding := busy }
  let d := ((d.put R.DCTX_STATUS_STATE dcShed c).put R.DCTX_STATUS_SERVICE 3 c).put R.DCTX_STATUS_REASON reason c
  (d.info .ctxShed (dcAgent c) c reason).decRegs

/-- Shed GUARANTEED contexts until the load fits C (R142). -/
def shedToFit : List Nat → Dev → Dev
  | [], d => d
  | c :: r, d => if d.decGload ≤ d.decCapacity then d else shedToFit r (d.shedCtx c 0x0607)

/-- Take an engine out of service (R138, R142). -/
def Dev.engineFail (d : Dev) (e : Nat) : Dev :=
  if e > 7 || d.on R.DEC_ENG_STATUS_FAILED e then d
  else
    let g := tabGet? d.dec.engines e
    let d := match g with
      | some g => (d.engineStop e).setDctx g.ctx
          ((d.dctx g.ctx).setSlot g.slot { (d.dctx g.ctx).slot g.slot with writing := false })
      | none => d
    let d := (d.put R.DEC_ENG_STATUS_FAILED 1 e).degraded .engineFailed (0x3000 + e) e
    let d := match g with
      | some g =>
        if !g.dead && (d.dcState g.ctx = dcRunning || d.dcState g.ctx = dcWaitSync) then
          d.ctxReset g.ctx false (0x3000 + e)
        else if (d.dctx g.ctx).shedding then
          d.setDctx g.ctx { ((d.dctx g.ctx).mapSlots fun s => { s with isRef := false }) with shedding := false }
        else d
      | none => d
    let cs := (List.range 256).filter fun c => d.decCounted c && d.ctxLoad c != 0
    (shedToFit (d.shedOrder cs) d).decRegs

/-- No frame within 100 ms of its start (R138). -/
def decodeEngineTimeout (e : Nat) (d : Dev) : Dev :=
  match tabGet? d.dec.engines e with
  | some g => if g.start + 100 * qMs ≤ d.now then d.engineFail e else d
  | none => d

def execDecodeEngineTimeout (t e : Nat) (s : State) : Host.Outcome State Fault Refusal :=
  s.onDev t (decodeEngineTimeout e)

def execDecodeEngineParity (t e : Nat) (s : State) : Host.Outcome State Fault Refusal :=
  s.onDev t (·.engineFail e)

/-- Whether context `a`'s head frame goes before `b`'s (R136). -/
def Dev.goesFirst (d : Dev) (a b : Nat) : Bool :=
  let ga := d.ctxGuaranteed a
  let gb := d.ctxGuaranteed b
  if ga != gb then ga
  else
    let due : Nat → Nat := fun c => (((d.dctx c).queue.head?.map (·.stamp)).getD 0) + d.ctxInterval c
    decide (due a < due b) || (due a == due b && decide (a < b))

/-- The context whose frame a free engine takes next (R135, R136). -/
def Dev.nextDecode (d : Dev) : Option Nat :=
  let ready := d.dec.ctxs.filter fun e =>
    !e.2.queue.isEmpty && d.dcState e.1 == dcRunning && (d.engineOf e.1).isNone && (e.2.freeSlot.isSome || (d.holdOnly (.ctx e.1)).isSome)
  ready.foldl (fun best e =>
    match best with
    | none => some e.1
    | some b => if d.goesFirst e.1 b then some e.1 else best) none

/-- Why an access unit cannot be decoded under a setup (R129 to R131, R137); 0 when it can. -/
def unsupCause (h265 : Bool) (s : Setup) (x : Dctx) (f : Queued) : Nat :=
  if !(f.uses.all fun u => x.sets.contains u) then 9
  else match f.pic with
    | none => 0
    | some p =>
      let held := (x.slots.filter fun e => e.2.isRef && p.keeps.contains e.2.order && !p.idr).length + b2n p.isRef
      if !p.profileOk then 1
      else if (if h265 then 153 else 51) < p.level then 2
      else if s.maxW < p.width || s.maxH < p.height || p.width < 64 || p.height < 64 then 3
      else if s.dpb < p.refSlots || s.dpb < held then 4
      else if p.tenBit && !s.tenBit then 5
      else if !p.chroma420 then 6
      else if p.fields then 7
      else if p.reorder then 8
      else 0

/-- UNSUP_CAUSE takes a cause; one event whenever it differs from the previous one (R130). -/
def Dev.unsupported (d : Dev) (c cause agent : Nat) : Dev :=
  let old := d.get R.DCTX_STATUS_UNSUP_CAUSE c
  let d := d.put R.DCTX_STATUS_UNSUP_CAUSE cause c
  if old = cause then d else d.info .unsupported agent c cause

/-- DECODE_START (R130, R136, R137): the next frame is taken; poisoned saved state or an access unit that cannot be
decoded resets the context. -/
def decodeStart (e : Nat) (x : Dev × Mem) : Dev × Mem :=
  let d := x.1
  if e > 7 || d.on R.DEC_ENG_STATUS_FAILED e || (tabGet? d.dec.engines e).isSome then x
  else match d.nextDecode with
    | none => x
    | some c =>
      let d := d.makeRoom (.ctx c) (d.dctx c).freeSlot.isNone
      let k := d.dctx c
      match k.queue, k.setup, k.freeSlot with
      | f :: rest, some su, some i =>
        let k := { k with
          queue := rest, waited := k.waited || decide ((f.arrived + d.ctxInterval c : Int) < d.wt)
          sets := (k.sets ++ f.carries).eraseDups }
        let d := d.setDctx c k
        if k.saved && !(poisonedIn d x.2 su.saveAddr 65536).isEmpty then
          (d.ctxReset c true (0x3000 + e), x.2)
        else
          let cause := unsupCause (d.ctxType c == 1) su k f
          if cause ≠ 0 then ((d.unsupported c cause (0x3000 + e)).ctxReset c false (0x3000 + e), x.2)
          else
            let d := d.setDctx c (k.setSlot i { k.slot i with writing := true })
            let d := { d with dec := { d.dec with engines := tabPut d.dec.engines e ⟨c, f, i, d.now, false⟩ } }
            ((d.put R.DEC_ENG_STATUS_BUSY 1 e).put R.DEC_ENG_STATUS_CONTEXT c e, x.2)
      | _, _, _ => x

def execDecodeStart (t e : Nat) (s : State) : Host.Outcome State Fault Refusal := s.onAll t (decodeStart e)

/-! ### One decoded picture (R143 to R145) -/

/-- The held reference nearest to a missing one, the earlier decoded on a tie (R143). -/
def nearestRef (held : List (Nat × PicSlot)) (r : Int) : Option (Nat × PicSlot) :=
  held.foldl (fun best e =>
    match best with
    | none => some e
    | some b =>
      let de := (e.2.order - r).natAbs
      let db := (b.2.order - r).natAbs
      if de < db || (de == db && decide (e.2.num < b.2.num)) then some e else best) none

/-- Whether a missing reference does not precede the SEI picture of the open cycle (R145). -/
def refSince (h265 : Bool) (cy : Refresh) (r order : Int) : Bool :=
  if h265 then decide (cy.start ≤ r)
  else decide ((r - cy.start) % cy.maxFrameNum ≤ (order - cy.start) % cy.maxFrameNum)

/-- What becomes of a picture's references: substitutions made, whether one voids the cycle, whether one is IMPAIRED
by inheritance. -/
structure RefScan where
  subs : Nat
  void : Bool
  inherit : Bool

/-- Scan the active reference lists (R143 to R145). -/
def scanRefs (h265 : Bool) (held : List (Nat × PicSlot)) (cycle : Option Refresh) (order : Int) (floor : Nat) :
    List Int → RefScan → RefScan
  | [], a => a
  | r :: rest, a =>
    let found := held.find? fun e => e.2.order == r
    let a := match found with
      | some _ => a
      | none =>
        let v := match cycle with
          | none => true
          | some cy => refSince h265 cy r order
        { a with subs := a.subs + 1, void := a.void || v }
    let used := match found with
      | some e => some e
      | none => nearestRef held r
    let imp := match used with
      | some e => e.2.pm.flags % 2 == 1 && decide (floor ≤ e.2.num)
      | none => false
    scanRefs h265 held cycle order floor rest { a with inherit := a.inherit || imp }

/-- Set or clear IMPAIRED in a postmark. -/
def Postmark.impaired (p : Postmark) (b : Bool) : Postmark := { p with flags := p.flags / 2 * 2 + b2n b }

/-- A decoded picture's references, impairment and refresh cycle, then its completion (R134, R143 to R145, R264). -/
def decodedPicture (c i : Nat) (f : Queued) (r : DecodeResult) (p : PicInfo) (su : Setup) (x : Dev × Mem) :
    Dev × Mem :=
  let d := x.1
  let h265 := d.ctxType c == 1
  let k := d.dctx c
  let k := { k with num := k.num + 1 }
  let k := if p.idr then { (k.mapSlots fun s => { s with isRef := false }) with baseNum := k.num, cycle := none } else k
  let held := k.slots.filter fun e => e.2.isRef
  let k := match p.recovery with
    | some n => { k with cycle := some ⟨p.order, n, p.maxFrameNum, k.num⟩ }
    | none => k
  let floor := max k.refreshNum (if p.rasl then 0 else k.baseNum)
  let direct := f.pm.flags % 2 == 1 || r.concealed || r.poisonCoded || r.poisonRef
  let sc := scanRefs h265 held k.cycle p.order floor p.refs ⟨0, false, false⟩
  let cause := direct || decide (0 < sc.subs)
  let void := direct || sc.void || f.void
  let (k, impaired, done) :=
    match k.cycle with
    | none => (k, cause || sc.inherit, false)
    | some cy =>
      let n : Int := if h265 then p.order - cy.start else (p.order - cy.start) % cy.maxFrameNum
      if void || decide ((cy.count : Int) < n) then ({ k with cycle := none }, cause || sc.inherit, false)
      else if n = cy.count then ({ k with cycle := none, refreshNum := k.num }, cause, true)
      else (k, cause || sc.inherit, false)
  let k := k.mapSlots fun s => { s with isRef := s.isRef && p.keeps.contains s.order }
  let d := (d.setDctx c { k with saved := true }).put R.DEC_COUNTS_SUBSTITUTIONS
    (d.get R.DEC_COUNTS_SUBSTITUTIONS c + sc.subs) c
  let d := if r.poisonRef then d.contained .decodePoison (dcAgent c) c i else d
  let d := if done then d.info .refreshDone (dcAgent c) c else d
  let m := (dramWrite d x.2 (su.slotAddr i) r.planes).freshen su.saveAddr 65536
  pictureDone c i (f.pm.impaired impaired) p.order (p.isRef && d.dcState c != dcShed) p.cropW p.cropH (d, m)

/-- DECODE_COMPLETE (R134, R147): the engine is free; a closed context's frame is discarded. -/
def decodeComplete (e : Nat) (r : DecodeResult) (x : Dev × Mem) : Dev × Mem :=
  match tabGet? x.1.dec.engines e with
  | none => x
  | some g =>
    let d := (x.1.engineStop e).bumpWrap R.DEC_ENG_STATUS_FRAMES e
    let k := d.dctx g.ctx
    match k.setup, g.frame.pic with
    | some su, some p =>
      if g.dead then (d.setDctx g.ctx (k.setSlot g.slot { k.slot g.slot with writing := false }), x.2)
      else
        let (d, m) := decodedPicture g.ctx g.slot g.frame r p su (d, x.2)
        let k := d.dctx g.ctx
        (if k.shedding then
          d.setDctx g.ctx { (k.mapSlots fun s => { s with isRef := false }) with shedding := false }
        else d, m)
    | _, _ => (d.setDctx g.ctx (k.setSlot g.slot { k.slot g.slot with writing := false }), x.2)

def execDecodeComplete (t e : Nat) (r : DecodeResult) (s : State) : Host.Outcome State Fault Refusal :=
  s.onAll t (decodeComplete e r)

/-- A frame has waited one interval at the head of its queue for a FREE slot (R135). -/
def decodeNoSlot (c : Nat) (d : Dev) : Dev :=
  let k := d.dctx c
  match k.queue with
  | f :: _ =>
    if k.freeSlot.isNone && (d.holdOnly (.ctx c)).isNone && (d.engineOf c).isNone && decide (f.arrived + d.ctxInterval c ≤ d.wt) then
      (d.noSlot c).ctxReset c false (dcAgent c)
    else d
  | [] => d

def execDecodeNoSlotTimeout (t c : Nat) (s : State) : Host.Outcome State Fault Refusal := s.onDev t (decodeNoSlot c)

/-! ### Best-effort windows (R141) -/

/-- One BEST-EFFORT context at the end of a window. -/
def Dev.windowCtx (d : Dev) (c : Nat) : Dev :=
  let x := d.dctx c
  let late := match x.queue with
    | f :: _ => decide (f.arrived + d.ctxInterval c < d.wt)
    | [] => false
  let waited := x.waited || late
  let delay := if waited then x.delayRun + 1 else 0
  let ok := if waited then 0 else x.quietRun + 1
  let old := d.dcService c
  let new :=
    if (old = svDelayed || old = svDegraded) && 10 ≤ ok then svServed
    else if waited && old = svServed then svDelayed
    else if old = svDelayed && 3 ≤ delay then svDegraded
    else old
  let d := d.setDctx c { x with
    waited := false, delayRun := delay, quietRun := ok
    degradedRun := if new = svDegraded then x.degradedRun + 1 else 0 }
  if new = old then d else (d.put R.DCTX_STATUS_SERVICE new c).info .serviceChange (dcAgent c) c new

/-- Whether a context is open, not shed and BEST-EFFORT. -/
def Dev.bestEffort (d : Dev) (c : Nat) : Bool :=
  !d.ctxGuaranteed c && (d.dcState c == dcWaitSync || d.dcState c == dcRunning)

/-- The most recently shed context that is still shed is restored with a context reset (R141). -/
def restoreOne : List Nat → Dev → Dev
  | [], d => { d with dec := { d.dec with shedStack := [] } }
  | c :: r, d =>
    if d.dcState c = dcShed then
      let d := { d with dec := { d.dec with shedStack := r, since := 0, quiet := 0 } }
      let d := (d.put R.DCTX_STATUS_SERVICE svServed c).put R.DCTX_STATUS_REASON 0 c
      (d.info .serviceChange (dcAgent c) c svServed).ctxReset c false (dcAgent c)
    else restoreOne r d

/-- A 100 ms window ends (R141). -/
def decodeWindow (d : Dev) : Dev :=
  let span := d.now - d.dec.winAt
  let busy := d.dec.engines.foldl (fun n g => n + (d.now - max g.2.start d.dec.winAt)) d.dec.busy
  let util := if d.engines = 0 || span = 0 then 0 else min 1023 (busy * 1024 / (d.engines * span))
  let d := { d with dec := { d.dec with winAt := d.now, busy := 0 } }.put R.DEC_UTIL_UTIL util
  let be := (List.range 256).filter d.bestEffort
  let d := be.foldl Dev.windowCtx d
  let pressed := be.any fun c => decide (3 ≤ (d.dctx c).degradedRun)
  let loaded := be.any fun c => d.dcService c == svDelayed || d.dcService c == svDegraded
  let since := d.dec.since + 1
  let quiet := if loaded || decide (1024 * 8 ≤ util * 10) then 0 else d.dec.quiet + 1
  let d := { d with dec := { d.dec with since := since, quiet := quiet } }
  if 3 ≤ since && pressed then
    match d.shedOrder be with
    | c :: _ =>
      let d := d.shedCtx c 0x0606
      { d with dec := { d.dec with since := 0, quiet := 0, shedStack := c :: d.dec.shedStack } }
    | [] => d
  else if 10 ≤ quiet then restoreOne d.dec.shedStack d
  else d

def execDecodeWindowEnd (t : Nat) (s : State) : Host.Outcome State Fault Refusal := s.onDev t decodeWindow

/-! ### Commands (R148) -/

/-- Whether two byte ranges overlap. -/
def overlap (a n b m : Nat) : Bool := decide (a < b + m) && decide (b < a + n) && n != 0 && m != 0

/-- The setup that a DECODE_SETUP's PARAM names. -/
def Cmd.setup (c : Cmd) : Setup :=
  ⟨bit (c.p 1 1) 0, c.p 2 1 + 1, c.p 3 1 + 1, c.p 4 2 + 1, c.p 6 2 + 1, c.p 10 1, c.p 11 1, c.p 12 8⟩

/-- The DEPTH10 that a TYPE and FORMAT allow (R148). -/
def depthOk (ten : Bool) (type format : Nat) : Bool :=
  if type = 0 then !ten else if type = 2 && decide (format ≤ 4) then ten == (format == 0 || format == 2 || format == 4) else true

/-- The first field of a DECODE_SETUP out of range (R148). -/
def setupBadField (c : Cmd) : Option Nat :=
  let s := c.setup
  match firstBad [(decide (c.p 1 1 < 2) && depthOk s.tenBit s.type s.format, 1), (decide (s.dpb ≤ 16), 2),
      (decide (s.lease ≤ 8), 3), (decide (64 ≤ s.maxW) && decide (s.maxW ≤ 4096), 4),
      (decide (64 ≤ s.maxH) && decide (s.maxH ≤ 2160), 6), (decide (s.type ≤ 2), 10),
      (if s.type = 2 then decide (s.format ≤ 4) else s.format == 0, 11),
      (s.base % 65536 == 0 && decide (s.base < 2 ^ 36), 12)] with
  | some i => some i
  | none => firstNonZero c.param 20

/-- Whether a pool leaves DRAM or overlaps another context's (R148). -/
def Dev.poolTaken (d : Dev) (k : Nat) (s : Setup) : Bool :=
  decide (2 ^ 36 < s.base + s.poolSize) || d.dec.ctxs.any fun e => e.1 != k && (match e.2.setup with
    | some o => overlap s.base s.poolSize o.base o.poolSize
    | none => false)

/-- DECODE_SETUP (R131, R133, R148). -/
def decodeSetup (q seq : Nat) (d : Dev) : Dev :=
  d.onCmd q seq 0x0600 fun c d =>
    let k := c.p 0 1
    let s := c.setup
    if d.inState k ≠ inClosed || d.get R.ENC_STATUS_STATE k ≠ 0 then d.reject q seq 0x0401
    else match setupBadField c with
      | some i => d.finish q seq Status.rejected 0x0601 i
      | none =>
        if d.poolTaken k s then d.reject q seq 0x0602
        else
          let d := d.setDctx k { Dctx.init with setup := some s, slots := (d.dctx k).slots }
          let d := ((d.setReg R.DCTX_CFG (b2n s.tenBit * 2 ^ 31 + s.slots * 2 ^ 24 + (s.lease - 1) * 2 ^ 20 +
            (s.dpb - 1) * 2 ^ 16 + s.type * 2 ^ 12 + s.format * 2 ^ 8) k).setReg R.DCTX_SIZE
            ((s.maxW - 1) * 2 ^ 16 + (s.maxH - 1)) k).setReg R.DCTX_FROZEN_RUN (c.p 8 2) k
          ((d.setReg R.DCTX_POOL_LO (s.base % 2 ^ 32) k).setReg R.DCTX_POOL_HI (s.base / 2 ^ 32) k).succeed q seq
            s.poolSize

def execDecodeSetup (t q seq : Nat) (s : State) : Host.Outcome State Fault Refusal := s.onDev t (decodeSetup q seq)

/-- DECODE_RESET (R148). -/
def decodeResetCmd (q seq : Nat) (d : Dev) : Dev :=
  d.onCmd q seq 0x0601 fun c d => d.withTail q seq c 1 fun d =>
    let k := c.p 0 1
    let d := if d.dcState k = dcWaitSync || d.dcState k = dcRunning then d.ctxReset k false (dcAgent k) else d
    d.succeed q seq (d.dcState k)

def execDecodeReset (t q seq : Nat) (s : State) : Host.Outcome State Fault Refusal := s.onDev t (decodeResetCmd q seq)

end Sys2Proof.Machine
end

