-- ==== Sys2Proof/Machine/Ingest.lean ====
section
/-! DEFINITION. Ethernet ports, the flow table, frame assembly, postmarks at ingest and stream contexts (06). -/

namespace Sys2Proof.Machine

/-! ### Ports and admission figures -/

/-- LOAD of R126, Mb/s. -/
def Dev.ingestLoad (d : Dev) : Nat :=
  (List.range 256).foldl (fun n c =>
    if d.ctxGuaranteed c && (d.inState c == inResync || d.inState c == inRunning) then
      n + (d.get R.CTX_PEAK_PEAK_M1 c + 1) * (if d.on R.CTX_STATUS_DUAL c then 2 else 1)
    else n) 0

/-- BUDGET of R126, Mb/s. -/
def Dev.ingestBudget (d : Dev) : Nat :=
  9 * (List.range 4).foldl (fun n p =>
    if d.on R.ETH_CTRL_ENABLE p then n + (if d.on R.ETH_CTRL_RATE p then 25000 else 10000) else n) 0 / 10

/-- INGEST_LOAD and INGEST_BUDGET. -/
def Dev.ingestRegs (d : Dev) : Dev := (d.setReg R.INGEST_LOAD d.ingestLoad).setReg R.INGEST_BUDGET d.ingestBudget

/-- ETH_CTRL (R108). -/
def ethCtrl (p : Nat) (v : Word) (d : Dev) : Dev :=
  let w := v.toNat
  if p > 3 || (bit w 29 && !bit w 30) || bits w 13 0 < 1518 || 9216 < bits w 13 0 then d
  else
    let off := !d.on R.ETH_CTRL_ENABLE p
    let d := d.setReg R.ETH_CTRL
      (if off then w &&& 0xE0003FFF else putBits (d.reg R.ETH_CTRL p) 31 31 (b2n (bit w 31))) p
    let d := if bit w 31 then d else (d.put R.ETH_STATUS_LINK 0 p).put R.ETH_STATUS_FEC_ACTIVE 0 p
    d.ingestRegs

def execEthCtrlWrite (t p : Nat) (v : Word) (s : State) : Host.Outcome State Fault Refusal :=
  s.onDev t (·.gated 0x400000 (ethCtrl p v))

/-- An enabled port loses block lock or its receive clock (R108). -/
def ethLinkLost (p : Nat) (d : Dev) : Dev :=
  if p > 3 || !d.on R.ETH_CTRL_ENABLE p || !d.on R.ETH_STATUS_LINK p then d
  else
    (((d.put R.ETH_STATUS_LINK 0 p).put R.ETH_STATUS_FEC_ACTIVE 0 p).put R.ETH_STATUS_LINK_LOST 1 p).info
      .linkFall (0x2000 + p) p

def execEthLinkLost (t p : Nat) (s : State) : Host.Outcome State Fault Refusal := s.onDev t (ethLinkLost p)

/-- An enabled port achieves block lock (R108); memberships have survived (R127). -/
def ethLinkUp (p : Nat) (d : Dev) : Dev :=
  if p > 3 || !d.on R.ETH_CTRL_ENABLE p || !d.clockAt 1 p then d
  else
    (d.put R.ETH_STATUS_LINK 1 p).put R.ETH_STATUS_FEC_ACTIVE
      (b2n (d.on R.ETH_CTRL_FEC p && d.on R.ETH_CTRL_RATE p)) p

def execEthLinkUp (t p : Nat) (s : State) : Host.Outcome State Fault Refusal := s.onDev t (ethLinkUp p)

/-! ### Flow table (R109, R110) -/

/-- An address held in four registers: IPv4 in the first alone. -/
def Dev.flowAddr (d : Dev) (r : RegDesc) (i : Nat) (v6 : Bool) : Nat :=
  if v6 then d.reg r i 0 * 2 ^ 96 + d.reg r i 1 * 2 ^ 64 + d.reg r i 2 * 2 ^ 32 + d.reg r i 3 else d.reg r i 0

/-- A write of FLOW_CTRL: it stages its fields, and with APPLY puts the staged entry in force unless ACTION is 0b11. -/
def flowApply (i : Nat) (v : Word) (d : Dev) : Dev :=
  if 1024 ≤ i then d
  else
    let w := v.toNat
    let d := d.setReg R.FLOW_CTRL (w &&& 0x7FF800FF) i
    if !bit w 31 || bits w 20 19 = 3 then d
    else
      let f : Flow := ⟨BitVec.ofNat 32 (w &&& 0x7FF800FF), BitVec.ofNat 32 (d.reg R.FLOW_PORT i),
        BitVec.ofNat 32 (d.reg R.FLOW_SSRC i), d.flowAddr R.FLOW_DST i (bit w 29), d.flowAddr R.FLOW_SRC i (bit w 29)⟩
      { d with net := { d.net with
        flows := if bit w 30 then tabPut d.net.flows i f else tabDel d.net.flows i } }

def execFlowApply (t i : Nat) (v : Word) (s : State) : Host.Outcome State Fault Refusal :=
  s.onDev t (·.gatedM (R.FLOW_CTRL.off i 0) v (flowApply i v))

/-- Whether a flow entry's enabled fields all agree with a datagram (R109). -/
def Flow.takes (f : Flow) (port : Nat) (u : UdpInfo) : Bool :=
  let c := f.ctrl.toNat
  bit (bits c 25 22) port && (bit c 29 == u.ipv6) && f.dst == u.dst && bits f.port.toNat 15 0 == u.dport &&
    (!bit c 26 || u.vlan == some (bits f.port.toNat 27 16)) && (!bit c 28 || f.src == u.src) &&
    (!bit c 27 || (u.rtp.map (·.ssrc)) == some f.ssrc.toNat)

/-! ### Postmarks (R82 to R85, R119, R120, R270) -/

/-- HOLDOVER, DOWNGRADED, ENCODED_HOP, NOT_REFRESHED, RESYNC_FIRST and ALLOWANCE (R81). -/
def pmHoldover : Nat := 2
/-- DOWNGRADED. -/
def pmDowngraded : Nat := 4
/-- REMOTE. -/
def pmRemote : Nat := 8
/-- ENCODED_HOP. -/
def pmHop : Nat := 16
/-- NOT_REFRESHED. -/
def pmNotRefreshed : Nat := 32
/-- RESYNC_FIRST. -/
def pmResync : Nat := 64
/-- ALLOWANCE. -/
def pmAllowance : Nat := 128

/-- The 64 bits of a postmark (R81). -/
def Postmark.word (p : Postmark) : Nat := p.capt * 2 ^ 16 + p.tbid * 2 ^ 14 + p.cls * 2 ^ 12 + p.flags

/-- A time in quarter nanoseconds as short working time. -/
def short48 (v : Int) : Nat := ofSigned 48 (v / 4)

/-- The working-time state at a frame's first-packet stamp (R84, R85). -/
def Dev.stampState (d : Dev) (c : Nat) : StampState :=
  let x := d.get R.CTX_CFG_CLASS c
  let noPtp := d.wtState == wtNoPtp
  let diff : Option Int :=
    if 2 ≤ x || !d.domRuns x then none
    else if noPtp then
      if d.on R.WT_STATUS_TRUST_EXPIRED then none
      else
        let dt := d.now - d.time.noPtpAt
        some ((if x = 0 then d.time.lastDiff0 else d.time.lastDiff1) +
          ((d.wt : Int) - d.time.noPtpWt) - advance d.time.freq dt)
    else if d.qual x then some (d.diff x)
    else none
  ⟨d.wt, diff, noPtp⟩

/-- The capture instant of an RTP timestamp in TBx: not later than the stamp, and closest to it (R83). -/
def rtpInstant (ts : Nat) (tbx : Int) : Int :=
  let k := (tbx * 90000 - (ts * qS : Nat)) / ((2 ^ 32 * qS : Nat) : Int)
  ((ts : Int) + k * 2 ^ 32) * (qS : Nat) / 90000

/-- A freshness SEI's bytes after its UUID, big-endian (R269). -/
def beAt (bs : List Byte) (off n : Nat) : Nat := leNat ((bs.drop off).take n).reverse

/-- Whether a freshness SEI is valid (R270). -/
def seiValid (s : List Byte) : Bool :=
  let runs := beAt s 18 1
  beAt s 0 1 == 1 && decide (runs ≤ 135) && decide (24 + 8 * runs ≤ s.length) &&
    beAt s (20 + 8 * runs) 4 == crcOf 1 (s.take (20 + 8 * runs))

/-- The largest DELTA of a freshness SEI's runs, µs. -/
def seiDelta (s : List Byte) : Nat :=
  (List.range (beAt s 18 1)).foldl (fun m i => max m (beAt s (24 + 8 * i) 4)) 0

/-- The postmark of a closed frame, the CAPT that R120 compares (none for CLASS NONE), and what the SEI counts. -/
def Dev.postmark (d : Dev) (c : Nat) (f : OpenFrame) (sei : Option (List Byte)) : Postmark × Option Nat :=
  let cls := d.get R.CTX_CFG_CLASS c
  let allow := d.reg R.CTX_ALLOW c
  let w : Int := f.stamp.wt
  let hold := if f.stamp.noPtp then pmHoldover else 0
  let allowFlag := if allow = 0 then 0 else pmAllowance
  let arrival : Int := w - (allow * qUs : Nat)
  match sei with
  | none =>
    if cls = 2 then (⟨short48 arrival, 2, 1, hold ||| allowFlag⟩, some (short48 arrival))
    else match f.stamp.diff with
      | none => (⟨short48 arrival, 2, 1, hold ||| pmDowngraded⟩, some (short48 arrival))
      | some df =>
        let capt := rtpInstant f.ts (w - df) + df
        (⟨short48 capt, cls, 0, hold⟩, some (short48 capt))
  | some s =>
    if !seiValid s then ({ Postmark.none with flags := hold }, none)
    else
      let fl := beAt s 1 1
      let dom := if cls = 0 then d.img.tb0Domain else d.img.tb1Domain
      let hop := pmHop ||| (if beAt s 18 1 = 0 then 0 else pmNotRefreshed) ||| b2n (bit fl 6) |||
        (if bit fl 4 then pmHoldover else 0) ||| (if bit fl 3 then pmDowngraded else 0)
      let low : Int := (seiDelta s * qUs : Nat)
      match (if cls < 2 && bit fl 7 && beAt s 4 1 = dom then f.stamp.diff else none) with
      | some df =>
        let tn := (w - df) / 4
        let capt := (tn + sdiff 48 (beAt s 6 6) (ofSigned 48 tn)) * 4 + df
        (⟨short48 (capt - low), cls, 0, hold ||| hop⟩, some (short48 capt))
      | none =>
        let capt : Int := arrival - (beAt s 12 4 * qUs : Nat)
        (⟨short48 (capt - low), 2, 1, hold ||| hop ||| allowFlag ||| (if cls < 2 then pmDowngraded else 0)⟩,
          some (short48 capt))

/-! ### ST 2110-20 slots (R112, R115, R132) -/

/-- Samples per pixel group and the planes a format holds (R112, R133): 4:2:2 has Y and interleaved Cb, Cr. -/
def stPlanes (format : Nat) : Nat := if format = 0 then 2 else 3

/-- Bytes of a sample: 8 bit, or 10 bit in bits [15:6] of a little-endian word (R133). -/
def sampleBytes (ten : Bool) (v : Nat) : List Byte := if ten then leBytes 2 (v * 64) else leBytes 1 v

/-- The samples of a row segment that belong to a plane, in order (R112, R133; plane order of RGB is G, B, R). -/
def planeSamples (format plane : Nat) (ss : List Nat) : List Nat :=
  let pick : Nat → List Nat → List Nat := fun n idx =>
    (List.range (ss.length / n)).flatMap fun g => idx.map fun i => ss.getD (g * n + i) 0
  if format = 0 then (if plane = 0 then pick 4 [1, 3] else pick 4 [0, 2])
  else if format ≤ 2 then pick 3 [if plane = 0 then 1 else if plane = 1 then 0 else 2]
  else pick 3 [if plane = 0 then 1 else if plane = 1 then 2 else 0]

/-- Address of a sample in a slot. -/
def Setup.sampleAddr (s : Setup) (slot plane line x : Nat) : Nat :=
  s.slotAddr slot + plane * s.pitch * s.ha + line * s.pitch + x * s.bs

/-- Fill a slot's declared picture with mid-grey, against which missing samples stand (R115). -/
def stFill (s : Setup) (slot w h : Nat) (d : Dev) (m : Mem) : Mem :=
  let mid := sampleBytes s.tenBit (if s.tenBit then 512 else 128)
  (List.range (stPlanes s.format)).foldl (fun m p => (List.range h).foldl (fun m y =>
    dramWrite d m (s.sampleAddr slot p y 0) (List.replicate w mid).flatten) m) m

/-- Write a row segment (R112). -/
def stRow (s : Setup) (slot : Nat) (d : Dev) (m : Mem) (r : RowPart) : Mem :=
  (List.range (stPlanes s.format)).foldl (fun m p =>
    dramWrite d m (s.sampleAddr slot p r.line r.offset) ((planeSamples s.format p r.samples).flatMap (sampleBytes s.tenBit))) m

/-- Whether a row segment addresses samples outside the declared picture (R117). -/
def rowOutside (format w h : Nat) (r : RowPart) : Bool :=
  let px := if format = 0 then r.samples.length / 4 * 2 else r.samples.length / 3
  decide (h ≤ r.line) || decide (w < r.offset + px)

/-- Whether a context's setup suits its ST 2110-20 stream (R132). -/
def stSetupOk (s : Setup) (format w h : Nat) : Bool :=
  s.type == 2 && s.format == format && decide (w ≤ s.maxW) && decide (h ≤ s.maxH)

/-- An assembly slot for a frame that opens, or the drop of R132. -/
def stOpen (c : Nat) (x : Dev × Mem) : (Dev × Mem) × Option Nat :=
  let d := x.1.makeRoom (.ctx c) (x.1.dctx c).freeSlot.isNone
  let k := d.dctx c
  let n := d.ctx c
  match k.setup with
  | some s =>
    if !stSetupOk s (d.get R.CTX_CFG_FORMAT c) n.width n.height then
      (((d.unsupported c 10 (dcAgent c)).noSlot c, x.2), none)
    else if s.dpb ≤ (k.slots.filter fun e => e.2.writing).length then ((d.noSlot c, x.2), none)
    else match k.freeSlot with
      | some i => ((d.setDctx c (k.setSlot i { k.slot i with writing := true }), stFill s i n.width n.height d x.2), some i)
      | none => ((d.noSlot c, x.2), none)
  | none => (((d.unsupported c 10 (dcAgent c)).noSlot c, x.2), none)

/-! ### Frame assembly (R113 to R118) -/

/-- Agent of a context's frame assembly (R487). -/
def asmAgent (c : Nat) : Nat := 0x2100 + c

/-- RUNNING to RESYNC: open frames discarded, one event (R123). -/
def Dev.toResync (d : Dev) (c : Nat) : Dev :=
  if d.inState c = inRunning then
    ((d.discardFrames c).put R.CTX_STATUS_STATE inResync c).info .ctxResync (asmAgent c) c
  else d

/-- The lowest sequence number of a frame. -/
def OpenFrame.first (f : OpenFrame) : Nat :=
  let ref := (f.marker.map (·.1)).getD ((f.pkts.head?.map (·.seq)).getD 0)
  ofSigned 16 (Int.ofNat ref + (f.pkts.map fun p => sdiff 16 p.seq ref).foldl min 0)

/-- Whether a frame has a gap, given the marker of the frame that ended before it (R113). -/
def OpenFrame.gap (f : OpenFrame) (prev : Option Nat) : Bool :=
  match f.marker with
  | none => true
  | some mt =>
    let mk := mt.1
    let n := (sdiff 16 mk f.first + 1).toNat
    !((List.range n).all fun i => f.pkts.any fun p => p.seq == (f.first + i) % 65536) ||
      (match prev with
        | some e => !f.skipped && f.first != (e + 1) % 65536
        | none => false)

/-- The hold time of a context (R113, R121). -/
def Dev.holdTime (d : Dev) (c : Nat) : Nat :=
  if !d.on R.CTX_STATUS_DUAL c then 500 * qUs
  else match d.get R.CTX_CFG_MERGE c with
    | 0 => 10 * qMs
    | 1 => 50 * qMs
    | _ => 150 * qMs

/-- The parts of a frame in sequence order. -/
def OpenFrame.parts (f : OpenFrame) : List HeldPkt :=
  f.pkts.mergeSort fun a b => decide (sdiff 16 a.seq f.first ≤ sdiff 16 b.seq f.first)

/-- Whether a frame is a sync point (R124). -/
def syncPoint (st : Bool) (sets : List Nat) (f : OpenFrame) : Bool :=
  let ps := f.parts
  if st then (ps.head?.map (·.line0)).getD false
  else ps.any (fun p => (p.part.map (·.sync)).getD false) &&
    ps.all fun p => match p.part with
      | some a => a.uses.all sets.contains
      | none => true

/-- Count what the freshness SEI of a frame did (R270). -/
def Dev.countSei (d : Dev) (c : Nat) (sei : Option (List Byte)) : Dev :=
  match sei with
  | none => d
  | some s => if seiValid s then d.bump R.SEI_USED_COUNT c else d.bump R.SEI_BAD_COUNT c

/-- Keep the sequence numbers of a delivered frame (R118). -/
def Ctx.take (x : Ctx) (f : OpenFrame) : Ctx :=
  let ss := f.pkts.map (·.seq)
  let hi := ss.foldl (fun h s => match h with
    | none => some s
    | some v => if 0 < sdiff 16 s v then some s else some v) x.high
  { x with
    high := hi
    seen := ((ss ++ x.seen).eraseDups).filter fun s => match hi with
      | some v => decide (0 ≤ sdiff 16 v s)
      | none => true }

/-- A frame that passed every check is delivered (R114, R119, R123). -/
def deliverFrame (c : Nat) (f : OpenFrame) (pm : Postmark) (capt : Option Nat) (gap : Bool) (x : Dev × Mem) :
    Dev × Mem :=
  let d := x.1
  let st := d.ctxType c == 2
  let first := d.inState c = inResync
  let pm := { pm with flags := pm.flags ||| (if first then pmResync else 0) ||| b2n gap }
  let n := (d.ctx c).take f
  let d := d.setCtx c { n with
    lastCapt := (match capt with | some v => some v | none => n.lastCapt), delivered := n.delivered + 1
    endSeq := f.marker.map (·.1)
    ended := f.ts :: n.ended.filter (fun t => t != f.ts && decide (sdiff 32 f.ts t < 2 ^ 30)) }
  let d := if gap then d.bump R.FRAMES_IMPAIRED_COUNT c else d.bump R.FRAMES_OK_COUNT c
  let d := d.put R.CTX_STATUS_STATE inRunning c
  let d := (d.setReg R.CTX_PM_LO (pm.word % 2 ^ 32) c).setLatch R.CTX_PM_HI (pm.word / 2 ^ 32) c
  if st then
    match f.slot with
    | some i =>
      let k := d.dctx c
      if d.dcState c = dcWaitSync || d.dcState c = dcRunning then
        let d := (d.put R.DCTX_STATUS_STATE dcRunning c).setDctx c { k with num := k.num + 1 }
        pictureDone c i pm k.num false n.width n.height (d, x.2)
      else (d.setDctx c (k.setSlot i { k.slot i with writing := false }), x.2)
    | none => (d, x.2)
  else
    let ps := f.parts.filterMap (·.part)
    let sei := ps.findSome? (·.sei)
    let void := match sei with
      | some s => seiValid s && bit (beAt s 1 1) 2
      | none => false
    (d.deliver c ⟨pm, d.wt, f.stamp.wt, ps.findSome? (·.pic), ps.flatMap (·.carries), ps.flatMap (·.uses), void⟩, x.2)

/-- A closed frame leaves ingest (R114, R115, R119, R120, R123). -/
def finishFrame (c : Nat) (f : OpenFrame) (x : Dev × Mem) : Dev × Mem :=
  let d := x.1
  let st := d.ctxType c == 2
  let n := d.ctx c
  let gap := f.gap n.endSeq
  if !st && gap then (((d.endFrame c f).bump R.DISCARD_GAP_COUNT c).toResync c, x.2)
  else if d.inState c = inResync && !syncPoint st n.sets f then ((d.endFrame c f).bump R.DISCARD_SYNC_COUNT c, x.2)
  else
    let sei := (f.parts.filterMap (·.part)).findSome? (·.sei)
    let (pm, capt) := d.postmark c f sei
    let d := d.countSei c sei
    let back := match capt, n.lastCapt with
      | some a, some b => decide (sdiff 48 a b ≤ 0)
      | _, _ => false
    if back then
      let d := (d.endFrame c f).bump R.CAPT_BACKWARD_COUNT c
      (if st then d else d.toResync c, x.2)
    else deliverFrame c f pm capt gap (d, x.2)

/-- Closed frames leave in timestamp order; none overtakes an open one (R114). -/
def emitFrames (c : Nat) : Nat → Dev × Mem → Dev × Mem
  | 0, x => x
  | n + 1, x =>
    match (x.1.ctx c).frames with
    | f :: rest =>
      if f.closed then emitFrames c n (finishFrame c f (x.1.setCtx c { x.1.ctx c with frames := rest }, x.2)) else x
    | [] => x

/-- Change the open frame with a timestamp. -/
def Dev.updFrame (d : Dev) (c ts : Nat) (f : OpenFrame → OpenFrame) : Dev :=
  d.setCtx c { d.ctx c with frames := (d.ctx c).frames.map fun x => if x.ts = ts then f x else x }

/-- The open frame with a timestamp. -/
def Dev.frame? (d : Dev) (c ts : Nat) : Option OpenFrame := (d.ctx c).frames.find? fun f => f.ts == ts

/-- FRAME_CLOSE: the frame closes, and closed frames leave. -/
def closeFrame (c ts : Nat) (x : Dev × Mem) : Dev × Mem :=
  emitFrames c ((x.1.ctx c).frames.length + 1) (x.1.updFrame c ts fun f => { f with closed := true }, x.2)

/-- Put a frame in its place by timestamp. -/
def insertFrame (f : OpenFrame) : List OpenFrame → List OpenFrame
  | [] => [f]
  | g :: r => if 0 < sdiff 32 g.ts f.ts then f :: g :: r else g :: insertFrame f r

/-- Open a frame at its first accepted packet (R113, R132). -/
def openFrame (c ts : Nat) (x : Dev × Mem) : Dev × Mem :=
  let opened := (x.1.ctx c).frames.filter fun f => !f.closed
  let oldest := opened.foldl (fun (b : Option OpenFrame) f => match b with
    | none => some f
    | some g => if f.stamp.wt < g.stamp.wt then some f else some g) none
  let x := if 16 ≤ opened.length then (match oldest with | some f => closeFrame c f.ts x | none => x) else x
  let st := x.1.ctxType c == 2
  let (x, slot) := if st then stOpen c x else (x, none)
  let d := x.1
  if st && slot.isNone then
    let n := d.ctx c
    (d.setCtx c { n with ended := ts :: n.ended, noSlotTs := some ts }, x.2)
  else
    let n := d.ctx c
    let later := (n.frames.filter fun f => 0 < sdiff 32 f.ts ts).foldl (fun (b : Option Nat) f => match b with
      | none => some f.stamp.wt
      | some v => some (min v f.stamp.wt)) none
    let prev := (n.frames.filter fun f => 0 < sdiff 32 ts f.ts).getLast?
    let skipped := match n.noSlotTs with
      | some t => decide (0 < sdiff 32 ts t) && (match prev with
        | some p => decide (0 < sdiff 32 t p.ts)
        | none => true)
      | none => false
    let f : OpenFrame := ⟨ts, d.stampState c, [], none, later, false, 0, slot, skipped⟩
    let fs := n.frames.map fun g =>
      if g.marker.isNone && g.laterAt.isNone && 0 < sdiff 32 ts g.ts then { g with laterAt := some d.wt } else g
    (d.setCtx c { n with frames := insertFrame f fs }, x.2)

/-- A frame is discarded and the context resynchronises (R116, R117). -/
def dropFrame (c : Nat) (f : OpenFrame) (count : FldDesc) (x : Dev × Mem) : Dev × Mem :=
  let d := x.1
  let d := d.setCtx c { d.ctx c with frames := (d.ctx c).frames.filter fun g => g.ts != f.ts }
  let d := ((d.endFrame c f).bump count c).toResync c
  emitFrames c ((d.ctx c).frames.length + 1) (d, x.2)

/-- Mark a leg active; a path alarm that stood ends with one event (R122). -/
def Dev.legAlive (d : Dev) (c leg : Nat) : Dev :=
  let n := d.ctx c
  let alarm := if leg = 0 then n.alarm0 else n.alarm1
  let d := d.setCtx c (if leg = 0 then { n with leg0 := d.wt, alarm0 := false } else { n with leg1 := d.wt, alarm1 := false })
  let d := d.put (if leg = 0 then R.CTX_STATUS_LEG0_ACTIVE else R.CTX_STATUS_LEG1_ACTIVE) 1 c
  if alarm then d.info .legAlarm (asmAgent c) c leg else d

/-- A packet joins its open frame: oversize, row data, marker (R113, R117). -/
def joinFrame (c leg : Nat) (p : RtpPacket) (x : Dev × Mem) : Dev × Mem :=
  match x.1.frame? c p.ts with
  | none => x
  | some f =>
    let d := x.1
    let n := d.ctx c
    let (line0, part, size) : Bool × Option AuPart × Nat := match p.payload with
      | .au a => (false, some a, a.bytes)
      | .rows _ rs => (rs.any (fun r => r.line == 0 && r.offset == 0), none, 0)
    let f := { f with pkts := f.pkts ++ [⟨p.seq, leg, d.wt, line0, part⟩], bytes := f.bytes + size }
    let outside := match p.payload with
      | .rows _ rs => rs.any (rowOutside (d.get R.CTX_CFG_FORMAT c) n.width n.height)
      | .au _ => false
    if 8388608 < f.bytes || outside then dropFrame c f R.DISCARD_OVERSIZE_COUNT x
    else
      let f := if p.marker && f.marker.isNone then { f with marker := some (p.seq, d.wt) } else f
      let d := d.updFrame c p.ts fun _ => f
      let d := match part with
        | some a => d.setCtx c { d.ctx c with sets := ((d.ctx c).sets ++ a.carries).eraseDups }
        | none => d
      let m := match p.payload, f.slot, (d.dctx c).setup with
        | .rows _ rs, some i, some s => rs.foldl (stRow s i d) x.2
        | _, _, _ => x.2
      let before := ((d.ctx c).frames.filter fun g => 0 < sdiff 32 p.ts g.ts).getLast?
      let prev := match before with
        | some g => g.marker.map (·.1)
        | none => (d.ctx c).endSeq
      let noGap := before.all (fun g => g.marker.isSome) && !f.gap prev
      if p.marker && f.marker.map (·.1) = some p.seq && !d.on R.CTX_STATUS_DUAL c && noGap then closeFrame c p.ts (d, m)
      else (d, m)

/-- RTP_PACKET_ACCEPTED: a packet of a context (R111, R116, R118, R121). -/
def rtpPacket (c leg : Nat) (p : RtpPacket) (x : Dev × Mem) : Dev × Mem :=
  let d := x.1.legAlive c leg
  let second := b2n p.marker * 128 + p.pt
  let pt := d.get R.CTX_CFG_PT c
  let ok := match p.payload with
    | .au a => d.ctxType c != 2 && a.supported
    | .rows field rs => d.ctxType c == 2 && !field && decide (rs.length ≤ 3)
  if p.version ≠ 2 || (200 ≤ second && second ≤ 204) || (pt ≠ 0xFF && pt ≠ p.pt) || !ok then
    (d.bumpWrap R.PKT_COUNTS_UNSUPPORTED c, x.2)
  else
    let n := d.ctx c
    match n.frames.find? (fun f => f.pkts.any fun h => h.seq == p.seq) with
    | some f =>
      let d := if leg = 0 then d.updFrame c f.ts fun g => { g with
          pkts := g.pkts.map fun h => if h.seq = p.seq && h.leg = 1 && h.stamp = d.wt then { h with leg := 0 } else h }
        else d
      (d.bumpWrap R.PKT_COUNTS_DUP c, x.2)
    | none =>
      if n.seen.contains p.seq then (d.bumpWrap R.PKT_COUNTS_DUP c, x.2)
      else
        let open? := n.frames.find? fun f => f.ts == p.ts
        if n.ended.contains p.ts || (open?.map (·.closed)).getD false then (d.bumpWrap R.PKT_COUNTS_LATE c, x.2)
        else
          let x := if open?.isNone then openFrame c p.ts (d, x.2) else (d, x.2)
          joinFrame c leg p x

/-- A datagram's fate (R107, R109). -/
def udpFrame (port : Nat) (u : UdpInfo) (f : EthFrame) (x : Dev × Mem) : Dev × Mem :=
  let d := x.1
  let fw := ((d.bump R.ETH_RX_TOFW_COUNT port), x.2)
  let toFw : Dev × Mem := ({ fw.1 with net := { fw.1.net with toFw := (port, f) :: fw.1.net.toFw } }, fw.2)
  if u.dport = 319 || u.dport = 320 then toFw
  else match d.net.flows.find? (fun e => e.2.takes port u) with
    | none => (d.bump R.ETH_RX_UNUSED_COUNT port, x.2)
    | some (i, e) =>
      let d := d.bumpWrap R.FLOW_HITS_HITS i
      match bits e.ctrl.toNat 20 19 with
      | 1 => ({ toFw.1.bumpWrap R.FLOW_HITS_HITS i with net := toFw.1.net }, x.2)
      | 2 => (d, x.2)
      | _ =>
        let c := bits e.ctrl.toNat 7 0
        if d.inState c = inResync || d.inState c = inRunning then
          match u.rtp with
          | some p => rtpPacket c (if d.on R.CTX_STATUS_DUAL c then b2n (bit e.ctrl.toNat 21) else 0) p (d, x.2)
          | none => (d.bumpWrap R.PKT_COUNTS_UNSUPPORTED c, x.2)
        else (d.bump R.ETH_RX_UNUSED_COUNT port, x.2)

/-- ETH_FRAME_RECEIVED (R106, R107, R109). -/
def ethFrame (port size : Nat) (f : EthFrame) (x : Dev × Mem) : Dev × Mem :=
  let d := x.1
  if port > 3 || !d.on R.ETH_STATUS_LINK port || !d.on R.ETH_CTRL_ENABLE port || !d.clockAt 1 port then x
  else if d.get R.ETH_CTRL_MAX_FRAME port < size then (d.bump R.ETH_RX_FCS_COUNT port, x.2)
  else match f with
    | .badFcs => (d.bump R.ETH_RX_FCS_COUNT port, x.2)
    | .fragment => ((d.bump R.ETH_RX_OK_COUNT port).bump R.ETH_RX_FRAG_COUNT port, x.2)
    | .firmware =>
      let d := (d.bump R.ETH_RX_OK_COUNT port).bump R.ETH_RX_TOFW_COUNT port
      ({ d with net := { d.net with toFw := (port, f) :: d.net.toFw } }, x.2)
    | .other => ((d.bump R.ETH_RX_OK_COUNT port).bump R.ETH_RX_UNUSED_COUNT port, x.2)
    | .udp u => udpFrame port u f (d.bump R.ETH_RX_OK_COUNT port, x.2)

def execEthFrameReceived (t port size : Nat) (f : EthFrame) (s : State) : Host.Outcome State Fault Refusal :=
  s.onAll t (ethFrame port size f)

/-- FRAME_HOLD_EXPIRY (R113): the hold time after the marker, or after a later frame's first packet, has passed. -/
def holdExpiry (c ts : Nat) (x : Dev × Mem) : Dev × Mem :=
  match x.1.frame? c ts with
  | none => x
  | some f =>
    let due := match f.marker, f.laterAt with
      | some (_, w), _ => decide (w + x.1.holdTime c ≤ x.1.wt)
      | none, some w => decide (w + x.1.holdTime c ≤ x.1.wt)
      | none, none => false
    if due && !f.closed then closeFrame c ts x else x

def execFrameHoldExpiry (t c ts : Nat) (s : State) : Host.Outcome State Fault Refusal := s.onAll t (holdExpiry c ts)

/-- ASSEMBLY_TIMEOUT (R116). -/
def assemblyTimeout (c ts : Nat) (x : Dev × Mem) : Dev × Mem :=
  match x.1.frame? c ts with
  | none => x
  | some f =>
    let limit := ceilDiv (qS * (frameRate (x.1.get R.CTX_CFG_RATE c)).2 * x.1.get R.CTX_CFG_ASM_TIMEOUT c)
      (frameRate (x.1.get R.CTX_CFG_RATE c)).1
    if !f.closed && f.stamp.wt + limit ≤ x.1.wt then dropFrame c f R.DISCARD_PARTIAL_COUNT x else x

def execAssemblyTimeout (t c ts : Nat) (s : State) : Host.Outcome State Fault Refusal :=
  s.onAll t (assemblyTimeout c ts)

/-- LEG_INACTIVE (R122): 100 ms without a packet on a leg. -/
def legInactive (c leg : Nat) (d : Dev) : Dev :=
  let n := d.ctx c
  let last := if leg = 0 then n.leg0 else n.leg1
  let fld := if leg = 0 then R.CTX_STATUS_LEG0_ACTIVE else R.CTX_STATUS_LEG1_ACTIVE
  let other := if leg = 0 then R.CTX_STATUS_LEG1_ACTIVE else R.CTX_STATUS_LEG0_ACTIVE
  if 1 < leg || !d.on fld c || d.wt < last + 100 * qMs then d
  else
    let d := d.put fld 0 c
    if d.on R.CTX_STATUS_DUAL c && d.on other c then
      (d.setCtx c (if leg = 0 then { n with alarm0 := true } else { n with alarm1 := true })).info .legAlarm (asmAgent c) c leg
    else d

def execLegInactive (t c leg : Nat) (s : State) : Host.Outcome State Fault Refusal := s.onDev t (legInactive c leg)

/-! ### Commands (R125 to R127) -/

/-- Step 2 of R125, but for a zero ASM_TIMEOUT: the first field out of range. -/
def openBadField (c : Cmd) : Option Nat :=
  let ty := c.p 1 1
  let fl := c.p 3 1
  firstBad [(decide (ty ≤ 2), 1), (decide (c.p 2 1 ≤ 2), 2),
    (decide (fl < 64) && decide (bits fl 5 4 ≤ 2) && (bit fl 1 || bits fl 5 4 == 0), 3), (decide (c.p 4 1 ≤ 11), 4),
    (decide (c.p 5 1 ≤ 15) || c.p 5 1 == 0xFF, 5),
    (if ty = 2 then decide (c.p 6 1 ≤ 4) else c.p 6 1 == 0, 6),
    ((decide (96 ≤ c.p 7 1) && decide (c.p 7 1 ≤ 127)) || c.p 7 1 == 0xFF, 7),
    (if c.p 2 1 = 2 then decide (c.p 8 4 ≤ 10000000) else c.p 8 4 == 0, 8), (decide (c.p 12 2 ≤ 24999), 12),
    (if ty = 2 then decide (63 ≤ c.p 14 2) && decide (c.p 14 2 ≤ 4095) && (c.p 6 1 != 0 || c.p 14 2 % 2 == 1)
      else c.p 14 2 == 0, 14),
    (if ty = 2 then decide (63 ≤ c.p 16 2) && decide (c.p 16 2 ≤ 2159) else c.p 16 2 == 0, 16),
    (c.tailZero 18, (firstNonZero c.param 18).getD 18)]

/-- The reason that refuses an open at steps 4 and 5 (R126, R140); 0 when admitted. -/
def Dev.admission (d : Dev) (c : Cmd) : Nat :=
  let k := c.p 0 1
  let fl := c.p 3 1
  let own := (c.p 12 2 + 1) * (if bit fl 1 then 2 else 1)
  if bit fl 0 && d.ingestBudget < d.ingestLoad + own then 0x0404
  else if c.p 1 1 = 2 then 0
  else match (d.dctx k).setup with
    | none => 0x0603
    | some s =>
      if s.type ≠ c.p 1 1 then 0x0603
      else if !bit fl 0 then 0
      else if 400000000 < decLoad s (c.p 4 1) then 0x0604
      else if d.decCapacity < d.decGload + decLoad s (c.p 4 1) then 0x0605
      else 0

/-- The counters of a context (06, Context registers). -/
def ctxCounters : List RegDesc :=
  [R.FRAMES_OK, R.FRAMES_IMPAIRED, R.DISCARD_PARTIAL, R.DISCARD_GAP, R.DISCARD_SYNC, R.DISCARD_OVERSIZE,
   R.CAPT_BACKWARD, R.PKT_COUNTS]

/-- An admitted STREAM_OPEN (R123, R147): CTX_CFG is loaded, counters are zeroed, the pool starts FREE. -/
def Dev.openCtx (d : Dev) (c : Cmd) : Dev :=
  let k := c.p 0 1
  let fl := c.p 3 1
  let ty := c.p 1 1
  let asm := if c.p 5 1 = 0xFF then 2 else c.p 5 1
  let d := d.setReg R.CTX_CFG (ty * 2 ^ 30 + c.p 2 1 * 2 ^ 28 + bits fl 3 2 * 2 ^ 26 + bits fl 5 4 * 2 ^ 24 +
    c.p 4 1 * 2 ^ 20 + asm * 2 ^ 16 + c.p 6 1 * 2 ^ 12 + c.p 7 1) k
  let d := (d.setReg R.CTX_STATUS (inResync * 2 ^ 29 + b2n (bit fl 0) * 2 ^ 28 + b2n (bit fl 1) * 2 ^ 27) k)
  let d := (d.setReg R.CTX_ALLOW (c.p 8 4) k).setReg R.CTX_PEAK (c.p 12 2) k
  let d := ctxCounters.foldl (fun d r => d.setReg r 0 k) d
  let d := d.setCtx k { Ctx.init with
    width := if ty = 2 then c.p 14 2 + 1 else 0, height := if ty = 2 then c.p 16 2 + 1 else 0 }
  let d := d.setReg R.DCTX_STATUS (dcWaitSync * 2 ^ 29) k
  let x := (d.dctx k).mapSlots fun s => { s with isRef := false, out := false }
  let d := d.setDctx k { Dctx.init with setup := x.setup, slots := x.slots }
  let d := d.setReg R.DCTX_LOAD (ceilDiv (d.ctxLoad k) 1000) k
  d.ingestRegs.decRegs

/-- STREAM_OPEN (R125). -/
def streamOpen (q seq : Nat) (d : Dev) : Dev :=
  d.onCmd q seq 0x0400 fun c d =>
    let k := c.p 0 1
    if d.inState k ≠ inClosed || d.get R.ENC_STATUS_STATE k ≠ 0 then
      d.finish q seq Status.rejected 0x0401 (d.inState k)
    else
      let bad := openBadField c
      if c.p 5 1 = 0 && decide (5 ≤ bad.getD 28) then d.finish q seq Status.zeroRejected (36 + 5)
      else match bad with
      | some i => d.finish q seq Status.rejected 0x0402 i
      | none =>
        if c.p 2 1 = 1 && d.img.tb1Domain = 0xFF then d.reject q seq 0x0403
        else
          let why := d.admission c
          if why ≠ 0 then
            let d := d.setReg R.CTX_STATUS (inRefused * 2 ^ 29 + why) k
            let d := d.setReg R.DCTX_STATUS (dcRefused * 2 ^ 29 + 4 * 2 ^ 26 + why) k
            (d.info .ctxRefused 0x2FFF k why).finish q seq Status.refused why inRefused
          else (d.openCtx c).succeed q seq inResync

def execStreamOpen (t q seq : Nat) (s : State) : Host.Outcome State Fault Refusal := s.onDev t (streamOpen q seq)

/-- A context closes (R123, R147): frames discarded, a frame in an engine will be discarded, REF and OUT cleared. -/
def Dev.closeCtx (d : Dev) (c : Nat) : Dev :=
  let d := d.discardFrames c
  let d := (d.setCtx c Ctx.init).setReg R.CTX_STATUS 0 c
  let d := { d with dec := { d.dec with
    engines := d.dec.engines.map fun (e : Nat × Engine) => if e.2.ctx = c then (e.1, { e.2 with dead := true }) else e
    shedStack := d.dec.shedStack.filter (· != c) } }
  let x := (d.dctx c).mapSlots fun s => { s with isRef := false, out := false }
  let d := d.setDctx c { Dctx.init with setup := x.setup, slots := x.slots }
  (((d.setReg R.DCTX_STATUS 0 c).setReg R.DCTX_LOAD 0 c).ingestRegs).decRegs

/-- STREAM_CLOSE (R127): RESULT is the frames delivered since the open. -/
def streamClose (q seq : Nat) (d : Dev) : Dev :=
  d.onCmd q seq 0x0401 fun c d => d.withTail q seq c 1 fun d =>
    let k := c.p 0 1
    if d.inState k = inClosed then d.succeed q seq 0
    else
      let n := (d.ctx k).delivered
      (d.closeCtx k).succeed q seq (n % 2 ^ 32)

def execStreamClose (t q seq : Nat) (s : State) : Host.Outcome State Fault Refusal := s.onDev t (streamClose q seq)

/-- Memberships of a port. -/
def Dev.members (d : Dev) (p : Nat) : List Membership := tabGetD d.net.members [] p

/-- Set the memberships of a port. -/
def Dev.setMembers (d : Dev) (p : Nat) (ms : List Membership) : Dev :=
  { d with net := { d.net with members := tabSet d.net.members [] p ms } }

/-- The ports of a mask. -/
def maskPorts (m : Nat) : List Nat := (List.range 4).filter fun p => bit m p

/-- The membership that a command and its record name (R127). -/
def memberOf (c : Cmd) (bs : List Byte) : Membership :=
  let v6 := c.p 2 1 == 1
  ⟨v6, c.p 1 1 == 1, leAt bs 0 (if v6 then 16 else 4), leAt bs 16 (if v6 then 16 else 4)⟩

/-- The fields of MCAST_JOIN and MCAST_LEAVE. -/
def mcastBad (c : Cmd) : Option Nat :=
  firstBad [(decide (0 < c.p 0 1) && decide (c.p 0 1 < 16), 0), (decide (c.p 1 1 ≤ 1), 1), (decide (c.p 2 1 ≤ 1), 2),
    (c.p 3 1 == 0, 3)]

/-- MCAST_JOIN (R127). -/
def mcastJoin (q seq : Nat) (d : Dev) : Dev :=
  d.onCmd q seq 0x0402 fun c d =>
    match mcastBad c with
    | some i => d.bad q seq i
    | none => d.withTail q seq c 12 fun d => d.withHost q seq c fun bs d =>
      let m := memberOf c bs
      let ps := maskPorts (c.p 0 1)
      if ps.any fun p => !(d.members p).contains m && decide (256 ≤ (d.members p).length) then d.reject q seq 0x0405
      else
        let d := ps.foldl (fun d p => if (d.members p).contains m then d else d.setMembers p (d.members p ++ [m])) d
        d.succeed q seq (d.members (ps.headD 0)).length

def execMcastJoin (t q seq : Nat) (s : State) : Host.Outcome State Fault Refusal := s.onDev t (mcastJoin q seq)

/-- MCAST_LEAVE (R127). -/
def mcastLeave (q seq : Nat) (d : Dev) : Dev :=
  d.onCmd q seq 0x0403 fun c d =>
    match mcastBad c with
    | some i => d.bad q seq i
    | none => d.withTail q seq c 12 fun d => d.withHost q seq c fun bs d =>
      let m := memberOf c bs
      let ps := maskPorts (c.p 0 1)
      let d := ps.foldl (fun d p => d.setMembers p ((d.members p).filter (· != m))) d
      d.succeed q seq (d.members (ps.headD 0)).length

def execMcastLeave (t q seq : Nat) (s : State) : Host.Outcome State Fault Refusal := s.onDev t (mcastLeave q seq)

end Sys2Proof.Machine
end

