-- ==== Sys2Proof/Machine/Pixel.lean ====
section
/-! DEFINITION. The 18-bit linear pixel pipeline (09), to the bit. -/

namespace Sys2Proof.Machine

/-! ### Arithmetic -/

/-- `n / d` rounded: half of the divisor added, then floored (R166). -/
def rdiv (n : Int) (d : Nat) : Int := (2 * n + d) / (2 * d : Nat)

/-- Restrict to [a, b]. -/
def clampTo (a b v : Int) : Int := max a (min b v)

/-- The largest value of `bits` bits that meets a downward closed property, from `acc` on. -/
def searchUp (p : Nat → Bool) : Nat → Nat → Nat
  | 0, acc => acc
  | b + 1, acc => searchUp p b (if p (acc + 2 ^ b) then acc + 2 ^ b else acc)

/-- Unit of the fixed-point reals in which PQ, HLG and the filters are computed, 2⁹⁶ (log 14). -/
def fx : Nat := 2 ^ 96

/-- ln 2 in units of 2⁻⁹⁶. -/
def ln2Fx : Nat := 54916777467707473351141471128

/-- π in units of 2⁻⁹⁶. -/
def piFx : Nat := 248902613312231085230521944622

/-- Σ t^(2i+1) / (2i+1), `n` terms from index `i`, with t² and the present power. -/
def atanhSum (t2 : Nat) : Nat → Nat → Nat → Nat
  | 0, _, _ => 0
  | n + 1, i, pow => pow / (2 * i + 1) + atanhSum t2 n (i + 1) (pow * t2 / fx)

/-- ln (num / den) in units of 2⁻⁹⁶, for positive num and den. -/
def lnFx (num den : Nat) : Int :=
  let k : Int := (num.log2 : Int) - den.log2
  let n := if k < 0 then num * 2 ^ k.natAbs else num
  let m := if k < 0 then den else den * 2 ^ k.natAbs
  let t := if m ≤ n then (n - m) * fx / (n + m) else (m - n) * fx / (n + m)
  let s : Int := 2 * atanhSum (t * t / fx) 45 0 t
  k * ln2Fx + (if m ≤ n then s else -s)

/-- Σ rⁱ / i!, `n` terms. -/
def expSum (r : Nat) : Nat → Nat → Nat → Nat
  | 0, _, _ => 0
  | n + 1, i, term => term + expSum r n (i + 1) (term * r / fx / (i + 1))

/-- exp y in units of 2⁻⁹⁶. -/
def expFx (y : Int) : Nat :=
  let k := y / ln2Fx
  let r := (y - k * ln2Fx).toNat
  let e := expSum r 45 0 fx
  if 0 ≤ k then e * 2 ^ k.natAbs else e / 2 ^ k.natAbs

/-- (num / den) ^ (p / q) in units of 2⁻⁹⁶. -/
def powFx (num den p q : Nat) : Nat := if num = 0 then 0 else expFx (lnFx num den * p / q)

/-! ### Transfer functions (R175, R185) -/

/-- Largest working value. -/
def wMax : Nat := 0x3FFFF
/-- 1.0. -/
def one16 : Nat := 0x10000

/-- round (65,536 × (num / den)^(12/5)), halves up. -/
def pow24 (num den : Nat) : Nat :=
  searchUp (fun n => (2 * n - 1) ^ 5 * den ^ 12 ≤ 32 * 65536 ^ 5 * num ^ 12) 18 0

/-- F of PQ times 65,536, rounded. -/
def pqIn (e : Nat) : Nat :=
  let x := powFx e 65536 32 2523
  let c1 := fx * 3424 / 4096
  if x ≤ c1 then 0
  else
    let b := fx * 2413 / 128 - x * 2392 / 128
    let p := powFx (x - c1) b 8192 1305
    (2 * 65536 * 10000 * p + 203 * fx) / (2 * 203 * fx)

/-- F of HLG times 65,536, rounded. -/
def hlgIn (e : Nat) : Nat :=
  let h :=
    if e ≤ 32768 then e * e * fx / (3 * 65536 ^ 2)
    else
      (expFx (((e * 10 ^ 8 : Nat) - (55991073 * 65536 : Nat) : Int) * fx / (65536 * 17883277 : Nat)) +
        fx * 28466892 / 10 ^ 8) / 12
  let p := powFx h fx 6 5
  (2 * 65536 * 1000 * p + 203 * fx) / (2 * 203 * fx)

/-- IN_TF (R175): 0 LINEAR, 1 SRGB, 2 BT1886, 3 PQ, 4 HLG. -/
def inTf (tf e : Nat) : Nat :=
  min wMax (match tf with
    | 1 => if e * 100000 ≤ 4045 * 65536 then (2 * e * 100 + 1292) / (2 * 1292)
        else pow24 (1000 * e + 55 * 65536) (1055 * 65536)
    | 2 => pow24 e 65536
    | 3 => pqIn e
    | 4 => hlgIn e
    | _ => e)

/-- floor (65,472 × G(w / 65,536)) for PQ. -/
def pqOut (w : Nat) : Nat :=
  let x := powFx (w * 203) (65536 * 10000) 1305 8192
  let a := fx * 3424 / 4096 + x * 2413 / 128
  let b := fx + x * 2392 / 128
  65472 * powFx a b 2523 32 / fx

/-- The integer square root of `n`: bits `k − 1` down to 0 are tried above `r`. -/
def sqrtBits : Nat → Nat → Nat → Nat
  | 0, r, _ => r
  | k + 1, r, n => sqrtBits k (if (r + 2 ^ k) * (r + 2 ^ k) ≤ n then r + 2 ^ k else r) n

/-- floor (65,472 × G(w / 65,536)) for HLG. -/
def hlgOut (w : Nat) : Nat :=
  let y := powFx (w * 203) (65536 * 1000) 5 6
  if 12 * y ≤ fx then 65472 * sqrtBits 100 0 (3 * y * fx) / fx
  else
    let l := lnFx (12 * y - fx * 28466892 / 10 ^ 8) fx
    (65472 * (l * 17883277 / 10 ^ 8 + (fx * 55991073 / 10 ^ 8 : Nat)) / fx).toNat

/-- The 10-bit code with six fraction bits (R185): 1 SRGB, 2 BT1886, 3 PQ, 4 HLG. -/
def outTf (tf w : Nat) : Nat :=
  let l := min w one16
  match tf with
  | 1 =>
    if l * 10 ^ 7 ≤ 31308 * 65536 then 65472 * 1292 * l / (100 * 65536)
    else searchUp (fun v => (1000 * v + 55 * 65472) ^ 12 * 65536 ^ 5 ≤ l ^ 5 * (1055 * 65472) ^ 12) 16 0
  | 2 => searchUp (fun v => v ^ 12 * 65536 ^ 5 ≤ l ^ 5 * 65472 ^ 12) 16 0
  | 3 => pqOut w
  | _ => hlgOut w

/-! ### Working pixels -/

/-- A working pixel: colour and alpha (R167). -/
structure Px where
  r : Nat
  g : Nat
  b : Nat
  a : Nat
  deriving DecidableEq, Repr

/-- Opaque black. -/
def Px.black : Px := ⟨0, 0, 0, one16⟩

/-- Apply a function to the colour components. -/
def Px.colour (p : Px) (f : Nat → Nat) : Px := ⟨f p.r, f p.g, f p.b, p.a⟩

/-! ### Source layouts (R168) -/

/-- Depth of a layout's components. -/
def Layout.depth : Layout → Nat
  | .p420 t => if t then 10 else 8
  | .p422 t => if t then 10 else 8
  | .p444 t _ => if t then 10 else 8
  | .packed422 => 8
  | .packed _ => 8

/-- Address of a sample of a plane of samples of one or two bytes. -/
def SrcView.planeAddr (v : SrcView) (ten : Bool) (plane x y : Nat) : Nat :=
  v.addr + plane * v.pitch * v.planeH + y * v.pitch + x * (if ten then 2 else 1)

/-- A sample of a plane (R133). -/
def SrcView.sample (v : SrcView) (m : Mem) (ten : Bool) (plane x y : Nat) : Nat :=
  if ten then m.le (v.planeAddr ten plane x y) 2 / 64 else m.le (v.planeAddr ten plane x y) 1

/-- The nearest index inside 0 to n − 1. -/
def nearIdx (n : Nat) (i : Int) : Nat := (clampTo 0 (n - 1 : Nat) i).toNat

/-- Horizontal chroma interpolation between samples of chroma resolution (R171). -/
def chromaH (c : Int → Nat) (x : Nat) : Nat := if x % 2 = 0 then c (x / 2 : Nat) else (c (x / 2 : Nat) + c (x / 2 + 1 : Nat) + 1) / 2

/-- Vertical chroma interpolation (R171). -/
def chromaV (c : Int → Nat) (y : Nat) : Nat :=
  (3 * c (y / 2 : Nat) + c (if y % 2 = 0 then (y / 2 : Nat) - 1 else (y / 2 : Nat) + 1) + 2) / 4

/-- Codes Y, Cb, Cr of a pixel after upsampling (R171). -/
def SrcView.ycc (v : SrcView) (m : Mem) (x y : Nat) : Nat × Nat × Nat :=
  let cw := (v.width + 1) / 2
  let ch := (v.height + 1) / 2
  match v.layout with
  | .p420 t =>
    let at' : Nat → Int → Int → Nat := fun k i j => v.sample m t 1 (2 * nearIdx cw i + k) (nearIdx ch j)
    let up : Nat → Nat := fun k => chromaH (fun i => chromaV (fun j => at' k i j) y) x
    (v.sample m t 0 x y, up 0, up 1)
  | .p422 t =>
    let up : Nat → Nat := fun k => chromaH (fun i => v.sample m t 1 (2 * nearIdx cw i + k) y) x
    (v.sample m t 0 x y, up 0, up 1)
  | .p444 t _ => (v.sample m t 0 x y, v.sample m t 1 x y, v.sample m t 2 x y)
  | .packed422 =>
    let a := v.addr + y * v.pitch
    let up : Nat → Nat := fun k => chromaH (fun i => m.le (a + 4 * nearIdx cw i + k) 1) x
    (m.le (a + 2 * x) 1, up 1, up 3)
  | .packed _ => (0, 0, 0)

/-- Normalised luma, or R, G, B of ST 2110-20 (R172). -/
def normY (full : Bool) (n c : Nat) : Int :=
  let s : Nat := 2 ^ (n - 8)
  if full then rdiv (c * 65536) (2 ^ n - 1) else rdiv (((c : Int) - (16 * s : Nat)) * 65536) (219 * s)

/-- Normalised chroma (R172). -/
def normC (full : Bool) (n c : Nat) : Int :=
  let s : Nat := 2 ^ (n - 8)
  if full then rdiv (((c : Int) - 2 ^ (n - 1)) * 65536) (2 ^ n - 1)
  else rdiv (((c : Int) - (128 * s : Nat)) * 65536) (224 * s)

/-- A full-range component or alpha (R172). -/
def normFull (n c : Nat) : Nat := (rdiv (c * 65536) (2 ^ n - 1)).toNat

/-- Coefficients K_RCr, K_GCb, K_GCr, K_BCb of a MATRIX (R173). -/
def matrixK (m : Nat) : Int × Int × Int × Int :=
  match m with
  | 0 => (25802, 3069, 7670, 30402)
  | 1 => (22970, 5638, 11700, 29032)
  | _ => (24160, 2696, 9361, 30825)

/-- Restrict a normalised component to [0, 1.0]. -/
def unit16 (v : Int) : Nat := (clampTo 0 65536 v).toNat

/-- YCbCr to R'G'B' (R173). -/
def toRgb (matrix : Nat) (y cb cr : Int) : Px :=
  let (krcr, kgcb, kgcr, kbcb) := matrixK matrix
  ⟨unit16 ((16384 * y + krcr * cr + 8192) / 16384), unit16 ((16384 * y - kgcb * cb - kgcr * cr + 8192) / 16384),
   unit16 ((16384 * y + kbcb * cb + 8192) / 16384), one16⟩

/-- R'G'B' and alpha of a packed surface word (R168, R172); 6 stands for the words of a writeback buffer (R225). -/
def packedPx (fmt w : Nat) : Px :=
  match fmt with
  | 0 => ⟨normFull 8 (bits w 23 16), normFull 8 (bits w 15 8), normFull 8 (bits w 7 0), normFull 8 (bits w 31 24)⟩
  | 1 => ⟨normFull 8 (bits w 23 16), normFull 8 (bits w 15 8), normFull 8 (bits w 7 0), one16⟩
  | 2 => ⟨normFull 10 (bits w 29 20), normFull 10 (bits w 19 10), normFull 10 (bits w 9 0), normFull 2 (bits w 31 30)⟩
  | 6 => ⟨normFull 10 (bits w 29 20), normFull 10 (bits w 19 10), normFull 10 (bits w 9 0), one16⟩
  | 3 => ⟨normFull 5 (bits w 15 11), normFull 6 (bits w 10 5), normFull 5 (bits w 4 0), one16⟩
  | _ => ⟨normFull 16 (bits w 47 32), normFull 16 (bits w 31 16), normFull 16 (bits w 15 0), normFull 16 (bits w 63 48)⟩

/-- Bytes of a packed pixel. -/
def packedBytes (fmt : Nat) : Nat := if fmt = 3 then 2 else if fmt = 4 then 8 else 4

/-- Bytes_l of surface format FMT (R168). -/
def fmtBytes (fmt : Nat) : Nat := if fmt = 3 || fmt = 5 then 2 else if fmt = 4 then 8 else 4

/-- Normalised R'G'B' and alpha of a pixel (R166 stages 1 to 5). -/
def SrcView.norm (v : SrcView) (m : Mem) (x y : Nat) : Px :=
  match v.layout with
  | .packed fmt => packedPx fmt (m.le (v.addr + y * v.pitch + x * packedBytes fmt) (packedBytes fmt))
  | .p444 t true =>
    let n := if t then 10 else 8
    let (g, b, r) := v.ycc m x y
    ⟨unit16 (normY v.full n r), unit16 (normY v.full n g), unit16 (normY v.full n b), one16⟩
  | l =>
    let (cy, cb, cr) := v.ycc m x y
    toRgb v.matrix (normY v.full l.depth cy) (normC v.full l.depth cb) (normC v.full l.depth cr)

/-- The lines that hold a pixel's own samples (R170). -/
def SrcView.blocks (v : SrcView) (x y : Nat) : List Nat :=
  match v.layout with
  | .packed fmt => [(v.addr + y * v.pitch + x * packedBytes fmt) / 64]
  | .packed422 => [(v.addr + y * v.pitch + 2 * x) / 64]
  | .p420 t => [v.planeAddr t 0 x y / 64, v.planeAddr t 1 (x / 2 * 2) (y / 2) / 64]
  | .p422 t => [v.planeAddr t 0 x y / 64, v.planeAddr t 1 (x / 2 * 2) y / 64]
  | .p444 t _ => [v.planeAddr t 0 x y / 64, v.planeAddr t 1 x y / 64, v.planeAddr t 2 x y / 64]

/-! ### Alpha, transfer function and gamut (R174 to R177) -/

/-- Stage 6: un-premultiply a component. -/
def unpremult (e a : Nat) : Nat := if a = 0 then 0 else min 65536 ((e * 65536 + a / 2) / a)

/-- Multiply by alpha (R174). -/
def mulAlpha (c a : Nat) : Nat := (c * a + 32768) / 65536

/-- Gamut conversion matrices, BT.709 to BT.2020 and back (R176). -/
def gamutRows (fromG : Nat) : (Int × Int × Int) × (Int × Int × Int) × (Int × Int × Int) :=
  if fromG = 0 then ((10279, 5395, 710), (1132, 15066, 186), (269, 1442, 14673))
  else ((27206, -9628, -1194), (-2041, 18562, -137), (-297, -1648, 18329))

/-- One output of a gamut matrix. -/
def gamutOut (row : Int × Int × Int) (p : Px) : Nat :=
  (clampTo 0 wMax ((row.1 * p.r + row.2.1 * p.g + row.2.2 * p.b + 8192) / 16384)).toNat

/-- Gamut conversion (R176). -/
def gamut (src dst : Nat) (p : Px) : Px :=
  if src = dst then p
  else
    let (r, g, b) := gamutRows src
    ⟨gamutOut r p, gamutOut g p, gamutOut b p, p.a⟩

/-- Stages 6 to 9: from normalised R'G'B' to premultiplied linear light. ALPHA is 0 OPAQUE, 1 STRAIGHT, 2 PREMULT. -/
def linearise (alpha tf src dst : Nat) (p : Px) : Px :=
  let p := if alpha = 0 then { p with a := one16 } else p
  let pre := alpha == 2 && tf != 0
  let p := if pre then p.colour fun c => unpremult c p.a else p
  let p := gamut src dst (p.colour (inTf tf))
  if alpha = 0 || (alpha == 2 && tf == 0) then p else p.colour fun c => mulAlpha c p.a

/-- A 10:10:10:2 colour in the head's transfer function (R177). -/
def codeColour (tf w : Nat) : Px :=
  let c : Nat → Nat := fun v => inTf tf (rdiv (v * 65536) 1023).toNat
  ⟨c (bits w 29 20), c (bits w 19 10), c (bits w 9 0), normFull 2 (bits w 31 30)⟩

/-- A FILL or marker colour: straight alpha from A2 (R177). -/
def fillColour (tf w : Nat) : Px :=
  let p := codeColour tf w
  p.colour fun c => mulAlpha c p.a

/-! ### Scaler (R179 to R182) -/

/-- Box factor of a direction (R179). -/
def boxFactor (nearest : Bool) (src dst : Nat) : Nat :=
  if nearest || src / dst < 2 then 1 else 2 ^ (src / dst).log2

/-- Rounded mean of pixels. -/
def meanPx (ps : List Px) : Px :=
  let f : (Px → Nat) → Nat := fun k => (2 * (ps.map k).sum + ps.length) / (2 * ps.length)
  ⟨f (·.r), f (·.g), f (·.b), f (·.a)⟩

/-- Box pixel `j` of a row of `n` pixels. -/
def boxPx (k n : Nat) (src : Nat → Px) (j : Nat) : Px :=
  if k = 1 then src j else meanPx ((List.range (min k (n - j * k))).map fun i => src (j * k + i))

/-- Position n and phase p of a destination index (R180). -/
def scalePos (s d k i : Nat) : Int × Nat :=
  let inc := (rdiv (s * 65536) (d * k)).toNat
  let pos : Int := (((2 * i + 1) * inc : Nat) - 65536) / 2
  let p := ((pos % 65536).toNat + 512) / 1024
  if p = 64 then (pos / 65536 + 1, 0) else (pos / 65536, p)

/-- Σ (−1)ⁱ x^(2i+1) / (2i+1)!, signed, `n` terms. -/
def sinSum (x2 : Nat) : Nat → Nat → Int → Int
  | 0, _, _ => 0
  | n + 1, i, term => term + sinSum x2 n (i + 1) (-(term * x2 / fx) / ((2 * i + 2) * (2 * i + 3) : Nat))

/-- sin (π n / m) in units of 2⁻⁹⁶. -/
def sinPi (n m : Nat) : Int :=
  let k := n % (2 * m)
  let x := piFx * (k % m) / m
  let s := sinSum (x * x / fx) 40 0 x
  if k < m then s else -s

/-- sinc (n / m) in units of 2⁻⁹⁶. -/
def sincFx (n m : Nat) : Int := if n = 0 then fx else sinPi n m * fx / (piFx * n / m : Nat)

/-- L(x, a) at x = n / 64 (R181). -/
def lanczos (a n : Nat) : Int := if n < 64 * a then sincFx n 64 * sincFx n (64 * a) / fx else 0

/-- Taps of a polyphase filter: tap and coefficient in units of 2⁻¹⁴ (R181). -/
def polyTaps (a p : Nat) : List (Int × Int) :=
  let ts : List Int := (List.range (2 * a)).map fun (i : Nat) => (i : Int) - (a - 1 : Nat)
  let ws : List (Int × Int) := ts.map fun t => (t, lanczos a (64 * t - (p : Int)).natAbs)
  let sum := (ws.map (·.2)).sum
  let c := ws.map fun w => (w.1, rdiv (16384 * w.2) sum.toNat)
  let mid : Int := if p < 32 then 0 else 1
  let others := ((c.filter fun e => e.1 != mid).map (·.2)).sum
  c.map fun e => if e.1 = mid then (e.1, 16384 - others) else e

/-- Taps of a filter in a direction: FILTER 0 POLYPHASE, 1 BILINEAR, 2 NEAREST (R181). -/
def taps (filter : Nat) (vertical : Bool) (p : Nat) : List (Int × Int) :=
  match filter with
  | 0 => polyTaps (if vertical then 3 else 4) p
  | 1 => [(0, 16384 - 256 * p), (1, 256 * p)]
  | _ => if p < 32 then [(0, 16384)] else [(1, 16384)]

/-- One filter output (R180, R182). -/
def filterPx (filter : Nat) (vertical : Bool) (s d k : Nat) (box : Nat → Px) (i : Nat) : Px :=
  let (n, p) := scalePos s d k i
  let count := (s + k - 1) / k
  let ts := (taps filter vertical p).map fun t => (box (nearIdx count (n + t.1)), t.2)
  let f : (Px → Nat) → Nat → Nat := fun c lim =>
    (clampTo 0 lim (((ts.map fun t => (c t.1 : Int) * t.2).sum + 8192) / 16384)).toNat
  ⟨f (·.r) wMax, f (·.g) wMax, f (·.b) wMax, f (·.a) one16⟩

/-- A destination pixel of a layer from its crop (R166 stage 10, R179 to R182): a layer whose sizes agree bypasses the
scaler. The box stage reduces columns, then lines (log 15). -/
def scaledPx (filter sw sh dw dh : Nat) (crop : Nat → Nat → Px) (i j : Nat) : Px :=
  if sw = dw && sh = dh then crop i j
  else
    let kh := boxFactor (filter == 2) sw dw
    let kv := boxFactor (filter == 2) sh dh
    let col : Nat → Nat → Px := fun x y => boxPx kh sw (fun x' => crop x' y) x
    let vert : Nat → Px := fun x => filterPx filter true sh dh kv (fun y => boxPx kv sh (fun y' => col x y') y) j
    filterPx filter false sw dw kh vert i

/-! ### Blending and output (R184 to R186) -/

/-- Blend a layer's pixel over what lies below it (R184). -/
def blend (opacity : Nat) (d s : Px) : Px :=
  let o := min opacity one16
  let a := mulAlpha s.a o
  let f : Nat → Nat → Nat := fun dc sc => min wMax (mulAlpha sc o + mulAlpha dc (one16 - a))
  ⟨f d.r s.r, f d.g s.g, f d.b s.b, one16⟩

/-- The dither matrix (R186). -/
def ditherM : List (List Nat) :=
  [[0, 32, 8, 40, 2, 34, 10, 42], [48, 16, 56, 24, 50, 18, 58, 26], [12, 44, 4, 36, 14, 46, 6, 38],
   [60, 28, 52, 20, 62, 30, 54, 22], [3, 35, 11, 43, 1, 33, 9, 41], [51, 19, 59, 27, 49, 17, 57, 25],
   [15, 47, 7, 39, 13, 45, 5, 37], [63, 31, 55, 23, 61, 29, 53, 21]]

/-- T (R186). -/
def ditherT (on : Bool) (x y : Nat) : Nat := if on then (ditherM.getD (y % 8) []).getD (x % 8) 0 else 32

/-- The stored 10-bit code of one component (R185, R186). -/
def storedCode (tf : Nat) (bpc10 : Bool) (t w : Nat) : Nat :=
  let v := outTf tf w
  if bpc10 then min 1023 ((v + t) / 64) else min 255 ((v * 255 / 1023 + t) / 64) * 4

/-- The stored 10:10:10:2 word of a head pixel (R186). -/
def storedWord (tf : Nat) (bpc10 dither : Bool) (x y : Nat) (p : Px) : Nat :=
  let c := storedCode tf bpc10 (ditherT dither x y)
  c p.r * 2 ^ 20 + c p.g * 2 ^ 10 + c p.b

end Sys2Proof.Machine
end

