-- ==== Sys2Proof/Machine/Layers.lean ====
section
/-! DEFINITION. Layer descriptors, commits and their validation, admission and canvases (08). -/

namespace Sys2Proof.Machine

/-! ### Heads and groups (R46, R48, R150) -/



/-- COMPOSE_BINDING of a group. -/
def Dev.binding (d : Dev) (g : Nat) : Option BindingEntry :=
  match d.boot.image with
  | none => none
  | some im => im.bindings.find? fun e => e.group == g

/-- RESERVE of a requester and index, MB/s (R49). -/
def Dev.reserve (d : Dev) (requester index : Nat) : Nat :=
  match d.boot.image with
  | none => 0
  | some im => ((im.bandwidth.find? fun e => e.1 == requester && e.2.1 == index).map (·.2.2)).getD 0

/-- Clusters of a group in service. -/
def Dev.groupClusters (d : Dev) (g : Nat) : List Nat :=
  match d.binding g with
  | none => []
  | some b => (List.range 6).filter fun k => bit b.clusters k && !d.lay.clustersOut.contains k

/-- Guaranteed capacity of a group, layer-pixels per second (R159). -/
def Dev.capacity (d : Dev) (g : Nat) : Nat := 3000000000 * (d.groupClusters g).length

/-- The frame-store partition of a head: base and size (R188). -/
def Dev.partition (d : Dev) (h : Nat) : Nat × Nat :=
  match d.boot.image with
  | none => (0, 0)
  | some im => ((im.frameStore.find? fun e => e.1 == h).map (·.2)).getD (0, 0)


/-- A frame of a head. -/
def HeadSt.frame? (x : HeadSt) (n : Nat) : Option FrameSt := tabGet? x.frames n
/-- Set a frame of a head. -/
def Dev.setFrame (d : Dev) (h n : Nat) (f : FrameSt) : Dev :=
  d.setHead h { d.head h with frames := tabPut (d.head h).frames n f }

/-- The mode in force of a head. -/
def Dev.modeOf (d : Dev) (h : Nat) : ModeRow := modeRow (d.get R.HEAD_MODE_CUR_MODE h)
/-- The lead of a head for the boundaries to come (R192). -/
def Dev.leadOf (d : Dev) (h : Nat) : Nat := (d.head h).leadNext.getD (d.get R.HEAD_CHASE_LEAD_CUR_LEAD h)

/-- Largest lead time of a group's heads under their modes in force, quarter nanoseconds. -/
def Dev.groupLead (d : Dev) (g : Nat) : Nat :=
  ((d.groupHeads g).map fun h => (d.modeOf h).lines (d.leadOf h)).foldl max 0

/-- BG(N) of a group (R150). -/
def Dev.groupBoundary (d : Dev) (g n : Nat) : Nat :=
  match d.groupHeads g with
  | [] => 0
  | h :: _ => (d.modeOf h).start n - d.groupLead g

/-- First N with BG(N) at or after a working time. -/
def Dev.groupNext (d : Dev) (g w : Nat) : Nat :=
  match d.groupHeads g with
  | [] => 0
  | h :: _ => (d.modeOf h).nextFrame (d.groupLead g) w

/-- The staged settings of a head (R153). -/
def Dev.staged (d : Dev) (h : Nat) : HeadSet :=
  ⟨d.reg R.HEAD_CHASE_LEAD h, d.reg R.HEAD_OUT_FMT h, d.reg R.HEAD_MODE h, d.reg R.HEAD_ASYNC h,
   d.reg R.HEAD_WB_CTRL h, d.reg R.HEAD_WB_BASE_LO h, d.reg R.HEAD_WB_BASE_HI h⟩

/-- The settings of a head in force. -/
def Dev.inForce (d : Dev) (h : Nat) : HeadSet :=
  ⟨d.reg R.HEAD_CHASE_LEAD_CUR h, d.reg R.HEAD_OUT_FMT_CUR h, d.reg R.HEAD_MODE_CUR h, (d.head h).async,
   (d.head h).wbCtrl, (d.head h).wbLo, (d.head h).wbHi⟩

/-- The mode of a set of head settings. -/
def HeadSet.row (s : HeadSet) : ModeRow := modeRow (s.mode % 64)
/-- WB_BASE of a set of head settings. -/
def HeadSet.wbBase (s : HeadSet) : Nat := bits s.wbHi 3 0 * 2 ^ 32 + bits s.wbLo 31 16 * 65536
/-- Whether writeback is on. -/
def HeadSet.wbOn (s : HeadSet) : Bool := bit s.wbCtrl 31
/-- FMT of the writeback. -/
def HeadSet.wbFmt (s : HeadSet) : Nat := bits s.wbCtrl 27 26

/-- Pitch P of a writeback buffer (R225). -/
def wbPitch (fmt w : Nat) : Nat := roundUp (match fmt with | 0 => 4 * w | 1 => w | _ => 2 * w) 256
/-- Size of a writeback buffer (R225). -/
def wbSize (fmt w h : Nat) : Nat :=
  roundUp (if fmt = 0 then wbPitch fmt w * h else ceilDiv (wbPitch fmt w * h * 3) 2) 4096 + 4096
/-- Number of buffers (R225). -/
def HeadSet.wbBufs (s : HeadSet) : Nat := bits s.wbCtrl 19 18 + 2
/-- Size of the ring. -/
def HeadSet.wbRing (s : HeadSet) : Nat := s.wbBufs * wbSize s.wbFmt s.row.w s.row.h
/-- Twice Bytes_l of a writeback format (R225). -/
def wbBytes2 (fmt : Nat) : Nat := match fmt with | 0 => 8 | 1 => 3 | _ => 6

/-! ### Sources -/




/-- Geometry of a pool of slots. -/
def Dev.poolSetup (d : Dev) : Pool → Option Setup
  | .ctx c => (d.dctx c).setup
  | .recv r => (tabGet? d.sys.recvs r).map (·.setup)
  | .wb _ => none



/-- Settings that a commit gives a head: its snapshot's, or those in force. -/
def Dev.setOf (d : Dev) (hs : Tab HeadSet) (h : Nat) : HeadSet := (tabGet? hs h).getD (d.inForce h)

/-- Source bounds for SRC_OUTSIDE (R152): none when the source is unknown; a bound of 0 is no bound. -/
def Dev.sourceBounds (d : Dev) (hs : Tab HeadSet) (w : List Nat) : Option (Nat × Nat) :=
  match ldType w with
  | 0 =>
    let c := ldF w 5 7 0
    if d.ctxType c = 2 && (d.ctx c).width ≠ 0 then some ((d.ctx c).width, (d.ctx c).height)
    else (d.dctx c).setup.map fun s => (s.maxW, s.maxH)
  | 3 => (d.recvOf (ldF w 5 24 16) (ldF w 5 7 0)).map fun e => (e.2.setup.maxW, e.2.setup.maxH)
  | 4 =>
    let h := ldF w 5 4 0
    if (d.headEntry h).isSome && (d.setOf hs h).wbOn then some ((d.setOf hs h).row.w, (d.setOf hs h).row.h) else none
  | 5 =>
    let p := ldF w 5 0 0
    let m := d.get R.TCH_CTRL_MARK_SIZE p
    if d.on R.TCH_CTRL_ENABLE p && 8 ≤ m then some (m, m) else none
  | _ => some (0, 0)

/-- Twice Bytes_l of a layer's source (R159, R168). -/
def Dev.bytes2 (d : Dev) (hs : Tab HeadSet) (w : List Nat) : Nat :=
  match ldType w with
  | 1 => 2 * fmtBytes (ldFmt w)
  | 2 => 2 * fmtBytes (ldFmt w)
  | 4 => wbBytes2 (d.setOf hs (ldF w 5 4 0)).wbFmt
  | _ =>
    match d.poolOf w with
    | some p => ((d.poolSetup p).map fun s => s.k2 * s.bs).getD 0
    | none => 0

/-- The page-aligned surface range of a RAW or HOST layer (R161): first byte, byte after the last. -/
def ldRange (w : List Nat) : Nat × Nat :=
  let lo := ldSurf w + ldPitch w * ldSy w
  let hi := ldSurf w + ldPitch w * (ldSy w + ldSh w)
  (lo / 4096 * 4096, roundUp hi 4096)

/-! ### Visible rectangles and cost (R159) -/

/-- A layer's visible rectangle: columns and lines, first and last; empty when a last lies before a first. -/
structure Vis where
  xl : Int
  xr : Int
  yt : Int
  yb : Int
  deriving DecidableEq, Repr

/-- The visible rectangle on a head of a mode (R159, R238). -/
def visible (w : List Nat) (m : ModeRow) : Vis :=
  ⟨max (ldX w) 0, min (ldX w + ldDw w - 1) (m.w - 1), max (ldY w) 0, min (ldY w + ldDh w - 1) (m.h - 1)⟩

/-- Whether a rectangle holds a pixel. -/
def Vis.some (v : Vis) : Bool := v.xl ≤ v.xr && v.yt ≤ v.yb
/-- DWv. -/
def Vis.w (v : Vis) : Nat := (v.xr - v.xl + 1).toNat
/-- DHv. -/
def Vis.h (v : Vis) : Nat := (v.yb - v.yt + 1).toNat

/-- SWc (R159). -/
def cropW (w : List Nat) (m : ModeRow) : Nat := ceilDiv (ldSw w * (visible w m).w) (ldDw w)
/-- SHc (R159). -/
def cropH (w : List Nat) (m : ModeRow) : Nat := ceilDiv (ldSh w * (visible w m).h) (ldDh w)

/-- cost_l (R159). -/
def layerCost (w : List Nat) (m : ModeRow) : Nat :=
  if ldType w = 5 then ldDw w + 64
  else if ldSh w ≤ ldDh w then (visible w m).w + 64
  else ceilDiv ((visible w m).w * ldSh w) (ldDh w) + 64

/-- First and last line a layer costs on (R159). -/
def costLines (w : List Nat) (m : ModeRow) : Nat × Nat :=
  if ldType w = 5 then (0, m.h - 1) else ((visible w m).yt.toNat, (visible w m).yb.toNat)

/-- Sum of two fractions. -/
def fracAdd (a b : Nat × Nat) : Nat × Nat := (a.1 * b.2 + b.1 * a.2, a.2 * b.2)

/-- D_h over the given layers, as a fraction (R159). -/
def headDemand (m : ModeRow) (ws : List (List Nat)) : Nat × Nat :=
  let at' : Nat → Nat := fun y => (ws.map fun w =>
    if (costLines w m).1 ≤ y && y ≤ (costLines w m).2 then layerCost w m else 0).sum
  let top := ((0 :: ws.map fun w => (costLines w m).1).map at').foldl max 0
  ((m.w + top) * m.clkNum, m.clkDen * m.hTotal)

/-- The sum of D_h over the heads of a group, for the given layers (R159). -/
def groupDemand (hs : List (Nat × ModeRow)) (ws : List (List Nat)) : Nat × Nat :=
  hs.foldl (fun a h => fracAdd a (headDemand h.2 (ws.filter fun w => ldHead w == h.1))) (0, 1)

/-- Φ_l as a fraction (R159). -/
def fetchDemand (b2 : Nat) (w : List Nat) (m : ModeRow) : Nat × Nat :=
  (cropW w m * cropH w m * b2 * m.clkNum, 2 * m.clkDen * m.hTotal * m.vTotal)

/-! ### Validation (R158) -/

/-- Reason codes of 08, 10, 11 and 12. -/
def rBadGroup : Nat := 0x0801
/-- GROUP_RATE. -/
def rGroupRate : Nat := 0x0802
/-- UPDATE_SCOPE. -/
def rUpdateScope : Nat := 0x0803
/-- SHED_PRESSURE. -/
def rShedPressure : Nat := 0x0815
/-- CAPACITY_LOST of layers. -/
def rCapacityLost : Nat := 0x0816

/-- What a commit is validated against. -/
structure VCtx where
  groups : List Nat
  /-- Heads of the groups with their settings. -/
  hs : Tab HeadSet
  /-- Layers in scope, with the words of the snapshot. -/
  snap : Tab (List Nat)
  /-- Layers of the whole module as earlier commits leave them. -/
  proj : Tab (List Nat)
  named : List Nat
  tasters : Tab (List Nat)
  deriving DecidableEq, Repr

/-- A REJECTED verdict. -/
def rej (reason detail : Nat) (result : Nat := 0) : Verdict := ⟨Status.rejected, reason, detail, result⟩

/-- The first verdict of a list. -/
def firstOf : List (Option Verdict) → Option Verdict
  | [] => none
  | some v :: _ => some v
  | none :: r => firstOf r

/-- Step 4 (a): offset of the first descriptor word with a field out of range or a reserved bit set (R152, R158, R169,
R233 and the field tables). -/
def badField (w : List Nat) : Option Nat :=
  let t := ldType w
  let surf := ldSurface w
  let src := ldSource w
  let fmt := w.getD 9 0
  let bytes := (ldSx w + ldSw w) * fmtBytes (ldFmt w)
  let checks : List (Bool × Nat) := [
    (ldRole w != 3 && t != 7 && ldF w 0 22 13 == 0, 0x00),
    (ldDw w ≤ 8192 && ldDh w ≤ 8192, 0x08),
    (ldSx w ≤ 8191 && ldSy w ≤ 8191, 0x0C),
    (ldSw w ≤ 8192 && ldSh w ≤ 8192 &&
      (!surf || (bytes ≤ ldPitch w && (ldFmt w != 5 || (ldSx w % 2 == 0 && ldSw w % 2 == 0)))), 0x10),
    ((match t with
      | 0 => src < 256
      | 3 => src &&& 0x01FF00FF == src
      | 4 => src < 32
      | 5 => src < 2
      | 6 => true
      | _ => src == 0), 0x14),
    (if surf then w.getD 6 0 % 256 == 0 else w.getD 6 0 == 0, 0x18),
    (if surf then w.getD 7 0 < 16 else w.getD 7 0 == 0, 0x1C),
    (if surf then w.getD 8 0 % 256 == 0 && 256 ≤ w.getD 8 0 && w.getD 8 0 ≤ 1048320 else w.getD 8 0 == 0, 0x20),
    (if t == 4 || t == 5 || t == 6 then fmt == 0
      else (if surf then ldFmt w ≤ 5 else ldFmt w == 0) && bits fmt 27 26 != 3 && bits fmt 24 22 < 5 &&
        bits fmt 21 20 < 2 && bits fmt 19 0 == 0, 0x24),
    (ldF w 10 31 30 != 3 && ldF w 10 29 28 != 3 && ldF w 10 27 18 == 0, 0x28),
    (w.getD 11 0 ≤ 60000000 && w.getD 11 0 ≤ w.getD 12 0, 0x2C),
    (w.getD 12 0 ≤ 60000000, 0x30),
    (ldF w 13 31 30 != 3 && ldF w 13 29 28 != 3 && ldF w 13 27 26 != 3 && ldF w 13 21 10 == 0, 0x34)] ++
    (List.range 8).map fun j => (w.getD (16 + j) 0 == 0, 0x40 + 4 * j)
  firstBad checks

/-- Step 4 (b): offset of the first field that must not be 0 and is. -/
def zeroField (w : List Nat) : Option Nat :=
  firstBad [(ldDw w != 0 && ldDh w != 0, 0x08), (ldSw w != 0 && ldSh w != 0, 0x10), (w.getD 11 0 != 0, 0x2C),
    (w.getD 12 0 != 0, 0x30)]

/-- Whether a SRC_TYPE is permitted for a ROLE (R152). -/
def roleOk (w : List Nat) : Bool :=
  match ldType w with
  | 1 => ldRole w == 1
  | 2 => ldRole w ≤ 1
  | 5 => ldRole w == 2
  | 6 => ldRole w == 1
  | _ => ldRole w == 0

/-- DW / SW or DH / SH lies outside 1/8 to 16. -/
def scaleBad (s d : Nat) : Bool := 8 * d < s || 16 * s < d

/-- Step 4 for one layer. -/
def checkLayer (d : Dev) (x : VCtx) (l : Nat) (w : List Nat) : Option Verdict :=
  match badField w, zeroField w with
  | some off, _ => some (rej 0x0804 l (off * 65536))
  | none, some off => some ⟨Status.zeroRejected, off, l, 0⟩
  | none, none =>
    if !ldEnable w then none
    else if !roleOk w then some (rej 0x0805 l)
    else match tabGet? x.hs (ldHead w) with
    | none => some (rej 0x0806 l)
    | some hset =>
      match d.sourceBounds x.hs w with
      | none => some (rej 0x0807 l)
      | some (bw, bh) =>
        if (bw != 0 && (bw < ldSx w + ldSw w || bh < ldSy w + ldSh w)) || (ldType w == 6 && ldScaled w) then
          some (rej 0x0808 l)
        else if ldSurface w && 2 ^ 36 < (ldRange w).2 then some (rej 0x0809 l)
        else if ldType w != 5 && !(visible w hset.row).some then some (rej 0x080A l)
        else if scaleBad (ldSw w) (ldDw w) || scaleBad (ldSh w) (ldDh w) then some (rej 0x080B l)
        else none

/-- The layers of the module once the commit has applied, ascending. -/
def VCtx.after (x : VCtx) : Tab (List Nat) :=
  (x.snap.foldl (fun t e => tabPut t e.1 e.2) x.proj).filter fun e => ldEnable e.2

/-- Whether a layer is bound to a view, and to which (R248). -/
def ldView (w : List Nat) : Option Nat := if ldF w 13 22 22 == 1 then some (ldF w 13 9 0) else none

/-- VIEW_CONFLICT (R248): the second layer, in ascending number, that would be bound to one view. -/
def viewConflict : List Nat → Tab (List Nat) → Option Verdict
  | _, [] => none
  | seen, (l, w) :: r =>
    match ldView w with
    | none => viewConflict seen r
    | some v => if seen.contains v then some (rej 0x0A01 l) else viewConflict (v :: seen) r

/-- Whether a port carries MST: two enabled heads name it (R212). -/
def Dev.mstPort (d : Dev) (p : Nat) : Bool :=
  1 < (d.enabledHeads.filter fun h => ((d.headEntry h).map (·.port % 16)) == some p).length

/-- Port of a head. -/
def Dev.headPort (d : Dev) (h : Nat) : Nat := ((d.headEntry h).map (·.port % 16)).getD 0

/-- Whether two byte ranges overlap. -/
def rangesMeet (a n b m : Nat) : Bool := decide (a < b + m) && decide (b < a + n)

/-- Whether a head's writeback ring leaves DRAM or overlaps a pool or another head's ring (R228). -/
def wbRangeBad (d : Dev) (x : VCtx) (h : Nat) (s : HeadSet) : Bool :=
  let a := s.wbBase
  let n := s.wbRing
  decide (2 ^ 36 < a + n) ||
    (d.dec.ctxs.any fun e => match e.2.setup with | some k => rangesMeet a n k.base k.poolSize | none => false) ||
    d.enabledHeads.any fun o => o != h && (d.setOf x.hs o).wbOn &&
      rangesMeet a n (d.setOf x.hs o).wbBase (d.setOf x.hs o).wbRing

/-- Whether the writeback of the module exceeds its reserve (R228). -/
def wbBudgetBad (d : Dev) (x : VCtx) : Bool :=
  let t := d.enabledHeads.foldl (fun a h =>
    let s := d.setOf x.hs h
    if s.wbOn then fracAdd a (s.row.w * s.row.h * wbBytes2 s.wbFmt * s.row.clkNum,
      2 * s.row.clkDen * s.row.hTotal * s.row.vTotal) else a) (0, 1)
  decide (1000000 * d.reserve 3 0 * t.2 < t.1)

/-- Step 5 for one head, before the tasters (R158, R188, R192, R213, R228). -/
def checkHead (d : Dev) (x : VCtx) (h : Nat) (s : HeadSet) : Option Verdict :=
  let m := s.row
  let mx := modeRow (((d.headEntry h).map (·.maxMode)).getD 0)
  if mx.w * mx.h < m.w * m.h || mx.clkNum * m.clkDen < m.clkNum * mx.clkDen then some (rej 0x080C h)
  else if (d.partition h).2 < 4 * m.w * m.h then some (rej 0x080D h)
  else if m.h ≤ s.lead then some (rej 0x0901 h)
  else if d.mstPort (d.headPort h) && !m.mst then some (rej 0x0903 h)
  else if s.wbFmt == 3 || bits s.wbCtrl 25 24 % 2 == 1 || bits s.wbCtrl 19 18 == 3 then some (rej 0x0904 h)
  else if s.wbOn && wbRangeBad d x h s then some (rej 0x0905 h)
  else if s.wbOn && wbBudgetBad d x then some (rej 0x0906 h)
  else none

/-- A field of word `i` of a taster's settings. -/
def tsF (w : List Nat) (i hi lo : Nat) : Nat := bits (w.getD i 0) hi lo

/-- Settings of a taster: the staged or the current words. -/
def Dev.tstStaged (d : Dev) (k : Nat) : List Nat :=
  [d.reg R.TST_CTRL k, d.reg R.TST_POS k, d.reg R.TST_SIZE k] ++ ((List.range 8).map fun j => d.reg R.TST_EXP k j) ++ [0]
/-- The current words of a taster. -/
def Dev.tstCur (d : Dev) (k : Nat) : List Nat := (List.range 12).map fun j => d.reg R.TST_CUR k j

/-- Tasters with a setting that is not 0, staged or current, ascending. -/
def Dev.tstKeys (d : Dev) : List Nat :=
  ((d.regs.filter fun e => 0xA10000 ≤ e.1 && e.1 < 0xA30000 && e.1 % 128 < 0x70).map fun e =>
    (e.1 - 0xA10000) / 128).eraseDups

/-- HEAD of a taster's settings. -/
def tsHead (w : List Nat) : Nat := tsF w 0 27 23
/-- ENABLE of a taster's settings. -/
def tsEnable (w : List Nat) : Bool := tsF w 0 31 31 == 1

/-- Step 5 for one taster (R247). -/
def checkTaster (x : VCtx) (k : Nat) (w : List Nat) : Option Verdict :=
  let m := (tabGet? x.hs (tsHead w)).map (·.row)
  if !tsEnable w then none
  else if tsF w 2 31 16 == 0 || tsF w 2 15 0 == 0 then some ⟨Status.zeroRejected, 0x08, k, 0⟩
  else if 3 < tsF w 0 30 28 || (tsF w 0 30 28 == 3 && tsF w 3 15 0 == 0) then some (rej 0x0A02 k)
  else match m with
    | none => some (rej 0x0A02 k)
    | some m =>
      if m.w < tsF w 1 31 16 + tsF w 2 31 16 || m.h < tsF w 1 15 0 + tsF w 2 15 0 then some (rej 0x0A02 k) else none

/-- TASTER_LINES (R247): the first taster whose region would make a line of its head hold more than 64. -/
def tasterLines : List (List Nat) → Tab (List Nat) → Option Verdict
  | _, [] => none
  | seen, (k, w) :: r =>
    if !tsEnable w then tasterLines seen r
    else
      let top := tsF w 1 15 0
      let all := w :: seen.filter fun v => tsHead v == tsHead w
      let covers : Nat → Nat := fun y => (all.filter fun v => tsF v 1 15 0 ≤ y && y < tsF v 1 15 0 + tsF v 2 15 0).length
      let lines := (top :: all.map fun v => tsF v 1 15 0).filter fun y => top ≤ y && y < top + tsF w 2 15 0
      if lines.any fun y => 64 < covers y then some (rej 0x0A03 k) else tasterLines (w :: seen) r

/-- Scalers of a group that can be given: wide and narrow, ascending (R158, R183). -/
def Dev.scalers (d : Dev) (g : Nat) (narrow : Bool) : List Nat :=
  match d.binding g with
  | none => []
  | some b => ((List.range 64).filter fun i => bit (if narrow then b.narrow else b.wide) i).map
      (fun i => if narrow then 64 + i else i) |>.filter fun i => !d.on R.SCALER_STATUS_FAILED i

/-- Step 7: scalers of the scaled layers of one group, in the three passes of R158. -/
def allocScalers (wide narrow : List Nat) (ls : List (Nat × Nat)) : Tab Nat ⊕ Verdict :=
  match ls.find? fun e => 4096 < e.2 with
  | some (l, _) => .inr (rej 0x0810 l)
  | none =>
    let big := (ls.filter fun e => 2048 < e.2).map (·.1)
    let small := (ls.filter fun e => e.2 ≤ 2048).map (·.1)
    match big.drop wide.length with
    | l :: _ => .inr (rej 0x0810 l)
    | [] =>
      let pool := narrow ++ wide.drop big.length
      match small.drop pool.length with
      | l :: _ => .inr (rej 0x0811 l)
      | [] => .inl ((big.zip wide ++ small.zip pool).foldl (fun t e => tabPut t e.1 e.2) [])

/-- Step 8: the first layer whose range would be the 2,049th in the lease guard (R394). -/
def leaseFull : List (Nat × Nat) → Tab (List Nat) → Option Verdict
  | _, [] => none
  | have', (l, w) :: r =>
    if !ldSurface w || have'.contains (ldRange w) then leaseFull have' r
    else if 2048 ≤ have'.length then some (rej 0x0812 l)
    else leaseFull (ldRange w :: have') r

/-- Step 9 for one group: the first layer whose addition breaks a limit, and DG and DA (R159). -/
def admission (d : Dev) (x : VCtx) (g : Nat) (ls : Tab (List Nat)) : (Nat × Nat) × Option Verdict :=
  let hs := (d.groupHeads g).map fun h => (h, (d.setOf x.hs h).row)
  let row : List Nat → ModeRow := fun w => (d.setOf x.hs (ldHead w)).row
  let cap := d.capacity g
  let gl := ls.filter fun e => ldGuaranteed e.2
  let bl := ls.filter fun e => !ldGuaranteed e.2
  let tooMuch : Tab (List Nat) → Nat → Bool := fun t lim =>
    let s := groupDemand hs (t.map (·.2))
    decide (lim * s.2 < s.1)
  let step : Tab (List Nat) → Nat → Nat → Option Nat := fun t n lim =>
    ((List.range (t.length + 1)).find? fun i => decide (n ≤ i) && tooMuch (t.take i) lim).bind fun i =>
      (t[i - 1]?).map (·.1)
  let fetch : Tab (List Nat) → Bool := fun t =>
    let s := t.foldl (fun a e => fracAdd a (fetchDemand (d.bytes2 x.hs e.2) e.2 (row e.2))) (0, 1)
    decide (1000000 * d.reserve 0 g * s.2 < s.1)
  let dg := groupDemand hs (gl.map (·.2))
  let da := groupDemand hs (ls.map (·.2))
  let sums := (ceilDiv dg.1 dg.2, ceilDiv da.1 da.2)
  let refused : Nat → Nat → Verdict := fun r l => ⟨Status.refused, r, l, 0⟩
  match step gl 1 cap with
  | some l => (sums, some (refused 0x0813 l))
  | none =>
    match step (gl ++ bl) (gl.length + 1) (cap / 3 * 4) with
    | some l => (sums, some (refused 0x0813 l))
    | none =>
      match ((List.range (gl.length + 1)).find? fun i => fetch (gl.take i)).bind fun i => (gl[i - 1]?).map (·.1) with
      | some l => (sums, some (refused 0x0814 l))
      | none => (sums, none)

/-- Whether a layer stands shed. -/
def Dev.isShed (d : Dev) (l : Nat) : Bool := d.get R.LAYER_STATUS_SERVICE l == 3

/-- Steps 2 and 3 (R150, R158). -/
def checkGroups (d : Dev) (x : VCtx) (entries : List Nat) : Option Verdict :=
  match x.groups.find? fun g => (d.binding g).isNone || (d.groupHeads g).isEmpty with
  | some g => some (rej rBadGroup g)
  | none =>
    let rate : Nat → Option ModeRow := fun g => (d.groupHeads g).head?.map fun h => (d.setOf x.hs h).row
    let differs : Nat → Bool := fun g => match rate g with
      | none => false
      | some m =>
        ((d.groupHeads g).any fun h => !m.sameRate (d.setOf x.hs h).row) ||
        (d.on R.GRP_CANVAS_MEMBER g &&
          (((List.range 6).any fun k => d.on R.GRP_CANVAS_MEMBER k &&
              d.get R.GRP_CANVAS_CANVAS k == d.get R.GRP_CANVAS_CANVAS g &&
              (match rate k with | some m' => !m.sameRate m' | none => false)) ||
            (!(x.groups.any fun k => k != g) &&
              (tabGetD d.lay.dir [] (d.get R.GRP_CANVAS_CANVAS g)).any fun e => e.module != d.moduleId &&
                !m.sameRate (modeRow e.mode) && m != ((d.groupHeads g).head?.map d.modeOf).getD m)))
    match x.groups.find? differs with
    | some g => some (rej rGroupRate g)
    | none =>
      match entries.find? fun l => (tabGet? x.snap l).isNone with
      | some l => some (rej rUpdateScope l)
      | none => none

/-- Steps 4 to 6. -/
def checkBody (d : Dev) (x : VCtx) : Option Verdict :=
  let after := x.after
  let en := x.snap.filter fun e => ldEnable e.2
  firstOf (x.snap.map (fun e => checkLayer d x e.1 e.2) ++
    [viewConflict [] after] ++
    x.hs.map (fun e => checkHead d x e.1 e.2) ++
    x.tasters.map (fun e => checkTaster x e.1 e.2) ++
    [tasterLines ((d.tstKeys.filter fun k => (tabGet? x.tasters k).isNone && tsEnable (d.tstCur k)).map d.tstCur)
      x.tasters] ++
    x.hs.map (fun e => if 64 < (en.filter fun l => ldHead l.2 == e.1).length then some (rej 0x080E e.1) else none) ++
    [(after[1024]?).map fun e => rej 0x080F e.1])

/-- Validation from step 2 on (R158): a verdict of failure, or the scalers and demands of the snapshot. -/
def validate (d : Dev) (x : VCtx) : Verdict ⊕ Snap :=
  match checkGroups d x x.named with
  | some v => .inl v
  | none =>
    match checkBody d x with
    | some v => .inl v
    | none =>
      let en := x.snap.filter fun e => ldEnable e.2
      let row : List Nat → ModeRow := fun w => (d.setOf x.hs (ldHead w)).row
      let inG : Nat → Tab (List Nat) := fun g => en.filter fun e => d.headGroup (ldHead e.2) == g
      let scal := x.groups.map fun g => allocScalers (d.scalers g false) (d.scalers g true)
        (((inG g).filter fun e => ldScaled e.2).map fun e => (e.1, cropW e.2 (row e.2)))
      match scal.findSome? fun r => match r with | .inr v => some v | .inl _ => none with
      | some v => .inl v
      | none =>
        match leaseFull ((d.prot.leases.map fun e => (e.2.base, e.2.base + e.2.pages * 4096)).eraseDups) en with
        | some v => .inl v
        | none =>
          let adm : Nat → Tab (List Nat) := fun g =>
            (inG g).filter fun e => x.named.contains e.1 || !d.isShed e.1
          let res := x.groups.map fun g => (g, admission d x g (adm g))
          match res.findSome? fun r => r.2.2 with
          | some v => .inl v
          | none => .inr {
              layers := x.snap, heads := x.hs, tasters := x.tasters, named := x.named
              scalers := scal.foldl (fun t r => match r with
                | .inl s => s.foldl (fun t e => tabPut t e.1 e.2) t
                | .inr _ => t) []
              costs := x.groups.foldl (fun t g => (adm g).foldl (fun t e => tabPut t e.1 (layerCost e.2 (row e.2))) t) []
              demand := res.map fun r => (r.1, r.2.1) }

/-! ### A commit's life (R153 to R157) -/

/-- Whether a commit still stands: its command is not complete, or it came as a PREPARE. -/
def Dev.commitLive (d : Dev) (c : Commit) : Bool := c.canvas.isSome || (d.cmd? c.q c.seq).isSome

/-- Commits that stand, in order of acceptance. -/
def Dev.commits (d : Dev) : List Commit := d.lay.commits.filter d.commitLive

/-- The commit of a queue and SEQ. -/
def Dev.commit? (d : Dev) (q seq : Nat) : Option Commit := d.commits.find? fun c => c.q == q && c.seq == seq

/-- Replace the commits. -/
def Dev.setCommits (d : Dev) (cs : List Commit) : Dev := { d with lay := { d.lay with commits := cs } }

/-- Remove a commit. -/
def Dev.dropCommit (d : Dev) (q seq : Nat) : Dev :=
  d.setCommits (d.commits.filter fun c => !(c.q == q && c.seq == seq))

/-- Change a commit. -/
def Dev.updCommit (d : Dev) (q seq : Nat) (f : Commit → Commit) : Dev :=
  d.setCommits (d.commits.map fun c => if c.q == q && c.seq == seq then f c else c)

/-- Put a commit in its place in the order of acceptance (R154). -/
def insertCommit (c : Commit) : List Commit → List Commit
  | [] => [c]
  | x :: r => if c.order < x.order then c :: x :: r else x :: insertCommit c r

/-- A commit that has just been queued. -/
def Commit.start (q seq order : Nat) (groups : List Nat) (check : Bool) (canvas : Option Nat)
    (entries : List (List Byte)) : Commit :=
  { q := q, seq := seq, groups := groups, order := order, check := check, canvas := canvas, st := .queued,
    entries := entries, verdict := none, snap := .init, target := none, ta := none, late := false, readyAt := 0,
    done := [], freed := [] }

/-- Whether an accepted command is a COMMIT that takes a place in group `g`'s order (R154, R165). -/
def Cmd.isCommitOf (c : Cmd) (g : Nat) : Bool :=
  c.opcode == 0x0800 && c.st != .done && !c.entryErr && c.p 0 1 == g && !bit (c.p 1 1) 0 && !c.remote

/-- GRP_PENDING of every group (08, "Status registers"). -/
def Dev.grpPending (d : Dev) : Dev :=
  (List.range 6).foldl (fun d g =>
    let n := (d.host.queues.map fun e => (e.2.cmds.filter fun c => c.isCommitOf g).length).sum +
      (d.commits.filter fun c => c.canvas.isSome && c.groups.contains g).length
    d.put R.GRP_PENDING_PENDING (min n 0xFFFF) g) d

/-- COMMIT (R154, R165): the command takes its place in its group's order. -/
def commitQueue (q seq : Nat) (d : Dev) : Dev :=
  d.onCmd q seq 0x0800 fun c d =>
    match firstBad [(c.p 0 1 < 6, 0), (c.p 1 1 < 2, 1), (c.p 2 2 ≤ 1024, 2)] with
    | some i => d.bad q seq i
    | none => d.withTail q seq c 12 fun d =>
      if (d.commit? q seq).isSome then d
      else (d.setCommits (insertCommit (.start q seq c.order [c.p 0 1] (bit (c.p 1 1) 0) none []) d.commits)).grpPending

def execCommit (t q seq : Nat) (s : State) : Host.Outcome State Fault Refusal := s.onDev t (commitQueue q seq)

/-- Whether an earlier commit of one of the groups is not yet READY (R154, R156). -/
def Dev.orderBlocked (d : Dev) (c : Commit) : Bool :=
  !c.check && c.groups.any fun g =>
    (d.commits.any fun x => !x.check && x.groups.contains g && x.order < c.order && x.st != .ready) ||
    d.host.queues.any fun e => e.2.cmds.any fun x =>
      x.isCommitOf g && x.order < c.order && (d.commit? e.1 x.seq).isNone

/-- The layers of the module as the commits that are READY will leave them (R156). -/
def Dev.projected (d : Dev) : Tab (List Nat) :=
  let cur := d.curLayers.map fun l => (l, d.curLd l)
  (d.commits.filter fun c => c.st == .ready).foldl (fun t c =>
    c.snap.layers.foldl (fun t e => tabPut t e.1 e.2) t) cur

/-- Write the update entries into the shadows, in list order (R153). -/
def Dev.writeEntries (d : Dev) (es : List (List Byte)) : Dev :=
  es.foldl (fun d e => d.setShadow (leAt e 2 2) ((List.range 24).map fun j => leAt e (32 + 4 * j) 4)) d

/-- The snapshot of a commit on some groups (R153): layers, heads and tasters in scope. -/
def Dev.snapshot (d : Dev) (groups named : List Nat) : VCtx :=
  let hs := groups.flatMap d.groupHeads
  let proj := d.projected
  let keys := ((proj.map (·.1)) ++ d.shadowLayers ++ named).eraseDups.mergeSort (· ≤ ·)
  let inScope : Nat → Bool := fun l =>
    match tabGet? proj l with
    | some w =>
      if ldEnable w then hs.contains (ldHead w)
      else hs.contains (ldHead (d.shadowLd l)) && ((d.shadowLd l).any (· != 0) || named.contains l)
    | none => hs.contains (ldHead (d.shadowLd l)) && ((d.shadowLd l).any (· != 0) || named.contains l)
  let tst : Nat → Bool := fun k =>
    if tsEnable (d.tstCur k) then hs.contains (tsHead (d.tstCur k)) else hs.contains (tsHead (d.tstStaged k))
  { groups := groups, hs := (hs.mergeSort (· ≤ ·)).map fun h => (h, d.staged h)
    snap := (keys.filter inScope).map fun l => (l, d.shadowLd l), proj := proj, named := named
    tasters := ((d.tstKeys.mergeSort (· ≤ ·)).filter tst).map fun k => (k, d.tstStaged k) }

/-- Step 1: the first entry with a must-be-zero byte that is not 0, or a MODULE or LAYER out of range (R153, R158). -/
def badEntry (d : Dev) (es : List (List Byte)) : Option Nat :=
  (es.find? fun e => !(leAt e 0 2 == d.moduleId && leAt e 2 2 < 4096 && zeroAt e 4 28)).map fun e => leAt e 2 2

/-- Validation begins (R153, R158): entries go into the shadows, the snapshot is taken and judged. A CHECK_ONLY commit
is judged against a private copy. -/
def runValidation (d : Dev) (c : Commit) (es : List (List Byte)) : Dev × Verdict × Snap :=
  let good : Verdict := ⟨Status.success, 0, 0, 0⟩
  match badEntry d es with
  | some l => (d, rej rUpdateScope l, .init)
  | none =>
    let d' := d.writeEntries es
    match validate d' (d'.snapshot c.groups (es.map fun e => leAt e 2 2)) with
    | .inl v => (if c.check then d else d', v, .init)
    | .inr s => (if c.check then d else d', good, s)

/-- The list of update entries in a commit's host data. -/
def splitEntries : Nat → List Byte → List (List Byte)
  | 0, _ => []
  | n + 1, bs => bs.take 128 :: splitEntries n (bs.drop 128)

/-- A commit first in its queue and its group's order, with its fence reached and its list fetched, takes its snapshot and
enters VALIDATING (R155). -/
def commitSnapshot (q seq : Nat) (d : Dev) : Dev :=
  match d.commit? q seq with
  | none => d
  | some c =>
    let go : List (List Byte) → Dev → Dev := fun es d =>
      let (d, v, s) := runValidation d c es
      d.updCommit q seq fun c => { c with st := .validating, verdict := some v, snap := s, entries := es }
    if c.st != .queued || d.orderBlocked c || 2 ≤ d.coreState 2 || d.on R.PROF_STATUS_SWITCHING || d.err.fabricRun then d
    else match c.canvas, d.cmd? q seq with
      | some _, _ => go c.entries d
      | none, none => d
      | none, some k =>
        if (k.acqEn && !d.fenceReached k.acqFence k.acqValue) ||
          ((d.queue q).cmds.find? fun x => !x.running).map (·.seq) != some seq then d
        else if k.p 2 2 = 0 then go [] d
        else match k.hostData with
          | none => if d.host.busMaster then d else (d.finish q seq Status.accessDenied 0x0E06).dropCommit q seq
          | some (_, _ :: _) => (d.finish q seq Status.poisoned).dropCommit q seq
          | some (bs, []) => go (splitEntries (k.p 2 2) bs) d

/-- COMMIT_VALIDATE (R155): a commit takes its snapshot, and the mirror marks it; a unit that follows takes its own at the
marker (R352). -/
def commitValidate (q seq : Nat) (d : Dev) : Dev :=
  if d.follows && decide (q < 16) then d
  else
    let e := commitSnapshot q seq d
    if (d.commit? q seq).any (·.st == .queued) && (e.commit? q seq).any (·.st == .validating) then e.mirror (.marker q seq)
    else e

def execCommitValidate (t q seq : Nat) (s : State) : Host.Outcome State Fault Refusal := s.onDev t (commitValidate q seq)

/-- RESULT of CHECK_ONLY: DG and DA of the group in units of 1,000 layer-pixels/s (R165). -/
def checkResult (s : Snap) : Nat :=
  match s.demand with
  | (_, dg, da) :: _ => dg / 1000 % 2 ^ 32 + da / 1000 * 2 ^ 32
  | [] => 0

/-- A failed commit is dead-lettered: LAYER_REFUSAL of the layer it names (R158). -/
def Dev.deadLetter (d : Dev) (seq : Nat) (v : Verdict) : Dev :=
  if v.status = Status.refused then
    d.setReg R.LAYER_REFUSAL (seq % 65536 * 65536 + v.reason) v.detail
  else d

/-- Send a message to another module. -/
def Dev.send (d : Dev) (m : Nat) (msg : PaentMsg) : Dev :=
  { d with sys := { d.sys with out := (m, msg) :: d.sys.out } }

/-- A standby's commit is READY: it confirms the active unit's N, or differs from it (R353, R354). -/
def Dev.settleReady (d : Dev) (q seq : Nat) : Dev :=
  match d.pair.readies.find? (fun e => e.1 == q && e.2.1 == seq), d.commit? q seq with
  | some e, some c =>
    if !d.follows || c.st != .ready then d
    else
      let d := d.setPair { d.pair with readies := d.pair.readies.erase e }
      if c.target = some e.2.2 then d.reply (.confirm q seq) else d.diverged
  | _, _ => d

/-- COMMIT_VALIDATION_DONE (R155): failure, DEADLINE or READY for the first frame with BG(N) ≥ V + 100 µs; a canvas
member answers the system manager (R163). -/
def commitValidated (q seq : Nat) (d : Dev) : Dev :=
  match d.commit? q seq with
  | none => d
  | some c =>
    match c.st, c.verdict with
    | .validating, some v =>
      if 2 ≤ d.coreState 2 then d
      else if c.canvas.isSome then
        let lead := (c.groups.map d.groupLead).foldl max 0
        let d := d.send (d.get R.PAENT_MGR_MANAGER) (.canvasAnswer q seq v.status v.reason v.result v.detail lead)
        if v.status = Status.success then
          d.updCommit q seq fun c => { c with st := .ready, readyAt := d.now }
        else (d.deadLetter seq v).dropCommit q seq |>.grpPending
      else if c.check then
        (d.finish q seq v.status v.reason (if v.status = Status.success then checkResult c.snap else v.result)
          v.detail).dropCommit q seq
      else if v.status ≠ Status.success then
        (((d.deadLetter seq v).finish q seq v.status v.reason v.result v.detail).dropCommit q seq).grpPending
      else
        let g := c.groups.headD 0
        let n := d.groupNext g (d.wt + 100 * qUs)
        match d.cmd? q seq with
        | none => d
        | some k =>
          if k.deadline ≠ 0 && later 48 (d.groupBoundary g n / 4 % 2 ^ 48) k.deadline then
            ((d.finish q seq Status.deadline).dropCommit q seq).grpPending
          else
            let d := d.updCommit q seq fun c => { c with st := .ready, target := some n, readyAt := d.now }
            (d.mirror (.ready q seq n)).settleReady q seq
    | _, _ => d

def execCommitValidationDone (t q seq : Nat) (s : State) : Host.Outcome State Fault Refusal :=
  s.onDev t (commitValidated q seq)

/-! ### Leases of surfaces (R161, R394) -/

/-- Show an entry of the lease guard in its registers, and the counts (19). -/
def Dev.leaseRegs (d : Dev) (e : Nat) : Dev :=
  let d := match tabGet? d.prot.leases e with
    | some x => (d.setReg R.LG_ENTRY_BASE (x.base / 4096 * 256 + 1) e).setReg R.LG_ENTRY_SIZE x.pages e
    | none => (d.setReg R.LG_ENTRY_BASE 0 e).setReg R.LG_ENTRY_SIZE 0 e
  let n := d.prot.leases.length
  (d.put R.LG_STATUS_IN_USE n).put R.LG_STATUS_HIGH (max n (d.get R.LG_STATUS_HIGH))

/-- Set the entries of the lease guard. -/
def Dev.setLeases (d : Dev) (t : Tab LeaseEntry) (e : Nat) : Dev :=
  ({ d with prot := { d.prot with leases := t } }).leaseRegs e

/-- A layer takes a range: it shares an equal entry, or takes the lowest free one (R394). -/
def Dev.leaseAdd (d : Dev) (r : Nat × Nat) : Dev :=
  match d.prot.leases.find? fun e => e.2.base == r.1 && e.2.base + e.2.pages * 4096 == r.2 with
  | some (i, x) =>
    let d := d.setLeases (tabPut d.prot.leases i { x with holders := x.holders + 1 }) i
    { d with lay := { d.lay with freed := d.lay.freed.filter fun f => f.entry != i } }
  | none =>
    match (List.range 2048).find? fun i => (tabGet? d.prot.leases i).isNone with
    | some i => d.setLeases (tabPut d.prot.leases i ⟨r.1, (r.2 - r.1) / 4096, 1⟩) i
    | none => d

/-- A layer leaves a range; the entry stands until LEASE_END when no layer is left (R161). -/
def Dev.leaseDropHolder (d : Dev) (q seq : Nat) (r : Nat × Nat) : Dev :=
  match d.prot.leases.find? fun e => e.2.base == r.1 && e.2.base + e.2.pages * 4096 == r.2 with
  | none => d
  | some (i, x) =>
    let d := d.setLeases (tabPut d.prot.leases i { x with holders := x.holders - 1 }) i
    if x.holders ≤ 1 then { d with lay := { d.lay with freed := d.lay.freed ++ [⟨i, q, seq⟩] } } else d

/-- Whether a frame still has a line to compose that reads a range. -/
def FrameSt.reads (f : FrameSt) (r : Nat × Nat) : Bool :=
  f.scene.any fun s => ldSurface s.words && ldRange s.words == r &&
    (List.range (s.bot + 1 - s.top)).any fun i => !f.done.contains (s.top + i)

/-- LEASE_END (R161, R395): every line that read a removed range is composed or abandoned; the entry is freed and a
release record is written, after the completion of its commit. -/
def leaseEnd (e : Nat) (d : Dev) : Dev :=
  match d.lay.freed.find? (fun f => f.entry == e), tabGet? d.prot.leases e with
  | some f, some x =>
    let r := (x.base, x.base + x.pages * 4096)
    if d.comp.heads.any fun h => h.2.frames.any fun fr => fr.2.reads r then d
    else
      let rec' : HeldRec := ⟨f.q, f.seq, true, d.wt, e, x.base⟩
      let d := { d with lay := { d.lay with
        freed := d.lay.freed.filter (fun f => f.entry != e), held := d.lay.held ++ [rec'] } }
      (d.setLeases (tabDel d.prot.leases e) e).flushHeld
  | _, _ => d

def execLeaseEnd (t e : Nat) (s : State) : Host.Outcome State Fault Refusal := s.onDev t (leaseEnd e)

/-! ### Canvases (R151, R163, R164, R205) -/

/-- Whether this module is the system manager (R314). -/
def Dev.isManager (d : Dev) : Bool := d.on R.PAENT_MGR_IS_MANAGER

/-- Hand a started command to the system manager over class 3 (R163, R209). -/
def Dev.toManager (d : Dev) (q seq : Nat) (c : Cmd) : Dev :=
  if !d.routed (d.get R.PAENT_MGR_MANAGER) then d.finish q seq Status.noRoute
  else { d.updCmd q seq (fun c => { c with st := .forwarded }) with
    host := { d.host with
      queues := (d.updCmd q seq fun c => { c with st := .forwarded }).host.queues
      forwards := (q, c) :: d.host.forwards } }

/-- Modules that belong to a canvas. -/
def Dev.canvasModules (d : Dev) (cv : Nat) : List Nat := ((tabGetD d.lay.dir [] cv).map (·.module)).eraseDups

/-- Groups of this module that belong to a canvas, ascending. -/
def Dev.canvasGroups (d : Dev) (cv : Nat) : List Nat :=
  (List.range 6).filter fun g => d.on R.GRP_CANVAS_MEMBER g && d.get R.GRP_CANVAS_CANVAS g == cv

/-- The number under which a member knows a canvas commit: the submitter's own queue, or its forwarded queue. -/
def memberQueue (d : Dev) (origin q : Nat) : Nat := if origin = d.moduleId then q else fwdQueue origin q

/-- The submitting module and queue behind a queue number at the system manager. -/
def originOf (d : Dev) (q : Nat) : Nat × Nat := if q < 32 then (d.moduleId, q) else ((q - 32) / 16, (q - 32) % 16)

/-- CANVAS_COMMIT (R163): after its fence the commit goes to the system manager, which sends PREPARE to every member
when no other commit of the canvas runs. -/
def canvasCommit (q seq : Nat) (d : Dev) : Dev :=
  d.onCmd q seq 0x0801 fun c d =>
    match firstBad [(c.p 0 2 < 1024, 0), (c.p 2 2 == 0, 2), (c.p 4 2 ≤ 1024, 4)] with
    | some i => d.bad q seq i
    | none => d.withTail q seq c 14 fun d =>
      if q < 32 && c.acqEn && !d.fenceReached c.acqFence c.acqValue then d
      else if !d.isManager then d.toManager q seq c
      else if d.lay.runs.any (fun r => r.canvas == c.p 0 2) then d
      else
        let run : List Byte → Dev → Dev := fun bs d =>
          let ms := d.canvasModules (c.p 0 2)
          let es := splitEntries (c.p 4 2) bs
          let o := originOf d q
          if ms.isEmpty then d.reject q seq rBadGroup
          else
            let d := { d with lay := { d.lay with runs := d.lay.runs ++
              [⟨c.p 0 2, q, seq, c.deadline, .preparing, ms, ms, 0, 0, 0, false⟩] } }
            ms.foldl (fun d m => d.send m (.canvasPrepare (c.p 0 2) o.1 o.2 seq
              (es.filter fun e => leAt e 0 2 == m))) d
        if c.p 4 2 = 0 then run [] d else d.withHost q seq c run

def execCanvasCommit (t q seq : Nat) (s : State) : Host.Outcome State Fault Refusal := s.onDev t (canvasCommit q seq)

/-- CANVAS_JOIN (R151, R165): `others` are the other modules' members that the system manager reports. -/
def canvasJoin (q seq : Nat) (others : List CanvasMember) (d : Dev) : Dev :=
  d.onCmd q seq 0x0802 fun c d =>
    match firstBad [(c.p 0 2 < 1024, 0), (c.p 2 1 < 64, 2)] with
    | some i => d.bad q seq i
    | none => d.withTail q seq c 3 fun d =>
      let cv := c.p 0 2
      let mask := c.p 2 1
      let joins := (List.range 6).filter (bit mask)
      let old := d.canvasGroups cv
      if d.commits.any fun x => x.canvas == some cv then d
      else match joins.find? fun g => d.on R.GRP_CANVAS_MEMBER g && d.get R.GRP_CANVAS_CANVAS g != cv with
      | some g => d.finish q seq Status.rejected 0x0817 0 g
      | none =>
        match joins.find? fun g => (d.binding g).isNone || (d.groupHeads g).isEmpty with
        | some g => d.finish q seq Status.rejected rBadGroup 0 g
        | none =>
        let row : Nat → Option ModeRow := fun g => (d.groupHeads g).head?.map d.modeOf
        let first := (others.head?.map fun e => modeRow e.mode) <|> (joins.head?.bind row)
        match joins.find? fun g => match row g, first with | some a, some b => !a.sameRate b | _, _ => false with
        | some g => d.finish q seq Status.rejected rGroupRate 0 g
        | none =>
          let d := (old ++ joins).eraseDups.foldl (fun d g =>
            if joins.contains g then
              (d.setReg R.GRP_CANVAS (32768 + cv) g).setReg R.GRP_TRANSIT
                (if old.contains g then d.reg R.GRP_TRANSIT g else 0) g
            else (d.setReg R.GRP_CANVAS 0 g).setReg R.GRP_TRANSIT 0 g) d
          let mine := joins.map fun g => (⟨d.moduleId, g, ((d.groupHeads g).head?.map fun h =>
            d.get R.HEAD_MODE_CUR_MODE h).getD 0⟩ : CanvasMember)
          ({ d with lay := { d.lay with dir := tabSet d.lay.dir [] cv (others ++ mine) } }).succeed q seq mask

def execCanvasJoin (t q seq : Nat) (others : List CanvasMember) (s : State) : Host.Outcome State Fault Refusal :=
  s.onDev t (canvasJoin q seq others)

/-- CANVAS_PREPARE (R163, R316): a member without time lock answers TIME_SKEW; otherwise it takes the PREPARE into its groups' order and, when nothing earlier holds it back,
validates and answers. -/
def canvasPrepare (p : CanvasPrepare) (d : Dev) : Dev :=
  let gs := d.canvasGroups p.canvas
  let q := memberQueue d p.origin p.queue
  if gs.isEmpty || (d.commit? q p.seq).isSome then d
  else if !d.on R.PAENT_MGR_TIME_LOCK then
    d.send (d.get R.PAENT_MGR_MANAGER) (.canvasAnswer q p.seq Status.rejected 0x0B05 0 0 0)
  else
    let d := d.setCommits (d.commits ++ [.start q p.seq d.host.accepted gs false (some p.canvas) p.entries])
    let d := { d with host := { d.host with accepted := d.host.accepted + 1 } }
    (commitValidated q p.seq (commitValidate q p.seq d)).grpPending

def execCanvasPrepare (t : Nat) (p : CanvasPrepare) (s : State) : Host.Outcome State Fault Refusal :=
  s.onDev t (canvasPrepare p)

/-- The run of a canvas commit at the system manager. -/
def Dev.run? (d : Dev) (q seq : Nat) : Option CanvasRun := d.lay.runs.find? fun r => r.q == q && r.seq == seq
/-- Change it. -/
def Dev.updRun (d : Dev) (q seq : Nat) (f : CanvasRun → CanvasRun) : Dev :=
  { d with lay := { d.lay with runs := d.lay.runs.map fun r => if r.q == q && r.seq == seq then f r else r } }
/-- End it. -/
def Dev.endRun (d : Dev) (q seq : Nat) : Dev :=
  { d with lay := { d.lay with runs := d.lay.runs.filter fun r => !(r.q == q && r.seq == seq) } }

/-- The mode of a canvas's members, for its common S(N, 0) (R151). -/
def Dev.canvasRow (d : Dev) (cv : Nat) : ModeRow :=
  modeRow (((tabGetD d.lay.dir [] cv).head?.map (·.mode)).getD 0)

/-- The presentation record of a canvas commit, at its submitter (R162, R163). -/
def Dev.canvasRecord (d : Dev) (q seq cv n : Nat) : Dev :=
  let s0 := (d.canvasRow cv).start n
  let blanked := d.enabledHeads.any fun h =>
    d.headGroup h ∈ d.canvasGroups cv && (d.get R.HEAD_DISP_STATUS_STATE h == 1 || d.get R.HEAD_DISP_STATUS_STATE h == 4)
  { d with lay := { d.lay with held := d.lay.held ++
    [⟨q, seq, false, s0, 0x8000 + cv, s0 / 4 % 2 ^ 48 + b2n blanked * 2 ^ 48⟩] } }

/-- The system manager completes a canvas commit. -/
def Dev.canvasDone (d : Dev) (r : CanvasRun) (status reason result detail : Nat) : Dev :=
  let d := (d.endRun r.q r.seq).finish r.q r.seq status reason result detail
  if status = Status.success then (d.canvasRecord r.q r.seq r.canvas r.n).flushHeld else d

/-- CANVAS_ACCEPT (R163): a member's answer; at the last ACCEPT the system manager chooses N and sends APPLY. -/
def canvasAccept (q seq module lead : Nat) (o : FwdOutcome) (d : Dev) : Dev :=
  match d.run? q seq with
  | none => d
  | some r =>
    if r.stage != .preparing || !r.awaited.contains module then d
    else if o.status ≠ Status.success then
      let d := r.members.foldl (fun d m => d.send m (.canvasDrop q seq)) d
      d.canvasDone r o.status o.reason (module + o.result / 65536 % 65536 * 65536) o.detail
    else
      let r := { r with awaited := r.awaited.filter (· != module), lead := max r.lead lead }
      if !r.awaited.isEmpty then d.updRun q seq fun _ => r
      else
        let m := d.canvasRow r.canvas
        let n := m.nextFrame r.lead (d.wt + 2 * qMs)
        if r.deadline ≠ 0 && later 48 ((m.start n - r.lead) / 4 % 2 ^ 48) r.deadline then
          (r.members.foldl (fun d m => d.send m (.canvasDrop q seq)) d).canvasDone r Status.deadline 0 0 0
        else
          let d := d.updRun q seq fun _ => { r with stage := .applying, awaited := r.members, n := n }
          r.members.foldl (fun d m => d.send m (.canvasApply q seq n (tabGetD d.lay.transit 0 r.canvas))) d

def execCanvasAccept (t q seq module lead : Nat) (o : FwdOutcome) (s : State) : Host.Outcome State Fault Refusal :=
  s.onDev t (canvasAccept q seq module lead o)

/-- CANVAS_APPLY (R163, R164): N is known; an APPLY that comes after BG(N) targets the next group boundary. -/
def canvasApply (q seq n ta : Nat) (d : Dev) : Dev :=
  match d.commit? q seq with
  | none => d
  | some c =>
    if c.canvas.isNone || c.st != .ready || c.target.isSome then d
    else
      let late := c.groups.any fun g => d.groupBoundary g n < d.wt
      let n' := if late then (c.groups.map fun g => d.groupNext g d.wt).foldl max 0 else n
      d.updCommit q seq fun c => { c with target := some n', ta := some ta, late := late }

def execCanvasApply (t q seq n ta : Nat) (s : State) : Host.Outcome State Fault Refusal :=
  s.onDev t (canvasApply q seq n ta)

/-- CANVAS_DROP (R163): the member abandons the canvas commit. -/
def canvasDrop (q seq : Nat) (d : Dev) : Dev :=
  match d.commit? q seq with
  | some c => if c.canvas.isSome && c.done.isEmpty then (d.dropCommit q seq).grpPending else d
  | none => d

def execCanvasDrop (t q seq : Nat) (s : State) : Host.Outcome State Fault Refusal := s.onDev t (canvasDrop q seq)

/-- CANVAS_APPLIED_REPORT (R163, R164): at the last report the commit completes. -/
def canvasReport (q seq module layers : Nat) (late : Bool) (d : Dev) : Dev :=
  match d.run? q seq with
  | none => d
  | some r =>
    if r.stage != .applying || !r.awaited.contains module then d
    else
      let r := { r with awaited := r.awaited.filter (· != module), layers := r.layers + layers, late := r.late || late }
      if !r.awaited.isEmpty then d.updRun q seq fun _ => r
      else d.canvasDone r Status.success (if r.late then 0x0819 else 0)
        (r.n % 2 ^ 32 + r.layers % 65536 * 2 ^ 32) 0

def execCanvasAppliedReport (t q seq module layers : Nat) (late : Bool) (s : State) :
    Host.Outcome State Fault Refusal := s.onDev t (canvasReport q seq module layers late)

/-- CANVAS_MEMBER_TIMEOUT (R164): DROP to all, MEMBER_UNREACHABLE. -/
def canvasMemberTimeout (q seq module : Nat) (d : Dev) : Dev :=
  match d.run? q seq with
  | none => d
  | some r =>
    if r.stage != .preparing || !r.awaited.contains module then d
    else (r.members.foldl (fun d m => d.send m (.canvasDrop q seq)) d).canvasDone r Status.rejected 0x0818 module 0

def execCanvasMemberTimeout (t q seq module : Nat) (s : State) : Host.Outcome State Fault Refusal :=
  s.onDev t (canvasMemberTimeout q seq module)

/-- CANVAS_READY_TIMEOUT (R164): 1 s in READY without APPLY; the member abandons the commit locally. -/
def canvasReadyTimeout (q seq : Nat) (d : Dev) : Dev :=
  match d.commit? q seq with
  | some c =>
    if c.canvas.isSome && c.st == .ready && c.target.isNone then
      ((d.dropCommit q seq).info .commitFailed 0x4FFF seq 0x081A).grpPending
    else d
  | none => d

def execCanvasReadyTimeout (t q seq : Nat) (s : State) : Host.Outcome State Fault Refusal :=
  s.onDev t (canvasReadyTimeout q seq)

/-- CANVAS_REPORT_TIMEOUT (R164): SUCCESS with SPAN_INCOMPLETE and the module in RESULT. -/
def canvasReportTimeout (q seq module : Nat) (d : Dev) : Dev :=
  match d.run? q seq with
  | none => d
  | some r =>
    if r.stage != .applying || !r.awaited.contains module then d
    else d.canvasDone r Status.success 0x081A module 0

def execCanvasReportTimeout (t q seq module : Nat) (s : State) : Host.Outcome State Fault Refusal :=
  s.onDev t (canvasReportTimeout q seq module)

/-- CANVAS_TRANSIT (R205, R209): the system manager records TA for the next canvas commit. -/
def canvasTransit (q seq : Nat) (d : Dev) : Dev :=
  d.onCmd q seq 0x0900 fun c d =>
    match firstBad [(c.p 0 2 < 1024, 0), (c.p 2 2 == 0, 2), (c.p 4 4 ≤ 1000000, 4)] with
    | some i => d.bad q seq i
    | none => d.withTail q seq c 8 fun d =>
      if !d.isManager then d.toManager q seq c
      else if (d.canvasModules (c.p 0 2)).isEmpty then d.finish q seq Status.rejected 0x0902 0 (c.p 0 2)
      else
        ({ d with lay := { d.lay with transit := tabSet d.lay.transit 0 (c.p 0 2) (c.p 4 4) } }).succeed q seq (c.p 4 4)

def execCanvasTransit (t q seq : Nat) (s : State) : Host.Outcome State Fault Refusal := s.onDev t (canvasTransit q seq)

end Sys2Proof.Machine
end

