-- ==== Sys2Proof/Machine/Encode.lean ====
section
/-! DEFINITION. Encode contexts, engines, refresh, budget, the freshness SEI, ring and RTP output (13). -/

namespace Sys2Proof.Machine

/-! ### Contexts and loads (R257, R258, R262) -/

/-- CLOSED. -/
def enClosed : Nat := 0
/-- WAIT_SOURCE. -/
def enWait : Nat := 1
/-- RUNNING. -/
def enRunning : Nat := 2
/-- SHED. -/
def enShed : Nat := 3
/-- REFUSED. -/
def enRefused : Nat := 4

/-- An encode context. -/
def Dev.encCtx (d : Dev) (c : Nat) : EncCtx := tabGetD d.enc.ctxs EncCtx.init c
/-- Set an encode context. -/
def Dev.setEnc (d : Dev) (c : Nat) (x : EncCtx) : Dev :=
  { d with enc := { d.enc with ctxs := tabSet d.enc.ctxs EncCtx.init c x } }
/-- STATE of an encode context. -/
def Dev.encState (d : Dev) (c : Nat) : Nat := d.get R.ENC_STATUS_STATE c

/-- hrow of a codec. -/
def EncOpen.hrow (o : EncOpen) : Nat := if o.codec = 0 then 16 else 64
/-- Wa. -/
def EncOpen.wa (o : EncOpen) : Nat := roundUp o.w o.hrow
/-- Ha. -/
def EncOpen.ha (o : EncOpen) : Nat := roundUp o.h o.hrow
/-- NR. -/
def EncOpen.rows (o : EncOpen) : Nat := o.ha / o.hrow
/-- FMT of the writeback a codec takes. -/
def codecFmt (codec : Nat) : Nat := if codec = 2 then 2 else 1
/-- LOAD as a fraction, px/s (R262). -/
def EncOpen.load (o : EncOpen) : Nat × Nat := (o.wa * o.ha * o.rateNum, o.rateDen)
/-- Lines of a row: one past its last. -/
def EncOpen.rowEnd (o : EncOpen) (r : Nat) : Nat := min (o.hrow * (r + 1)) o.h

/-- Work area in bytes (R257). -/
def encWork (codec wa ha : Nat) : Nat :=
  2 * roundUp (roundUp (wa * (if codec = 2 then 2 else 1)) 256 * ha * 3 / 2) 4096 + 65536

/-- Contexts bound to an engine. -/
def Dev.encOn (d : Dev) (e : Nat) : List (Nat × EncCtx) :=
  d.enc.ctxs.filter fun x => (d.encState x.1 == enWait || d.encState x.1 == enRunning) &&
    d.get R.ENC_STATUS_ENGINE x.1 == e && x.2.open'.isSome

/-- Load of an engine, all or guaranteed only. -/
def Dev.encLoad (d : Dev) (e : Nat) (all : Bool) : Nat × Nat :=
  (d.encOn e).foldl (fun a x => match x.2.open' with
    | some o => if all || o.guaranteed then fracAdd a o.load else a
    | none => a) (0, 1)

/-- `a < b` for fractions. -/
def fracLt (a b : Nat × Nat) : Bool := decide (a.1 * b.2 < b.1 * a.2)

/-- Engines in service. -/
def Dev.encEngines (d : Dev) : List Nat := [0, 1].filter fun e => !d.on R.ENC_ENG_STATUS_FAILED e

/-- The engine that admits a context (R262). -/
def Dev.encAdmit (d : Dev) (o : EncOpen) : Option Nat :=
  let pick : Bool → List Nat → Option Nat := fun all es =>
    es.foldl (fun b e => match b with
      | none => some e
      | some x => if fracLt (d.encLoad e all) (d.encLoad x all) then some e else b) none
  if o.guaranteed then
    pick false (d.encEngines.filter fun e => !fracLt (400000000, 1) (fracAdd (d.encLoad e false) o.load))
  else pick true d.encEngines

/-- Kilopixels per second of a load, rounded up. -/
def kpx (f : Nat × Nat) : Nat := ceilDiv f.1 (f.2 * 1000)

/-- Time a row may wait before BACKLOG, quarter nanoseconds (R261). -/
def EncOpen.rowTime (o : EncOpen) : Nat := o.wa * o.hrow * 10

/-- Ready rows of a context that no engine has begun, as (instant, frame, row). -/
def EncCtx.waiting (x : EncCtx) (begun : Nat → Nat → Bool) : List (Nat × Nat × Nat) :=
  x.frames.flatMap fun f => (f.ready.filter fun e => !f.done.contains e.1 && !begun f.n e.1).map fun e => (e.2, f.n, e.1)

/-- Whether a row of a context is in progress on an engine. -/
def Dev.encBegun (d : Dev) (c n row : Nat) : Bool := d.enc.engines.any fun e => e.2.ctx == c && e.2.n == n && e.2.row == row

/-- Whether an engine has BACKLOG now (R261). -/
def Dev.encBacklog (d : Dev) (e : Nat) : Bool :=
  (d.encOn e).any fun x => match x.2.open' with
    | some o => (x.2.waiting (d.encBegun x.1)).any fun w => decide (w.1 + o.rowTime < d.now)
    | none => false

/-- The engines' load and backlog registers. -/
def Dev.encRegs (d : Dev) : Dev :=
  [0, 1].foldl (fun d e =>
    ((d.setReg R.ENC_ENG_GLOAD (kpx (d.encLoad e false)) e).setReg R.ENC_ENG_LOAD (kpx (d.encLoad e true)) e).put
      R.ENC_ENG_STATUS_BACKLOG (b2n (d.encBacklog e)) e) d

/-- An idle engine takes the ready row with the earliest instant, lower context first (R259). -/
def Dev.encDispatch (d : Dev) (e : Nat) : Dev :=
  if d.on R.ENC_ENG_STATUS_FAILED e || (tabGet? d.enc.engines e).isSome then d.encRegs
  else
    let ws := (d.encOn e).flatMap fun x => (x.2.waiting (d.encBegun x.1)).map fun w => (x.1, w)
    let best := ws.foldl (fun (b : Option (Nat × Nat × Nat × Nat)) w => match b with
      | none => some w
      | some v => if w.2.1 < v.2.1 then some w else b) none
    match best with
    | none => (d.put R.ENC_ENG_STATUS_BUSY 0 e).encRegs
    | some (c, _, n, row) =>
      let d := { d with enc := { d.enc with engines := tabPut d.enc.engines e ⟨c, n, row, d.now⟩ } }
      ((d.put R.ENC_ENG_STATUS_BUSY 1 e).put R.ENC_ENG_STATUS_CONTEXT c e).encRegs

/-- The leases of a context's frames end. -/
def Dev.encUnlease (d : Dev) (c : Nat) : Dev :=
  match (d.encCtx c).open' with
  | none => d
  | some o => (d.encCtx c).frames.foldl (fun d f => d.dropLease (.wb o.head) f.key) (d.setEnc c { d.encCtx c with frames := [] })

/-- A row in progress of a context is given up. -/
def Dev.encStop (d : Dev) (c : Nat) : Dev :=
  [0, 1].foldl (fun d e =>
    match tabGet? d.enc.engines e with
    | some r => if r.ctx = c then
        ({ d with enc := { d.enc with engines := tabDel d.enc.engines e } }).put R.ENC_ENG_STATUS_BUSY 0 e else d
    | none => d) d

/-! ### Source: S(N, 0) and loss (R258, R259, R263) -/

/-- The refresh order at a cycle start (R263). -/
def refreshOrder (rows : Nat) (first : List Nat) : List Nat :=
  let f := (first.filter (· < rows)).mergeSort (· ≤ ·)
  f ++ (List.range rows).filter fun r => !f.contains r

/-- A frame of a context begins at S(N, 0) (R259, R263, R266, R267). -/
def Dev.encBegin (d : Dev) (c : Nat) (o : EncOpen) (n start key : Nat) : Dev :=
  let x := d.encCtx c
  let idr := x.idrNext
  let start' := !idr && (x.cycleNext || o.period ≤ x.place || x.order.isEmpty)
  let order := if start' then refreshOrder o.rows x.first else if idr then [] else x.order
  let place := if start' || idr then 0 else x.place
  let k := ceilDiv o.rows o.period
  let intra := if idr then List.range o.rows else (order.drop (place * k)).take k
  let tf := ((2 * o.kbps * 1000 * o.rateDen + 8 * o.rateNum) / (16 * o.rateNum))
  let u := if idr then 0 else x.lastB - x.lastUsed
  let b := min o.cap (tf + min u tf)
  let synced := d.wtState = wtFollowing || d.wtState = wtOffsetHold
  let dom := d.get R.WT_STATUS_FOLLOWS - 1
  let sync := if synced then some (d.wtOffset, if dom = 0 then d.img.tb0Domain else d.img.tb1Domain) else none
  let since := if idr then 0 else x.sinceIdr + 1
  let cand := (1 ≤ since && since ≤ 2) || d.on R.ENC_CTRL_TEST c || x.recovery || x.moved
  let f : EncFrame := {
    n := n, key := key, start := start, sync := sync, idr := idr, cycleStart := start'
    cycleLast := !idr && place + 1 == o.period, intra := intra, budget := b, used := 0, bytes := 0, ready := []
    done := [], notRef := [], poor := [], cut := false, late := false, dropped := false }
  let d := d.updSlot (.wb o.head) key fun s => { s with lease := s.lease + 1 }
  (d.setEnc c { x with
    idrNext := false, cycleNext := false, sinceIdr := since, order := order, place := if idr then 0 else place + 1
    intraDone := if start' || idr then [] else x.intraDone, recovery := false, moved := false
    dropping := if idr || start' then false else x.dropping, frames := x.frames ++ [f] }).put
    R.ENC_STATUS_CANDIDATE (b2n cand) c

/-- Why a context's source is lost: 1 writeback off, 2 FMT changed, 3 size changed, 4 MODE_CHANGE; 0 none (R258). -/
def Dev.encCause (d : Dev) (o : EncOpen) : Nat :=
  let s := d.inForce o.head
  if d.get R.HEAD_DISP_STATUS_STATE o.head = 4 then 4
  else if !s.wbOn then 1
  else if s.wbFmt ≠ codecFmt o.codec then 2
  else if s.row.w ≠ o.w || s.row.h ≠ o.h then 3
  else 0

/-- The contexts of a head whose source has gone wait for it again (R258). -/
def Dev.encLost (d : Dev) (h : Nat) : Dev :=
  d.enc.ctxs.foldl (fun d e =>
    match e.2.open' with
    | none => d
    | some o =>
      let cause := d.encCause o
      if o.head ≠ h || d.encState e.1 ≠ enRunning || cause = 0 then d
      else (((d.encStop e.1).encUnlease e.1).put R.ENC_STATUS_STATE enWait e.1).put R.ENC_STATUS_WAIT_CAUSE cause e.1
        |>.info .encodeWaits (0x3008 + d.get R.ENC_STATUS_ENGINE e.1) e.1 cause) d

/-- S(N, 0) of a frame that the writer writes into a buffer: every open context of the head takes it (R258, R259). -/
def Dev.encStart (d : Dev) (h n start key : Nat) : Dev :=
  d.enc.ctxs.foldl (fun d e =>
    match e.2.open' with
    | none => d
    | some o =>
      let st := d.encState e.1
      if o.head ≠ h || d.encCause o ≠ 0 then d
      else if st = enWait then
        let d := d.setEnc e.1 { d.encCtx e.1 with idrNext := true }
        ((d.put R.ENC_STATUS_STATE enRunning e.1).put R.ENC_STATUS_WAIT_CAUSE 0 e.1).encBegin e.1 o n start key
      else if st = enRunning then d.encBegin e.1 o n start key
      else d) d

/-! ### NAL units, ring and packets (R269, R271, R272) -/

/-- Emulation prevention of a NAL unit's payload (the video standards); `z` counts zero bytes before. -/
def escape : Nat → List Byte → List Byte
  | _, [] => []
  | z, b :: r =>
    if 2 ≤ z && b.toNat ≤ 3 then 3 :: b :: escape (if b = 0 then 1 else 0) r
    else b :: escape (if b = 0 then z + 1 else 0) r

/-- `n` bytes of `v`, big-endian. -/
def beBytes (n v : Nat) : List Byte := (leBytes n v).reverse

/-- The size of an SEI message. -/
def seiSize : Nat → Nat → List Byte
  | 0, _ => []
  | k + 1, n => if n < 255 then [BitVec.ofNat 8 n] else 255 :: seiSize k (n - 255)

/-- The UUID of the freshness SEI: the characters ZPEF-SWZ-FRESH-1 (R269). -/
def seiUuid : List Byte := [0x5A, 0x50, 0x45, 0x46, 0x2D, 0x53, 0x57, 0x5A, 0x2D, 0x46, 0x52, 0x45, 0x53, 0x48, 0x2D, 0x31]

/-- The NAL unit of a freshness SEI with the bytes after the UUID. -/
def seiNal (codec : Nat) (body : List Byte) : List Byte :=
  (if codec = 0 then [0x06] else [0x50, 0x01]) ++
    escape 0 ([5] ++ seiSize 8 (16 + body.length) ++ seiUuid ++ body ++ [0x80])

/-- Runs of consecutive rows with one capture instant: first row, count, DELTA in µs (R269). -/
def seiRuns (capt : Nat) (rowCapt : Tab Nat) : List Nat → List (Nat × Nat × Nat)
  | [] => []
  | r :: rest =>
    let delta := ceilDiv (sdiff 48 capt (tabGetD rowCapt capt r)).toNat 1000 % 2 ^ 32
    match seiRuns capt rowCapt rest with
    | (f, n, dl) :: more => if f = r + 1 && dl = delta then (r, n + 1, delta) :: more else (r, 1, delta) :: (f, n, dl) :: more
    | [] => [(r, 1, delta)]

/-- The bytes of a freshness SEI after the UUID (R269). -/
def seiBody (d : Dev) (f : EncFrame) (pm : Postmark) (lateLines voids : Bool) (runs : List (Nat × Nat × Nat)) : List Byte :=
  let imp := bit pm.flags 0 || !f.poor.isEmpty
  let flags := b2n f.sync.isSome * 128 + b2n imp * 64 + b2n (!runs.isEmpty) * 32 + b2n (bit pm.flags 1) * 16 +
    b2n (bit pm.flags 2) * 8 + b2n voids * 4 + b2n lateLines * 2 + b2n (bit pm.flags 4)
  let capt : Nat := match f.sync with
    | some (off, _) => ofSigned 48 ((pm.capt : Int) - off / 4)
    | none => 0
  let up := min 0xFFFFFFFF (ceilDiv (sdiff 48 (f.start / 4) pm.capt).toNat 1000)
  let b := beBytes 1 1 ++ beBytes 1 flags ++ beBytes 2 d.moduleId ++
    beBytes 1 ((f.sync.map (·.2)).getD 0) ++ beBytes 1 (pm.cls * 16 + pm.tbid) ++ beBytes 6 capt ++ beBytes 4 up ++
    beBytes 2 f.n ++ beBytes 1 runs.length ++ beBytes 1 0 ++
    runs.flatMap fun r => beBytes 2 r.1 ++ beBytes 2 r.2.1 ++ beBytes 4 r.2.2
  b ++ beBytes 4 (crcOf 1 b)

/-- Put bytes into the ring from an offset on, wrapping (R271). -/
def ringWrite (d : Dev) (o : EncOpen) (off : Nat) (bs : List Byte) (m : Mem) : Mem :=
  let n := min bs.length (o.ring - off)
  dramWrite d (dramWrite d m (o.base + off) (bs.take n)) o.base (bs.drop n)

/-- NAL units go to the ring in Annex B form, or are dropped with those that follow (R271). -/
def encRing (c n : Nat) (o : EncOpen) (nals : List (List Byte)) (x : Dev × Mem) : Dev × Mem :=
  let d := x.1
  let k := d.encCtx c
  let bs := nals.flatMap fun b => [0, 0, 0, 1] ++ b
  let w := d.get R.ENC_WPTR_PTR c
  let free := (d.get R.ENC_RPTR_PTR c + o.ring - w - 1) % o.ring
  let counted := (k.frames.find? fun f => f.n == n).map (·.dropped) |>.getD false
  if k.dropping || free < bs.length then
    let d := d.setEnc c { k with
      dropping := true, frames := k.frames.map fun f => if f.n = n then { f with dropped := true } else f }
    (if counted then d else d.bump R.RING_DROPS_COUNT c, x.2)
  else (d.put R.ENC_WPTR_PTR ((w + bs.length) % o.ring) c, ringWrite d o w bs x.2)

/-- Pieces of at most `n` bytes. -/
def pieces : Nat → Nat → List Byte → List (List Byte)
  | 0, _, _ => []
  | k + 1, n, bs => if bs.isEmpty then [] else bs.take n :: pieces k n (bs.drop n)

/-- RTP payloads of a NAL unit: single, or fragments (RFC 6184 FU-A, RFC 7798 FU). -/
def rtpPayloads (codec size : Nat) (nal : List Byte) : List (List Byte) :=
  if nal.length ≤ size then [nal]
  else
    let hd := if codec = 0 then 1 else 2
    let b0 := ((nal.headD 0).toNat)
    let ty := if codec = 0 then b0 % 32 else b0 / 2 % 64
    let ps := pieces nal.length (size - hd - 1) (nal.drop hd)
    ps.mapIdx fun i p =>
      let fu := b2n (i == 0) * 128 + b2n (i + 1 == ps.length) * 64 + ty
      (if codec = 0 then [BitVec.ofNat 8 (b0 / 32 * 32 + 28)]
       else [BitVec.ofNat 8 (b0 / 128 * 128 + 49 * 2 + b0 % 2), nal.getD 1 0]) ++ [BitVec.ofNat 8 fu] ++ p

/-- RTP timestamp of a frame (R269). -/
def EncFrame.rtpTs (f : EncFrame) : Nat :=
  let t : Int := match f.sync with | some (off, _) => (f.start : Int) - off | none => f.start
  (t * 90000 / 4000000000 % 2 ^ 32).toNat

/-- NAL units go out as packets on each port; `last` marks the last of the frame (R272). -/
def Dev.encSend (d : Dev) (c : Nat) (o : EncOpen) (f : EncFrame) (nals : List (List Byte)) (last : Bool) : Dev :=
  if !o.rtp then d
  else
    let ps := nals.flatMap (rtpPayloads o.codec (o.packet - 12))
    let x := d.encCtx c
    let pk := ps.mapIdx fun i p =>
      beBytes 1 0x80 ++ beBytes 1 (b2n (last && i + 1 == ps.length) * 128 + o.pt) ++ beBytes 2 (x.rtpSeq + i) ++
        beBytes 4 f.rtpTs ++ beBytes 4 o.ssrc ++ p
    let d := d.setEnc c { x with rtpSeq := (x.rtpSeq + ps.length) % 65536 }
    if o.gate && !d.on R.PAIR_STATUS_OWNS then d
    else
      let out := (maskPorts o.ports).flatMap fun p => pk.map fun b => (p, c, b)
      { d with enc := { d.enc with sent := out.reverse ++ d.enc.sent } }

/-! ### Rows (R259 to R268) -/

/-- Change a frame of a context. -/
def Dev.updEnc (d : Dev) (c n : Nat) (f : EncFrame → EncFrame) : Dev :=
  d.setEnc c { d.encCtx c with frames := (d.encCtx c).frames.map fun x => if x.n = n then f x else x }

/-- A frame all of whose rows are coded ends: its SEI follows the last slice, its lease ends (R259, R264, R267, R269). -/
def encFrameDone (c : Nat) (o : EncOpen) (f : EncFrame) (pm : Postmark) (lateLines : Bool) (x : Dev × Mem) : Dev × Mem :=
  let d := x.1
  let k := d.encCtx c
  let intra := k.intraDone
  let voids := f.cycleLast && (List.range o.rows).any fun r => !intra.contains r
  let fresh := (List.range o.rows).filter fun r => !f.notRef.contains r
  let rc := fresh.foldl (fun t r => tabPut t r pm.capt) k.rowCapt
  let sei := seiNal o.codec (seiBody d f pm lateLines voids (seiRuns pm.capt k.rowCapt (f.notRef.mergeSort (· ≤ ·))))
  let (d, m) := encRing c f.n o [sei] x
  let d := d.encSend c o f [sei] true
  let total := f.bytes + sei.length + 4
  let k := d.encCtx c
  let d := d.setEnc c { k with
    frames := k.frames.filter (·.n != f.n), rowCapt := rc, pictures := k.pictures + 1
    first := (f.notRef ++ f.poor).eraseDups, lastB := f.budget, lastUsed := total, recovery := k.recovery || f.late }
  let d := ((d.setReg R.ENC_FRAME f.n c).bump R.FRAMES_ENCODED_COUNT c).setReg R.ENC_LAST_BYTES total c
  let d := if f.late then d else d.put R.ENC_STATUS_SERVICE 0 c
  let d := if f.cycleLast then d.put R.ENC_STATUS_VOIDED (b2n voids) c else d
  (d.dropLease (.wb o.head) f.key, m)

/-- One coded row: its bytes go out, and the frame ends with its last row. -/
def encRow (c : Nat) (o : EncOpen) (n row : Nat) (nals : List (List Byte)) (slice : List Byte) (f' : EncFrame → EncFrame)
    (x : Dev × Mem) : Dev × Mem :=
  let d := x.1.updEnc c n fun f =>
    f' { f with
      done := row :: f.done, used := f.used + slice.length + 4
      bytes := f.bytes + ((nals ++ [slice]).map fun b => b.length + 4).sum }
  let (d, m) := encRing c n o (nals ++ [slice]) (d, x.2)
  match (d.encCtx c).frames.find? fun f => f.n == n with
  | none => (d, m)
  | some f =>
    let d := d.encSend c o f (nals ++ [slice]) false
    if o.rows ≤ f.done.length then
      let s := tabGetD (d.head o.head).bufs PicSlot.free f.key
      encFrameDone c o f s.pm (s.order != 0) (d, m)
    else (d, m)

/-- Late rows of a frame are skip-coded: `skips` are their slices (R261). -/
def encSkipRows (c : Nat) (o : EncOpen) (n : Nat) : List Nat → List (List Byte) → Dev × Mem → Dev × Mem
  | r :: rs, b :: bs, x =>
    encSkipRows c o n rs bs (encRow c o n r [] b (fun f => { f with notRef := r :: f.notRef, late := true }) x)
  | _, _, x => x

/-- Whether the writer has written the lines of a row (R259). -/
def Dev.rowWritten (d : Dev) (o : EncOpen) (f : EncFrame) (row : Nat) : Bool :=
  !(tabGetD (d.head o.head).bufs PicSlot.free f.key).writing ||
    (d.reg R.WB_FRAME o.head == f.n % 2 ^ 32 && decide (o.rowEnd row ≤ d.get R.HEAD_WB_STATUS_ROW o.head))

/-- ENCODE_ROW_READY (R259, R261): a row becomes ready; with row 0, the unbegun rows of earlier frames are skip-coded,
with the slices `skips`. -/
def encodeRowReady (c n row : Nat) (skips : List (List Byte)) (x : Dev × Mem) : Dev × Mem :=
  let d := x.1
  let k := d.encCtx c
  match k.open', k.frames.find? fun f => f.n == n with
  | some o, some f =>
    let e := d.get R.ENC_STATUS_ENGINE c
    let old := if row = 0 then k.frames.head?.filter fun g => g.n != n else none
    let late := match old with
      | some g => (List.range o.rows).filter fun r => !g.done.contains r && !d.encBegun c g.n r
      | none => []
    if d.encState c ≠ enRunning || row ≠ f.ready.length || o.rows ≤ row || !d.rowWritten o f row ||
      skips.length ≠ late.length || skips.any (fun b => 60 < b.length) then x
    else
      let d := d.updEnc c n fun f => { f with ready := tabPut f.ready row d.now }
      let (d, m) := match old with
        | some g =>
          let d := if late.isEmpty then d
            else (d.bump R.ROWS_LATE_COUNT c late.length).put R.ENC_STATUS_SERVICE 1 c
          encSkipRows c o g.n late skips (d, x.2)
        | none => (d, x.2)
      (d.encDispatch e, m)
  | _, _ => x

def execEncodeRowReady (t c n row : Nat) (skips : List (List Byte)) (s : State) : Host.Outcome State Fault Refusal :=
  s.onAll t (encodeRowReady c n row skips)

/-- Whether the size of a row's slice keeps the cap of R268. -/
def rowFits (o : EncOpen) (f : EncFrame) (row : Nat) (size : Nat) (skipped : Bool) : Bool :=
  let bs := f.budget - (512 + 8 * o.rows)
  if f.cut then skipped && size ≤ 64
  else if skipped then f.used + size + 64 * (o.rows - row - 1) ≤ bs
  else f.used + size + 64 * (o.rows - row) ≤ bs

/-- ENCODE_ROW_CODED (R260, R264, R265, R268, R271, R272): an engine completes the slice of its row. -/
def encodeRowCoded (e : Nat) (r : EncRow) (x : Dev × Mem) : Dev × Mem :=
  let d := x.1
  match tabGet? d.enc.engines e with
  | none => x
  | some g =>
    match (d.encCtx g.ctx).open', (d.encCtx g.ctx).frames.find? fun f => f.n == g.n with
    | some o, some f =>
      if !rowFits o f g.row (r.slice.length + 4) r.skipped then x
      else
        let d := { d with enc := { d.enc with engines := tabDel d.enc.engines e } }
        let d := d.put R.ENC_ENG_STATUS_ROWS (d.get R.ENC_ENG_STATUS_ROWS e + 1) e
        let d := if r.skipped && !f.idr then d.bump R.ROWS_SKIPPED_COUNT g.ctx else d
        let d := if f.intra.contains g.row && !r.skipped then
            d.setEnc g.ctx { d.encCtx g.ctx with intraDone := (g.row :: (d.encCtx g.ctx).intraDone).eraseDups } else d
        let upd : EncFrame → EncFrame := fun f =>
          if !r.skipped then f
          else if f.idr then { f with poor := g.row :: f.poor, cut := true }
          else { f with notRef := g.row :: f.notRef, cut := true }
        let (d, m) := encRow g.ctx o g.n g.row r.head r.slice upd (d, x.2)
        (d.encDispatch e, m)
    | _, _ => (({ d with enc := { d.enc with engines := tabDel d.enc.engines e } }).encDispatch e, x.2)

def execEncodeRowCoded (t e : Nat) (r : EncRow) (s : State) : Host.Outcome State Fault Refusal :=
  s.onAll t (encodeRowCoded e r)

/-! ### Engine failure (R262) -/

/-- CAPACITY_LOST of an encode context. -/
def rEncLost : Nat := 0x0607
/-- BAD_ENCODE_FIELD. -/
def rEncField : Nat := 0x0608
/-- NO_WRITEBACK. -/
def rNoWriteback : Nat := 0x0609
/-- RING_RANGE. -/
def rRingRange : Nat := 0x060A
/-- ENCODE_BUDGET. -/
def rEncBudget : Nat := 0x060B

/-- An encode engine leaves service; its contexts move to the other engine or are shed. -/
def encEngineFail (e : Nat) (d : Dev) : Dev :=
  if 2 ≤ e ∨ d.on R.ENC_ENG_STATUS_FAILED e then d
  else
    let cs := d.encOn e
    let d := ((d.put R.ENC_ENG_STATUS_FAILED 1 e).put R.ENC_ENG_STATUS_BUSY 0 e).degraded .engineFailed (0x3008 + e) e
    let d := { d with enc := { d.enc with engines := tabDel d.enc.engines e } }
    let d := cs.foldl (fun d x =>
      match x.2.open' with
      | none => d
      | some o =>
        let d := d.encUnlease x.1
        match d.encAdmit o with
        | some k => (d.put R.ENC_STATUS_ENGINE k x.1).setEnc x.1 { d.encCtx x.1 with idrNext := true, moved := true }
        | none => ((d.put R.ENC_STATUS_STATE enShed x.1).put R.ENC_STATUS_SERVICE 3 x.1).put R.ENC_STATUS_REASON rEncLost
            x.1) d
    d.encRegs

/-- ENCODE_ENGINE_TIMEOUT (R262): a row not finished within 10 ms. -/
def encodeEngineTimeout (e : Nat) (d : Dev) : Dev :=
  match tabGet? d.enc.engines e with
  | some r => if r.start + 10 * qMs ≤ d.now then encEngineFail e d else d
  | none => d

def execEncodeEngineTimeout (t e : Nat) (s : State) : Host.Outcome State Fault Refusal := s.onDev t (encodeEngineTimeout e)

def execEncodeEngineParity (t e : Nat) (s : State) : Host.Outcome State Fault Refusal := s.onDev t (encEngineFail e)

/-! ### Commands (R273) -/

/-- What an ENCODE_OPEN block asks for, with the head's mode in force. -/
def encOpenOf (d : Dev) (b : List Byte) : EncOpen :=
  let m := d.modeOf (leAt b 1 1)
  let fl := leAt b 3 1
  let o : EncOpen := {
    head := leAt b 1 1, codec := leAt b 2 1, guaranteed := bit fl 0, rtp := bit fl 1, gate := bit fl 2, ipv6 := bit fl 3
    packet := match bits fl 5 4 with | 0 => 1200 | 1 => 1400 | _ => 8800
    qpMin := leAt b 4 1, qpMax := leAt b 5 1, period := leAt b 6 2, kbps := leAt b 8 4, cap := leAt b 12 4
    base := leAt b 16 8, ring := (leAt b 24 2 + 1) * 65536, work := 0, ports := leAt b 26 1, pt := leAt b 27 1
    ssrc := leAt b 28 4, srcPort := leAt b 32 2, dstPort := leAt b 34 2, dst := (b.drop 36).take 16
    w := m.w, h := m.h, rateNum := m.clkNum, rateDen := m.clkDen * m.hTotal * m.vTotal }
  { o with work := encWork o.codec o.wa o.ha }

/-- The first field of an ENCODE_OPEN block that is out of range: its byte offset (R273, step 2). -/
def encBadField (b : List Byte) (o : EncOpen) : Option Nat :=
  let fl := leAt b 3 1
  let np := (maskPorts o.ports).length
  firstBad [(o.head < 32, 1), (o.codec < 3, 2), (fl < 64 && bits fl 5 4 != 3, 3), (o.qpMin ≤ 51, 4),
    (o.qpMax ≤ 51 && o.qpMin ≤ o.qpMax, 5), (o.period ≤ 255, 6), (o.kbps ≤ 1000000, 8),
    (1024 + 72 * o.rows ≤ o.cap && o.cap ≤ 16777216, 12), (o.base % 65536 == 0, 16), (leAt b 24 2 ≤ 4095, 24),
    (if o.rtp then o.ports < 16 && 1 ≤ np && np ≤ 2 else o.ports == 0, 26),
    (if o.rtp then 96 ≤ o.pt && o.pt ≤ 127 else o.pt == 0, 27), (zeroAt b 52 12, 52)]

/-- Whether the ring and work area leave DRAM or overlap a pool, a writeback ring or another encode area (step 4). -/
def encRangeBad (d : Dev) (c : Nat) (o : EncOpen) : Bool :=
  let n := o.ring + o.work
  decide (2 ^ 36 < o.base + n) ||
    (d.dec.ctxs.any fun e => match e.2.setup with | some k => rangesMeet o.base n k.base k.poolSize | none => false) ||
    (d.enabledHeads.any fun h => (d.inForce h).wbOn && rangesMeet o.base n (d.inForce h).wbBase (d.inForce h).wbRing) ||
    d.enc.ctxs.any fun e => e.1 != c && match e.2.open' with
      | some p => rangesMeet o.base n p.base (p.ring + p.work)
      | none => false

/-- ENCODE_OPEN (R262, R273). -/
def encodeOpen (q seq : Nat) (d : Dev) : Dev :=
  d.onCmd q seq 0x0610 fun cm d =>
    d.withTail q seq cm 8 fun d => d.withHost q seq cm fun b d =>
      let c := leAt b 0 1
      let o := encOpenOf d b
      if d.inState c ≠ inClosed || d.encState c ≠ enClosed then
        d.reject q seq 0x0401
      else match firstBad [(o.period != 0, 6), (o.kbps != 0, 8), (o.cap != 0, 12)] with
      | some i => d.finish q seq Status.zeroRejected i
      | none =>
        match encBadField b o with
        | some i => d.finish q seq Status.rejected rEncField i
        | none =>
          let s := d.inForce o.head
          if (d.headEntry o.head).isNone || !s.wbOn || s.wbFmt ≠ codecFmt o.codec then d.reject q seq rNoWriteback
          else if encRangeBad d c o then d.reject q seq rRingRange
          else
            let size := o.ring + o.work
            let any := if o.guaranteed then none else some (b2n (fracLt (d.encLoad 1 true) (d.encLoad 0 true)))
            match d.encAdmit o <|> any with
            | none =>
              let d := d.setReg R.ENC_STATUS (enRefused * 2 ^ 29 + 4 * 2 ^ 26 + rEncBudget) c
              (d.info .encRefused 0x3FFF c rEncBudget).refuse q seq rEncBudget
            | some e =>
              let d := d.setEnc c { EncCtx.init with open' := some o }
              let d := d.setReg R.ENC_STATUS (enWait * 2 ^ 29 + e * 2 ^ 25) c
              let d := (d.setReg R.ENC_WPTR 0 c).setReg R.ENC_LOAD (kpx o.load) c
              d.encRegs.succeed q seq
                (size % 2 ^ 32 + e * 2 ^ 32 + enWait * 2 ^ 40)

def execEncodeOpen (t q seq : Nat) (s : State) : Host.Outcome State Fault Refusal := s.onDev t (encodeOpen q seq)

/-- ENCODE_CLOSE (R258, R273): the row in progress is discarded and the leases are released. -/
def encodeClose (q seq : Nat) (d : Dev) : Dev :=
  d.onCmd q seq 0x0611 fun cm d => d.withTail q seq cm 1 fun d =>
    let c := cm.p 0 1
    if d.encState c = enClosed then d.succeed q seq 0
    else
      let n := (d.encCtx c).pictures
      let e := d.get R.ENC_STATUS_ENGINE c
      let d := ((d.encStop c).encUnlease c).setEnc c .init
      let d := (d.setReg R.ENC_STATUS 0 c).setReg R.ENC_LOAD 0 c
      (d.encDispatch e).succeed q seq n

def execEncodeClose (t q seq : Nat) (s : State) : Host.Outcome State Fault Refusal := s.onDev t (encodeClose q seq)

/-- ENCODE_REFRESH (R263, R273). -/
def encodeRefresh (q seq : Nat) (d : Dev) : Dev :=
  d.onCmd q seq 0x0612 fun cm d =>
    if 2 ≤ cm.p 1 1 then d.bad q seq 1
    else d.withTail q seq cm 2 fun d =>
      let c := cm.p 0 1
      let d' := if d.encState c ≠ enRunning then d
        else d.setEnc c { d.encCtx c with
          idrNext := (d.encCtx c).idrNext || bit (cm.p 1 1) 0, cycleNext := (d.encCtx c).cycleNext || !bit (cm.p 1 1) 0 }
      d'.succeed q seq (d'.encState c)

def execEncodeRefresh (t q seq : Nat) (s : State) : Host.Outcome State Fault Refusal := s.onDev t (encodeRefresh q seq)

end Sys2Proof.Machine
end

