-- ==== Sys2Proof/Machine/Fresh.lean ====
section
/-! DEFINITION. Freshness, tasters and the safety status port (12). -/

namespace Sys2Proof.Machine

/-- Agent of the compose domain (R487). -/
def composeAgent : Nat := 0x4FFF

/-! ### Age and the freshness decision (R232 to R237) -/

/-- FRESH codes. -/
def frLive : Nat := 0
/-- LATE. -/
def frLate : Nat := 1
/-- STALE. -/
def frStale : Nat := 2
/-- IMPAIRED. -/
def frImpaired : Nat := 3
/-- FROZEN. -/
def frFrozen : Nat := 4
/-- NOSOURCE. -/
def frNoSource : Nat := 5
/-- STATIC. -/
def frStatic : Nat := 6

/-- G(N) of a bottom line (R201), quarter nanoseconds of working time. -/
def glass (m : ModeRow) (n bot : Nat) : Nat := m.start n + m.lines (bot + 1)

/-- Age in ns of a postmark at a glass instant; none for CLASS NONE (R232). -/
def ageAt (pm : Postmark) (g : Nat) : Option Int :=
  if pm.cls = 3 then none else some (sdiff 48 (g / 4 % 2 ^ 48) pm.capt)

/-- The freshness state of a layer with something latched (R234): ROLE, limits in µs, age, FROZEN, IMPAIRED. -/
def decideFresh (role late stale : Nat) (age : Option Int) (frozen impaired : Bool) : Nat :=
  if role = 1 then frStatic
  else match age with
    | none => frStale
    | some a =>
      if a < 0 ∨ (stale : Int) * 1000 < a then frStale
      else if frozen then frFrozen
      else if impaired then frImpaired
      else if (late : Int) * 1000 < a then frLate
      else frLive

/-- LAYER_AGE of an age (R232). -/
def ageReg (a : Option Int) : Nat :=
  match a with
  | none => 0x80000000
  | some a => ofSigned 32 (max (-0x7FFFFFFF) (min 0x7FFFFFFF (a / 1000)))

/-! ### Status words (R248, R249) -/

/-- The layer bound to a view. -/
def Dev.viewLayer (d : Dev) (v : Nat) : Option Nat := d.curLayers.find? fun l => ldView (d.curLd l) == some v

/-- Bound views, ascending by layer: view and layer. -/
def Dev.boundViews (d : Dev) : List (Nat × Nat) :=
  d.curLayers.filterMap fun l => (ldView (d.curLd l)).map fun v => (v, l)

/-- Tasters whose current ENABLE is 1. -/
def Dev.curTasters (d : Dev) : List Nat := d.tstKeys.filter fun k => tsEnable (d.tstCur k)

/-- Whether a taster with VIEW_EN that names `v` is in MISMATCH. -/
def Dev.tasteFail (d : Dev) (v : Nat) : Bool :=
  d.curTasters.any fun k => tsF (d.tstCur k) 0 20 20 == 1 && tsF (d.tstCur k) 0 9 0 == v && d.on R.TST_STATUS_MISMATCH k

/-- FRESH of a layer. -/
def Dev.fresh (d : Dev) (l : Nat) : Nat := d.get R.LAYER_STATUS_FRESH l
/-- STATE of a head's output (R216). -/
def Dev.headState (d : Dev) (h : Nat) : Nat := d.get R.HEAD_DISP_STATUS_STATE h
/-- NOSINK. -/
def hsNoSink : Nat := 1
/-- TRAINING. -/
def hsTraining : Nat := 2
/-- ACTIVE. -/
def hsActive : Nat := 3
/-- MODE_CHANGE. -/
def hsModeChange : Nat := 4

/-- VOUCHED of a view that layer `l` is bound to (R249). -/
def Dev.vouched (d : Dev) (v l : Nat) : Bool :=
  (d.fresh l == frLive || d.fresh l == frLate || d.fresh l == frStatic) && d.get R.LAYER_STATUS_SERVICE l == 0 &&
    d.headState (ldHead (d.curLd l)) == hsActive && !(d.layerSt l).lateLine && !d.tasteFail v

/-- Views that drive ALARM_N: bound, with ALARM, not vouched (R254). -/
def Dev.alarmViews (d : Dev) : List (Nat × Nat) :=
  d.boundViews.filter fun e => ldF (d.curLd e.2) 13 23 23 == 1 && !d.vouched e.1 e.2

/-- IMAGE_CURRENT (R253); it reads 0 while the SSP is under test (R448). -/
def Dev.imageCurrent (d : Dev) : Bool := d.comp.current && !d.underTest 5

/-- ALL_LIVE (R254). -/
def Dev.allLive (d : Dev) : Bool :=
  d.phase == phaseRunning && d.imageCurrent && !d.boundViews.isEmpty &&
    d.boundViews.all fun e => d.vouched e.1 e.2 && d.fresh e.2 != frLate

/-- ALARM_N (R254). -/
def Dev.alarmN (d : Dev) : Bool :=
  !(d.underTest 5 || d.phase == phaseRunning && (!d.comp.current || !d.alarmViews.isEmpty ||
    d.curTasters.any fun k => tsF (d.tstCur k) 0 22 22 == 1 && d.on R.TST_STATUS_MISMATCH k))

/-- The module summary word (R249). -/
def Dev.summaryWord (d : Dev) : Nat :=
  b2n d.imageCurrent * 2 ^ 15 + b2n (d.phase == phaseRunning) * 2 ^ 14 + d.get R.PAIR_STATUS_OWNS * 2 ^ 13 +
    b2n d.allLive * 2 ^ 12 + b2n (!d.alarmN) * 2 ^ 11 + b2n (d.wtState == 3) * 2 ^ 10 +
    d.get R.WT_STATUS_TRUST_EXPIRED * 2 ^ 9 + d.get R.ERR_STATUS_DEGRADED * 2 ^ 8 +
    min 255 (d.boundViews.filter fun e => !d.vouched e.1 e.2).length

/-- A head word (R249). -/
def Dev.headWord (d : Dev) (h : Nat) : Nat :=
  b2n (d.headEntry h).isSome * 2 ^ 15 + d.headState h * 2 ^ 12 + d.get R.HEAD_DISP_STATUS_CAUSE h % 8 * 2 ^ 9 +
    b2n (d.head h).frameLate * 2 ^ 8 + b2n (d.head h).frameReduced * 2 ^ 7 +
    d.get R.HEAD_DISP_STATUS_LOWERED h * 2 ^ 6 +
    b2n (d.curTasters.any fun k => tsHead (d.tstCur k) == h && d.on R.TST_STATUS_MISMATCH k) * 2 ^ 5 +
    (d.head h).shown % 32

/-- A context word (R249). -/
def Dev.ctxWord (d : Dev) (c : Nat) : Nat :=
  d.inState c * 2 ^ 13 + d.dcState c * 2 ^ 10 + d.dcService c * 2 ^ 7 + d.get R.DCTX_STATUS_IMPAIRED c * 2 ^ 6 +
    d.get R.DCTX_STATUS_FROZEN c * 2 ^ 5 + d.get R.DCTX_STATUS_REFRESHING c * 2 ^ 4 +
    d.get R.CTX_STATUS_LEG0_ACTIVE c * 2 ^ 3 + d.get R.CTX_STATUS_LEG1_ACTIVE c * 2 ^ 2 +
    d.get R.CTX_STATUS_GUARANTEED c * 2 + d.get R.CTX_STATUS_DUAL c

/-- The age word of a bound layer (R249). -/
def Dev.ageWord (d : Dev) (l : Nat) : Nat :=
  if d.fresh l = frNoSource then 0xFFFF
  else match (d.layerSt l).age with
    | none => 0xFFFF
    | some a =>
      if a < 0 then 0xC000
      else
        let n := a.toNat
        if n / 100000 ≤ 16383 then n / 100000
        else if n / 10000000 ≤ 16383 then 0x4000 + n / 10000000
        else 0x8000 + min 16383 (n / 1000000000)

/-- A view word (R249). -/
def Dev.viewWord (d : Dev) (v l : Nat) : Nat :=
  let x := d.layerSt l
  b2n (d.vouched v l) * 2 ^ 15 + 2 ^ 14 + d.fresh l * 2 ^ 11 + d.get R.LAYER_STATUS_SERVICE l * 2 ^ 8 +
    b2n (d.headState (ldHead (d.curLd l)) != hsActive) * 2 ^ 7 + b2n x.lateLine * 2 ^ 6 + b2n (d.tasteFail v) * 2 ^ 5 +
    d.get R.LAYER_STATUS_SPAN_SKEW l * 2 ^ 4 +
    b2n (bit x.pm.flags 1 || (d.fresh l == frStale && d.ageWord l == 0xC000)) * 2 ^ 3 + b2n (bit x.pm.flags 2) * 2 ^ 2 +
    x.pm.cls

/-- A reason word (R249). -/
def Dev.reasonWord (d : Dev) (l : Nat) : Nat :=
  let r := d.get R.LAYER_STATUS_REASON l
  if r ≠ 0 then r
  else if ldType (d.curLd l) ≠ 0 then 0
  else
    let c := ldF (d.curLd l) 5 7 0
    if d.get R.DCTX_STATUS_REASON c ≠ 0 then d.get R.DCTX_STATUS_REASON c else d.get R.CTX_STATUS_REASON c

/-- The status image at a word address (R248). -/
def Dev.sspWord (d : Dev) (a : Nat) : Nat :=
  if a = 0 then d.summaryWord
  else if a = 1 then d.get R.ALARM_CAUSE_CAUSE * 2 ^ 11
  else if a = 2 then d.wt / qMs % 65536
  else if a = 3 then d.comp.tick % 65536
  else if a = 4 then d.moduleId
  else if a = 5 then d.boundViews.length
  else if 0x10 ≤ a ∧ a < 0x30 then d.headWord (a - 0x10)
  else if 0x40 ≤ a ∧ a < 0x80 then
    (List.range 16).foldl (fun n i => n + b2n (d.on R.TST_STATUS_MISMATCH ((a - 0x40) * 16 + i)) * 2 ^ i) 0
  else if 0x80 ≤ a ∧ a < 0x180 then d.ctxWord (a - 0x80)
  else if 0x400 ≤ a ∧ a < 0x800 then ((d.viewLayer (a - 0x400)).map fun l => d.viewWord (a - 0x400) l).getD 0
  else if 0x800 ≤ a ∧ a < 0xC00 then ((d.viewLayer (a - 0x800)).map d.ageWord).getD 0xFFFF
  else if 0xC00 ≤ a ∧ a < 0x1000 then ((d.viewLayer (a - 0xC00)).map d.reasonWord).getD 0
  else 0

/-- Addresses whose word can differ from what an unbound, idle image reads: those below 0x400, and those of bound
views. -/
def Dev.sspAddrs (d : Dev) : List Nat :=
  List.range 0x180 ++ (((d.boundViews.map (·.1)).mergeSort (· ≤ ·)).flatMap fun v => [0x400 + v, 0x800 + v, 0xC00 + v])

/-- What an unlisted word of a bank reads: an unbound age word 0xFFFF, any other 0. -/
def bankDefault (a : Nat) : Nat := if 0x800 ≤ a ∧ a < 0xC00 then 0xFFFF else 0

/-- The whole status image as a bank. -/
def Dev.sspImage (d : Dev) : Tab Nat :=
  (d.sspAddrs.filterMap fun a => if d.sspWord a = bankDefault a then none else some (a, d.sspWord a)).foldl
    (fun t e => tabPut t e.1 e.2) []

/-- The word that the bank in force presents. -/
def Dev.sspBank (d : Dev) (a : Nat) : Nat := tabGetD d.comp.bank (bankDefault a) a

/-! ### Alarm causes (R249) -/

/-- Set a sticky cause: 4 TASTER, 3 VIEW, 2 IMAGE, 1 LATE_LINE, 0 HEAD_DOWN. -/
def Dev.cause (d : Dev) (i : Nat) : Dev := d.put R.ALARM_CAUSE_CAUSE (d.get R.ALARM_CAUSE_CAUSE ||| 2 ^ i)

/-- Do `f`, and set the VIEW cause when a bound view with ALARM stops being vouched (R249). -/
def Dev.watchViews (d : Dev) (f : Dev → Dev) : Dev :=
  let d' := f d
  let was := (d.boundViews.filter fun e => d.vouched e.1 e.2)
  if d'.alarmViews.any fun e => was.contains e then d'.cause 3 else d'

/-- A head's output changes STATE and CAUSE (R216, R217): one recorder event for a change, and the HEAD_DOWN cause when
a head that holds a bound view leaves ACTIVE. -/
def Dev.setHeadState (d : Dev) (h st cause : Nat) : Dev :=
  let old := d.headState h
  if old = st && d.get R.HEAD_DISP_STATUS_CAUSE h = cause then d
  else
    let d' := ((d.put R.HEAD_DISP_STATUS_STATE st h).put R.HEAD_DISP_STATUS_CAUSE cause h).info .headState (0x5020 + h) st
      cause
    if old = hsActive && st ≠ hsActive && d.boundViews.any (fun e => ldHead (d.curLd e.2) == h) then d'.cause 0 else d'

/-! ### Tasters (R243 to R247) -/

/-- A taster beyond its registers. -/
def Dev.taster (d : Dev) (k : Nat) : TasterSt := tabGetD d.comp.tasters ⟨false, none⟩ k
/-- Set it. -/
def Dev.setTaster (d : Dev) (k : Nat) (v : TasterSt) : Dev :=
  { d with comp := { d.comp with tasters := tabSet d.comp.tasters ⟨false, none⟩ k v } }

/-- The signature of a region of a frame as sent (R243). -/
def tasterSig (w : List Nat) (f : FrameSt) : Nat :=
  crcOf 1 ((List.range (tsF w 2 15 0)).flatMap fun j =>
    ((tabGetD f.sent [] (tsF w 1 15 0 + j)).drop (tsF w 1 31 16)).take (tsF w 2 31 16) |>.flatMap (leBytes 4))

/-- MISMATCH of a taster changes (R246). -/
def Dev.setMismatch (d : Dev) (k : Nat) (w : List Nat) (v : Bool) : Dev :=
  if d.on R.TST_STATUS_MISMATCH k = v then d
  else d.watchViews fun d =>
    let d := (d.put R.TST_STATUS_MISMATCH (b2n v) k).info (if v then .tasterMismatch else .tasterClear) (0x4400 + k) k
    let d := if v then d.put R.TST_STATUS_EVER 1 k else d
    let d := if v && tsF w 0 22 22 == 1 then d.cause 4 else d
    if tsF w 0 21 21 == 1 then
      let f := fun i => (Config.freeWord 2 i).toNat
      d.notify (entryBytes (f 0) (f 1) 0 (f 2) (0x4400 + k) 0 d.moduleId d.wt48 (f 3))
    else d

/-- TASTER_COMPARE (R243, R244, R246). -/
def tasterCompare (k n : Nat) (d : Dev) : Dev :=
  let w := d.tstCur k
  let h := tsHead w
  match (d.head h).frame? n with
  | none => d
  | some f =>
    if !tsEnable w || d.headState h == hsModeChange ||
      (List.range (tsF w 2 15 0)).any (fun j => (tabGet? f.sent (tsF w 1 15 0 + j)).isNone) then d
    else if (d.taster k).fresh then d.setTaster k ⟨false, none⟩
    else
      let sig := tasterSig w f
      let run := d.get R.TST_STATUS_RUN k
      let mode := tsF w 0 30 28
      let same := (d.taster k).prev == some sig
      let miss := match mode with
        | 1 => sig != w.getD 3 0
        | 2 => sig != w.getD (3 + n % 8) 0
        | 3 => same && decide (tsF w 3 15 0 ≤ run + 1)
        | _ => false
      let run' := if (if mode == 3 then same else miss) then min (run + 1) 0xFFFF else 0
      let d := (((d.setTaster k ⟨false, some sig⟩).setReg R.TST_SIG sig k).setReg R.TST_FRAME n k).put
        R.TST_STATUS_RUN run' k
      if mode == 3 then d.setMismatch k w miss
      else if !miss then d.setMismatch k w false
      else if tsF w 0 19 16 + 1 ≤ run' then d.setMismatch k w true
      else d

def execTasterCompare (t k n : Nat) (s : State) : Host.Outcome State Fault Refusal := s.onDev t (tasterCompare k n)

/-! ### Safety status port (R251 to R253) -/

/-- The word that an address reads while the SSP is under test (R448). -/
def sspPattern (a : Nat) : Nat := (a * 0x0011 % 65536) ^^^ 0xA5A5

/-- SSP_READ (R251, R252): a cycle sampled with SSP_SEL_N low reads a word of the bank presented. -/
def sspRead (a : Nat) (d : Dev) : Dev :=
  let d := d.bump R.SSP_READS_COUNT
  let w := if d.underTest 5 then sspPattern (a % 4096) else d.sspBank (a % 4096)
  { d with comp := { d.comp with sspD := if d.comp.drive then some w else none } }

def execSspRead (t a : Nat) (s : State) : Host.Outcome State Fault Refusal := s.onDev t (sspRead a)

/-- SSP_BANK_SWITCH (R251, R252): the bank takes every update that has arrived, and DRIVE takes effect. -/
def sspBankSwitch (d : Dev) : Dev :=
  { d with comp := { d.comp with bank := d.sspImage, drive := d.on R.SSP_CTRL_DRIVE } }

def execSspBankSwitch (t : Nat) (s : State) : Host.Outcome State Fault Refusal := s.onDev t sspBankSwitch

/-- IMAGE_TICK_ADVANCE (R253). -/
def imageTick (d : Dev) : Dev :=
  if d.phase ≠ phaseRunning then d
  else { d with comp := { d.comp with tick := d.comp.tick + 1, tickAt := d.wt, current := true } }

def execImageTickAdvance (t : Nat) (s : State) : Host.Outcome State Fault Refusal := s.onDev t imageTick

/-- IMAGE_TICK_TIMEOUT (R253): 1 ms of working time without an advance. -/
def imageTimeout (d : Dev) : Dev :=
  if !d.comp.current || d.wt < d.comp.tickAt + qMs then d
  else { d with comp := { d.comp with current := false } }.cause 2

def execImageTickTimeout (t : Nat) (s : State) : Host.Outcome State Fault Refusal := s.onDev t imageTimeout

end Sys2Proof.Machine
end

