-- ==== Sys2Proof/Machine/Line.lean ====
section
/-! DEFINITION. The composition of one line of a head: layers, treatments, badge and franking mark, blending and the
stored words (09, 12), and the words of a writeback line (11). -/

namespace Sys2Proof.Machine

/-! ### Settings of a frame -/

/-- The mode of a frame. -/
def FrameSt.row (f : FrameSt) : ModeRow := modeRow f.mode
/-- Output transfer function of a frame (R186). -/
def FrameSt.tf (f : FrameSt) : Nat := bits f.outFmt 28 26
/-- Output gamut of a frame. -/
def FrameSt.gamut (f : FrameSt) : Nat := bits f.outFmt 25 24
/-- DITHER of a frame. -/
def FrameSt.dither (f : FrameSt) : Bool := bit f.outFmt 31

/-! ### Markers (R283, R284) -/

/-- Whether pixel (u, v) of a marker image of size `m` is set. -/
def markSet (shape m u v : Nat) : Bool :=
  let a : Int := 2 * u - (m - 1 : Int)
  let b : Int := 2 * v - (m - 1 : Int)
  let d := a * a + b * b
  match shape with
  | 0 => decide (((m : Int) - 6) ^ 2 ≤ d) && decide (d ≤ (m : Int) ^ 2)
  | 1 => decide (d ≤ (m : Int) ^ 2)
  | _ => a.natAbs ≤ 2 || b.natAbs ≤ 2

/-- The markers of a touch state, in report order, by top-left corner (R283). -/
def touchMarkers (w : List Nat) (r : TouchRel) : List Marker :=
  let g := r.map
  (r.entries.filter fun e => e.event != 3 && e.event != 4).map fun e =>
    let (x, y) := if bit g.shape 8 then (e.y, e.x) else (e.x, e.y)
    let at' : Nat → Nat → Int → Int := fun v sc off => off + ((v : Int) * toSigned 32 sc + 32768) / 65536
    ⟨at' x g.sx (toSigned 16 (bits g.off 31 16)) - (ldDw w / 2 : Nat),
     at' y g.sy (toSigned 16 (bits g.off 15 0)) - (ldDh w / 2 : Nat), if e.event = 5 then g.hover else g.colour⟩

/-- The visible rectangle of a marker's square. -/
def markerVis (w : List Nat) (m : ModeRow) (k : Marker) : Vis :=
  ⟨max k.x 0, min (k.x + ldDw w - 1) (m.w - 1), max k.y 0, min (k.y + ldDh w - 1) (m.h - 1)⟩

/-! ### The picture of a layer (R166, stages 1 to 10) -/

/-- A pixel of the source crop after stage 9; a pixel whose samples are poisoned is opaque black (R170). -/
def cropPx (d : Dev) (m : Mem) (f : FrameSt) (w : List Nat) (v : SrcView) (i j : Nat) : Px :=
  let x := ldSx w + i
  let y := ldSy w + j
  if (v.blocks x y).any (poisonLine d m) then .black
  else linearise (ldF w 10 31 30) v.tf v.gamut f.gamut (v.norm m x y)

/-- A pixel of a layer's picture at destination index (i, j). -/
def picturePx (d : Dev) (m : Mem) (f : FrameSt) (w : List Nat) (v : SrcView) (i j : Nat) : Px :=
  scaledPx (ldF w 10 29 28) (ldSw w) (ldSh w) (ldDw w) (ldDh w) (cropPx d m f w v) i j

/-- A pixel of a marker at index (i, j) of its square. -/
def markerPx (f : FrameSt) (w : List Nat) (size shape colour i j : Nat) : Px :=
  scaledPx (ldF w 10 29 28) (ldSw w) (ldSh w) (ldDw w) (ldDh w)
    (fun x y => if markSet shape size (ldSx w + x) (ldSy w + y) then fillColour f.tf colour else ⟨0, 0, 0, 0⟩) i j

/-- The source rows that a destination line `j` of a layer reads (R179, R180). -/
def rowsRead (w : List Nat) (j : Nat) : List Nat :=
  let filter := ldF w 10 29 28
  if !ldScaled w then [j]
  else
    let k := boxFactor (filter == 2) (ldSh w) (ldDh w)
    let (n, p) := scalePos (ldSh w) (ldDh w) k j
    let count := (ldSh w + k - 1) / k
    ((taps filter true p).flatMap fun t =>
      (List.range k).map fun i => nearIdx count (n + t.1) * k + i).filter (· < ldSh w) |>.eraseDups

/-- The poisoned lines that a destination line of a layer meets (R170). -/
def ladlePoison (d : Dev) (m : Mem) (w : List Nat) (v : SrcView) (j : Nat) : List Nat :=
  if m.poison.isEmpty && m.ue.isEmpty && d.get R.MEM_STATUS_FAILED_CH = 0 then []
  else (((rowsRead w j).flatMap fun r => (List.range (ldSw w)).flatMap fun i =>
    v.blocks (ldSx w + i) (ldSy w + r)).eraseDups).filter (poisonLine d m)

/-! ### Treatments, badge and franking mark (R238 to R242) -/

/-- A 10:10:10 colour as a word. -/
def rgbWord (r g b : Nat) : Nat := 3 * 2 ^ 30 + r * 2 ^ 20 + g * 2 ^ 10 + b

/-- The state colour of a freshness state (R239). -/
def stateColour (fresh : Nat) : Nat :=
  if fresh = frLate then rgbWord 1023 1023 0
  else if fresh = frStale ∨ fresh = frFrozen then rgbWord 1023 512 0
  else if fresh = frImpaired then rgbWord 0 768 1023
  else rgbWord 1023 0 0

/-- The treatment of a state: 0 HATCH, 1 VEIL, 2 BLANK; none for a state without one. -/
def treatmentOf (w : List Nat) (fresh : Nat) : Option Nat :=
  if fresh = frNoSource then some 2
  else if fresh = frStale ∨ fresh = frFrozen then some (ldF w 13 31 30)
  else if fresh = frImpaired then some (ldF w 13 29 28)
  else none

/-- An opaque marking of a colour. -/
def marking (f : FrameSt) (colour : Nat) : Px := { codeColour f.tf colour with a := one16 }

/-- VEIL (R238). -/
def veil (p : Px) : Px :=
  let y := (3483 * p.r + 11718 * p.g + 1183 * p.b + 8192) / 16384
  p.colour fun _ => (y + 1) / 2

/-- Picture and treatment at a pixel of the rectangle (R238). -/
def treated (f : FrameSt) (w : List Nat) (fresh : Nat) (r : Vis) (x y : Int) (pic : Px) : Px :=
  let border := x < r.xl + 8 || r.xr - 8 < x || y < r.yt + 8 || r.yb - 8 < y
  let stripe := (x + y) % 32 < 4
  match treatmentOf w fresh with
  | some t =>
    if border || (stripe && t != 1) then marking f (stateColour fresh)
    else if t = 2 then ⟨0x800, 0x800, 0x800, one16⟩
    else if t = 1 then veil pic
    else pic
  | none => if fresh = frLate && ldF w 13 25 25 == 1 && border then marking f (stateColour fresh) else pic

/-- Glyph rows of the badge: digits 0 to 9, then the dash (R241). -/
def glyphs : List (List Nat) := [
  [0x0E, 0x11, 0x13, 0x15, 0x19, 0x11, 0x0E], [0x04, 0x0C, 0x04, 0x04, 0x04, 0x04, 0x0E],
  [0x0E, 0x11, 0x01, 0x02, 0x04, 0x08, 0x1F], [0x1F, 0x02, 0x04, 0x02, 0x01, 0x11, 0x0E],
  [0x02, 0x06, 0x0A, 0x12, 0x1F, 0x02, 0x02], [0x1F, 0x10, 0x1E, 0x01, 0x01, 0x11, 0x0E],
  [0x06, 0x08, 0x10, 0x1E, 0x11, 0x11, 0x0E], [0x1F, 0x01, 0x02, 0x04, 0x08, 0x08, 0x08],
  [0x0E, 0x11, 0x11, 0x0E, 0x11, 0x11, 0x0E], [0x0E, 0x11, 0x11, 0x0F, 0x01, 0x02, 0x0C],
  [0x00, 0x00, 0x00, 0x1F, 0x00, 0x00, 0x00]]

/-- The characters of a badge, as indices of `glyphs` (R241). -/
def badgeText (age : Option Int) : List Nat :=
  match age with
  | none => List.replicate 6 10
  | some a =>
    if a < 0 ∨ 1000000000 ≤ a then List.replicate 6 10
    else
      let ms := a.toNat / 1000000
      if ms < 10 then [ms] else if ms < 100 then [ms / 10, ms % 10] else [ms / 100, ms / 10 % 10, ms % 10]

/-- Whether the badge is drawn. -/
def badgeOn (w : List Nat) (fresh : Nat) : Bool :=
  match ldF w 13 27 26 with
  | 1 => fresh != frLive && fresh != frStatic
  | 2 => fresh != frStatic
  | _ => false

/-- The badge at a pixel given by its offset from the rectangle's corner: none outside the box. -/
def badgePx (f : FrameSt) (w : List Nat) (fresh : Nat) (age : Option Int) (dx dy : Int) : Option Px :=
  let t := badgeText age
  let bx := dx - 8
  let by' := dy - 8
  if !badgeOn w fresh || bx < 0 || by' < 0 || (12 * t.length + 2 : Nat) ≤ bx || 18 ≤ by' then none
  else
    let i := ((bx - 2) / 12).toNat
    let c := ((bx - 2) % 12 / 2).toNat
    let r := ((by' - 2) / 2).toNat
    let set := 2 ≤ bx && 2 ≤ by' && c < 5 && r < 7 && bit ((glyphs.getD (t.getD i 10) []).getD r 0) (4 - c)
    let (fg, bg) := if fresh = frLive then (rgbWord 1023 1023 1023, rgbWord 0 0 0) else (rgbWord 0 0 0, stateColour fresh)
    some (marking f (if set then fg else bg))

/-- The franking mark at a pixel (R242). -/
def frankPx (f : FrameSt) (w : List Nat) (n : Nat) (r : Vis) (x y : Int) : Option Px :=
  let k := (x - r.xl - 8) / 8
  if ldF w 13 24 24 == 1 && 0 ≤ k && k < 8 && r.yb - 15 ≤ y && y ≤ r.yb - 8 then
    some (marking f (if k = (n % 8 : Nat) then rgbWord 1023 1023 1023 else rgbWord 0 0 0))
  else none

/-- A pixel of a layer after the markings (R240). -/
def markedPx (f : FrameSt) (n : Nat) (s : Scene) (r : Vis) (x y : Int) (pic : Px) : Px :=
  match frankPx f s.words n r x y, badgePx f s.words s.fresh s.age (x - r.xl) (y - r.yt) with
  | some p, _ => p
  | none, some p => p
  | none, none => treated f s.words s.fresh r x y pic

/-! ### One head pixel (R184, R195, R198) -/

/-- The late-line fill at column x of frame N (R195). -/
def fillWord (x n : Nat) : Nat := if (x / 32 + n) % 2 = 0 then rgbWord 1023 0 1023 % 2 ^ 30 else 0

/-- A head pixel under construction: the working colour, and the code it holds while it is late-line fill. -/
structure Acc where
  px : Px
  code : Option Nat
  deriving DecidableEq, Repr

/-- Blend a layer's pixel; a pixel of no effect leaves fill as it is. -/
def Acc.blend (a : Acc) (opacity : Nat) (p : Px) : Acc :=
  let q := Machine.blend opacity a.px p
  if mulAlpha p.a (min opacity one16) = 0 && q == a.px then a else ⟨q, none⟩

/-- The pixels that a layer puts at a head pixel, lowest first. -/
def scenePixels (d : Dev) (m : Mem) (f : FrameSt) (n : Nat) (s : Scene) (x y : Nat) : List Px :=
  let w := s.words
  let inside : Vis → Bool := fun r => r.xl ≤ x && (x : Int) ≤ r.xr && r.yt ≤ y && (y : Int) ≤ r.yb
  match s.shown with
  | .echo size shape ms =>
    (ms.reverse.filter fun k => inside (markerVis w f.row k)).map fun k =>
      markedPx f n s (markerVis w f.row k) x y (markerPx f w size shape k.colour (x - k.x).toNat (y - k.y).toNat)
  | .view v =>
    let r := visible w f.row
    if inside r then [markedPx f n s r x y (picturePx d m f w v (x - ldX w).toNat (y - ldY w).toNat)] else []
  | .fill c =>
    let r := visible w f.row
    if inside r then [markedPx f n s r x y (fillColour f.tf c)] else []
  | .missing =>
    let r := visible w f.row
    if ldType w != 5 && inside r then [markedPx f n s r x y ⟨0x800, 0x800, 0x800, one16⟩] else []

/-- Scenes of a frame in stacking order, lowest first (R152). -/
def FrameSt.stack (f : FrameSt) : List Scene :=
  f.scene.mergeSort fun a b => ldZ a.words < ldZ b.words || (ldZ a.words == ldZ b.words && a.layer ≤ b.layer)

/-- Whether a layer covers a head pixel in a frame. -/
def Scene.covers (f : FrameSt) (s : Scene) (x y : Nat) : Bool :=
  let inside : Vis → Bool := fun r => r.xl ≤ x && (x : Int) ≤ r.xr && r.yt ≤ y && (y : Int) ≤ r.yb
  match s.shown with
  | .echo _ _ ms => ms.any fun k => inside (markerVis s.words f.row k)
  | _ => ldType s.words != 5 && inside (visible s.words f.row)

/-- The stored word of a head pixel; layers in `out` are left out and give the fill (R184 to R186, R198). -/
def headPixel (d : Dev) (m : Mem) (f : FrameSt) (n : Nat) (out : List Nat) (x y : Nat) : Nat :=
  let start : Acc := ⟨{ codeColour f.tf f.background with a := one16 }, none⟩
  let acc := f.stack.foldl (fun (a : Acc) s =>
    if out.contains s.layer then
      if s.covers f x y then ⟨{ codeColour f.tf (fillWord x n) with a := one16 }, some (fillWord x n)⟩ else a
    else (scenePixels d m f n s x y).foldl (fun a p => a.blend (ldF s.words 10 17 0) p) a) start
  match acc.code with
  | some c => c
  | none => storedWord f.tf f.bpc10 f.dither x y acc.px

/-- The words of a line (R188). -/
def headLine (d : Dev) (m : Mem) (f : FrameSt) (n : Nat) (out : List Nat) (y : Nat) : List Nat :=
  (List.range f.row.w).map fun x => headPixel d m f n out x y

/-- A line of late-line fill (R195). -/
def lateFill (w n : Nat) : List Nat := (List.range w).map fun x => fillWord x n

/-! ### Writeback lines (R225, R226) -/

/-- Coefficients of Y, Cb and Cr of a writeback MATRIX (R226). -/
def wbK (matrix : Nat) : (Int × Int × Int) × (Int × Int × Int) × (Int × Int × Int) :=
  if matrix = 0 then ((3483, 11718, 1183), (-1877, -6315, 8192), (8192, -7441, -751))
  else ((4304, 11108, 972), (-2288, -5904, 8192), (8192, -7533, -659))

/-- Σ K × code of a stored word. -/
def wbSum (k : Int × Int × Int) (c : Nat) : Int :=
  k.1 * bits c 29 20 + k.2.1 * bits c 19 10 + k.2.2 * bits c 9 0

/-- A luma code of depth `n` (R226). -/
def wbLuma (matrix : Nat) (full : Bool) (n c : Nat) : Nat :=
  let y := wbSum (wbK matrix).1 c
  let s : Nat := 2 ^ (n - 8)
  (clampTo 0 (2 ^ n - 1 : Nat) (if full then rdiv (y * (2 ^ n - 1 : Nat)) 16759808
    else (16 * s : Nat) + rdiv (y * (219 * s : Nat)) 16759808)).toNat

/-- A chroma code of depth `n` from lines 2m and 2m + 1 (R226). -/
def wbChroma (k3 : Int × Int × Int) (full : Bool) (n : Nat) (a b : List Nat) (k : Nat) : Nat :=
  let at' : List Nat → Int → Int := fun l i => wbSum k3 (l.getD (nearIdx l.length i) 0)
  let one : List Nat → Int := fun l => at' l (2 * k - 1) + 2 * at' l (2 * k) + at' l (2 * k + 1)
  let c := one a + one b
  let s : Nat := 2 ^ (n - 8)
  (clampTo 0 (2 ^ n - 1 : Nat) (if full then (2 ^ (n - 1) : Nat) + rdiv (c * (2 ^ n - 1 : Nat)) 134078464
    else (128 * s : Nat) + rdiv (c * (224 * s : Nat)) 134078464)).toNat

/-- The bytes that a sent line puts into a writeback buffer: address and bytes (R225). `prev` is the line above. -/
def wbLineBytes (ctrl base w h y : Nat) (prev line : List Nat) : List (Nat × List Byte) :=
  let fmt := bits ctrl 27 26
  let full := bit ctrl 23
  let mx := bits ctrl 25 24
  let p := wbPitch fmt w
  if fmt = 0 then [(base + y * p, line.flatMap (leBytes 4))]
  else
    let n := if fmt = 1 then 8 else 10
    let enc : Nat → List Byte := fun v => if fmt = 1 then leBytes 1 v else leBytes 2 (v * 64)
    let luma := (base + y * p, line.flatMap fun c => enc (wbLuma mx full n c))
    if y % 2 = 0 then [luma]
    else [luma, (base + h * p + y / 2 * p, (List.range ((w + 1) / 2)).flatMap fun k =>
      enc (wbChroma (wbK mx).2.1 full n prev line k) ++ enc (wbChroma (wbK mx).2.2 full n prev line k))]

end Sys2Proof.Machine
end

