-- ==== Sys2Proof/Machine/Chase.lean ====
section
/-! DEFINITION. The frame of a head: its boundary, the latches, the release, composition and read of each line, the start
of its scan, and writeback (08, 10, 11, 12). -/

namespace Sys2Proof.Machine

/-! ### Latches (R200 to R204, R232 to R237) -/

/-- How the ladle reads a slot of a pool, for a layer's words (R168). -/
def Dev.slotView (d : Dev) (w : List Nat) (p : Pool) (i : Nat) (s : PicSlot) : Option SrcView :=
  match p with
  | .wb h =>
    let x := d.head h
    let m := d.modeOf h
    let fmt := bits x.wbCtrl 27 26
    some {
      layout := match fmt with | 0 => .packed 6 | 1 => .p420 false | _ => .p420 true
      addr := (d.inForce h).wbBase + (i - x.wbKey) * wbSize fmt m.w m.h
      pitch := wbPitch fmt m.w, planeH := m.h, width := m.w, height := m.h
      matrix := bits x.wbCtrl 25 24, full := bit x.wbCtrl 23
      tf := d.get R.HEAD_OUT_FMT_CUR_TF h, gamut := d.get R.HEAD_OUT_FMT_CUR_GAMUT h }
  | _ => (d.poolSetup p).map fun su => {
      layout := if su.type ≤ 1 then .p420 su.tenBit else match su.format with
        | 0 => .p422 su.tenBit | 1 => .p444 su.tenBit false | 2 => .p444 su.tenBit false | _ => .p444 su.tenBit true
      addr := su.slotAddr i, pitch := su.pitch, planeH := su.ha, width := s.width, height := s.height
      matrix := ldF w 9 27 26, full := ldF w 9 25 25 == 1, tf := ldF w 9 24 22, gamut := ldF w 9 21 20 }

/-- The surface of a RAW or HOST layer. -/
def surfaceView (w : List Nat) : SrcView :=
  { layout := if ldFmt w = 5 then .packed422 else .packed (ldFmt w)
    addr := ldSurf w, pitch := ldPitch w, planeH := 0, width := ldSx w + ldSw w, height := ldSy w + ldSh w
    matrix := ldF w 9 27 26, full := ldF w 9 25 25 == 1, tf := ldF w 9 24 22, gamut := ldF w 9 21 20 }

/-- Lim(N) of a canvas layer as short working time (R202). -/
def Dev.canvasLimit (d : Dev) (h n : Nat) (m : ModeRow) : Nat :=
  ofSigned 48 ((m.start n / 4 : Nat) - (d.get R.GRP_TRANSIT_TA (d.headGroup h) * 1000 : Nat))

/-- Slots that hold a completed picture. -/
def completed (t : Tab PicSlot) : List (Nat × PicSlot) := t.filter fun e => !e.2.writing && !e.2.isFree

/-- The newest picture, by CAPT, that is not later than a limit (R202). -/
def newestWithin (lim : Nat) (t : Tab PicSlot) : Option (Nat × PicSlot) :=
  (completed t).foldl (fun b e =>
    if later 48 e.2.pm.capt lim then b
    else match b with
      | none => some e
      | some x => if later 48 e.2.pm.capt x.2.pm.capt then some e else b) none

/-- The slot a layer latches in frame N (R135, R202). -/
def Dev.latchSlot (d : Dev) (w : List Nat) (p : Pool) (h n : Nat) (m : ModeRow) : Option (Nat × PicSlot) :=
  let out := (d.poolSlots p).find? fun e => e.2.out
  if d.isCanvas w then (newestWithin (d.canvasLimit h n m) (d.poolSlots p)) <|> out else out

/-- The latch record of a canvas layer (R204): its limit, the CAPT taken, and its skew. -/
def Dev.canvasLatch (d : Dev) (l : Nat) (w : List Nat) (p : Pool) (h n : Nat) (m : ModeRow)
    (took : Option (Nat × PicSlot)) : Dev :=
  if !d.isCanvas w then d
  else
    let lim := d.canvasLimit h n m
    let x := d.layerSt l
    let best := newestWithin lim (d.poolSlots p)
    let lost := match x.lostCapt, best with
      | some c, some b => later 48 c b.2.pm.capt && !later 48 c lim
      | _, _ => false
    let d := d.setLayerSt l { x with
      limit := some lim, lastCapt := took.map (·.2.pm.capt), counted := false, skews := (false :: x.skews).take 64 }
    let d := d.put R.LAYER_STATUS_SPAN_SKEW (b2n (((false :: x.skews).take 64).any id)) l
    if best.isNone || lost then d.skewed l else d

/-- Publish a latch (R237): postmark, age and freshness of a layer, one event when FRESH changes. -/
def Dev.publish (d : Dev) (l : Nat) (pm : Option Postmark) (age : Option Int) (fresh : Nat) : Dev :=
  d.watchViews fun d =>
    let d := match pm with
      | some p => (d.setReg R.LAYER_PM_LO (p.word % 2 ^ 32) l).setLatch R.LAYER_PM_HI (p.word / 2 ^ 32) l
      | none => d
    let d := d.setReg R.LAYER_AGE (if fresh = frNoSource then 0x80000000 else ageReg age) l
    let d := d.setLayerSt l { d.layerSt l with
      pm := pm.getD (d.layerSt l).pm, age := age, future := (match age with | some a => decide (a < 0) | none => false) }
    let old := d.fresh l
    if old = fresh then d else (d.put R.LAYER_STATUS_FRESH fresh l).info .freshChange composeAgent l old fresh

/-- A layer latches for frame N of head `h` (R200): what it shows, its age and its state. -/
def Dev.latchLayer (d : Dev) (h n : Nat) (f : FrameSt) (l : Nat) (w : List Nat) : Dev :=
  let m := f.row
  let v := visible w m
  let top := v.yt.toNat
  let bot := v.yb.toNat
  let put : Dev → Scene → Dev := fun d s =>
    match (d.head h).frame? n with
    | none => d
    | some f => d.setFrame h n { f with scene := f.scene ++ [s], todo := tabDel f.todo l }
  let late := w.getD 11 0
  let stale := w.getD 12 0
  let missing : Dev → Dev := fun d =>
    put (d.publish l none none frNoSource) ⟨l, w, .missing, frNoSource, none, none, none, top, bot⟩
  if d.isShed l then missing d
  else match ldType w with
    | 6 => put (d.publish l (some .none) none frStatic) ⟨l, w, .fill (ldSource w), frStatic, none, none, none, top, bot⟩
    | 5 =>
      let p := ldF w 5 0 0
      match (tabGetD d.io.touch TouchSt.init p).rel with
      | none => missing d
      | some r =>
        if !d.on R.TCH_STATUS_VALID p then missing d
        else
          let ms := touchMarkers w r
          let vs := (ms.map (markerVis w m)).filter Vis.some
          let ebot := if vs.isEmpty then m.h - 1 else (vs.map fun v => v.yb.toNat).foldl max 0
          let etop := (vs.map fun v => v.yt.toNat).foldl min ebot
          let pm : Postmark := ⟨r.instant / 4 % 2 ^ 48, 2, 0, 0⟩
          let age := ageAt pm (glass m n ebot)
          let fr := decideFresh 2 late stale age false false
          put (d.publish l (some pm) age fr)
            ⟨l, w, .echo (d.get R.TCH_CTRL_MARK_SIZE p) (r.map.shape % 4) ms, fr, age, some pm, none, etop, ebot⟩
    | 1 => put (d.publish l (some .none) none frStatic)
        ⟨l, w, .view (surfaceView w), frStatic, none, none, none, top, bot⟩
    | 2 =>
      let pm := (d.layerSt l).host
      let age := if ldRole w = 1 then none else ageAt pm (glass m n bot)
      let fr := decideFresh (ldRole w) late stale age false (bit pm.flags 0)
      put (d.publish l (some pm) age fr) ⟨l, w, .view (surfaceView w), fr, age, some pm, none, top, bot⟩
    | _ =>
      match d.poolOf w with
      | none => missing d
      | some p =>
        let took := d.latchSlot w p h n m
        let d := d.canvasLatch l w p h n m took
        match took with
        | none => missing d
        | some (i, s) =>
          match d.slotView w p i s with
          | none => missing d
          | some view =>
            let age := ageAt s.pm (glass m n bot)
            let fr := decideFresh 0 late stale age s.frozen (bit s.pm.flags 0)
            let d := d.updSlot p i fun s => { s with lease := s.lease + 1 }
            put (d.publish l (some s.pm) age fr) ⟨l, w, .view view, fr, age, some s.pm, some (p, i), top, bot⟩

/-- Whether a layer latches at B(N) and not at its top line (R200). -/
def latchesAtBoundary (w : List Nat) : Bool := !(ldType w == 0 || ldType w == 3 || ldType w == 4)

/-! ### Margin (R198) -/

/-- The stamp of a line: COMPLETE in bit 15, N modulo 32,768. -/
def HeadSt.stamp (x : HeadSt) (line : Nat) : Nat := tabGetD x.stamps 0 line

/-- Whether a line is current for frame N (R194). -/
def HeadSt.current (x : HeadSt) (n line : Nat) : Bool := x.stamp line == 32768 + n % 32768

/-- Consecutive current lines from line `l` of frame `n` on, in a mode of `hh` lines. -/
def HeadSt.run (x : HeadSt) (hh : Nat) : Nat → Nat → Nat → Nat
  | 0, _, _ => 0
  | k + 1, n, l =>
    if x.current n l then 1 + x.run hh k (if l + 1 < hh then n else n + 1) (if l + 1 < hh then l + 1 else 0) else 0

/-- The margin of a head (R198). -/
def HeadSt.margin (x : HeadSt) (hh : Nat) : Nat := x.run hh (2 * hh) x.nextRead.1 x.nextRead.2

/-- REDUCE_AT of a lead (R198). -/
def reduceAt (lead : Nat) : Nat := max 4 (lead / 8)

/-- Note the present margin in the governor's window and in the frame. -/
def Dev.noteMargin (d : Dev) (h n : Nat) : Dev :=
  match (d.head h).frame? n with
  | none => d
  | some f =>
    let x := d.head h
    let g := x.margin f.row.h
    (d.setHead h { x with winMargin := some (min g (x.winMargin.getD g)) }).setFrame h n
      { f with marginMin := min g f.marginMin }

/-! ### Leases of slots (R134, R161) -/

/-- End the latch leases of a frame whose lines are all composed or abandoned. -/
def Dev.endLeases (d : Dev) (h n : Nat) : Dev :=
  match (d.head h).frame? n with
  | none => d
  | some f =>
    let ended : Scene → Bool := fun s => (List.range (s.bot + 1 - s.top)).all fun i => f.done.contains (s.top + i)
    let d := d.setFrame h n { f with scene := f.scene.map fun s => if ended s then { s with lease := none } else s }
    (f.scene.filter ended).foldl (fun d s =>
      match s.lease with
      | some (p, i) => d.dropLease p i
      | none => d) d

/-! ### Release (R190, R193, R198) -/

/-- LINE_RELEASE: line L of frame N is handed to the compose engines. -/
def lineRelease (h n line : Nat) (d : Dev) : Dev :=
  match (d.head h).frame? n with
  | none => d
  | some f =>
    if line ≠ f.next ∨ f.row.h ≤ line then d
    else
      let due := f.todo.filter fun e => (visible e.2 f.row).yt == line
      let d := due.foldl (fun d e => d.latchLayer h n f e.1 e.2) d
      match (d.head h).frame? n with
      | none => d
      | some f =>
        let x := d.head h
        let reduced := decide (x.margin f.row.h < reduceAt f.lead)
        let covers : Scene → Bool := fun s =>
          match s.shown with
          | .echo _ _ ms => ms.any fun k =>
              decide ((markerVis s.words f.row k).yt ≤ line) && decide ((line : Int) ≤ (markerVis s.words f.row k).yb)
          | _ => s.top ≤ line && line ≤ s.bot
        let out := if reduced then (f.scene.filter fun s => !ldGuaranteed s.words && covers s).map (·.layer) else []
        let f := { f with
          next := line + 1, open' := tabPut f.open' line out, reduced := f.reduced || reduced
          leftOut := (f.leftOut ++ out).eraseDups }
        let d := d.setHead h { x with
          frames := tabPut x.frames n f, stamps := tabSet x.stamps 0 line (n % 32768)
          winReduced := x.winReduced || reduced }
        let d := if reduced then (d.bump R.HEAD_REDUCED_LINES_COUNT h).put R.HEAD_CHASE_STATUS_REDUCED 1 h else d
        d.noteMargin h n

def execLineRelease (t h n line : Nat) (s : State) : Host.Outcome State Fault Refusal := s.onDev t (lineRelease h n line)

/-! ### Composition (R166, R170, R193) -/

/-- A ladle meets poisoned data on a line of a layer (R170, R237). -/
def Dev.ladleMeets (d : Dev) (m : Mem) (h n line : Nat) (s : Scene) : Dev :=
  match s.shown with
  | .view v =>
    let ps := if s.top ≤ line ∧ line ≤ s.bot then ladlePoison d m s.words v (line - ldY s.words).toNat else []
    if ps.isEmpty then d
    else
      let d := (countPoison d ps).contained .ladlePoison (0x4000 + (d.groupClusters (d.headGroup h)).headD 0) s.layer
        (ps.headD 0)
      if s.fresh = frLive ∨ s.fresh = frLate ∨ s.fresh = frStatic then
        match (d.head h).frame? n with
        | none => d
        | some f =>
          let d := d.setFrame h n { f with scene := f.scene.map fun e =>
            if e.layer = s.layer then { e with fresh := frImpaired } else e }
          d.watchViews fun d => (d.put R.LAYER_STATUS_FRESH frImpaired s.layer).info .freshChange composeAgent s.layer
            s.fresh frImpaired
      else d
  | _ => d

/-- LINE_COMPOSED: the engines finish a released line that has not been abandoned. -/
def lineComposed (h n line : Nat) (x : Dev × Mem) : Dev × Mem :=
  let d := x.1
  let m := x.2
  match (d.head h).frame? n with
  | none => x
  | some f =>
    match tabGet? f.open' line with
    | none => x
    | some out =>
      let words := headLine d m f n out line
      let d := (f.scene.filter fun s => !out.contains s.layer).foldl (fun d s => d.ladleMeets m h n line s) d
      match (d.head h).frame? n with
      | none => (d, m)
      | some f =>
        let y := d.head h
        let d := d.setHead h { y with
          frames := tabPut y.frames n { f with open' := tabDel f.open' line, done := line :: f.done }
          store := tabPut y.store line words, stamps := tabPut y.stamps line (32768 + n % 32768) }
        (d.endLeases h n, m)

def execLineComposed (t h n line : Nat) (s : State) : Host.Outcome State Fault Refusal :=
  s.onAll t (lineComposed h n line)

/-! ### Writeback (R225, R227) -/

/-- The postmark of a writeback buffer (R227). -/
def wbPostmark (m : ModeRow) (n : Nat) (f : FrameSt) : Postmark :=
  let live := (f.scene.filter fun s => ldRole s.words == 0).filterMap (·.pm)
  match live with
  | [] => ⟨m.start n / 4 % 2 ^ 48, 2, 2, b2n !f.late.isEmpty⟩
  | p :: r =>
    let old := r.foldl (fun a b => if later 48 a.capt b.capt then b else a) p
    let imp := live.any (fun q => bit q.flags 0) || !f.late.isEmpty
    let nr := live.any fun q => bit q.flags 5
    { old with flags := old.flags - old.flags % 2 - bits old.flags 5 5 * 32 + b2n imp + b2n nr * 32 }

/-- The metadata page of a writeback buffer (R225). -/
def wbMeta (m : ModeRow) (n : Nat) (f : FrameSt) (pm : Postmark) : List Byte :=
  leBytes 8 pm.word ++ leBytes 4 n ++ leBytes 6 (m.start n / 4) ++ leBytes 1 (b2n !f.late.isEmpty) ++
    List.replicate (4096 - 19) 0

/-- The last line is written: metadata, and OUT moves to the buffer (R227). `order` of a writeback buffer is 1 when its
frame held a late line. -/
def wbFinish (h n : Nat) (f : FrameSt) (key addr ctrl : Nat) (x : Dev × Mem) : Dev × Mem :=
  let m := f.row
  let pm := wbPostmark m n f
  let mem := dramWrite x.1 x.2 (addr + wbSize (bits ctrl 27 26) m.w m.h - 4096) (wbMeta m n f pm)
  let d := x.1.put R.HEAD_WB_STATUS_ACTIVE 0 h
  let y := d.head h
  if key < y.wbKey then (d.setHead h { y with bufs := tabDel y.bufs key }, mem)
  else
    let bufs := y.bufs.map fun e => (e.1, { e.2 with out := false })
    let s := tabGetD bufs PicSlot.free key
    let s := { s with writing := false, out := true, pm := pm, num := n, order := b2n !f.late.isEmpty, width := m.w, height := m.h, done := d.wt }
    let d := d.setHead h { y with bufs := tabPut (bufs.filter fun e => e.2.lease != 0 || e.2.writing) key s }
    ((d.put R.HEAD_WB_STATUS_OUT (key - y.wbKey) h).put R.HEAD_WB_STATUS_OUT_VALID 1 h, mem)

/-- Write the sent lines that are not yet in the buffer (R227); `fuel` bounds their number. -/
def wbFlush (h n : Nat) : Nat → Dev × Mem → Dev × Mem
  | 0, x => x
  | k + 1, (d, m) =>
    match (d.head h).frame? n with
    | none => (d, m)
    | some f =>
      match f.wb with
      | none => (d, m)
      | some (key, addr, ctrl) =>
        let row := d.get R.HEAD_WB_STATUS_ROW h
        match tabGet? f.sent row with
        | none => (d, m)
        | some line =>
          let m := (wbLineBytes ctrl addr f.row.w f.row.h row (tabGetD f.sent [] (row - 1)) line).foldl
            (fun m e => dramWrite d m e.1 e.2) m
          let d := d.put R.HEAD_WB_STATUS_ROW (row + 1) h
          if row + 1 = f.row.h then wbFinish h n f key addr ctrl (d.setFrame h n { f with wb := none }, m)
          else wbFlush h n k (d, m)

/-- The writer takes a buffer at S(N, 0) of a scanned frame (R227). -/
def wbTake (h n : Nat) (d : Dev) : Dev :=
  match (d.head h).frame? n with
  | none => d
  | some f =>
    let x := d.head h
    let set := d.inForce h
    if !set.wbOn || d.headState h == hsModeChange then d
    else
      let size := wbSize set.wbFmt f.row.w f.row.h
      let order := (List.range set.wbBufs).map fun i => (x.wbNext + i) % set.wbBufs
      match order.find? fun i =>
        let s := tabGetD x.bufs PicSlot.free (x.wbKey + i)
        !s.out && s.lease == 0 with
      | none => d.bump R.WB_SKIPPED_COUNT h
      | some i =>
        let key := x.wbKey + i
        let d := d.setHead h { x with
          wbNext := (i + 1) % set.wbBufs, bufs := tabPut x.bufs key { PicSlot.free with writing := true } }
        let d := d.setFrame h n { f with wb := some (key, set.wbBase + i * size, set.wbCtrl) }
        (((d.put R.HEAD_WB_STATUS_ACTIVE 1 h).put R.HEAD_WB_STATUS_ROW 0 h).setReg R.WB_FRAME n h).encStart h n
          (f.row.start n) key

/-! ### Read (R189, R193 to R196) -/

/-- LINE_READ: the scan-out checks the line's stamp and takes it, or abandons it and sends the fill. -/
def lineRead (h n line : Nat) (ecc : Bool) (z : Dev × Mem) : Dev × Mem :=
  let d := z.1
  let x := d.head h
  match x.frame? n with
  | none => z
  | some f =>
    if line ≠ f.sent.length ∨ f.row.h ≤ line then z
    else
      let cur := !ecc && x.current n line
      let words := if cur then tabGetD x.store [] line else lateFill f.row.w n
      let f := { f with
        sent := tabPut f.sent line words, late := if cur then f.late else f.late ++ [line]
        open' := tabDel f.open' line, done := if f.done.contains line then f.done else line :: f.done }
      let d := d.setHead h { x with
        frames := tabPut x.frames n f, stamps := tabSet x.stamps 0 line (x.stamp line % 32768)
        nextRead := if line + 1 < f.row.h then (n, line + 1) else (n + 1, 0), winLate := x.winLate || !cur }
      let d := if cur then d
        else
          let d := (d.bump R.HEAD_LATE_LINES_COUNT h).put R.HEAD_CHASE_STATUS_LATE 1 h
          let d := if ecc then (d.put R.HEAD_CHASE_STATUS_ECC 1 h).bump R.FS_UE_COUNT else d
          (d.setReg R.HEAD_LAST_LATE (n % 65536 * 65536 + line) h).cause 1
      wbFlush h n 1 ((d.noteMargin h n).endLeases h n, z.2)

def execLineRead (t h n line : Nat) (ecc : Bool) (s : State) : Host.Outcome State Fault Refusal :=
  s.onAll t (lineRead h n line ecc)

/-! ### S(N, 0) -/

/-- The late-line event, the minimum margin and the service of a frame that has been scanned (R196, R198, R249). -/
def Dev.frameEnd (d : Dev) (h n : Nat) (f : FrameSt) : Dev :=
  d.watchViews fun d =>
    let d := match f.late with
      | [] => d
      | l :: _ => d.info .lateLines (0x4200 + h) n l f.late.length
    let d := d.put R.HEAD_CHASE_STATUS_MARGIN_MIN (min f.marginMin 0xFFF) h
    let d := d.setHead h { d.head h with frameLate := !f.late.isEmpty, frameReduced := f.reduced }
    f.scene.foldl (fun d s =>
      let crossed := f.late.any fun y => s.top ≤ y && y ≤ s.bot
      let d := d.setLayerSt s.layer { d.layerSt s.layer with lateLine := crossed }
      let sv := d.get R.LAYER_STATUS_SERVICE s.layer
      if f.leftOut.contains s.layer then
        if sv = 0 then d.put R.LAYER_STATUS_SERVICE 1 s.layer else d
      else if sv = 1 then d.put R.LAYER_STATUS_SERVICE 0 s.layer
      else d) d

/-- Canvas holds that end at S(N, 0) (R203): a newer completed picture is within the limit. -/
def Dev.endHolds (d : Dev) (h n : Nat) (m : ModeRow) : Dev :=
  let lim := d.canvasLimit h n m
  let shows : Pool → Bool := fun p => (d.canvasOn p).any fun l => ldHead (d.curLd l) == h
  let ended : Hold → Bool := fun k =>
    let capt := (tabGetD (d.poolSlots k.pool) PicSlot.free k.slot).pm.capt
    shows k.pool && (completed (d.poolSlots k.pool)).any fun e =>
      later 48 e.2.pm.capt capt && !later 48 e.2.pm.capt lim
  (d.comp.holds.filter ended).foldl (fun d k => d.endHold k) d

/-- BLANKED of the presentation records that fall due now (R162). -/
def Dev.blankHeld (d : Dev) (g : Nat) : Dev :=
  let b := (d.groupHeads g).any fun k => d.headState k == hsModeChange || d.headState k == hsNoSink
  { d with lay := { d.lay with held := d.lay.held.map fun r =>
      if !r.release && r.subject == g && r.due == d.wt then { r with tail := r.tail % 2 ^ 48 + b2n b * 2 ^ 48 } else r } }

/-- The first scan of a new profile completes its PROFILE_SWITCH (R66, R67): the slot and the scan's short working time. -/
def Dev.firstScanned (d : Dev) (h n : Nat) : Dev :=
  match d.boot.firstScan with
  | none => d
  | some (q, seq, slot) =>
    let d := { d with boot := { d.boot with firstScan := none } }.put R.PROF_STATUS_SWITCHING 0
    d.succeed q seq (slot + (d.modeOf h).start n / 4 % 2 ^ 48 * 2 ^ 16)

/-- HEAD_FRAME_START: S(N, 0). -/
def headFrameStart (h n : Nat) (z : Dev × Mem) : Dev × Mem :=
  let d := z.1
  let x := d.head h
  if !x.grid || (x.frame? n).isNone && decide (n ≤ x.shown) then z
  else
    let d := (x.frames.filter fun e => e.1 < n).foldl (fun d e => d.frameEnd h e.1 e.2) d
    let d := d.setHead h { d.head h with shown := n, frames := (d.head h).frames.filter fun e => n ≤ e.1 }
    let d := d.setReg R.GRP_FRAME n (d.headGroup h)
    let st := d.headState h
    let comes := ((d.head h).frame? n).isSome && (d.head h).linkUp &&
      (st == hsTraining || (st == hsModeChange && (d.head h).boundary.isNone))
    let d := if comes then
        d.watchViews fun d => (d.setHead h { d.head h with resume := none }).setHeadState h hsActive 0
      else d
    let d := if ((d.head h).frame? n).isSome then d.firstScanned h n else d
    let d := ((d.blankHeld (d.headGroup h)).endHolds h n (d.modeOf h)).flushHeld
    wbFlush h n 2160 (wbTake h n d, z.2)

def execHeadFrameStart (t h n : Nat) (s : State) : Host.Outcome State Fault Refusal := s.onAll t (headFrameStart h n)

end Sys2Proof.Machine
end

