-- ==== Sys2Proof/Machine/Sync.lean ====
section
/-! DEFINITION. How a unit of a pair becomes STANDBY, and when it no longer is (17). -/

namespace Sys2Proof.Machine

/-- WTR_RUNNING: a PREFERRED unit in STANDBY waits to restore, unless NO_REVERT is set (R356). -/
def Dev.wtrBit (d : Dev) : Dev :=
  d.put R.PAIR_STATUS_WTR_RUNNING (b2n (d.pst == prStandby && d.on R.PAIR_STATUS_PREFERRED && !d.pair.noRevert &&
    d.pair.wtrFrom.isSome))

/-- A unit enters STANDBY: its wait-to-restore starts (R356). -/
def Dev.enterStandby (d : Dev) : Dev :=
  let d := (d.put R.PAIR_STATUS_STATE prStandby).put R.PAIR_STATUS_IN_SYNC 1
  (d.setPair { d.pair with wtrFrom := some (d.now, d.wt, d.pair.wtr) }).wtrBit

/-- A signed word. -/
def signedWord (v : Nat) : Int := (BitVec.ofNat 32 v).toInt

/-- TIME_ALIGNED (R354): the offset measured on the pair port, or while it is down the difference of the two units'
offsets from the manager, is within ±100 ns. -/
def Dev.timeAligned (d : Dev) : Bool :=
  match d.pairPort (d.get R.PAIR_HB_PARTNER_MODULE) with
  | some p => !(d.link p).times.isEmpty && decide ((signedWord (d.reg R.PNT_OFFSET p)).natAbs ≤ 400)
  | none =>
    match d.pair.partnerTimes[2]? with
    | some o => decide ((signedWord (d.reg R.PAENT_TIME_OFFSET) - o).natAbs ≤ 400)
    | none => false

/-- Groups that have a head. -/
def Dev.usedGroups (d : Dev) : List Nat := (List.range 6).filter fun g => !(d.groupHeads g).isEmpty

/-- A SYNCING unit becomes STANDBY when all conditions of R354 hold. -/
def Dev.syncCheck (d : Dev) : Dev :=
  let d := d.put R.PAIR_STATUS_TIME_ALIGNED (b2n d.timeAligned)
  if d.pst ≠ prSyncing then d
  else
    let p := d.pair
    let same := d.usedGroups.filter fun g => (tabGet? p.theirs g).isSome && tabGet? p.theirs g == tabGet? d.lay.lastApply g
    let ok := (p.groupsOk ++ same).eraseDups
    let d := d.setPair { p with groupsOk := ok }
    let recent := match p.ackAt with
      | some a => decide (d.now ≤ a + 10 * qMs)
      | none => false
    if p.snapDone && p.ahead.isEmpty && recent && d.usedGroups.all ok.contains && d.timeAligned then d.enterStandby else d

/-- BG(N) of a group has come (R354): a standby that has not confirmed a commit for N or earlier returns to SYNCING. -/
def Dev.syncBoundary (d : Dev) (g n : Nat) : Dev :=
  let open' := d.pair.readies.any fun e => e.2.2 ≤ n && (d.queue e.1).cmds.any fun c => c.seq == e.2.1 && c.p 0 1 == g
  (if open' then d.diverged else d).syncCheck

end Sys2Proof.Machine
end

