-- ==== Sys2Proof/Machine/Boundary.lean ====
section
/-! DEFINITION. The frame boundary of a head, the application of commits, mode changes, refresh lowering, shedding and
the pace governor (08, 09, 10, 11). -/

namespace Sys2Proof.Machine

/-! ### Demand of a group (R159) -/

/-- Current layers of a group, with their words. -/
def Dev.groupLayers (d : Dev) (g : Nat) : Tab (List Nat) :=
  (d.curLayers.map fun l => (l, d.curLd l)).filter fun e => d.headGroup (ldHead e.2) == g && (d.headEntry (ldHead e.2)).isSome

/-- Heads of a group with their modes in force. -/
def Dev.groupModes (d : Dev) (g : Nat) : List (Nat × ModeRow) := (d.groupHeads g).map fun h => (h, d.modeOf h)

/-- GRP_DG, GRP_DA, GRP_CAPACITY and GRP_FETCH of the layers in force (08, "Status registers"). -/
def Dev.groupRegs (d : Dev) (g : Nat) : Dev :=
  let ls := (d.groupLayers g).filter fun e => !d.isShed e.1
  let gl := ls.filter fun e => ldGuaranteed e.2
  let dg := groupDemand (d.groupModes g) (gl.map (·.2))
  let da := groupDemand (d.groupModes g) (ls.map (·.2))
  let fe := gl.foldl (fun a e => fracAdd a (fetchDemand (d.bytes2 [] e.2) e.2 (d.modeOf (ldHead e.2)))) (0, 1)
  (((d.setReg R.GRP_DG (dg.1 / dg.2 / 1000) g).setReg R.GRP_DA (da.1 / da.2 / 1000) g).setReg R.GRP_CAPACITY
    (d.capacity g / 1000) g).setReg R.GRP_FETCH (ceilDiv fe.1 (fe.2 * 1000000)) g

/-! ### Shedding (R160) -/

/-- Layers in the order of R160: BACKGROUND first, and within a class the highest number first. -/
def shedFirst (ls : Tab (List Nat)) : Tab (List Nat) :=
  ls.mergeSort fun a b => ldPriority b.2 < ldPriority a.2 || (ldPriority a.2 == ldPriority b.2 && b.1 ≤ a.1)

/-- A layer is to be shed at its next B(N). -/
def Dev.shedLayer (d : Dev) (l reason : Nat) : Dev := d.setLayerSt l { d.layerSt l with shedNext := some reason }

/-- Whether a layer is shed or is to be shed. -/
def Dev.shedding (d : Dev) (l : Nat) : Bool := d.isShed l || (d.layerSt l).shedNext.isSome

/-- Shed GUARANTEED layers until DG fits the capacity (R160); `ls` is what remains to be shed, in order. -/
def shedGroup (g : Nat) : Tab (List Nat) → Dev → Dev
  | [], d => d
  | e :: r, d =>
    let kept := (d.groupLayers g).filter fun x => ldGuaranteed x.2 && !d.shedding x.1
    let dg := groupDemand (d.groupModes g) (kept.map (·.2))
    if dg.1 ≤ d.capacity g * dg.2 then d else shedGroup g r (d.shedLayer e.1 rCapacityLost)

/-- The sheds that take effect at a head's boundary: SERVICE SHED with the reason, and NOSOURCE (R160, R237). -/
def Dev.applySheds (d : Dev) (h : Nat) : Dev :=
  let due := d.curLayers.filter fun l => ldHead (d.curLd l) == h && (d.layerSt l).shedNext.isSome
  due.foldl (fun d l =>
    match (d.layerSt l).shedNext with
    | none => d
    | some r => d.watchViews fun d =>
      (((d.setLayerSt l { d.layerSt l with shedNext := none }).put R.LAYER_STATUS_SERVICE 3 l).put
        R.LAYER_STATUS_REASON r l).publish l none none frNoSource) d

/-! ### Application of a commit at a head's B(N) (R155, R156) -/

/-- The postmark in LD_HOSTPM, converted (R82). -/
def Dev.hostPm (d : Dev) (w : List Nat) : Postmark :=
  let v := w.getD 14 0 + w.getD 15 0 * 2 ^ 32
  if bits v 13 12 = 3 then .none
  else if bits v 15 14 = 3 then
    ⟨(v / 2 ^ 16 + 2 ^ 48 + d.wt48 - d.tb3Now / 4 % 2 ^ 48) % 2 ^ 48, 3, 2, v % 4096⟩
  else ⟨v / 2 ^ 16, 2, 2, v % 4096⟩

/-- One layer's snapshot becomes current (R155, R160, R161). -/
def Dev.applyLayer (d : Dev) (c : Commit) (l : Nat) (w : List Nat) : Dev :=
  let old := d.curLd l
  let on := ldEnable w
  let d := if on && ldSurface w then d.leaseAdd (ldRange w) else d
  let d := if ldEnable old && ldSurface old then d.leaseDropHolder c.q c.seq (ldRange old) else d
  let held := (List.range 128).filter fun i => d.on R.SCALER_STATUS_IN_USE i && d.get R.SCALER_STATUS_LAYER i == l
  let d := held.foldl (fun d i => (d.put R.SCALER_STATUS_IN_USE 0 i).put R.SCALER_STATUS_LAYER 0 i) d
  let d := match tabGet? c.snap.scalers l with
    | some i => if on then ((d.put R.SCALER_STATUS_IN_USE 1 i).put R.SCALER_STATUS_LAYER l i).put R.SCALER_STATUS_GROUP
        (d.headGroup (ldHead w)) i else d
    | none => d
  let d := d.setCurLd l w
  let shed := d.isShed l && !c.snap.named.contains l && on
  let d := if on then d.setLayerSt l { d.layerSt l with host := if ldType w = 2 then d.hostPm w else .none }
    else d.setLayerSt l .init
  let d := if on then
      let d := ((d.put R.LAYER_STATUS_ACTIVE 1 l).put R.LAYER_STATUS_GUARANTEED (b2n (ldGuaranteed w)) l).put
        R.LAYER_STATUS_SCALED (b2n (ldScaled w)) l
      let d := if shed then d else (d.put R.LAYER_STATUS_SERVICE 0 l).put R.LAYER_STATUS_REASON 0 l
      if c.canvas.isSome then d.put R.LAYER_STATUS_SPAN_LATE (b2n c.late) l else d
    else d.setReg R.LAYER_STATUS 0 l
  let o := originOf d c.q
  ((d.setReg R.LAYER_SEQ c.seq l).setReg R.LAYER_ORIGIN (o.1 * 65536 + o.2) l).setReg R.LAYER_COST
    (tabGetD c.snap.costs 0 l) l

/-- Head settings come into force, but for the mode and the lead (R187, R228, R229). -/
def Dev.applySet (d : Dev) (h : Nat) (s : HeadSet) : Dev :=
  let x := d.head h
  let ring := x.wbCtrl != s.wbCtrl || x.wbLo != s.wbLo || x.wbHi != s.wbHi || s.row != d.modeOf h
  let d := d.setReg R.HEAD_OUT_FMT_CUR s.outFmt h
  let x := { x with async := s.async, wbCtrl := s.wbCtrl, wbLo := s.wbLo, wbHi := s.wbHi }
  if !ring then d.setHead h x
  else
    let kept := (x.bufs.map fun e => (e.1, { e.2 with out := false })).filter fun e => e.2.lease != 0 || e.2.writing
    let d := d.setHead h { x with bufs := kept, wbNext := 0, wbKey := x.wbKey + 4 }
    (d.put R.HEAD_WB_STATUS_OUT_VALID 0 h).setReg R.WB_SIZE (if s.wbOn then wbSize s.wbFmt s.row.w s.row.h else 0) h

/-- A taster's staged settings become current (R247). -/
def Dev.applyTaster (d : Dev) (k : Nat) (w : List Nat) : Dev :=
  let fresh := tsEnable w && !tsEnable (d.tstCur k)
  let d := (List.range 12).foldl (fun d j => d.setReg R.TST_CUR (w.getD j 0) k j) d
  if fresh then d.setTaster k ⟨true, none⟩ else d

/-- The head's part of a commit: its tasters and layers, then its settings (R155). Layers that move between heads of the
group become current at the first of their heads. -/
def Dev.applyHead (d : Dev) (c : Commit) (h : Nat) : Dev :=
  d.watchViews fun d =>
    let mine := c.snap.layers.filter fun e =>
      d.curLd e.1 != e.2 && (ldHead e.2 == h || (ldEnable (d.curLd e.1) && ldHead (d.curLd e.1) == h))
    let same := c.snap.layers.filter fun e => d.curLd e.1 == e.2 && ldHead e.2 == h
    let d := (mine ++ same).foldl (fun d e => d.applyLayer c e.1 e.2) d
    let ts := c.snap.tasters.filter fun e => tsHead e.2 == h || (tsEnable (d.tstCur e.1) && tsHead (d.tstCur e.1) == h)
    let d := ts.foldl (fun d e => d.applyTaster e.1 e.2) d
    match tabGet? c.snap.heads h with
    | some s => d.applySet h s
    | none => d

/-- Hold a record until it is due (R162). -/
def Dev.holdRecord (d : Dev) (r : HeldRec) : Dev := { d with lay := { d.lay with held := d.lay.held ++ [r] } }

/-- The commit has applied at every head of its groups (R156, R162, R163); `s0` is S(N, 0) of the grid it applied on. -/
def Dev.commitApplied (d : Dev) (c : Commit) (n s0 : Nat) : Dev :=
  let d := c.groups.foldl (fun d g =>
    let d := { d with lay := { d.lay with lastApply := tabPut d.lay.lastApply g n } }.mirror (.applied g n)
    (match c.ta with | some ta => d.setReg R.GRP_TRANSIT ta g | none => d).groupRegs g) d
  let count := c.snap.layers.length
  let d := d.dropCommit c.q c.seq
  let d := match c.canvas with
    | some _ =>
      d.send (d.get R.PAENT_MGR_MANAGER) (.canvasReport c.q c.seq count c.late)
    | none =>
      let g := c.groups.headD 0
      let blank := (d.groupHeads g).any fun k => d.headState k == hsModeChange || d.headState k == hsNoSink
      let d := d.succeed c.q c.seq (n % 2 ^ 32 + count % 65536 * 2 ^ 32)
      d.holdRecord ⟨c.q, c.seq, false, s0, g, s0 / 4 % 2 ^ 48 + b2n blank * 2 ^ 48⟩
  d.grpPending

/-! ### Mode changes (R221, R222) -/

/-- The mode and lead of a head change at B(N) (R221): the grid changes, and no line of frame N is released. -/
def Dev.changeMode (d : Dev) (h n : Nat) (s : HeadSet) : Dev :=
  let old := d.modeOf h
  let edge := old.start (n - 1) + old.lines old.h
  let d := (d.setReg R.HEAD_MODE_CUR s.mode h).setReg R.HEAD_CHASE_LEAD_CUR s.lead h
  let d := d.put R.HEAD_CHASE_STATUS_REDUCE_AT (reduceAt (s.lead % 4096)) h
  let leadQ := s.row.lines (s.lead % 4096)
  let noSink := d.headState h == hsNoSink
  let d := d.setHead h { d.head h with
    leadNext := none, boundary := some edge, linkUp := false, n := s.row.nextFrame leadQ d.wt - 1, shown := 0
    resume := if noSink then some (s.row.nextFrame leadQ edge) else none }
  if noSink then d
  else
    let p := d.headPort h
    let d := { d with comp := { d.comp with ports := tabUpd d.comp.ports PortSt.init p fun x => { x with trying := none } } }
    d.watchViews fun d => d.setHeadState h hsModeChange 0

/-- Later commits move to the new grid (R222); one whose new boundary is past its deadline ends. -/
def Dev.retarget (d : Dev) (g : Nat) : Dev :=
  let n := d.groupNext g (d.wt + 1)
  let late := d.groupBoundary g n / 4 % 2 ^ 48
  (d.commits.filter fun c => c.st == .ready && c.groups.contains g && c.target.isSome && c.done.isEmpty).foldl
    (fun d c =>
      let dl := ((d.cmd? c.q c.seq).map (·.deadline)).getD 0
      if c.canvas.isNone && dl ≠ 0 && later 48 late dl then
        ((d.finish c.q c.seq Status.deadline).dropCommit c.q c.seq).grpPending
      else d.updCommit c.q c.seq fun c => { c with target := some n }) d

/-! ### Refresh lowering (R223, R224) -/

/-- Divisor that DIV selects. -/
def divisor (async : Nat) : Nat := bits async 25 24 + 2

/-- The conditions of R223, but for the hold. -/
def Dev.mayLower (d : Dev) (h : Nat) : Bool :=
  let ls := (d.curLayers.map d.curLd).filter fun w => ldHead w == h
  bit (((d.headEntry h).map (·.flags)).getD 0) 1 && bit (d.head h).async 31 && !d.on R.DP_STATUS_MST (d.headPort h) &&
    d.on R.DP_STATUS_ASYNC_CAP (d.headPort h) && ls.all fun w => ldRole w == 1 && ldF w 13 24 24 == 0

/-- Whether frame N of a head is skipped, and LOWERED after B(N) (R224); `applied`: a commit applies at this B(N). -/
def Dev.lowering (d : Dev) (h n : Nat) (applied : Bool) : Bool × Bool :=
  let x := d.head h
  let last := tabGet? d.lay.lastApply (d.headGroup h)
  let held := match last with
    | some k => decide (k + (bits x.async 7 0 + 1) ≤ n)
    | none => true
  let ok := d.mayLower h && held && !applied
  if !ok then (false, false)
  else if d.on R.HEAD_DISP_STATUS_LOWERED h then (n % divisor x.async ≠ 0, true)
  else (false, n % divisor x.async = 0)

/-! ### HEAD_FRAME_BOUNDARY -/

/-- Commits that apply at B(N) of a head (R155): READY, of its group, with a target of N or earlier. -/
def Dev.dueCommits (d : Dev) (h n : Nat) : List Commit :=
  d.commits.filter fun c =>
    c.st == .ready && !c.check && c.groups.contains (d.headGroup h) && !c.done.contains h &&
      (match c.target with | some t => decide (t ≤ n) | none => false)

/-- One commit applies at a head, and whether it changes the head's mode, depth or lead. -/
def Dev.applyAt (d : Dev) (h n : Nat) (c : Commit) : Dev :=
  let s := (tabGet? c.snap.heads h).getD (d.inForce h)
  let was := d.modeOf h
  let mode := s.mode ≠ d.reg R.HEAD_MODE_CUR h
  let lead := s.lead ≠ d.reg R.HEAD_CHASE_LEAD_CUR h
  let d := d.applyHead c h
  let d := if mode then d.changeMode h n s
    else if lead then d.setHead h { d.head h with leadNext := some (s.lead % 4096) } else d
  let done := h :: c.done
  let d := d.updCommit c.q c.seq fun c => { c with done := done }
  if (c.groups.flatMap d.groupHeads).all done.contains then
    let d := d.commitApplied { c with done := done } n (was.start n)
    if mode && !was.sameRate s.row then c.groups.foldl Dev.retarget d else d
  else d

/-- Holds of pools that no canvas layer shows any more end (R203). -/
def Dev.pruneHolds (d : Dev) : Dev :=
  (d.comp.holds.filter fun k => (d.canvasOn k.pool).isEmpty).foldl (fun d k => d.endHold k) d

/-- Frame N of a head begins: its latches at B(N) and the release of line 0 (R190, R200). -/
def Dev.beginFrame (d : Dev) (h n : Nat) : Dev :=
  let s := d.inForce h
  let lead := d.get R.HEAD_CHASE_LEAD_CUR_LEAD h
  let todo := (d.curLayers.map fun l => (l, d.curLd l)).filter fun e => ldHead e.2 == h
  let f : FrameSt := {
    mode := s.mode % 64, bpc10 := bit s.mode 31, outFmt := s.outFmt
    background := ((d.headEntry h).map (·.background)).getD 0, lead := lead, next := 0, scene := [], todo := todo
    open' := [], done := [], sent := [], late := [], reduced := false, leftOut := [], marginMin := 0xFFF, wb := none }
  let x := d.head h
  let busy := x.frames.any fun e => e.2.sent.length < e.2.row.h
  let d := d.setHead h { x with
    frames := tabPut x.frames n f, nextRead := if busy then x.nextRead else (n, 0), resume := none }
  let d := (todo.filter fun e => latchesAtBoundary e.2).foldl (fun d e => d.latchLayer h n f e.1 e.2) d
  lineRelease h n 0 d

/-- HEAD_FRAME_BOUNDARY: B(N) of a head. -/
def headBoundary (h n : Nat) (d : Dev) : Dev :=
  let x := d.head h
  if !x.grid || (d.headEntry h).isNone || decide (n ≤ x.n) then d
  else
    let d := d.setHead h { x with n := n }
    let d := match x.leadNext with
      | some l => ((d.put R.HEAD_CHASE_LEAD_CUR_LEAD l h).put R.HEAD_CHASE_STATUS_REDUCE_AT (reduceAt l) h).setHead h
          { d.head h with leadNext := none }
      | none => d
    if d.err.fabricRun || d.boot.switch.isSome then
      let st := d.headState h
      let m := d.modeOf h
      let d := d.setHead h { d.head h with boundary := some (m.start (n - 1) + m.lines m.h) }
      if st == hsActive || st == hsTraining then (d.watchViews fun d => d.setHeadState h hsModeChange 0).encLost h else d
    else
      let g := d.headGroup h
      let d := if d.lay.reshed.contains g then
          let ls := shedFirst ((d.groupLayers g).filter fun e => ldGuaranteed e.2 && !d.shedding e.1)
          shedGroup g ls { d with lay := { d.lay with reshed := d.lay.reshed.filter (· != g) } }
        else d
      let sheds := d.curLayers.any fun l => ldHead (d.curLd l) == h && (d.layerSt l).shedNext.isSome
      let d := d.applySheds h
      let d := if sheds then d.groupRegs g else d
      let due := d.dueCommits h n
      let d := ((due.foldl (fun d c => d.applyAt h n c) d).pruneHolds).encLost h
      let d := d.syncBoundary g n
      if (d.head h).boundary.isSome then d
      else if (match (d.head h).resume with | some r => decide (n < r) | none => d.headState h == hsModeChange) then d
      else
        let low := d.lowering h n !due.isEmpty
        let d := d.put R.HEAD_DISP_STATUS_LOWERED (b2n low.2) h
        if low.1 then d else d.beginFrame h n

def execHeadFrameBoundary (t h n : Nat) (s : State) : Host.Outcome State Fault Refusal := s.onDev t (headBoundary h n)

/-! ### Scalers and output format (R183, R187) -/

/-- SCALER_PARITY_ERROR (R183): the scaler leaves service; its layer is shed from its next frame. -/
def scalerParity (i : Nat) (d : Dev) : Dev :=
  if 128 ≤ i ∨ d.on R.SCALER_STATUS_FAILED i then d
  else
    let d := (d.put R.SCALER_STATUS_FAILED 1 i).degraded .scalerFailed (0x4100 + i) i
    if d.on R.SCALER_STATUS_IN_USE i then d.shedLayer (d.get R.SCALER_STATUS_LAYER i) rCapacityLost else d

def execScalerParityError (t sc : Nat) (s : State) : Host.Outcome State Fault Refusal := s.onDev t (scalerParity sc)

/-- HEAD_OUT_FMT_WRITE (R187): a write with TF 0 or 5 to 7, or GAMUT 2 or 3, is ignored as a whole. -/
def outFmtWrite (h : Nat) (v : Word) (d : Dev) : Dev :=
  let tf := bits v.toNat 28 26
  if 32 ≤ h ∨ tf = 0 ∨ 4 < tf ∨ 1 < bits v.toNat 25 24 then d
  else d.setReg R.HEAD_OUT_FMT (v.toNat &&& 0x9F000000) h

def execHeadOutFmtWrite (t h : Nat) (v : Word) (s : State) : Host.Outcome State Fault Refusal :=
  s.onDev t (·.gatedM (R.HEAD_OUT_FMT.off h 0) v (outFmtWrite h v))

/-! ### The pace governor (R206 to R208) -/

/-- The queue condition: a GUARANTEED context queue of 3 frames or more, or an encode engine's BACKLOG. -/
def Dev.queueCondition (d : Dev) : Bool :=
  (d.dec.ctxs.any fun e => d.ctxGuaranteed e.1 && decide (3 ≤ e.2.queue.length)) ||
    (List.range 2).any d.encBacklog

/-- Whether a GUARANTEED layer or stream is admitted (R15). -/
def Dev.guaranteedWork (d : Dev) : Bool :=
  (d.curLayers.any fun l => ldGuaranteed (d.curLd l)) ||
    (List.range 256).any fun c => d.ctxGuaranteed c && (d.inState c == inResync || d.inState c == inRunning)

/-- Heads the governor counts: enabled, scanning and not in MODE_CHANGE. -/
def Dev.govHeads (d : Dev) : List Nat :=
  d.enabledHeads.filter fun h => (d.head h).grid && d.headState h != hsModeChange

/-- Minimum margin of a head over the window; a head without a line in it shows its present margin. -/
def Dev.winMargin (d : Dev) (h : Nat) : Nat := (d.head h).winMargin.getD ((d.head h).margin (d.modeOf h).h)

/-- The layer that pressure sheds first among the groups of some heads (R208). -/
def Dev.pressureLayer (d : Dev) (hs : List Nat) : Option Nat :=
  let gs := hs.map d.headGroup
  ((shedFirst ((d.curLayers.map fun l => (l, d.curLd l)).filter fun e =>
    gs.contains (d.headGroup (ldHead e.2)) && !ldGuaranteed e.2 && !d.shedding e.1)).head?).map (·.1)

/-- GOVERNOR_WINDOW: the end of a 1 ms window. -/
def governorWindow (hottest : Int) (d : Dev) : Dev :=
  if d.phase ≠ phaseRunning then d
  else
    let ceil := d.get R.GOV_LIMIT_CEIL
    let floor := if d.guaranteedWork then 24 else 0
    let top := max floor (min 48 ceil)
    let thermal := decide (103 ≤ hottest)
    let hs := d.govHeads
    let lost := hs.filter fun h => (d.head h).winLate || (d.head h).winReduced
    let low := hs.filter fun h => d.winMargin h * 4 < d.get R.HEAD_CHASE_LEAD_CUR_LEAD h
    let queue := d.queueCondition
    let high := hs.all (fun h => 3 * d.get R.HEAD_CHASE_LEAD_CUR_LEAD h ≤ 4 * d.winMargin h) && !queue
    let code := d.get R.GOV_STATUS_CODE
    let raise := if !lost.isEmpty then 4 else if !low.isEmpty || queue then 1 else 0
    let run := if high && raise = 0 then d.comp.high + 1 else 0
    let lower := raise = 0 && run = 100
    let next := min top (code + raise)
    let blocked := raise ≠ 0 && (thermal || next ≤ code)
    let wanted := if blocked then code else if lower then code - 1 else next
    let code' := if 105 ≤ hottest then max floor (min (code - 1) top) else max floor (min wanted top)
    let pressure := blocked && !(lost ++ low).isEmpty
    let count := if pressure then d.comp.blocked + 1 else 0
    let d := { d with comp := { d.comp with
      high := if lower then 0 else run, blocked := if 3 ≤ count then 0 else count, ceil := ceil } }
    let d := hs.foldl (fun d h => d.setHead h { d.head h with winMargin := none, winLate := false, winReduced := false }) d
    let d := (((d.put R.GOV_STATUS_CODE code').put R.GOV_STATUS_FLOOR floor).put R.GOV_STATUS_THERMAL (b2n thermal)).put
      R.GOV_STATUS_AT_CEILING (b2n (code' = top))
    let d := d.put R.GOV_STATUS_HOTTEST (ofSigned 8 hottest)
    if 3 ≤ count then
      match d.pressureLayer (lost ++ low) with
      | some l => ((d.shedLayer l rShedPressure).bump R.GOV_SHEDS_COUNT).info .layerShed 0x4010 l rShedPressure
      | none => d
    else d

def execGovernorWindow (t : Nat) (hottest : Int) (s : State) : Host.Outcome State Fault Refusal :=
  s.onDev t (governorWindow hottest)

end Sys2Proof.Machine
end

