-- ==== Sys2Proof/Machine/Inflate.lean ====
section
/-! DEFINITION. One DEFLATE block (RFC 1951) as the decompressor reads it (R399, R401, R406). -/

namespace Sys2Proof.Machine

/-- The bits of a list of bytes, least significant first. -/
def bitsOf : List Byte → List Bool
  | [] => []
  | b :: r => (List.range 8).map (fun i => bit b.toNat i) ++ bitsOf r

/-- Why a block is refused: its syntax (R406 step 2), or its end against CODED_LEN and ORIG_LEN (step 3). -/
inductive BlockErr where
  | syntaxErr | lengthErr
  deriving DecidableEq, Repr

/-- Take `n` bits as a number, first bit least significant; a block that runs out of bytes ends too late (step 3). -/
def takeBits (n : Nat) (bs : List Bool) : Except BlockErr (Nat × List Bool) :=
  if bs.length < n then .error .lengthErr
  else .ok ((bs.take n).foldr (fun b v => b2n b + 2 * v) 0, bs.drop n)

/-- A canonical Huffman code: how many codes of each length 1 to 15, and the symbols in order of length, then value. -/
structure Huff where
  counts : List Nat
  syms : List Nat
  deriving DecidableEq, Repr

/-- The code with the given lengths by symbol, 0 for none. -/
def huffOf (lens : List Nat) : Huff :=
  let e := lens.zipIdx
  { counts := (List.range 15).map fun n => (e.filter fun x => x.1 == n + 1).length
    syms := (List.range 15).flatMap fun n => (e.filter fun x => x.1 == n + 1).map (·.2) }

/-- Whether no more codes are used than the lengths leave room for. -/
def Huff.fits (h : Huff) : Bool :=
  (h.counts.foldl (fun (s : Int × Bool) (c : Nat) => (s.1 * 2 - c, s.2 && decide ((c : Int) ≤ s.1 * 2))) (1, true)).2

/-- Read one symbol. -/
def huffRead (h : Huff) (bs : List Bool) : Except BlockErr (Nat × List Bool) := go h.counts 0 0 0 bs
where
  /-- Lengths still to try, the code so far, the first code and the index of its length. -/
  go : List Nat → Nat → Nat → Nat → List Bool → Except BlockErr (Nat × List Bool)
    | [], _, _, _, _ => .error .syntaxErr
    | _ :: _, _, _, _, [] => .error .lengthErr
    | c :: cs, code, first, index, b :: bs =>
      let code := code + b2n b
      if code < first + c then
        match h.syms[index + (code - first)]? with
        | some s => .ok (s, bs)
        | none => .error .syntaxErr
      else go cs (code * 2) ((first + c) * 2) (index + c) bs

/-- Base lengths and extra bits of length symbols 257 to 285. -/
def lenTab : List (Nat × Nat) :=
  [(3, 0), (4, 0), (5, 0), (6, 0), (7, 0), (8, 0), (9, 0), (10, 0), (11, 1), (13, 1), (15, 1), (17, 1), (19, 2), (23, 2),
   (27, 2), (31, 2), (35, 3), (43, 3), (51, 3), (59, 3), (67, 4), (83, 4), (99, 4), (115, 4), (131, 5), (163, 5),
   (195, 5), (227, 5), (258, 0)]

/-- Base distances and extra bits of distance symbols 0 to 29. -/
def distTab : List (Nat × Nat) :=
  [(1, 0), (2, 0), (3, 0), (4, 0), (5, 1), (7, 1), (9, 2), (13, 2), (17, 3), (25, 3), (33, 4), (49, 4), (65, 5), (97, 5),
   (129, 6), (193, 6), (257, 7), (385, 7), (513, 8), (769, 8), (1025, 9), (1537, 9), (2049, 10), (3073, 10), (4097, 11),
   (6145, 11), (8193, 12), (12289, 12), (16385, 13), (24577, 13)]

/-- Copy `n` bytes from `dist` back; the output is held newest first. -/
def copyBack : Nat → Nat → List Byte → List Byte
  | 0, _, out => out
  | n + 1, dist, out => copyBack n dist (out.getD (dist - 1) 0 :: out)

/-- The symbols of a block up to its end (`fuel` bounds the symbols). -/
def blockBody (lit dist : Huff) : Nat → List Byte → List Bool → Except BlockErr (List Byte × List Bool)
  | 0, _, _ => .error .lengthErr
  | fuel + 1, out, bs => do
    let (s, bs) ← huffRead lit bs
    if s < 256 then blockBody lit dist fuel (BitVec.ofNat 8 s :: out) bs
    else if s = 256 then .ok (out, bs)
    else match lenTab[s - 257]? with
      | none => .error .syntaxErr
      | some (base, extra) =>
        let (x, bs) ← takeBits extra bs
        let (ds, bs) ← huffRead dist bs
        match distTab[ds]? with
        | none => .error .syntaxErr
        | some (dbase, dextra) =>
          let (y, bs) ← takeBits dextra bs
          if out.length < dbase + y then .error .syntaxErr
          else blockBody lit dist fuel (copyBack (base + x) (dbase + y) out) bs

/-- Order of the code length code lengths. -/
def clOrder : List Nat := [16, 17, 18, 0, 8, 7, 9, 6, 10, 5, 11, 4, 12, 3, 13, 2, 14, 1, 15]

/-- Read `want` code lengths with the code length code; lengths are held newest first. -/
def readLens (cl : Huff) (want : Nat) : Nat → List Nat → List Bool → Except BlockErr (List Nat × List Bool)
  | 0, acc, bs => if acc.length = want then .ok (acc.reverse, bs) else .error .syntaxErr
  | fuel + 1, acc, bs => do
    if acc.length = want then .ok (acc.reverse, bs)
    else
      let (s, bs) ← huffRead cl bs
      if s < 16 then readLens cl want fuel (s :: acc) bs
      else
        let (base, n, v) := if s = 16 then (3, 2, acc.head?) else if s = 17 then (3, 3, some 0) else (11, 7, some 0)
        match v with
        | none => .error .syntaxErr
        | some v =>
          let (x, bs) ← takeBits n bs
          if want < acc.length + base + x then .error .syntaxErr
          else readLens cl want fuel (List.replicate (base + x) v ++ acc) bs

/-- Lengths of the fixed literal code; the fixed distance code has 32 codes of 5 bits. -/
def fixedLit : List Nat :=
  List.replicate 144 8 ++ List.replicate 112 9 ++ List.replicate 24 7 ++ List.replicate 8 8

/-- The whole block: output in order, and the bits left over. -/
def inflateBits (limit : Nat) (bs : List Bool) : Except BlockErr (List Byte × List Bool) := do
  let (final, bs) ← takeBits 1 bs
  let (btype, bs) ← takeBits 2 bs
  if final = 0 || btype = 3 then .error .syntaxErr
  else if btype = 0 then
    let bs := bs.drop (bs.length % 8)
    let (len, bs) ← takeBits 16 bs
    let (nlen, bs) ← takeBits 16 bs
    if len + nlen ≠ 0xFFFF then .error .syntaxErr
    else if len ≠ limit || bs.length < len * 8 then .error .lengthErr
    else
      .ok ((List.range len).map fun i =>
        BitVec.ofNat 8 (((bs.drop (i * 8)).take 8).foldr (fun b v => b2n b + 2 * v) 0), bs.drop (len * 8))
  else if btype = 1 then
    let (out, rest) ← blockBody (huffOf fixedLit) (huffOf (List.replicate 32 5)) bs.length [] bs
    .ok (out.reverse, rest)
  else
    let (hlit, bs) ← takeBits 5 bs
    let (hdist, bs) ← takeBits 5 bs
    let (hclen, bs) ← takeBits 4 bs
    if hlit > 29 then .error .syntaxErr
    else
      let n := hclen + 4
      let raw := (List.range n).map fun i => ((bs.drop (i * 3)).take 3).foldr (fun b v => b2n b + 2 * v) 0
      if bs.length < n * 3 then .error .lengthErr
      else
        let cl := huffOf ((List.range 19).map fun s =>
          ((raw.zip clOrder).findSome? (fun e => if e.2 = s then some e.1 else none)).getD 0)
        let (lens, bs) ← readLens cl (hlit + 257 + hdist + 1) (hlit + hdist + 259) [] (bs.drop (n * 3))
        let lit := huffOf (lens.take (hlit + 257))
        let dist := huffOf (lens.drop (hlit + 257))
        if !cl.fits || !lit.fits || !dist.fits then .error .syntaxErr
        else
          let (out, rest) ← blockBody lit dist bs.length [] bs
          .ok (out.reverse, rest)

/-- Decode a payload of CODED_LEN bytes to exactly ORIG_LEN bytes (R406 steps 2 and 3). -/
def inflate (orig : Nat) (payload : List Byte) : Except BlockErr (List Byte) :=
  match inflateBits orig (bitsOf payload) with
  | .error e => .error e
  | .ok (out, rest) => if out.length = orig && rest.length < 8 then .ok out else .error .lengthErr

end Sys2Proof.Machine
end

