-- ==== Sys2Proof/Machine/Compress.lean ====
section
/-! DEFINITION. The compression engine's jobs and parcels, and the CRC units (20). -/

namespace Sys2Proof.Machine

/-! ### Parcels (R398 to R401) -/

/-- Most original bytes of a parcel (R398). -/
def parcelMax : Nat := 262144

/-- The bytes of a parcel (R398 to R400): RAW where the coded block is not shorter; the native format ends in CRC-32C. -/
def parcelBytes (native flushed last : Bool) (orig : List Byte) : List Byte :=
  let coded := Config.deflate orig
  let raw := !(decide (coded.length < orig.length) && (match inflate orig.length coded with
    | .ok o => o == orig
    | .error _ => false))
  let body := if raw then orig else coded
  leBytes 4 0x505A5753 ++ leBytes 1 (b2n native) ++ leBytes 1 (b2n raw + b2n flushed * 2 + b2n last * 4) ++
    leBytes 2 0 ++ leBytes 4 orig.length ++ leBytes 4 body.length ++ body ++
    (if native then leBytes 4 (crcOf 1 orig) else [])

/-- Reason codes of R411. -/
def jobBusy : Nat := 0x0F01
/-- JOB_IDLE. -/
def jobIdle : Nat := 0x0F02
/-- JOB_OWNER. -/
def jobOwner : Nat := 0x0F03
/-- JOB_ERROR. -/
def jobError : Nat := 0x0F04

/-- Step 1 of R406 on a 16-byte header. -/
def headerOk (h : List Byte) : Bool :=
  leAt h 0 4 == 0x505A5753 && decide (leAt h 4 1 ≤ 1) && decide (leAt h 5 1 < 8) && leAt h 6 2 == 0 &&
    decide (leAt h 8 4 ≤ parcelMax) && (!bit (leAt h 5 1) 0 || leAt h 8 4 == leAt h 12 4)

/-- What the checks of R406 make of a parcel at the head of `bs`. -/
inductive Unpacked where
  /-- More bytes are needed. -/
  | more
  /-- A check failed: its reason code, and the bytes written to the output before the failure. -/
  | fail (reason : Nat) (out : List Byte)
  /-- A whole parcel: its output, whether it carried a check, and the bytes left. -/
  | parcel (out : List Byte) (checked : Bool) (rest : List Byte)
  deriving DecidableEq, Repr

/-- The decompressor's checks, in the order of R406. -/
def unpack (bs : List Byte) : Unpacked :=
  if bs.length < 16 then .more
  else if !headerOk bs then .fail 0x0F06 []
  else
    let native := leAt bs 4 1 == 1
    let orig := leAt bs 8 4
    let coded := leAt bs 12 4
    let total := 16 + coded + (if native then 4 else 0)
    if bs.length < total then .more
    else
      let payload := (bs.drop 16).take coded
      match (if bit (leAt bs 5 1) 0 then .ok payload else inflate orig payload) with
      | .error .syntaxErr => .fail 0x0F07 []
      | .error .lengthErr => .fail 0x0F08 []
      | .ok out =>
        if native && leAt bs (16 + coded) 4 ≠ crcOf 1 out then .fail 0x0F09 out
        else .parcel out native (bs.drop total)

/-! ### Jobs (R402 to R408) -/

/-- RESULT of the feed and abort commands (R410). -/
def Job.result (j : Job) : Nat := j.parcels + j.offset * 2 ^ 32

/-- PARCEL_OPEN (R402, R410). -/
def parcelOpen (q seq : Nat) (d : Dev) : Dev :=
  d.onCmd q seq 0x0F00 fun c d =>
    match firstBad [(decide (c.p 0 1 ≤ 2), 0), (decide (c.p 1 1 ≤ 2), 1), (c.p 2 2 == 0, 2)] with
    | some i => d.bad q seq i
    | none => d.withTail q seq c 14 fun d =>
      let j := c.p 0 1
      if (d.job j).state ≠ 0 then d.reject q seq jobBusy
      else
        (d.setJob j { Job.idle with
          state := 1, mode := c.p 1 1, owner := q, outAddr := c.p 4 8, outSize := (c.p 12 2 + 1) * 4096 }).succeed q seq j

def execParcelOpen (t q seq : Nat) (s : State) : Host.Outcome State Fault Refusal := s.onDev t (parcelOpen q seq)

/-- PARCEL_FEED (R402, R410): a feed of a waiting job starts; its end is PARCEL_FEED_COMPLETE. -/
def parcelFeed (q seq : Nat) (d : Dev) : Dev :=
  d.onCmd q seq 0x0F01 fun c d =>
    match firstBad [(decide (c.p 0 1 ≤ 2), 0), (decide (c.p 1 1 ≤ 3), 1), (c.p 2 2 == 0, 2)] with
    | some i => d.bad q seq i
    | none => d.withTail q seq c 16 fun d =>
      let j := c.p 0 1
      let b := d.job j
      if b.state = 0 then d.reject q seq jobIdle
      else if b.owner ≠ q then d.reject q seq jobOwner
      else if b.state = 3 then d.reject q seq jobError
      else if b.state = 2 then d
      else d.setJob j { b with state := 2, feed := some (q, seq) }

def execParcelFeed (t q seq : Nat) (s : State) : Host.Outcome State Fault Refusal := s.onDev t (parcelFeed q seq)

/-- How a feed's processing stands: the job, DRAM, and the failure (status, reason, RESULT if not the job's) if any. -/
structure FeedRun where
  dev : Dev
  mem : Mem
  job : Job
  fail : Option (Nat × Nat × Option Nat)

/-- Write bytes at the job's output offset plus `at`: a denied byte fails the feed (R389). -/
def FeedRun.put (r : FeedRun) (q : Nat) (bs : List Byte) : FeedRun :=
  if bs.isEmpty then r
  else
    let a := r.job.outAddr + r.job.offset
    if r.job.outAddr < 2 ^ 63 then
      if r.dev.host.busMaster then { r with dev := r.dev.hostPut a bs }
      else { r with fail := some (Status.accessDenied, 0x0E06, none) }
    else
      let (d, m, ds) := checkedWrite r.dev r.mem (cmdChecker q) (cmdMaster q) (a - 2 ^ 63) bs
      match ds.head? with
      | none => { r with dev := d, mem := m }
      | some (_, e) => { r with
          dev := d, mem := m, fail := some (Status.accessDenied, e.reason, some (bs.length - ds.length)) }

/-- Write a whole parcel or a parcel's output and count it, or fill the buffer and fail OUTPUT_FULL (R407). -/
def FeedRun.emit (r : FeedRun) (q : Nat) (bs : List Byte) : FeedRun :=
  let room := r.job.outSize - r.job.offset
  let r' := r.put q (bs.take room)
  if r'.fail.isSome then r'
  else if room < bs.length then { r' with fail := some (Status.rejected, 0x0F05, none) }
  else { r' with job := { r'.job with parcels := r'.job.parcels + 1, offset := r'.job.offset + bs.length } }

/-- Close one parcel of a compressing job (R403, R408). -/
def FeedRun.close (r : FeedRun) (q : Nat) (selfFail flushed last : Bool) (n : Nat) : FeedRun :=
  if r.job.mode = 1 && selfFail then { r with fail := some (Status.rejected, 0x0F0B, none) }
  else
    let r' := r.emit q (parcelBytes (r.job.mode == 0) flushed last (r.job.pending.take n))
    if r'.fail.isSome then r' else { r' with job := { r'.job with pending := r'.job.pending.drop n } }

/-- Close parcels at the limit while the pending input reaches it (R403); `fuel` bounds their number. -/
def FeedRun.closeFull (q : Nat) (selfFail : Bool) : Nat → FeedRun → FeedRun
  | 0, r => r
  | n + 1, r =>
    if r.fail.isSome || decide (r.job.pending.length < parcelMax) then r
    else FeedRun.closeFull q selfFail n (r.close q selfFail false false parcelMax)

/-- Compress the pending input; FLUSH and LAST act at its end (R403). -/
def FeedRun.compress (r : FeedRun) (q : Nat) (selfFail flush last : Bool) : FeedRun :=
  let r := FeedRun.closeFull q selfFail (r.job.pending.length / parcelMax) r
  if r.fail.isSome then r
  else if r.job.pending.isEmpty then
    if last && r.job.parcels = 0 then r.close q selfFail false true 0 else r
  else if flush || last then r.close q selfFail flush last r.job.pending.length
  else r

/-- Unpack parcels from the pending bytes (R405, R406); `fuel` bounds their number. -/
def FeedRun.unpackAll (q j : Nat) : Nat → FeedRun → FeedRun
  | 0, r => r
  | n + 1, r =>
    match unpack r.job.pending with
    | .more => r
    | .fail reason out =>
      let r' := r.put q (out.take (r.job.outSize - r.job.offset))
      if r'.fail.isSome then r' else { r' with fail := some (Status.rejected, reason, none) }
    | .parcel out checked rest =>
      let r' := r.emit q out
      if r'.fail.isSome then r'
      else
        let d := if checked then r'.dev else r'.dev.bump R.CMP_UNVERIFIED_COUNT j
        FeedRun.unpackAll q j n { r' with dev := d, job := { r'.job with pending := rest } }

/-- The input of a feed: the bytes up to the first that is denied or poisoned, and that failure (R407). -/
def feedInput (q : Nat) (c : Cmd) (d : Dev) (m : Mem) : Dev × List Byte × Option (Nat × Nat × Option Nat) :=
  let n := c.p 12 4
  let a := c.p 4 8
  if n = 0 then (d, [], none)
  else if a < 2 ^ 63 then
    match c.hostData with
    | some (bs, ps) =>
      match firstOffset (a % 64) ps with
      | some o => (d, bs.take (min o n), some (Status.poisoned, 0, none))
      | none => (d, bs.take n, none)
    | none => (d, [], none)
  else
    let pa := a - 2 ^ 63
    let (d, bs, ds, ps) := checkedRead d m (cmdChecker q) (cmdMaster q) pa n
    match ds.head?, firstOffset pa ps with
    | none, none => (d, bs, none)
    | some (i, e), none => (d, bs.take i, some (Status.accessDenied, e.reason, some (n - ds.length)))
    | none, some p => (d, bs.take p, some (Status.poisoned, 0, none))
    | some (i, e), some p =>
      if i ≤ p then (d, bs.take i, some (Status.accessDenied, e.reason, some (n - ds.length)))
      else (d, bs.take p, some (Status.poisoned, 0, none))

/-- The end of a feed: completion, job state, and SELF_CHECK's error record (R402, R408). -/
def feedEnd (q seq j : Nat) (last : Bool) (r : FeedRun) : Dev :=
  match r.fail with
  | some (status, reason, result) =>
    let d := if reason = 0x0F0B then (r.dev.bump R.CMP_SELF_FAIL_COUNT j).contained .cmpSelfFail 0xF030 j else r.dev
    let why := if status = Status.rejected || status = Status.accessDenied then reason else 0
    (d.setJob j { r.job with state := 3, feed := none } why).finish q seq status reason (result.getD r.job.result)
  | none =>
    let b := { r.job with feed := none, state := if last then 0 else 1 }
    (r.dev.setJob j (if last then { b with pending := [] } else b)).succeed q seq r.job.result

/-- PARCEL_FEED_COMPLETE (R403 to R408): the input is read through the checkers, parcels are closed or unpacked, and
the feed completes. `selfFail` says that the compare of R408 failed. -/
def feedComplete (j : Nat) (selfFail : Bool) (x : Dev × Mem) : Dev × Mem :=
  match (x.1.job j).feed with
  | none => x
  | some (q, seq) =>
    match x.1.cmd? q seq with
    | none => x
    | some c =>
      let d := x.1
      let host := decide (c.p 4 8 < 2 ^ 63)
      let n := c.p 12 4
      let flags := c.p 1 1
      let out := (d.job j).outAddr
      if n ≠ 0 && host && c.hostData.isNone then
        if d.host.busMaster then x
        else ((d.feedFailed q seq 0x0E06).finish q seq Status.accessDenied 0x0E06, x.2)
      else if (n ≠ 0 && !host || 2 ^ 63 ≤ out) && d.chkClosed (cmdChecker q) then
        (d.waitAt (cmdChecker q) (if n ≠ 0 && !host then .cmd q seq false (c.p 4 8 - 2 ^ 63)
          else .cmd q seq true (out - 2 ^ 63)), x.2)
      else
        let (d, bs, bad) := feedInput q c d x.2
        let b := d.job j
        let r : FeedRun := ⟨d, x.2, { b with pending := b.pending ++ bs }, none⟩
        let flush := bit flags 0 && bad.isNone
        let last := bit flags 1 && bad.isNone
        let r := if b.mode = 2 then FeedRun.unpackAll q j (r.job.pending.length / 16 + 1) r
          else r.compress q selfFail flush last
        let r := if r.fail.isSome then r
          else if bad.isSome then { r with fail := bad }
          else if b.mode = 2 && last && !r.job.pending.isEmpty then { r with fail := some (Status.rejected, 0x0F0A, none) }
          else r
        (feedEnd q seq j last r, r.mem)

def execParcelFeedComplete (t j : Nat) (selfFail : Bool) (s : State) : Host.Outcome State Fault Refusal :=
  s.onAll t (feedComplete j selfFail)

/-- PARCEL_ABORT (R402, R410). -/
def parcelAbort (q seq : Nat) (d : Dev) : Dev :=
  d.onCmd q seq 0x0F02 fun c d =>
    if 2 < c.p 0 1 then d.bad q seq 0
    else d.withTail q seq c 1 fun d =>
      let j := c.p 0 1
      let b := d.job j
      if b.state = 0 then d.succeed q seq 0
      else if b.owner ≠ q then d.reject q seq jobOwner
      else if b.state = 2 then d
      else (d.setJob j { b with state := 0, pending := [], feed := none }).succeed q seq b.result

def execParcelAbort (t q seq : Nat) (s : State) : Host.Outcome State Fault Refusal := s.onDev t (parcelAbort q seq)

/-! ### CRC units (R412 to R414) -/

/-- CRC_CTRL: a preset is selected and its initial value loaded (R412). -/
def crcCtrl (u : Nat) (v : Word) (d : Dev) : Dev :=
  if 8 ≤ u then d
  else
    let p := v.toNat % 4
    ((d.setReg R.CRC_CTRL p u).setReg R.CRC_RESULT (crcOut p (crcInit p)) u).setReg R.CRC_COUNT 0 u

def execCrcCtrlWrite (t u : Nat) (v : Word) (s : State) : Host.Outcome State Fault Refusal :=
  s.onDev t (·.gated 0xF10000 (crcCtrl u v))

/-- Feed one byte to a unit (R412, R413). -/
def crcByte (u : Nat) (d : Dev) (b : Byte) : Dev :=
  let p := d.reg R.CRC_CTRL u % 4
  (d.setReg R.CRC_RESULT (crcOut p (crcFeed p (crcBack p (d.reg R.CRC_RESULT u)) b)) u).setReg R.CRC_COUNT
    (d.reg R.CRC_COUNT u + 1) u

/-- Feed the low `n` bytes of a word, from bits [7:0] upward (R413). -/
def crcData (n u : Nat) (v : Word) (d : Dev) : Dev :=
  if 8 ≤ u then d else (leBytes n v.toNat).foldl (crcByte u) d

def execCrcData8 (t u : Nat) (v : Word) (s : State) : Host.Outcome State Fault Refusal :=
  s.onDev t (·.gated 0xF10000 (crcData 1 u v))

def execCrcData16 (t u : Nat) (v : Word) (s : State) : Host.Outcome State Fault Refusal :=
  s.onDev t (·.gated 0xF10000 (crcData 2 u v))

def execCrcData32 (t u : Nat) (v : Word) (s : State) : Host.Outcome State Fault Refusal :=
  s.onDev t (·.gated 0xF10000 (crcData 4 u v))

/-- A read of CRC_RESULT or CRC_COUNT: every earlier write has taken effect, a step being whole (R413). -/
def crcRead (u : Nat) (count : Bool) (d : Dev) : Dev :=
  if 8 ≤ u then d
  else d.respond (.data (leBytes 4 (if count then d.reg R.CRC_COUNT u else d.reg R.CRC_RESULT u)))

def execCrcResultRead (t u : Nat) (count : Bool) (s : State) : Host.Outcome State Fault Refusal :=
  s.onDev t (·.gated 0xF10000 (crcRead u count))

end Sys2Proof.Machine
end

