-- ==== Sys2Proof/Machine/Display.lean ====
section
/-! DEFINITION. DisplayPort ports, link training, mode-change boundaries and the display commands (11). -/

namespace Sys2Proof.Machine

/-! ### Ports and streams (R212 to R214) -/

/-- A port. -/
def Dev.port (d : Dev) (p : Nat) : PortSt := tabGetD d.comp.ports PortSt.init p
/-- Set a port. -/
def Dev.setPort (d : Dev) (p : Nat) (v : PortSt) : Dev :=
  { d with comp := { d.comp with ports := tabSet d.comp.ports PortSt.init p v } }

/-- Enabled heads that name a port. -/
def Dev.portHeads (d : Dev) (p : Nat) : List Nat := d.enabledHeads.filter fun h => d.headPort h == p
/-- MST stream of a head. -/
def Dev.headStream (d : Dev) (h : Nat) : Nat := ((d.headEntry h).map (·.port / 16)).getD 0

/-- Whether the port runs MST: two heads name it and its sink can (R213). -/
def Dev.runsMst (d : Dev) (p : Nat) : Bool := d.mstPort p && (((d.port p).caps.map (·.mst)).getD false)

/-- Heads whose streams the port carries (R213). -/
def Dev.streamHeads (d : Dev) (p : Nat) : List Nat :=
  if d.runsMst p then d.portHeads p
  else if d.mstPort p then (d.portHeads p).filter fun h => d.headStream h == 0
  else d.portHeads p

/-- Configurations in the order of R215: rate 0 RBR to 3 HBR3, and lanes 0 to 2 for 1, 2, 4. -/
def linkConfigs : List (Nat × Nat) :=
  [(3, 2), (2, 2), (3, 1), (1, 2), (2, 1), (3, 0), (0, 2), (1, 1), (2, 0), (0, 1), (1, 0), (0, 0)]

/-- A configuration by its place. -/
def linkConfig (k : Nat) : Nat × Nat := linkConfigs.getD k (0, 0)

/-- Bits per second of a rate on one lane. -/
def linkRate (r : Nat) : Nat := match r with | 0 => 1620000000 | 1 => 2700000000 | 2 => 5400000000 | _ => 8100000000

/-- Whether a configuration carries the port's streams (R214); `ready`: a link is readied for heads in MODE_CHANGE. -/
def Dev.carries (d : Dev) (p k : Nat) (ready : Bool) : Bool :=
  let hs := (d.streamHeads p).filter fun h => d.headState h != 0 && (ready || d.headState h != hsModeChange)
  let need := hs.foldl (fun a h => fracAdd a
    ((d.modeOf h).clkNum * 3 * (if d.on R.HEAD_MODE_CUR_BPC10 h then 10 else 8), (d.modeOf h).clkDen)) (0, 1)
  let (r, l) := linkConfig k
  let give := 8 * linkRate r * 2 ^ l
  if d.runsMst p then decide (need.1 * 640 ≤ give * 63 * need.2) else decide (need.1 * 10 ≤ give * need.2)

/-- Configurations that the sink and DP_CTRL allow (R215). -/
def Dev.allowed (d : Dev) (p : Nat) : List Nat :=
  match (d.port p).caps with
  | none => []
  | some c =>
    let x := (d.port p).ctrl
    (List.range 12).filter fun k =>
      let (r, l) := linkConfig k
      r ≤ min c.rate (bits x 25 24) && l ≤ min c.lanes (bits x 27 26)

/-! ### Head states at a port (R216, R217) -/

/-- First frame of the head's grid whose B(N) is at or after now. -/
def Dev.nextBoundary (d : Dev) (h : Nat) : Nat := (d.modeOf h).nextFrame ((d.modeOf h).lines (d.leadOf h)) d.wt

/-- A head goes to NOSINK: the stream stops; a head in MODE_CHANGE resumes composition on its new grid (R221). -/
def Dev.noSink (d : Dev) (h cause : Nat) (quiet : Bool) : Dev :=
  let was := d.headState h
  let x := d.head h
  let from' := match x.boundary with | some b => max b d.wt | none => d.wt
  let d := d.setHead h { x with
    linkUp := false
    resume := if was = hsModeChange then
        some ((d.modeOf h).nextFrame ((d.modeOf h).lines (d.leadOf h)) from') else x.resume }
  if quiet && (was == hsTraining || was == hsNoSink) then
    (d.put R.HEAD_DISP_STATUS_STATE hsNoSink h).put R.HEAD_DISP_STATUS_CAUSE cause h
  else d.watchViews fun d => d.setHeadState h hsNoSink cause

/-- DP_RETRAIN commands complete when the training ends (R230). -/
def Dev.retrained (d : Dev) (p : Nat) : Dev :=
  let ws := (d.port p).waiting
  ws.foldl (fun d w => d.succeed w.1 w.2 (d.reg R.DP_STATUS p / 2 ^ 24)) (d.setPort p { d.port p with waiting := [] })

/-- The link goes down. -/
def Dev.linkDown (d : Dev) (p : Nat) : Dev :=
  let d := d.setPort p { d.port p with trying := none, trained := none }
  ((d.put R.DP_STATUS_LINK_UP 0 p).put R.DP_STATUS_LANES 0 p).put R.DP_STATUS_RATE 0 p

/-- Training ends without a link: the port's heads become NOSINK. -/
def Dev.trainEnds (d : Dev) (p cause : Nat) : Dev :=
  let x := d.port p
  let d := d.linkDown p
  let d := d.setPort p { d.port p with
    retry := false, fails := if cause = 2 then x.fails + 1 else 0, failAt := d.now }
  let hs := if cause = 5 then d.portHeads p else d.streamHeads p
  (hs.foldl (fun d h => if d.headState h = 0 then d else d.noSink h cause (x.retry && cause == 2)) d).retrained p

/-- Training tries the next configuration from place `k` on (R215). -/
def Dev.tryFrom (d : Dev) (p k : Nat) : Dev :=
  let ready := (d.streamHeads p).any fun h => d.headState h == hsModeChange && (d.head h).boundary.isNone
  match (d.allowed p).filter fun c => d.carries p c ready with
  | [] => d.trainEnds p 3
  | cs =>
    match cs.find? fun c => k ≤ c with
    | some c => d.setPort p { d.port p with trying := some (c, d.now) }
    | none => d.trainEnds p 2

/-- Training starts at place `k` (R215, R216); a retry keeps its events back (R217). -/
def Dev.train (d : Dev) (p k : Nat) (retry : Bool) : Dev :=
  let d := (d.linkDown p).bump R.DP_TRAINS_COUNT p
  let d := d.setPort p { d.port p with retry := retry }
  let d := (d.put R.DP_STATUS_MST (b2n (d.runsMst p)) p).put R.DP_STATUS_ASYNC_CAP
    (b2n (((d.port p).caps.map (·.async)).getD false)) p
  let d := (d.portHeads p).foldl (fun d h =>
    let st := d.headState h
    if st = 0 then d
    else if !(d.streamHeads p).contains h then d.noSink h 4 false
    else
      let d := d.setHead h { d.head h with linkUp := false }
      if st = hsModeChange then d
      else if retry then (d.put R.HEAD_DISP_STATUS_STATE hsTraining h).put R.HEAD_DISP_STATUS_CAUSE 0 h
      else d.watchViews fun d => d.setHeadState h hsTraining 0) d
  d.tryFrom p k

/-- The sink's capabilities are read, then training starts from the top, or the heads are NOSINK with AUX_FAIL. -/
def Dev.readAndTrain (d : Dev) (p : Nat) (caps : Option SinkCaps) (retry : Bool) : Dev :=
  let d := d.setPort p { d.port p with caps := caps }
  if (d.portHeads p).all fun h => d.headState h == 0 then d.retrained p
  else match caps with
    | none => d.trainEnds p 5
    | some _ => d.train p 0 retry

/-- Restart the backoff of R217. -/
def Dev.freshBackoff (d : Dev) (p : Nat) : Dev := d.setPort p { d.port p with fails := 0 }

/-- HPD_RISE (R216). -/
def hpdRise (p : Nat) (caps : Option SinkCaps) (d : Dev) : Dev :=
  let d := (d.put R.DP_STATUS_HPD 1 p).freshBackoff p
  if (d.port p).clockOut then d.setPort p { d.port p with caps := caps } else d.readAndTrain p caps false

def execHpdRise (t p : Nat) (caps : Option SinkCaps) (s : State) : Host.Outcome State Fault Refusal :=
  s.onDev t (hpdRise p caps)

/-- HPD_IRQ (R216): starts training from NOSINK; restarts it at the configuration in force when the link is lost. -/
def hpdIrq (p : Nat) (lost : Bool) (caps : Option SinkCaps) (d : Dev) : Dev :=
  let d := d.freshBackoff p
  let any : Nat → Bool := fun st => (d.portHeads p).any fun h => d.headState h == st
  if (d.port p).clockOut || !d.on R.DP_STATUS_HPD p || (d.port p).trying.isSome then d
  else match (d.port p).trained with
    | some k => if lost && any hsActive then d.train p k false else d
    | none => if any hsNoSink then d.readAndTrain p caps false else d

def execHpdIrq (t p : Nat) (lost : Bool) (caps : Option SinkCaps) (s : State) : Host.Outcome State Fault Refusal :=
  s.onDev t (hpdIrq p lost caps)

/-- HPD_UNPLUG (R216): training is aborted, or the stream stops. -/
def hpdUnplug (p : Nat) (d : Dev) : Dev :=
  let d := ((d.put R.DP_STATUS_HPD 0 p).put R.DP_STATUS_HPD_LOST 1 p).linkDown p
  let d := (d.setPort p { d.port p with caps := none, retry := false }).put R.DP_STATUS_ASYNC_CAP 0 p
  let d := d.put R.DP_STATUS_MST 0 p
  if (d.port p).clockOut then d.retrained p
  else ((d.portHeads p).foldl (fun d h =>
    let st := d.headState h
    if st = 0 || (st == hsModeChange && (d.head h).boundary.isSome) then d else d.noSink h 1 false) d).retrained p

def execHpdUnplug (t p : Nat) (s : State) : Host.Outcome State Fault Refusal := s.onDev t (hpdUnplug p)

/-- The link of a head in MODE_CHANGE is ready: it resumes at the next B(N′) of its grid (R221). -/
def Dev.linkReady (d : Dev) (h : Nat) : Dev :=
  let x := d.head h
  d.setHead h { x with
    linkUp := true
    resume := if d.headState h = hsModeChange && x.boundary.isNone then some (d.nextBoundary h) else x.resume }

/-- A configuration in training passes (R215). -/
def Dev.configPasses (d : Dev) (p k : Nat) : Dev :=
  let (r, l) := linkConfig k
  let x := d.port p
  let d := d.setPort p { x with trying := none, trained := some k, retry := false, fails := 0 }
  let d := ((d.put R.DP_STATUS_LINK_UP 1 p).put R.DP_STATUS_LANES l p).put R.DP_STATUS_RATE r p
  let d := (d.streamHeads p).foldl (fun d h =>
    if x.retry && d.headState h == hsTraining then (d.info .headState (0x5020 + h) hsTraining 0).linkReady h
    else d.linkReady h) d
  d.retrained p

/-- A configuration in training fails (R215). -/
def Dev.configFails (d : Dev) (p k : Nat) : Dev := (d.bump R.DP_FAILS_COUNT p).tryFrom p (k + 1)

/-- TRAINING_CONFIG_DONE (R215). -/
def configDone (p : Nat) (pass : Bool) (d : Dev) : Dev :=
  match (d.port p).trying with
  | none => d
  | some (k, _) => if pass then d.configPasses p k else d.configFails p k

def execTrainingConfigDone (t p : Nat) (pass : Bool) (s : State) : Host.Outcome State Fault Refusal :=
  s.onDev t (configDone p pass)

/-- TRAINING_CONFIG_TIMEOUT (R215): not passed within 100 ms. -/
def configTimeout (p : Nat) (d : Dev) : Dev :=
  match (d.port p).trying with
  | some (k, at') => if at' + 100 * qMs ≤ d.now then d.configFails p k else d
  | none => d

def execTrainingConfigTimeout (t p : Nat) (s : State) : Host.Outcome State Fault Refusal := s.onDev t (configTimeout p)

/-- Wait before a retry, by failed trainings in turn (R217). -/
def retryWait (fails : Nat) : Nat := min 16 (2 ^ (fails - 1)) * qS

/-- TRAIN_RETRY_TIMER (R217). -/
def trainRetry (p : Nat) (caps : Option SinkCaps) (d : Dev) : Dev :=
  let x := d.port p
  if x.fails = 0 || x.trying.isSome || x.clockOut || decide (d.now < x.failAt + retryWait x.fails) ||
    !(d.portHeads p).any (fun h => d.headState h == hsNoSink && d.get R.HEAD_DISP_STATUS_CAUSE h == 2) then d
  else d.readAndTrain p caps true

def execTrainRetryTimer (t p : Nat) (caps : Option SinkCaps) (s : State) : Host.Outcome State Fault Refusal :=
  s.onDev t (trainRetry p caps)

/-- DP_PORT_CLOCK_LOST (R11, R216). -/
def portClockLost (p : Nat) (d : Dev) : Dev :=
  if (d.port p).clockOut then d
  else
    let d := ((d.clockGone 2 p).setPort p { d.port p with clockOut := true, retry := false }).linkDown p
    ((d.portHeads p).foldl (fun d h => if d.headState h = 0 then d else d.noSink h 6 false) d).retrained p

def execDpPortClockLost (t p : Nat) (s : State) : Host.Outcome State Fault Refusal := s.onDev t (portClockLost p)

/-- DP_PORT_CLOCK_RETURN (R216). -/
def portClockReturn (p : Nat) (caps : Option SinkCaps) (d : Dev) : Dev :=
  if !(d.port p).clockOut then d
  else
    let d := ((d.clockBack 2 p).setPort p { d.port p with clockOut := false }).freshBackoff p
    if d.on R.DP_STATUS_HPD p then d.readAndTrain p caps false
    else (d.portHeads p).foldl (fun d h => if d.headState h = 0 then d else d.noSink h 1 false) d

def execDpPortClockReturn (t p : Nat) (caps : Option SinkCaps) (s : State) : Host.Outcome State Fault Refusal :=
  s.onDev t (portClockReturn p caps)

/-! ### Mode changes (R221) -/

/-- MODE_CHANGE_BOUNDARY (R221): the stream stops, the stamps are cleared, and the link is readied. -/
def modeBoundary (h : Nat) (d : Dev) : Dev :=
  match (d.head h).boundary with
  | none => d
  | some b =>
    if d.wt < b then d
    else
      let d := (d.head h).frames.foldl (fun d e => d.frameEnd h e.1 e.2) d
      let d := d.setHead h { d.head h with boundary := none, frames := [], stamps := [], linkUp := false }
      let p := d.headPort h
      let cause := d.get R.HEAD_DISP_STATUS_CAUSE h
      if d.headState h == hsNoSink && 3 ≤ cause && cause ≤ 5 && d.on R.DP_STATUS_HPD p && (d.port p).caps.isSome then
        d.train p 0 false
      else if d.headState h ≠ hsModeChange || d.err.fabricRun || d.boot.switch.isSome then d
      else
        match (d.port p).trained with
        | some k => if d.carries p k true then d else d.train p 0 false
        | none => if !d.on R.DP_STATUS_HPD p then d.noSink h 1 false
          else if (d.port p).trying.isSome then d else d.train p 0 false

def execModeChangeBoundary (t h : Nat) (s : State) : Host.Outcome State Fault Refusal := s.onDev t (modeBoundary h)

/-- MODE_CHANGE_LINK_READY (R221). -/
def modeLinkReady (h : Nat) (d : Dev) : Dev :=
  let x := d.port (d.headPort h)
  if d.headState h ≠ hsModeChange || (d.head h).boundary.isSome || x.trying.isSome || x.trained.isNone || d.err.fabricRun
    || d.boot.switch.isSome then d
  else d.linkReady h

def execModeChangeLinkReady (t h : Nat) (s : State) : Host.Outcome State Fault Refusal := s.onDev t (modeLinkReady h)

/-! ### DP_CTRL and the display commands (R229, R230) -/

/-- DP_CTRL_APPLY (R229): a write with APPLY sets the limits and trains from the top; MAX_LANES 3 makes it ignored. -/
def dpCtrlApply (p : Nat) (v : Word) (caps : Option SinkCaps) (d : Dev) : Dev :=
  if 16 ≤ p ∨ !bit v.toNat 31 ∨ bits v.toNat 27 26 = 3 then d
  else
    let d := d.setReg R.DP_CTRL (v.toNat &&& 0x4F000000) p
    let d := d.setPort p { d.port p with ctrl := v.toNat &&& 0x4F000000 }
    if (d.port p).clockOut || !d.on R.DP_STATUS_HPD p then d else d.readAndTrain p caps false

def execDpCtrlApply (t p : Nat) (v : Word) (caps : Option SinkCaps) (s : State) : Host.Outcome State Fault Refusal :=
  s.onDev t (·.gated (R.DP_CTRL.off p 0) (dpCtrlApply p v caps))

/-- AUX_NACK. -/
def rAuxNack : Nat := 0x0907
/-- AUX_TIMEOUT. -/
def rAuxTimeout : Nat := 0x0908
/-- AUX_RESERVED. -/
def rAuxReserved : Nat := 0x0909
/-- NO_PORT. -/
def rNoPort : Nat := 0x090A

/-- DP_AUX (R230): `reply` is what the sink answers. -/
def dpAux (q seq : Nat) (reply : AuxReply) (d : Dev) : Dev :=
  d.onCmd q seq 0x0901 fun c d =>
    let p := c.p 0 1
    let op := c.p 1 1
    let n := c.p 2 1 + 1
    let a := c.p 4 4
    match firstBad [(p < 16, 0), (op < 4, 1), (n ≤ 16, 2), (if op < 2 then a < 2 ^ 20 else a < 2 ^ 15, 4)] with
    | some i => d.bad q seq i
    | none => d.withTail q seq c 16 fun d =>
      let fail : Nat → Dev → Dev := fun r d => d.finish q seq Status.rejected r 0 p
      let go : Dev → Dev := fun d =>
        match reply with
        | .nack => fail rAuxNack d
        | .timeout => fail rAuxTimeout d
        | .ack data =>
          if op % 2 = 1 then d.succeed q seq n
          else if !d.host.busMaster then d.finish q seq Status.accessDenied 0x0E06
          else (d.hostPut (c.p 8 8) (data.take n)).succeed q seq (min n data.length)
      if (d.portHeads p).isEmpty then fail rNoPort d
      else if op = 1 && decide (a < 0x220) && decide (0x100 < a + n) then fail rAuxReserved d
      else if op % 2 = 1 then d.withHost q seq c fun _ d => go d
      else go d

def execDpAux (t q seq : Nat) (reply : AuxReply) (s : State) : Host.Outcome State Fault Refusal :=
  s.onDev t (dpAux q seq reply)

/-- DP_RETRAIN (R217, R230): training starts at once, and the command completes when it has ended. -/
def dpRetrain (q seq : Nat) (caps : Option SinkCaps) (d : Dev) : Dev :=
  d.onCmd q seq 0x0902 fun c d =>
    let p := c.p 0 1
    if 16 ≤ p then d.bad q seq 0
    else d.withTail q seq c 1 fun d =>
      if (d.portHeads p).isEmpty then d.finish q seq Status.rejected rNoPort 0 p
      else if (d.port p).waiting.contains (q, seq) then d
      else
        let d := (d.setPort p { d.port p with waiting := (d.port p).waiting ++ [(q, seq)] }).freshBackoff p
        if (d.port p).clockOut || !d.on R.DP_STATUS_HPD p then d.retrained p else d.readAndTrain p caps false

def execDpRetrain (t q seq : Nat) (caps : Option SinkCaps) (s : State) : Host.Outcome State Fault Refusal :=
  s.onDev t (dpRetrain q seq caps)

end Sys2Proof.Machine
end

