-- ==== Sys2Proof/Machine/Lanes.lean ====
section
/-! DEFINITION. Paent lanes: line coding, training, detectors, sparing and sleep (16). -/

namespace Sys2Proof.Machine

/-! ### Line coding (R321 to R324) -/

/-- Seed of a lane's scrambler after a seed marker (R321). -/
def laneSeed (l : Nat) : Nat := (0x2D3C4B5A + l) % 2 ^ 31

/-- One step of the scrambler (R321): the bit s, and the next state. -/
def scrambleStep (x : Nat) : Bool × Nat :=
  let s := bit x 30 ^^ bit x 27
  (s, x * 2 % 2 ^ 31 + b2n s)

/-- A region's line bits without stuff bits, and how many there were (R323): the bit after a run of 20 identical bits is a
stuff bit, and no run counts one. `run` counts the identical bits that end with `last`. -/
def destuff : List Bool → Bool → Nat → List Bool × Nat
  | [], _, _ => ([], 0)
  | b :: r, last, run =>
    if run = 20 then
      let (o, n) := destuff r b 0
      (o, n + 1)
    else
      let (o, n) := destuff r b (if b = last && run ≠ 0 then run + 1 else 1)
      (b :: o, n)

/-- Descramble (R321). -/
def descramble : List Bool → Nat → List Bool
  | [], _ => []
  | b :: r, x => (b ^^ (scrambleStep x).1) :: descramble r (scrambleStep x).2

/-- Bytes from bits, bit 0 first (R324). -/
def bytesOfBits : Nat → List Bool → List Byte
  | 0, _ => []
  | n + 1, bs =>
    BitVec.ofNat 8 ((bs.take 8).zipIdx.foldl (fun a b => a + b2n b.1 * 2 ^ b.2) 0) :: bytesOfBits n (bs.drop 8)

/-- The 112 data bytes of a training frame's region on lane `l`, and its stuff bits: every training frame carries AMS. -/
def trainingData (l : Nat) (region : List Bool) : List Byte × Nat :=
  let (bs, n) := destuff region false 0
  (bytesOfBits 112 (descramble bs (laneSeed l)), n)

/-! ### Attempts (R329 to R331) -/

/-- Lanes that may carry data: 5, or 6 in common-reference mode (R319). -/
def Dev.dataLanes (d : Dev) (p : Nat) : List Nat := List.range (if d.clocking p = 0 then 5 else 6)

/-- PAENT_ATTEMPT_START (R329): a port that is OFF starts when it has a ROLE, an identity and the TIME phase. -/
def attemptStart (p : Nat) (d : Dev) : Dev :=
  if 4 ≤ p || d.pln p ≠ plnOff || d.paentRole p = 0 || !d.on R.PAENT_ID_VALID || d.phase < phaseTime ||
      phaseRunning < d.phase || !d.clockAt 3 p || !d.clockOn 4 then d
  else (((d.put R.PNT_PSTATUS_ROLE (d.paentRole p) p).attempt p).tellPort p)

def execPaentAttemptStart (t p : Nat) (s : State) : Host.Outcome State Fault Refusal := s.onDev t (attemptStart p)

/-- The longest run of passing settings, the lowest of equal ones: first and last setting (R331). -/
def window (mask : Nat) : Option (Nat × Nat) :=
  let runs := (List.range 16).flatMap fun a => (List.range 16).filterMap fun b =>
    if a ≤ b && (List.range 16).all (fun i => i < a || b < i || bit mask i) then some (a, b) else none
  match runs with
  | [] => none
  | r :: rs => some (rs.foldl (fun x y => if x.2 - x.1 < y.2 - y.1 then y else x) r)

/-- PAENT_SWEEP_DONE (R331): `masks` says of each lane at which settings its check passed. -/
def sweepDone (p : Nat) (masks : List Nat) (d : Dev) : Dev :=
  match (d.lanes p).t0 with
  | none => d
  | some t0 =>
    if 4 ≤ p || d.pln p ≠ plnTraining || d.get R.PLN_STATUS_STEP p ≠ 2 || d.now < t0 + 9 * qMs then d
    else
      let d := (d.dataLanes p).foldl (fun d l =>
        let d := (d.put R.LN_STATUS_WIN_LO 0 p l).put R.LN_STATUS_WIN_HI 0 p l
        if d.on R.LN_CTRL_DISABLE p l then d.setLaneCause p l false 6
        else if d.los p l then d.setLaneCause p l true 1
        else match window (masks.getD l 0) with
          | none => d.setLaneCause p l true 2
          | some (a, b) =>
            let d := ((d.put R.LN_STATUS_WIN_LO a p l).put R.LN_STATUS_WIN_HI b p l).put R.LN_CTRL_PEAK ((a + b) / 2) p l
            d.setLanes p { d.lanes p with pass := (d.lanes p).pass ||| 2 ^ l }) d
      d.setStep p 3

def execPaentSweepDone (t p : Nat) (masks : List Nat) (s : State) : Host.Outcome State Fault Refusal :=
  s.onDev t (sweepDone p masks)

/-- PAENT_ALIGN_DONE (R332, R333): the lanes on which the search found the marker, with the deserialiser offset and the
arrival of the marker in bit periods. Lanes without it fail, then those with too much skew; ALIGNED is sent. In UP it ends
the realignment of a woken receiver (R339). -/
def alignDone (p : Nat) (found : List (Nat × Nat × Nat)) (d : Dev) : Dev :=
  if 4 ≤ p then d
  else if d.pln p = plnUp then
    let d := d.setLanes p { d.lanes p with wakeRx := none }
    found.foldl (fun d f => ((d.put R.LN_STATUS_LOA 0 p f.1).put R.LN_STATUS_MATCH 1 p f.1)) d
  else if d.pln p ≠ plnTraining || d.get R.PLN_STATUS_STEP p ≠ 3 then d
  else
    let swept := (d.dataLanes p).filter (bit (d.lanes p).pass)
    let ok := found.filter fun f => swept.contains f.1
    let first := ok.foldl (fun a f => min a f.2.2) ((ok.head?.map (·.2.2)).getD 0)
    let d := swept.foldl (fun d l =>
      match ok.find? fun f => f.1 == l with
      | none => (d.put R.LN_STATUS_MATCH 0 p l).setLaneCause p l true 3
      | some f =>
        let d := (d.put R.LN_STATUS_MATCH 1 p l).put R.LN_STATUS_LOA 0 p l
        let d := if d.on R.PLN_CTRL_MANUAL p then d else d.put R.LN_STATUS_SLIP_POS f.2.1 p l
        if first + 384 < f.2.2 then d.setLaneCause p l true 4
        else if d.get R.LN_STATUS_CAUSE p l = 5 && d.on R.LN_STATUS_FAILED p l && (tabGetD (d.lanes p).frames 0 l ≠ 0) then d
        else d.setLaneCause p l false 0) d
    let pass := (swept.filter fun l => !d.on R.LN_STATUS_FAILED p l).foldl (fun m l => m + 2 ^ l) 0
    let d := d.setLanes p { d.lanes p with pass := pass }
    if pass = 0 then d.failAttempt p 3 else d.setStep p 5

def execPaentAlignDone (t p : Nat) (found : List (Nat × Nat × Nat)) (s : State) : Host.Outcome State Fault Refusal :=
  s.onDev t (alignDone p found)

/-- LANE_SLIP (R332): a write of LN_CTRL with SLIP, honoured only during ALIGN; DISABLE and PEAK are written with it. -/
def laneCtrl (p l : Nat) (v : Word) (d : Dev) : Dev :=
  if 4 ≤ p || 6 ≤ l then d
  else
    let n := v.toNat
    let d := d.put R.LN_CTRL_DISABLE (bits n 30 30) p l
    let d := if d.pln p = plnUp then d else d.put R.LN_CTRL_PEAK (bits n 3 0) p l
    if bit n 31 && d.pln p = plnTraining && d.get R.PLN_STATUS_STEP p = 3 then
      let x := d.lanes p
      let d := d.setLanes p { x with frames := tabSet x.frames 0 l 0 }
      (d.put R.LN_STATUS_SLIP_POS ((d.get R.LN_STATUS_SLIP_POS p l + 1) % 32) p l).put R.LN_STATUS_MATCH 0 p l
    else d

/-- The write that slips. -/
def laneSlip (p l : Nat) (v : Word) (d : Dev) : Dev := if bit v.toNat 31 then laneCtrl p l v d else d

def execLaneSlip (t p l : Nat) (v : Word) (s : State) : Host.Outcome State Fault Refusal :=
  s.onDev t (·.gated 0xB40100 (laneSlip p l v))

/-! ### Training frames (R324, R330, R337, R338) -/

/-- A training block during an attempt. -/
def Dev.trainBlock (d : Dev) (p l : Nat) (b : List Byte) : Dev :=
  let x := d.lanes p
  let fl := leAt b 2 1
  let n := tabGetD x.frames 0 l + 1
  let d := d.setLanes p { x with
    frames := tabSet x.frames 0 l n, peer := some (leAt b 4 2 % 512, leAt b 6 1)
    peerPass := if d.get R.PLN_STATUS_STEP p = 5 then leAt b 3 1 % 64 else x.peerPass
    ready := x.ready || (d.get R.PLN_STATUS_STEP p = 5 && bit fl 1)
    go := x.go || (d.get R.PLN_STATUS_STEP p = 5 && bit fl 2) }
  let d := if 2 ≤ n && d.get R.PLN_STATUS_STEP p = 3 then d.put R.LN_STATUS_MATCH 1 p l else d
  if leAt b 1 1 ≠ l then
    let d := (d.setLanes p { d.lanes p with pass := (d.lanes p).pass &&& (63 - 2 ^ l) }).setLaneCause p l true 5
    if (d.lanes p).pass = 0 && 3 < d.get R.PLN_STATUS_STEP p then d.failAttempt p 3 else d
  else d

/-- PAENT_TRAINING_FRAME: the region of a training frame received on lane `l`, as 992 line bits. -/
def trainingFrame (p l : Nat) (region : List Bool) (d : Dev) : Dev :=
  if 4 ≤ p || 6 ≤ l || d.on R.PLN_STATUS_RX_ASLEEP p || !d.clockOn 4 then d
  else
    let (bs, n) := trainingData l region
    let d := d.put R.LN_STUFF_COUNT (d.get R.LN_STUFF_COUNT p l + n) p l
    let b := bs.take 16
    if leAt b 0 1 ≠ 0xC5 then d
    else if d.pln p = plnTraining then d.trainBlock p l b
    else if d.pln p ≠ plnUp then d
    else
      let x := d.lanes p
      let fl := leAt b 2 1
      if bit fl 3 then d.setLanes p { x with sleepSeen := true }
      else if d.on R.PLN_STATUS_PARTNER_TX_ASLEEP p || x.sleepSeen then
        -- the partner's transmitter wakes (R339)
        if bit fl 2 then (d.setLanes p { x with sleepSeen := false, wakeRx := none }).put R.PLN_STATUS_PARTNER_TX_ASLEEP 0 p
        else d.setLanes p { x with wakeRx := some (x.wakeRx.getD d.now) }
      else if bit x.ams l then d.attempt p
      else d.setLanes p { x with ams := x.ams ||| 2 ^ l }

def execPaentTrainingFrame (t p l : Nat) (region : List Bool) (s : State) : Host.Outcome State Fault Refusal :=
  s.onDev t (trainingFrame p l region)

/-- Logical lanes of a PASS (R334): at most four passing lanes, 0 to 3 first, then 4, then 5. -/
def laneMap (pass : Nat) : List Nat := ((List.range 6).filter (bit pass)).take 4

/-- PAENT_GO_RECEIVED (R330, R334, R336): GO has been sent and received. The maps come into force, the port is UP, and it is
identified (R300); `n` is what the two ends exchange. -/
def goReceived (p : Nat) (n : Neighbour) (d : Dev) : Dev :=
  let x := d.lanes p
  if 4 ≤ p || d.pln p ≠ plnTraining || d.get R.PLN_STATUS_STEP p ≠ 5 || !x.go || !x.ready then d
  else
    let rx := laneMap x.pass
    let tx := laneMap x.peerPass
    if rx.isEmpty || tx.isEmpty then d.failAttempt p 3
    else
      let d := (List.range 6).foldl (fun d l =>
        (d.put R.LN_STATUS_TX_LOGICAL ((tx.idxOf? l).getD 7) p l).put R.LN_STATUS_RX_LOGICAL ((rx.idxOf? l).getD 7) p l) d
      let d := d.bump R.PLN_SPARE_USES_COUNT p (rx.filter (4 ≤ ·)).length
      let d := ((d.put R.PLN_STATUS_TX_WIDTH tx.length p).put R.PLN_STATUS_RX_WIDTH rx.length p).put R.PLN_STATUS_STATE plnUp p
      let d := d.put R.PLN_STATUS_STEP 0 p
      let d := (d.setLanes p { d.lanes p with fails := 0, frames := [], ams := 0, txFrom := d.now }).tellPort p
      (d.setLink p { d.link p with neighbour := some n, ackAt := d.now }).identify p

def execPaentGoReceived (t p : Nat) (n : Neighbour) (s : State) : Host.Outcome State Fault Refusal :=
  s.onDev t (goReceived p n)

/-- PAENT_STEP_TIMEOUT (R330): a step has taken more than 10 ms; without a clock lane the cause is CLOCK_LANE (R326). -/
def stepTimeout (p : Nat) (d : Dev) : Dev :=
  if 4 ≤ p || d.pln p ≠ plnTraining || d.now ≤ (d.lanes p).stepAt + 10 * qMs then d
  else d.failAttempt p (if d.clocking p = 0 && d.los p 5 then 4 else 1)

def execPaentStepTimeout (t p : Nat) (s : State) : Host.Outcome State Fault Refusal := s.onDev t (stepTimeout p)

/-- PAENT_ATTEMPT_TIMEOUT (R330): the attempt has taken more than 200 ms. -/
def attemptTimeout (p : Nat) (d : Dev) : Dev :=
  if 4 ≤ p || d.pln p ≠ plnTraining || d.now ≤ (d.lanes p).start + 200 * qMs then d
  else d.failAttempt p (if d.clocking p = 0 && d.los p 5 then 4 else 2)

def execPaentAttemptTimeout (t p : Nat) (s : State) : Host.Outcome State Fault Refusal := s.onDev t (attemptTimeout p)

/-- PAENT_RETRY_TIMER (R329): the retry of an ABSENT or WAIT port falls due. -/
def retryTimer (p : Nat) (d : Dev) : Dev :=
  if 4 ≤ p || !(d.pln p == plnAbsent || d.pln p == plnWait) || d.now < (d.lanes p).retryAt then d else d.attempt p

def execPaentRetryTimer (t p : Nat) (s : State) : Host.Outcome State Fault Refusal := s.onDev t (retryTimer p)

/-! ### Detectors (R328, R337) -/

/-- Whether a detector of a lane retrains the port: UP, mapped to receive, neither end asleep (R337, R338). -/
def Dev.laneCounts (d : Dev) (p l : Nat) : Bool :=
  d.pln p == plnUp && d.get R.LN_STATUS_RX_LOGICAL p l != 7 && !d.on R.PLN_STATUS_RX_ASLEEP p &&
    !d.on R.PLN_STATUS_PARTNER_TX_ASLEEP p && (d.lanes p).wakeRx.isNone

/-- LANE_LOS (R328, R329, R330, R338). -/
def laneLos (p l : Nat) (set : Bool) (d : Dev) : Dev :=
  if 4 ≤ p || 6 ≤ l || !d.clockOn 4 then d
  else
    let d := d.put R.LN_STATUS_LOS (b2n set) p l
    let d := if set then d.put R.LN_STATUS_LOS_SEEN 1 p l else d
    if set then
      if d.pln p = plnUp && (d.lanes p).sleepSeen then d.put R.PLN_STATUS_PARTNER_TX_ASLEEP 1 p
      else if d.laneCounts p l then d.attempt p
      else d
    else if d.pln p = plnAbsent && d.hears p then
      (d.setLanes p { d.lanes p with fails := 0 }).attempt p
    else if d.pln p = plnTraining && d.get R.PLN_STATUS_STEP p = 1 && d.hears p then d.detected p
    else d

def execLaneLos (t p l : Nat) (set : Bool) (s : State) : Host.Outcome State Fault Refusal := s.onDev t (laneLos p l set)

/-- LANE_LOL (R328, R337). -/
def laneLol (p l : Nat) (set : Bool) (d : Dev) : Dev :=
  if 4 ≤ p || 6 ≤ l || !d.clockOn 4 then d
  else
    let d := d.put R.LN_STATUS_LOL (b2n set) p l
    let d := if set then d.put R.LN_STATUS_LOL_SEEN 1 p l else d
    if set && d.laneCounts p l then d.attempt p else d

def execLaneLol (t p l : Nat) (set : Bool) (s : State) : Host.Outcome State Fault Refusal := s.onDev t (laneLol p l set)

/-- LANE_LOA (R328, R337): `n` consecutive frames without the marker on an aligned lane; LOA from four on. -/
def laneLoa (p l n : Nat) (d : Dev) : Dev :=
  if 4 ≤ p || 6 ≤ l || !d.clockOn 4 then d
  else
    let d := d.bump R.LN_MARKER_ERR_COUNT p n l
    if n < 4 then d
    else
      let d := (d.put R.LN_STATUS_LOA 1 p l).put R.LN_STATUS_LOA_SEEN 1 p l
      if d.laneCounts p l then d.attempt p else d

def execLaneLoa (t p l n : Nat) (s : State) : Host.Outcome State Fault Refusal := s.onDev t (laneLoa p l n)

/-! ### PLN_CTRL: retraining, hold and sleep (R329, R338, R339) -/

/-- Wake the transmit direction (R339): it carries data again 202 µs later. -/
def Dev.wakeTx (d : Dev) (p : Nat) : Dev :=
  if !d.on R.PLN_STATUS_TX_ASLEEP p then d
  else
    (d.setLanes p { d.lanes p with txFrom := d.now + 202 * qUs }).put R.PLN_STATUS_TX_ASLEEP 0 p |>.put R.PLN_CTRL_TX_SLEEP 0 p

/-- Wake the receive direction (R339). -/
def Dev.wakeRx (d : Dev) (p : Nat) : Dev :=
  if !d.on R.PLN_STATUS_RX_ASLEEP p then d
  else
    (d.setLanes p { d.lanes p with wakeRx := some d.now }).put R.PLN_STATUS_RX_ASLEEP 0 p |>.put R.PLN_CTRL_RX_SLEEP 0 p

/-- HOLD as written: 1 takes the port out of routing, 0 first wakes both directions and lets it enter routing. -/
def Dev.writeHold (d : Dev) (p : Nat) (hold : Bool) : Dev :=
  let was := d.on R.PLN_CTRL_HOLD p
  let d := d.put R.PLN_CTRL_HOLD (b2n hold) p
  if d.pln p ≠ plnUp then d
  else if hold then d.leaveRouting p 1
  else if was then ((d.wakeTx p).wakeRx p).identify p
  else d

/-- TX_SLEEP as written: honoured only while the port is UP and HOLD is 1. -/
def Dev.writeTxSleep (d : Dev) (p : Nat) (v : Bool) : Dev :=
  if v then
    if d.pln p = plnUp && d.on R.PLN_CTRL_HOLD p then (d.put R.PLN_CTRL_TX_SLEEP 1 p).put R.PLN_STATUS_TX_ASLEEP 1 p else d
  else d.wakeTx p

/-- RX_SLEEP as written. -/
def Dev.writeRxSleep (d : Dev) (p : Nat) (v : Bool) : Dev :=
  if v then
    if d.pln p = plnUp && d.on R.PLN_CTRL_HOLD p then (d.put R.PLN_CTRL_RX_SLEEP 1 p).put R.PLN_STATUS_RX_ASLEEP 1 p else d
  else d.wakeRx p

/-- RETRAIN written (R329): an attempt starts, both sleeps end, the backoff restarts; ignored while OFF. -/
def Dev.retrain (d : Dev) (p : Nat) : Dev :=
  if d.pln p = plnOff then d
  else
    let d := (d.setLanes p { d.lanes p with fails := 0, txFrom := 0, wakeRx := none })
    let d := ((d.put R.PLN_STATUS_TX_ASLEEP 0 p).put R.PLN_STATUS_RX_ASLEEP 0 p).put R.PLN_CTRL_TX_SLEEP 0 p
    (d.put R.PLN_CTRL_RX_SLEEP 0 p).attempt p

/-- A write of PLN_CTRL. Each bit is a setting of its own and takes effect when written. -/
def plnCtrl (p : Nat) (v : Word) (d : Dev) : Dev :=
  if 4 ≤ p then d
  else
    let n := v.toNat
    let d := (d.put R.PLN_CTRL_MANUAL (bits n 29 29) p).writeHold p (bit n 30)
    let d := (d.writeTxSleep p (bit n 28)).writeRxSleep p (bit n 27)
    if bit n 31 then d.retrain p else d

/-- A write with RETRAIN. -/
def paentRetrain (p : Nat) (v : Word) (d : Dev) : Dev := if bit v.toNat 31 then plnCtrl p v d else d

def execPaentRetrain (t p : Nat) (v : Word) (s : State) : Host.Outcome State Fault Refusal :=
  s.onDev t (·.gated 0xB40000 (paentRetrain p v))

/-- A write that changes HOLD. -/
def paentHold (p : Nat) (v : Word) (d : Dev) : Dev :=
  if bit v.toNat 30 != d.on R.PLN_CTRL_HOLD p then plnCtrl p v d else d

def execPaentHold (t p : Nat) (v : Word) (s : State) : Host.Outcome State Fault Refusal :=
  s.onDev t (·.gated 0xB40000 (paentHold p v))

/-- A write with TX_SLEEP 1. -/
def paentTxSleep (p : Nat) (v : Word) (d : Dev) : Dev := if bit v.toNat 28 then plnCtrl p v d else d

def execPaentTxSleep (t p : Nat) (v : Word) (s : State) : Host.Outcome State Fault Refusal :=
  s.onDev t (·.gated 0xB40000 (paentTxSleep p v))

/-- A write with TX_SLEEP 0 to a port whose transmitter sleeps. -/
def paentTxWake (p : Nat) (v : Word) (d : Dev) : Dev :=
  if !bit v.toNat 28 && d.on R.PLN_STATUS_TX_ASLEEP p then plnCtrl p v d else d

def execPaentTxWake (t p : Nat) (v : Word) (s : State) : Host.Outcome State Fault Refusal :=
  s.onDev t (·.gated 0xB40000 (paentTxWake p v))

/-- A write with RX_SLEEP 1. -/
def paentRxSleep (p : Nat) (v : Word) (d : Dev) : Dev := if bit v.toNat 27 then plnCtrl p v d else d

def execPaentRxSleep (t p : Nat) (v : Word) (s : State) : Host.Outcome State Fault Refusal :=
  s.onDev t (·.gated 0xB40000 (paentRxSleep p v))

/-- A write with RX_SLEEP 0 to a port whose receiver sleeps. -/
def paentRxWake (p : Nat) (v : Word) (d : Dev) : Dev :=
  if !bit v.toNat 27 && d.on R.PLN_STATUS_RX_ASLEEP p then plnCtrl p v d else d

def execPaentRxWake (t p : Nat) (v : Word) (s : State) : Host.Outcome State Fault Refusal :=
  s.onDev t (·.gated 0xB40000 (paentRxWake p v))

/-- PAENT_WAKE_TIMEOUT (R339): a woken direction is still not aligned after 10 ms. -/
def wakeTimeout (p : Nat) (d : Dev) : Dev :=
  match (d.lanes p).wakeRx with
  | some a => if d.pln p = plnUp && a + 10 * qMs ≤ d.now then d.attempt p else d
  | none => d

def execPaentWakeTimeout (t p : Nat) (s : State) : Host.Outcome State Fault Refusal := s.onDev t (wakeTimeout p)

end Sys2Proof.Machine
end

