-- ==== Sys2Proof/Machine/Memory.lean ====
section
/-! DEFINITION. DRAM channels and the frame store (18): error correction, ranks out of service and migration, refresh,
retraining and scrubbing. Page policy and scheduling (R364, R366, R367) only delay accesses and are left out as timing. -/

namespace Sys2Proof.Machine

/-! ### Ranks -/

/-- CH_STATUS.STATE: NORMAL. -/
def chNormal : Nat := 0
/-- MIGRATING. -/
def chMigrating : Nat := 1
/-- NO_SPARE. -/
def chNoSpare : Nat := 2
/-- FAILED. -/
def chFailedState : Nat := 3
/-- MIG_WAIT. -/
def chMigWait : Nat := 4

/-- RANK0 and RANK1: SPARE. -/
def rkSpare : Nat := 0
/-- IN_SERVICE. -/
def rkInService : Nat := 1
/-- SOURCE. -/
def rkSource : Nat := 2
/-- TARGET. -/
def rkTarget : Nat := 3
/-- RETIRED. -/
def rkRetired : Nat := 4
/-- UNTRAINED. -/
def rkUntrained : Nat := 5

/-- Set the memory controllers. -/
def Dev.setMctl (d : Dev) (x : MemCtl) : Dev := { d with mctl := x }
/-- STATE of a channel. -/
def Dev.chState (d : Dev) (ch : Nat) : Nat := d.get R.CH_STATUS_STATE ch
/-- State of a rank. -/
def Dev.rankState (d : Dev) (ch rank : Nat) : Nat := d.get (if rank = 0 then R.CH_STATUS_RANK0 else R.CH_STATUS_RANK1) ch
/-- Set it. -/
def Dev.setRank (d : Dev) (ch rank v : Nat) : Dev :=
  d.put (if rank = 0 then R.CH_STATUS_RANK0 else R.CH_STATUS_RANK1) v ch
/-- The rank in a state, if one is. -/
def Dev.rankIn (d : Dev) (ch v : Nat) : Option Nat := [0, 1].find? fun r => d.rankState ch r == v
/-- Agent identifier of a channel. -/
def chAgent (ch : Nat) : Nat := 0x7000 + ch

/-- Set a bit of a MEM_STATUS mask. -/
def Dev.memBit (d : Dev) (f : FldDesc) (ch : Nat) (on : Bool) : Dev :=
  let v := d.get f
  d.put f (if on then v ||| 2 ^ ch else v - (v &&& 2 ^ ch))

/-- Forget what a channel's migration has written to its target. -/
def Mem.dropTarget (m : Mem) (ch : Nat) : Mem := { m with target := m.target.filter fun e => chanOf e.1 != ch }

/-- Start the migration of a channel (R373, R375): the copy begins 1 µs later at rank line 0. -/
def startMigration (d : Dev) (m : Mem) (ch : Nat) : Dev × Mem :=
  match d.rankIn ch rkInService, d.rankIn ch rkSpare with
  | some a, some b =>
    let d := ((d.setRank ch a rkSource).setRank ch b rkTarget).put R.CH_STATUS_STATE chMigrating ch
    let d := ((d.put R.CH_MIG_PTR_LINE 0 ch).put R.MEM_STATUS_MIGRATING 1).put R.MEM_STATUS_MIG_CH ch
    (d.setMctl { d.mctl with mig := some (ch, 0, d.now + qUs) }, m.dropTarget ch)
  | _, _ => (d, m)

/-- The running migration ends; the first that waits starts (R374, R375). -/
def nextMigration (d : Dev) (m : Mem) : Dev × Mem :=
  let d := (d.setMctl { d.mctl with mig := none }).put R.MEM_STATUS_MIGRATING 0
  match d.mctl.waiting with
  | [] => (d, m)
  | ch :: r => startMigration (d.setMctl { d.mctl with waiting := r }) m ch

/-- What a channel's failure does outside DRAM: its state, the masks, DEGRADED, and FATAL (R375, R376). -/
def Dev.channelFails (d : Dev) (ch : Nat) : Dev :=
  let d := (d.put R.CH_STATUS_STATE chFailedState ch).memBit R.MEM_STATUS_FAILED_CH ch true
  let d := (d.memBit R.MEM_STATUS_NO_SPARE ch true).setMctl { d.mctl with waiting := d.mctl.waiting.filter (· != ch) }
  (d.degraded .channelFailed (chAgent ch) ch).fatal fatalChannel

/-- A channel FAILS (R375, R376): reads give POISON, writes are dropped, and the module declares FATAL. -/
def failChannel (d : Dev) (m : Mem) (ch : Nat) : Dev × Mem :=
  if (d.channelFails ch).mctl.mig.any fun x => x.1 == ch then nextMigration (d.channelFails ch) (m.dropTarget ch)
  else (d.channelFails ch, m)

/-- A rank faults (R372, R375), with its CAUSE: 1 WCRC, 2 UE, 3 RETRAIN, 4 CE_STORM. -/
def rankFault (d : Dev) (m : Mem) (ch rank cause : Nat) : Dev × Mem :=
  let k := d.rankState ch rank
  let s := d.chState ch
  if s = chFailedState || k = rkSource || k = rkRetired || k = rkUntrained then (d, m)
  else
    let d := d.put R.CH_STATUS_CAUSE cause ch
    if k = rkTarget then failChannel d m ch
    else if k = rkSpare then
      if s = chMigWait then failChannel (d.setRank ch rank rkRetired) m ch
      else
        let d := (d.setRank ch rank rkRetired).put R.CH_STATUS_STATE chNoSpare ch
        ((d.memBit R.MEM_STATUS_NO_SPARE ch true).info .spareRetired (chAgent ch) rank cause, m)
    else if s = chMigWait then (d, m)
    else if s = chNoSpare then failChannel d m ch
    else
      let d := d.degraded .rankOut (chAgent ch) rank cause
      if d.mctl.mig.isNone then startMigration d m ch
      else ((d.put R.CH_STATUS_STATE chMigWait ch).setMctl { d.mctl with waiting := d.mctl.waiting ++ [ch] }, m)

/-! ### Errors (R370 to R372) -/

/-- CH_ERR of the last error; the upper word is latched by a read of the lower (R382). -/
def Dev.chErr (d : Dev) (line : Nat) (ue poison : Bool) (device : Nat) : Dev :=
  let ch := chanOf line
  let pa := line * 64
  (d.setReg R.CH_ERR_LO (pa % 2 ^ 32) ch).setLatch R.CH_ERR_HI
    (b2n ue * 2 ^ 31 + b2n poison * 2 ^ 30 + device % 8 * 2 ^ 8 + pa / 2 ^ 32 % 16) ch

/-- Whether a rank serves reads of a line now (R360, R373): in service, the source of a line not copied, or the target of a
copied one. -/
def Dev.serves (d : Dev) (line rank : Nat) : Bool :=
  let ch := chanOf line
  let k := d.rankState ch rank
  let copied := match d.mctl.mig with
    | some (c, ptr, _) => c == ch && decide (rankLine line < ptr)
    | none => false
  k == rkInService || (k == rkSource && !copied) || (k == rkTarget && copied)

/-- What a read of a line from a rank shows (R370, R372); of a line written corrupted, the injected error (R449). A poisoned line holds its pattern and is neither. -/
def eccRead (line rank : Nat) (r : EccRead) (d : Dev) (m : Mem) : Dev × Mem :=
  let ch := chanOf line
  let r := match tabGet? m.injected line with
    | some v => if !d.serves line rank then r else if v / 8 = 1 then .corrected (v % 8) else .uncorrectable
    | none => r
  if 2 ^ 30 ≤ line || d.chFailed ch || 2 ≤ rank then (d, m)
  else match r with
    | .clean => (d, m)
    | .corrected dev =>
      let d := (((d.bump R.CH_CE_COUNT ch).chErr line false false dev).corrected .dramCe (chAgent ch) dev (line * 64))
      let key := (ch * 2 + rank) * 8 + dev % 8
      let ts := (d.now :: tabGetD d.mctl.ce [] key).filter fun t => d.now < t + qS
      let d := d.setMctl { d.mctl with ce := tabPut d.mctl.ce key (ts.take 4097) }
      if 4096 < ts.length then rankFault (d.setMctl { d.mctl with ce := tabDel d.mctl.ce key }) m ch rank 4 else (d, m)
    | .uncorrectable =>
      let poison := (tabGet? m.poison line).isSome
      let d := (d.bump R.CH_UE_COUNT ch).chErr line true poison 0
      let d := d.contained .dramUe (chAgent ch) (line * 64 % 2 ^ 32) (line * 64 / 2 ^ 32)
      let m := if d.serves line rank && !poison then { m with ue := tabPut m.ue line () } else m
      rankFault d m ch rank 2

/-- DRAM_READ_ERROR (R370). -/
def dramReadError (line rank : Nat) (r : EccRead) (x : Dev × Mem) : Dev × Mem := eccRead line rank r x.1 x.2

def execDramReadError (t line rank : Nat) (r : EccRead) (s : State) : Host.Outcome State Fault Refusal :=
  s.onAll t (dramReadError line rank r)

/-- DRAM_WCRC_ALERT (R372): an alert on the write (retry 0) or on a retry of it; the fourth retry's alert persists. -/
def wcrcAlert (ch rank retry : Nat) (x : Dev × Mem) : Dev × Mem :=
  if 8 ≤ ch || 2 ≤ rank then x
  else
    let d := x.1.bump R.CH_WCRC_COUNT ch
    if retry < 4 then (d, x.2) else rankFault d x.2 ch rank 1

def execDramWcrcAlert (t ch rank retry : Nat) (s : State) : Host.Outcome State Fault Refusal :=
  s.onAll t (wcrcAlert ch rank retry)

/-! ### Migration (R373 to R375) -/

/-- MIGRATION_COPY_LINE (R373, R374): the next line, and what its source read shows. -/
def copyLine (r : EccRead) (x : Dev × Mem) : Dev × Mem :=
  match x.1.mctl.mig with
  | none => x
  | some (ch, ptr, after) =>
    if 2 ^ 27 ≤ ptr || x.1.now < after then x
    else
      let line := lineOfRank ch ptr
      let source := (x.1.rankIn ch rkSource).getD 0
      let (d, m) := eccRead line source r x.1 x.2
      let (d, m) :=
        if (tabGet? m.ue line).isNone then (d, m)
        else if (tabGet? m.target line).isSome then (d, { m with ue := tabDel m.ue line })
        else (d.bump R.CH_POISON_WR_COUNT ch, m.setPoison line)
      let step := 64 * 4000 / d.get R.MIG_THROTTLE_MBPS
      ((d.put R.CH_MIG_PTR_LINE (ptr + 1) ch).setMctl { d.mctl with mig := some (ch, ptr + 1, d.now + step) }, m)

def execMigrationCopyLine (t : Nat) (r : EccRead) (s : State) : Host.Outcome State Fault Refusal := s.onAll t (copyLine r)

/-- MIGRATION_DONE (R375): the target goes into service, the source is retired; the next migration starts. -/
def migrationDone (x : Dev × Mem) : Dev × Mem :=
  match x.1.mctl.mig with
  | none => x
  | some (ch, ptr, _) =>
    if ptr < 2 ^ 27 then x
    else match x.1.rankIn ch rkSource, x.1.rankIn ch rkTarget with
      | some a, some b =>
        let d := ((x.1.setRank ch a rkRetired).setRank ch b rkInService).put R.CH_STATUS_STATE chNoSpare ch
        let d := (d.memBit R.MEM_STATUS_NO_SPARE ch true).info .migrationDone (chAgent ch) b
        nextMigration d (x.2.dropTarget ch)
      | _, _ => x

def execMigrationDone (t : Nat) (s : State) : Host.Outcome State Fault Refusal := s.onAll t migrationDone

/-- A write of MIG_THROTTLE (R382). -/
def throttleWrite (v : Word) (d : Dev) : Dev :=
  let n := v.toNat % 65536
  if 500 ≤ n && n ≤ 25600 then d.put R.MIG_THROTTLE_MBPS n else d

def execMigThrottleWrite (t : Nat) (v : Word) (s : State) : Host.Outcome State Fault Refusal :=
  s.onDev t (·.gated 0xD00004 (throttleWrite v))

/-! ### Refresh, temperature and retraining (R365, R368, R369) -/

/-- Key of a rank. -/
def rankKey (ch rank : Nat) : Nat := ch * 2 + rank

/-- Whether a rank refreshes at the doubled rate: a device above 85 °C (R365). -/
def Dev.rankHot (d : Dev) (ch rank : Nat) : Bool := (tabGetD d.mctl.temps [] (rankKey ch rank)).any (85 < ·)

/-- DRAM_REFRESH (R365): a bank's refresh falls due; at most 4 are postponed, none while the rank is hot. -/
def dramRefresh (ch rank bank : Nat) (postponed : Bool) (d : Dev) : Dev :=
  if 8 ≤ ch || 2 ≤ rank || 32 ≤ bank then d
  else
    let key := rankKey ch rank * 32 + bank
    let n := tabGetD d.mctl.debt 0 key
    let n' := if postponed && n < 4 && !d.rankHot ch rank then n + 1 else 0
    d.setMctl { d.mctl with debt := tabSet d.mctl.debt 0 key n' }

def execDramRefresh (t ch rank bank : Nat) (postponed : Bool) (s : State) : Host.Outcome State Fault Refusal :=
  s.onDev t (dramRefresh ch rank bank postponed)

/-- DRAM_TEMP_READ (R365, R369): the case temperatures of a rank's devices; a move of 10 K since the last full retraining
starts another. -/
def tempRead (ch rank : Nat) (temps : List Int) (d : Dev) : Dev :=
  if 8 ≤ ch || 2 ≤ rank || temps.isEmpty then d
  else
    let key := rankKey ch rank
    let ref := tabGetD d.mctl.refTemps temps key
    let moved := (temps.zip ref).any fun p => 10 ≤ (p.1 - p.2).natAbs
    let d := d.setMctl { d.mctl with
      temps := tabPut d.mctl.temps key temps, refTemps := tabPut d.mctl.refTemps key ref
      steps := if moved && (tabGet? d.mctl.steps key).isNone then tabPut d.mctl.steps key (0, 0) else d.mctl.steps }
    let both := tabGetD d.mctl.temps [] (rankKey ch 0) ++ tabGetD d.mctl.temps [] (rankKey ch 1)
    let hottest := both.foldl max (both.headD 0)
    let hot := d.rankHot ch 0 || d.rankHot ch 1
    ((d.put R.CH_STATUS_CASE_TEMP (ofSigned 8 hottest) ch).put R.CH_STATUS_HOT (b2n hot) ch).memBit R.MEM_STATUS_HOT ch hot

def execDramTempRead (t ch rank : Nat) (temps : List Int) (s : State) : Host.Outcome State Fault Refusal :=
  s.onDev t (tempRead ch rank temps)

/-- DRAM_DRIFT_CHECK (R369): the drift since the last centring, in thousandths of a UI; above 0.05 UI the rank is
re-centred. -/
def driftCheck (ch rank drift : Nat) (d : Dev) : Dev :=
  if 8 ≤ ch || 2 ≤ rank || drift ≤ 50 then d else d.bump R.CH_RETRAINS_COUNT ch

def execDramDriftCheck (t ch rank drift : Nat) (s : State) : Host.Outcome State Fault Refusal :=
  s.onDev t (driftCheck ch rank drift)

/-- DRAM_RETRAIN_STEP (R369): one of 16 steps, at least 100 µs after the one before; a step that finds no setting fails
the rank (R372). -/
def retrainStep (ch rank : Nat) (ok : Bool) (x : Dev × Mem) : Dev × Mem :=
  let key := rankKey ch rank
  let d := x.1
  match tabGet? d.mctl.steps key with
  | none => x
  | some (n, last) =>
    if 8 ≤ ch || 2 ≤ rank || (n ≠ 0 && d.now < last + 100 * qUs) then x
    else if !ok then
      let d := (d.setMctl { d.mctl with steps := tabDel d.mctl.steps key }).bump R.CH_RETRAINS_COUNT ch
      rankFault d x.2 ch rank 3
    else if n + 1 < 16 then (d.setMctl { d.mctl with steps := tabPut d.mctl.steps key (n + 1, d.now) }, x.2)
    else
      let temps := tabGetD d.mctl.temps [] key
      ((d.setMctl { d.mctl with
        steps := tabDel d.mctl.steps key, refTemps := tabPut d.mctl.refTemps key temps }).bump R.CH_RETRAINS_COUNT ch, x.2)

def execDramRetrainStep (t ch rank : Nat) (ok : Bool) (s : State) : Host.Outcome State Fault Refusal :=
  s.onAll t (retrainStep ch rank ok)

/-- DRAM_PATROL_SCRUB (R370): a line of the rank in service is read; corrected data is written back. -/
def patrolScrub (line : Nat) (r : EccRead) (x : Dev × Mem) : Dev × Mem :=
  let ch := chanOf line
  match [0, 1].find? fun k => x.1.serves line k with
  | some rank =>
    if 8 ≤ ch then x
    else
      let (d, m) := eccRead line rank r x.1 x.2
      (d, if (tabGet? m.injected line).any fun v => v / 8 == 1 then { m with injected := tabDel m.injected line } else m)
  | none => x

def execDramPatrolScrub (t line : Nat) (r : EccRead) (s : State) : Host.Outcome State Fault Refusal :=
  s.onAll t (patrolScrub line r)

/-! ### The frame store (R378 to R381) -/

/-- FS_REFRESH (R378): the gain cells are refreshed; no data changes. -/
def fsRefresh (d : Dev) : Dev := d.setMctl { d.mctl with fsAt := d.now }

def execFsRefresh (t : Nat) (s : State) : Host.Outcome State Fault Refusal := s.onDev t fsRefresh

/-- A failing row gives way to a spare row of its bank, or stays in use with SPARES_OUT and one DEGRADED event (R380). -/
def Dev.fsReplace (d : Dev) (bank row : Nat) : Dev :=
  let key := bank * 8192 + row
  let used := d.get R.FS_BANK_SPARES_USED bank
  let d := d.setMctl { d.mctl with streak := tabSet d.mctl.streak 0 key 0 }
  if used < 64 then
    ((d.put R.FS_BANK_SPARES_USED (used + 1) bank).put R.FS_STATUS_SPARED (d.get R.FS_STATUS_SPARED + 1)).info .fsSpared
      0x7010 bank row
  else if d.mctl.noSpare.contains key then d
  else
    ((d.put R.FS_STATUS_SPARES_OUT 1).setMctl { d.mctl with noSpare := key :: d.mctl.noSpare }).degraded .fsSparesOut
      0x7010 bank row

/-- FS_SCRUB (R379, R380): a row's corrected words and uncorrectable words of this pass. -/
def fsScrub (bank row ce ue : Nat) (d : Dev) : Dev :=
  if 64 ≤ bank || 4160 ≤ row then d
  else
    let key := bank * 8192 + row
    let d := (d.bump R.FS_CE_COUNT 0 ce).bump R.FS_UE_COUNT 0 ue
    let n := if ce = 0 then 0 else tabGetD d.mctl.streak 0 key + 1
    let d := d.setMctl { d.mctl with streak := tabSet d.mctl.streak 0 key n }
    if 3 ≤ n || ue ≠ 0 then d.fsReplace bank row else d

def execFsScrub (t bank row ce ue : Nat) (s : State) : Host.Outcome State Fault Refusal := s.onDev t (fsScrub bank row ce ue)

end Sys2Proof.Machine
end

