-- ==== Sys2Proof/Machine/OpIo.lean ====
section
/-! DEFINITION. Trigger events, launch-timed frames, touch, converters, GPIO and control cycles (04, 14). -/

namespace Sys2Proof.Machine

/-! ### Touch ports: state, grid and settings (R275, R286) -/

/-- A touch port. -/
def Dev.touch (d : Dev) (p : Nat) : TouchSt := tabGetD d.io.touch TouchSt.init p

/-- Set a touch port. -/
def Dev.setTouch (d : Dev) (p : Nat) (x : TouchSt) : Dev :=
  { d with io := { d.io with touch := tabSet d.io.touch TouchSt.init p x } }

/-- A control cycle. -/
def Dev.cycle (d : Dev) (c : Nat) : Cycle := tabGetD d.io.cycles Cycle.init c

/-- Set a control cycle. -/
def Dev.setCycle (d : Dev) (c : Nat) (x : Cycle) : Dev :=
  { d with io := { d.io with cycles := tabSet d.io.cycles Cycle.init c x } }

/-- STATE of a touch port. -/
def Dev.touchState (d : Dev) (p : Nat) : Nat := d.get R.TCH_STATUS_STATE p
/-- OFF. -/
def tchOff : Nat := 0
/-- BASELINE. -/
def tchBaseline : Nat := 1
/-- FULL. -/
def tchFull : Nat := 2
/-- SIMMER. -/
def tchSimmer : Nat := 3

/-- Index and instant of the last scan start at or before working time `w`: E + j / 240 s, rounded down to 0.25 ns. -/
def scanStart (w : Nat) : Nat × Nat :=
  let j := (w * 3 + 2) / 50000000
  (j, j * 50000000 / 3)

/-- Show a port's entries: COUNT, and the slots that a read of TCH_SCAN_LO latches (R286). -/
def Dev.showTouch (d : Dev) (p : Nat) (es : List TouchEntry) : Dev :=
  (List.range 10).foldl (fun d s =>
    let e := es.getD s ⟨0, 0, 0, 0, 0⟩
    (d.setLatch R.TCH_SLOT (e.id * 2 ^ 24 + e.event * 2 ^ 16 + e.z) p (2 * s)).setLatch R.TCH_SLOT
      (e.x * 2 ^ 16 + e.y) p (2 * s + 1)) (d.put R.TCH_STATUS_COUNT es.length p)

/-- VALID of a port (R282); a port whose data turns invalid reports no entries. -/
def Dev.touchValid (d : Dev) (p : Nat) : Dev :=
  let st := d.touch p
  let ok := 2 ≤ d.touchState p && d.clockOn 7 && st.hist.any id
  let d := d.put R.TCH_STATUS_VALID (b2n ok) p
  if ok then d else (d.setTouch p { st with rel := none }).showTouch p []

/-- One scheduled scan more: released or not; the last three count (R282). -/
def TouchSt.scheduled (st : TouchSt) (ok : Bool) : TouchSt := { st with hist := (ok :: st.hist).take 3 }

/-- TCH_CTRL.APPLY (R286): the staged settings come into force, or BAD_CONFIG. -/
def Dev.touchApply (d : Dev) (p : Nat) : Dev :=
  let h := d.get R.TCH_THRESH_HOVER_THR p
  let t := d.get R.TCH_THRESH_TOUCH_THR p
  let a := d.get R.TCH_THRESH_ANTI_THR p
  let s := d.get R.TCH_TIMING_MAX_S p
  let mode := d.get R.TCH_CTRL_MODE p
  if h = 0 || t = 0 || a = 0 || t ≤ h || s = 0 || 3600 < s || mode = 3 || d.get R.TCH_MARK_SHAPE_SHAPE p = 3 then
    d.put R.TCH_STATUS_BAD_CONFIG 1 p
  else
    d.setTouch p { d.touch p with
      cfg := ⟨mode, d.on R.TCH_CTRL_SIMMER_EN p, h, t, a, d.get R.TCH_TIMING_IDLE_M1 p + 1, s,
        ⟨d.reg R.TCH_MARK_SHAPE p, d.reg R.TCH_MARK_COLOUR p, d.reg R.TCH_HOVER_COLOUR p, d.reg R.TCH_MAP_SX p,
          d.reg R.TCH_MAP_SY p, d.reg R.TCH_MAP_OFF p⟩⟩ }

/-- A port starts in BASELINE (R278); settings, IDs and a due re-baseline are kept. -/
def Dev.touchOn (d : Dev) (p : Nat) : Dev :=
  let st := d.touch p
  ((d.setTouch p { TouchSt.init with cfg := st.cfg, nextId := st.nextId }).put R.TCH_STATUS_STATE tchBaseline p).touchValid p

/-- A port goes out of service: its entries end without UP, and its TOUCH_REBASE commands complete with 0. -/
def Dev.touchOff (d : Dev) (p : Nat) : Dev :=
  let st := d.touch p
  let cmds := st.rebaseCmds ++ (match st.scan with | some s => s.rebased | none => [])
  let d := (d.setTouch p { TouchSt.init with cfg := st.cfg, nextId := st.nextId }).put R.TCH_STATUS_STATE tchOff p
  cmds.foldl (fun d c => d.succeed c.1 c.2 0) (d.touchValid p)

/-- A write of TCH_CTRL (R286). -/
def touchCtrl (p : Nat) (v : Word) (d : Dev) : Dev :=
  if 2 ≤ p then d
  else
    let n := v.toNat
    let was := d.on R.TCH_CTRL_ENABLE p
    let d := (d.put R.TCH_CTRL_MODE (bits n 29 28) p).put R.TCH_CTRL_SIMMER_EN (bits n 27 27) p
    let d :=
      if was then d
      else
        let d := if bits n 22 16 ≤ 71 then d.put R.TCH_CTRL_USED_DRV_M1 (bits n 22 16) p else d
        let d := if bits n 13 8 ≤ 47 then d.put R.TCH_CTRL_USED_SNS_M1 (bits n 13 8) p else d
        d.put R.TCH_CTRL_MARK_SIZE (bits n 7 0) p
    let d := d.put R.TCH_CTRL_ENABLE (bits n 30 30) p
    let d := if bit n 31 then d.touchApply p else d
    if bit n 30 && !was then d.touchOn p else if !bit n 30 && was then d.touchOff p else d

/-- TCH_CTRL written with ENABLE 1 to a port that is off. -/
def touchEnable (p : Nat) (v : Word) (d : Dev) : Dev :=
  if bit v.toNat 30 && !d.on R.TCH_CTRL_ENABLE p then touchCtrl p v d else d

def execTouchPortEnable (t p : Nat) (v : Word) (s : State) : Host.Outcome State Fault Refusal :=
  s.onDev t (·.gatedM (R.TCH_CTRL.off p 0) v (touchEnable p v))

/-- TCH_CTRL written with ENABLE 0 to a port in service. -/
def touchDisable (p : Nat) (v : Word) (d : Dev) : Dev :=
  if !bit v.toNat 30 && d.on R.TCH_CTRL_ENABLE p then touchCtrl p v d else d

def execTouchPortDisable (t p : Nat) (v : Word) (s : State) : Host.Outcome State Fault Refusal :=
  s.onDev t (·.gatedM (R.TCH_CTRL.off p 0) v (touchDisable p v))

/-- TCH_CTRL written with APPLY. -/
def touchApplyWrite (p : Nat) (v : Word) (d : Dev) : Dev := if bit v.toNat 31 then touchCtrl p v d else d

def execTouchApply (t p : Nat) (v : Word) (s : State) : Host.Outcome State Fault Refusal :=
  s.onDev t (·.gatedM (R.TCH_CTRL.off p 0) v (touchApplyWrite p v))

/-! ### Scans (R275 to R281) -/

/-- Used drive electrodes. -/
def Dev.drives (d : Dev) (p : Nat) : Nat := d.get R.TCH_CTRL_USED_DRV_M1 p + 1
/-- Used sense electrodes. -/
def Dev.senses (d : Dev) (p : Nat) : Nat := d.get R.TCH_CTRL_USED_SNS_M1 p + 1

/-- Begin a scan. -/
def Dev.touchBegin (d : Dev) (p start j : Nat) (simmer : Bool) : Dev :=
  let st := d.touch p
  d.setTouch p { st with
    lastJ := some j
    scan := some ⟨start, if simmer then 360 * qUs else d.drives p * 40 * qUs, simmer, st.cfg, false, false, [], []⟩ }

/-- A scan start on the 240 Hz grid (R275, R281): in SIMMER only every 30th, until a wake. -/
def touchScanStart (p : Nat) (d : Dev) : Dev :=
  let (j, start) := scanStart d.wt
  let st := d.touch p
  if 2 ≤ p || d.touchState p = tchOff || st.lastJ = some j || st.scan.isSome || start + 4 ≤ d.wt then d
  else
    let simmer := d.touchState p == tchSimmer && !st.wake && st.cfg.simmer
    if simmer && j % 30 ≠ 0 then d
    else if !d.clockOn 7 then (d.setTouch p { st.scheduled false with lastJ := some j }).touchValid p
    else if d.touchState p = tchSimmer && !simmer then
      ((d.setTouch p { st with wake := false, idleFrom := d.wt }).put R.TCH_STATUS_STATE tchFull p).touchBegin p start j false
    else d.touchBegin p start j simmer

def execTouchScanStart (t p : Nat) (s : State) : Host.Outcome State Fault Refusal := s.onDev t (touchScanStart p)

/-- The number of a node. -/
def Grid.node (g : Grid) (i j : Nat) : Nat := (g.getD i []).getD j 0

/-- A grid of `n` × `m` nodes. -/
def Grid.make (n m : Nat) (f : Nat → Nat → Nat) : Grid := (List.range n).map fun i => (List.range m).map fun j => f i j

/-- The nodes at most `r` away from (i, j) within `n` × `m`, itself included. -/
def around (n m r i j : Nat) : List (Nat × Nat) :=
  ((List.range (2 * r + 1)).flatMap fun a => (List.range (2 * r + 1)).map fun b => (i + a, j + b)).filterMap fun x =>
    if r ≤ x.1 && r ≤ x.2 && x.1 - r < n && x.2 - r < m then some (x.1 - r, x.2 - r) else none

/-- A peak that is reported (R276, R277). -/
structure Peak where
  hover : Bool
  z : Nat
  x : Nat
  y : Nat
  i : Nat
  j : Nat
  deriving DecidableEq, Repr

/-- Position in units of 1/64 pitch: the centre of gravity, rounded to nearest. -/
def gravity (ws : List (Nat × Nat)) : Nat :=
  let s := (ws.map (·.2)).sum
  (128 * (ws.map fun w => w.1 * w.2).sum + s) / (2 * s)

/-- The reported peaks of a scan, by rising (i, j) (R276). -/
def peaks (c : TouchCfg) (n m : Nat) (delta : Nat → Nat → Int) : List Peak :=
  ((List.range n).flatMap fun i => (List.range m).map fun j => (i, j)).filterMap fun q =>
    let (i, j) := q
    let v := delta i j
    let near := around n m 1 i j
    let isPeak := near.all fun x =>
      x == q || (if x.1 < i || (x.1 == i && x.2 < j) then decide (delta x.1 x.2 < v) else decide (delta x.1 x.2 ≤ v))
    let pos : List (Nat × Nat × Nat) := near.map fun x => (x.1, x.2, (delta x.1 x.2).toNat)
    let z := min 65535 (pos.map (·.2.2)).sum
    let touch := if c.mode = 1 then ((c.touchThr / 4 : Nat) : Int) ≤ v && 2 * c.touchThr ≤ z else (c.touchThr : Int) ≤ v
    let hover := c.mode == 2 && (c.hoverThr : Int) ≤ v && v < (c.touchThr : Int)
    if isPeak && (touch || hover) then
      some ⟨!touch, z, gravity (pos.map fun w => (w.1, w.2.2)), gravity (pos.map fun w => (w.2.1, w.2.2)), i, j⟩
    else none

/-- The 10 peaks with the largest Z, in scan order (R277); of equal Z the earlier. -/
def keepPeaks (ps : List Peak) : List Peak :=
  if ps.length ≤ 10 then ps
  else
    let idx := ps.zipIdx
    (idx.filter fun a =>
      (idx.filter fun b => a.1.z < b.1.z || (a.1.z == b.1.z && b.2 < a.2)).length < 10).map (·.1)

/-- Nearest pairs first (R277): entry index and peak index, each used once, within 256 units. -/
def matchPairs : Nat → List (Nat × Nat × Nat) → List (Nat × Nat)
  | 0, _ => []
  | n + 1, ps =>
    match ps with
    | [] => []
    | p :: r =>
      let best := r.foldl (fun b x => if x.1 < b.1 then x else b) p
      (best.2.1, best.2.2) :: matchPairs n (ps.filter fun x => x.2.1 != best.2.1 && x.2.2 != best.2.2)

/-- The next ID not in use, from `n` on: 1 to 255, cyclically (R277). -/
def freeId (used : List Nat) : Nat → Nat → Nat
  | 0, n => n
  | k + 1, n => if used.contains n then freeId used k (n % 255 + 1) else n

/-- An ended entry with its last position. -/
def TouchLive.endedBy (l : TouchLive) (event : Nat) : TouchEntry := ⟨l.id, event, l.z, l.x, l.y⟩

/-- Peaks matched to the entries tracked (R277): the entries that go on with their peaks, in order of first appearance,
then new ones; the entries that ended; and the next ID. -/
def track (instant next : Nat) (live : List TouchLive) (ps : List Peak) :
    List (TouchLive × Peak) × List TouchLive × Nat :=
  let pairs := matchPairs live.length ((live.zipIdx.flatMap fun l => ps.zipIdx.map fun p =>
    (((l.1.x : Int) - p.1.x).natAbs ^ 2 + ((l.1.y : Int) - p.1.y).natAbs ^ 2, l.2, p.2)).filter fun x => x.1 ≤ 65536)
  let kept := live.zipIdx.filterMap fun l =>
    match pairs.find? fun x => x.1 == l.2 with
    | some x => (ps[x.2]?).map fun p =>
      ({ l.1 with hover := p.hover, z := p.z, x := p.x, y := p.y,
                  since := if l.1.hover then instant else l.1.since }, p)
    | none => none
  let ended := (live.zipIdx.filter fun l => !pairs.any fun x => x.1 == l.2).map (·.1)
  let fresh := (ps.zipIdx.filter fun p => !pairs.any fun x => x.2 == p.2).map (·.1)
  let (new, _, next) := fresh.foldl (fun (acc : List (TouchLive × Peak) × List Nat × Nat) p =>
    let i := freeId acc.2.1 255 acc.2.2
    (acc.1 ++ [(⟨i, p.hover, instant, none, p.z, p.x, p.y⟩, p)], i :: acc.2.1, i % 255 + 1))
    ([], kept.map fun k => k.1.id, next)
  (kept ++ new, ended, next)

/-- A scan processed in BASELINE (R278): sums of raw counts, and after the eighth the rounded means. -/
def touchMean (n m : Nat) (raw : Grid) (st : TouchSt) (s : TouchScan) : TouchSt :=
  let sums := Grid.make n m fun i j => st.sums.node i j + raw.node i j
  { st with
    sums := sums, scans := st.scans + 1
    base := if st.scans + 1 = 8 then Grid.make n m fun i j => (sums.node i j + 4) / 8 else st.base
    rebase := false, rebaseCmds := []
    scan := some { s with done := true, rebased := st.rebaseCmds } }

/-- A scan processed in FULL (R276 to R280): re-baselining, peaks, tracking, timeouts and the slow baseline. -/
def touchFull (n m : Nat) (raw : Grid) (st : TouchSt) (s : TouchScan) : TouchSt × Bool × Nat × List Nat :=
  let c := s.cfg
  let base0 := if st.rebase then raw else st.base
  let d0 : Nat → Nat → Int := fun i j => (base0.node i j : Int) - raw.node i j
  let hit : Nat → Nat → Bool := fun i j => d0 i j ≤ -(c.antiThr : Int)
  let anyHit := (List.range n).any fun i => (List.range m).any fun j => hit i j
  let base1 := if !anyHit then base0 else
    Grid.make n m fun i j => if (around n m 1 i j).any (fun x => hit x.1 x.2) then raw.node i j else base0.node i j
  let d1 : Nat → Nat → Int := fun i j => (base1.node i j : Int) - raw.node i j
  let found := peaks c n m d1
  let ps := keepPeaks found
  let instant := s.start + s.duration / 2
  let (now, gone, next) := track instant st.nextId st.live ps
  let out := now.filter fun x => !x.1.hover && x.1.since + c.maxS * qS ≤ instant
  let base2 := if out.isEmpty then base1 else
    Grid.make n m fun i j =>
      if out.any (fun x => (around n m 2 x.2.i x.2.j).contains (i, j)) then raw.node i j else base1.node i j
  let stay := (now.filter fun x => !out.contains x).map (·.1)
  let quiet := if now.isEmpty then st.quiet + 1 else st.quiet
  let base3 := if quiet < 16 then base2 else
    Grid.make n m fun i j =>
      let b := base2.node i j
      let dl : Int := (b : Int) - raw.node i j
      if dl.natAbs < c.touchThr / 2 then (if 0 < dl then b - 1 else if dl < 0 then b + 1 else b) else b
  ({ st with
      base := base3, live := stay, nextId := next, quiet := if quiet < 16 then quiet else 0
      rebase := false, rebaseCmds := []
      scan := some { s with
        done := true, overflow := decide (10 < found.length), rebased := st.rebaseCmds
        ended := gone.map (·.endedBy 3) ++ out.map fun x => x.1.endedBy 4 } },
   anyHit, found.length - ps.length, out.map fun x => x.1.id)

/-- Whether a scan can finish processing now: its electrodes are measured and its release instant has not passed. -/
def TouchScan.inWindow (s : TouchScan) (w : Nat) : Bool :=
  decide (s.start + s.duration ≤ w) && decide (w ≤ s.start + s.duration + 600 * qUs)

/-- The core finishes processing a full scan: `raw` are the counts of its nodes. -/
def touchProcessed (p : Nat) (raw : Grid) (d : Dev) : Dev :=
  let st := d.touch p
  match st.scan with
  | none => d
  | some s =>
    if s.simmer || s.done || !s.inWindow d.wt then d
    else if d.touchState p = tchBaseline then d.setTouch p (touchMean (d.drives p) (d.senses p) raw st s)
    else
      let (st, hit, dropped, outs) := touchFull (d.drives p) (d.senses p) raw st s
      let d := d.setTouch p st
      let d := if hit then d.bump R.TCH_REBASE_COUNT p else d
      let d := d.bump R.TCH_DROPPED_COUNT p dropped
      outs.foldl (fun d i => (d.bump R.TCH_TIMEOUTS_COUNT p).info .touchTimeout (0x8000 + p) i) d

def execTouchScanProcessed (t p : Nat) (raw : List (List Nat)) (s : State) : Host.Outcome State Fault Refusal :=
  s.onDev t (touchProcessed p raw)

/-- A simmer scan is measured (R281): the first one sets the simmer baseline, a fall by TOUCH_THR wakes the port. -/
def touchSimmer (p : Nat) (sums : List Nat) (d : Dev) : Dev :=
  let st := d.touch p
  match st.scan with
  | none => d
  | some s =>
    if !s.simmer || s.done || !s.inWindow d.wt then d
    else
      let st := { st with scan := some { s with done := true } }
      match st.simBase with
      | none => d.setTouch p { st with simBase := some sums }
      | some b =>
        let woke := (List.range (d.senses p)).any fun j => sums.getD j 0 + s.cfg.touchThr ≤ b.getD j 0
        d.setTouch p { st with wake := st.wake || woke }

def execTouchSimmerScan (t p : Nat) (sums : List Nat) (s : State) : Host.Outcome State Fault Refusal :=
  s.onDev t (touchSimmer p sums)

/-- A scan's entries in report order, at most 10, ended entries dropped first (R295); `isNew` tells DOWN from HELD. -/
def touchEntries (live : List TouchLive) (ended : List TouchEntry) (isNew : TouchLive → Bool) : List TouchEntry :=
  ((live.map fun l => (⟨l.id, if l.hover then 5 else if isNew l then 1 else 2, l.z, l.x, l.y⟩ : TouchEntry)) ++ ended).take 10

/-- Entries that ended are kept for each running control cycle (R295). -/
def Dev.ccEnded (d : Dev) (p : Nat) (es : List TouchEntry) : Dev :=
  if es.isEmpty then d
  else (List.range 4).foldl (fun d c =>
    let k := d.cycle c
    if k.running then d.setCycle c { k with ended := tabUpd k.ended [] p (· ++ es) } else d) d

/-- State changes that a release brings (R278, R281). -/
def Dev.touchMove (d : Dev) (p : Nat) : Dev :=
  let st := d.touch p
  if d.touchState p = tchBaseline then
    if st.scans < 8 then d
    else (d.setTouch p { st with idleFrom := d.wt }).put R.TCH_STATUS_STATE tchFull p
  else if d.touchState p = tchFull then
    if !st.live.isEmpty then d.setTouch p { st with idleFrom := d.wt }
    else if st.cfg.simmer && st.idleFrom + st.cfg.idle * qS ≤ d.wt then
      (d.setTouch p { st with simBase := none, wake := false }).put R.TCH_STATUS_STATE tchSimmer p
    else d
  else d

/-- The release instant of a scan (R275): its result comes into force, or it is discarded as late. -/
def touchRelease (p : Nat) (d : Dev) : Dev :=
  let st := d.touch p
  match st.scan with
  | none => d
  | some s =>
    if d.wt < s.start + s.duration + 600 * qUs || !d.clockOn 7 then d
    else if !s.done then
      ((d.setTouch p { st.scheduled false with scan := none }).bump R.TCH_LATE_SCANS_COUNT p).touchValid p
    else
      let instant := s.start + s.duration / 2
      let es := touchEntries st.live s.ended fun l => l.shown.isNone
      let live := st.live.map fun l => { l with shown := some (l.shown.getD d.wt) }
      let d := d.setTouch p { st.scheduled true with
        scan := none, live := live, rel := some ⟨instant, es, live, s.cfg.map, s.overflow⟩ }
      let d := ((d.bumpWrap R.TCH_STATUS_SCANS p).put R.TCH_STATUS_OVERFLOW (b2n s.overflow) p).showTouch p es
      let d := (d.setReg R.TCH_SCAN_LO (instant / 4 % 2 ^ 48) p).setLatch R.TCH_SCAN_HI (instant / 4 % 2 ^ 48 / 2 ^ 32) p
      let d := ((d.ccEnded p s.ended).touchMove p).touchValid p
      s.rebased.foldl (fun d c => d.succeed c.1 c.2 (d.get R.TCH_STATUS_SCANS p)) d

def execTouchScanRelease (t p : Nat) (s : State) : Host.Outcome State Fault Refusal := s.onDev t (touchRelease p)

/-- A re-baseline with the effect of TOUCH_REBASE (R297, R350). -/
def Dev.touchRebaseDue (d : Dev) (p : Nat) : Dev :=
  if d.touchState p = tchOff then d else d.setTouch p { d.touch p with rebase := true }

/-- TOUCH_REBASE (R297): it completes with the release of the scan that re-baselined. -/
def touchRebase (q seq : Nat) (d : Dev) : Dev :=
  d.onCmd q seq 0x1002 fun c d => d.withTail q seq c 1 fun d =>
    let p := c.p 0 1
    if 2 ≤ p then d.bad q seq 0
    else if d.touchState p = tchOff then d.succeed q seq 0
    else
      let st := d.touch p
      let waits := st.rebaseCmds.contains (q, seq) ||
        (match st.scan with | some s => s.rebased.contains (q, seq) | none => false)
      if waits then d else d.setTouch p { st with rebase := true, rebaseCmds := st.rebaseCmds ++ [(q, seq)] }

def execTouchRebase (t q seq : Nat) (s : State) : Host.Outcome State Fault Refusal := s.onDev t (touchRebase q seq)

/-! ### Converters (R287 to R289) -/

/-- Start a converter sequence, for a control cycle or for the trigger unit: starts on one edge of CD-CONV (25 ns) share
one sequence, a start while a sequence runs is missed (R287). -/
def Dev.adcStart (d : Dev) (w : Nat) (cycle : Option Nat) : Dev :=
  let a := d.io.adc
  let miss := fun (d : Dev) => match cycle with
    | some c => d.setCycle c { d.cycle c with capture := (d.cycle c).capture.map fun k => { k with adc := some [] } }
    | none => d
  if !d.clockOn 8 then miss d
  else match a.seq with
    | some s =>
      if s.start / 100 = w / 100 then
        { d with io := { d.io with adc := { a with seq := some { s with serves := s.serves ++ cycle.toList } } } }
      else miss (d.bump R.ADC_STATUS_MISSED)
    | none =>
      ({ d with io := { d.io with adc := { a with seq := some ⟨w, a.cfg, cycle.toList⟩ } } }).put R.ADC_STATUS_BUSY 1

/-- The code of one conversion, held to its range, and whether the input lay beyond it (R288). -/
def adcCode (range : Nat) (v : Int) : Int × Bool :=
  let lo : Int := if range = 0 then -131072 else 0
  let hi : Int := if range = 0 then 131071 else 262143
  (max lo (min hi v), decide (v < lo) || decide (hi < v))

/-- ADC_DATA of a channel from its 2^OVS conversions (R288). -/
def adcData (ch : Nat) (vs : List Int) : Nat :=
  let ovs := bits ch 26 24
  let cs := vs.map (adcCode (bits ch 30 30))
  let sum := (cs.map (·.1)).sum
  let r : Int := if ovs = 0 then sum else (sum + 2 ^ (ovs - 1)) / 2 ^ ovs
  2 ^ 31 + b2n (cs.any (·.2)) * 2 ^ 30 + ofSigned 18 r

/-- Conversions of a sequence: 2^OVS for each enabled channel. -/
def AdcCfg.conversions (c : AdcCfg) : Nat := (c.ch.map fun w => if bit w 31 then 2 ^ bits w 26 24 else 0).sum

/-- A sequence completes (R287, R288): `samples` are the conversions of each channel, in codes, before their range is
applied. -/
def adcDone (samples : List (List Int)) (d : Dev) : Dev :=
  match d.io.adc.seq with
  | none => d
  | some s =>
    if d.wt < s.start + s.cfg.conversions * 500 * qNs || !d.clockOn 8 then d
    else
      let res := s.cfg.ch.zipIdx.map fun x =>
        (x.1, if bit x.1 31 then adcData x.1 ((samples.getD x.2 []).take (2 ^ bits x.1 26 24)) else 0)
      let d := { d with io := { d.io with adc := { d.io.adc with seq := none } } }.put R.ADC_STATUS_BUSY 0
      let t48 := s.start / 4 % 2 ^ 48
      let d := (d.setReg R.ADC_TIME_LO t48).setLatch R.ADC_TIME_HI (t48 / 2 ^ 32)
      let d := res.zipIdx.foldl (fun d x => d.setLatch R.ADC_DATA x.1.2 x.2) d
      s.serves.foldl (fun d c =>
        d.setCycle c { d.cycle c with capture := (d.cycle c).capture.map fun k => { k with adc := some res } }) d

def execAdcSequenceDone (t : Nat) (samples : List (List Int)) (s : State) : Host.Outcome State Fault Refusal :=
  s.onDev t (adcDone samples)

/-- A write of ADC_CTRL (R289). -/
def adcCtrl (v : Word) (d : Dev) : Dev :=
  let n := v.toNat
  let d := d.setReg R.ADC_CTRL (n &&& 0x400F0000)
  if !bit n 31 then d
  else
    let ch := (List.range 16).map fun i => d.reg R.ADC_CH i
    if ch.any fun w => 4 < bits w 26 24 then d.put R.ADC_STATUS_BAD_CONFIG 1
    else { d with io := { d.io with adc := { d.io.adc with cfg := ⟨bit n 30, bits n 19 16, ch⟩ } } }

/-- ADC_CTRL written with APPLY. -/
def adcApply (v : Word) (d : Dev) : Dev := if bit v.toNat 31 then adcCtrl v d else d

def execAdcApply (t : Nat) (v : Word) (s : State) : Host.Outcome State Fault Refusal :=
  s.onDev t (·.gatedM 0x1004000 v (adcApply v))

/-! ### GPIO (R290) -/

/-- FUNCTION, UNIT and FLAGS of a line's PINS entry; a line without one is an input (R52). -/
def Dev.pin (d : Dev) (n : Nat) : Nat × Nat × Nat :=
  match d.img.pins.find? fun p => p.1 == n with
  | some p => p.2
  | none => (0, 0, 0)

/-- Set one bit of GPIO_IN. -/
def Dev.gpioAccept (d : Dev) (n : Nat) (level : Bool) : Dev :=
  { d.setReg R.GPIO_IN (putBits (d.reg R.GPIO_IN) n n (b2n level)) with
    io := { d.io with bounce := tabDel d.io.bounce n } }

/-- Time that a new level must be stable, in quarters of a nanosecond (R290). -/
def Dev.debounce (d : Dev) : Nat :=
  match d.get R.GPIO_DEB_DEB with | 0 => 0 | 1 => 100 * qUs | 2 => qMs | _ => 10 * qMs

/-- A line changes level at the pin: an input of function 0 is debounced. -/
def gpioChange (n : Nat) (level : Bool) (d : Dev) : Dev :=
  if 32 ≤ n then d
  else
    let d := { d with io := { d.io with lines := tabSet d.io.lines false n level } }
    let seen := level != bit (d.pin n).2.2 1
    if (d.pin n).1 ≠ 0 || d.debounce = 0 then d.gpioAccept n seen
    else if bit (d.reg R.GPIO_IN) n = seen then { d with io := { d.io with bounce := tabDel d.io.bounce n } }
    else { d with io := { d.io with bounce := tabPut d.io.bounce n ⟨seen, d.now⟩ } }

def execGpioInputChange (t n : Nat) (level : Bool) (s : State) : Host.Outcome State Fault Refusal :=
  s.onDev t (gpioChange n level)

/-- A new level has been stable for the debounce time. -/
def gpioExpiry (n : Nat) (d : Dev) : Dev :=
  match tabGet? d.io.bounce n with
  | some b => if b.since + d.debounce ≤ d.now then d.gpioAccept n b.level else d
  | none => d

def execGpioDebounceExpiry (t n : Nat) (s : State) : Host.Outcome State Fault Refusal := s.onDev t (gpioExpiry n)

/-- A write of GPIO_OUT drives the lines of function 1; other bits are ignored. -/
def gpioOut (v : Word) (d : Dev) : Dev :=
  (List.range 32).foldl (fun d n =>
    if (d.pin n).1 ≠ 1 then d
    else
      let b := bit v.toNat n
      let d := d.setReg R.GPIO_OUT (putBits (d.reg R.GPIO_OUT) n n (b2n b))
      ({ d with io := { d.io with lines := tabSet d.io.lines false n (b != bit (d.pin n).2.2 1) } }).gpioAccept n b) d

def execGpioOutWrite (t : Nat) (v : Word) (s : State) : Host.Outcome State Fault Refusal :=
  s.onDev t (·.gatedM 0x1006004 v (gpioOut v))

/-! ### Launch-timed frames (R80, R293) -/

/-- A copy of a command frame dropped by R80: counted, one event for the first after a copy sent on time (R293). -/
def Dev.ccLate (d : Dev) (l : Launch) : Dev :=
  match l.cycle with
  | none => d
  | some x =>
    let c := x / 2
    let k := d.cycle c
    let d := (d.bump R.CC_LATE_COUNT c).put R.CC_STATUS_LATE 1 c
    (if k.late then d else d.info .ccDropped (0x8030 + c) x).setCycle c { k with late := true }

/-- The launch queue of a port. -/
def Dev.launches (d : Dev) (p : Nat) : List Launch := tabGetD d.time.launch [] p

/-- Set the launch queue of a port. -/
def Dev.setLaunches (d : Dev) (p : Nat) (ls : List Launch) : Dev :=
  { d with time := { d.time with launch := tabSet d.time.launch [] p ls } }

/-- Drop the frames that reach the head of the queue when their launch time is not later than working time. -/
def Dev.dropLate : Nat → Dev → Nat → Dev
  | 0, d, _ => d
  | n + 1, d, p =>
    match d.launches p with
    | l :: r =>
      if later 48 l.at48 d.wt48 then d
      else Dev.dropLate n (((d.setLaunches p r).bump R.LAUNCH_LATE_COUNT p).ccLate l) p
    | [] => d

/-- Submit a frame to a MAC (R80). -/
def Dev.launch (d : Dev) (p : Nat) (l : Launch) : Dev :=
  if (1000000000 : Int) < sdiff 48 l.at48 d.wt48 then (d.bump R.LAUNCH_FAR_COUNT p).ccLate l
  else
    let ls := d.launches p
    let d := d.setLaunches p (ls ++ [l])
    if ls.isEmpty then d.dropLate 1 p else d

/-- LAUNCH_FRAME_SUBMIT: a frame with a launch time is handed to the MAC of port `p`; `gated` frames leave only while OWNS
is high (R358). -/
def launchSubmit (p at48 : Nat) (bytes : List Byte) (gated : Bool) (d : Dev) : Dev :=
  if 4 ≤ p then d else d.launch p ⟨at48 % 2 ^ 48, bytes, gated, none⟩

def execLaunchFrameSubmit (t p at48 : Nat) (bytes : List Byte) (gated : Bool) (s : State) :
    Host.Outcome State Fault Refusal := s.onDev t (launchSubmit p at48 bytes gated)

/-- Whether an Ethernet port can send. -/
def Dev.portUp (d : Dev) (p : Nat) : Bool := d.on R.ETH_CTRL_ENABLE p && d.on R.ETH_STATUS_LINK p && d.clockAt 1 p

/-- A frame leaves the MAC at its launch time, or its copy is gated or finds the port down (R293). -/
def Dev.leave (d : Dev) (p : Nat) (l : Launch) : Dev :=
  if !d.portUp p then
    match l.cycle with | some x => d.bump R.CC_PORT_DOWN_COUNT (x / 2) | none => d
  else if l.gated && !d.on R.PAIR_STATUS_OWNS then
    match l.cycle with | some x => d.bump R.CC_GATED_COUNT (x / 2) | none => d
  else
    let d := { d with time := { d.time with sent := (p, l.bytes) :: d.time.sent } }
    match l.cycle with
    | some x =>
      (if x % 2 = 0 then d.bump R.CC_SENT_A_COUNT (x / 2) else d.bump R.CC_SENT_B_COUNT (x / 2)).setCycle (x / 2)
        { d.cycle (x / 2) with late := false }
    | none => d

/-- LAUNCH_TIME_REACHED: working time has reached the launch time at the head of a port's queue. -/
def launchReached (p : Nat) (d : Dev) : Dev :=
  match d.launches p with
  | l :: r => if later 48 l.at48 d.wt48 then d else ((d.setLaunches p r).leave p l).dropLate r.length p
  | [] => d

def execLaunchTimeReached (t p : Nat) (s : State) : Host.Outcome State Fault Refusal := s.onDev t (launchReached p)

/-! ### Control cycles (R291 to R297) -/

/-- Whether a control cycle holds a trigger unit (R291). -/
def Dev.trigHeld (d : Dev) (u : Nat) : Bool := d.io.cycles.any fun c => c.2.running && c.2.unit == u

/-- A write of TRIG_CTRL with APPLY. -/
def trigApply (u : Nat) (v : Word) (d : Dev) : Dev := if bit v.toNat 31 then trigWrite u v (d.trigHeld u) d else d

def execTrigApply (t u : Nat) (v : Word) (s : State) : Host.Outcome State Fault Refusal :=
  s.onDev t (·.gated 0x301000 (trigApply u v))

/-- The touch state of a port as a cycle captures it at `ts`, quarter nanoseconds of working time (R292, R294, R295). -/
def Dev.ccTouch (d : Dev) (c p : Nat) (ts : Int) : CcTouch :=
  let st := d.touch p
  let valid := d.on R.TCH_STATUS_VALID p
  match (if valid then st.rel else none) with
  | none => ⟨valid, d.touchState p, st.cfg.mode, 0, [], false⟩
  | some r =>
    let k := d.cycle c
    let ended := tabGetD k.ended [] p
    ⟨true, d.touchState p, st.cfg.mode, ((ts - r.instant + (qUs - 1 : Nat)) / (qUs : Nat)).toNat,
      touchEntries r.live ended (fun l => decide (k.prevTs < l.shown.getD 0)),
      r.overflow || decide (10 < r.live.length + ended.length)⟩

/-- The capture of a control cycle at its sample instant (R292). -/
def Dev.ccCapture (d : Dev) (c ts : Nat) : Dev :=
  let k := d.cycle c
  let full : Int := (d.wt / 4 : Nat) - sdiff 48 d.wt48 ts
  let lk := (ts + k.lead * 1000) % 2 ^ 48
  let n := sdiff 48 lk k.anchor / (k.period * 1000 : Nat)
  let st := d.wtState
  let synced := st == wtFollowing || st == wtOffsetHold
  let cap : CcCapture := {
    k := ofSigned 32 n, ts := ts, lk := lk, synced := synced, holdover := st == wtNoPtp
    trustExpired := d.on R.WT_STATUS_TRUST_EXPIRED, dom := d.get R.WT_STATUS_FOLLOWS - 1
    ptp := if synced then short48 (full * 4 - d.wtOffset) else 0
    gpio := d.reg R.GPIO_IN, touch := [d.ccTouch c 0 (full * 4), d.ccTouch c 1 (full * 4)], adc := none }
  let next := (lk + k.period * 1000) % 2 ^ 48
  let d := d.setCycle c { k with capture := some cap, prevTs := (full * 4).toNat, ended := [] }
  ((d.setReg R.CC_NEXT_LO next c).setLatch R.CC_NEXT_HI (next / 2 ^ 32) c).adcStart (full * 4).toNat (some c)

/-- A trigger unit fires (R88): its pulse starts, its consumers take the event, its next event is scheduled. -/
def triggerEvent (u : Nat) (d : Dev) : Dev :=
  let g := d.trig u
  if 16 ≤ u || !g.armed || d.wtState = wtUnset || later 48 g.next d.wt48 then d
  else
    let ts := g.next
    let pin := d.img.pins.any fun p => p.2.1 == 3 && p.2.2.1 == u
    let d := (d.setTrig u { g with
      armed := g.periodic, next := (g.next + g.period) % 2 ^ 48, pulse := g.pulse || pin }).bumpWrap R.TRIG_STATUS_FIRES u
    let d := (List.range 4).foldl (fun d c =>
      if (d.cycle c).running && (d.cycle c).unit = u then d.ccCapture c ts else d) d
    if d.io.adc.cfg.trigEn && d.io.adc.cfg.unit = u then
      d.adcStart (((d.wt / 4 : Nat) - sdiff 48 d.wt48 ts) * 4).toNat none
    else d

def execTriggerEvent (t u : Nat) (s : State) : Host.Outcome State Fault Refusal := s.onDev t (triggerEvent u)

/-- Replace the bytes from `off` on. -/
def patch (bs : List Byte) (off : Nat) (new : List Byte) : List Byte :=
  bs.take off ++ new ++ bs.drop (off + new.length)

/-- Ones' complement sum of 16-bit big-endian words. -/
def sum16 : List Byte → Nat
  | a :: b :: r => let s := a.toNat * 256 + b.toNat + sum16 r; s % 65536 + s / 65536
  | [a] => a.toNat * 256
  | [] => 0

/-- Bytes of the Ethernet header of a template: 14, or 18 with an 802.1Q tag. -/
def l2Len (h : List Byte) : Nat := if beAt h 12 2 = 0x8100 then 18 else 14

/-- A header template without the zero fill, if its length and its fill are as R297 states. -/
def template (b : List Byte) : List Byte := (b.drop 2).take (leAt b 0 2)

/-- Whether a template follows R296. -/
def templateOk (b : List Byte) : Bool :=
  let h := template b
  let l := l2Len h
  let t := beAt h (l - 2) 2
  zeroAt b (2 + leAt b 0 2) 80 &&
    ((t == 0x0800 && h.length == l + 28 && beAt h l 1 == 0x45 && beAt h (l + 9) 1 == 17) ||
     (t == 0x86DD && h.length == l + 48 && beAt h l 1 / 16 == 6 && beAt h (l + 6) 1 == 17))

/-- A frame from its template and payload (R296): lengths, IPv4 header checksum and UDP checksum filled in. -/
def frameBytes (h payload : List Byte) : List Byte :=
  let l := l2Len h
  let ulen := 8 + payload.length
  let v4 := beAt h (l - 2) 2 == 0x0800
  let u := l + if v4 then 20 else 40
  let h :=
    if v4 then
      let h := patch (patch (patch h (l + 2) (beBytes 2 (20 + ulen))) (l + 4) [0, 0]) (l + 10) [0, 0]
      patch h (l + 10) (beBytes 2 (65535 - sum16 ((h.drop l).take 20)))
    else patch h (l + 4) (beBytes 2 ulen)
  let h := patch (patch h (u + 4) (beBytes 2 ulen)) (u + 6) [0, 0]
  let addrs := if v4 then (h.drop (l + 12)).take 8 else (h.drop (l + 8)).take 32
  let s := 65535 - sum16 (addrs ++ beBytes 2 17 ++ beBytes 2 ulen ++ h.drop u ++ payload)
  patch h (u + 6) (beBytes 2 (if s = 0 then 65535 else s)) ++ payload

/-- The postmark of a command frame (R294). -/
def CcCapture.postmark (x : CcCapture) : Postmark :=
  if x.synced then ⟨x.ts, x.dom, 0, 0⟩
  else if x.holdover then ⟨x.ts, 2, if x.trustExpired then 1 else 0, pmHoldover ||| (if x.trustExpired then pmDowngraded else 0)⟩
  else ⟨x.ts, 2, 1, 0⟩

/-- One channel's 4 bytes (R294). -/
def channelBytes (valid : Bool) (x : Nat × Nat) : List Byte :=
  let (ch, data) := x
  let on := bit ch 31
  let ok := on && valid
  let code := bits data 17 0
  let v := if bits ch 30 30 = 0 then ofSigned 24 (toSigned 18 code) else code
  BitVec.ofNat 8 (b2n on * 128 + b2n (ok && bit data 30) * 64 + bits ch 30 30 * 16 + bits ch 26 24) ::
    beBytes 3 (if ok then v else 0)

/-- One touch port's 88 bytes (R294). -/
def portBytes (x : CcTouch) : List Byte :=
  [BitVec.ofNat 8 x.entries.length, BitVec.ofNat 8 x.state, BitVec.ofNat 8 x.mode, 0] ++ beBytes 4 x.age ++
    ((List.range 10).flatMap fun i =>
      match x.entries[i]? with
      | some e => [BitVec.ofNat 8 e.id, BitVec.ofNat 8 e.event] ++ beBytes 2 e.x ++ beBytes 2 e.y ++ beBytes 2 e.z
      | none => List.replicate 8 0)

/-- The 284-byte payload of a command frame (R294). -/
def Dev.ccPayload (d : Dev) (c : Nat) (k : Cycle) (x : CcCapture) : List Byte :=
  let adc := x.adc.getD []
  let valid := !adc.isEmpty
  let chs := if valid then adc else d.io.adc.cfg.ch.map fun w => (w, 0)
  let overflow := x.touch.any (·.overflow)
  let flags := b2n x.synced * 128 + b2n x.holdover * 64 + b2n ((x.touch.map (·.valid)).getD 0 false) * 32 +
    b2n ((x.touch.map (·.valid)).getD 1 false) * 16 + b2n valid * 8 + b2n d.pwr.logicOn * 4 + b2n overflow * 2 +
    b2n (valid && chs.any fun w => bit w.1 31 && bit w.2 30)
  let dom := if x.synced then (if x.dom = 0 then d.img.tb0Domain else d.img.tb1Domain) else 0
  let changed := match k.gpioLast with | some g => x.gpio ^^^ g | none => 0
  let b := [0x5A, 0x43, 0x46, 0x31, 1, BitVec.ofNat 8 c] ++ beBytes 2 d.moduleId ++ beBytes 4 x.k ++
    [BitVec.ofNat 8 flags, BitVec.ofNat 8 dom, 0, 0] ++ beBytes 8 x.postmark.word ++ beBytes 6 x.ptp ++ [0, 0] ++
    beBytes 4 x.gpio ++ beBytes 4 changed ++ chs.flatMap (channelBytes valid) ++ x.touch.flatMap portBytes
  b ++ beBytes 4 (crcOf 1 b)

/-- COMMAND_FRAME_BUILT (R292, R293): the frame is built from the capture and handed to the MACs. -/
def frameBuilt (c : Nat) (d : Dev) : Dev :=
  let k := d.cycle c
  match k.capture with
  | none => d
  | some x =>
    if !k.running || x.adc.isNone then d
    else
      let pl := d.ccPayload c k x
      let d := d.setCycle c { k with capture := none, built := k.built + 1, gpioLast := some x.gpio }
      let d := d.put R.CC_STATUS_FRAMES (k.built + 1) c
      let d := d.launch k.a ⟨(x.lk + k.offA * 1000) % 2 ^ 48, frameBytes k.hdrA pl, true, some (2 * c)⟩
      if k.portB then d.launch k.b ⟨(x.lk + k.offB * 1000) % 2 ^ 48, frameBytes k.hdrB pl, true, some (2 * c + 1)⟩ else d

def execCommandFrameBuilt (t c : Nat) (s : State) : Host.Outcome State Fault Refusal := s.onDev t (frameBuilt c)

/-- The first field of a CC_SETUP block that is out of range, by byte offset (R297). -/
def ccBadField (b : List Byte) : Option Nat :=
  let n := leAt b
  let period := n 4 4
  let two := bit (n 2 1) 0
  firstBad [
    (n 0 1 ≤ 3, 0), (n 1 1 ≤ 15, 1), (n 2 1 ≤ 1, 2),
    (bits (n 3 1) 3 2 == 0 && bits (n 3 1) 7 6 == 0 && (!two || bits (n 3 1) 1 0 != bits (n 3 1) 5 4), 3),
    (1000 ≤ period && period ≤ 100000, 4),
    (250 ≤ n 8 4 && n 8 4 ≤ 10000 && n 8 4 < period, 8),
    (n 18 1 == 0, 18), (n 19 1 == 0, 19),
    (n 20 4 ≤ 50000 && n 20 4 < period, 20), (n 24 4 ≤ 50000 && n 24 4 < period, 24),
    (n 28 4 == 0, 28), (42 ≤ n 32 2 && n 32 2 ≤ 66, 32),
    (if two then 42 ≤ n 112 2 && n 112 2 ≤ 66 else zeroAt b 112 80, 112)]

/-- CC_SETUP after its block has been read (R291, R297). -/
def ccSetupBlock (q seq : Nat) (b : List Byte) (d : Dev) : Dev :=
  let n := leAt b
  let c := n 0 1
  let u := n 1 1
  let two := bit (n 2 1) 0
  let ha := (b.drop 32).take 80
  let hb := (b.drop 112).take 80
  if c ≤ 3 && (d.cycle c).running then d.reject q seq 0x1001
  else if n 4 4 = 0 then d.finish q seq Status.zeroRejected 4
  else match ccBadField b with
    | some off => d.finish q seq Status.rejected 0x1002 off
    | none =>
      if !templateOk ha || (two && !templateOk hb) then d.reject q seq 0x1003
      else if (d.trig u).armed || d.trigHeld u then d.reject q seq 0x1004
      else if d.wtState = wtUnset then d.reject q seq 0x1005
      else
        let period := n 4 4
        let anchor := n 12 6
        let at48 := (anchor + 2 ^ 48 - n 8 4 * 1000) % 2 ^ 48
        let first := firstPeriodic d.wt48 at48 (period * 1000)
        let lk := (first + n 8 4 * 1000) % 2 ^ 48
        let d := (((d.setReg R.TRIG_AT_LO at48 u).setReg R.TRIG_AT_HI (at48 / 2 ^ 32) u).setReg R.TRIG_PERIOD_M1
          (period * 1000 - 1) u).setReg R.TRIG_CTRL 0x50000000 u
        let d := d.setTrig u { d.trig u with armed := true, periodic := true, next := first, period := period * 1000, width := 8 }
        let d := d.setCycle c { Cycle.init with
          running := true, unit := u, portB := two, a := bits (n 3 1) 1 0, b := bits (n 3 1) 5 4, period := period
          lead := n 8 4, anchor := anchor, offA := n 20 4, offB := n 24 4, hdrA := template ha, hdrB := template hb
          prevTs := d.wt }
        let d := (d.setReg R.CC_STATUS (2 ^ 31 + u * 2 ^ 16 + bits (d.reg R.CC_STATUS c) 30 30 * 2 ^ 30) c)
        let d := ((d.setReg R.CC_PERIOD period c).setReg R.CC_LEAD (n 8 4) c).setReg R.CC_NEXT_LO lk c
        (d.setLatch R.CC_NEXT_HI (lk / 2 ^ 32) c).succeed q seq lk

/-- CC_SETUP (R297). -/
def ccSetup (q seq : Nat) (d : Dev) : Dev :=
  d.onCmd q seq 0x1000 fun c d => d.withTail q seq c 8 fun d => d.withHost q seq c fun bs d => ccSetupBlock q seq (bs.take 192) d

def execCcSetup (t q seq : Nat) (s : State) : Host.Outcome State Fault Refusal := s.onDev t (ccSetup q seq)

/-- CC_STOP (R297): the unit is disabled and released; copies at the MAC are still launched. -/
def ccStop (q seq : Nat) (d : Dev) : Dev :=
  d.onCmd q seq 0x1001 fun c d => d.withTail q seq c 1 fun d =>
    let n := c.p 0 1
    let k := d.cycle n
    if 4 ≤ n then d.bad q seq 0
    else if !k.running then d.succeed q seq 0
    else
      let d := (d.setTrig k.unit { d.trig k.unit with armed := false }).put R.TRIG_CTRL_ENABLE 0 k.unit
      let d := (d.setCycle n { Cycle.init with late := k.late }).put R.CC_STATUS_RUNNING 0 n
      d.succeed q seq k.built

def execCcStop (t q seq : Nat) (s : State) : Host.Outcome State Fault Refusal := s.onDev t (ccStop q seq)

end Sys2Proof.Machine
end

