-- ==== Sys2Proof/Machine/Pair.lean ====
section
/-! DEFINITION. The redundant pair (17): states, the interlock line, handover instants, heartbeats, revert, and the pair
registers. The mirror's records are in Mirror. -/

namespace Sys2Proof.Machine

/-- The pair agent. -/
def pairAgent : Nat := 0x9FFF

/-- A module is PAIRED when a Paent port has ROLE 5 (R340). -/
def Dev.paired (d : Dev) : Bool := d.img.paent.any fun e => e.2.1 == 5

/-! ### The interlock line (R342 to R344) -/

/-- Reading of the line: NONE 0, ONE 1, TWO 2, SPLIT 3 (R342). -/
def Dev.ilLevel (d : Dev) : Nat := if d.pair.il1 = d.pair.il2 then d.pair.il1 else 3

/-- IL_LEVEL and OWNS follow the line and the claim (R343). -/
def Dev.ilShow (d : Dev) : Dev :=
  (d.put R.PAIR_STATUS_IL_LEVEL d.ilLevel).put R.PAIR_STATUS_OWNS (b2n (d.on R.PAIR_STATUS_CLAIM && d.ilLevel == 1))

/-- The unit starts or ends its claim; OWNS falls with it (R343). -/
def Dev.setClaim (d : Dev) (on : Bool) : Dev :=
  ((d.put R.PAIR_STATUS_CLAIM (b2n on)).setPair { d.pair with claimAt := d.now, contAt := none }).ilShow

/-- A claim becomes due (R341, R350), unless one is, or the unit is barred from claiming (R344). A planned one takes the
place of one that is not. -/
def Dev.planClaim (d : Dev) (from' : Nat) (planned : Bool) (why : Nat) : Dev :=
  let take := match d.pair.plan with
    | some p => planned && !p.planned
    | none => true
  if d.pair.barred || !take then d
  else d.setPair { d.pair with plan := some ⟨from', planned, why⟩, failAt := none }

/-- The unit enters SEEKING. -/
def Dev.seek (d : Dev) (barred : Bool) : Dev :=
  let d := (d.put R.PAIR_STATUS_STATE prSeeking).put R.PAIR_STATUS_IN_SYNC 0
  d.setPair { d.pair with seekAt := d.now, barred := barred, plan := none, failAt := none, release := none }

/-- An interlock fault (R341, R357): the unit withdraws; one recorder event with the cause. -/
def Dev.pairFault (d : Dev) (cause : Nat) : Dev :=
  if d.pst = prOff || d.pst = prSolo || d.pst = prFailed || d.pst = prFault then d
  else
    let d := (d.setClaim false).put R.PAIR_STATUS_FAULT cause
    let d := (d.put R.PAIR_STATUS_STATE prFault).put R.PAIR_STATUS_IN_SYNC 0
    (d.setPair { d.pair with plan := none, failAt := none, release := none, wtrFrom := none }).wtrBit.info .pairFault
      pairAgent cause

/-- Completions that wait for the standby are written, in order, by a unit that acknowledges alone (R353, R354, R429). -/
def Dev.ackAlone (d : Dev) : Dev :=
  let d := d.put R.PAIR_STATUS_IN_SYNC 0
  (List.range 16).foldl (fun d q =>
    (d.setCmds q ((d.queue q).cmds.map fun c => { c with awaiting := false })).flushQueue q) d

/-- IN_SYNC of an ACTIVE unit follows the partner's state (R353). -/
def Dev.syncBit (d : Dev) : Dev :=
  if d.pst ≠ prActive then d
  else
    let now := d.get R.PAIR_HB_PARTNER_STATE == prStandby && (d.on R.PAIR_HB_PAENT_OK || d.on R.PAIR_HB_WIRE_OK)
    if now then d.put R.PAIR_STATUS_IN_SYNC 1
    else if d.on R.PAIR_STATUS_IN_SYNC then d.ackAlone else d

/-- A claiming unit reads ONE and becomes ACTIVE (R346, R350, R355): touch ports re-baseline, held completions and records
are written, and the takeover or handover is counted and recorded. -/
def Dev.takeOver (d : Dev) : Dev :=
  if d.pst = prSolo || d.pst = prFailed || d.pst = prActive || d.pst = prOff then d
  else
    let first := d.pst == prSeeking
    let plan := d.pair.plan.getD ⟨0, false, 0⟩
    let d := ((d.put R.PAIR_STATUS_STATE prActive).put R.PAIR_STATUS_IN_SYNC 0).put R.PAIR_STATUS_PARTNER_HOLDS 0
    let d := (d.put R.PAIR_STATUS_FAULT 0).setPair { d.pair with
      plan := none, failAt := none, release := none, wtrFrom := none, sent := 0, acked := 0, confirmed := [], notices := []
      recNotices := [], expects := [], readies := [], ahead := [], gapAt := none }
    let d := d.wtrBit
    let d := if first then d else
      (List.range 2).foldl (fun d p => if d.on R.TCH_CTRL_ENABLE p then d.touchRebaseDue p else d) d
    let d := (List.range 17).foldl (fun d q => d.flushQueue q) d.ackAlone
    if first then d
    else if plan.planned then (d.bump R.PAIR_HANDOVERS_COUNT).info .handover pairAgent plan.why
    else (d.bump R.PAIR_TAKEOVERS_COUNT).info .takeover pairAgent plan.why

/-- INTERLOCK_LEVEL_CHANGE (R342 to R344): IL_1 and IL_2 classify. -/
def levelChange (il1 il2 : Nat) (d : Dev) : Dev :=
  if 2 < il1 || 2 < il2 then d
  else
    let was := d.ilLevel
    let d := d.setPair { d.pair with il1 := il1, il2 := il2 }
    let d := if d.ilLevel = was then d else d.setPair { d.pair with levelAt := d.now }
    let d := d.ilShow
    if !d.on R.PAIR_STATUS_CLAIM then d
    else if d.ilLevel = 1 then (d.setPair { d.pair with contAt := none }).takeOver
    else if d.ilLevel = 2 then
      if d.on R.PAIR_STATUS_PREFERRED then d.setPair { d.pair with contAt := some (d.pair.contAt.getD d.now) }
      else
        let d := d.setClaim false
        if d.pst = prActive || d.pst = prSeeking then d.ackAlone.seek true
        else d.setPair { d.pair with barred := true, plan := none, failAt := none }
    else d.setPair { d.pair with contAt := none }

def execInterlockLevelChange (t il1 il2 : Nat) (s : State) : Host.Outcome State Fault Refusal :=
  s.onDev t (levelChange il1 il2)

/-- CONTENTION_TIMEOUT (R344): TWO has persisted for 10 ms at a PREFERRED claimer. -/
def contentionTimeout (d : Dev) : Dev :=
  match d.pair.contAt with
  | some a =>
    if d.on R.PAIR_STATUS_CLAIM && d.ilLevel = 2 && d.on R.PAIR_STATUS_PREFERRED && a + 10 * qMs ≤ d.now then d.pairFault 4
    else d
  | none => d

def execContentionTimeout (t : Nat) (s : State) : Host.Outcome State Fault Refusal := s.onDev t contentionTimeout

/-- The interlock fault that the line shows (R357), 0 for none. The partner's claim is read from a heartbeat that came
after the line's last change (log 45). -/
def Dev.ilFault (d : Dev) : Nat :=
  let since := max d.pair.levelAt d.pair.claimAt
  let held := decide (since + 10 * qUs ≤ d.now)
  let heard := (d.pair.paent.map (·.1)).getD 0
  let heard := max heard ((d.pair.wire.map (·.1)).getD 0)
  let claim := d.on R.PAIR_STATUS_CLAIM
  if claim && d.ilLevel = 0 && held then 1
  else if !claim && !d.on R.PAIR_HB_PARTNER_CLAIM && (d.ilLevel = 1 || d.ilLevel = 2) && held && decide (since ≤ heard) &&
      decide (0 < heard) then 2
  else if d.ilLevel = 3 && decide (d.pair.levelAt + 10 * qUs ≤ d.now) then 3
  else 0

/-- INTERLOCK_FAULT (R357). -/
def interlockFault (d : Dev) : Dev := if d.ilFault = 0 then d else d.pairFault d.ilFault

def execInterlockFault (t : Nat) (s : State) : Host.Outcome State Fault Refusal := s.onDev t interlockFault

/-! ### Handover instants (R345, R346) -/

/-- The release of a planned handover, 2 µs before its instant (R346): an ACTIVE unit becomes STANDBY, a FAILED one stays
FAILED. -/
def Dev.releaseDue (d : Dev) : Dev :=
  match d.pair.release with
  | some h =>
    if d.wt + 2 * qUs < h then d
    else
      let d := (d.setClaim false).setPair { d.pair with release := none, next := 0, ahead := [], gapAt := none, notices := [] }
      if d.pst = prActive then d.enterStandby else d
  | none => d

/-- A claim that is due starts 1 µs before a handover instant, when the line reads NONE (R344, R346). -/
def Dev.claimDue (d : Dev) : Dev :=
  match d.pair.plan with
  | some p =>
    let h := d.handover (max p.from_ d.wt)
    if d.on R.PAIR_STATUS_CLAIM || h < d.wt || d.wt + qUs < h then d
    else if d.ilLevel = 0 then (d.setClaim true).setPair { (d.setClaim true).pair with failAt := none }
    else
      let d := if d.ilLevel = 1 then d.put R.PAIR_STATUS_PARTNER_HOLDS 1 else d
      d.setPair { d.pair with failAt := some (d.pair.failAt.getD d.now) }
  | none => d

/-- PAIR_HANDOVER_INSTANT (R346, R350): a unit releases, starts its claim, or has become the owner. -/
def handoverInstant (d : Dev) : Dev :=
  let d := d.releaseDue.claimDue
  if d.on R.PAIR_STATUS_CLAIM && d.ilLevel = 1 then d.takeOver else d

def execPairHandoverInstant (t : Nat) (s : State) : Host.Outcome State Fault Refusal := s.onDev t handoverInstant

/-- HANDOVER_RETRY_TIMEOUT (R346): the line did not let a claim start for 10 ms. -/
def retryTimeout (d : Dev) : Dev :=
  match d.pair.failAt with
  | some a => if !d.on R.PAIR_STATUS_CLAIM && a + 10 * qMs ≤ d.now then d.pairFault 2 else d
  | none => d

def execHandoverRetryTimeout (t : Nat) (s : State) : Host.Outcome State Fault Refusal := s.onDev t retryTimeout

/-- PHASE has reached RUNNING (R341): a SOLO module claims, a PAIRED one listens. -/
def Dev.pairRun (d : Dev) : Dev :=
  if d.pst ≠ prOff then d
  else if d.paired then d.seek false
  else (d.put R.PAIR_STATUS_STATE prSolo).planClaim (d.wt + qUs) false 0

/-- PAIR_SEEK_TIMEOUT (R341, R344): 100 ms without a heartbeat of an ACTIVE partner. -/
def seekTimeout (d : Dev) : Dev :=
  if d.pst ≠ prSeeking || d.now < d.pair.seekAt + 100 * qMs then d
  else if d.ilLevel = 0 then d.planClaim (d.wt + qUs) false 0
  else if d.ilLevel = 1 then d.put R.PAIR_STATUS_PARTNER_HOLDS 1
  else d

def execPairSeekTimeout (t : Nat) (s : State) : Host.Outcome State Fault Refusal := s.onDev t seekTimeout

/-! ### Heartbeats (R347 to R350) -/

/-- What this unit's heartbeat says. RELINQUISH is never set: the manual names no unit that sets it (log 46). -/
def Dev.heartbeat (d : Dev) : Heartbeat :=
  ⟨d.moduleId, d.pst, d.on R.PAIR_STATUS_PREFERRED, d.on R.PAIR_STATUS_CLAIM, d.on R.PAIR_STATUS_IN_SYNC, false,
    d.pair.release.getD 0⟩

/-- A number as bytes, most significant first. -/
def beNat : Nat → Nat → List Byte
  | 0, _ => []
  | n + 1, v => BitVec.ofNat 8 (v / 256 ^ n % 256) :: beNat n v

/-- The wire frame of a heartbeat, six bytes (R348). -/
def wireFrame (b : Heartbeat) (count : Nat) : List Byte :=
  let head := b.state % 8 * 32 + b2n b.preferred * 16 + b2n b.claim * 8 + b2n b.inSync * 4 + b2n b.relinquish * 2
  let body := BitVec.ofNat 8 head :: (beNat 2 (b.module % 512 * 128) ++ [BitVec.ofNat 8 count])
  BitVec.ofNat 8 0xD5 :: (body ++ [BitVec.ofNat 8 (crcOf 3 body)])

/-- Time, servo and selector state of a mirror record (R351). -/
def Dev.timeTerms (d : Dev) : List Int :=
  [(d.reg R.WT_STATUS : Int), signedWord (d.reg R.WT_RATE), signedWord (d.reg R.PAENT_TIME_OFFSET), d.reg R.REFSEL_STATUS,
    d.time.freq, d.time.phase, d.time.tb0.rate, d.time.tb1.rate] ++
    (List.range 12).map fun r => (d.get R.REF_STATUS_QUALIFIED r : Int)

/-- HEARTBEAT_SEND (R347, R348): the envelope every 500 µs, or the wire frame every 100 µs, while PHASE is RUNNING and the
CD-TIME clock is present. Every 100 ms time and selector state go to the mirror (R351). -/
def heartbeatSend (wire : Bool) (d : Dev) : Dev :=
  if d.phase ≠ phaseRunning || !d.clockOn 0 || !d.paired || d.pst = prOff then d
  else
    let b := d.heartbeat
    let d := if d.pair.timesAt + 100 * qMs ≤ d.now then
        (d.setPair { d.pair with timesAt := d.now }).mirror (.times d.timeTerms)
      else d
    if wire && d.underTest 6 then d
    else if wire then
      d.setPair { d.pair with
        wireSent := wireFrame { b with planned := 0 } d.pair.wireCount, wireCount := (d.pair.wireCount + 1) % 256 }
    else
      let dest := match (List.range 4).find? fun p => d.paentRole p == 5 && d.inRouting p with
        | some p => d.get R.PNT_PSTATUS_NEIGHBOUR p
        | none => d.get R.PAIR_HB_PARTNER_MODULE
      (d.setPair { d.pair with hbSent := some b }).routeEnv 4 ⟨d.ownEnv 0 1 dest, none, false, none⟩

def execHeartbeatSend (t : Nat) (wire : Bool) (s : State) : Host.Outcome State Fault Refusal := s.onDev t (heartbeatSend wire)

/-- A path is heard: its alarm clears, with one event, and a path that stays silent beside it has its own (R349). -/
def Dev.pathHeard (d : Dev) (wire : Bool) : Dev :=
  let back := !d.on (if wire then R.PAIR_HB_WIRE_OK else R.PAIR_HB_PAENT_OK)
  let d := if wire then d.setPair { d.pair with wire := some (d.now, d.pair.detect) }
    else d.setPair { d.pair with paent := some (d.now, d.pair.detect) }
  let ok := if wire then R.PAIR_HB_WIRE_OK else R.PAIR_HB_PAENT_OK
  let alarm := if wire then R.PAIR_HB_WIRE_ALARM else R.PAIR_HB_PAENT_ALARM
  let d := d.put ok 1
  let d := if d.on alarm then (d.put alarm 0).info .pairAlarm pairAgent (b2n wire) 0 else d
  let otherOk := if wire then R.PAIR_HB_PAENT_OK else R.PAIR_HB_WIRE_OK
  let otherAlarm := if wire then R.PAIR_HB_PAENT_ALARM else R.PAIR_HB_WIRE_ALARM
  let known := if wire then d.pair.paent.isSome else d.pair.wire.isSome
  if back && known && !d.on otherOk && !d.on otherAlarm then
    (d.put otherAlarm 1).info .pairAlarm pairAgent (b2n !wire) 1
  else d

/-- What a heartbeat makes this unit do (R341, R344, R350, R357). -/
def Dev.heed (d : Dev) (b : Heartbeat) : Dev :=
  let d := (d.put R.PAIR_HB_PARTNER_STATE b.state).put R.PAIR_HB_PARTNER_PREFERRED (b2n b.preferred)
  let d := (d.put R.PAIR_HB_PARTNER_CLAIM (b2n b.claim)).put R.PAIR_HB_PARTNER_MODULE b.module
  let d := d.setPair { d.pair with barred := false }
  if d.pst ≠ prOff && d.pst ≠ prSolo && b.preferred == d.on R.PAIR_STATUS_PREFERRED then d.pairFault 5
  else if d.pst = prSeeking && b.state = prActive then
    let d := d.put R.PAIR_STATUS_STATE prSyncing
    let d := d.setPair { d.pair with
      plan := none, failAt := none, snapDone := false, ackAt := none, groupsOk := [], theirs := [], next := 0, ahead := []
      gapAt := none }
    d.reply .snapshotRequest
  else if d.pst = prStandby then
    if b.planned ≠ 0 then d.planClaim b.planned true 3
    else if b.relinquish then d.planClaim (d.wt + 10 * qUs) false 2
    else if b.state = prFailed then d.planClaim (d.wt + 10 * qUs) false 4
    else d
  else d.syncBit

/-- HEARTBEAT_RECEIVED (R347). -/
def heartbeatReceived (b : Heartbeat) (d : Dev) : Dev :=
  let d := d.takeInbox 1
  if !d.paired || d.phase ≠ phaseRunning then d else (d.pathHeard false).heed b

def execHeartbeatReceived (t : Nat) (b : Heartbeat) (s : State) : Host.Outcome State Fault Refusal :=
  s.onDev t (heartbeatReceived b)

/-- HEARTBEAT_WIRE_FRAME (R348): discarded and counted for a bad CRC. -/
def wireReceived (frame : List Byte) (d : Dev) : Dev :=
  if !d.paired || d.phase ≠ phaseRunning || frame.length ≠ 6 || leAt frame 0 1 ≠ 0xD5 then d
  else if crcOf 3 ((frame.drop 1).take 4) ≠ leAt frame 5 1 then d.bump R.PAIR_WIRE_BAD_COUNT
  else
    let k := leAt frame 1 1
    let m := (leAt frame 2 1 * 256 + leAt frame 3 1) / 128
    (d.pathHeard true).heed ⟨m, k / 32, bit k 4, bit k 3, bit k 2, bit k 1, 0⟩

def execHeartbeatWireFrame (t : Nat) (frame : List Byte) (s : State) : Host.Outcome State Fault Refusal :=
  s.onDev t (wireReceived frame)

/-- HEARTBEAT_PATH_SILENT (R349, R350): no valid heartbeat for DETECT on a path; with both silent the partner is lost. -/
def pathSilent (wire : Bool) (d : Dev) : Dev :=
  let ok := if wire then R.PAIR_HB_WIRE_OK else R.PAIR_HB_PAENT_OK
  let other := if wire then R.PAIR_HB_PAENT_OK else R.PAIR_HB_WIRE_OK
  match if wire then d.pair.wire else d.pair.paent with
  | some (a, n) =>
    if !d.on ok || d.now < a + n * 100 * qUs then d
    else
      let d := d.put ok 0
      if d.on other then
        (d.put (if wire then R.PAIR_HB_WIRE_ALARM else R.PAIR_HB_PAENT_ALARM) 1).info .pairAlarm pairAgent (b2n wire) 1
      else
        let d := (d.put R.PAIR_HB_PARTNER_LOST 1).info .partnerLost pairAgent
        if d.pst = prStandby then d.planClaim (d.wt + 10 * qUs) false 1 else d.syncBit
  | none =>
    if !d.paired || d.phase ≠ phaseRunning || !d.on other then d
    else
      let d := if wire then d.setPair { d.pair with wire := some (0, d.pair.detect) }
        else d.setPair { d.pair with paent := some (0, d.pair.detect) }
      (d.put (if wire then R.PAIR_HB_WIRE_ALARM else R.PAIR_HB_PAENT_ALARM) 1).info .pairAlarm pairAgent (b2n wire) 1

def execHeartbeatPathSilent (t : Nat) (wire : Bool) (s : State) : Host.Outcome State Fault Refusal :=
  s.onDev t (pathSilent wire)

/-! ### Revert (R356) -/

/-- Seconds of wait-to-restore left, rounded up (R359). -/
def Dev.wtrLeft (d : Dev) : Nat :=
  match d.pair.wtrFrom with
  | some (a, _, n) => if d.on R.PAIR_STATUS_WTR_RUNNING then (a + n * qS - d.now + qS - 1) / qS else 0
  | none => 0

/-- PAIR_WTR_EXPIRY (R356): a PREFERRED standby sends a revert request, once. -/
def wtrExpiry (d : Dev) : Dev :=
  match d.pair.wtrFrom with
  | some (a, w, n) =>
    let due := if n = 0 then decide (d.handover w ≤ d.wt) else decide (a + n * qS ≤ d.now)
    if !d.on R.PAIR_STATUS_WTR_RUNNING || !due then d
    else ((d.setPair { d.pair with wtrFrom := none }).reply .revert).wtrBit
  | none => d

def execPairWtrExpiry (t : Nat) (s : State) : Host.Outcome State Fault Refusal := s.onDev t wtrExpiry

/-! ### Registers (R359) -/

/-- A write of PAIR_CTRL: its fields, and with APPLY the settings, or BAD_CONFIG. -/
def pairCtrl (v : Word) (d : Dev) : Dev :=
  let x := v.toNat
  let d := d.setReg R.PAIR_CTRL (x &&& 0x401F0000)
  if !bit x 31 then d
  else
    let detect := d.get R.PAIR_TIMING_DETECT
    let wtr := d.get R.PAIR_TIMING_WTR_S
    if detect < 10 || 1000 < detect || 3600 < wtr then d.put R.PAIR_STATUS_BAD_CONFIG 1
    else (d.setPair { d.pair with detect := detect, wtr := wtr, timingHead := bits x 20 16, noRevert := bit x 30 }).wtrBit

/-- PAIR_APPLY (R359). -/
def pairApply (v : Word) (d : Dev) : Dev := if bit v.toNat 31 then pairCtrl v d else d

def execPairApply (t : Nat) (v : Word) (s : State) : Host.Outcome State Fault Refusal :=
  s.onDev t (·.gated 0xC00000 (pairApply v))

/-- CMD_ERR, and the command's effect where it is accepted. -/
def Dev.cmdErr (d : Dev) (code : Nat) (f : Dev → Dev) : Dev :=
  let d := d.put R.PAIR_STATUS_CMD_ERR code
  if code = 0 then f d else d

/-- PAIR_CMD.SWITCHOVER (R346, R359). -/
def switchover (d : Dev) : Dev :=
  d.cmdErr (if !d.paired then 4 else if d.pst ≠ prActive then 1 else if !d.on R.PAIR_STATUS_IN_SYNC then 2 else 0)
    Dev.planRelease

/-- PAIR_CMD.TAKEOVER (R350, R359): from STANDBY, and with FORCE from SYNCING or FAULT. -/
def takeover (force : Bool) (d : Dev) : Dev :=
  let ok := d.pst == prStandby || (force && (d.pst == prSyncing || d.pst == prFault))
  d.cmdErr (if !d.paired then 4 else if !ok then 5 else if d.ilLevel ≠ 0 then 3 else 0) fun d =>
    (d.setPair { d.pair with barred := false }).planClaim (d.wt + qUs) false 5

/-- PAIR_CMD.CLEAR (R341, R359). -/
def pairClearCmd (d : Dev) : Dev :=
  d.cmdErr (if !d.paired then 4 else if d.pst ≠ prFault || 2 ≤ d.ilLevel then 6 else 0) fun d =>
    (d.put R.PAIR_STATUS_FAULT 0).seek false

/-- A write of PAIR_CMD acts once, by the highest command bit that is set (log 47). -/
def pairCmd (v : Word) (d : Dev) : Dev :=
  let x := v.toNat
  if bit x 31 then switchover d
  else if bit x 30 then takeover (bit x 29) d
  else if bit x 28 then pairClearCmd d
  else d

/-- PAIR_SWITCHOVER. -/
def pairSwitchover (v : Word) (d : Dev) : Dev := if bit v.toNat 31 then pairCmd v d else d

def execPairSwitchover (t : Nat) (v : Word) (s : State) : Host.Outcome State Fault Refusal :=
  s.onDev t (·.gated 0xC00010 (pairSwitchover v))

/-- PAIR_TAKEOVER. -/
def pairTakeover (v : Word) (d : Dev) : Dev := if bit v.toNat 30 then pairCmd v d else d

def execPairTakeover (t : Nat) (v : Word) (s : State) : Host.Outcome State Fault Refusal :=
  s.onDev t (·.gated 0xC00010 (pairTakeover v))

/-- PAIR_CLEAR. -/
def pairClear (v : Word) (d : Dev) : Dev := if bit v.toNat 28 then pairCmd v d else d

def execPairClear (t : Nat) (v : Word) (s : State) : Host.Outcome State Fault Refusal :=
  s.onDev t (·.gated 0xC00010 (pairClear v))

end Sys2Proof.Machine
end

