-- ==== Sys2Proof/Machine/Errors.lean ====
section
/-! DEFINITION. Clocks of the edge domains, the management cores' watchdogs, compose cluster failures and fabric faults
(R11, R17, R417, R430, R431). -/

namespace Sys2Proof.Machine

/-! ### Edge-domain clocks (R11, R12) -/

/-- The touch ports' data while CD-TOUCH has no clock (R282): a scan under way is not released. -/
def Dev.touchClockLost (d : Dev) (p : Nat) : Dev :=
  let st := d.touch p
  (if st.scan.isSome then d.setTouch p { st.scheduled false with scan := none } else d).touchValid p

/-- The converters lose their clock: a running sequence gives nothing, and the cycles it serves have no analog data. -/
def Dev.adcClockLost (d : Dev) : Dev :=
  let serves := (d.io.adc.seq.map (·.serves)).getD []
  let d := { d with io := { d.io with adc := { d.io.adc with seq := none } } }.put R.ADC_STATUS_BUSY 0
  serves.foldl (fun d c =>
    d.setCycle c { d.cycle c with capture := (d.cycle c).capture.map fun k => { k with adc := some [] } }) d

/-- What the absence of a clock does (R11); `inst` is the instance: Ethernet, DisplayPort or Paent port, lane as
port × 6 + lane, or channel. -/
def clockAbsent (dom inst : Nat) (x : Dev × Mem) : Dev × Mem :=
  let d := x.1
  match dom with
  | 0 => (d.fatal fatalClockTime, x.2)
  | 1 => (ethLinkLost inst d, x.2)
  | 2 => (portClockLost inst d, x.2)
  | 3 => (if d.pln inst = plnUp then d.attempt inst else d, x.2)
  | 4 => (laneLol (inst / 6) (inst % 6) true d, x.2)
  | 5 => if d.chFailed inst then x else failChannel d x.2 inst
  | 7 => ((d.touchClockLost 0).touchClockLost 1, x.2)
  | 8 => (d.adcClockLost, x.2)
  | 10 =>
    let d := ocxoLost { d with boot := { d.boot with houseOcxo := false } }
    (d.degraded .degradedHouse 0x0FFF, x.2)
  | _ => x

/-- DOMAIN_CLOCK_LOST. -/
def clockLost (dom inst : Nat) (x : Dev × Mem) : Dev × Mem :=
  if !x.1.clockAt dom inst then x else clockAbsent dom inst (x.1.clockGone dom inst, x.2)

def execDomainClockLost (t dom inst : Nat) (s : State) : Host.Outcome State Fault Refusal :=
  s.onAll t (clockLost dom inst)

/-- DOMAIN_CLOCK_PRESENT: the instance's clock is detected; with CD-HOST's the queues go on, and a DisplayPort port's
return is DP_PORT_CLOCK_RETURN. -/
def clockPresent (dom inst : Nat) (d : Dev) : Dev :=
  let d := d.clockBack dom inst
  match dom with
  | 6 => (List.range 17).foldl (fun d q => d.flushQueue q) d
  | 2 => portClockReturn inst (d.port inst).caps d
  | 7 => (d.touchValid 0).touchValid 1
  | 10 => ocxoReturn { d with boot := { d.boot with houseOcxo := true } }
  | _ => d

def execDomainClockPresent (t dom inst : Nat) (s : State) : Host.Outcome State Fault Refusal :=
  s.onDev t (clockPresent dom inst)

/-! ### Watchdogs (R16, R17) -/

/-- STATE of a management core. -/
def coreStateF : Nat → FldDesc
  | 0 => R.MGMT_CORE_STATUS_STATE0
  | 1 => R.MGMT_CORE_STATUS_STATE1
  | 2 => R.MGMT_CORE_STATUS_STATE2
  | _ => R.MGMT_CORE_STATUS_STATE3

/-- RESTARTS of a management core. -/
def coreRestartsF : Nat → FldDesc
  | 0 => R.MGMT_CORE_STATUS_RESTARTS0
  | 1 => R.MGMT_CORE_STATUS_RESTARTS1
  | 2 => R.MGMT_CORE_STATUS_RESTARTS2
  | _ => R.MGMT_CORE_STATUS_RESTARTS3

/-- A management core runs. -/
def coreRunning : Nat := 1
/-- A management core restarts. -/
def coreRestarting : Nat := 2
/-- A management core is halted. -/
def coreHalted : Nat := 3

/-- WATCHDOG_EXPIRY: the core and its agents restart; the third restart within 10 s is FATAL. Blocks keep their
configuration (R16). -/
def watchdog (core : Nat) (d : Dev) : Dev :=
  if 4 ≤ core || d.get (coreStateF core) ≠ coreRunning then d
  else
    let last := (d.now :: tabGetD d.err.restarts [] core).take 3
    let d := { d with err := { d.err with restarts := tabSet d.err.restarts [] core last } }
    let d := (d.bump (coreRestartsF core)).contained .watchdog core core
    let third := match last with
      | [_, _, a] => decide (d.now ≤ a + 10 * qS)
      | _ => false
    if third then (d.put (coreStateF core) coreHalted).fatal fatalWatchdog else d.put (coreStateF core) coreRestarting

def execWatchdogExpiry (t core : Nat) (s : State) : Host.Outcome State Fault Refusal := s.onDev t (watchdog core)

/-- MGMT_CORE_RESTART_DONE: the agents run again; what stayed pending goes on. -/
def coreRestarted (core : Nat) (d : Dev) : Dev :=
  if 4 ≤ core || d.get (coreStateF core) ≠ coreRestarting then d else d.put (coreStateF core) coreRunning

def execMgmtCoreRestartDone (t core : Nat) (s : State) : Host.Outcome State Fault Refusal :=
  s.onDev t (coreRestarted core)

/-! ### Compose clusters (R417) -/

/-- COMPOSE_ENGINE_PARITY: the engine's cluster leaves service until module reset. -/
def engineParity (k : Nat) (d : Dev) : Dev :=
  if 6 ≤ k || d.lay.clustersOut.contains k then d
  else
    let gs := (d.img.bindings.filter fun b => bit b.clusters k).map (·.group)
    let d := { d with lay := { d.lay with
      clustersOut := k :: d.lay.clustersOut, reshed := (gs ++ d.lay.reshed).eraseDups } }
    let d := gs.foldl (fun d g => d.groupRegs g) (d.degraded .clusterFailed (0x4000 + k) k)
    if gs.any fun g => !(d.groupHeads g).isEmpty && d.capacity g == 0 then d.fatal fatalNoCluster else d

def execComposeEngineParity (t cluster : Nat) (s : State) : Host.Outcome State Fault Refusal :=
  s.onDev t (engineParity cluster)

/-! ### Fabric faults (R430, R431) -/

/-- Commits in VALIDATING or READY return to QUEUED, in their order (R431). -/
def Dev.requeueCommits (d : Dev) : Dev :=
  d.setCommits (d.commits.map fun c =>
    if c.st == .queued || !c.done.isEmpty then c
    else { c with st := .queued, verdict := none, snap := .init, target := none })

/-- FABRIC_FAULT: a fault restart starts, classed CONTAINED; an unreadable journal, or a second restart within 10 s of the
first, is FATAL. -/
def fabricFault (journalOk : Bool) (d : Dev) : Dev :=
  let again := match d.err.fabricAt with
    | some a => decide (d.now ≤ a + 10 * qS)
    | none => false
  let d := d.contained .fabricFault composeAgent
  if !journalOk || again then d.fatal fatalFabric
  else
    let d := d.setCommits (d.requeueCommits).commits
    { d with err := { d.err with
      fabricRun := d.boot.switch.isNone, fabricAt := if d.boot.switch.isNone then some d.now else d.err.fabricAt } }

def execFabricFault (t : Nat) (journalOk : Bool) (s : State) : Host.Outcome State Fault Refusal :=
  s.onDev t (fabricFault journalOk)

/-- The compose agent restores shadows, staged head settings and tasters from its journal (R431). -/
def Dev.restoreJournal (d : Dev) : Dev :=
  let d := d.shadowLayers.foldl (fun d l => d.setShadow l (d.curLd l)) d
  let d := d.curLayers.foldl (fun d l => d.setShadow l (d.curLd l)) d
  let d := d.enabledHeads.foldl (fun d h =>
    let x := d.head h
    let d := (d.setReg R.HEAD_CHASE_LEAD (d.get R.HEAD_CHASE_LEAD_CUR_LEAD h) h).setReg R.HEAD_OUT_FMT
      (d.reg R.HEAD_OUT_FMT_CUR h) h
    let d := ((d.setReg R.HEAD_MODE (d.reg R.HEAD_MODE_CUR h) h).setReg R.HEAD_ASYNC x.async h).setReg R.HEAD_WB_CTRL x.wbCtrl h
    (d.setReg R.HEAD_WB_BASE_LO x.wbLo h).setReg R.HEAD_WB_BASE_HI x.wbHi h) d
  d.tstKeys.foldl (fun d k =>
    let w := d.tstCur k
    let d := ((d.setReg R.TST_CTRL (w.getD 0 0) k).setReg R.TST_POS (w.getD 1 0) k).setReg R.TST_SIZE (w.getD 2 0) k
    (List.range 8).foldl (fun d j => d.setReg R.TST_EXP (w.getD (3 + j) 0) k j) d) d

/-- A head resumes after a restart (R221, R431): what is left of its old frames ends, and a readied link lets it come back at
a B(N′) of its grid. -/
def Dev.headResumes (d : Dev) (h : Nat) : Dev :=
  if d.headState h = hsModeChange then
    let d := if (d.head h).boundary.isSome then modeBoundary h (d.setHead h { d.head h with boundary := some 0 }) else d
    modeLinkReady h d
  else if (d.head h).boundary.isNone then d
  else
    let d := (d.head h).frames.foldl (fun d e => d.frameEnd h e.1 e.2) d
    d.setHead h { d.head h with boundary := none, frames := [], stamps := [], resume := some (d.nextBoundary h) }

end Sys2Proof.Machine
end

