-- ==== Sys2Proof/Machine/Links.lean ====
section
/-! DEFINITION. The Paent link of a system: flits, routing, remote sources, election and time lock (15). -/

namespace Sys2Proof.Machine

/-! ### Identity (R299, R302) -/

/-- A write of PAENT_ID: ignored while a port is in service, that is UP and not held. -/
def paentId (v : Word) (d : Dev) : Dev :=
  if (List.range 4).any fun p => d.pln p == plnUp && !d.on R.PLN_CTRL_HOLD p then d
  else
    let d := (d.setReg R.PAENT_ID (v.toNat &&& 0x80F9C1FF)).put R.PAENT_MGR_ID_CONFLICT 0
    let d := { d with sys := { d.sys with bestFrom := some d.now } }
    d.put R.PAENT_MGR_MODULES ((d.sys.dir.filter fun e => e.1 != v.toNat % 512).length + b2n (bit v.toNat 31))

def execPaentIdWrite (t : Nat) (v : Word) (s : State) : Host.Outcome State Fault Refusal :=
  s.onDev t (·.gated 0xB00000 (paentId v))

/-! ### Flits (R303, R305 to R307) -/

/-- The oldest unacknowledged flits are sent again; after 8 times without an advance of ACK the port retrains. -/
def Dev.resendAll (d : Dev) (p : Nat) : Dev :=
  let l := d.link p
  match l.replay with
  | [] => d
  | k :: _ =>
    let d := (d.bump R.PNT_REPLAYS_COUNT p).corrected .flitResent (paentAgent p)
    if 8 ≤ l.tries + 1 then (d.setLink p { l with tries := 0, resend := none }).attempt p
    else d.setLink p { l with tries := l.tries + 1, resend := some k.seq, ackAt := d.now }

/-- ACK of a correct flit: flits up to it are no longer kept. -/
def Dev.takeAck (d : Dev) (p ack : Nat) : Dev :=
  let l := d.link p
  if l.replay.any fun k => k.seq == ack then
    let rest := (l.replay.dropWhile fun k => k.seq != ack).drop 1
    d.setLink p { l with
      replay := rest, tries := 0, ackAt := d.now
      resend := match l.resend with
        | some r => if rest.any fun k => k.seq == r then some r else rest.head?.map (·.seq)
        | none => none }
  else d

/-- A flit is discarded: NAK is set once until a flit is accepted. -/
def Dev.nak (d : Dev) (p : Nat) : Dev :=
  let l := d.link p
  if l.nakSet then d else d.setLink p { l with nakDue := true, nakSet := true }

/-- A data flit is accepted: it joins the envelope being received. -/
def Link.accept (l : Link) (content : List Byte) : Link :=
  let part := l.part ++ [content]
  let whole := part.length == leAt (part.headD []) 1 1 + 1
  { l with
    rxSeq := (l.rxSeq + 1) % 4096, nakSet := false
    part := if whole then [] else part
    whole := if whole then l.whole ++ [Env.ofFlits part] else l.whole }

/-- A flit arrives (R305, R306). -/
def flitReceived (p : Nat) (flit : List Byte) (d : Dev) : Dev :=
  if 4 ≤ p || d.pln p ≠ plnUp || d.on R.PLN_STATUS_RX_ASLEEP p || flit.length ≠ 64 then d
  else if crcOf 1 (flit.take 60) ≠ leAt flit 60 4 then (d.bump R.PNT_CRC_ERR_COUNT p).nak p
  else
    let w := leAt flit 56 4
    let fits := bits w 31 20 = (d.link p).rxSeq
    let d := d.setLanes p { d.lanes p with ams := 0 }
    let d := d.takeAck p (bits w 19 8)
    let d := if bit w 7 then d.resendAll p else d
    if d.pln p ≠ plnUp then d
    else if !fits then d.nak p
    else
      let l := d.link p
      let l := { l with spent := tabUpd l.spent 0 (bits w 5 3) (· - bits w 2 0 * 8) }
      d.setLink p (if bit w 6 then { l with nakSet := false } else l.accept (flit.take 56))

def execFlitReceived (t p : Nat) (flit : List Byte) (s : State) : Host.Outcome State Fault Refusal :=
  s.onDev t (flitReceived p flit)

/-- ACK has not advanced for 20 µs while flits are outstanding (R305). -/
def replayTimeout (p : Nat) (d : Dev) : Dev :=
  let l := d.link p
  if 4 ≤ p || d.pln p ≠ plnUp || l.replay.isEmpty || d.now < l.ackAt + 20 * qUs then d else d.resendAll p

def execReplayTimeout (t p : Nat) (s : State) : Host.Outcome State Fault Refusal := s.onDev t (replayTimeout p)

/-- Planes of a picture as rows without padding: address and bytes (R311, R133). -/
def Setup.recordRows (s : Setup) (slot w h : Nat) : List (Nat × Nat) :=
  let row : Nat → Nat → Nat → Nat × Nat := fun plane y n => (s.sampleAddr slot plane y 0, n * s.bs)
  let plane : Nat → Nat → Nat → List (Nat × Nat) := fun k hh n => (List.range hh).map fun y => row k y n
  if s.type ≤ 1 then plane 0 h w ++ plane 1 ((h + 1) / 2) (2 * ((w + 1) / 2))
  else if s.format = 0 then plane 0 h w ++ plane 1 h (2 * ((w + 1) / 2))
  else plane 0 h w ++ plane 1 h w ++ plane 2 h w

/-- Bytes of a record. -/
def Setup.recordSize (s : Setup) (w h : Nat) : Nat := 64 + ((s.recordRows 0 w h).map (·.2)).sum

/-- The part of rows that holds `n` bytes from record offset `off`: address and bytes, in order. -/
def rowParts : List (Nat × Nat) → Nat → Nat → List (Nat × Nat)
  | [], _, _ => []
  | (a, len) :: r, off, n =>
    if n = 0 then []
    else if len ≤ off then rowParts r (off - len) n
    else
      let k := min n (len - off)
      (a + off, k) :: rowParts r 0 (n - k)

/-- The metadata of a record (R311). -/
def PicSlot.recordInfo (s : PicSlot) (format : Nat) : List Byte :=
  leBytes 8 s.pm.word ++ [BitVec.ofNat 8 (b2n s.frozen), 0] ++ leBytes 2 s.width ++ leBytes 2 s.height ++
    [BitVec.ofNat 8 format] ++ List.replicate 49 0

/-- `n` bytes of a record from an offset on. -/
def recordBytes (m : Mem) (s : Setup) (slot : Nat) (x : PicSlot) (off n : Nat) : List Byte :=
  let info := ((x.recordInfo s.format).drop off).take n
  info ++ (rowParts (s.recordRows slot x.width x.height) (off - 64) (n - info.length)).flatMap fun r => m.getBytes r.1 r.2

/-- The next envelope of a picture send, its bytes, and whether it is the last (R311); none where nothing is left. -/
def nextPicture (d : Dev) (m : Mem) (x : PicSend) : Option (Env × Nat × Bool) :=
  let k := d.dctx x.context
  k.setup.bind fun su =>
    let s := k.slot x.slot
    let b := su.recordSize s.width s.height
    let n := min 3568 (b - x.off)
    let last := decide (b ≤ x.off + n)
    if n = 0 then none else some (⟨2, 0, x.mcast, 4, x.dest, d.moduleId, 64,
      [BitVec.ofNat 8 x.context, BitVec.ofNat 8 (b2n (x.off = 0) + b2n last * 2)] ++ leBytes 2 x.pic ++ leBytes 4 x.off,
      recordBytes m su x.slot s x.off n⟩, n, last)

/-- Whether nothing leads to where a picture send goes: its envelopes are dropped (R309). -/
def Dev.sendLost (d : Dev) (x : PicSend) : Bool :=
  if x.mcast then
    !(d.on R.MCAST_VALID x.dest && (List.range 4).any fun p => bit (d.get R.MCAST_PORTS x.dest) p && d.inRouting p)
  else
    let alt := d.get R.ROUTE_FAILOVER x.dest
    (d.pairPort x.dest).isNone && !(d.on R.ROUTE_VALID x.dest &&
      (if d.on R.ROUTE_ON_FAILOVER x.dest then alt ≤ 3 && d.inRouting alt else decide (d.get R.ROUTE_PRIMARY x.dest ≤ 3)))

/-- Picture sends whose next envelope can be handed to port `p` (R311): those whose way leads there, or nowhere, and that have
no envelope waiting there already. -/
def Dev.sendsFor (d : Dev) (p : Nat) : List PicSend :=
  d.sys.sends.filter fun x =>
    let way := if x.mcast then d.on R.MCAST_VALID x.dest && bit (d.get R.MCAST_PORTS x.dest) p
      else d.pairPort x.dest == some p || (d.on R.ROUTE_VALID x.dest &&
        (if d.on R.ROUTE_ON_FAILOVER x.dest then d.get R.ROUTE_FAILOVER x.dest == p else d.get R.ROUTE_PRIMARY x.dest == p))
    (way || d.sendLost x) && !((List.range 4).any fun k => (d.link k).queue.any fun o =>
      o.env.type == 4 && o.env.src == d.moduleId && o.env.dest == x.dest && o.env.mcast == x.mcast &&
        leAt o.env.td 0 1 == x.context)

/-- The last envelope of a picture has left: its lease ends, and a queued picture begins (R311). -/
def Dev.endSend (d : Dev) (id : Nat) : Dev :=
  match d.sys.sends.find? fun s => s.id == id with
  | none => d
  | some s =>
    let d := (d.updSend id fun _ => none).dropLease (.ctx s.context) s.slot
    match s.next with
    | some n => if ((d.dctx s.context).slot n).out then d.beginSend s.context s.dest s.mcast n else d
    | none => d

/-- Whether the last envelope of a picture send still waits or leaves. -/
def Dev.closing (d : Dev) (id : Nat) : Bool :=
  (List.range 4).any fun k =>
    let l := d.link k
    (l.queue.any fun o => o.closes == some id) ||
      (match l.cur with | some (o, _) => o.closes == some id | none => false)

/-- Hand the next envelopes of picture sends to the ports they leave by. A send that has handed over everything and whose
last envelope is lost ends too. -/
def feedSends (p : Nat) (x : Dev × Mem) : Dev :=
  (x.1.sendsFor p).foldl (fun d s =>
    match nextPicture d x.2 s with
    | none => if d.closing s.id then d else d.endSend s.id
    | some (e, n, last) =>
      (d.updSend s.id fun s => some { s with off := s.off + n }).routeEnv 4 ⟨e, none, false, if last then some s.id else none⟩) x.1

/-- Units of 1 / 4 bit that a class may use per quarter nanosecond (R307). -/
def classRate : Nat → Nat
  | 0 => 1
  | 1 => 8
  | 3 => 4
  | _ => 0

/-- Bandwidth of the classes at the present instant, at most one envelope's worth each. -/
def Link.refill (l : Link) (now : Nat) : Link :=
  { l with
    tokAt := now
    tokens := [0, 1, 3].foldl (fun t c => tabSet t 0 c (min 131072 (tabGetD t 0 c + (now - l.tokAt) * classRate c)))
      l.tokens }

/-- Whether an envelope may start: credit for its first flit, and VC1 injection not held. -/
def Dev.mayStart (d : Dev) (l : Link) (o : OutEnv) : Bool :=
  let sel := o.env.cls * 2 + o.env.vc
  tabGetD l.spent 0 sel < creditOf sel && !(o.injected && d.sys.vc1Hold.isSome)

/-- The envelopes of a class that may be next: of each source and context the first, of other classes the first of a VC. -/
def Dev.ready (d : Dev) (l : Link) (cls : Nat) : List OutEnv :=
  let key : OutEnv → Nat × Nat × Nat := fun o => if cls = 2 then (o.env.vc, o.env.src, leAt o.env.td 0 1) else (o.env.vc, 0, 0)
  let q := l.queue.filter fun o => o.env.cls == cls
  (q.zipIdx.filter fun o => d.mayStart l o.1 && !(q.zipIdx.any fun x => x.2 < o.2 && key x.1 == key o.1)).map (·.1)

/-- The class that sends next (R307): 0, 1, 3 within their bandwidth, then 2, then in turn; none when nothing may start. -/
def Dev.pickClass (d : Dev) (l : Link) : Option Nat :=
  let some' : Nat → Bool := fun c => !(d.ready l c).isEmpty
  match [0, 1, 3].find? fun c => some' c && 2048 ≤ tabGetD l.tokens 0 c with
  | some c => some c
  | none =>
    if some' 2 then some 2
    else [1, 2, 3, 4].findSome? fun i => if some' ((l.turn + i) % 4) then some ((l.turn + i) % 4) else none

/-- A flit from content and LCW (R303). -/
def flitBytes (content : List Byte) (seq ack : Nat) (nak null : Bool) (credit : Nat) : List Byte :=
  let b := content ++ leBytes 4 (seq * 2 ^ 20 + ack * 2 ^ 8 + b2n nak * 128 + b2n null * 64 + credit)
  b ++ leBytes 4 (crcOf 1 b)

/-- Credits returned with a flit: the lowest class × 2 + VC that is owed 8 flits or more (R303, R306). -/
def Link.credit (l : Link) : Link × Nat :=
  match l.owed.find? fun e => 8 ≤ e.2 with
  | some (sel, n) =>
    let u := min 7 (n / 8)
    ({ l with owed := tabSet l.owed 0 sel (n - u * 8) }, sel * 8 + u)
  | none => (l, 0)

/-- Send one flit: its LCW, the replay buffer, the state of ACK and NAK. -/
def Dev.emit (d : Dev) (p : Nat) (data : Option (List Byte)) : Dev :=
  let l := d.link p
  let ack := (l.rxSeq + 4095) % 4096
  match data with
  | none =>
    let (l, cr) := l.credit
    d.setLink p { l with
      sent := flitBytes (List.replicate 56 0) l.txSeq ack l.nakDue true cr, nakDue := false }
  | some content =>
    let (l, cr) := l.credit
    d.setLink p { l with
      sent := flitBytes content l.txSeq ack l.nakDue false cr, nakDue := false, txSeq := (l.txSeq + 1) % 4096
      replay := l.replay ++ [⟨l.txSeq, content, cr⟩], ackAt := if l.replay.isEmpty then d.now else l.ackAt }

/-- One flit of the envelope being sent leaves; with its last flit a receive buffer is freed and a picture send ends. -/
def Dev.emitNext (d : Dev) (p : Nat) (o : OutEnv) (rest : List (List Byte)) : Dev :=
  match rest with
  | [] => d
  | c :: more =>
    let l := d.link p
    let sel := o.env.cls * 2 + o.env.vc
    if creditOf sel ≤ tabGetD l.spent 0 sel then d.emit p none
    else
      let l := { l with
        spent := tabUpd l.spent 0 sel (· + 1), tokens := tabUpd l.tokens 0 o.env.cls (· - 2048)
        cur := if more.isEmpty then none else some (o, more) }
      let d := ((d.setLink p l).emit p (some c)).freeBuffer o.back 1
      match more, o.closes with
      | [], some id => d.endSend id
      | _, _ => d

/-- FLIT_SEND (R303, R305 to R307, R311): at a flit slot the port sends again, goes on with an envelope, begins one, or sends
a null flit. `pick` is the place that the weighting of class 2 gives among its envelopes that may start. -/
def flitSend (p pick : Nat) (x : Dev × Mem) : Dev × Mem :=
  let d := x.1
  if 4 ≤ p || d.pln p ≠ plnUp || d.on R.PLN_STATUS_TX_ASLEEP p || d.now < (d.lanes p).txFrom then x
  else
    let l := (d.link p).refill d.now
    let d := d.setLink p l
    match l.resend with
    | some sq =>
      match l.replay.find? fun k => k.seq == sq with
      | some k =>
        let after := ((l.replay.dropWhile fun z => z.seq != sq).drop 1).head?.map (·.seq)
        (d.setLink p { l with
          resend := after, nakDue := false
          sent := flitBytes k.content k.seq ((l.rxSeq + 4095) % 4096) l.nakDue false k.credit }, x.2)
      | none => ((d.setLink p { l with resend := none }).emit p none, x.2)
    | none =>
      if 1024 ≤ l.replay.length then (d.emit p none, x.2)
      else match l.cur with
        | some (o, rest) => (d.emitNext p o rest, x.2)
        | none =>
          if !d.inRouting p then (d.emit p none, x.2)
          else
            let d := feedSends p (d, x.2)
            let l := d.link p
            match d.pickClass l with
            | none => (d.emit p none, x.2)
            | some c =>
              let rs := d.ready l c
              match rs[pick % max 1 rs.length]? with
              | none => (d.emit p none, x.2)
              | some o =>
                let d := d.setLink p { l with queue := l.queue.erase o, cur := some (o, o.env.flits), turn := c }
                (d.emitNext p o o.env.flits, x.2)

def execFlitSend (t p pick : Nat) (s : State) : Host.Outcome State Fault Refusal := s.onAll t (flitSend p pick)

/-- ENVELOPE_RECEIVED (R304, R308): the oldest whole envelope of a port is dropped, delivered or sent on. -/
def envelopeReceived (p : Nat) (d : Dev) : Dev :=
  let l := d.link p
  match l.whole with
  | [] => d
  | e :: rest =>
    let d := d.setLink p { l with whole := rest }
    let back := some (p, e.cls * 2 + e.vc)
    let n := e.flits.length
    if typeClass e.type ≠ some e.cls then (d.freeBuffer back n).bump R.PNT_BAD_TYPE_COUNT p
    else
      let e := { e with ttl := e.ttl - 1 }
      if e.ttl = 0 && (e.mcast || e.dest ≠ d.moduleId) then (d.freeBuffer back n).bump R.PNT_TTL_DROP_COUNT p
      else d.routeEnv p ⟨e, back, false, none⟩

def execEnvelopeReceived (t p : Nat) (s : State) : Host.Outcome State Fault Refusal := s.onDev t (envelopeReceived p)

/-! ### Routes (R308 to R310, R313) -/

/-- Whether this module is the system manager. -/
def Dev.manages (d : Dev) : Bool := d.on R.PAENT_MGR_IS_MANAGER

/-- The links of a module: port, far module, Mb/s that may be reserved outward. -/
def linksOf (ls : List PaentLink) (m : Nat) : List (Nat × Nat × Nat) :=
  ls.flatMap fun l =>
    (if l.a = m then [(l.aPort, l.b, l.aLimit)] else []) ++ (if l.b = m then [(l.bPort, l.a, l.bLimit)] else [])

/-- Coordinates of a module in the directory. -/
def Dev.placeOf (d : Dev) (m : Nat) : Option (Nat × Nat) :=
  if m = d.moduleId then some (d.get R.PAENT_ID_X, d.get R.PAENT_ID_Y)
  else (tabGet? d.sys.dir m).map fun e => (e.x, e.y)

/-- The next hop by dimension order (R308): toward X first, then Y; 4 on arrival, 7 where no link leads that way. -/
def Dev.primaryHop (d : Dev) (ls : List PaentLink) (m dest : Nat) : Nat :=
  if m = dest then 4
  else match d.placeOf m, d.placeOf dest with
    | some (x, y), some (dx, dy) =>
      let want : Nat × Nat := if x < dx then (x + 1, y) else if dx < x then (x - 1, y) else if y < dy then (x, y + 1)
        else (x, y - 1)
      (((linksOf ls m).find? fun k => d.placeOf k.2.1 == some want).map (·.1)).getD 7
    | _, _ => 7

/-- One round of distances: each listed module's neighbours take one more than it, where they have none. -/
def spread (ls : List PaentLink) (dist : Tab Nat) : Tab Nat :=
  dist.foldl (fun acc e =>
    (linksOf ls e.1).foldl (fun acc k => if (tabGet? acc k.2.1).isSome then acc else tabPut acc k.2.1 (e.2 + 1)) acc) dist

/-- Levels of the spanning tree rooted at a module. -/
def levels (ls : List PaentLink) (root : Nat) : Tab Nat := (List.range 512).foldl (fun t _ => spread ls t) [(root, 0)]

/-- Whether the hop from `a` to `b` goes up: toward a lower level, or of equal levels a lower ID (R308). -/
def goesUp (lv : Tab Nat) (a b : Nat) : Bool :=
  let la := tabGetD lv 512 a
  let lb := tabGetD lv 512 b
  lb < la || (lb == la && b < a)

/-- Distances to a destination over hops that only go down. -/
def downDist (ls : List PaentLink) (lv : Tab Nat) (dest : Nat) : Tab Nat :=
  (List.range 512).foldl (fun t _ =>
    t.foldl (fun acc e => (linksOf ls e.1).foldl (fun acc k =>
      if goesUp lv e.1 k.2.1 && (tabGet? acc k.2.1).isNone then tabPut acc k.2.1 (e.2 + 1) else acc) acc) t) [(dest, 0)]

/-- Distances over hops that go up and then down. -/
def legalDist (ls : List PaentLink) (lv down : Tab Nat) : Tab Nat :=
  (List.range 512).foldl (fun t _ =>
    t.foldl (fun acc e => (linksOf ls e.1).foldl (fun acc k =>
      if goesUp lv k.2.1 e.1 && (tabGet? down k.2.1).isNone &&
          (match tabGet? acc k.2.1 with | some n => e.2 + 1 < n | none => true) then tabPut acc k.2.1 (e.2 + 1)
      else acc) acc) t) down

/-- The next hop of FAILOVER (R308): down the shortest way where one goes down, otherwise up. -/
def failoverHop (ls : List PaentLink) (lv : Tab Nat) (m dest : Nat) : Nat :=
  if m = dest then 4
  else
    let down := downDist ls lv dest
    let legal := legalDist ls lv down
    let onDown := (tabGet? down m).isSome
    let ks := (linksOf ls m).filterMap fun k =>
      if onDown then (if goesUp lv m k.2.1 then none else (tabGet? down k.2.1).map fun n => (n, k.1))
      else (if goesUp lv m k.2.1 then (tabGet? legal k.2.1).map fun n => (n, k.1) else none)
    match ks with
    | [] => 7
    | k :: r => (r.foldl (fun b x => if x.1 < b.1 || (x.1 == b.1 && x.2 < b.2) then x else b) k).2

/-- The ROUTE entries of a module. -/
def Dev.routesOf (d : Dev) (ls : List PaentLink) (lv : Tab Nat) (m : Nat) : List (Nat × Nat × Nat) :=
  let all := d.moduleId :: (d.sys.dir.map (·.1)).filter (· != d.moduleId)
  all.map fun dest => (dest, d.primaryHop ls m dest, failoverHop ls lv m dest)

/-- The hops of a way from `m` to `dest`: pairs of module and port (R313). -/
def wayHops (ls : List PaentLink) (next : Nat → Nat) (dest : Nat) : Nat → Nat → List (Nat × Nat)
  | 0, _ => []
  | n + 1, m =>
    if m = dest then []
    else
      let p := next m
      match (linksOf ls m).find? fun k => k.1 == p with
      | some k => (m, p) :: wayHops ls next dest n k.2.1
      | none => []

/-- The output ports of each module in a multicast group's tree (R310): the union of the dimension-order ways. -/
def Dev.treeOf (d : Dev) (ls : List PaentLink) (source : Nat) (members : List Nat) : List (Nat × Nat) :=
  (members.flatMap fun x => wayHops ls (fun k => d.primaryHop ls k x) x 64 source).eraseDups

/-- The links that a reservation occupies, by primary and fail-over way from its source to its home. -/
def Dev.resvHops (d : Dev) (ls : List PaentLink) (lv : Tab Nat) (r : Resv) : List (Nat × Nat) :=
  (wayHops ls (fun k => d.primaryHop ls k r.home) r.home 64 r.source ++
    wayHops ls (fun k => failoverHop ls lv k r.home) r.home 64 r.source).eraseDups

/-- Shed reservations until every link holds what is reserved on it (R313): lowest class first, then the highest entry. -/
def Dev.shedResv (d : Dev) (ls : List PaentLink) (lv : Tab Nat) : Nat → List Resv → List Resv × List Resv
  | 0, rs => (rs, [])
  | n + 1, rs =>
    let load : Nat × Nat → Nat := fun k => ((rs.filter fun r => (d.resvHops ls lv r).contains k).map (·.res)).sum
    let full := (rs.flatMap fun r => d.resvHops ls lv r).eraseDups.filter fun k =>
      match (linksOf ls k.1).find? fun x => x.1 == k.2 with
      | some x => decide (x.2.2 < load k)
      | none => true
    match rs.filter fun r => (d.resvHops ls lv r).any full.contains with
    | [] => (rs, [])
    | c :: cs =>
      let worst := cs.foldl (fun b r => if b.prio < r.prio || (b.prio == r.prio && b.entry < r.entry) then r else b) c
      let (keep, out) := d.shedResv ls lv n (rs.erase worst)
      (keep, worst :: out)

/-- A reception entry is shed with CAPACITY_LOST (R313): it keeps OUT and receives no more. -/
def Dev.shedRecv (d : Dev) (r : Nat) : Dev :=
  if !d.on R.RX_STATUS_VALID r || d.on R.RX_STATUS_SHED r then d
  else (d.put R.RX_STATUS_SHED 1 r).setReg R.RX_RES 0 r

/-- Set the ROUTE entries of this module (R308). -/
def Dev.setRoutes (d : Dev) (rs : List (Nat × Nat × Nat)) : Dev :=
  rs.foldl (fun d r =>
    let (m, primary, alt) := r
    let down := primary == 7 || (decide (primary ≤ 3) && !d.inRouting primary)
    if m < 512 then d.setReg R.ROUTE (2 ^ 31 + b2n down * 2 ^ 30 + alt % 8 * 16 + primary % 8) m else d) d

/-- Set MCAST entries of this module (R310). -/
def Dev.setMcasts (d : Dev) (gs : List (Nat × McastEntry)) : Dev :=
  gs.foldl (fun d g =>
    if g.1 < 256 then
      d.setReg R.MCAST (if g.2.valid then 2 ^ 31 + g.2.source % 512 * 2 ^ 21 + g.2.context % 256 * 2 ^ 13 +
        b2n g.2.local' * 16 + g.2.ports % 16 else 0) g.1
    else d) d

/-- Envelopes that wait take the routes in force; multicast envelopes are not rerouted (R310). -/
def Dev.requeue (d : Dev) : Dev :=
  (List.range 4).foldl (fun d p =>
    let l := d.link p
    l.queue.foldl (fun d o => if o.env.mcast then d.enqueue p o else d.routeEnv p o) (d.setLink p { l with queue := [] })) d

/-- ROUTE_RECOMPUTE (R308 to R310, R313) at the system manager: the system's links, its multicast groups and its
reservations as the modules report them. Own entries are installed, other modules get theirs by message. VC1 injection is
held here as at every module. -/
def routeRecompute (ls : List PaentLink) (groups : List McastGroup) (resv : List Resv) (d : Dev) : Dev :=
  if !d.manages then d
  else
    let me := d.moduleId
    let lv := levels ls me
    let d := (List.range 512).foldl (fun d m => if (d.placeOf m).isNone then d.setReg R.ROUTE 0 m else d) d
    let d := d.setRoutes (d.routesOf ls lv me)
    let entry : Nat → McastGroup → McastEntry := fun m g =>
      let tree := d.treeOf ls g.source g.members
      let ports := (tree.filter fun k => k.1 == m).map (·.2)
      ⟨!g.members.isEmpty && (!ports.isEmpty || g.members.contains m), g.source, g.context, g.members.contains m,
        (ports.map fun p => 2 ^ p).sum⟩
    let d := d.setMcasts (groups.map fun g => (g.group, entry me g))
    let (_, out) := d.shedResv ls lv resv.length resv
    let d := out.foldl (fun d r => if r.home = me then d.shedRecv r.entry else d.send r.home (.shed r.entry)) d
    let keep := resv.filter fun r => !out.contains r
    let d := (List.range 4).foldl (fun d p => d.setReg R.PNT_RES_OUT
      (((keep.filter fun r => (d.resvHops ls lv r).contains (me, p)).map (·.res)).sum % 2 ^ 17) p) d
    let d := d.sys.dir.foldl (fun d e =>
      if e.1 = me then d
      else d.send e.1 (.routes (d.routesOf ls lv e.1) (groups.map fun g => (g.group, entry e.1 g)))) d
    { d with sys := { d.sys with vc1Hold := some d.now } }.requeue

def execRouteRecompute (t : Nat) (ls : List PaentLink) (groups : List McastGroup) (resv : List Resv) (s : State) :
    Host.Outcome State Fault Refusal := s.onDev t (routeRecompute ls groups resv)

/-- ROUTE_INSTALL (R308 to R310, R313): what the system manager sends to a module. A new FAILOVER set holds VC1 injection. -/
def routeInstall (r : RouteSet) (d : Dev) : Dev :=
  let d := d.takeInbox 6
  let d := (d.setRoutes r.routes).setMcasts r.mcast
  let d := (List.range 4).foldl (fun d p => match r.resOut[p]? with | some v => d.setReg R.PNT_RES_OUT (v % 2 ^ 17) p | none => d) d
  let d := r.shed.foldl (fun d e => d.shedRecv e) d
  let d : Dev := { d with sys := { d.sys with
    subs := r.subs.foldl (fun t s => tabSet t [] s.1 s.2) d.sys.subs
    vc1Hold := if r.hold then some d.now else d.sys.vc1Hold } }
  d.requeue

def execRouteInstall (t : Nat) (r : RouteSet) (s : State) : Host.Outcome State Fault Refusal := s.onDev t (routeInstall r)

/-- The hold of VC1 injection ends at confirmation by all modules, or after 10 ms (R309). -/
def vc1HoldEnd (confirmed : Bool) (d : Dev) : Dev :=
  match d.sys.vc1Hold with
  | some a => if confirmed || a + 10 * qMs ≤ d.now then { d with sys := { d.sys with vc1Hold := none } } else d
  | none => d

def execVc1HoldTimeout (t : Nat) (confirmed : Bool) (s : State) : Host.Outcome State Fault Refusal :=
  s.onDev t (vc1HoldEnd confirmed)

/-! ### Remote sources (R311, R312, R317) -/

/-- Whether a module holds time lock (R316). -/
def Dev.lockOf (d : Dev) (m : Nat) : Bool :=
  if m = d.moduleId then d.on R.PAENT_MGR_TIME_LOCK else (tabGetD d.sys.locks ⟨0, 0, false⟩ m).lock

/-- Set a reception entry. -/
def Dev.setRecv (d : Dev) (r : Nat) (x : Recv) : Dev := { d with sys := { d.sys with recvs := tabPut d.sys.recvs r x } }

/-- Slots of a reception pool. -/
def Recv.count (x : Recv) : Nat := x.setup.slots

/-- A picture that is being received is discarded and counted (R312). -/
def Dev.dropRx (d : Dev) (r : Nat) (x : Recv) (k : RxPic) (count : FldDesc) : Dev :=
  (d.setRecv r { x with rx := none, slots := tabUpd x.slots PicSlot.free k.slot fun s => { s with writing := false } }).bump
    count r

/-- A picture is complete in its slot: OUT moves (R312). -/
def Dev.rxDone (d : Dev) (r : Nat) (x : Recv) (k : RxPic) : Dev :=
  let w := leAt k.info 0 8
  let pm : Postmark := ⟨w / 2 ^ 16, bits w 15 14, bits w 13 12, (w % 4096) ||| 8⟩
  let slots := (x.slots.map fun e => (e.1, { e.2 with out := false })).filter fun e => e.2 ≠ PicSlot.free
  let s := tabGetD slots PicSlot.free k.slot
  let s := { s with
    writing := false, out := true, pm := pm, frozen := bit (leAt k.info 8 1) 0, width := leAt k.info 10 2
    height := leAt k.info 12 2, done := d.wt, pic := k.pic }
  let d := d.setRecv r { x with rx := none, slots := tabSet slots PicSlot.free k.slot s }
  let d := (d.bump R.RX_PICTURES_COUNT r).setReg R.RX_OUT (2 ^ 31 + k.slot) r
  d.canvasPicture (.recv r) k.slot

/-- Content of a PICTURE envelope goes to its place in the slot; reception passes no checker (R384). -/
def rxWrite (d : Dev) (m : Mem) (x : Recv) (k : RxPic) (off : Nat) (bs : List Byte) : Mem :=
  let skip := 64 - off
  let rows := x.setup.recordRows k.slot (leAt k.info 10 2) (leAt k.info 12 2)
  let parts := rowParts rows (off - 64) (bs.length - skip)
  (parts.foldl (fun (acc : Mem × List Byte) p => (dramWrite d acc.1 p.1 (acc.2.take p.2), acc.2.drop p.2)) (m, bs.drop skip)).1

/-- PICTURE_ENVELOPE (R312): the oldest delivered PICTURE envelope. -/
def pictureEnvelope (x : Dev × Mem) : Dev × Mem :=
  let d := x.1
  match d.sys.inbox.find? fun e => e.2.type == 4 with
  | none => x
  | some pe =>
    let e := pe.2
    let d := d.takeInbox 4
    match d.recvOf e.src (leAt e.td 0 1) with
    | none => (d, x.2)
    | some (r, v) =>
      if d.on R.RX_STATUS_SHED r then (d, x.2)
      else
        let first := bit (leAt e.td 1 1) 0
        let last := bit (leAt e.td 1 1) 1
        let pic := leAt e.td 2 2
        let off := leAt e.td 4 4
        let locked := d.lockOf d.moduleId && d.lockOf e.src
        let step : Dev → Recv → RxPic → Dev × Mem := fun d v k =>
          let m := rxWrite d x.2 v k off e.data
          let k := { k with off := off + e.data.length }
          (if last then d.rxDone r v k else d.setRecv r { v with rx := some k }, m)
        if first then
          let d := match v.rx with | some k => d.dropRx r v k R.RX_DISCARD_COUNT | none => d
          let v := (tabGet? d.sys.recvs r).getD v
          if !locked then (d.bump R.RX_TIME_REJECT_COUNT r, x.2)
          else
            let full := fun (v : Recv) => !(List.range v.count).any fun i => (tabGetD v.slots PicSlot.free i).isFree
            let d := d.makeRoom (.recv r) (full v)
            let v := (tabGet? d.sys.recvs r).getD v
            match (List.range v.count).find? fun i => (tabGetD v.slots PicSlot.free i).isFree with
            | none => (d.bump R.RX_NO_SLOT_COUNT r, x.2)
            | some i =>
              let v := { v with slots := tabUpd v.slots PicSlot.free i fun s => { s with writing := true } }
              step d v ⟨i, pic, 0, e.data.take 64⟩
        else match v.rx with
          | none => (d, x.2)
          | some k =>
            if k.pic ≠ pic || k.off ≠ off then (d.dropRx r v k R.RX_DISCARD_COUNT, x.2)
            else if !locked then (d.dropRx r v k R.RX_TIME_REJECT_COUNT, x.2)
            else step d v k

def execPictureEnvelope (t : Nat) (s : State) : Host.Outcome State Fault Refusal := s.onAll t pictureEnvelope

/-- RES of a source (R313), Mb/s: `num / den` is its nominal rate. -/
def resOf (b num den : Nat) : Nat :=
  let e := ceilDiv b 3568
  let r := b - 3568 * (e - 1)
  let flits := 64 * (e - 1) + 1 + ceilDiv (r - 40) 56
  ceilDiv (flits * 512 * num) (1000000 * den)

/-- Whether a reception pool leaves DRAM or meets a pool, ring or work area (R317). -/
def Dev.recvRangeBad (d : Dev) (base n : Nat) : Bool :=
  decide (2 ^ 36 < base + n) ||
    (d.dec.ctxs.any fun e => match e.2.setup with | some k => rangesMeet base n k.base k.poolSize | none => false) ||
    (d.sys.recvs.any fun e => rangesMeet base n e.2.setup.base (e.2.count * e.2.setup.slotSize)) ||
    (d.enabledHeads.any fun h => (d.inForce h).wbOn && rangesMeet base n (d.inForce h).wbBase (d.inForce h).wbRing) ||
    d.enc.ctxs.any fun e => match e.2.open' with
      | some p => rangesMeet base n p.base (p.ring + p.work)
      | none => false

/-- REMOTE_SETUP (R317): `src` is what the source module and the system manager answer about the source. -/
def remoteSetup (q seq : Nat) (src : RemoteSource) (d : Dev) : Dev :=
  d.onCmd q seq 0x0B00 fun c d => d.withTail q seq c 16 fun d =>
    let m := c.p 0 2
    let k := c.p 2 1
    let base := c.p 8 8
    match (List.range 256).find? fun r => (tabGet? d.sys.recvs r).isNone with
    | none => d.reject q seq 0x0B01
    | some r =>
      if (d.recvOf m k).isSome then d.reject q seq 0x0B02
      else match firstBad [(m < 512 && m != d.moduleId, 0), (c.p 3 1 ≤ 1, 3), (c.p 4 1 ≤ 7, 4), (c.p 5 1 == 0, 5),
          (c.p 6 1 == 0, 6), (c.p 7 1 == 0, 7), (base % 65536 == 0, 8)] with
        | some i => d.finish q seq Status.rejected 0x0B03 i
        | none =>
          if !d.routed m then d.finish q seq Status.noRoute
          else match src.setup with
            | none => d.reject q seq 0x0B04
            | some su =>
              let s : Setup := ⟨su.tenBit, 0, c.p 4 1 + 1, su.maxW, su.maxH, su.type, su.format, base⟩
              let size := s.slots * s.slotSize
              if d.recvRangeBad base size then d.reject q seq 0x0602
              else if !d.lockOf d.moduleId || !d.lockOf m then d.reject q seq 0x0B05
              else
                let g := bit (c.p 3 1) 0
                let res := if g then resOf (s.recordSize s.maxW s.maxH) src.rateNum src.rateDen else 0
                if g && src.links.any fun l => l.2 < l.1 + res then
                  d.refuse q seq 0x0B06
                else
                  let d := d.setRecv r ⟨m, k, g, s, s.lease, [], none, false⟩
                  let d := d.setReg R.RX_STATUS (2 ^ 31 + b2n g * 2 ^ 30 + m * 2 ^ 20 + k * 2 ^ 12 + s.slots) r
                  let d := (d.setReg R.RX_OUT 0 r).setReg R.RX_RES res r
                  let d := [R.RX_PICTURES, R.RX_NO_SLOT, R.RX_DISCARD, R.RX_TIME_REJECT].foldl (fun d x => d.setReg x 0 r) d
                  (d.send (d.get R.PAENT_MGR_MANAGER) (.subscribe m k)).succeed q seq (size % 2 ^ 32 + r * 2 ^ 32)

def execRemoteSetup (t q seq : Nat) (src : RemoteSource) (s : State) : Host.Outcome State Fault Refusal :=
  s.onDev t (remoteSetup q seq src)

/-- REMOTE_CLEAR (R317): OUT is cleared, and the slots are freed as their leases end. -/
def remoteClear (q seq : Nat) (d : Dev) : Dev :=
  d.onCmd q seq 0x0B01 fun c d => d.withTail q seq c 3 fun d =>
    let m := c.p 0 2
    if 512 ≤ m then d.bad q seq 0
    else match d.recvOf m (c.p 2 1) with
      | none => d.succeed q seq 0
      | some (r, v) =>
        let n := d.reg R.RX_PICTURES r
        let slots := (v.slots.map fun e => (e.1, { e.2 with out := false, writing := false })).filter fun e => e.2.lease ≠ 0
        let d := if slots.isEmpty then { d with sys := { d.sys with recvs := tabDel d.sys.recvs r } }
          else d.setRecv r { v with gone := true, rx := none, slots := slots }
        let d := ((d.setReg R.RX_STATUS 0 r).setReg R.RX_OUT 0 r).setReg R.RX_RES 0 r
        (d.send (d.get R.PAENT_MGR_MANAGER) (.unsubscribe m (c.p 2 1))).succeed q seq n

def execRemoteClear (t q seq : Nat) (s : State) : Host.Outcome State Fault Refusal := s.onDev t (remoteClear q seq)

/-! ### Election (R302, R314) -/

/-- Whether candidate (prio, id) `a` is better than `b` (R314): the higher priority other than 0, then the lower ID. -/
def betterCandidate (a b : Nat × Nat) : Bool := a.1 != 0 && (a.1 > b.1 || (a.1 == b.1 && a.2 < b.2))

/-- This module as a candidate. -/
def Dev.mgrCandidate (d : Dev) : Nat × Nat := (d.get R.PAENT_MGR_MGR_PRIO, d.moduleId)

/-- Whether this module is the best candidate that it has heard in the last 500 ms (R314). -/
def Dev.isBest (d : Dev) : Bool :=
  d.mgrCandidate.1 != 0 && d.sys.dir.all fun e =>
    e.1 == d.moduleId || decide (e.2.heard + 500 * qMs ≤ d.now) || !betterCandidate (e.2.prio, e.1) d.mgrCandidate

/-- A forwarded exchange with a manager that has gone ends as for a failed system manager (R164, R314). -/
def Dev.managerLost (d : Dev) : Dev :=
  let d := { d with lay := { d.lay with runs := d.lay.runs.filter fun r => 32 ≤ r.q || d.manages } }
  (List.range 16).foldl (fun d q =>
    ((d.queue q).cmds.filter fun c => c.st == .forwarded && (c.opcode == 0x0801 || c.opcode == 0x0900)).foldl
      (fun d c => d.finish q c.seq Status.ownerUnreachable) d) d

/-- A change of system manager (R314): one event at every module; an interrupted exchange ends. -/
def Dev.setManager (d : Dev) (m : Option Nat) : Dev :=
  if d.sys.manager = m then d
  else
    let runs := if d.manages then d.lay.runs else []
    let own := m == some d.moduleId
    let d := { d with sys := { d.sys with manager := m } }
    let d := (d.put R.PAENT_MGR_IS_MANAGER (b2n own)).put R.PAENT_MGR_MANAGER (m.getD 0)
    let d := runs.foldl (fun d r =>
      if r.q < 32 then (d.endRun r.q r.seq).finish r.q r.seq Status.ownerUnreachable else d.endRun r.q r.seq) d
    d.managerLost.info .managerChange 0xAFFF (m.getD 0xFFFF)

/-- Modules in the directory, this one among them. -/
def Dev.countModules (d : Dev) : Dev :=
  d.put R.PAENT_MGR_MODULES ((d.sys.dir.filter fun e => e.1 != d.moduleId).length + b2n (d.on R.PAENT_ID_VALID))

/-- Whether an announcement may leave on a port: in routing, or out of it only for ID_CONFLICT (R302). -/
def Dev.announces (d : Dev) (p : Nat) : Bool :=
  d.isGrid p && (d.inRouting p || (d.pln p == plnUp && d.get R.PNT_PSTATUS_CAUSE p == 5))

/-- ANNOUNCE_TIMER (R314): every 100 ms this module announces itself on every port. -/
def announceTimer (d : Dev) : Dev :=
  if !d.on R.PAENT_ID_VALID then d
  else
    let d := { d with sys := { d.sys with annNum := d.sys.annNum + 1 } }
    let d := (List.range 4).foldl (fun d p =>
      if d.announces p then d.enqueue p ⟨d.ownEnv 3 7 (d.get R.PNT_PSTATUS_NEIGHBOUR p), none, false, none⟩ else d) d
    let d := { d with sys := { d.sys with bestFrom := if d.isBest then some (d.sys.bestFrom.getD d.now) else none } }
    d.countModules

def execAnnounceTimer (t : Nat) (s : State) : Host.Outcome State Fault Refusal := s.onDev t announceTimer

/-- ANNOUNCE_RECEIVED (R302, R314) on port `p`: the first copy is forwarded and enters the directory. -/
def announceReceived (p : Nat) (a : Announce) (d : Dev) : Dev :=
  let d := d.takeInbox 7
  if 512 ≤ a.module || 4 ≤ p then d
  else if a.module = d.moduleId then
    if a.uid = Config.moduleUid || d.on R.PAENT_MGR_ID_CONFLICT || Config.moduleUid < a.uid then d
    else
      let d := (d.put R.PAENT_MGR_ID_CONFLICT 1).info .idConflict 0x6FFF a.module
      (List.range 4).foldl (fun d p => if d.isGrid p && d.inRouting p then d.leaveRouting p 5 else d) d
  else if (match tabGet? d.sys.dir a.module with | some e => e.uid == a.uid && a.num ≤ e.num | none => false) then d
  else
    let d := { d with sys := { d.sys with
      dir := tabPut d.sys.dir a.module ⟨a.uid, a.x, a.y, a.prio, a.manager, a.num, d.now⟩ } }
    let d := (List.range 4).foldl (fun d k =>
      if k ≠ p && d.announces k then
        d.enqueue k ⟨{ d.ownEnv 3 7 (d.get R.PNT_PSTATUS_NEIGHBOUR k) with src := a.module }, none, false, none⟩ else d) d
    let d := d.countModules
    let d := if betterCandidate (a.prio, a.module) d.mgrCandidate then
        { d with sys := { d.sys with bestFrom := none } } else d
    if a.manager = a.module then
      match d.sys.manager with
      | none => d.setManager (some a.module)
      | some m =>
        let mp := if m = d.moduleId then d.mgrCandidate.1 else ((tabGet? d.sys.dir m).map (·.prio)).getD 0
        if m ≠ a.module && betterCandidate (a.prio, a.module) (mp, m) then d.setManager (some a.module) else d
    else d

def execAnnounceReceived (t p : Nat) (a : Announce) (s : State) : Host.Outcome State Fault Refusal :=
  s.onDev t (announceReceived p a)

/-- ELECTION_TIMER (R314): the best candidate heard for 500 ms becomes system manager. -/
def electionTimer (d : Dev) : Dev :=
  match d.sys.bestFrom with
  | some a =>
    if d.on R.PAENT_ID_VALID && a + 500 * qMs ≤ d.now && d.isBest then d.setManager (some d.moduleId) else d
  | none => d

def execElectionTimer (t : Nat) (s : State) : Host.Outcome State Fault Refusal := s.onDev t electionTimer

/-- MANAGER_SILENCE_TIMEOUT (R314, R316): the manager's announcements have stopped for 500 ms, and this module, which it
no longer reaches, loses time lock. -/
def managerSilence (d : Dev) : Dev :=
  match d.sys.manager with
  | some m =>
    match tabGet? d.sys.dir m with
    | some e =>
      if m ≠ d.moduleId && e.heard + 500 * qMs ≤ d.now then
        let d := { d with sys := { d.sys with dir := tabDel d.sys.dir m, bestFrom := none } }
        let d := { d with sys := { d.sys with bestFrom := if d.isBest then some d.now else none } }
        let me := d.moduleId
        let d := { d with sys := { d.sys with locks := tabSet d.sys.locks ⟨0, 0, false⟩ me ⟨0, 0, false⟩ } }
        let d := if d.on R.PAENT_MGR_TIME_LOCK then (d.put R.PAENT_MGR_TIME_LOCK 0).info .timeLock 0x6FFF 0 else d
        (d.countModules.setManager none)
      else d
    | none => d
  | none => d

def execManagerSilenceTimeout (t : Nat) (s : State) : Host.Outcome State Fault Refusal := s.onDev t managerSilence

/-! ### Time between modules (R315, R316) -/

/-- TIME_EXCHANGE_TIMER (R315): every 1 ms a port in routing, or a pair port, sends a TIME envelope. -/
def timeExchange (p : Nat) (d : Dev) : Dev :=
  if 4 ≤ p || !d.inRouting p then d
  else d.enqueue p ⟨d.ownEnv 0 0 (d.get R.PNT_PSTATUS_NEIGHBOUR p), none, false, none⟩

def execTimeExchangeTimer (t p : Nat) (s : State) : Host.Outcome State Fault Refusal := s.onDev t (timeExchange p)

/-- Mean of a list, toward the floor. -/
def meanInt (xs : List Int) : Int := if xs.isEmpty then 0 else xs.sum / xs.length

/-- TIME_ENVELOPE_RECEIVED (R315): the four stamps, in quarters of a nanosecond of working time. -/
def timeEnvelope (p : Nat) (t1 t2 t3 t4 : Int) (d : Dev) : Dev :=
  let d := d.takeInbox 0
  if 4 ≤ p || !d.inRouting p then d
  else
    let l := d.link p
    let ts := ((((t4 - t1) - (t3 - t2)) / 2, ((t2 - t1) - (t4 - t3)) / 2) :: l.times).take 16
    let d := d.setLink p { l with times := ts }
    ((d.setReg R.PNT_DELAY (ofSigned 32 (meanInt (ts.map (·.1)))) p).setReg R.PNT_OFFSET
      (ofSigned 32 (meanInt (ts.map (·.2)))) p).syncCheck

def execTimeEnvelopeReceived (t p : Nat) (t1 t2 t3 t4 : Int) (s : State) : Host.Outcome State Fault Refusal :=
  s.onDev t (timeEnvelope p t1 t2 t3 t4)

/-- One report of a module's offset from the manager, in quarters of a nanosecond; none when it cannot be reached (R316). -/
def TimeLock.report (k : TimeLock) (o : Option Int) : TimeLock :=
  match o with
  | none => ⟨0, 0, false⟩
  | some v =>
    if v.natAbs ≤ 4000 then ⟨k.good + 1, 0, k.lock || 16 ≤ k.good + 1⟩
    else ⟨0, k.bad + 1, k.lock && k.bad + 1 < 3⟩

/-- TIME_OFFSET_REPORT (R315, R316): the offsets that the system manager sums, by module. -/
def timeReport (rs : List (Nat × Option Int)) (d : Dev) : Dev :=
  rs.foldl (fun d r =>
    let k := (tabGetD d.sys.locks ⟨0, 0, false⟩ r.1).report r.2
    let d := { d with sys := { d.sys with locks := tabSet d.sys.locks ⟨0, 0, false⟩ r.1 k } }
    if r.1 ≠ d.moduleId then d
    else
      let was := d.on R.PAENT_MGR_TIME_LOCK
      let d := match r.2 with
        | some v => d.setReg R.PAENT_TIME_OFFSET (ofSigned 32 (clampInt 2147483647 v))
        | none => d
      if was = k.lock then d else (d.put R.PAENT_MGR_TIME_LOCK (b2n k.lock)).info .timeLock 0x6FFF (b2n k.lock)) d

def execTimeOffsetReport (t : Nat) (rs : List (Nat × Option Int)) (s : State) : Host.Outcome State Fault Refusal :=
  s.onDev t (timeReport rs)

end Sys2Proof.Machine
end

