-- ==== Sys2Proof/Machine/Protect.lean ====
section
/-! DEFINITION. Update mode of the access checkers, region registers, and debug accesses (19). -/

namespace Sys2Proof.Machine

/-- STATE of a checker. -/
def chkInService : Nat := 0
/-- UPDATE. -/
def chkUpdate : Nat := 1
/-- FAULT_CLOSED. -/
def chkFaultClosed : Nat := 2

/-- First and one-past-last page of a region. -/
def Dev.rgnPages (d : Dev) (k r : Nat) : Nat × Nat :=
  (d.get R.RGN_BASE_BASE k r, d.get R.RGN_BASE_BASE k r + d.get R.RGN_SIZE_PAGES k r)

/-- Whether a region is enabled (R385). -/
def Dev.rgnOn (d : Dev) (k r : Nat) : Bool := d.get R.RGN_SIZE_PAGES k r != 0

/-- The lowest enabled region that passes 2³⁶ (R386, R392). -/
def Dev.rangeFault (d : Dev) (k : Nat) : Option Nat :=
  (List.range 64).find? fun r => d.rgnOn k r && decide (2 ^ 24 < (d.rgnPages k r).2)

/-- Whether two enabled regions share a byte. -/
def Dev.rgnMeet (d : Dev) (k a b : Nat) : Bool :=
  d.rgnOn k a && d.rgnOn k b && decide ((d.rgnPages k a).1 < (d.rgnPages k b).2) &&
    decide ((d.rgnPages k b).1 < (d.rgnPages k a).2)

/-- The lowest pair of enabled regions that share a byte (R392). -/
def Dev.overlapFault (d : Dev) (k : Nat) : Option (Nat × Nat) :=
  (List.range 64).findSome? fun a =>
    ((List.range 64).find? fun b => decide (a < b) && d.rgnMeet k a b).map fun b => (a, b)

/-- Regions whose LOCK is 1 are locked from the exit on (R387). -/
def Dev.takeLocks (d : Dev) (k : Nat) : Dev :=
  let new := (List.range 64).filter fun r => d.on R.RGN_CTRL_LOCK k r && !d.prot.locked.contains (k * 64 + r)
  { d with prot := { d.prot with locked := d.prot.locked ++ new.map (k * 64 + ·) } }

/-! ### Debug accesses -/

/-- Status of the last debug access. -/
def Dev.debugRespond (d : Dev) (r : Response) : Dev := { d with prot := { d.prot with debugResp := r } }

/-- A debug access at an open checker (R389, R390). -/
def debugNow (write : Bool) (pa : Nat) (bytes : List Byte) (len : Nat) (x : Dev × Mem) : Dev × Mem :=
  if write then
    let (d, m, ds) := checkedWrite x.1 x.2 2 0 pa bytes
    (d.debugRespond (if ds.isEmpty then .ok else .error), m)
  else
    let (d, bs, ds, ps) := checkedRead x.1 x.2 2 0 pa len
    (d.debugRespond (if !ds.isEmpty then .error else if !ps.isEmpty then .poisoned else .data bs), x.2)

/-- Whether debug is open: always while OPEN, by an answered challenge while SEALED under DEBUG_POLICY 1 (R59); no
access is admitted before the locks of CONFIGURE (R60). -/
def Dev.debugAllowed (d : Dev) (authed : Bool) : Bool :=
  decide (phaseConfigure ≤ d.phase) && d.phase != phaseHalted &&
    (!d.boot.isSealed || (authed && (d.boot.image.map (·.debugPolicy)).getD 0 == 1))

/-- A memory access made through the JTAG port (R383, R389 to R391). -/
def debugAccess (write : Bool) (pa len : Nat) (bytes : List Byte) (authed : Bool) (x : Dev × Mem) : Dev × Mem :=
  if !x.1.debugAllowed authed then (x.1.debugRespond .error, x.2)
  else if x.1.chkClosed 2 then
    ((x.1.debugRespond .none).waitAt 2 (.debug write pa (if write then bytes else List.replicate len 0)), x.2)
  else debugNow write pa bytes len x

def execDebugAccess (t : Nat) (write : Bool) (pa len : Nat) (bytes : List Byte) (authed : Bool) (s : State) :
    Host.Outcome State Fault Refusal := s.onAll t (debugAccess write pa len bytes authed)

/-! ### Update mode (R391 to R393) -/

/-- UPDATE = 1: the checker closes; accesses under check have been decided, commands being indivisible (R392). -/
def updateEnter (k : Nat) (v : Word) (d : Dev) : Dev :=
  if k > 5 then d
  else
    ((d.put R.CHK_CTRL_NOTIFY (b2n (bit v.toNat 30)) k).put R.CHK_CTRL_UPDATE 1 k).put R.CHK_STATUS_STATE chkUpdate k

def execCheckerUpdateEnter (t k : Nat) (v : Word) (s : State) : Host.Outcome State Fault Refusal :=
  s.onDev t (·.gated 0xE00000 (updateEnter k v))

/-- The accesses that wait at a checker are checked against the new regions, in the order of their arrival; a waiting
command goes on through its own row. -/
def runWaiting : List WaitAccess → Dev × Mem → Dev × Mem
  | [], x => x
  | .bar2Read off len :: r, x => runWaiting r (bar2ReadNow off len x)
  | .bar2Write off bs :: r, x => runWaiting r (bar2WriteNow off bs x)
  | .debug w pa bs :: r, x => runWaiting r (debugNow w pa bs bs.length x)
  | .cmd _ _ _ _ :: r, x => runWaiting r x

/-- A checker that is IN_SERVICE again checks what waited for at most 4 µs (R391). -/
def releaseWaiting (k : Nat) (x : Dev × Mem) : Dev × Mem :=
  let w := x.1.prot.waiting.filter fun e => e.1 == k
  let d := { x.1 with prot := { x.1.prot with waiting := x.1.prot.waiting.filter fun e => !(e.1 == k) } }
  runWaiting (w.map (·.2.2)) (d, x.2)

/-- A failed exit check: FAULT_CLOSED, its cause and regions, one event (R392). -/
def Dev.exitFail (d : Dev) (k cause a b : Nat) : Dev :=
  let d := ((d.put R.CHK_STATUS_STATE chkFaultClosed k).put R.CHK_STATUS_EXIT_FAULT cause k)
  ((d.put R.CHK_STATUS_REGION_A a k).put R.CHK_STATUS_REGION_B b k).info .checkerExit (checkerAgent k) cause (a + b * 64)

/-- A passed exit check (R385, R387, R392). -/
def Dev.exitPass (d : Dev) (k : Nat) : Dev :=
  let d := ((d.put R.CHK_STATUS_STATE chkInService k).put R.CHK_STATUS_EXIT_FAULT 0 k).takeLocks k
  let d := (d.put R.CHK_STATUS_REGION_A 0 k).put R.CHK_STATUS_REGION_B 0 k
  if (List.range 64).any (d.rgnOn k) then d.put R.CHK_STATUS_ENFORCING 1 k else d

/-- UPDATE = 0: the exit check, RANGE before OVERLAP (R392). -/
def updateExit (k : Nat) (v : Word) (x : Dev × Mem) : Dev × Mem :=
  if !x.1.hostAlive || x.1.offClosed 0xE00000 || k > 5 then x
  else
    let d := (x.1.put R.CHK_CTRL_NOTIFY (b2n (bit v.toNat 30)) k).put R.CHK_CTRL_UPDATE 0 k
    if d.get R.CHK_STATUS_STATE k ≠ chkUpdate then (d, x.2)
    else match d.rangeFault k with
      | some r => (d.exitFail k 1 r 0, x.2)
      | none =>
        match d.overlapFault k with
        | some (a, b) => (d.exitFail k 2 a b, x.2)
        | none => releaseWaiting k (d.exitPass k, x.2)

def execCheckerUpdateExit (t k : Nat) (v : Word) (s : State) : Host.Outcome State Fault Refusal :=
  s.onAll t (updateExit k v)

/-- An access fails with CLOSED (R389, R391, R426). -/
def Dev.failClosed (d : Dev) (k : Nat) (a : WaitAccess) : Dev :=
  match a with
  | .bar2Read off _ => (d.checkerFault k false 0 (d.bar2Pa off) 4).respond .completerAbort
  | .bar2Write off _ => d.checkerFault k true 0 (d.bar2Pa off) 4
  | .debug w pa _ => (d.checkerFault k w 0 pa 4).debugRespond .error
  | .cmd q seq w pa =>
    ((d.checkerFault k w (cmdMaster q) pa 4).feedFailed q seq 0x0E05).finish q seq Status.closed 0x0E05

/-- 4 µs have passed since the oldest waiting access of a checker arrived (R391). -/
def closedTimeout (k : Nat) (d : Dev) : Dev :=
  match d.prot.waiting.find? fun e => e.1 == k with
  | some e =>
    if e.2.1 + 4 * qUs ≤ d.now && d.chkClosed k then
      { d with prot := { d.prot with waiting := d.prot.waiting.erase e } }.failClosed k e.2.2
    else d
  | none => d

def execCheckerClosedTimeout (t k : Nat) (s : State) : Host.Outcome State Fault Refusal :=
  s.onDev t (closedTimeout k)

/-- A write of RGN_CTRL, RGN_BASE or RGN_SIZE (register 0, 1, 2): never in a locked region, each try recorded (R387);
otherwise in update mode only (R391). -/
def regionWrite (k r reg : Nat) (v : Word) (d : Dev) : Dev :=
  if k > 5 || r > 63 then d
  else if d.prot.locked.contains (k * 64 + r) then d.info .lockedWrite (checkerAgent k) r reg
  else if d.get R.CHK_STATUS_STATE k ≠ chkUpdate then d
  else match reg with
    | 0 => d.setReg R.RGN_CTRL (v.toNat &&& 0xE0000000) k r
    | 1 => d.setReg R.RGN_BASE (v.toNat &&& 0xFFFFFF00) k r
    | 2 => d.setReg R.RGN_SIZE (v.toNat &&& 0x01FFFFFF) k r
    | _ => d

def execRegionRegisterWrite (t k r reg : Nat) (v : Word) (s : State) : Host.Outcome State Fault Refusal :=
  s.onDev t (·.gated 0xE00000 (regionWrite k r reg v))

end Sys2Proof.Machine
end

