-- ==== Sys2Proof/Machine/RegAccess.lean ====
section
/-! DEFINITION. Register access: what a read of any register of BAR0 returns and latches, what a host write of any
register does, and the two block commands (R4, R5, R24, R37). -/

namespace Sys2Proof.Machine

/-! ### Reads -/

/-- A measured quantity, which the manual leaves to the sensors (log 17). -/
def Dev.measured (d : Dev) (use : Nat) : Nat := (Config.freeWord (32 + use) d.now).toNat

/-- The group that the image in force binds a scaler to (R48). -/
def Dev.scalerGroup (d : Dev) (i : Nat) : Option Nat :=
  (d.img.bindings.find? fun b => if i < 64 then bit b.wide i else bit b.narrow (i - 64)).map (·.group)

/-- The suppressed count of the event with a NUMBER (R437). -/
def Dev.suppressedOf (d : Dev) (n : Nat) : Nat :=
  match d.recd.suppressed.find? fun e => e.1 / 256 * 64 + evIndex (e.1 % 256) == n with
  | some e => e.2
  | none => 0

/-- Hottest case temperature of the DRAM read so far (R365). -/
def Dev.dramMax (d : Dev) : Nat :=
  match (d.mctl.temps.flatMap (·.2)).max? with
  | some t => ofSigned 8 t
  | none => 0

/-- A register's value, where it is computed from the state when it is read. -/
def Dev.readValue (d : Dev) (r : RegDesc) (i j : Nat) : Nat :=
  let v := d.reg r i j
  if r = R.WT_OFFSET_LO then ofSigned 64 d.wtOffset % 2 ^ 32
  else if r = R.TS_CAL then (Config.tsCal i).toNat
  else if r = R.REFSEL_PULL then ofSigned 32 d.pullLeft
  else if r = R.HEAD_PART_BASE then (d.partition i).1
  else if r = R.HEAD_PART_SIZE then (d.partition i).2
  else if r = R.SCALER_STATUS then
    match d.scalerGroup i with
    | some g => putBits (putBits v 29 29 1) 26 24 g
    | none => v
  else if r = R.FRESH_SUMMARY then d.boundViews.length * 2 ^ 16 + d.summaryWord
  else if r = R.VIEW_MAP then
    match d.viewLayer i with
    | some l => 2 ^ 31 + l
    | none => 0
  else if r = R.SSP_IMAGE then d.sspBank i
  else if r = R.ENC_ENG_STATUS then putBits v 29 29 (b2n (d.encBacklog i))
  else if r = R.PLN_STATUS then
    if d.pln i = plnAbsent || d.pln i = plnWait then putBits v 7 0 (((d.lanes i).retryAt - d.now + qS - 1) / qS) else v
  else if r = R.PAIR_STATUS then putBits v 11 0 d.wtrLeft
  else if r = R.PAIR_MIRROR_LAG then min 0xFFFF (d.pair.sent - d.pair.acked)
  else if r = R.REC_SUPPRESSED then d.suppressedOf i
  else if r = R.PWR_STATUS then
    putBits (putBits (putBits v 28 28 (b2n (decide (156 ≤ d.measured 0 % 256)))) 24 24 (d.measured 6)) 7 0 (d.measured 0)
  else if r = R.PWR_FEED_A then d.measured 1
  else if r = R.PWR_FEED_B then d.measured 2
  else if r = R.PWR_INPUT then d.measured 3
  else if r = R.THERM_STATUS then
    putBits (putBits (putBits v 31 24 (d.measured 4)) 23 16 d.dramMax) 15 8 (d.measured 5)
  else v

/-- A low word that latches: the register and the value that its companion takes (R4 and the registers' chapters). -/
def Dev.latchOn (d : Dev) (r : RegDesc) (i : Nat) : Dev :=
  let take : RegDesc → Dev → Dev := fun hi d => d.setReg hi (d.live hi i) i
  if r = R.WT_OFFSET_LO then d.setReg R.WT_OFFSET_HI (ofSigned 64 d.wtOffset / 2 ^ 32)
  else if r = R.CTX_PM_LO then take R.CTX_PM_HI d
  else if r = R.LAYER_PM_LO then take R.LAYER_PM_HI d
  else if r = R.TCH_SCAN_LO then
    (List.range 20).foldl (fun d j => d.setReg R.TCH_SLOT (tabGetD d.latch 0 (R.TCH_SLOT.off i j)).toNat i j)
      (take R.TCH_SCAN_HI d)
  else if r = R.ADC_TIME_LO then
    (List.range 16).foldl (fun d j => d.setReg R.ADC_DATA (d.live R.ADC_DATA j) j) (take R.ADC_TIME_HI d)
  else if r = R.CC_NEXT_LO then take R.CC_NEXT_HI d
  else if r = R.CH_ERR_LO then take R.CH_ERR_HI d
  else if r = R.CHK_FAULT_LO then take R.CHK_FAULT_HI d
  else if r = R.LG_FAULT_LO then take R.LG_FAULT_HI d
  else d

/-- A read of an offset: its value, and the state with what it latches. An offset that is unassigned, or closed by the
boot phase, reads 0 (R24, R65). -/
def Dev.readAt (d : Dev) (off : Nat) : Dev × Nat :=
  if d.offClosed off then (d, 0)
  else match regAt off with
    | none => (d, 0)
    | some (row, i, j) =>
      if row.reg = R.CAP_TIME_LO then capRead i d
      else (d.latchOn row.reg i, d.readValue row.reg i j &&& readMask row)

/-- LOW_WORD_LATCH_READ (R4): a 32-bit read of a register; one that is not naturally aligned completes with an error. -/
def hostRead (off size : Nat) (d : Dev) : Dev :=
  if !d.hostAlive then d
  else if size ≠ 4 || off % 4 ≠ 0 || 2 ^ 25 ≤ off then d.respond .error
  else if !d.offClosed off && d.offDown off then d.respond .error
  else (d.readAt off).1.respond (.data (leBytes 4 (d.readAt off).2))

def execLowWordLatchRead (t off size : Nat) (s : State) : Host.Outcome State Fault Refusal := s.onDev t (hostRead off size)

/-! ### Writes -/

/-- Bits of a descriptor word that are not reserved (R152). -/
def ldMask : Nat → Nat
  | 0 => 0xFF801FFF
  | 8 => 0x000FFFFF
  | 9 => 0xFFF00000
  | 10 => 0xF003FFFF
  | 11 => 0x03FFFFFF
  | 12 => 0x03FFFFFF
  | 13 => 0xFFC003FF
  | j => if j < 16 then 0xFFFFFFFF else 0

/-- Whether a plain register takes a value: those with a range ignore what lies outside it. -/
def Dev.takes (d : Dev) (r : RegDesc) (i n : Nat) : Bool :=
  if r = R.SQ_BASE_LO || r = R.SQ_BASE_HI || r = R.Q_EXP_SEQ then !d.on R.Q_CTRL_ENABLE i && i != evQ
  else if r = R.CQ_BASE_LO || r = R.CQ_BASE_HI then !d.on R.Q_CTRL_ENABLE i
  else if r = R.FWD_TIMEOUT then 1 ≤ bits n 13 0 && bits n 13 0 ≤ 10000
  else if r = R.TIME_HOLDOVER_TRUST then decide (bits n 21 0 ≤ 3600000)
  else if r = R.HEAD_CHASE_LEAD then 8 ≤ bits n 11 0 && bits n 11 0 ≤ 2159
  else if r = R.HEAD_MODE then decide (bits n 5 0 < 48)
  else if r = R.HEAD_ASYNC then bits n 25 24 != 3
  else if r = R.GOV_LIMIT then decide (bits n 5 0 ≤ 48)
  else if r = R.ENC_RPTR then
    match (d.encCtx i).open' with
    | some o => decide (bits n 27 0 < o.ring)
    | none => false
  else true

/-- A write by the access type of each bit (R5). While a capture unit is enabled only its ENABLE takes writes, and
clearing OVERRUN clears LOST too (R89). -/
def Dev.plainWrite (d : Dev) (row : RegRow) (i j : Nat) (v : Word) : Dev :=
  let r := row.reg
  if !d.takes r i v.toNat then d
  else if r = R.CAP_CTRL && d.on R.CAP_CTRL_ENABLE i then d.put R.CAP_CTRL_ENABLE (bits v.toNat 31 31) i
  else if r = R.CAP_STATUS then if bit v.toNat 31 then (d.put R.CAP_STATUS_OVERRUN 0 i).put R.CAP_STATUS_LOST 0 i else d
  else if r = R.LD_SHADOW then d.setReg r (v.toNat &&& ldMask j) i j
  else d.setReg r (hostWriteValue row (d.reg r i j) v.toNat) i j

/-- A write of a fault record's upper word (R396): clearing VALID clears OVERFLOW too, and the next fault is the first. -/
def Dev.faultClear (d : Dev) (r : RegDesc) (key i : Nat) (v : Word) : Dev :=
  let n := v.toNat
  let gone := if bit n 31 then 0xC0000000 else n &&& 0x40000000
  let d := d.setReg r (d.reg r i ^^^ (d.reg r i &&& gone)) i
  let d := d.setLatch r (d.live r i ^^^ (d.live r i &&& gone)) i
  let faults := if bit n 31 then tabDel d.prot.faults key
    else match tabGet? d.prot.faults key with
      | some f => tabPut d.prot.faults key { f with hi := f.hi &&& ~~~(BitVec.ofNat 32 gone) }
      | none => d.prot.faults
  { d with prot := { d.prot with faults := faults } }

/-- A write of ADC_STATUS: BAD_CONFIG is W1C, and 0xFFFF in bits [15:0] clears MISSED. -/
def Dev.adcStatus (d : Dev) (v : Word) : Dev :=
  let d := if bit v.toNat 30 then d.put R.ADC_STATUS_BAD_CONFIG 0 else d
  if bits v.toNat 15 0 = 0xFFFF then d.put R.ADC_STATUS_MISSED 0 else d

/-- What a write of a register does, whoever writes it. -/
def Dev.regWrite (d : Dev) (row : RegRow) (i j : Nat) (v : Word) : Dev :=
  let r := row.reg
  let n := v.toNat
  if r = R.BAR2_OFFSET then bar2OffsetWrite v d
  else if r = R.Q_CTRL then if bit n 31 then queueEnable i v d else queueDisable i v d
  else if r = R.SQ_TAIL_DB then sqDoorbell i v d
  else if r = R.CQ_HEAD_DB then cqDoorbell i v d
  else if r = R.FENCE_VAL then fenceWrite i v d
  else if r = R.TIME_SNAP then timeSnap v d
  else if r = R.TB_RATE_ADJ then if i = 3 then tb3Rate v d else d
  else if r = R.TB3_APPLY then tb3Apply v d
  else if r = R.PPS_CTRL then ppsCtrl v d
  else if r = R.TRIG_CTRL then trigWrite i v (d.trigHeld i) d
  else if r = R.REFSEL_CTRL then refselApply v d
  else if r = R.REF_CFG then refCfgApply i v d
  else if r = R.ETH_CTRL then ethCtrl i v d
  else if r = R.FLOW_CTRL then flowApply i v d
  else if r = R.HEAD_OUT_FMT then outFmtWrite i v d
  else if r = R.DP_CTRL then
    if bit n 31 then dpCtrlApply i v (d.port i).caps d else d.setReg R.DP_CTRL (n &&& 0x4F000000) i
  else if r = R.TCH_CTRL then touchCtrl i v d
  else if r = R.ADC_CTRL then adcCtrl v d
  else if r = R.ADC_STATUS then d.adcStatus v
  else if r = R.GPIO_OUT then gpioOut v d
  else if r = R.PAENT_ID then paentId v d
  else if r = R.PLN_CTRL then plnCtrl i v d
  else if r = R.LN_CTRL then laneCtrl i j v d
  else if r = R.PAIR_CTRL then pairCtrl v d
  else if r = R.PAIR_CMD then pairCmd v d
  else if r = R.MIG_THROTTLE then throttleWrite v d
  else if r = R.CHK_FAULT_HI then d.faultClear r i i v
  else if r = R.LG_FAULT_HI then d.faultClear r 6 0 v
  else if r = R.RGN_CTRL then regionWrite i j 0 v d
  else if r = R.RGN_BASE then regionWrite i j 1 v d
  else if r = R.RGN_SIZE then regionWrite i j 2 v d
  else if r = R.CRC_CTRL then crcCtrl i v d
  else if r = R.CRC_DATA8 then crcData 1 i v d
  else if r = R.CRC_DATA16 then crcData 2 i v d
  else if r = R.CRC_DATA32 then crcData 4 i v d
  else d.plainWrite row i j v

/-- A write at an offset that is open and whose block has its clock; an unassigned offset takes nothing and writes one
recorder event (R24). -/
def writeAt (off : Nat) (v : Word) (x : Dev × Mem) : Dev × Mem :=
  match regAt off with
  | none => (x.1.info .unassignedWrite 0x0FFF off v.toNat, x.2)
  | some (row, i, j) =>
    if row.reg = R.CHK_CTRL then
      if bit v.toNat 31 then (updateEnter i v x.1, x.2) else updateExit i v x
    else (x.1.regWrite row i j v, x.2)

/-- REGISTER_WRITE (R4, R5, R24, R65, R351). -/
def hostWrite (off size : Nat) (v : Word) (x : Dev × Mem) : Dev × Mem :=
  let d := x.1
  if !d.hostAlive then x
  else if size ≠ 4 || off % 4 ≠ 0 || 2 ^ 25 ≤ off then (d.respond .error, x.2)
  else if d.offClosed off then x
  else if d.offDown off then (d.respond .error, x.2)
  else if mirrored off then (d.hostEffect off v fun d => (writeAt off v (d, x.2)).1, x.2)
  else writeAt off v x

def execRegisterWrite (t off size : Nat) (v : Word) (s : State) : Host.Outcome State Fault Refusal :=
  s.onAll t (hostWrite off size v)

/-! ### Block commands (R37) -/

/-- Read registers in ascending order: the state, the values read, and whether a block without its clock stopped it. -/
def readBlock : Nat → Nat → Dev → List Nat → Dev × List Nat × Bool
  | 0, _, d, vs => (d, vs.reverse, false)
  | n + 1, off, d, vs =>
    if !d.offClosed off && d.offDown off then (d, vs.reverse, true)
    else readBlock n (off + 4) (d.readAt off).1 ((d.readAt off).2 :: vs)

/-- REG_READ_BLOCK. -/
def regReadBlock (q seq : Nat) (d : Dev) : Dev :=
  d.onCmd q seq 0x0005 fun c d =>
    let off := c.p 0 4
    let n := c.p 4 4
    if off % 4 ≠ 0 then d.finish q seq Status.invalidField 0
    else if 2 ^ 25 < off + 4 * n then d.finish q seq Status.invalidField 4
    else d.withTail q seq c 16 fun d =>
      if n = 0 then d.succeed q seq 0
      else if !d.host.busMaster then d.finish q seq Status.accessDenied 0x0E06
      else
        let (d, vs, down) := readBlock n off d []
        let d := d.hostPut (c.p 8 8) (vs.flatMap (leBytes 4))
        if down then d.finish q seq Status.domainDown 0 vs.length else d.succeed q seq n

def execRegReadBlock (t q seq : Nat) (s : State) : Host.Outcome State Fault Refusal := s.onDev t (regReadBlock q seq)

/-- Apply pairs in order; the first that fails ends the command with the number applied before it. -/
def writeBatch (q seq : Nat) : List Byte → Nat → Nat → Dev × Mem → Dev × Mem
  | _, 0, done, x => (x.1.succeed q seq done, x.2)
  | bs, n + 1, done, x =>
    let off := leAt bs 0 4
    if off % 4 ≠ 0 || 2 ^ 25 ≤ off then (x.1.finish q seq Status.invalidField 0 done, x.2)
    else if x.1.offClosed off then writeBatch q seq (bs.drop 8) n (done + 1) x
    else if x.1.offDown off then (x.1.finish q seq Status.domainDown 0 done, x.2)
    else writeBatch q seq (bs.drop 8) n (done + 1) (writeAt off (BitVec.ofNat 32 (leAt bs 4 4)) x)

/-- REG_WRITE_BATCH: both units of a pair run it, so its writes are not mirrored again. -/
def regWriteBatch (q seq : Nat) (x : Dev × Mem) : Dev × Mem :=
  onCmdMem x.1 x.2 q seq 0x0006 fun c d m =>
    let n := c.p 8 4
    if !c.tailZero 12 then (d.withTail q seq c 12 id, m)
    else if n = 0 then (d.succeed q seq 0, m)
    else match c.hostData with
      | some (bs, []) => writeBatch q seq bs n 0 (d, m)
      | _ => (d.withHost q seq c fun _ d => d, m)

def execRegWriteBatch (t q seq : Nat) (s : State) : Host.Outcome State Fault Refusal := s.onAll t (regWriteBatch q seq)

end Sys2Proof.Machine
end

