-- ==== Sys2Proof/Machine/Mirror.lean ====
section
/-! DEFINITION. The mirror between the units of a pair: records as the standby applies them, snapshots, and the answers
that the active unit receives (R351 to R356, R429). -/

namespace Sys2Proof.Machine

/-! ### Snapshots (R354) -/

/-- The 64-byte entry of an accepted command. -/
def Cmd.entry (c : Cmd) : List Byte :=
  leBytes 4 c.seq ++ leBytes 2 c.opcode ++ leBytes 2 c.flags ++ leBytes 2 c.target ++ leBytes 2 c.acqFence ++
    leBytes 4 c.acqValue ++ leBytes 2 c.relFence ++ leBytes 2 0 ++ leBytes 4 c.relValue ++ leBytes 6 c.deadline ++
    leBytes 2 0 ++ leBytes 4 c.origSeq ++ c.param

/-- The first offset of registers whose settings are applied by an APPLY bit 31, in a mirrored block. -/
def applied (off : Nat) : Bool :=
  off == 0x380004 || (0x380100 ≤ off && off < 0x380280 && off % 0x20 == 0) ||
    (0x410000 ≤ off && off < 0x420000 && off % 0x40 == 0) || off == 0x1000000 || off == 0x1001000 || off == 0x1004000

/-- The records of a snapshot of every mirrored item: queues with the commands whose completion is not written, registers
that differ from reset, staged words before the word that applies them, parameters in force and reception entries. -/
def Dev.snapItems (d : Dev) : List MirrorItem :=
  let queues := (List.range 16).flatMap fun q =>
    let s := d.queue q
    MirrorItem.queuePos q (d.reg R.Q_EXP_SEQ q) (d.get R.Q_STATUS_SQ_HEAD q) (d.reg R.Q_DONE_SEQ q) s.cqTail s.phase ::
      s.cmds.flatMap fun c =>
        let size := 2 ^ d.get R.Q_CTRL_SQ_LOG2 q
        let at' := (d.get R.Q_STATUS_SQ_HEAD q + size - 1) % size
        [.accepted q at' c.entry] ++
          (match c.hostData with | some (bs, ps) => [.params q c.seq bs ps] | none => []) ++
          (match c.out with
            | some o => [.outcome q c.seq ⟨o.status, o.reason, o.detail, o.source, o.result⟩ c.ctime]
            | none => [])
  let regs := (d.regs.filter fun e => mirrored e.1).reverse.map fun e =>
    MirrorItem.regWrite e.1 (if applied e.1 then e.2 ||| 0x80000000 else e.2)
  let params := d.pair.params.map fun e => MirrorItem.inForce (e.1 / 256) e.2
  let recvs := (d.sys.recvs.filter fun e => !e.2.gone).map fun e =>
    MirrorItem.reception ⟨e.1, e.2.module, e.2.context, e.2.guaranteed,
      ⟨e.2.setup.tenBit, e.2.setup.maxW, e.2.setup.maxH, e.2.setup.type, e.2.setup.format⟩, e.2.lease, e.2.setup.base,
      d.reg R.RX_RES e.1⟩
  [.snapBegin] ++ regs ++ params ++ recvs ++ queues ++ [.snapEnd]

/-- Send a snapshot. -/
def Dev.sendSnapshot (d : Dev) : Dev :=
  d.snapItems.foldl (fun d x => d.setPair { d.pair with
    out := .item d.pair.sent x :: d.pair.out, sent := d.pair.sent + 1 }) d

/-! ### Records at the standby (R352, R354, R355) -/

/-- The queue on which the standby runs a command that a snapshot stands for. -/
def snapQ : Nat := 31

/-- Run `f` on a started command of its own. -/
def Dev.asCommand (d : Dev) (opcode : Nat) (param : List Byte) (f : Nat → Nat → Dev → Dev) : Dev :=
  let e := leBytes 4 0 ++ leBytes 2 opcode ++ List.replicate 30 0 ++ param
  let d := d.setCmds snapQ [{ Cmd.ofEntry e 0 with st := .started }]
  (f snapQ 0 d).setCmds snapQ []

/-- Key of what an item sets: a context's or setup's parameters, or a reception entry. -/
def inForceKey (opcode : Nat) (param : List Byte) : Nat := opcode * 256 + leAt param 0 1

/-- Parameters in force become this unit's own (R351). -/
def Dev.takeParams (d : Dev) (opcode : Nat) (param : List Byte) : Dev :=
  let d := d.setPair { d.pair with seen := inForceKey opcode param :: d.pair.seen }
  if tabGet? d.pair.params (inForceKey opcode param) = some param then d
  else if opcode = 0x0400 then
    (d.asCommand 0x0401 (param.take 1 ++ List.replicate 27 0) streamClose).asCommand opcode param streamOpen
  else if opcode = 0x0600 then d.asCommand opcode param decodeSetup
  else d

/-- A reception entry of the active unit (R317, R351). -/
def Dev.takeReception (d : Dev) (r : Reception) : Dev :=
  let d := d.setPair { d.pair with seen := (2 ^ 24 + r.entry) :: d.pair.seen }
  let g := r.geometry
  let s : Setup := ⟨g.tenBit, 0, r.lease, g.maxW, g.maxH, g.type, g.format, r.base⟩
  match tabGet? d.sys.recvs r.entry with
  | some v => if v.module = r.module && v.context = r.context && v.setup = s && !v.gone then d
    else d.setRecv r.entry ⟨r.module, r.context, r.guaranteed, s, r.lease, [], none, false⟩
  | none =>
    let d := d.setRecv r.entry ⟨r.module, r.context, r.guaranteed, s, r.lease, [], none, false⟩
    let v := 2 ^ 31 + b2n r.guaranteed * 2 ^ 30 + r.module * 2 ^ 20 + r.context * 2 ^ 12 + s.slots
    ((d.setReg R.RX_STATUS v r.entry).setReg R.RX_OUT 0 r.entry).setReg R.RX_RES r.res r.entry

/-- A snapshot begins: what it replaces is dropped. -/
def Dev.snapStart (d : Dev) : Dev :=
  let d := { d with
    regs := d.regs.filter (fun e => !mirrored e.1 || (0x180000 ≤ e.1 && e.1 < 0x181000))
    net := { d.net with flows := [] }
    lay := { d.lay with commits := d.lay.commits.filter fun c => decide (16 ≤ c.q) } }
  let d := (List.range 16).foldl (fun d q => d.setCmds q []) d
  d.setPair { d.pair with
    snapDone := false, ackAt := none, groupsOk := [], theirs := [], expects := [], readies := [], notices := []
    recNotices := [], seen := [] }

/-- A snapshot ends: contexts, setups and entries that it did not name end. -/
def Dev.snapFinish (d : Dev) : Dev :=
  let stale := d.pair.params.filter fun e => e.1 / 256 == 0x0400 && !d.pair.seen.contains e.1
  let d := stale.foldl (fun d e => d.asCommand 0x0401 (e.2.take 1 ++ List.replicate 27 0) streamClose) d
  let gone := d.sys.recvs.filter fun e => !d.pair.seen.contains (2 ^ 24 + e.1)
  let d := gone.foldl (fun d e =>
    d.asCommand 0x0B01 (leBytes 2 e.2.module ++ leBytes 1 e.2.context ++ List.replicate 25 0) remoteClear) d
  d.setPair { d.pair with snapDone := true, seen := [] }

/-- The active unit wrote a record: the standby drops its own, held or still to come. -/
def Dev.recordGone (d : Dev) (entry : List Byte) : Dev :=
  let s := d.queue evQ
  match s.records.find? fun r => sameRecord r.bytes entry with
  | some r =>
    (d.setQueue evQ { s with records := s.records.erase r }).put R.EVQ_HELD_HELD (s.records.length - 1) evQ
  | none => d.setPair { d.pair with recNotices := d.pair.recNotices ++ [entry] }

/-- One mirror record takes effect. -/
def applyItem (i : MirrorItem) (x : Dev × Mem) : Dev × Mem :=
  let d := x.1
  match i with
  | .snapBegin => x
  | .snapEnd => (d.snapFinish, x.2)
  | .queuePos q expSeq sqHead doneSeq cqTail phase =>
    if 16 ≤ q then x
    else
      let d := ((d.setReg R.Q_EXP_SEQ expSeq q).put R.Q_STATUS_SQ_HEAD sqHead q).setReg R.Q_DONE_SEQ doneSeq q
      (d.setQueue q { d.queue q with cqTail := cqTail, phase := phase }, x.2)
  | .inForce opcode param => (d.takeParams opcode param, x.2)
  | .reception r => (d.takeReception r, x.2)
  | .accepted q sqIndex entry =>
    if 16 ≤ q then x
    else
      let size := 2 ^ d.get R.Q_CTRL_SQ_LOG2 q
      let c := Cmd.ofEntry entry d.host.accepted
      let d := (d.put R.Q_STATUS_SQ_HEAD ((sqIndex + 1) % size) q).setReg R.Q_EXP_SEQ (c.seq + 1) q
      let d := d.setCmds q ((d.queue q).cmds ++ [c])
      ({ d with host := { d.host with accepted := d.host.accepted + 1 } }, x.2)
  | .params q seq bytes poisoned =>
    (d.updCmd q seq fun c => { c with
      hostData := some (match c.hostData with
        | none => (bytes, poisoned)
        | some (b0, p0) => (b0 ++ bytes, p0 ++ poisoned.map (· + b0.length / 64))) }, x.2)
  | .marker q seq => (commitSnapshot q seq (commitQueue q seq (commandStart q seq d)), x.2)
  | .ready q seq n => ((d.setPair { d.pair with readies := d.pair.readies ++ [(q, seq, n)] }).settleReady q seq, x.2)
  | .outcome q seq o ctime =>
    let d := (d.setPair { d.pair with expects := d.pair.expects ++ [(q, seq, o, ctime)] }).settle q seq
    (d.popWritten (d.queue q).cmds.length q, x.2)
  | .written q seq cqTail phase =>
    let d := d.setPair { d.pair with notices := d.pair.notices ++ [(q, seq)] }
    let d := d.setQueue q { d.queue q with cqTail := cqTail, phase := phase }
    (d.popWritten (d.queue q).cmds.length q, x.2)
  | .recordWritten entry cqTail phase =>
    let d := d.recordGone entry
    (d.setQueue evQ { d.queue evQ with cqTail := cqTail, phase := phase }, x.2)
  | .regWrite off v =>
    if 0x180000 ≤ off && off < 0x181000 && !d.pair.snapDone then
      (d.setReg R.FENCE_VAL v.toNat ((off - 0x180000) / 4), x.2)
    else writeAt off v x
  | .applied g n => (d.setPair { d.pair with theirs := tabPut d.pair.theirs g n }, x.2)
  | .planned h => (if d.pst = prStandby then d.planClaim h true 3 else d, x.2)
  | .times ws => (d.setPair { d.pair with partnerTimes := ws }, x.2)

/-- Apply record `n` and acknowledge it. -/
def applyRecord (n : Nat) (i : MirrorItem) (x : Dev × Mem) : Dev × Mem :=
  let d := x.1.setPair { x.1.pair with next := n + 1 }
  let d := if i = .snapBegin then d.snapStart else d
  let y := applyItem i (d, x.2)
  if y.1.follows && y.1.pair.next = n + 1 then
    ((y.1.setPair { y.1.pair with ackAt := some y.1.now }).reply (.ack n), y.2)
  else y

/-- Apply the records that came ahead, in order; `fuel` bounds their number. -/
def applyAhead : Nat → Dev × Mem → Dev × Mem
  | 0, x => x
  | k + 1, x =>
    let p := x.1.pair
    match if p.next = 0 then none else tabGet? p.ahead p.next with
    | some i => applyAhead k (applyRecord p.next i (x.1.setPair { p with ahead := tabDel p.ahead p.next }, x.2))
    | none => x

/-- MIRROR_RECORD (R352): records are applied in number order; before the snapshot's first record none is. -/
def mirrorRecord (n : Nat) (i : MirrorItem) (x : Dev × Mem) : Dev × Mem :=
  let p := x.1.pair
  let start := x.1.pst == prSyncing && i == .snapBegin
  if !x.1.follows || (!start && p.next ≠ 0 && n < p.next) then x
  else
    let y :=
      if start || (p.next ≠ 0 && n = p.next) then
        applyRecord n i (x.1.setPair { p with ahead := p.ahead.filter fun e => decide (n < e.1) }, x.2)
      else (x.1.setPair { p with ahead := tabPut p.ahead n i }, x.2)
    let y := applyAhead y.1.pair.ahead.length y
    let q := y.1.pair
    let gap := if q.next = 0 || q.ahead.isEmpty then none
      else if q.next = p.next then some (q.gapAt.getD y.1.now)
      else some y.1.now
    ((y.1.setPair { q with gapAt := gap }).flushHeld.syncCheck, y.2)

def execMirrorRecord (t n : Nat) (item : MirrorItem) (s : State) : Host.Outcome State Fault Refusal :=
  s.onAll t (mirrorRecord n item)

/-- MIRROR_GAP_TIMEOUT (R429): a gap is not filled within 1 ms; the unit is SYNCING and asks for a snapshot. -/
def mirrorGap (d : Dev) : Dev :=
  match d.pair.gapAt with
  | some a =>
    if d.now < a + qMs then d
    else if d.pst = prStandby then d.resync
    else if d.pst = prSyncing then
      (d.setPair { d.pair with next := 0, ahead := [], gapAt := none, snapDone := false }).reply .snapshotRequest
    else d
  | none => d

def execMirrorGapTimeout (t : Nat) (s : State) : Host.Outcome State Fault Refusal := s.onDev t mirrorGap

/-! ### Answers at the active unit (R353, R354, R356) -/

/-- A command and its outcome are confirmed: its completion may be written; a confirmation that comes before the outcome is
kept. -/
def Dev.confirm (d : Dev) (q seq : Nat) : Dev :=
  if (d.queue q).cmds.any fun c => c.seq == seq && c.awaiting then
    (d.setCmds q (updFirst (fun c => c.seq == seq && c.awaiting) (fun c => { c with awaiting := false })
      (d.queue q).cmds)).flushQueue q
  else if (d.cmd? q seq).isSome then d.setPair { d.pair with confirmed := d.pair.confirmed ++ [(q, seq)] }
  else d

/-- MIRROR_CONFIRMATION. -/
def mirrorReply (r : MirrorReply) (d : Dev) : Dev :=
  if d.pst ≠ prActive then d
  else match r with
    | .ack n => d.setPair { d.pair with acked := max d.pair.acked (n + 1) }
    | .confirm q seq => if q < 16 then d.confirm q seq else d
    | .diverged => d.ackAlone
    | .snapshotRequest => d.ackAlone.sendSnapshot
    | .revert => if d.pair.release.isSome then d else d.planRelease

def execMirrorConfirmation (t : Nat) (r : MirrorReply) (s : State) : Host.Outcome State Fault Refusal :=
  s.onDev t (mirrorReply r)

end Sys2Proof.Machine
end

