-- ==== Sys2Proof/Machine/Image.lean ====
section
/-! DEFINITION. Structure images (03): parsing, and validation in the order of R56. -/

namespace Sys2Proof.Machine

/-- A validation failure: REASON, section TYPE (0 for the container), image byte offset of the field (R56). -/
structure ImgFail where
  reason : Nat
  type : Nat
  off : Nat
  deriving DecidableEq, Repr

/-- Under which rules an image is checked (R58): the lifecycle, fused keys, revoked indices, and the KEY_MASK of the
image in force, none at boot. -/
structure ImgRules where
  isSealed : Bool
  keys : Tab Nat
  revoked : List Nat
  keyMask : Option Nat
  deriving DecidableEq, Repr

/-- A failure when a condition holds. -/
def failIf (c : Bool) (reason type off : Nat) : Option ImgFail := if c then some ⟨reason, type, off⟩ else none

/-- The first failure of a list. -/
def firstFail (l : List (Option ImgFail)) : Option ImgFail := l.findSome? id

/-- The first byte that is not 0 among `n` bytes at `off`, as an offset. -/
def nonZeroIn (bs : List Byte) (off n : Nat) : Option Nat :=
  (((bs.drop off).take n).findIdx? (· ≠ 0)).map (· + off)

/-- SIGNED of the header. -/
def imgSigned (bs : List Byte) : Bool := bit (leAt bs 14 2) 0

/-- Body length that IMAGE_LEN implies (R56, step 1). -/
def imgBodyLen (bs : List Byte) : Nat := leAt bs 8 4 - 8 - (if imgSigned bs then 204 else 0)

/-- Step 1: the header, in byte order (R42, R56); what IMAGE_LEN implies is judged with it. -/
def imgHeader (bs : List Byte) : Option ImgFail :=
  let need := 8 + (if imgSigned bs then 204 else 0)
  firstFail [
    failIf (leAt bs 0 4 ≠ 0x495A5753) 0x0201 0 0,
    failIf (leAt bs 4 2 ≠ 1) 0x0201 0 4,
    failIf (leAt bs 6 2 ≠ 64) 0x0201 0 6,
    failIf (leAt bs 8 4 ≠ bs.length || 16777216 < bs.length || leAt bs 8 4 < need || imgBodyLen bs % 8 ≠ 0 ||
      imgBodyLen bs < 64 + 16 * leAt bs 12 2) 0x0201 0 8,
    failIf (leAt bs 12 2 < 10 || 32 < leAt bs 12 2) 0x0201 0 12,
    failIf (2 ≤ leAt bs 14 2) 0x0201 0 14,
    failIf (leAt bs 16 4 ≠ 64) 0x0201 0 16,
    failIf (leAt bs 32 4 ≠ 0x4896) 0x0201 0 32,
    (nonZeroIn bs 36 28).map fun o => ⟨0x0201, 0, o⟩]

/-- Step 2: the body's CRC-32C and the 4 zero bytes after it (R44). -/
def imgCrc (bs : List Byte) : Option ImgFail :=
  let n := imgBodyLen bs
  firstFail [
    failIf (crcOf 1 (bs.take n) ≠ leAt bs n 4) 0x0202 0 n,
    failIf (leAt bs (n + 4) 4 ≠ 0) 0x0202 0 (n + 4)]

/-- Step 3: the signature under the lifecycle state (R44, R58). -/
def imgSignature (r : ImgRules) (bs : List Byte) : Option ImgFail :=
  let b := imgBodyLen bs + 8
  let key := leAt bs (b + 2) 2
  if !imgSigned bs then failIf r.isSealed 0x0203 0 14
  else firstFail [
    failIf (leAt bs b 2 ≠ 1) 0x0204 0 b,
    failIf (4 ≤ key) 0x0204 0 (b + 2),
    failIf (leAt bs (b + 4) 4 ≠ 0) 0x0204 0 (b + 4),
    failIf (leAt bs (b + 105) 3 ≠ 0) 0x0204 0 (b + 105),
    failIf (r.isSealed && (tabGet? r.keys key ≠ some (Config.sha384 ((bs.drop (b + 8)).take 97)) ||
      r.revoked.contains key || (match r.keyMask with | some m => !bit m key | none => false))) 0x0204 0 (b + 2),
    failIf (!Config.signatureVerifies (bs.take b) (bs.drop b)) 0x0204 0 b]

/-- A directory entry: TYPE, OFFSET, LENGTH, and where it stands. -/
structure PartEntry where
  type : Nat
  off : Nat
  len : Nat
  at_ : Nat
  deriving DecidableEq, Repr

/-- The directory (R43). -/
def imgDir (bs : List Byte) : List PartEntry :=
  (List.range (leAt bs 12 2)).map fun i =>
    let o := 64 + 16 * i
    ⟨leAt bs o 2, leAt bs (o + 4) 4, leAt bs (o + 8) 4, o⟩

/-- Bytes of one entry of a section type, and of its head (R45). -/
def sectionEntry (ty : Nat) : Nat :=
  match ty with
  | 1 => 16
  | 2 => 12
  | 3 => 20
  | 4 => 8
  | 5 => 8
  | 6 => 4
  | 7 => 4
  | 8 => 24
  | 9 => 8
  | _ => 16

/-- Whether a section's LENGTH fits its type (R45). -/
def sectionLenOk (ty len : Nat) : Bool :=
  if ty = 6 then decide (16 ≤ len) && len % 4 == 0
  else if ty = 10 then len == 16
  else len % sectionEntry ty == 0

/-- Whether a type is one of R45's. -/
def knownType (ty : Nat) : Bool := decide (1 ≤ ty) && decide (ty ≤ 10)

/-- The failure of one directory entry by itself (R43, R45). -/
def dirEntryFail (bs : List Byte) (before : List PartEntry) (e : PartEntry) : Option ImgFail :=
  let skip := decide (0x8000 ≤ e.type) && !knownType e.type
  firstFail [
    failIf (!knownType e.type && !skip) 0x0205 e.type e.at_,
    failIf (knownType e.type && before.any (fun x => x.type == e.type)) 0x0205 e.type e.at_,
    failIf (leAt bs (e.at_ + 2) 2 ≠ 1 && !skip) 0x0205 e.type (e.at_ + 2),
    failIf (e.off % 8 ≠ 0 || e.off < 64 + 16 * leAt bs 12 2) 0x0205 e.type (e.at_ + 4),
    failIf (imgBodyLen bs < e.off + e.len || (knownType e.type && !sectionLenOk e.type e.len)) 0x0205 e.type (e.at_ + 8),
    failIf (leAt bs (e.at_ + 12) 4 ≠ 0) 0x0205 e.type (e.at_ + 12),
    failIf (before.any fun x => x.off < e.off + e.len && e.off < x.off + x.len) 0x0205 e.type (e.at_ + 4)]

/-- Failures of the directory entries in order. -/
def dirFails (bs : List Byte) : List PartEntry → List PartEntry → Option ImgFail
  | _, [] => none
  | before, e :: r =>
    match dirEntryFail bs before e with
    | some f => some f
    | none => dirFails bs (before ++ [e]) r

/-- Offset of a byte that lies in no section and is not 0, after the directory (R43). -/
def fillFail (bs : List Byte) (dir : List PartEntry) : Option Nat :=
  let d := 64 + 16 * leAt bs 12 2
  (List.range (imgBodyLen bs - d)).findSome? fun i =>
    let o := d + i
    if bs.getD o 0 ≠ 0 && !dir.any (fun e => e.off ≤ o && o < e.off + e.len) then some o else none

/-- Step 4: the directory (R43, R45, R56). -/
def imgDirectory (bs : List Byte) : Option ImgFail :=
  let dir := imgDir bs
  let missing := ((List.range 10).map (· + 1)).find? fun t => !dir.any fun e => e.type == t
  let last := dir.foldl (fun m e => max m (e.off + e.len)) 0
  firstFail [
    dirFails bs [] dir,
    (fillFail bs dir).map fun o => ⟨0x0205, 0, o⟩,
    missing.map fun t => ⟨0x0205, t, 12⟩,
    failIf ((last + 7) / 8 * 8 ≠ imgBodyLen bs) 0x0205 0 8]

/-- Offsets of the entries of a section. -/
def sectionOffsets (bs : List Byte) (ty : Nat) : List Nat :=
  match (imgDir bs).find? (fun e => e.type == ty) with
  | none => []
  | some e =>
    let head := if ty = 6 then 16 else 0
    (List.range ((e.len - head) / sectionEntry ty)).map fun i => e.off + head + i * sectionEntry ty

/-- Offset of a section. -/
def sectionOff (bs : List Byte) (ty : Nat) : Nat :=
  match (imgDir bs).find? (fun e => e.type == ty) with
  | none => 0
  | some e => e.off

/-- A byte of the image. -/
def u8 (bs : List Byte) (o : Nat) : Nat := leAt bs o 1
/-- Two bytes. -/
def u16 (bs : List Byte) (o : Nat) : Nat := leAt bs o 2
/-- Four bytes. -/
def u32 (bs : List Byte) (o : Nat) : Nat := leAt bs o 4

/-- The image's sections, parsed (R46 to R55). -/
def imgParse (bs : List Byte) : Image :=
  let t := sectionOff bs 6
  let l := sectionOff bs 10
  { imageId := u32 bs 20
    heads := (sectionOffsets bs 1).map fun o =>
      ⟨u8 bs o, u8 bs (o + 1), u8 bs (o + 2), u8 bs (o + 3), u16 bs (o + 4), u8 bs (o + 6), u32 bs (o + 8)⟩
    frameStore := (sectionOffsets bs 2).map fun o => (u8 bs o, u32 bs (o + 4), u32 bs (o + 8))
    bindings := (sectionOffsets bs 3).map fun o => ⟨u8 bs o, u8 bs (o + 1), leAt bs (o + 4) 8, leAt bs (o + 12) 8⟩
    bandwidth := (sectionOffsets bs 4).map fun o => (u8 bs o, u8 bs (o + 1), u32 bs (o + 4))
    paent := (sectionOffsets bs 5).map fun o => (u8 bs o, u8 bs (o + 1), u8 bs (o + 2), u8 bs (o + 3))
    tb0Domain := u8 bs t, tb1Domain := u8 bs (t + 1), ptpProfile := u8 bs (t + 2), loopBw := u8 bs (t + 3)
    holdoverTrust := u32 bs (t + 4)
    refs := (sectionOffsets bs 6).map fun o => (u8 bs o, u8 bs (o + 1), u8 bs (o + 2))
    pins := (sectionOffsets bs 7).map fun o => (u8 bs o, u8 bs (o + 1), u8 bs (o + 2), u8 bs (o + 3))
    regions := (sectionOffsets bs 8).map fun o =>
      ⟨u8 bs o, u8 bs (o + 1), u8 bs (o + 2), bit (u8 bs (o + 3)) 0, leAt bs (o + 4) 8, leAt bs (o + 12) 8⟩
    rates := (sectionOffsets bs 9).map fun o => (u16 bs o, u16 bs (o + 2), u32 bs (o + 4))
    debugPolicy := u8 bs l, keyMask := u8 bs (l + 1), switchPolicy := u8 bs (l + 2) }

/-- The failing fields of one HEADS entry (R46, R191, R192). The lead is at least 8 lines and
below the active height of MAX_MODE, the mode in force after boot. -/
def headFail (bs : List Byte) (o : Nat) : Option ImgFail :=
  let m := modeRow (u8 bs (o + 2))
  firstFail [
    failIf (32 ≤ u8 bs o) 0x0206 1 o,
    failIf (4 ≤ u8 bs (o + 1)) 0x0206 1 (o + 1),
    failIf (48 ≤ u8 bs (o + 2)) 0x0206 1 (o + 2),
    failIf (32 ≤ u8 bs (o + 3)) 0x0206 1 (o + 3),
    failIf (u16 bs (o + 4) < 8 || m.h ≤ u16 bs (o + 4)) 0x0206 1 (o + 4),
    failIf (6 ≤ u8 bs (o + 6)) 0x0206 1 (o + 6),
    failIf (u8 bs (o + 7) ≠ 0) 0x0206 1 (o + 7),
    (nonZeroIn bs (o + 12) 4).map fun x => ⟨0x0206, 1, x⟩]

/-- The failing fields of one entry of a section (R47 to R54). -/
def entryFail (bs : List Byte) (ty o : Nat) : Option ImgFail :=
  let f (c : Bool) (x : Nat) : Option ImgFail := failIf c 0x0206 ty (o + x)
  let z (x n : Nat) : Option ImgFail := (nonZeroIn bs (o + x) n).map fun y => ⟨0x0206, ty, y⟩
  match ty with
  | 1 => headFail bs o
  | 2 => firstFail [f (32 ≤ u8 bs o) 0, z 1 3, f (u32 bs (o + 4) % 4096 ≠ 0) 4, f (u32 bs (o + 8) % 4096 ≠ 0) 8]
  | 3 => firstFail [f (6 ≤ u8 bs o) 0, f (64 ≤ u8 bs (o + 1)) 1, z 2 2]
  | 4 => firstFail [f (7 ≤ u8 bs o) 0, f (u8 bs (o + 1) ≠ 0 && u8 bs o ≠ 0 || 6 ≤ u8 bs (o + 1)) 1, z 2 2]
  | 5 => firstFail [f (4 ≤ u8 bs o) 0, f (6 ≤ u8 bs (o + 1)) 1,
      f (2 ≤ u8 bs (o + 2) ||
        (sectionOffsets bs 5).any (fun p => p < o && u8 bs (p + 2) ≠ u8 bs (o + 2))) 2,
      f (16 ≤ u8 bs (o + 3)) 3, z 4 4]
  | 6 => firstFail [f (12 ≤ u8 bs o) 0, f (u8 bs (o + 1) = 0 || 16 ≤ u8 bs (o + 1)) 1, f (u8 bs (o + 2) = 0) 2, z 3 1]
  | 7 => firstFail [f (32 ≤ u8 bs o) 0, f (4 ≤ u8 bs (o + 1)) 1,
      f (16 ≤ u8 bs (o + 2) || (u8 bs (o + 1) < 2 && u8 bs (o + 2) ≠ 0)) 2, f (4 ≤ u8 bs (o + 3)) 3]
  | 8 => firstFail [f (6 ≤ u8 bs o) 0, f (64 ≤ u8 bs (o + 1)) 1, f (4 ≤ u8 bs (o + 2)) 2, f (2 ≤ u8 bs (o + 3)) 3,
      f (leAt bs (o + 4) 8 % 4096 ≠ 0 || 2 ^ 36 ≤ leAt bs (o + 4) 8) 4,
      f (leAt bs (o + 12) 8 % 4096 ≠ 0 || 2 ^ 36 < leAt bs (o + 4) 8 + leAt bs (o + 12) 8) 12, z 20 4]
  | 9 => firstFail [f (1024 ≤ u16 bs o) 0, f (u16 bs (o + 2) = 0) 2]
  | _ => none

/-- The key of an entry within its section (R45). -/
def entryKey (bs : List Byte) (ty o : Nat) : Nat :=
  match ty with
  | 4 => u16 bs o
  | 8 => u16 bs o
  | 9 => u16 bs o
  | _ => u8 bs o

/-- Failures of a section's entries in order: each entry's fields, then its key against those before it. -/
def entriesFail (bs : List Byte) (ty : Nat) : List Nat → List Nat → Option ImgFail
  | _, [] => none
  | seen, o :: r =>
    match entryFail bs ty o with
    | some f => some f
    | none =>
      if seen.contains (entryKey bs ty o) then some ⟨0x0206, ty, o⟩
      else entriesFail bs ty (seen ++ [entryKey bs ty o]) r

/-- The TIME_REF head and the LIFECYCLE section (R51, R55). -/
def fixedFail (bs : List Byte) (ty : Nat) : Option ImgFail :=
  let o := sectionOff bs ty
  let f (c : Bool) (x : Nat) : Option ImgFail := failIf c 0x0206 ty (o + x)
  let z (x n : Nat) : Option ImgFail := (nonZeroIn bs (o + x) n).map fun y => ⟨0x0206, ty, y⟩
  if ty = 6 then firstFail [f (4 ≤ u8 bs (o + 2)) 2, f (12 ≤ u8 bs (o + 3)) 3, f (3600000 < u32 bs (o + 4)) 4, z 8 8]
  else if ty = 10 then firstFail [f (2 ≤ u8 bs o) 0, f (16 ≤ u8 bs (o + 1)) 1, f (2 ≤ u8 bs (o + 2)) 2, z 3 13]
  else none

/-- The port rules of R212 for enabled heads: one port and stream each, stream 1 only beside stream 0, and MST-capable
largest modes on an MST port. -/
def portFail (bs : List Byte) : Option ImgFail :=
  let hs := (sectionOffsets bs 1).filter fun o => bit (u8 bs (o + 1)) 0
  let p (o : Nat) := bits (u8 bs (o + 3)) 3 0
  let str (o : Nat) := bit (u8 bs (o + 3)) 4
  hs.findSome? fun o => firstFail [
    failIf (hs.any fun x => x < o && u8 bs (x + 3) == u8 bs (o + 3)) 0x0206 1 (o + 3),
    failIf (str o && !hs.any (fun x => p x == p o && !str x)) 0x0206 1 (o + 3),
    failIf (hs.any (fun x => x ≠ o && p x == p o) && !(modeRow (u8 bs (o + 2))).mst) 0x0206 1 (o + 2)]

/-- Step 5: each section's fields, in TYPE order (R56). -/
def imgFields (bs : List Byte) : Option ImgFail :=
  ((List.range 10).map (· + 1)).findSome? fun ty =>
    if ty = 10 then fixedFail bs 10
    else firstFail [fixedFail bs ty, entriesFail bs ty [] (sectionOffsets bs ty), if ty = 1 then portFail bs else none]

/-- Step 6: partitions and bindings of enabled heads, region overlap, and the bandwidth sum (R47 to R49). -/
def imgCross (bs : List Byte) : Option ImgFail :=
  let hs := (sectionOffsets bs 1).filter fun o => bit (u8 bs (o + 1)) 0
  let fs := sectionOffsets bs 2
  let bd := sectionOffsets bs 3
  let rg := (sectionOffsets bs 8).filter fun o => leAt bs (o + 12) 8 ≠ 0
  firstFail [
    hs.findSome? fun o =>
      match fs.find? (fun x => u8 bs x == u8 bs o) with
      | none => some ⟨0x0207, 2, o⟩
      | some x =>
        let m := modeRow (u8 bs (o + 2))
        failIf (u32 bs (x + 8) < 4 * m.w * m.h) 0x0207 2 (x + 8),
    fs.findSome? fun x => firstFail [
      failIf (268435456 < u32 bs (x + 4) + u32 bs (x + 8)) 0x0207 2 (x + 4),
      failIf (fs.any fun y => y < x && u32 bs (y + 4) < u32 bs (x + 4) + u32 bs (x + 8) &&
        u32 bs (x + 4) < u32 bs (y + 4) + u32 bs (y + 8)) 0x0207 2 (x + 4)],
    bd.findSome? fun x => firstFail [
      failIf (bd.any fun y => y < x && u8 bs (y + 1) &&& u8 bs (x + 1) ≠ 0) 0x0208 3 (x + 1),
      failIf (bd.any fun y => y < x && leAt bs (y + 4) 8 &&& leAt bs (x + 4) 8 ≠ 0) 0x0208 3 (x + 4),
      failIf (bd.any fun y => y < x && leAt bs (y + 12) 8 &&& leAt bs (x + 12) 8 ≠ 0) 0x0208 3 (x + 12)],
    hs.findSome? fun o =>
      match bd.find? (fun x => u8 bs x == u8 bs (o + 6)) with
      | none => some ⟨0x0208, 3, o + 6⟩
      | some x => failIf (u8 bs (x + 1) = 0) 0x0208 3 (x + 1),
    rg.findSome? fun x => failIf (rg.any fun y => y < x && u8 bs y == u8 bs x &&
      leAt bs (y + 4) 8 < leAt bs (x + 4) 8 + leAt bs (x + 12) 8 &&
      leAt bs (x + 4) 8 < leAt bs (y + 4) 8 + leAt bs (y + 12) 8) 0x0209 8 (x + 4),
    failIf (150000 < ((sectionOffsets bs 4).map fun o => u32 bs (o + 4)).sum) 0x020A 4 (sectionOff bs 4)]

/-- Steps 1 to 4 (R56). -/
def imgContainer (r : ImgRules) (bs : List Byte) : Option ImgFail :=
  match imgHeader bs with
  | some f => some f
  | none =>
    match imgCrc bs with
    | some f => some f
    | none =>
      match imgSignature r bs with
      | some f => some f
      | none => imgDirectory bs

/-- Steps 1 to 6 (R56): the first failure, or the parsed image. -/
def imgValidate (r : ImgRules) (bs : List Byte) : Except ImgFail Image :=
  match imgContainer r bs with
  | some f => .error f
  | none =>
    match imgFields bs with
    | some f => .error f
    | none =>
      match imgCross bs with
      | some f => .error f
      | none => .ok (imgParse bs)

/-- Bytes of a section. -/
def sectionBytes (bs : List Byte) (ty : Nat) : List Byte :=
  match (imgDir bs).find? (fun e => e.type == ty) with
  | none => []
  | some e => (bs.drop e.off).take e.len

/-- The locked entries of CHECKER_REGIONS, as bytes (R68). -/
def lockedRegionBytes (bs : List Byte) : List (List Byte) :=
  ((sectionOffsets bs 8).filter fun o => bit (u8 bs (o + 3)) 0).map fun o => (bs.drop o).take 24

/-- Step 7: a runtime switch keeps PAENT, PINS, LIFECYCLE and the locked regions byte-identical (R68). -/
def imgFixed (old new : List Byte) : Option ImgFail :=
  firstFail [
    failIf (sectionBytes old 5 ≠ sectionBytes new 5) 0x020B 5 (sectionOff new 5),
    failIf (sectionBytes old 7 ≠ sectionBytes new 7) 0x020B 7 (sectionOff new 7),
    failIf (sectionBytes old 10 ≠ sectionBytes new 10) 0x020B 10 (sectionOff new 10),
    failIf (lockedRegionBytes old ≠ lockedRegionBytes new) 0x020B 8 (sectionOff new 8)]

end Sys2Proof.Machine
end

