-- ==== Sys2Proof/Machine/Profile.lean ====
section
/-! DEFINITION. Boot, profile slots, the profile commands, the runtime switch and the lifecycle (03). -/

namespace Sys2Proof.Machine

/-! ### Slots and the selection record (R40, R41) -/

/-- Set the boot state. -/
def Dev.setBoot (d : Dev) (b : BootSt) : Dev := { d with boot := b }

/-- A profile slot; one that nothing has written is empty. -/
def Dev.slot (d : Dev) (n : Nat) : Slot := tabGetD d.boot.slots ⟨[], false⟩ n

/-- Set a profile slot, and its bit of SLOT_VALID. -/
def Dev.setSlot (d : Dev) (n : Nat) (v : Slot) : Dev :=
  let m := d.get R.PROF_STATUS_SLOT_VALID
  (d.setBoot { d.boot with slots := tabSet d.boot.slots ⟨[], false⟩ n v }).put R.PROF_STATUS_SLOT_VALID
    (if v.valid then m ||| 2 ^ n else m - (m &&& 2 ^ n))

/-- The valid copy of the selection record with the later counter (R41). -/
def BootSt.selected (b : BootSt) : Option SelCopy :=
  if b.sel0.valid && b.sel1.valid then some (if later 32 b.sel1.counter b.sel0.counter then b.sel1 else b.sel0)
  else if b.sel0.valid then some b.sel0
  else if b.sel1.valid then some b.sel1
  else none

/-- The slot in the selection record: slot 0 where no copy is valid (R41). -/
def BootSt.chosenSlot (b : BootSt) : Nat := (b.selected.map (·.slot)).getD 0

/-- Whether copy 1 is the one written next (R41). -/
def BootSt.writesCopy1 (b : BootSt) : Bool :=
  if b.sel0.valid && b.sel1.valid then later 32 b.sel0.counter b.sel1.counter else b.sel0.valid

/-- Write one copy of the selection record (R41). -/
def BootSt.select (b : BootSt) (c : SelCopy) : BootSt := if b.writesCopy1 then { b with sel1 := c } else { b with sel0 := c }

/-- The counter that the next copy carries (R41). -/
def BootSt.nextCounter (b : BootSt) : Nat :=
  match b.selected with
  | some c => (c.counter + 1) % 2 ^ 32
  | none => 1

/-- A slot is recorded as chosen. -/
def Dev.choose (d : Dev) (slot : Nat) : Dev :=
  (d.setBoot (d.boot.select ⟨true, slot, d.boot.nextCounter⟩)).put R.PROF_STATUS_CHOSEN slot

/-- Under which rules images are checked now (R58). -/
def Dev.imgRules (d : Dev) : ImgRules :=
  ⟨d.boot.isSealed, d.boot.keys, d.boot.revoked, d.boot.image.map (·.keyMask)⟩

/-! ### Recorder and dump slots at boot (R435, R440, R445) -/

/-- Slots in use of the flash store. -/
def RecSt.flashUsed (r : RecSt) : Nat :=
  match r.flash.getLast? with
  | some e => e.1 + 1
  | none => 0

/-- SEQ of the last valid entry in the flash store. -/
def RecSt.lastSeq (r : RecSt) : Nat :=
  (r.flash.reverse.findSome? fun e => match e.2 with | .entry x => some x.seq | .torn => none).getD 0

/-- BOOT entries in the flash store. -/
def RecSt.boots (r : RecSt) : Nat :=
  (r.flash.filter fun e => match e.2 with | .entry x => x.ev == .boot | .torn => false).length

/-- FLAGS of a dump slot; bit 7 while it is erased (R445, R447). -/
def DumpSlot.flags (s : DumpSlot) : Nat :=
  if s.erased then 0x80 else b2n s.complete + b2n s.truncated * 2 + b2n s.keep * 4

/-- Set a dump slot and DUMP_STATUS. -/
def Dev.setDump (d : Dev) (s : Nat) (v : DumpSlot) : Dev :=
  { d with recd := { d.recd with dumps := tabSet d.recd.dumps DumpSlot.init s v } }.setReg R.DUMP_STATUS
    (v.flags * 2 ^ 24 + v.seq % 65536) s

/-- A dump slot. -/
def Dev.dump (d : Dev) (s : Nat) : DumpSlot := tabGetD d.recd.dumps DumpSlot.init s

/-- The recorder finds its write pointer (R440), and SEQ goes on from the last valid entry (R435). -/
def Dev.openRecorder (d : Dev) : Dev :=
  let r := d.recd
  let d := ((d.setReg R.REC_SEQ r.lastSeq).setReg R.REC_FLASH_USED r.flashUsed).setReg R.REC_BOOTS r.boots
  let d := d.put R.REC_STATUS_RECORDER_FULL (b2n (decide (flashLimit < r.flashUsed)))
  let d := d.put R.REC_STATUS_TORN (b2n ((r.flash.getLast?.map (·.2)) == some FlashSlot.torn))
  [0, 1, 2, 3].foldl (fun d s => d.setDump s (d.dump s)) d

/-! ### Boot (R61 to R65) -/

/-- BOOT_START: the instant M (R61, R63, R70, R340, R440). -/
def bootStart (profsel : Nat) (preferred : Bool) (d : Dev) : Dev :=
  if !d.pwr.logicOn || d.boot.begun then d
  else
    let a : Anchor := ⟨d.now, 0, 0⟩
    let d := { d with
      pwr := { d.pwr with mrstLow := false }, time := { d.time with tb0 := a, tb1 := a, wt := a, rateAt := d.now }
      boot := { d.boot with mInst := d.now, begun := true, profsel := profsel % 4, preferred := preferred } }
    (((d.put R.BOOT_STATUS_PHASE 0).put R.PAIR_STATUS_PREFERRED (b2n preferred)).put R.THERM_STATUS_OCXO_READY
      (b2n d.ref.warm)).openRecorder

def execBootStart (t profsel : Nat) (preferred : Bool) (s : State) : Host.Outcome State Fault Refusal :=
  s.onDev t (bootStart profsel preferred)

/-- PHASE FIRMWARE. -/
def phaseFirmware : Nat := 1

/-- BOOT_FIRMWARE_LOADED: copy A, or B if A fails, is verified; if both fail the module halts (R63). -/
def firmwareLoaded (okA okB : Bool) (d : Dev) : Dev :=
  if !d.boot.begun || d.phase ≠ 0 then d
  else if okA || okB then
    (d.put R.MGMT_CORE_STATUS_STATE0 coreRunning).put R.BOOT_STATUS_PHASE phaseFirmware
  else d.put R.BOOT_STATUS_PHASE phaseHalted

def execBootFirmwareLoaded (t : Nat) (okA okB : Bool) (s : State) : Host.Outcome State Fault Refusal :=
  s.onDev t (firmwareLoaded okA okB)

/-- MAINTENANCE, with the reason that stopped boot (R62, R63). -/
def Dev.maintenance (d : Dev) (reason : Nat) : Dev :=
  (d.put R.BOOT_STATUS_PHASE phaseMaintenance).put R.BOOT_STATUS_ERR reason

/-- Load the region registers of a checker from the image (R53, R60), leaving locked regions as they are (R387). -/
def Dev.loadRegions (d : Dev) (im : Image) (k : Nat) : Dev :=
  (List.range 64).foldl (fun d r =>
    if d.prot.locked.contains (k * 64 + r) then d
    else match im.regions.find? fun e => e.checker == k && e.region == r with
      | none => ((d.setReg R.RGN_CTRL 0 k r).setReg R.RGN_BASE 0 k r).setReg R.RGN_SIZE 0 k r
      | some e =>
        let d := d.setReg R.RGN_CTRL (b2n e.lock * 2 ^ 31 + e.perm / 2 % 2 * 2 ^ 30 + e.perm % 2 * 2 ^ 29) k r
        (d.setReg R.RGN_BASE (e.base / 4096 * 256) k r).setReg R.RGN_SIZE (e.size / 4096) k r) d

/-- The checkers are loaded and locked; one with an entry is ENFORCING (R60, R385). -/
def Dev.loadCheckers (d : Dev) (im : Image) : Dev :=
  (List.range 6).foldl (fun d k =>
    let d := (d.loadRegions im k).takeLocks k
    if im.regions.any fun e => e.checker == k then d.put R.CHK_STATUS_ENFORCING 1 k else d) d

/-- A head takes its lead (R46, R192). -/
def Dev.loadLead (d : Dev) (h lead : Nat) : Dev :=
  ((d.setReg R.HEAD_CHASE_LEAD lead h).setReg R.HEAD_CHASE_LEAD_CUR lead h).put R.HEAD_CHASE_STATUS_REDUCE_AT (reduceAt lead) h

/-- A head takes a mode (R229). -/
def Dev.loadMode (d : Dev) (h mode : Nat) : Dev := (d.setReg R.HEAD_MODE mode h).setReg R.HEAD_MODE_CUR mode h

/-- An enabled head takes its settings from its entry: MAX_MODE, 10 bpc, LEAD, its port and stream (R46, R229). -/
def Dev.loadHead (d : Dev) (e : HeadEntry) : Dev :=
  let d := (d.loadLead e.head e.lead).loadMode e.head (2 ^ 31 + e.maxMode)
  (d.put R.HEAD_DISP_STATUS_PORT (e.port % 16) e.head).put R.HEAD_DISP_STATUS_STREAM (e.port / 16) e.head

/-- A Paent port takes its role, and its lanes their initial CTLE setting (R50). -/
def Dev.loadPaent (d : Dev) (e : Nat × Nat × Nat × Nat) : Dev :=
  (List.range 6).foldl (fun d l => d.put R.LN_CTRL_PEAK e.2.2.2 e.1 l) (d.put R.PNT_PSTATUS_ROLE e.2.1 e.1)

/-- A reference takes its priority, and its wait-to-restore (R51); one of priority 0 is not qualified (R95). -/
def Dev.loadRef (d : Dev) (r priority wtr : Nat) : Dev :=
  let d := ((d.setRefMon r { d.refMon r with priority := priority, wtr := wtr }).put R.REF_CFG_PRIORITY priority r).put
    R.REF_CFG_WTR_S wtr r
  if priority = 0 then (d.put R.REF_STATUS_QUALIFIED 0 r).stopWtr r else d

/-- The loop takes its bandwidth from the image (R104). -/
def Dev.loadLoop (d : Dev) (bw : Nat) : Dev :=
  let d := { d with ref := { d.ref with loopBw := bw } }.put R.REFSEL_CTRL_LOOP_BW bw
  d.bwLimited (d.get R.REFSEL_STATUS_SELECTED)

/-- A switch reloads LOOP_BW, PRIORITY and WTR_S (R104): a reference without an entry has priority 0. -/
def Dev.reloadRefs (d : Dev) (im : Image) : Dev :=
  ((List.range 12).foldl (fun d r =>
    match im.refs.find? fun e => e.1 == r with
    | some e => d.loadRef r e.2.1 e.2.2
    | none => d.loadRef r 0 (d.refMon r).wtr) d).loadLoop im.loopBw

/-- The image's time and reference settings, loaded at the TIME phase (R51, R104, TIME_HOLDOVER_TRUST). -/
def Dev.loadTime (d : Dev) (im : Image) : Dev :=
  let d := im.refs.foldl (fun d e => d.loadRef e.1 e.2.1 e.2.2) d
  let d := d.loadLoop im.loopBw
  (d.setReg R.TIME_HOLDOVER_TRUST im.holdoverTrust).setPtp 0 { d.ptp 0 with mask := 0xF } |>.setPtp 1
    { d.ptp 1 with mask := if im.tb1Domain = 0xFF then 0 else 0xF }

/-- The BOOT entry (R437). -/
def Dev.bootEntry (d : Dev) (imageId : Nat) : Dev :=
  d.storeEntry .recorder .boot 0xF000 imageId (d.get R.REC_STATUS_TORN) d.boot.profsel

/-- CONFIGURE (R60, R63, R229, R461): the image comes into force. -/
def Dev.configure (d : Dev) (slot : Nat) (bytes : List Byte) (im : Image) : Dev :=
  let d := d.setBoot { d.boot with image := some im, imageBytes := bytes }
  let d := ((d.put R.PROF_STATUS_IN_FORCE 1).put R.PROF_STATUS_SLOT slot).setReg R.PROF_IMAGE_ID im.imageId
  let d := (d.put R.BOOT_STATUS_PHASE phaseConfigure).loadCheckers im
  let d := d.bootEntry im.imageId
  let d := im.paent.foldl (fun d e => d.loadPaent e) d
  let d := (im.heads.filter fun e => bit e.flags 0).foldl (fun d e => d.loadHead e) d
  let d := (List.range 6).foldl (fun d g => d.groupRegs g) d.decRegs
  { d with pwr := { d.pwr with preConfigure := false } }

/-- A slot holds an image that passes steps 1 to 4 (PROF_STATUS). -/
def Dev.slotValid (d : Dev) (n : Nat) : Bool := (d.slot n).valid && (imgContainer d.imgRules (d.slot n).bytes).isNone

/-- BOOT_IMAGE_VALIDATED (R56, R58, R61, R62): all four cores run, and the boot-slot image is read and validated. -/
def imageValidated (d : Dev) : Dev :=
  if !d.boot.begun || d.phase ≠ phaseFirmware then d
  else
    let d := ((d.put R.MGMT_CORE_STATUS_STATE1 coreRunning).put R.MGMT_CORE_STATUS_STATE2 coreRunning).put
      R.MGMT_CORE_STATUS_STATE3 coreRunning
    let valid := ([0, 1, 2, 3].map fun n => b2n (d.slotValid n) * 2 ^ n).sum
    let d := ((d.put R.PROF_STATUS_SEALED (b2n d.boot.isSealed)).put R.PROF_STATUS_SLOT_VALID valid).put
      R.PROF_STATUS_PROFSEL d.boot.profsel
    let d := d.put R.PROF_STATUS_CHOSEN d.boot.chosenSlot
    let slot := if d.boot.profsel = 3 then d.boot.chosenSlot else d.boot.profsel
    let stop : Nat → Dev := fun r => (d.bootEntry 0).maintenance (r % 256)
    if !(d.slot slot).valid then stop 0x020E
    else match imgValidate d.imgRules (d.slot slot).bytes with
      | .error f => stop f.reason
      | .ok im => d.configure slot (d.slot slot).bytes im

def execBootImageValidated (t : Nat) (s : State) : Host.Outcome State Fault Refusal := s.onDev t imageValidated

/-- Training result of one channel (R361): rank 0 goes into service when it trains, otherwise rank 1. -/
def Dev.trainChannel (d : Dev) (bad : List Nat) (ch : Nat) : Dev :=
  let ok : Nat → Bool := fun r => !bad.contains (ch * 2 + r)
  let st : Nat → Nat := fun r =>
    if !ok r then rkUntrained else if r = 0 || !ok 0 then rkInService else rkSpare
  let d := (d.setRank ch 0 (st 0)).setRank ch 1 (st 1)
  if ok 0 && ok 1 then d
  else ((d.put R.CH_STATUS_STATE chNoSpare ch).memBit R.MEM_STATUS_NO_SPARE ch true).put R.CH_STATUS_CAUSE 5 ch

/-- BIST of one bank replaced rows (R381). -/
def Dev.bistBank (d : Dev) (e : Nat × Nat) : Dev :=
  ((d.put R.FS_BANK_BIST_REPAIRS e.2 e.1).put R.FS_BANK_SPARES_USED e.2 e.1).put R.FS_STATUS_SPARED
    (d.get R.FS_STATUS_SPARED + e.2)

/-- BOOT_MEMORY_TRAINED (R361, R381): `badRanks` are the ranks that did not train, channel × 2 + rank; `repairs` the rows
that failed in each bank. A channel with no rank, or a bank that needs more than 64 rows, stops boot with MEMORY_FAIL. -/
def memoryTrained (badRanks : List Nat) (repairs : List (Nat × Nat)) (d : Dev) : Dev :=
  if d.phase ≠ phaseConfigure then d
  else
    let lost := (List.range 8).any fun c => badRanks.contains (c * 2) && badRanks.contains (c * 2 + 1)
    let d := (List.range 8).foldl (fun d c => d.trainChannel badRanks c) d
    if lost || repairs.any (fun e => 64 < e.2) then d.maintenance 0x11
    else
      let d := ((repairs.filter fun e => e.1 < 64).foldl Dev.bistBank d).put R.FS_STATUS_BIST_DONE 1
      let d := d.put R.FS_STATUS_SPARES_OUT (b2n (repairs.any fun e => e.2 == 64))
      let d := (d.setBoot { d.boot with memoryUp := true }).put R.REFSEL_STATUS_SELECTED 0xF
      (d.loadTime d.img).put R.BOOT_STATUS_PHASE phaseTime

def execBootMemoryTrained (t : Nat) (badRanks : List Nat) (repairs : List (Nat × Nat)) (s : State) :
    Host.Outcome State Fault Refusal := s.onDev t (memoryTrained badRanks repairs)

/-- OCXO_STEADY (R63, R96): the OCXO runs steadily, CD-HOUSE moves to it, and the monitors have their basis. -/
def ocxoSteady (d : Dev) : Dev :=
  if !d.boot.begun then d
  else ocxoReturn { d.clockBack 10 0 with boot := { d.boot with houseOcxo := true } }

def execOcxoSteady (t : Nat) (s : State) : Host.Outcome State Fault Refusal := s.onDev t ocxoSteady

/-- OCXO_READY (R99, R484): warm-up is complete. -/
def ocxoReady (d : Dev) : Dev :=
  if !d.pwr.logicOn then d else { d with ref := { d.ref with warm := true } }.put R.THERM_STATUS_OCXO_READY 1

def execOcxoReady (t : Nat) (s : State) : Host.Outcome State Fault Refusal := s.onDev t ocxoReady

/-! ### Heads start (R216, R219) -/

/-- The grid of a head starts: its next boundary is the first B(N) from now on. -/
def Dev.startGrid (d : Dev) (h : Nat) : Dev :=
  let n := d.nextBoundary h
  d.setHead h { d.head h with grid := true, n := n - 1, shown := n - 1 }

/-- A port's heads meet its sink (R216): without a clock they are NOSINK (PORT_DOWN), without HPD NOSINK (NO_HPD), and
otherwise training starts. -/
def Dev.startPort (d : Dev) (p : Nat) : Dev :=
  let hs := d.portHeads p
  let d := if d.clockAt 2 p then d else d.setPort p { d.port p with clockOut := true }
  if (d.port p).clockOut then hs.foldl (fun d h => d.noSink h 6 false) d
  else if d.on R.DP_STATUS_HPD p then
    let d := hs.foldl (fun d h => if d.headState h = 0 then (d.put R.HEAD_DISP_STATUS_STATE hsNoSink h).put
      R.HEAD_DISP_STATUS_CAUSE 1 h else d) d
    d.readAndTrain p (d.port p).caps false
  else hs.foldl (fun d h => if d.headState h = 0 then d.setHeadState h hsNoSink 1 else d) d

/-- BOOT_OUTPUTS (R63): after the initial step the heads start, and then the compose domain accepts commits and the pair
agent starts. -/
def bootOutputs (d : Dev) : Dev :=
  if d.phase ≠ phaseTime || d.wtState = wtUnset then d
  else
    let d := d.put R.BOOT_STATUS_PHASE phaseOutputs
    let d := d.enabledHeads.foldl (fun d h => d.startGrid h) d
    let d := ((List.range 16).filter fun p => !(d.portHeads p).isEmpty).foldl (fun d p => d.startPort p) d
    (d.put R.BOOT_STATUS_PHASE phaseRunning).pairRun

def execBootOutputs (t : Nat) (s : State) : Host.Outcome State Fault Refusal := s.onDev t bootOutputs

/-! ### Profile commands (R66) -/

/-- Whether an earlier-started command holds a slot: IMAGE_WRITE, SLOT_ERASE, SLOT_CHOOSE or PROFILE_SWITCH (R66). -/
def Dev.slotHeld (d : Dev) (slot : Nat) (c : Cmd) : Bool :=
  d.host.queues.any fun e => e.2.cmds.any fun x =>
    x.st == .started && 0x0201 ≤ x.opcode && x.opcode ≤ 0x0204 && x.p 0 1 == slot &&
      (later 48 c.ctime x.ctime || (x.ctime == c.ctime && x.order < c.order))

/-- A REJECTED completion for a validation failure (R56). -/
def Dev.rejectImage (d : Dev) (q seq : Nat) (f : ImgFail) : Dev := d.finish q seq Status.rejected f.reason f.off f.type

/-- Validation of `len` supplied bytes: a length above 16 MiB fails at IMAGE_LEN, after the fields before it (R56). -/
def validateSupplied (r : ImgRules) (bs : List Byte) (len : Nat) : Except ImgFail Image :=
  if len ≤ 16777216 then imgValidate r bs
  else match imgHeader bs with
    | some f => .error (if f.off < 8 then f else ⟨0x0201, 0, 8⟩)
    | none => .error ⟨0x0201, 0, 8⟩

/-- The image bytes that a command names in host memory, once they are here (R22). -/
def Dev.withImage (d : Dev) (q seq : Nat) (c : Cmd) (len : Nat) (f : List Byte → Dev → Dev) : Dev :=
  if len = 0 then f [] d
  else d.withHost q seq c fun bs d => if bs.length < min len 16777216 then d else f (bs.take (min len 16777216)) d

/-- IMAGE_CHECK (R66): validated under the lifecycle state and KEY_MASK in force, and not stored. -/
def imageCheck (q seq : Nat) (d : Dev) : Dev :=
  d.onCmd q seq 0x0200 fun c d => d.withTail q seq c 12 fun d => d.withImage q seq c (c.p 8 4) fun bs d =>
    match validateSupplied d.imgRules bs (c.p 8 4) with
    | .error f => d.rejectImage q seq f
    | .ok _ => d.succeed q seq 0

def execImageCheck (t q seq : Nat) (s : State) : Host.Outcome State Fault Refusal := s.onDev t (imageCheck q seq)

/-- The slot in force. -/
def Dev.inForceSlot (d : Dev) : Option Nat :=
  if d.on R.PROF_STATUS_IN_FORCE then some (d.get R.PROF_STATUS_SLOT) else none

/-- Reasons of the profile commands (R57). -/
def rSlotActive : Nat := 0x020D
/-- SLOT_EMPTY. -/
def rSlotEmpty : Nat := 0x020E
/-- SWITCH_FORBIDDEN. -/
def rSwitchForbidden : Nat := 0x020F
/-- FLASH_ERROR. -/
def rFlashError : Nat := 0x0210

/-- A command that names a slot: above 3 it is INVALID_FIELD; while another holds the slot it waits (R66). -/
def Dev.withSlot (d : Dev) (q seq : Nat) (c : Cmd) (tail : Nat) (f : Nat → Dev → Dev) : Dev :=
  if 4 ≤ c.p 0 1 then d.bad q seq 0
  else d.withTail q seq c tail fun d => if d.slotHeld (c.p 0 1) c then d else f (c.p 0 1) d

/-- IMAGE_WRITE (R40, R66): validated, then written and read back; `flashOk` is the flash's result. -/
def imageWrite (q seq : Nat) (flashOk : Bool) (d : Dev) : Dev :=
  d.onCmd q seq 0x0201 fun c d => d.withSlot q seq c 13 fun slot d =>
    d.withImage q seq c (c.p 9 4) fun bs d =>
      match validateSupplied d.imgRules bs (c.p 9 4) with
      | .error f => d.rejectImage q seq f
      | .ok _ =>
        if d.inForceSlot = some slot then d.reject q seq rSlotActive
        else if !flashOk then (d.setSlot slot ⟨[], false⟩).reject q seq rFlashError
        else (d.setSlot slot ⟨bs, true⟩).succeed q seq bs.length

def execImageWrite (t q seq : Nat) (flashOk : Bool) (s : State) : Host.Outcome State Fault Refusal :=
  s.onDev t (imageWrite q seq flashOk)

/-- SLOT_ERASE (R66). -/
def slotErase (q seq : Nat) (flashOk : Bool) (d : Dev) : Dev :=
  d.onCmd q seq 0x0202 fun c d => d.withSlot q seq c 1 fun slot d =>
    if d.inForceSlot = some slot then d.reject q seq rSlotActive
    else
      let d := d.setSlot slot ⟨[], false⟩
      if flashOk then d.succeed q seq 0 else d.reject q seq rFlashError

def execSlotErase (t q seq : Nat) (flashOk : Bool) (s : State) : Host.Outcome State Fault Refusal :=
  s.onDev t (slotErase q seq flashOk)

/-- SLOT_CHOOSE (R41, R66): RESULT is the counter after the write; a failed write leaves its copy invalid. -/
def slotChoose (q seq : Nat) (flashOk : Bool) (d : Dev) : Dev :=
  d.onCmd q seq 0x0203 fun c d => d.withSlot q seq c 1 fun slot d =>
    if flashOk then (d.choose slot).succeed q seq d.boot.nextCounter
    else (d.setBoot (d.boot.select ⟨false, 0, 0⟩)).reject q seq rFlashError

def execSlotChoose (t q seq : Nat) (flashOk : Bool) (s : State) : Host.Outcome State Fault Refusal :=
  s.onDev t (slotChoose q seq flashOk)

/-! ### The runtime switch (R67 to R69) -/

/-- Whether admitted GUARANTEED streams fit an image's bandwidth classes (R68): without such streams they do; otherwise the
manual states no measure (log 18). -/
def Dev.streamsFit (d : Dev) (im : Image) : Bool :=
  (List.range 256).all (fun c => !d.ctxGuaranteed c) || Config.classesFit im.imageId d.now

/-- Steps 1 to 7 of R56 for a switch, and the capacity of R68: the failure, if any. -/
def Dev.switchFail (d : Dev) (slot : Nat) : Option ImgFail :=
  if !(d.slot slot).valid then some ⟨rSlotEmpty, 0, 0⟩
  else match imgValidate d.imgRules (d.slot slot).bytes with
    | .error f => some f
    | .ok im =>
      match imgFixed d.boot.imageBytes (d.slot slot).bytes with
      | some f => some f
      | none => if d.streamsFit im then none else some ⟨0x020C, 0, 0⟩

/-- Every commit that is accepted on any queue and not yet applied completes with ABANDONED (R67). -/
def Dev.abandonCommits (d : Dev) : Dev :=
  let d := d.host.queues.foldl (fun d e => d.abandon e.1 fun c => isCommitOp c.opcode && c.st != .done && c.st != .forwarded) d
  (d.setCommits []).grpPending

/-- PROFILE_SWITCH (R66 to R68): validated before anything stops; then commits are abandoned, and the heads blank at their
next B(N). One switch runs at a time. -/
def profileSwitch (q seq : Nat) (d : Dev) : Dev :=
  d.onCmd q seq 0x0204 fun c d =>
    if 2 ≤ c.p 1 1 then d.bad q seq 1
    else d.withSlot q seq c 2 fun slot d =>
      if d.on R.PROF_STATUS_SWITCHING || d.err.fabricRun then d
      else if d.img.switchPolicy % 2 = 0 then d.reject q seq rSwitchForbidden
      else match d.switchFail slot with
        | some f => d.rejectImage q seq f
        | none =>
          let d := (d.abandonCommits).put R.PROF_STATUS_SWITCHING 1
          d.setBoot { d.boot with switch := some (q, seq, slot, c.p 1 1 == 1) }

def execProfileSwitch (t q seq : Nat) (s : State) : Host.Outcome State Fault Refusal := s.onDev t (profileSwitch q seq)

/-- A head is blank: no frame of it is left, or its last boundary has come. -/
def Dev.isBlank (d : Dev) (h : Nat) : Bool := (d.head h).boundary.isSome || (d.head h).frames.isEmpty

/-- What is left of a head's frames ends. -/
def Dev.stopHead (d : Dev) (h : Nat) : Dev :=
  let d := (d.head h).frames.foldl (fun d e => d.frameEnd h e.1 e.2) d
  d.setHead h { d.head h with boundary := none, frames := [], stamps := [] }

/-- The layer table, its shadows, tasters, writeback, scalers and encode engines restart (R67). -/
def Dev.clearFabric (d : Dev) : Dev :=
  let inFabric : Nat → Bool := fun off => (0x800000 ≤ off && off < 0x900000) || (0xA10000 ≤ off && off < 0xA30000) ||
    (0x900000 ≤ off && off < 0x902000 && 0x58 ≤ off % 0x100 && off % 0x100 < 0x68)
  let gone := d.prot.leases.filter fun e => !d.lay.freed.any fun f => f.entry == e.1
  let d := { d with
    regs := d.regs.filter fun e => !inFabric e.1, latch := d.latch.filter fun e => !inFabric e.1
    lay := { d.lay with layers := [], reshed := [] }
    comp := { d.comp with holds := [], tasters := [] }
    enc := { d.enc with engines := [] } }
  let d := gone.foldl (fun d e => d.setLeases (tabDel d.prot.leases e.1) e.1) d
  let d := (List.range 128).foldl (fun d i => (d.put R.SCALER_STATUS_IN_USE 0 i).put R.SCALER_STATUS_LAYER 0 i) d
  [0, 1].foldl (fun d e => d.put R.ENC_ENG_STATUS_BUSY 0 e) d

/-- The levels of the token buckets under the old rates, from which the new ones go on, capped at the new BURST (R436). -/
def Dev.newRates (d : Dev) (im : Image) : Dev :=
  let levels := d.recd.buckets.map fun e =>
    let n := e.1 / 256 * 64 + evIndex (e.1 % 256)
    let rate : Image → Nat × Nat := fun i => ((i.rates.find? fun x => x.1 == n).map (·.2)).getD (16, 1000)
    let (burst, r) := rate d.img
    let level := min (burst * 1000000) (e.2.1 + r * (d.tb2 / qMs - e.2.2))
    (e.1, (min level ((rate im).1 * 1000000), d.tb2 / qMs))
  { d with recd := { d.recd with buckets := levels } }

/-- The unlocked regions are replaced in one pass (R68, R387). -/
def Dev.swapRegions (d : Dev) (im : Image) : Dev :=
  (List.range 6).foldl (fun d k =>
    let d := (d.loadRegions im k).takeLocks k
    if (List.range 64).any (d.rgnOn k) then d.put R.CHK_STATUS_ENFORCING 1 k else d) d

/-- A head under the new image: it keeps its mode where MAX_MODE allows it, and otherwise takes MAX_MODE; a head without an
entry is OFF. -/
def Dev.switchHead (d : Dev) (im : Image) (h : Nat) : Dev :=
  let on := d.headState h ≠ 0
  match im.heads.find? fun e => e.head == h && bit e.flags 0 with
  | none => if on then (d.setHead h .init).setReg R.HEAD_DISP_STATUS 0 h else d
  | some e =>
    let m := d.modeOf h
    let mx := modeRow e.maxMode
    let fits := decide (m.w * m.h ≤ mx.w * mx.h) && decide (m.clkNum * mx.clkDen ≤ mx.clkNum * m.clkDen)
    let mode := if on && fits then d.reg R.HEAD_MODE_CUR h else 2 ^ 31 + e.maxMode
    let d := (d.loadMode h mode).loadLead h (min e.lead ((modeRow (mode % 64)).h - 1))
    let d := (d.put R.HEAD_DISP_STATUS_PORT (e.port % 16) h).put R.HEAD_DISP_STATUS_STREAM (e.port / 16) h
    let x := d.head h
    let d := d.setHead h { HeadSt.init with grid := x.grid, n := x.n, shown := x.shown, async := x.async, linkUp := x.linkUp }
    if d.phase ≠ phaseRunning then d
    else
      let d := if on && fits then d else d.startGrid h
      d.setHead h { d.head h with resume := some (d.nextBoundary h) }

/-- A port under the new image: a link that carries its streams stays, every other one is trained again. -/
def Dev.switchPort (d : Dev) (old : List Nat) (p : Nat) : Dev :=
  let hs := d.portHeads p
  if hs.isEmpty then if old.isEmpty then d else d.linkDown p
  else
    let keeps := match (d.port p).trained with
      | some k => old == hs && d.carries p k true
      | none => false
    if keeps then (hs.filter fun h => d.headState h == hsModeChange).foldl (fun d h => d.linkReady h) d
    else d.startPort p

/-- The new image takes force (R67 to R69). PTP domains, profile and HOLDOVER_TRUST stay; LOOP_BW and the references are
reloaded (R68, R104). -/
def Dev.switchImage (d : Dev) (slot : Nat) : Dev :=
  let bs := (d.slot slot).bytes
  let old := d.img
  let im := { imgParse bs with
    tb0Domain := old.tb0Domain, tb1Domain := old.tb1Domain, ptpProfile := old.ptpProfile
    holdoverTrust := old.holdoverTrust }
  let ports := (List.range 16).map fun p => (p, d.portHeads p)
  let d := (d.enabledHeads.foldl (fun d h => d.stopHead h) d).watchViews Dev.clearFabric
  let d := d.newRates im
  let d := d.setBoot { d.boot with image := some im, imageBytes := bs, switch := none }
  let d := (d.put R.PROF_STATUS_SLOT slot).setReg R.PROF_IMAGE_ID im.imageId
  let d := d.swapRegions im
  let d := d.reloadRefs im
  let d := ((List.range 32).foldl (fun d h => d.switchHead im h) d).select
  let d := if d.phase = phaseRunning then ports.foldl (fun d e => d.switchPort e.2 e.1) d else d
  ((List.range 6).foldl (fun d g => d.groupRegs g) d).encRegs

/-- FABRIC_RESTART_DONE (R67, R431): the fabric runs again, under the new image once every head is blank, or as the journal
says; heads resume at a B(N) of their grid. A switch without a head completes at once. -/
def fabricRestartDone (d : Dev) : Dev :=
  match d.boot.switch with
  | some (q, seq, slot, choose) =>
    if !d.enabledHeads.all d.isBlank then d
    else
      let d := d.switchImage slot
      let d := if choose then d.choose slot else d
      if d.phase = phaseRunning && !d.enabledHeads.isEmpty then d.setBoot { d.boot with firstScan := some (q, seq, slot) }
      else (d.put R.PROF_STATUS_SWITCHING 0).succeed q seq (slot + d.wt48 * 2 ^ 16)
  | none =>
    if !d.err.fabricRun then d
    else
      let d := ({ d with err := { d.err with fabricRun := false } }).restoreJournal
      d.enabledHeads.foldl (fun d h => d.headResumes h) d

def execFabricRestartDone (t : Nat) (s : State) : Host.Outcome State Fault Refusal := s.onDev t fabricRestartDone

/-! ### Lifecycle (R58, R59) -/

/-- The key hashes that a command fuses, by index (R59). -/
def sealKeys (bs : List Byte) (mask : Nat) : Tab Nat :=
  ((List.range 4).filter fun k => bit mask k).map fun k => (k, beNat48 ((bs.drop (48 * k)).take 48))
where
  /-- A hash as a number, most significant byte first. -/
  beNat48 (h : List Byte) : Nat := h.foldl (fun a b => a * 256 + b.toNat) 0

/-- LIFECYCLE_SEAL (R59): rejected unless the image in force verifies under the new key hashes. -/
def lifecycleSeal (q seq : Nat) (d : Dev) : Dev :=
  d.onCmd q seq 0x0205 fun c d =>
    if 16 ≤ c.p 8 1 then d.bad q seq 8
    else d.withTail q seq c 9 fun d => d.withHost q seq c fun bs d =>
      if bs.length < 192 then d
      else
        let keys := sealKeys bs (c.p 8 1)
        let ok := !d.boot.isSealed && d.boot.image.isSome && imgSigned d.boot.imageBytes &&
          (imgSignature ⟨true, keys, d.boot.revoked, none⟩ d.boot.imageBytes).isNone
        if !ok then d.reject q seq 0x0204
        else
          let d := (d.setBoot { d.boot with isSealed := true, keys := keys }).put R.PROF_STATUS_SEALED 1
          d.succeed q seq (c.p 8 1)

def execLifecycleSeal (t q seq : Nat) (s : State) : Host.Outcome State Fault Refusal := s.onDev t (lifecycleSeal q seq)

end Sys2Proof.Machine
end

