-- ==== Sys2Proof/Machine/Recorder.lean ====
section
/-! DEFINITION. The recorder's rows, the state dump and the link and device tests (22). -/

namespace Sys2Proof.Machine

/-! ### Entries (R433 to R443) -/

/-- The 32 bytes of an entry (R433). -/
def RecEntry.bytes (e : RecEntry) : List Byte :=
  let b := leBytes 6 e.wt ++ leBytes 6 e.tb2 ++ leBytes 2 (evCode e.kind e.agent e.ev) ++
    leBytes 2 (e.module % 512 + e.wtState % 4 * 512) ++ leBytes 2 e.agent ++ leBytes 4 e.seq ++ leBytes 4 e.p0 ++
    leBytes 4 e.p1 ++ leBytes 1 e.p2
  b ++ leBytes 1 (crcOf 3 b)

/-- KIND of a number, 0 to 4; a larger one names no event that the recorder takes from outside. -/
def kindOf : Nat → Option Kind
  | 0 => some .info
  | 1 => some .corrected
  | 2 => some .contained
  | 3 => some .degraded
  | 4 => some .fatal
  | _ => none

/-- RECORDER_EVENT (R436, R437): an event that no other row raises reaches the recorder. -/
def recorderEvent (e : RecEvent) (d : Dev) : Dev :=
  match kindOf e.kind with
  | some k => if d.boot.begun then d.record (.other (e.index % 64)) k (e.agent % 65536) (e.p0 % 2 ^ 32) (e.p1 % 2 ^ 32) (e.p2 % 256) else d
  | none => d

def execRecorderEvent (t : Nat) (e : RecEvent) (s : State) : Host.Outcome State Fault Refusal := s.onDev t (recorderEvent e)

/-- RECORDER_FLASH_PROGRAM (R438 to R441): the oldest buffered entry is programmed into the erased slot at the write pointer;
with room again, the LOST entry follows. -/
def flashProgram (d : Dev) : Dev :=
  match d.recd.buffer with
  | [] => d
  | e :: rest =>
    let used := d.reg R.REC_FLASH_USED
    if !d.boot.begun || flashLimit < used then d
    else
      let d := { d with recd := { d.recd with flash := tabPut d.recd.flash used (.entry e), buffer := rest } }
      let d := (d.setReg R.REC_FLASH_USED (used + 1)).put R.REC_STATUS_BUFFERED rest.length
      let d := if e.ev = .boot then d.setReg R.REC_BOOTS (d.reg R.REC_BOOTS + 1) else d
      let d := if e.ev = .full then d.put R.REC_STATUS_RECORDER_FULL 1 else d
      if d.recd.lostCount = 0 then d
      else
        let n := d.recd.lostCount
        ({ d with recd := { d.recd with lostCount := 0 } }.put R.REC_STATUS_BUFFER_LOSS 0).storeEntry .recorder .lost 0xF000 n 0 0

def execRecorderFlashProgram (t : Nat) (s : State) : Host.Outcome State Fault Refusal := s.onDev t flashProgram

/-- Writes of a command to host memory need Bus Master Enable (R22); nothing is written for no bytes. -/
def Dev.giveHost (d : Dev) (q seq addr : Nat) (bs : List Byte) (result : Nat) : Dev :=
  if bs.isEmpty then d.succeed q seq result
  else if !d.host.busMaster then d.finish q seq Status.accessDenied 0x0E06
  else (d.hostPut addr bs).succeed q seq result

/-- The bytes of a flash slot; of a torn one the manual states none (R440, log 8). -/
def flashBytes (i : Nat) : FlashSlot → List Byte
  | .entry e => e.bytes
  | .torn => (List.range 32).map fun j => Config.freeByte 40 (i * 32 + j)

/-- The entries that a REC_READ of the flash store writes (R443): `count` slots in use from `first` on. -/
def Dev.flashEntries (d : Dev) (first count : Nat) : List (Nat × List Byte) :=
  (d.recd.flash.filter fun e => first ≤ e.1 && e.1 < first + count).map fun e => (e.1, flashBytes e.1 e.2)

/-- The entries that a REC_READ of the ring writes: in SEQ order from `first`, or from the oldest held (R442, R443). -/
def Dev.ringEntries (d : Dev) (first count : Nat) : List (Nat × List Byte) :=
  let es := d.recd.ring.reverse
  ((es.filter fun e => !later 32 first e.seq).take count).map fun e => (e.seq, e.bytes)

/-- REC_READ (R443). -/
def recRead (q seq : Nat) (d : Dev) : Dev :=
  d.onCmd q seq 0x1100 fun c d =>
    match firstBad [(c.p 1 1 == 0, 1), (c.p 2 1 == 0, 2), (c.p 3 1 == 0, 3)] with
    | some i => d.bad q seq i
    | none => d.withTail q seq c 20 fun d =>
      if 1 < c.p 0 1 then d.reject q seq 0x1101
      else if 65536 < c.p 8 4 then d.bad q seq 8
      else
        let es := if c.p 0 1 = 0 then d.flashEntries (c.p 4 4) (c.p 8 4) else d.ringEntries (c.p 4 4) (c.p 8 4)
        let first := (es.head?.map (·.1)).getD (c.p 4 4)
        d.giveHost q seq (c.p 12 8) (es.flatMap (·.2)) (es.length + first * 2 ^ 32)

def execRecRead (t q seq : Nat) (s : State) : Host.Outcome State Fault Refusal := s.onDev t (recRead q seq)

/-- REC_CATALOGUE (R443): the record of a NUMBER, whose contents are firmware's (R434, log 4). -/
def recCatalogue (q seq : Nat) (d : Dev) : Dev :=
  d.onCmd q seq 0x1101 fun c d =>
    match firstBad [(decide (c.p 0 2 < 1024), 0), (c.p 2 1 == 0, 2), (c.p 3 1 == 0, 3)] with
    | some i => d.bad q seq i
    | none => d.withTail q seq c 12 fun d =>
      match Config.catalogue (c.p 0 2) with
      | some r => d.giveHost q seq (c.p 4 8) ((List.range 256).map fun i => r.getD i 0) 1
      | none => d.succeed q seq 0

def execRecCatalogue (t q seq : Nat) (s : State) : Host.Outcome State Fault Refusal := s.onDev t (recCatalogue q seq)

/-! ### State dump (R444 to R447) -/

/-- Bytes of a dump slot (R39), and of its header (R445). -/
def dumpSize : Nat := 67108864

/-- The slot that a dump takes (R446): an erased one, otherwise the lowest DUMP_SEQ whose KEEP is 0. -/
def Dev.dumpSlot (d : Dev) : Option Nat :=
  match [0, 1, 2, 3].find? fun s => (d.dump s).erased with
  | some s => some s
  | none => ([0, 1, 2, 3].filter fun s => !(d.dump s).keep).foldl (fun b s =>
      match b with
      | none => some s
      | some x => if (d.dump s).seq < (d.dump x).seq then some s else b) none

/-- Registers whose read has a side effect: the FIFO of a capture unit, and the low words that latch others (log 119). -/
def readActs : List RegDesc :=
  [R.CAP_TIME_LO, R.WT_OFFSET_LO, R.CTX_PM_LO, R.LAYER_PM_LO, R.TCH_SCAN_LO, R.ADC_TIME_LO, R.CC_NEXT_LO, R.CH_ERR_LO,
   R.CHK_FAULT_LO, R.LG_FAULT_LO]

/-- A byte of the REGISTERS section: BAR0 as read, and 0 where the read has a side effect (R444). -/
def Dev.dumpReg (d : Dev) (off : Nat) : Byte :=
  match regAt (off / 4 * 4) with
  | none => 0
  | some (row, _, _) => if readActs.contains row.reg then 0 else (leBytes 4 (d.readAt (off / 4 * 4)).2).getD (off % 4) 0

/-- A byte of the dump area (R444): the ring and the registers; what the other sections hold is firmware's (log 8). -/
def Dev.dumpByte (d : Dev) (ring : List Byte) (a : Nat) : Byte :=
  if 0x100000 ≤ a && a < 0x300000 then ring.getD (a - 0x100000) 0
  else if 0x300000 ≤ a && a < 0x1600000 then d.dumpReg (a - 0x300000)
  else Config.freeByte 41 a

/-- Parcel `i` of the dump area (R445). -/
def Dev.dumpParcel (d : Dev) (ring : List Byte) (i : Nat) : List Byte :=
  parcelBytes true false (i == 1023) ((List.range parcelMax).map fun j => d.dumpByte ring (i * parcelMax + j))

/-- Parcels are packed until the next does not fit: the bytes, how many, and whether some were left out (R445). -/
def Dev.packDump (d : Dev) (ring : List Byte) : Nat → Nat → List Byte → List Byte × Nat × Bool
  | 0, i, acc => (acc, i, false)
  | k + 1, i, acc =>
    let p := d.dumpParcel ring i
    if dumpSize < 4096 + acc.length + p.length then (acc, i, true) else d.packDump ring k (i + 1) (acc ++ p)

/-- Rank line number of the dump area's first line (R377). -/
def dumpFirst : Nat := 130023424

/-- Lines of the dump area: 256 MiB (R377). -/
def dumpLineCount : Nat := 4194304

/-- Line `i` of the dump area is written in a channel. -/
def dumpLine (d : Dev) (ring : List Byte) (ch : Nat) (m : Mem) (i : Nat) : Mem :=
  (m.fillLine (lineOfRank ch (dumpFirst + i))).setBytes (lineOfRank ch (dumpFirst + i) * 64)
    ((List.range 64).map fun j => d.dumpByte ring (i * 64 + j))

/-- Lines of the dump area are written in the lowest channel that is not FAILED. -/
def dumpLines (d : Dev) (ring : List Byte) (is : List Nat) (m : Mem) : Mem :=
  match (List.range 8).find? fun ch => !d.chFailed ch with
  | none => m
  | some ch => is.foldl (dumpLine d ring ch) m

/-- The dump area's bytes lie in rows 0xF800 to 0xFFFF of the lowest channel that is not FAILED, and what those rows held is
lost (R377); they are taken in rank address order (log 19). -/
def dumpToDram (d : Dev) (ring : List Byte) (m : Mem) : Mem := dumpLines d ring (List.range dumpLineCount) m

/-- DUMP_WRITE (R444 to R446): after FATAL and the release of the claim, the state is packed into a slot, which is erased
first; with every slot kept, one event says so. -/
def dumpWrite (x : Dev × Mem) : Dev × Mem :=
  let d := x.1
  if !d.on R.ERR_STATUS_FATAL || d.on R.PAIR_STATUS_CLAIM || d.recd.dumping.isSome || d.recd.dumped then x
  else
    let d := { d with recd := { d.recd with dumped := true } }
    let ring := d.recd.ring.reverse.flatMap RecEntry.bytes
    let m := if d.boot.memoryUp then dumpToDram d ring x.2 else x.2
    match d.dumpSlot with
    | none => (d.info .dumpNone 0x0FFF, m)
    | some s =>
      let (body, n, cut) := d.packDump ring 1024 0 []
      let d := d.setDump s { DumpSlot.init with erased := false, body := body, parcels := n, truncated := cut }
      ({ d with recd := { d.recd with dumping := some s } }, m)

def execDumpWrite (t : Nat) (s : State) : Host.Outcome State Fault Refusal := s.onAll t dumpWrite

/-- DUMP_COMPLETE (R445, R446): the header is written with COMPLETE set. -/
def dumpComplete (d : Dev) : Dev :=
  match d.recd.dumping with
  | none => d
  | some s =>
    let high := ([0, 1, 2, 3].map fun k => (d.dump k).seq).foldl max 0
    let v := { d.dump s with
      complete := true, cause := d.get R.ERR_STATUS_FATAL_CAUSE, seq := (high + 1) % 2 ^ 32, wt := d.recd.fatalWt
      tb2 := d.recd.fatalTb2, imageId := d.img.imageId, recSeq := d.recd.fatalSeq }
    ({ d with recd := { d.recd with dumping := none } }).setDump s v

def execDumpComplete (t : Nat) (s : State) : Host.Outcome State Fault Refusal := s.onDev t dumpComplete

/-- The slot header (R445). -/
def DumpSlot.header (s : DumpSlot) (module : Nat) : List Byte :=
  let b := [0x53, 0x57, 0x5A, 0x44] ++ leBytes 2 1 ++ leBytes 1 s.flags ++ leBytes 1 s.cause ++ leBytes 4 s.seq ++
    leBytes 6 s.wt ++ leBytes 6 s.tb2 ++ leBytes 2 (module % 512) ++ leBytes 2 s.parcels ++ leBytes 4 s.imageId ++
    leBytes 4 s.recSeq ++ List.replicate 4056 0
  b ++ leBytes 4 (crcOf 1 b)

/-- A byte of a dump slot as it is read; what nothing has written is free (log 8). -/
def Dev.dumpSlotByte (d : Dev) (n : Nat) (head : List Byte) (a : Nat) : Byte :=
  let s := d.dump n
  if a < 4096 then if s.complete then head.getD a 0 else Config.freeByte 42 (n * dumpSize + a)
  else if s.erased || s.body.length ≤ a - 4096 then Config.freeByte 42 (n * dumpSize + a)
  else s.body.getD (a - 4096) 0

/-- A dump command names a slot and waits while a dump is written (R447). -/
def Dev.withDump (d : Dev) (q seq : Nat) (c : Cmd) (tail : Nat) (f : Nat → Dev → Dev) : Dev :=
  d.withTail q seq c tail fun d =>
    if d.recd.dumping.isSome then d
    else if 3 < c.p 0 1 then d.reject q seq 0x1102
    else f (c.p 0 1) d

/-- DUMP_READ (R447). -/
def dumpRead (q seq : Nat) (d : Dev) : Dev :=
  d.onCmd q seq 0x1110 fun c d =>
    match firstBad [(c.p 1 1 == 0, 1), (c.p 2 1 == 0, 2), (c.p 3 1 == 0, 3)] with
    | some i => d.bad q seq i
    | none => d.withDump q seq c 20 fun s d =>
      let n := c.p 8 4
      if dumpSize < c.p 4 4 + n then d.reject q seq 0x1102
      else
        let head := (d.dump s).header d.moduleId
        d.giveHost q seq (c.p 12 8) ((List.range n).map fun i => d.dumpSlotByte s head (c.p 4 4 + i)) n

def execDumpRead (t q seq : Nat) (s : State) : Host.Outcome State Fault Refusal := s.onDev t (dumpRead q seq)

/-- DUMP_KEEP (R447): RESULT is FLAGS after the command; an erased slot has no flag to set. -/
def dumpKeep (q seq : Nat) (d : Dev) : Dev :=
  d.onCmd q seq 0x1111 fun c d =>
    if 1 < c.p 1 1 then d.bad q seq 1
    else d.withDump q seq c 2 fun s d =>
      let v := { d.dump s with keep := !(d.dump s).erased && c.p 1 1 == 1 }
      (d.setDump s v).succeed q seq v.flags

def execDumpKeep (t q seq : Nat) (s : State) : Host.Outcome State Fault Refusal := s.onDev t (dumpKeep q seq)

/-- DUMP_ERASE (R447). -/
def dumpErase (q seq : Nat) (d : Dev) : Dev :=
  d.onCmd q seq 0x1112 fun c d => d.withDump q seq c 1 fun s d => (d.setDump s DumpSlot.init).succeed q seq 0

def execDumpErase (t q seq : Nat) (s : State) : Host.Outcome State Fault Refusal := s.onDev t (dumpErase q seq)

/-! ### Link and device tests (R448 to R453) -/

/-- TEST_IN_SERVICE. -/
def rTestInService : Nat := 0x1201
/-- BAD_TEST_FIELD. -/
def rBadTestField : Nat := 0x1202
/-- TEST_RUNNING. -/
def rTestRunning : Nat := 0x1203

/-- A PARAM field of a test command is out of range: RESULT is its PARAM byte offset (R452). -/
def Dev.badTest (d : Dev) (q seq i : Nat) : Dev := d.finish q seq Status.rejected rBadTestField i

/-- Whether an instance of a target exists: port in bits 3:0, lane in bits 6:4 (R448, R452). -/
def testInstance (target inst : Nat) : Bool :=
  match target with
  | 0 => decide (inst % 16 < 4) && decide (inst / 16 < 6)
  | 1 => decide (inst < 16)
  | 2 => decide (inst < 4)
  | 4 => decide (inst < 8)
  | _ => inst == 0

/-- Number of patterns of a target, counted in the order of R448's table (log 20). -/
def testPatterns : Nat → Nat
  | 0 => 4
  | 1 => 4
  | 2 => 3
  | 3 => 2
  | 4 => 3
  | _ => 1

/-- OWNS (R343). -/
def Dev.owns (d : Dev) : Bool := d.on R.PAIR_STATUS_OWNS

/-- The condition under which a target may be tested (R448). -/
def Dev.testAllowed (d : Dev) (target inst : Nat) : Bool :=
  match target with
  | 0 => d.pln (inst % 16) != plnUp || d.on R.PLN_CTRL_HOLD (inst % 16)
  | 1 => (d.portHeads inst).all fun h => d.headState h == hsNoSink
  | 2 => !d.on R.ETH_CTRL_ENABLE inst
  | 4 => (d.rankIn inst rkSpare).isSome
  | 5 => d.phase != phaseRunning || !d.owns
  | 6 => d.pst == prSolo || d.pst == prFault
  | _ => true

/-- TEST_START (R448, R452): the counters of the target are cleared. -/
def testStart (q seq : Nat) (d : Dev) : Dev :=
  d.onCmd q seq 0x1200 fun c d => d.withTail q seq c 5 fun d =>
    let target := c.p 0 1
    let inst := c.p 1 2
    match firstBad [(decide (target ≤ 6), 0), (testInstance target inst, 1), (decide (c.p 3 1 < testPatterns target), 3),
        (decide (c.p 4 1 < 2), 4)] with
    | some i => d.badTest q seq i
    | none =>
      if d.recd.tests.any fun e => e.1 == target && e.2.1 == inst then d.reject q seq rTestRunning
      else if !d.testAllowed target inst then d.reject q seq rTestInService
      else
        let d := { d with recd := { d.recd with tests := d.recd.tests ++ [(target, inst, c.p 3 1, c.p 4 1)] } }
        ((d.setReg R.TEST_ERRORS 0 target).setReg R.TEST_BITS 0 target).succeed q seq 0

def execTestStart (t q seq : Nat) (s : State) : Host.Outcome State Fault Refusal := s.onDev t (testStart q seq)

/-- TEST_STOP (R448, R452): `errors` and `bits` are what the checker has counted, bits in units of 2²⁰. -/
def testStop (q seq errors bits : Nat) (d : Dev) : Dev :=
  d.onCmd q seq 0x1201 fun c d => d.withTail q seq c 3 fun d =>
    let target := c.p 0 1
    let inst := c.p 1 2
    match firstBad [(decide (target ≤ 6), 0), (testInstance target inst, 1)] with
    | some i => d.badTest q seq i
    | none =>
      let mine : Nat × Nat × Nat × Nat → Bool := fun e => e.1 == target && e.2.1 == inst
      let d := if d.recd.tests.any mine then
          let d := (d.bump R.TEST_ERRORS_ERRORS target errors).bumpWrap R.TEST_BITS_BITS target bits
          { d with recd := { d.recd with tests := d.recd.tests.filter fun e => !mine e } }
        else d
      d.succeed q seq (d.reg R.TEST_ERRORS target + d.reg R.TEST_BITS target * 2 ^ 32)

def execTestStop (t q seq errors bits : Nat) (s : State) : Host.Outcome State Fault Refusal :=
  s.onDev t (testStop q seq errors bits)

/-- MEM_INJECT (R449): the next full-line write to the PA is corrupted, and the command completes once it is written. -/
def memInject (q seq : Nat) (x : Dev × Mem) : Dev × Mem :=
  onCmdMem x.1 x.2 q seq 0x1202 fun c d m =>
    let line := c.p 0 8 / 64
    if !c.tailZero 10 then (d.withTail q seq c 10 id, m)
    else match firstBad [(decide (c.p 0 8 < 2 ^ 36), 0), (c.p 8 1 == 1 || c.p 8 1 == 2, 8), (decide (c.p 9 1 ≤ 4), 9)] with
    | some i => (d.badTest q seq i, m)
    | none =>
      if d.recd.inject.contains (q, seq, line) then
        if (tabGet? m.armed line).isSome then (d, m)
        else ({ d with recd := { d.recd with inject := d.recd.inject.erase (q, seq, line) } }.succeed q seq 0, m)
      else if d.boot.isSealed && d.img.debugPolicy == 0 then (d.reject q seq rTestInService, m)
      else ({ d with recd := { d.recd with inject := (q, seq, line) :: d.recd.inject } },
        { m with armed := tabPut m.armed line (c.p 8 1 * 8 + c.p 9 1) })

def execMemInject (t q seq : Nat) (s : State) : Host.Outcome State Fault Refusal := s.onAll t (memInject q seq)

/-- The median of a list, the lower of the two middle ones. -/
def medianOf (l : List Nat) : Nat := (l.mergeSort).getD ((l.length - 1) / 2) 0

/-- The result array of TOUCH_TEST (R450): 2 bits for each electrode, drive electrodes at bits 0 to 143, sense electrodes at
bits 144 to 239. `raw` is the coupling of each node, `side` the largest coupling of each electrode, drive ones first, to
AGND_S or a neighbour. -/
def touchResult (nd ns : Nat) (raw : List (List Nat)) (side : List Nat) : List Nat :=
  let at' : Nat → Nat → Nat := fun i j => (raw.getD i []).getD j 0
  let med := medianOf ((List.range nd).flatMap fun i => (List.range ns).map fun j => at' i j)
  let low : Nat → Nat → Bool := fun i j => decide (4 * at' i j < med)
  let short : Nat → Nat := fun k => b2n (decide (4 * med < side.getD k 0))
  let drive := (List.range 72).map fun i =>
    if i < nd then b2n ((List.range ns).any fun j => low i j) + 2 * short i else 0
  let sense := (List.range 48).map fun j =>
    if j < ns then b2n ((List.range nd).any fun i => low i j) + 2 * short (72 + j) else 0
  drive ++ sense

/-- Pack 2-bit values into bytes, the first in the lowest bits. -/
def packPairs : List Nat → List Byte
  | a :: b :: c :: e :: r => BitVec.ofNat 8 (a + 4 * b + 16 * c + 64 * e) :: packPairs r
  | _ => []

/-- TOUCH_TEST (R450, R452): the raw counts go to DRAM through the SENSE checker, two bytes each in node order (log 20). -/
def touchTest (q seq : Nat) (raw : List (List Nat)) (side : List Nat) (x : Dev × Mem) : Dev × Mem :=
  onCmdMem x.1 x.2 q seq 0x1203 fun c d m =>
    let p := c.p 0 1
    if !c.tailZero 17 then (d.withTail q seq c 17 id, m)
    else if 1 < p then (d.badTest q seq 0, m)
    else if d.on R.TCH_CTRL_ENABLE p then (d.reject q seq rTestInService, m)
    else if !d.host.busMaster then (d.finish q seq Status.accessDenied 0x0E06, m)
    else if d.chkClosed 5 then (d.waitAt 5 (.cmd q seq true (c.p 9 8)), m)
    else
      let nd := d.get R.TCH_CTRL_USED_DRV_M1 p + 1
      let ns := d.get R.TCH_CTRL_USED_SNS_M1 p + 1
      let res := touchResult nd ns raw side
      let counts := (List.range nd).flatMap fun i => (List.range ns).flatMap fun j => leBytes 2 ((raw.getD i []).getD j 0)
      let (d, m, ds) := checkedWrite d m 5 p (c.p 9 8) counts
      let d := d.hostPut (c.p 1 8) (packPairs res)
      match ds.head? with
      | some e => (d.finish q seq Status.accessDenied e.2.reason (counts.length - ds.length), m)
      | none => (d.succeed q seq (res.filter (· ≠ 0)).length, m)

def execTouchTest (t q seq : Nat) (raw : List (List Nat)) (side : List Nat) (s : State) :
    Host.Outcome State Fault Refusal := s.onAll t (touchTest q seq raw side)

/-- The expected codes of the self-check (R288, R451): 0, +5 and −5 V at ±10.24 V, and 0 and +5 V at 0 to 5.12 V, as thirds of
… 78.125 µV and 19.53125 µV a code. -/
def selfCheckCodes : List Int := [0, 64000, -64000, 0, 256000]

/-- Whether a channel passes: every code within 0.05 % of the 262,144 codes of full scale. -/
def selfCheckOk (codes : List Int) : Bool :=
  (List.range 5).all fun i => decide ((codes.getD i 0 - selfCheckCodes.getD i 0).natAbs * 10000 ≤ 5 * 262144)

/-- Whether a trigger unit or a control cycle starts converter sequences (R451). -/
def Dev.sequencesStart (d : Dev) : Bool := d.io.adc.cfg.trigEn || d.io.cycles.any fun e => e.2.running

/-- ADC_SELF_CHECK (R451): `codes` are each channel's five results, in the order of `selfCheckCodes`. -/
def adcSelfCheck (q seq : Nat) (codes : List (List Int)) (d : Dev) : Dev :=
  d.onCmd q seq 0x1204 fun c d => d.withTail q seq c 0 fun d =>
    if d.sequencesStart then d.reject q seq rTestInService
    else d.succeed q seq ((List.range 16).map fun i => b2n (!selfCheckOk (codes.getD i [])) * 2 ^ i).sum

def execAdcSelfCheck (t q seq : Nat) (codes : List (List Int)) (s : State) : Host.Outcome State Fault Refusal :=
  s.onDev t (adcSelfCheck q seq codes)

end Sys2Proof.Machine
end

