-- ==== Sys2Proof/Machine/Power.lean ====
section
/-! DEFINITION. Power feeds, hold-up, resets and thermal limits (23). -/

namespace Sys2Proof.Machine

/-- Set the power stage. -/
def Dev.setPwr (d : Dev) (x : PwrSt) : Dev := { d with pwr := x }

/-- Agent identifier of the power stage (R487). -/
def powerAgent : Nat := 0x0010

/-! ### Loss of the logic and reset (R465, R466) -/

/-- What an interruption leaves in flash (R40, R41, R440, R465). -/
def Dev.interrupted (d : Dev) (cut : CutOff) : Dev :=
  let busy : Nat → (Cmd → Bool) → Bool := fun op p =>
    d.host.queues.any fun e => e.2.cmds.any fun c => c.st == .started && c.opcode == op && p c
  let d := match cut.slot with
    | some n =>
      if busy 0x0201 (fun c => c.p 0 1 == n && c.hostData.isSome) && d.inForceSlot ≠ some n then
        d.setBoot { d.boot with slots := tabDel d.boot.slots n }
      else d
    | none => d
  let d := if cut.sel && busy 0x0203 (fun _ => true) then d.setBoot (d.boot.select ⟨false, 0, 0⟩) else d
  let used := d.recd.flashUsed
  if cut.entry && !d.recd.buffer.isEmpty && used < 33554432 then
    { d with recd := { d.recd with flash := tabPut d.recd.flash used .torn } }
  else d

/-- Offsets of the registers that the power stage holds. -/
def powerRegs : List Nat := [R.PWR_STATUS.base, R.THERM_STATUS.base, R.RESET_CAUSE.base]

/-- All logic is reset (R466): flash, fuses and the power stage stay; the OCXO keeps its warmth unless the start is cold. -/
def Dev.resetLogic (d : Dev) (cold : Bool) : Dev :=
  let b := d.boot
  let d' := { Dev.init with
    now := d.now
    regs := d.regs.filter fun e => powerRegs.contains e.1
    boot := { BootSt.init with
      slots := b.slots, sel0 := b.sel0, sel1 := b.sel1, isSealed := b.isSealed, keys := b.keys, revoked := b.revoked }
    recd := { RecSt.init with flash := d.recd.flash, dumps := d.recd.dumps }
    pwr := { d.pwr with preConfigure := true }
    ref := { RefSt.init with warm := !cold && d.ref.warm } }
  if cold then d'.put R.THERM_STATUS_OCXO_READY 0 else d'

/-- Logic power is removed (R465, R471): nothing of the logic survives, and no contact is driven. DRAM holds nothing from here
on (log 3). -/
def powerOff (cut : CutOff) (x : Dev × Mem) : Dev × Mem :=
  let d := (x.1.interrupted cut).resetLogic true
  (d.setPwr { d.pwr with logicOn := false, v3p3 := false, mrstLow := false }, Mem.init)

/-! ### Feeds (R463 to R465) -/

/-- A feed by its number: 0 A, 1 B. -/
def Dev.feed (d : Dev) (f : Nat) : Feed := if f = 0 then d.pwr.feedA else d.pwr.feedB
/-- Set it. -/
def Dev.setFeed (d : Dev) (f : Nat) (v : Feed) : Dev :=
  if f = 0 then d.setPwr { d.pwr with feedA := v } else d.setPwr { d.pwr with feedB := v }
/-- Whether a feed is accepted. -/
def Dev.fed (d : Dev) : Bool := d.pwr.feedA.ok || d.pwr.feedB.ok
/-- Whether events reach the recorder: the logic runs. -/
def Dev.runs (d : Dev) : Bool := d.pwr.logicOn && !d.pwr.mrstLow && d.boot.begun

/-- FEED_ABOVE_TURN_ON: the dwell starts; for a feed cut off for overvoltage, when it falls below 75 V (R463). -/
def feedAbove (f : Nat) (d : Dev) : Dev :=
  let v := d.feed f
  if 2 ≤ f || v.ok || v.rising.isSome then d else d.setFeed f { v with rising := some d.now }

def execFeedAboveTurnOn (t feed : Nat) (s : State) : Host.Outcome State Fault Refusal := s.onDev t (feedAbove feed)

/-- FEED_ACCEPTED (R463, R465): after 10 ms unpowered, 100 µs powered, or 1 s after an overvoltage; a hold-up ends. -/
def feedAccepted (f : Nat) (d : Dev) : Dev :=
  let v := d.feed f
  let dwell := if v.ov then qS else if d.pwr.logicOn then 100 * qUs else 10 * qMs
  match v.rising with
  | some a =>
    if 2 ≤ f || v.ok || d.now < a + dwell then d
    else
      let d := d.setFeed f ⟨none, true, false⟩
      (d.put (if f = 0 then R.PWR_STATUS_FEED_A_OK else R.PWR_STATUS_FEED_B_OK) 1).put R.PWR_STATUS_ON_HOLDUP 0
  | none => d

def execFeedAccepted (t feed : Nat) (s : State) : Host.Outcome State Fault Refusal := s.onDev t (feedAccepted feed)

/-- The power stage without a feed and without logic keeps nothing (R466, RESET_CAUSE). -/
def Dev.stageLost (d : Dev) : Dev :=
  if d.fed || d.pwr.logicOn then d
  else
    let d := { d with regs := d.regs.filter fun e => !powerRegs.contains e.1 }
    d.setPwr { d.pwr with tripped := false }

/-- A feed is disconnected (R463 to R465): with the other one accepted an event says so; as the last one, the hold-up
starts. -/
def Dev.feedLost (d : Dev) (f : Nat) (v : Feed) : Dev :=
  let d := (d.setFeed f v).put (if f = 0 then R.PWR_STATUS_FEED_A_OK else R.PWR_STATUS_FEED_B_OK) 0
  let d := d.put (if f = 0 then R.PWR_STATUS_FEED_A_LOST else R.PWR_STATUS_FEED_B_LOST) 1
  if !d.pwr.logicOn then d.stageLost
  else if d.fed then if d.runs then d.info .feedLost powerAgent f else d
  else
    let d := d.put R.PWR_STATUS_ON_HOLDUP 1
    if d.runs then d.info .holdup powerAgent f else d

/-- FEED_TURN_OFF (R463): below 32.0 V for 10 µs. -/
def feedTurnOff (f : Nat) (d : Dev) : Dev :=
  let v := d.feed f
  if 2 ≤ f then d
  else if v.ok then d.feedLost f { v with rising := none, ok := false }
  else d.setFeed f { v with rising := none }

def execFeedTurnOff (t feed : Nat) (s : State) : Host.Outcome State Fault Refusal := s.onDev t (feedTurnOff feed)

/-- FEED_OVERVOLTAGE (R463). -/
def feedOvervoltage (f : Nat) (d : Dev) : Dev :=
  let v := d.feed f
  if 2 ≤ f then d
  else if v.ok then (d.put R.PWR_STATUS_OV_SEEN 1).feedLost f ⟨none, false, true⟩
  else d.setFeed f ⟨none, false, true⟩

def execFeedOvervoltage (t feed : Nat) (s : State) : Host.Outcome State Fault Refusal := s.onDev t (feedOvervoltage feed)

/-- HOLDUP_END (R464, R465): the storage reaches 40 V and logic power is removed. -/
def holdupEnd (cut : CutOff) (x : Dev × Mem) : Dev × Mem :=
  if !x.1.pwr.logicOn || x.1.fed then x
  else
    let (d, m) := powerOff cut x
    (d.stageLost, m)

def execHoldupEnd (t : Nat) (cut : CutOff) (s : State) : Host.Outcome State Fault Refusal := s.onAll t (holdupEnd cut)

/-- POWER_GOOD (R461, R464, R466): the rails are good; the contacts take their pre-CONFIGURE states. -/
def powerGood (d : Dev) : Dev :=
  if d.pwr.logicOn || !d.fed || d.pwr.tripped then d
  else d.setPwr { d.pwr with logicOn := true, v3p3 := true, preConfigure := true }

def execPowerGood (t : Nat) (s : State) : Host.Outcome State Fault Refusal := s.onDev t powerGood

/-! ### Resets (R466 to R468) -/

/-- MODULE_RESET (R466, R467): MRST_N is low past its filter. -/
def moduleReset (cut : CutOff) (x : Dev × Mem) : Dev × Mem :=
  if !x.1.pwr.logicOn || x.1.pwr.mrstLow then x
  else
    let d := (x.1.interrupted cut).resetLogic false
    let d := (d.put R.RESET_CAUSE_CAUSE 1).bump R.RESET_CAUSE_RESETS
    (d.setPwr { d.pwr with mrstLow := true }, Mem.init)

def execModuleReset (t : Nat) (cut : CutOff) (s : State) : Host.Outcome State Fault Refusal := s.onAll t (moduleReset cut)

/-- Registers of a queue that a host-interface reset leaves alone: Q_EXP_SEQ and Q_DONE_SEQ (R468). -/
def queueRegs : List RegDesc :=
  [R.Q_CTRL, R.SQ_BASE_LO, R.SQ_BASE_HI, R.CQ_BASE_LO, R.CQ_BASE_HI, R.Q_STATUS, R.Q_DUP_COUNT]

/-- Whether a started command waits for host data: the reset cuts its read (R468). -/
def Cmd.readsHost (c : Cmd) : Bool :=
  c.st == .started && c.hostData.isNone &&
    match c.opcode with
    | 0x0003 => decide (c.p 0 8 < 2 ^ 63) && c.p 16 4 != 0
    | 0x0006 => true
    | 0x0200 => true
    | 0x0201 => true
    | 0x0205 => true
    | 0x0402 => true
    | 0x0403 => true
    | 0x0610 => true
    | 0x0800 => c.p 2 2 != 0
    | 0x0801 => c.p 4 2 != 0
    | 0x0F01 => true
    | 0x1000 => true
    | _ => false

/-- One queue at a host-interface reset (R468): DISABLED at once, its commands go on, and their completions are held. -/
def Dev.resetQueue (d : Dev) (cut : List (Nat × Nat)) (q : Nat) : Dev :=
  let gone := (d.queue q).cmds.filter fun c => c.st == .started && (c.readsHost || cut.contains (q, c.seq))
  let d := gone.foldl (fun d c => (d.feedFailed q c.seq 0).finish q c.seq Status.timeout) d
  let d := queueRegs.foldl (fun d r => d.setReg r r.reset q) d
  d.setQueue q { d.queue q with
    sqTail := 0, cqHead := 0, cqTail := 0, phase := true, coal := 0, holding := true }

/-- HOST_INTERFACE_RESET (R466, R468): `cut` are the commands whose host reads or writes the reset cuts. -/
def hostInterfaceReset (cut : List (Nat × Nat)) (d : Dev) : Dev :=
  if !d.pwr.logicOn || d.pwr.mrstLow then d
  else
    let d := { d with host := { d.host with busMaster := false, bar2Log2 := 30, d3hot := false, resp := .none } }
    let d := (d.setReg R.BAR2_OFFSET 0).setReg R.EVQ_LOST 0 evQ
    (List.range 17).foldl (fun d q => d.resetQueue cut q) d

def execHostInterfaceReset (t : Nat) (cut : List (Nat × Nat)) (s : State) : Host.Outcome State Fault Refusal :=
  s.onDev t (hostInterfaceReset cut)

/-! ### Thermal limits (R470, R471) -/

/-- THERMAL_TRIP (R470, R471): logic power is removed, and the power stage keeps its state. -/
def thermalTrip (cut : CutOff) (x : Dev × Mem) : Dev × Mem :=
  if !x.1.pwr.logicOn then x
  else
    let (d, m) := powerOff cut x
    ((d.setPwr { d.pwr with tripped := true, tripAt := d.now }).stageLost, m)

def execThermalTrip (t : Nat) (cut : CutOff) (s : State) : Host.Outcome State Fault Refusal := s.onAll t (thermalTrip cut)

/-- THERMAL_RESTART (R471): no earlier than 10 s after the trip; the logic cold-starts. -/
def thermalRestart (d : Dev) : Dev :=
  if !d.pwr.tripped || !d.fed || d.now < d.pwr.tripAt + 10 * qS then d
  else
    let d := ((d.put R.RESET_CAUSE_CAUSE 2).bump R.RESET_CAUSE_RESETS).put R.THERM_STATUS_PLATE_HIGH 0
    powerGood (d.setPwr { d.pwr with tripped := false })

def execThermalRestart (t : Nat) (s : State) : Host.Outcome State Fault Refusal := s.onDev t thermalRestart

/-- PLATE_HIGH (R470): the plate sensor, in °C; above 75 the bit is set with one event, otherwise it clears. -/
def plateHigh (plate : Int) (d : Dev) : Dev :=
  if !d.pwr.logicOn then d
  else if 75 < plate then
    if d.on R.THERM_STATUS_PLATE_HIGH then d
    else
      let d := d.put R.THERM_STATUS_PLATE_HIGH 1
      if d.runs then d.info .plateHigh powerAgent (ofSigned 8 plate) else d
  else d.put R.THERM_STATUS_PLATE_HIGH 0

def execPlateHigh (t : Nat) (plate : Int) (s : State) : Host.Outcome State Fault Refusal := s.onDev t (plateHigh plate)

end Sys2Proof.Machine
end

