-- ==== Sys2Proof/Machine/Dispatch.lean ====
section
/-! DEFINITION. The dispatch of every command to its meaning. -/

namespace Sys2Proof.Machine

def exec (i : Instr) (s : State) : Host.Outcome State Fault Refusal :=
  match i with
  | .domainClockLost t dom inst => Sys2Proof.Machine.execDomainClockLost t dom inst s
  | .domainClockPresent t dom inst => Sys2Proof.Machine.execDomainClockPresent t dom inst s
  | .watchdogExpiry t core => Sys2Proof.Machine.execWatchdogExpiry t core s
  | .mgmtCoreRestartDone t core => Sys2Proof.Machine.execMgmtCoreRestartDone t core s
  | .registerWrite t off size v => Sys2Proof.Machine.execRegisterWrite t off size v s
  | .lowWordLatchRead t off size => Sys2Proof.Machine.execLowWordLatchRead t off size s
  | .pcieConfigRequest t r => Sys2Proof.Machine.execPcieConfigRequest t r s
  | .bar2Read t off len => Sys2Proof.Machine.execBar2Read t off len s
  | .bar2Write t off bytes => Sys2Proof.Machine.execBar2Write t off bytes s
  | .bar2OffsetWrite t v => Sys2Proof.Machine.execBar2OffsetWrite t v s
  | .hostReadCompletion t q seq a => Sys2Proof.Machine.execHostReadCompletion t q seq a s
  | .hostReadTimeout t q seq => Sys2Proof.Machine.execHostReadTimeout t q seq s
  | .hostWriteTimeout t w => Sys2Proof.Machine.execHostWriteTimeout t w s
  | .queueEnable t q v => Sys2Proof.Machine.execQueueEnable t q v s
  | .queueDisable t q v => Sys2Proof.Machine.execQueueDisable t q v s
  | .sqTailDoorbell t q v => Sys2Proof.Machine.execSqTailDoorbell t q v s
  | .cqHeadDoorbell t q v => Sys2Proof.Machine.execCqHeadDoorbell t q v s
  | .commandEntryFetched t q entry => Sys2Proof.Machine.execCommandEntryFetched t q entry s
  | .commandStart t q seq => Sys2Proof.Machine.execCommandStart t q seq s
  | .commandDeadline t q seq => Sys2Proof.Machine.execCommandDeadline t q seq s
  | .completionWrite t q => Sys2Proof.Machine.execCompletionWrite t q s
  | .fenceWrite t f v => Sys2Proof.Machine.execFenceWrite t f v s
  | .nop t q seq => Sys2Proof.Machine.execNop t q seq s
  | .sync t q seq => Sys2Proof.Machine.execSync t q seq s
  | .fenceSignal t q seq => Sys2Proof.Machine.execFenceSignal t q seq s
  | .dmaCopy t q seq => Sys2Proof.Machine.execDmaCopy t q seq s
  | .dmaFill t q seq => Sys2Proof.Machine.execDmaFill t q seq s
  | .regReadBlock t q seq => Sys2Proof.Machine.execRegReadBlock t q seq s
  | .regWriteBatch t q seq => Sys2Proof.Machine.execRegWriteBatch t q seq s
  | .forwardedCommandReceived t origin oq entry => Sys2Proof.Machine.execForwardedCommandReceived t origin oq entry s
  | .forwardedOutcome t q seq o => Sys2Proof.Machine.execForwardedOutcome t q seq o s
  | .forwardTimeout t q seq => Sys2Proof.Machine.execForwardTimeout t q seq s
  | .bootStart t profsel preferred => Sys2Proof.Machine.execBootStart t profsel preferred s
  | .bootFirmwareLoaded t okA okB => Sys2Proof.Machine.execBootFirmwareLoaded t okA okB s
  | .bootImageValidated t => Sys2Proof.Machine.execBootImageValidated t s
  | .bootMemoryTrained t badRanks repairs => Sys2Proof.Machine.execBootMemoryTrained t badRanks repairs s
  | .ocxoSteady t => Sys2Proof.Machine.execOcxoSteady t s
  | .ocxoReady t => Sys2Proof.Machine.execOcxoReady t s
  | .bootOutputs t => Sys2Proof.Machine.execBootOutputs t s
  | .imageCheck t q seq => Sys2Proof.Machine.execImageCheck t q seq s
  | .imageWrite t q seq flashOk => Sys2Proof.Machine.execImageWrite t q seq flashOk s
  | .slotErase t q seq flashOk => Sys2Proof.Machine.execSlotErase t q seq flashOk s
  | .slotChoose t q seq flashOk => Sys2Proof.Machine.execSlotChoose t q seq flashOk s
  | .profileSwitch t q seq => Sys2Proof.Machine.execProfileSwitch t q seq s
  | .fabricRestartDone t => Sys2Proof.Machine.execFabricRestartDone t s
  | .lifecycleSeal t q seq => Sys2Proof.Machine.execLifecycleSeal t q seq s
  | .wtUnsetTimeout t => Sys2Proof.Machine.execWtUnsetTimeout t s
  | .ptpMessageReceived t dom port m => Sys2Proof.Machine.execPtpMessageReceived t dom port m s
  | .ptpReceiptTimeout t dom => Sys2Proof.Machine.execPtpReceiptTimeout t dom s
  | .holdoverTrustExpiry t => Sys2Proof.Machine.execHoldoverTrustExpiry t s
  | .wtFollow t q seq => Sys2Proof.Machine.execWtFollow t q seq s
  | .ptpPorts t q seq => Sys2Proof.Machine.execPtpPorts t q seq s
  | .timeSnap t v => Sys2Proof.Machine.execTimeSnap t v s
  | .tb3Apply t v => Sys2Proof.Machine.execTb3Apply t v s
  | .tb3RateAdjWrite t v => Sys2Proof.Machine.execTb3RateAdjWrite t v s
  | .ppsCtrlWrite t v => Sys2Proof.Machine.execPpsCtrlWrite t v s
  | .ppsOutRise t => Sys2Proof.Machine.execPpsOutRise t s
  | .ppsOutFall t => Sys2Proof.Machine.execPpsOutFall t s
  | .ethFrameReceived t port size f => Sys2Proof.Machine.execEthFrameReceived t port size f s
  | .launchFrameSubmit t p at48 bytes gated => Sys2Proof.Machine.execLaunchFrameSubmit t p at48 bytes gated s
  | .launchTimeReached t p => Sys2Proof.Machine.execLaunchTimeReached t p s
  | .trigApply t u v => Sys2Proof.Machine.execTrigApply t u v s
  | .triggerEvent t u => Sys2Proof.Machine.execTriggerEvent t u s
  | .triggerPulseEnd t u => Sys2Proof.Machine.execTriggerPulseEnd t u s
  | .captureEdge t u fall => Sys2Proof.Machine.execCaptureEdge t u fall s
  | .capTimeLoRead t u => Sys2Proof.Machine.execCapTimeLoRead t u s
  | .refActivityLost t r => Sys2Proof.Machine.execRefActivityLost t r s
  | .refFreqGate t r gate => Sys2Proof.Machine.execRefFreqGate t r gate s
  | .refWtrExpiry t r => Sys2Proof.Machine.execRefWtrExpiry t r s
  | .pullComplete t => Sys2Proof.Machine.execPullComplete t s
  | .holdoverReadyTimer t => Sys2Proof.Machine.execHoldoverReadyTimer t s
  | .ocxoLost t => Sys2Proof.Machine.execOcxoLost t s
  | .ocxoReturn t => Sys2Proof.Machine.execOcxoReturn t s
  | .refselApply t v => Sys2Proof.Machine.execRefselApply t v s
  | .refCfgApply t r v => Sys2Proof.Machine.execRefCfgApply t r v s
  | .ethCtrlWrite t p v => Sys2Proof.Machine.execEthCtrlWrite t p v s
  | .ethLinkLost t p => Sys2Proof.Machine.execEthLinkLost t p s
  | .ethLinkUp t p => Sys2Proof.Machine.execEthLinkUp t p s
  | .flowApply t n v => Sys2Proof.Machine.execFlowApply t n v s
  | .frameHoldExpiry t c ts => Sys2Proof.Machine.execFrameHoldExpiry t c ts s
  | .assemblyTimeout t c ts => Sys2Proof.Machine.execAssemblyTimeout t c ts s
  | .legInactive t c leg => Sys2Proof.Machine.execLegInactive t c leg s
  | .streamOpen t q seq => Sys2Proof.Machine.execStreamOpen t q seq s
  | .streamClose t q seq => Sys2Proof.Machine.execStreamClose t q seq s
  | .mcastJoin t q seq => Sys2Proof.Machine.execMcastJoin t q seq s
  | .mcastLeave t q seq => Sys2Proof.Machine.execMcastLeave t q seq s
  | .decodeStart t e => Sys2Proof.Machine.execDecodeStart t e s
  | .decodeComplete t e r => Sys2Proof.Machine.execDecodeComplete t e r s
  | .decodeNoSlotTimeout t c => Sys2Proof.Machine.execDecodeNoSlotTimeout t c s
  | .decodeEngineTimeout t e => Sys2Proof.Machine.execDecodeEngineTimeout t e s
  | .decodeEngineParity t e => Sys2Proof.Machine.execDecodeEngineParity t e s
  | .decodeWindowEnd t => Sys2Proof.Machine.execDecodeWindowEnd t s
  | .decodeSetup t q seq => Sys2Proof.Machine.execDecodeSetup t q seq s
  | .decodeReset t q seq => Sys2Proof.Machine.execDecodeReset t q seq s
  | .commit t q seq => Sys2Proof.Machine.execCommit t q seq s
  | .canvasCommit t q seq => Sys2Proof.Machine.execCanvasCommit t q seq s
  | .canvasJoin t q seq others => Sys2Proof.Machine.execCanvasJoin t q seq others s
  | .commitValidate t q seq => Sys2Proof.Machine.execCommitValidate t q seq s
  | .commitValidationDone t q seq => Sys2Proof.Machine.execCommitValidationDone t q seq s
  | .headFrameBoundary t h n => Sys2Proof.Machine.execHeadFrameBoundary t h n s
  | .headFrameStart t h n => Sys2Proof.Machine.execHeadFrameStart t h n s
  | .leaseEnd t entry => Sys2Proof.Machine.execLeaseEnd t entry s
  | .canvasPrepare t p => Sys2Proof.Machine.execCanvasPrepare t p s
  | .canvasAccept t q seq module lead o => Sys2Proof.Machine.execCanvasAccept t q seq module lead o s
  | .canvasApply t q seq n ta => Sys2Proof.Machine.execCanvasApply t q seq n ta s
  | .canvasDrop t q seq => Sys2Proof.Machine.execCanvasDrop t q seq s
  | .canvasAppliedReport t q seq module layers late => Sys2Proof.Machine.execCanvasAppliedReport t q seq module layers late s
  | .canvasMemberTimeout t q seq module => Sys2Proof.Machine.execCanvasMemberTimeout t q seq module s
  | .canvasReadyTimeout t q seq => Sys2Proof.Machine.execCanvasReadyTimeout t q seq s
  | .canvasReportTimeout t q seq module => Sys2Proof.Machine.execCanvasReportTimeout t q seq module s
  | .canvasTransit t q seq => Sys2Proof.Machine.execCanvasTransit t q seq s
  | .scalerParityError t sc => Sys2Proof.Machine.execScalerParityError t sc s
  | .headOutFmtWrite t h v => Sys2Proof.Machine.execHeadOutFmtWrite t h v s
  | .lineRelease t h n line => Sys2Proof.Machine.execLineRelease t h n line s
  | .lineComposed t h n line => Sys2Proof.Machine.execLineComposed t h n line s
  | .lineRead t h n line ecc => Sys2Proof.Machine.execLineRead t h n line ecc s
  | .governorWindow t hottest => Sys2Proof.Machine.execGovernorWindow t hottest s
  | .hpdRise t p caps => Sys2Proof.Machine.execHpdRise t p caps s
  | .hpdIrq t p lost caps => Sys2Proof.Machine.execHpdIrq t p lost caps s
  | .hpdUnplug t p => Sys2Proof.Machine.execHpdUnplug t p s
  | .trainingConfigDone t p pass => Sys2Proof.Machine.execTrainingConfigDone t p pass s
  | .trainingConfigTimeout t p => Sys2Proof.Machine.execTrainingConfigTimeout t p s
  | .trainRetryTimer t p caps => Sys2Proof.Machine.execTrainRetryTimer t p caps s
  | .dpPortClockLost t p => Sys2Proof.Machine.execDpPortClockLost t p s
  | .dpPortClockReturn t p caps => Sys2Proof.Machine.execDpPortClockReturn t p caps s
  | .modeChangeBoundary t h => Sys2Proof.Machine.execModeChangeBoundary t h s
  | .modeChangeLinkReady t h => Sys2Proof.Machine.execModeChangeLinkReady t h s
  | .dpCtrlApply t p v caps => Sys2Proof.Machine.execDpCtrlApply t p v caps s
  | .dpAux t q seq reply => Sys2Proof.Machine.execDpAux t q seq reply s
  | .dpRetrain t q seq caps => Sys2Proof.Machine.execDpRetrain t q seq caps s
  | .tasterCompare t k n => Sys2Proof.Machine.execTasterCompare t k n s
  | .sspRead t a => Sys2Proof.Machine.execSspRead t a s
  | .imageTickAdvance t => Sys2Proof.Machine.execImageTickAdvance t s
  | .imageTickTimeout t => Sys2Proof.Machine.execImageTickTimeout t s
  | .encodeOpen t q seq => Sys2Proof.Machine.execEncodeOpen t q seq s
  | .encodeClose t q seq => Sys2Proof.Machine.execEncodeClose t q seq s
  | .encodeRefresh t q seq => Sys2Proof.Machine.execEncodeRefresh t q seq s
  | .encodeRowReady t c n row skips => Sys2Proof.Machine.execEncodeRowReady t c n row skips s
  | .encodeRowCoded t e r => Sys2Proof.Machine.execEncodeRowCoded t e r s
  | .encodeEngineTimeout t e => Sys2Proof.Machine.execEncodeEngineTimeout t e s
  | .encodeEngineParity t e => Sys2Proof.Machine.execEncodeEngineParity t e s
  | .touchScanStart t p => Sys2Proof.Machine.execTouchScanStart t p s
  | .touchScanProcessed t p raw => Sys2Proof.Machine.execTouchScanProcessed t p raw s
  | .touchScanRelease t p => Sys2Proof.Machine.execTouchScanRelease t p s
  | .touchSimmerScan t p sums => Sys2Proof.Machine.execTouchSimmerScan t p sums s
  | .touchPortEnable t p v => Sys2Proof.Machine.execTouchPortEnable t p v s
  | .touchPortDisable t p v => Sys2Proof.Machine.execTouchPortDisable t p v s
  | .touchApply t p v => Sys2Proof.Machine.execTouchApply t p v s
  | .adcSequenceDone t samples => Sys2Proof.Machine.execAdcSequenceDone t samples s
  | .adcApply t v => Sys2Proof.Machine.execAdcApply t v s
  | .gpioInputChange t n level => Sys2Proof.Machine.execGpioInputChange t n level s
  | .gpioDebounceExpiry t n => Sys2Proof.Machine.execGpioDebounceExpiry t n s
  | .gpioOutWrite t v => Sys2Proof.Machine.execGpioOutWrite t v s
  | .commandFrameBuilt t c => Sys2Proof.Machine.execCommandFrameBuilt t c s
  | .ccSetup t q seq => Sys2Proof.Machine.execCcSetup t q seq s
  | .ccStop t q seq => Sys2Proof.Machine.execCcStop t q seq s
  | .touchRebase t q seq => Sys2Proof.Machine.execTouchRebase t q seq s
  | .paentIdWrite t v => Sys2Proof.Machine.execPaentIdWrite t v s
  | .flitReceived t p flit => Sys2Proof.Machine.execFlitReceived t p flit s
  | .replayTimeout t p => Sys2Proof.Machine.execReplayTimeout t p s
  | .envelopeReceived t p => Sys2Proof.Machine.execEnvelopeReceived t p s
  | .routeRecompute t ls groups resv => Sys2Proof.Machine.execRouteRecompute t ls groups resv s
  | .routeInstall t r => Sys2Proof.Machine.execRouteInstall t r s
  | .vc1HoldTimeout t confirmed => Sys2Proof.Machine.execVc1HoldTimeout t confirmed s
  | .pictureEnvelope t => Sys2Proof.Machine.execPictureEnvelope t s
  | .announceTimer t => Sys2Proof.Machine.execAnnounceTimer t s
  | .announceReceived t p a => Sys2Proof.Machine.execAnnounceReceived t p a s
  | .electionTimer t => Sys2Proof.Machine.execElectionTimer t s
  | .managerSilenceTimeout t => Sys2Proof.Machine.execManagerSilenceTimeout t s
  | .timeExchangeTimer t p => Sys2Proof.Machine.execTimeExchangeTimer t p s
  | .timeEnvelopeReceived t p t1 t2 t3 t4 => Sys2Proof.Machine.execTimeEnvelopeReceived t p t1 t2 t3 t4 s
  | .timeOffsetReport t rs => Sys2Proof.Machine.execTimeOffsetReport t rs s
  | .remoteSetup t q seq src => Sys2Proof.Machine.execRemoteSetup t q seq src s
  | .remoteClear t q seq => Sys2Proof.Machine.execRemoteClear t q seq s
  | .paentAttemptStart t p => Sys2Proof.Machine.execPaentAttemptStart t p s
  | .paentSweepDone t p masks => Sys2Proof.Machine.execPaentSweepDone t p masks s
  | .paentAlignDone t p found => Sys2Proof.Machine.execPaentAlignDone t p found s
  | .laneSlip t p l v => Sys2Proof.Machine.execLaneSlip t p l v s
  | .paentTrainingFrame t p l region => Sys2Proof.Machine.execPaentTrainingFrame t p l region s
  | .paentGoReceived t p n => Sys2Proof.Machine.execPaentGoReceived t p n s
  | .paentStepTimeout t p => Sys2Proof.Machine.execPaentStepTimeout t p s
  | .paentAttemptTimeout t p => Sys2Proof.Machine.execPaentAttemptTimeout t p s
  | .paentRetryTimer t p => Sys2Proof.Machine.execPaentRetryTimer t p s
  | .laneLos t p l set => Sys2Proof.Machine.execLaneLos t p l set s
  | .laneLol t p l set => Sys2Proof.Machine.execLaneLol t p l set s
  | .laneLoa t p l n => Sys2Proof.Machine.execLaneLoa t p l n s
  | .paentRetrain t p v => Sys2Proof.Machine.execPaentRetrain t p v s
  | .paentHold t p v => Sys2Proof.Machine.execPaentHold t p v s
  | .paentTxSleep t p v => Sys2Proof.Machine.execPaentTxSleep t p v s
  | .paentTxWake t p v => Sys2Proof.Machine.execPaentTxWake t p v s
  | .paentRxSleep t p v => Sys2Proof.Machine.execPaentRxSleep t p v s
  | .paentRxWake t p v => Sys2Proof.Machine.execPaentRxWake t p v s
  | .paentWakeTimeout t p => Sys2Proof.Machine.execPaentWakeTimeout t p s
  | .heartbeatSend t wire => Sys2Proof.Machine.execHeartbeatSend t wire s
  | .heartbeatReceived t b => Sys2Proof.Machine.execHeartbeatReceived t b s
  | .heartbeatWireFrame t frame => Sys2Proof.Machine.execHeartbeatWireFrame t frame s
  | .heartbeatPathSilent t wire => Sys2Proof.Machine.execHeartbeatPathSilent t wire s
  | .pairSeekTimeout t => Sys2Proof.Machine.execPairSeekTimeout t s
  | .pairHandoverInstant t => Sys2Proof.Machine.execPairHandoverInstant t s
  | .interlockLevelChange t il1 il2 => Sys2Proof.Machine.execInterlockLevelChange t il1 il2 s
  | .contentionTimeout t => Sys2Proof.Machine.execContentionTimeout t s
  | .handoverRetryTimeout t => Sys2Proof.Machine.execHandoverRetryTimeout t s
  | .interlockFault t => Sys2Proof.Machine.execInterlockFault t s
  | .mirrorRecord t n item => Sys2Proof.Machine.execMirrorRecord t n item s
  | .mirrorConfirmation t r => Sys2Proof.Machine.execMirrorConfirmation t r s
  | .mirrorGapTimeout t => Sys2Proof.Machine.execMirrorGapTimeout t s
  | .pairWtrExpiry t => Sys2Proof.Machine.execPairWtrExpiry t s
  | .pairApply t v => Sys2Proof.Machine.execPairApply t v s
  | .pairSwitchover t v => Sys2Proof.Machine.execPairSwitchover t v s
  | .pairTakeover t v => Sys2Proof.Machine.execPairTakeover t v s
  | .pairClear t v => Sys2Proof.Machine.execPairClear t v s
  | .dramReadError t line rank r => Sys2Proof.Machine.execDramReadError t line rank r s
  | .dramWcrcAlert t ch rank retry => Sys2Proof.Machine.execDramWcrcAlert t ch rank retry s
  | .migrationCopyLine t r => Sys2Proof.Machine.execMigrationCopyLine t r s
  | .migrationDone t => Sys2Proof.Machine.execMigrationDone t s
  | .dramRefresh t ch rank bank postponed => Sys2Proof.Machine.execDramRefresh t ch rank bank postponed s
  | .dramTempRead t ch rank temps => Sys2Proof.Machine.execDramTempRead t ch rank temps s
  | .dramDriftCheck t ch rank drift => Sys2Proof.Machine.execDramDriftCheck t ch rank drift s
  | .dramRetrainStep t ch rank ok => Sys2Proof.Machine.execDramRetrainStep t ch rank ok s
  | .dramPatrolScrub t line r => Sys2Proof.Machine.execDramPatrolScrub t line r s
  | .migThrottleWrite t v => Sys2Proof.Machine.execMigThrottleWrite t v s
  | .fsRefresh t => Sys2Proof.Machine.execFsRefresh t s
  | .fsScrub t bank row ce ue => Sys2Proof.Machine.execFsScrub t bank row ce ue s
  | .checkerUpdateEnter t k v => Sys2Proof.Machine.execCheckerUpdateEnter t k v s
  | .checkerUpdateExit t k v => Sys2Proof.Machine.execCheckerUpdateExit t k v s
  | .checkerClosedTimeout t k => Sys2Proof.Machine.execCheckerClosedTimeout t k s
  | .regionRegisterWrite t k r reg v => Sys2Proof.Machine.execRegionRegisterWrite t k r reg v s
  | .parcelOpen t q seq => Sys2Proof.Machine.execParcelOpen t q seq s
  | .parcelFeed t q seq => Sys2Proof.Machine.execParcelFeed t q seq s
  | .parcelFeedComplete t j selfFail => Sys2Proof.Machine.execParcelFeedComplete t j selfFail s
  | .parcelAbort t q seq => Sys2Proof.Machine.execParcelAbort t q seq s
  | .crcCtrlWrite t u v => Sys2Proof.Machine.execCrcCtrlWrite t u v s
  | .crcData8 t u v => Sys2Proof.Machine.execCrcData8 t u v s
  | .crcData16 t u v => Sys2Proof.Machine.execCrcData16 t u v s
  | .crcData32 t u v => Sys2Proof.Machine.execCrcData32 t u v s
  | .crcResultRead t u count => Sys2Proof.Machine.execCrcResultRead t u count s
  | .composeEngineParity t cluster => Sys2Proof.Machine.execComposeEngineParity t cluster s
  | .fabricFault t journalOk => Sys2Proof.Machine.execFabricFault t journalOk s
  | .dumpWrite t => Sys2Proof.Machine.execDumpWrite t s
  | .dumpComplete t => Sys2Proof.Machine.execDumpComplete t s
  | .recorderEvent t e => Sys2Proof.Machine.execRecorderEvent t e s
  | .recorderFlashProgram t => Sys2Proof.Machine.execRecorderFlashProgram t s
  | .recRead t q seq => Sys2Proof.Machine.execRecRead t q seq s
  | .recCatalogue t q seq => Sys2Proof.Machine.execRecCatalogue t q seq s
  | .dumpRead t q seq => Sys2Proof.Machine.execDumpRead t q seq s
  | .dumpKeep t q seq => Sys2Proof.Machine.execDumpKeep t q seq s
  | .dumpErase t q seq => Sys2Proof.Machine.execDumpErase t q seq s
  | .testStart t q seq => Sys2Proof.Machine.execTestStart t q seq s
  | .testStop t q seq errors bits => Sys2Proof.Machine.execTestStop t q seq errors bits s
  | .memInject t q seq => Sys2Proof.Machine.execMemInject t q seq s
  | .touchTest t q seq raw side => Sys2Proof.Machine.execTouchTest t q seq raw side s
  | .adcSelfCheck t q seq codes => Sys2Proof.Machine.execAdcSelfCheck t q seq codes s
  | .feedAboveTurnOn t feed => Sys2Proof.Machine.execFeedAboveTurnOn t feed s
  | .feedAccepted t feed => Sys2Proof.Machine.execFeedAccepted t feed s
  | .feedTurnOff t feed => Sys2Proof.Machine.execFeedTurnOff t feed s
  | .feedOvervoltage t feed => Sys2Proof.Machine.execFeedOvervoltage t feed s
  | .holdupEnd t cut => Sys2Proof.Machine.execHoldupEnd t cut s
  | .powerGood t => Sys2Proof.Machine.execPowerGood t s
  | .moduleReset t cut => Sys2Proof.Machine.execModuleReset t cut s
  | .hostInterfaceReset t cut => Sys2Proof.Machine.execHostInterfaceReset t cut s
  | .thermalTrip t cut => Sys2Proof.Machine.execThermalTrip t cut s
  | .thermalRestart t => Sys2Proof.Machine.execThermalRestart t s
  | .wtSlewEnd t => Sys2Proof.Machine.execWtSlewEnd t s
  | .sspBankSwitch t => Sys2Proof.Machine.execSspBankSwitch t s
  | .debugAccess t write pa len bytes authed => Sys2Proof.Machine.execDebugAccess t write pa len bytes authed s
  | .plateHigh t plate => Sys2Proof.Machine.execPlateHigh t plate s
  | .flitSend t p pick => Sys2Proof.Machine.execFlitSend t p pick s

end Sys2Proof.Machine
end

