-- ==== Sys2Proof/Safety.lean ====
section
/-! DEFINITION. The terms in which the statements speak: what a command leaves alone, what a command of a queue answers,
and the conditions on a state under which a command has its effect. -/

namespace Sys2Proof.Machine

/-! ### What a command leaves alone -/

/-- The parts of the state beside the present instant, the registers and the queue of waiting commands. -/
inductive Part where
  | mem | latch | host | boot | time | ref | recd | err | prot | pwr | sys | net | dec | lay | comp | enc | io | pair | mctl
  deriving DecidableEq, Repr

/-- `e` is `d` but for the registers at the offsets of which `ws` holds, and the parts `ps`. -/
structure Dev.Keeps (d e : Dev) (ws : Nat → Prop) (ps : List Part) : Prop where
  now : e.now = d.now
  regs : ∀ off, ¬ws off → tabGet? e.regs off = tabGet? d.regs off
  latch : .latch ∈ ps ∨ e.latch = d.latch
  host : .host ∈ ps ∨ e.host = d.host
  boot : .boot ∈ ps ∨ e.boot = d.boot
  time : .time ∈ ps ∨ e.time = d.time
  ref : .ref ∈ ps ∨ e.ref = d.ref
  recd : .recd ∈ ps ∨ e.recd = d.recd
  err : .err ∈ ps ∨ e.err = d.err
  prot : .prot ∈ ps ∨ e.prot = d.prot
  pwr : .pwr ∈ ps ∨ e.pwr = d.pwr
  sys : .sys ∈ ps ∨ e.sys = d.sys
  net : .net ∈ ps ∨ e.net = d.net
  dec : .dec ∈ ps ∨ e.dec = d.dec
  lay : .lay ∈ ps ∨ e.lay = d.lay
  comp : .comp ∈ ps ∨ e.comp = d.comp
  enc : .enc ∈ ps ∨ e.enc = d.enc
  io : .io ∈ ps ∨ e.io = d.io
  pair : .pair ∈ ps ∨ e.pair = d.pair
  mctl : .mctl ∈ ps ∨ e.mctl = d.mctl

/-- `s'` is `s` at the instant `t` but for the registers at the offsets of which `ws` holds, and the parts `ps`: every other
register, every other part, all of DRAM unless `mem` is named, and the queue of waiting commands are as before. -/
structure State.KeepsBut (s s' : State) (t : Nat) (ws : Nat → Prop) (ps : List Part) : Prop where
  pending : s'.pending = s.pending
  mem : .mem ∈ ps ∨ s'.mem = s.mem
  dev : (s.dev.clock t).Keeps s'.dev ws ps

/-- The same, the offsets being listed. -/
def State.Keeps (s s' : State) (t : Nat) (ws : List Nat) (ps : List Part) : Prop := s.KeepsBut s' t (· ∈ ws) ps

/-- The registers that an entry of the recorder may move: REC_SEQ and REC_STATUS. -/
def recOffs : List Nat := [R.REC_SEQ.off 0 0, R.REC_STATUS.off 0 0]

/-- Those that a CORRECTED error may move. -/
def correctedOffs : List Nat := R.ERR_CORRECTED.off 0 0 :: recOffs

/-- Those that a CONTAINED error may move. -/
def containedOffs : List Nat := R.ERR_CONTAINED.off 0 0 :: recOffs

/-- Those that a DEGRADED error may move. -/
def degradedOffs : List Nat := R.ERR_DEGRADED.off 0 0 :: R.ERR_STATUS.off 0 0 :: recOffs

/-- Those that a FATAL declaration may move. -/
def fatalOffs : List Nat := R.ERR_STATUS.off 0 0 :: R.PAIR_STATUS.off 0 0 :: recOffs

/-! ### Commands of a queue -/

/-- `c` is the command of queue `q` (0 to 15) with the SEQ and the opcode: it is the queue's first with that SEQ, and it has
started. -/
structure Dev.Running (d : Dev) (q seq opcode : Nat) (c : Cmd) : Prop where
  queue : q < 16
  found : (d.queue q).cmds.find? (fun x => x.seq == seq) = some c
  started : c.st = .started
  opcode : c.opcode = opcode

/-- The outcome of the queue's first command with the SEQ, once it is complete. -/
def Dev.answer (d : Dev) (q seq : Nat) : Option Outcome :=
  ((d.queue q).cmds.find? (fun x => x.seq == seq)).bind fun x => if x.st = .done then x.out else none

/-- The PARAM bytes from `n` on are all 0 (R488). -/
def Cmd.Tail (c : Cmd) (n : Nat) : Prop := firstNonZero c.param n = none

/-- The unit does not follow a partner: its pair state is neither SYNCING nor STANDBY (R353). -/
def Dev.Alone (d : Dev) : Prop := d.pst ≠ prSyncing ∧ d.pst ≠ prStandby

/-- A register access from the host reaches the block of the offset: the logic runs, the phase of boot has opened the offset
(R65), and the clock of its domain is present (R24). -/
structure Dev.Reaches (d : Dev) (off : Nat) : Prop where
  alive : d.hostAlive = true
  opened : d.offClosed off = false
  clocked : d.offDown off = false

/-! ### Counters -/

/-- From `d` to `e`, a counter of entry `i` went up by 1 unless it stood at its largest value. -/
def Dev.Counts (d e : Dev) (f : FldDesc) (i : Nat) : Prop := e.get f i = min (d.get f i + 1) (2 ^ (f.hi - f.lo + 1) - 1)

/-- From `d` to `e`, a counter that wraps went up by 1. -/
def Dev.Wraps (d e : Dev) (f : FldDesc) (i : Nat) : Prop := e.get f i = (d.get f i + 1) % 2 ^ (f.hi - f.lo + 1)

/-! ### Groups -/

/-- The registers of a group's demand and capacity. -/
def groupOffs (g : Nat) : List Nat :=
  [R.GRP_DG.off g 0, R.GRP_DA.off g 0, R.GRP_CAPACITY.off g 0, R.GRP_FETCH.off g 0]

/-- Whether a restart of a core at an instant is its third within 10 s (R17). -/
def thirdRestart (d : Dev) (core now : Nat) : Bool :=
  match tabGetD d.err.restarts [] core with
  | _ :: b :: _ => decide (now ≤ b + 10 * qS)
  | _ => false

/-! ### Host accesses -/

/-- Registers whose host writes do more, or less, than their access types say. -/
def ownWrites : List RegDesc :=
  [R.BAR2_OFFSET, R.Q_CTRL, R.SQ_TAIL_DB, R.CQ_HEAD_DB, R.FENCE_VAL, R.TIME_SNAP, R.TB_RATE_ADJ, R.TB3_APPLY, R.PPS_CTRL,
    R.TRIG_CTRL, R.REFSEL_CTRL, R.REF_CFG, R.ETH_CTRL, R.FLOW_CTRL, R.HEAD_OUT_FMT, R.DP_CTRL, R.TCH_CTRL, R.ADC_CTRL,
    R.ADC_STATUS, R.GPIO_OUT, R.PAENT_ID, R.PLN_CTRL, R.LN_CTRL, R.PAIR_CTRL, R.PAIR_CMD, R.MIG_THROTTLE, R.CHK_FAULT_HI,
    R.LG_FAULT_HI, R.RGN_CTRL, R.RGN_BASE, R.RGN_SIZE, R.CHK_CTRL, R.CRC_CTRL, R.CRC_DATA8, R.CRC_DATA16, R.CRC_DATA32,
    R.CAP_CTRL, R.CAP_STATUS, R.LD_SHADOW]

/-- Low words whose read has the upper word take the live value (R4). -/
def latchPairs : List (RegDesc × RegDesc) :=
  [(R.CTX_PM_LO, R.CTX_PM_HI), (R.LAYER_PM_LO, R.LAYER_PM_HI), (R.CC_NEXT_LO, R.CC_NEXT_HI), (R.CH_ERR_LO, R.CH_ERR_HI),
    (R.CHK_FAULT_LO, R.CHK_FAULT_HI), (R.LG_FAULT_LO, R.LG_FAULT_HI)]

/-- The low words whose read latches more than one register, or takes an entry away. -/
def latchMore : List RegDesc :=
  [R.WT_OFFSET_LO, R.TCH_SCAN_LO, R.ADC_TIME_LO, R.CAP_TIME_LO]

/-! ### DRAM accesses -/

/-- `n` bytes from `pa` may be written through checker `k`, and the writes land: nothing denied, no failed channel, and no
poisoned line touched only in part (R371, R376, R388). -/
structure Writable (d : Dev) (m : Mem) (k pa n : Nat) : Prop where
  isOpen : d.chkClosed k = false
  allowed : d.denials k true pa n = []
  alive : ∀ l ∈ linesOf pa n, d.chFailed (chanOf l) = false
  whole : droppedLines d m pa n = []

/-- `n` bytes from `pa` may be read through checker `k`, and none is poisoned (R371, R388). -/
structure Readable (d : Dev) (m : Mem) (k pa n : Nat) : Prop where
  isOpen : d.chkClosed k = false
  allowed : d.denials k false pa n = []
  clean : poisonedIn d m pa n = []

/-- `m'` is `m` with the bytes written from `pa` on. -/
def Mem.Wrote (m m' : Mem) (pa : Nat) (bs : List Byte) : Prop :=
  ∀ a, m'.byte a = if pa ≤ a ∧ a < pa + bs.length then bs.getD (a - pa) 0 else m.byte a

/-! ### Stream contexts -/

/-- The registers that show a context's decoding and its pool. -/
def dctxOffs (c : Nat) : List Nat :=
  [R.DCTX_STATUS.off c 0, R.DCTX_REF_MASK.off c 0, R.DCTX_LEASE_MASK.off c 0, R.DCTX_OUT.off c 0]

/-- The registers of a stream context that its opening and closing set, and the admitted loads. -/
def streamOffs (c : Nat) : List Nat :=
  [R.CTX_CFG.off c 0, R.CTX_STATUS.off c 0, R.CTX_ALLOW.off c 0, R.CTX_PEAK.off c 0, R.DCTX_LOAD.off c 0,
    R.INGEST_LOAD.off 0 0, R.INGEST_BUDGET.off 0 0, R.DEC_GLOAD.off 0 0, R.DEC_CAPACITY.off 0 0] ++
    ctxCounters.map (·.off c 0) ++ dctxOffs c

/-- The registers that a context reset may move (R137). -/
def resetOffs (c : Nat) : List Nat := R.CTX_STATUS.off c 0 :: R.RESETS.off c 0 :: dctxOffs c ++ containedOffs

/-! ### Commits and records -/

/-- GRP_PENDING of every group. -/
def pendOffs : List Nat := (List.range 6).map (R.GRP_PENDING.off · 0)

/-- The registers that a record of the event queue may move (R162, R490). -/
def eventOffs : List Nat := R.EVQ_HELD.off 16 0 :: R.EVQ_LOST.off 16 0 :: R.Q_STATUS.off 16 0 :: recOffs

/-- A commit's list of update entries has come: none, or its host data (R153). -/
def Cmd.Updates (c : Cmd) (es : List (List Byte)) : Prop :=
  if c.p 2 2 = 0 then es = [] else ∃ bs, c.hostData = some (bs, []) ∧ es = splitEntries (c.p 2 2) bs

/-- Nothing holds back the validation of a commit but its own queue: no core restart, switch or fabric fault (R17, R66). -/
structure Dev.Validates (d : Dev) : Prop where
  core : d.coreState 2 ≠ 2
  switch : d.on R.PROF_STATUS_SWITCHING = false
  fabric : d.err.fabricRun = false

/-! ### Queues -/

/-- A queue's ring takes entries now, and nothing waits before the entry in question (R28, R490). -/
structure Dev.Writes (d : Dev) (q : Nat) : Prop where
  cqOpen : d.cqOpen q = true
  busMaster : d.host.busMaster = true
  held : d.lay.held = []

/-- The registers of the compression jobs. -/
def jobOffs : List Nat :=
  (List.range 3).flatMap fun j =>
    [R.CMP_JOB_STATUS.off j 0, R.CMP_PARCELS.off j 0, R.CMP_OUT_OFFSET.off j 0, R.CMP_PENDING.off j 0]

/-! ### References -/

/-- The selector follows the choice of R97 where there is one, and otherwise follows nothing (R99). -/
def Dev.FollowsChoice (d : Dev) : Prop :=
  match d.choice with
  | some r => d.get R.REFSEL_STATUS_SELECTED = r ∧
      (d.get R.REFSEL_STATUS_STATE = selLocked ∨ d.get R.REFSEL_STATUS_STATE = selPulling)
  | none => d.get R.REFSEL_STATUS_STATE ≠ selLocked ∧ d.get R.REFSEL_STATUS_STATE ≠ selPulling

/-- The registers of the selector, and those of reference `r`. -/
def refOffs (r : Nat) : List Nat :=
  [R.REFSEL_STATUS.off 0 0, R.REFSEL_FREQ.off 0 0, R.REF_STATUS.off r 0, R.REF_FREQ.off r 0, R.REF_DRIFT.off r 0]

/-! ### Ports and link training -/

/-- The configurations of R215 that the sink and DP_CTRL allow and that carry the port's streams. -/
def Dev.configs (d : Dev) (p : Nat) : List Nat :=
  (d.allowed p).filter fun k =>
    d.carries p k ((d.streamHeads p).any fun h => d.headState h == hsModeChange && (d.head h).boundary.isNone)

/-- From `d` to `e`, training on port `p` goes on from the `k`-th configuration: with the first that carries the streams, or,
where there is none, with NOSINK for the port's heads. A head whose stream the port does not carry is NOSINK (R213 to R216). -/
def Dev.Tries (d e : Dev) (p k : Nat) : Prop :=
  let next := (d.configs p).find? fun c => decide (k ≤ c)
  (e.port p).trying = next.map (fun c => (c, e.now)) ∧
  (next = none → ∀ h ∈ d.streamHeads p, d.headState h ≠ 0 → e.headState h = hsNoSink ∧
    e.get R.HEAD_DISP_STATUS_CAUSE h = if d.configs p = [] then 3 else 2)

/-- From `d` to `e`, training on port `p` starts at the `k`-th configuration (R215, R216). -/
def Dev.Trains (d e : Dev) (p k : Nat) : Prop :=
  d.Counts e R.DP_TRAINS_COUNT p ∧ e.get R.DP_STATUS_LINK_UP p = 0 ∧ (e.port p).trained = none ∧ d.Tries e p k ∧
  (∀ h ∈ d.portHeads p, h ∉ d.streamHeads p → d.headState h ≠ 0 → e.headState h = hsNoSink ∧
    e.get R.HEAD_DISP_STATUS_CAUSE h = 4) ∧
  ((e.port p).trying ≠ none → ∀ h ∈ d.streamHeads p, d.headState h ≠ 0 → d.headState h ≠ hsModeChange →
    e.headState h = hsTraining)

/-- The registers of a port, and those of the heads' outputs. -/
def portOffs (p : Nat) : List Nat :=
  [R.DP_CTRL.off p 0, R.DP_STATUS.off p 0, R.DP_TRAINS.off p 0, R.DP_FAILS.off p 0, R.ALARM_CAUSE.off 0 0] ++
    (List.range 32).map (R.HEAD_DISP_STATUS.off · 0) ++ recOffs

/-! ### Encode contexts -/

/-- The registers of an encode context, and those of the engines. -/
def encOffs (c : Nat) : List Nat :=
  [R.ENC_STATUS.off c 0, R.ENC_WPTR.off c 0, R.ENC_FRAME.off c 0, R.ENC_LOAD.off c 0, R.FRAMES_ENCODED.off c 0,
    R.ROWS_SKIPPED.off c 0, R.ROWS_LATE.off c 0, R.RING_DROPS.off c 0, R.ENC_LAST_BYTES.off c 0] ++
  ([0, 1].flatMap fun e => [R.ENC_ENG_STATUS.off e 0, R.ENC_ENG_GLOAD.off e 0, R.ENC_ENG_LOAD.off e 0]) ++ recOffs

/-- The bytes that NAL units put into a ring, in Annex B form (R271). -/
def annexB (nals : List (List Byte)) : List Byte := nals.flatMap fun b => [0, 0, 0, 1] ++ b

/-- Free bytes of a context's ring. -/
def Dev.ringFree (d : Dev) (c ring : Nat) : Nat := (d.get R.ENC_RPTR_PTR c + ring - d.get R.ENC_WPTR_PTR c - 1) % ring

/-! ### Operator inputs and outputs -/

/-- The registers of a touch port that its scans and its control move. -/
def tchOffs (p : Nat) : List Nat :=
  [R.TCH_CTRL.off p 0, R.TCH_STATUS.off p 0, R.TCH_SCAN_LO.off p 0, R.TCH_TIMEOUTS.off p 0, R.TCH_REBASE.off p 0,
    R.TCH_DROPPED.off p 0, R.TCH_LATE_SCANS.off p 0] ++ recOffs

/-- The counters of launch-timed frames, by port and by control cycle. -/
def launchOffs : List Nat :=
  ((List.range 4).flatMap fun p => [R.LAUNCH_LATE.off p 0, R.LAUNCH_FAR.off p 0, R.CC_STATUS.off p 0, R.CC_LATE.off p 0,
    R.CC_SENT_A.off p 0, R.CC_SENT_B.off p 0, R.CC_GATED.off p 0, R.CC_PORT_DOWN.off p 0]) ++ recOffs

/-- A launch time that the MAC takes: ahead of working time, and by 1 s at most (R80). -/
def Dev.Launchable (d : Dev) (at48 : Nat) : Prop :=
  sdiff 48 at48 d.wt48 ≤ 1000000000 ∧ later 48 at48 d.wt48 = true

/-! ### Paent ports -/

/-- The registers of Paent port `p` and its lanes, the routes, and those of the recorder. -/
def portWs (p off : Nat) : Prop :=
  (0xB00100 + 0x40 * p ≤ off ∧ off < 0xB00140 + 0x40 * p) ∨ (0xB10000 ≤ off ∧ off < 0xB10800) ∨
    (0xB40000 + 0x400 * p ≤ off ∧ off < 0xB40400 + 0x400 * p) ∨ off ∈ recOffs

/-- From `d` to `e`, a training attempt has started on port `p` (R329, R330): the port is out of routing, its widths are 0,
and it sweeps at once if it hears its partner. From UP it counts as a retraining. -/
def Dev.Attempts (d e : Dev) (p : Nat) : Prop :=
  d.Counts e R.PLN_ATTEMPTS_COUNT p ∧ e.pln p = plnTraining ∧ e.inRouting p = false ∧
  e.get R.PLN_STATUS_TX_WIDTH p = 0 ∧ e.get R.PLN_STATUS_RX_WIDTH p = 0 ∧ (e.lanes p).start = e.now ∧
  e.get R.PLN_STATUS_STEP p = (if e.hears p then 2 else 1) ∧ (d.pln p = plnUp → d.Counts e R.PLN_RETRAINS_COUNT p)

/-- From `d` to `e`, the attempt of port `p` has failed for cause `c` (R329, R335): ABSENT when nothing is heard, otherwise
WAIT, and the next attempt comes after 1, 2, 4, 8 and then 16 s. -/
def Dev.FailsAttempt (d e : Dev) (p c : Nat) : Prop :=
  let wait := 2 ^ min (d.lanes p).fails 4
  d.Counts e R.PLN_FAILS_COUNT p ∧ e.get R.PLN_STATUS_LAST_FAIL p = c ∧ e.get R.PLN_STATUS_STEP p = 0 ∧
  e.get R.PLN_STATUS_LAST_STEP p = d.get R.PLN_STATUS_STEP p ∧ e.get R.PLN_STATUS_NEXT_TRY p = wait ∧
  (e.lanes p).fails = (d.lanes p).fails + 1 ∧ (e.lanes p).retryAt = e.now + wait * qS ∧
  e.pln p = (if (List.range 4).all (d.los p) || (d.clocking p == 0 && d.los p 5) then plnAbsent else plnWait) ∧
  (e.link p).replay = [] ∧ (e.link p).queue = []

/-! ### The redundant pair -/

/-- The release fences that waiting commands name exist (R34). -/
def Dev.FencesNamed (d : Dev) : Prop :=
  ∀ q, q < 16 → ∀ c ∈ (d.queue q).cmds, c.relEn = true → c.badField ≠ some 16 → c.relFence < 1024

/-- The registers of the pair, of the queues and the fences, and those of the recorder. -/
def pairWs (off : Nat) : Prop :=
  (0xC00000 ≤ off ∧ off < 0xC00028) ∨ (0x100000 ≤ off ∧ off < 0x181000) ∨ off ∈ recOffs

/-- From `d` to `e`, a claiming unit that read ONE is ACTIVE, and a takeover or a handover counts (R341, R346, R350). -/
def Dev.TakesOver (d e : Dev) : Prop :=
  e.pst = prActive ∧ e.get R.PAIR_STATUS_CLAIM = 1 ∧ e.get R.PAIR_STATUS_OWNS = 1 ∧ e.get R.PAIR_STATUS_IN_SYNC = 0 ∧
  e.get R.PAIR_STATUS_PARTNER_HOLDS = 0 ∧ e.get R.PAIR_STATUS_FAULT = 0 ∧ e.pair.plan = none ∧
  (d.pst ≠ prSeeking → ∀ p, p < 2 → d.on R.TCH_CTRL_ENABLE p = true → d.touchState p ≠ tchOff →
    (e.touch p).rebase = true) ∧
  (if d.pst = prSeeking then e.get R.PAIR_TAKEOVERS_COUNT = d.get R.PAIR_TAKEOVERS_COUNT ∧
      e.get R.PAIR_HANDOVERS_COUNT = d.get R.PAIR_HANDOVERS_COUNT
    else if ((d.pair.plan.map (·.planned)).getD false) = true then d.Counts e R.PAIR_HANDOVERS_COUNT 0
    else d.Counts e R.PAIR_TAKEOVERS_COUNT 0)

/-- From `d` to `e`, the unit has met an interlock fault: it withdrew and is in FAULT (R341, R357). -/
def Dev.Faults (d e : Dev) (cause : Nat) : Prop :=
  if d.pst = prOff ∨ d.pst = prSolo ∨ d.pst = prFailed ∨ d.pst = prFault then e = d
  else e.pst = prFault ∧ e.get R.PAIR_STATUS_FAULT = cause ∧ e.get R.PAIR_STATUS_CLAIM = 0 ∧ e.get R.PAIR_STATUS_OWNS = 0 ∧
    e.get R.PAIR_STATUS_IN_SYNC = 0 ∧ e.pair.plan = none ∧ e.pair.release = none

/-- A frame of six bytes on the heartbeat wire (R348). -/
def wireBytes (b : Heartbeat) (count : Nat) : List Byte :=
  let head := BitVec.ofNat 8 (b.state % 8 * 32 + b2n b.preferred * 16 + b2n b.claim * 8 + b2n b.inSync * 4 + b2n b.relinquish * 2)
  let m1 := BitVec.ofNat 8 (b.module % 512 / 2)
  let m0 := BitVec.ofNat 8 (b.module % 2 * 128)
  let n := BitVec.ofNat 8 count
  [0xD5, head, m1, m0, n, BitVec.ofNat 8 (crcOf 3 [head, m1, m0, n])]

/-! ### DRAM ranks -/

/-- From `d` to `e`, a rank of a channel has faulted with a CAUSE (R372, R374 to R376): a rank in service migrates to the
spare at once, or waits for the migration that runs; a spare is retired; a channel with no rank left has failed. -/
def Dev.RankFaults (d e : Dev) (ch rank cause : Nat) : Prop :=
  let k := d.rankState ch rank
  let s := d.chState ch
  if s = chFailedState ∨ k = rkSource ∨ k = rkRetired ∨ k = rkUntrained then
    e.chState ch = s ∧ e.rankState ch rank = k ∧ e.get R.CH_STATUS_CAUSE ch = d.get R.CH_STATUS_CAUSE ch
  else
    e.get R.CH_STATUS_CAUSE ch = cause ∧
    (k = rkTarget ∨ (k = rkSpare ∧ s = chMigWait) ∨ (k = rkInService ∧ s = chNoSpare) → e.chState ch = chFailedState ∧
      bit (e.get R.MEM_STATUS_FAILED_CH) ch = true ∧ e.get R.ERR_STATUS_FATAL = 1 ∧ e.pst = prFailed) ∧
    (k = rkSpare → s ≠ chMigWait → e.rankState ch rank = rkRetired ∧ e.chState ch = chNoSpare) ∧
    (k = rkInService → s = chNormal → d.mctl.mig = none → d.rankState ch (1 - rank) = rkSpare →
      e.chState ch = chMigrating ∧ e.rankState ch rank = rkSource ∧ e.rankState ch (1 - rank) = rkTarget ∧
      e.mctl.mig = some (ch, 0, e.now + qUs) ∧ e.get R.MEM_STATUS_MIGRATING = 1 ∧ e.get R.MEM_STATUS_MIG_CH = ch) ∧
    (k = rkInService → s = chNormal → d.mctl.mig ≠ none → e.chState ch = chMigWait ∧ e.rankState ch rank = rkInService ∧
      e.mctl.waiting = d.mctl.waiting ++ [ch])

/-- The registers of the memory controllers, and those that their errors may move. -/
def memWs (off : Nat) : Prop :=
  off = R.MEM_STATUS.off 0 0 ∨ (0xD01000 ≤ off ∧ off < 0xD01800) ∨ off ∈ correctedOffs ∨ off ∈ containedOffs ∨
    off ∈ degradedOffs ∨ off ∈ fatalOffs

/-! ### Recorder and reset -/

/-- Nothing keeps an entry out of the two stores: the flash store has room, and so has the buffer (R439, R441). -/
structure Dev.Records (d : Dev) : Prop where
  notFull : d.on R.REC_STATUS_RECORDER_FULL = false
  noFull : d.recd.buffer.any (fun x => x.ev == .full) = false
  room : d.reg R.REC_FLASH_USED + d.recd.buffer.length < flashLimit
  buffer : d.recd.buffer.length < 8192

/-- From `d` to `e`, all logic was reset (R466): of its state only the image slots, selections and fuses, the flash store, the
dumps and the power stage's registers can be other than after reset. -/
structure Dev.IsReset (d e : Dev) : Prop where
  regs : ∀ off, off ∉ powerRegs → tabGet? e.regs off = none
  latch : e.latch = []
  host : e.host = .init
  boot : e.boot = { BootSt.init with
    slots := e.boot.slots, sel0 := e.boot.sel0, sel1 := e.boot.sel1, isSealed := d.boot.isSealed, keys := d.boot.keys
    revoked := d.boot.revoked }
  recd : e.recd = { RecSt.init with flash := e.recd.flash, dumps := d.recd.dumps }
  time : e.time = .init
  err : e.err = .init
  prot : e.prot = .init
  sys : e.sys = .init
  net : e.net = .init
  dec : e.dec = .init
  lay : e.lay = .init
  comp : e.comp = .init
  enc : e.enc = .init
  io : e.io = .init
  pair : e.pair = .init
  mctl : e.mctl = .init

/-! ### What some statements compute -/

/-- The four bytes of a DMA_FILL pattern, over and over (R36). -/
def fillBytes (c : Cmd) : List Byte :=
  (List.range (c.p 8 4)).map fun i => BitVec.ofNat 8 (c.p 12 4 / 256 ^ (i % 4) % 256)

/-- The slot that boot reads (R61). -/
def bootSlot (d : Dev) : Nat := if d.boot.profsel = 3 then d.boot.chosenSlot else d.boot.profsel

/-- What a validation answers (R56, R57): SUCCESS with a RESULT, or REJECTED with the failure's reason, its offset as RESULT
and its section type as DETAIL. -/
def imageAnswer (d : Dev) (v : Except ImgFail Image) (result : Nat) : Outcome :=
  match v with
  | .ok _ => ⟨Status.success, 0, 0, d.moduleId, result⟩
  | .error f => ⟨Status.rejected, f.reason, f.type, d.moduleId, f.off % 2 ^ 64⟩

/-- The registers of domain `dom`, of working time and of the references. -/
def timeOffs (dom : Nat) : List Nat :=
  [R.TB_STATUS.off dom 0, R.TB_RATE_ADJ.off dom 0, R.WT_STATUS.off 0 0, R.WT_RATE.off 0 0] ++ refOffs (10 + dom) ++ recOffs

/-- What the snapshot of TIME_SNAP takes for each of its five bases (R71, R86). -/
def snapValue (d : Dev) : Nat → Nat
  | 0 => d.wt
  | 1 => d.tbNow 0
  | 2 => d.tbNow 1
  | 3 => d.tb2
  | _ => d.tb3Now

/-- Every programmed slot of the flash store lies below its write pointer (R438). -/
def Dev.FlashFilled (d : Dev) : Prop :=
  ∀ e ∈ d.recd.flash, e.1 < d.recd.flashUsed ∧ (d.boot.begun = true → e.1 < d.reg R.REC_FLASH_USED)

/-! ### The invariant of memory -/

/-- DRAM is in its canonical form: addresses strictly rising, and no listed byte is what an unlisted one reads as. -/
def State.MemOk (s : State) : Prop := s.mem.wf = true

end Sys2Proof.Machine
end

