-- ==== Sys2Proof/Certificates/Slice0/Obligations.lean ====
section
/-! DEFINITION. The statements for the provers. In all of them an instant is what log 1 says, a command whose precondition
does not hold does what log 2 says, and what lies outside the block comes as operands (log 32): these are the model's, not
rules of the manual. -/

open Sys2Proof Sys2Proof.Machine

/-- A step takes the command at the front of the queue and is exec of it with the queue's rest; on an empty queue the block
idles. The queue and the idle step are the model's (log 1). -/
def Obligations.StepRunsFront : Prop :=
  (∀ (c : Instr) (rest : List Instr) (s : State), s.pending = c :: rest → step s = exec c { s with pending := rest }) ∧
  (∀ s : State, s.pending = [] → step s = .next s)

/-- Every command answers a next state, and none touches the queue of waiting commands: nothing faults or is refused. -/
def Obligations.EveryCommandCompletes : Prop :=
  ∀ (c : Instr) (s : State), ∃ s', exec c s = .next s' ∧ s'.pending = s.pending

/-- R466: after reset every register reads its reset value, the logic has no power, no queue has a command, the pair state is
OFF, no image is in force, the module is OPEN, and DRAM is in its canonical form. Reset values that the manual does not
give are the model's (log 3, log 111). -/
def Obligations.ResetState : Prop :=
  let d := State.reset.dev
  (∀ row ∈ regRows, ∀ i j, d.reg row.reg i j = row.reg.reset % 2 ^ 32) ∧ State.reset.pending = [] ∧ d.pwr.logicOn = false ∧
  (∀ q, (d.queue q).cmds = [] ∧ (d.queue q).records = []) ∧ d.pst = prOff ∧ d.phase = 0 ∧ d.boot.image = none ∧
  d.boot.isSealed = false ∧ (∀ j, (d.job j).state = 0) ∧ State.reset.MemOk ∧ d.FlashFilled ∧
  ∀ a, State.reset.mem.byte a = 0

/-- R4: registers are words, 4-byte aligned and little-endian; an access that is not a naturally aligned 32-bit one answers an
error and changes nothing. -/
def Obligations.RegistersAreWords : Prop :=
  (∀ (off i j : Nat) (row : RegRow), regAt off = some (row, i, j) → off % 4 = 0 ∧ off = row.reg.off i j) ∧
  (∀ (t off i j : Nat) (row : RegRow) (s : State), s.dev.Reaches off → off < 2 ^ 25 → regAt off = some (row, i, j) →
    ∃ s' v, exec (.lowWordLatchRead t off 4) s = .next s' ∧ v < 2 ^ 32 ∧ s'.dev.host.resp = .data
      [BitVec.ofNat 8 (v % 256), BitVec.ofNat 8 (v / 256 % 256), BitVec.ofNat 8 (v / 65536 % 256),
        BitVec.ofNat 8 (v / 16777216)]) ∧
  (∀ (t off size : Nat) (v : Word) (s : State), s.dev.hostAlive = true → size ≠ 4 ∨ off % 4 ≠ 0 →
    (∃ s', exec (.lowWordLatchRead t off size) s = .next s' ∧
      s' = { s with dev := { s.dev.clock t with host := { s.dev.host with resp := .error } } }) ∧
    (∃ s', exec (.registerWrite t off size v) s = .next s' ∧
      s' = { s with dev := { s.dev.clock t with host := { s.dev.host with resp := .error } } }))

/-- R361 to R382: every step keeps DRAM in its canonical form: addresses strictly rising, and no listed byte what an unlisted
one reads as. That unlisted bytes read 0 is the model's choice (log 3). -/
def Obligations.StepKeepsMemory : Prop :=
  ∀ s s' : State, s.MemOk → step s = .next s' → s'.MemOk

/-- Master-clock time never runs back: no step takes the present instant to an earlier one. Instants are the model's (log 1). -/
def Obligations.TimeNeverRunsBack : Prop :=
  ∀ s s' : State, step s = .next s' → s.dev.now ≤ s'.dev.now

/-- R58, R59: SEALED can never be undone. No step, not even a reset or a loss of power, opens a sealed module, or changes its
fused keys and revocations. -/
def Obligations.SealedStaysSealed : Prop :=
  ∀ s s' : State, s.dev.boot.isSealed = true → step s = .next s' →
    s'.dev.boot.isSealed = true ∧ s'.dev.boot.keys = s.dev.boot.keys ∧ s'.dev.boot.revoked = s.dev.boot.revoked

/-- R438, R441: the recorder cannot be cleared. While every programmed slot lies below the write pointer, no step erases or
changes a slot of the flash store. -/
def Obligations.RecorderIsNeverCleared : Prop :=
  ∀ s s' : State, s.dev.FlashFilled → step s = .next s' →
    ∀ i v, tabGet? s.dev.recd.flash i = some v → tabGet? s'.dev.recd.flash i = some v

/-- R4, R5, R24: a host write of a register without a rule of its own takes each bit by its access type, and moves no other
register; a write at an unassigned offset moves none, and is recorded; an access that is not a naturally aligned word is
answered with an error. R4, R5: a host read of a register answers its value, reserved and write-only bits reading 0; the
read of a low word has its upper word take the live value at the same instant; no other register moves. Model's choices in
it, not rules: log 9, 21, 36. -/
def Obligations.RegisterAccesses : Prop :=
  ((∀ (t off i j : Nat) (row : RegRow) (v : Word) (s : State), s.dev.Reaches off → off % 4 = 0 → off < 2 ^ 25 → s.dev.Alone →
    regAt off = some (row, i, j) → row.reg ∉ ownWrites → s.dev.takes row.reg i v.toNat = true →
    ∃ s', exec (.registerWrite t off 4 v) s = .next s' ∧
      s'.dev.reg row.reg i j = hostWriteValue row (s.dev.reg row.reg i j) v.toNat % 2 ^ 32 ∧
      s.Keeps s' t [off] [.pair]) ∧
  (∀ (t off : Nat) (v : Word) (s : State), s.dev.Reaches off → off % 4 = 0 → off < 2 ^ 25 → mirrored off = false →
    regAt off = none →
    ∃ s', exec (.registerWrite t off 4 v) s = .next s' ∧ s.Keeps s' t recOffs [.recd]) ∧
  (∀ (t off size : Nat) (v : Word) (s : State), s.dev.hostAlive = true → size ≠ 4 ∨ off % 4 ≠ 0 ∨ 2 ^ 25 ≤ off →
    ∃ s', exec (.registerWrite t off size v) s = .next s' ∧ s'.dev.host.resp = .error ∧ s.Keeps s' t [] [.host])) ∧
  ((∀ (t off i j : Nat) (row : RegRow) (s : State), s.dev.Reaches off → off % 4 = 0 → off < 2 ^ 25 →
    regAt off = some (row, i, j) → (∀ p ∈ latchPairs, row.reg ≠ p.1) → row.reg ∉ latchMore →
    ∃ s', exec (.lowWordLatchRead t off 4) s = .next s' ∧
      s'.dev.host.resp = .data (leBytes 4 ((s.dev.clock t).readValue row.reg i j &&& readMask row)) ∧
      s.Keeps s' t [] [.host]) ∧
  (∀ (t off i j : Nat) (row : RegRow) (hi : RegDesc) (s : State), s.dev.Reaches off → off % 4 = 0 → off < 2 ^ 25 →
    regAt off = some (row, i, j) → (row.reg, hi) ∈ latchPairs →
    ∃ s', exec (.lowWordLatchRead t off 4) s = .next s' ∧ s'.dev.reg hi i = s.dev.live hi i ∧
      s'.dev.host.resp = .data (leBytes 4 (s.dev.reg row.reg i j &&& readMask row)) ∧
      s.Keeps s' t [hi.off i 0] [.host]) ∧
  (∀ (t off size : Nat) (s : State), s.dev.hostAlive = true → size ≠ 4 ∨ off % 4 ≠ 0 ∨ 2 ^ 25 ≤ off →
    ∃ s', exec (.lowWordLatchRead t off size) s = .next s' ∧ s'.dev.host.resp = .error ∧ s.Keeps s' t [] [.host]))

/-- R21, R22: a configuration request is answered in every boot phase; its writes set Bus Master Enable, the BAR2 size (1 to
64 GiB) and the power state, and move nothing else. R23, R388, R389: a read through BAR2 that the HOST checker allows
answers the bytes of DRAM at the window's place, and one of which it denies a byte is answered Completer Abort; an allowed
write puts its bytes there and changes no other byte of DRAM; BAR2_OFFSET moves the window only to multiples of its size.
Model's choices in it, not rules: log 6, 21. -/
def Obligations.ConfigAndBar2 : Prop :=
  (∀ (t : Nat) (r : CfgRequest) (s : State), s.dev.hostAlive = true →
    ∃ s', exec (.pcieConfigRequest t r) s = .next s' ∧
      s'.dev.host.resp = (match r with
        | .read n => .data (leBytes 4 (Config.cfgSpace n).toNat)
        | _ => .ok) ∧
      s'.dev.host.busMaster = (match r with | .busMaster on => on | _ => s.dev.host.busMaster) ∧
      s'.dev.host.bar2Log2 = (match r with
        | .bar2Size n => if 30 ≤ n ∧ n ≤ 36 then n else s.dev.host.bar2Log2
        | _ => s.dev.host.bar2Log2) ∧
      s'.dev.host.d3hot = (match r with | .power h => h | _ => s.dev.host.d3hot) ∧
      s'.dev.host.queues = s.dev.host.queues ∧ s'.dev.host.posted = s.dev.host.posted ∧
      s.Keeps s' t [] [.host]) ∧
  ((∀ (t off len : Nat) (s : State), s.dev.hostAlive = true → off + len ≤ 2 ^ s.dev.host.bar2Log2 →
    Readable s.dev s.mem 0 (s.dev.bar2Pa off) len →
    ∃ s', exec (.bar2Read t off len) s = .next s' ∧
      s'.dev.host.resp = .data (s.mem.getBytes (s.dev.bar2Pa off) len) ∧ s.Keeps s' t [] [.host]) ∧
  (∀ (t off len : Nat) (s : State), s.dev.hostAlive = true → off + len ≤ 2 ^ s.dev.host.bar2Log2 →
    s.dev.chkClosed 0 = false → s.dev.denials 0 false (s.dev.bar2Pa off) len ≠ [] →
    ∃ s', exec (.bar2Read t off len) s = .next s' ∧ s'.dev.host.resp = .completerAbort ∧ s'.mem = s.mem) ∧
  (∀ (t off : Nat) (bs : List Byte) (s : State), s.dev.hostAlive = true → off + bs.length ≤ 2 ^ s.dev.host.bar2Log2 →
    Writable s.dev s.mem 0 (s.dev.bar2Pa off) bs.length →
    ∃ s', exec (.bar2Write t off bs) s = .next s' ∧ s.mem.Wrote s'.mem (s.dev.bar2Pa off) bs ∧
      s.Keeps s' t [] [.mem]) ∧
  (∀ (t : Nat) (v : Word) (s : State), s.dev.Reaches 0x48 →
    ∃ s', exec (.bar2OffsetWrite t v) s = .next s' ∧
      s'.dev.get R.BAR2_OFFSET_OFFSET = (if v.toNat / 64 * 1024 % 2 ^ s.dev.host.bar2Log2 = 0 then v.toNat / 64
        else s.dev.get R.BAR2_OFFSET_OFFSET) ∧
      s.Keeps s' t [R.BAR2_OFFSET.off 0 0] []))

/-- R26, R27: ENABLE written 1 to a disabled queue with sizes in range starts it, its tails and heads at 0 and PHASE at 1; a
size out of range puts it in ERROR (CONFIG). ENABLE written 0 to a running queue abandons each command that has not
started, keeps the others, and ends in DISABLED at once when no command is left. R25, R27, R28: a doorbell in range moves
the queue's tail or head and nothing else; one out of range puts the queue in ERROR (BAD_DOORBELL). R34: a host write of a
fence advances it to a later value; an equal one changes nothing, and an earlier one leaves the fence and is recorded. -/
def Obligations.QueueRegisters : Prop :=
  ((∀ (t q : Nat) (v : Word) (s : State), q ≤ 16 → s.dev.Reaches 0x100000 → s.dev.on R.Q_CTRL_ENABLE q = false →
    s.dev.qState q = qDisabled → (s.dev.queue q).cmds = [] → (s.dev.queue q).records = [] → s.dev.lay.held = [] →
    let sq := bits v.toNat 27 24
    let cq := bits v.toNat 23 20
    ∃ s', exec (.queueEnable t q v) s = .next s' ∧
      (if 4 ≤ cq ∧ cq ≤ 12 ∧ (q = 16 ∨ (4 ≤ sq ∧ sq ≤ 12 ∧ sq ≤ cq)) then
        s'.dev.qState q = qRunning ∧ s'.dev.get R.Q_CTRL_ENABLE q = 1 ∧ s'.dev.get R.Q_STATUS_SQ_HEAD q = 0 ∧
          s'.dev.get R.Q_CTRL_CQ_LOG2 q = cq ∧
          s'.dev.queue q = { s.dev.queue q with
            sqTail := 0, cqHead := 0, cqTail := 0, phase := true, coal := 0, holding := false }
      else s'.dev.qState q = qError ∧ s'.dev.get R.Q_STATUS_ERR q = 1 ∧ s'.dev.get R.Q_CTRL_ENABLE q = 0) ∧
      s.Keeps s' t (R.Q_CTRL.off q 0 :: R.Q_STATUS.off q 0 :: recOffs) [.host, .recd]) ∧
  (∀ (t q : Nat) (v : Word) (s : State), q < 16 → s.dev.Reaches 0x100000 → s.dev.Alone →
    s.dev.on R.Q_CTRL_ENABLE q = true → s.dev.qState q = qRunning → ((s.dev.queue q).cmds.map (·.seq)).Nodup →
    ∃ s', exec (.queueDisable t q v) s = .next s' ∧ s'.dev.get R.Q_CTRL_ENABLE q = 0 ∧ s'.dev.get R.Q_STATUS_ERR q = 0 ∧
      (∀ c ∈ (s.dev.queue q).cmds, c.running = false →
        s'.dev.answer q c.seq = some ⟨Status.abandoned, 0, 0, s.dev.moduleId, 0⟩) ∧
      (∀ c ∈ (s.dev.queue q).cmds, c.running = true → c ∈ (s'.dev.queue q).cmds) ∧
      ((s.dev.queue q).cmds = [] → s'.dev.qState q = qDisabled) ∧
      (∀ c ∈ (s.dev.queue q).cmds, c.running = true → c.st ≠ .done → s'.dev.qState q = qDraining) ∧
      s.Keeps s' t [R.Q_CTRL.off q 0, R.Q_STATUS.off q 0] [.host, .pair])) ∧
  ((∀ (t q : Nat) (v : Word) (s : State), q < 16 → s.dev.Reaches 0x110000 → s.dev.qState q = qRunning →
    ∃ s', exec (.sqTailDoorbell t q v) s = .next s' ∧
      (if v.toNat < 2 ^ s.dev.get R.Q_CTRL_SQ_LOG2 q then
        s'.dev.queue q = { s.dev.queue q with sqTail := v.toNat } ∧ s.Keeps s' t [] [.host]
      else s'.dev.qState q = qError ∧ s'.dev.get R.Q_STATUS_ERR q = 2 ∧ s'.dev.queue q = s.dev.queue q ∧
        s.Keeps s' t (R.Q_STATUS.off q 0 :: recOffs) [.recd])) ∧
  (∀ (t q : Nat) (v : Word) (s : State), q ≤ 16 → s.dev.Reaches 0x110000 → s.dev.qState q = qRunning →
    (s.dev.queue q).cmds = [] → (s.dev.queue q).records = [] → s.dev.lay.held = [] →
    ∃ s', exec (.cqHeadDoorbell t q v) s = .next s' ∧
      (if v.toNat < 2 ^ s.dev.get R.Q_CTRL_CQ_LOG2 q then
        s'.dev.queue q = { s.dev.queue q with cqHead := v.toNat } ∧ s.Keeps s' t [] [.host]
      else s'.dev.qState q = qError ∧ s'.dev.get R.Q_STATUS_ERR q = 2 ∧ s'.dev.queue q = s.dev.queue q ∧
        s.Keeps s' t (R.Q_STATUS.off q 0 :: recOffs) [.recd]))) ∧
  (∀ (t f : Nat) (v : Word) (s : State), f < 1024 → s.dev.Reaches (R.FENCE_VAL.off f 0) → s.dev.Alone →
    ∃ s', exec (.fenceWrite t f v) s = .next s' ∧
      s'.dev.reg R.FENCE_VAL f = (if later 32 v.toNat (s.dev.reg R.FENCE_VAL f) then v.toNat else s.dev.reg R.FENCE_VAL f) ∧
      (later 32 v.toNat (s.dev.reg R.FENCE_VAL f) = true → s'.dev.recd = s.dev.recd) ∧
      (v.toNat = s.dev.reg R.FENCE_VAL f → s'.dev.recd = s.dev.recd) ∧
      s.Keeps s' t (R.FENCE_VAL.off f 0 :: recOffs) [.pair, .recd])

/-- R30: a fetched entry with the expected SEQ is accepted behind the others, one within the ring's size behind it is consumed
and counted as a duplicate, and any other puts the queue in ERROR with an entry error. R28, R29, R31, R36: the oldest
accepted command's completion goes to the ring's write position with the ring's PHASE, the command leaves the queue,
Q_DONE_SEQ takes its SEQ, and its release fence, if it has one, then takes its value. Model's choice in it, not a rule:
log 10. -/
def Obligations.QueueEntries : Prop :=
  (∀ (t q : Nat) (e : List Byte) (s : State), q < 16 → s.dev.qState q = qRunning →
    s.dev.get R.Q_STATUS_SQ_HEAD q ≠ (s.dev.queue q).sqTail → s.dev.cqFull q = false → s.dev.host.busMaster = true →
    s.dev.queueActs = true → s.dev.clockOn 6 = true → s.dev.get R.Q_CTRL_SQ_LOG2 q ≤ 12 →
    let w := 2 ^ s.dev.get R.Q_CTRL_SQ_LOG2 q
    let d := sdiff 32 (leAt e 0 4) (s.dev.reg R.Q_EXP_SEQ q)
    ∃ s', exec (.commandEntryFetched t q e) s = .next s' ∧
      s'.dev.get R.Q_STATUS_SQ_HEAD q = (s.dev.get R.Q_STATUS_SQ_HEAD q + 1) % w ∧
      (if d = 0 then
        (s'.dev.queue q).cmds = (s.dev.queue q).cmds ++ [Cmd.ofEntry e s.dev.host.accepted] ∧
          s'.dev.reg R.Q_EXP_SEQ q = (s.dev.reg R.Q_EXP_SEQ q + 1) % 2 ^ 32 ∧
          s'.dev.host.accepted = s.dev.host.accepted + 1 ∧ s'.dev.qState q = qRunning
      else if -(w : Int) ≤ d ∧ d < 0 then
        s'.dev.get R.Q_DUP_COUNT_COUNT q = min (s.dev.get R.Q_DUP_COUNT_COUNT q + 1) (2 ^ 32 - 1) ∧
          s'.dev.queue q = s.dev.queue q ∧ s'.dev.qState q = qRunning
      else s'.dev.qState q = qError ∧ s'.dev.get R.Q_STATUS_ERR q = 5 ∧
        s'.dev.reg R.Q_EXP_SEQ q = s.dev.reg R.Q_EXP_SEQ q ∧
        ∃ c, (s'.dev.queue q).cmds = (s.dev.queue q).cmds ++ [c] ∧ c.entryErr = true ∧ c.st = .done ∧
          c.out = some ⟨Status.seqError, 0, 0, s.dev.moduleId, s.dev.reg R.Q_EXP_SEQ q⟩) ∧
      s.Keeps s' t (R.Q_STATUS.off q 0 :: R.Q_EXP_SEQ.off q 0 :: R.Q_DUP_COUNT.off q 0 :: recOffs) [.host, .pair, .recd]) ∧
  (∀ (t q : Nat) (c : Cmd) (rest : List Cmd) (o : Outcome) (s : State), q < 16 → s.dev.Writes q →
    (s.dev.queue q).cmds = c :: rest → c.st = .done → c.out = some o → c.awaiting = false → c.entryErr = false →
    s.dev.qState q ≠ qDraining → c.relFence < 1024 → c.badField = none →
    ∃ s', exec (.completionWrite t q) s = .next s' ∧ (s'.dev.queue q).cmds = rest ∧
      s'.dev.reg R.Q_DONE_SEQ q = c.seq % 2 ^ 32 ∧
      .write (s.dev.cqBase q + (s.dev.queue q).cqTail * 32)
        (withPhase (entryBytes c.seq c.opcode o.status o.reason o.detail (s.dev.get R.Q_STATUS_SQ_HEAD q) o.source c.ctime
          o.result) (s.dev.queue q).phase) false ∈ s'.dev.host.posted ∧
      (s'.dev.queue q).cqTail = ((s.dev.queue q).cqTail + 1) % s.dev.cqSize q ∧
      (c.relEn = true → later 32 c.relValue (s.dev.reg R.FENCE_VAL c.relFence) = true →
        s'.dev.reg R.FENCE_VAL c.relFence = c.relValue % 2 ^ 32) ∧
      (c.relEn = false → s'.dev.reg R.FENCE_VAL c.relFence = s.dev.reg R.FENCE_VAL c.relFence) ∧
      s.Keeps s' t (R.Q_DONE_SEQ.off q 0 :: R.FENCE_VAL.off c.relFence 0 :: recOffs) [.host, .pair, .recd])

/-- R35: the first waiting command of a queue starts once its acquire fence is reached and its deadline has not passed, its
domain having its clock and its agent; one whose fence is not reached stays as it is. A command whose deadline passes
before it starts completes with DEADLINE. R22, R490: the data of a started command's read joins what it has; a refusal
fails the command with ACCESS_DENIED and 0x0E06, no completion within 50 ms with TIMEOUT, and neither reaches another
command. Of a submission entry or a ring's entry, they put the queue in ERROR. Model's choices in it, not rules: log 10,
113. -/
def Obligations.CommandLife : Prop :=
  ((∀ (t q seq : Nat) (c : Cmd) (s : State), s.dev.cmd? q seq = some c → c.st = .waiting →
    isNext (s.dev.queue q).cmds seq = true → c.badField = none → c.remote = false → c.opcode ∈ knownOpcodes →
    s.dev.phase = phaseRunning → (∀ n, opDomain c.opcode = some n → s.dev.clockOn n = true) →
    (∀ n, opCore c.opcode = some n → s.dev.coreState n < 2) →
    c.deadline = 0 ∨ later 48 (s.dev.clock t).wt48 c.deadline = false →
    ∃ s', exec (.commandStart t q seq) s = .next s' ∧
      (if c.acqEn = false ∨ isCommitOp c.opcode = true ∨ s.dev.fenceReached c.acqFence c.acqValue = true then
        s'.dev.cmd? q seq = some { c with st := .started, ctime := (s.dev.clock t).wt48 } ∧ s.Keeps s' t [] [.host]
      else s.Keeps s' t [] [])) ∧
  (∀ (t q seq : Nat) (c : Cmd) (s : State), q < 16 → (s.dev.queue q).cmds.find? (fun x => x.seq == seq) = some c →
    c.st = .waiting → isNext (s.dev.queue q).cmds seq = true → c.badField = none → c.remote = false →
    c.opcode ∉ knownOpcodes → c.acqEn = false → c.deadline = 0 → s.dev.Alone →
    ∃ s', exec (.commandStart t q seq) s = .next s' ∧
      s'.dev.answer q seq = some ⟨Status.invalidOpcode, 0, 0, s.dev.moduleId, 0⟩ ∧ s.Keeps s' t [] [.host, .pair]) ∧
  (∀ (t q seq : Nat) (c : Cmd) (s : State), q < 16 → (s.dev.queue q).cmds.find? (fun x => x.seq == seq) = some c →
    c.st = .waiting → c.deadline ≠ 0 → later 48 c.deadline (s.dev.clock t).wt48 = false → s.dev.commitBusy q seq = false →
    s.dev.Alone →
    ∃ s', exec (.commandDeadline t q seq) s = .next s' ∧
      s'.dev.answer q seq = some ⟨Status.deadline, 0, 0, s.dev.moduleId, 0⟩ ∧ s.Keeps s' t [] [.host, .pair])) ∧
  ((∀ (t q seq : Nat) (c : Cmd) (bs : List Byte) (ps : List Nat) (s : State), s.dev.Running q seq c.opcode c →
    c.hostData = none →
    ∃ s', exec (.hostReadCompletion t q (some seq) (.data bs ps)) s = .next s' ∧
      s'.dev.cmd? q seq = some { c with hostData := some (bs, ps) } ∧ s.Keeps s' t [] [.host, .pair]) ∧
  (∀ (t q seq : Nat) (c : Cmd) (s : State), s.dev.Running q seq c.opcode c → s.dev.Alone →
    ∃ s', exec (.hostReadCompletion t q (some seq) .refused) s = .next s' ∧
      s'.dev.answer q seq = some ⟨Status.accessDenied, 0x0E06, 0, s.dev.moduleId, 0⟩ ∧
      s.Keeps s' t jobOffs [.host, .pair, .sys]) ∧
  (∀ (t q : Nat) (s : State), q ≤ 16 → s.dev.qState q = qRunning →
    (∃ s', exec (.hostReadCompletion t q none .refused) s = .next s' ∧ s'.dev.qState q = qError ∧
      s'.dev.get R.Q_STATUS_ERR q = 4 ∧ s.Keeps s' t (R.Q_STATUS.off q 0 :: recOffs) [.recd]) ∧
    (∃ s', exec (.hostReadTimeout t q none) s = .next s' ∧ s'.dev.qState q = qError ∧
      s'.dev.get R.Q_STATUS_ERR q = 3 ∧ s.Keeps s' t (R.Q_STATUS.off q 0 :: recOffs) [.recd])) ∧
  (∀ (t q seq : Nat) (c : Cmd) (s : State), s.dev.Running q seq c.opcode c → s.dev.Alone →
    (∃ s', exec (.hostReadTimeout t q (some seq)) s = .next s' ∧
      s'.dev.answer q seq = some ⟨Status.timeout, 0, 0, s.dev.moduleId, 0⟩ ∧
      s.Keeps s' t jobOffs [.host, .pair, .sys]) ∧
    (∃ s', exec (.hostWriteTimeout t (.command q seq)) s = .next s' ∧
      s'.dev.answer q seq = some ⟨Status.timeout, 0, 0, s.dev.moduleId, 0⟩ ∧
      s.Keeps s' t jobOffs [.host, .pair, .sys])) ∧
  (∀ (t q : Nat) (denied : Bool) (s : State), q ≤ 16 → s.dev.qState q = qRunning →
    ∃ s', exec (.hostWriteTimeout t (.ring q denied)) s = .next s' ∧ s'.dev.qState q = qError ∧
      s'.dev.get R.Q_STATUS_ERR q = (if denied then 4 else 3) ∧
      s'.dev.queue q = { s.dev.queue q with holding := true } ∧
      s.Keeps s' t (R.Q_STATUS.off q 0 :: recOffs) [.host, .recd]))

/-- R33 to R35, R37: NOP answers 0; SYNC answers once every command accepted before it has completed, and not before;
FENCE_SIGNAL advances its fence to a later value and answers the fence. A PARAM byte that is not 0 beyond a command's own
fails it with INVALID_FIELD (R488). R37: REG_READ_BLOCK of one open register writes its value to host memory and answers
1; a range past BAR0 fails with the PARAM offset of the count. REG_WRITE_BATCH of one pair on a register without a rule of
its own writes it and answers 1; a batch whose first pair is misaligned or beyond BAR0 applies none and answers
INVALID_FIELD. R32, R429: an owner takes a forwarded command it has no record of, once, and answers a retry of one it has
executed with the recorded outcome; at the origin the outcome completes the local command as it stands, and FWD_TIMEOUT
without one completes it with OWNER_UNREACHABLE. Model's choices in it, not rules: log 12, 22, 113. -/
def Obligations.QueueCommands : Prop :=
  ((∀ (t q seq : Nat) (c : Cmd) (s : State), s.dev.Running q seq 0x0000 c → s.dev.Alone →
    ∃ s', exec (.nop t q seq) s = .next s' ∧
      (match firstNonZero c.param 0 with
        | none => s'.dev.answer q seq = some ⟨Status.success, 0, 0, s.dev.moduleId, 0⟩
        | some i => s'.dev.answer q seq = some ⟨Status.invalidField, 36 + i, 0, s.dev.moduleId, 0⟩) ∧
      s.Keeps s' t [] [.host, .pair]) ∧
  (∀ (t q seq : Nat) (c : Cmd) (s : State), s.dev.Running q seq 0x0001 c → s.dev.Alone → c.Tail 0 →
    ∃ s', exec (.sync t q seq) s = .next s' ∧
      (if s.dev.allDoneBefore c.order = true then
        s'.dev.answer q seq = some ⟨Status.success, 0, 0, s.dev.moduleId, 0⟩ ∧ s.Keeps s' t [] [.host, .pair]
      else s.Keeps s' t [] [])) ∧
  (∀ (t q seq : Nat) (c : Cmd) (s : State), s.dev.Running q seq 0x0002 c → s.dev.Alone → c.Tail 6 → c.p 0 2 < 1024 →
    let f := c.p 0 2
    ∃ s', exec (.fenceSignal t q seq) s = .next s' ∧
      s'.dev.reg R.FENCE_VAL f = (if later 32 (c.p 2 4) (s.dev.reg R.FENCE_VAL f) then c.p 2 4
        else s.dev.reg R.FENCE_VAL f) ∧
      s'.dev.answer q seq = some ⟨Status.success, 0, 0, s.dev.moduleId, s'.dev.reg R.FENCE_VAL f⟩ ∧
      s.Keeps s' t (R.FENCE_VAL.off f 0 :: recOffs) [.host, .pair, .recd])) ∧
  ((∀ (t q seq i j : Nat) (c : Cmd) (row : RegRow) (s : State), s.dev.Running q seq 0x0005 c → s.dev.Alone → c.Tail 16 →
    c.p 0 4 % 4 = 0 → c.p 0 4 < 2 ^ 25 → c.p 4 4 = 1 → s.dev.host.busMaster = true → s.dev.queueActs = true →
    s.dev.offClosed (c.p 0 4) = false → s.dev.offDown (c.p 0 4) = false → regAt (c.p 0 4) = some (row, i, j) →
    (∀ p ∈ latchPairs, row.reg ≠ p.1) → row.reg ∉ latchMore →
    ∃ s', exec (.regReadBlock t q seq) s = .next s' ∧
      s'.dev.host.posted = .write (c.p 8 8) (leBytes 4 ((s.dev.clock t).readValue row.reg i j &&& readMask row)) false ::
        s.dev.host.posted ∧
      s'.dev.answer q seq = some ⟨Status.success, 0, 0, s.dev.moduleId, 1⟩ ∧ s.Keeps s' t [] [.host, .pair]) ∧
  (∀ (t q seq : Nat) (c : Cmd) (s : State), s.dev.Running q seq 0x0005 c → s.dev.Alone → c.p 0 4 % 4 = 0 →
    2 ^ 25 < c.p 0 4 + 4 * c.p 4 4 →
    ∃ s', exec (.regReadBlock t q seq) s = .next s' ∧
      s'.dev.answer q seq = some ⟨Status.invalidField, 4, 0, s.dev.moduleId, 0⟩ ∧ s.Keeps s' t [] [.host, .pair]) ∧
  (∀ (t q seq off i j : Nat) (c : Cmd) (bs : List Byte) (row : RegRow) (s : State), s.dev.Running q seq 0x0006 c →
    s.dev.Alone → c.tailZero 12 = true → c.p 8 4 = 1 → c.hostData = some (bs, []) → leAt bs 0 4 = off → off % 4 = 0 →
    off < 2 ^ 25 → s.dev.offClosed off = false → s.dev.offDown off = false → regAt off = some (row, i, j) →
    row.reg ∉ ownWrites → s.dev.takes row.reg i (leAt bs 4 4) = true → row.reg ≠ R.PAIR_STATUS →
    row.reg ≠ R.PAENT_ID →
    ∃ s', exec (.regWriteBatch t q seq) s = .next s' ∧
      s'.dev.reg row.reg i j = hostWriteValue row (s.dev.reg row.reg i j) (leAt bs 4 4) % 2 ^ 32 ∧
      s'.dev.answer q seq = some ⟨Status.success, 0, 0, s.dev.moduleId, 1⟩ ∧ s.Keeps s' t [off] [.host, .pair]) ∧
  (∀ (t q seq : Nat) (c : Cmd) (bs : List Byte) (s : State), s.dev.Running q seq 0x0006 c → s.dev.Alone →
    c.tailZero 12 = true → c.p 8 4 ≠ 0 → c.hostData = some (bs, []) → leAt bs 0 4 % 4 ≠ 0 ∨ 2 ^ 25 ≤ leAt bs 0 4 →
    ∃ s', exec (.regWriteBatch t q seq) s = .next s' ∧
      s'.dev.answer q seq = some ⟨Status.invalidField, 0, 0, s.dev.moduleId, 0⟩ ∧ s.Keeps s' t [] [.host, .pair])) ∧
  ((∀ (t origin oq : Nat) (e : List Byte) (s : State),
    let c := Cmd.ofEntry e s.dev.host.accepted
    let key := if c.retry then c.origSeq else c.seq
    let q := fwdQueue origin oq
    (∀ r, s.dev.host.fwdKept.find? (fun r => r.origin == origin && r.queue == oq && r.seq == key) = some r →
      ∃ s', exec (.forwardedCommandReceived t origin oq e) s = .next s' ∧
        s'.dev.host.replies = { r with seq := c.seq } :: s.dev.host.replies ∧ s'.dev.queue q = s.dev.queue q ∧
        s.Keeps s' t [] [.host]) ∧
    (s.dev.host.fwdKept.find? (fun r => r.origin == origin && r.queue == oq && r.seq == key) = none →
      ∃ s', exec (.forwardedCommandReceived t origin oq e) s = .next s' ∧
        s'.dev.host.replies = s.dev.host.replies ∧
        (s'.dev.queue q).cmds = (if (s.dev.queue q).cmds.any (fun x => x.seq == key) then (s.dev.queue q).cmds
          else (s.dev.queue q).cmds ++ [{ c with flags := c.flags &&& 0x18 }]) ∧
        s.Keeps s' t [] [.host])) ∧
  (∀ (t q seq : Nat) (c : Cmd) (o : FwdOutcome) (s : State), q < 16 →
    (s.dev.queue q).cmds.find? (fun x => x.seq == seq) = some c → c.st = .forwarded → s.dev.Alone →
    (∃ s', exec (.forwardedOutcome t q seq o) s = .next s' ∧
      s'.dev.answer q seq = some ⟨o.status, o.reason, o.detail, o.source, o.result⟩ ∧ s.Keeps s' t [] [.host, .pair]) ∧
    (∃ s', exec (.forwardTimeout t q seq) s = .next s' ∧
      (if (s.dev.get R.FWD_TIMEOUT_MS * 1000000 : Int) ≤ sdiff 48 (s.dev.clock t).wt48 c.ctime then
        s'.dev.answer q seq = some ⟨Status.ownerUnreachable, 0, 0, s.dev.moduleId, 0⟩ ∧ s.Keeps s' t [] [.host, .pair]
      else s.Keeps s' t [] []))))

/-- R36, R38, R388, R425: a DMA command that the DMA checker allows moves exactly its bytes, to DRAM or to host memory,
answers their number, and changes no other byte of DRAM; an empty copy answers 0 without an access. Model's choice in it,
not a rule: log 12. -/
def Obligations.DmaCommands : Prop :=
  (∀ (t q seq : Nat) (c : Cmd) (s : State), s.dev.Running q seq 0x0004 c → s.dev.Alone → c.tailZero 16 = true →
    c.p 8 4 ≠ 0 → 2 ^ 63 ≤ c.p 0 8 → s.dev.boot.memoryUp = true → Writable s.dev s.mem 4 (c.p 0 8 - 2 ^ 63) (c.p 8 4) →
    ∃ s', exec (.dmaFill t q seq) s = .next s' ∧ s.mem.Wrote s'.mem (c.p 0 8 - 2 ^ 63) (fillBytes c) ∧
      s'.dev.answer q seq = some ⟨Status.success, 0, 0, s.dev.moduleId, c.p 8 4⟩ ∧
      s.Keeps s' t [] [.mem, .host, .pair]) ∧
  (∀ (t q seq : Nat) (c : Cmd) (s : State), s.dev.Running q seq 0x0004 c → s.dev.Alone → c.tailZero 16 = true →
    c.p 8 4 ≠ 0 → c.p 0 8 < 2 ^ 63 → s.dev.host.busMaster = true → s.dev.queueActs = true →
    ∃ s', exec (.dmaFill t q seq) s = .next s' ∧
      s'.dev.host.posted = .write (c.p 0 8) (fillBytes c) false :: s.dev.host.posted ∧
      s'.dev.answer q seq = some ⟨Status.success, 0, 0, s.dev.moduleId, c.p 8 4⟩ ∧ s.Keeps s' t [] [.host, .pair]) ∧
  (∀ (t q seq : Nat) (c : Cmd) (bs : List Byte) (s : State), s.dev.Running q seq 0x0003 c → s.dev.Alone →
    c.tailZero 20 = true → c.p 16 4 ≠ 0 → c.p 0 8 < 2 ^ 63 → 2 ^ 63 ≤ c.p 8 8 → s.dev.boot.memoryUp = true →
    s.dev.host.busMaster = true → c.hostData = some (bs, []) → bs.length = c.p 16 4 →
    Writable s.dev s.mem 4 (c.p 8 8 - 2 ^ 63) (c.p 16 4) →
    ∃ s', exec (.dmaCopy t q seq) s = .next s' ∧ s.mem.Wrote s'.mem (c.p 8 8 - 2 ^ 63) bs ∧
      s'.dev.answer q seq = some ⟨Status.success, 0, 0, s.dev.moduleId, c.p 16 4⟩ ∧
      s.Keeps s' t [] [.mem, .host, .pair]) ∧
  (∀ (t q seq : Nat) (c : Cmd) (s : State), s.dev.Running q seq 0x0003 c → s.dev.Alone → c.tailZero 20 = true →
    c.p 16 4 ≠ 0 → 2 ^ 63 ≤ c.p 0 8 → c.p 8 8 < 2 ^ 63 → s.dev.boot.memoryUp = true → s.dev.host.busMaster = true →
    s.dev.queueActs = true → Readable s.dev s.mem 4 (c.p 0 8 - 2 ^ 63) (c.p 16 4) →
    ∃ s', exec (.dmaCopy t q seq) s = .next s' ∧
      s'.dev.host.posted =
        .write (c.p 8 8) (s.mem.getBytes (c.p 0 8 - 2 ^ 63) (c.p 16 4)) false :: s.dev.host.posted ∧
      s'.dev.answer q seq = some ⟨Status.success, 0, 0, s.dev.moduleId, c.p 16 4⟩ ∧ s.Keeps s' t [] [.host, .pair]) ∧
  (∀ (t q seq : Nat) (c : Cmd) (s : State), s.dev.Running q seq 0x0003 c → s.dev.Alone → c.tailZero 20 = true →
    c.p 16 4 = 0 →
    ∃ s', exec (.dmaCopy t q seq) s = .next s' ∧
      s'.dev.answer q seq = some ⟨Status.success, 0, 0, s.dev.moduleId, 0⟩ ∧ s.Keeps s' t [] [.host, .pair])

/-- R61, R63, R70, R340, R435: at M the boot ROM starts in phase ROM, PROFSEL and PREFERRED are taken, TB2 and working time
read 0, and the recorder goes on from the last valid entry of its flash store. The firmware load leads to FIRMWARE with
core 0 running, or to HALTED where neither copy is good. R56, R60, R61, R62, R435: with the firmware running, the image of
the boot slot is validated: a good one comes into force and boot goes on in CONFIGURE; an empty slot or a failure ends in
MAINTENANCE with its reason, and no image is in force. Either way the BOOT entry is written, and no register of the queues
and fences moves. R361, R381: after CONFIGURE, each channel with both ranks trained has rank 0 in service and rank 1
spare, DRAM is up, and boot goes on in TIME; a channel with no rank, or a bank that needs more than 64 rows, ends it with
MEMORY_FAIL. R63, R96, R484: the OCXO's steady running gives CD-HOUSE its clock and the monitors their basis; its warm-up
sets OCXO_READY. After the initial step the heads' grids start, and the module runs. Model's choices in it, not rules: log
32, 91, 92, 93. -/
def Obligations.BootPhases : Prop :=
  ((∀ (t profsel : Nat) (preferred : Bool) (s : State), s.dev.pwr.logicOn = true → s.dev.boot.begun = false →
    ∃ s', exec (.bootStart t profsel preferred) s = .next s' ∧ s'.dev.boot.begun = true ∧ s'.dev.phase = 0 ∧
      s'.dev.boot.profsel = profsel % 4 ∧ s'.dev.boot.preferred = preferred ∧ s'.dev.tb2 = 0 ∧ s'.dev.wt = 0 ∧
      s'.dev.get R.PAIR_STATUS_PREFERRED = b2n preferred ∧ s'.dev.reg R.REC_SEQ = s.dev.recd.lastSeq % 2 ^ 32 ∧
      s'.dev.pwr.mrstLow = false ∧ s'.dev.boot.slots = s.dev.boot.slots ∧ s'.dev.recd.flash = s.dev.recd.flash ∧
      s.Keeps s' t ([R.BOOT_STATUS.off 0 0, R.PAIR_STATUS.off 0 0, R.THERM_STATUS.off 0 0, R.REC_FLASH_USED.off 0 0,
        R.REC_BOOTS.off 0 0, R.DUMP_STATUS.off 0 0, R.DUMP_STATUS.off 1 0, R.DUMP_STATUS.off 2 0, R.DUMP_STATUS.off 3 0] ++
        recOffs) [.pwr, .time, .boot, .recd]) ∧
  (∀ (t : Nat) (okA okB : Bool) (s : State), s.dev.boot.begun = true → s.dev.phase = 0 →
    ∃ s', exec (.bootFirmwareLoaded t okA okB) s = .next s' ∧
      (if okA = true ∨ okB = true then s'.dev.phase = phaseFirmware ∧ s'.dev.coreState 0 = coreRunning
      else s'.dev.phase = phaseHalted ∧ s'.dev.coreState 0 = s.dev.coreState 0) ∧
      s.Keeps s' t [R.BOOT_STATUS.off 0 0, R.MGMT_CORE_STATUS.off 0 0] [])) ∧
  (∀ (t : Nat) (s : State), s.dev.boot.begun = true → s.dev.phase = phaseFirmware →
    ∃ s', exec (.bootImageValidated t) s = .next s' ∧
      (match (if (s.dev.slot (bootSlot s.dev)).valid then imgValidate s.dev.imgRules (s.dev.slot (bootSlot s.dev)).bytes
          else .error ⟨0x020E, 0, 0⟩) with
        | .ok im => s'.dev.phase = phaseConfigure ∧ s'.dev.boot.image = some im ∧
            s'.dev.get R.PROF_STATUS_IN_FORCE = 1 ∧ s'.dev.get R.PROF_STATUS_SLOT = bootSlot s.dev % 4 ∧
            s'.dev.reg R.PROF_IMAGE_ID = im.imageId % 2 ^ 32 ∧ s'.dev.pwr.preConfigure = false
        | .error f => s'.dev.phase = phaseMaintenance ∧ s'.dev.get R.BOOT_STATUS_ERR = f.reason % 256 ∧
            s'.dev.boot = s.dev.boot ∧ s'.dev.pwr = s.dev.pwr) ∧
      s'.dev.coreState 1 = coreRunning ∧ s'.dev.coreState 2 = coreRunning ∧ s'.dev.coreState 3 = coreRunning ∧
      (∃ e ∈ s'.dev.recd.ring.head?, e.ev = .boot ∨ e.ev = .full) ∧
      s.KeepsBut s' t (fun off => 0x200000 ≤ off ∨ off = R.MGMT_CORE_STATUS.off 0 0) [.boot, .recd, .prot, .pwr]) ∧
  (∀ (t : Nat) (bad : List Nat) (repairs : List (Nat × Nat)) (s : State), s.dev.phase = phaseConfigure →
    let lost := ∃ c, c < 8 ∧ c * 2 ∈ bad ∧ c * 2 + 1 ∈ bad
    let worn := ∃ e ∈ repairs, 64 < e.2
    ∃ s', exec (.bootMemoryTrained t bad repairs) s = .next s' ∧
      (lost ∨ worn → s'.dev.phase = phaseMaintenance ∧ s'.dev.get R.BOOT_STATUS_ERR = 0x11 ∧
        s'.dev.boot = s.dev.boot) ∧
      (¬lost → ¬worn → s'.dev.phase = phaseTime ∧ s'.dev.boot.memoryUp = true ∧
        s'.dev.get R.FS_STATUS_BIST_DONE = 1 ∧
        ∀ c, c < 8 →
          s'.dev.rankState c 0 = (if c * 2 ∈ bad then rkUntrained else rkInService) ∧
          s'.dev.rankState c 1 = (if c * 2 + 1 ∈ bad then rkUntrained else if c * 2 ∈ bad then rkInService else rkSpare)) ∧
      s.KeepsBut s' t (fun off => 0x200000 ≤ off) [.boot, .ref, .time]) ∧
  ((∀ (t : Nat) (s : State), s.dev.boot.begun = true →
    ∃ s', exec (.ocxoSteady t) s = .next s' ∧ s'.dev.boot.houseOcxo = true ∧ s'.dev.ref.ocxo = true ∧
      s'.dev.clockAt 10 0 = true ∧ s'.dev.get R.REFSEL_STATUS_MON_BASIS = 1 ∧
      s.KeepsBut s' t (fun off => 0x380000 ≤ off ∨ off = R.EDGE_CLK_STATUS.off 0 0) [.boot, .err, .ref]) ∧
  (∀ (t : Nat) (s : State), s.dev.pwr.logicOn = true →
    ∃ s', exec (.ocxoReady t) s = .next s' ∧ s'.dev.ref.warm = true ∧ s'.dev.get R.THERM_STATUS_OCXO_READY = 1 ∧
      s.Keeps s' t [R.THERM_STATUS.off 0 0] [.ref]) ∧
  (∀ (t : Nat) (s : State), s.dev.phase = phaseTime → s.dev.wtState ≠ wtUnset → s.dev.Alone →
    ∃ s', exec (.bootOutputs t) s = .next s' ∧ s'.dev.phase = phaseRunning ∧
      (∀ h ∈ s.dev.enabledHeads, (s'.dev.head h).grid = true) ∧
      s.KeepsBut s' t (fun off => 0x200000 ≤ off) [.comp, .pair, .recd, .err, .host, .boot]))

/-- R40, R41, R56, R66: IMAGE_CHECK validates and stores nothing. IMAGE_WRITE of a good image stores its bytes with the slot
valid, or leaves the slot empty where the flash fails; SLOT_ERASE empties a slot; SLOT_CHOOSE makes its slot the chosen
one and answers the counter. None touches the slot in force or another slot. R66, R67: a switch that the image in force
forbids is REJECTED and changes nothing; one that passes leaves no commit waiting and is under way. Once every head is
blank, the image of the target slot is in force; a fabric fault's restart ends too. R58, R59: LIFECYCLE_SEAL fuses the
masked key hashes and seals the module when the image in force verifies under them; otherwise, a sealed module among the
cases, it is REJECTED with 0x0204 and nothing is fused. Model's choices in it, not rules: log 5, 95, 96, 97, 98, 99, 100. -/
def Obligations.SlotsAndLifecycle : Prop :=
  ((∀ (t q seq : Nat) (c : Cmd) (bs : List Byte) (s : State), s.dev.Running q seq 0x0200 c → s.dev.Alone → c.Tail 12 →
    c.hostData = some (bs, []) → c.p 8 4 ≠ 0 → min (c.p 8 4) 16777216 ≤ bs.length →
    ∃ s', exec (.imageCheck t q seq) s = .next s' ∧
      s'.dev.answer q seq = some (imageAnswer s.dev
        (validateSupplied s.dev.imgRules (bs.take (min (c.p 8 4) 16777216)) (c.p 8 4)) 0) ∧
      s.Keeps s' t [] [.host, .pair]) ∧
  (∀ (t q seq : Nat) (c : Cmd) (flashOk : Bool) (bs : List Byte) (s : State), s.dev.Running q seq 0x0201 c → s.dev.Alone →
    c.Tail 13 → c.p 0 1 < 4 → s.dev.slotHeld (c.p 0 1) c = false → c.hostData = some (bs, []) → c.p 9 4 ≠ 0 →
    c.p 9 4 ≤ 16777216 → c.p 9 4 ≤ bs.length → s.dev.inForceSlot ≠ some (c.p 0 1) →
    ∃ s', exec (.imageWrite t q seq flashOk) s = .next s' ∧
      (match imgValidate s.dev.imgRules (bs.take (c.p 9 4)), flashOk with
        | .error f, _ => s'.dev.slot (c.p 0 1) = s.dev.slot (c.p 0 1) ∧
            s'.dev.answer q seq = some (imageAnswer s.dev (.error f) 0)
        | .ok _, true => s'.dev.slot (c.p 0 1) = ⟨bs.take (c.p 9 4), true⟩ ∧
            bit (s'.dev.get R.PROF_STATUS_SLOT_VALID) (c.p 0 1) = true ∧
            s'.dev.answer q seq = some ⟨Status.success, 0, 0, s.dev.moduleId, c.p 9 4⟩
        | .ok _, false => s'.dev.slot (c.p 0 1) = ⟨[], false⟩ ∧
            bit (s'.dev.get R.PROF_STATUS_SLOT_VALID) (c.p 0 1) = false ∧
            s'.dev.answer q seq = some ⟨Status.rejected, rFlashError, 0, s.dev.moduleId, 0⟩) ∧
      (∀ n, n ≠ c.p 0 1 → s'.dev.slot n = s.dev.slot n) ∧
      s.Keeps s' t [R.PROF_STATUS.off 0 0] [.boot, .host, .pair]) ∧
  (∀ (t q seq : Nat) (c : Cmd) (flashOk : Bool) (s : State), s.dev.Running q seq 0x0202 c → s.dev.Alone → c.Tail 1 →
    c.p 0 1 < 4 → s.dev.slotHeld (c.p 0 1) c = false → s.dev.inForceSlot ≠ some (c.p 0 1) →
    ∃ s', exec (.slotErase t q seq flashOk) s = .next s' ∧ s'.dev.slot (c.p 0 1) = ⟨[], false⟩ ∧
      bit (s'.dev.get R.PROF_STATUS_SLOT_VALID) (c.p 0 1) = false ∧
      (∀ n, n ≠ c.p 0 1 → s'.dev.slot n = s.dev.slot n) ∧
      s'.dev.answer q seq = some (if flashOk then ⟨Status.success, 0, 0, s.dev.moduleId, 0⟩
        else ⟨Status.rejected, rFlashError, 0, s.dev.moduleId, 0⟩) ∧
      s.Keeps s' t [R.PROF_STATUS.off 0 0] [.boot, .host, .pair]) ∧
  (∀ (t q seq : Nat) (c : Cmd) (s : State), s.dev.Running q seq 0x0203 c → s.dev.Alone → c.Tail 1 → c.p 0 1 < 4 →
    s.dev.slotHeld (c.p 0 1) c = false →
    sdiff 32 s.dev.boot.sel1.counter s.dev.boot.sel0.counter = 1 ∨
      sdiff 32 s.dev.boot.sel1.counter s.dev.boot.sel0.counter = -1 ∨
      (s.dev.boot.sel0.valid && s.dev.boot.sel1.valid) = false →
    ∃ s', exec (.slotChoose t q seq true) s = .next s' ∧ s'.dev.boot.chosenSlot = c.p 0 1 ∧
      s'.dev.get R.PROF_STATUS_CHOSEN = c.p 0 1 ∧ s'.dev.boot.slots = s.dev.boot.slots ∧
      s'.dev.answer q seq = some ⟨Status.success, 0, 0, s.dev.moduleId, s.dev.boot.nextCounter⟩ ∧
      s.Keeps s' t [R.PROF_STATUS.off 0 0] [.boot, .host, .pair])) ∧
  ((∀ (t q seq : Nat) (c : Cmd) (s : State), s.dev.Running q seq 0x0204 c → s.dev.Alone → c.Tail 2 → c.p 0 1 < 4 →
    c.p 1 1 < 2 → s.dev.slotHeld (c.p 0 1) c = false → s.dev.on R.PROF_STATUS_SWITCHING = false →
    s.dev.err.fabricRun = false →
    ∃ s', exec (.profileSwitch t q seq) s = .next s' ∧
      (if s.dev.img.switchPolicy % 2 = 0 then
        s'.dev.answer q seq = some ⟨Status.rejected, rSwitchForbidden, 0, s.dev.moduleId, 0⟩ ∧
          s.Keeps s' t [] [.host, .pair]
      else match (s.dev.clock t).switchFail (c.p 0 1) with
        | some f => s'.dev.answer q seq = some ⟨Status.rejected, f.reason, f.type, s.dev.moduleId, f.off % 2 ^ 64⟩ ∧
            s.Keeps s' t [] [.host, .pair]
        | none => s'.dev.boot.switch = some (q, seq, c.p 0 1, c.p 1 1 == 1) ∧
            s'.dev.get R.PROF_STATUS_SWITCHING = 1 ∧ s'.dev.commits = [] ∧ s'.dev.boot.image = s.dev.boot.image)) ∧
  (∀ (t q seq slot : Nat) (choose : Bool) (s : State), s.dev.boot.switch = some (q, seq, slot, choose) → slot < 4 →
    s.dev.enabledHeads.all s.dev.isBlank = true →
    ∃ s', exec (.fabricRestartDone t) s = .next s' ∧ s'.dev.boot.switch = none ∧
      s'.dev.get R.PROF_STATUS_SLOT = slot ∧
      s'.dev.boot.image.map (·.imageId) = some (imgParse (s.dev.slot slot).bytes).imageId ∧
      s'.dev.boot.imageBytes = (s.dev.slot slot).bytes) ∧
  (∀ (t : Nat) (s : State), s.dev.boot.switch = none → s.dev.err.fabricRun = true →
    ∃ s', exec (.fabricRestartDone t) s = .next s' ∧ s'.dev.err.fabricRun = false ∧ s'.dev.boot = s.dev.boot ∧
      s'.mem = s.mem ∧ s'.pending = s.pending)) ∧
  (∀ (t q seq : Nat) (c : Cmd) (bs : List Byte) (s : State), s.dev.Running q seq 0x0205 c → s.dev.Alone → c.Tail 9 →
    c.p 8 1 < 16 → c.hostData = some (bs, []) → 192 ≤ bs.length →
    let keys := sealKeys bs (c.p 8 1)
    ∃ s', exec (.lifecycleSeal t q seq) s = .next s' ∧
      (if s.dev.boot.isSealed = false ∧ s.dev.boot.image.isSome = true ∧ imgSigned s.dev.boot.imageBytes = true ∧
          imgSignature ⟨true, keys, s.dev.boot.revoked, none⟩ s.dev.boot.imageBytes = none then
        s'.dev.boot = { s.dev.boot with isSealed := true, keys := keys } ∧ s'.dev.get R.PROF_STATUS_SEALED = 1 ∧
          s'.dev.answer q seq = some ⟨Status.success, 0, 0, s.dev.moduleId, c.p 8 1⟩ ∧
          s.Keeps s' t (R.PROF_STATUS.off 0 0 :: recOffs) [.boot, .recd, .host, .pair]
      else s'.dev.answer q seq = some ⟨Status.rejected, 0x0204, 0, s.dev.moduleId, 0⟩ ∧ s.Keeps s' t [] [.host, .pair]))

/-- R70, R75: a sync message 10 µs or less from its base sets the base's rate without a step and counts good intervals, 16 of
which qualify the domain; one further away steps the base by the offset, counts the step and disqualifies the domain. An
announcement sets the port state and the grandmaster; a new grandmaster, or a class from 248 on, disqualifies. R64, R72 to
R75, R84: a receipt timeout disqualifies its domain, and working time, left without a qualified domain, goes to NO_PTP
without a step; at M + 30 s without one it starts from TB2 in NO_PTP; HOLDOVER_TRUST in NO_PTP sets TRUST_EXPIRED; the end
of the slew leaves the frequency term alone, again without a step. Model's choices in it, not rules: log 29, 32, 38. -/
def Obligations.TimeDomains : Prop :=
  ((∀ (t dom port st : Nat) (off rate phase : Int) (s : State), dom < 2 → s.dev.domRuns dom = true →
    phaseTime ≤ s.dev.phase → s.dev.phase ≤ phaseRunning → bit (s.dev.ptp dom).mask port = true →
    let good := if st = 9 ∧ off.natAbs ≤ 4000 then min 16 ((s.dev.ptp dom).good + 1) else 0
    ∃ s', exec (.ptpMessageReceived t dom port (.sync st off rate phase)) s = .next s' ∧
      (if 40000 < off.natAbs then
        s'.dev.tb dom = ⟨max s.dev.now t, (((s.dev.tb dom).read (max s.dev.now t) : Int) - off).toNat, (s.dev.tb dom).rate⟩ ∧
          s'.dev.get R.TB_STATUS_STEPS dom = min (s.dev.get R.TB_STATUS_STEPS dom + 1) 255 ∧
          s'.dev.qual dom = false ∧ (s'.dev.ptp dom).good = 0
      else s'.dev.tb dom = (s.dev.tb dom).retime (max s.dev.now t) rate ∧ (s'.dev.ptp dom).good = good ∧
        s'.dev.reg R.TB_RATE_ADJ dom = ofSigned 32 rate ∧
        (good = 16 → s.dev.get R.TB_STATUS_GM_CLASS dom < 248 → s'.dev.qual dom = true)) ∧
      s'.dev.get R.TB_STATUS_PORT_STATE dom = st % 16 ∧
      s.Keeps s' t (timeOffs dom) [.time, .ref, .recd]) ∧
  (∀ (t dom port st cls gm : Nat) (s : State), dom < 2 → s.dev.domRuns dom = true →
    phaseTime ≤ s.dev.phase → s.dev.phase ≤ phaseRunning → bit (s.dev.ptp dom).mask port = true →
    ∃ s', exec (.ptpMessageReceived t dom port (.announce st cls gm)) s = .next s' ∧
      s'.dev.get R.TB_STATUS_PORT_STATE dom = st % 16 ∧ s'.dev.get R.TB_STATUS_GM_CLASS dom = cls % 256 ∧
      (s'.dev.ptp dom).gm = some gm ∧ s'.dev.tb dom = s.dev.tb dom ∧
      (248 ≤ cls ∨ (∃ g, (s.dev.ptp dom).gm = some g ∧ g ≠ gm) → s'.dev.qual dom = false) ∧
      s.Keeps s' t (timeOffs dom) [.time, .ref, .recd])) ∧
  ((∀ (t dom : Nat) (s : State), dom < 2 → s.dev.domRuns dom = true →
    ∃ s', exec (.ptpReceiptTimeout t dom) s = .next s' ∧ s'.dev.qual dom = false ∧ (s'.dev.ptp dom).gm = none ∧
      (s.dev.qual dom = true → s.dev.get R.WT_STATUS_FOLLOWS = dom + 1 → s.dev.qual (1 - dom) = false →
        s'.dev.wtState = wtNoPtp ∧ s'.dev.get R.WT_STATUS_FOLLOWS = 0 ∧ s'.dev.time.wt = s.dev.time.wt) ∧
      s.Keeps s' t (timeOffs dom) [.time, .ref, .recd]) ∧
  (∀ (t : Nat) (s : State), s.dev.wtState = wtUnset → s.dev.phase = phaseTime →
    s.dev.boot.mInst + 30 * qS ≤ max s.dev.now t → s.dev.qual 0 = false → s.dev.qual 1 = false →
    ∃ s', exec (.wtUnsetTimeout t) s = .next s' ∧ s'.dev.wtState = wtNoPtp ∧ s'.dev.get R.WT_STATUS_FOLLOWS = 0 ∧
      s'.dev.wt = s'.dev.tb2 ∧ s.Keeps s' t (R.WT_STATUS.off 0 0 :: recOffs) [.time, .recd]) ∧
  (∀ (t : Nat) (s : State), s.dev.wtState = wtNoPtp → s.dev.get R.WT_STATUS_TRUST_EXPIRED = 0 →
    s.dev.time.noPtpAt + s.dev.reg R.TIME_HOLDOVER_TRUST * qMs ≤ max s.dev.now t →
    ∃ s', exec (.holdoverTrustExpiry t) s = .next s' ∧ s'.dev.get R.WT_STATUS_TRUST_EXPIRED = 1 ∧
      s.Keeps s' t (R.WT_STATUS.off 0 0 :: recOffs) [.recd]) ∧
  (∀ (t : Nat) (s : State), s.dev.get R.WT_STATUS_SLEWING = 1 → (s.dev.time.freq.natAbs : Int) ≤ rateLimit →
    (s.dev.time.phase.natAbs : Int) ≤ slopeLimit (max s.dev.now t - s.dev.time.rateAt) →
    ∃ s', exec (.wtSlewEnd t) s = .next s' ∧ s'.dev.time.phase = 0 ∧ s'.dev.time.freq = s.dev.time.freq ∧
      s'.dev.get R.WT_STATUS_SLEWING = 0 ∧ s'.dev.reg R.WT_RATE = ofSigned 32 s.dev.time.freq ∧
      s'.dev.wt = (s.dev.clock t).wt ∧
      (s.dev.wtState = wtOffsetHold → s'.dev.time.offset = s'.dev.diff (s.dev.get R.WT_STATUS_FOLLOWS - 1)) ∧
      s.Keeps s' t [R.WT_STATUS.off 0 0, R.WT_RATE.off 0 0] [.time]))

/-- R76, R91: WT_FOLLOW of a qualified domain switches working time to it without a step and counts the switch; of the
followed domain it changes nothing; of another it is REJECTED. PTP_PORTS in range sets the domain's ports, transport, step
mode and VLAN. R70, R71, R86, R87, R90: SNAP latches working time and TB0 to TB3 of one instant and sets DONE. TB3 takes
the staged value, or a rate of at most ±32,767 ppb without a step, and ignores the rest. PPS_OUT rises at whole seconds of
working time while PPS_CTRL.ENABLE is 1, and falls. Model's choice in it, not a rule: log 39. -/
def Obligations.TimeControl : Prop :=
  ((∀ (t q seq : Nat) (c : Cmd) (s : State), s.dev.Running q seq 0x0300 c → s.dev.Alone → c.Tail 1 → c.p 0 1 < 2 →
    s.dev.domRuns (c.p 0 1) = true →
    ∃ s', exec (.wtFollow t q seq) s = .next s' ∧ s'.dev.wt = (s.dev.clock t).wt ∧
      (if s.dev.get R.WT_STATUS_FOLLOWS = c.p 0 1 + 1 then
        s'.dev.answer q seq = some ⟨Status.success, 0, 0, s.dev.moduleId, c.p 0 1⟩ ∧ s.Keeps s' t [] [.host, .pair]
      else if s.dev.qual (c.p 0 1) = false ∨ s.dev.get R.WT_STATUS_FOLLOWS = 0 then
        s'.dev.answer q seq = some ⟨Status.rejected, 0x0301, 0, s.dev.moduleId, 0⟩ ∧ s.Keeps s' t [] [.host, .pair]
      else s'.dev.get R.WT_STATUS_FOLLOWS = c.p 0 1 + 1 ∧
        s'.dev.get R.WT_STATUS_SWITCHES = min (s.dev.get R.WT_STATUS_SWITCHES + 1) 255 ∧
        s'.dev.answer q seq = some ⟨Status.success, 0, 0, s.dev.moduleId, c.p 0 1⟩ ∧
        s.Keeps s' t ([R.WT_STATUS.off 0 0, R.WT_RATE.off 0 0] ++ recOffs) [.time, .recd, .host, .pair])) ∧
  (∀ (t q seq : Nat) (c : Cmd) (s : State), s.dev.Running q seq 0x0301 c → s.dev.Alone → c.Tail 6 → c.p 0 1 < 2 →
    s.dev.domRuns (c.p 0 1) = true → c.p 1 1 < 16 → c.p 2 1 < 3 → c.p 3 1 < 2 → c.p 4 2 ≤ 4094 ∨ c.p 4 2 = 0xFFFF →
    transportOk s.dev.img.ptpProfile (c.p 2 1) = true →
    s.dev.img.tb0Domain ≠ s.dev.img.tb1Domain ∨ s.dev.domRuns (1 - c.p 0 1) = false →
    ∃ s', exec (.ptpPorts t q seq) s = .next s' ∧ (s'.dev.ptp (c.p 0 1)).mask = c.p 1 1 ∧
      (s'.dev.ptp (c.p 0 1)).transport = c.p 2 1 ∧ (s'.dev.ptp (c.p 0 1)).step = bit (c.p 3 1) 0 ∧
      (s'.dev.ptp (c.p 0 1)).vlan = c.p 4 2 ∧
      s'.dev.answer q seq = some ⟨Status.success, 0, 0, s.dev.moduleId, c.p 1 1⟩ ∧
      s.Keeps s' t (timeOffs (c.p 0 1)) [.time, .ref, .recd, .host, .pair])) ∧
  ((∀ (t : Nat) (v : Word) (s : State), s.dev.Reaches 0x300018 → bit v.toNat 0 = true →
    ∃ s', exec (.timeSnap t v) s = .next s' ∧ s'.dev.get R.TIME_SNAP_DONE = 1 ∧
      (∀ b, b < 5 → let x := snapValue (s.dev.clock t) b
        s'.dev.reg R.SNAP_SEC_HI b = x / qS / 2 ^ 32 % 2 ^ 16 ∧ s'.dev.reg R.SNAP_SEC_LO b = x / qS % 2 ^ 32 ∧
          s'.dev.reg R.SNAP_NS b = x % qS / 4 ∧ s'.dev.reg R.SNAP_FRAC b = x % 4 * 16384) ∧
      s.Keeps s' t (R.TIME_SNAP.off 0 0 :: (List.range 5).flatMap fun b =>
        [R.SNAP_SEC_HI.off b 0, R.SNAP_SEC_LO.off b 0, R.SNAP_NS.off b 0, R.SNAP_FRAC.off b 0]) []) ∧
  (∀ (t : Nat) (v : Word) (s : State), s.dev.Reaches 0x3000CC → s.dev.Alone →
    let ns := s.dev.reg R.TB3_SET_NS
    let sec := s.dev.get R.TB3_SET_SEC_HI_SEC * 2 ^ 32 + s.dev.reg R.TB3_SET_SEC_LO
    ∃ s', exec (.tb3Apply t v) s = .next s' ∧
      s'.dev.tb3Now = (if bit v.toNat 0 = true ∧ ns < 1000000000 then (sec * 1000000000 + ns) * 4
        else (s.dev.clock t).tb3Now) ∧
      s'.dev.time.tb3.rate = s.dev.time.tb3.rate ∧ s.Keeps s' t [] [.time, .pair]) ∧
  (∀ (t : Nat) (v : Word) (s : State), s.dev.Reaches 0x3000B4 → s.dev.Alone →
    let r := toSigned 32 v.toNat
    ∃ s', exec (.tb3RateAdjWrite t v) s = .next s' ∧ s'.dev.tb3Now = (s.dev.clock t).tb3Now ∧
      s'.dev.time.tb3.rate = (if r.natAbs ≤ 32767 * 65536 then r else s.dev.time.tb3.rate) ∧
      s'.dev.reg R.TB_RATE_ADJ 3 = (if r.natAbs ≤ 32767 * 65536 then v.toNat else s.dev.reg R.TB_RATE_ADJ 3) ∧
      s.Keeps s' t [R.TB_RATE_ADJ.off 3 0] [.time, .pair]) ∧
  (∀ (t : Nat) (v : Word) (s : State), s.dev.Reaches 0x3000D0 → s.dev.Alone →
    ∃ s', exec (.ppsCtrlWrite t v) s = .next s' ∧ s'.dev.get R.PPS_CTRL_ENABLE = v.toNat % 2 ∧
      s.Keeps s' t [R.PPS_CTRL.off 0 0] [.pair]) ∧
  (∀ (t : Nat) (s : State),
    (∃ s', exec (.ppsOutRise t) s = .next s' ∧
      (s'.dev.time.ppsHigh = true ↔ s.dev.time.ppsHigh = true ∨ (s.dev.get R.PPS_CTRL_ENABLE = 1 ∧
        s.dev.wtState ≠ wtUnset ∧ (s.dev.clock t).wt / 4 % 1000000000 = 0)) ∧ s.Keeps s' t [] [.time]) ∧
    (∃ s', exec (.ppsOutFall t) s = .next s' ∧ s'.dev.time = { s.dev.time with ppsHigh := false } ∧
      s.Keeps s' t [] [.time])))

/-- R94, R95, R97, R99: a reference that loses activity is disqualified at once; each 1 s gate renews its mean over 8 gates,
judges it against its accept and reject limits and starts its wait-to-restore; the wait's end qualifies it. After each of
them the selector follows the choice of R97. R96, R99, R100: the end of a pull is LOCKED; 60 s of LOCKED with the OCXO
warm is HOLDOVER_READY; without the OCXO the monitors lose their basis and every wait stops, and with its return every
monitor starts its gates anew. R105: a write without APPLY only stages; with APPLY, values in range come into force and
the selector follows the choice of R97 under them, and values out of range set BAD_CONFIG and leave the settings in force.
Model's choices in it, not rules: log 11, 30, 93. -/
def Obligations.References : Prop :=
  ((∀ (t r : Nat) (s : State), r < 12 → s.dev.ref.forceRef < 12 →
    ∃ s', exec (.refActivityLost t r) s = .next s' ∧ s'.dev.get R.REF_STATUS_ACTIVE r = 0 ∧
      s'.dev.get R.REF_STATUS_QUALIFIED r = 0 ∧ s'.dev.get R.REF_STATUS_WTR_RUNNING r = 0 ∧
      (s'.dev.refMon r).inSince = none ∧ s'.dev.FollowsChoice ∧ s.Keeps s' t (refOffs r ++ recOffs) [.ref, .recd]) ∧
  (∀ (t r : Nat) (gate : Int) (s : State), r < 12 → s.dev.ref.forceRef < 12 → s.dev.get R.REFSEL_STATUS_MON_BASIS = 1 →
    s.dev.refAlive r = true →
    let m := s.dev.refMon r
    let g := (gate :: m.gates).take 64
    let mean := meanOf (g.take 8)
    ∃ s', exec (.refFreqGate t r gate) s = .next s' ∧ (s'.dev.refMon r).gates = g ∧
      s'.dev.get R.REF_STATUS_ACTIVE r = 1 ∧ s'.dev.reg R.REF_FREQ r = ofSigned 32 mean ∧
      s'.dev.get R.REF_STATUS_IN_ACCEPT r = b2n (decide (mean.natAbs ≤ m.accept * 1000)) ∧
      (s.dev.get R.REF_STATUS_QUALIFIED r = 1 → m.reject * 1000 < mean.natAbs →
        s'.dev.get R.REF_STATUS_QUALIFIED r = 0 ∧ s'.dev.get R.REF_STATUS_REJECTED r = 1 ∧ s'.dev.FollowsChoice) ∧
      (s.dev.get R.REF_STATUS_QUALIFIED r = 1 → mean.natAbs ≤ m.reject * 1000 →
        s'.dev.get R.REF_STATUS_QUALIFIED r = 1) ∧
      (s.dev.get R.REF_STATUS_QUALIFIED r = 0 → mean.natAbs ≤ m.accept * 1000 → m.priority ≠ 0 → m.inSince = none →
        s'.dev.get R.REF_STATUS_WTR_RUNNING r = 1 ∧ (s'.dev.refMon r).inSince = some (max s.dev.now t)) ∧
      s.Keeps s' t (refOffs r ++ recOffs) [.ref, .recd]) ∧
  (∀ (t r at' : Nat) (s : State), r < 12 → s.dev.ref.forceRef < 12 → (s.dev.refMon r).inSince = some at' →
    s.dev.get R.REF_STATUS_WTR_RUNNING r = 1 → s.dev.get R.REF_STATUS_ACTIVE r = 1 →
    at' + (s.dev.refMon r).wtr * qS ≤ max s.dev.now t →
    ∃ s', exec (.refWtrExpiry t r) s = .next s' ∧ s'.dev.get R.REF_STATUS_QUALIFIED r = 1 ∧
      s'.dev.get R.REF_STATUS_WTR_RUNNING r = 0 ∧ s'.dev.FollowsChoice ∧
      s.Keeps s' t (refOffs r ++ recOffs) [.ref, .recd])) ∧
  ((∀ (t : Nat) (s : State), s.dev.get R.REFSEL_STATUS_STATE = selPulling → (s.dev.clock t).pullLeft = 0 →
    ∃ s', exec (.pullComplete t) s = .next s' ∧ s'.dev.get R.REFSEL_STATUS_STATE = selLocked ∧
      s'.dev.ref = { s.dev.ref with pull := 0, lockedAt := some (max s.dev.now t) } ∧
      s.Keeps s' t [R.REFSEL_STATUS.off 0 0] [.ref]) ∧
  (∀ (t at' : Nat) (s : State), s.dev.get R.REFSEL_STATUS_STATE = selLocked → s.dev.ref.lockedAt = some at' →
    s.dev.ref.warm = true → s.dev.ref.ocxo = true → at' + 60 * qS ≤ max s.dev.now t →
    ∃ s', exec (.holdoverReadyTimer t) s = .next s' ∧ s'.dev.get R.REFSEL_STATUS_HOLDOVER_READY = 1 ∧
      s'.dev.get R.REFSEL_STATUS_STATE = selLocked ∧ s.Keeps s' t [R.REFSEL_STATUS.off 0 0] []) ∧
  (∀ (t : Nat) (s : State),
    (∃ s', exec (.ocxoLost t) s = .next s' ∧ s'.dev.ref.ocxo = false ∧ s'.dev.get R.REFSEL_STATUS_MON_BASIS = 0 ∧
      s'.dev.get R.REFSEL_STATUS_HOLDOVER_READY = 0 ∧
      (∀ r, r < 12 → s'.dev.get R.REF_STATUS_WTR_RUNNING r = 0 ∧ (s'.dev.refMon r).gates = (s.dev.refMon r).gates ∧
        s'.dev.get R.REF_STATUS_QUALIFIED r = s.dev.get R.REF_STATUS_QUALIFIED r) ∧
      s.Keeps s' t (R.REFSEL_STATUS.off 0 0 :: (List.range 12).map fun r => R.REF_STATUS.off r 0) [.ref]) ∧
    (∃ s', exec (.ocxoReturn t) s = .next s' ∧ s'.dev.ref.ocxo = true ∧ s'.dev.get R.REFSEL_STATUS_MON_BASIS = 1 ∧
      (∀ r, r < 12 → (s'.dev.refMon r).gates = [] ∧ s'.dev.get R.REF_STATUS_WTR_RUNNING r = 0) ∧
      s.Keeps s' t (R.REFSEL_STATUS.off 0 0 :: (List.range 12).map fun r => R.REF_STATUS.off r 0) [.ref]))) ∧
  ((∀ (t : Nat) (v : Word) (s : State), s.dev.Reaches 0x380004 → s.dev.Alone →
    let n := v.toNat
    ∃ s', exec (.refselApply t v) s = .next s' ∧ s'.dev.reg R.REFSEL_CTRL = n &&& 0x4F0F3FFF ∧
      (if bit n 31 = false then s'.dev.ref = s.dev.ref
      else if bits n 27 24 < 12 ∧ bits n 19 16 < 12 ∧ bits n 13 0 ≤ 9999 then
        s'.dev.ref.forceEn = bit n 30 ∧ s'.dev.ref.forceRef = bits n 27 24 ∧ s'.dev.ref.loopBw = bits n 19 16 ∧
          s'.dev.ref.pullSlope = bits n 13 0 ∧ s'.dev.ref.refs = s.dev.ref.refs ∧ s'.dev.FollowsChoice
      else s'.dev.get R.REFSEL_STATUS_BAD_CONFIG = 1 ∧ s'.dev.ref = s.dev.ref) ∧
      s.Keeps s' t ([R.REFSEL_CTRL.off 0 0, R.REFSEL_STATUS.off 0 0, R.REFSEL_FREQ.off 0 0] ++ recOffs)
        [.ref, .recd, .pair]) ∧
  (∀ (t r : Nat) (v : Word) (s : State), r < 12 → s.dev.Reaches (R.REF_CFG.off r 0) → s.dev.Alone →
    s.dev.ref.forceRef < 12 →
    let n := v.toNat
    let acc := s.dev.get R.REF_LIMITS_ACCEPT_PPB r
    let rej := s.dev.get R.REF_LIMITS_REJECT_PPB r
    ∃ s', exec (.refCfgApply t r v) s = .next s' ∧ s'.dev.reg R.REF_CFG r = n &&& 0x6FFFFFFF ∧
      (if bit n 31 = false then s'.dev.ref = s.dev.ref
      else if bits n 23 16 ≠ 0 ∧ (bit n 29 = false ∨ r = 0) ∧ acc ≠ 0 ∧ acc < rej then
        (s'.dev.refMon r).lockout = bit n 30 ∧ (s'.dev.refMon r).priority = bits n 27 24 ∧
          (s'.dev.refMon r).wtr = bits n 23 16 ∧ (s'.dev.refMon r).accept = acc ∧ (s'.dev.refMon r).reject = rej ∧
          (bits n 27 24 = 0 → s'.dev.get R.REF_STATUS_QUALIFIED r = 0) ∧ s'.dev.FollowsChoice
      else s'.dev.get R.REF_STATUS_BAD_CONFIG r = 1 ∧ s'.dev.ref = s.dev.ref) ∧
      s.Keeps s' t (R.REF_CFG.off r 0 :: refOffs r ++ recOffs) [.ref, .recd, .pair]))

/-- R108, R109, R110, R126: RATE, FEC and MAX_FRAME take a write only on a disabled port, and a write out of range does
nothing; an enabled port has its link up and down; a flow entry comes into force with APPLY and VALID, and goes with APPLY
and VALID 0. R113, R114, R116, R119, R122, R123: the hold's end closes the first open frame: a compressed one without a
gap is delivered with its postmark to the decode queue, one with a gap is discarded with everything open and the context
resynchronises. The assembly timeout discards a partial frame. A leg without a packet for 100 ms is inactive. Model's
choices in it, not rules: log 32, 37. -/
def Obligations.IngestPortsAndTimers : Prop :=
  ((∀ (t p : Nat) (v : Word) (s : State), p < 4 → s.dev.Reaches 0x400000 →
    let w := v.toNat
    ∃ s', exec (.ethCtrlWrite t p v) s = .next s' ∧
      (if bit w 29 = true ∧ bit w 30 = false ∨ bits w 13 0 < 1518 ∨ 9216 < bits w 13 0 then
        s'.dev.reg R.ETH_CTRL p = s.dev.reg R.ETH_CTRL p
      else s'.dev.get R.ETH_CTRL_ENABLE p = b2n (bit w 31) ∧
        (s.dev.get R.ETH_CTRL_ENABLE p = 0 → s'.dev.reg R.ETH_CTRL p = w &&& 0xE0003FFF) ∧
        (s.dev.get R.ETH_CTRL_ENABLE p = 1 → s'.dev.get R.ETH_CTRL_RATE p = s.dev.get R.ETH_CTRL_RATE p ∧
          s'.dev.get R.ETH_CTRL_FEC p = s.dev.get R.ETH_CTRL_FEC p ∧
          s'.dev.get R.ETH_CTRL_MAX_FRAME p = s.dev.get R.ETH_CTRL_MAX_FRAME p) ∧
        (bit w 31 = false → s'.dev.get R.ETH_STATUS_LINK p = 0) ∧ s'.dev.reg R.INGEST_BUDGET = s'.dev.ingestBudget) ∧
      s.Keeps s' t [R.ETH_CTRL.off p 0, R.ETH_STATUS.off p 0, R.INGEST_LOAD.off 0 0, R.INGEST_BUDGET.off 0 0] []) ∧
  (∀ (t p : Nat) (s : State), p < 4 → s.dev.get R.ETH_CTRL_ENABLE p = 1 → s.dev.get R.ETH_STATUS_LINK p = 1 →
    ∃ s', exec (.ethLinkLost t p) s = .next s' ∧ s'.dev.get R.ETH_STATUS_LINK p = 0 ∧
      s'.dev.get R.ETH_STATUS_FEC_ACTIVE p = 0 ∧ s'.dev.get R.ETH_STATUS_LINK_LOST p = 1 ∧
      s.Keeps s' t (R.ETH_STATUS.off p 0 :: recOffs) [.recd]) ∧
  (∀ (t p : Nat) (s : State), p < 4 → s.dev.get R.ETH_CTRL_ENABLE p = 1 → s.dev.clockAt 1 p = true →
    ∃ s', exec (.ethLinkUp t p) s = .next s' ∧ s'.dev.get R.ETH_STATUS_LINK p = 1 ∧
      s'.dev.get R.ETH_STATUS_FEC_ACTIVE p = b2n (s.dev.on R.ETH_CTRL_FEC p && s.dev.on R.ETH_CTRL_RATE p) ∧
      s.Keeps s' t [R.ETH_STATUS.off p 0] []) ∧
  (∀ (t i : Nat) (v : Word) (s : State), i < 1024 → s.dev.Reaches (R.FLOW_CTRL.off i 0) → s.dev.Alone →
    let w := v.toNat
    ∃ s', exec (.flowApply t i v) s = .next s' ∧ s'.dev.reg R.FLOW_CTRL i = w &&& 0x7FF800FF ∧
      (if bit w 31 = true ∧ bits w 20 19 ≠ 3 then
        tabGet? s'.dev.net.flows i = (if bit w 30 then some ⟨BitVec.ofNat 32 (w &&& 0x7FF800FF),
          BitVec.ofNat 32 (s.dev.reg R.FLOW_PORT i), BitVec.ofNat 32 (s.dev.reg R.FLOW_SSRC i),
          s.dev.flowAddr R.FLOW_DST i (bit w 29), s.dev.flowAddr R.FLOW_SRC i (bit w 29)⟩ else none) ∧
        (∀ j, j ≠ i → tabGet? s'.dev.net.flows j = tabGet? s.dev.net.flows j) ∧
        s'.dev.net = { s.dev.net with flows := s'.dev.net.flows }
      else s'.dev.net = s.dev.net) ∧ s.Keeps s' t [R.FLOW_CTRL.off i 0] [.net, .pair])) ∧
  ((∀ (t c ts mk w : Nat) (f : OpenFrame) (rest : List OpenFrame) (s : State), c < 256 → s.dev.ctxType c < 2 →
    s.dev.inState c = inRunning → (s.dev.ctx c).frames = f :: rest → f.ts = ts → f.closed = false → f.slot = none →
    f.marker = some (mk, w) → w + s.dev.holdTime c ≤ (s.dev.clock t).wt → (∀ g ∈ rest, g.ts ≠ ts ∧ g.closed = false) →
    f.gap (s.dev.ctx c).endSeq = false → (f.parts.filterMap (·.part)).findSome? (·.sei) = none →
    s.dev.dcState c = dcRunning → s.dev.dcService c ≠ svDegraded → (s.dev.dctx c).queue.length < 4 →
    let pm := s.dev.postmark c f none
    (∀ a b, pm.2 = some a → (s.dev.ctx c).lastCapt = some b → 0 < sdiff 48 a b) →
    let ps := f.parts.filterMap (·.part)
    ∃ s', exec (.frameHoldExpiry t c ts) s = .next s' ∧ (s'.dev.ctx c).frames = rest ∧
      (s'.dev.ctx c).delivered = (s.dev.ctx c).delivered + 1 ∧ s.dev.Counts s'.dev R.FRAMES_OK_COUNT c ∧
      s'.dev.inState c = inRunning ∧ s'.dev.reg R.CTX_PM_LO c = pm.1.word % 2 ^ 32 ∧
      s'.dev.live R.CTX_PM_HI c = pm.1.word / 2 ^ 32 % 2 ^ 32 ∧
      (s'.dev.dctx c).queue = (s.dev.dctx c).queue ++ [⟨pm.1, (s.dev.clock t).wt, f.stamp.wt, ps.findSome? (·.pic),
        ps.flatMap (·.carries), ps.flatMap (·.uses), false⟩] ∧
      s.KeepsBut s' t (fun off => 0x400000 ≤ off ∧ off < 0x614000) [.net, .dec, .latch]) ∧
  (∀ (t c ts w : Nat) (f : OpenFrame) (rest : List OpenFrame) (s : State), c < 256 → s.dev.ctxType c < 2 →
    s.dev.inState c = inRunning → (s.dev.ctx c).frames = f :: rest → f.ts = ts → f.closed = false → f.marker = none →
    f.laterAt = some w → w + s.dev.holdTime c ≤ (s.dev.clock t).wt →
    ∃ s', exec (.frameHoldExpiry t c ts) s = .next s' ∧ (s'.dev.ctx c).frames = [] ∧
      s.dev.Counts s'.dev R.DISCARD_GAP_COUNT c ∧ s'.dev.inState c = inResync ∧
      (s'.dev.ctx c).delivered = (s.dev.ctx c).delivered ∧
      s.Keeps s' t (R.CTX_STATUS.off c 0 :: R.DISCARD_GAP.off c 0 :: dctxOffs c ++ recOffs) [.net, .dec, .recd]) ∧
  (∀ (t c ts : Nat) (f : OpenFrame) (s : State), c < 256 → s.dev.inState c = inRunning → s.dev.frame? c ts = some f →
    f.closed = false → f.stamp.wt + ceilDiv (qS * (frameRate (s.dev.get R.CTX_CFG_RATE c)).2 *
      s.dev.get R.CTX_CFG_ASM_TIMEOUT c) (frameRate (s.dev.get R.CTX_CFG_RATE c)).1 ≤ (s.dev.clock t).wt →
    ∃ s', exec (.assemblyTimeout t c ts) s = .next s' ∧ (s'.dev.ctx c).frames = [] ∧
      s.dev.Counts s'.dev R.DISCARD_PARTIAL_COUNT c ∧ s'.dev.inState c = inResync ∧
      (s'.dev.ctx c).delivered = (s.dev.ctx c).delivered ∧
      s.Keeps s' t (R.CTX_STATUS.off c 0 :: R.DISCARD_PARTIAL.off c 0 :: dctxOffs c ++ recOffs) [.net, .dec, .recd]) ∧
  (∀ (t c leg : Nat) (s : State), c < 256 → leg < 2 →
    let act := if leg = 0 then R.CTX_STATUS_LEG0_ACTIVE else R.CTX_STATUS_LEG1_ACTIVE
    let other := if leg = 0 then R.CTX_STATUS_LEG1_ACTIVE else R.CTX_STATUS_LEG0_ACTIVE
    let last := if leg = 0 then (s.dev.ctx c).leg0 else (s.dev.ctx c).leg1
    s.dev.get act c = 1 → last + 100 * qMs ≤ (s.dev.clock t).wt →
    ∃ s', exec (.legInactive t c leg) s = .next s' ∧ s'.dev.get act c = 0 ∧ s'.dev.get other c = s.dev.get other c ∧
      (s'.dev.ctx c).frames = (s.dev.ctx c).frames ∧
      (s.dev.get R.CTX_STATUS_DUAL c = 1 → s.dev.get other c = 1 →
        (if leg = 0 then (s'.dev.ctx c).alarm0 else (s'.dev.ctx c).alarm1) = true) ∧
      s.Keeps s' t (R.CTX_STATUS.off c 0 :: recOffs) [.net, .recd]))

/-- R106, R107, R109: what becomes of a frame that an enabled port receives. A bad FCS or an oversize frame counts in RX_FCS
alone; a fragment, a frame for firmware and any other frame count where the table says; a datagram that no flow takes is
unused, one whose flow discards it is only hit. R111, R113, R118: a packet that its flow hands to an open context. A
duplicate counts in PKT_DUP and leaves every open frame's packets as they were; a packet that is new joins the frame of
its timestamp, which the first one opens. Model's choices in it, not rules: log 32, 37. -/
def Obligations.FramesAndPackets : Prop :=
  (∀ (t port size : Nat) (s : State), port < 4 → s.dev.get R.ETH_CTRL_ENABLE port = 1 →
    s.dev.get R.ETH_STATUS_LINK port = 1 → s.dev.clockAt 1 port = true →
  (∀ f, s.dev.get R.ETH_CTRL_MAX_FRAME port < size ∨ f = .badFcs →
    ∃ s', exec (.ethFrameReceived t port size f) s = .next s' ∧ s.dev.Counts s'.dev R.ETH_RX_FCS_COUNT port ∧
      s.Keeps s' t [R.ETH_RX_FCS.off port 0] []) ∧
  (size ≤ s.dev.get R.ETH_CTRL_MAX_FRAME port →
    (∃ s', exec (.ethFrameReceived t port size .fragment) s = .next s' ∧ s.dev.Counts s'.dev R.ETH_RX_OK_COUNT port ∧
      s.dev.Counts s'.dev R.ETH_RX_FRAG_COUNT port ∧ s.Keeps s' t [R.ETH_RX_OK.off port 0, R.ETH_RX_FRAG.off port 0] []) ∧
    (∃ s', exec (.ethFrameReceived t port size .other) s = .next s' ∧ s.dev.Counts s'.dev R.ETH_RX_OK_COUNT port ∧
      s.dev.Counts s'.dev R.ETH_RX_UNUSED_COUNT port ∧
      s.Keeps s' t [R.ETH_RX_OK.off port 0, R.ETH_RX_UNUSED.off port 0] []) ∧
    (∀ f, f = .firmware ∨ (∃ u, f = .udp u ∧ (u.dport = 319 ∨ u.dport = 320)) →
      ∃ s', exec (.ethFrameReceived t port size f) s = .next s' ∧ s.dev.Counts s'.dev R.ETH_RX_OK_COUNT port ∧
        s.dev.Counts s'.dev R.ETH_RX_TOFW_COUNT port ∧
        s'.dev.net = { s.dev.net with toFw := (port, f) :: s.dev.net.toFw } ∧
        s.Keeps s' t [R.ETH_RX_OK.off port 0, R.ETH_RX_TOFW.off port 0] [.net]) ∧
    (∀ u, u.dport ≠ 319 → u.dport ≠ 320 → (∀ e ∈ s.dev.net.flows, e.2.takes port u = false) →
      ∃ s', exec (.ethFrameReceived t port size (.udp u)) s = .next s' ∧ s.dev.Counts s'.dev R.ETH_RX_OK_COUNT port ∧
        s.dev.Counts s'.dev R.ETH_RX_UNUSED_COUNT port ∧
        s.Keeps s' t [R.ETH_RX_OK.off port 0, R.ETH_RX_UNUSED.off port 0] []) ∧
    (∀ u i e, u.dport ≠ 319 → u.dport ≠ 320 → s.dev.net.flows.find? (fun e => e.2.takes port u) = some (i, e) →
      i < 1024 → bits e.ctrl.toNat 20 19 = 2 →
      ∃ s', exec (.ethFrameReceived t port size (.udp u)) s = .next s' ∧ s.dev.Counts s'.dev R.ETH_RX_OK_COUNT port ∧
        s.dev.Wraps s'.dev R.FLOW_HITS_HITS i ∧ s.Keeps s' t [R.ETH_RX_OK.off port 0, R.FLOW_HITS.off i 0] []))) ∧
  (∀ (t port size i : Nat) (e : Flow) (u : UdpInfo) (p : RtpPacket) (a : AuPart) (s : State),
    port < 4 → s.dev.get R.ETH_CTRL_ENABLE port = 1 → s.dev.get R.ETH_STATUS_LINK port = 1 → s.dev.clockAt 1 port = true →
    size ≤ s.dev.get R.ETH_CTRL_MAX_FRAME port → u.dport ≠ 319 → u.dport ≠ 320 →
    s.dev.net.flows.find? (fun e => e.2.takes port u) = some (i, e) → i < 1024 → bits e.ctrl.toNat 20 19 = 0 →
    u.rtp = some p → p.payload = .au a → a.supported = true → p.version = 2 → b2n p.marker * 128 + p.pt < 200 →
    p.marker = false →
    let c := bits e.ctrl.toNat 7 0
    s.dev.inState c = inRunning → s.dev.ctxType c < 2 → s.dev.get R.CTX_STATUS_DUAL c = 0 →
    s.dev.get R.CTX_CFG_PT c = p.pt →
    let offs := R.ETH_RX_OK.off port 0 :: R.FLOW_HITS.off i 0 :: R.CTX_STATUS.off c 0 :: R.PKT_COUNTS.off c 0 :: recOffs
    (∀ f ∈ (s.dev.ctx c).frames, ∀ h ∈ f.pkts, h.seq = p.seq → 
      ∃ s', exec (.ethFrameReceived t port size (.udp u)) s = .next s' ∧ s.dev.Wraps s'.dev R.PKT_COUNTS_DUP c ∧
        (s'.dev.ctx c).frames.map (fun g => g.pkts.map (·.seq)) = (s.dev.ctx c).frames.map (fun g => g.pkts.map (·.seq)) ∧
        s.Keeps s' t offs [.net, .recd]) ∧
    ((∀ f ∈ (s.dev.ctx c).frames, ∀ h ∈ f.pkts, h.seq ≠ p.seq) → p.seq ∉ (s.dev.ctx c).seen →
      p.ts ∉ (s.dev.ctx c).ended → a.bytes ≤ 8388608 →
      (s.dev.ctx c).frames = [] → (s.dev.ctx c).noSlotTs = none →
      ∃ s', exec (.ethFrameReceived t port size (.udp u)) s = .next s' ∧
        (s'.dev.ctx c).frames = [⟨p.ts, (s.dev.clock t).stampState c, [⟨p.seq, 0, (s.dev.clock t).wt, false, some a⟩],
          none, none, false, a.bytes, none, false⟩] ∧
        s'.dev.get R.CTX_STATUS_OPEN_FRAMES c = 1 ∧ s'.dev.get R.CTX_STATUS_LEG0_ACTIVE c = 1 ∧
        s.Keeps s' t offs [.net, .recd]) ∧
    (∀ f rest, (s.dev.ctx c).frames = f :: rest → f.ts = p.ts → f.closed = false →
      (∀ f ∈ (s.dev.ctx c).frames, ∀ h ∈ f.pkts, h.seq ≠ p.seq) → p.seq ∉ (s.dev.ctx c).seen →
      p.ts ∉ (s.dev.ctx c).ended → f.bytes + a.bytes ≤ 8388608 → (∀ g ∈ rest, g.ts ≠ p.ts) →
      ∃ s', exec (.ethFrameReceived t port size (.udp u)) s = .next s' ∧
        (s'.dev.ctx c).frames = { f with
          pkts := f.pkts ++ [⟨p.seq, 0, (s.dev.clock t).wt, false, some a⟩], bytes := f.bytes + a.bytes } :: rest ∧
        s.Keeps s' t offs [.net, .recd]))

/-- R123, R125, R126, R127, R147: an admitted STREAM_OPEN puts the context into RESYNC with its settings and zeroed counters,
one that admission refuses leaves it REFUSED, one on a context that is not CLOSED is REJECTED; STREAM_CLOSE answers the
frames delivered and closes the context. MCAST_JOIN and MCAST_LEAVE enter and remove one membership on the named ports.
Model's choices in it, not rules: log 110, 114. -/
def Obligations.StreamCommands : Prop :=
  (∀ (t q seq : Nat) (c : Cmd) (s : State), s.dev.Running q seq 0x0400 c → s.dev.Alone →
    let k := c.p 0 1
    (s.dev.inState k ≠ inClosed → ∃ s', exec (.streamOpen t q seq) s = .next s' ∧
      s'.dev.answer q seq = some ⟨Status.rejected, 0x0401, 0, s.dev.moduleId, s.dev.inState k⟩ ∧
      s.Keeps s' t [] [.host, .pair]) ∧
    (s.dev.inState k = inClosed → s.dev.get R.ENC_STATUS_STATE k = 0 → openBadField c = none → c.p 5 1 ≠ 0 →
      c.p 2 1 ≠ 1 ∨ s.dev.img.tb1Domain ≠ 0xFF →
      ∃ s', exec (.streamOpen t q seq) s = .next s' ∧
        (if s.dev.admission c = 0 then
          s'.dev.answer q seq = some ⟨Status.success, 0, 0, s.dev.moduleId, inResync⟩ ∧ s'.dev.inState k = inResync ∧
          s'.dev.get R.CTX_CFG_TYPE k = c.p 1 1 ∧ s'.dev.get R.CTX_CFG_CLASS k = c.p 2 1 ∧
          s'.dev.reg R.CTX_ALLOW k = c.p 8 4 ∧ s'.dev.reg R.CTX_PEAK k = c.p 12 2 ∧
          s'.dev.ctxGuaranteed k = bit (c.p 3 1) 0 ∧ (∀ r ∈ ctxCounters, s'.dev.reg r k = 0) ∧
          s'.dev.ctx k = { Ctx.init with
            width := if c.p 1 1 = 2 then c.p 14 2 + 1 else 0, height := if c.p 1 1 = 2 then c.p 16 2 + 1 else 0 } ∧
          s'.dev.dcState k = dcWaitSync ∧ (s'.dev.dctx k).setup = (s.dev.dctx k).setup ∧
          s'.dev.reg R.INGEST_LOAD = s'.dev.ingestLoad % 2 ^ 32
        else s'.dev.answer q seq = some ⟨Status.refused, s.dev.admission c, 0, s.dev.moduleId, inRefused⟩ ∧
          s'.dev.inState k = inRefused ∧ s'.dev.dcState k = dcRefused ∧ s'.dev.net = s.dev.net ∧ s'.dev.dec = s.dev.dec) ∧
        s.Keeps s' t (streamOffs k ++ recOffs) [.net, .dec, .recd, .host, .pair])) ∧
  (∀ (t q seq : Nat) (c : Cmd) (s : State), s.dev.Running q seq 0x0401 c → s.dev.Alone → c.Tail 1 →
    s.dev.inState (c.p 0 1) ≠ inClosed →
    ∃ s', exec (.streamClose t q seq) s = .next s' ∧
      s'.dev.answer q seq = some ⟨Status.success, 0, 0, s.dev.moduleId, (s.dev.ctx (c.p 0 1)).delivered % 2 ^ 32⟩ ∧
      s'.dev.inState (c.p 0 1) = inClosed ∧ s'.dev.ctx (c.p 0 1) = Ctx.init ∧ s'.dev.dcState (c.p 0 1) = dcIdle ∧
      (s'.dev.dctx (c.p 0 1)).setup = (s.dev.dctx (c.p 0 1)).setup ∧
      (∀ e ∈ s'.dev.dec.engines, e.2.ctx = c.p 0 1 → e.2.dead = true) ∧
      s.Keeps s' t (streamOffs (c.p 0 1)) [.net, .dec, .host, .pair]) ∧
  (∀ (t q seq : Nat) (c : Cmd) (bs : List Byte) (s : State), s.dev.Running q seq 0x0402 c → s.dev.Alone → c.Tail 12 →
    mcastBad c = none → c.hostData = some (bs, []) →
    let m := memberOf c bs
    (∀ p, p < 4 → bit (c.p 0 1) p = true → m ∉ s.dev.members p → (s.dev.members p).length < 256) →
    ∃ s', exec (.mcastJoin t q seq) s = .next s' ∧
      (∀ p, s'.dev.members p = if p < 4 ∧ bit (c.p 0 1) p = true ∧ m ∉ s.dev.members p then s.dev.members p ++ [m]
        else s.dev.members p) ∧
      s'.dev.answer q seq = some ⟨Status.success, 0, 0, s.dev.moduleId,
        (s'.dev.members ((maskPorts (c.p 0 1)).headD 0)).length⟩ ∧
      s.Keeps s' t [] [.net, .host, .pair]) ∧
  (∀ (t q seq : Nat) (c : Cmd) (bs : List Byte) (s : State), s.dev.Running q seq 0x0403 c → s.dev.Alone → c.Tail 12 →
    mcastBad c = none → c.hostData = some (bs, []) →
    let m := memberOf c bs
    ∃ s', exec (.mcastLeave t q seq) s = .next s' ∧
      (∀ p, s'.dev.members p = if p < 4 ∧ bit (c.p 0 1) p = true then (s.dev.members p).filter (· != m)
        else s.dev.members p) ∧
      s'.dev.answer q seq = some ⟨Status.success, 0, 0, s.dev.moduleId,
        (s'.dev.members ((maskPorts (c.p 0 1)).headD 0)).length⟩ ∧
      s.Keeps s' t [] [.net, .host, .pair])

/-- R130, R136, R137: a free engine takes the first frame of the next context into the lowest FREE slot, or, where it cannot
decode it, names the cause and resets the context. R134, R144, R146, R147: a decoded picture takes OUT from every other
slot of the pool, its planes are in its slot, and the engine is free; the frame of a closed context is discarded. R135,
R138, R140, R142: a frame that has waited one interval for a slot resets its context. An engine that times out or shows a
parity error is out of service, the capacity shrinks with it, and GUARANTEED contexts are shed until their load fits.
Model's choices in it, not rules: log 32, 43, 44. -/
def Obligations.DecodeRuns : Prop :=
  (∀ (t e c i : Nat) (f : Queued) (rest : List Queued) (su : Setup) (s : State), e < 8 → c < 256 →
    s.dev.get R.DEC_ENG_STATUS_FAILED e = 0 → tabGet? s.dev.dec.engines e = none →
    (s.dev.clock t).nextDecode = some c → (s.dev.dctx c).queue = f :: rest → (s.dev.dctx c).setup = some su →
    (s.dev.dctx c).freeSlot = some i → (s.dev.dctx c).saved = false →
    let sets := ((s.dev.dctx c).sets ++ f.carries).eraseDups
    let cause := unsupCause (s.dev.ctxType c == 1) su { s.dev.dctx c with sets := sets } f
    ∃ s', exec (.decodeStart t e) s = .next s' ∧ s'.mem = s.mem ∧
      (if cause = 0 then tabGet? s'.dev.dec.engines e = some ⟨c, f, i, max s.dev.now t, false⟩ ∧
          (s'.dev.dctx c).queue = rest ∧ (s'.dev.dctx c).sets = sets ∧ ((s'.dev.dctx c).slot i).writing = true ∧
          s'.dev.get R.DEC_ENG_STATUS_BUSY e = 1 ∧ s'.dev.get R.DEC_ENG_STATUS_CONTEXT e = c
        else s'.dev.get R.DCTX_STATUS_UNSUP_CAUSE c = cause ∧ s'.dev.dcState c = dcWaitSync ∧
          (s'.dev.dctx c).queue = [] ∧ s.dev.Counts s'.dev R.RESETS_COUNT c ∧
          (s.dev.inState c = inRunning → s'.dev.inState c = inResync) ∧
          s'.dev.dec.engines = s.dev.dec.engines) ∧
      s.Keeps s' t (R.DEC_ENG_STATUS.off e 0 :: resetOffs c) [.dec, .net, .recd, .err, .host]) ∧
  (∀ (t e : Nat) (r : DecodeResult) (g : Engine) (su : Setup) (p : PicInfo) (s : State), e < 8 → g.ctx < 256 →
    tabGet? s.dev.dec.engines e = some g → (s.dev.dctx g.ctx).setup = some su → g.frame.pic = some p → g.slot < su.slots →
    ∃ s', exec (.decodeComplete t e r) s = .next s' ∧ tabGet? s'.dev.dec.engines e = none ∧
      s'.dev.get R.DEC_ENG_STATUS_BUSY e = 0 ∧ s.dev.Wraps s'.dev R.DEC_ENG_STATUS_FRAMES e ∧
      (if g.dead then s'.mem = s.mem ∧ ((s'.dev.dctx g.ctx).slot g.slot).writing = false ∧
          (∀ j, j ≠ g.slot → (s'.dev.dctx g.ctx).slot j = (s.dev.dctx g.ctx).slot j)
        else ((s'.dev.dctx g.ctx).slot g.slot).out = true ∧ ((s'.dev.dctx g.ctx).slot g.slot).writing = false ∧
          ((s'.dev.dctx g.ctx).slot g.slot).width = p.cropW ∧ ((s'.dev.dctx g.ctx).slot g.slot).height = p.cropH ∧
          ((s'.dev.dctx g.ctx).slot g.slot).done = (s.dev.clock t).wt ∧
          (∀ j, j ≠ g.slot → ((s'.dev.dctx g.ctx).slot j).out = false) ∧
          s.dev.Counts s'.dev R.FRAMES_DECODED_COUNT g.ctx ∧
          s'.mem.bytes = (dramWrite s.dev s.mem (su.slotAddr g.slot) r.planes).bytes) ∧
      s.KeepsBut s' t (fun off => 0x600000 ≤ off ∨ off ∈ containedOffs) [.mem, .dec, .recd, .err, .host, .sys, .lay, .comp]) ∧
  ((∀ (t c : Nat) (f : Queued) (rest : List Queued) (s : State), c < 256 → (s.dev.dctx c).queue = f :: rest →
    (s.dev.dctx c).freeSlot = none → s.dev.holdOnly (.ctx c) = none → s.dev.engineOf c = none →
    f.arrived + s.dev.ctxInterval c ≤ (s.dev.clock t).wt →
    ∃ s', exec (.decodeNoSlotTimeout t c) s = .next s' ∧ s.dev.Wraps s'.dev R.DEC_COUNTS_NO_SLOT c ∧
      s.dev.Counts s'.dev R.RESETS_COUNT c ∧ (s'.dev.dctx c).queue = [] ∧ s'.dev.dcState c = dcWaitSync ∧
      (∀ j, ((s'.dev.dctx c).slot j).isRef = false) ∧ (s.dev.inState c = inRunning → s'.dev.inState c = inResync) ∧
      s.Keeps s' t (R.DEC_COUNTS.off c 0 :: resetOffs c) [.dec, .net, .recd, .err, .host]) ∧
  (∀ (t e : Nat) (s : State), e < 8 → s.dev.get R.DEC_ENG_STATUS_FAILED e = 0 →
    (∀ g, tabGet? s.dev.dec.engines e = some g → g.ctx < 256) →
    let gone : State → Prop := fun s' => s'.dev.get R.DEC_ENG_STATUS_FAILED e = 1 ∧
      tabGet? s'.dev.dec.engines e = none ∧ s'.dev.reg R.DEC_CAPACITY = 400000 * s'.dev.engines ∧
      s'.dev.engines < s.dev.engines ∧ s'.dev.decGload ≤ s'.dev.decCapacity ∧
      s.KeepsBut s' t (fun off => 0x420000 ≤ off ∨ off ∈ degradedOffs ++ containedOffs) [.dec, .net, .recd, .err, .host]
    (∃ s', exec (.decodeEngineParity t e) s = .next s' ∧ gone s') ∧
    (∀ g, tabGet? s.dev.dec.engines e = some g → g.start + 100 * qMs ≤ max s.dev.now t →
      ∃ s', exec (.decodeEngineTimeout t e) s = .next s' ∧ gone s')))

/-- R141: the end of a 100 ms window. No GUARANTEED context's state or service moves; a best-effort context that waited is
DELAYED, and DEGRADED after three windows; under pressure the last of the shed order is shed; ten quiet windows restore
the latest shed. R131, R133, R148: DECODE_SETUP of a closed context takes its pool, unless a field is out of range or the
pool is taken; DECODE_RESET resets an open context and answers its state. Model's choices in it, not rules: log 42, 114. -/
def Obligations.DecodeControl : Prop :=
  (∀ (t : Nat) (s : State),
  (∃ s', exec (.decodeWindowEnd t) s = .next s' ∧ s'.dev.dec.winAt = max s.dev.now t ∧ s'.dev.dec.busy = 0 ∧
    (∀ c, c < 256 → s.dev.ctxGuaranteed c = true → s.dev.dcState c ≠ dcShed →
      s'.dev.dcState c = s.dev.dcState c ∧ s'.dev.dcService c = s.dev.dcService c) ∧
    (s.dev.dec.since < 2 → s.dev.dec.quiet < 9 → ∀ c, c < 256 → s.dev.bestEffort c = true →
      let x := s.dev.dctx c
      let waited := x.waited || (match x.queue with
        | f :: _ => decide (f.arrived + s.dev.ctxInterval c < (s.dev.clock t).wt)
        | [] => false)
      s'.dev.dcState c = s.dev.dcState c ∧
      (waited = true → s.dev.dcService c = svServed → s'.dev.dcService c = svDelayed) ∧
      (waited = true → s.dev.dcService c = svDelayed → 2 ≤ x.delayRun → s'.dev.dcService c = svDegraded) ∧
      (waited = false → s.dev.dcService c = svDelayed ∨ s.dev.dcService c = svDegraded →
        s'.dev.dcService c = if 9 ≤ x.quietRun then svServed else s.dev.dcService c)) ∧
    s.KeepsBut s' t (fun off => 0x420000 ≤ off ∨ off ∈ containedOffs) [.dec, .net, .recd, .err, .host]) ∧
  (∀ c, c < 256 → (∀ k, k < 256 → (s.dev.bestEffort k = true ↔ k = c)) → s.dev.dcService c = svDegraded →
    (s.dev.dctx c).waited = true → 2 ≤ (s.dev.dctx c).degradedRun → 2 ≤ s.dev.dec.since →
    ∃ s', exec (.decodeWindowEnd t) s = .next s' ∧ s'.dev.dcState c = dcShed ∧
      s'.dev.get R.DCTX_STATUS_REASON c = 0x0606 ∧ (s'.dev.dctx c).queue = [] ∧
      s'.dev.dec.shedStack = c :: s.dev.dec.shedStack) ∧
  (∀ c rest, c < 256 → (∀ k, k < 256 → s.dev.bestEffort k = false) → s.dev.dec.engines = [] → s.dev.dec.busy = 0 →
    s.dev.dec.shedStack = c :: rest → s.dev.dcState c = dcShed → 9 ≤ s.dev.dec.quiet →
    ∃ s', exec (.decodeWindowEnd t) s = .next s' ∧ s'.dev.dcState c = dcWaitSync ∧ s'.dev.dcService c = svServed ∧
      s'.dev.get R.DCTX_STATUS_REASON c = 0 ∧ s'.dev.dec.shedStack = rest)) ∧
  ((∀ (t q seq : Nat) (c : Cmd) (s : State), s.dev.Running q seq 0x0600 c → s.dev.Alone →
    let k := c.p 0 1
    let su := c.setup
    s.dev.inState k = inClosed → s.dev.get R.ENC_STATUS_STATE k = 0 →
    ∃ s', exec (.decodeSetup t q seq) s = .next s' ∧
      (match setupBadField c with
        | some i => s'.dev.answer q seq = some ⟨Status.rejected, 0x0601, 0, s.dev.moduleId, i % 2 ^ 64⟩ ∧
            s'.dev.dec = s.dev.dec
        | none => if s.dev.poolTaken k su then
              s'.dev.answer q seq = some ⟨Status.rejected, 0x0602, 0, s.dev.moduleId, 0⟩ ∧ s'.dev.dec = s.dev.dec
            else s'.dev.answer q seq = some ⟨Status.success, 0, 0, s.dev.moduleId, su.poolSize % 2 ^ 64⟩ ∧
              (s'.dev.dctx k).setup = some su ∧ (s'.dev.dctx k).slots = (s.dev.dctx k).slots ∧
              s'.dev.get R.DCTX_CFG_SLOTS k = su.slots ∧ s'.dev.reg R.DCTX_POOL_LO k = su.base % 2 ^ 32 ∧
              s'.dev.reg R.DCTX_FROZEN_RUN k = c.p 8 2) ∧
      s.Keeps s' t (dctxOffs k ++ [R.DCTX_CFG.off k 0, R.DCTX_SIZE.off k 0, R.DCTX_FROZEN_RUN.off k 0,
        R.DCTX_POOL_LO.off k 0, R.DCTX_POOL_HI.off k 0]) [.dec, .host, .pair]) ∧
  (∀ (t q seq : Nat) (c : Cmd) (s : State), s.dev.Running q seq 0x0601 c → s.dev.Alone → c.Tail 1 →
    s.dev.engineOf (c.p 0 1) = none →
    let k := c.p 0 1
    ∃ s', exec (.decodeReset t q seq) s = .next s' ∧
      (if s.dev.dcState k = dcWaitSync ∨ s.dev.dcState k = dcRunning then
        s'.dev.answer q seq = some ⟨Status.success, 0, 0, s.dev.moduleId, dcWaitSync⟩ ∧ s'.dev.dcState k = dcWaitSync ∧
          (s'.dev.dctx k).queue = [] ∧ (∀ j, ((s'.dev.dctx k).slot j).isRef = false) ∧
          s.dev.Counts s'.dev R.RESETS_COUNT k
      else s'.dev.answer q seq = some ⟨Status.success, 0, 0, s.dev.moduleId, s.dev.dcState k⟩ ∧ s'.dev.dec = s.dev.dec) ∧
      s.Keeps s' t (resetOffs k) [.dec, .net, .recd, .err, .host, .pair]))

/-- R153, R154, R155, R158: COMMIT takes its place in the order of acceptance. A commit whose turn has come writes its update
entries into the shadows and is VALIDATING with the verdict on its snapshot. When validation ends, a failure completes the
command and a good commit is READY for the first frame whose group boundary lies 100 µs ahead. R161, R395: once no line to
come reads a removed range, its entry in the lease guard is free and its release record is written, unless the completion
of its commit is not yet written. Model's choices in it, not rules: log 48, 49, 53, 54. -/
def Obligations.CommitsAndLeases : Prop :=
  ((∀ (t q seq : Nat) (c : Cmd) (s : State), s.dev.Running q seq 0x0800 c → s.dev.Alone → c.Tail 12 → c.p 0 1 < 6 →
    c.p 1 1 < 2 → c.p 2 2 ≤ 1024 → s.dev.commit? q seq = none →
    let new := Commit.start q seq c.order [c.p 0 1] (bit (c.p 1 1) 0) none []
    ∃ s', exec (.commit t q seq) s = .next s' ∧ s'.dev.commit? q seq = some new ∧
      s'.dev.commits = insertCommit new s.dev.commits ∧ s.Keeps s' t pendOffs [.lay]) ∧
  (∀ (t q seq : Nat) (k : Cmd) (c : Commit) (es : List (List Byte)) (s : State), s.dev.Running q seq 0x0800 k →
    s.dev.Alone → s.dev.Validates → s.dev.commit? q seq = some c → c.canvas = none → c.st = .queued →
    s.dev.orderBlocked c = false → k.acqEn = false ∨ s.dev.fenceReached k.acqFence k.acqValue = true →
    ((s.dev.queue q).cmds.find? fun x => !x.running).map (·.seq) = some seq → k.Updates es →
    ∃ s' v sn, exec (.commitValidate t q seq) s = .next s' ∧
      s'.dev.commit? q seq = some { c with st := .validating, verdict := some v, snap := sn, entries := es } ∧
      (match badEntry s.dev es with
        | some l => v = rej rUpdateScope l ∧ s'.dev.regs = s.dev.regs
        | none =>
          let e := (s.dev.clock t).writeEntries es
          match validate e (e.snapshot c.groups (es.map fun x => leAt x 2 2)) with
          | .inl w => v = w
          | .inr x => v.status = Status.success ∧ sn = x) ∧
      (badEntry s.dev es = none → c.check = false → ∀ x, es.getLast? = some x →
        s'.dev.shadowLd (leAt x 2 2) = (List.range 24).map fun j => leAt x (32 + 4 * j) 4) ∧
      s.KeepsBut s' t (fun off => 0x800000 ≤ off ∧ off < 0x900000) [.lay, .pair]) ∧
  (∀ (t q seq : Nat) (k : Cmd) (c : Commit) (v : Verdict) (s : State), s.dev.Running q seq 0x0800 k → s.dev.Alone →
    s.dev.coreState 2 < 2 → s.dev.commit? q seq = some c → c.canvas = none → c.st = .validating → c.verdict = some v →
    v.detail < 4096 → k.deadline = 0 →
    let n := s.dev.groupNext (c.groups.headD 0) ((s.dev.clock t).wt + 100 * qUs)
    ∃ s', exec (.commitValidationDone t q seq) s = .next s' ∧
      (if c.check then s'.dev.commit? q seq = none ∧ s'.dev.answer q seq = some ⟨v.status, v.reason, v.detail,
          s.dev.moduleId, (if v.status = Status.success then checkResult c.snap else v.result) % 2 ^ 64⟩
      else if v.status = Status.success then
        s'.dev.commit? q seq = some { c with st := .ready, target := some n, readyAt := max s.dev.now t } ∧
          s'.dev.answer q seq = none
      else s'.dev.commit? q seq = none ∧
        s'.dev.answer q seq = some ⟨v.status, v.reason, v.detail, s.dev.moduleId, v.result % 2 ^ 64⟩ ∧
        (v.status = Status.refused →
          s'.dev.reg R.LAYER_REFUSAL v.detail = (seq % 65536 * 65536 + v.reason) % 2 ^ 32)) ∧
      s.Keeps s' t (R.LAYER_REFUSAL.off v.detail 0 :: pendOffs ++ recOffs) [.lay, .host, .pair, .recd])) ∧
  (∀ (t e : Nat) (f : Freed) (x : LeaseEntry) (s : State), e < 2048 → s.dev.lay.freed.find? (fun f => f.entry == e) = some f →
    tabGet? s.dev.prot.leases e = some x →
    (∀ h ∈ s.dev.comp.heads, ∀ fr ∈ h.2.frames, fr.2.reads (x.base, x.base + x.pages * 4096) = false) →
    ∃ s', exec (.leaseEnd t e) s = .next s' ∧ tabGet? s'.dev.prot.leases e = none ∧
      (∀ j, j ≠ e → tabGet? s'.dev.prot.leases j = tabGet? s.dev.prot.leases j) ∧
      s'.dev.get R.LG_ENTRY_BASE_VALID e = 0 ∧ s'.dev.lay.freed = s.dev.lay.freed.filter (fun f => f.entry != e) ∧
      (f.q < 32 → s.dev.written f.q f.seq = false →
        ⟨f.q, f.seq, true, (s.dev.clock t).wt, e, x.base⟩ ∈ s'.dev.lay.held) ∧
      (s.dev.lay.held = [] → s.dev.written f.q f.seq = true → s'.dev.lay.held = []) ∧
      s.Keeps s' t (R.LG_ENTRY_BASE.off e 0 :: R.LG_ENTRY_SIZE.off e 0 :: R.LG_STATUS.off 0 0 :: eventOffs)
        [.prot, .lay, .host, .sys, .recd, .pair])

/-- R163, R164, R205, R209: the system manager. A canvas commit sends its PREPARE to every member module; a member's refusal
or silence drops it everywhere and rejects it; the last ACCEPT sends APPLY for a frame at least 2 ms and the largest lead
ahead; the last report, or the want of one, completes it. CANVAS_TRANSIT records TA. Model's choices in it, not rules: log
32, 55, 56, 113. -/
def Obligations.CanvasManager : Prop :=
  (∀ (t q seq : Nat) (c : Cmd) (bs : List Byte) (s : State), s.dev.Running q seq 0x0801 c → s.dev.Alone → c.Tail 14 →
    c.p 0 2 < 1024 → c.p 2 2 = 0 → c.p 4 2 ≤ 1024 → c.acqEn = false → c.hostData = some (bs, []) →
    let ms := s.dev.canvasModules (c.p 0 2)
    let es := if c.p 4 2 = 0 then [] else splitEntries (c.p 4 2) bs
    (s.dev.isManager = true → s.dev.lay.runs.any (fun r => r.canvas == c.p 0 2) = false → ms ≠ [] →
      ∃ s', exec (.canvasCommit t q seq) s = .next s' ∧
        s'.dev.lay = { s.dev.lay with
          runs := s.dev.lay.runs ++ [⟨c.p 0 2, q, seq, c.deadline, .preparing, ms, ms, 0, 0, 0, false⟩] } ∧
        (∀ m ∈ ms, (m, .canvasPrepare (c.p 0 2) s.dev.moduleId q seq (es.filter fun e => leAt e 0 2 == m)) ∈
          s'.dev.sys.out) ∧ s.Keeps s' t [] [.lay, .sys]) ∧
    (s.dev.isManager = false → s.dev.routed (s.dev.get R.PAENT_MGR_MANAGER) = true →
      ∃ s', exec (.canvasCommit t q seq) s = .next s' ∧ s'.dev.host.forwards = (q, c) :: s.dev.host.forwards ∧
        s.Keeps s' t [] [.host])) ∧
  (∀ (t q seq module lead : Nat) (o : FwdOutcome) (c : Cmd) (r : CanvasRun) (s : State), s.dev.Running q seq 0x0801 c →
    s.dev.Alone → s.dev.run? q seq = some r → r.stage = .preparing → module ∈ r.awaited →
    let left := r.awaited.filter (· != module)
    let n := (s.dev.canvasRow r.canvas).nextFrame (max r.lead lead) ((s.dev.clock t).wt + 2 * qMs)
    (o.status ≠ Status.success → ∃ s', exec (.canvasAccept t q seq module lead o) s = .next s' ∧
      s'.dev.run? q seq = none ∧ s'.dev.answer q seq = some ⟨o.status, o.reason, o.detail, s.dev.moduleId,
        (module + o.result / 65536 % 65536 * 65536) % 2 ^ 64⟩ ∧
      (∀ m ∈ r.members, (m, .canvasDrop q seq) ∈ s'.dev.sys.out) ∧ s.Keeps s' t [] [.lay, .sys, .host, .pair]) ∧
    (o.status = Status.success → left ≠ [] → ∃ s', exec (.canvasAccept t q seq module lead o) s = .next s' ∧
      s'.dev.run? q seq = some { r with awaited := left, lead := max r.lead lead } ∧ s.Keeps s' t [] [.lay]) ∧
    (o.status = Status.success → left = [] → r.deadline = 0 →
      ∃ s', exec (.canvasAccept t q seq module lead o) s = .next s' ∧ s'.dev.run? q seq = some { r with
          stage := .applying, awaited := r.members, lead := max r.lead lead, n := n } ∧
        (∀ m ∈ r.members, (m, .canvasApply q seq n (tabGetD s.dev.lay.transit 0 r.canvas)) ∈ s'.dev.sys.out) ∧
        s.Keeps s' t [] [.lay, .sys]) ∧
    (∃ s', exec (.canvasMemberTimeout t q seq module) s = .next s' ∧ s'.dev.run? q seq = none ∧
      s'.dev.answer q seq = some ⟨Status.rejected, 0x0818, 0, s.dev.moduleId, module % 2 ^ 64⟩ ∧
      (∀ m ∈ r.members, (m, .canvasDrop q seq) ∈ s'.dev.sys.out) ∧ s.Keeps s' t [] [.lay, .sys, .host, .pair])) ∧
  (∀ (t q seq module layers : Nat) (late : Bool) (c : Cmd) (r : CanvasRun) (s : State), s.dev.Running q seq 0x0801 c →
    s.dev.Alone → s.dev.run? q seq = some r → r.stage = .applying → module ∈ r.awaited →
    let left := r.awaited.filter (· != module)
    (∃ s', exec (.canvasAppliedReport t q seq module layers late) s = .next s' ∧
      (if left ≠ [] then s'.dev.run? q seq = some { r with
          awaited := left, layers := r.layers + layers, late := r.late || late }
      else s'.dev.run? q seq = none ∧ s'.dev.answer q seq = some ⟨Status.success,
          if r.late || late then 0x0819 else 0, 0, s.dev.moduleId,
          (r.n % 2 ^ 32 + (r.layers + layers) % 65536 * 2 ^ 32) % 2 ^ 64⟩) ∧
      s.Keeps s' t eventOffs [.lay, .sys, .host, .pair, .recd]) ∧
    (∃ s', exec (.canvasReportTimeout t q seq module) s = .next s' ∧ s'.dev.run? q seq = none ∧
      s'.dev.answer q seq = some ⟨Status.success, 0x081A, 0, s.dev.moduleId, module % 2 ^ 64⟩ ∧
      s.Keeps s' t eventOffs [.lay, .sys, .host, .pair, .recd])) ∧
  (∀ (t q seq : Nat) (c : Cmd) (s : State), s.dev.Running q seq 0x0900 c → s.dev.Alone → c.Tail 8 → c.p 0 2 < 1024 →
    c.p 2 2 = 0 → c.p 4 4 ≤ 1000000 → s.dev.isManager = true → s.dev.canvasModules (c.p 0 2) ≠ [] →
    ∃ s', exec (.canvasTransit t q seq) s = .next s' ∧
      (∀ cv, tabGetD s'.dev.lay.transit 0 cv = if cv = c.p 0 2 then c.p 4 4 else tabGetD s.dev.lay.transit 0 cv) ∧
      s'.dev.answer q seq = some ⟨Status.success, 0, 0, s.dev.moduleId, c.p 4 4⟩ ∧ s.Keeps s' t [] [.lay, .host, .pair])

/-- R151, R163, R164, R165, R316: a member. CANVAS_JOIN enters the named groups into the canvas and takes the others out. A
PREPARE without time lock is answered TIME_SKEW, and one that nothing holds back is validated and answered. APPLY fixes
the frame, a later one when it comes too late; DROP, or 1 s without APPLY, abandons the commit. Model's choices in it, not
rules: log 55, 113, 115. -/
def Obligations.CanvasMembers : Prop :=
  (∀ (t q seq : Nat) (others : List CanvasMember) (c : Cmd) (s : State), s.dev.Running q seq 0x0802 c → s.dev.Alone →
    c.Tail 3 → c.p 0 2 < 1024 → c.p 2 1 < 64 →
    let cv := c.p 0 2
    let joins := (List.range 6).filter (bit (c.p 2 1))
    let row := fun g => (s.dev.groupHeads g).head?.map s.dev.modeOf
    (s.dev.commits.any fun x => x.canvas == some cv) = false →
    (∀ g ∈ joins, s.dev.binding g ≠ none ∧ s.dev.groupHeads g ≠ [] ∧
      (s.dev.get R.GRP_CANVAS_MEMBER g = 1 → s.dev.get R.GRP_CANVAS_CANVAS g = cv)) →
    (∀ g ∈ joins, ∀ a b, row g = some a → ((others.head?.map fun e => modeRow e.mode) <|> (joins.head?.bind row)) = some b →
      a.sameRate b = true) →
    ∃ s', exec (.canvasJoin t q seq others) s = .next s' ∧
      (∀ g, g < 6 → s'.dev.reg R.GRP_CANVAS g = if g ∈ joins then 32768 + cv
        else if g ∈ s.dev.canvasGroups cv then 0 else s.dev.reg R.GRP_CANVAS g) ∧
      (∀ m, m ∈ tabGetD s'.dev.lay.dir [] cv ↔ m ∈ others ∨ ∃ g ∈ joins, m = ⟨s.dev.moduleId, g,
        ((s.dev.groupHeads g).head?.map fun h => s.dev.get R.HEAD_MODE_CUR_MODE h).getD 0⟩) ∧
      s'.dev.answer q seq = some ⟨Status.success, 0, 0, s.dev.moduleId, c.p 2 1⟩ ∧
      s.Keeps s' t ((List.range 6).flatMap fun g => [R.GRP_CANVAS.off g 0, R.GRP_TRANSIT.off g 0]) [.lay, .host, .pair]) ∧
  (∀ (t : Nat) (p : CanvasPrepare) (s : State), s.dev.canvasGroups p.canvas ≠ [] →
    let q := memberQueue s.dev p.origin p.queue
    let mgr := s.dev.get R.PAENT_MGR_MANAGER
    s.dev.commit? q p.seq = none →
    (s.dev.get R.PAENT_MGR_TIME_LOCK = 0 → ∃ s', exec (.canvasPrepare t p) s = .next s' ∧
      s'.dev.sys.out = (mgr, .canvasAnswer q p.seq Status.rejected 0x0B05 0 0 0) :: s.dev.sys.out ∧
      s.Keeps s' t [] [.sys]) ∧
    (s.dev.get R.PAENT_MGR_TIME_LOCK = 1 → s.dev.Alone → s.dev.Validates → s.dev.commits = [] →
      (∀ e ∈ s.dev.host.queues, ∀ x ∈ e.2.cmds, ∀ g, x.isCommitOf g = false) →
      ∃ (s' : State) (v : Verdict) (lead : Nat), exec (.canvasPrepare t p) s = .next s' ∧
        (mgr, .canvasAnswer q p.seq v.status v.reason v.result v.detail lead) ∈ s'.dev.sys.out ∧
        (if v.status = Status.success then (s'.dev.commit? q p.seq).map (·.st) = some .ready
          else s'.dev.commit? q p.seq = none) ∧
        s.KeepsBut s' t (fun off => 0x800000 ≤ off ∨ off ∈ recOffs) [.lay, .host, .pair, .recd, .sys])) ∧
  (∀ (t q seq n ta : Nat) (c : Commit) (s : State), s.dev.commit? q seq = some c → c.canvas.isSome = true → c.st = .ready →
    (c.target = none → 
      let late := c.groups.any fun g => s.dev.groupBoundary g n < (s.dev.clock t).wt
      ∃ s', exec (.canvasApply t q seq n ta) s = .next s' ∧ s'.dev.commit? q seq = some { c with
          target := some (if late then (c.groups.map fun g => s.dev.groupNext g (s.dev.clock t).wt).foldl max 0 else n)
          ta := some ta, late := late } ∧ s.Keeps s' t [] [.lay]) ∧
    (c.done = [] → ∃ s', exec (.canvasDrop t q seq) s = .next s' ∧ s'.dev.commit? q seq = none ∧
      s.Keeps s' t pendOffs [.lay]) ∧
    (c.target = none → ∃ s', exec (.canvasReadyTimeout t q seq) s = .next s' ∧ s'.dev.commit? q seq = none ∧
      s.Keeps s' t (pendOffs ++ recOffs) [.lay, .recd]))

/-- R155, R162, R190, R200: B(N) of a head begins frame N under the settings in force and hands line 0 to the compose engines;
a READY commit whose frame has come makes its layer current and completes with N and its layers. A fabric fault or profile
switch begins no frame. Model's choice in it, not a rule: log 64. -/
def Obligations.FrameBoundaries : Prop :=
  ∀ (t h n : Nat) (s : State), h < 32 → (s.dev.headEntry h).isSome = true → (s.dev.head h).grid = true →
    (s.dev.head h).n < n → (s.dev.head h).leadNext = none → s.dev.Alone →
  (s.dev.err.fabricRun = true → ∃ s', exec (.headFrameBoundary t h n) s = .next s' ∧ (s'.dev.head h).n = n ∧
    (s'.dev.head h).frames = (s.dev.head h).frames ∧ (s'.dev.head h).boundary.isSome = true ∧
    (s.dev.headState h = hsActive → s'.dev.headState h = hsModeChange) ∧
    s.KeepsBut s' t (fun off => 0x600000 ≤ off)
      [.latch, .comp, .lay, .recd, .host, .sys, .dec, .enc, .pair, .prot]) ∧
  (s.dev.err.fabricRun = false → s.dev.boot.switch = none → s.dev.headGroup h ∉ s.dev.lay.reshed →
    (∀ l ∈ s.dev.curLayers, ldHead (s.dev.curLd l) = h → (s.dev.layerSt l).shedNext = none) →
    (s.dev.head h).boundary = none → (s.dev.head h).resume = none → s.dev.headState h ≠ hsModeChange →
    s.dev.mayLower h = false →
    (s.dev.dueCommits h n = [] → ∃ s', exec (.headFrameBoundary t h n) s = .next s' ∧ (s'.dev.head h).n = n ∧
      (∃ f, (s'.dev.head h).frame? n = some f ∧ f.next = 1 ∧ f.mode = s.dev.get R.HEAD_MODE_CUR_MODE h ∧
        f.outFmt = s.dev.reg R.HEAD_OUT_FMT_CUR h ∧ f.lead = s.dev.get R.HEAD_CHASE_LEAD_CUR_LEAD h ∧
        (tabGet? f.open' 0).isSome = true ∧ f.sent = []) ∧
      (s'.dev.head h).stamp 0 = n % 32768 ∧ s'.dev.get R.HEAD_DISP_STATUS_LOWERED h = 0 ∧
      s.KeepsBut s' t (fun off => 0x600000 ≤ off)
      [.latch, .comp, .lay, .recd, .host, .sys, .dec, .enc, .pair, .prot]) ∧
    (∀ c k l w, s.dev.dueCommits h n = [c] → s.dev.Running c.q c.seq 0x0800 k → c.groups = [s.dev.headGroup h] →
      s.dev.groupHeads (s.dev.headGroup h) = [h] → c.canvas = none → c.snap.layers = [(l, w)] → c.snap.heads = [] →
      c.snap.tasters = [] → l < 4096 → w.length = 24 → (∀ x ∈ w, x < 2 ^ 32) → ldEnable w = true → ldHead w = h →
      ldSurface w = false → ldSurface (s.dev.curLd l) = false → tabGet? c.snap.scalers l = none →
      ∃ s', exec (.headFrameBoundary t h n) s = .next s' ∧ s'.dev.curLd l = w ∧
        s'.dev.get R.LAYER_STATUS_ACTIVE l = 1 ∧ s'.dev.reg R.LAYER_SEQ l = c.seq % 2 ^ 32 ∧
        s'.dev.commit? c.q c.seq = none ∧ s'.dev.answer c.q c.seq = some ⟨Status.success, 0, 0, s.dev.moduleId,
          (n % 2 ^ 32 + 2 ^ 32) % 2 ^ 64⟩ ∧ (s'.dev.head h).n = n ∧
        s.KeepsBut s' t (fun off => 0x600000 ≤ off)
      [.latch, .comp, .lay, .recd, .host, .sys, .dec, .enc, .pair, .prot]))

/-- R183, R187, R206, R207: HEAD_OUT_FMT takes a good value whole and ignores a bad one whole; a scaler with a parity error is
out of service and its layer is to be shed; a 1 ms window moves the supply code within its floor and top, up by 4 for a
lost line, by 1 for a low margin or a full queue, and never up from 103 °C on. R248, R251, R252, R253: the safety status
port. A read presents the bank's word where DRIVE is in force, a bank switch takes the whole status image, IMAGE_TICK
advances while RUNNING, and 1 ms without an advance clears IMAGE_CURRENT. Model's choice in it, not a rule: log 57. -/
def Obligations.ComposeSettingsAndSafetyPort : Prop :=
  ((∀ (t h : Nat) (v : Word) (s : State), h < 32 → s.dev.Reaches (R.HEAD_OUT_FMT.off h 0) → s.dev.Alone →
    let tf := bits v.toNat 28 26
    ∃ s', exec (.headOutFmtWrite t h v) s = .next s' ∧
      s'.dev.reg R.HEAD_OUT_FMT h = (if 1 ≤ tf ∧ tf ≤ 4 ∧ bits v.toNat 25 24 ≤ 1 then v.toNat &&& 0x9F000000
        else s.dev.reg R.HEAD_OUT_FMT h) ∧ s.Keeps s' t [R.HEAD_OUT_FMT.off h 0] [.pair]) ∧
  (∀ (t i : Nat) (s : State), i < 128 → s.dev.get R.SCALER_STATUS_FAILED i = 0 →
    ∃ s', exec (.scalerParityError t i) s = .next s' ∧ s'.dev.get R.SCALER_STATUS_FAILED i = 1 ∧
      s'.dev.get R.ERR_STATUS_DEGRADED = 1 ∧
      (s.dev.get R.SCALER_STATUS_IN_USE i = 1 →
        (s'.dev.layerSt (s.dev.get R.SCALER_STATUS_LAYER i)).shedNext = some rCapacityLost) ∧
      s.Keeps s' t (R.SCALER_STATUS.off i 0 :: degradedOffs) [.lay, .recd, .err, .host]) ∧
  (∀ (t : Nat) (hottest : Int) (s : State),
    let floor := if s.dev.guaranteedWork then 24 else 0
    let top := max floor (min 48 (s.dev.get R.GOV_LIMIT_CEIL))
    let code := s.dev.get R.GOV_STATUS_CODE
    let lost := s.dev.govHeads.any fun h => (s.dev.head h).winLate || (s.dev.head h).winReduced
    let low := s.dev.govHeads.any fun h => s.dev.winMargin h * 4 < s.dev.get R.HEAD_CHASE_LEAD_CUR_LEAD h
    ∃ s', exec (.governorWindow t hottest) s = .next s' ∧
      (s.dev.phase ≠ phaseRunning → s.Keeps s' t [] []) ∧
      (s.dev.phase = phaseRunning → floor ≤ s'.dev.get R.GOV_STATUS_CODE ∧ s'.dev.get R.GOV_STATUS_CODE ≤ top ∧
        s'.dev.get R.GOV_STATUS_FLOOR = floor ∧ s'.dev.get R.GOV_STATUS_THERMAL = b2n (103 ≤ hottest) ∧
        (hottest < 103 → floor ≤ code → code ≤ top → lost = true →
          s'.dev.get R.GOV_STATUS_CODE = min top (code + 4)) ∧
        (hottest < 103 → floor ≤ code → code ≤ top → lost = false → low = true ∨ s.dev.queueCondition = true →
          s'.dev.get R.GOV_STATUS_CODE = min top (code + 1)) ∧
        (103 ≤ hottest → floor ≤ code → s'.dev.get R.GOV_STATUS_CODE ≤ code) ∧
        (105 ≤ hottest → floor < code → code ≤ top → s'.dev.get R.GOV_STATUS_CODE = code - 1) ∧
        (∀ h ∈ s.dev.govHeads, (s'.dev.head h).winMargin = none ∧ (s'.dev.head h).winLate = false) ∧
        s.KeepsBut s' t (fun off => off ∈ [R.GOV_STATUS.off 0 0, R.GOV_SHEDS.off 0 0] ++ recOffs) [.comp, .lay, .recd]))) ∧
  ((∀ (t a : Nat) (s : State), ∃ s', exec (.sspRead t a) s = .next s' ∧ s.dev.Counts s'.dev R.SSP_READS_COUNT 0 ∧
    s'.dev.comp = { s.dev.comp with sspD :=
      (if s.dev.comp.drive then
        some (if s.dev.underTest 5 then sspPattern (a % 4096) else s.dev.sspBank (a % 4096)) else none) } ∧
    s.Keeps s' t [R.SSP_READS.off 0 0] [.comp]) ∧
  (∀ (t : Nat) (s : State), ∃ s', exec (.sspBankSwitch t) s = .next s' ∧
    (∀ a, a < 4096 → s'.dev.sspBank a = (s.dev.clock t).sspWord a) ∧
    s'.dev.comp.drive = s.dev.on R.SSP_CTRL_DRIVE ∧ s.Keeps s' t [] [.comp]) ∧
  (∀ (t : Nat) (s : State), ∃ s', exec (.imageTickAdvance t) s = .next s' ∧
    s'.dev.comp = (if s.dev.phase = phaseRunning then { s.dev.comp with
      tick := s.dev.comp.tick + 1, tickAt := (s.dev.clock t).wt, current := true } else s.dev.comp) ∧
    s.Keeps s' t [] [.comp]) ∧
  (∀ (t : Nat) (s : State), s.dev.comp.current = true → s.dev.comp.tickAt + qMs ≤ (s.dev.clock t).wt →
    ∃ s', exec (.imageTickTimeout t) s = .next s' ∧ s'.dev.comp = { s.dev.comp with current := false } ∧
      bit (s'.dev.get R.ALARM_CAUSE_CAUSE) 2 = true ∧ s'.dev.imageCurrent = false ∧
      s.Keeps s' t (R.ALARM_CAUSE.off 0 0 :: recOffs) [.comp, .recd]))

/-- R190, R193, R194, R195, R198: a line's stamp loses COMPLETE at its release and gets it with its composed words; the read
takes a line that is current and sends the fill for one that is not, with its counters and causes. A margin below
REDUCE_AT leaves out the best-effort layers of the line. R67, R162, R198, R216, R219: S(N, 0) of a head whose grid runs. N
is the frame shown, the frames before it end, a trained link starts its stream, and the first scan of a new profile
completes its PROFILE_SWITCH. Model's choices in it, not rules: log 59, 60, 64. -/
def Obligations.LinesAndFrames : Prop :=
  ((∀ (t h n line : Nat) (f : FrameSt) (s : State), h < 32 → (s.dev.head h).frame? n = some f → line = f.next →
    line < f.row.h → (∀ e ∈ f.todo, (visible e.2 f.row).yt ≠ line) →
    let reduced := decide ((s.dev.head h).margin f.row.h < reduceAt f.lead)
    ∃ s' g out, exec (.lineRelease t h n line) s = .next s' ∧ (s'.dev.head h).frame? n = some g ∧ g.next = line + 1 ∧
      tabGet? g.open' line = some out ∧ (reduced = false → out = []) ∧
      (∀ l ∈ out, ∃ x ∈ f.scene, x.layer = l ∧ ldGuaranteed x.words = false) ∧
      (s'.dev.head h).stamp line = n % 32768 ∧ (s'.dev.head h).store = (s.dev.head h).store ∧
      (reduced = true → s'.dev.get R.HEAD_CHASE_STATUS_REDUCED h = 1 ∧
        s.dev.Counts s'.dev R.HEAD_REDUCED_LINES_COUNT h) ∧
      s.Keeps s' t [R.HEAD_CHASE_STATUS.off h 0, R.HEAD_REDUCED_LINES.off h 0] [.comp]) ∧
  (∀ (t h n line : Nat) (f : FrameSt) (out : List Nat) (s : State), h < 32 → (s.dev.head h).frame? n = some f →
    tabGet? f.open' line = some out → s.mem.poison = [] → s.mem.ue = [] → s.dev.get R.MEM_STATUS_FAILED_CH = 0 →
    ∃ s' g, exec (.lineComposed t h n line) s = .next s' ∧ (s'.dev.head h).frame? n = some g ∧
      tabGet? g.open' line = none ∧ line ∈ g.done ∧ (s'.dev.head h).stamp line = 32768 + n % 32768 ∧
      tabGet? (s'.dev.head h).store line = some (headLine (s.dev.clock t) s.mem f n out line) ∧
      s.KeepsBut s' t (fun off => 0x610000 ≤ off) [.comp, .dec, .sys]) ∧
  (∀ (t h n line : Nat) (ecc : Bool) (f : FrameSt) (s : State), h < 32 → (s.dev.head h).frame? n = some f →
    line = f.sent.length → line < f.row.h → f.wb = none →
    let cur := !ecc && (s.dev.head h).current n line
    ∃ s' g, exec (.lineRead t h n line ecc) s = .next s' ∧ (s'.dev.head h).frame? n = some g ∧
      tabGet? g.sent line = some (if cur then tabGetD (s.dev.head h).store [] line else lateFill f.row.w n) ∧
      g.late = (if cur then f.late else f.late ++ [line]) ∧ line ∈ g.done ∧
      (s'.dev.head h).stamp line = (s.dev.head h).stamp line % 32768 ∧
      (cur = false → s.dev.Counts s'.dev R.HEAD_LATE_LINES_COUNT h ∧ s'.dev.get R.HEAD_CHASE_STATUS_LATE h = 1 ∧
        s'.dev.reg R.HEAD_LAST_LATE h = (n % 65536 * 65536 + line) % 2 ^ 32 ∧
        bit (s'.dev.get R.ALARM_CAUSE_CAUSE) 1 = true) ∧
      (ecc = true → s'.dev.get R.HEAD_CHASE_STATUS_ECC h = 1 ∧ s.dev.Counts s'.dev R.FS_UE_COUNT 0) ∧
      s.KeepsBut s' t (fun off => 0x610000 ≤ off) [.comp, .dec, .sys])) ∧
  (∀ (t h n : Nat) (s : State), h < 32 → s.dev.headGroup h < 6 → (s.dev.head h).grid = true →
    (s.dev.head h).shown < n ∨ ((s.dev.head h).frame? n).isSome = true → s.dev.Alone →
    ∃ s', exec (.headFrameStart t h n) s = .next s' ∧ (s'.dev.head h).shown = n ∧
      (∀ k, k < n → (s'.dev.head h).frame? k = none) ∧ s'.dev.reg R.GRP_FRAME (s.dev.headGroup h) = n % 2 ^ 32 ∧
      (((s.dev.head h).frame? n).isSome = true → (s.dev.head h).linkUp = true → s.dev.headState h = hsTraining →
        s'.dev.headState h = hsActive) ∧
      (∀ q seq slot k, ((s.dev.head h).frame? n).isSome = true → s.dev.boot.firstScan = some (q, seq, slot) →
        s.dev.Running q seq 0x0204 k → s'.dev.boot.firstScan = none ∧
        s'.dev.get R.PROF_STATUS_SWITCHING = 0 ∧ s'.dev.answer q seq = some ⟨Status.success, 0, 0, s.dev.moduleId,
          (slot + (s.dev.modeOf h).start n / 4 % 2 ^ 48 * 2 ^ 16) % 2 ^ 64⟩) ∧
      s.KeepsBut s' t (fun off => 0x600000 ≤ off ∨ off ∈ eventOffs ∨ off = R.PROF_STATUS.off 0 0)
        [.mem, .boot, .latch, .comp, .lay, .recd, .host, .sys, .dec, .enc, .pair])

/-- R243, R244, R246: a taster takes the signature of its region as sent; MISMATCH follows its mode, with PERSIST frames in a
row needed to set it and one good frame to clear it. A taster that has just been enabled is not judged. -/
def Obligations.TasterCompares : Prop :=
  ∀ (t k n : Nat) (f : FrameSt) (s : State), k < 1024 →
    let w := s.dev.tstCur k
    (s.dev.head (tsHead w)).frame? n = some f → tsEnable w = true → s.dev.headState (tsHead w) ≠ hsModeChange →
    (∀ j, j < tsF w 2 15 0 → (tabGet? f.sent (tsF w 1 15 0 + j)).isSome = true) →
    ((s.dev.taster k).fresh = true → ∃ s', exec (.tasterCompare t k n) s = .next s' ∧
      s'.dev.taster k = ⟨false, none⟩ ∧ s.Keeps s' t [] [.comp]) ∧
    ((s.dev.taster k).fresh = false →
      let sig := tasterSig w f
      let mode := tsF w 0 30 28
      let run := s.dev.get R.TST_STATUS_RUN k
      let bad := if mode = 1 then sig ≠ w.getD 3 0 else if mode = 2 then sig ≠ w.getD (3 + n % 8) 0
        else mode = 3 ∧ (s.dev.taster k).prev = some sig ∧ tsF w 3 15 0 ≤ run + 1
      ∃ s', exec (.tasterCompare t k n) s = .next s' ∧ (s'.dev.taster k).prev = some sig ∧
        s'.dev.reg R.TST_SIG k = sig % 2 ^ 32 ∧ s'.dev.reg R.TST_FRAME k = n % 2 ^ 32 ∧
        (¬bad → s'.dev.get R.TST_STATUS_MISMATCH k = 0) ∧
        (bad → mode = 3 ∨ tsF w 0 19 16 ≤ run → s'.dev.get R.TST_STATUS_MISMATCH k = 1 ∧
          (s.dev.get R.TST_STATUS_MISMATCH k = 0 → s'.dev.get R.TST_STATUS_EVER k = 1)) ∧
        (bad → mode ≠ 3 → run < tsF w 0 19 16 →
          s'.dev.get R.TST_STATUS_MISMATCH k = s.dev.get R.TST_STATUS_MISMATCH k ∧
            s'.dev.get R.TST_STATUS_RUN k = run + 1) ∧
        s.Keeps s' t ([R.TST_SIG.off k 0, R.TST_FRAME.off k 0, R.TST_STATUS.off k 0, R.ALARM_CAUSE.off 0 0] ++ recOffs)
          [.comp, .recd, .host])

/-- R213 to R217: plug-in reads the sink and starts training, unplug and a lost port clock bring the port's heads to NOSINK, a
lost link is trained again from its configuration, a configuration that passes is in force, and one that fails or takes
100 ms gives way to the next. A retry follows the wait after TRAIN_FAIL. Model's choices in it, not rules: log 32, 67, 68. -/
def Obligations.LinkTraining : Prop :=
  ∀ (t p : Nat) (s : State), p < 16 → s.dev.Alone →
    let x := s.dev.port p
    let up := ∃ h ∈ s.dev.portHeads p, s.dev.headState h ≠ 0
    let plugged := fun caps => s.dev.setPort p { x with caps := some caps }
    (∀ caps, ∃ s', exec (.hpdRise t p caps) s = .next s' ∧ s'.dev.get R.DP_STATUS_HPD p = 1 ∧
      (s'.dev.port p).caps = caps ∧
      (x.clockOut = false → up → match caps with
        | some c => (plugged c).Trains s'.dev p 0
        | none => ∀ h ∈ s'.dev.streamHeads p, s.dev.headState h ≠ 0 → s'.dev.headState h = hsNoSink ∧
            s'.dev.get R.HEAD_DISP_STATUS_CAUSE h = 5) ∧
      s.Keeps s' t (portOffs p) [.comp, .recd, .host, .pair]) ∧
    (∀ (lost : Bool) caps, x.clockOut = false → s.dev.on R.DP_STATUS_HPD p = true → x.trying = none →
      ∃ s', exec (.hpdIrq t p lost caps) s = .next s' ∧
      (match x.trained with
        | some k => if lost = true ∧ ∃ h ∈ s.dev.portHeads p, s.dev.headState h = hsActive then s.dev.Trains s'.dev p k
          else (s'.dev.port p).trained = some k
        | none => ∀ c, caps = some c → (∃ h ∈ s.dev.portHeads p, s.dev.headState h = hsNoSink) →
            (plugged c).Trains s'.dev p 0) ∧ s.Keeps s' t (portOffs p) [.comp, .recd, .host, .pair]) ∧
    (∃ s', exec (.hpdUnplug t p) s = .next s' ∧ s'.dev.get R.DP_STATUS_HPD p = 0 ∧
      s'.dev.get R.DP_STATUS_HPD_LOST p = 1 ∧ s'.dev.get R.DP_STATUS_LINK_UP p = 0 ∧ (s'.dev.port p).trained = none ∧
      (x.clockOut = false → ∀ h ∈ s.dev.portHeads p, s.dev.headState h ≠ 0 → (s.dev.head h).boundary = none →
        s'.dev.headState h = hsNoSink ∧ s'.dev.get R.HEAD_DISP_STATUS_CAUSE h = 1) ∧
      s.Keeps s' t (portOffs p) [.comp, .recd, .host, .pair]) ∧
    (∀ k at', x.trying = some (k, at') → k < 12 →
      (∃ s', exec (.trainingConfigDone t p true) s = .next s' ∧ (s'.dev.port p).trained = some k ∧
        (s'.dev.port p).trying = none ∧ (s'.dev.port p).fails = 0 ∧ s'.dev.get R.DP_STATUS_LINK_UP p = 1 ∧
        s'.dev.get R.DP_STATUS_RATE p = (linkConfig k).1 ∧ s'.dev.get R.DP_STATUS_LANES p = (linkConfig k).2 ∧
        (∀ h ∈ s.dev.streamHeads p, (s'.dev.head h).linkUp = true) ∧
        s.Keeps s' t (portOffs p) [.comp, .recd, .host, .pair]) ∧
      (∃ s', exec (.trainingConfigDone t p false) s = .next s' ∧ s.dev.Counts s'.dev R.DP_FAILS_COUNT p ∧
        s.dev.Tries s'.dev p (k + 1) ∧ s.Keeps s' t (portOffs p) [.comp, .recd, .host, .pair]) ∧
      (∃ s', exec (.trainingConfigTimeout t p) s = .next s' ∧
        (if at' + 100 * qMs ≤ max s.dev.now t then s.dev.Counts s'.dev R.DP_FAILS_COUNT p ∧ s.dev.Tries s'.dev p (k + 1)
          else s'.dev.port p = x) ∧ s.Keeps s' t (portOffs p) [.comp, .recd, .host, .pair])) ∧
    (∀ c, x.fails ≠ 0 → x.trying = none → x.clockOut = false → x.failAt + min 16 (2 ^ (x.fails - 1)) * qS ≤ max s.dev.now t →
      (∃ h ∈ s.dev.portHeads p, s.dev.headState h = hsNoSink ∧ s.dev.get R.HEAD_DISP_STATUS_CAUSE h = 2) →
      ∃ s', exec (.trainRetryTimer t p (some c)) s = .next s' ∧ (plugged c).Trains s'.dev p 0 ∧
        s.Keeps s' t (portOffs p) [.comp, .recd, .host, .pair]) ∧
    (x.clockOut = false → ∃ s', exec (.dpPortClockLost t p) s = .next s' ∧ (s'.dev.port p).clockOut = true ∧
      s'.dev.get R.DP_STATUS_LINK_UP p = 0 ∧ (∀ h ∈ s.dev.portHeads p, s.dev.headState h ≠ 0 →
        s'.dev.headState h = hsNoSink ∧ s'.dev.get R.HEAD_DISP_STATUS_CAUSE h = 6) ∧
      s.Keeps s' t (R.EDGE_CLK_STATUS.off 0 0 :: portOffs p) [.comp, .recd, .host, .pair, .err]) ∧
    (∀ caps, x.clockOut = true → ∃ s', exec (.dpPortClockReturn t p caps) s = .next s' ∧
      (s'.dev.port p).clockOut = false ∧
      (s.dev.on R.DP_STATUS_HPD p = true → up → ∀ c, caps = some c → (plugged c).Trains s'.dev p 0) ∧
      (s.dev.on R.DP_STATUS_HPD p = false → ∀ h ∈ s.dev.portHeads p, s.dev.headState h ≠ 0 →
        s'.dev.headState h = hsNoSink ∧ s'.dev.get R.HEAD_DISP_STATUS_CAUSE h = 1) ∧
      s.Keeps s' t (R.EDGE_CLK_STATUS.off 0 0 :: portOffs p) [.comp, .recd, .host, .pair, .err])

/-- R221, R229, R230: at a mode change's boundary the stream stops, its frames and stamps are gone, and a link that does not
carry the new mode is trained; a ready link has composition resume at the next boundary. DP_CTRL with APPLY sets the
limits and trains; DP_AUX answers as its sink does; DP_RETRAIN waits for the training to end. Model's choice in it, not a
rule: log 32. -/
def Obligations.ModesAndDisplayCommands : Prop :=
  (∀ (t h b : Nat) (s : State), h < 32 → (s.dev.headEntry h).isSome = true → s.dev.Alone →
    (s.dev.head h).boundary = some b → b ≤ (s.dev.clock t).wt → s.dev.headState h = hsModeChange →
    s.dev.err.fabricRun = false → s.dev.boot.switch = none →
    let p := s.dev.headPort h
    let e := s.dev.setHead h { s.dev.head h with boundary := none }
    ∃ s', exec (.modeChangeBoundary t h) s = .next s' ∧ (s'.dev.head h).boundary = none ∧
      (s'.dev.head h).frames = [] ∧ (s'.dev.head h).stamps = [] ∧ (s'.dev.head h).linkUp = false ∧
      (∀ k, (s.dev.port p).trained = some k → e.carries p k true = true → s'.dev.headState h = hsModeChange ∧
        (s'.dev.port p).trained = some k) ∧
      (∀ k, (s.dev.port p).trained = some k → e.carries p k true = false → e.Trains s'.dev p 0) ∧
      (s.dev.on R.DP_STATUS_HPD p = false → (s.dev.port p).trained = none → s'.dev.headState h = hsNoSink) ∧
      s.KeepsBut s' t (fun off => 0x600000 ≤ off) [.comp, .recd, .host, .pair, .lay]) ∧
  (∀ (t h : Nat) (s : State), s.dev.headState h = hsModeChange → (s.dev.head h).boundary = none →
    (s.dev.port (s.dev.headPort h)).trying = none → (s.dev.port (s.dev.headPort h)).trained ≠ none →
    s.dev.err.fabricRun = false → s.dev.boot.switch = none →
    ∃ s', exec (.modeChangeLinkReady t h) s = .next s' ∧ (s'.dev.head h).linkUp = true ∧
      (s'.dev.head h).resume = some ((s.dev.clock t).nextBoundary h) ∧ s.Keeps s' t [] [.comp]) ∧
  (∀ (t p : Nat) (v : Word) (caps : Option SinkCaps) (s : State), p < 16 → s.dev.Alone →
    s.dev.Reaches (R.DP_CTRL.off p 0) →
    let x := s.dev.port p
    ∃ s', exec (.dpCtrlApply t p v caps) s = .next s' ∧
      (if bit v.toNat 31 = true ∧ bits v.toNat 27 26 ≠ 3 then s'.dev.reg R.DP_CTRL p = v.toNat &&& 0x4F000000 ∧
          (s'.dev.port p).ctrl = v.toNat &&& 0x4F000000 ∧
          (∀ c, caps = some c → x.clockOut = false → s.dev.on R.DP_STATUS_HPD p = true →
            (∃ h ∈ s.dev.portHeads p, s.dev.headState h ≠ 0) →
            (s.dev.setPort p { x with caps := caps, ctrl := v.toNat &&& 0x4F000000 }).Trains s'.dev p 0)
        else s'.dev.reg R.DP_CTRL p = s.dev.reg R.DP_CTRL p ∧ s'.dev.port p = x) ∧
      s.Keeps s' t (portOffs p) [.comp, .recd, .host, .pair]) ∧
  (∀ (t q seq : Nat) (reply : AuxReply) (c : Cmd) (s : State), s.dev.Running q seq 0x0901 c → s.dev.Alone →
    c.Tail 16 → c.p 0 1 < 16 → c.p 1 1 < 4 → c.p 2 1 < 16 → c.p 4 4 < (if c.p 1 1 < 2 then 2 ^ 20 else 2 ^ 15) →
    let n := c.p 2 1 + 1
    (c.p 1 1 % 2 = 1 → c.hostData ≠ none ∧ ∀ bs ps, c.hostData = some (bs, ps) → ps = []) →
    ∃ s', exec (.dpAux t q seq reply) s = .next s' ∧
      (if s.dev.portHeads (c.p 0 1) = [] then
          s'.dev.answer q seq = some ⟨Status.rejected, 0x090A, c.p 0 1, s.dev.moduleId, 0⟩
        else if c.p 1 1 = 1 ∧ c.p 4 4 < 0x220 ∧ 0x100 < c.p 4 4 + n then
          s'.dev.answer q seq = some ⟨Status.rejected, 0x0909, c.p 0 1, s.dev.moduleId, 0⟩
        else match reply with
          | .nack => s'.dev.answer q seq = some ⟨Status.rejected, 0x0907, c.p 0 1, s.dev.moduleId, 0⟩
          | .timeout => s'.dev.answer q seq = some ⟨Status.rejected, 0x0908, c.p 0 1, s.dev.moduleId, 0⟩
          | .ack data => if c.p 1 1 % 2 = 1 then s'.dev.answer q seq = some ⟨Status.success, 0, 0, s.dev.moduleId, n⟩
            else if s.dev.host.busMaster = true then
              s'.dev.answer q seq = some ⟨Status.success, 0, 0, s.dev.moduleId, min n data.length⟩ ∧
                (data ≠ [] → s.dev.queueActs = true → s'.dev.host.posted =
                  .write (c.p 8 8) (data.take n) false :: s.dev.host.posted)
            else s'.dev.answer q seq = some ⟨Status.accessDenied, 0x0E06, 0, s.dev.moduleId, 0⟩) ∧
      s.Keeps s' t [] [.host, .pair]) ∧
  (∀ (t q seq : Nat) (caps : Option SinkCaps) (c : Cmd) (s : State), s.dev.Running q seq 0x0902 c → s.dev.Alone →
    c.Tail 1 → c.p 0 1 < 16 →
    let p := c.p 0 1
    let x := s.dev.port p
    x.waiting = [] →
    ∃ s', exec (.dpRetrain t q seq caps) s = .next s' ∧
      (s.dev.portHeads p = [] → s'.dev.answer q seq = some ⟨Status.rejected, 0x090A, p, s.dev.moduleId, 0⟩) ∧
      (s.dev.portHeads p ≠ [] → x.clockOut = true ∨ s.dev.on R.DP_STATUS_HPD p = false →
        s'.dev.answer q seq = some ⟨Status.success, 0, 0, s.dev.moduleId, s.dev.reg R.DP_STATUS p / 2 ^ 24 % 2 ^ 64⟩) ∧
      (∀ k, caps = some k → (∃ h ∈ s.dev.portHeads p, s.dev.headState h ≠ 0) → x.clockOut = false →
        s.dev.on R.DP_STATUS_HPD p = true → (s.dev.setPort p { x with caps := caps }).Trains s'.dev p 0 ∧
        ((s'.dev.port p).trying ≠ none → (s'.dev.port p).waiting = [(q, seq)] ∧ s'.dev.answer q seq = none)) ∧
      s.Keeps s' t (portOffs p) [.comp, .recd, .host, .pair])

/-- R259, R261, R262: the next row of a frame is ready at its instant and an idle engine takes it; a frame whose successor is
ready loses its unbegun rows to skip-coded slices. An engine that takes 10 ms or shows a parity error is out of service,
and its contexts are on the other one or shed. R260, R264, R265, R268, R271: a coded row joins its frame, a skipped one as
a row not refreshed, and its NAL units go to the ring in Annex B form where they fit, or are dropped with those that
follow; with the last row the frame is counted and gone. Model's choices in it, not rules: log 32, 69. -/
def Obligations.EncodeRows : Prop :=
  ((∀ (t c n row : Nat) (o : EncOpen) (f : EncFrame) (s : State), c < 256 → s.dev.encState c = enRunning →
    (s.dev.encCtx c).open' = some o → (s.dev.encCtx c).frames.find? (fun f => f.n == n) = some f → row = f.ready.length →
    row < o.rows → s.dev.rowWritten o f row = true →
    let e := s.dev.get R.ENC_STATUS_ENGINE c
    (row ≠ 0 ∨ (s.dev.encCtx c).frames = [f] →
      ∃ s' g, exec (.encodeRowReady t c n row []) s = .next s' ∧
        (s'.dev.encCtx c).frames.find? (fun f => f.n == n) = some g ∧
        g = { f with ready := tabPut f.ready row (max s.dev.now t) } ∧
        (s.dev.get R.ENC_ENG_STATUS_FAILED e = 0 → tabGet? s.dev.enc.engines e = none → row ∉ f.done →
          s.dev.encBegun c n row = false →
          ∃ r, tabGet? s'.dev.enc.engines e = some r ∧ r.start = max s.dev.now t ∧
            s'.dev.get R.ENC_ENG_STATUS_BUSY e = 1 ∧ s'.dev.get R.ENC_ENG_STATUS_CONTEXT e = r.ctx % 256) ∧
        (∀ r, tabGet? s.dev.enc.engines e = some r → s'.dev.enc.engines = s.dev.enc.engines) ∧
        s.Keeps s' t (encOffs c) [.enc, .recd]) ∧
    (∀ g skips, row = 0 → (s.dev.encCtx c).frames = [g, f] → g.n ≠ n →
      let late := (List.range o.rows).filter fun r => !g.done.contains r && !s.dev.encBegun c g.n r
      late ≠ [] → skips.length = late.length → (∀ b ∈ skips, b.length ≤ 60) →
      ∃ s', exec (.encodeRowReady t c n row skips) s = .next s' ∧
        s'.dev.reg R.ROWS_LATE c = min (s.dev.reg R.ROWS_LATE c % 2 ^ 32 + late.length) (2 ^ 32 - 1) ∧
        s'.dev.get R.ENC_STATUS_SERVICE c = 1 ∧
        (∀ g', (s'.dev.encCtx c).frames.find? (fun f => f.n == g.n) = some g' → g'.late = true ∧
          ∀ r ∈ late, r ∈ g'.done ∧ r ∈ g'.notRef) ∧
        s.Keeps s' t (encOffs c) [.enc, .recd, .mem, .comp])) ∧
  (∀ (t e : Nat) (s : State), e < 2 → s.dev.get R.ENC_ENG_STATUS_FAILED e = 0 → (∀ x ∈ s.dev.enc.ctxs, x.1 < 256) →
    let gone : State → Prop := fun s' => s'.dev.get R.ENC_ENG_STATUS_FAILED e = 1 ∧
      s'.dev.get R.ENC_ENG_STATUS_BUSY e = 0 ∧ tabGet? s'.dev.enc.engines e = none ∧
      s'.dev.get R.ERR_STATUS_DEGRADED = 1 ∧
      (∀ x ∈ s.dev.encOn e, s'.dev.encState x.1 = enShed ∨ s'.dev.get R.ENC_STATUS_ENGINE x.1 = 1 - e) ∧
      s.KeepsBut s' t (fun off => (∃ c, c < 256 ∧ off ∈ encOffs c) ∨ off ∈ degradedOffs) [.enc, .recd, .err, .host, .comp]
    (∀ r, tabGet? s.dev.enc.engines e = some r → r.start + 10 * qMs ≤ max s.dev.now t →
      ∃ s', exec (.encodeEngineTimeout t e) s = .next s' ∧ gone s') ∧
    ∃ s', exec (.encodeEngineParity t e) s = .next s' ∧ gone s')) ∧
  (∀ (t e : Nat) (r : EncRow) (g : EncRun) (o : EncOpen) (f : EncFrame) (s : State), e < 2 → g.ctx < 256 →
    tabGet? s.dev.enc.engines e = some g → (s.dev.encCtx g.ctx).open' = some o →
    (s.dev.encCtx g.ctx).frames.find? (fun f => f.n == g.n) = some f →
    rowFits o f g.row (r.slice.length + 4) r.skipped = true → 0 < o.ring → o.ring ≤ 2 ^ 28 →
    let c := g.ctx
    let nals := r.head ++ [r.slice]
    ∃ s', exec (.encodeRowCoded t e r) s = .next s' ∧ s.dev.Wraps s'.dev R.ENC_ENG_STATUS_ROWS e ∧
      (∀ v, tabGet? s'.dev.enc.engines e = some v → v.start = max s.dev.now t) ∧
      (r.skipped = true → f.idr = false → s.dev.Counts s'.dev R.ROWS_SKIPPED_COUNT c) ∧
      (f.done.length + 1 < o.rows →
        (if (s.dev.encCtx c).dropping = false ∧ (annexB nals).length ≤ s.dev.ringFree c o.ring then
          s'.dev.get R.ENC_WPTR_PTR c = (s.dev.get R.ENC_WPTR_PTR c + (annexB nals).length) % o.ring ∧
            s'.mem = ringWrite s.dev o (s.dev.get R.ENC_WPTR_PTR c) (annexB nals) s.mem
        else (s'.dev.encCtx c).dropping = true ∧ s'.mem = s.mem ∧
          (f.dropped = false → s.dev.Counts s'.dev R.RING_DROPS_COUNT c)) ∧
        ∃ f', (s'.dev.encCtx c).frames.find? (fun f => f.n == g.n) = some f' ∧ f'.done = g.row :: f.done ∧
          f'.used = f.used + r.slice.length + 4 ∧ f'.bytes = f.bytes + (annexB nals).length ∧
          f'.cut = (f.cut || r.skipped) ∧
          f'.notRef = (if r.skipped && !f.idr then g.row :: f.notRef else f.notRef) ∧
          f'.poor = (if r.skipped && f.idr then g.row :: f.poor else f.poor)) ∧
      (o.rows ≤ f.done.length + 1 → (∀ x ∈ (s'.dev.encCtx c).frames, x.n ≠ g.n) ∧
        (s'.dev.encCtx c).pictures = (s.dev.encCtx c).pictures + 1 ∧ s'.dev.reg R.ENC_FRAME c = g.n % 2 ^ 32 ∧
        s.dev.Counts s'.dev R.FRAMES_ENCODED_COUNT c ∧ (f.late = false → s'.dev.get R.ENC_STATUS_SERVICE c = 0)) ∧
      (o.rtp = false → s'.dev.enc.sent = s.dev.enc.sent) ∧ s.Keeps s' t (encOffs c) [.enc, .recd, .mem, .comp])

/-- R258, R262, R263, R273: ENCODE_OPEN binds a context to the engine with the least load that has room for it, and refuses a
GUARANTEED one that fits none; a zero period, rate or cap is ZERO_REJECTED. ENCODE_CLOSE answers the pictures of the
context and frees it; ENCODE_REFRESH asks for an IDR picture or a new cycle. Model's choice in it, not a rule: log 70. -/
def Obligations.EncodeCommands : Prop :=
  (∀ (t q seq : Nat) (cm : Cmd) (b : List Byte) (s : State), s.dev.Running q seq 0x0610 cm → s.dev.Alone → cm.Tail 8 →
    cm.hostData = some (b, []) →
    let c := leAt b 0 1
    let o := encOpenOf s.dev b
    s.dev.inState c = inClosed → s.dev.encState c = enClosed →
    (o.period = 0 → ∃ s', exec (.encodeOpen t q seq) s = .next s' ∧
      s'.dev.answer q seq = some ⟨Status.zeroRejected, 6, 0, s.dev.moduleId, 0⟩ ∧ s.Keeps s' t [] [.host, .pair]) ∧
    (o.period ≠ 0 → o.kbps ≠ 0 → o.cap ≠ 0 → encBadField b o = none → (s.dev.headEntry o.head).isSome = true →
      (s.dev.inForce o.head).wbOn = true → (s.dev.inForce o.head).wbFmt = codecFmt o.codec → encRangeBad s.dev c o = false →
      ∃ s', exec (.encodeOpen t q seq) s = .next s' ∧
        (∀ e, s.dev.encAdmit o = some e → s'.dev.encCtx c = { EncCtx.init with open' := some o } ∧
          s'.dev.encState c = enWait ∧ s'.dev.get R.ENC_STATUS_ENGINE c = e ∧ s'.dev.reg R.ENC_WPTR c = 0 ∧
          s'.dev.reg R.ENC_LOAD c = kpx o.load % 2 ^ 32 ∧
          s'.dev.answer q seq = some ⟨Status.success, 0, 0, s.dev.moduleId,
            ((o.ring + o.work) % 2 ^ 32 + e * 2 ^ 32 + 2 ^ 40) % 2 ^ 64⟩) ∧
        (s.dev.encAdmit o = none → o.guaranteed = true → s'.dev.encState c = enRefused ∧
          s'.dev.answer q seq = some ⟨Status.refused, 0x060B, 0, s.dev.moduleId, 0⟩ ∧ s'.dev.enc = s.dev.enc) ∧
        (s.dev.encAdmit o = none → o.guaranteed = false → s'.dev.encState c = enWait) ∧
        s.Keeps s' t (encOffs c) [.host, .pair, .enc, .recd])) ∧
  (∀ (t q seq : Nat) (cm : Cmd) (s : State), s.dev.Running q seq 0x0611 cm → s.dev.Alone → cm.Tail 1 → cm.p 0 1 < 256 →
    let c := cm.p 0 1
    ∃ s', exec (.encodeClose t q seq) s = .next s' ∧ s'.dev.encState c = enClosed ∧
      (if s.dev.encState c = enClosed then
        s'.dev.answer q seq = some ⟨Status.success, 0, 0, s.dev.moduleId, 0⟩ ∧ s'.dev.enc = s.dev.enc
      else s'.dev.answer q seq = some ⟨Status.success, 0, 0, s.dev.moduleId, (s.dev.encCtx c).pictures % 2 ^ 64⟩ ∧
        s'.dev.encCtx c = EncCtx.init ∧ ∀ e r, e < 2 → tabGet? s'.dev.enc.engines e = some r → r.ctx ≠ c) ∧
      s.Keeps s' t (encOffs c) [.host, .pair, .enc, .comp]) ∧
  (∀ (t q seq : Nat) (cm : Cmd) (s : State), s.dev.Running q seq 0x0612 cm → s.dev.Alone → cm.Tail 2 → cm.p 1 1 < 2 →
    let c := cm.p 0 1
    ∃ s', exec (.encodeRefresh t q seq) s = .next s' ∧
      s'.dev.answer q seq = some ⟨Status.success, 0, 0, s.dev.moduleId, s.dev.encState c⟩ ∧
      (s.dev.encState c = enRunning → (cm.p 1 1 = 1 → (s'.dev.encCtx c).idrNext = true) ∧
        (cm.p 1 1 = 0 → (s'.dev.encCtx c).cycleNext = true)) ∧ s.Keeps s' t [] [.host, .pair, .enc])

/-- R275 to R282: a full scan starts on the 240 Hz grid, a simmer scan on every 30th of its starts; eight BASELINE scans set
the baseline to the rounded means; a FULL scan re-baselines nodes far above it, ends entries it does not find, and lets no
touch last MAX_S; the release brings a processed scan into force and discards one that is late. Model's choices in it, not
rules: log 71, 72, 73. -/
def Obligations.TouchScans : Prop :=
  ∀ (t p : Nat) (s : State), p < 2 → s.dev.Alone → s.dev.clockOn 7 = true →
    let w := (s.dev.clock t).wt
    let j := (scanStart w).1
    let start := (scanStart w).2
    let st := s.dev.touch p
    let n := s.dev.drives p
    let m := s.dev.senses p
    (s.dev.touchState p ≠ tchOff → st.lastJ ≠ some j → st.scan = none → w < start + 4 →
      ∃ s', exec (.touchScanStart t p) s = .next s' ∧
        (if s.dev.touchState p = tchSimmer ∧ st.wake = false ∧ st.cfg.simmer = true then
          (s'.dev.touch p).scan = (if j % 30 = 0 then some ⟨start, 360 * qUs, true, st.cfg, false, false, [], []⟩ else none)
        else (s'.dev.touch p).scan = some ⟨start, n * 40 * qUs, false, st.cfg, false, false, [], []⟩ ∧
          s'.dev.touchState p = (if s.dev.touchState p = tchSimmer then tchFull else s.dev.touchState p)) ∧
        s.Keeps s' t (tchOffs p) [.io]) ∧
    (∀ sc raw, st.scan = some sc → sc.simmer = false → sc.done = false → sc.inWindow w = true →
      s.dev.touchState p = tchBaseline →
      ∃ s', exec (.touchScanProcessed t p raw) s = .next s' ∧ (s'.dev.touch p).scans = st.scans + 1 ∧
        (∀ i k, i < n → k < m → Grid.node (s'.dev.touch p).sums i k = Grid.node st.sums i k + Grid.node raw i k ∧
          (st.scans = 7 → Grid.node (s'.dev.touch p).base i k = (Grid.node st.sums i k + Grid.node raw i k + 4) / 8)) ∧
        (s'.dev.touch p).live = st.live ∧ s.Keeps s' t [] [.io]) ∧
    (∀ sc (raw : List (List Nat)), st.scan = some sc → sc.simmer = false → sc.done = false → sc.inWindow w = true →
      s.dev.touchState p = tchFull →
      let instant := sc.start + sc.duration / 2
      ∃ s', exec (.touchScanProcessed t p raw) s = .next s' ∧ ((s'.dev.touch p).scan.map (·.done)) = some true ∧
        (∀ l ∈ (s'.dev.touch p).live, l.hover = false → instant < l.since + sc.cfg.maxS * qS) ∧
        (st.rebase = false → (∀ i k, i < n → k < m → Grid.node st.base i k ≤ Grid.node raw i k ∧
            Grid.node raw i k < Grid.node st.base i k + sc.cfg.antiThr) → 0 < sc.cfg.touchThr → 0 < sc.cfg.hoverThr →
          (s'.dev.touch p).live = [] ∧ (s'.dev.touch p).scan.map (·.ended) = some (st.live.map (·.endedBy 3)) ∧
          (s'.dev.touch p).quiet = (if st.quiet + 1 < 16 then st.quiet + 1 else 0)) ∧
        (st.rebase = false → ∀ i k, i < n → k < m → Grid.node st.base i k + sc.cfg.antiThr ≤ Grid.node raw i k →
          Grid.node (s'.dev.touch p).base i k = Grid.node raw i k ∧ s.dev.Counts s'.dev R.TCH_REBASE_COUNT p) ∧
        s.Keeps s' t (tchOffs p) [.io, .recd]) ∧
    (∀ sc sums, st.scan = some sc → sc.simmer = true → sc.done = false → sc.inWindow w = true →
      ∃ s', exec (.touchSimmerScan t p sums) s = .next s' ∧
        s'.dev.touch p = { st with
          scan := some { sc with done := true }
          simBase := some (st.simBase.getD sums)
          wake := st.wake || (match st.simBase with
            | none => false
            | some b => (List.range m).any fun k => sums.getD k 0 + sc.cfg.touchThr ≤ b.getD k 0) } ∧
        s.Keeps s' t [] [.io]) ∧
    (∀ sc, st.scan = some sc → sc.start + sc.duration + 600 * qUs ≤ w →
      let es := touchEntries st.live sc.ended fun l => l.shown.isNone
      let instant := sc.start + sc.duration / 2
      ∃ s', exec (.touchScanRelease t p) s = .next s' ∧ (s'.dev.touch p).scan = none ∧
        (sc.done = false → s.dev.Counts s'.dev R.TCH_LATE_SCANS_COUNT p) ∧
        (sc.done = true → s.dev.Wraps s'.dev R.TCH_STATUS_SCANS p ∧
          s'.dev.get R.TCH_STATUS_OVERFLOW p = b2n sc.overflow ∧
          s'.dev.reg R.TCH_SCAN_LO p = instant / 4 % 2 ^ 48 % 2 ^ 32 ∧
          (s.dev.touchState p = tchBaseline → 8 ≤ st.scans → s'.dev.touchState p = tchFull) ∧
          (s.dev.touchState p = tchFull → s'.dev.get R.TCH_STATUS_VALID p = 1 ∧
            s'.dev.get R.TCH_STATUS_COUNT p = es.length ∧ (s'.dev.touch p).rel.map (·.entries) = some es) ∧
          (∀ q seq c, sc.rebased = [(q, seq)] → s.dev.Running q seq 0x1002 c → s'.dev.answer q seq =
            some ⟨Status.success, 0, 0, s.dev.moduleId, s'.dev.get R.TCH_STATUS_SCANS p⟩)) ∧
        s.Keeps s' t (tchOffs p) [.io, .latch, .host, .pair])

/-- R278, R282, R286, R297: TCH_CTRL starts a port in BASELINE, takes it out of service, and with APPLY puts its staged
settings in force, or flags a bad set and leaves them. TOUCH_REBASE waits for the scan that re-baselines, and answers 0 on
a port that is off. R287 to R290: a converter sequence that is complete stores each enabled channel's rounded mean and its
start, and serves its control cycles; ADC_CTRL with APPLY takes a good configuration whole; an input level counts once it
is stable for the debounce time; GPIO_OUT drives output lines only. Model's choices in it, not rules: log 32, 73, 74, 75. -/
def Obligations.TouchCommandsAndConverters : Prop :=
  ((∀ (t p : Nat) (v : Word) (s : State), p < 2 → s.dev.Reaches (R.TCH_CTRL.off p 0) → s.dev.Alone →
    let st := s.dev.touch p
    let n := v.toNat
    let h := s.dev.get R.TCH_THRESH_HOVER_THR p
    let thr := s.dev.get R.TCH_THRESH_TOUCH_THR p
    let a := s.dev.get R.TCH_THRESH_ANTI_THR p
    let sec := s.dev.get R.TCH_TIMING_MAX_S p
    let bad := h = 0 ∨ thr = 0 ∨ a = 0 ∨ thr ≤ h ∨ sec = 0 ∨ 3600 < sec ∨ bits n 29 28 = 3 ∨
      s.dev.get R.TCH_MARK_SHAPE_SHAPE p = 3
    (bit n 30 = true → s.dev.get R.TCH_CTRL_ENABLE p = 0 → ∃ s', exec (.touchPortEnable t p v) s = .next s' ∧
      s'.dev.get R.TCH_CTRL_ENABLE p = 1 ∧ s'.dev.touchState p = tchBaseline ∧ (s'.dev.touch p).scans = 0 ∧
      (s'.dev.touch p).live = [] ∧ (s'.dev.touch p).nextId = st.nextId ∧ s'.dev.get R.TCH_STATUS_VALID p = 0 ∧
      s.Keeps s' t (tchOffs p) [.io, .latch, .pair]) ∧
    (bit n 30 = false → s.dev.get R.TCH_CTRL_ENABLE p = 1 → ∃ s', exec (.touchPortDisable t p v) s = .next s' ∧
      s'.dev.get R.TCH_CTRL_ENABLE p = 0 ∧ s'.dev.touchState p = tchOff ∧ (s'.dev.touch p).live = [] ∧
      (s'.dev.touch p).scan = none ∧ s'.dev.get R.TCH_STATUS_VALID p = 0 ∧ s'.dev.get R.TCH_STATUS_COUNT p = 0 ∧
      (∀ q seq c, st.scan = none → st.rebaseCmds = [(q, seq)] → s.dev.Running q seq 0x1002 c →
        s'.dev.answer q seq = some ⟨Status.success, 0, 0, s.dev.moduleId, 0⟩) ∧
      s.Keeps s' t (tchOffs p) [.io, .latch, .pair, .host]) ∧
    (bit n 31 = true → b2n (bit n 30) = s.dev.get R.TCH_CTRL_ENABLE p → ∃ s', exec (.touchApply t p v) s = .next s' ∧
      (bad → s'.dev.get R.TCH_STATUS_BAD_CONFIG p = 1 ∧ s'.dev.touch p = st) ∧
      (¬bad → s'.dev.touch p = { st with cfg := ⟨bits n 29 28, bit n 27, h, thr, a,
        s.dev.get R.TCH_TIMING_IDLE_M1 p + 1, sec, ⟨s.dev.reg R.TCH_MARK_SHAPE p, s.dev.reg R.TCH_MARK_COLOUR p,
          s.dev.reg R.TCH_HOVER_COLOUR p, s.dev.reg R.TCH_MAP_SX p, s.dev.reg R.TCH_MAP_SY p, s.dev.reg R.TCH_MAP_OFF p⟩⟩ }) ∧
      s.Keeps s' t (tchOffs p) [.io, .pair])) ∧
  (∀ (t q seq : Nat) (c : Cmd) (s : State), s.dev.Running q seq 0x1002 c → s.dev.Alone → c.Tail 1 → c.p 0 1 < 2 →
    let st := s.dev.touch (c.p 0 1)
    (q, seq) ∉ st.rebaseCmds → (∀ sc, st.scan = some sc → (q, seq) ∉ sc.rebased) →
    ∃ s', exec (.touchRebase t q seq) s = .next s' ∧
      (if s.dev.touchState (c.p 0 1) = tchOff then
        s'.dev.answer q seq = some ⟨Status.success, 0, 0, s.dev.moduleId, 0⟩ ∧ s'.dev.touch (c.p 0 1) = st
      else s'.dev.answer q seq = none ∧
        s'.dev.touch (c.p 0 1) = { st with rebase := true, rebaseCmds := st.rebaseCmds ++ [(q, seq)] }) ∧
      s.Keeps s' t [] [.io, .host, .pair])) ∧
  ((∀ (t : Nat) (samples : List (List Int)) (sq : AdcSeq) (s : State), s.dev.io.adc.seq = some sq →
    s.dev.clockOn 8 = true → sq.start + sq.cfg.conversions * 500 * qNs ≤ (s.dev.clock t).wt → sq.cfg.ch.length = 16 →
    let value := fun i => if bit (sq.cfg.ch.getD i 0) 31 then
      adcData (sq.cfg.ch.getD i 0) ((samples.getD i []).take (2 ^ bits (sq.cfg.ch.getD i 0) 26 24)) else 0
    ∃ s', exec (.adcSequenceDone t samples) s = .next s' ∧ s'.dev.io.adc.seq = none ∧
      s'.dev.get R.ADC_STATUS_BUSY = 0 ∧ s'.dev.reg R.ADC_TIME_LO = sq.start / 4 % 2 ^ 48 % 2 ^ 32 ∧
      (∀ i, i < 16 → tabGet? s'.dev.latch (R.ADC_DATA.off i 0) = some (BitVec.ofNat 32 (value i))) ∧
      (∀ c x, c ∈ sq.serves → (s.dev.cycle c).capture = some x → (s'.dev.cycle c).capture =
        some { x with adc := some (sq.cfg.ch.zipIdx.map fun y => (y.1, value y.2)) }) ∧
      s.Keeps s' t [R.ADC_STATUS.off 0 0, R.ADC_TIME_LO.off 0 0] [.io, .latch]) ∧
  (∀ (t : Nat) (v : Word) (s : State), s.dev.Reaches 0x1004000 → s.dev.Alone → bit v.toNat 31 = true →
    let ch := (List.range 16).map fun i => s.dev.reg R.ADC_CH i
    ∃ s', exec (.adcApply t v) s = .next s' ∧ s'.dev.reg R.ADC_CTRL = v.toNat &&& 0x400F0000 ∧
      (if ∃ w ∈ ch, 4 < bits w 26 24 then s'.dev.get R.ADC_STATUS_BAD_CONFIG = 1 ∧ s'.dev.io = s.dev.io
        else s'.dev.io.adc.cfg = ⟨bit v.toNat 30, bits v.toNat 19 16, ch⟩) ∧
      s.Keeps s' t [R.ADC_CTRL.off 0 0, R.ADC_STATUS.off 0 0] [.io, .pair]) ∧
  (∀ (t n : Nat) (level : Bool) (s : State), n < 32 →
    let seen := level != bit (s.dev.pin n).2.2 1
    ∃ s', exec (.gpioInputChange t n level) s = .next s' ∧ tabGetD s'.dev.io.lines false n = level ∧
      (if (s.dev.pin n).1 ≠ 0 ∨ s.dev.debounce = 0 then bit (s'.dev.reg R.GPIO_IN) n = seen
      else s'.dev.reg R.GPIO_IN = s.dev.reg R.GPIO_IN ∧ tabGet? s'.dev.io.bounce n =
        if bit (s.dev.reg R.GPIO_IN) n = seen then none else some ⟨seen, max s.dev.now t⟩) ∧
      s.Keeps s' t [R.GPIO_IN.off 0 0] [.io]) ∧
  (∀ (t n : Nat) (b : Bounce) (s : State), n < 32 → tabGet? s.dev.io.bounce n = some b →
    ∃ s', exec (.gpioDebounceExpiry t n) s = .next s' ∧
      (if b.since + s.dev.debounce ≤ max s.dev.now t then bit (s'.dev.reg R.GPIO_IN) n = b.level ∧
          tabGet? s'.dev.io.bounce n = none ∧
          (∀ k, k < 32 → k ≠ n → bit (s'.dev.reg R.GPIO_IN) k = bit (s.dev.reg R.GPIO_IN) k)
        else s'.dev.reg R.GPIO_IN = s.dev.reg R.GPIO_IN) ∧ s.Keeps s' t [R.GPIO_IN.off 0 0] [.io]) ∧
  (∀ (t : Nat) (v : Word) (s : State), s.dev.Reaches 0x1006004 → s.dev.Alone →
    ∃ s', exec (.gpioOutWrite t v) s = .next s' ∧
      (∀ n, n < 32 → if (s.dev.pin n).1 = 1 then bit (s'.dev.reg R.GPIO_OUT) n = bit v.toNat n ∧
          bit (s'.dev.reg R.GPIO_IN) n = bit v.toNat n ∧
          tabGetD s'.dev.io.lines false n = (bit v.toNat n != bit (s.dev.pin n).2.2 1)
        else bit (s'.dev.reg R.GPIO_OUT) n = bit (s.dev.reg R.GPIO_OUT) n ∧
          bit (s'.dev.reg R.GPIO_IN) n = bit (s.dev.reg R.GPIO_IN) n) ∧
      s.Keeps s' t [R.GPIO_OUT.off 0 0, R.GPIO_IN.off 0 0] [.io, .pair]))

/-- R80, R88, R89, R293: a frame with a launch time waits for it and leaves then, a late or far one is dropped and counted; a
trigger unit takes a good configuration and its event has the control cycles sample; a capture unit stamps its edges into
its FIFO, which CAP_TIME_LO reads from the oldest on. Model's choices in it, not rules: log 31, 77. -/
def Obligations.LaunchesTriggersCaptures : Prop :=
  (∀ (t p at48 : Nat) (bytes : List Byte) (gated : Bool) (s : State), p < 4 → at48 < 2 ^ 48 →
    let w := (s.dev.clock t).wt48
    ∃ s', exec (.launchFrameSubmit t p at48 bytes gated) s = .next s' ∧
      (if (1000000000 : Int) < sdiff 48 at48 w then s.dev.Counts s'.dev R.LAUNCH_FAR_COUNT p ∧
          s'.dev.launches p = s.dev.launches p
        else if s.dev.launches p = [] ∧ later 48 at48 w = false then s.dev.Counts s'.dev R.LAUNCH_LATE_COUNT p ∧
          s'.dev.launches p = []
        else s'.dev.launches p = s.dev.launches p ++ [⟨at48, bytes, gated, none⟩]) ∧
      s.Keeps s' t launchOffs [.time]) ∧
  (∀ (t p : Nat) (l : Launch) (r : List Launch) (s : State), p < 4 → s.dev.launches p = l :: r →
    later 48 l.at48 (s.dev.clock t).wt48 = false → (∀ x, r.head? = some x → later 48 x.at48 (s.dev.clock t).wt48 = true) →
    (∀ x, l.cycle = some x → x < 8) →
    ∃ s', exec (.launchTimeReached t p) s = .next s' ∧ s'.dev.launches p = r ∧
      s'.dev.time.sent = (if s.dev.portUp p = true ∧ (l.gated = false ∨ s.dev.on R.PAIR_STATUS_OWNS = true) then
        (p, l.bytes) :: s.dev.time.sent else s.dev.time.sent) ∧
      (∀ x, l.cycle = some x →
        if s.dev.portUp p = false then s.dev.Counts s'.dev R.CC_PORT_DOWN_COUNT (x / 2)
        else if l.gated = true ∧ s.dev.on R.PAIR_STATUS_OWNS = false then s.dev.Counts s'.dev R.CC_GATED_COUNT (x / 2)
        else if x % 2 = 0 then s.dev.Counts s'.dev R.CC_SENT_A_COUNT (x / 2)
        else s.dev.Counts s'.dev R.CC_SENT_B_COUNT (x / 2)) ∧ s.Keeps s' t launchOffs [.time, .io]) ∧
  (∀ (t u : Nat) (v : Word) (s : State), u < 16 → s.dev.Reaches 0x301000 → bit v.toNat 31 = true →
    let n := v.toNat
    let mode := bits n 29 28
    let at48 := s.dev.get R.TRIG_AT_HI_AT u * 2 ^ 32 + s.dev.reg R.TRIG_AT_LO u
    let period := s.dev.reg R.TRIG_PERIOD_M1 u + 1
    let width := (bits n 15 0 + 1) * 8
    let w := (s.dev.clock t).wt48
    ∃ s', exec (.trigApply t u v) s = .next s' ∧
      (if s.dev.trigHeld u = true then s'.dev.get R.TRIG_STATUS_BAD_CONFIG u = 1 ∧ s'.dev.trig u = s.dev.trig u ∧
          s'.dev.reg R.TRIG_CTRL u = s.dev.reg R.TRIG_CTRL u
        else s'.dev.reg R.TRIG_CTRL u = n &&& 0x7000FFFF ∧
          (if s.dev.wtState = wtUnset then s'.dev.get R.TRIG_STATUS_UNSET u = 1 ∧ s'.dev.trig u = s.dev.trig u
          else if 2 ≤ mode ∨ (mode = 1 ∧ bit n 30 = true ∧ period ≤ width) then
            s'.dev.get R.TRIG_STATUS_BAD_CONFIG u = 1 ∧ s'.dev.trig u = s.dev.trig u
          else if bit n 30 = false then s'.dev.trig u = { s.dev.trig u with armed := false } ∧
            s'.dev.get R.TRIG_STATUS_ARMED u = 0
          else if mode = 1 then s'.dev.trig u = { s.dev.trig u with
              armed := true, periodic := true, next := firstPeriodic w at48 period, period := period, width := width } ∧
            s'.dev.get R.TRIG_STATUS_ARMED u = 1
          else if sdiff 48 at48 w < 1000 then s'.dev.get R.TRIG_STATUS_MISSED u = 1 ∧
            s'.dev.get R.TRIG_STATUS_ARMED u = 0
          else s'.dev.trig u = { s.dev.trig u with
              armed := true, periodic := false, next := at48, period := 0, width := width } ∧
            s'.dev.get R.TRIG_STATUS_ARMED u = 1)) ∧
      s.Keeps s' t ([R.TRIG_CTRL.off u 0, R.TRIG_STATUS.off u 0] ++ recOffs) [.time, .recd]) ∧
  (∀ (t u : Nat) (s : State), u < 16 → (s.dev.trig u).armed = true → s.dev.wtState ≠ wtUnset →
    later 48 (s.dev.trig u).next (s.dev.clock t).wt48 = false →
    let g := s.dev.trig u
    ∃ s', exec (.triggerEvent t u) s = .next s' ∧ s.dev.Wraps s'.dev R.TRIG_STATUS_FIRES u ∧
      (s'.dev.trig u).armed = g.periodic ∧ (s'.dev.trig u).next = (g.next + g.period) % 2 ^ 48 ∧
      s'.dev.get R.TRIG_STATUS_ARMED u = b2n g.periodic ∧
      (∀ c, c < 4 → (s.dev.cycle c).running = true → (s.dev.cycle c).unit = u → ∃ x,
        (s'.dev.cycle c).capture = some x ∧ x.ts = g.next ∧ x.gpio = s.dev.reg R.GPIO_IN ∧
        x.lk = (g.next + (s.dev.cycle c).lead * 1000) % 2 ^ 48) ∧
      (∀ c, c < 4 → (s.dev.cycle c).unit ≠ u → (s'.dev.cycle c).running = (s.dev.cycle c).running ∧
        s'.dev.reg R.CC_NEXT_LO c = s.dev.reg R.CC_NEXT_LO c) ∧
      s.Keeps s' t ([R.TRIG_STATUS.off u 0, R.ADC_STATUS.off 0 0] ++ (List.range 4).map (R.CC_NEXT_LO.off · 0))
        [.time, .io, .latch]) ∧
  (∀ (t u : Nat) (s : State), u < 16 → ∃ s', exec (.triggerPulseEnd t u) s = .next s' ∧
    s'.dev.trig u = { s.dev.trig u with pulse := false } ∧ s.Keeps s' t [R.TRIG_STATUS.off u 0] [.time]) ∧
  (∀ (t u : Nat) (fall : Bool) (s : State), u < 16 →
    let q := tabGetD s.dev.time.caps [] u
    let lost := 16 ≤ q.length ∨ ∃ l, tabGet? s.dev.time.capLast u = some l ∧ max s.dev.now t < l + 20 * qNs
    ∃ s', exec (.captureEdge t u fall) s = .next s' ∧
      (s.dev.capTakes u fall = false → s.Keeps s' t [] []) ∧
      (s.dev.capTakes u fall = true → lost → s.dev.Counts s'.dev R.CAP_STATUS_LOST u ∧
        s'.dev.get R.CAP_STATUS_OVERRUN u = 1 ∧ s'.dev.time = s.dev.time) ∧
      (s.dev.capTakes u fall = true → ¬lost →
        tabGetD s'.dev.time.caps [] u = q ++ [⟨(s.dev.clock t).wt48, fall, s.dev.wtState⟩] ∧
        s'.dev.get R.CAP_STATUS_LEVEL u = q.length + 1) ∧
      s.Keeps s' t [R.CAP_STATUS.off u 0] [.time, .host]) ∧
  (∀ (t u : Nat) (s : State), u < 16 → s.dev.Reaches 0x302008 →
    ∃ s', exec (.capTimeLoRead t u) s = .next s' ∧
      (match tabGetD s.dev.time.caps [] u with
        | [] => s'.dev.host.resp = .data (leBytes 4 0) ∧ s'.dev.reg R.CAP_TIME_HI u = 0
        | e :: r => s'.dev.host.resp = .data (leBytes 4 (e.time % 2 ^ 32)) ∧ tabGetD s'.dev.time.caps [] u = r ∧
            s'.dev.get R.CAP_STATUS_LEVEL u = r.length % 32 ∧ s'.dev.reg R.CAP_TIME_HI u =
              (2 ^ 31 + b2n e.fall * 2 ^ 30 + e.state * 2 ^ 28 + e.time / 2 ^ 32) % 2 ^ 32) ∧
      s.Keeps s' t [R.CAP_STATUS.off u 0, R.CAP_TIME_HI.off u 0] [.time, .host])

/-- R291 to R297: a command frame is built once its converter sequence is there, and each copy waits at its MAC for L_k plus
its offset. CC_SETUP checks its block, takes a free trigger unit and starts the cycle; CC_STOP releases it and answers the
frames built. Model's choices in it, not rules: log 76, 77. -/
def Obligations.ControlCycles : Prop :=
  (∀ (t c : Nat) (x : CcCapture) (s : State), c < 4 → (s.dev.cycle c).capture = some x → (s.dev.cycle c).running = true →
    x.adc.isSome = true →
    let k := s.dev.cycle c
    let pl := (s.dev.clock t).ccPayload c k x
    let la : Launch := ⟨(x.lk + k.offA * 1000) % 2 ^ 48, frameBytes k.hdrA pl, true, some (2 * c)⟩
    let lb : Launch := ⟨(x.lk + k.offB * 1000) % 2 ^ 48, frameBytes k.hdrB pl, true, some (2 * c + 1)⟩
    k.a < 4 → (s.dev.clock t).Launchable la.at48 →
    (k.portB = true → k.b < 4 ∧ k.b ≠ k.a ∧ (s.dev.clock t).Launchable lb.at48) →
    ∃ s', exec (.commandFrameBuilt t c) s = .next s' ∧ s'.dev.get R.CC_STATUS_FRAMES c = (k.built + 1) % 2 ^ 16 ∧
      s'.dev.cycle c = { k with capture := none, built := k.built + 1, gpioLast := some x.gpio } ∧
      s'.dev.launches k.a = s.dev.launches k.a ++ [la] ∧
      (k.portB = true → s'.dev.launches k.b = s.dev.launches k.b ++ [lb]) ∧
      s.Keeps s' t [R.CC_STATUS.off c 0] [.io, .time]) ∧
  (∀ (t q seq : Nat) (cm : Cmd) (b : List Byte) (s : State), s.dev.Running q seq 0x1000 cm → s.dev.Alone → cm.Tail 8 →
    cm.hostData = some (b, []) → b.length = 192 →
    let n := leAt b
    let c := n 0 1
    let u := n 1 1
    let two := bit (n 2 1) 0
    let at48 := (n 12 6 + 2 ^ 48 - n 8 4 * 1000) % 2 ^ 48
    let first := firstPeriodic (s.dev.clock t).wt48 at48 (n 4 4 * 1000)
    let rejected := fun (s' : State) reason result =>
      s'.dev.answer q seq = some ⟨Status.rejected, reason, 0, s.dev.moduleId, result⟩ ∧ s'.dev.io = s.dev.io ∧
        s'.dev.time = s.dev.time ∧ s'.dev.regs = s.dev.regs
    let held := (s.dev.trig u).armed = true ∨ s.dev.trigHeld u = true
    let bad := templateOk ((b.drop 32).take 80) = false ∨ (two = true ∧ templateOk ((b.drop 112).take 80) = false)
    ∃ s', exec (.ccSetup t q seq) s = .next s' ∧
      (if c ≤ 3 ∧ (s.dev.cycle c).running = true then rejected s' 0x1001 0
      else if n 4 4 = 0 then s'.dev.answer q seq = some ⟨Status.zeroRejected, 4, 0, s.dev.moduleId, 0⟩
      else match ccBadField b with
        | some off => rejected s' 0x1002 off
        | none =>
          (bad → rejected s' 0x1003 0) ∧ (¬bad → held → rejected s' 0x1004 0) ∧
          (¬bad → ¬held → s.dev.wtState = wtUnset → rejected s' 0x1005 0) ∧
          (¬bad → ¬held → s.dev.wtState ≠ wtUnset → (s'.dev.cycle c).running = true ∧ (s'.dev.cycle c).unit = u ∧
            (s'.dev.cycle c).period = n 4 4 ∧ (s'.dev.cycle c).portB = two ∧ s'.dev.reg R.CC_PERIOD c = n 4 4 ∧
            s'.dev.get R.CC_STATUS_RUNNING c = 1 ∧ s'.dev.get R.CC_STATUS_TRIG_UNIT c = u ∧
            s'.dev.reg R.TRIG_CTRL u = 0x50000000 ∧ (s'.dev.trig u).armed = true ∧ (s'.dev.trig u).next = first ∧
            (s'.dev.trig u).period = n 4 4 * 1000 ∧ s'.dev.answer q seq =
              some ⟨Status.success, 0, 0, s.dev.moduleId, (first + n 8 4 * 1000) % 2 ^ 48⟩)) ∧
      s.KeepsBut s' t (fun off => off ∈ [R.TRIG_AT_LO.off u 0, R.TRIG_AT_HI.off u 0, R.TRIG_PERIOD_M1.off u 0,
        R.TRIG_CTRL.off u 0, R.TRIG_STATUS.off u 0, R.CC_STATUS.off c 0, R.CC_PERIOD.off c 0, R.CC_LEAD.off c 0,
        R.CC_NEXT_LO.off c 0]) [.io, .time, .latch, .host, .pair]) ∧
  (∀ (t q seq : Nat) (cm : Cmd) (s : State), s.dev.Running q seq 0x1001 cm → s.dev.Alone → cm.Tail 1 → cm.p 0 1 < 4 →
    let c := cm.p 0 1
    let k := s.dev.cycle c
    k.unit < 16 →
    ∃ s', exec (.ccStop t q seq) s = .next s' ∧
      (if k.running = true then s'.dev.answer q seq = some ⟨Status.success, 0, 0, s.dev.moduleId, k.built % 2 ^ 64⟩ ∧
          s'.dev.cycle c = { Cycle.init with late := k.late } ∧ s'.dev.get R.CC_STATUS_RUNNING c = 0 ∧
          (s'.dev.trig k.unit).armed = false ∧ s'.dev.get R.TRIG_CTRL_ENABLE k.unit = 0
        else s'.dev.answer q seq = some ⟨Status.success, 0, 0, s.dev.moduleId, 0⟩ ∧ s'.dev.io = s.dev.io) ∧
      s.Keeps s' t [R.TRIG_CTRL.off k.unit 0, R.TRIG_STATUS.off k.unit 0, R.CC_STATUS.off c 0]
        [.io, .time, .host, .pair])

/-- R299, R303 to R308: a Paent port counts a flit with a bad CRC and asks for it again, takes the flit it expects and the
acknowledgement with it, sends unacknowledged flits again after 20 µs and retrains after eight such resends; it sends
flits of an envelope within its credits, otherwise null flits; an envelope received is dropped, delivered or sent on.
Model's choices in it, not rules: log 78, 79, 80, 82, 83. -/
def Obligations.PaentFlits : Prop :=
  (∀ (t : Nat) (v : Word) (s : State), s.dev.Reaches 0xB00000 → ∃ s', exec (.paentIdWrite t v) s = .next s' ∧
    (if (List.range 4).any (fun p => s.dev.pln p == plnUp && !s.dev.on R.PLN_CTRL_HOLD p) = true then s.Keeps s' t [] []
    else s'.dev.reg R.PAENT_ID = v.toNat &&& 0x80F9C1FF ∧ s'.dev.get R.PAENT_MGR_ID_CONFLICT = 0 ∧
      s.Keeps s' t [R.PAENT_ID.off 0 0, R.PAENT_MGR.off 0 0] [.sys])) ∧
  (∀ (t p : Nat) (flit : List Byte) (s : State), p < 4 → s.dev.pln p = plnUp → s.dev.get R.PLN_STATUS_RX_ASLEEP p = 0 →
    flit.length = 64 →
    let l := s.dev.link p
    let w := leAt flit 56 4
    (crcOf 1 (flit.take 60) ≠ leAt flit 60 4 → ∃ s', exec (.flitReceived t p flit) s = .next s' ∧
      s.dev.Counts s'.dev R.PNT_CRC_ERR_COUNT p ∧ s'.dev.link p = { l with nakDue := l.nakDue || !l.nakSet, nakSet := true } ∧
      s.Keeps s' t [R.PNT_CRC_ERR.off p 0] [.sys]) ∧
    (crcOf 1 (flit.take 60) = leAt flit 60 4 → bit w 7 = false → ∃ s', exec (.flitReceived t p flit) s = .next s' ∧
      (s'.dev.link p).rxSeq = (if bits w 31 20 = l.rxSeq ∧ bit w 6 = false then (l.rxSeq + 1) % 4096 else l.rxSeq) ∧
      (s'.dev.link p).nakSet = decide (bits w 31 20 ≠ l.rxSeq) ∧
      (s'.dev.link p).replay = (if l.replay.any (fun k => k.seq == bits w 19 8) then
        (l.replay.dropWhile fun k => k.seq != bits w 19 8).drop 1 else l.replay) ∧
      (bits w 31 20 ≠ l.rxSeq → (s'.dev.link p).part = l.part ∧ (s'.dev.link p).whole = l.whole) ∧
      s.Keeps s' t [] [.sys]) ∧
    (∀ k ks, crcOf 1 (flit.take 60) = leAt flit 60 4 → bit w 7 = true → l.replay = k :: ks →
      l.replay.any (fun k => k.seq == bits w 19 8) = false → l.tries + 1 < 8 →
      ∃ s', exec (.flitReceived t p flit) s = .next s' ∧ (s'.dev.link p).resend = some k.seq ∧
        (s'.dev.link p).tries = l.tries + 1 ∧ s.dev.Counts s'.dev R.PNT_REPLAYS_COUNT p ∧
        s.Keeps s' t (R.PNT_REPLAYS.off p 0 :: correctedOffs) [.sys, .recd])) ∧
  (∀ (t p : Nat) (k : Kept) (ks : List Kept) (s : State), p < 4 → s.dev.pln p = plnUp → (s.dev.link p).replay = k :: ks →
    (s.dev.link p).ackAt + 20 * qUs ≤ max s.dev.now t →
    ∃ s', exec (.replayTimeout t p) s = .next s' ∧ s.dev.Counts s'.dev R.PNT_REPLAYS_COUNT p ∧
      (if (s.dev.link p).tries + 1 < 8 then (s'.dev.link p).resend = some k.seq ∧
          (s'.dev.link p).tries = (s.dev.link p).tries + 1 ∧ s'.dev.pln p = plnUp
        else s'.dev.pln p = plnTraining ∧ s'.dev.inRouting p = false ∧ s.dev.Counts s'.dev R.PLN_RETRAINS_COUNT p) ∧
      s.KeepsBut s' t (fun off => 0xB00100 ≤ off ∨ off ∈ correctedOffs) [.sys, .recd]) ∧
  (∀ (t p pick : Nat) (s : State), p < 4 → s.dev.pln p = plnUp → s.dev.get R.PLN_STATUS_TX_ASLEEP p = 0 →
    (s.dev.lanes p).txFrom ≤ max s.dev.now t →
    let l := s.dev.link p
    let ack := (l.rxSeq + 4095) % 4096
    (∀ k, l.resend = some k.seq → l.replay.find? (fun x => x.seq == k.seq) = some k →
      ∃ s', exec (.flitSend t p pick) s = .next s' ∧
        (s'.dev.link p).sent = flitBytes k.content k.seq ack l.nakDue false k.credit ∧
        (s'.dev.link p).replay = l.replay ∧ (s'.dev.link p).txSeq = l.txSeq ∧ s.Keeps s' t [] [.sys]) ∧
    (l.resend = none → 1024 ≤ l.replay.length ∨ (l.cur = none ∧ s.dev.inRouting p = false) →
      ∃ s', exec (.flitSend t p pick) s = .next s' ∧
        (s'.dev.link p).sent = flitBytes (List.replicate 56 0) l.txSeq ack l.nakDue true l.credit.2 ∧
        (s'.dev.link p).replay = l.replay ∧ (s'.dev.link p).txSeq = l.txSeq ∧ s.Keeps s' t [] [.sys]) ∧
    (∀ o c more, l.resend = none → l.replay.length < 1024 → o.closes = none ∨ more ≠ [] →
      l.cur = some (o, c :: more) ∨ (l.cur = none ∧ s.dev.inRouting p = true ∧ s.dev.sys.sends = [] ∧ l.queue = [o] ∧
        o.env.flits = c :: more ∧ o.env.cls < 4 ∧ (o.injected = false ∨ s.dev.sys.vc1Hold = none)) →
      tabGetD l.spent 0 (o.env.cls * 2 + o.env.vc) < creditOf (o.env.cls * 2 + o.env.vc) →
      ∃ s', exec (.flitSend t p pick) s = .next s' ∧
        (s'.dev.link p).sent = flitBytes c l.txSeq ack l.nakDue false l.credit.2 ∧
        (s'.dev.link p).replay = l.replay ++ [⟨l.txSeq, c, l.credit.2⟩] ∧
        (s'.dev.link p).txSeq = (l.txSeq + 1) % 4096 ∧
        (s'.dev.link p).cur = (if more = [] then none else some (o, more)) ∧ s.Keeps s' t [] [.sys])) ∧
  (∀ (t p : Nat) (e : Env) (rest : List Env) (s : State), p < 4 → (s.dev.link p).whole = e :: rest →
    let one := { e with ttl := e.ttl - 1 }
    ∃ s', exec (.envelopeReceived t p) s = .next s' ∧ (s'.dev.link p).whole = rest ∧
      (typeClass e.type ≠ some e.cls → s.dev.Counts s'.dev R.PNT_BAD_TYPE_COUNT p ∧ s'.dev.sys.inbox = s.dev.sys.inbox) ∧
      (typeClass e.type = some e.cls → e.ttl ≤ 1 → e.mcast = true ∨ e.dest ≠ s.dev.moduleId →
        s.dev.Counts s'.dev R.PNT_TTL_DROP_COUNT p ∧ s'.dev.sys.inbox = s.dev.sys.inbox) ∧
      (typeClass e.type = some e.cls → e.mcast = false → e.dest = s.dev.moduleId →
        s'.dev.sys.inbox = s.dev.sys.inbox ++ [(p, one)]) ∧
      (∀ k, k ≠ p → typeClass e.type = some e.cls → 1 < e.ttl → e.mcast = false → e.dest ≠ s.dev.moduleId →
        s.dev.pairPort e.dest = none → s.dev.on R.ROUTE_VALID e.dest = true → e.vc = 0 →
        s.dev.on R.ROUTE_ON_FAILOVER e.dest = false → s.dev.get R.ROUTE_PRIMARY e.dest = k → k < 4 →
        (s'.dev.link k).queue = (s.dev.link k).queue ++ [⟨one, some (p, e.cls * 2 + e.vc), false, none⟩]) ∧
      s.Keeps s' t [R.PNT_TTL_DROP.off p 0, R.PNT_BAD_TYPE.off p 0] [.sys])

/-- R306: the initial credits of a Paent port by class and VC; while the credit of its class and VC is used up, the envelope
under way sends no flit, and no slot takes more credit than there is. -/
def Obligations.PaentCredits : Prop :=
  let credit (sel : Nat) : Nat := [32, 32, 128, 32, 512, 64, 64, 32].getD sel 0
  (∀ p sel, p < 4 → sel < 8 → tabGetD (State.reset.dev.link p).spent 0 sel = 0 ∧ creditOf sel = credit sel) ∧
  (∀ (t p pick : Nat) (s : State), p < 4 → ∃ s', exec (.flitSend t p pick) s = .next s' ∧
    (∀ sel, sel < 8 → tabGetD (s.dev.link p).spent 0 sel ≤ credit sel → tabGetD (s'.dev.link p).spent 0 sel ≤ credit sel) ∧
    (∀ sel, sel < 8 → credit sel ≤ tabGetD (s.dev.link p).spent 0 sel →
      tabGetD (s'.dev.link p).spent 0 sel = tabGetD (s.dev.link p).spent 0 sel)) ∧
  (∀ (t p pick : Nat) (o : OutEnv) (fs : List (List Byte)) (s : State), p < 4 → s.dev.pln p = plnUp →
    s.dev.get R.PLN_STATUS_TX_ASLEEP p = 0 → (s.dev.lanes p).txFrom ≤ max s.dev.now t → (s.dev.link p).resend = none →
    (s.dev.link p).cur = some (o, fs) → o.env.cls < 4 → o.env.vc < 2 →
    credit (o.env.cls * 2 + o.env.vc) ≤ tabGetD (s.dev.link p).spent 0 (o.env.cls * 2 + o.env.vc) →
    ∃ s', exec (.flitSend t p pick) s = .next s' ∧ (s'.dev.link p).cur = some (o, fs) ∧
      (s'.dev.link p).replay = (s.dev.link p).replay ∧ (s'.dev.link p).txSeq = (s.dev.link p).txSeq)

/-- R302, R308 to R310, R313, R314: the system manager gives every module of its directory the first hops of its ways, and
installs its own; a module takes what it is sent and holds VC1 until confirmed, 10 ms at most. Announcements go out on
every port, enter the directory and show a conflict of IDs; the best candidate for 500 ms becomes manager, and one not
heard for 500 ms is manager no more. Model's choices in it, not rules: log 78, 81, 83, 84. -/
def Obligations.PaentRoutesAndElection : Prop :=
  (∀ (t : Nat) (ls : List PaentLink) (groups : List McastGroup) (resv : List Resv) (s : State),
    let me := s.dev.moduleId
    (s.dev.manages = false → ∃ s', exec (.routeRecompute t ls groups resv) s = .next s' ∧ s.Keeps s' t [] []) ∧
    (s.dev.manages = true → ∃ s', exec (.routeRecompute t ls groups resv) s = .next s' ∧
      (∀ m, m < 512 → s.dev.placeOf m = none → m ∉ s.dev.sys.dir.map (·.1) → s'.dev.reg R.ROUTE m = 0) ∧
      (∀ m, m < 512 → m = me ∨ m ∈ s.dev.sys.dir.map (·.1) → s'.dev.get R.ROUTE_VALID m = 1 ∧
        s'.dev.get R.ROUTE_PRIMARY m = s.dev.primaryHop ls me m % 8 ∧
        s'.dev.get R.ROUTE_FAILOVER m = failoverHop ls (levels ls me) me m % 8) ∧
      (∀ m ∈ s.dev.sys.dir.map (·.1), m ≠ me → ∃ gs, (m, .routes (s.dev.routesOf ls (levels ls me) m) gs) ∈ s'.dev.sys.out) ∧
      s.KeepsBut s' t (fun off => 0xB00100 ≤ off) [.sys, .recd])) ∧
  (∀ (t : Nat) (r : RouteSet) (s : State), (r.routes.map (·.1)).Nodup → (∀ e ∈ r.shed, e < 256) →
    ∃ s', exec (.routeInstall t r) s = .next s' ∧
      (∀ x ∈ r.routes, x.1 < 512 → s'.dev.get R.ROUTE_VALID x.1 = 1 ∧ s'.dev.get R.ROUTE_PRIMARY x.1 = x.2.1 % 8 ∧
        s'.dev.get R.ROUTE_FAILOVER x.1 = x.2.2 % 8) ∧
      (∀ p v, p < 4 → r.resOut[p]? = some v → s'.dev.reg R.PNT_RES_OUT p = v % 2 ^ 17) ∧
      (∀ e ∈ r.shed, s.dev.get R.RX_STATUS_VALID e = 1 → s'.dev.get R.RX_STATUS_SHED e = 1) ∧
      s'.dev.sys.vc1Hold = (if r.hold then some (max s.dev.now t) else s.dev.sys.vc1Hold) ∧
      s.KeepsBut s' t (fun off => 0xB00100 ≤ off) [.sys, .recd]) ∧
  (∀ (t a : Nat) (confirmed : Bool) (s : State), s.dev.sys.vc1Hold = some a →
    ∃ s', exec (.vc1HoldTimeout t confirmed) s = .next s' ∧ s'.dev.sys = { s.dev.sys with
      vc1Hold := (if confirmed = true ∨ a + 10 * qMs ≤ max s.dev.now t then none else some a) } ∧ s.Keeps s' t [] [.sys]) ∧
  (∀ (t : Nat) (s : State), ∃ s', exec (.announceTimer t) s = .next s' ∧
    (s.dev.get R.PAENT_ID_VALID = 0 → s.Keeps s' t [] []) ∧
    (s.dev.get R.PAENT_ID_VALID = 1 → s'.dev.sys.annNum = s.dev.sys.annNum + 1 ∧
      (∀ p, p < 4 → (s'.dev.link p).queue = (if s.dev.announces p then (s.dev.link p).queue ++
        [⟨s.dev.ownEnv 3 7 (s.dev.get R.PNT_PSTATUS_NEIGHBOUR p), none, false, none⟩] else (s.dev.link p).queue)) ∧
      s.Keeps s' t [R.PAENT_MGR.off 0 0] [.sys])) ∧
  (∀ (t p : Nat) (a : Announce) (s : State), p < 4 → a.module < 512 → s.dev.Alone →
    (a.module = s.dev.moduleId → s.dev.get R.PAENT_MGR_ID_CONFLICT = 0 →
      ∃ s', exec (.announceReceived t p a) s = .next s' ∧
        s'.dev.get R.PAENT_MGR_ID_CONFLICT = b2n (decide (a.uid < Config.moduleUid)) ∧
        (a.uid < Config.moduleUid → ∀ k, k < 4 → s.dev.isGrid k = true → s'.dev.inRouting k = false) ∧
        s.KeepsBut s' t (fun off => 0xB00000 < off) [.sys, .recd]) ∧
    (a.module ≠ s.dev.moduleId → tabGet? s.dev.sys.dir a.module = none →
      ∃ s', exec (.announceReceived t p a) s = .next s' ∧
        tabGet? s'.dev.sys.dir a.module = some ⟨a.uid, a.x, a.y, a.prio, a.manager, a.num, max s.dev.now t⟩ ∧
        (∀ k, k < 4 → k ≠ p → s.dev.announces k = true → ∃ o ∈ (s'.dev.link k).queue, o.env.src = a.module) ∧
        (a.manager = a.module → s.dev.sys.manager = none → s'.dev.sys.manager = some a.module ∧
          s'.dev.get R.PAENT_MGR_MANAGER = a.module) ∧
        (a.manager ≠ a.module → s'.dev.sys.manager = s.dev.sys.manager) ∧
        s.Keeps s' t (R.PAENT_MGR.off 0 0 :: recOffs) [.sys, .recd, .lay, .host, .pair])) ∧
  (∀ (t a : Nat) (s : State), s.dev.Alone → s.dev.sys.bestFrom = some a → s.dev.get R.PAENT_ID_VALID = 1 →
    s.dev.get R.PAENT_MGR_MGR_PRIO ≠ 0 → a + 500 * qMs ≤ max s.dev.now t →
    (∀ e ∈ s.dev.sys.dir, e.1 = s.dev.moduleId ∨ betterCandidate (e.2.prio, e.1) s.dev.mgrCandidate = false) →
    s.dev.sys.manager ≠ some s.dev.moduleId →
    ∃ s', exec (.electionTimer t) s = .next s' ∧ s'.dev.sys.manager = some s.dev.moduleId ∧
      s'.dev.get R.PAENT_MGR_IS_MANAGER = 1 ∧ s'.dev.get R.PAENT_MGR_MANAGER = s.dev.moduleId ∧
      s.Keeps s' t (R.PAENT_MGR.off 0 0 :: recOffs) [.sys, .recd, .lay, .host, .pair]) ∧
  (∀ (t m : Nat) (e : DirEntry) (s : State), s.dev.Alone → s.dev.sys.manager = some m → m ≠ s.dev.moduleId →
    tabGet? s.dev.sys.dir m = some e → e.heard + 500 * qMs ≤ max s.dev.now t →
    ∃ s', exec (.managerSilenceTimeout t) s = .next s' ∧ s'.dev.sys.manager = none ∧ tabGet? s'.dev.sys.dir m = none ∧
      s'.dev.get R.PAENT_MGR_MANAGER = 0 ∧ s'.dev.get R.PAENT_MGR_IS_MANAGER = 0 ∧
      s'.dev.get R.PAENT_MGR_TIME_LOCK = 0 ∧
      s.Keeps s' t (R.PAENT_MGR.off 0 0 :: recOffs) [.sys, .recd, .lay, .host, .pair])

/-- R311, R312, R315 to R317: TIME envelopes give a port its delay and offset, and reports of a module's offset gain and lose
its time lock; a picture received whole becomes OUT in its reception pool, one without time lock or out of order does not;
REMOTE_SETUP makes a reception entry where it fits, REMOTE_CLEAR takes it away and answers its pictures. Model's choices
in it, not rules: log 81, 83, 115. -/
def Obligations.RemoteSources : Prop :=
  (∀ (t p : Nat) (s : State), p < 4 → ∃ s', exec (.timeExchangeTimer t p) s = .next s' ∧
    (s'.dev.link p).queue = (if s.dev.inRouting p then (s.dev.link p).queue ++
      [⟨s.dev.ownEnv 0 0 (s.dev.get R.PNT_PSTATUS_NEIGHBOUR p), none, false, none⟩] else (s.dev.link p).queue) ∧
    s.Keeps s' t [] [.sys]) ∧
  (∀ (t p : Nat) (t1 t2 t3 t4 : Int) (s : State), p < 4 → s.dev.inRouting p = true →
    let ts := ((((t4 - t1) - (t3 - t2)) / 2, ((t2 - t1) - (t4 - t3)) / 2) :: (s.dev.link p).times).take 16
    ∃ s', exec (.timeEnvelopeReceived t p t1 t2 t3 t4) s = .next s' ∧ (s'.dev.link p).times = ts ∧
      s'.dev.reg R.PNT_DELAY p = ofSigned 32 ((ts.map (·.1)).sum / ts.length) ∧
      s'.dev.reg R.PNT_OFFSET p = ofSigned 32 ((ts.map (·.2)).sum / ts.length) ∧
      s.Keeps s' t (R.PNT_DELAY.off p 0 :: R.PNT_OFFSET.off p 0 :: R.PAIR_STATUS.off 0 0 :: recOffs) [.sys, .recd, .pair]) ∧
  (∀ (t : Nat) (rs : List (Nat × Option Int)) (s : State), (rs.map (·.1)).Nodup →
    ∃ s', exec (.timeOffsetReport t rs) s = .next s' ∧
      (∀ r ∈ rs, tabGetD s'.dev.sys.locks ⟨0, 0, false⟩ r.1 =
        (match r.2 with
          | none => ⟨0, 0, false⟩
          | some v =>
            let k := tabGetD s.dev.sys.locks ⟨0, 0, false⟩ r.1
            if v.natAbs ≤ 4000 then ⟨k.good + 1, 0, k.lock || decide (16 ≤ k.good + 1)⟩
            else ⟨0, k.bad + 1, k.lock && decide (k.bad + 1 < 3)⟩)) ∧
      (∀ r ∈ rs, r.1 = s.dev.moduleId →
        s'.dev.get R.PAENT_MGR_TIME_LOCK = b2n (tabGetD s'.dev.sys.locks ⟨0, 0, false⟩ r.1).lock) ∧
      s.Keeps s' t (R.PAENT_MGR.off 0 0 :: R.PAENT_TIME_OFFSET.off 0 0 :: recOffs) [.sys, .recd]) ∧
  (∀ (t port r : Nat) (e : Env) (v : Recv) (s : State), s.dev.sys.inbox.find? (fun e => e.2.type == 4) = some (port, e) →
    s.dev.recvOf e.src (leAt e.td 0 1) = some (r, v) → tabGet? s.dev.sys.recvs r = some v → r < 256 →
    s.dev.get R.RX_STATUS_SHED r = 0 → (∀ l ∈ s.dev.canvasOn (.recv r), l < 4096) →
    let flags := leAt e.td 1 1
    (∀ i, bit flags 0 = true → bit flags 1 = true → v.rx = none → s.dev.lockOf s.dev.moduleId = true →
      s.dev.lockOf e.src = true →
      ((List.range v.count).find? fun i => (tabGetD v.slots PicSlot.free i).isFree) = some i →
      ∃ s' v', exec (.pictureEnvelope t) s = .next s' ∧ tabGet? s'.dev.sys.recvs r = some v' ∧ v'.rx = none ∧
        (tabGetD v'.slots PicSlot.free i).out = true ∧
        (∀ j, j ≠ i → (tabGetD v'.slots PicSlot.free j).out = false) ∧ s.dev.Counts s'.dev R.RX_PICTURES_COUNT r ∧
        s'.dev.reg R.RX_OUT r = (2 ^ 31 + i) % 2 ^ 32 ∧
        s.KeepsBut s' t (fun off => 0x800000 ≤ off) [.sys, .mem, .lay, .comp, .recd]) ∧
    (bit flags 0 = true → v.rx = none → s.dev.lockOf s.dev.moduleId = false ∨ s.dev.lockOf e.src = false →
      ∃ s', exec (.pictureEnvelope t) s = .next s' ∧ s.dev.Counts s'.dev R.RX_TIME_REJECT_COUNT r ∧
        s'.dev.sys.recvs = s.dev.sys.recvs ∧ s.Keeps s' t [R.RX_TIME_REJECT.off r 0] [.sys]) ∧
    (∀ k, bit flags 0 = false → v.rx = some k → k.pic ≠ leAt e.td 2 2 ∨ k.off ≠ leAt e.td 4 4 →
      ∃ s' v', exec (.pictureEnvelope t) s = .next s' ∧ tabGet? s'.dev.sys.recvs r = some v' ∧ v'.rx = none ∧
        s.dev.Counts s'.dev R.RX_DISCARD_COUNT r ∧ s.Keeps s' t [R.RX_DISCARD.off r 0] [.sys])) ∧
  (∀ (t q seq r : Nat) (src : RemoteSource) (su : SlotGeometry) (c : Cmd) (s : State), s.dev.Running q seq 0x0B00 c →
    s.dev.Alone → c.Tail 16 → ((List.range 256).find? fun r => (tabGet? s.dev.sys.recvs r).isNone) = some r →
    c.p 0 2 < 512 → c.p 0 2 ≠ s.dev.moduleId → c.p 3 1 ≤ 1 → c.p 4 1 ≤ 7 → c.p 5 1 = 0 → c.p 6 1 = 0 → c.p 7 1 = 0 →
    c.p 8 8 % 65536 = 0 → src.setup = some su →
    let m := c.p 0 2
    let k := c.p 2 1
    let g := bit (c.p 3 1) 0
    let x : Setup := ⟨su.tenBit, 0, c.p 4 1 + 1, su.maxW, su.maxH, su.type, su.format, c.p 8 8⟩
    let size := x.slots * x.slotSize
    let res := if g then resOf (x.recordSize x.maxW x.maxH) src.rateNum src.rateDen else 0
    let rejected := fun (s' : State) status reason =>
      s'.dev.answer q seq = some ⟨status, reason, 0, s.dev.moduleId, 0⟩ ∧ s'.dev.sys = s.dev.sys
    ∃ s', exec (.remoteSetup t q seq src) s = .next s' ∧
      (if (s.dev.recvOf m k).isSome = true then rejected s' Status.rejected 0x0B02
      else if s.dev.routed m = false then rejected s' Status.noRoute 0
      else if s.dev.recvRangeBad (c.p 8 8) size = true then rejected s' Status.rejected 0x0602
      else if s.dev.lockOf s.dev.moduleId = false ∨ s.dev.lockOf m = false then rejected s' Status.rejected 0x0B05
      else if g = true ∧ ∃ l ∈ src.links, l.2 < l.1 + res then rejected s' Status.refused 0x0B06
      else tabGet? s'.dev.sys.recvs r = some ⟨m, k, g, x, x.lease, [], none, false⟩ ∧
        s'.dev.get R.RX_STATUS_VALID r = 1 ∧ s'.dev.get R.RX_STATUS_SOURCE r = m ∧ s'.dev.reg R.RX_RES r = res % 2 ^ 32 ∧
        (s.dev.get R.PAENT_MGR_MANAGER, .subscribe m k) ∈ s'.dev.sys.out ∧
        s'.dev.answer q seq = some ⟨Status.success, 0, 0, s.dev.moduleId, (size % 2 ^ 32 + r * 2 ^ 32) % 2 ^ 64⟩) ∧
      s.Keeps s' t ([R.RX_STATUS.off r 0, R.RX_OUT.off r 0, R.RX_RES.off r 0, R.RX_PICTURES.off r 0, R.RX_NO_SLOT.off r 0,
        R.RX_DISCARD.off r 0, R.RX_TIME_REJECT.off r 0] ++ recOffs) [.sys, .recd, .host, .pair]) ∧
  (∀ (t q seq : Nat) (c : Cmd) (s : State), s.dev.Running q seq 0x0B01 c → s.dev.Alone → c.Tail 3 → c.p 0 2 < 512 →
    (s.dev.recvOf (c.p 0 2) (c.p 2 1) = none → ∃ s', exec (.remoteClear t q seq) s = .next s' ∧
      s'.dev.answer q seq = some ⟨Status.success, 0, 0, s.dev.moduleId, 0⟩ ∧ s.Keeps s' t [] [.host, .pair]) ∧
    (∀ r v, s.dev.recvOf (c.p 0 2) (c.p 2 1) = some (r, v) → r < 256 →
      ∃ s', exec (.remoteClear t q seq) s = .next s' ∧
        (if ∀ e ∈ v.slots, e.2.lease = 0 then tabGet? s'.dev.sys.recvs r = none
        else ∃ v', tabGet? s'.dev.sys.recvs r = some v' ∧ v'.gone = true ∧ v'.rx = none ∧ ∀ e ∈ v'.slots, e.2.out = false) ∧
        s'.dev.reg R.RX_STATUS r = 0 ∧ s'.dev.reg R.RX_OUT r = 0 ∧ s'.dev.reg R.RX_RES r = 0 ∧
        (s.dev.get R.PAENT_MGR_MANAGER, .unsubscribe (c.p 0 2) (c.p 2 1)) ∈ s'.dev.sys.out ∧
        s'.dev.answer q seq = some ⟨Status.success, 0, 0, s.dev.moduleId, s.dev.reg R.RX_PICTURES r⟩ ∧
        s.Keeps s' t [R.RX_STATUS.off r 0, R.RX_OUT.off r 0, R.RX_RES.off r 0] [.sys, .host, .pair]))

/-- R326, R329 to R336: an attempt starts with a role, an identity and the TIME phase. The sweep sets the middle of each
lane's window or fails the lane; alignment fails the lanes without the marker or with too much skew, and the port without
a lane; GO brings the maps into force. A step over 10 ms or an attempt over 200 ms fails, and its retry comes after the
backoff. Model's choices in it, not rules: log 32, 84. -/
def Obligations.PaentTraining : Prop :=
  ∀ (t p : Nat) (s : State), p < 4 →
    let x := s.dev.lanes p
    let now := max s.dev.now t
    let step := s.dev.get R.PLN_STATUS_STEP p
    let noClock := (s.dev.clocking p == 0 && s.dev.los p 5) = true
    (s.dev.pln p = plnOff → s.dev.paentRole p ≠ 0 → s.dev.get R.PAENT_ID_VALID = 1 → phaseTime ≤ s.dev.phase →
      s.dev.phase ≤ phaseRunning → s.dev.clockAt 3 p = true → s.dev.clockOn 4 = true →
      ∃ s', exec (.paentAttemptStart t p) s = .next s' ∧ s.dev.Attempts s'.dev p ∧
        s'.dev.get R.PNT_PSTATUS_ROLE p = s.dev.paentRole p % 8 ∧ s.KeepsBut s' t (portWs p) [.sys, .recd]) ∧
    (∀ masks t0, s.dev.pln p = plnTraining → step = 2 → x.t0 = some t0 → t0 + 9 * qMs ≤ now →
      ∃ s', exec (.paentSweepDone t p masks) s = .next s' ∧ s'.dev.get R.PLN_STATUS_STEP p = 3 ∧
        (∀ l ∈ s.dev.dataLanes p,
          if s.dev.get R.LN_CTRL_DISABLE p l = 1 then s'.dev.get R.LN_STATUS_FAILED p l = 0 ∧
            s'.dev.get R.LN_STATUS_CAUSE p l = 6
          else if s.dev.los p l then s'.dev.get R.LN_STATUS_FAILED p l = 1 ∧ s'.dev.get R.LN_STATUS_CAUSE p l = 1
          else match window (masks.getD l 0) with
            | none => s'.dev.get R.LN_STATUS_FAILED p l = 1 ∧ s'.dev.get R.LN_STATUS_CAUSE p l = 2
            | some (a, b) => s'.dev.get R.LN_STATUS_WIN_LO p l = a ∧ s'.dev.get R.LN_STATUS_WIN_HI p l = b ∧
              s'.dev.get R.LN_CTRL_PEAK p l = (a + b) / 2 ∧ bit (s'.dev.lanes p).pass l = true) ∧
        s.KeepsBut s' t (fun off => portWs p off ∨ off ∈ degradedOffs) [.sys, .recd, .err, .host]) ∧
    (∀ found, s.dev.pln p = plnTraining → step = 3 →
      let swept := (s.dev.dataLanes p).filter (bit x.pass)
      ∃ s', exec (.paentAlignDone t p found) s = .next s' ∧
        (∀ l ∈ swept, match found.find? fun f => f.1 == l with
          | none => s'.dev.get R.LN_STATUS_MATCH p l = 0 ∧ s'.dev.get R.LN_STATUS_FAILED p l = 1 ∧
            s'.dev.get R.LN_STATUS_CAUSE p l = 3
          | some f => s'.dev.get R.LN_STATUS_MATCH p l = 1 ∧ s'.dev.get R.LN_STATUS_LOA p l = 0 ∧
            (s.dev.get R.PLN_CTRL_MANUAL p = 0 → s'.dev.get R.LN_STATUS_SLIP_POS p l = f.2.1 % 32)) ∧
        (∀ l, l < 6 → (bit (s'.dev.lanes p).pass l = true ↔ l ∈ swept ∧ s'.dev.get R.LN_STATUS_FAILED p l = 0)) ∧
        (if (s'.dev.lanes p).pass = 0 then s.dev.FailsAttempt s'.dev p 3 else s'.dev.get R.PLN_STATUS_STEP p = 5) ∧
        s.KeepsBut s' t (fun off => portWs p off ∨ off ∈ degradedOffs) [.sys, .recd, .err, .host]) ∧
    (∀ l v, l < 6 → s.dev.Reaches 0xB40100 → bit v.toNat 31 = true → ∃ s', exec (.laneSlip t p l v) s = .next s' ∧
      s'.dev.get R.LN_CTRL_DISABLE p l = bits v.toNat 30 30 ∧
      (if s.dev.pln p = plnTraining ∧ step = 3 then s'.dev.get R.LN_STATUS_MATCH p l = 0 ∧
        s'.dev.get R.LN_STATUS_SLIP_POS p l = (s.dev.get R.LN_STATUS_SLIP_POS p l + 1) % 32
      else s'.dev.get R.LN_STATUS_SLIP_POS p l = s.dev.get R.LN_STATUS_SLIP_POS p l) ∧
      s.Keeps s' t [R.LN_CTRL.off p l, R.LN_STATUS.off p l] [.sys]) ∧
    (∀ n, s.dev.pln p = plnTraining → step = 5 → x.go = true → x.ready = true →
      let rx := laneMap x.pass
      let tx := laneMap x.peerPass
      ∃ s', exec (.paentGoReceived t p n) s = .next s' ∧
        (if rx = [] ∨ tx = [] then s.dev.FailsAttempt s'.dev p 3
        else s'.dev.pln p = plnUp ∧ s'.dev.get R.PLN_STATUS_TX_WIDTH p = tx.length ∧
          s'.dev.get R.PLN_STATUS_RX_WIDTH p = rx.length ∧
          (∀ l, l < 6 → s'.dev.get R.LN_STATUS_RX_LOGICAL p l = (rx.idxOf? l).getD 7 ∧
            s'.dev.get R.LN_STATUS_TX_LOGICAL p l = (tx.idxOf? l).getD 7) ∧
          (s'.dev.link p).neighbour = some n ∧ (s'.dev.lanes p).fails = 0 ∧
          (s.dev.get R.PLN_CTRL_HOLD p = 0 → s'.dev.inRouting p = decide (s.dev.routeCause p n = 0)) ∧
          (s.dev.get R.PLN_CTRL_HOLD p = 1 → s'.dev.inRouting p = false)) ∧
        s.KeepsBut s' t (portWs p) [.sys, .recd]) ∧
    (s.dev.pln p = plnTraining → x.stepAt + 10 * qMs < now → ∃ s', exec (.paentStepTimeout t p) s = .next s' ∧
      (noClock → s.dev.FailsAttempt s'.dev p 4) ∧ (¬noClock → s.dev.FailsAttempt s'.dev p 1) ∧
      s.KeepsBut s' t (portWs p) [.sys, .recd]) ∧
    (s.dev.pln p = plnTraining → x.start + 200 * qMs < now → ∃ s', exec (.paentAttemptTimeout t p) s = .next s' ∧
      (noClock → s.dev.FailsAttempt s'.dev p 4) ∧ (¬noClock → s.dev.FailsAttempt s'.dev p 2) ∧
      s.KeepsBut s' t (portWs p) [.sys, .recd]) ∧
    (s.dev.pln p = plnAbsent ∨ s.dev.pln p = plnWait → x.retryAt ≤ now →
      ∃ s', exec (.paentRetryTimer t p) s = .next s' ∧ s.dev.Attempts s'.dev p ∧
        s.KeepsBut s' t (portWs p) [.sys, .recd])

/-- R324, R328, R329, R337 to R339: a training frame tells an attempt its partner's lanes, and an UP port of its partner's
sleep or, the second time on one lane, of a retraining. Loss of signal, lock or alignment on a mapped lane retrains an UP
port that is awake. PLN_CTRL retrains, holds, puts to sleep and wakes a port. Model's choices in it, not rules: log 84,
116. -/
def Obligations.PaentLanes : Prop :=
  ∀ (t p : Nat) (s : State), p < 4 →
    let x := s.dev.lanes p
    let now := max s.dev.now t
    let step := s.dev.get R.PLN_STATUS_STEP p
    (∀ l region, l < 6 → s.dev.get R.PLN_STATUS_RX_ASLEEP p = 0 → s.dev.clockOn 4 = true →
      let b := (trainingData l region).1.take 16
      let fl := leAt b 2 1
      let stuffed := fun (s' : State) => s'.dev.reg R.LN_STUFF p l =
        (s.dev.reg R.LN_STUFF p l + (trainingData l region).2) % 2 ^ 32
      leAt b 0 1 = 0xC5 →
      (s.dev.pln p = plnTraining → leAt b 1 1 = l → ∃ s', exec (.paentTrainingFrame t p l region) s = .next s' ∧
        stuffed s' ∧ tabGetD (s'.dev.lanes p).frames 0 l = tabGetD x.frames 0 l + 1 ∧
        (s'.dev.lanes p).peer = some (leAt b 4 2 % 512, leAt b 6 1) ∧
        (step = 3 → 1 ≤ tabGetD x.frames 0 l → s'.dev.get R.LN_STATUS_MATCH p l = 1) ∧
        (step = 5 → (s'.dev.lanes p).peerPass = leAt b 3 1 % 64 ∧ (s'.dev.lanes p).ready = (x.ready || bit fl 1) ∧
          (s'.dev.lanes p).go = (x.go || bit fl 2)) ∧ s.KeepsBut s' t (portWs p) [.sys]) ∧
      (s.dev.pln p = plnUp → ∃ s', exec (.paentTrainingFrame t p l region) s = .next s' ∧ stuffed s' ∧
        (if bit fl 3 then (s'.dev.lanes p).sleepSeen = true
        else if s.dev.get R.PLN_STATUS_PARTNER_TX_ASLEEP p = 1 ∨ x.sleepSeen = true then
          (bit fl 2 = true → (s'.dev.lanes p).sleepSeen = false ∧ s'.dev.get R.PLN_STATUS_PARTNER_TX_ASLEEP p = 0) ∧
          (bit fl 2 = false → (s'.dev.lanes p).wakeRx.isSome = true)
        else if bit x.ams l then s.dev.Attempts s'.dev p
        else bit (s'.dev.lanes p).ams l = true) ∧ s.KeepsBut s' t (portWs p) [.sys, .recd])) ∧
    (∀ (l n : Nat) (set : Bool), l < 6 → s.dev.clockOn 4 = true →
      (∃ s', exec (.laneLos t p l set) s = .next s' ∧ s'.dev.get R.LN_STATUS_LOS p l = b2n set ∧
        (set = true → s'.dev.get R.LN_STATUS_LOS_SEEN p l = 1) ∧
        (set = true → s.dev.pln p = plnUp → x.sleepSeen = true → s'.dev.get R.PLN_STATUS_PARTNER_TX_ASLEEP p = 1) ∧
        (set = true → x.sleepSeen = false → s.dev.laneCounts p l = true → s.dev.Attempts s'.dev p) ∧
        s.KeepsBut s' t (portWs p) [.sys, .recd]) ∧
      (∃ s', exec (.laneLol t p l set) s = .next s' ∧ s'.dev.get R.LN_STATUS_LOL p l = b2n set ∧
        (set = true → s'.dev.get R.LN_STATUS_LOL_SEEN p l = 1) ∧
        (if set = true ∧ s.dev.laneCounts p l = true then s.dev.Attempts s'.dev p else s'.dev.pln p = s.dev.pln p) ∧
        s.KeepsBut s' t (portWs p) [.sys, .recd]) ∧
      (∃ s', exec (.laneLoa t p l n) s = .next s' ∧
        s'.dev.reg R.LN_MARKER_ERR p l = min (s.dev.reg R.LN_MARKER_ERR p l + n) (2 ^ 32 - 1) ∧
        (4 ≤ n → s'.dev.get R.LN_STATUS_LOA p l = 1 ∧ s'.dev.get R.LN_STATUS_LOA_SEEN p l = 1) ∧
        (if 4 ≤ n ∧ s.dev.laneCounts p l = true then s.dev.Attempts s'.dev p else s'.dev.pln p = s.dev.pln p) ∧
        s.KeepsBut s' t (portWs p) [.sys, .recd])) ∧
    (∀ v : Word, s.dev.Reaches 0xB40000 →
      let n := v.toNat
      let awake := fun (s' : State) => s'.dev.get R.PLN_STATUS_TX_ASLEEP p = 0 ∧ s'.dev.get R.PLN_STATUS_RX_ASLEEP p = 0
      (bit n 31 = true → s.dev.pln p ≠ plnOff → ∃ s', exec (.paentRetrain t p v) s = .next s' ∧
        s.dev.Attempts s'.dev p ∧ awake s' ∧ (s'.dev.lanes p).fails = 0 ∧ s.KeepsBut s' t (portWs p) [.sys, .recd]) ∧
      (bit n 31 = false → bits n 30 30 ≠ s.dev.get R.PLN_CTRL_HOLD p → ∃ s', exec (.paentHold t p v) s = .next s' ∧
        s'.dev.get R.PLN_CTRL_HOLD p = bits n 30 30 ∧
        (s.dev.pln p = plnUp → bit n 30 = true → s'.dev.inRouting p = false ∧ s'.dev.get R.PNT_PSTATUS_CAUSE p = 1) ∧
        (s.dev.pln p = plnUp → bit n 30 = false → awake s' ∧ ∀ m, (s.dev.link p).neighbour = some m →
          s'.dev.inRouting p = decide (s.dev.routeCause p m = 0)) ∧
        s.KeepsBut s' t (portWs p) [.sys, .recd]) ∧
      (bit n 31 = false → bit n 28 = true → s.dev.pln p = plnUp → bits n 30 30 = s.dev.get R.PLN_CTRL_HOLD p →
        ∃ s', exec (.paentTxSleep t p v) s = .next s' ∧
        s'.dev.get R.PLN_STATUS_TX_ASLEEP p =
          (if bit n 30 then 1 else s.dev.get R.PLN_STATUS_TX_ASLEEP p) ∧ s.KeepsBut s' t (portWs p) [.sys, .recd]) ∧
      (bit n 31 = false → bit n 28 = false → s.dev.get R.PLN_STATUS_TX_ASLEEP p = 1 →
        ∃ s', exec (.paentTxWake t p v) s = .next s' ∧ s'.dev.get R.PLN_STATUS_TX_ASLEEP p = 0 ∧
        (s'.dev.lanes p).txFrom = now + 202 * qUs ∧ s.KeepsBut s' t (portWs p) [.sys, .recd]) ∧
      (bit n 31 = false → bit n 27 = true → s.dev.pln p = plnUp → bits n 30 30 = s.dev.get R.PLN_CTRL_HOLD p →
        ∃ s', exec (.paentRxSleep t p v) s = .next s' ∧
        s'.dev.get R.PLN_STATUS_RX_ASLEEP p =
          (if bit n 30 then 1 else s.dev.get R.PLN_STATUS_RX_ASLEEP p) ∧ s.KeepsBut s' t (portWs p) [.sys, .recd]) ∧
      (bit n 31 = false → bit n 27 = false → s.dev.get R.PLN_STATUS_RX_ASLEEP p = 1 →
        ∃ s', exec (.paentRxWake t p v) s = .next s' ∧ s'.dev.get R.PLN_STATUS_RX_ASLEEP p = 0 ∧
        (s'.dev.lanes p).wakeRx = some now ∧ s.KeepsBut s' t (portWs p) [.sys, .recd])) ∧
    (∀ a, x.wakeRx = some a → s.dev.pln p = plnUp → a + 10 * qMs ≤ now →
      ∃ s', exec (.paentWakeTimeout t p) s = .next s' ∧ s.dev.Attempts s'.dev p ∧
        s.KeepsBut s' t (portWs p) [.sys, .recd]) ∧
    (∀ found, s.dev.pln p = plnUp → (∀ f ∈ found, f.1 < 6) → ∃ s', exec (.paentAlignDone t p found) s = .next s' ∧
      (s'.dev.lanes p).wakeRx = none ∧ (∀ f ∈ found, s'.dev.get R.LN_STATUS_LOA p f.1 = 0 ∧
        s'.dev.get R.LN_STATUS_MATCH p f.1 = 1) ∧ s.KeepsBut s' t (portWs p) [.sys])

/-- R341 to R344, R357: what the classes of IL_1 and IL_2 make of a unit that claims and of one that does not; contention that
lasts 10 ms, a line that reads wrong for 10 µs, and a claim that could not start for 10 ms are interlock faults. R341,
R344 to R346, R350, R356: at a handover instant the unit that releases stops claiming 2 µs before, the one that is due
starts its claim 1 µs before if the line reads NONE, and a claimer that reads ONE takes over; a unit that seeks for 100 ms
plans a claim or finds that the partner holds the line; a preferred standby asks for its revert once. Model's choices in
it, not rules: log 45, 86, 87. -/
def Obligations.PairInterlockAndHandovers : Prop :=
  ((∀ (t il1 il2 : Nat) (s : State), il1 ≤ 2 → il2 ≤ 2 → s.dev.FencesNamed →
    let level := if il1 = il2 then il1 else 3
    ∃ s', exec (.interlockLevelChange t il1 il2) s = .next s' ∧ s'.dev.pair.il1 = il1 ∧ s'.dev.pair.il2 = il2 ∧
      s'.dev.get R.PAIR_STATUS_IL_LEVEL = level ∧
      s'.dev.get R.PAIR_STATUS_OWNS = b2n (s'.dev.on R.PAIR_STATUS_CLAIM && level == 1) ∧
      (s.dev.on R.PAIR_STATUS_CLAIM = false → s'.dev.on R.PAIR_STATUS_CLAIM = false ∧
        s.Keeps s' t [R.PAIR_STATUS.off 0 0] [.pair]) ∧
      (s.dev.on R.PAIR_STATUS_CLAIM = true →
        (level = 1 → s.dev.pst ∉ [prSolo, prFailed, prActive, prOff] → s.dev.TakesOver s'.dev) ∧
        (level = 2 → s.dev.on R.PAIR_STATUS_PREFERRED = true → s'.dev.on R.PAIR_STATUS_CLAIM = true ∧
          s'.dev.pair.contAt = some (s.dev.pair.contAt.getD (max s.dev.now t))) ∧
        (level = 2 → s.dev.on R.PAIR_STATUS_PREFERRED = false → s'.dev.on R.PAIR_STATUS_CLAIM = false ∧
          s'.dev.pair.barred = true ∧ (s.dev.pst = prActive ∨ s.dev.pst = prSeeking → s'.dev.pst = prSeeking)) ∧
        (level = 0 ∨ level = 3 → s'.dev.on R.PAIR_STATUS_CLAIM = true ∧ s'.dev.pair.contAt = none) ∧
        s.KeepsBut s' t pairWs [.pair, .host, .recd, .lay, .io, .sys])) ∧
  (∀ (t a : Nat) (s : State), s.dev.pair.contAt = some a → s.dev.on R.PAIR_STATUS_CLAIM = true →
    s.dev.on R.PAIR_STATUS_PREFERRED = true → s.dev.ilLevel = 2 → a + 10 * qMs ≤ max s.dev.now t →
    ∃ s', exec (.contentionTimeout t) s = .next s' ∧ (s.dev.clock t).Faults s'.dev 4 ∧
      s.Keeps s' t (R.PAIR_STATUS.off 0 0 :: recOffs) [.pair, .recd]) ∧
  (∀ (t : Nat) (s : State),
    let since := max s.dev.pair.levelAt s.dev.pair.claimAt
    let heard := max ((s.dev.pair.paent.map (·.1)).getD 0) ((s.dev.pair.wire.map (·.1)).getD 0)
    ∃ s', exec (.interlockFault t) s = .next s' ∧
      (s.dev.on R.PAIR_STATUS_CLAIM = true → s.dev.ilLevel = 0 → since + 10 * qUs ≤ max s.dev.now t →
        (s.dev.clock t).Faults s'.dev 1) ∧
      (s.dev.on R.PAIR_STATUS_CLAIM = false → s.dev.on R.PAIR_HB_PARTNER_CLAIM = false →
        s.dev.ilLevel = 1 ∨ s.dev.ilLevel = 2 → since + 10 * qUs ≤ max s.dev.now t → since ≤ heard → 0 < heard →
        (s.dev.clock t).Faults s'.dev 2) ∧
      (s.dev.ilLevel = 3 → s.dev.pair.levelAt + 10 * qUs ≤ max s.dev.now t → (s.dev.clock t).Faults s'.dev 3) ∧
      s.Keeps s' t (R.PAIR_STATUS.off 0 0 :: recOffs) [.pair, .recd]) ∧
  (∀ (t a : Nat) (s : State), s.dev.pair.failAt = some a → s.dev.on R.PAIR_STATUS_CLAIM = false →
    a + 10 * qMs ≤ max s.dev.now t → ∃ s', exec (.handoverRetryTimeout t) s = .next s' ∧
      (s.dev.clock t).Faults s'.dev 2 ∧ s.Keeps s' t (R.PAIR_STATUS.off 0 0 :: recOffs) [.pair, .recd])) ∧
  ((∀ (t : Nat) (s : State), s.dev.FencesNamed →
    let w := (s.dev.clock t).wt
    let claim := s.dev.on R.PAIR_STATUS_CLAIM
    ∃ s', exec (.pairHandoverInstant t) s = .next s' ∧
      (∀ h, s.dev.pair.release = some h → h ≤ w + 2 * qUs → s.dev.pst = prActive → s.dev.pair.plan = none →
        s'.dev.on R.PAIR_STATUS_CLAIM = false ∧ s'.dev.on R.PAIR_STATUS_OWNS = false ∧ s'.dev.pst = prStandby ∧
        s'.dev.get R.PAIR_STATUS_IN_SYNC = 1 ∧ s'.dev.pair.release = none) ∧
      (∀ p, s.dev.pair.release = none → s.dev.pair.plan = some p → claim = false →
        let h := s.dev.handover (max p.from_ w)
        (w + qUs < h → s' = { s with dev := s.dev.clock t }) ∧
        (w ≤ h → h ≤ w + qUs → s.dev.ilLevel = 0 → s'.dev.on R.PAIR_STATUS_CLAIM = true ∧ s'.dev.pst = s.dev.pst ∧
          s'.dev.pair.failAt = none ∧ s'.dev.pair.claimAt = max s.dev.now t) ∧
        (w ≤ h → h ≤ w + qUs → s.dev.ilLevel = 1 → s'.dev.on R.PAIR_STATUS_CLAIM = false ∧
          s'.dev.get R.PAIR_STATUS_PARTNER_HOLDS = 1 ∧
          s'.dev.pair.failAt = some (s.dev.pair.failAt.getD (max s.dev.now t)))) ∧
      (s.dev.pair.release = none → claim = true → s.dev.ilLevel = 1 → s.dev.on R.PAIR_STATUS_OWNS = true →
        s.dev.pst ∉ [prSolo, prFailed, prActive, prOff] → s.dev.TakesOver s'.dev) ∧
      s.KeepsBut s' t pairWs [.pair, .host, .recd, .lay, .io, .sys]) ∧
  (∀ (t : Nat) (s : State), s.dev.pst = prSeeking → s.dev.pair.seekAt + 100 * qMs ≤ max s.dev.now t →
    ∃ s', exec (.pairSeekTimeout t) s = .next s' ∧
      (s.dev.ilLevel = 0 → s.dev.pair.barred = false → s.dev.pair.plan = none →
        s'.dev.pair.plan = some ⟨(s.dev.clock t).wt + qUs, false, 0⟩) ∧
      (s.dev.ilLevel = 1 → s'.dev.get R.PAIR_STATUS_PARTNER_HOLDS = 1 ∧ s'.dev.pair = s.dev.pair) ∧
      s.Keeps s' t [R.PAIR_STATUS.off 0 0] [.pair]) ∧
  (∀ (t a w n : Nat) (s : State), s.dev.pair.wtrFrom = some (a, w, n) → s.dev.on R.PAIR_STATUS_WTR_RUNNING = true →
    ∃ s', exec (.pairWtrExpiry t) s = .next s' ∧
      (if (if n = 0 then s.dev.handover w ≤ (s.dev.clock t).wt else a + n * qS ≤ max s.dev.now t) then
        s'.dev.pair = { s.dev.pair with wtrFrom := none, out := .reply .revert :: s.dev.pair.out } ∧
        s'.dev.on R.PAIR_STATUS_WTR_RUNNING = false
      else s' = { s with dev := s.dev.clock t }) ∧ s.Keeps s' t [R.PAIR_STATUS.off 0 0] [.pair]))

/-- R347 to R350, R357: what a unit sends as a heartbeat on each path, what a heartbeat received makes of it, a wire frame
with a bad CRC, and a path that is silent for DETECT. Model's choices in it, not rules: log 46, 81, 86, 87. -/
def Obligations.PairHeartbeats : Prop :=
  (∀ (t : Nat) (wire : Bool) (s : State),
    let b : Heartbeat := ⟨s.dev.moduleId, s.dev.pst, s.dev.on R.PAIR_STATUS_PREFERRED, s.dev.on R.PAIR_STATUS_CLAIM,
      s.dev.on R.PAIR_STATUS_IN_SYNC, false, s.dev.pair.release.getD 0⟩
    ∃ s', exec (.heartbeatSend t wire) s = .next s' ∧
      (if s.dev.phase = phaseRunning ∧ s.dev.clockOn 0 = true ∧ s.dev.paired = true ∧ s.dev.pst ≠ prOff then
        (wire = false → s'.dev.pair.hbSent = some b ∧ s'.dev.pair.wireSent = s.dev.pair.wireSent) ∧
        (wire = true → s.dev.underTest 6 = false → s'.dev.pair.wireSent = wireBytes b s.dev.pair.wireCount ∧
          s'.dev.pair.wireCount = (s.dev.pair.wireCount + 1) % 256) ∧
        (max s.dev.now t < s.dev.pair.timesAt + 100 * qMs → s'.dev.pair.out = s.dev.pair.out)
      else s' = { s with dev := s.dev.clock t }) ∧
      s.KeepsBut s' t (fun off => wire = false ∧ 0xB00100 ≤ off ∧ off < 0xB40000) [.pair, .sys]) ∧
  (∀ (t : Nat) (s : State), s.dev.paired = true → s.dev.phase = phaseRunning → s.dev.FencesNamed →
    let now := max s.dev.now t
    let heeds (e : Dev) (b : Heartbeat) : Prop :=
      e.get R.PAIR_HB_PARTNER_STATE = b.state % 8 ∧ e.on R.PAIR_HB_PARTNER_PREFERRED = b.preferred ∧
      e.on R.PAIR_HB_PARTNER_CLAIM = b.claim ∧ e.get R.PAIR_HB_PARTNER_MODULE = b.module % 512 ∧ e.pair.barred = false ∧
      (b.preferred = s.dev.on R.PAIR_STATUS_PREFERRED → s.dev.pst ∉ [prOff, prSolo, prFailed, prFault] →
        e.pst = prFault ∧ e.get R.PAIR_STATUS_FAULT = 5 ∧ e.on R.PAIR_STATUS_CLAIM = false) ∧
      (b.preferred ≠ s.dev.on R.PAIR_STATUS_PREFERRED →
        (s.dev.pst = prSeeking → b.state = prActive → e.pst = prSyncing ∧
          e.pair.out = .reply .snapshotRequest :: s.dev.pair.out) ∧
        (s.dev.pst = prStandby → b.planned ≠ 0 → s.dev.pair.plan = none → e.pair.plan = some ⟨b.planned, true, 3⟩) ∧
        (s.dev.pst = prStandby → b.planned = 0 → b.relinquish = true → s.dev.pair.plan = none →
          e.pair.plan = some ⟨(s.dev.clock t).wt + 10 * qUs, false, 2⟩) ∧
        (s.dev.pst = prActive → b.state % 8 = prStandby → e.get R.PAIR_STATUS_IN_SYNC = 1) ∧
        (s.dev.pst = prActive → b.state % 8 ≠ prStandby → e.get R.PAIR_STATUS_IN_SYNC = 0))
    (∀ b : Heartbeat, ∃ s', exec (.heartbeatReceived t b) s = .next s' ∧ heeds s'.dev b ∧
      s'.dev.get R.PAIR_HB_PAENT_OK = 1 ∧ s'.dev.get R.PAIR_HB_PAENT_ALARM = 0 ∧
      s'.dev.pair.paent = some (now, s.dev.pair.detect) ∧
      s.KeepsBut s' t pairWs [.pair, .host, .recd, .lay, .sys]) ∧
    (∀ (k m1 m0 n crc : Byte),
      (crcOf 3 [k, m1, m0, n] ≠ crc.toNat → ∃ s', exec (.heartbeatWireFrame t [0xD5, k, m1, m0, n, crc]) s = .next s' ∧
        s.dev.Counts s'.dev R.PAIR_WIRE_BAD_COUNT 0 ∧ s.Keeps s' t [R.PAIR_WIRE_BAD.off 0 0] []) ∧
      (crcOf 3 [k, m1, m0, n] = crc.toNat → ∃ s', exec (.heartbeatWireFrame t [0xD5, k, m1, m0, n, crc]) s = .next s' ∧
        heeds s'.dev ⟨m1.toNat * 2 + m0.toNat / 128, k.toNat / 32, bit k.toNat 4, bit k.toNat 3, bit k.toNat 2,
          bit k.toNat 1, 0⟩ ∧
        s'.dev.get R.PAIR_HB_WIRE_OK = 1 ∧ s'.dev.get R.PAIR_HB_WIRE_ALARM = 0 ∧
        s'.dev.pair.wire = some (now, s.dev.pair.detect) ∧ s.KeepsBut s' t pairWs [.pair, .host, .recd, .lay, .sys]))) ∧
  (∀ (t a n : Nat) (wire : Bool) (s : State), s.dev.FencesNamed →
    (if wire then s.dev.pair.wire else s.dev.pair.paent) = some (a, n) →
    let ok (w : Bool) := if w then R.PAIR_HB_WIRE_OK else R.PAIR_HB_PAENT_OK
    let alarm := if wire then R.PAIR_HB_WIRE_ALARM else R.PAIR_HB_PAENT_ALARM
    s.dev.on (ok wire) = true →
    ∃ s', exec (.heartbeatPathSilent t wire) s = .next s' ∧
      (max s.dev.now t < a + n * (100 * qUs) → s' = { s with dev := s.dev.clock t }) ∧
      (a + n * (100 * qUs) ≤ max s.dev.now t → s'.dev.on (ok wire) = false ∧
        (s.dev.on (ok !wire) = true → s'.dev.on alarm = true ∧ s'.dev.pst = s.dev.pst ∧ s'.dev.pair.plan = s.dev.pair.plan) ∧
        (s.dev.on (ok !wire) = false → s'.dev.on R.PAIR_HB_PARTNER_LOST = true ∧
          (s.dev.pst = prStandby → s.dev.pair.barred = false → s.dev.pair.plan = none →
            s'.dev.pair.plan = some ⟨(s.dev.clock t).wt + 10 * qUs, false, 1⟩) ∧
          (s.dev.pst = prActive → s'.dev.pst = prActive ∧ s'.dev.get R.PAIR_STATUS_IN_SYNC = 0))) ∧
      s.KeepsBut s' t pairWs [.pair, .host, .recd, .lay, .sys])

/-- R346, R350, R359: a write of PAIR_CTRL with APPLY takes the settings or sets BAD_CONFIG; each command of PAIR_CMD sets
CMD_ERR to its outcome and, where it is accepted, plans a release, plans a claim, or leaves FAULT for SEEKING. Model's
choices in it, not rules: log 47, 86, 87. -/
def Obligations.PairCommands : Prop :=
  (∀ (t : Nat) (v : Word) (s : State), s.dev.Reaches 0xC00000 → bit v.toNat 31 = true →
    let detect := s.dev.get R.PAIR_TIMING_DETECT
    let wtr := s.dev.get R.PAIR_TIMING_WTR_S
    ∃ s', exec (.pairApply t v) s = .next s' ∧ s'.dev.reg R.PAIR_CTRL = v.toNat &&& 0x401F0000 ∧
      (if detect < 10 ∨ 1000 < detect ∨ 3600 < wtr then
        s'.dev.get R.PAIR_STATUS_BAD_CONFIG = 1 ∧ s'.dev.pair = s.dev.pair
      else s'.dev.pair = { s.dev.pair with
        detect := detect, wtr := wtr, timingHead := bits v.toNat 20 16, noRevert := bit v.toNat 30 }) ∧
      s.Keeps s' t [R.PAIR_CTRL.off 0 0, R.PAIR_STATUS.off 0 0] [.pair]) ∧
  (∀ (t : Nat) (v : Word) (s : State), s.dev.Reaches 0xC00010 →
    let w := (s.dev.clock t).wt
    let pst := s.dev.pst
    (bit v.toNat 31 = true → ∃ s', exec (.pairSwitchover t v) s = .next s' ∧
      (let code := if s.dev.paired = false then 4 else if pst ≠ prActive then 1
        else if s.dev.on R.PAIR_STATUS_IN_SYNC = false then 2 else 0
      s'.dev.get R.PAIR_STATUS_CMD_ERR = code ∧
      s'.dev.pair.release = (if code = 0 then some (s.dev.handover (w + 200 * qUs)) else s.dev.pair.release)) ∧
      s.Keeps s' t [R.PAIR_STATUS.off 0 0] [.pair]) ∧
    (bit v.toNat 31 = false → bit v.toNat 30 = true → ∃ s', exec (.pairTakeover t v) s = .next s' ∧
      (let code := if s.dev.paired = false then 4
        else if ¬(pst = prStandby ∨ bit v.toNat 29 = true ∧ (pst = prSyncing ∨ pst = prFault)) then 5
        else if s.dev.ilLevel ≠ 0 then 3 else 0
      s'.dev.get R.PAIR_STATUS_CMD_ERR = code ∧
      s'.dev.pair.plan = (if code = 0 ∧ s.dev.pair.plan = none then some ⟨w + qUs, false, 5⟩ else s.dev.pair.plan)) ∧
      s.Keeps s' t [R.PAIR_STATUS.off 0 0] [.pair]) ∧
    (bit v.toNat 31 = false → bit v.toNat 30 = false → bit v.toNat 28 = true → ∃ s', exec (.pairClear t v) s = .next s' ∧
      (let code := if s.dev.paired = false then 4 else if pst ≠ prFault ∨ 2 ≤ s.dev.ilLevel then 6 else 0
      s'.dev.get R.PAIR_STATUS_CMD_ERR = code ∧ s'.dev.pst = (if code = 0 then prSeeking else pst) ∧
      s'.dev.get R.PAIR_STATUS_FAULT = (if code = 0 then 0 else s.dev.get R.PAIR_STATUS_FAULT)) ∧
      s.Keeps s' t (R.PAIR_STATUS.off 0 0 :: recOffs) [.pair, .recd]))

/-- R351 to R354, R356, R429: the standby takes mirror records in number order, keeps those that come ahead, and asks for a
snapshot when a gap is not filled within 1 ms; the active unit takes acknowledgements, confirmations and requests. Model's
choices in it, not rules: log 25, 87. -/
def Obligations.MirrorRecords : Prop :=
  (∀ (t n : Nat) (item : MirrorItem) (s : State), s.dev.lay.held = [] →
    (s.dev.Alone → ∃ s', exec (.mirrorRecord t n item) s = .next s' ∧ s' = { s with dev := s.dev.clock t }) ∧
    (s.dev.pst = prStandby → s.dev.pair.next ≠ 0 → n < s.dev.pair.next →
      ∃ s', exec (.mirrorRecord t n item) s = .next s' ∧ s' = { s with dev := s.dev.clock t }) ∧
    (s.dev.pst = prStandby → s.dev.pair.next ≠ 0 → s.dev.pair.next < n →
      tabGet? s.dev.pair.ahead s.dev.pair.next = none →
      ∃ s', exec (.mirrorRecord t n item) s = .next s' ∧ s'.dev.pair = { s.dev.pair with
          ahead := tabPut s.dev.pair.ahead n item, gapAt := some (s.dev.pair.gapAt.getD (max s.dev.now t)) } ∧
        s.Keeps s' t [R.PAIR_STATUS.off 0 0] [.pair]) ∧
    (s.dev.pst = prStandby → s.dev.pair.next ≠ 0 → n = s.dev.pair.next → s.dev.pair.ahead = [] →
      ∃ s', exec (.mirrorRecord t n item) s = .next s' ∧
        (∀ h, item = .planned h → s.dev.pair.barred = false → s.dev.pair.plan = none →
          s'.dev.pair.plan = some ⟨h, true, 3⟩ ∧ s'.dev.pair.next = n + 1 ∧
          s'.dev.pair.out = .reply (.ack n) :: s.dev.pair.out ∧ s.Keeps s' t [R.PAIR_STATUS.off 0 0] [.pair]) ∧
        (∀ g m, item = .applied g m → s'.dev.pair.theirs = tabPut s.dev.pair.theirs g m ∧ s'.dev.pair.next = n + 1 ∧
          s'.dev.pair.out = .reply (.ack n) :: s.dev.pair.out ∧ s.Keeps s' t [R.PAIR_STATUS.off 0 0] [.pair]) ∧
        (∀ ws, item = .times ws → s'.dev.pair.partnerTimes = ws ∧ s'.dev.pair.next = n + 1 ∧
          s'.dev.pair.out = .reply (.ack n) :: s.dev.pair.out ∧ s.Keeps s' t [R.PAIR_STATUS.off 0 0] [.pair]) ∧
        (∀ q i entry, item = .accepted q i entry → q < 16 → s.dev.get R.Q_CTRL_SQ_LOG2 q ≤ 12 →
          (s'.dev.queue q).cmds = (s.dev.queue q).cmds ++ [Cmd.ofEntry entry s.dev.host.accepted] ∧
          s'.dev.get R.Q_STATUS_SQ_HEAD q = (i + 1) % 2 ^ s.dev.get R.Q_CTRL_SQ_LOG2 q ∧
          s'.dev.reg R.Q_EXP_SEQ q = (leAt entry 0 4 + 1) % 2 ^ 32 ∧ s'.dev.pair.next = n + 1 ∧
          s'.dev.pair.out = .reply (.ack n) :: s.dev.pair.out ∧
          s.Keeps s' t [R.PAIR_STATUS.off 0 0, R.Q_STATUS.off q 0, R.Q_EXP_SEQ.off q 0] [.pair, .host]))) ∧
  (∀ (t n : Nat) (s : State), s.dev.pst = prSyncing → s.dev.lay.held = [] → s.dev.pair.ahead = [] →
    ∃ s', exec (.mirrorRecord t n .snapBegin) s = .next s' ∧ s'.dev.pair.next = n + 1 ∧ s'.dev.pair.snapDone = false ∧
      s'.dev.pair.out = .reply (.ack n) :: s.dev.pair.out ∧ (∀ q, q < 16 → (s'.dev.queue q).cmds = []) ∧
      (∀ e ∈ s'.dev.regs, mirrored e.1 = true → 0x180000 ≤ e.1 ∧ e.1 < 0x181000) ∧
      s.KeepsBut s' t (fun off => mirrored off = true ∨ off = R.PAIR_STATUS.off 0 0) [.pair, .host, .net, .lay]) ∧
  (∀ (t : Nat) (s : State), s.dev.FencesNamed →
    (s.dev.pst ≠ prActive → ∀ r, ∃ s', exec (.mirrorConfirmation t r) s = .next s' ∧ s' = { s with dev := s.dev.clock t }) ∧
    (s.dev.pst = prActive →
      (∀ n, ∃ s', exec (.mirrorConfirmation t (.ack n)) s = .next s' ∧
        s'.dev.pair = { s.dev.pair with acked := max s.dev.pair.acked (n + 1) } ∧ s.Keeps s' t [] [.pair]) ∧
      (∀ q seq, q < 16 → ((s.dev.queue q).cmds.any fun c => c.seq == seq && c.awaiting) = false →
        ((s.dev.queue q).cmds.any fun c => c.seq == seq) = true →
        ∃ s', exec (.mirrorConfirmation t (.confirm q seq)) s = .next s' ∧
          ((s.dev.cmd? q seq).isSome = true → s'.dev.pair.confirmed = s.dev.pair.confirmed ++ [(q, seq)]) ∧
          s.Keeps s' t [] [.pair]) ∧
      (∃ s', exec (.mirrorConfirmation t .diverged) s = .next s' ∧ s'.dev.get R.PAIR_STATUS_IN_SYNC = 0 ∧
        (∀ q, q < 16 → ∀ c ∈ (s'.dev.queue q).cmds, c.awaiting = false) ∧
        s.KeepsBut s' t pairWs [.pair, .host, .recd, .lay, .sys]) ∧
      (∃ s', exec (.mirrorConfirmation t .revert) s = .next s' ∧
        s'.dev.pair.release = some (s.dev.pair.release.getD (s.dev.handover ((s.dev.clock t).wt + 200 * qUs))) ∧
        s.Keeps s' t [] [.pair]))) ∧
  (∀ (t a : Nat) (s : State), s.dev.pair.gapAt = some a → a + qMs ≤ max s.dev.now t →
    s.dev.pst = prStandby ∨ s.dev.pst = prSyncing →
    ∃ s', exec (.mirrorGapTimeout t) s = .next s' ∧ s'.dev.pst = prSyncing ∧ s'.dev.pair.next = 0 ∧
      s'.dev.pair.ahead = [] ∧ s'.dev.pair.gapAt = none ∧ s'.dev.pair.snapDone = false ∧
      (∃ more, s'.dev.pair.out = .reply .snapshotRequest :: more) ∧ s.Keeps s' t [R.PAIR_STATUS.off 0 0] [.pair])

/-- R370, R372, R374 to R376: a read of DRAM that is corrected counts, and more than 4,096 from one device within a second
fault its rank; an uncorrectable read counts, leaves its line unreadable and faults the rank; so does a write whose CRC
alert persists. The patrol scrub reads a line of the rank that serves it. R373 to R375, R382: a migration copies rank line
by rank line and poisons a line it could not read; after the last one the target serves, the source is retired and the
next channel's migration starts. MIG_THROTTLE takes the rates it allows. Model's choices in it, not rules: log 32, 88. -/
def Obligations.MemoryErrorsAndMigration : Prop :=
  ((∀ (t line rank : Nat) (r : EccRead) (s : State), line < 2 ^ 30 → rank < 2 → s.dev.chFailed (chanOf line) = false →
    tabGet? s.mem.injected line = none → (∀ x ∈ s.dev.mctl.waiting, x < 8) →
    let ch := chanOf line
    let d := s.dev
    (r = .clean → ∃ s', exec (.dramReadError t line rank r) s = .next s' ∧ s' = { s with dev := d.clock t }) ∧
    (∀ dev, r = .corrected dev → dev < 8 →
      let key := (ch * 2 + rank) * 8 + dev
      let seen := (max d.now t :: tabGetD d.mctl.ce [] key).filter fun a => max d.now t < a + qS
      ∃ s', exec (.dramReadError t line rank r) s = .next s' ∧ d.Counts s'.dev R.CH_CE_COUNT ch ∧
        s'.dev.reg R.CH_ERR_LO ch = line * 64 % 2 ^ 32 ∧ s'.mem.ue = s.mem.ue ∧
        (if seen.length ≤ 4096 then tabGetD s'.dev.mctl.ce [] key = seen ∧ s'.dev.chState ch = d.chState ch ∧
          s.Keeps s' t (R.CH_CE.off ch 0 :: R.CH_ERR_LO.off ch 0 :: correctedOffs) [.mctl, .recd, .latch]
        else (d.clock t).RankFaults s'.dev ch rank 4) ∧
        s.KeepsBut s' t memWs [.mctl, .recd, .latch, .err, .host, .pair, .mem]) ∧
    (r = .uncorrectable → ∃ s', exec (.dramReadError t line rank r) s = .next s' ∧ d.Counts s'.dev R.CH_UE_COUNT ch ∧
      s'.dev.reg R.CH_ERR_LO ch = line * 64 % 2 ^ 32 ∧
      (tabGet? s'.mem.ue line).isSome = (d.serves line rank && (tabGet? s.mem.poison line).isNone ||
        (tabGet? s.mem.ue line).isSome) ∧
      (d.clock t).RankFaults s'.dev ch rank 2 ∧
      s'.mem.bytes = s.mem.bytes ∧ s'.mem.poison = s.mem.poison ∧
      s.KeepsBut s' t memWs [.mctl, .recd, .latch, .err, .host, .pair, .mem]) ∧
    ((∀ k, k < 2 → d.serves line k = decide (k = rank)) →
      exec (.dramPatrolScrub t line r) s = exec (.dramReadError t line rank r) s)) ∧
  (∀ (t ch rank retry : Nat) (s : State), ch < 8 → rank < 2 → (∀ x ∈ s.dev.mctl.waiting, x < 8) →
    ∃ s', exec (.dramWcrcAlert t ch rank retry) s = .next s' ∧ s.dev.Counts s'.dev R.CH_WCRC_COUNT ch ∧
      (retry < 4 → s.Keeps s' t [R.CH_WCRC.off ch 0] []) ∧
      (4 ≤ retry → (s.dev.clock t).RankFaults s'.dev ch rank 1) ∧
      s.KeepsBut s' t memWs [.mctl, .recd, .err, .host, .pair, .mem]) ∧
  (∀ (t line rank v : Nat) (s : State), line < 2 ^ 30 → rank < 2 → s.dev.chFailed (chanOf line) = false →
    tabGet? s.mem.injected line = some (8 + v) → v < 8 → (∀ k, k < 2 → s.dev.serves line k = decide (k = rank)) →
    ∃ s', exec (.dramPatrolScrub t line .clean) s = .next s' ∧ tabGet? s'.mem.injected line = none ∧
      s.dev.Counts s'.dev R.CH_CE_COUNT (chanOf line))) ∧
  ((∀ (t ch ptr after : Nat) (r : EccRead) (s : State), s.dev.mctl.mig = some (ch, ptr, after) → ch < 8 → ptr < 2 ^ 27 →
    (max s.dev.now t < after → ∃ s', exec (.migrationCopyLine t r) s = .next s' ∧ s' = { s with dev := s.dev.clock t }) ∧
    (after ≤ max s.dev.now t → r = .clean → tabGet? s.mem.injected (lineOfRank ch ptr) = none →
      let line := lineOfRank ch ptr
      let lost := (tabGet? s.mem.ue line).isSome && (tabGet? s.mem.target line).isNone
      ∃ s', exec (.migrationCopyLine t r) s = .next s' ∧
        s'.dev.mctl.mig = some (ch, ptr + 1, max s.dev.now t + 64 * 4000 / s.dev.get R.MIG_THROTTLE_MBPS) ∧
        s'.dev.get R.CH_MIG_PTR_LINE ch = (ptr + 1) % 2 ^ 27 ∧ tabGet? s'.mem.ue line = none ∧
        (lost = true → (tabGet? s'.mem.poison line).isSome = true ∧ s.dev.Counts s'.dev R.CH_POISON_WR_COUNT ch) ∧
        (lost = false → s'.mem.bytes = s.mem.bytes ∧ s'.mem.poison = s.mem.poison ∧
          s'.dev.get R.CH_POISON_WR_COUNT ch = s.dev.get R.CH_POISON_WR_COUNT ch) ∧
        (∀ l, l ≠ line → tabGet? s'.mem.poison l = tabGet? s.mem.poison l ∧ tabGet? s'.mem.ue l = tabGet? s.mem.ue l) ∧
        s.Keeps s' t [R.CH_MIG_PTR.off ch 0, R.CH_POISON_WR.off ch 0] [.mctl, .mem])) ∧
  (∀ (t ch ptr after a : Nat) (s : State), s.dev.mctl.mig = some (ch, ptr, after) → ch < 8 → 2 ^ 27 ≤ ptr → a < 2 →
    s.dev.rankState ch a = rkSource → s.dev.rankState ch (1 - a) = rkTarget → (∀ x ∈ s.dev.mctl.waiting, x < 8 ∧ x ≠ ch) →
    ∃ s', exec (.migrationDone t) s = .next s' ∧ s'.dev.rankState ch a = rkRetired ∧
      s'.dev.rankState ch (1 - a) = rkInService ∧ s'.dev.chState ch = chNoSpare ∧
      bit (s'.dev.get R.MEM_STATUS_NO_SPARE) ch = true ∧ s'.mem.bytes = s.mem.bytes ∧ s'.mem.poison = s.mem.poison ∧
      (s.dev.mctl.waiting = [] → s'.dev.mctl.mig = none ∧ s'.dev.get R.MEM_STATUS_MIGRATING = 0) ∧
      (∀ x rest k, s.dev.mctl.waiting = x :: rest → k < 2 → s.dev.rankState x k = rkInService →
        s.dev.rankState x (1 - k) = rkSpare → s'.dev.mctl.mig = some (x, 0, max s.dev.now t + qUs) ∧
        s'.dev.mctl.waiting = rest ∧ s'.dev.chState x = chMigrating ∧ s'.dev.rankState x k = rkSource ∧
        s'.dev.rankState x (1 - k) = rkTarget) ∧
      s.KeepsBut s' t (fun off => off = R.MEM_STATUS.off 0 0 ∨ (0xD01000 ≤ off ∧ off < 0xD01800) ∨ off ∈ recOffs)
        [.mctl, .recd, .mem]) ∧
  (∀ (t : Nat) (v : Word) (s : State), s.dev.Reaches 0xD00004 → ∃ s', exec (.migThrottleWrite t v) s = .next s' ∧
    (let n := v.toNat % 65536
    s'.dev.get R.MIG_THROTTLE_MBPS = if 500 ≤ n ∧ n ≤ 25600 then n else s.dev.get R.MIG_THROTTLE_MBPS) ∧
    s.Keeps s' t [R.MIG_THROTTLE.off 0 0] []))

/-- R365, R368, R369, R378 to R380: refreshes are postponed at most four times and not while a rank is hot; temperatures show
and a move of 10 K starts a retraining of 16 steps 100 µs apart; drift above 0.05 UI re-centres; the frame store's scrub
counts and gives a failing row's place to a spare. Model's choices in it, not rules: log 32, 88, 90. -/
def Obligations.MemoryUpkeep : Prop :=
  (∀ (t ch rank bank : Nat) (postponed : Bool) (s : State), ch < 8 → rank < 2 → bank < 32 →
    let key := (ch * 2 + rank) * 32 + bank
    let n := tabGetD s.dev.mctl.debt 0 key
    ∃ s', exec (.dramRefresh t ch rank bank postponed) s = .next s' ∧
      tabGetD s'.dev.mctl.debt 0 key = (if postponed = true ∧ n < 4 ∧ s.dev.rankHot ch rank = false then n + 1 else 0) ∧
      (∀ k, k ≠ key → tabGetD s'.dev.mctl.debt 0 k = tabGetD s.dev.mctl.debt 0 k) ∧ s.Keeps s' t [] [.mctl]) ∧
  (∀ (t ch rank : Nat) (temps : List Int) (s : State), ch < 8 → rank < 2 → temps ≠ [] →
    let key := ch * 2 + rank
    let ref := tabGetD s.dev.mctl.refTemps temps key
    let other := tabGetD s.dev.mctl.temps [] (ch * 2 + (1 - rank))
    ∃ s', exec (.dramTempRead t ch rank temps) s = .next s' ∧ tabGet? s'.dev.mctl.temps key = some temps ∧
      s'.dev.on R.CH_STATUS_HOT ch = (temps.any (85 < ·) || other.any (85 < ·)) ∧
      bit (s'.dev.get R.MEM_STATUS_HOT) ch = (temps.any (85 < ·) || other.any (85 < ·)) ∧
      (∃ x ∈ temps ++ other, s'.dev.get R.CH_STATUS_CASE_TEMP ch = ofSigned 8 x ∧ ∀ y ∈ temps ++ other, y ≤ x) ∧
      ((temps.zip ref).any (fun p => 10 ≤ (p.1 - p.2).natAbs) = true → tabGet? s.dev.mctl.steps key = none →
        tabGet? s'.dev.mctl.steps key = some (0, 0)) ∧
      ((temps.zip ref).any (fun p => 10 ≤ (p.1 - p.2).natAbs) = false →
        tabGet? s'.dev.mctl.steps key = tabGet? s.dev.mctl.steps key) ∧
      s.Keeps s' t [R.CH_STATUS.off ch 0, R.MEM_STATUS.off 0 0] [.mctl]) ∧
  (∀ (t ch rank drift : Nat) (s : State), ch < 8 → rank < 2 → ∃ s', exec (.dramDriftCheck t ch rank drift) s = .next s' ∧
    (drift ≤ 50 → s.Keeps s' t [] []) ∧ (50 < drift → s.dev.Counts s'.dev R.CH_RETRAINS_COUNT ch) ∧
    s.Keeps s' t [R.CH_RETRAINS.off ch 0] []) ∧
  (∀ (t ch rank n last : Nat) (ok : Bool) (s : State), ch < 8 → rank < 2 →
    tabGet? s.dev.mctl.steps (ch * 2 + rank) = some (n, last) → (∀ x ∈ s.dev.mctl.waiting, x < 8) →
    let key := ch * 2 + rank
    let wait := n ≠ 0 ∧ max s.dev.now t < last + 100 * qUs
    ∃ s', exec (.dramRetrainStep t ch rank ok) s = .next s' ∧
      (wait → s' = { s with dev := s.dev.clock t }) ∧
      (¬wait → ok = true → n + 1 < 16 → tabGet? s'.dev.mctl.steps key = some (n + 1, max s.dev.now t) ∧
        s.Keeps s' t [] [.mctl]) ∧
      (¬wait → ok = true → 16 ≤ n + 1 → tabGet? s'.dev.mctl.steps key = none ∧
        tabGet? s'.dev.mctl.refTemps key = some (tabGetD s.dev.mctl.temps [] key) ∧
        s.dev.Counts s'.dev R.CH_RETRAINS_COUNT ch ∧ s.Keeps s' t [R.CH_RETRAINS.off ch 0] [.mctl]) ∧
      (¬wait → ok = false → tabGet? s'.dev.mctl.steps key = none ∧ s.dev.Counts s'.dev R.CH_RETRAINS_COUNT ch ∧
        (s.dev.clock t).RankFaults s'.dev ch rank 3) ∧
      s.KeepsBut s' t memWs [.mctl, .recd, .err, .host, .pair, .mem]) ∧
  (∀ (t : Nat) (s : State), ∃ s', exec (.fsRefresh t) s = .next s' ∧ s'.dev.mctl.fsAt = max s.dev.now t ∧
    s.Keeps s' t [] [.mctl]) ∧
  (∀ (t bank row ce ue : Nat) (s : State), bank < 64 → row < 4160 →
    let key := bank * 8192 + row
    let n := if ce = 0 then 0 else tabGetD s.dev.mctl.streak 0 key + 1
    let used := s.dev.get R.FS_BANK_SPARES_USED bank
    ∃ s', exec (.fsScrub t bank row ce ue) s = .next s' ∧
      s'.dev.get R.FS_CE_COUNT = min (s.dev.get R.FS_CE_COUNT + ce) (2 ^ 32 - 1) ∧
      s'.dev.get R.FS_UE_COUNT = min (s.dev.get R.FS_UE_COUNT + ue) (2 ^ 32 - 1) ∧
      (n < 3 → ue = 0 → tabGetD s'.dev.mctl.streak 0 key = n ∧ s'.dev.get R.FS_BANK_SPARES_USED bank = used) ∧
      (3 ≤ n ∨ ue ≠ 0 → tabGetD s'.dev.mctl.streak 0 key = 0 ∧
        (used < 64 → s'.dev.get R.FS_BANK_SPARES_USED bank = used + 1) ∧
        (64 ≤ used → s'.dev.get R.FS_BANK_SPARES_USED bank = used ∧ (s.dev.mctl.noSpare.contains key = false →
          s'.dev.get R.FS_STATUS_SPARES_OUT = 1 ∧ s'.dev.mctl.noSpare = key :: s.dev.mctl.noSpare))) ∧
      s.Keeps s' t (R.FS_CE.off 0 0 :: R.FS_UE.off 0 0 :: R.FS_STATUS.off 0 0 :: R.FS_BANK.off bank 0 :: degradedOffs)
        [.mctl, .recd, .err, .host])

/-- R383, R385 to R393: UPDATE written 1 closes a checker, written 0 runs the exit check, RANGE before OVERLAP; the region
registers take writes in update mode and never in a locked region; an access that has waited 4 µs fails with CLOSED; a
debug access has its effect at an open checker, waits at a closed one, and is refused where debug is not open. -/
def Obligations.AccessCheckers : Prop :=
  (∀ (t k : Nat) (v : Word) (s : State), k ≤ 5 → s.dev.Reaches 0xE00000 →
    let notify := b2n (bit v.toNat 30)
    let ends (r : Nat) := s.dev.get R.RGN_BASE_BASE k r + s.dev.get R.RGN_SIZE_PAGES k r
    let on (r : Nat) := s.dev.get R.RGN_SIZE_PAGES k r ≠ 0
    let meet (a b : Nat) := on a ∧ on b ∧ s.dev.get R.RGN_BASE_BASE k a < ends b ∧ s.dev.get R.RGN_BASE_BASE k b < ends a
    let offs := [R.CHK_CTRL.off k 0, R.CHK_STATUS.off k 0]
    (∃ s', exec (.checkerUpdateEnter t k v) s = .next s' ∧ s'.dev.get R.CHK_CTRL_UPDATE k = 1 ∧
      s'.dev.get R.CHK_CTRL_NOTIFY k = notify ∧ s'.dev.get R.CHK_STATUS_STATE k = 1 ∧ s'.dev.chkClosed k = true ∧
      s.Keeps s' t offs []) ∧
    (s.dev.get R.CHK_STATUS_STATE k ≠ 1 → ∃ s', exec (.checkerUpdateExit t k v) s = .next s' ∧
      s'.dev.get R.CHK_CTRL_UPDATE k = 0 ∧ s'.dev.get R.CHK_CTRL_NOTIFY k = notify ∧ s.Keeps s' t [R.CHK_CTRL.off k 0] []) ∧
    (∀ r, s.dev.get R.CHK_STATUS_STATE k = 1 → r < 64 → on r → 2 ^ 24 < ends r →
      (∀ i, i < r → on i → ends i ≤ 2 ^ 24) → ∃ s', exec (.checkerUpdateExit t k v) s = .next s' ∧
        s'.dev.get R.CHK_STATUS_STATE k = 2 ∧ s'.dev.get R.CHK_STATUS_EXIT_FAULT k = 1 ∧
        s'.dev.get R.CHK_STATUS_REGION_A k = r ∧ s.Keeps s' t (offs ++ recOffs) [.recd]) ∧
    (∀ a b, s.dev.get R.CHK_STATUS_STATE k = 1 → a < b → b < 64 → meet a b → (∀ i, i < 64 → on i → ends i ≤ 2 ^ 24) →
      (∀ i j, i < j → j < 64 → i < a ∨ (i = a ∧ j < b) → ¬meet i j) →
      ∃ s', exec (.checkerUpdateExit t k v) s = .next s' ∧ s'.dev.get R.CHK_STATUS_STATE k = 2 ∧
        s'.dev.get R.CHK_STATUS_EXIT_FAULT k = 2 ∧ s'.dev.get R.CHK_STATUS_REGION_A k = a ∧
        s'.dev.get R.CHK_STATUS_REGION_B k = b ∧ s.Keeps s' t (offs ++ recOffs) [.recd]) ∧
    (s.dev.get R.CHK_STATUS_STATE k = 1 → (∀ i, i < 64 → on i → ends i ≤ 2 ^ 24) →
      (∀ i j, i < j → j < 64 → ¬meet i j) → (∀ w ∈ s.dev.prot.waiting, w.1 ≠ k) →
      ∃ s', exec (.checkerUpdateExit t k v) s = .next s' ∧ s'.dev.get R.CHK_STATUS_STATE k = 0 ∧
        s'.dev.get R.CHK_STATUS_EXIT_FAULT k = 0 ∧
        (∀ r, r < 64 → on r → s'.dev.get R.CHK_STATUS_ENFORCING k = 1) ∧
        (∀ r, r < 64 → s'.dev.prot.locked.contains (k * 64 + r) =
          (s.dev.prot.locked.contains (k * 64 + r) || s.dev.on R.RGN_CTRL_LOCK k r)) ∧
        s.Keeps s' t offs [.prot]) ∧
    (∀ r reg, r < 64 → reg < 3 → ∃ s', exec (.regionRegisterWrite t k r reg v) s = .next s' ∧
      (let off := if reg = 0 then R.RGN_CTRL.off k r else if reg = 1 then R.RGN_BASE.off k r else R.RGN_SIZE.off k r
      let mask := if reg = 0 then 0xE0000000 else if reg = 1 then 0xFFFFFF00 else 0x01FFFFFF
      if s.dev.prot.locked.contains (k * 64 + r) = true then s.Keeps s' t recOffs [.recd]
      else if s.dev.get R.CHK_STATUS_STATE k ≠ 1 then s.Keeps s' t [] []
      else ((tabGet? s'.dev.regs off).map (·.toNat)).getD 0 = v.toNat &&& mask ∧ s.Keeps s' t [off] []))) ∧
  (∀ (t k a : Nat) (s : State), k ≤ 5 → s.dev.chkClosed k = true → s.dev.Alone → a + 4 * qUs ≤ max s.dev.now t →
    let faultOffs := [R.CHK_FAULT_LO.off k 0, R.CHK_CLOSED.off k 0] ++ recOffs
    (∀ w pa bs, s.dev.prot.waiting.find? (fun e => e.1 == k) = some (k, a, .debug w pa bs) →
      ∃ s', exec (.checkerClosedTimeout t k) s = .next s' ∧ s'.dev.prot.debugResp = .error ∧
        s'.dev.prot.waiting = s.dev.prot.waiting.erase (k, a, .debug w pa bs) ∧ s.dev.Counts s'.dev R.CHK_CLOSED_COUNT k ∧
        s.Keeps s' t faultOffs [.prot, .latch, .recd, .err, .host, .pair]) ∧
    (∀ q seq op c w pa, s.dev.Running q seq op c →
      s.dev.prot.waiting.find? (fun e => e.1 == k) = some (k, a, .cmd q seq w pa) →
      ∃ s', exec (.checkerClosedTimeout t k) s = .next s' ∧
        s'.dev.answer q seq = some ⟨Status.closed, 0x0E05, 0, s.dev.moduleId, 0⟩ ∧
        s'.dev.prot.waiting = s.dev.prot.waiting.erase (k, a, .cmd q seq w pa) ∧
        s.dev.Counts s'.dev R.CHK_CLOSED_COUNT k ∧
        (∀ j, j < 3 → (s.dev.job j).feed = some (q, seq) → (∀ i, i < j → (s.dev.job i).feed ≠ some (q, seq)) →
          s'.dev.job j = { s.dev.job j with state := 3, feed := none }) ∧
        s.Keeps s' t (faultOffs ++ jobOffs) [.prot, .latch, .recd, .err, .host, .pair, .sys])) ∧
  (∀ (t pa len : Nat) (write : Bool) (bytes : List Byte) (authed : Bool) (s : State),
    (s.dev.debugAllowed authed = false → ∃ s', exec (.debugAccess t write pa len bytes authed) s = .next s' ∧
      s'.dev.prot = { s.dev.prot with debugResp := .error } ∧ s.Keeps s' t [] [.prot]) ∧
    (s.dev.debugAllowed authed = true → s.dev.chkClosed 2 = true → s.dev.prot.waiting = [] →
      ∃ s', exec (.debugAccess t write pa len bytes authed) s = .next s' ∧
        s'.dev.prot = { s.dev.prot with debugResp := .none, waiting :=
          [(2, max s.dev.now t, .debug write pa (if write then bytes else List.replicate len 0))] } ∧
        s.Keeps s' t [] [.prot]) ∧
    (s.dev.debugAllowed authed = true → write = true → Writable s.dev s.mem 2 pa bytes.length → s.mem.armed = [] →
      ∃ s', exec (.debugAccess t write pa len bytes authed) s = .next s' ∧ s.mem.Wrote s'.mem pa bytes ∧
        s'.dev.prot = { s.dev.prot with debugResp := .ok } ∧ s.Keeps s' t [] [.prot, .mem]) ∧
    (s.dev.debugAllowed authed = true → write = false → Readable s.dev s.mem 2 pa len →
      ∃ s', exec (.debugAccess t write pa len bytes authed) s = .next s' ∧
        s'.dev.prot = { s.dev.prot with debugResp := .data ((List.range len).map fun i => s.mem.byte (pa + i)) } ∧
        s.Keeps s' t [] [.prot]))

/-- R402, R403, R405 to R408, R410: PARCEL_OPEN takes an idle job, PARCEL_FEED starts a feed of the queue that opened it, and
PARCEL_ABORT returns a waiting one to IDLE. A feed of a compressing job adds its input to what is pending and closes
parcels at the limit, at FLUSH and at LAST; one of a decompressing job writes the output of each whole parcel; a failed
compare of SELF_CHECK puts the job in ERROR. R412, R413: a write of CRC_CTRL selects a preset and loads its initial value;
a data write feeds 1, 2 or 4 bytes of the word from bits [7:0] upward, so that RESULT is the CRC of all the bytes fed
since then; a read of RESULT or CRC_COUNT answers it and changes nothing. No other register and no other part moves.
Model's choices in it, not rules: log 13, 34, 35. -/
def Obligations.CompressionAndCrc : Prop :=
  ((∀ (t q seq : Nat) (c : Cmd) (s : State), s.dev.Running q seq 0x0F00 c → s.dev.Alone → c.Tail 14 → c.p 2 2 = 0 →
    let j := c.p 0 1
    j ≤ 2 → c.p 1 1 ≤ 2 → ∃ s', exec (.parcelOpen t q seq) s = .next s' ∧
      (if (s.dev.job j).state ≠ 0 then
        s'.dev.answer q seq = some ⟨Status.rejected, 0x0F01, 0, s.dev.moduleId, 0⟩ ∧ s'.dev.job j = s.dev.job j ∧
        s.Keeps s' t [] [.host, .pair]
      else s'.dev.answer q seq = some ⟨Status.success, 0, 0, s.dev.moduleId, j⟩ ∧
        s'.dev.job j = { Job.idle with
          state := 1, mode := c.p 1 1, owner := q, outAddr := c.p 4 8, outSize := (c.p 12 2 + 1) * 4096 } ∧
        s'.dev.get R.CMP_JOB_STATUS_STATE j = 1 ∧ s'.dev.get R.CMP_JOB_STATUS_MODE j = c.p 1 1 ∧
        s'.dev.get R.CMP_JOB_STATUS_QUEUE j = q ∧ s'.dev.reg R.CMP_PARCELS j = 0 ∧ s'.dev.reg R.CMP_OUT_OFFSET j = 0 ∧
        s.Keeps s' t [R.CMP_JOB_STATUS.off j 0, R.CMP_PARCELS.off j 0, R.CMP_OUT_OFFSET.off j 0, R.CMP_PENDING.off j 0]
          [.host, .pair, .sys])) ∧
  (∀ (t q seq : Nat) (c : Cmd) (s : State), s.dev.Running q seq 0x0F01 c → s.dev.Alone → c.Tail 16 → c.p 2 2 = 0 →
    let j := c.p 0 1
    let b := s.dev.job j
    let offs := [R.CMP_JOB_STATUS.off j 0, R.CMP_PARCELS.off j 0, R.CMP_OUT_OFFSET.off j 0, R.CMP_PENDING.off j 0]
    j ≤ 2 → c.p 1 1 ≤ 3 → ∃ s', exec (.parcelFeed t q seq) s = .next s' ∧
      (b.state = 1 → b.owner = q → s'.dev.job j = { b with state := 2, feed := some (q, seq) } ∧
        s'.dev.get R.CMP_JOB_STATUS_STATE j = 2 ∧ s.Keeps s' t offs [.sys]) ∧
      (b.state = 2 → b.owner = q → s.Keeps s' t [] []) ∧
      (b.state = 0 ∨ b.owner ≠ q ∨ b.state = 3 → s'.dev.answer q seq = some ⟨Status.rejected,
          (if b.state = 0 then 0x0F02 else if b.owner ≠ q then 0x0F03 else 0x0F04), 0, s.dev.moduleId, 0⟩ ∧
        s.Keeps s' t [] [.host, .pair])) ∧
  (∀ (t q seq : Nat) (c : Cmd) (s : State), s.dev.Running q seq 0x0F02 c → s.dev.Alone → c.Tail 1 →
    let j := c.p 0 1
    let b := s.dev.job j
    j ≤ 2 → ∃ s', exec (.parcelAbort t q seq) s = .next s' ∧
      (b.state = 0 → s'.dev.answer q seq = some ⟨Status.success, 0, 0, s.dev.moduleId, 0⟩ ∧ s.Keeps s' t [] [.host, .pair]) ∧
      (b.state ≠ 0 → b.owner ≠ q → s'.dev.answer q seq = some ⟨Status.rejected, 0x0F03, 0, s.dev.moduleId, 0⟩ ∧
        s.Keeps s' t [] [.host, .pair]) ∧
      (b.state = 1 ∨ b.state = 3 → b.owner = q →
        s'.dev.answer q seq = some ⟨Status.success, 0, 0, s.dev.moduleId, (b.parcels + b.offset * 2 ^ 32) % 2 ^ 64⟩ ∧
        s'.dev.job j = { b with state := 0, pending := [], feed := none } ∧ s'.dev.get R.CMP_PENDING_BYTES j = 0 ∧
        s.Keeps s' t [R.CMP_JOB_STATUS.off j 0, R.CMP_PARCELS.off j 0, R.CMP_OUT_OFFSET.off j 0, R.CMP_PENDING.off j 0]
          [.host, .pair, .sys])) ∧
  (∀ (t j q seq : Nat) (selfFail : Bool) (c : Cmd) (bs : List Byte) (s : State), j ≤ 2 → s.dev.Running q seq 0x0F01 c →
    s.dev.Alone → (s.dev.job j).feed = some (q, seq) → c.hostData = some (bs, []) → c.p 4 8 < 2 ^ 63 →
    0 < c.p 12 4 → bs.length = c.p 12 4 → (s.dev.job j).outAddr < 2 ^ 63 → s.dev.host.busMaster = true →
    let b := s.dev.job j
    let pending := b.pending ++ bs
    let flush := bit (c.p 1 1) 0
    let last := bit (c.p 1 1) 1
    let offs := [R.CMP_JOB_STATUS.off j 0, R.CMP_PARCELS.off j 0, R.CMP_OUT_OFFSET.off j 0, R.CMP_PENDING.off j 0]
    ∃ s', exec (.parcelFeedComplete t j selfFail) s = .next s' ∧
      (b.mode ≤ 1 → pending.length < 262144 → flush = false → last = false →
        s'.dev.job j = { b with state := 1, pending := pending, feed := none } ∧
        s'.dev.host.posted = s.dev.host.posted ∧
        s'.dev.answer q seq = some ⟨Status.success, 0, 0, s.dev.moduleId, (b.parcels + b.offset * 2 ^ 32) % 2 ^ 64⟩ ∧
        s.Keeps s' t offs [.host, .pair, .sys]) ∧
      (b.mode = 1 → pending.length < 262144 → flush = true ∨ last = true → selfFail = true →
        (s'.dev.job j).state = 3 ∧ s'.dev.get R.CMP_JOB_STATUS_REASON j = 0x0F0B ∧ s.dev.Counts s'.dev R.CMP_SELF_FAIL_COUNT j ∧
        s'.dev.answer q seq = some ⟨Status.rejected, 0x0F0B, 0, s.dev.moduleId, (b.parcels + b.offset * 2 ^ 32) % 2 ^ 64⟩) ∧
      (b.mode ≤ 1 → pending.length < 262144 → flush = true ∨ last = true → selfFail = false →
        (let whole := parcelBytes (b.mode == 0) flush last pending
        if whole.length ≤ b.outSize - b.offset then
          s'.dev.job j = { b with
            state := (if last then 0 else 1), pending := [], feed := none, parcels := b.parcels + 1
            offset := b.offset + whole.length } ∧
          s'.dev.answer q seq = some ⟨Status.success, 0, 0, s.dev.moduleId,
            (b.parcels + 1 + (b.offset + whole.length) * 2 ^ 32) % 2 ^ 64⟩
        else (s'.dev.job j).state = 3 ∧ s'.dev.get R.CMP_JOB_STATUS_REASON j = 0x0F05)) ∧
      (∀ out checked rest, b.mode = 2 → unpack pending = .parcel out checked rest → unpack rest = .more →
        out.length ≤ b.outSize - b.offset → last = false ∨ rest = [] →
        s'.dev.job j = { b with
          state := (if last then 0 else 1), pending := rest, feed := none, parcels := b.parcels + 1
          offset := b.offset + out.length } ∧
        (checked = false → s.dev.Counts s'.dev R.CMP_UNVERIFIED_COUNT j)) ∧
      (∀ reason out, b.mode = 2 → unpack pending = .fail reason out → out.length ≤ b.outSize - b.offset →
        (s'.dev.job j).state = 3 ∧ s'.dev.get R.CMP_JOB_STATUS_REASON j = reason % 2 ^ 16) ∧
      s.Keeps s' t (offs ++ [R.CMP_UNVERIFIED.off j 0, R.CMP_SELF_FAIL.off j 0] ++ containedOffs)
        [.host, .pair, .sys, .recd, .err])) ∧
  ((∀ (t u : Nat) (v : Word) (s : State), u < 8 → s.dev.Reaches 0xF10000 →
    ∃ s', exec (.crcCtrlWrite t u v) s = .next s' ∧ s'.dev.reg R.CRC_CTRL u = v.toNat % 4 ∧
      s'.dev.reg R.CRC_RESULT u = crcOf (v.toNat % 4) [] ∧ s'.dev.reg R.CRC_COUNT u = 0 ∧
      s.Keeps s' t [R.CRC_CTRL.off u 0, R.CRC_RESULT.off u 0, R.CRC_COUNT.off u 0] []) ∧
  (∀ (t u p : Nat) (v : Word) (bs : List Byte) (s : State), u < 8 → s.dev.Reaches 0xF10000 → p < 4 →
    s.dev.reg R.CRC_CTRL u = p → s.dev.reg R.CRC_RESULT u = crcOf p bs →
    (∃ s', exec (.crcData8 t u v) s = .next s' ∧ s'.dev.reg R.CRC_RESULT u = crcOf p (bs ++ leBytes 1 v.toNat) ∧
      s'.dev.reg R.CRC_COUNT u = (s.dev.reg R.CRC_COUNT u + 1) % 2 ^ 32 ∧
      s.Keeps s' t [R.CRC_RESULT.off u 0, R.CRC_COUNT.off u 0] []) ∧
    (∃ s', exec (.crcData16 t u v) s = .next s' ∧ s'.dev.reg R.CRC_RESULT u = crcOf p (bs ++ leBytes 2 v.toNat) ∧
      s'.dev.reg R.CRC_COUNT u = (s.dev.reg R.CRC_COUNT u + 2) % 2 ^ 32 ∧
      s.Keeps s' t [R.CRC_RESULT.off u 0, R.CRC_COUNT.off u 0] []) ∧
    (∃ s', exec (.crcData32 t u v) s = .next s' ∧ s'.dev.reg R.CRC_RESULT u = crcOf p (bs ++ leBytes 4 v.toNat) ∧
      s'.dev.reg R.CRC_COUNT u = (s.dev.reg R.CRC_COUNT u + 4) % 2 ^ 32 ∧
      s.Keeps s' t [R.CRC_RESULT.off u 0, R.CRC_COUNT.off u 0] [])) ∧
  (∀ (t u : Nat) (count : Bool) (s : State), u < 8 → s.dev.Reaches 0xF10000 →
    ∃ s', exec (.crcResultRead t u count) s = .next s' ∧
      s'.dev.host.resp = .data (leBytes 4 (if count then s.dev.reg R.CRC_COUNT u else s.dev.reg R.CRC_RESULT u)) ∧
      s.Keeps s' t [] [.host]))

/-- R11: when the clock of an instance of an edge domain stops, the domain's PRESENT bit falls and its LOST bit is set, in
every domain. CD-HOST, CD-SSP and CD-DFT have no other effect on the registers, and there nothing but the clocks, the two
fields and the recorder moves. R11: when the clock of an instance is detected it runs, and the domain's PRESENT bit is 1
exactly if it was 1 or every instance now runs. In CD-TIME, CD-NET, CD-PTX, CD-PRX, CD-DRAM, CD-CONV, CD-SSP and CD-DFT
nothing else moves. R17: a watchdog's expiry counts a restart of its core (saturating at 15) and a CONTAINED error; the
core restarts, and a third restart within 10 s halts it and declares FATAL with cause WATCHDOG. A restart's end has the
core run again. R417: a parity error of a compose engine takes its cluster out of service as a DEGRADED error, the
guaranteed capacity of each group bound to it falls by 3.0 G layer-pixels/s, and a group with an enabled head that keeps
no cluster makes the error FATAL. R430, R431: a fault of the compose fabric with a readable journal, more than 10 s after
the last, is a CONTAINED error that starts a restart; no commit stays VALIDATING or READY before it has applied to some
head, and every commit keeps its place. Without a readable journal it is FATAL with cause FABRIC. Model's choices in it,
not rules: log 9, 26. -/
def Obligations.FaultsOfParts : Prop :=
  ((∀ (t dom inst : Nat) (s : State), dom < 12 → s.dev.clockAt dom inst = true →
    bit (s.dev.get R.EDGE_CLK_STATUS_PRESENT) dom = true →
    ∃ s', exec (.domainClockLost t dom inst) s = .next s' ∧
      bit (s'.dev.get R.EDGE_CLK_STATUS_PRESENT) dom = false ∧ bit (s'.dev.get R.EDGE_CLK_STATUS_LOST) dom = true ∧
      (∀ n, n < 12 → n ≠ dom →
        bit (s'.dev.get R.EDGE_CLK_STATUS_PRESENT) n = bit (s.dev.get R.EDGE_CLK_STATUS_PRESENT) n ∧
        bit (s'.dev.get R.EDGE_CLK_STATUS_LOST) n = bit (s.dev.get R.EDGE_CLK_STATUS_LOST) n)) ∧
  (∀ (t dom inst : Nat) (s : State), dom = 6 ∨ dom = 9 ∨ dom = 11 → s.dev.clockAt dom inst = true →
    ∃ s', exec (.domainClockLost t dom inst) s = .next s' ∧ s'.dev.clockAt dom inst = false ∧
      s.Keeps s' t (R.EDGE_CLK_STATUS.off 0 0 :: recOffs) [.err, .recd])) ∧
  ((∀ (t dom inst : Nat) (s : State), dom < 12 → inst < domainInstances dom →
    dom = 0 ∨ dom = 1 ∨ dom = 3 ∨ dom = 4 ∨ dom = 5 ∨ dom = 8 ∨ dom = 9 ∨ dom = 11 →
    ∃ s', exec (.domainClockPresent t dom inst) s = .next s' ∧ s'.dev.clockAt dom inst = true ∧
      (bit (s'.dev.get R.EDGE_CLK_STATUS_PRESENT) dom = true ↔
        (bit (s.dev.get R.EDGE_CLK_STATUS_PRESENT) dom = true ∨
          ∀ n, n < domainInstances dom → s'.dev.clockAt dom n = true)) ∧
      s.Keeps s' t [R.EDGE_CLK_STATUS.off 0 0] [.err]) ∧
  (∀ (t : Nat) (s : State), ∃ s', exec (.domainClockPresent t 10 0) s = .next s' ∧ s'.dev.clockAt 10 0 = true ∧
    bit (s'.dev.get R.EDGE_CLK_STATUS_PRESENT) 10 = true ∧ s'.dev.boot.houseOcxo = true ∧
    s'.dev.ref.ocxo = true ∧ s'.dev.get R.REFSEL_STATUS_MON_BASIS = 1)) ∧
  ((∀ (t core : Nat) (s : State), core < 4 → s.dev.get (coreStateF core) = coreRunning →
    ∃ s', exec (.watchdogExpiry t core) s = .next s' ∧
      s'.dev.get (coreRestartsF core) = min (s.dev.get (coreRestartsF core) + 1) 15 ∧
      s'.dev.get R.ERR_CONTAINED_COUNT = min (s.dev.get R.ERR_CONTAINED_COUNT + 1) (2 ^ 32 - 1) ∧
      (if thirdRestart s.dev core (max s.dev.now t) then
        s'.dev.get (coreStateF core) = coreHalted ∧ s'.dev.get R.ERR_STATUS_FATAL = 1 ∧
          s'.dev.get R.PAIR_STATUS_STATE = prFailed ∧
          (s.dev.get R.ERR_STATUS_FATAL = 0 → s'.dev.get R.ERR_STATUS_FATAL_CAUSE = fatalWatchdog)
      else s'.dev.get (coreStateF core) = coreRestarting ∧
        s'.dev.get R.ERR_STATUS_FATAL = s.dev.get R.ERR_STATUS_FATAL) ∧
      s.Keeps s' t (R.MGMT_CORE_STATUS.off 0 0 :: R.ERR_CONTAINED.off 0 0 :: fatalOffs) [.err, .recd, .host, .pair]) ∧
  (∀ (t core : Nat) (s : State), core < 4 → s.dev.get (coreStateF core) = coreRestarting →
    ∃ s', exec (.mgmtCoreRestartDone t core) s = .next s' ∧ s'.dev.get (coreStateF core) = coreRunning ∧
      s'.dev.get (coreRestartsF core) = s.dev.get (coreRestartsF core) ∧
      s.Keeps s' t [R.MGMT_CORE_STATUS.off 0 0] [])) ∧
  (∀ (t k : Nat) (s : State), k < 6 → k ∉ s.dev.lay.clustersOut →
    ∃ s', exec (.composeEngineParity t k) s = .next s' ∧ s'.dev.lay.clustersOut = k :: s.dev.lay.clustersOut ∧
      s'.dev.get R.ERR_STATUS_DEGRADED = 1 ∧
      s'.dev.get R.ERR_DEGRADED_COUNT = min (s.dev.get R.ERR_DEGRADED_COUNT + 1) (2 ^ 32 - 1) ∧
      (∀ b ∈ s.dev.img.bindings, b.group < 6 → s.dev.binding b.group = some b → bit b.clusters k = true →
        s'.dev.capacity b.group + 3000000000 = s.dev.capacity b.group ∧
        s'.dev.reg R.GRP_CAPACITY b.group = s'.dev.capacity b.group / 1000 ∧
        ((s.dev.groupHeads b.group).isEmpty = false → s'.dev.capacity b.group = 0 →
          s'.dev.get R.ERR_STATUS_FATAL = 1)) ∧
      s.Keeps s' t (R.ERR_DEGRADED.off 0 0 :: fatalOffs ++ s.dev.img.bindings.flatMap fun b => groupOffs b.group)
        [.lay, .err, .recd, .host, .pair]) ∧
  ((∀ (t : Nat) (s : State), (∀ a, s.dev.err.fabricAt = some a → a + 10 * qS < max s.dev.now t) →
    s.dev.boot.switch = none →
    ∃ s', exec (.fabricFault t true) s = .next s' ∧ s'.dev.err.fabricRun = true ∧
      s'.dev.err.fabricAt = some (max s.dev.now t) ∧
      s'.dev.get R.ERR_CONTAINED_COUNT = min (s.dev.get R.ERR_CONTAINED_COUNT + 1) (2 ^ 32 - 1) ∧
      s'.dev.commits.map (fun c => (c.q, c.seq)) = s.dev.commits.map (fun c => (c.q, c.seq)) ∧
      (∀ c ∈ s'.dev.commits, c.done = [] → c.st = .queued) ∧
      s.Keeps s' t containedOffs [.lay, .err, .recd, .host]) ∧
  (∀ (t : Nat) (s : State), s.dev.get R.ERR_STATUS_FATAL = 0 →
    ∃ s', exec (.fabricFault t false) s = .next s' ∧ s'.dev.get R.ERR_STATUS_FATAL = 1 ∧
      s'.dev.get R.ERR_STATUS_FATAL_CAUSE = fatalFabric ∧ s'.dev.get R.PAIR_STATUS_STATE = prFailed ∧
      s'.dev.commits = s.dev.commits ∧
      s.Keeps s' t (R.ERR_CONTAINED.off 0 0 :: fatalOffs) [.err, .recd, .host, .pair]))

/-- R433 to R443: an event with a token takes an SEQ and goes into the ring and the flash buffer, one without is counted as
suppressed; the oldest buffered entry is programmed into the slot at the write pointer; REC_READ copies the entries asked
for, from the flash store or the ring, and REC_CATALOGUE the record of a NUMBER. Model's choices in it, not rules: log 4,
8, 103, 112. -/
def Obligations.RecorderEntries : Prop :=
  (∀ (t k : Nat) (kind : Kind) (e : RecEvent) (s : State), kindOf e.kind = some kind → e.agent = k → k < 65536 →
    e.index < 64 → e.p0 < 2 ^ 32 → e.p1 < 2 ^ 32 → e.p2 < 256 → s.dev.boot.begun = true →
    let ev := Ev.other e.index
    let d := s.dev.clock t
    let seq := (s.dev.reg R.REC_SEQ + 1) % 2 ^ 32
    let entry : RecEntry := ⟨d.wt48, d.tb248, kind, ev, d.moduleId, d.wtState, k, seq, e.p0, e.p1, e.p2⟩
    ∃ s', exec (.recorderEvent t e) s = .next s' ∧
      (d.accepts kind ev k = true → kind = .fatal ∨ tabGetD s.dev.recd.suppressed 0 (evKey k ev) = 0 → s.dev.Records →
        s'.dev.recd.ring = (entry :: s.dev.recd.ring).take 65536 ∧ s'.dev.recd.buffer = s.dev.recd.buffer ++ [entry] ∧
        s'.dev.reg R.REC_SEQ = seq) ∧
      (kind ≠ .fatal → 1000000 ≤ d.bucketNow k ev → (tabGetD s'.dev.recd.buckets (0, 0) (evKey k ev)).1 =
        d.bucketNow k ev - 1000000) ∧
      (kind ≠ .fatal → d.bucketNow k ev < 1000000 → s'.dev.recd.ring = s.dev.recd.ring ∧
        s'.dev.recd.buffer = s.dev.recd.buffer ∧
        tabGetD s'.dev.recd.suppressed 0 (evKey k ev) = min (tabGetD s.dev.recd.suppressed 0 (evKey k ev) + 1) 0xFFFFFFFF) ∧
      s.Keeps s' t recOffs [.recd]) ∧
  (∀ (t : Nat) (e : RecEntry) (rest : List RecEntry) (s : State), s.dev.boot.begun = true → s.dev.recd.buffer = e :: rest →
    s.dev.reg R.REC_FLASH_USED ≤ flashLimit →
    let used := s.dev.reg R.REC_FLASH_USED
    ∃ s', exec (.recorderFlashProgram t) s = .next s' ∧ tabGet? s'.dev.recd.flash used = some (.entry e) ∧
      s'.dev.reg R.REC_FLASH_USED = used + 1 ∧
      s'.dev.reg R.REC_BOOTS = (if e.ev = .boot then (s.dev.reg R.REC_BOOTS + 1) % 2 ^ 32 else s.dev.reg R.REC_BOOTS) ∧
      (e.ev = .full → s'.dev.get R.REC_STATUS_RECORDER_FULL = 1) ∧
      (s.dev.recd.lostCount = 0 → s'.dev.recd.buffer = rest ∧
        s'.dev.get R.REC_STATUS_BUFFERED = rest.length % 2 ^ 14) ∧
      (s.dev.recd.lostCount ≠ 0 → s'.dev.recd.lostCount = 0 ∧ s'.dev.get R.REC_STATUS_BUFFER_LOSS = 0 ∨
        8192 ≤ rest.length) ∧
      s.Keeps s' t (R.REC_FLASH_USED.off 0 0 :: R.REC_BOOTS.off 0 0 :: recOffs) [.recd]) ∧
  (∀ (t q seq : Nat) (c : Cmd) (s : State), s.dev.Running q seq 0x1100 c → s.dev.Alone → c.Tail 20 → c.p 1 1 = 0 →
    c.p 2 1 = 0 → c.p 3 1 = 0 → s.dev.host.busMaster = true → s.dev.queueActs = true →
    let first := c.p 4 4
    let n := c.p 8 4
    let es : List (Nat × List Byte) := if c.p 0 1 = 0 then
        (s.dev.recd.flash.filter fun e => first ≤ e.1 && e.1 < first + n).map fun e => (e.1, flashBytes e.1 e.2)
      else ((s.dev.recd.ring.reverse.filter fun e => !later 32 first e.seq).take n).map fun e => (e.seq, e.bytes)
    ∃ s', exec (.recRead t q seq) s = .next s' ∧
      (1 < c.p 0 1 → s'.dev.answer q seq = some ⟨Status.rejected, 0x1101, 0, s.dev.moduleId, 0⟩) ∧
      (c.p 0 1 ≤ 1 → n ≤ 65536 → s'.dev.answer q seq = some ⟨Status.success, 0, 0, s.dev.moduleId,
          (es.length + (es.head?.map (·.1)).getD first * 2 ^ 32) % 2 ^ 64⟩ ∧
        s'.dev.host.posted = (if (es.flatMap (·.2)).isEmpty then s.dev.host.posted
          else .write (c.p 12 8) (es.flatMap (·.2)) false :: s.dev.host.posted)) ∧
      s.Keeps s' t [] [.host, .pair]) ∧
  (∀ (t q seq : Nat) (c : Cmd) (s : State), s.dev.Running q seq 0x1101 c → s.dev.Alone → c.Tail 12 → c.p 0 2 < 1024 →
    c.p 2 1 = 0 → c.p 3 1 = 0 → s.dev.host.busMaster = true → s.dev.queueActs = true →
    ∃ s', exec (.recCatalogue t q seq) s = .next s' ∧
      (match Config.catalogue (c.p 0 2) with
        | some r => s'.dev.answer q seq = some ⟨Status.success, 0, 0, s.dev.moduleId, 1⟩ ∧
          s'.dev.host.posted = .write (c.p 4 8) ((List.range 256).map fun i => r.getD i 0) false :: s.dev.host.posted
        | none => s'.dev.answer q seq = some ⟨Status.success, 0, 0, s.dev.moduleId, 0⟩ ∧
          s'.dev.host.posted = s.dev.host.posted) ∧
      s.Keeps s' t [] [.host, .pair])

/-- R444 to R447: after FATAL and the release of the claim a dump goes to an erased slot, or to the oldest one not kept, in 64
MiB at most, and its header is written last; the dump commands read a slot, keep it and erase it. Model's choices in it,
not rules: log 8, 19, 104. -/
def Obligations.StateDumps : Prop :=
  (∀ (t : Nat) (s : State),
    let due := s.dev.get R.ERR_STATUS_FATAL = 1 ∧ s.dev.get R.PAIR_STATUS_CLAIM = 0 ∧ s.dev.recd.dumping = none ∧
      s.dev.recd.dumped = false
    ∃ s', exec (.dumpWrite t) s = .next s' ∧
      (¬due → s.Keeps s' t [] []) ∧
      (due → s'.dev.recd.dumped = true ∧
        (∀ n, n < 4 → (s.dev.dump n).erased = true → (∀ k, k < n → (s.dev.dump k).erased = false) →
          s'.dev.recd.dumping = some n) ∧
        (∀ n, n < 4 → (∀ k, k < 4 → (s.dev.dump k).erased = false) → (s.dev.dump n).keep = false →
          (∀ k, k < 4 → k ≠ n → (s.dev.dump k).keep = false → (s.dev.dump n).seq < (s.dev.dump k).seq) →
          s'.dev.recd.dumping = some n) ∧
        ((∀ k, k < 4 → (s.dev.dump k).erased = false ∧ (s.dev.dump k).keep = true) → s'.dev.recd.dumping = none ∧
          s.dev.recd.dumps = s'.dev.recd.dumps) ∧
        (∀ n, s'.dev.recd.dumping = some n → (s'.dev.dump n).erased = false ∧ (s'.dev.dump n).complete = false ∧
          (s'.dev.dump n).keep = false ∧ 4096 + (s'.dev.dump n).body.length ≤ 67108864 ∧ (s'.dev.dump n).parcels ≤ 1024 ∧
          (s'.dev.dump n).truncated = decide ((s'.dev.dump n).parcels < 1024) ∧
          ∀ k, k ≠ n → s'.dev.dump k = s.dev.dump k) ∧
        (s.dev.boot.memoryUp = false → s'.mem = s.mem)) ∧
      s.Keeps s' t ([0, 1, 2, 3].map (R.DUMP_STATUS.off · 0) ++ recOffs) [.recd, .mem]) ∧
  (∀ (t n : Nat) (s : State), s.dev.recd.dumping = some n → n < 4 →
    let high := max (max (s.dev.dump 0).seq (s.dev.dump 1).seq) (max (s.dev.dump 2).seq (s.dev.dump 3).seq)
    ∃ s', exec (.dumpComplete t) s = .next s' ∧ s'.dev.recd.dumping = none ∧
      s'.dev.dump n = { s.dev.dump n with
        complete := true, cause := s.dev.get R.ERR_STATUS_FATAL_CAUSE, seq := (high + 1) % 2 ^ 32
        wt := s.dev.recd.fatalWt, tb2 := s.dev.recd.fatalTb2, imageId := s.dev.img.imageId, recSeq := s.dev.recd.fatalSeq } ∧
      (∀ k, k ≠ n → s'.dev.dump k = s.dev.dump k) ∧ s.Keeps s' t [R.DUMP_STATUS.off n 0] [.recd]) ∧
  (∀ (t q seq opcode : Nat) (c : Cmd) (s : State), s.dev.Running q seq opcode c → s.dev.Alone →
    s.dev.recd.dumping = none → s.dev.host.busMaster = true → s.dev.queueActs = true →
    let n := c.p 0 1
    (opcode = 0x1110 → c.Tail 20 → c.p 1 1 = 0 → c.p 2 1 = 0 → c.p 3 1 = 0 → ∃ s', exec (.dumpRead t q seq) s = .next s' ∧
      (3 < n ∨ 67108864 < c.p 4 4 + c.p 8 4 →
        s'.dev.answer q seq = some ⟨Status.rejected, 0x1102, 0, s.dev.moduleId, 0⟩) ∧
      (n ≤ 3 → c.p 4 4 + c.p 8 4 ≤ 67108864 → 0 < c.p 8 4 →
        s'.dev.answer q seq = some ⟨Status.success, 0, 0, s.dev.moduleId, c.p 8 4⟩ ∧
        ∃ bs, s'.dev.host.posted = .write (c.p 12 8) bs false :: s.dev.host.posted ∧ bs.length = c.p 8 4 ∧
          ∀ i, i < c.p 8 4 →
            (c.p 4 4 + i < 4096 → (s.dev.dump n).complete = true →
              bs.getD i 0 = ((s.dev.dump n).header s.dev.moduleId).getD (c.p 4 4 + i) 0) ∧
            (4096 ≤ c.p 4 4 + i → (s.dev.dump n).erased = false → c.p 4 4 + i - 4096 < (s.dev.dump n).body.length →
              bs.getD i 0 = (s.dev.dump n).body.getD (c.p 4 4 + i - 4096) 0)) ∧
      s.Keeps s' t [] [.host, .pair]) ∧
    (opcode = 0x1111 → c.Tail 2 → n ≤ 3 → c.p 1 1 ≤ 1 → ∃ s', exec (.dumpKeep t q seq) s = .next s' ∧
      (s'.dev.dump n).keep = (!(s.dev.dump n).erased && c.p 1 1 == 1) ∧
      (∀ k, k ≠ n → s'.dev.dump k = s.dev.dump k) ∧
      s'.dev.answer q seq = some ⟨Status.success, 0, 0, s.dev.moduleId, (s'.dev.dump n).flags⟩ ∧
      s.Keeps s' t [R.DUMP_STATUS.off n 0] [.host, .pair, .recd]) ∧
    (opcode = 0x1112 → c.Tail 1 → n ≤ 3 → ∃ s', exec (.dumpErase t q seq) s = .next s' ∧
      s'.dev.dump n = DumpSlot.init ∧ (∀ k, k ≠ n → s'.dev.dump k = s.dev.dump k) ∧
      s'.dev.answer q seq = some ⟨Status.success, 0, 0, s.dev.moduleId, 0⟩ ∧
      s.Keeps s' t [R.DUMP_STATUS.off n 0] [.host, .pair, .recd]))

/-- R448 to R453: a test starts on a target that the table allows to be tested and clears its counters, and stops with them;
MEM_INJECT arms a line and completes once the line has been written whole; TOUCH_TEST reports opens and shorts, and
ADC_SELF_CHECK the channels outside 0.05 %. Model's choices in it, not rules: log 20, 101, 102. -/
def Obligations.DeviceTests : Prop :=
  (∀ (t q seq : Nat) (c : Cmd) (s : State), s.dev.Running q seq 0x1200 c → s.dev.Alone → c.Tail 5 →
    let target := c.p 0 1
    let inst := c.p 1 2
    target ≤ 6 → testInstance target inst = true → c.p 3 1 < testPatterns target → c.p 4 1 < 2 →
    let running := s.dev.recd.tests.any fun e => e.1 == target && e.2.1 == inst
    ∃ s', exec (.testStart t q seq) s = .next s' ∧
      (if running = true ∨ s.dev.testAllowed target inst = false then
        s'.dev.answer q seq = some ⟨Status.rejected, (if running then 0x1203 else 0x1201), 0, s.dev.moduleId, 0⟩ ∧
        s.Keeps s' t [] [.host, .pair]
      else s'.dev.answer q seq = some ⟨Status.success, 0, 0, s.dev.moduleId, 0⟩ ∧
        s'.dev.recd.tests = s.dev.recd.tests ++ [(target, inst, c.p 3 1, c.p 4 1)] ∧
        s'.dev.reg R.TEST_ERRORS target = 0 ∧ s'.dev.reg R.TEST_BITS target = 0 ∧
        s.Keeps s' t [R.TEST_ERRORS.off target 0, R.TEST_BITS.off target 0] [.host, .pair, .recd])) ∧
  (∀ (t q seq errors bits : Nat) (c : Cmd) (s : State), s.dev.Running q seq 0x1201 c → s.dev.Alone → c.Tail 3 →
    let target := c.p 0 1
    let inst := c.p 1 2
    target ≤ 6 → testInstance target inst = true →
    let running := s.dev.recd.tests.any fun e => e.1 == target && e.2.1 == inst
    ∃ s', exec (.testStop t q seq errors bits) s = .next s' ∧
      s'.dev.reg R.TEST_ERRORS target = (if running then min (s.dev.reg R.TEST_ERRORS target + errors) (2 ^ 32 - 1)
        else s.dev.reg R.TEST_ERRORS target) ∧
      s'.dev.reg R.TEST_BITS target = (if running then (s.dev.reg R.TEST_BITS target + bits) % 2 ^ 32
        else s.dev.reg R.TEST_BITS target) ∧
      (s'.dev.recd.tests.any fun e => e.1 == target && e.2.1 == inst) = false ∧
      s'.dev.answer q seq = some ⟨Status.success, 0, 0, s.dev.moduleId,
        s'.dev.reg R.TEST_ERRORS target + s'.dev.reg R.TEST_BITS target * 2 ^ 32⟩ ∧
      s.Keeps s' t [R.TEST_ERRORS.off target 0, R.TEST_BITS.off target 0] [.host, .pair, .recd]) ∧
  (∀ (t q seq : Nat) (c : Cmd) (s : State), s.dev.Running q seq 0x1202 c → s.dev.Alone → c.tailZero 10 = true →
    c.p 0 8 < 2 ^ 36 → c.p 8 1 = 1 ∨ c.p 8 1 = 2 → c.p 9 1 ≤ 4 →
    let line := c.p 0 8 / 64
    (s.dev.boot.isSealed = false ∨ s.dev.img.debugPolicy ≠ 0 → s.dev.recd.inject.contains (q, seq, line) = false →
      ∃ s', exec (.memInject t q seq) s = .next s' ∧ tabGet? s'.mem.armed line = some (c.p 8 1 * 8 + c.p 9 1) ∧
        s'.mem.bytes = s.mem.bytes ∧ s'.dev.recd.inject = (q, seq, line) :: s.dev.recd.inject ∧
        s.Keeps s' t [] [.recd, .mem]) ∧
    (s.dev.boot.isSealed = true → s.dev.img.debugPolicy = 0 → s.dev.recd.inject.contains (q, seq, line) = false →
      ∃ s', exec (.memInject t q seq) s = .next s' ∧
        s'.dev.answer q seq = some ⟨Status.rejected, 0x1201, 0, s.dev.moduleId, 0⟩ ∧ s.Keeps s' t [] [.host, .pair]) ∧
    (s.dev.recd.inject.contains (q, seq, line) = true → ∃ s', exec (.memInject t q seq) s = .next s' ∧
      (if (tabGet? s.mem.armed line).isSome then s.Keeps s' t [] []
      else s'.dev.answer q seq = some ⟨Status.success, 0, 0, s.dev.moduleId, 0⟩ ∧
        s'.dev.recd.inject = s.dev.recd.inject.erase (q, seq, line) ∧ s.Keeps s' t [] [.host, .pair, .recd]))) ∧
  (∀ (t q seq : Nat) (raw : List (List Nat)) (side : List Nat) (c : Cmd) (s : State), s.dev.Running q seq 0x1203 c →
    s.dev.Alone → c.tailZero 17 = true → s.dev.host.busMaster = true → s.dev.queueActs = true →
    let p := c.p 0 1
    let nd := s.dev.get R.TCH_CTRL_USED_DRV_M1 p + 1
    let ns := s.dev.get R.TCH_CTRL_USED_SNS_M1 p + 1
    p ≤ 1 → Writable s.dev s.mem 5 (c.p 9 8) (2 * nd * ns) →
    ∃ s', exec (.touchTest t q seq raw side) s = .next s' ∧
      (s.dev.on R.TCH_CTRL_ENABLE p = true → s'.dev.answer q seq = some ⟨Status.rejected, 0x1201, 0, s.dev.moduleId, 0⟩ ∧
        s'.mem = s.mem) ∧
      (s.dev.on R.TCH_CTRL_ENABLE p = false →
        (s'.dev.answer q seq).map (·.status) = some Status.success ∧
        s'.dev.host.posted = .write (c.p 1 8) (packPairs (touchResult nd ns raw side)) false :: s.dev.host.posted ∧
        (∀ i j b, i < nd → j < ns → b < 2 → s'.mem.byte (c.p 9 8 + 2 * (i * ns + j) + b) =
          (leBytes 2 ((raw.getD i []).getD j 0)).getD b 0)) ∧
      s.Keeps s' t [] [.host, .pair, .mem]) ∧
  (∀ (t q seq : Nat) (codes : List (List Int)) (c : Cmd) (s : State), s.dev.Running q seq 0x1204 c → s.dev.Alone →
    c.Tail 0 →
    let bad (i : Nat) := ([0, 64000, -64000, 0, 256000] : List Int).zipIdx.any fun x =>
      decide (5 * 262144 < ((codes.getD i []).getD x.2 0 - x.1).natAbs * 10000)
    ∃ s', exec (.adcSelfCheck t q seq codes) s = .next s' ∧
      s'.dev.answer q seq = (if s.dev.io.adc.cfg.trigEn = true ∨ (s.dev.io.cycles.any fun e => e.2.running) = true then
        some ⟨Status.rejected, 0x1201, 0, s.dev.moduleId, 0⟩
      else some ⟨Status.success, 0, 0, s.dev.moduleId, ((List.range 16).map fun i => b2n (bad i) * 2 ^ i).sum⟩) ∧
      s.Keeps s' t [] [.host, .pair])

/-- R461, R463 to R465: a feed is accepted after its dwell, 10 ms without logic power, 100 µs with it, 1 s after an
overvoltage; it is disconnected below turn-off and above the overvoltage limit, and with the last one the hold-up starts;
at its end the logic loses power, and good rails bring it back. Model's choices in it, not rules: log 106, 107. -/
def Obligations.PowerFeeds : Prop :=
  let feed (d : Dev) (f : Nat) := if f = 0 then d.pwr.feedA else d.pwr.feedB
  let okF (f : Nat) := if f = 0 then R.PWR_STATUS_FEED_A_OK else R.PWR_STATUS_FEED_B_OK
  let lostF (f : Nat) := if f = 0 then R.PWR_STATUS_FEED_A_LOST else R.PWR_STATUS_FEED_B_LOST
  (∀ (t f : Nat) (s : State), f < 2 → ∃ s', exec (.feedAboveTurnOn t f) s = .next s' ∧
    feed s'.dev (1 - f) = feed s.dev (1 - f) ∧
    feed s'.dev f = (if (feed s.dev f).ok then feed s.dev f
      else { feed s.dev f with rising := some ((feed s.dev f).rising.getD (max s.dev.now t)) }) ∧ s.Keeps s' t [] [.pwr]) ∧
  (∀ (t f a : Nat) (s : State), f < 2 → (feed s.dev f).rising = some a → (feed s.dev f).ok = false →
    let dwell := if (feed s.dev f).ov then qS else if s.dev.pwr.logicOn then 100 * qUs else 10 * qMs
    ∃ s', exec (.feedAccepted t f) s = .next s' ∧ feed s'.dev (1 - f) = feed s.dev (1 - f) ∧
      (if a + dwell ≤ max s.dev.now t then feed s'.dev f = ⟨none, true, false⟩ ∧ s'.dev.get (okF f) = 1 ∧
        s'.dev.get R.PWR_STATUS_ON_HOLDUP = 0
      else s' = { s with dev := s.dev.clock t }) ∧ s.Keeps s' t [R.PWR_STATUS.off 0 0] [.pwr]) ∧
  (∀ (t f : Nat) (s : State), f < 2 →
    let lost (d' : Dev) : Prop := s.dev.pwr.logicOn = true → d'.get (okF f) = 0 ∧ d'.get (lostF f) = 1 ∧
      ((feed s.dev (1 - f)).ok = false → d'.get R.PWR_STATUS_ON_HOLDUP = 1) ∧
      ((feed s.dev (1 - f)).ok = true → d'.get R.PWR_STATUS_ON_HOLDUP = s.dev.get R.PWR_STATUS_ON_HOLDUP)
    (∃ s', exec (.feedTurnOff t f) s = .next s' ∧ feed s'.dev f = { feed s.dev f with rising := none, ok := false } ∧
      feed s'.dev (1 - f) = feed s.dev (1 - f) ∧ ((feed s.dev f).ok = true → lost s'.dev) ∧
      ((feed s.dev f).ok = false → s.Keeps s' t [] [.pwr]) ∧ s.Keeps s' t (powerRegs ++ recOffs) [.pwr, .recd]) ∧
    (∃ s', exec (.feedOvervoltage t f) s = .next s' ∧ feed s'.dev f = ⟨none, false, true⟩ ∧
      feed s'.dev (1 - f) = feed s.dev (1 - f) ∧
      ((feed s.dev f).ok = true → lost s'.dev ∧ (s.dev.pwr.logicOn = true → s'.dev.get R.PWR_STATUS_OV_SEEN = 1)) ∧
      ((feed s.dev f).ok = false → s.Keeps s' t [] [.pwr]) ∧ s.Keeps s' t (powerRegs ++ recOffs) [.pwr, .recd])) ∧
  (∀ (t : Nat) (cut : CutOff) (s : State), ∃ s', exec (.holdupEnd t cut) s = .next s' ∧ s'.pending = s.pending ∧
    (if s.dev.pwr.logicOn = true ∧ s.dev.pwr.feedA.ok = false ∧ s.dev.pwr.feedB.ok = false then
      s.dev.IsReset s'.dev ∧ (∀ off, tabGet? s'.dev.regs off = none) ∧ s'.mem = Mem.init ∧
      s'.dev.pwr = { s.dev.pwr with
        logicOn := false, v3p3 := false, mrstLow := false, tripped := false, preConfigure := true } ∧
      (cut = ⟨none, false, false⟩ → s'.dev.boot.slots = s.dev.boot.slots ∧ s'.dev.boot.sel0 = s.dev.boot.sel0 ∧
        s'.dev.boot.sel1 = s.dev.boot.sel1 ∧ s'.dev.recd.flash = s.dev.recd.flash)
    else s' = { s with dev := s.dev.clock t })) ∧
  (∀ (t : Nat) (s : State), ∃ s', exec (.powerGood t) s = .next s' ∧
    s'.dev.pwr = (if s.dev.pwr.logicOn = false ∧ (s.dev.pwr.feedA.ok = true ∨ s.dev.pwr.feedB.ok = true) ∧
        s.dev.pwr.tripped = false then { s.dev.pwr with logicOn := true, v3p3 := true, preConfigure := true }
      else s.dev.pwr) ∧ s.Keeps s' t [] [.pwr])

/-- R466 to R468, R470, R471: module reset resets all logic and keeps flash, fuses and the power stage; a host-interface reset
disables every queue, keeps the commands' sequence state and fails those whose reads it cuts with TIMEOUT; a thermal trip
removes logic power for 10 s at least, and a plate above 75 °C shows. Model's choices in it, not rules: log 105, 108, 109. -/
def Obligations.ResetsAndThermal : Prop :=
  (∀ (t : Nat) (cut : CutOff) (s : State), s.dev.pwr.logicOn = true → s.dev.pwr.mrstLow = false →
    (∃ s', exec (.moduleReset t cut) s = .next s' ∧ s'.pending = s.pending ∧ s.dev.IsReset s'.dev ∧ s'.mem = Mem.init ∧
      s'.dev.get R.RESET_CAUSE_CAUSE = 1 ∧ s.dev.Counts s'.dev R.RESET_CAUSE_RESETS 0 ∧
      s'.dev.reg R.PWR_STATUS = s.dev.reg R.PWR_STATUS ∧ s'.dev.reg R.THERM_STATUS = s.dev.reg R.THERM_STATUS ∧
      s'.dev.pwr = { s.dev.pwr with mrstLow := true, preConfigure := true } ∧ s'.dev.ref.warm = s.dev.ref.warm ∧
      (cut = ⟨none, false, false⟩ → s'.dev.boot.slots = s.dev.boot.slots ∧ s'.dev.boot.sel0 = s.dev.boot.sel0 ∧
        s'.dev.boot.sel1 = s.dev.boot.sel1 ∧ s'.dev.recd.flash = s.dev.recd.flash)) ∧
    (∃ s', exec (.thermalTrip t cut) s = .next s' ∧ s'.pending = s.pending ∧ s.dev.IsReset s'.dev ∧ s'.mem = Mem.init ∧
      s'.dev.pwr = { s.dev.pwr with
        logicOn := false, v3p3 := false, preConfigure := true, tripAt := max s.dev.now t
        tripped := s.dev.pwr.feedA.ok || s.dev.pwr.feedB.ok } ∧ s'.dev.ref.warm = false)) ∧
  (∀ (t : Nat) (cut : List (Nat × Nat)) (s : State), s.dev.pwr.logicOn = true → s.dev.pwr.mrstLow = false → s.dev.Alone →
    let gone (q : Nat) := (s.dev.queue q).cmds.filter fun c => c.st == .started && (c.readsHost || cut.contains (q, c.seq))
    ∃ s', exec (.hostInterfaceReset t cut) s = .next s' ∧ s'.dev.host.busMaster = false ∧
      s'.dev.reg R.BAR2_OFFSET = 0 ∧ s'.dev.reg R.EVQ_LOST 16 = 0 ∧
      (∀ q, q < 17 → s'.dev.reg R.Q_CTRL q = R.Q_CTRL.reset ∧ s'.dev.get R.Q_STATUS_STATE q = qDisabled ∧
        s'.dev.reg R.SQ_BASE_LO q = R.SQ_BASE_LO.reset ∧ s'.dev.reg R.CQ_BASE_LO q = R.CQ_BASE_LO.reset ∧
        s'.dev.reg R.Q_EXP_SEQ q = s.dev.reg R.Q_EXP_SEQ q ∧ s'.dev.reg R.Q_DONE_SEQ q = s.dev.reg R.Q_DONE_SEQ q ∧
        (s'.dev.queue q).holding = true ∧ (s'.dev.queue q).cqTail = 0 ∧ (s'.dev.queue q).phase = true) ∧
      ((∀ q, q < 17 → gone q = []) → ∀ q, q < 17 → (s'.dev.queue q).cmds = (s.dev.queue q).cmds) ∧
      (∀ q c, s.dev.Running q c.seq c.opcode c → gone q = [c] → (∀ k, k < 17 → k ≠ q → gone k = []) →
        s'.dev.answer q c.seq = some ⟨Status.timeout, 0, 0, s.dev.moduleId, 0⟩) ∧
      s.KeepsBut s' t (fun off => off = R.BAR2_OFFSET.off 0 0 ∨ (0x100000 ≤ off ∧ off < 0x100440) ∨ off ∈ jobOffs)
        [.host, .pair, .sys]) ∧
  (∀ (t : Nat) (s : State), s.dev.pwr.logicOn = false → s.dev.pwr.tripped = true →
    s.dev.pwr.feedA.ok = true ∨ s.dev.pwr.feedB.ok = true → ∃ s', exec (.thermalRestart t) s = .next s' ∧
      (if s.dev.pwr.tripAt + 10 * qS ≤ max s.dev.now t then
        s'.dev.pwr = { s.dev.pwr with tripped := false, logicOn := true, v3p3 := true, preConfigure := true } ∧
        s'.dev.get R.RESET_CAUSE_CAUSE = 2 ∧ s.dev.Counts s'.dev R.RESET_CAUSE_RESETS 0
      else s' = { s with dev := s.dev.clock t }) ∧
      s.Keeps s' t [R.RESET_CAUSE.off 0 0, R.THERM_STATUS.off 0 0] [.pwr]) ∧
  (∀ (t : Nat) (plate : Int) (s : State), s.dev.pwr.logicOn = true → ∃ s', exec (.plateHigh t plate) s = .next s' ∧
    s'.dev.get R.THERM_STATUS_PLATE_HIGH = b2n (decide (75 < plate)) ∧
    (plate ≤ 75 ∨ s.dev.get R.THERM_STATUS_PLATE_HIGH = 1 ∨ s.dev.runs = false →
      s.Keeps s' t [R.THERM_STATUS.off 0 0] []) ∧
    s.Keeps s' t (R.THERM_STATUS.off 0 0 :: recOffs) [.recd])
end

