-- ==== Sys2Proof/Laws/State.lean ====
section
/-! SUPPORT. One law per part of the block and per update of it: what an update leaves alone, and what it sets. -/

namespace Sys2Proof.Machine


/-! ### clock -/

@[simp] theorem Dev.clock_regs (d : Dev) (t : Nat) : (d.clock t).regs = d.regs := rfl
@[simp] theorem Dev.clock_latch (d : Dev) (t : Nat) : (d.clock t).latch = d.latch := rfl
@[simp] theorem Dev.clock_host (d : Dev) (t : Nat) : (d.clock t).host = d.host := rfl
@[simp] theorem Dev.clock_boot (d : Dev) (t : Nat) : (d.clock t).boot = d.boot := rfl
@[simp] theorem Dev.clock_time (d : Dev) (t : Nat) : (d.clock t).time = d.time := rfl
@[simp] theorem Dev.clock_ref (d : Dev) (t : Nat) : (d.clock t).ref = d.ref := rfl
@[simp] theorem Dev.clock_recd (d : Dev) (t : Nat) : (d.clock t).recd = d.recd := rfl
@[simp] theorem Dev.clock_err (d : Dev) (t : Nat) : (d.clock t).err = d.err := rfl
@[simp] theorem Dev.clock_prot (d : Dev) (t : Nat) : (d.clock t).prot = d.prot := rfl
@[simp] theorem Dev.clock_pwr (d : Dev) (t : Nat) : (d.clock t).pwr = d.pwr := rfl
@[simp] theorem Dev.clock_sys (d : Dev) (t : Nat) : (d.clock t).sys = d.sys := rfl
@[simp] theorem Dev.clock_net (d : Dev) (t : Nat) : (d.clock t).net = d.net := rfl
@[simp] theorem Dev.clock_dec (d : Dev) (t : Nat) : (d.clock t).dec = d.dec := rfl
@[simp] theorem Dev.clock_lay (d : Dev) (t : Nat) : (d.clock t).lay = d.lay := rfl
@[simp] theorem Dev.clock_comp (d : Dev) (t : Nat) : (d.clock t).comp = d.comp := rfl
@[simp] theorem Dev.clock_enc (d : Dev) (t : Nat) : (d.clock t).enc = d.enc := rfl
@[simp] theorem Dev.clock_io (d : Dev) (t : Nat) : (d.clock t).io = d.io := rfl
@[simp] theorem Dev.clock_pair (d : Dev) (t : Nat) : (d.clock t).pair = d.pair := rfl
@[simp] theorem Dev.clock_mctl (d : Dev) (t : Nat) : (d.clock t).mctl = d.mctl := rfl
@[simp] theorem Dev.clock_reg (d : Dev) (t : Nat) (r' : RegDesc) (i' j' : Nat) : (d.clock t).reg r' i' j' = d.reg r' i' j' := rfl
@[simp] theorem Dev.clock_get (d : Dev) (t : Nat) (f' : FldDesc) (i' j' : Nat) : (d.clock t).get f' i' j' = d.get f' i' j' := rfl
@[simp] theorem Dev.clock_on (d : Dev) (t : Nat) (f' : FldDesc) (i' j' : Nat) : (d.clock t).on f' i' j' = d.on f' i' j' := rfl
@[simp] theorem Dev.clock_queue (d : Dev) (t : Nat) (q' : Nat) : (d.clock t).queue q' = d.queue q' := rfl
@[simp] theorem Dev.clock_cmd? (d : Dev) (t : Nat) (q' s' : Nat) : (d.clock t).cmd? q' s' = d.cmd? q' s' := rfl
@[simp] theorem Dev.clock_link (d : Dev) (t : Nat) (p' : Nat) : (d.clock t).link p' = d.link p' := rfl
@[simp] theorem Dev.clock_lanes (d : Dev) (t : Nat) (p' : Nat) : (d.clock t).lanes p' = d.lanes p' := rfl
@[simp] theorem Dev.clock_job (d : Dev) (t : Nat) (p' : Nat) : (d.clock t).job p' = d.job p' := rfl
@[simp] theorem Dev.clock_moduleId (d : Dev) (t : Nat) : (d.clock t).moduleId = d.moduleId := rfl

/-! ### setReg -/

@[simp] theorem Dev.setReg_now (d : Dev) (r : RegDesc) (v i j : Nat) : (d.setReg r v i j).now = d.now := rfl
@[simp] theorem Dev.setReg_latch (d : Dev) (r : RegDesc) (v i j : Nat) : (d.setReg r v i j).latch = d.latch := rfl
@[simp] theorem Dev.setReg_host (d : Dev) (r : RegDesc) (v i j : Nat) : (d.setReg r v i j).host = d.host := rfl
@[simp] theorem Dev.setReg_boot (d : Dev) (r : RegDesc) (v i j : Nat) : (d.setReg r v i j).boot = d.boot := rfl
@[simp] theorem Dev.setReg_time (d : Dev) (r : RegDesc) (v i j : Nat) : (d.setReg r v i j).time = d.time := rfl
@[simp] theorem Dev.setReg_ref (d : Dev) (r : RegDesc) (v i j : Nat) : (d.setReg r v i j).ref = d.ref := rfl
@[simp] theorem Dev.setReg_recd (d : Dev) (r : RegDesc) (v i j : Nat) : (d.setReg r v i j).recd = d.recd := rfl
@[simp] theorem Dev.setReg_err (d : Dev) (r : RegDesc) (v i j : Nat) : (d.setReg r v i j).err = d.err := rfl
@[simp] theorem Dev.setReg_prot (d : Dev) (r : RegDesc) (v i j : Nat) : (d.setReg r v i j).prot = d.prot := rfl
@[simp] theorem Dev.setReg_pwr (d : Dev) (r : RegDesc) (v i j : Nat) : (d.setReg r v i j).pwr = d.pwr := rfl
@[simp] theorem Dev.setReg_sys (d : Dev) (r : RegDesc) (v i j : Nat) : (d.setReg r v i j).sys = d.sys := rfl
@[simp] theorem Dev.setReg_net (d : Dev) (r : RegDesc) (v i j : Nat) : (d.setReg r v i j).net = d.net := rfl
@[simp] theorem Dev.setReg_dec (d : Dev) (r : RegDesc) (v i j : Nat) : (d.setReg r v i j).dec = d.dec := rfl
@[simp] theorem Dev.setReg_lay (d : Dev) (r : RegDesc) (v i j : Nat) : (d.setReg r v i j).lay = d.lay := rfl
@[simp] theorem Dev.setReg_comp (d : Dev) (r : RegDesc) (v i j : Nat) : (d.setReg r v i j).comp = d.comp := rfl
@[simp] theorem Dev.setReg_enc (d : Dev) (r : RegDesc) (v i j : Nat) : (d.setReg r v i j).enc = d.enc := rfl
@[simp] theorem Dev.setReg_io (d : Dev) (r : RegDesc) (v i j : Nat) : (d.setReg r v i j).io = d.io := rfl
@[simp] theorem Dev.setReg_pair (d : Dev) (r : RegDesc) (v i j : Nat) : (d.setReg r v i j).pair = d.pair := rfl
@[simp] theorem Dev.setReg_mctl (d : Dev) (r : RegDesc) (v i j : Nat) : (d.setReg r v i j).mctl = d.mctl := rfl
@[simp] theorem Dev.setReg_queue (d : Dev) (r : RegDesc) (v i j : Nat) (q' : Nat) : (d.setReg r v i j).queue q' = d.queue q' := rfl
@[simp] theorem Dev.setReg_cmd? (d : Dev) (r : RegDesc) (v i j : Nat) (q' s' : Nat) : (d.setReg r v i j).cmd? q' s' = d.cmd? q' s' := rfl
@[simp] theorem Dev.setReg_link (d : Dev) (r : RegDesc) (v i j : Nat) (p' : Nat) : (d.setReg r v i j).link p' = d.link p' := rfl
@[simp] theorem Dev.setReg_lanes (d : Dev) (r : RegDesc) (v i j : Nat) (p' : Nat) : (d.setReg r v i j).lanes p' = d.lanes p' := rfl
@[simp] theorem Dev.setReg_job (d : Dev) (r : RegDesc) (v i j : Nat) (p' : Nat) : (d.setReg r v i j).job p' = d.job p' := rfl
@[simp] theorem Dev.setReg_wt (d : Dev) (r : RegDesc) (v i j : Nat) : (d.setReg r v i j).wt = d.wt := rfl

/-! ### put -/

@[simp] theorem Dev.put_now (d : Dev) (f : FldDesc) (v i j : Nat) : (d.put f v i j).now = d.now := rfl
@[simp] theorem Dev.put_latch (d : Dev) (f : FldDesc) (v i j : Nat) : (d.put f v i j).latch = d.latch := rfl
@[simp] theorem Dev.put_host (d : Dev) (f : FldDesc) (v i j : Nat) : (d.put f v i j).host = d.host := rfl
@[simp] theorem Dev.put_boot (d : Dev) (f : FldDesc) (v i j : Nat) : (d.put f v i j).boot = d.boot := rfl
@[simp] theorem Dev.put_time (d : Dev) (f : FldDesc) (v i j : Nat) : (d.put f v i j).time = d.time := rfl
@[simp] theorem Dev.put_ref (d : Dev) (f : FldDesc) (v i j : Nat) : (d.put f v i j).ref = d.ref := rfl
@[simp] theorem Dev.put_recd (d : Dev) (f : FldDesc) (v i j : Nat) : (d.put f v i j).recd = d.recd := rfl
@[simp] theorem Dev.put_err (d : Dev) (f : FldDesc) (v i j : Nat) : (d.put f v i j).err = d.err := rfl
@[simp] theorem Dev.put_prot (d : Dev) (f : FldDesc) (v i j : Nat) : (d.put f v i j).prot = d.prot := rfl
@[simp] theorem Dev.put_pwr (d : Dev) (f : FldDesc) (v i j : Nat) : (d.put f v i j).pwr = d.pwr := rfl
@[simp] theorem Dev.put_sys (d : Dev) (f : FldDesc) (v i j : Nat) : (d.put f v i j).sys = d.sys := rfl
@[simp] theorem Dev.put_net (d : Dev) (f : FldDesc) (v i j : Nat) : (d.put f v i j).net = d.net := rfl
@[simp] theorem Dev.put_dec (d : Dev) (f : FldDesc) (v i j : Nat) : (d.put f v i j).dec = d.dec := rfl
@[simp] theorem Dev.put_lay (d : Dev) (f : FldDesc) (v i j : Nat) : (d.put f v i j).lay = d.lay := rfl
@[simp] theorem Dev.put_comp (d : Dev) (f : FldDesc) (v i j : Nat) : (d.put f v i j).comp = d.comp := rfl
@[simp] theorem Dev.put_enc (d : Dev) (f : FldDesc) (v i j : Nat) : (d.put f v i j).enc = d.enc := rfl
@[simp] theorem Dev.put_io (d : Dev) (f : FldDesc) (v i j : Nat) : (d.put f v i j).io = d.io := rfl
@[simp] theorem Dev.put_pair (d : Dev) (f : FldDesc) (v i j : Nat) : (d.put f v i j).pair = d.pair := rfl
@[simp] theorem Dev.put_mctl (d : Dev) (f : FldDesc) (v i j : Nat) : (d.put f v i j).mctl = d.mctl := rfl
@[simp] theorem Dev.put_queue (d : Dev) (f : FldDesc) (v i j : Nat) (q' : Nat) : (d.put f v i j).queue q' = d.queue q' := rfl
@[simp] theorem Dev.put_cmd? (d : Dev) (f : FldDesc) (v i j : Nat) (q' s' : Nat) : (d.put f v i j).cmd? q' s' = d.cmd? q' s' := rfl
@[simp] theorem Dev.put_link (d : Dev) (f : FldDesc) (v i j : Nat) (p' : Nat) : (d.put f v i j).link p' = d.link p' := rfl
@[simp] theorem Dev.put_lanes (d : Dev) (f : FldDesc) (v i j : Nat) (p' : Nat) : (d.put f v i j).lanes p' = d.lanes p' := rfl
@[simp] theorem Dev.put_job (d : Dev) (f : FldDesc) (v i j : Nat) (p' : Nat) : (d.put f v i j).job p' = d.job p' := rfl
@[simp] theorem Dev.put_wt (d : Dev) (f : FldDesc) (v i j : Nat) : (d.put f v i j).wt = d.wt := rfl

/-! ### bump -/

@[simp] theorem Dev.bump_now (d : Dev) (f : FldDesc) (i n j : Nat) : (d.bump f i n j).now = d.now := rfl
@[simp] theorem Dev.bump_latch (d : Dev) (f : FldDesc) (i n j : Nat) : (d.bump f i n j).latch = d.latch := rfl
@[simp] theorem Dev.bump_host (d : Dev) (f : FldDesc) (i n j : Nat) : (d.bump f i n j).host = d.host := rfl
@[simp] theorem Dev.bump_boot (d : Dev) (f : FldDesc) (i n j : Nat) : (d.bump f i n j).boot = d.boot := rfl
@[simp] theorem Dev.bump_time (d : Dev) (f : FldDesc) (i n j : Nat) : (d.bump f i n j).time = d.time := rfl
@[simp] theorem Dev.bump_ref (d : Dev) (f : FldDesc) (i n j : Nat) : (d.bump f i n j).ref = d.ref := rfl
@[simp] theorem Dev.bump_recd (d : Dev) (f : FldDesc) (i n j : Nat) : (d.bump f i n j).recd = d.recd := rfl
@[simp] theorem Dev.bump_err (d : Dev) (f : FldDesc) (i n j : Nat) : (d.bump f i n j).err = d.err := rfl
@[simp] theorem Dev.bump_prot (d : Dev) (f : FldDesc) (i n j : Nat) : (d.bump f i n j).prot = d.prot := rfl
@[simp] theorem Dev.bump_pwr (d : Dev) (f : FldDesc) (i n j : Nat) : (d.bump f i n j).pwr = d.pwr := rfl
@[simp] theorem Dev.bump_sys (d : Dev) (f : FldDesc) (i n j : Nat) : (d.bump f i n j).sys = d.sys := rfl
@[simp] theorem Dev.bump_net (d : Dev) (f : FldDesc) (i n j : Nat) : (d.bump f i n j).net = d.net := rfl
@[simp] theorem Dev.bump_dec (d : Dev) (f : FldDesc) (i n j : Nat) : (d.bump f i n j).dec = d.dec := rfl
@[simp] theorem Dev.bump_lay (d : Dev) (f : FldDesc) (i n j : Nat) : (d.bump f i n j).lay = d.lay := rfl
@[simp] theorem Dev.bump_comp (d : Dev) (f : FldDesc) (i n j : Nat) : (d.bump f i n j).comp = d.comp := rfl
@[simp] theorem Dev.bump_enc (d : Dev) (f : FldDesc) (i n j : Nat) : (d.bump f i n j).enc = d.enc := rfl
@[simp] theorem Dev.bump_io (d : Dev) (f : FldDesc) (i n j : Nat) : (d.bump f i n j).io = d.io := rfl
@[simp] theorem Dev.bump_pair (d : Dev) (f : FldDesc) (i n j : Nat) : (d.bump f i n j).pair = d.pair := rfl
@[simp] theorem Dev.bump_mctl (d : Dev) (f : FldDesc) (i n j : Nat) : (d.bump f i n j).mctl = d.mctl := rfl
@[simp] theorem Dev.bump_queue (d : Dev) (f : FldDesc) (i n j : Nat) (q' : Nat) : (d.bump f i n j).queue q' = d.queue q' := rfl
@[simp] theorem Dev.bump_cmd? (d : Dev) (f : FldDesc) (i n j : Nat) (q' s' : Nat) : (d.bump f i n j).cmd? q' s' = d.cmd? q' s' := rfl
@[simp] theorem Dev.bump_link (d : Dev) (f : FldDesc) (i n j : Nat) (p' : Nat) : (d.bump f i n j).link p' = d.link p' := rfl
@[simp] theorem Dev.bump_lanes (d : Dev) (f : FldDesc) (i n j : Nat) (p' : Nat) : (d.bump f i n j).lanes p' = d.lanes p' := rfl
@[simp] theorem Dev.bump_job (d : Dev) (f : FldDesc) (i n j : Nat) (p' : Nat) : (d.bump f i n j).job p' = d.job p' := rfl
@[simp] theorem Dev.bump_wt (d : Dev) (f : FldDesc) (i n j : Nat) : (d.bump f i n j).wt = d.wt := rfl

/-! ### bumpWrap -/

@[simp] theorem Dev.bumpWrap_now (d : Dev) (f : FldDesc) (i n : Nat) : (d.bumpWrap f i n).now = d.now := rfl
@[simp] theorem Dev.bumpWrap_latch (d : Dev) (f : FldDesc) (i n : Nat) : (d.bumpWrap f i n).latch = d.latch := rfl
@[simp] theorem Dev.bumpWrap_host (d : Dev) (f : FldDesc) (i n : Nat) : (d.bumpWrap f i n).host = d.host := rfl
@[simp] theorem Dev.bumpWrap_boot (d : Dev) (f : FldDesc) (i n : Nat) : (d.bumpWrap f i n).boot = d.boot := rfl
@[simp] theorem Dev.bumpWrap_time (d : Dev) (f : FldDesc) (i n : Nat) : (d.bumpWrap f i n).time = d.time := rfl
@[simp] theorem Dev.bumpWrap_ref (d : Dev) (f : FldDesc) (i n : Nat) : (d.bumpWrap f i n).ref = d.ref := rfl
@[simp] theorem Dev.bumpWrap_recd (d : Dev) (f : FldDesc) (i n : Nat) : (d.bumpWrap f i n).recd = d.recd := rfl
@[simp] theorem Dev.bumpWrap_err (d : Dev) (f : FldDesc) (i n : Nat) : (d.bumpWrap f i n).err = d.err := rfl
@[simp] theorem Dev.bumpWrap_prot (d : Dev) (f : FldDesc) (i n : Nat) : (d.bumpWrap f i n).prot = d.prot := rfl
@[simp] theorem Dev.bumpWrap_pwr (d : Dev) (f : FldDesc) (i n : Nat) : (d.bumpWrap f i n).pwr = d.pwr := rfl
@[simp] theorem Dev.bumpWrap_sys (d : Dev) (f : FldDesc) (i n : Nat) : (d.bumpWrap f i n).sys = d.sys := rfl
@[simp] theorem Dev.bumpWrap_net (d : Dev) (f : FldDesc) (i n : Nat) : (d.bumpWrap f i n).net = d.net := rfl
@[simp] theorem Dev.bumpWrap_dec (d : Dev) (f : FldDesc) (i n : Nat) : (d.bumpWrap f i n).dec = d.dec := rfl
@[simp] theorem Dev.bumpWrap_lay (d : Dev) (f : FldDesc) (i n : Nat) : (d.bumpWrap f i n).lay = d.lay := rfl
@[simp] theorem Dev.bumpWrap_comp (d : Dev) (f : FldDesc) (i n : Nat) : (d.bumpWrap f i n).comp = d.comp := rfl
@[simp] theorem Dev.bumpWrap_enc (d : Dev) (f : FldDesc) (i n : Nat) : (d.bumpWrap f i n).enc = d.enc := rfl
@[simp] theorem Dev.bumpWrap_io (d : Dev) (f : FldDesc) (i n : Nat) : (d.bumpWrap f i n).io = d.io := rfl
@[simp] theorem Dev.bumpWrap_pair (d : Dev) (f : FldDesc) (i n : Nat) : (d.bumpWrap f i n).pair = d.pair := rfl
@[simp] theorem Dev.bumpWrap_mctl (d : Dev) (f : FldDesc) (i n : Nat) : (d.bumpWrap f i n).mctl = d.mctl := rfl
@[simp] theorem Dev.bumpWrap_queue (d : Dev) (f : FldDesc) (i n : Nat) (q' : Nat) : (d.bumpWrap f i n).queue q' = d.queue q' := rfl
@[simp] theorem Dev.bumpWrap_cmd? (d : Dev) (f : FldDesc) (i n : Nat) (q' s' : Nat) : (d.bumpWrap f i n).cmd? q' s' = d.cmd? q' s' := rfl
@[simp] theorem Dev.bumpWrap_link (d : Dev) (f : FldDesc) (i n : Nat) (p' : Nat) : (d.bumpWrap f i n).link p' = d.link p' := rfl
@[simp] theorem Dev.bumpWrap_lanes (d : Dev) (f : FldDesc) (i n : Nat) (p' : Nat) : (d.bumpWrap f i n).lanes p' = d.lanes p' := rfl
@[simp] theorem Dev.bumpWrap_job (d : Dev) (f : FldDesc) (i n : Nat) (p' : Nat) : (d.bumpWrap f i n).job p' = d.job p' := rfl
@[simp] theorem Dev.bumpWrap_wt (d : Dev) (f : FldDesc) (i n : Nat) : (d.bumpWrap f i n).wt = d.wt := rfl

/-! ### setLatch -/

@[simp] theorem Dev.setLatch_now (d : Dev) (r : RegDesc) (v i j : Nat) : (d.setLatch r v i j).now = d.now := rfl
@[simp] theorem Dev.setLatch_regs (d : Dev) (r : RegDesc) (v i j : Nat) : (d.setLatch r v i j).regs = d.regs := rfl
@[simp] theorem Dev.setLatch_host (d : Dev) (r : RegDesc) (v i j : Nat) : (d.setLatch r v i j).host = d.host := rfl
@[simp] theorem Dev.setLatch_boot (d : Dev) (r : RegDesc) (v i j : Nat) : (d.setLatch r v i j).boot = d.boot := rfl
@[simp] theorem Dev.setLatch_time (d : Dev) (r : RegDesc) (v i j : Nat) : (d.setLatch r v i j).time = d.time := rfl
@[simp] theorem Dev.setLatch_ref (d : Dev) (r : RegDesc) (v i j : Nat) : (d.setLatch r v i j).ref = d.ref := rfl
@[simp] theorem Dev.setLatch_recd (d : Dev) (r : RegDesc) (v i j : Nat) : (d.setLatch r v i j).recd = d.recd := rfl
@[simp] theorem Dev.setLatch_err (d : Dev) (r : RegDesc) (v i j : Nat) : (d.setLatch r v i j).err = d.err := rfl
@[simp] theorem Dev.setLatch_prot (d : Dev) (r : RegDesc) (v i j : Nat) : (d.setLatch r v i j).prot = d.prot := rfl
@[simp] theorem Dev.setLatch_pwr (d : Dev) (r : RegDesc) (v i j : Nat) : (d.setLatch r v i j).pwr = d.pwr := rfl
@[simp] theorem Dev.setLatch_sys (d : Dev) (r : RegDesc) (v i j : Nat) : (d.setLatch r v i j).sys = d.sys := rfl
@[simp] theorem Dev.setLatch_net (d : Dev) (r : RegDesc) (v i j : Nat) : (d.setLatch r v i j).net = d.net := rfl
@[simp] theorem Dev.setLatch_dec (d : Dev) (r : RegDesc) (v i j : Nat) : (d.setLatch r v i j).dec = d.dec := rfl
@[simp] theorem Dev.setLatch_lay (d : Dev) (r : RegDesc) (v i j : Nat) : (d.setLatch r v i j).lay = d.lay := rfl
@[simp] theorem Dev.setLatch_comp (d : Dev) (r : RegDesc) (v i j : Nat) : (d.setLatch r v i j).comp = d.comp := rfl
@[simp] theorem Dev.setLatch_enc (d : Dev) (r : RegDesc) (v i j : Nat) : (d.setLatch r v i j).enc = d.enc := rfl
@[simp] theorem Dev.setLatch_io (d : Dev) (r : RegDesc) (v i j : Nat) : (d.setLatch r v i j).io = d.io := rfl
@[simp] theorem Dev.setLatch_pair (d : Dev) (r : RegDesc) (v i j : Nat) : (d.setLatch r v i j).pair = d.pair := rfl
@[simp] theorem Dev.setLatch_mctl (d : Dev) (r : RegDesc) (v i j : Nat) : (d.setLatch r v i j).mctl = d.mctl := rfl
@[simp] theorem Dev.setLatch_reg (d : Dev) (r : RegDesc) (v i j : Nat) (r' : RegDesc) (i' j' : Nat) : (d.setLatch r v i j).reg r' i' j' = d.reg r' i' j' := rfl
@[simp] theorem Dev.setLatch_get (d : Dev) (r : RegDesc) (v i j : Nat) (f' : FldDesc) (i' j' : Nat) : (d.setLatch r v i j).get f' i' j' = d.get f' i' j' := rfl
@[simp] theorem Dev.setLatch_on (d : Dev) (r : RegDesc) (v i j : Nat) (f' : FldDesc) (i' j' : Nat) : (d.setLatch r v i j).on f' i' j' = d.on f' i' j' := rfl
@[simp] theorem Dev.setLatch_queue (d : Dev) (r : RegDesc) (v i j : Nat) (q' : Nat) : (d.setLatch r v i j).queue q' = d.queue q' := rfl
@[simp] theorem Dev.setLatch_cmd? (d : Dev) (r : RegDesc) (v i j : Nat) (q' s' : Nat) : (d.setLatch r v i j).cmd? q' s' = d.cmd? q' s' := rfl
@[simp] theorem Dev.setLatch_link (d : Dev) (r : RegDesc) (v i j : Nat) (p' : Nat) : (d.setLatch r v i j).link p' = d.link p' := rfl
@[simp] theorem Dev.setLatch_lanes (d : Dev) (r : RegDesc) (v i j : Nat) (p' : Nat) : (d.setLatch r v i j).lanes p' = d.lanes p' := rfl
@[simp] theorem Dev.setLatch_job (d : Dev) (r : RegDesc) (v i j : Nat) (p' : Nat) : (d.setLatch r v i j).job p' = d.job p' := rfl
@[simp] theorem Dev.setLatch_moduleId (d : Dev) (r : RegDesc) (v i j : Nat) : (d.setLatch r v i j).moduleId = d.moduleId := rfl
@[simp] theorem Dev.setLatch_wt (d : Dev) (r : RegDesc) (v i j : Nat) : (d.setLatch r v i j).wt = d.wt := rfl

/-! ### setQueue -/

@[simp] theorem Dev.setQueue_now (d : Dev) (q : Nat) (v : Queue) : (d.setQueue q v).now = d.now := rfl
@[simp] theorem Dev.setQueue_regs (d : Dev) (q : Nat) (v : Queue) : (d.setQueue q v).regs = d.regs := rfl
@[simp] theorem Dev.setQueue_latch (d : Dev) (q : Nat) (v : Queue) : (d.setQueue q v).latch = d.latch := rfl
@[simp] theorem Dev.setQueue_boot (d : Dev) (q : Nat) (v : Queue) : (d.setQueue q v).boot = d.boot := rfl
@[simp] theorem Dev.setQueue_time (d : Dev) (q : Nat) (v : Queue) : (d.setQueue q v).time = d.time := rfl
@[simp] theorem Dev.setQueue_ref (d : Dev) (q : Nat) (v : Queue) : (d.setQueue q v).ref = d.ref := rfl
@[simp] theorem Dev.setQueue_recd (d : Dev) (q : Nat) (v : Queue) : (d.setQueue q v).recd = d.recd := rfl
@[simp] theorem Dev.setQueue_err (d : Dev) (q : Nat) (v : Queue) : (d.setQueue q v).err = d.err := rfl
@[simp] theorem Dev.setQueue_prot (d : Dev) (q : Nat) (v : Queue) : (d.setQueue q v).prot = d.prot := rfl
@[simp] theorem Dev.setQueue_pwr (d : Dev) (q : Nat) (v : Queue) : (d.setQueue q v).pwr = d.pwr := rfl
@[simp] theorem Dev.setQueue_sys (d : Dev) (q : Nat) (v : Queue) : (d.setQueue q v).sys = d.sys := rfl
@[simp] theorem Dev.setQueue_net (d : Dev) (q : Nat) (v : Queue) : (d.setQueue q v).net = d.net := rfl
@[simp] theorem Dev.setQueue_dec (d : Dev) (q : Nat) (v : Queue) : (d.setQueue q v).dec = d.dec := rfl
@[simp] theorem Dev.setQueue_lay (d : Dev) (q : Nat) (v : Queue) : (d.setQueue q v).lay = d.lay := rfl
@[simp] theorem Dev.setQueue_comp (d : Dev) (q : Nat) (v : Queue) : (d.setQueue q v).comp = d.comp := rfl
@[simp] theorem Dev.setQueue_enc (d : Dev) (q : Nat) (v : Queue) : (d.setQueue q v).enc = d.enc := rfl
@[simp] theorem Dev.setQueue_io (d : Dev) (q : Nat) (v : Queue) : (d.setQueue q v).io = d.io := rfl
@[simp] theorem Dev.setQueue_pair (d : Dev) (q : Nat) (v : Queue) : (d.setQueue q v).pair = d.pair := rfl
@[simp] theorem Dev.setQueue_mctl (d : Dev) (q : Nat) (v : Queue) : (d.setQueue q v).mctl = d.mctl := rfl
@[simp] theorem Dev.setQueue_reg (d : Dev) (q : Nat) (v : Queue) (r' : RegDesc) (i' j' : Nat) : (d.setQueue q v).reg r' i' j' = d.reg r' i' j' := rfl
@[simp] theorem Dev.setQueue_get (d : Dev) (q : Nat) (v : Queue) (f' : FldDesc) (i' j' : Nat) : (d.setQueue q v).get f' i' j' = d.get f' i' j' := rfl
@[simp] theorem Dev.setQueue_on (d : Dev) (q : Nat) (v : Queue) (f' : FldDesc) (i' j' : Nat) : (d.setQueue q v).on f' i' j' = d.on f' i' j' := rfl
@[simp] theorem Dev.setQueue_link (d : Dev) (q : Nat) (v : Queue) (p' : Nat) : (d.setQueue q v).link p' = d.link p' := rfl
@[simp] theorem Dev.setQueue_lanes (d : Dev) (q : Nat) (v : Queue) (p' : Nat) : (d.setQueue q v).lanes p' = d.lanes p' := rfl
@[simp] theorem Dev.setQueue_job (d : Dev) (q : Nat) (v : Queue) (p' : Nat) : (d.setQueue q v).job p' = d.job p' := rfl
@[simp] theorem Dev.setQueue_moduleId (d : Dev) (q : Nat) (v : Queue) : (d.setQueue q v).moduleId = d.moduleId := rfl
@[simp] theorem Dev.setQueue_wt (d : Dev) (q : Nat) (v : Queue) : (d.setQueue q v).wt = d.wt := rfl

/-! ### setCmds -/

@[simp] theorem Dev.setCmds_now (d : Dev) (q : Nat) (cs : List Cmd) : (d.setCmds q cs).now = d.now := rfl
@[simp] theorem Dev.setCmds_regs (d : Dev) (q : Nat) (cs : List Cmd) : (d.setCmds q cs).regs = d.regs := rfl
@[simp] theorem Dev.setCmds_latch (d : Dev) (q : Nat) (cs : List Cmd) : (d.setCmds q cs).latch = d.latch := rfl
@[simp] theorem Dev.setCmds_boot (d : Dev) (q : Nat) (cs : List Cmd) : (d.setCmds q cs).boot = d.boot := rfl
@[simp] theorem Dev.setCmds_time (d : Dev) (q : Nat) (cs : List Cmd) : (d.setCmds q cs).time = d.time := rfl
@[simp] theorem Dev.setCmds_ref (d : Dev) (q : Nat) (cs : List Cmd) : (d.setCmds q cs).ref = d.ref := rfl
@[simp] theorem Dev.setCmds_recd (d : Dev) (q : Nat) (cs : List Cmd) : (d.setCmds q cs).recd = d.recd := rfl
@[simp] theorem Dev.setCmds_err (d : Dev) (q : Nat) (cs : List Cmd) : (d.setCmds q cs).err = d.err := rfl
@[simp] theorem Dev.setCmds_prot (d : Dev) (q : Nat) (cs : List Cmd) : (d.setCmds q cs).prot = d.prot := rfl
@[simp] theorem Dev.setCmds_pwr (d : Dev) (q : Nat) (cs : List Cmd) : (d.setCmds q cs).pwr = d.pwr := rfl
@[simp] theorem Dev.setCmds_sys (d : Dev) (q : Nat) (cs : List Cmd) : (d.setCmds q cs).sys = d.sys := rfl
@[simp] theorem Dev.setCmds_net (d : Dev) (q : Nat) (cs : List Cmd) : (d.setCmds q cs).net = d.net := rfl
@[simp] theorem Dev.setCmds_dec (d : Dev) (q : Nat) (cs : List Cmd) : (d.setCmds q cs).dec = d.dec := rfl
@[simp] theorem Dev.setCmds_lay (d : Dev) (q : Nat) (cs : List Cmd) : (d.setCmds q cs).lay = d.lay := rfl
@[simp] theorem Dev.setCmds_comp (d : Dev) (q : Nat) (cs : List Cmd) : (d.setCmds q cs).comp = d.comp := rfl
@[simp] theorem Dev.setCmds_enc (d : Dev) (q : Nat) (cs : List Cmd) : (d.setCmds q cs).enc = d.enc := rfl
@[simp] theorem Dev.setCmds_io (d : Dev) (q : Nat) (cs : List Cmd) : (d.setCmds q cs).io = d.io := rfl
@[simp] theorem Dev.setCmds_pair (d : Dev) (q : Nat) (cs : List Cmd) : (d.setCmds q cs).pair = d.pair := rfl
@[simp] theorem Dev.setCmds_mctl (d : Dev) (q : Nat) (cs : List Cmd) : (d.setCmds q cs).mctl = d.mctl := rfl
@[simp] theorem Dev.setCmds_reg (d : Dev) (q : Nat) (cs : List Cmd) (r' : RegDesc) (i' j' : Nat) : (d.setCmds q cs).reg r' i' j' = d.reg r' i' j' := rfl
@[simp] theorem Dev.setCmds_get (d : Dev) (q : Nat) (cs : List Cmd) (f' : FldDesc) (i' j' : Nat) : (d.setCmds q cs).get f' i' j' = d.get f' i' j' := rfl
@[simp] theorem Dev.setCmds_on (d : Dev) (q : Nat) (cs : List Cmd) (f' : FldDesc) (i' j' : Nat) : (d.setCmds q cs).on f' i' j' = d.on f' i' j' := rfl
@[simp] theorem Dev.setCmds_link (d : Dev) (q : Nat) (cs : List Cmd) (p' : Nat) : (d.setCmds q cs).link p' = d.link p' := rfl
@[simp] theorem Dev.setCmds_lanes (d : Dev) (q : Nat) (cs : List Cmd) (p' : Nat) : (d.setCmds q cs).lanes p' = d.lanes p' := rfl
@[simp] theorem Dev.setCmds_job (d : Dev) (q : Nat) (cs : List Cmd) (p' : Nat) : (d.setCmds q cs).job p' = d.job p' := rfl
@[simp] theorem Dev.setCmds_moduleId (d : Dev) (q : Nat) (cs : List Cmd) : (d.setCmds q cs).moduleId = d.moduleId := rfl
@[simp] theorem Dev.setCmds_wt (d : Dev) (q : Nat) (cs : List Cmd) : (d.setCmds q cs).wt = d.wt := rfl

/-! ### updCmd -/

@[simp] theorem Dev.updCmd_now (d : Dev) (q seq : Nat) (f : Cmd → Cmd) : (d.updCmd q seq f).now = d.now := rfl
@[simp] theorem Dev.updCmd_regs (d : Dev) (q seq : Nat) (f : Cmd → Cmd) : (d.updCmd q seq f).regs = d.regs := rfl
@[simp] theorem Dev.updCmd_latch (d : Dev) (q seq : Nat) (f : Cmd → Cmd) : (d.updCmd q seq f).latch = d.latch := rfl
@[simp] theorem Dev.updCmd_boot (d : Dev) (q seq : Nat) (f : Cmd → Cmd) : (d.updCmd q seq f).boot = d.boot := rfl
@[simp] theorem Dev.updCmd_time (d : Dev) (q seq : Nat) (f : Cmd → Cmd) : (d.updCmd q seq f).time = d.time := rfl
@[simp] theorem Dev.updCmd_ref (d : Dev) (q seq : Nat) (f : Cmd → Cmd) : (d.updCmd q seq f).ref = d.ref := rfl
@[simp] theorem Dev.updCmd_recd (d : Dev) (q seq : Nat) (f : Cmd → Cmd) : (d.updCmd q seq f).recd = d.recd := rfl
@[simp] theorem Dev.updCmd_err (d : Dev) (q seq : Nat) (f : Cmd → Cmd) : (d.updCmd q seq f).err = d.err := rfl
@[simp] theorem Dev.updCmd_prot (d : Dev) (q seq : Nat) (f : Cmd → Cmd) : (d.updCmd q seq f).prot = d.prot := rfl
@[simp] theorem Dev.updCmd_pwr (d : Dev) (q seq : Nat) (f : Cmd → Cmd) : (d.updCmd q seq f).pwr = d.pwr := rfl
@[simp] theorem Dev.updCmd_sys (d : Dev) (q seq : Nat) (f : Cmd → Cmd) : (d.updCmd q seq f).sys = d.sys := rfl
@[simp] theorem Dev.updCmd_net (d : Dev) (q seq : Nat) (f : Cmd → Cmd) : (d.updCmd q seq f).net = d.net := rfl
@[simp] theorem Dev.updCmd_dec (d : Dev) (q seq : Nat) (f : Cmd → Cmd) : (d.updCmd q seq f).dec = d.dec := rfl
@[simp] theorem Dev.updCmd_lay (d : Dev) (q seq : Nat) (f : Cmd → Cmd) : (d.updCmd q seq f).lay = d.lay := rfl
@[simp] theorem Dev.updCmd_comp (d : Dev) (q seq : Nat) (f : Cmd → Cmd) : (d.updCmd q seq f).comp = d.comp := rfl
@[simp] theorem Dev.updCmd_enc (d : Dev) (q seq : Nat) (f : Cmd → Cmd) : (d.updCmd q seq f).enc = d.enc := rfl
@[simp] theorem Dev.updCmd_io (d : Dev) (q seq : Nat) (f : Cmd → Cmd) : (d.updCmd q seq f).io = d.io := rfl
@[simp] theorem Dev.updCmd_pair (d : Dev) (q seq : Nat) (f : Cmd → Cmd) : (d.updCmd q seq f).pair = d.pair := rfl
@[simp] theorem Dev.updCmd_mctl (d : Dev) (q seq : Nat) (f : Cmd → Cmd) : (d.updCmd q seq f).mctl = d.mctl := rfl
@[simp] theorem Dev.updCmd_reg (d : Dev) (q seq : Nat) (f : Cmd → Cmd) (r' : RegDesc) (i' j' : Nat) : (d.updCmd q seq f).reg r' i' j' = d.reg r' i' j' := rfl
@[simp] theorem Dev.updCmd_get (d : Dev) (q seq : Nat) (f : Cmd → Cmd) (f' : FldDesc) (i' j' : Nat) : (d.updCmd q seq f).get f' i' j' = d.get f' i' j' := rfl
@[simp] theorem Dev.updCmd_on (d : Dev) (q seq : Nat) (f : Cmd → Cmd) (f' : FldDesc) (i' j' : Nat) : (d.updCmd q seq f).on f' i' j' = d.on f' i' j' := rfl
@[simp] theorem Dev.updCmd_link (d : Dev) (q seq : Nat) (f : Cmd → Cmd) (p' : Nat) : (d.updCmd q seq f).link p' = d.link p' := rfl
@[simp] theorem Dev.updCmd_lanes (d : Dev) (q seq : Nat) (f : Cmd → Cmd) (p' : Nat) : (d.updCmd q seq f).lanes p' = d.lanes p' := rfl
@[simp] theorem Dev.updCmd_job (d : Dev) (q seq : Nat) (f : Cmd → Cmd) (p' : Nat) : (d.updCmd q seq f).job p' = d.job p' := rfl
@[simp] theorem Dev.updCmd_moduleId (d : Dev) (q seq : Nat) (f : Cmd → Cmd) : (d.updCmd q seq f).moduleId = d.moduleId := rfl
@[simp] theorem Dev.updCmd_wt (d : Dev) (q seq : Nat) (f : Cmd → Cmd) : (d.updCmd q seq f).wt = d.wt := rfl

/-! ### post -/

@[simp] theorem Dev.post_now (d : Dev) (p : Posted) : (d.post p).now = d.now := rfl
@[simp] theorem Dev.post_regs (d : Dev) (p : Posted) : (d.post p).regs = d.regs := rfl
@[simp] theorem Dev.post_latch (d : Dev) (p : Posted) : (d.post p).latch = d.latch := rfl
@[simp] theorem Dev.post_boot (d : Dev) (p : Posted) : (d.post p).boot = d.boot := rfl
@[simp] theorem Dev.post_time (d : Dev) (p : Posted) : (d.post p).time = d.time := rfl
@[simp] theorem Dev.post_ref (d : Dev) (p : Posted) : (d.post p).ref = d.ref := rfl
@[simp] theorem Dev.post_recd (d : Dev) (p : Posted) : (d.post p).recd = d.recd := rfl
@[simp] theorem Dev.post_err (d : Dev) (p : Posted) : (d.post p).err = d.err := rfl
@[simp] theorem Dev.post_prot (d : Dev) (p : Posted) : (d.post p).prot = d.prot := rfl
@[simp] theorem Dev.post_pwr (d : Dev) (p : Posted) : (d.post p).pwr = d.pwr := rfl
@[simp] theorem Dev.post_sys (d : Dev) (p : Posted) : (d.post p).sys = d.sys := rfl
@[simp] theorem Dev.post_net (d : Dev) (p : Posted) : (d.post p).net = d.net := rfl
@[simp] theorem Dev.post_dec (d : Dev) (p : Posted) : (d.post p).dec = d.dec := rfl
@[simp] theorem Dev.post_lay (d : Dev) (p : Posted) : (d.post p).lay = d.lay := rfl
@[simp] theorem Dev.post_comp (d : Dev) (p : Posted) : (d.post p).comp = d.comp := rfl
@[simp] theorem Dev.post_enc (d : Dev) (p : Posted) : (d.post p).enc = d.enc := rfl
@[simp] theorem Dev.post_io (d : Dev) (p : Posted) : (d.post p).io = d.io := rfl
@[simp] theorem Dev.post_pair (d : Dev) (p : Posted) : (d.post p).pair = d.pair := rfl
@[simp] theorem Dev.post_mctl (d : Dev) (p : Posted) : (d.post p).mctl = d.mctl := rfl
@[simp] theorem Dev.post_reg (d : Dev) (p : Posted) (r' : RegDesc) (i' j' : Nat) : (d.post p).reg r' i' j' = d.reg r' i' j' := rfl
@[simp] theorem Dev.post_get (d : Dev) (p : Posted) (f' : FldDesc) (i' j' : Nat) : (d.post p).get f' i' j' = d.get f' i' j' := rfl
@[simp] theorem Dev.post_on (d : Dev) (p : Posted) (f' : FldDesc) (i' j' : Nat) : (d.post p).on f' i' j' = d.on f' i' j' := rfl
@[simp] theorem Dev.post_link (d : Dev) (p : Posted) (p' : Nat) : (d.post p).link p' = d.link p' := rfl
@[simp] theorem Dev.post_lanes (d : Dev) (p : Posted) (p' : Nat) : (d.post p).lanes p' = d.lanes p' := rfl
@[simp] theorem Dev.post_job (d : Dev) (p : Posted) (p' : Nat) : (d.post p).job p' = d.job p' := rfl
@[simp] theorem Dev.post_moduleId (d : Dev) (p : Posted) : (d.post p).moduleId = d.moduleId := rfl
@[simp] theorem Dev.post_wt (d : Dev) (p : Posted) : (d.post p).wt = d.wt := rfl

/-! ### respond -/

@[simp] theorem Dev.respond_now (d : Dev) (r : Response) : (d.respond r).now = d.now := rfl
@[simp] theorem Dev.respond_regs (d : Dev) (r : Response) : (d.respond r).regs = d.regs := rfl
@[simp] theorem Dev.respond_latch (d : Dev) (r : Response) : (d.respond r).latch = d.latch := rfl
@[simp] theorem Dev.respond_boot (d : Dev) (r : Response) : (d.respond r).boot = d.boot := rfl
@[simp] theorem Dev.respond_time (d : Dev) (r : Response) : (d.respond r).time = d.time := rfl
@[simp] theorem Dev.respond_ref (d : Dev) (r : Response) : (d.respond r).ref = d.ref := rfl
@[simp] theorem Dev.respond_recd (d : Dev) (r : Response) : (d.respond r).recd = d.recd := rfl
@[simp] theorem Dev.respond_err (d : Dev) (r : Response) : (d.respond r).err = d.err := rfl
@[simp] theorem Dev.respond_prot (d : Dev) (r : Response) : (d.respond r).prot = d.prot := rfl
@[simp] theorem Dev.respond_pwr (d : Dev) (r : Response) : (d.respond r).pwr = d.pwr := rfl
@[simp] theorem Dev.respond_sys (d : Dev) (r : Response) : (d.respond r).sys = d.sys := rfl
@[simp] theorem Dev.respond_net (d : Dev) (r : Response) : (d.respond r).net = d.net := rfl
@[simp] theorem Dev.respond_dec (d : Dev) (r : Response) : (d.respond r).dec = d.dec := rfl
@[simp] theorem Dev.respond_lay (d : Dev) (r : Response) : (d.respond r).lay = d.lay := rfl
@[simp] theorem Dev.respond_comp (d : Dev) (r : Response) : (d.respond r).comp = d.comp := rfl
@[simp] theorem Dev.respond_enc (d : Dev) (r : Response) : (d.respond r).enc = d.enc := rfl
@[simp] theorem Dev.respond_io (d : Dev) (r : Response) : (d.respond r).io = d.io := rfl
@[simp] theorem Dev.respond_pair (d : Dev) (r : Response) : (d.respond r).pair = d.pair := rfl
@[simp] theorem Dev.respond_mctl (d : Dev) (r : Response) : (d.respond r).mctl = d.mctl := rfl
@[simp] theorem Dev.respond_reg (d : Dev) (r : Response) (r' : RegDesc) (i' j' : Nat) : (d.respond r).reg r' i' j' = d.reg r' i' j' := rfl
@[simp] theorem Dev.respond_get (d : Dev) (r : Response) (f' : FldDesc) (i' j' : Nat) : (d.respond r).get f' i' j' = d.get f' i' j' := rfl
@[simp] theorem Dev.respond_on (d : Dev) (r : Response) (f' : FldDesc) (i' j' : Nat) : (d.respond r).on f' i' j' = d.on f' i' j' := rfl
@[simp] theorem Dev.respond_link (d : Dev) (r : Response) (p' : Nat) : (d.respond r).link p' = d.link p' := rfl
@[simp] theorem Dev.respond_lanes (d : Dev) (r : Response) (p' : Nat) : (d.respond r).lanes p' = d.lanes p' := rfl
@[simp] theorem Dev.respond_job (d : Dev) (r : Response) (p' : Nat) : (d.respond r).job p' = d.job p' := rfl
@[simp] theorem Dev.respond_moduleId (d : Dev) (r : Response) : (d.respond r).moduleId = d.moduleId := rfl
@[simp] theorem Dev.respond_wt (d : Dev) (r : Response) : (d.respond r).wt = d.wt := rfl

/-! ### setPair -/

@[simp] theorem Dev.setPair_now (d : Dev) (x : PairSt) : (d.setPair x).now = d.now := rfl
@[simp] theorem Dev.setPair_regs (d : Dev) (x : PairSt) : (d.setPair x).regs = d.regs := rfl
@[simp] theorem Dev.setPair_latch (d : Dev) (x : PairSt) : (d.setPair x).latch = d.latch := rfl
@[simp] theorem Dev.setPair_host (d : Dev) (x : PairSt) : (d.setPair x).host = d.host := rfl
@[simp] theorem Dev.setPair_boot (d : Dev) (x : PairSt) : (d.setPair x).boot = d.boot := rfl
@[simp] theorem Dev.setPair_time (d : Dev) (x : PairSt) : (d.setPair x).time = d.time := rfl
@[simp] theorem Dev.setPair_ref (d : Dev) (x : PairSt) : (d.setPair x).ref = d.ref := rfl
@[simp] theorem Dev.setPair_recd (d : Dev) (x : PairSt) : (d.setPair x).recd = d.recd := rfl
@[simp] theorem Dev.setPair_err (d : Dev) (x : PairSt) : (d.setPair x).err = d.err := rfl
@[simp] theorem Dev.setPair_prot (d : Dev) (x : PairSt) : (d.setPair x).prot = d.prot := rfl
@[simp] theorem Dev.setPair_pwr (d : Dev) (x : PairSt) : (d.setPair x).pwr = d.pwr := rfl
@[simp] theorem Dev.setPair_sys (d : Dev) (x : PairSt) : (d.setPair x).sys = d.sys := rfl
@[simp] theorem Dev.setPair_net (d : Dev) (x : PairSt) : (d.setPair x).net = d.net := rfl
@[simp] theorem Dev.setPair_dec (d : Dev) (x : PairSt) : (d.setPair x).dec = d.dec := rfl
@[simp] theorem Dev.setPair_lay (d : Dev) (x : PairSt) : (d.setPair x).lay = d.lay := rfl
@[simp] theorem Dev.setPair_comp (d : Dev) (x : PairSt) : (d.setPair x).comp = d.comp := rfl
@[simp] theorem Dev.setPair_enc (d : Dev) (x : PairSt) : (d.setPair x).enc = d.enc := rfl
@[simp] theorem Dev.setPair_io (d : Dev) (x : PairSt) : (d.setPair x).io = d.io := rfl
@[simp] theorem Dev.setPair_mctl (d : Dev) (x : PairSt) : (d.setPair x).mctl = d.mctl := rfl
@[simp] theorem Dev.setPair_reg (d : Dev) (x : PairSt) (r' : RegDesc) (i' j' : Nat) : (d.setPair x).reg r' i' j' = d.reg r' i' j' := rfl
@[simp] theorem Dev.setPair_get (d : Dev) (x : PairSt) (f' : FldDesc) (i' j' : Nat) : (d.setPair x).get f' i' j' = d.get f' i' j' := rfl
@[simp] theorem Dev.setPair_on (d : Dev) (x : PairSt) (f' : FldDesc) (i' j' : Nat) : (d.setPair x).on f' i' j' = d.on f' i' j' := rfl
@[simp] theorem Dev.setPair_queue (d : Dev) (x : PairSt) (q' : Nat) : (d.setPair x).queue q' = d.queue q' := rfl
@[simp] theorem Dev.setPair_cmd? (d : Dev) (x : PairSt) (q' s' : Nat) : (d.setPair x).cmd? q' s' = d.cmd? q' s' := rfl
@[simp] theorem Dev.setPair_link (d : Dev) (x : PairSt) (p' : Nat) : (d.setPair x).link p' = d.link p' := rfl
@[simp] theorem Dev.setPair_lanes (d : Dev) (x : PairSt) (p' : Nat) : (d.setPair x).lanes p' = d.lanes p' := rfl
@[simp] theorem Dev.setPair_job (d : Dev) (x : PairSt) (p' : Nat) : (d.setPair x).job p' = d.job p' := rfl
@[simp] theorem Dev.setPair_moduleId (d : Dev) (x : PairSt) : (d.setPair x).moduleId = d.moduleId := rfl
@[simp] theorem Dev.setPair_wt (d : Dev) (x : PairSt) : (d.setPair x).wt = d.wt := rfl

/-! ### reply -/

@[simp] theorem Dev.reply_now (d : Dev) (r : MirrorReply) : (d.reply r).now = d.now := rfl
@[simp] theorem Dev.reply_regs (d : Dev) (r : MirrorReply) : (d.reply r).regs = d.regs := rfl
@[simp] theorem Dev.reply_latch (d : Dev) (r : MirrorReply) : (d.reply r).latch = d.latch := rfl
@[simp] theorem Dev.reply_host (d : Dev) (r : MirrorReply) : (d.reply r).host = d.host := rfl
@[simp] theorem Dev.reply_boot (d : Dev) (r : MirrorReply) : (d.reply r).boot = d.boot := rfl
@[simp] theorem Dev.reply_time (d : Dev) (r : MirrorReply) : (d.reply r).time = d.time := rfl
@[simp] theorem Dev.reply_ref (d : Dev) (r : MirrorReply) : (d.reply r).ref = d.ref := rfl
@[simp] theorem Dev.reply_recd (d : Dev) (r : MirrorReply) : (d.reply r).recd = d.recd := rfl
@[simp] theorem Dev.reply_err (d : Dev) (r : MirrorReply) : (d.reply r).err = d.err := rfl
@[simp] theorem Dev.reply_prot (d : Dev) (r : MirrorReply) : (d.reply r).prot = d.prot := rfl
@[simp] theorem Dev.reply_pwr (d : Dev) (r : MirrorReply) : (d.reply r).pwr = d.pwr := rfl
@[simp] theorem Dev.reply_sys (d : Dev) (r : MirrorReply) : (d.reply r).sys = d.sys := rfl
@[simp] theorem Dev.reply_net (d : Dev) (r : MirrorReply) : (d.reply r).net = d.net := rfl
@[simp] theorem Dev.reply_dec (d : Dev) (r : MirrorReply) : (d.reply r).dec = d.dec := rfl
@[simp] theorem Dev.reply_lay (d : Dev) (r : MirrorReply) : (d.reply r).lay = d.lay := rfl
@[simp] theorem Dev.reply_comp (d : Dev) (r : MirrorReply) : (d.reply r).comp = d.comp := rfl
@[simp] theorem Dev.reply_enc (d : Dev) (r : MirrorReply) : (d.reply r).enc = d.enc := rfl
@[simp] theorem Dev.reply_io (d : Dev) (r : MirrorReply) : (d.reply r).io = d.io := rfl
@[simp] theorem Dev.reply_mctl (d : Dev) (r : MirrorReply) : (d.reply r).mctl = d.mctl := rfl
@[simp] theorem Dev.reply_reg (d : Dev) (r : MirrorReply) (r' : RegDesc) (i' j' : Nat) : (d.reply r).reg r' i' j' = d.reg r' i' j' := rfl
@[simp] theorem Dev.reply_get (d : Dev) (r : MirrorReply) (f' : FldDesc) (i' j' : Nat) : (d.reply r).get f' i' j' = d.get f' i' j' := rfl
@[simp] theorem Dev.reply_on (d : Dev) (r : MirrorReply) (f' : FldDesc) (i' j' : Nat) : (d.reply r).on f' i' j' = d.on f' i' j' := rfl
@[simp] theorem Dev.reply_queue (d : Dev) (r : MirrorReply) (q' : Nat) : (d.reply r).queue q' = d.queue q' := rfl
@[simp] theorem Dev.reply_cmd? (d : Dev) (r : MirrorReply) (q' s' : Nat) : (d.reply r).cmd? q' s' = d.cmd? q' s' := rfl
@[simp] theorem Dev.reply_link (d : Dev) (r : MirrorReply) (p' : Nat) : (d.reply r).link p' = d.link p' := rfl
@[simp] theorem Dev.reply_lanes (d : Dev) (r : MirrorReply) (p' : Nat) : (d.reply r).lanes p' = d.lanes p' := rfl
@[simp] theorem Dev.reply_job (d : Dev) (r : MirrorReply) (p' : Nat) : (d.reply r).job p' = d.job p' := rfl
@[simp] theorem Dev.reply_moduleId (d : Dev) (r : MirrorReply) : (d.reply r).moduleId = d.moduleId := rfl
@[simp] theorem Dev.reply_wt (d : Dev) (r : MirrorReply) : (d.reply r).wt = d.wt := rfl

/-! ### setMctl -/

@[simp] theorem Dev.setMctl_now (d : Dev) (x : MemCtl) : (d.setMctl x).now = d.now := rfl
@[simp] theorem Dev.setMctl_regs (d : Dev) (x : MemCtl) : (d.setMctl x).regs = d.regs := rfl
@[simp] theorem Dev.setMctl_latch (d : Dev) (x : MemCtl) : (d.setMctl x).latch = d.latch := rfl
@[simp] theorem Dev.setMctl_host (d : Dev) (x : MemCtl) : (d.setMctl x).host = d.host := rfl
@[simp] theorem Dev.setMctl_boot (d : Dev) (x : MemCtl) : (d.setMctl x).boot = d.boot := rfl
@[simp] theorem Dev.setMctl_time (d : Dev) (x : MemCtl) : (d.setMctl x).time = d.time := rfl
@[simp] theorem Dev.setMctl_ref (d : Dev) (x : MemCtl) : (d.setMctl x).ref = d.ref := rfl
@[simp] theorem Dev.setMctl_recd (d : Dev) (x : MemCtl) : (d.setMctl x).recd = d.recd := rfl
@[simp] theorem Dev.setMctl_err (d : Dev) (x : MemCtl) : (d.setMctl x).err = d.err := rfl
@[simp] theorem Dev.setMctl_prot (d : Dev) (x : MemCtl) : (d.setMctl x).prot = d.prot := rfl
@[simp] theorem Dev.setMctl_pwr (d : Dev) (x : MemCtl) : (d.setMctl x).pwr = d.pwr := rfl
@[simp] theorem Dev.setMctl_sys (d : Dev) (x : MemCtl) : (d.setMctl x).sys = d.sys := rfl
@[simp] theorem Dev.setMctl_net (d : Dev) (x : MemCtl) : (d.setMctl x).net = d.net := rfl
@[simp] theorem Dev.setMctl_dec (d : Dev) (x : MemCtl) : (d.setMctl x).dec = d.dec := rfl
@[simp] theorem Dev.setMctl_lay (d : Dev) (x : MemCtl) : (d.setMctl x).lay = d.lay := rfl
@[simp] theorem Dev.setMctl_comp (d : Dev) (x : MemCtl) : (d.setMctl x).comp = d.comp := rfl
@[simp] theorem Dev.setMctl_enc (d : Dev) (x : MemCtl) : (d.setMctl x).enc = d.enc := rfl
@[simp] theorem Dev.setMctl_io (d : Dev) (x : MemCtl) : (d.setMctl x).io = d.io := rfl
@[simp] theorem Dev.setMctl_pair (d : Dev) (x : MemCtl) : (d.setMctl x).pair = d.pair := rfl
@[simp] theorem Dev.setMctl_reg (d : Dev) (x : MemCtl) (r' : RegDesc) (i' j' : Nat) : (d.setMctl x).reg r' i' j' = d.reg r' i' j' := rfl
@[simp] theorem Dev.setMctl_get (d : Dev) (x : MemCtl) (f' : FldDesc) (i' j' : Nat) : (d.setMctl x).get f' i' j' = d.get f' i' j' := rfl
@[simp] theorem Dev.setMctl_on (d : Dev) (x : MemCtl) (f' : FldDesc) (i' j' : Nat) : (d.setMctl x).on f' i' j' = d.on f' i' j' := rfl
@[simp] theorem Dev.setMctl_queue (d : Dev) (x : MemCtl) (q' : Nat) : (d.setMctl x).queue q' = d.queue q' := rfl
@[simp] theorem Dev.setMctl_cmd? (d : Dev) (x : MemCtl) (q' s' : Nat) : (d.setMctl x).cmd? q' s' = d.cmd? q' s' := rfl
@[simp] theorem Dev.setMctl_link (d : Dev) (x : MemCtl) (p' : Nat) : (d.setMctl x).link p' = d.link p' := rfl
@[simp] theorem Dev.setMctl_lanes (d : Dev) (x : MemCtl) (p' : Nat) : (d.setMctl x).lanes p' = d.lanes p' := rfl
@[simp] theorem Dev.setMctl_job (d : Dev) (x : MemCtl) (p' : Nat) : (d.setMctl x).job p' = d.job p' := rfl
@[simp] theorem Dev.setMctl_moduleId (d : Dev) (x : MemCtl) : (d.setMctl x).moduleId = d.moduleId := rfl
@[simp] theorem Dev.setMctl_wt (d : Dev) (x : MemCtl) : (d.setMctl x).wt = d.wt := rfl

/-! ### setBoot -/

@[simp] theorem Dev.setBoot_now (d : Dev) (x : BootSt) : (d.setBoot x).now = d.now := rfl
@[simp] theorem Dev.setBoot_regs (d : Dev) (x : BootSt) : (d.setBoot x).regs = d.regs := rfl
@[simp] theorem Dev.setBoot_latch (d : Dev) (x : BootSt) : (d.setBoot x).latch = d.latch := rfl
@[simp] theorem Dev.setBoot_host (d : Dev) (x : BootSt) : (d.setBoot x).host = d.host := rfl
@[simp] theorem Dev.setBoot_time (d : Dev) (x : BootSt) : (d.setBoot x).time = d.time := rfl
@[simp] theorem Dev.setBoot_ref (d : Dev) (x : BootSt) : (d.setBoot x).ref = d.ref := rfl
@[simp] theorem Dev.setBoot_recd (d : Dev) (x : BootSt) : (d.setBoot x).recd = d.recd := rfl
@[simp] theorem Dev.setBoot_err (d : Dev) (x : BootSt) : (d.setBoot x).err = d.err := rfl
@[simp] theorem Dev.setBoot_prot (d : Dev) (x : BootSt) : (d.setBoot x).prot = d.prot := rfl
@[simp] theorem Dev.setBoot_pwr (d : Dev) (x : BootSt) : (d.setBoot x).pwr = d.pwr := rfl
@[simp] theorem Dev.setBoot_sys (d : Dev) (x : BootSt) : (d.setBoot x).sys = d.sys := rfl
@[simp] theorem Dev.setBoot_net (d : Dev) (x : BootSt) : (d.setBoot x).net = d.net := rfl
@[simp] theorem Dev.setBoot_dec (d : Dev) (x : BootSt) : (d.setBoot x).dec = d.dec := rfl
@[simp] theorem Dev.setBoot_lay (d : Dev) (x : BootSt) : (d.setBoot x).lay = d.lay := rfl
@[simp] theorem Dev.setBoot_comp (d : Dev) (x : BootSt) : (d.setBoot x).comp = d.comp := rfl
@[simp] theorem Dev.setBoot_enc (d : Dev) (x : BootSt) : (d.setBoot x).enc = d.enc := rfl
@[simp] theorem Dev.setBoot_io (d : Dev) (x : BootSt) : (d.setBoot x).io = d.io := rfl
@[simp] theorem Dev.setBoot_pair (d : Dev) (x : BootSt) : (d.setBoot x).pair = d.pair := rfl
@[simp] theorem Dev.setBoot_mctl (d : Dev) (x : BootSt) : (d.setBoot x).mctl = d.mctl := rfl
@[simp] theorem Dev.setBoot_reg (d : Dev) (x : BootSt) (r' : RegDesc) (i' j' : Nat) : (d.setBoot x).reg r' i' j' = d.reg r' i' j' := rfl
@[simp] theorem Dev.setBoot_get (d : Dev) (x : BootSt) (f' : FldDesc) (i' j' : Nat) : (d.setBoot x).get f' i' j' = d.get f' i' j' := rfl
@[simp] theorem Dev.setBoot_on (d : Dev) (x : BootSt) (f' : FldDesc) (i' j' : Nat) : (d.setBoot x).on f' i' j' = d.on f' i' j' := rfl
@[simp] theorem Dev.setBoot_queue (d : Dev) (x : BootSt) (q' : Nat) : (d.setBoot x).queue q' = d.queue q' := rfl
@[simp] theorem Dev.setBoot_cmd? (d : Dev) (x : BootSt) (q' s' : Nat) : (d.setBoot x).cmd? q' s' = d.cmd? q' s' := rfl
@[simp] theorem Dev.setBoot_link (d : Dev) (x : BootSt) (p' : Nat) : (d.setBoot x).link p' = d.link p' := rfl
@[simp] theorem Dev.setBoot_lanes (d : Dev) (x : BootSt) (p' : Nat) : (d.setBoot x).lanes p' = d.lanes p' := rfl
@[simp] theorem Dev.setBoot_job (d : Dev) (x : BootSt) (p' : Nat) : (d.setBoot x).job p' = d.job p' := rfl
@[simp] theorem Dev.setBoot_moduleId (d : Dev) (x : BootSt) : (d.setBoot x).moduleId = d.moduleId := rfl
@[simp] theorem Dev.setBoot_wt (d : Dev) (x : BootSt) : (d.setBoot x).wt = d.wt := rfl

/-! ### setPwr -/

@[simp] theorem Dev.setPwr_now (d : Dev) (x : PwrSt) : (d.setPwr x).now = d.now := rfl
@[simp] theorem Dev.setPwr_regs (d : Dev) (x : PwrSt) : (d.setPwr x).regs = d.regs := rfl
@[simp] theorem Dev.setPwr_latch (d : Dev) (x : PwrSt) : (d.setPwr x).latch = d.latch := rfl
@[simp] theorem Dev.setPwr_host (d : Dev) (x : PwrSt) : (d.setPwr x).host = d.host := rfl
@[simp] theorem Dev.setPwr_boot (d : Dev) (x : PwrSt) : (d.setPwr x).boot = d.boot := rfl
@[simp] theorem Dev.setPwr_time (d : Dev) (x : PwrSt) : (d.setPwr x).time = d.time := rfl
@[simp] theorem Dev.setPwr_ref (d : Dev) (x : PwrSt) : (d.setPwr x).ref = d.ref := rfl
@[simp] theorem Dev.setPwr_recd (d : Dev) (x : PwrSt) : (d.setPwr x).recd = d.recd := rfl
@[simp] theorem Dev.setPwr_err (d : Dev) (x : PwrSt) : (d.setPwr x).err = d.err := rfl
@[simp] theorem Dev.setPwr_prot (d : Dev) (x : PwrSt) : (d.setPwr x).prot = d.prot := rfl
@[simp] theorem Dev.setPwr_sys (d : Dev) (x : PwrSt) : (d.setPwr x).sys = d.sys := rfl
@[simp] theorem Dev.setPwr_net (d : Dev) (x : PwrSt) : (d.setPwr x).net = d.net := rfl
@[simp] theorem Dev.setPwr_dec (d : Dev) (x : PwrSt) : (d.setPwr x).dec = d.dec := rfl
@[simp] theorem Dev.setPwr_lay (d : Dev) (x : PwrSt) : (d.setPwr x).lay = d.lay := rfl
@[simp] theorem Dev.setPwr_comp (d : Dev) (x : PwrSt) : (d.setPwr x).comp = d.comp := rfl
@[simp] theorem Dev.setPwr_enc (d : Dev) (x : PwrSt) : (d.setPwr x).enc = d.enc := rfl
@[simp] theorem Dev.setPwr_io (d : Dev) (x : PwrSt) : (d.setPwr x).io = d.io := rfl
@[simp] theorem Dev.setPwr_pair (d : Dev) (x : PwrSt) : (d.setPwr x).pair = d.pair := rfl
@[simp] theorem Dev.setPwr_mctl (d : Dev) (x : PwrSt) : (d.setPwr x).mctl = d.mctl := rfl
@[simp] theorem Dev.setPwr_reg (d : Dev) (x : PwrSt) (r' : RegDesc) (i' j' : Nat) : (d.setPwr x).reg r' i' j' = d.reg r' i' j' := rfl
@[simp] theorem Dev.setPwr_get (d : Dev) (x : PwrSt) (f' : FldDesc) (i' j' : Nat) : (d.setPwr x).get f' i' j' = d.get f' i' j' := rfl
@[simp] theorem Dev.setPwr_on (d : Dev) (x : PwrSt) (f' : FldDesc) (i' j' : Nat) : (d.setPwr x).on f' i' j' = d.on f' i' j' := rfl
@[simp] theorem Dev.setPwr_queue (d : Dev) (x : PwrSt) (q' : Nat) : (d.setPwr x).queue q' = d.queue q' := rfl
@[simp] theorem Dev.setPwr_cmd? (d : Dev) (x : PwrSt) (q' s' : Nat) : (d.setPwr x).cmd? q' s' = d.cmd? q' s' := rfl
@[simp] theorem Dev.setPwr_link (d : Dev) (x : PwrSt) (p' : Nat) : (d.setPwr x).link p' = d.link p' := rfl
@[simp] theorem Dev.setPwr_lanes (d : Dev) (x : PwrSt) (p' : Nat) : (d.setPwr x).lanes p' = d.lanes p' := rfl
@[simp] theorem Dev.setPwr_job (d : Dev) (x : PwrSt) (p' : Nat) : (d.setPwr x).job p' = d.job p' := rfl
@[simp] theorem Dev.setPwr_moduleId (d : Dev) (x : PwrSt) : (d.setPwr x).moduleId = d.moduleId := rfl
@[simp] theorem Dev.setPwr_wt (d : Dev) (x : PwrSt) : (d.setPwr x).wt = d.wt := rfl

/-! ### debugRespond -/

@[simp] theorem Dev.debugRespond_now (d : Dev) (r : Response) : (d.debugRespond r).now = d.now := rfl
@[simp] theorem Dev.debugRespond_regs (d : Dev) (r : Response) : (d.debugRespond r).regs = d.regs := rfl
@[simp] theorem Dev.debugRespond_latch (d : Dev) (r : Response) : (d.debugRespond r).latch = d.latch := rfl
@[simp] theorem Dev.debugRespond_host (d : Dev) (r : Response) : (d.debugRespond r).host = d.host := rfl
@[simp] theorem Dev.debugRespond_boot (d : Dev) (r : Response) : (d.debugRespond r).boot = d.boot := rfl
@[simp] theorem Dev.debugRespond_time (d : Dev) (r : Response) : (d.debugRespond r).time = d.time := rfl
@[simp] theorem Dev.debugRespond_ref (d : Dev) (r : Response) : (d.debugRespond r).ref = d.ref := rfl
@[simp] theorem Dev.debugRespond_recd (d : Dev) (r : Response) : (d.debugRespond r).recd = d.recd := rfl
@[simp] theorem Dev.debugRespond_err (d : Dev) (r : Response) : (d.debugRespond r).err = d.err := rfl
@[simp] theorem Dev.debugRespond_pwr (d : Dev) (r : Response) : (d.debugRespond r).pwr = d.pwr := rfl
@[simp] theorem Dev.debugRespond_sys (d : Dev) (r : Response) : (d.debugRespond r).sys = d.sys := rfl
@[simp] theorem Dev.debugRespond_net (d : Dev) (r : Response) : (d.debugRespond r).net = d.net := rfl
@[simp] theorem Dev.debugRespond_dec (d : Dev) (r : Response) : (d.debugRespond r).dec = d.dec := rfl
@[simp] theorem Dev.debugRespond_lay (d : Dev) (r : Response) : (d.debugRespond r).lay = d.lay := rfl
@[simp] theorem Dev.debugRespond_comp (d : Dev) (r : Response) : (d.debugRespond r).comp = d.comp := rfl
@[simp] theorem Dev.debugRespond_enc (d : Dev) (r : Response) : (d.debugRespond r).enc = d.enc := rfl
@[simp] theorem Dev.debugRespond_io (d : Dev) (r : Response) : (d.debugRespond r).io = d.io := rfl
@[simp] theorem Dev.debugRespond_pair (d : Dev) (r : Response) : (d.debugRespond r).pair = d.pair := rfl
@[simp] theorem Dev.debugRespond_mctl (d : Dev) (r : Response) : (d.debugRespond r).mctl = d.mctl := rfl
@[simp] theorem Dev.debugRespond_reg (d : Dev) (r : Response) (r' : RegDesc) (i' j' : Nat) : (d.debugRespond r).reg r' i' j' = d.reg r' i' j' := rfl
@[simp] theorem Dev.debugRespond_get (d : Dev) (r : Response) (f' : FldDesc) (i' j' : Nat) : (d.debugRespond r).get f' i' j' = d.get f' i' j' := rfl
@[simp] theorem Dev.debugRespond_on (d : Dev) (r : Response) (f' : FldDesc) (i' j' : Nat) : (d.debugRespond r).on f' i' j' = d.on f' i' j' := rfl
@[simp] theorem Dev.debugRespond_queue (d : Dev) (r : Response) (q' : Nat) : (d.debugRespond r).queue q' = d.queue q' := rfl
@[simp] theorem Dev.debugRespond_cmd? (d : Dev) (r : Response) (q' s' : Nat) : (d.debugRespond r).cmd? q' s' = d.cmd? q' s' := rfl
@[simp] theorem Dev.debugRespond_link (d : Dev) (r : Response) (p' : Nat) : (d.debugRespond r).link p' = d.link p' := rfl
@[simp] theorem Dev.debugRespond_lanes (d : Dev) (r : Response) (p' : Nat) : (d.debugRespond r).lanes p' = d.lanes p' := rfl
@[simp] theorem Dev.debugRespond_job (d : Dev) (r : Response) (p' : Nat) : (d.debugRespond r).job p' = d.job p' := rfl
@[simp] theorem Dev.debugRespond_moduleId (d : Dev) (r : Response) : (d.debugRespond r).moduleId = d.moduleId := rfl
@[simp] theorem Dev.debugRespond_wt (d : Dev) (r : Response) : (d.debugRespond r).wt = d.wt := rfl

/-! ### setCommits -/

@[simp] theorem Dev.setCommits_now (d : Dev) (cs : List Commit) : (d.setCommits cs).now = d.now := rfl
@[simp] theorem Dev.setCommits_regs (d : Dev) (cs : List Commit) : (d.setCommits cs).regs = d.regs := rfl
@[simp] theorem Dev.setCommits_latch (d : Dev) (cs : List Commit) : (d.setCommits cs).latch = d.latch := rfl
@[simp] theorem Dev.setCommits_host (d : Dev) (cs : List Commit) : (d.setCommits cs).host = d.host := rfl
@[simp] theorem Dev.setCommits_boot (d : Dev) (cs : List Commit) : (d.setCommits cs).boot = d.boot := rfl
@[simp] theorem Dev.setCommits_time (d : Dev) (cs : List Commit) : (d.setCommits cs).time = d.time := rfl
@[simp] theorem Dev.setCommits_ref (d : Dev) (cs : List Commit) : (d.setCommits cs).ref = d.ref := rfl
@[simp] theorem Dev.setCommits_recd (d : Dev) (cs : List Commit) : (d.setCommits cs).recd = d.recd := rfl
@[simp] theorem Dev.setCommits_err (d : Dev) (cs : List Commit) : (d.setCommits cs).err = d.err := rfl
@[simp] theorem Dev.setCommits_prot (d : Dev) (cs : List Commit) : (d.setCommits cs).prot = d.prot := rfl
@[simp] theorem Dev.setCommits_pwr (d : Dev) (cs : List Commit) : (d.setCommits cs).pwr = d.pwr := rfl
@[simp] theorem Dev.setCommits_sys (d : Dev) (cs : List Commit) : (d.setCommits cs).sys = d.sys := rfl
@[simp] theorem Dev.setCommits_net (d : Dev) (cs : List Commit) : (d.setCommits cs).net = d.net := rfl
@[simp] theorem Dev.setCommits_dec (d : Dev) (cs : List Commit) : (d.setCommits cs).dec = d.dec := rfl
@[simp] theorem Dev.setCommits_comp (d : Dev) (cs : List Commit) : (d.setCommits cs).comp = d.comp := rfl
@[simp] theorem Dev.setCommits_enc (d : Dev) (cs : List Commit) : (d.setCommits cs).enc = d.enc := rfl
@[simp] theorem Dev.setCommits_io (d : Dev) (cs : List Commit) : (d.setCommits cs).io = d.io := rfl
@[simp] theorem Dev.setCommits_pair (d : Dev) (cs : List Commit) : (d.setCommits cs).pair = d.pair := rfl
@[simp] theorem Dev.setCommits_mctl (d : Dev) (cs : List Commit) : (d.setCommits cs).mctl = d.mctl := rfl
@[simp] theorem Dev.setCommits_reg (d : Dev) (cs : List Commit) (r' : RegDesc) (i' j' : Nat) : (d.setCommits cs).reg r' i' j' = d.reg r' i' j' := rfl
@[simp] theorem Dev.setCommits_get (d : Dev) (cs : List Commit) (f' : FldDesc) (i' j' : Nat) : (d.setCommits cs).get f' i' j' = d.get f' i' j' := rfl
@[simp] theorem Dev.setCommits_on (d : Dev) (cs : List Commit) (f' : FldDesc) (i' j' : Nat) : (d.setCommits cs).on f' i' j' = d.on f' i' j' := rfl
@[simp] theorem Dev.setCommits_queue (d : Dev) (cs : List Commit) (q' : Nat) : (d.setCommits cs).queue q' = d.queue q' := rfl
@[simp] theorem Dev.setCommits_cmd? (d : Dev) (cs : List Commit) (q' s' : Nat) : (d.setCommits cs).cmd? q' s' = d.cmd? q' s' := rfl
@[simp] theorem Dev.setCommits_link (d : Dev) (cs : List Commit) (p' : Nat) : (d.setCommits cs).link p' = d.link p' := rfl
@[simp] theorem Dev.setCommits_lanes (d : Dev) (cs : List Commit) (p' : Nat) : (d.setCommits cs).lanes p' = d.lanes p' := rfl
@[simp] theorem Dev.setCommits_job (d : Dev) (cs : List Commit) (p' : Nat) : (d.setCommits cs).job p' = d.job p' := rfl
@[simp] theorem Dev.setCommits_moduleId (d : Dev) (cs : List Commit) : (d.setCommits cs).moduleId = d.moduleId := rfl
@[simp] theorem Dev.setCommits_wt (d : Dev) (cs : List Commit) : (d.setCommits cs).wt = d.wt := rfl

/-! ### setRecv -/

@[simp] theorem Dev.setRecv_now (d : Dev) (r : Nat) (x : Recv) : (d.setRecv r x).now = d.now := rfl
@[simp] theorem Dev.setRecv_regs (d : Dev) (r : Nat) (x : Recv) : (d.setRecv r x).regs = d.regs := rfl
@[simp] theorem Dev.setRecv_latch (d : Dev) (r : Nat) (x : Recv) : (d.setRecv r x).latch = d.latch := rfl
@[simp] theorem Dev.setRecv_host (d : Dev) (r : Nat) (x : Recv) : (d.setRecv r x).host = d.host := rfl
@[simp] theorem Dev.setRecv_boot (d : Dev) (r : Nat) (x : Recv) : (d.setRecv r x).boot = d.boot := rfl
@[simp] theorem Dev.setRecv_time (d : Dev) (r : Nat) (x : Recv) : (d.setRecv r x).time = d.time := rfl
@[simp] theorem Dev.setRecv_ref (d : Dev) (r : Nat) (x : Recv) : (d.setRecv r x).ref = d.ref := rfl
@[simp] theorem Dev.setRecv_recd (d : Dev) (r : Nat) (x : Recv) : (d.setRecv r x).recd = d.recd := rfl
@[simp] theorem Dev.setRecv_err (d : Dev) (r : Nat) (x : Recv) : (d.setRecv r x).err = d.err := rfl
@[simp] theorem Dev.setRecv_prot (d : Dev) (r : Nat) (x : Recv) : (d.setRecv r x).prot = d.prot := rfl
@[simp] theorem Dev.setRecv_pwr (d : Dev) (r : Nat) (x : Recv) : (d.setRecv r x).pwr = d.pwr := rfl
@[simp] theorem Dev.setRecv_net (d : Dev) (r : Nat) (x : Recv) : (d.setRecv r x).net = d.net := rfl
@[simp] theorem Dev.setRecv_dec (d : Dev) (r : Nat) (x : Recv) : (d.setRecv r x).dec = d.dec := rfl
@[simp] theorem Dev.setRecv_lay (d : Dev) (r : Nat) (x : Recv) : (d.setRecv r x).lay = d.lay := rfl
@[simp] theorem Dev.setRecv_comp (d : Dev) (r : Nat) (x : Recv) : (d.setRecv r x).comp = d.comp := rfl
@[simp] theorem Dev.setRecv_enc (d : Dev) (r : Nat) (x : Recv) : (d.setRecv r x).enc = d.enc := rfl
@[simp] theorem Dev.setRecv_io (d : Dev) (r : Nat) (x : Recv) : (d.setRecv r x).io = d.io := rfl
@[simp] theorem Dev.setRecv_pair (d : Dev) (r : Nat) (x : Recv) : (d.setRecv r x).pair = d.pair := rfl
@[simp] theorem Dev.setRecv_mctl (d : Dev) (r : Nat) (x : Recv) : (d.setRecv r x).mctl = d.mctl := rfl
@[simp] theorem Dev.setRecv_reg (d : Dev) (r : Nat) (x : Recv) (r' : RegDesc) (i' j' : Nat) : (d.setRecv r x).reg r' i' j' = d.reg r' i' j' := rfl
@[simp] theorem Dev.setRecv_get (d : Dev) (r : Nat) (x : Recv) (f' : FldDesc) (i' j' : Nat) : (d.setRecv r x).get f' i' j' = d.get f' i' j' := rfl
@[simp] theorem Dev.setRecv_on (d : Dev) (r : Nat) (x : Recv) (f' : FldDesc) (i' j' : Nat) : (d.setRecv r x).on f' i' j' = d.on f' i' j' := rfl
@[simp] theorem Dev.setRecv_queue (d : Dev) (r : Nat) (x : Recv) (q' : Nat) : (d.setRecv r x).queue q' = d.queue q' := rfl
@[simp] theorem Dev.setRecv_cmd? (d : Dev) (r : Nat) (x : Recv) (q' s' : Nat) : (d.setRecv r x).cmd? q' s' = d.cmd? q' s' := rfl
@[simp] theorem Dev.setRecv_moduleId (d : Dev) (r : Nat) (x : Recv) : (d.setRecv r x).moduleId = d.moduleId := rfl
@[simp] theorem Dev.setRecv_wt (d : Dev) (r : Nat) (x : Recv) : (d.setRecv r x).wt = d.wt := rfl

/-! ### setLink -/

@[simp] theorem Dev.setLink_now (d : Dev) (p : Nat) (x : Link) : (d.setLink p x).now = d.now := rfl
@[simp] theorem Dev.setLink_regs (d : Dev) (p : Nat) (x : Link) : (d.setLink p x).regs = d.regs := rfl
@[simp] theorem Dev.setLink_latch (d : Dev) (p : Nat) (x : Link) : (d.setLink p x).latch = d.latch := rfl
@[simp] theorem Dev.setLink_host (d : Dev) (p : Nat) (x : Link) : (d.setLink p x).host = d.host := rfl
@[simp] theorem Dev.setLink_boot (d : Dev) (p : Nat) (x : Link) : (d.setLink p x).boot = d.boot := rfl
@[simp] theorem Dev.setLink_time (d : Dev) (p : Nat) (x : Link) : (d.setLink p x).time = d.time := rfl
@[simp] theorem Dev.setLink_ref (d : Dev) (p : Nat) (x : Link) : (d.setLink p x).ref = d.ref := rfl
@[simp] theorem Dev.setLink_recd (d : Dev) (p : Nat) (x : Link) : (d.setLink p x).recd = d.recd := rfl
@[simp] theorem Dev.setLink_err (d : Dev) (p : Nat) (x : Link) : (d.setLink p x).err = d.err := rfl
@[simp] theorem Dev.setLink_prot (d : Dev) (p : Nat) (x : Link) : (d.setLink p x).prot = d.prot := rfl
@[simp] theorem Dev.setLink_pwr (d : Dev) (p : Nat) (x : Link) : (d.setLink p x).pwr = d.pwr := rfl
@[simp] theorem Dev.setLink_net (d : Dev) (p : Nat) (x : Link) : (d.setLink p x).net = d.net := rfl
@[simp] theorem Dev.setLink_dec (d : Dev) (p : Nat) (x : Link) : (d.setLink p x).dec = d.dec := rfl
@[simp] theorem Dev.setLink_lay (d : Dev) (p : Nat) (x : Link) : (d.setLink p x).lay = d.lay := rfl
@[simp] theorem Dev.setLink_comp (d : Dev) (p : Nat) (x : Link) : (d.setLink p x).comp = d.comp := rfl
@[simp] theorem Dev.setLink_enc (d : Dev) (p : Nat) (x : Link) : (d.setLink p x).enc = d.enc := rfl
@[simp] theorem Dev.setLink_io (d : Dev) (p : Nat) (x : Link) : (d.setLink p x).io = d.io := rfl
@[simp] theorem Dev.setLink_pair (d : Dev) (p : Nat) (x : Link) : (d.setLink p x).pair = d.pair := rfl
@[simp] theorem Dev.setLink_mctl (d : Dev) (p : Nat) (x : Link) : (d.setLink p x).mctl = d.mctl := rfl
@[simp] theorem Dev.setLink_reg (d : Dev) (p : Nat) (x : Link) (r' : RegDesc) (i' j' : Nat) : (d.setLink p x).reg r' i' j' = d.reg r' i' j' := rfl
@[simp] theorem Dev.setLink_get (d : Dev) (p : Nat) (x : Link) (f' : FldDesc) (i' j' : Nat) : (d.setLink p x).get f' i' j' = d.get f' i' j' := rfl
@[simp] theorem Dev.setLink_on (d : Dev) (p : Nat) (x : Link) (f' : FldDesc) (i' j' : Nat) : (d.setLink p x).on f' i' j' = d.on f' i' j' := rfl
@[simp] theorem Dev.setLink_queue (d : Dev) (p : Nat) (x : Link) (q' : Nat) : (d.setLink p x).queue q' = d.queue q' := rfl
@[simp] theorem Dev.setLink_cmd? (d : Dev) (p : Nat) (x : Link) (q' s' : Nat) : (d.setLink p x).cmd? q' s' = d.cmd? q' s' := rfl
@[simp] theorem Dev.setLink_moduleId (d : Dev) (p : Nat) (x : Link) : (d.setLink p x).moduleId = d.moduleId := rfl
@[simp] theorem Dev.setLink_wt (d : Dev) (p : Nat) (x : Link) : (d.setLink p x).wt = d.wt := rfl

/-! ### setLanes -/

@[simp] theorem Dev.setLanes_now (d : Dev) (p : Nat) (x : Train) : (d.setLanes p x).now = d.now := rfl
@[simp] theorem Dev.setLanes_regs (d : Dev) (p : Nat) (x : Train) : (d.setLanes p x).regs = d.regs := rfl
@[simp] theorem Dev.setLanes_latch (d : Dev) (p : Nat) (x : Train) : (d.setLanes p x).latch = d.latch := rfl
@[simp] theorem Dev.setLanes_host (d : Dev) (p : Nat) (x : Train) : (d.setLanes p x).host = d.host := rfl
@[simp] theorem Dev.setLanes_boot (d : Dev) (p : Nat) (x : Train) : (d.setLanes p x).boot = d.boot := rfl
@[simp] theorem Dev.setLanes_time (d : Dev) (p : Nat) (x : Train) : (d.setLanes p x).time = d.time := rfl
@[simp] theorem Dev.setLanes_ref (d : Dev) (p : Nat) (x : Train) : (d.setLanes p x).ref = d.ref := rfl
@[simp] theorem Dev.setLanes_recd (d : Dev) (p : Nat) (x : Train) : (d.setLanes p x).recd = d.recd := rfl
@[simp] theorem Dev.setLanes_err (d : Dev) (p : Nat) (x : Train) : (d.setLanes p x).err = d.err := rfl
@[simp] theorem Dev.setLanes_prot (d : Dev) (p : Nat) (x : Train) : (d.setLanes p x).prot = d.prot := rfl
@[simp] theorem Dev.setLanes_pwr (d : Dev) (p : Nat) (x : Train) : (d.setLanes p x).pwr = d.pwr := rfl
@[simp] theorem Dev.setLanes_net (d : Dev) (p : Nat) (x : Train) : (d.setLanes p x).net = d.net := rfl
@[simp] theorem Dev.setLanes_dec (d : Dev) (p : Nat) (x : Train) : (d.setLanes p x).dec = d.dec := rfl
@[simp] theorem Dev.setLanes_lay (d : Dev) (p : Nat) (x : Train) : (d.setLanes p x).lay = d.lay := rfl
@[simp] theorem Dev.setLanes_comp (d : Dev) (p : Nat) (x : Train) : (d.setLanes p x).comp = d.comp := rfl
@[simp] theorem Dev.setLanes_enc (d : Dev) (p : Nat) (x : Train) : (d.setLanes p x).enc = d.enc := rfl
@[simp] theorem Dev.setLanes_io (d : Dev) (p : Nat) (x : Train) : (d.setLanes p x).io = d.io := rfl
@[simp] theorem Dev.setLanes_pair (d : Dev) (p : Nat) (x : Train) : (d.setLanes p x).pair = d.pair := rfl
@[simp] theorem Dev.setLanes_mctl (d : Dev) (p : Nat) (x : Train) : (d.setLanes p x).mctl = d.mctl := rfl
@[simp] theorem Dev.setLanes_reg (d : Dev) (p : Nat) (x : Train) (r' : RegDesc) (i' j' : Nat) : (d.setLanes p x).reg r' i' j' = d.reg r' i' j' := rfl
@[simp] theorem Dev.setLanes_get (d : Dev) (p : Nat) (x : Train) (f' : FldDesc) (i' j' : Nat) : (d.setLanes p x).get f' i' j' = d.get f' i' j' := rfl
@[simp] theorem Dev.setLanes_on (d : Dev) (p : Nat) (x : Train) (f' : FldDesc) (i' j' : Nat) : (d.setLanes p x).on f' i' j' = d.on f' i' j' := rfl
@[simp] theorem Dev.setLanes_queue (d : Dev) (p : Nat) (x : Train) (q' : Nat) : (d.setLanes p x).queue q' = d.queue q' := rfl
@[simp] theorem Dev.setLanes_cmd? (d : Dev) (p : Nat) (x : Train) (q' s' : Nat) : (d.setLanes p x).cmd? q' s' = d.cmd? q' s' := rfl
@[simp] theorem Dev.setLanes_moduleId (d : Dev) (p : Nat) (x : Train) : (d.setLanes p x).moduleId = d.moduleId := rfl
@[simp] theorem Dev.setLanes_wt (d : Dev) (p : Nat) (x : Train) : (d.setLanes p x).wt = d.wt := rfl

/-! ### enqueue -/

@[simp] theorem Dev.enqueue_now (d : Dev) (p : Nat) (o : OutEnv) : (d.enqueue p o).now = d.now := rfl
@[simp] theorem Dev.enqueue_regs (d : Dev) (p : Nat) (o : OutEnv) : (d.enqueue p o).regs = d.regs := rfl
@[simp] theorem Dev.enqueue_latch (d : Dev) (p : Nat) (o : OutEnv) : (d.enqueue p o).latch = d.latch := rfl
@[simp] theorem Dev.enqueue_host (d : Dev) (p : Nat) (o : OutEnv) : (d.enqueue p o).host = d.host := rfl
@[simp] theorem Dev.enqueue_boot (d : Dev) (p : Nat) (o : OutEnv) : (d.enqueue p o).boot = d.boot := rfl
@[simp] theorem Dev.enqueue_time (d : Dev) (p : Nat) (o : OutEnv) : (d.enqueue p o).time = d.time := rfl
@[simp] theorem Dev.enqueue_ref (d : Dev) (p : Nat) (o : OutEnv) : (d.enqueue p o).ref = d.ref := rfl
@[simp] theorem Dev.enqueue_recd (d : Dev) (p : Nat) (o : OutEnv) : (d.enqueue p o).recd = d.recd := rfl
@[simp] theorem Dev.enqueue_err (d : Dev) (p : Nat) (o : OutEnv) : (d.enqueue p o).err = d.err := rfl
@[simp] theorem Dev.enqueue_prot (d : Dev) (p : Nat) (o : OutEnv) : (d.enqueue p o).prot = d.prot := rfl
@[simp] theorem Dev.enqueue_pwr (d : Dev) (p : Nat) (o : OutEnv) : (d.enqueue p o).pwr = d.pwr := rfl
@[simp] theorem Dev.enqueue_net (d : Dev) (p : Nat) (o : OutEnv) : (d.enqueue p o).net = d.net := rfl
@[simp] theorem Dev.enqueue_dec (d : Dev) (p : Nat) (o : OutEnv) : (d.enqueue p o).dec = d.dec := rfl
@[simp] theorem Dev.enqueue_lay (d : Dev) (p : Nat) (o : OutEnv) : (d.enqueue p o).lay = d.lay := rfl
@[simp] theorem Dev.enqueue_comp (d : Dev) (p : Nat) (o : OutEnv) : (d.enqueue p o).comp = d.comp := rfl
@[simp] theorem Dev.enqueue_enc (d : Dev) (p : Nat) (o : OutEnv) : (d.enqueue p o).enc = d.enc := rfl
@[simp] theorem Dev.enqueue_io (d : Dev) (p : Nat) (o : OutEnv) : (d.enqueue p o).io = d.io := rfl
@[simp] theorem Dev.enqueue_pair (d : Dev) (p : Nat) (o : OutEnv) : (d.enqueue p o).pair = d.pair := rfl
@[simp] theorem Dev.enqueue_mctl (d : Dev) (p : Nat) (o : OutEnv) : (d.enqueue p o).mctl = d.mctl := rfl
@[simp] theorem Dev.enqueue_reg (d : Dev) (p : Nat) (o : OutEnv) (r' : RegDesc) (i' j' : Nat) : (d.enqueue p o).reg r' i' j' = d.reg r' i' j' := rfl
@[simp] theorem Dev.enqueue_get (d : Dev) (p : Nat) (o : OutEnv) (f' : FldDesc) (i' j' : Nat) : (d.enqueue p o).get f' i' j' = d.get f' i' j' := rfl
@[simp] theorem Dev.enqueue_on (d : Dev) (p : Nat) (o : OutEnv) (f' : FldDesc) (i' j' : Nat) : (d.enqueue p o).on f' i' j' = d.on f' i' j' := rfl
@[simp] theorem Dev.enqueue_queue (d : Dev) (p : Nat) (o : OutEnv) (q' : Nat) : (d.enqueue p o).queue q' = d.queue q' := rfl
@[simp] theorem Dev.enqueue_cmd? (d : Dev) (p : Nat) (o : OutEnv) (q' s' : Nat) : (d.enqueue p o).cmd? q' s' = d.cmd? q' s' := rfl
@[simp] theorem Dev.enqueue_moduleId (d : Dev) (p : Nat) (o : OutEnv) : (d.enqueue p o).moduleId = d.moduleId := rfl
@[simp] theorem Dev.enqueue_wt (d : Dev) (p : Nat) (o : OutEnv) : (d.enqueue p o).wt = d.wt := rfl

/-! ### deliverEnv -/

@[simp] theorem Dev.deliverEnv_now (d : Dev) (p : Nat) (e : Env) : (d.deliverEnv p e).now = d.now := rfl
@[simp] theorem Dev.deliverEnv_regs (d : Dev) (p : Nat) (e : Env) : (d.deliverEnv p e).regs = d.regs := rfl
@[simp] theorem Dev.deliverEnv_latch (d : Dev) (p : Nat) (e : Env) : (d.deliverEnv p e).latch = d.latch := rfl
@[simp] theorem Dev.deliverEnv_host (d : Dev) (p : Nat) (e : Env) : (d.deliverEnv p e).host = d.host := rfl
@[simp] theorem Dev.deliverEnv_boot (d : Dev) (p : Nat) (e : Env) : (d.deliverEnv p e).boot = d.boot := rfl
@[simp] theorem Dev.deliverEnv_time (d : Dev) (p : Nat) (e : Env) : (d.deliverEnv p e).time = d.time := rfl
@[simp] theorem Dev.deliverEnv_ref (d : Dev) (p : Nat) (e : Env) : (d.deliverEnv p e).ref = d.ref := rfl
@[simp] theorem Dev.deliverEnv_recd (d : Dev) (p : Nat) (e : Env) : (d.deliverEnv p e).recd = d.recd := rfl
@[simp] theorem Dev.deliverEnv_err (d : Dev) (p : Nat) (e : Env) : (d.deliverEnv p e).err = d.err := rfl
@[simp] theorem Dev.deliverEnv_prot (d : Dev) (p : Nat) (e : Env) : (d.deliverEnv p e).prot = d.prot := rfl
@[simp] theorem Dev.deliverEnv_pwr (d : Dev) (p : Nat) (e : Env) : (d.deliverEnv p e).pwr = d.pwr := rfl
@[simp] theorem Dev.deliverEnv_net (d : Dev) (p : Nat) (e : Env) : (d.deliverEnv p e).net = d.net := rfl
@[simp] theorem Dev.deliverEnv_dec (d : Dev) (p : Nat) (e : Env) : (d.deliverEnv p e).dec = d.dec := rfl
@[simp] theorem Dev.deliverEnv_lay (d : Dev) (p : Nat) (e : Env) : (d.deliverEnv p e).lay = d.lay := rfl
@[simp] theorem Dev.deliverEnv_comp (d : Dev) (p : Nat) (e : Env) : (d.deliverEnv p e).comp = d.comp := rfl
@[simp] theorem Dev.deliverEnv_enc (d : Dev) (p : Nat) (e : Env) : (d.deliverEnv p e).enc = d.enc := rfl
@[simp] theorem Dev.deliverEnv_io (d : Dev) (p : Nat) (e : Env) : (d.deliverEnv p e).io = d.io := rfl
@[simp] theorem Dev.deliverEnv_pair (d : Dev) (p : Nat) (e : Env) : (d.deliverEnv p e).pair = d.pair := rfl
@[simp] theorem Dev.deliverEnv_mctl (d : Dev) (p : Nat) (e : Env) : (d.deliverEnv p e).mctl = d.mctl := rfl
@[simp] theorem Dev.deliverEnv_reg (d : Dev) (p : Nat) (e : Env) (r' : RegDesc) (i' j' : Nat) : (d.deliverEnv p e).reg r' i' j' = d.reg r' i' j' := rfl
@[simp] theorem Dev.deliverEnv_get (d : Dev) (p : Nat) (e : Env) (f' : FldDesc) (i' j' : Nat) : (d.deliverEnv p e).get f' i' j' = d.get f' i' j' := rfl
@[simp] theorem Dev.deliverEnv_on (d : Dev) (p : Nat) (e : Env) (f' : FldDesc) (i' j' : Nat) : (d.deliverEnv p e).on f' i' j' = d.on f' i' j' := rfl
@[simp] theorem Dev.deliverEnv_queue (d : Dev) (p : Nat) (e : Env) (q' : Nat) : (d.deliverEnv p e).queue q' = d.queue q' := rfl
@[simp] theorem Dev.deliverEnv_cmd? (d : Dev) (p : Nat) (e : Env) (q' s' : Nat) : (d.deliverEnv p e).cmd? q' s' = d.cmd? q' s' := rfl
@[simp] theorem Dev.deliverEnv_moduleId (d : Dev) (p : Nat) (e : Env) : (d.deliverEnv p e).moduleId = d.moduleId := rfl
@[simp] theorem Dev.deliverEnv_wt (d : Dev) (p : Nat) (e : Env) : (d.deliverEnv p e).wt = d.wt := rfl

/-! ### setHead -/

@[simp] theorem Dev.setHead_now (d : Dev) (h : Nat) (x : HeadSt) : (d.setHead h x).now = d.now := rfl
@[simp] theorem Dev.setHead_regs (d : Dev) (h : Nat) (x : HeadSt) : (d.setHead h x).regs = d.regs := rfl
@[simp] theorem Dev.setHead_latch (d : Dev) (h : Nat) (x : HeadSt) : (d.setHead h x).latch = d.latch := rfl
@[simp] theorem Dev.setHead_host (d : Dev) (h : Nat) (x : HeadSt) : (d.setHead h x).host = d.host := rfl
@[simp] theorem Dev.setHead_boot (d : Dev) (h : Nat) (x : HeadSt) : (d.setHead h x).boot = d.boot := rfl
@[simp] theorem Dev.setHead_time (d : Dev) (h : Nat) (x : HeadSt) : (d.setHead h x).time = d.time := rfl
@[simp] theorem Dev.setHead_ref (d : Dev) (h : Nat) (x : HeadSt) : (d.setHead h x).ref = d.ref := rfl
@[simp] theorem Dev.setHead_recd (d : Dev) (h : Nat) (x : HeadSt) : (d.setHead h x).recd = d.recd := rfl
@[simp] theorem Dev.setHead_err (d : Dev) (h : Nat) (x : HeadSt) : (d.setHead h x).err = d.err := rfl
@[simp] theorem Dev.setHead_prot (d : Dev) (h : Nat) (x : HeadSt) : (d.setHead h x).prot = d.prot := rfl
@[simp] theorem Dev.setHead_pwr (d : Dev) (h : Nat) (x : HeadSt) : (d.setHead h x).pwr = d.pwr := rfl
@[simp] theorem Dev.setHead_sys (d : Dev) (h : Nat) (x : HeadSt) : (d.setHead h x).sys = d.sys := rfl
@[simp] theorem Dev.setHead_net (d : Dev) (h : Nat) (x : HeadSt) : (d.setHead h x).net = d.net := rfl
@[simp] theorem Dev.setHead_dec (d : Dev) (h : Nat) (x : HeadSt) : (d.setHead h x).dec = d.dec := rfl
@[simp] theorem Dev.setHead_lay (d : Dev) (h : Nat) (x : HeadSt) : (d.setHead h x).lay = d.lay := rfl
@[simp] theorem Dev.setHead_enc (d : Dev) (h : Nat) (x : HeadSt) : (d.setHead h x).enc = d.enc := rfl
@[simp] theorem Dev.setHead_io (d : Dev) (h : Nat) (x : HeadSt) : (d.setHead h x).io = d.io := rfl
@[simp] theorem Dev.setHead_pair (d : Dev) (h : Nat) (x : HeadSt) : (d.setHead h x).pair = d.pair := rfl
@[simp] theorem Dev.setHead_mctl (d : Dev) (h : Nat) (x : HeadSt) : (d.setHead h x).mctl = d.mctl := rfl
@[simp] theorem Dev.setHead_reg (d : Dev) (h : Nat) (x : HeadSt) (r' : RegDesc) (i' j' : Nat) : (d.setHead h x).reg r' i' j' = d.reg r' i' j' := rfl
@[simp] theorem Dev.setHead_get (d : Dev) (h : Nat) (x : HeadSt) (f' : FldDesc) (i' j' : Nat) : (d.setHead h x).get f' i' j' = d.get f' i' j' := rfl
@[simp] theorem Dev.setHead_on (d : Dev) (h : Nat) (x : HeadSt) (f' : FldDesc) (i' j' : Nat) : (d.setHead h x).on f' i' j' = d.on f' i' j' := rfl
@[simp] theorem Dev.setHead_queue (d : Dev) (h : Nat) (x : HeadSt) (q' : Nat) : (d.setHead h x).queue q' = d.queue q' := rfl
@[simp] theorem Dev.setHead_cmd? (d : Dev) (h : Nat) (x : HeadSt) (q' s' : Nat) : (d.setHead h x).cmd? q' s' = d.cmd? q' s' := rfl
@[simp] theorem Dev.setHead_link (d : Dev) (h : Nat) (x : HeadSt) (p' : Nat) : (d.setHead h x).link p' = d.link p' := rfl
@[simp] theorem Dev.setHead_lanes (d : Dev) (h : Nat) (x : HeadSt) (p' : Nat) : (d.setHead h x).lanes p' = d.lanes p' := rfl
@[simp] theorem Dev.setHead_job (d : Dev) (h : Nat) (x : HeadSt) (p' : Nat) : (d.setHead h x).job p' = d.job p' := rfl
@[simp] theorem Dev.setHead_moduleId (d : Dev) (h : Nat) (x : HeadSt) : (d.setHead h x).moduleId = d.moduleId := rfl
@[simp] theorem Dev.setHead_wt (d : Dev) (h : Nat) (x : HeadSt) : (d.setHead h x).wt = d.wt := rfl

/-! ### setPort -/

@[simp] theorem Dev.setPort_now (d : Dev) (p : Nat) (x : PortSt) : (d.setPort p x).now = d.now := rfl
@[simp] theorem Dev.setPort_regs (d : Dev) (p : Nat) (x : PortSt) : (d.setPort p x).regs = d.regs := rfl
@[simp] theorem Dev.setPort_latch (d : Dev) (p : Nat) (x : PortSt) : (d.setPort p x).latch = d.latch := rfl
@[simp] theorem Dev.setPort_host (d : Dev) (p : Nat) (x : PortSt) : (d.setPort p x).host = d.host := rfl
@[simp] theorem Dev.setPort_boot (d : Dev) (p : Nat) (x : PortSt) : (d.setPort p x).boot = d.boot := rfl
@[simp] theorem Dev.setPort_time (d : Dev) (p : Nat) (x : PortSt) : (d.setPort p x).time = d.time := rfl
@[simp] theorem Dev.setPort_ref (d : Dev) (p : Nat) (x : PortSt) : (d.setPort p x).ref = d.ref := rfl
@[simp] theorem Dev.setPort_recd (d : Dev) (p : Nat) (x : PortSt) : (d.setPort p x).recd = d.recd := rfl
@[simp] theorem Dev.setPort_err (d : Dev) (p : Nat) (x : PortSt) : (d.setPort p x).err = d.err := rfl
@[simp] theorem Dev.setPort_prot (d : Dev) (p : Nat) (x : PortSt) : (d.setPort p x).prot = d.prot := rfl
@[simp] theorem Dev.setPort_pwr (d : Dev) (p : Nat) (x : PortSt) : (d.setPort p x).pwr = d.pwr := rfl
@[simp] theorem Dev.setPort_sys (d : Dev) (p : Nat) (x : PortSt) : (d.setPort p x).sys = d.sys := rfl
@[simp] theorem Dev.setPort_net (d : Dev) (p : Nat) (x : PortSt) : (d.setPort p x).net = d.net := rfl
@[simp] theorem Dev.setPort_dec (d : Dev) (p : Nat) (x : PortSt) : (d.setPort p x).dec = d.dec := rfl
@[simp] theorem Dev.setPort_lay (d : Dev) (p : Nat) (x : PortSt) : (d.setPort p x).lay = d.lay := rfl
@[simp] theorem Dev.setPort_enc (d : Dev) (p : Nat) (x : PortSt) : (d.setPort p x).enc = d.enc := rfl
@[simp] theorem Dev.setPort_io (d : Dev) (p : Nat) (x : PortSt) : (d.setPort p x).io = d.io := rfl
@[simp] theorem Dev.setPort_pair (d : Dev) (p : Nat) (x : PortSt) : (d.setPort p x).pair = d.pair := rfl
@[simp] theorem Dev.setPort_mctl (d : Dev) (p : Nat) (x : PortSt) : (d.setPort p x).mctl = d.mctl := rfl
@[simp] theorem Dev.setPort_reg (d : Dev) (p : Nat) (x : PortSt) (r' : RegDesc) (i' j' : Nat) : (d.setPort p x).reg r' i' j' = d.reg r' i' j' := rfl
@[simp] theorem Dev.setPort_get (d : Dev) (p : Nat) (x : PortSt) (f' : FldDesc) (i' j' : Nat) : (d.setPort p x).get f' i' j' = d.get f' i' j' := rfl
@[simp] theorem Dev.setPort_on (d : Dev) (p : Nat) (x : PortSt) (f' : FldDesc) (i' j' : Nat) : (d.setPort p x).on f' i' j' = d.on f' i' j' := rfl
@[simp] theorem Dev.setPort_queue (d : Dev) (p : Nat) (x : PortSt) (q' : Nat) : (d.setPort p x).queue q' = d.queue q' := rfl
@[simp] theorem Dev.setPort_cmd? (d : Dev) (p : Nat) (x : PortSt) (q' s' : Nat) : (d.setPort p x).cmd? q' s' = d.cmd? q' s' := rfl
@[simp] theorem Dev.setPort_link (d : Dev) (p : Nat) (x : PortSt) (p' : Nat) : (d.setPort p x).link p' = d.link p' := rfl
@[simp] theorem Dev.setPort_lanes (d : Dev) (p : Nat) (x : PortSt) (p' : Nat) : (d.setPort p x).lanes p' = d.lanes p' := rfl
@[simp] theorem Dev.setPort_job (d : Dev) (p : Nat) (x : PortSt) (p' : Nat) : (d.setPort p x).job p' = d.job p' := rfl
@[simp] theorem Dev.setPort_moduleId (d : Dev) (p : Nat) (x : PortSt) : (d.setPort p x).moduleId = d.moduleId := rfl
@[simp] theorem Dev.setPort_wt (d : Dev) (p : Nat) (x : PortSt) : (d.setPort p x).wt = d.wt := rfl

/-! ### setEnc -/

@[simp] theorem Dev.setEnc_now (d : Dev) (c : Nat) (x : EncCtx) : (d.setEnc c x).now = d.now := rfl
@[simp] theorem Dev.setEnc_regs (d : Dev) (c : Nat) (x : EncCtx) : (d.setEnc c x).regs = d.regs := rfl
@[simp] theorem Dev.setEnc_latch (d : Dev) (c : Nat) (x : EncCtx) : (d.setEnc c x).latch = d.latch := rfl
@[simp] theorem Dev.setEnc_host (d : Dev) (c : Nat) (x : EncCtx) : (d.setEnc c x).host = d.host := rfl
@[simp] theorem Dev.setEnc_boot (d : Dev) (c : Nat) (x : EncCtx) : (d.setEnc c x).boot = d.boot := rfl
@[simp] theorem Dev.setEnc_time (d : Dev) (c : Nat) (x : EncCtx) : (d.setEnc c x).time = d.time := rfl
@[simp] theorem Dev.setEnc_ref (d : Dev) (c : Nat) (x : EncCtx) : (d.setEnc c x).ref = d.ref := rfl
@[simp] theorem Dev.setEnc_recd (d : Dev) (c : Nat) (x : EncCtx) : (d.setEnc c x).recd = d.recd := rfl
@[simp] theorem Dev.setEnc_err (d : Dev) (c : Nat) (x : EncCtx) : (d.setEnc c x).err = d.err := rfl
@[simp] theorem Dev.setEnc_prot (d : Dev) (c : Nat) (x : EncCtx) : (d.setEnc c x).prot = d.prot := rfl
@[simp] theorem Dev.setEnc_pwr (d : Dev) (c : Nat) (x : EncCtx) : (d.setEnc c x).pwr = d.pwr := rfl
@[simp] theorem Dev.setEnc_sys (d : Dev) (c : Nat) (x : EncCtx) : (d.setEnc c x).sys = d.sys := rfl
@[simp] theorem Dev.setEnc_net (d : Dev) (c : Nat) (x : EncCtx) : (d.setEnc c x).net = d.net := rfl
@[simp] theorem Dev.setEnc_dec (d : Dev) (c : Nat) (x : EncCtx) : (d.setEnc c x).dec = d.dec := rfl
@[simp] theorem Dev.setEnc_lay (d : Dev) (c : Nat) (x : EncCtx) : (d.setEnc c x).lay = d.lay := rfl
@[simp] theorem Dev.setEnc_comp (d : Dev) (c : Nat) (x : EncCtx) : (d.setEnc c x).comp = d.comp := rfl
@[simp] theorem Dev.setEnc_io (d : Dev) (c : Nat) (x : EncCtx) : (d.setEnc c x).io = d.io := rfl
@[simp] theorem Dev.setEnc_pair (d : Dev) (c : Nat) (x : EncCtx) : (d.setEnc c x).pair = d.pair := rfl
@[simp] theorem Dev.setEnc_mctl (d : Dev) (c : Nat) (x : EncCtx) : (d.setEnc c x).mctl = d.mctl := rfl
@[simp] theorem Dev.setEnc_reg (d : Dev) (c : Nat) (x : EncCtx) (r' : RegDesc) (i' j' : Nat) : (d.setEnc c x).reg r' i' j' = d.reg r' i' j' := rfl
@[simp] theorem Dev.setEnc_get (d : Dev) (c : Nat) (x : EncCtx) (f' : FldDesc) (i' j' : Nat) : (d.setEnc c x).get f' i' j' = d.get f' i' j' := rfl
@[simp] theorem Dev.setEnc_on (d : Dev) (c : Nat) (x : EncCtx) (f' : FldDesc) (i' j' : Nat) : (d.setEnc c x).on f' i' j' = d.on f' i' j' := rfl
@[simp] theorem Dev.setEnc_queue (d : Dev) (c : Nat) (x : EncCtx) (q' : Nat) : (d.setEnc c x).queue q' = d.queue q' := rfl
@[simp] theorem Dev.setEnc_cmd? (d : Dev) (c : Nat) (x : EncCtx) (q' s' : Nat) : (d.setEnc c x).cmd? q' s' = d.cmd? q' s' := rfl
@[simp] theorem Dev.setEnc_link (d : Dev) (c : Nat) (x : EncCtx) (p' : Nat) : (d.setEnc c x).link p' = d.link p' := rfl
@[simp] theorem Dev.setEnc_lanes (d : Dev) (c : Nat) (x : EncCtx) (p' : Nat) : (d.setEnc c x).lanes p' = d.lanes p' := rfl
@[simp] theorem Dev.setEnc_job (d : Dev) (c : Nat) (x : EncCtx) (p' : Nat) : (d.setEnc c x).job p' = d.job p' := rfl
@[simp] theorem Dev.setEnc_moduleId (d : Dev) (c : Nat) (x : EncCtx) : (d.setEnc c x).moduleId = d.moduleId := rfl
@[simp] theorem Dev.setEnc_wt (d : Dev) (c : Nat) (x : EncCtx) : (d.setEnc c x).wt = d.wt := rfl

/-! ### setTouch -/

@[simp] theorem Dev.setTouch_now (d : Dev) (p : Nat) (x : TouchSt) : (d.setTouch p x).now = d.now := rfl
@[simp] theorem Dev.setTouch_regs (d : Dev) (p : Nat) (x : TouchSt) : (d.setTouch p x).regs = d.regs := rfl
@[simp] theorem Dev.setTouch_latch (d : Dev) (p : Nat) (x : TouchSt) : (d.setTouch p x).latch = d.latch := rfl
@[simp] theorem Dev.setTouch_host (d : Dev) (p : Nat) (x : TouchSt) : (d.setTouch p x).host = d.host := rfl
@[simp] theorem Dev.setTouch_boot (d : Dev) (p : Nat) (x : TouchSt) : (d.setTouch p x).boot = d.boot := rfl
@[simp] theorem Dev.setTouch_time (d : Dev) (p : Nat) (x : TouchSt) : (d.setTouch p x).time = d.time := rfl
@[simp] theorem Dev.setTouch_ref (d : Dev) (p : Nat) (x : TouchSt) : (d.setTouch p x).ref = d.ref := rfl
@[simp] theorem Dev.setTouch_recd (d : Dev) (p : Nat) (x : TouchSt) : (d.setTouch p x).recd = d.recd := rfl
@[simp] theorem Dev.setTouch_err (d : Dev) (p : Nat) (x : TouchSt) : (d.setTouch p x).err = d.err := rfl
@[simp] theorem Dev.setTouch_prot (d : Dev) (p : Nat) (x : TouchSt) : (d.setTouch p x).prot = d.prot := rfl
@[simp] theorem Dev.setTouch_pwr (d : Dev) (p : Nat) (x : TouchSt) : (d.setTouch p x).pwr = d.pwr := rfl
@[simp] theorem Dev.setTouch_sys (d : Dev) (p : Nat) (x : TouchSt) : (d.setTouch p x).sys = d.sys := rfl
@[simp] theorem Dev.setTouch_net (d : Dev) (p : Nat) (x : TouchSt) : (d.setTouch p x).net = d.net := rfl
@[simp] theorem Dev.setTouch_dec (d : Dev) (p : Nat) (x : TouchSt) : (d.setTouch p x).dec = d.dec := rfl
@[simp] theorem Dev.setTouch_lay (d : Dev) (p : Nat) (x : TouchSt) : (d.setTouch p x).lay = d.lay := rfl
@[simp] theorem Dev.setTouch_comp (d : Dev) (p : Nat) (x : TouchSt) : (d.setTouch p x).comp = d.comp := rfl
@[simp] theorem Dev.setTouch_enc (d : Dev) (p : Nat) (x : TouchSt) : (d.setTouch p x).enc = d.enc := rfl
@[simp] theorem Dev.setTouch_pair (d : Dev) (p : Nat) (x : TouchSt) : (d.setTouch p x).pair = d.pair := rfl
@[simp] theorem Dev.setTouch_mctl (d : Dev) (p : Nat) (x : TouchSt) : (d.setTouch p x).mctl = d.mctl := rfl
@[simp] theorem Dev.setTouch_reg (d : Dev) (p : Nat) (x : TouchSt) (r' : RegDesc) (i' j' : Nat) : (d.setTouch p x).reg r' i' j' = d.reg r' i' j' := rfl
@[simp] theorem Dev.setTouch_get (d : Dev) (p : Nat) (x : TouchSt) (f' : FldDesc) (i' j' : Nat) : (d.setTouch p x).get f' i' j' = d.get f' i' j' := rfl
@[simp] theorem Dev.setTouch_on (d : Dev) (p : Nat) (x : TouchSt) (f' : FldDesc) (i' j' : Nat) : (d.setTouch p x).on f' i' j' = d.on f' i' j' := rfl
@[simp] theorem Dev.setTouch_queue (d : Dev) (p : Nat) (x : TouchSt) (q' : Nat) : (d.setTouch p x).queue q' = d.queue q' := rfl
@[simp] theorem Dev.setTouch_cmd? (d : Dev) (p : Nat) (x : TouchSt) (q' s' : Nat) : (d.setTouch p x).cmd? q' s' = d.cmd? q' s' := rfl
@[simp] theorem Dev.setTouch_link (d : Dev) (p : Nat) (x : TouchSt) (p' : Nat) : (d.setTouch p x).link p' = d.link p' := rfl
@[simp] theorem Dev.setTouch_lanes (d : Dev) (p : Nat) (x : TouchSt) (p' : Nat) : (d.setTouch p x).lanes p' = d.lanes p' := rfl
@[simp] theorem Dev.setTouch_job (d : Dev) (p : Nat) (x : TouchSt) (p' : Nat) : (d.setTouch p x).job p' = d.job p' := rfl
@[simp] theorem Dev.setTouch_moduleId (d : Dev) (p : Nat) (x : TouchSt) : (d.setTouch p x).moduleId = d.moduleId := rfl
@[simp] theorem Dev.setTouch_wt (d : Dev) (p : Nat) (x : TouchSt) : (d.setTouch p x).wt = d.wt := rfl

/-! ### setCycle -/

@[simp] theorem Dev.setCycle_now (d : Dev) (c : Nat) (x : Cycle) : (d.setCycle c x).now = d.now := rfl
@[simp] theorem Dev.setCycle_regs (d : Dev) (c : Nat) (x : Cycle) : (d.setCycle c x).regs = d.regs := rfl
@[simp] theorem Dev.setCycle_latch (d : Dev) (c : Nat) (x : Cycle) : (d.setCycle c x).latch = d.latch := rfl
@[simp] theorem Dev.setCycle_host (d : Dev) (c : Nat) (x : Cycle) : (d.setCycle c x).host = d.host := rfl
@[simp] theorem Dev.setCycle_boot (d : Dev) (c : Nat) (x : Cycle) : (d.setCycle c x).boot = d.boot := rfl
@[simp] theorem Dev.setCycle_time (d : Dev) (c : Nat) (x : Cycle) : (d.setCycle c x).time = d.time := rfl
@[simp] theorem Dev.setCycle_ref (d : Dev) (c : Nat) (x : Cycle) : (d.setCycle c x).ref = d.ref := rfl
@[simp] theorem Dev.setCycle_recd (d : Dev) (c : Nat) (x : Cycle) : (d.setCycle c x).recd = d.recd := rfl
@[simp] theorem Dev.setCycle_err (d : Dev) (c : Nat) (x : Cycle) : (d.setCycle c x).err = d.err := rfl
@[simp] theorem Dev.setCycle_prot (d : Dev) (c : Nat) (x : Cycle) : (d.setCycle c x).prot = d.prot := rfl
@[simp] theorem Dev.setCycle_pwr (d : Dev) (c : Nat) (x : Cycle) : (d.setCycle c x).pwr = d.pwr := rfl
@[simp] theorem Dev.setCycle_sys (d : Dev) (c : Nat) (x : Cycle) : (d.setCycle c x).sys = d.sys := rfl
@[simp] theorem Dev.setCycle_net (d : Dev) (c : Nat) (x : Cycle) : (d.setCycle c x).net = d.net := rfl
@[simp] theorem Dev.setCycle_dec (d : Dev) (c : Nat) (x : Cycle) : (d.setCycle c x).dec = d.dec := rfl
@[simp] theorem Dev.setCycle_lay (d : Dev) (c : Nat) (x : Cycle) : (d.setCycle c x).lay = d.lay := rfl
@[simp] theorem Dev.setCycle_comp (d : Dev) (c : Nat) (x : Cycle) : (d.setCycle c x).comp = d.comp := rfl
@[simp] theorem Dev.setCycle_enc (d : Dev) (c : Nat) (x : Cycle) : (d.setCycle c x).enc = d.enc := rfl
@[simp] theorem Dev.setCycle_pair (d : Dev) (c : Nat) (x : Cycle) : (d.setCycle c x).pair = d.pair := rfl
@[simp] theorem Dev.setCycle_mctl (d : Dev) (c : Nat) (x : Cycle) : (d.setCycle c x).mctl = d.mctl := rfl
@[simp] theorem Dev.setCycle_reg (d : Dev) (c : Nat) (x : Cycle) (r' : RegDesc) (i' j' : Nat) : (d.setCycle c x).reg r' i' j' = d.reg r' i' j' := rfl
@[simp] theorem Dev.setCycle_get (d : Dev) (c : Nat) (x : Cycle) (f' : FldDesc) (i' j' : Nat) : (d.setCycle c x).get f' i' j' = d.get f' i' j' := rfl
@[simp] theorem Dev.setCycle_on (d : Dev) (c : Nat) (x : Cycle) (f' : FldDesc) (i' j' : Nat) : (d.setCycle c x).on f' i' j' = d.on f' i' j' := rfl
@[simp] theorem Dev.setCycle_queue (d : Dev) (c : Nat) (x : Cycle) (q' : Nat) : (d.setCycle c x).queue q' = d.queue q' := rfl
@[simp] theorem Dev.setCycle_cmd? (d : Dev) (c : Nat) (x : Cycle) (q' s' : Nat) : (d.setCycle c x).cmd? q' s' = d.cmd? q' s' := rfl
@[simp] theorem Dev.setCycle_link (d : Dev) (c : Nat) (x : Cycle) (p' : Nat) : (d.setCycle c x).link p' = d.link p' := rfl
@[simp] theorem Dev.setCycle_lanes (d : Dev) (c : Nat) (x : Cycle) (p' : Nat) : (d.setCycle c x).lanes p' = d.lanes p' := rfl
@[simp] theorem Dev.setCycle_job (d : Dev) (c : Nat) (x : Cycle) (p' : Nat) : (d.setCycle c x).job p' = d.job p' := rfl
@[simp] theorem Dev.setCycle_moduleId (d : Dev) (c : Nat) (x : Cycle) : (d.setCycle c x).moduleId = d.moduleId := rfl
@[simp] theorem Dev.setCycle_wt (d : Dev) (c : Nat) (x : Cycle) : (d.setCycle c x).wt = d.wt := rfl

/-! ### setRefMon -/

@[simp] theorem Dev.setRefMon_now (d : Dev) (r : Nat) (x : RefMon) : (d.setRefMon r x).now = d.now := rfl
@[simp] theorem Dev.setRefMon_regs (d : Dev) (r : Nat) (x : RefMon) : (d.setRefMon r x).regs = d.regs := rfl
@[simp] theorem Dev.setRefMon_latch (d : Dev) (r : Nat) (x : RefMon) : (d.setRefMon r x).latch = d.latch := rfl
@[simp] theorem Dev.setRefMon_host (d : Dev) (r : Nat) (x : RefMon) : (d.setRefMon r x).host = d.host := rfl
@[simp] theorem Dev.setRefMon_boot (d : Dev) (r : Nat) (x : RefMon) : (d.setRefMon r x).boot = d.boot := rfl
@[simp] theorem Dev.setRefMon_time (d : Dev) (r : Nat) (x : RefMon) : (d.setRefMon r x).time = d.time := rfl
@[simp] theorem Dev.setRefMon_recd (d : Dev) (r : Nat) (x : RefMon) : (d.setRefMon r x).recd = d.recd := rfl
@[simp] theorem Dev.setRefMon_err (d : Dev) (r : Nat) (x : RefMon) : (d.setRefMon r x).err = d.err := rfl
@[simp] theorem Dev.setRefMon_prot (d : Dev) (r : Nat) (x : RefMon) : (d.setRefMon r x).prot = d.prot := rfl
@[simp] theorem Dev.setRefMon_pwr (d : Dev) (r : Nat) (x : RefMon) : (d.setRefMon r x).pwr = d.pwr := rfl
@[simp] theorem Dev.setRefMon_sys (d : Dev) (r : Nat) (x : RefMon) : (d.setRefMon r x).sys = d.sys := rfl
@[simp] theorem Dev.setRefMon_net (d : Dev) (r : Nat) (x : RefMon) : (d.setRefMon r x).net = d.net := rfl
@[simp] theorem Dev.setRefMon_dec (d : Dev) (r : Nat) (x : RefMon) : (d.setRefMon r x).dec = d.dec := rfl
@[simp] theorem Dev.setRefMon_lay (d : Dev) (r : Nat) (x : RefMon) : (d.setRefMon r x).lay = d.lay := rfl
@[simp] theorem Dev.setRefMon_comp (d : Dev) (r : Nat) (x : RefMon) : (d.setRefMon r x).comp = d.comp := rfl
@[simp] theorem Dev.setRefMon_enc (d : Dev) (r : Nat) (x : RefMon) : (d.setRefMon r x).enc = d.enc := rfl
@[simp] theorem Dev.setRefMon_io (d : Dev) (r : Nat) (x : RefMon) : (d.setRefMon r x).io = d.io := rfl
@[simp] theorem Dev.setRefMon_pair (d : Dev) (r : Nat) (x : RefMon) : (d.setRefMon r x).pair = d.pair := rfl
@[simp] theorem Dev.setRefMon_mctl (d : Dev) (r : Nat) (x : RefMon) : (d.setRefMon r x).mctl = d.mctl := rfl
@[simp] theorem Dev.setRefMon_reg (d : Dev) (r : Nat) (x : RefMon) (r' : RegDesc) (i' j' : Nat) : (d.setRefMon r x).reg r' i' j' = d.reg r' i' j' := rfl
@[simp] theorem Dev.setRefMon_get (d : Dev) (r : Nat) (x : RefMon) (f' : FldDesc) (i' j' : Nat) : (d.setRefMon r x).get f' i' j' = d.get f' i' j' := rfl
@[simp] theorem Dev.setRefMon_on (d : Dev) (r : Nat) (x : RefMon) (f' : FldDesc) (i' j' : Nat) : (d.setRefMon r x).on f' i' j' = d.on f' i' j' := rfl
@[simp] theorem Dev.setRefMon_queue (d : Dev) (r : Nat) (x : RefMon) (q' : Nat) : (d.setRefMon r x).queue q' = d.queue q' := rfl
@[simp] theorem Dev.setRefMon_cmd? (d : Dev) (r : Nat) (x : RefMon) (q' s' : Nat) : (d.setRefMon r x).cmd? q' s' = d.cmd? q' s' := rfl
@[simp] theorem Dev.setRefMon_link (d : Dev) (r : Nat) (x : RefMon) (p' : Nat) : (d.setRefMon r x).link p' = d.link p' := rfl
@[simp] theorem Dev.setRefMon_lanes (d : Dev) (r : Nat) (x : RefMon) (p' : Nat) : (d.setRefMon r x).lanes p' = d.lanes p' := rfl
@[simp] theorem Dev.setRefMon_job (d : Dev) (r : Nat) (x : RefMon) (p' : Nat) : (d.setRefMon r x).job p' = d.job p' := rfl
@[simp] theorem Dev.setRefMon_moduleId (d : Dev) (r : Nat) (x : RefMon) : (d.setRefMon r x).moduleId = d.moduleId := rfl
@[simp] theorem Dev.setRefMon_wt (d : Dev) (r : Nat) (x : RefMon) : (d.setRefMon r x).wt = d.wt := rfl

/-! ### setLaunches -/

@[simp] theorem Dev.setLaunches_now (d : Dev) (p : Nat) (x : List Launch) : (d.setLaunches p x).now = d.now := rfl
@[simp] theorem Dev.setLaunches_regs (d : Dev) (p : Nat) (x : List Launch) : (d.setLaunches p x).regs = d.regs := rfl
@[simp] theorem Dev.setLaunches_latch (d : Dev) (p : Nat) (x : List Launch) : (d.setLaunches p x).latch = d.latch := rfl
@[simp] theorem Dev.setLaunches_host (d : Dev) (p : Nat) (x : List Launch) : (d.setLaunches p x).host = d.host := rfl
@[simp] theorem Dev.setLaunches_boot (d : Dev) (p : Nat) (x : List Launch) : (d.setLaunches p x).boot = d.boot := rfl
@[simp] theorem Dev.setLaunches_ref (d : Dev) (p : Nat) (x : List Launch) : (d.setLaunches p x).ref = d.ref := rfl
@[simp] theorem Dev.setLaunches_recd (d : Dev) (p : Nat) (x : List Launch) : (d.setLaunches p x).recd = d.recd := rfl
@[simp] theorem Dev.setLaunches_err (d : Dev) (p : Nat) (x : List Launch) : (d.setLaunches p x).err = d.err := rfl
@[simp] theorem Dev.setLaunches_prot (d : Dev) (p : Nat) (x : List Launch) : (d.setLaunches p x).prot = d.prot := rfl
@[simp] theorem Dev.setLaunches_pwr (d : Dev) (p : Nat) (x : List Launch) : (d.setLaunches p x).pwr = d.pwr := rfl
@[simp] theorem Dev.setLaunches_sys (d : Dev) (p : Nat) (x : List Launch) : (d.setLaunches p x).sys = d.sys := rfl
@[simp] theorem Dev.setLaunches_net (d : Dev) (p : Nat) (x : List Launch) : (d.setLaunches p x).net = d.net := rfl
@[simp] theorem Dev.setLaunches_dec (d : Dev) (p : Nat) (x : List Launch) : (d.setLaunches p x).dec = d.dec := rfl
@[simp] theorem Dev.setLaunches_lay (d : Dev) (p : Nat) (x : List Launch) : (d.setLaunches p x).lay = d.lay := rfl
@[simp] theorem Dev.setLaunches_comp (d : Dev) (p : Nat) (x : List Launch) : (d.setLaunches p x).comp = d.comp := rfl
@[simp] theorem Dev.setLaunches_enc (d : Dev) (p : Nat) (x : List Launch) : (d.setLaunches p x).enc = d.enc := rfl
@[simp] theorem Dev.setLaunches_io (d : Dev) (p : Nat) (x : List Launch) : (d.setLaunches p x).io = d.io := rfl
@[simp] theorem Dev.setLaunches_pair (d : Dev) (p : Nat) (x : List Launch) : (d.setLaunches p x).pair = d.pair := rfl
@[simp] theorem Dev.setLaunches_mctl (d : Dev) (p : Nat) (x : List Launch) : (d.setLaunches p x).mctl = d.mctl := rfl
@[simp] theorem Dev.setLaunches_reg (d : Dev) (p : Nat) (x : List Launch) (r' : RegDesc) (i' j' : Nat) : (d.setLaunches p x).reg r' i' j' = d.reg r' i' j' := rfl
@[simp] theorem Dev.setLaunches_get (d : Dev) (p : Nat) (x : List Launch) (f' : FldDesc) (i' j' : Nat) : (d.setLaunches p x).get f' i' j' = d.get f' i' j' := rfl
@[simp] theorem Dev.setLaunches_on (d : Dev) (p : Nat) (x : List Launch) (f' : FldDesc) (i' j' : Nat) : (d.setLaunches p x).on f' i' j' = d.on f' i' j' := rfl
@[simp] theorem Dev.setLaunches_queue (d : Dev) (p : Nat) (x : List Launch) (q' : Nat) : (d.setLaunches p x).queue q' = d.queue q' := rfl
@[simp] theorem Dev.setLaunches_cmd? (d : Dev) (p : Nat) (x : List Launch) (q' s' : Nat) : (d.setLaunches p x).cmd? q' s' = d.cmd? q' s' := rfl
@[simp] theorem Dev.setLaunches_link (d : Dev) (p : Nat) (x : List Launch) (p' : Nat) : (d.setLaunches p x).link p' = d.link p' := rfl
@[simp] theorem Dev.setLaunches_lanes (d : Dev) (p : Nat) (x : List Launch) (p' : Nat) : (d.setLaunches p x).lanes p' = d.lanes p' := rfl
@[simp] theorem Dev.setLaunches_job (d : Dev) (p : Nat) (x : List Launch) (p' : Nat) : (d.setLaunches p x).job p' = d.job p' := rfl
@[simp] theorem Dev.setLaunches_moduleId (d : Dev) (p : Nat) (x : List Launch) : (d.setLaunches p x).moduleId = d.moduleId := rfl

/-! ### updSend -/

@[simp] theorem Dev.updSend_now (d : Dev) (n : Nat) (f : PicSend → Option PicSend) : (d.updSend n f).now = d.now := rfl
@[simp] theorem Dev.updSend_regs (d : Dev) (n : Nat) (f : PicSend → Option PicSend) : (d.updSend n f).regs = d.regs := rfl
@[simp] theorem Dev.updSend_latch (d : Dev) (n : Nat) (f : PicSend → Option PicSend) : (d.updSend n f).latch = d.latch := rfl
@[simp] theorem Dev.updSend_host (d : Dev) (n : Nat) (f : PicSend → Option PicSend) : (d.updSend n f).host = d.host := rfl
@[simp] theorem Dev.updSend_boot (d : Dev) (n : Nat) (f : PicSend → Option PicSend) : (d.updSend n f).boot = d.boot := rfl
@[simp] theorem Dev.updSend_time (d : Dev) (n : Nat) (f : PicSend → Option PicSend) : (d.updSend n f).time = d.time := rfl
@[simp] theorem Dev.updSend_ref (d : Dev) (n : Nat) (f : PicSend → Option PicSend) : (d.updSend n f).ref = d.ref := rfl
@[simp] theorem Dev.updSend_recd (d : Dev) (n : Nat) (f : PicSend → Option PicSend) : (d.updSend n f).recd = d.recd := rfl
@[simp] theorem Dev.updSend_err (d : Dev) (n : Nat) (f : PicSend → Option PicSend) : (d.updSend n f).err = d.err := rfl
@[simp] theorem Dev.updSend_prot (d : Dev) (n : Nat) (f : PicSend → Option PicSend) : (d.updSend n f).prot = d.prot := rfl
@[simp] theorem Dev.updSend_pwr (d : Dev) (n : Nat) (f : PicSend → Option PicSend) : (d.updSend n f).pwr = d.pwr := rfl
@[simp] theorem Dev.updSend_net (d : Dev) (n : Nat) (f : PicSend → Option PicSend) : (d.updSend n f).net = d.net := rfl
@[simp] theorem Dev.updSend_dec (d : Dev) (n : Nat) (f : PicSend → Option PicSend) : (d.updSend n f).dec = d.dec := rfl
@[simp] theorem Dev.updSend_lay (d : Dev) (n : Nat) (f : PicSend → Option PicSend) : (d.updSend n f).lay = d.lay := rfl
@[simp] theorem Dev.updSend_comp (d : Dev) (n : Nat) (f : PicSend → Option PicSend) : (d.updSend n f).comp = d.comp := rfl
@[simp] theorem Dev.updSend_enc (d : Dev) (n : Nat) (f : PicSend → Option PicSend) : (d.updSend n f).enc = d.enc := rfl
@[simp] theorem Dev.updSend_io (d : Dev) (n : Nat) (f : PicSend → Option PicSend) : (d.updSend n f).io = d.io := rfl
@[simp] theorem Dev.updSend_pair (d : Dev) (n : Nat) (f : PicSend → Option PicSend) : (d.updSend n f).pair = d.pair := rfl
@[simp] theorem Dev.updSend_mctl (d : Dev) (n : Nat) (f : PicSend → Option PicSend) : (d.updSend n f).mctl = d.mctl := rfl
@[simp] theorem Dev.updSend_reg (d : Dev) (n : Nat) (f : PicSend → Option PicSend) (r' : RegDesc) (i' j' : Nat) : (d.updSend n f).reg r' i' j' = d.reg r' i' j' := rfl
@[simp] theorem Dev.updSend_get (d : Dev) (n : Nat) (f : PicSend → Option PicSend) (f' : FldDesc) (i' j' : Nat) : (d.updSend n f).get f' i' j' = d.get f' i' j' := rfl
@[simp] theorem Dev.updSend_on (d : Dev) (n : Nat) (f : PicSend → Option PicSend) (f' : FldDesc) (i' j' : Nat) : (d.updSend n f).on f' i' j' = d.on f' i' j' := rfl
@[simp] theorem Dev.updSend_queue (d : Dev) (n : Nat) (f : PicSend → Option PicSend) (q' : Nat) : (d.updSend n f).queue q' = d.queue q' := rfl
@[simp] theorem Dev.updSend_cmd? (d : Dev) (n : Nat) (f : PicSend → Option PicSend) (q' s' : Nat) : (d.updSend n f).cmd? q' s' = d.cmd? q' s' := rfl
@[simp] theorem Dev.updSend_moduleId (d : Dev) (n : Nat) (f : PicSend → Option PicSend) : (d.updSend n f).moduleId = d.moduleId := rfl
@[simp] theorem Dev.updSend_wt (d : Dev) (n : Nat) (f : PicSend → Option PicSend) : (d.updSend n f).wt = d.wt := rfl

/-! ### setTaster -/

@[simp] theorem Dev.setTaster_now (d : Dev) (k : Nat) (v : TasterSt) : (d.setTaster k v).now = d.now := rfl
@[simp] theorem Dev.setTaster_regs (d : Dev) (k : Nat) (v : TasterSt) : (d.setTaster k v).regs = d.regs := rfl
@[simp] theorem Dev.setTaster_latch (d : Dev) (k : Nat) (v : TasterSt) : (d.setTaster k v).latch = d.latch := rfl
@[simp] theorem Dev.setTaster_host (d : Dev) (k : Nat) (v : TasterSt) : (d.setTaster k v).host = d.host := rfl
@[simp] theorem Dev.setTaster_boot (d : Dev) (k : Nat) (v : TasterSt) : (d.setTaster k v).boot = d.boot := rfl
@[simp] theorem Dev.setTaster_time (d : Dev) (k : Nat) (v : TasterSt) : (d.setTaster k v).time = d.time := rfl
@[simp] theorem Dev.setTaster_ref (d : Dev) (k : Nat) (v : TasterSt) : (d.setTaster k v).ref = d.ref := rfl
@[simp] theorem Dev.setTaster_recd (d : Dev) (k : Nat) (v : TasterSt) : (d.setTaster k v).recd = d.recd := rfl
@[simp] theorem Dev.setTaster_err (d : Dev) (k : Nat) (v : TasterSt) : (d.setTaster k v).err = d.err := rfl
@[simp] theorem Dev.setTaster_prot (d : Dev) (k : Nat) (v : TasterSt) : (d.setTaster k v).prot = d.prot := rfl
@[simp] theorem Dev.setTaster_pwr (d : Dev) (k : Nat) (v : TasterSt) : (d.setTaster k v).pwr = d.pwr := rfl
@[simp] theorem Dev.setTaster_sys (d : Dev) (k : Nat) (v : TasterSt) : (d.setTaster k v).sys = d.sys := rfl
@[simp] theorem Dev.setTaster_net (d : Dev) (k : Nat) (v : TasterSt) : (d.setTaster k v).net = d.net := rfl
@[simp] theorem Dev.setTaster_dec (d : Dev) (k : Nat) (v : TasterSt) : (d.setTaster k v).dec = d.dec := rfl
@[simp] theorem Dev.setTaster_lay (d : Dev) (k : Nat) (v : TasterSt) : (d.setTaster k v).lay = d.lay := rfl
@[simp] theorem Dev.setTaster_enc (d : Dev) (k : Nat) (v : TasterSt) : (d.setTaster k v).enc = d.enc := rfl
@[simp] theorem Dev.setTaster_io (d : Dev) (k : Nat) (v : TasterSt) : (d.setTaster k v).io = d.io := rfl
@[simp] theorem Dev.setTaster_pair (d : Dev) (k : Nat) (v : TasterSt) : (d.setTaster k v).pair = d.pair := rfl
@[simp] theorem Dev.setTaster_mctl (d : Dev) (k : Nat) (v : TasterSt) : (d.setTaster k v).mctl = d.mctl := rfl
@[simp] theorem Dev.setTaster_reg (d : Dev) (k : Nat) (v : TasterSt) (r' : RegDesc) (i' j' : Nat) : (d.setTaster k v).reg r' i' j' = d.reg r' i' j' := rfl
@[simp] theorem Dev.setTaster_get (d : Dev) (k : Nat) (v : TasterSt) (f' : FldDesc) (i' j' : Nat) : (d.setTaster k v).get f' i' j' = d.get f' i' j' := rfl
@[simp] theorem Dev.setTaster_on (d : Dev) (k : Nat) (v : TasterSt) (f' : FldDesc) (i' j' : Nat) : (d.setTaster k v).on f' i' j' = d.on f' i' j' := rfl
@[simp] theorem Dev.setTaster_queue (d : Dev) (k : Nat) (v : TasterSt) (q' : Nat) : (d.setTaster k v).queue q' = d.queue q' := rfl
@[simp] theorem Dev.setTaster_cmd? (d : Dev) (k : Nat) (v : TasterSt) (q' s' : Nat) : (d.setTaster k v).cmd? q' s' = d.cmd? q' s' := rfl
@[simp] theorem Dev.setTaster_link (d : Dev) (k : Nat) (v : TasterSt) (p' : Nat) : (d.setTaster k v).link p' = d.link p' := rfl
@[simp] theorem Dev.setTaster_lanes (d : Dev) (k : Nat) (v : TasterSt) (p' : Nat) : (d.setTaster k v).lanes p' = d.lanes p' := rfl
@[simp] theorem Dev.setTaster_job (d : Dev) (k : Nat) (v : TasterSt) (p' : Nat) : (d.setTaster k v).job p' = d.job p' := rfl
@[simp] theorem Dev.setTaster_moduleId (d : Dev) (k : Nat) (v : TasterSt) : (d.setTaster k v).moduleId = d.moduleId := rfl
@[simp] theorem Dev.setTaster_wt (d : Dev) (k : Nat) (v : TasterSt) : (d.setTaster k v).wt = d.wt := rfl

/-! ### setMembers -/

@[simp] theorem Dev.setMembers_now (d : Dev) (p : Nat) (m : List Membership) : (d.setMembers p m).now = d.now := rfl
@[simp] theorem Dev.setMembers_regs (d : Dev) (p : Nat) (m : List Membership) : (d.setMembers p m).regs = d.regs := rfl
@[simp] theorem Dev.setMembers_latch (d : Dev) (p : Nat) (m : List Membership) : (d.setMembers p m).latch = d.latch := rfl
@[simp] theorem Dev.setMembers_host (d : Dev) (p : Nat) (m : List Membership) : (d.setMembers p m).host = d.host := rfl
@[simp] theorem Dev.setMembers_boot (d : Dev) (p : Nat) (m : List Membership) : (d.setMembers p m).boot = d.boot := rfl
@[simp] theorem Dev.setMembers_time (d : Dev) (p : Nat) (m : List Membership) : (d.setMembers p m).time = d.time := rfl
@[simp] theorem Dev.setMembers_ref (d : Dev) (p : Nat) (m : List Membership) : (d.setMembers p m).ref = d.ref := rfl
@[simp] theorem Dev.setMembers_recd (d : Dev) (p : Nat) (m : List Membership) : (d.setMembers p m).recd = d.recd := rfl
@[simp] theorem Dev.setMembers_err (d : Dev) (p : Nat) (m : List Membership) : (d.setMembers p m).err = d.err := rfl
@[simp] theorem Dev.setMembers_prot (d : Dev) (p : Nat) (m : List Membership) : (d.setMembers p m).prot = d.prot := rfl
@[simp] theorem Dev.setMembers_pwr (d : Dev) (p : Nat) (m : List Membership) : (d.setMembers p m).pwr = d.pwr := rfl
@[simp] theorem Dev.setMembers_sys (d : Dev) (p : Nat) (m : List Membership) : (d.setMembers p m).sys = d.sys := rfl
@[simp] theorem Dev.setMembers_dec (d : Dev) (p : Nat) (m : List Membership) : (d.setMembers p m).dec = d.dec := rfl
@[simp] theorem Dev.setMembers_lay (d : Dev) (p : Nat) (m : List Membership) : (d.setMembers p m).lay = d.lay := rfl
@[simp] theorem Dev.setMembers_comp (d : Dev) (p : Nat) (m : List Membership) : (d.setMembers p m).comp = d.comp := rfl
@[simp] theorem Dev.setMembers_enc (d : Dev) (p : Nat) (m : List Membership) : (d.setMembers p m).enc = d.enc := rfl
@[simp] theorem Dev.setMembers_io (d : Dev) (p : Nat) (m : List Membership) : (d.setMembers p m).io = d.io := rfl
@[simp] theorem Dev.setMembers_pair (d : Dev) (p : Nat) (m : List Membership) : (d.setMembers p m).pair = d.pair := rfl
@[simp] theorem Dev.setMembers_mctl (d : Dev) (p : Nat) (m : List Membership) : (d.setMembers p m).mctl = d.mctl := rfl
@[simp] theorem Dev.setMembers_reg (d : Dev) (p : Nat) (m : List Membership) (r' : RegDesc) (i' j' : Nat) : (d.setMembers p m).reg r' i' j' = d.reg r' i' j' := rfl
@[simp] theorem Dev.setMembers_get (d : Dev) (p : Nat) (m : List Membership) (f' : FldDesc) (i' j' : Nat) : (d.setMembers p m).get f' i' j' = d.get f' i' j' := rfl
@[simp] theorem Dev.setMembers_on (d : Dev) (p : Nat) (m : List Membership) (f' : FldDesc) (i' j' : Nat) : (d.setMembers p m).on f' i' j' = d.on f' i' j' := rfl
@[simp] theorem Dev.setMembers_queue (d : Dev) (p : Nat) (m : List Membership) (q' : Nat) : (d.setMembers p m).queue q' = d.queue q' := rfl
@[simp] theorem Dev.setMembers_cmd? (d : Dev) (p : Nat) (m : List Membership) (q' s' : Nat) : (d.setMembers p m).cmd? q' s' = d.cmd? q' s' := rfl
@[simp] theorem Dev.setMembers_link (d : Dev) (p : Nat) (m : List Membership) (p' : Nat) : (d.setMembers p m).link p' = d.link p' := rfl
@[simp] theorem Dev.setMembers_lanes (d : Dev) (p : Nat) (m : List Membership) (p' : Nat) : (d.setMembers p m).lanes p' = d.lanes p' := rfl
@[simp] theorem Dev.setMembers_job (d : Dev) (p : Nat) (m : List Membership) (p' : Nat) : (d.setMembers p m).job p' = d.job p' := rfl
@[simp] theorem Dev.setMembers_moduleId (d : Dev) (p : Nat) (m : List Membership) : (d.setMembers p m).moduleId = d.moduleId := rfl
@[simp] theorem Dev.setMembers_wt (d : Dev) (p : Nat) (m : List Membership) : (d.setMembers p m).wt = d.wt := rfl

/-! ### setLayerSt -/

@[simp] theorem Dev.setLayerSt_now (d : Dev) (l : Nat) (v : LayerSt) : (d.setLayerSt l v).now = d.now := rfl
@[simp] theorem Dev.setLayerSt_regs (d : Dev) (l : Nat) (v : LayerSt) : (d.setLayerSt l v).regs = d.regs := rfl
@[simp] theorem Dev.setLayerSt_latch (d : Dev) (l : Nat) (v : LayerSt) : (d.setLayerSt l v).latch = d.latch := rfl
@[simp] theorem Dev.setLayerSt_host (d : Dev) (l : Nat) (v : LayerSt) : (d.setLayerSt l v).host = d.host := rfl
@[simp] theorem Dev.setLayerSt_boot (d : Dev) (l : Nat) (v : LayerSt) : (d.setLayerSt l v).boot = d.boot := rfl
@[simp] theorem Dev.setLayerSt_time (d : Dev) (l : Nat) (v : LayerSt) : (d.setLayerSt l v).time = d.time := rfl
@[simp] theorem Dev.setLayerSt_ref (d : Dev) (l : Nat) (v : LayerSt) : (d.setLayerSt l v).ref = d.ref := rfl
@[simp] theorem Dev.setLayerSt_recd (d : Dev) (l : Nat) (v : LayerSt) : (d.setLayerSt l v).recd = d.recd := rfl
@[simp] theorem Dev.setLayerSt_err (d : Dev) (l : Nat) (v : LayerSt) : (d.setLayerSt l v).err = d.err := rfl
@[simp] theorem Dev.setLayerSt_prot (d : Dev) (l : Nat) (v : LayerSt) : (d.setLayerSt l v).prot = d.prot := rfl
@[simp] theorem Dev.setLayerSt_pwr (d : Dev) (l : Nat) (v : LayerSt) : (d.setLayerSt l v).pwr = d.pwr := rfl
@[simp] theorem Dev.setLayerSt_sys (d : Dev) (l : Nat) (v : LayerSt) : (d.setLayerSt l v).sys = d.sys := rfl
@[simp] theorem Dev.setLayerSt_net (d : Dev) (l : Nat) (v : LayerSt) : (d.setLayerSt l v).net = d.net := rfl
@[simp] theorem Dev.setLayerSt_dec (d : Dev) (l : Nat) (v : LayerSt) : (d.setLayerSt l v).dec = d.dec := rfl
@[simp] theorem Dev.setLayerSt_comp (d : Dev) (l : Nat) (v : LayerSt) : (d.setLayerSt l v).comp = d.comp := rfl
@[simp] theorem Dev.setLayerSt_enc (d : Dev) (l : Nat) (v : LayerSt) : (d.setLayerSt l v).enc = d.enc := rfl
@[simp] theorem Dev.setLayerSt_io (d : Dev) (l : Nat) (v : LayerSt) : (d.setLayerSt l v).io = d.io := rfl
@[simp] theorem Dev.setLayerSt_pair (d : Dev) (l : Nat) (v : LayerSt) : (d.setLayerSt l v).pair = d.pair := rfl
@[simp] theorem Dev.setLayerSt_mctl (d : Dev) (l : Nat) (v : LayerSt) : (d.setLayerSt l v).mctl = d.mctl := rfl
@[simp] theorem Dev.setLayerSt_reg (d : Dev) (l : Nat) (v : LayerSt) (r' : RegDesc) (i' j' : Nat) : (d.setLayerSt l v).reg r' i' j' = d.reg r' i' j' := rfl
@[simp] theorem Dev.setLayerSt_get (d : Dev) (l : Nat) (v : LayerSt) (f' : FldDesc) (i' j' : Nat) : (d.setLayerSt l v).get f' i' j' = d.get f' i' j' := rfl
@[simp] theorem Dev.setLayerSt_on (d : Dev) (l : Nat) (v : LayerSt) (f' : FldDesc) (i' j' : Nat) : (d.setLayerSt l v).on f' i' j' = d.on f' i' j' := rfl
@[simp] theorem Dev.setLayerSt_queue (d : Dev) (l : Nat) (v : LayerSt) (q' : Nat) : (d.setLayerSt l v).queue q' = d.queue q' := rfl
@[simp] theorem Dev.setLayerSt_cmd? (d : Dev) (l : Nat) (v : LayerSt) (q' s' : Nat) : (d.setLayerSt l v).cmd? q' s' = d.cmd? q' s' := rfl
@[simp] theorem Dev.setLayerSt_link (d : Dev) (l : Nat) (v : LayerSt) (p' : Nat) : (d.setLayerSt l v).link p' = d.link p' := rfl
@[simp] theorem Dev.setLayerSt_lanes (d : Dev) (l : Nat) (v : LayerSt) (p' : Nat) : (d.setLayerSt l v).lanes p' = d.lanes p' := rfl
@[simp] theorem Dev.setLayerSt_job (d : Dev) (l : Nat) (v : LayerSt) (p' : Nat) : (d.setLayerSt l v).job p' = d.job p' := rfl
@[simp] theorem Dev.setLayerSt_moduleId (d : Dev) (l : Nat) (v : LayerSt) : (d.setLayerSt l v).moduleId = d.moduleId := rfl
@[simp] theorem Dev.setLayerSt_wt (d : Dev) (l : Nat) (v : LayerSt) : (d.setLayerSt l v).wt = d.wt := rfl

/-! ### updCommit -/

@[simp] theorem Dev.updCommit_now (d : Dev) (q n : Nat) (f : Commit → Commit) : (d.updCommit q n f).now = d.now := rfl
@[simp] theorem Dev.updCommit_regs (d : Dev) (q n : Nat) (f : Commit → Commit) : (d.updCommit q n f).regs = d.regs := rfl
@[simp] theorem Dev.updCommit_latch (d : Dev) (q n : Nat) (f : Commit → Commit) : (d.updCommit q n f).latch = d.latch := rfl
@[simp] theorem Dev.updCommit_host (d : Dev) (q n : Nat) (f : Commit → Commit) : (d.updCommit q n f).host = d.host := rfl
@[simp] theorem Dev.updCommit_boot (d : Dev) (q n : Nat) (f : Commit → Commit) : (d.updCommit q n f).boot = d.boot := rfl
@[simp] theorem Dev.updCommit_time (d : Dev) (q n : Nat) (f : Commit → Commit) : (d.updCommit q n f).time = d.time := rfl
@[simp] theorem Dev.updCommit_ref (d : Dev) (q n : Nat) (f : Commit → Commit) : (d.updCommit q n f).ref = d.ref := rfl
@[simp] theorem Dev.updCommit_recd (d : Dev) (q n : Nat) (f : Commit → Commit) : (d.updCommit q n f).recd = d.recd := rfl
@[simp] theorem Dev.updCommit_err (d : Dev) (q n : Nat) (f : Commit → Commit) : (d.updCommit q n f).err = d.err := rfl
@[simp] theorem Dev.updCommit_prot (d : Dev) (q n : Nat) (f : Commit → Commit) : (d.updCommit q n f).prot = d.prot := rfl
@[simp] theorem Dev.updCommit_pwr (d : Dev) (q n : Nat) (f : Commit → Commit) : (d.updCommit q n f).pwr = d.pwr := rfl
@[simp] theorem Dev.updCommit_sys (d : Dev) (q n : Nat) (f : Commit → Commit) : (d.updCommit q n f).sys = d.sys := rfl
@[simp] theorem Dev.updCommit_net (d : Dev) (q n : Nat) (f : Commit → Commit) : (d.updCommit q n f).net = d.net := rfl
@[simp] theorem Dev.updCommit_dec (d : Dev) (q n : Nat) (f : Commit → Commit) : (d.updCommit q n f).dec = d.dec := rfl
@[simp] theorem Dev.updCommit_comp (d : Dev) (q n : Nat) (f : Commit → Commit) : (d.updCommit q n f).comp = d.comp := rfl
@[simp] theorem Dev.updCommit_enc (d : Dev) (q n : Nat) (f : Commit → Commit) : (d.updCommit q n f).enc = d.enc := rfl
@[simp] theorem Dev.updCommit_io (d : Dev) (q n : Nat) (f : Commit → Commit) : (d.updCommit q n f).io = d.io := rfl
@[simp] theorem Dev.updCommit_pair (d : Dev) (q n : Nat) (f : Commit → Commit) : (d.updCommit q n f).pair = d.pair := rfl
@[simp] theorem Dev.updCommit_mctl (d : Dev) (q n : Nat) (f : Commit → Commit) : (d.updCommit q n f).mctl = d.mctl := rfl
@[simp] theorem Dev.updCommit_reg (d : Dev) (q n : Nat) (f : Commit → Commit) (r' : RegDesc) (i' j' : Nat) : (d.updCommit q n f).reg r' i' j' = d.reg r' i' j' := rfl
@[simp] theorem Dev.updCommit_get (d : Dev) (q n : Nat) (f : Commit → Commit) (f' : FldDesc) (i' j' : Nat) : (d.updCommit q n f).get f' i' j' = d.get f' i' j' := rfl
@[simp] theorem Dev.updCommit_on (d : Dev) (q n : Nat) (f : Commit → Commit) (f' : FldDesc) (i' j' : Nat) : (d.updCommit q n f).on f' i' j' = d.on f' i' j' := rfl
@[simp] theorem Dev.updCommit_queue (d : Dev) (q n : Nat) (f : Commit → Commit) (q' : Nat) : (d.updCommit q n f).queue q' = d.queue q' := rfl
@[simp] theorem Dev.updCommit_cmd? (d : Dev) (q n : Nat) (f : Commit → Commit) (q' s' : Nat) : (d.updCommit q n f).cmd? q' s' = d.cmd? q' s' := rfl
@[simp] theorem Dev.updCommit_link (d : Dev) (q n : Nat) (f : Commit → Commit) (p' : Nat) : (d.updCommit q n f).link p' = d.link p' := rfl
@[simp] theorem Dev.updCommit_lanes (d : Dev) (q n : Nat) (f : Commit → Commit) (p' : Nat) : (d.updCommit q n f).lanes p' = d.lanes p' := rfl
@[simp] theorem Dev.updCommit_job (d : Dev) (q n : Nat) (f : Commit → Commit) (p' : Nat) : (d.updCommit q n f).job p' = d.job p' := rfl
@[simp] theorem Dev.updCommit_moduleId (d : Dev) (q n : Nat) (f : Commit → Commit) : (d.updCommit q n f).moduleId = d.moduleId := rfl
@[simp] theorem Dev.updCommit_wt (d : Dev) (q n : Nat) (f : Commit → Commit) : (d.updCommit q n f).wt = d.wt := rfl

/-! ### send -/

@[simp] theorem Dev.send_now (d : Dev) (m : Nat) (x : PaentMsg) : (d.send m x).now = d.now := rfl
@[simp] theorem Dev.send_regs (d : Dev) (m : Nat) (x : PaentMsg) : (d.send m x).regs = d.regs := rfl
@[simp] theorem Dev.send_latch (d : Dev) (m : Nat) (x : PaentMsg) : (d.send m x).latch = d.latch := rfl
@[simp] theorem Dev.send_host (d : Dev) (m : Nat) (x : PaentMsg) : (d.send m x).host = d.host := rfl
@[simp] theorem Dev.send_boot (d : Dev) (m : Nat) (x : PaentMsg) : (d.send m x).boot = d.boot := rfl
@[simp] theorem Dev.send_time (d : Dev) (m : Nat) (x : PaentMsg) : (d.send m x).time = d.time := rfl
@[simp] theorem Dev.send_ref (d : Dev) (m : Nat) (x : PaentMsg) : (d.send m x).ref = d.ref := rfl
@[simp] theorem Dev.send_recd (d : Dev) (m : Nat) (x : PaentMsg) : (d.send m x).recd = d.recd := rfl
@[simp] theorem Dev.send_err (d : Dev) (m : Nat) (x : PaentMsg) : (d.send m x).err = d.err := rfl
@[simp] theorem Dev.send_prot (d : Dev) (m : Nat) (x : PaentMsg) : (d.send m x).prot = d.prot := rfl
@[simp] theorem Dev.send_pwr (d : Dev) (m : Nat) (x : PaentMsg) : (d.send m x).pwr = d.pwr := rfl
@[simp] theorem Dev.send_net (d : Dev) (m : Nat) (x : PaentMsg) : (d.send m x).net = d.net := rfl
@[simp] theorem Dev.send_dec (d : Dev) (m : Nat) (x : PaentMsg) : (d.send m x).dec = d.dec := rfl
@[simp] theorem Dev.send_lay (d : Dev) (m : Nat) (x : PaentMsg) : (d.send m x).lay = d.lay := rfl
@[simp] theorem Dev.send_comp (d : Dev) (m : Nat) (x : PaentMsg) : (d.send m x).comp = d.comp := rfl
@[simp] theorem Dev.send_enc (d : Dev) (m : Nat) (x : PaentMsg) : (d.send m x).enc = d.enc := rfl
@[simp] theorem Dev.send_io (d : Dev) (m : Nat) (x : PaentMsg) : (d.send m x).io = d.io := rfl
@[simp] theorem Dev.send_pair (d : Dev) (m : Nat) (x : PaentMsg) : (d.send m x).pair = d.pair := rfl
@[simp] theorem Dev.send_mctl (d : Dev) (m : Nat) (x : PaentMsg) : (d.send m x).mctl = d.mctl := rfl
@[simp] theorem Dev.send_reg (d : Dev) (m : Nat) (x : PaentMsg) (r' : RegDesc) (i' j' : Nat) : (d.send m x).reg r' i' j' = d.reg r' i' j' := rfl
@[simp] theorem Dev.send_get (d : Dev) (m : Nat) (x : PaentMsg) (f' : FldDesc) (i' j' : Nat) : (d.send m x).get f' i' j' = d.get f' i' j' := rfl
@[simp] theorem Dev.send_on (d : Dev) (m : Nat) (x : PaentMsg) (f' : FldDesc) (i' j' : Nat) : (d.send m x).on f' i' j' = d.on f' i' j' := rfl
@[simp] theorem Dev.send_queue (d : Dev) (m : Nat) (x : PaentMsg) (q' : Nat) : (d.send m x).queue q' = d.queue q' := rfl
@[simp] theorem Dev.send_cmd? (d : Dev) (m : Nat) (x : PaentMsg) (q' s' : Nat) : (d.send m x).cmd? q' s' = d.cmd? q' s' := rfl
@[simp] theorem Dev.send_moduleId (d : Dev) (m : Nat) (x : PaentMsg) : (d.send m x).moduleId = d.moduleId := rfl
@[simp] theorem Dev.send_wt (d : Dev) (m : Nat) (x : PaentMsg) : (d.send m x).wt = d.wt := rfl

/-! ### What each update sets -/

@[simp] theorem Dev.clock_now (d : Dev) (t : Nat) : (d.clock t).now = max d.now t := rfl
@[simp] theorem Dev.setPair_pair (d : Dev) (x : PairSt) : (d.setPair x).pair = x := rfl
@[simp] theorem Dev.setMctl_mctl (d : Dev) (x : MemCtl) : (d.setMctl x).mctl = x := rfl
@[simp] theorem Dev.setBoot_boot (d : Dev) (x : BootSt) : (d.setBoot x).boot = x := rfl
@[simp] theorem Dev.setPwr_pwr (d : Dev) (x : PwrSt) : (d.setPwr x).pwr = x := rfl
@[simp] theorem State.queueFront_dev (s : State) (i : Instr) : (s.queueFront i).dev = s.dev := rfl
@[simp] theorem State.queueFront_mem (s : State) (i : Instr) : (s.queueFront i).mem = s.mem := rfl
@[simp] theorem State.queueFront_pending (s : State) (i : Instr) : (s.queueFront i).pending = i :: s.pending := rfl

end Sys2Proof.Machine
end

