-- ==== Sys2Proof/Laws/Tab.lean ====
section
/-! SUPPORT. Laws of sparse tables: what is read after a write, and that every write keeps the canonical form. -/

namespace Sys2Proof.Machine

theorem tabGet?_put_same {α : Type} (t : Tab α) (i : Nat) (v : α) : tabGet? (tabPut t i v) i = some v := by
  induction t with
  | nil => simp [tabPut, tabGet?]
  | cons e r ih =>
    obtain ⟨k, w⟩ := e
    unfold tabPut
    split
    · simp [tabGet?]
    · split
      · simp [tabGet?]
      · next h => simp [tabGet?, h, ih]

theorem tabGet?_put_ne {α : Type} (t : Tab α) (i j : Nat) (v : α) (h : j ≠ i) :
    tabGet? (tabPut t i v) j = tabGet? t j := by
  induction t with
  | nil => simp [tabPut, tabGet?, h]
  | cons e r ih =>
    obtain ⟨k, w⟩ := e
    unfold tabPut
    split
    · simp [tabGet?, h]
    · split
      · next hk => subst hk; simp [tabGet?, h]
      · simp only [tabGet?, ih]

theorem tabGet?_del_same {α : Type} (t : Tab α) (i : Nat) : tabGet? (tabDel t i) i = none := by
  induction t with
  | nil => rfl
  | cons e r ih =>
    obtain ⟨k, w⟩ := e
    unfold tabDel
    split
    · exact ih
    · next h => simp [tabGet?, h, ih]

theorem tabGet?_del_ne {α : Type} (t : Tab α) (i j : Nat) (h : j ≠ i) : tabGet? (tabDel t i) j = tabGet? t j := by
  induction t with
  | nil => rfl
  | cons e r ih =>
    obtain ⟨k, w⟩ := e
    unfold tabDel
    split
    · next hk => subst hk; simp [tabGet?, h, ih]
    · simp only [tabGet?, ih]

@[simp] theorem tabGetD_put_same {α : Type} (t : Tab α) (d : α) (i : Nat) (v : α) : tabGetD (tabPut t i v) d i = v := by
  simp [tabGetD, tabGet?_put_same]

theorem tabGetD_put_ne {α : Type} (t : Tab α) (d : α) (i j : Nat) (v : α) (h : j ≠ i) :
    tabGetD (tabPut t i v) d j = tabGetD t d j := by
  simp [tabGetD, tabGet?_put_ne t i j v h]

@[simp] theorem tabGetD_set_same {α : Type} [DecidableEq α] (t : Tab α) (d : α) (i : Nat) (v : α) :
    tabGetD (tabSet t d i v) d i = v := by
  unfold tabSet
  split
  · next h => simp [tabGetD, tabGet?_del_same, h]
  · simp

theorem tabGet?_set_ne {α : Type} [DecidableEq α] (t : Tab α) (d : α) (i j : Nat) (v : α) (h : j ≠ i) :
    tabGet? (tabSet t d i v) j = tabGet? t j := by
  unfold tabSet
  split
  · exact tabGet?_del_ne t i j h
  · exact tabGet?_put_ne t i j v h

theorem tabGetD_set_ne {α : Type} [DecidableEq α] (t : Tab α) (d e : α) (i j : Nat) (v : α) (h : j ≠ i) :
    tabGetD (tabSet t d i v) e j = tabGetD t e j := by
  simp [tabGetD, tabGet?_set_ne t d i j v h]

/-! ### The canonical form -/

theorem tabSortedFrom_put {α : Type} (t : Tab α) (lo : Option Nat) (i : Nat) (v : α)
    (h : tabSortedFrom lo t = true) (hi : ∀ l, lo = some l → l < i) : tabSortedFrom lo (tabPut t i v) = true := by
  induction t generalizing lo with
  | nil => cases lo <;> simp_all [tabPut, tabSortedFrom]
  | cons e r ih =>
    obtain ⟨k, w⟩ := e
    simp only [tabSortedFrom, Bool.and_eq_true] at h
    unfold tabPut
    split
    · next hlt =>
      cases lo <;> simp_all [tabSortedFrom]
    · split
      · next hk => subst hk; simp_all [tabSortedFrom]
      · next h1 h2 =>
        simp only [tabSortedFrom, Bool.and_eq_true]
        exact ⟨h.1, ih (some k) h.2 (by intro l hl; cases hl; omega)⟩

theorem tabSortedFrom_mono {α : Type} (t : Tab α) (l l' : Nat) (hl : l' ≤ l) (h : tabSortedFrom (some l) t = true) :
    tabSortedFrom (some l') t = true := by
  cases t with
  | nil => rfl
  | cons e r =>
    obtain ⟨k, w⟩ := e
    simp only [tabSortedFrom, Bool.and_eq_true, decide_eq_true_eq] at h ⊢
    exact ⟨by omega, h.2⟩

theorem tabSortedFrom_drop {α : Type} (t : Tab α) (lo : Option Nat) (k : Nat) (h : tabSortedFrom (some k) t = true)
    (hk : ∀ l, lo = some l → l < k) : tabSortedFrom lo t = true := by
  cases lo with
  | some l => exact tabSortedFrom_mono t k l (by have := hk l rfl; omega) h
  | none =>
    cases t with
    | nil => rfl
    | cons e r => simp_all [tabSortedFrom]

theorem tabSortedFrom_del {α : Type} (t : Tab α) (lo : Option Nat) (i : Nat) (h : tabSortedFrom lo t = true) :
    tabSortedFrom lo (tabDel t i) = true := by
  induction t generalizing lo with
  | nil => simpa [tabDel] using h
  | cons e r ih =>
    obtain ⟨k, w⟩ := e
    simp only [tabSortedFrom, Bool.and_eq_true] at h
    have hk : ∀ l, lo = some l → l < k := by
      intro l hl; subst hl; simpa using h.1
    unfold tabDel
    split
    · exact ih lo (tabSortedFrom_drop r lo k h.2 hk)
    · simp only [tabSortedFrom, Bool.and_eq_true]
      exact ⟨h.1, ih (some k) h.2⟩

theorem mem_tabPut {α : Type} (t : Tab α) (i : Nat) (v : α) (e : Nat × α) (h : e ∈ tabPut t i v) : e = (i, v) ∨ e ∈ t := by
  induction t with
  | nil => simp_all [tabPut]
  | cons x r ih =>
    obtain ⟨k, w⟩ := x
    unfold tabPut at h
    split at h
    · simpa using h
    · split at h
      · simp only [List.mem_cons] at h ⊢; tauto
      · simp only [List.mem_cons] at h ⊢; tauto

theorem mem_tabDel {α : Type} (t : Tab α) (i : Nat) (e : Nat × α) (h : e ∈ tabDel t i) : e ∈ t := by
  induction t with
  | nil => exact h
  | cons x r ih =>
    obtain ⟨k, w⟩ := x
    unfold tabDel at h
    split at h
    · exact List.mem_cons_of_mem _ (ih h)
    · simp only [List.mem_cons] at h ⊢; tauto

/-- Setting a value keeps the canonical form of a table. -/
theorem tabWf_set {α : Type} [DecidableEq α] (t : Tab α) (d : α) (i : Nat) (v : α) (h : tabWf d t = true) :
    tabWf d (tabSet t d i v) = true := by
  simp only [tabWf, Bool.and_eq_true, List.all_eq_true, decide_eq_true_eq] at h ⊢
  unfold tabSet
  split
  · exact ⟨tabSortedFrom_del t none i h.1, fun e he => h.2 e (mem_tabDel t i e he)⟩
  · next hv =>
    refine ⟨tabSortedFrom_put t none i v h.1 (by simp), fun e he => ?_⟩
    rcases mem_tabPut t i v e he with rfl | he
    · exact hv
    · exact h.2 e he

end Sys2Proof.Machine
end

