-- ==== Sys2Proof/Laws/Regs.lean ====
section
/-! SUPPORT. Laws of registers and their fields: what is read after a write of the same field, of another field of the same
register, and of another register. -/

namespace Sys2Proof.Machine

/-! ### Bits of a number -/

theorem bits_lt (v hi lo : Nat) : bits v hi lo < 2 ^ (hi - lo + 1) := Nat.mod_lt _ (Nat.two_pow_pos _)

theorem testBit_bits (v hi lo k : Nat) : (bits v hi lo).testBit k = (decide (k < hi - lo + 1) && v.testBit (lo + k)) := by
  simp only [bits, Nat.testBit_mod_two_pow, Nat.testBit_div_two_pow]
  rw [Nat.add_comm k lo]

theorem bits_mul_le (v hi lo : Nat) : bits v hi lo * 2 ^ lo ≤ v := by
  have h1 : bits v hi lo ≤ v / 2 ^ lo := Nat.mod_le _ _
  exact le_trans (Nat.mul_le_mul_right _ h1) (Nat.div_mul_le_self _ _)

/-- A number is its part below a field, the field, and its part above. -/
theorem split_bits (v hi lo : Nat) (h : lo ≤ hi) :
    v = v % 2 ^ lo + bits v hi lo * 2 ^ lo + v / 2 ^ (hi + 1) * 2 ^ (hi + 1) := by
  have e : hi + 1 = lo + (hi - lo + 1) := by omega
  have h1 := Nat.div_add_mod v (2 ^ lo)
  have h2 := Nat.div_add_mod (v / 2 ^ lo) (2 ^ (hi - lo + 1))
  rw [Nat.div_div_eq_div_mul, ← pow_add, ← e] at h2
  have h3 : v / 2 ^ (hi + 1) * 2 ^ (hi + 1) = 2 ^ lo * (2 ^ (hi - lo + 1) * (v / 2 ^ (hi + 1))) := by
    rw [e, pow_add]; ring
  rw [h3, show bits v hi lo = v / 2 ^ lo % 2 ^ (hi - lo + 1) from rfl]
  calc v = 2 ^ lo * (v / 2 ^ lo) + v % 2 ^ lo := h1.symm
    _ = 2 ^ lo * (2 ^ (hi - lo + 1) * (v / 2 ^ (hi + 1)) + v / 2 ^ lo % 2 ^ (hi - lo + 1)) + v % 2 ^ lo := by rw [h2]
    _ = _ := by ring

theorem putBits_eq (v hi lo x : Nat) (h : lo ≤ hi) :
    putBits v hi lo x = v % 2 ^ lo + x % 2 ^ (hi - lo + 1) * 2 ^ lo + v / 2 ^ (hi + 1) * 2 ^ (hi + 1) := by
  have h1 := split_bits v hi lo h
  have h2 := bits_mul_le v hi lo
  unfold putBits
  omega

theorem testBit_putBits (v hi lo x k : Nat) (h : lo ≤ hi) :
    (putBits v hi lo x).testBit k = if lo ≤ k ∧ k ≤ hi then x.testBit (k - lo) else v.testBit k := by
  have e : hi + 1 = lo + (hi - lo + 1) := by omega
  have key : putBits v hi lo x =
      2 ^ lo * (2 ^ (hi - lo + 1) * (v / 2 ^ (hi + 1)) + x % 2 ^ (hi - lo + 1)) + v % 2 ^ lo := by
    rw [putBits_eq v hi lo x h, e, pow_add]; ring
  rw [key, Nat.testBit_two_pow_mul_add _ (Nat.mod_lt _ (Nat.two_pow_pos _)),
    Nat.testBit_two_pow_mul_add _ (Nat.mod_lt _ (Nat.two_pow_pos _))]
  by_cases h1 : k < lo
  · have : ¬(lo ≤ k ∧ k ≤ hi) := by omega
    simp [h1, this]
  · by_cases h2 : k - lo < hi - lo + 1
    · have : lo ≤ k ∧ k ≤ hi := by omega
      simp [h1, h2, this]
    · have : ¬(lo ≤ k ∧ k ≤ hi) := by omega
      simp only [h1, h2, this, if_false, Nat.testBit_div_two_pow]
      congr 1; omega

theorem bits_putBits_same (v hi lo x : Nat) (h : lo ≤ hi) : bits (putBits v hi lo x) hi lo = x % 2 ^ (hi - lo + 1) := by
  apply Nat.eq_of_testBit_eq
  intro k
  rw [testBit_bits, testBit_putBits v hi lo x _ h, Nat.testBit_mod_two_pow]
  by_cases hk : k < hi - lo + 1
  · have : lo ≤ lo + k ∧ lo + k ≤ hi := by omega
    simp [hk, this]
  · simp [hk]

theorem bits_putBits_disjoint (v hi lo x h l : Nat) (hl : lo ≤ hi) (hd : h < lo ∨ hi < l) (hh : l ≤ h) :
    bits (putBits v hi lo x) h l = bits v h l := by
  apply Nat.eq_of_testBit_eq
  intro k
  rw [testBit_bits, testBit_bits, testBit_putBits v hi lo x _ hl]
  by_cases hk : k < h - l + 1
  · have : ¬(lo ≤ l + k ∧ l + k ≤ hi) := by omega
    simp [hk, this]
  · simp [hk]

theorem putBits_lt (v hi lo x : Nat) (h : lo ≤ hi) (hi' : hi < 32) (hv : v < 2 ^ 32) : putBits v hi lo x < 2 ^ 32 := by
  apply Nat.lt_pow_two_of_testBit
  intro k hk
  rw [testBit_putBits v hi lo x k h]
  have : ¬(lo ≤ k ∧ k ≤ hi) := by omega
  simp only [this, if_false]
  exact Nat.testBit_lt_two_pow (lt_of_lt_of_le hv (Nat.pow_le_pow_right (by omega) hk))

theorem bits_all (v : Nat) (hv : v < 2 ^ 32) : bits v 31 0 = v := by
  simp only [bits, Nat.pow_zero, Nat.div_one]
  exact Nat.mod_eq_of_lt hv

/-! ### Whole registers -/

theorem Dev.reg_lt (d : Dev) (r : RegDesc) (i j : Nat) : d.reg r i j < 2 ^ 32 := BitVec.isLt _

@[simp] theorem Dev.reg_setReg (d : Dev) (r : RegDesc) (v i j : Nat) : (d.setReg r v i j).reg r i j = v % 2 ^ 32 := by
  simp [Dev.reg, Dev.setReg]

theorem Dev.reg_setReg_ne (d : Dev) (r r' : RegDesc) (v i j i' j' : Nat) (h : r'.off i' j' ≠ r.off i j) :
    (d.setReg r v i j).reg r' i' j' = d.reg r' i' j' := by
  simp [Dev.reg, Dev.setReg, tabGetD_set_ne _ _ _ _ _ _ h]

theorem Dev.get_setReg_ne (d : Dev) (r : RegDesc) (f : FldDesc) (v i j i' j' : Nat) (h : f.reg.off i' j' ≠ r.off i j) :
    (d.setReg r v i j).get f i' j' = d.get f i' j' := by
  simp [Dev.get, Dev.reg_setReg_ne _ _ _ _ _ _ _ _ h]

theorem Dev.get_setReg (d : Dev) (f : FldDesc) (v i j : Nat) :
    (d.setReg f.reg v i j).get f i j = bits (v % 2 ^ 32) f.hi f.lo := by
  simp [Dev.get]

/-! ### Fields -/

/-- A field lies in its register. -/
def FldDesc.ok (f : FldDesc) : Bool := decide (f.lo ≤ f.hi) && decide (f.hi < 32)

theorem Dev.reg_put (d : Dev) (f : FldDesc) (v i j : Nat) (hf : f.ok = true) :
    (d.put f v i j).reg f.reg i j = putBits (d.reg f.reg i j) f.hi f.lo v := by
  simp only [FldDesc.ok, Bool.and_eq_true, decide_eq_true_eq] at hf
  rw [Dev.put, Dev.reg_setReg, Nat.mod_eq_of_lt (putBits_lt _ _ _ _ hf.1 hf.2 (d.reg_lt _ _ _))]

theorem Dev.get_put (d : Dev) (f : FldDesc) (v i j : Nat) (hf : f.ok = true) :
    (d.put f v i j).get f i j = v % 2 ^ (f.hi - f.lo + 1) := by
  rw [Dev.get, d.reg_put f v i j hf]
  simp only [FldDesc.ok, Bool.and_eq_true, decide_eq_true_eq] at hf
  exact bits_putBits_same _ _ _ _ hf.1

/-- Another field of the same register. -/
theorem Dev.get_put_field (d : Dev) (f g : FldDesc) (v i j : Nat) (hf : f.ok = true) (hg : g.ok = true)
    (hr : g.reg = f.reg) (hd : g.hi < f.lo ∨ f.hi < g.lo) : (d.put f v i j).get g i j = d.get g i j := by
  rw [Dev.get, Dev.get, hr, d.reg_put f v i j hf]
  simp only [FldDesc.ok, Bool.and_eq_true, decide_eq_true_eq] at hf hg
  exact bits_putBits_disjoint _ _ _ _ _ _ hf.1 hd hg.1

theorem Dev.reg_put_ne (d : Dev) (f : FldDesc) (r : RegDesc) (v i j i' j' : Nat) (h : r.off i' j' ≠ f.reg.off i j) :
    (d.put f v i j).reg r i' j' = d.reg r i' j' := d.reg_setReg_ne _ _ _ _ _ _ _ h

theorem Dev.get_put_ne (d : Dev) (f g : FldDesc) (v i j i' j' : Nat) (h : g.reg.off i' j' ≠ f.reg.off i j) :
    (d.put f v i j).get g i' j' = d.get g i' j' := d.get_setReg_ne _ _ _ _ _ _ _ h

theorem Dev.get_bump (d : Dev) (f : FldDesc) (i n j : Nat) (hf : f.ok = true) :
    (d.bump f i n j).get f i j = min (d.get f i j + n) (2 ^ (f.hi - f.lo + 1) - 1) := by
  have hp : 0 < 2 ^ (f.hi - f.lo + 1) := Nat.two_pow_pos _
  rw [Dev.bump, d.get_put f _ i j hf, Nat.mod_eq_of_lt (by omega)]

theorem Dev.get_lt (d : Dev) (f : FldDesc) (i j : Nat) : d.get f i j < 2 ^ (f.hi - f.lo + 1) := bits_lt _ _ _

theorem Dev.on_iff (d : Dev) (f : FldDesc) (i j : Nat) : d.on f i j = true ↔ d.get f i j = 1 := by simp [Dev.on]

end Sys2Proof.Machine
end

