-- ==== Sys2Proof/Laws/Frame.lean ====
section
/-! SUPPORT. What each shared operation leaves alone, as rules that go on from what the block was at first: from
`d0.Keeps d ws ps` to the block after one more operation on `d`. -/

namespace Sys2Proof.Machine

theorem Dev.Keeps.refl (d : Dev) (ws : Nat → Prop) (ps : List Part) : d.Keeps d ws ps := by
  constructor <;> first | rfl | exact fun _ _ => rfl | exact .inr rfl

theorem Dev.Keeps.mono {d e : Dev} {ws ws' : Nat → Prop} {ps ps' : List Part} (h : d.Keeps e ws ps) (hw : ∀ x, ws x → ws' x)
    (hp : ps ⊆ ps') : d.Keeps e ws' ps' where
  now := h.now
  regs := fun off ho => h.regs off fun x => ho (hw _ x)
  latch := h.latch.imp (fun x => hp x) id
  host := h.host.imp (fun x => hp x) id
  boot := h.boot.imp (fun x => hp x) id
  time := h.time.imp (fun x => hp x) id
  ref := h.ref.imp (fun x => hp x) id
  recd := h.recd.imp (fun x => hp x) id
  err := h.err.imp (fun x => hp x) id
  prot := h.prot.imp (fun x => hp x) id
  pwr := h.pwr.imp (fun x => hp x) id
  sys := h.sys.imp (fun x => hp x) id
  net := h.net.imp (fun x => hp x) id
  dec := h.dec.imp (fun x => hp x) id
  lay := h.lay.imp (fun x => hp x) id
  comp := h.comp.imp (fun x => hp x) id
  enc := h.enc.imp (fun x => hp x) id
  io := h.io.imp (fun x => hp x) id
  pair := h.pair.imp (fun x => hp x) id
  mctl := h.mctl.imp (fun x => hp x) id

theorem Dev.Keeps.trans {d e f : Dev} {ws : Nat → Prop} {ps : List Part} (h : d.Keeps e ws ps) (k : e.Keeps f ws ps) :
    d.Keeps f ws ps where
  now := k.now.trans h.now
  regs := fun off ho => (k.regs off ho).trans (h.regs off ho)
  latch := by
    rcases h.latch with x | x
    · exact .inl x
    · exact k.latch.imp id fun y => y.trans x
  host := by
    rcases h.host with x | x
    · exact .inl x
    · exact k.host.imp id fun y => y.trans x
  boot := by
    rcases h.boot with x | x
    · exact .inl x
    · exact k.boot.imp id fun y => y.trans x
  time := by
    rcases h.time with x | x
    · exact .inl x
    · exact k.time.imp id fun y => y.trans x
  ref := by
    rcases h.ref with x | x
    · exact .inl x
    · exact k.ref.imp id fun y => y.trans x
  recd := by
    rcases h.recd with x | x
    · exact .inl x
    · exact k.recd.imp id fun y => y.trans x
  err := by
    rcases h.err with x | x
    · exact .inl x
    · exact k.err.imp id fun y => y.trans x
  prot := by
    rcases h.prot with x | x
    · exact .inl x
    · exact k.prot.imp id fun y => y.trans x
  pwr := by
    rcases h.pwr with x | x
    · exact .inl x
    · exact k.pwr.imp id fun y => y.trans x
  sys := by
    rcases h.sys with x | x
    · exact .inl x
    · exact k.sys.imp id fun y => y.trans x
  net := by
    rcases h.net with x | x
    · exact .inl x
    · exact k.net.imp id fun y => y.trans x
  dec := by
    rcases h.dec with x | x
    · exact .inl x
    · exact k.dec.imp id fun y => y.trans x
  lay := by
    rcases h.lay with x | x
    · exact .inl x
    · exact k.lay.imp id fun y => y.trans x
  comp := by
    rcases h.comp with x | x
    · exact .inl x
    · exact k.comp.imp id fun y => y.trans x
  enc := by
    rcases h.enc with x | x
    · exact .inl x
    · exact k.enc.imp id fun y => y.trans x
  io := by
    rcases h.io with x | x
    · exact .inl x
    · exact k.io.imp id fun y => y.trans x
  pair := by
    rcases h.pair with x | x
    · exact .inl x
    · exact k.pair.imp id fun y => y.trans x
  mctl := by
    rcases h.mctl with x | x
    · exact .inl x
    · exact k.mctl.imp id fun y => y.trans x

variable {d0 d : Dev} {ws : Nat → Prop} {ps : List Part}

theorem Dev.Keeps.ite {a b : Dev} {p : Prop} [Decidable p] (ha : p → d0.Keeps a ws ps) (hb : ¬p → d0.Keeps b ws ps) :
    d0.Keeps (if p then a else b) ws ps := by
  split
  · exact ha ‹_›
  · exact hb ‹_›

theorem Dev.Keeps.foldl {α : Type} (f : Dev → α → Dev) (l : List α) (h : d0.Keeps d ws ps)
    (hf : ∀ e x, d0.Keeps e ws ps → d0.Keeps (f e x) ws ps) : d0.Keeps (l.foldl f d) ws ps := by
  induction l generalizing d with
  | nil => exact h
  | cons x r ih => exact ih (hf d x h)

/-! ### Registers and parts -/

theorem Dev.Keeps.setReg (h : d0.Keeps d ws ps) (r : RegDesc) (v i j : Nat) (hw : ws (r.off i j)) :
    d0.Keeps (d.setReg r v i j) ws ps := by
  refine h.trans { (Dev.Keeps.refl d ws ps) with regs := fun off ho => ?_, now := rfl }
  exact tabGet?_set_ne _ _ _ _ _ (fun x => ho (x ▸ hw))

theorem Dev.Keeps.put (h : d0.Keeps d ws ps) (f : FldDesc) (v i j : Nat) (hw : ws (f.reg.off i j)) :
    d0.Keeps (d.put f v i j) ws ps := h.setReg _ _ _ _ hw

theorem Dev.Keeps.bump (h : d0.Keeps d ws ps) (f : FldDesc) (i n j : Nat) (hw : ws (f.reg.off i j)) :
    d0.Keeps (d.bump f i n j) ws ps := h.setReg _ _ _ _ hw

theorem Dev.Keeps.bumpWrap (h : d0.Keeps d ws ps) (f : FldDesc) (i n : Nat) (hw : ws (f.reg.off i 0)) :
    d0.Keeps (d.bumpWrap f i n) ws ps := h.setReg _ _ _ _ hw

theorem Dev.Keeps.withLatch (h : d0.Keeps d ws ps) (x : Tab Word) (hp : Part.latch ∈ ps) :
    d0.Keeps { d with latch := x } ws ps :=
  h.trans { (Dev.Keeps.refl d ws ps) with latch := .inl hp, now := rfl, regs := fun _ _ => rfl }

theorem Dev.Keeps.withHost (h : d0.Keeps d ws ps) (x : HostSt) (hp : Part.host ∈ ps) :
    d0.Keeps { d with host := x } ws ps :=
  h.trans { (Dev.Keeps.refl d ws ps) with host := .inl hp, now := rfl, regs := fun _ _ => rfl }

theorem Dev.Keeps.withBoot (h : d0.Keeps d ws ps) (x : BootSt) (hp : Part.boot ∈ ps) :
    d0.Keeps { d with boot := x } ws ps :=
  h.trans { (Dev.Keeps.refl d ws ps) with boot := .inl hp, now := rfl, regs := fun _ _ => rfl }

theorem Dev.Keeps.withTime (h : d0.Keeps d ws ps) (x : TimeSt) (hp : Part.time ∈ ps) :
    d0.Keeps { d with time := x } ws ps :=
  h.trans { (Dev.Keeps.refl d ws ps) with time := .inl hp, now := rfl, regs := fun _ _ => rfl }

theorem Dev.Keeps.withRef (h : d0.Keeps d ws ps) (x : RefSt) (hp : Part.ref ∈ ps) :
    d0.Keeps { d with ref := x } ws ps :=
  h.trans { (Dev.Keeps.refl d ws ps) with ref := .inl hp, now := rfl, regs := fun _ _ => rfl }

theorem Dev.Keeps.withRecd (h : d0.Keeps d ws ps) (x : RecSt) (hp : Part.recd ∈ ps) :
    d0.Keeps { d with recd := x } ws ps :=
  h.trans { (Dev.Keeps.refl d ws ps) with recd := .inl hp, now := rfl, regs := fun _ _ => rfl }

theorem Dev.Keeps.withErr (h : d0.Keeps d ws ps) (x : ErrSt) (hp : Part.err ∈ ps) :
    d0.Keeps { d with err := x } ws ps :=
  h.trans { (Dev.Keeps.refl d ws ps) with err := .inl hp, now := rfl, regs := fun _ _ => rfl }

theorem Dev.Keeps.withProt (h : d0.Keeps d ws ps) (x : ProtSt) (hp : Part.prot ∈ ps) :
    d0.Keeps { d with prot := x } ws ps :=
  h.trans { (Dev.Keeps.refl d ws ps) with prot := .inl hp, now := rfl, regs := fun _ _ => rfl }

theorem Dev.Keeps.withPwr (h : d0.Keeps d ws ps) (x : PwrSt) (hp : Part.pwr ∈ ps) :
    d0.Keeps { d with pwr := x } ws ps :=
  h.trans { (Dev.Keeps.refl d ws ps) with pwr := .inl hp, now := rfl, regs := fun _ _ => rfl }

theorem Dev.Keeps.withSys (h : d0.Keeps d ws ps) (x : SysSt) (hp : Part.sys ∈ ps) :
    d0.Keeps { d with sys := x } ws ps :=
  h.trans { (Dev.Keeps.refl d ws ps) with sys := .inl hp, now := rfl, regs := fun _ _ => rfl }

theorem Dev.Keeps.withNet (h : d0.Keeps d ws ps) (x : NetSt) (hp : Part.net ∈ ps) :
    d0.Keeps { d with net := x } ws ps :=
  h.trans { (Dev.Keeps.refl d ws ps) with net := .inl hp, now := rfl, regs := fun _ _ => rfl }

theorem Dev.Keeps.withDec (h : d0.Keeps d ws ps) (x : DecSt) (hp : Part.dec ∈ ps) :
    d0.Keeps { d with dec := x } ws ps :=
  h.trans { (Dev.Keeps.refl d ws ps) with dec := .inl hp, now := rfl, regs := fun _ _ => rfl }

theorem Dev.Keeps.withLay (h : d0.Keeps d ws ps) (x : LaySt) (hp : Part.lay ∈ ps) :
    d0.Keeps { d with lay := x } ws ps :=
  h.trans { (Dev.Keeps.refl d ws ps) with lay := .inl hp, now := rfl, regs := fun _ _ => rfl }

theorem Dev.Keeps.withComp (h : d0.Keeps d ws ps) (x : CompSt) (hp : Part.comp ∈ ps) :
    d0.Keeps { d with comp := x } ws ps :=
  h.trans { (Dev.Keeps.refl d ws ps) with comp := .inl hp, now := rfl, regs := fun _ _ => rfl }

theorem Dev.Keeps.withEnc (h : d0.Keeps d ws ps) (x : EncSt) (hp : Part.enc ∈ ps) :
    d0.Keeps { d with enc := x } ws ps :=
  h.trans { (Dev.Keeps.refl d ws ps) with enc := .inl hp, now := rfl, regs := fun _ _ => rfl }

theorem Dev.Keeps.withIo (h : d0.Keeps d ws ps) (x : IoSt) (hp : Part.io ∈ ps) :
    d0.Keeps { d with io := x } ws ps :=
  h.trans { (Dev.Keeps.refl d ws ps) with io := .inl hp, now := rfl, regs := fun _ _ => rfl }

theorem Dev.Keeps.withPair (h : d0.Keeps d ws ps) (x : PairSt) (hp : Part.pair ∈ ps) :
    d0.Keeps { d with pair := x } ws ps :=
  h.trans { (Dev.Keeps.refl d ws ps) with pair := .inl hp, now := rfl, regs := fun _ _ => rfl }

theorem Dev.Keeps.withMctl (h : d0.Keeps d ws ps) (x : MemCtl) (hp : Part.mctl ∈ ps) :
    d0.Keeps { d with mctl := x } ws ps :=
  h.trans { (Dev.Keeps.refl d ws ps) with mctl := .inl hp, now := rfl, regs := fun _ _ => rfl }

theorem Dev.Keeps.setLatch (h : d0.Keeps d ws ps) (r : RegDesc) (v i j : Nat) (hp : Part.latch ∈ ps) :
    d0.Keeps (d.setLatch r v i j) ws ps := h.withLatch _ hp

theorem Dev.Keeps.setQueue (h : d0.Keeps d ws ps) (q : Nat) (v : Queue) (hp : Part.host ∈ ps) :
    d0.Keeps (d.setQueue q v) ws ps := h.withHost _ hp

theorem Dev.Keeps.setCmds (h : d0.Keeps d ws ps) (q : Nat) (cs : List Cmd) (hp : Part.host ∈ ps) :
    d0.Keeps (d.setCmds q cs) ws ps := h.withHost _ hp

theorem Dev.Keeps.updCmd (h : d0.Keeps d ws ps) (q seq : Nat) (f : Cmd → Cmd) (hp : Part.host ∈ ps) :
    d0.Keeps (d.updCmd q seq f) ws ps := h.withHost _ hp

theorem Dev.Keeps.post (h : d0.Keeps d ws ps) (p : Posted) (hp : Part.host ∈ ps) :
    d0.Keeps (d.post p) ws ps := h.withHost _ hp

theorem Dev.Keeps.respond (h : d0.Keeps d ws ps) (r : Response) (hp : Part.host ∈ ps) :
    d0.Keeps (d.respond r) ws ps := h.withHost _ hp

theorem Dev.Keeps.setPair (h : d0.Keeps d ws ps) (x : PairSt) (hp : Part.pair ∈ ps) :
    d0.Keeps (d.setPair x) ws ps := h.withPair _ hp

theorem Dev.Keeps.reply (h : d0.Keeps d ws ps) (r : MirrorReply) (hp : Part.pair ∈ ps) :
    d0.Keeps (d.reply r) ws ps := h.withPair _ hp

theorem Dev.Keeps.setMctl (h : d0.Keeps d ws ps) (x : MemCtl) (hp : Part.mctl ∈ ps) :
    d0.Keeps (d.setMctl x) ws ps := h.withMctl _ hp

theorem Dev.Keeps.setBoot (h : d0.Keeps d ws ps) (x : BootSt) (hp : Part.boot ∈ ps) :
    d0.Keeps (d.setBoot x) ws ps := h.withBoot _ hp

theorem Dev.Keeps.setPwr (h : d0.Keeps d ws ps) (x : PwrSt) (hp : Part.pwr ∈ ps) :
    d0.Keeps (d.setPwr x) ws ps := h.withPwr _ hp

theorem Dev.Keeps.debugRespond (h : d0.Keeps d ws ps) (r : Response) (hp : Part.prot ∈ ps) :
    d0.Keeps (d.debugRespond r) ws ps := h.withProt _ hp

theorem Dev.Keeps.setCommits (h : d0.Keeps d ws ps) (cs : List Commit) (hp : Part.lay ∈ ps) :
    d0.Keeps (d.setCommits cs) ws ps := h.withLay _ hp

theorem Dev.Keeps.setRecv (h : d0.Keeps d ws ps) (r : Nat) (x : Recv) (hp : Part.sys ∈ ps) :
    d0.Keeps (d.setRecv r x) ws ps := h.withSys _ hp

theorem Dev.Keeps.setLink (h : d0.Keeps d ws ps) (p : Nat) (x : Link) (hp : Part.sys ∈ ps) :
    d0.Keeps (d.setLink p x) ws ps := h.withSys _ hp

theorem Dev.Keeps.setLanes (h : d0.Keeps d ws ps) (p : Nat) (x : Train) (hp : Part.sys ∈ ps) :
    d0.Keeps (d.setLanes p x) ws ps := h.withSys _ hp

theorem Dev.Keeps.enqueue (h : d0.Keeps d ws ps) (p : Nat) (o : OutEnv) (hp : Part.sys ∈ ps) :
    d0.Keeps (d.enqueue p o) ws ps := h.withSys _ hp

theorem Dev.Keeps.deliverEnv (h : d0.Keeps d ws ps) (p : Nat) (e : Env) (hp : Part.sys ∈ ps) :
    d0.Keeps (d.deliverEnv p e) ws ps := h.withSys _ hp

theorem Dev.Keeps.setHead (h : d0.Keeps d ws ps) (n : Nat) (x : HeadSt) (hp : Part.comp ∈ ps) :
    d0.Keeps (d.setHead n x) ws ps := h.withComp _ hp

theorem Dev.Keeps.setPort (h : d0.Keeps d ws ps) (p : Nat) (x : PortSt) (hp : Part.comp ∈ ps) :
    d0.Keeps (d.setPort p x) ws ps := h.withComp _ hp

theorem Dev.Keeps.setEnc (h : d0.Keeps d ws ps) (c : Nat) (x : EncCtx) (hp : Part.enc ∈ ps) :
    d0.Keeps (d.setEnc c x) ws ps := h.withEnc _ hp

theorem Dev.Keeps.setTouch (h : d0.Keeps d ws ps) (p : Nat) (x : TouchSt) (hp : Part.io ∈ ps) :
    d0.Keeps (d.setTouch p x) ws ps := h.withIo _ hp

theorem Dev.Keeps.setCycle (h : d0.Keeps d ws ps) (c : Nat) (x : Cycle) (hp : Part.io ∈ ps) :
    d0.Keeps (d.setCycle c x) ws ps := h.withIo _ hp

theorem Dev.Keeps.setRefMon (h : d0.Keeps d ws ps) (r : Nat) (x : RefMon) (hp : Part.ref ∈ ps) :
    d0.Keeps (d.setRefMon r x) ws ps := h.withRef _ hp

theorem Dev.Keeps.setLaunches (h : d0.Keeps d ws ps) (p : Nat) (x : List Launch) (hp : Part.time ∈ ps) :
    d0.Keeps (d.setLaunches p x) ws ps := h.withTime _ hp

theorem Dev.Keeps.updSend (h : d0.Keeps d ws ps) (n : Nat) (f : PicSend → Option PicSend) (hp : Part.sys ∈ ps) :
    d0.Keeps (d.updSend n f) ws ps := h.withSys _ hp

theorem Dev.Keeps.setTaster (h : d0.Keeps d ws ps) (k : Nat) (v : TasterSt) (hp : Part.comp ∈ ps) :
    d0.Keeps (d.setTaster k v) ws ps := h.withComp _ hp

theorem Dev.Keeps.setMembers (h : d0.Keeps d ws ps) (p : Nat) (m : List Membership) (hp : Part.net ∈ ps) :
    d0.Keeps (d.setMembers p m) ws ps := h.withNet _ hp

theorem Dev.Keeps.setLayerSt (h : d0.Keeps d ws ps) (l : Nat) (v : LayerSt) (hp : Part.lay ∈ ps) :
    d0.Keeps (d.setLayerSt l v) ws ps := h.withLay _ hp

theorem Dev.Keeps.updCommit (h : d0.Keeps d ws ps) (q n : Nat) (f : Commit → Commit) (hp : Part.lay ∈ ps) :
    d0.Keeps (d.updCommit q n f) ws ps := h.withLay _ hp

theorem Dev.Keeps.send (h : d0.Keeps d ws ps) (m : Nat) (x : PaentMsg) (hp : Part.sys ∈ ps) :
    d0.Keeps (d.send m x) ws ps := h.withSys _ hp

theorem Dev.Keeps.setTb (h : d0.Keeps d ws ps) (n : Nat) (x : Anchor) (hp : Part.time ∈ ps) :
    d0.Keeps (d.setTb n x) ws ps := by
  unfold Dev.setTb
  exact .ite (fun _ => h.withTime _ hp) (fun _ => h.withTime _ hp)

theorem Dev.Keeps.setPtp (h : d0.Keeps d ws ps) (n : Nat) (x : PtpDomain) (hp : Part.time ∈ ps) :
    d0.Keeps (d.setPtp n x) ws ps := by
  unfold Dev.setPtp
  exact .ite (fun _ => h.withTime _ hp) (fun _ => h.withTime _ hp)

theorem Dev.Keeps.setFeed (h : d0.Keeps d ws ps) (n : Nat) (x : Feed) (hp : Part.pwr ∈ ps) :
    d0.Keeps (d.setFeed n x) ws ps := by
  unfold Dev.setFeed
  exact .ite (fun _ => h.withPwr _ hp) (fun _ => h.withPwr _ hp)

theorem Dev.Keeps.mirror (h : d0.Keeps d ws ps) (x : MirrorItem) (hp : Part.pair ∈ ps) :
    d0.Keeps (d.mirror x) ws ps := by
  unfold Dev.mirror
  exact .ite (fun _ => h.withPair _ hp) (fun _ => h)

theorem Dev.Keeps.ringPut (h : d0.Keeps d ws ps) (q : Nat) (e : List Byte) (n : Bool) (hp : Part.host ∈ ps) :
    d0.Keeps (d.ringPut q e n) ws ps := by
  unfold Dev.ringPut
  exact .ite (fun _ => ((h.post _ hp).setQueue _ _ hp).post _ hp) (fun _ => (h.post _ hp).setQueue _ _ hp)

theorem Dev.Keeps.notify (h : d0.Keeps d ws ps) (e : List Byte) (hp : Part.host ∈ ps) :
    d0.Keeps (d.notify e) ws ps := by
  unfold Dev.notify
  exact .ite (fun _ => h.ringPut _ _ _ hp) (fun _ => h)

theorem Dev.Keeps.hostPut (h : d0.Keeps d ws ps) (a : Nat) (bs : List Byte) (p : Bool) (hp : Part.host ∈ ps) :
    d0.Keeps (d.hostPut a bs p) ws ps := by
  unfold Dev.hostPut
  exact .ite (fun _ => h) (fun _ => h.post _ hp)

theorem Dev.Keeps.keepParams (h : d0.Keeps d ws ps) (c : Cmd) (o : Outcome) (hp : Part.pair ∈ ps) :
    d0.Keeps (d.keepParams c o) ws ps := by
  unfold Dev.keepParams
  exact .ite (fun _ => h) fun _ => .ite (fun _ => h.setPair _ hp) fun _ => .ite (fun _ => h.setPair _ hp) fun _ => h

/-! ### The recorder and errors -/

theorem Dev.Keeps.storeEntry (h : d0.Keeps d ws ps) (kind : Kind) (ev : Ev) (agent p0 p1 p2 : Nat) (hw : ∀ x ∈ recOffs, ws x)
    (hp : Part.recd ∈ ps) : d0.Keeps (d.storeEntry kind ev agent p0 p1 p2) ws ps := by
  have h1 : ws (R.REC_SEQ.off 0 0) := hw _ (by simp [recOffs])
  have h2 : ws (R.REC_STATUS.off 0 0) := hw _ (by simp [recOffs])
  unfold Dev.storeEntry
  refine .ite (fun _ => ?_) fun _ => .ite (fun _ => ?_) fun _ => .ite (fun _ => ?_) fun _ => ?_
  · exact (h.withRecd _ hp).setReg _ _ _ _ h1
  · exact ((((h.withRecd _ hp).setReg _ _ _ _ h1).withRecd _ hp).setReg _ _ _ _ h1).put _ _ _ _ h2
  · exact (((h.withRecd _ hp).setReg _ _ _ _ h1).withRecd _ hp).put _ _ _ _ h2
  · exact (((h.withRecd _ hp).setReg _ _ _ _ h1).withRecd _ hp).put _ _ _ _ h2

theorem Dev.Keeps.record (h : d0.Keeps d ws ps) (ev : Ev) (kind : Kind) (agent p0 p1 p2 : Nat) (hw : ∀ x ∈ recOffs, ws x)
    (hp : Part.recd ∈ ps) : d0.Keeps (d.record ev kind agent p0 p1 p2) ws ps := by
  unfold Dev.record
  refine .ite (fun _ => h.storeEntry _ _ _ _ _ _ hw hp) fun _ => .ite (fun _ => ?_) fun _ => h.withRecd _ hp
  exact Dev.Keeps.storeEntry (.ite (fun _ => h.withRecd _ hp) fun _ => (h.withRecd _ hp).storeEntry _ _ _ _ _ _ hw hp)
    _ _ _ _ _ _ hw hp

theorem Dev.Keeps.info (h : d0.Keeps d ws ps) (ev : Ev) (agent p0 p1 p2 : Nat) (hw : ∀ x ∈ recOffs, ws x) (hp : Part.recd ∈ ps) :
    d0.Keeps (d.info ev agent p0 p1 p2) ws ps := h.record _ _ _ _ _ _ hw hp

theorem Dev.Keeps.errorNotify (h : d0.Keeps d ws ps) (ok : Bool) (kind : Kind) (ev : Ev) (agent p0 : Nat)
    (he : Part.err ∈ ps) (hh : Part.host ∈ ps) : d0.Keeps (d.errorNotify ok kind ev agent p0) ws ps := by
  unfold Dev.errorNotify
  exact .ite (fun _ => ((h.withErr _ he).withErr _ he).notify _ hh) fun _ => h.withErr _ he

theorem Dev.Keeps.corrected (h : d0.Keeps d ws ps) (ev : Ev) (agent p0 p1 : Nat) (hw : ∀ x ∈ correctedOffs, ws x)
    (hp : Part.recd ∈ ps) : d0.Keeps (d.corrected ev agent p0 p1) ws ps :=
  (h.bump _ _ _ _ (hw _ (by simp [correctedOffs, R.ERR_CORRECTED_COUNT]))).record _ _ _ _ _ _
    (fun x hx => hw _ (List.mem_cons_of_mem _ hx)) hp

theorem Dev.Keeps.contained (h : d0.Keeps d ws ps) (ev : Ev) (agent p0 p1 : Nat) (hw : ∀ x ∈ containedOffs, ws x)
    (hp : Part.recd ∈ ps) (he : Part.err ∈ ps) (hh : Part.host ∈ ps) : d0.Keeps (d.contained ev agent p0 p1) ws ps :=
  ((h.bump _ _ _ _ (hw _ (by simp [containedOffs, R.ERR_CONTAINED_COUNT]))).record _ _ _ _ _ _
    (fun x hx => hw _ (List.mem_cons_of_mem _ hx)) hp).errorNotify _ _ _ _ _ he hh

theorem Dev.Keeps.degradedEvent (h : d0.Keeps d ws ps) (ev : Ev) (agent p0 p1 : Nat) (hw : ∀ x ∈ degradedOffs, ws x)
    (hp : Part.recd ∈ ps) (he : Part.err ∈ ps) (hh : Part.host ∈ ps) : d0.Keeps (d.degradedEvent ev agent p0 p1) ws ps :=
  (((h.bump _ _ _ _ (hw _ (by simp [degradedOffs, R.ERR_DEGRADED_COUNT]))).record _ _ _ _ _ _
    (fun x hx => hw _ (List.mem_cons_of_mem _ (List.mem_cons_of_mem _ hx))) hp).errorNotify _ _ _ _ _ he hh).put _ _ _ _
    (hw _ (by simp [degradedOffs, R.ERR_STATUS_DEGRADED]))

theorem Dev.Keeps.degraded (h : d0.Keeps d ws ps) (ev : Ev) (agent p0 p1 : Nat) (hw : ∀ x ∈ degradedOffs, ws x)
    (hp : Part.recd ∈ ps) (he : Part.err ∈ ps) (hh : Part.host ∈ ps) : d0.Keeps (d.degraded ev agent p0 p1) ws ps :=
  (h.withErr _ he).degradedEvent _ _ _ _ hw hp he hh

theorem Dev.Keeps.planRelease (h : d0.Keeps d ws ps) (hp : Part.pair ∈ ps) : d0.Keeps d.planRelease ws ps :=
  (h.setPair _ hp).mirror _ hp

theorem Dev.Keeps.fatal (h : d0.Keeps d ws ps) (cause : Nat) (hw : ∀ x ∈ fatalOffs, ws x) (hp : Part.recd ∈ ps)
    (he : Part.err ∈ ps) (hh : Part.host ∈ ps) (hq : Part.pair ∈ ps) : d0.Keeps (d.fatal cause) ws ps := by
  have h1 : ws (R.ERR_STATUS.off 0 0) := hw _ (by simp [fatalOffs])
  have h2 : ws (R.PAIR_STATUS.off 0 0) := hw _ (by simp [fatalOffs])
  have h3 : ∀ x ∈ recOffs, ws x := fun x hx => hw _ (List.mem_cons_of_mem _ (List.mem_cons_of_mem _ hx))
  have k : ∀ e : Dev, d0.Keeps e ws ps → d0.Keeps ((e.put R.ERR_STATUS_FATAL 1).put R.PAIR_STATUS_STATE prFailed) ws ps :=
    fun e he => (he.put _ _ _ _ h1).put _ _ _ _ h2
  unfold Dev.fatal
  have a : d0.Keeps (if (!d.on R.ERR_STATUS_FATAL && d.on R.PAIR_STATUS_CLAIM) = true then d.planRelease else d) ws ps :=
    .ite (fun _ => h.planRelease hq) fun _ => h
  refine .ite (fun _ => Dev.Keeps.withRecd ?_ _ hp) fun _ => ?_ <;>
    exact Dev.Keeps.errorNotify (Dev.Keeps.record (.ite (fun _ => (k _ (a.setPair _ hq)).put _ _ _ _ h1)
      fun _ => k _ (a.setPair _ hq)) _ _ _ _ _ _ h3 hp) _ _ _ _ _ he hh

/-! ### Contexts -/

theorem Dev.Keeps.setDctx (h : d0.Keeps d ws ps) (c : Nat) (x : Dctx) (hw : ∀ y ∈ dctxOffs c, ws y) (hp : Part.dec ∈ ps) :
    d0.Keeps (d.setDctx c x) ws ps := by
  have h1 : ws (R.DCTX_STATUS.off c 0) := hw _ (by simp [dctxOffs])
  have h2 : ws (R.DCTX_OUT.off c 0) := hw _ (by simp [dctxOffs])
  unfold Dev.setDctx
  refine Dev.Keeps.put ?_ _ _ _ _ h1
  have k := ((h.withDec { d.dec with ctxs := tabSet d.dec.ctxs Dctx.init c x } hp).setReg R.DCTX_REF_MASK
    (slotMask x.slots (·.isRef)) c 0 (hw _ (by simp [dctxOffs]))).setReg R.DCTX_LEASE_MASK
    (slotMask x.slots fun s => s.lease != 0) c 0 (hw _ (by simp [dctxOffs]))
  cases x.outSlot with
  | none => exact ((k.setReg _ _ _ _ h2).put _ _ _ _ h1).put _ _ _ _ h1
  | some e => exact ((k.setReg _ _ _ _ h2).put _ _ _ _ h1).put _ _ _ _ h1

theorem Dev.Keeps.setCtx (h : d0.Keeps d ws ps) (c : Nat) (x : Ctx) (hw : ws (R.CTX_STATUS.off c 0)) (hp : Part.net ∈ ps) :
    d0.Keeps (d.setCtx c x) ws ps :=
  (h.withNet _ hp).put _ _ _ _ hw

theorem Dev.Keeps.endFrame (h : d0.Keeps d ws ps) (c : Nat) (f : OpenFrame) (hw : ws (R.CTX_STATUS.off c 0))
    (hd : ∀ y ∈ dctxOffs c, ws y) (hp : Part.net ∈ ps) (hq : Part.dec ∈ ps) : d0.Keeps (d.endFrame c f) ws ps := by
  unfold Dev.endFrame
  cases f.slot with
  | none => exact h.setCtx _ _ hw hp
  | some i => exact (h.setCtx _ _ hw hp).setDctx _ _ hd hq

theorem Dev.Keeps.discardFrames (h : d0.Keeps d ws ps) (c : Nat) (hw : ws (R.CTX_STATUS.off c 0))
    (hd : ∀ y ∈ dctxOffs c, ws y) (hp : Part.net ∈ ps) (hq : Part.dec ∈ ps) : d0.Keeps (d.discardFrames c) ws ps :=
  .foldl _ _ (h.setCtx _ _ hw hp) fun _ _ k => k.endFrame _ _ hw hd hp hq

theorem Dev.Keeps.ingestResync (h : d0.Keeps d ws ps) (c : Nat) (hw : ws (R.CTX_STATUS.off c 0))
    (hd : ∀ y ∈ dctxOffs c, ws y) (hp : Part.net ∈ ps) (hq : Part.dec ∈ ps) : d0.Keeps (d.ingestResync c) ws ps := by
  unfold Dev.ingestResync
  exact .ite (fun _ => (h.discardFrames _ hw hd hp hq).put _ _ _ _ hw) fun _ => h

theorem Dev.Keeps.toResync (h : d0.Keeps d ws ps) (c : Nat) (hw : ws (R.CTX_STATUS.off c 0)) (hd : ∀ y ∈ dctxOffs c, ws y)
    (hr : ∀ y ∈ recOffs, ws y) (hp : Part.net ∈ ps) (hq : Part.dec ∈ ps) (hc : Part.recd ∈ ps) :
    d0.Keeps (d.toResync c) ws ps := by
  unfold Dev.toResync
  exact .ite (fun _ => ((h.discardFrames _ hw hd hp hq).put _ _ _ _ hw).info _ _ _ _ _ hr hc) fun _ => h

theorem Dev.Keeps.engineStop (h : d0.Keeps d ws ps) (e : Nat) (hw : ws (R.DEC_ENG_STATUS.off e 0)) (hp : Part.dec ∈ ps) :
    d0.Keeps (d.engineStop e) ws ps := by
  unfold Dev.engineStop
  cases tabGet? d.dec.engines e with
  | none => exact h
  | some g => exact (h.withDec _ hp).put _ _ _ _ hw

/-- A context reset of a context that no engine works for. -/
theorem Dev.Keeps.ctxReset_idle (h : d0.Keeps d ws ps) (c : Nat) (b : Bool) (agent : Nat) (hn : d.engineOf c = none)
    (hw : ∀ y ∈ resetOffs c, ws y) (hd : Part.dec ∈ ps) (hp : Part.net ∈ ps) (hr : Part.recd ∈ ps) (he : Part.err ∈ ps)
    (hh : Part.host ∈ ps) : d0.Keeps (d.ctxReset c b agent) ws ps := by
  have h1 : ws (R.CTX_STATUS.off c 0) := hw _ (by simp [resetOffs])
  have h2 : ∀ y ∈ dctxOffs c, ws y := fun y hy => hw _ (by simp [resetOffs, hy])
  have h3 : ∀ y ∈ containedOffs, ws y := fun y hy => hw _ (by simp [resetOffs, hy])
  unfold Dev.ctxReset Dev.abortEngine
  rw [hn]
  exact ((((h.setDctx _ _ h2 hd).put _ _ _ _ (h2 _ (by simp [dctxOffs, R.DCTX_STATUS_STATE]))).bump _ _ _ _
    (hw _ (by simp [resetOffs, R.RESETS_COUNT]))).contained _ _ _ _ h3 hr he hh).ingestResync _ h1 h2 hp hd

theorem Dev.Keeps.queueErr (h : d0.Keeps d ws ps) (q code : Nat) (hs : ws (R.Q_STATUS.off q 0)) : d0.Keeps (d.queueErr q code) ws ps := by
  unfold Dev.queueErr
  exact .ite (fun _ => (h.put _ _ _ _ hs).put _ _ _ _ hs) fun _ => h

/-! ### Completions -/

theorem Dev.Keeps.fenceTo (h : d0.Keeps d ws ps) (f v : Nat) (hw : ∀ x ∈ recOffs, ws x) (hf : ws (R.FENCE_VAL.off f 0))
    (hp : Part.recd ∈ ps) : d0.Keeps (d.fenceTo f v) ws ps := by
  unfold Dev.fenceTo
  exact .ite (fun _ => h.setReg _ _ _ _ hf) fun _ => .ite (fun _ => h) fun _ => h.info _ _ _ _ _ hw hp

theorem Dev.follows_of_alone (h : d.Alone) : d.follows = false := by
  simp [Dev.follows, h.1, h.2]

theorem Dev.mirror_eq (d : Dev) (y : MirrorItem) : ∃ x, d.mirror y = d.setPair x := by
  unfold Dev.mirror
  dsimp only
  split
  · exact ⟨_, rfl⟩
  · exact ⟨d.pair, rfl⟩

theorem Dev.keepParams_eq (d : Dev) (c : Cmd) (o : Outcome) : ∃ x, d.keepParams c o = d.setPair x := by
  unfold Dev.keepParams
  dsimp only
  split
  · exact ⟨d.pair, rfl⟩
  · split
    · exact ⟨_, rfl⟩
    · split
      · exact ⟨_, rfl⟩
      · exact ⟨d.pair, rfl⟩

/-- What the completion of a command leaves in its queue, whatever pair records go with it. -/
theorem Dev.finish_eq (d : Dev) (q seq status reason result detail : Nat) (c : Cmd) (hq : q < 32) (ha : d.Alone)
    (hc : d.cmd? q seq = some c) :
    ∃ x w, d.finish q seq status reason result detail = (d.updCmd q seq fun c => { c with
      st := .done, out := some ⟨status, reason, detail, d.moduleId, result % 2 ^ 64⟩, ctime := d.wt48
      awaiting := w }).setPair x := by
  obtain ⟨x1, h1⟩ := d.keepParams_eq c ⟨status, reason, detail, d.moduleId, result % 2 ^ 64⟩
  unfold Dev.finish Dev.complete
  rw [if_pos hq, hc]
  dsimp only
  rw [h1]
  generalize hw : (d.on R.PAIR_STATUS_IN_SYNC && d.pst == prActive && !d.pair.confirmed.contains (q, seq)) = w
  generalize hu : ((d.setPair x1).updCmd q seq fun c => { c with
      st := .done, out := some ⟨status, reason, detail, d.moduleId, result % 2 ^ 64⟩, ctime := d.wt48
      awaiting := w }) = u
  obtain ⟨x2, h2⟩ := u.mirror_eq (.outcome q seq ⟨status, reason, detail, d.moduleId, result % 2 ^ 64⟩ u.wt48)
  rw [h2]
  have hf : ∀ z, ((u.setPair x2).setPair z).follows = d.follows := by
    intro z; subst hu; rfl
  rw [hf, Dev.follows_of_alone ha]
  subst hu
  exact ⟨_, w, rfl⟩

theorem Dev.finish_none (d : Dev) (q seq status reason result detail : Nat) (hq : q < 32) (hc : d.cmd? q seq = none) :
    d.finish q seq status reason result detail = d := by
  unfold Dev.finish Dev.complete
  rw [if_pos hq, hc]

theorem Dev.Keeps.finish (h : d0.Keeps d ws ps) (q seq status reason result detail : Nat) (hq : q < 32) (ha : d.Alone)
    (hh : Part.host ∈ ps) (hp : Part.pair ∈ ps) : d0.Keeps (d.finish q seq status reason result detail) ws ps := by
  cases hc : d.cmd? q seq with
  | none => rw [d.finish_none _ _ _ _ _ _ hq hc]; exact h
  | some c =>
    obtain ⟨x, w, e⟩ := d.finish_eq q seq status reason result detail c hq ha hc
    rw [e]
    exact (h.updCmd _ _ _ hh).setPair _ hp

theorem find?_updFirst (p : Cmd → Bool) (f : Cmd → Cmd) (s : Nat) (l : List Cmd) (c : Cmd)
    (hc : l.find? (fun x => x.seq == s) = some c) (hp : p c = true) (hps : ∀ x, p x = true → x.seq = s)
    (hf : ∀ x, (f x).seq = x.seq) : (updFirst p f l).find? (fun x => x.seq == s) = some (f c) := by
  induction l with
  | nil => simp at hc
  | cons x r ih =>
    by_cases hx : x.seq = s
    · have : x = c := by simpa [hx] using hc
      subst this
      simp [updFirst, hp, hf, hx]
    · have hn : p x = false := by
        cases e : p x with
        | false => rfl
        | true => exact absurd (hps x e) hx
      have hc' : r.find? (fun x => x.seq == s) = some c := by simpa [hx] using hc
      simp [updFirst, hn, hx, ih hc']

theorem Dev.Running.cmd? {q seq op : Nat} {c : Cmd} (h : d.Running q seq op c) : d.cmd? q seq = some c := by
  have hf := h.found
  have key : ∀ l : List Cmd, l.find? (fun x => x.seq == seq) = some c →
      l.find? (fun c => c.seq == seq && c.st != .done) = some c := by
    intro l
    induction l with
    | nil => simp
    | cons x r ih =>
      intro hl
      by_cases hx : x.seq = seq
      · have : x = c := by simpa [hx] using hl
        subst this
        simp [hx, h.started]
      · have : r.find? (fun x => x.seq == seq) = some c := by simpa [hx] using hl
        simp [hx, ih this]
  exact key _ hf

/-- A running command that is completed answers what it is completed with. -/
theorem Dev.finish_answer {q seq op : Nat} {c : Cmd} (hr : d.Running q seq op c) (ha : d.Alone)
    (status reason result detail : Nat) :
    (d.finish q seq status reason result detail).answer q seq =
      some ⟨status, reason, detail, d.moduleId, result % 2 ^ 64⟩ := by
  obtain ⟨x, w, e⟩ := d.finish_eq q seq status reason result detail c (by have := hr.queue; omega) ha hr.cmd?
  rw [e, Dev.answer, Dev.setPair_queue, Dev.updCmd, Dev.setCmds]
  have hq : ∀ (e : Dev) (v : Queue), (e.setQueue q v).queue q = v := by
    intro e v; simp [Dev.setQueue, Dev.queue]
  rw [hq]
  dsimp only
  rw [find?_updFirst _ _ seq _ c hr.found (by
      have hs : c.seq = seq := by simpa using List.find?_some hr.found
      simp [hs, hr.started]) (by simp +contextual) (by simp)]
  simp

/-- A command's own row runs its effect on it. -/
theorem Dev.Running.onCmd {q seq op : Nat} {c : Cmd} (h : d.Running q seq op c) (f : Cmd → Dev → Dev) :
    d.onCmd q seq op f = f c d := by
  simp [Dev.onCmd, h.cmd?, h.started, h.opcode]

theorem Dev.Running.onCmdMem {q seq op : Nat} {c : Cmd} (h : d.Running q seq op c) (m : Mem)
    (f : Cmd → Dev → Mem → Dev × Mem) : Machine.onCmdMem d m q seq op f = f c d m := by
  simp [Machine.onCmdMem, h.cmd?, h.started, h.opcode]

theorem Dev.withTail_of (d : Dev) (q seq : Nat) (c : Cmd) (n : Nat) (f : Dev → Dev) (h : c.Tail n) :
    d.withTail q seq c n f = f d := by
  unfold Dev.withTail
  rw [show firstNonZero c.param n = none from h]

/-- What stays so when neither the queues nor the pair state move. -/
theorem Dev.Running.of_host {e : Dev} {q seq op : Nat} {c : Cmd} (h : d.Running q seq op c) (hh : e.host = d.host) :
    e.Running q seq op c := ⟨h.queue, by simpa [Dev.queue, hh] using h.found, h.started, h.opcode⟩

theorem Dev.Keeps.reg {e : Dev} (k : d.Keeps e ws ps) (r : RegDesc) (i j : Nat) (hw : ¬ws (r.off i j)) :
    e.reg r i j = d.reg r i j := by
  simp only [Dev.reg, tabGetD]
  rw [k.regs _ hw]

theorem Dev.Keeps.get {e : Dev} (k : d.Keeps e ws ps) (f : FldDesc) (i j : Nat) (hw : ¬ws (f.reg.off i j)) :
    e.get f i j = d.get f i j := by
  simp only [Dev.get, k.reg _ _ _ hw]

theorem Dev.Alone.of_keeps {e : Dev} (h : d.Alone) (k : d.Keeps e ws ps) (hw : ¬ws (R.PAIR_STATUS.off 0 0)) : e.Alone := by
  have : e.pst = d.pst := k.get R.PAIR_STATUS_STATE 0 0 hw
  exact ⟨this ▸ h.1, this ▸ h.2⟩

end Sys2Proof.Machine
end

