-- ==== Sys2Proof/Laws/Memory.lean ====
section
/-! SUPPORT. Laws of DRAM: what is read after a write, and that every memory operation keeps the canonical form. -/

namespace Sys2Proof.Machine

@[simp] theorem Mem.byte_setByte (m : Mem) (a : Nat) (b : Byte) : (m.setByte a b).byte a = b := by
  simp [Mem.byte, Mem.setByte]

theorem Mem.byte_setByte_ne (m : Mem) (a x : Nat) (b : Byte) (h : x ≠ a) : (m.setByte a b).byte x = m.byte x := by
  simp [Mem.byte, Mem.setByte, tabGetD_set_ne _ _ _ _ _ _ h]

/-- A byte outside what is written reads as before. -/
theorem Mem.byte_setBytes_out (m : Mem) (a x : Nat) (bs : List Byte) (h : x < a ∨ a + bs.length ≤ x) :
    (m.setBytes a bs).byte x = m.byte x := by
  induction bs generalizing m a with
  | nil => rfl
  | cons b r ih =>
    simp only [List.length_cons] at h
    rw [Mem.setBytes, ih _ _ (by omega), Mem.byte_setByte_ne _ _ _ _ (by omega)]

/-- A byte inside what is written reads as written. -/
theorem Mem.byte_setBytes_in (m : Mem) (a k : Nat) (bs : List Byte) (h : k < bs.length) :
    (m.setBytes a bs).byte (a + k) = bs[k] := by
  induction bs generalizing m a k with
  | nil => simp at h
  | cons b r ih =>
    cases k with
    | zero => rw [Mem.setBytes, Mem.byte_setBytes_out _ _ _ _ (by omega)]; simp
    | succ k =>
      rw [Mem.setBytes, show a + (k + 1) = a + 1 + k by omega, ih _ _ _ (by simpa using h)]
      simp

/-! ### The canonical form -/

theorem Mem.wf_init : Mem.init.wf = true := rfl

theorem Mem.wf_of_bytes {m n : Mem} (h : m.wf = true) (e : n.bytes = m.bytes) : n.wf = true := by
  simpa [Mem.wf, e] using h

theorem Mem.wf_setByte {m : Mem} (a : Nat) (b : Byte) (h : m.wf = true) : (m.setByte a b).wf = true :=
  tabWf_set m.bytes 0 a b h

theorem Mem.wf_setBytes {m : Mem} (a : Nat) (bs : List Byte) (h : m.wf = true) : (m.setBytes a bs).wf = true := by
  induction bs generalizing m a with
  | nil => exact h
  | cons b r ih => exact ih (a + 1) (Mem.wf_setByte a b h)

theorem Mem.wf_fillLine {m : Mem} (line : Nat) (h : m.wf = true) : (m.fillLine line).wf = true := by
  refine Mem.wf_of_bytes h ?_
  unfold Mem.fillLine
  dsimp only
  split <;> rfl

theorem Mem.wf_toTarget {m : Mem} (d : Dev) (line : Nat) (h : m.wf = true) : (m.toTarget d line).wf = true := by
  refine Mem.wf_of_bytes h ?_
  unfold Mem.toTarget
  split <;> rfl

theorem Mem.wf_setPoison {m : Mem} (line : Nat) (h : m.wf = true) : (m.setPoison line).wf = true :=
  Mem.wf_of_bytes h rfl

theorem Mem.wf_dropTarget {m : Mem} (ch : Nat) (h : m.wf = true) : (m.dropTarget ch).wf = true :=
  Mem.wf_of_bytes h rfl

theorem wf_writeLine (d : Dev) (a : Nat) (bs : List Byte) {m : Mem} (line : Nat) (h : m.wf = true) :
    (writeLine d a bs m line).wf = true := by
  unfold writeLine
  dsimp only
  split
  · exact h
  · split
    · exact Mem.wf_setBytes _ _ (Mem.wf_toTarget _ _ (Mem.wf_fillLine _ h))
    · split
      · exact h
      · exact Mem.wf_setBytes _ _ (Mem.wf_toTarget _ _ h)

theorem wf_foldl {α : Type} (f : Mem → α → Mem) (l : List α) {m : Mem} (h : m.wf = true)
    (hf : ∀ (m : Mem) x, m.wf = true → (f m x).wf = true) : (l.foldl f m).wf = true := by
  induction l generalizing m with
  | nil => exact h
  | cons x r ih => exact ih (hf m x h)

theorem wf_dramWrite (d : Dev) {m : Mem} (a : Nat) (bs : List Byte) (h : m.wf = true) : (dramWrite d m a bs).wf = true :=
  wf_foldl _ _ h fun _ line hm => wf_writeLine d a bs line hm

theorem wf_checkedWrite (d : Dev) {m : Mem} (k master pa : Nat) (bs : List Byte) (h : m.wf = true) :
    (checkedWrite d m k master pa bs).2.1.wf = true :=
  wf_foldl _ _ h fun _ r hm => wf_dramWrite d (pa + r.1) r.2 hm

/-- The dump area is written by whole lines. -/
theorem wf_dumpLine (d : Dev) (ring : List Byte) (ch : Nat) {m : Mem} (i : Nat) (h : m.wf = true) :
    (dumpLine d ring ch m i).wf = true := by
  unfold dumpLine
  exact Mem.wf_setBytes _ _ (Mem.wf_fillLine _ h)

theorem wf_dumpLines (d : Dev) (ring : List Byte) (is : List Nat) {m : Mem} (h : m.wf = true) :
    (dumpLines d ring is m).wf = true := by
  unfold dumpLines
  split
  · exact h
  · exact wf_foldl _ _ h fun _ i hm => wf_dumpLine d ring _ i hm

theorem wf_dumpToDram (d : Dev) (ring : List Byte) {m : Mem} (h : m.wf = true) : (dumpToDram d ring m).wf = true :=
  wf_dumpLines d ring _ h

/-! ### Ranks and migration -/

theorem wf_startMigration (d : Dev) {m : Mem} (ch : Nat) (h : m.wf = true) : (startMigration d m ch).2.wf = true := by
  unfold startMigration
  split
  · exact Mem.wf_dropTarget ch h
  · exact h

theorem wf_nextMigration (d : Dev) {m : Mem} (h : m.wf = true) : (nextMigration d m).2.wf = true := by
  unfold nextMigration
  dsimp only
  split
  · exact h
  · exact wf_startMigration _ _ h

theorem wf_failChannel (d : Dev) {m : Mem} (ch : Nat) (h : m.wf = true) : (failChannel d m ch).2.wf = true := by
  unfold failChannel
  split
  · exact wf_nextMigration _ (Mem.wf_dropTarget ch h)
  · exact h

theorem wf_rankFault (d : Dev) {m : Mem} (ch rank cause : Nat) (h : m.wf = true) :
    (rankFault d m ch rank cause).2.wf = true := by
  unfold rankFault
  dsimp only
  split
  · exact h
  · split
    · exact wf_failChannel _ _ h
    · split
      · split
        · exact wf_failChannel _ _ h
        · exact h
      · split
        · exact h
        · split
          · exact wf_failChannel _ _ h
          · split
            · exact wf_startMigration _ _ h
            · exact h

theorem wf_eccRead (line rank : Nat) (r : EccRead) (d : Dev) {m : Mem} (h : m.wf = true) :
    (eccRead line rank r d m).2.wf = true := by
  unfold eccRead
  dsimp only
  split
  · exact h
  · split
    · exact h
    · split
      · exact wf_rankFault _ _ _ _ h
      · exact h
    · refine wf_rankFault _ _ _ _ ?_
      split
      · exact Mem.wf_of_bytes h rfl
      · exact h

end Sys2Proof.Machine
end

