-- ==== Sys2Proof/Laws/PerInstr.lean ====
section
/-! SUPPORT. Per-command lemmas: the family `Timed` says that a command's instant is its first operand, and that
putting a command at the front of the queue leaves it there. -/

namespace Sys2Proof.Laws

/-- `Timed.Statement i`: queueing `i` in front of the empty queue of the reset state, then taking the instant of the
front command, gives the instant of `i`. -/
def Timed.Statement (i : Instr) : Prop :=
  ((Sys2Proof.Machine.State.reset.queueFront i).pending.map Instr.instant) = [i.instant]

theorem Timed.domainClockLost (t : Nat) (dom inst : Nat) : Timed.Statement (.domainClockLost t dom inst) := rfl
theorem Timed.domainClockPresent (t : Nat) (dom inst : Nat) : Timed.Statement (.domainClockPresent t dom inst) := rfl
theorem Timed.watchdogExpiry (t : Nat) (core : Nat) : Timed.Statement (.watchdogExpiry t core) := rfl
theorem Timed.mgmtCoreRestartDone (t : Nat) (core : Nat) : Timed.Statement (.mgmtCoreRestartDone t core) := rfl
theorem Timed.registerWrite (t : Nat) (off size : Nat) (v : Word) : Timed.Statement (.registerWrite t off size v) := rfl
theorem Timed.lowWordLatchRead (t : Nat) (off size : Nat) : Timed.Statement (.lowWordLatchRead t off size) := rfl
theorem Timed.pcieConfigRequest (t : Nat) (r : CfgRequest) : Timed.Statement (.pcieConfigRequest t r) := rfl
theorem Timed.bar2Read (t : Nat) (off len : Nat) : Timed.Statement (.bar2Read t off len) := rfl
theorem Timed.bar2Write (t : Nat) (off : Nat) (bytes : List Byte) : Timed.Statement (.bar2Write t off bytes) := rfl
theorem Timed.bar2OffsetWrite (t : Nat) (v : Word) : Timed.Statement (.bar2OffsetWrite t v) := rfl
theorem Timed.hostReadCompletion (t : Nat) (q : Nat) (seq : Option Nat) (a : HostAnswer) : Timed.Statement (.hostReadCompletion t q seq a) := rfl
theorem Timed.hostReadTimeout (t : Nat) (q : Nat) (seq : Option Nat) : Timed.Statement (.hostReadTimeout t q seq) := rfl
theorem Timed.hostWriteTimeout (t : Nat) (w : HostWrite) : Timed.Statement (.hostWriteTimeout t w) := rfl
theorem Timed.queueEnable (t : Nat) (q : Nat) (v : Word) : Timed.Statement (.queueEnable t q v) := rfl
theorem Timed.queueDisable (t : Nat) (q : Nat) (v : Word) : Timed.Statement (.queueDisable t q v) := rfl
theorem Timed.sqTailDoorbell (t : Nat) (q : Nat) (v : Word) : Timed.Statement (.sqTailDoorbell t q v) := rfl
theorem Timed.cqHeadDoorbell (t : Nat) (q : Nat) (v : Word) : Timed.Statement (.cqHeadDoorbell t q v) := rfl
theorem Timed.commandEntryFetched (t : Nat) (q : Nat) (entry : List Byte) : Timed.Statement (.commandEntryFetched t q entry) := rfl
theorem Timed.commandStart (t : Nat) (q seq : Nat) : Timed.Statement (.commandStart t q seq) := rfl
theorem Timed.commandDeadline (t : Nat) (q seq : Nat) : Timed.Statement (.commandDeadline t q seq) := rfl
theorem Timed.completionWrite (t : Nat) (q : Nat) : Timed.Statement (.completionWrite t q) := rfl
theorem Timed.fenceWrite (t : Nat) (f : Nat) (v : Word) : Timed.Statement (.fenceWrite t f v) := rfl
theorem Timed.nop (t : Nat) (q seq : Nat) : Timed.Statement (.nop t q seq) := rfl
theorem Timed.sync (t : Nat) (q seq : Nat) : Timed.Statement (.sync t q seq) := rfl
theorem Timed.fenceSignal (t : Nat) (q seq : Nat) : Timed.Statement (.fenceSignal t q seq) := rfl
theorem Timed.dmaCopy (t : Nat) (q seq : Nat) : Timed.Statement (.dmaCopy t q seq) := rfl
theorem Timed.dmaFill (t : Nat) (q seq : Nat) : Timed.Statement (.dmaFill t q seq) := rfl
theorem Timed.regReadBlock (t : Nat) (q seq : Nat) : Timed.Statement (.regReadBlock t q seq) := rfl
theorem Timed.regWriteBatch (t : Nat) (q seq : Nat) : Timed.Statement (.regWriteBatch t q seq) := rfl
theorem Timed.forwardedCommandReceived (t : Nat) (origin oq : Nat) (entry : List Byte) : Timed.Statement (.forwardedCommandReceived t origin oq entry) := rfl
theorem Timed.forwardedOutcome (t : Nat) (q seq : Nat) (o : FwdOutcome) : Timed.Statement (.forwardedOutcome t q seq o) := rfl
theorem Timed.forwardTimeout (t : Nat) (q seq : Nat) : Timed.Statement (.forwardTimeout t q seq) := rfl
theorem Timed.bootStart (t : Nat) (profsel : Nat) (preferred : Bool) : Timed.Statement (.bootStart t profsel preferred) := rfl
theorem Timed.bootFirmwareLoaded (t : Nat) (okA okB : Bool) : Timed.Statement (.bootFirmwareLoaded t okA okB) := rfl
theorem Timed.bootImageValidated (t : Nat) : Timed.Statement (.bootImageValidated t) := rfl
theorem Timed.bootMemoryTrained (t : Nat) (badRanks : List Nat) (repairs : List (Nat × Nat)) : Timed.Statement (.bootMemoryTrained t badRanks repairs) := rfl
theorem Timed.ocxoSteady (t : Nat) : Timed.Statement (.ocxoSteady t) := rfl
theorem Timed.ocxoReady (t : Nat) : Timed.Statement (.ocxoReady t) := rfl
theorem Timed.bootOutputs (t : Nat) : Timed.Statement (.bootOutputs t) := rfl
theorem Timed.imageCheck (t : Nat) (q seq : Nat) : Timed.Statement (.imageCheck t q seq) := rfl
theorem Timed.imageWrite (t : Nat) (q seq : Nat) (flashOk : Bool) : Timed.Statement (.imageWrite t q seq flashOk) := rfl
theorem Timed.slotErase (t : Nat) (q seq : Nat) (flashOk : Bool) : Timed.Statement (.slotErase t q seq flashOk) := rfl
theorem Timed.slotChoose (t : Nat) (q seq : Nat) (flashOk : Bool) : Timed.Statement (.slotChoose t q seq flashOk) := rfl
theorem Timed.profileSwitch (t : Nat) (q seq : Nat) : Timed.Statement (.profileSwitch t q seq) := rfl
theorem Timed.fabricRestartDone (t : Nat) : Timed.Statement (.fabricRestartDone t) := rfl
theorem Timed.lifecycleSeal (t : Nat) (q seq : Nat) : Timed.Statement (.lifecycleSeal t q seq) := rfl
theorem Timed.wtUnsetTimeout (t : Nat) : Timed.Statement (.wtUnsetTimeout t) := rfl
theorem Timed.ptpMessageReceived (t : Nat) (dom port : Nat) (m : PtpMessage) : Timed.Statement (.ptpMessageReceived t dom port m) := rfl
theorem Timed.ptpReceiptTimeout (t : Nat) (dom : Nat) : Timed.Statement (.ptpReceiptTimeout t dom) := rfl
theorem Timed.holdoverTrustExpiry (t : Nat) : Timed.Statement (.holdoverTrustExpiry t) := rfl
theorem Timed.wtFollow (t : Nat) (q seq : Nat) : Timed.Statement (.wtFollow t q seq) := rfl
theorem Timed.ptpPorts (t : Nat) (q seq : Nat) : Timed.Statement (.ptpPorts t q seq) := rfl
theorem Timed.timeSnap (t : Nat) (v : Word) : Timed.Statement (.timeSnap t v) := rfl
theorem Timed.tb3Apply (t : Nat) (v : Word) : Timed.Statement (.tb3Apply t v) := rfl
theorem Timed.tb3RateAdjWrite (t : Nat) (v : Word) : Timed.Statement (.tb3RateAdjWrite t v) := rfl
theorem Timed.ppsCtrlWrite (t : Nat) (v : Word) : Timed.Statement (.ppsCtrlWrite t v) := rfl
theorem Timed.ppsOutRise (t : Nat) : Timed.Statement (.ppsOutRise t) := rfl
theorem Timed.ppsOutFall (t : Nat) : Timed.Statement (.ppsOutFall t) := rfl
theorem Timed.ethFrameReceived (t : Nat) (port size : Nat) (f : EthFrame) : Timed.Statement (.ethFrameReceived t port size f) := rfl
theorem Timed.launchFrameSubmit (t : Nat) (p at48 : Nat) (bytes : List Byte) (gated : Bool) : Timed.Statement (.launchFrameSubmit t p at48 bytes gated) := rfl
theorem Timed.launchTimeReached (t : Nat) (p : Nat) : Timed.Statement (.launchTimeReached t p) := rfl
theorem Timed.trigApply (t : Nat) (u : Nat) (v : Word) : Timed.Statement (.trigApply t u v) := rfl
theorem Timed.triggerEvent (t : Nat) (u : Nat) : Timed.Statement (.triggerEvent t u) := rfl
theorem Timed.triggerPulseEnd (t : Nat) (u : Nat) : Timed.Statement (.triggerPulseEnd t u) := rfl
theorem Timed.captureEdge (t : Nat) (u : Nat) (fall : Bool) : Timed.Statement (.captureEdge t u fall) := rfl
theorem Timed.capTimeLoRead (t : Nat) (u : Nat) : Timed.Statement (.capTimeLoRead t u) := rfl
theorem Timed.refActivityLost (t : Nat) (r : Nat) : Timed.Statement (.refActivityLost t r) := rfl
theorem Timed.refFreqGate (t : Nat) (r : Nat) (gate : Int) : Timed.Statement (.refFreqGate t r gate) := rfl
theorem Timed.refWtrExpiry (t : Nat) (r : Nat) : Timed.Statement (.refWtrExpiry t r) := rfl
theorem Timed.pullComplete (t : Nat) : Timed.Statement (.pullComplete t) := rfl
theorem Timed.holdoverReadyTimer (t : Nat) : Timed.Statement (.holdoverReadyTimer t) := rfl
theorem Timed.ocxoLost (t : Nat) : Timed.Statement (.ocxoLost t) := rfl
theorem Timed.ocxoReturn (t : Nat) : Timed.Statement (.ocxoReturn t) := rfl
theorem Timed.refselApply (t : Nat) (v : Word) : Timed.Statement (.refselApply t v) := rfl
theorem Timed.refCfgApply (t : Nat) (r : Nat) (v : Word) : Timed.Statement (.refCfgApply t r v) := rfl
theorem Timed.ethCtrlWrite (t : Nat) (p : Nat) (v : Word) : Timed.Statement (.ethCtrlWrite t p v) := rfl
theorem Timed.ethLinkLost (t : Nat) (p : Nat) : Timed.Statement (.ethLinkLost t p) := rfl
theorem Timed.ethLinkUp (t : Nat) (p : Nat) : Timed.Statement (.ethLinkUp t p) := rfl
theorem Timed.flowApply (t : Nat) (n : Nat) (v : Word) : Timed.Statement (.flowApply t n v) := rfl
theorem Timed.frameHoldExpiry (t : Nat) (c ts : Nat) : Timed.Statement (.frameHoldExpiry t c ts) := rfl
theorem Timed.assemblyTimeout (t : Nat) (c ts : Nat) : Timed.Statement (.assemblyTimeout t c ts) := rfl
theorem Timed.legInactive (t : Nat) (c leg : Nat) : Timed.Statement (.legInactive t c leg) := rfl
theorem Timed.streamOpen (t : Nat) (q seq : Nat) : Timed.Statement (.streamOpen t q seq) := rfl
theorem Timed.streamClose (t : Nat) (q seq : Nat) : Timed.Statement (.streamClose t q seq) := rfl
theorem Timed.mcastJoin (t : Nat) (q seq : Nat) : Timed.Statement (.mcastJoin t q seq) := rfl
theorem Timed.mcastLeave (t : Nat) (q seq : Nat) : Timed.Statement (.mcastLeave t q seq) := rfl
theorem Timed.decodeStart (t : Nat) (e : Nat) : Timed.Statement (.decodeStart t e) := rfl
theorem Timed.decodeComplete (t : Nat) (e : Nat) (r : DecodeResult) : Timed.Statement (.decodeComplete t e r) := rfl
theorem Timed.decodeNoSlotTimeout (t : Nat) (c : Nat) : Timed.Statement (.decodeNoSlotTimeout t c) := rfl
theorem Timed.decodeEngineTimeout (t : Nat) (e : Nat) : Timed.Statement (.decodeEngineTimeout t e) := rfl
theorem Timed.decodeEngineParity (t : Nat) (e : Nat) : Timed.Statement (.decodeEngineParity t e) := rfl
theorem Timed.decodeWindowEnd (t : Nat) : Timed.Statement (.decodeWindowEnd t) := rfl
theorem Timed.decodeSetup (t : Nat) (q seq : Nat) : Timed.Statement (.decodeSetup t q seq) := rfl
theorem Timed.decodeReset (t : Nat) (q seq : Nat) : Timed.Statement (.decodeReset t q seq) := rfl
theorem Timed.commit (t : Nat) (q seq : Nat) : Timed.Statement (.commit t q seq) := rfl
theorem Timed.canvasCommit (t : Nat) (q seq : Nat) : Timed.Statement (.canvasCommit t q seq) := rfl
theorem Timed.canvasJoin (t : Nat) (q seq : Nat) (others : List CanvasMember) : Timed.Statement (.canvasJoin t q seq others) := rfl
theorem Timed.commitValidate (t : Nat) (q seq : Nat) : Timed.Statement (.commitValidate t q seq) := rfl
theorem Timed.commitValidationDone (t : Nat) (q seq : Nat) : Timed.Statement (.commitValidationDone t q seq) := rfl
theorem Timed.headFrameBoundary (t : Nat) (h n : Nat) : Timed.Statement (.headFrameBoundary t h n) := rfl
theorem Timed.headFrameStart (t : Nat) (h n : Nat) : Timed.Statement (.headFrameStart t h n) := rfl
theorem Timed.leaseEnd (t : Nat) (entry : Nat) : Timed.Statement (.leaseEnd t entry) := rfl
theorem Timed.canvasPrepare (t : Nat) (p : CanvasPrepare) : Timed.Statement (.canvasPrepare t p) := rfl
theorem Timed.canvasAccept (t : Nat) (q seq module lead : Nat) (o : FwdOutcome) : Timed.Statement (.canvasAccept t q seq module lead o) := rfl
theorem Timed.canvasApply (t : Nat) (q seq n ta : Nat) : Timed.Statement (.canvasApply t q seq n ta) := rfl
theorem Timed.canvasDrop (t : Nat) (q seq : Nat) : Timed.Statement (.canvasDrop t q seq) := rfl
theorem Timed.canvasAppliedReport (t : Nat) (q seq module layers : Nat) (late : Bool) : Timed.Statement (.canvasAppliedReport t q seq module layers late) := rfl
theorem Timed.canvasMemberTimeout (t : Nat) (q seq module : Nat) : Timed.Statement (.canvasMemberTimeout t q seq module) := rfl
theorem Timed.canvasReadyTimeout (t : Nat) (q seq : Nat) : Timed.Statement (.canvasReadyTimeout t q seq) := rfl
theorem Timed.canvasReportTimeout (t : Nat) (q seq module : Nat) : Timed.Statement (.canvasReportTimeout t q seq module) := rfl
theorem Timed.canvasTransit (t : Nat) (q seq : Nat) : Timed.Statement (.canvasTransit t q seq) := rfl
theorem Timed.scalerParityError (t : Nat) (sc : Nat) : Timed.Statement (.scalerParityError t sc) := rfl
theorem Timed.headOutFmtWrite (t : Nat) (h : Nat) (v : Word) : Timed.Statement (.headOutFmtWrite t h v) := rfl
theorem Timed.lineRelease (t : Nat) (h n line : Nat) : Timed.Statement (.lineRelease t h n line) := rfl
theorem Timed.lineComposed (t : Nat) (h n line : Nat) : Timed.Statement (.lineComposed t h n line) := rfl
theorem Timed.lineRead (t : Nat) (h n line : Nat) (ecc : Bool) : Timed.Statement (.lineRead t h n line ecc) := rfl
theorem Timed.governorWindow (t : Nat) (hottest : Int) : Timed.Statement (.governorWindow t hottest) := rfl
theorem Timed.hpdRise (t : Nat) (p : Nat) (caps : Option SinkCaps) : Timed.Statement (.hpdRise t p caps) := rfl
theorem Timed.hpdIrq (t : Nat) (p : Nat) (lost : Bool) (caps : Option SinkCaps) : Timed.Statement (.hpdIrq t p lost caps) := rfl
theorem Timed.hpdUnplug (t : Nat) (p : Nat) : Timed.Statement (.hpdUnplug t p) := rfl
theorem Timed.trainingConfigDone (t : Nat) (p : Nat) (pass : Bool) : Timed.Statement (.trainingConfigDone t p pass) := rfl
theorem Timed.trainingConfigTimeout (t : Nat) (p : Nat) : Timed.Statement (.trainingConfigTimeout t p) := rfl
theorem Timed.trainRetryTimer (t : Nat) (p : Nat) (caps : Option SinkCaps) : Timed.Statement (.trainRetryTimer t p caps) := rfl
theorem Timed.dpPortClockLost (t : Nat) (p : Nat) : Timed.Statement (.dpPortClockLost t p) := rfl
theorem Timed.dpPortClockReturn (t : Nat) (p : Nat) (caps : Option SinkCaps) : Timed.Statement (.dpPortClockReturn t p caps) := rfl
theorem Timed.modeChangeBoundary (t : Nat) (h : Nat) : Timed.Statement (.modeChangeBoundary t h) := rfl
theorem Timed.modeChangeLinkReady (t : Nat) (h : Nat) : Timed.Statement (.modeChangeLinkReady t h) := rfl
theorem Timed.dpCtrlApply (t : Nat) (p : Nat) (v : Word) (caps : Option SinkCaps) : Timed.Statement (.dpCtrlApply t p v caps) := rfl
theorem Timed.dpAux (t : Nat) (q seq : Nat) (reply : AuxReply) : Timed.Statement (.dpAux t q seq reply) := rfl
theorem Timed.dpRetrain (t : Nat) (q seq : Nat) (caps : Option SinkCaps) : Timed.Statement (.dpRetrain t q seq caps) := rfl
theorem Timed.tasterCompare (t : Nat) (k n : Nat) : Timed.Statement (.tasterCompare t k n) := rfl
theorem Timed.sspRead (t : Nat) (a : Nat) : Timed.Statement (.sspRead t a) := rfl
theorem Timed.imageTickAdvance (t : Nat) : Timed.Statement (.imageTickAdvance t) := rfl
theorem Timed.imageTickTimeout (t : Nat) : Timed.Statement (.imageTickTimeout t) := rfl
theorem Timed.encodeOpen (t : Nat) (q seq : Nat) : Timed.Statement (.encodeOpen t q seq) := rfl
theorem Timed.encodeClose (t : Nat) (q seq : Nat) : Timed.Statement (.encodeClose t q seq) := rfl
theorem Timed.encodeRefresh (t : Nat) (q seq : Nat) : Timed.Statement (.encodeRefresh t q seq) := rfl
theorem Timed.encodeRowReady (t : Nat) (c n row : Nat) (skips : List (List Byte)) : Timed.Statement (.encodeRowReady t c n row skips) := rfl
theorem Timed.encodeRowCoded (t : Nat) (e : Nat) (r : EncRow) : Timed.Statement (.encodeRowCoded t e r) := rfl
theorem Timed.encodeEngineTimeout (t : Nat) (e : Nat) : Timed.Statement (.encodeEngineTimeout t e) := rfl
theorem Timed.encodeEngineParity (t : Nat) (e : Nat) : Timed.Statement (.encodeEngineParity t e) := rfl
theorem Timed.touchScanStart (t : Nat) (p : Nat) : Timed.Statement (.touchScanStart t p) := rfl
theorem Timed.touchScanProcessed (t : Nat) (p : Nat) (raw : List (List Nat)) : Timed.Statement (.touchScanProcessed t p raw) := rfl
theorem Timed.touchScanRelease (t : Nat) (p : Nat) : Timed.Statement (.touchScanRelease t p) := rfl
theorem Timed.touchSimmerScan (t : Nat) (p : Nat) (sums : List Nat) : Timed.Statement (.touchSimmerScan t p sums) := rfl
theorem Timed.touchPortEnable (t : Nat) (p : Nat) (v : Word) : Timed.Statement (.touchPortEnable t p v) := rfl
theorem Timed.touchPortDisable (t : Nat) (p : Nat) (v : Word) : Timed.Statement (.touchPortDisable t p v) := rfl
theorem Timed.touchApply (t : Nat) (p : Nat) (v : Word) : Timed.Statement (.touchApply t p v) := rfl
theorem Timed.adcSequenceDone (t : Nat) (samples : List (List Int)) : Timed.Statement (.adcSequenceDone t samples) := rfl
theorem Timed.adcApply (t : Nat) (v : Word) : Timed.Statement (.adcApply t v) := rfl
theorem Timed.gpioInputChange (t : Nat) (n : Nat) (level : Bool) : Timed.Statement (.gpioInputChange t n level) := rfl
theorem Timed.gpioDebounceExpiry (t : Nat) (n : Nat) : Timed.Statement (.gpioDebounceExpiry t n) := rfl
theorem Timed.gpioOutWrite (t : Nat) (v : Word) : Timed.Statement (.gpioOutWrite t v) := rfl
theorem Timed.commandFrameBuilt (t : Nat) (c : Nat) : Timed.Statement (.commandFrameBuilt t c) := rfl
theorem Timed.ccSetup (t : Nat) (q seq : Nat) : Timed.Statement (.ccSetup t q seq) := rfl
theorem Timed.ccStop (t : Nat) (q seq : Nat) : Timed.Statement (.ccStop t q seq) := rfl
theorem Timed.touchRebase (t : Nat) (q seq : Nat) : Timed.Statement (.touchRebase t q seq) := rfl
theorem Timed.paentIdWrite (t : Nat) (v : Word) : Timed.Statement (.paentIdWrite t v) := rfl
theorem Timed.flitReceived (t : Nat) (p : Nat) (flit : List Byte) : Timed.Statement (.flitReceived t p flit) := rfl
theorem Timed.replayTimeout (t : Nat) (p : Nat) : Timed.Statement (.replayTimeout t p) := rfl
theorem Timed.envelopeReceived (t : Nat) (p : Nat) : Timed.Statement (.envelopeReceived t p) := rfl
theorem Timed.routeRecompute (t : Nat) (ls : List PaentLink) (groups : List McastGroup) (resv : List Resv) : Timed.Statement (.routeRecompute t ls groups resv) := rfl
theorem Timed.routeInstall (t : Nat) (r : RouteSet) : Timed.Statement (.routeInstall t r) := rfl
theorem Timed.vc1HoldTimeout (t : Nat) (confirmed : Bool) : Timed.Statement (.vc1HoldTimeout t confirmed) := rfl
theorem Timed.pictureEnvelope (t : Nat) : Timed.Statement (.pictureEnvelope t) := rfl
theorem Timed.announceTimer (t : Nat) : Timed.Statement (.announceTimer t) := rfl
theorem Timed.announceReceived (t : Nat) (p : Nat) (a : Announce) : Timed.Statement (.announceReceived t p a) := rfl
theorem Timed.electionTimer (t : Nat) : Timed.Statement (.electionTimer t) := rfl
theorem Timed.managerSilenceTimeout (t : Nat) : Timed.Statement (.managerSilenceTimeout t) := rfl
theorem Timed.timeExchangeTimer (t : Nat) (p : Nat) : Timed.Statement (.timeExchangeTimer t p) := rfl
theorem Timed.timeEnvelopeReceived (t : Nat) (p : Nat) (t1 t2 t3 t4 : Int) : Timed.Statement (.timeEnvelopeReceived t p t1 t2 t3 t4) := rfl
theorem Timed.timeOffsetReport (t : Nat) (rs : List (Nat × Option Int)) : Timed.Statement (.timeOffsetReport t rs) := rfl
theorem Timed.remoteSetup (t : Nat) (q seq : Nat) (src : RemoteSource) : Timed.Statement (.remoteSetup t q seq src) := rfl
theorem Timed.remoteClear (t : Nat) (q seq : Nat) : Timed.Statement (.remoteClear t q seq) := rfl
theorem Timed.paentAttemptStart (t : Nat) (p : Nat) : Timed.Statement (.paentAttemptStart t p) := rfl
theorem Timed.paentSweepDone (t : Nat) (p : Nat) (masks : List Nat) : Timed.Statement (.paentSweepDone t p masks) := rfl
theorem Timed.paentAlignDone (t : Nat) (p : Nat) (found : List (Nat × Nat × Nat)) : Timed.Statement (.paentAlignDone t p found) := rfl
theorem Timed.laneSlip (t : Nat) (p l : Nat) (v : Word) : Timed.Statement (.laneSlip t p l v) := rfl
theorem Timed.paentTrainingFrame (t : Nat) (p l : Nat) (region : List Bool) : Timed.Statement (.paentTrainingFrame t p l region) := rfl
theorem Timed.paentGoReceived (t : Nat) (p : Nat) (n : Neighbour) : Timed.Statement (.paentGoReceived t p n) := rfl
theorem Timed.paentStepTimeout (t : Nat) (p : Nat) : Timed.Statement (.paentStepTimeout t p) := rfl
theorem Timed.paentAttemptTimeout (t : Nat) (p : Nat) : Timed.Statement (.paentAttemptTimeout t p) := rfl
theorem Timed.paentRetryTimer (t : Nat) (p : Nat) : Timed.Statement (.paentRetryTimer t p) := rfl
theorem Timed.laneLos (t : Nat) (p l : Nat) (set : Bool) : Timed.Statement (.laneLos t p l set) := rfl
theorem Timed.laneLol (t : Nat) (p l : Nat) (set : Bool) : Timed.Statement (.laneLol t p l set) := rfl
theorem Timed.laneLoa (t : Nat) (p l n : Nat) : Timed.Statement (.laneLoa t p l n) := rfl
theorem Timed.paentRetrain (t : Nat) (p : Nat) (v : Word) : Timed.Statement (.paentRetrain t p v) := rfl
theorem Timed.paentHold (t : Nat) (p : Nat) (v : Word) : Timed.Statement (.paentHold t p v) := rfl
theorem Timed.paentTxSleep (t : Nat) (p : Nat) (v : Word) : Timed.Statement (.paentTxSleep t p v) := rfl
theorem Timed.paentTxWake (t : Nat) (p : Nat) (v : Word) : Timed.Statement (.paentTxWake t p v) := rfl
theorem Timed.paentRxSleep (t : Nat) (p : Nat) (v : Word) : Timed.Statement (.paentRxSleep t p v) := rfl
theorem Timed.paentRxWake (t : Nat) (p : Nat) (v : Word) : Timed.Statement (.paentRxWake t p v) := rfl
theorem Timed.paentWakeTimeout (t : Nat) (p : Nat) : Timed.Statement (.paentWakeTimeout t p) := rfl
theorem Timed.heartbeatSend (t : Nat) (wire : Bool) : Timed.Statement (.heartbeatSend t wire) := rfl
theorem Timed.heartbeatReceived (t : Nat) (b : Heartbeat) : Timed.Statement (.heartbeatReceived t b) := rfl
theorem Timed.heartbeatWireFrame (t : Nat) (frame : List Byte) : Timed.Statement (.heartbeatWireFrame t frame) := rfl
theorem Timed.heartbeatPathSilent (t : Nat) (wire : Bool) : Timed.Statement (.heartbeatPathSilent t wire) := rfl
theorem Timed.pairSeekTimeout (t : Nat) : Timed.Statement (.pairSeekTimeout t) := rfl
theorem Timed.pairHandoverInstant (t : Nat) : Timed.Statement (.pairHandoverInstant t) := rfl
theorem Timed.interlockLevelChange (t : Nat) (il1 il2 : Nat) : Timed.Statement (.interlockLevelChange t il1 il2) := rfl
theorem Timed.contentionTimeout (t : Nat) : Timed.Statement (.contentionTimeout t) := rfl
theorem Timed.handoverRetryTimeout (t : Nat) : Timed.Statement (.handoverRetryTimeout t) := rfl
theorem Timed.interlockFault (t : Nat) : Timed.Statement (.interlockFault t) := rfl
theorem Timed.mirrorRecord (t : Nat) (n : Nat) (item : MirrorItem) : Timed.Statement (.mirrorRecord t n item) := rfl
theorem Timed.mirrorConfirmation (t : Nat) (r : MirrorReply) : Timed.Statement (.mirrorConfirmation t r) := rfl
theorem Timed.mirrorGapTimeout (t : Nat) : Timed.Statement (.mirrorGapTimeout t) := rfl
theorem Timed.pairWtrExpiry (t : Nat) : Timed.Statement (.pairWtrExpiry t) := rfl
theorem Timed.pairApply (t : Nat) (v : Word) : Timed.Statement (.pairApply t v) := rfl
theorem Timed.pairSwitchover (t : Nat) (v : Word) : Timed.Statement (.pairSwitchover t v) := rfl
theorem Timed.pairTakeover (t : Nat) (v : Word) : Timed.Statement (.pairTakeover t v) := rfl
theorem Timed.pairClear (t : Nat) (v : Word) : Timed.Statement (.pairClear t v) := rfl
theorem Timed.dramReadError (t : Nat) (line rank : Nat) (r : EccRead) : Timed.Statement (.dramReadError t line rank r) := rfl
theorem Timed.dramWcrcAlert (t : Nat) (ch rank retry : Nat) : Timed.Statement (.dramWcrcAlert t ch rank retry) := rfl
theorem Timed.migrationCopyLine (t : Nat) (r : EccRead) : Timed.Statement (.migrationCopyLine t r) := rfl
theorem Timed.migrationDone (t : Nat) : Timed.Statement (.migrationDone t) := rfl
theorem Timed.dramRefresh (t : Nat) (ch rank bank : Nat) (postponed : Bool) : Timed.Statement (.dramRefresh t ch rank bank postponed) := rfl
theorem Timed.dramTempRead (t : Nat) (ch rank : Nat) (temps : List Int) : Timed.Statement (.dramTempRead t ch rank temps) := rfl
theorem Timed.dramDriftCheck (t : Nat) (ch rank drift : Nat) : Timed.Statement (.dramDriftCheck t ch rank drift) := rfl
theorem Timed.dramRetrainStep (t : Nat) (ch rank : Nat) (ok : Bool) : Timed.Statement (.dramRetrainStep t ch rank ok) := rfl
theorem Timed.dramPatrolScrub (t : Nat) (line : Nat) (r : EccRead) : Timed.Statement (.dramPatrolScrub t line r) := rfl
theorem Timed.migThrottleWrite (t : Nat) (v : Word) : Timed.Statement (.migThrottleWrite t v) := rfl
theorem Timed.fsRefresh (t : Nat) : Timed.Statement (.fsRefresh t) := rfl
theorem Timed.fsScrub (t : Nat) (bank row ce ue : Nat) : Timed.Statement (.fsScrub t bank row ce ue) := rfl
theorem Timed.checkerUpdateEnter (t : Nat) (k : Nat) (v : Word) : Timed.Statement (.checkerUpdateEnter t k v) := rfl
theorem Timed.checkerUpdateExit (t : Nat) (k : Nat) (v : Word) : Timed.Statement (.checkerUpdateExit t k v) := rfl
theorem Timed.checkerClosedTimeout (t : Nat) (k : Nat) : Timed.Statement (.checkerClosedTimeout t k) := rfl
theorem Timed.regionRegisterWrite (t : Nat) (k r reg : Nat) (v : Word) : Timed.Statement (.regionRegisterWrite t k r reg v) := rfl
theorem Timed.parcelOpen (t : Nat) (q seq : Nat) : Timed.Statement (.parcelOpen t q seq) := rfl
theorem Timed.parcelFeed (t : Nat) (q seq : Nat) : Timed.Statement (.parcelFeed t q seq) := rfl
theorem Timed.parcelFeedComplete (t : Nat) (j : Nat) (selfFail : Bool) : Timed.Statement (.parcelFeedComplete t j selfFail) := rfl
theorem Timed.parcelAbort (t : Nat) (q seq : Nat) : Timed.Statement (.parcelAbort t q seq) := rfl
theorem Timed.crcCtrlWrite (t : Nat) (u : Nat) (v : Word) : Timed.Statement (.crcCtrlWrite t u v) := rfl
theorem Timed.crcData8 (t : Nat) (u : Nat) (v : Word) : Timed.Statement (.crcData8 t u v) := rfl
theorem Timed.crcData16 (t : Nat) (u : Nat) (v : Word) : Timed.Statement (.crcData16 t u v) := rfl
theorem Timed.crcData32 (t : Nat) (u : Nat) (v : Word) : Timed.Statement (.crcData32 t u v) := rfl
theorem Timed.crcResultRead (t : Nat) (u : Nat) (count : Bool) : Timed.Statement (.crcResultRead t u count) := rfl
theorem Timed.composeEngineParity (t : Nat) (cluster : Nat) : Timed.Statement (.composeEngineParity t cluster) := rfl
theorem Timed.fabricFault (t : Nat) (journalOk : Bool) : Timed.Statement (.fabricFault t journalOk) := rfl
theorem Timed.dumpWrite (t : Nat) : Timed.Statement (.dumpWrite t) := rfl
theorem Timed.dumpComplete (t : Nat) : Timed.Statement (.dumpComplete t) := rfl
theorem Timed.recorderEvent (t : Nat) (e : RecEvent) : Timed.Statement (.recorderEvent t e) := rfl
theorem Timed.recorderFlashProgram (t : Nat) : Timed.Statement (.recorderFlashProgram t) := rfl
theorem Timed.recRead (t : Nat) (q seq : Nat) : Timed.Statement (.recRead t q seq) := rfl
theorem Timed.recCatalogue (t : Nat) (q seq : Nat) : Timed.Statement (.recCatalogue t q seq) := rfl
theorem Timed.dumpRead (t : Nat) (q seq : Nat) : Timed.Statement (.dumpRead t q seq) := rfl
theorem Timed.dumpKeep (t : Nat) (q seq : Nat) : Timed.Statement (.dumpKeep t q seq) := rfl
theorem Timed.dumpErase (t : Nat) (q seq : Nat) : Timed.Statement (.dumpErase t q seq) := rfl
theorem Timed.testStart (t : Nat) (q seq : Nat) : Timed.Statement (.testStart t q seq) := rfl
theorem Timed.testStop (t : Nat) (q seq errors bits : Nat) : Timed.Statement (.testStop t q seq errors bits) := rfl
theorem Timed.memInject (t : Nat) (q seq : Nat) : Timed.Statement (.memInject t q seq) := rfl
theorem Timed.touchTest (t : Nat) (q seq : Nat) (raw : List (List Nat)) (side : List Nat) : Timed.Statement (.touchTest t q seq raw side) := rfl
theorem Timed.adcSelfCheck (t : Nat) (q seq : Nat) (codes : List (List Int)) : Timed.Statement (.adcSelfCheck t q seq codes) := rfl
theorem Timed.feedAboveTurnOn (t : Nat) (feed : Nat) : Timed.Statement (.feedAboveTurnOn t feed) := rfl
theorem Timed.feedAccepted (t : Nat) (feed : Nat) : Timed.Statement (.feedAccepted t feed) := rfl
theorem Timed.feedTurnOff (t : Nat) (feed : Nat) : Timed.Statement (.feedTurnOff t feed) := rfl
theorem Timed.feedOvervoltage (t : Nat) (feed : Nat) : Timed.Statement (.feedOvervoltage t feed) := rfl
theorem Timed.holdupEnd (t : Nat) (cut : CutOff) : Timed.Statement (.holdupEnd t cut) := rfl
theorem Timed.powerGood (t : Nat) : Timed.Statement (.powerGood t) := rfl
theorem Timed.moduleReset (t : Nat) (cut : CutOff) : Timed.Statement (.moduleReset t cut) := rfl
theorem Timed.hostInterfaceReset (t : Nat) (cut : List (Nat × Nat)) : Timed.Statement (.hostInterfaceReset t cut) := rfl
theorem Timed.thermalTrip (t : Nat) (cut : CutOff) : Timed.Statement (.thermalTrip t cut) := rfl
theorem Timed.thermalRestart (t : Nat) : Timed.Statement (.thermalRestart t) := rfl
theorem Timed.wtSlewEnd (t : Nat) : Timed.Statement (.wtSlewEnd t) := rfl
theorem Timed.sspBankSwitch (t : Nat) : Timed.Statement (.sspBankSwitch t) := rfl
theorem Timed.debugAccess (t : Nat) (write : Bool) (pa len : Nat) (bytes : List Byte) (authed : Bool) : Timed.Statement (.debugAccess t write pa len bytes authed) := rfl
theorem Timed.plateHigh (t : Nat) (plate : Int) : Timed.Statement (.plateHigh t plate) := rfl
theorem Timed.flitSend (t : Nat) (p pick : Nat) : Timed.Statement (.flitSend t p pick) := rfl

end Sys2Proof.Laws
end

