-- ==== Sys2Proof/Tests/Slice0.lean ====
section
/-! SUPPORT. Tests: a witness for the hypotheses of every statement's clauses, well-formed and ill-formed commands, and the
manual's worked examples. -/

open Sys2Proof Sys2Proof.Machine

namespace Sys2Proof.Tests

set_option Elab.async false

/-! ### Small states -/

/-- A command that has started, with SEQ 7, and the parameter bytes. -/
def cmd (op : Nat) (ps : List Nat) (data : Option (List Byte × List Nat) := none) : Cmd :=
  ⟨7, op, 0, 0, 0, 0, 0, 0, 0, 0, ps.map (BitVec.ofNat 8), none, .started, 0, data, none, 0, false, false⟩

/-- The part running, every clock present and every checker open, with an image that names nothing. -/
def up : Dev :=
  ({ Dev.init with
    pwr := { PwrSt.init with logicOn := true }
    err := { ErrSt.init with clocks := (List.range 12).flatMap fun n => (List.range (domainInstances n)).map fun i => n * 64 + i }
    host := { HostSt.init with busMaster := true }
    boot := { BootSt.init with begun := true, memoryUp := true, image := some Image.empty } } : Dev).put R.BOOT_STATUS_PHASE 7

/-- The state of a part that holds no data and has no command waiting. -/
def st (d : Dev) : State := { State.reset with dev := d }

/-- A part whose queue 15 holds one command. -/
def on (c : Cmd) (d : Dev) : State := st (d.setCmds 15 [c])

/-- The row of a register in the register map. -/
def regRow (r : RegDesc) : RegRow := (regRows.find? (·.reg == r)).getD ⟨r, 0, 0, 0, 0, 0, 0, 0, 0⟩

/-- The part running with an image in which head 31 of group 5 is on DisplayPort port 15. -/
def upHead : Dev :=
  { up with boot := { up.boot with image := some { Image.empty with
    heads := [⟨31, 1, 0, 15, 8, 5, 0⟩], bindings := [⟨5, 1, 0, 0⟩] } } }

/-- The part running, with port 3 enabled and its link up, and flow 1023 taking packets to context 255. -/
def upNet : Dev :=
  { ((up.put R.ETH_CTRL_ENABLE 1 3).put R.ETH_STATUS_LINK 1 3) with
    net := { NetSt.init with flows := [(1023, ⟨0x020000FF, 0, 0, 0, 0⟩)] } }

/-- A picture of 64 by 64. -/
def pic : PicInfo :=
  ⟨0, true, false, true, false, none, 16, [], [], true, 30, 64, 64, 64, 64, 1, false, true, false, false⟩

/-- A decode setup with a pool of 3 slots. -/
def pool : Setup := ⟨false, 1, 0, 64, 64, 0, 0, 0⟩

/-- A frame of mode 0 in flight. -/
def frame : FrameSt := ⟨0, false, 0, 0, 8, 0, [], [], [], [], [], [], false, [], 0, none⟩

/-- The part running with head 31 at frame 1. -/
def upFrame (f : FrameSt) : Dev :=
  { upHead with comp := { CompSt.init with heads := [(31, { HeadSt.init with grid := true, frames := [(1, f)] })] } }

/-- An encode of head 31 in 64 by 64, and a frame of it. -/
def enc : EncOpen :=
  ⟨31, 0, false, false, false, false, 1200, 0, 51, 1, 1, 4096, 0, 65536, 0, 0, 0, 0, 0, 0, [], 64, 64, 60, 1⟩

/-- A frame being encoded. -/
def encFrame (n : Nat) : EncFrame :=
  ⟨n, 0, 0, none, false, false, false, [], 1000, 0, 0, [], [], [], [], false, false, false⟩

/-- The part running, encoding the frames in context 255. -/
def upEnc (fs : List EncFrame) : Dev :=
  { up.put R.ENC_STATUS_STATE enRunning 255 with
    enc := { EncSt.init with ctxs := [(255, { EncCtx.init with open' := some enc, frames := fs })] } }

/-- The part running at a working time, in quarter nanoseconds. -/
def upAt (w : Nat) : Dev := { up with time := { TimeSt.init with wt := ⟨0, w, 0⟩ } }

/-- The part running with touch port 1 in a state, and a scan of it under way. -/
def upScan (state : Nat) (simmer : Bool) (w : Nat) : Dev :=
  { (upAt w).put R.TCH_STATUS_STATE state 1 with
    io := { IoSt.init with touch := [(1, { TouchSt.init with scan := some ⟨0, 0, simmer, .init, false, false, [], []⟩ })] } }

/-- The part running with Paent port 3 UP, its link in a state. -/
def upLink (l : Link) : Dev := { up.put R.PLN_STATUS_STATE plnUp 3 with sys := { SysSt.init with links := [(3, l)] } }

/-- A flit of zeros with a trailer word and its CRC. -/
def flitOf (w : Nat) : List Byte :=
  List.replicate 56 0 ++ leBytes 4 w ++ leBytes 4 (crcOf 1 (List.replicate 56 0 ++ leBytes 4 w))

/-- The part running with Paent port 3 in training at a step. -/
def upTrain (step : Nat) (x : Train) : Dev :=
  { (up.put R.PLN_STATUS_STATE plnTraining 3).put R.PLN_STATUS_STEP step 3 with sys := { SysSt.init with trains := [(3, x)] } }

/-- A training region whose first two data bytes are the marker and the lane. -/
def region (l : Nat) : List Bool := descramble ((List.range 16).map (bit (0xC5 + l * 256))) (laneSeed l)

/-- A unit of a pair, in a pair state. -/
def upPair (st : Nat) (p : PairSt) : Dev :=
  { up.put R.PAIR_STATUS_STATE st with
    boot := { up.boot with image := some { Image.empty with paent := [(3, 5, 0, 0)] } }
    pair := p }

/-- A reception entry. -/
def recv (rx : Option RxPic) : Recv := ⟨511, 255, false, pool, 0, [], rx, false⟩

/-- The part running, with a picture envelope of context 255 of module 511 waiting, and reception entry 255. -/
def upRecv (flags : Nat) (v : Recv) : Dev :=
  { up with sys := { SysSt.init with
    recvs := [(255, v)]
    inbox := [(3, ⟨0, 0, false, 4, 0, 511, 0, [255, BitVec.ofNat 8 flags, 1, 0], []⟩)] } }

/-- Checker 5 in UPDATE, with its regions' bases and sizes. -/
def upChk (rs : List (Nat × Nat × Nat)) : Dev :=
  rs.foldl (fun d r => (d.put R.RGN_BASE_BASE r.2.1 5 r.1).put R.RGN_SIZE_PAGES r.2.2 5 r.1) (up.put R.CHK_STATUS_STATE 1 5)

/-! ### Well-formed commands: operands at the ends of their ranges, and one step beyond -/

theorem test_well_formed_0 : ∀ c ∈ ([
    .domainClockLost 0 4 23, .domainClockPresent 0 4 23, .watchdogExpiry 0 3, .mgmtCoreRestartDone 0 3,
    .hostReadCompletion 0 15 none .refused, .hostReadTimeout 0 15 none, .queueEnable 0 16 0, .queueDisable 0 16 0,
    .cqHeadDoorbell 0 16 0, .sqTailDoorbell 0 15 0, .completionWrite 0 15,
    .commandEntryFetched 0 15 (List.replicate 64 0), .commandStart 0 8223 4294967295,
    .commandDeadline 0 8223 4294967295, .nop 0 8223 4294967295, .sync 0 8223 4294967295,
    .fenceSignal 0 8223 4294967295, .dmaCopy 0 8223 4294967295, .dmaFill 0 8223 4294967295,
    .regReadBlock 0 8223 4294967295, .regWriteBatch 0 8223 4294967295,
    .forwardedOutcome 0 8223 4294967295 ⟨0, 0, 0, 0, 0⟩, .forwardTimeout 0 8223 4294967295,
    .imageCheck 0 8223 4294967295, .imageWrite 0 8223 4294967295 false, .slotErase 0 8223 4294967295 false,
    .slotChoose 0 8223 4294967295 false, .profileSwitch 0 8223 4294967295, .lifecycleSeal 0 8223 4294967295,
    .wtFollow 0 8223 4294967295, .ptpPorts 0 8223 4294967295, .streamOpen 0 8223 4294967295,
    .streamClose 0 8223 4294967295, .mcastJoin 0 8223 4294967295, .mcastLeave 0 8223 4294967295,
    .decodeSetup 0 8223 4294967295, .decodeReset 0 8223 4294967295, .commit 0 8223 4294967295,
    .canvasCommit 0 8223 4294967295, .canvasJoin 0 8223 4294967295 []] : List Instr), c.WellFormed = true := by
  decide +kernel

theorem test_well_formed_1 : ∀ c ∈ ([
    .commitValidate 0 8223 4294967295, .commitValidationDone 0 8223 4294967295, .canvasApply 0 8223 4294967295 0 0,
    .canvasDrop 0 8223 4294967295, .canvasReadyTimeout 0 8223 4294967295, .canvasTransit 0 8223 4294967295,
    .dpAux 0 8223 4294967295 .nack, .dpRetrain 0 8223 4294967295 none, .encodeOpen 0 8223 4294967295,
    .encodeClose 0 8223 4294967295, .encodeRefresh 0 8223 4294967295, .ccSetup 0 8223 4294967295,
    .ccStop 0 8223 4294967295, .touchRebase 0 8223 4294967295, .remoteSetup 0 8223 4294967295 ⟨none, 0, 1, []⟩,
    .remoteClear 0 8223 4294967295, .parcelOpen 0 8223 4294967295, .parcelFeed 0 8223 4294967295,
    .parcelAbort 0 8223 4294967295, .recRead 0 8223 4294967295, .recCatalogue 0 8223 4294967295,
    .dumpRead 0 8223 4294967295, .dumpKeep 0 8223 4294967295, .dumpErase 0 8223 4294967295,
    .testStart 0 8223 4294967295, .testStop 0 8223 4294967295 0 0, .memInject 0 8223 4294967295,
    .touchTest 0 8223 4294967295 [] [], .adcSelfCheck 0 8223 4294967295 [], .fenceWrite 0 1023 0,
    .forwardedCommandReceived 0 511 15 (List.replicate 64 0), .bootStart 0 3 false, .ptpMessageReceived 0 1 3 .delay,
    .ptpReceiptTimeout 0 1, .ethFrameReceived 0 3 0 .other, .launchFrameSubmit 0 3 281474976710655 [] false,
    .launchTimeReached 0 3, .ethCtrlWrite 0 3 0, .ethLinkLost 0 3, .ethLinkUp 0 3] : List Instr), c.WellFormed = true := by
  decide +kernel

theorem test_well_formed_2 : ∀ c ∈ ([
    .replayTimeout 0 3, .envelopeReceived 0 3, .announceReceived 0 3 ⟨0, 0, 0, 0, 0, 0, 0⟩, .timeExchangeTimer 0 3,
    .timeEnvelopeReceived 0 3 0 0 0 0, .paentAttemptStart 0 3, .paentSweepDone 0 3 [], .paentAlignDone 0 3 [],
    .paentGoReceived 0 3 ⟨0, 0, 0, 0, 0⟩, .paentStepTimeout 0 3, .paentAttemptTimeout 0 3, .paentRetryTimer 0 3,
    .paentRetrain 0 3 0, .paentHold 0 3 0, .paentTxSleep 0 3 0, .paentTxWake 0 3 0, .paentRxSleep 0 3 0,
    .paentRxWake 0 3 0, .paentWakeTimeout 0 3, .flitSend 0 3 0, .trigApply 0 15 0, .triggerEvent 0 15,
    .triggerPulseEnd 0 15, .captureEdge 0 15 false, .capTimeLoRead 0 15, .refActivityLost 0 11, .refFreqGate 0 11 0,
    .refWtrExpiry 0 11, .refCfgApply 0 11 0, .flowApply 0 1023 0, .frameHoldExpiry 0 255 4294967295,
    .assemblyTimeout 0 255 4294967295, .legInactive 0 255 1, .decodeStart 0 7,
    .decodeComplete 0 7 ⟨false, false, false, []⟩, .decodeEngineTimeout 0 7, .decodeEngineParity 0 7,
    .decodeNoSlotTimeout 0 255, .headFrameBoundary 0 31 4294967295,
    .headFrameStart 0 31 4294967295] : List Instr), c.WellFormed = true := by
  decide +kernel

theorem test_well_formed_3 : ∀ c ∈ ([
    .lineRelease 0 31 4294967295 0, .lineComposed 0 31 4294967295 0, .lineRead 0 31 4294967295 0 false,
    .leaseEnd 0 2047, .canvasAccept 0 8223 4294967295 511 0 ⟨0, 0, 0, 0, 0⟩,
    .canvasAppliedReport 0 8223 4294967295 511 0 false, .canvasMemberTimeout 0 8223 4294967295 511,
    .canvasReportTimeout 0 8223 4294967295 511, .scalerParityError 0 127, .headOutFmtWrite 0 31 0,
    .modeChangeBoundary 0 31, .modeChangeLinkReady 0 31, .hpdRise 0 15 none, .hpdIrq 0 15 false none,
    .hpdUnplug 0 15, .trainingConfigDone 0 15 false, .trainingConfigTimeout 0 15, .trainRetryTimer 0 15 none,
    .dpPortClockLost 0 15, .dpPortClockReturn 0 15 none, .dpCtrlApply 0 15 0 none, .tasterCompare 0 1023 4294967295,
    .sspRead 0 4095, .encodeRowReady 0 255 4294967295 0 [], .encodeRowCoded 0 1 ⟨[], [], false⟩,
    .encodeEngineTimeout 0 1, .encodeEngineParity 0 1, .touchScanStart 0 1, .touchScanProcessed 0 1 [],
    .touchScanRelease 0 1, .touchSimmerScan 0 1 [], .touchPortEnable 0 1 0, .touchPortDisable 0 1 0,
    .touchApply 0 1 0, .gpioInputChange 0 31 false, .gpioDebounceExpiry 0 31, .commandFrameBuilt 0 3,
    .flitReceived 0 3 (List.replicate 64 0), .laneSlip 0 3 5 0,
    .paentTrainingFrame 0 3 5 []] : List Instr), c.WellFormed = true := by
  decide +kernel

theorem test_well_formed_4 : ∀ c ∈ ([
    .laneLos 0 3 5 false, .laneLol 0 3 5 false, .laneLoa 0 3 5 0, .heartbeatWireFrame 0 (List.replicate 6 0),
    .interlockLevelChange 0 2 2, .dramReadError 0 1073741823 1 .clean, .dramWcrcAlert 0 7 1 0,
    .dramTempRead 0 7 1 [], .dramDriftCheck 0 7 1 0, .dramRetrainStep 0 7 1 false, .dramRefresh 0 7 1 31 false,
    .dramPatrolScrub 0 1073741823 .clean, .fsScrub 0 63 4159 0 0, .checkerUpdateEnter 0 5 0,
    .checkerUpdateExit 0 5 0, .checkerClosedTimeout 0 5, .regionRegisterWrite 0 5 63 2 0,
    .parcelFeedComplete 0 3 false, .crcCtrlWrite 0 7 0, .crcData8 0 7 0, .crcData16 0 7 0, .crcData32 0 7 0,
    .crcResultRead 0 7 false, .composeEngineParity 0 5, .feedAboveTurnOn 0 1, .feedAccepted 0 1, .feedTurnOff 0 1,
    .feedOvervoltage 0 1] : List Instr), c.WellFormed = true := by
  decide +kernel

theorem test_ill_formed_0 : ∀ c ∈ ([
    .domainClockLost 0 12 0, .domainClockLost 0 4 24, .domainClockLost 0 2 16, .domainClockLost 0 0 1,
    .domainClockPresent 0 12 0, .domainClockPresent 0 4 24, .domainClockPresent 0 2 16, .domainClockPresent 0 0 1,
    .watchdogExpiry 0 4, .mgmtCoreRestartDone 0 4, .hostReadCompletion 0 16 none .refused,
    .hostReadCompletion 0 31 (some 0) .refused, .hostReadCompletion 0 15 (some 4294967296) .refused,
    .hostReadTimeout 0 16 none, .hostReadTimeout 0 31 (some 0), .hostReadTimeout 0 15 (some 4294967296),
    .queueEnable 0 17 0, .queueDisable 0 17 0, .cqHeadDoorbell 0 17 0, .sqTailDoorbell 0 16 0, .completionWrite 0 16,
    .commandEntryFetched 0 16 (List.replicate 64 0), .commandEntryFetched 0 15 (List.replicate 63 0),
    .commandEntryFetched 0 15 (List.replicate 65 0), .commandStart 0 16 4294967295, .commandStart 0 8224 4294967295,
    .commandStart 0 8223 4294967296, .commandDeadline 0 16 4294967295, .commandDeadline 0 8224 4294967295,
    .commandDeadline 0 8223 4294967296, .nop 0 16 4294967295, .sync 0 16 4294967295, .fenceSignal 0 16 4294967295,
    .dmaCopy 0 16 4294967295, .dmaFill 0 16 4294967295, .regReadBlock 0 16 4294967295,
    .regWriteBatch 0 16 4294967295, .forwardedOutcome 0 16 4294967295 ⟨0, 0, 0, 0, 0⟩,
    .forwardTimeout 0 16 4294967295, .imageCheck 0 16 4294967295] : List Instr), c.WellFormed = false := by
  decide +kernel

theorem test_ill_formed_1 : ∀ c ∈ ([
    .imageWrite 0 16 4294967295 false, .slotErase 0 16 4294967295 false, .slotChoose 0 16 4294967295 false,
    .profileSwitch 0 16 4294967295, .lifecycleSeal 0 16 4294967295, .wtFollow 0 16 4294967295,
    .ptpPorts 0 16 4294967295, .streamOpen 0 16 4294967295, .streamClose 0 16 4294967295, .mcastJoin 0 16 4294967295,
    .mcastLeave 0 16 4294967295, .decodeSetup 0 16 4294967295, .decodeReset 0 16 4294967295, .commit 0 16 4294967295,
    .canvasCommit 0 16 4294967295, .canvasJoin 0 16 4294967295 [], .commitValidate 0 16 4294967295,
    .commitValidationDone 0 16 4294967295, .canvasApply 0 16 4294967295 0 0, .canvasDrop 0 16 4294967295,
    .canvasReadyTimeout 0 16 4294967295, .canvasTransit 0 16 4294967295, .dpAux 0 16 4294967295 .nack,
    .dpRetrain 0 16 4294967295 none, .encodeOpen 0 16 4294967295, .encodeClose 0 16 4294967295,
    .encodeRefresh 0 16 4294967295, .ccSetup 0 16 4294967295, .ccStop 0 16 4294967295, .touchRebase 0 16 4294967295,
    .remoteSetup 0 16 4294967295 ⟨none, 0, 1, []⟩, .remoteClear 0 16 4294967295, .parcelOpen 0 16 4294967295,
    .parcelFeed 0 16 4294967295, .parcelAbort 0 16 4294967295, .recRead 0 16 4294967295,
    .recCatalogue 0 16 4294967295, .dumpRead 0 16 4294967295, .dumpKeep 0 16 4294967295,
    .dumpErase 0 16 4294967295] : List Instr), c.WellFormed = false := by
  decide +kernel

theorem test_ill_formed_2 : ∀ c ∈ ([
    .testStart 0 16 4294967295, .testStop 0 16 4294967295 0 0, .memInject 0 16 4294967295,
    .touchTest 0 16 4294967295 [] [], .adcSelfCheck 0 16 4294967295 [], .fenceWrite 0 1024 0,
    .forwardedCommandReceived 0 512 15 (List.replicate 64 0),
    .forwardedCommandReceived 0 511 16 (List.replicate 64 0),
    .forwardedCommandReceived 0 511 15 (List.replicate 63 0),
    .forwardedCommandReceived 0 511 15 (List.replicate 65 0), .bootStart 0 4 false, .ptpMessageReceived 0 2 3 .delay,
    .ptpMessageReceived 0 1 4 .delay, .ptpReceiptTimeout 0 2, .ethFrameReceived 0 4 0 .other,
    .launchFrameSubmit 0 4 281474976710655 [] false, .launchFrameSubmit 0 3 281474976710656 [] false,
    .launchTimeReached 0 4, .ethCtrlWrite 0 4 0, .ethLinkLost 0 4, .ethLinkUp 0 4, .replayTimeout 0 4,
    .envelopeReceived 0 4, .announceReceived 0 4 ⟨0, 0, 0, 0, 0, 0, 0⟩, .timeExchangeTimer 0 4,
    .timeEnvelopeReceived 0 4 0 0 0 0, .paentAttemptStart 0 4, .paentSweepDone 0 4 [], .paentAlignDone 0 4 [],
    .paentGoReceived 0 4 ⟨0, 0, 0, 0, 0⟩, .paentStepTimeout 0 4, .paentAttemptTimeout 0 4, .paentRetryTimer 0 4,
    .paentRetrain 0 4 0, .paentHold 0 4 0, .paentTxSleep 0 4 0, .paentTxWake 0 4 0, .paentRxSleep 0 4 0,
    .paentRxWake 0 4 0, .paentWakeTimeout 0 4] : List Instr), c.WellFormed = false := by
  decide +kernel

theorem test_ill_formed_3 : ∀ c ∈ ([
    .flitSend 0 4 0, .trigApply 0 16 0, .triggerEvent 0 16, .triggerPulseEnd 0 16, .captureEdge 0 16 false,
    .capTimeLoRead 0 16, .refActivityLost 0 12, .refFreqGate 0 12 0, .refWtrExpiry 0 12, .refCfgApply 0 12 0,
    .flowApply 0 1024 0, .frameHoldExpiry 0 256 4294967295, .assemblyTimeout 0 256 4294967295, .legInactive 0 256 1,
    .legInactive 0 255 2, .decodeStart 0 8, .decodeComplete 0 8 ⟨false, false, false, []⟩, .decodeEngineTimeout 0 8,
    .decodeEngineParity 0 8, .decodeNoSlotTimeout 0 256, .headFrameBoundary 0 32 4294967295,
    .headFrameStart 0 32 4294967295, .lineRelease 0 32 4294967295 0, .lineComposed 0 32 4294967295 0,
    .lineRead 0 32 4294967295 0 false, .leaseEnd 0 2048, .canvasAccept 0 16 4294967295 511 0 ⟨0, 0, 0, 0, 0⟩,
    .canvasAccept 0 8223 4294967295 512 0 ⟨0, 0, 0, 0, 0⟩, .canvasAppliedReport 0 16 4294967295 511 0 false,
    .canvasAppliedReport 0 8223 4294967295 512 0 false, .canvasMemberTimeout 0 16 4294967295 511,
    .canvasMemberTimeout 0 8223 4294967295 512, .canvasReportTimeout 0 16 4294967295 511,
    .canvasReportTimeout 0 8223 4294967295 512, .scalerParityError 0 128, .headOutFmtWrite 0 32 0,
    .modeChangeBoundary 0 32, .modeChangeLinkReady 0 32, .hpdRise 0 16 none,
    .hpdIrq 0 16 false none] : List Instr), c.WellFormed = false := by
  decide +kernel

theorem test_ill_formed_4 : ∀ c ∈ ([
    .hpdUnplug 0 16, .trainingConfigDone 0 16 false, .trainingConfigTimeout 0 16, .trainRetryTimer 0 16 none,
    .dpPortClockLost 0 16, .dpPortClockReturn 0 16 none, .dpCtrlApply 0 16 0 none, .tasterCompare 0 1024 4294967295,
    .sspRead 0 4096, .encodeRowReady 0 256 4294967295 0 [], .encodeRowCoded 0 2 ⟨[], [], false⟩,
    .encodeEngineTimeout 0 2, .encodeEngineParity 0 2, .touchScanStart 0 2, .touchScanProcessed 0 2 [],
    .touchScanRelease 0 2, .touchSimmerScan 0 2 [], .touchPortEnable 0 2 0, .touchPortDisable 0 2 0,
    .touchApply 0 2 0, .gpioInputChange 0 32 false, .gpioDebounceExpiry 0 32, .commandFrameBuilt 0 4,
    .flitReceived 0 4 (List.replicate 64 0), .flitReceived 0 3 (List.replicate 63 0),
    .flitReceived 0 3 (List.replicate 65 0), .laneSlip 0 4 5 0, .laneSlip 0 3 6 0, .paentTrainingFrame 0 4 5 [],
    .paentTrainingFrame 0 3 6 [], .laneLos 0 4 5 false, .laneLos 0 3 6 false, .laneLol 0 4 5 false,
    .laneLol 0 3 6 false, .laneLoa 0 4 5 0, .laneLoa 0 3 6 0, .heartbeatWireFrame 0 (List.replicate 5 0),
    .heartbeatWireFrame 0 (List.replicate 7 0), .interlockLevelChange 0 3 2,
    .interlockLevelChange 0 2 3] : List Instr), c.WellFormed = false := by
  decide +kernel

theorem test_ill_formed_5 : ∀ c ∈ ([
    .dramReadError 0 1073741824 1 .clean, .dramReadError 0 1073741823 2 .clean, .dramWcrcAlert 0 8 1 0,
    .dramWcrcAlert 0 7 2 0, .dramTempRead 0 8 1 [], .dramTempRead 0 7 2 [], .dramDriftCheck 0 8 1 0,
    .dramDriftCheck 0 7 2 0, .dramRetrainStep 0 8 1 false, .dramRetrainStep 0 7 2 false, .dramRefresh 0 8 1 31 false,
    .dramRefresh 0 7 2 31 false, .dramRefresh 0 7 1 32 false, .dramPatrolScrub 0 1073741824 .clean,
    .fsScrub 0 64 4159 0 0, .fsScrub 0 63 4160 0 0, .checkerUpdateEnter 0 6 0, .checkerUpdateExit 0 6 0,
    .checkerClosedTimeout 0 6, .regionRegisterWrite 0 6 63 2 0, .regionRegisterWrite 0 5 64 2 0,
    .regionRegisterWrite 0 5 63 3 0, .parcelFeedComplete 0 4 false, .crcCtrlWrite 0 8 0, .crcData8 0 8 0,
    .crcData16 0 8 0, .crcData32 0 8 0, .crcResultRead 0 8 false, .composeEngineParity 0 6, .feedAboveTurnOn 0 2,
    .feedAccepted 0 2, .feedTurnOff 0 2, .feedOvervoltage 0 2] : List Instr), c.WellFormed = false := by
  decide +kernel

/-! ### Worked examples of the manual -/

/-- The bytes "123456789". -/
def digits : List Byte := [0x31, 0x32, 0x33, 0x34, 0x35, 0x36, 0x37, 0x38, 0x39]

/-- R412: the check values of the four presets. -/
theorem test_crc_checks :
    [0, 1, 2, 3].map (fun p => crcOf p digits) = [0xCBF43926, 0xE3069283, 0x29B1, 0xF4] := by decide +kernel

/-- R413, and the example after R415: the last byte of "123456789" written to CRC_DATA8 under preset 1. -/
theorem test_crc_data8 :
    (match exec (.crcData8 0 2 0xFFFFFF39) (st (up.setReg R.CRC_CTRL 1 2 |>.setReg R.CRC_COUNT 8 2
        |>.setReg R.CRC_RESULT (crcOf 1 (digits.take 8)) 2)) with
      | .next s => some (s.dev.reg R.CRC_RESULT 2, s.dev.reg R.CRC_COUNT 2)
      | _ => none) = some (0xE3069283, 9) := by decide +kernel

/-- 00_scope, after R8: a short time that has wrapped is later. -/
theorem test_short_time : sdiff 48 0x000000000100 0xFFFFFFFFFF00 = 512 := by decide +kernel

/-- 18_memory, the example of R363: PA 0x9_A5C3_E7C0, and the next 4 KiB block. -/
theorem test_dram_mapping :
    let l := 0x9A5C3E7C0 / 64
    [chanOf l, bankGroupOf l, bankOf l, Machine.rowOf l, colOf l, chanOf (0x9A5C3F7C0 / 64)] =
      [4, 7, 0, 0x9A5C, 31, 5] := by decide +kernel

/-- 07_decode, the example of R133: the pool of a 1920×1080 Main 10 context. -/
theorem test_decode_pool :
    let s : Setup := ⟨true, 5, 2, 1920, 1080, 1, 0, 0⟩
    [s.slots, s.ha, s.pitch, s.motion, s.slotSize, s.poolSize] = [9, 1088, 3840, 130560, 6402048, 57683968] := by
  decide +kernel

/-- 15_paent_system, the example of R313: RES of a 1920×1080 Main 10 source at 25 Hz. -/
theorem test_paent_res : resOf 6220864 25 1 = 1429 := by decide +kernel

/-- 14_operator_io, the example of control cycles: +3.000 V at OVS 2 is code 38,400. -/
theorem test_adc_code :
    adcData 0x82000000 (List.replicate 4 38400) = 0x80000000 + 38400 ∧
    adcData 0x82000000 (List.replicate 4 200000) = 0xC0000000 + 131071 := by decide +kernel

/-- 09_pixel_pipeline, the example of R182: positions of an unscaled box and of a twofold enlargement. -/
theorem test_scaler_positions :
    boxFactor false 1920 960 = 2 ∧ scalePos 1920 960 2 7 = (7, 0) ∧ scalePos 1080 2160 1 0 = (-1, 48) ∧
    scalePos 1080 2160 1 1 = (0, 16) := by decide +kernel

/-- 09_pixel_pipeline, the example of R186: normalising and the matrix. -/
theorem test_pixel_matrix :
    let y := normY false 10 580
    let cb := normC false 10 480
    let cr := normC false 10 560
    (y, cb, cr) = (38603, -2341, 3511) ∧ toRgb 0 y cb cr = ⟨44132, 37398, 34259, one16⟩ := by decide +kernel

/-- The same example: the transfer function, and blending at OPACITY 0xC000. -/
theorem test_pixel_blend :
    linearise 0 2 0 0 ⟨44132, 37398, 34259, one16⟩ = ⟨25371, 17052, 13816, one16⟩ ∧
    blend 0xC000 ⟨4096, 4096, 4096, one16⟩ ⟨25371, 17052, 13816, one16⟩ = ⟨20052, 13813, 11386, one16⟩ := by
  decide +kernel

/-- The same example: the stored words of columns 1,205 and 1,204. -/
theorem test_pixel_stored :
    storedWord 1 true true 1205 300 ⟨20052, 13813, 11386, one16⟩ = 0x25B7F1D0 ∧
    storedWord 1 true true 1204 300 ⟨20052, 13813, 11386, one16⟩ = 602 * 2 ^ 20 + 507 * 2 ^ 10 + 464 := by
  decide +kernel

/-- 12_freshness, the example of R233: cases a, b, d and e. -/
theorem test_freshness :
    [(47200800 : Int), 63000000, 246000000].map (fun a => decideFresh 0 60000 200000 (some a) false false) =
      [frLive, frLate, frStale] ∧ decideFresh 0 60000 200000 none false false = frStale := by decide +kernel


/-! ### States and operands that meet the hypotheses of each statement, clause by clause -/

theorem test_meets_StepRunsFront :
    (∃ (c : Instr) (rest : List Instr) (s : State), s.pending = c :: rest) ∧
    (∃ s : State, s.pending = []) :=
  ⟨⟨.fsRefresh 0, [.powerGood 0], { State.reset with pending := [.fsRefresh 0, .powerGood 0] }, rfl⟩,
   ⟨State.reset, rfl⟩⟩

theorem test_meets_RegistersAreWords :
    (∃ (off i j : Nat) (row : RegRow), regAt off = some (row, i, j)) ∧
    (∃ (off i j : Nat) (row : RegRow) (s : State), s.dev.Reaches off ∧ off < 2 ^ 25 ∧ regAt off = some (row, i, j)) ∧
    (∃ (off size : Nat) (s : State), s.dev.hostAlive = true ∧ (size ≠ 4 ∨ off % 4 ≠ 0)) ∧
    (∃ (off size : Nat) (s : State), s.dev.hostAlive = true ∧ (size ≠ 4 ∨ off % 4 ≠ 0)) :=
  ⟨⟨0x100800, 0, 0, regRow R.FWD_TIMEOUT, by decide +kernel⟩,
   ⟨0x100800, 0, 0, regRow R.FWD_TIMEOUT, st up, ⟨by decide +kernel, by decide +kernel, by decide +kernel⟩,
     by decide +kernel⟩,
   ⟨0x100802, 4, st up, by decide +kernel⟩,
   ⟨0x100800, 8, st up, by decide +kernel⟩⟩

theorem test_meets_StepKeepsMemory :
    ∃ s s' : State, s.MemOk ∧ step s = .next s' :=
  ⟨State.reset, State.reset, by unfold State.MemOk; decide +kernel, rfl⟩

theorem test_meets_TimeNeverRunsBack :
    ∃ s s' : State, step s = .next s' :=
  ⟨State.reset, State.reset, rfl⟩

theorem test_meets_SealedStaysSealed :
    ∃ s s' : State, s.dev.boot.isSealed = true ∧ step s = .next s' :=
  ⟨st { up with boot := { up.boot with isSealed := true } }, st { up with boot := { up.boot with isSealed := true } },
    by decide +kernel, rfl⟩

theorem test_meets_RecorderIsNeverCleared :
    ∃ (s s' : State) (i : Nat) (v : FlashSlot), s.dev.FlashFilled ∧ step s = .next s' ∧
      tabGet? s.dev.recd.flash i = some v :=
  ⟨st (({ up with recd := { up.recd with flash := [(0, .torn)] } } : Dev).setReg R.REC_FLASH_USED 1),
    st (({ up with recd := { up.recd with flash := [(0, .torn)] } } : Dev).setReg R.REC_FLASH_USED 1), 0, .torn,
    by unfold Dev.FlashFilled; decide +kernel, rfl, by decide +kernel⟩

theorem test_meets_RegisterAccesses :
    (∃ (off i j : Nat) (row : RegRow) (v : Word) (s : State), s.dev.Reaches off ∧ off % 4 = 0 ∧ off < 2 ^ 25 ∧
      s.dev.Alone ∧ (regAt off = some (row, i, j)) ∧ row.reg ∉ ownWrites ∧ s.dev.takes row.reg i v.toNat = true) ∧
    (∃ (off : Nat) (s : State), s.dev.Reaches off ∧ off % 4 = 0 ∧ off < 2 ^ 25 ∧ mirrored off = false ∧
      regAt off = none) ∧
    (∃ (off size : Nat) (s : State), s.dev.hostAlive = true ∧ (size ≠ 4 ∨ off % 4 ≠ 0 ∨ 2 ^ 25 ≤ off)) ∧
    (∃ (off i j : Nat) (row : RegRow) (s : State), s.dev.Reaches off ∧ off % 4 = 0 ∧ off < 2 ^ 25 ∧
      (regAt off = some (row, i, j)) ∧ (∀ p ∈ latchPairs, row.reg ≠ p.1) ∧ row.reg ∉ latchMore) ∧
    (∃ (off i j : Nat) (row : RegRow) (hi : RegDesc) (s : State), s.dev.Reaches off ∧ off % 4 = 0 ∧ off < 2 ^ 25 ∧
      (regAt off = some (row, i, j)) ∧ ((row.reg, hi) ∈ latchPairs)) ∧
    (∃ (off size : Nat) (s : State), s.dev.hostAlive = true ∧ (size ≠ 4 ∨ off % 4 ≠ 0 ∨ 2 ^ 25 ≤ off)) :=
  ⟨⟨0x100800, 0, 0, (regRow R.FWD_TIMEOUT), 10000, (st up), ⟨by decide +kernel, by decide +kernel, by decide +kernel⟩,
     by decide +kernel, by decide +kernel, by unfold Dev.Alone; decide +kernel, by decide +kernel⟩,
   ⟨0x1FFFFFC, (st up), ⟨by decide +kernel, by decide +kernel, by decide +kernel⟩, by decide +kernel⟩,
   ⟨0x100800, 8, (st up), by decide +kernel⟩,
   ⟨0x100800, 0, 0, (regRow R.FWD_TIMEOUT), (st up), ⟨by decide +kernel, by decide +kernel, by decide +kernel⟩,
     by decide +kernel⟩,
   ⟨(R.CHK_FAULT_LO.off 5 0), 5, 0, (regRow R.CHK_FAULT_LO), R.CHK_FAULT_HI, (st up), ⟨by decide +kernel,
     by decide +kernel, by decide +kernel⟩, by decide +kernel⟩,
   ⟨0x100802, 4, (st up), by decide +kernel⟩⟩

theorem test_meets_ConfigAndBar2 :
    (∃ (s : State), s.dev.hostAlive = true) ∧
    (∃ (off len : Nat) (s : State), s.dev.hostAlive = true ∧ off + len ≤ 2 ^ s.dev.host.bar2Log2 ∧
      Readable s.dev s.mem 0 (s.dev.bar2Pa off) len) ∧
    (∃ (off len : Nat) (s : State), s.dev.hostAlive = true ∧ off + len ≤ 2 ^ s.dev.host.bar2Log2 ∧
      s.dev.chkClosed 0 = false ∧ s.dev.denials 0 false (s.dev.bar2Pa off) len ≠ []) ∧
    (∃ (off : Nat) (bs : List Byte) (s : State), s.dev.hostAlive = true ∧ off + bs.length ≤ 2 ^ s.dev.host.bar2Log2 ∧
      Writable s.dev s.mem 0 (s.dev.bar2Pa off) bs.length) ∧
    (∃ (s : State), s.dev.Reaches 0x48) :=
  ⟨⟨(st up), by decide +kernel⟩,
   ⟨2 ^ 30 - 2, 2, (st up), by decide +kernel, by decide +kernel, ⟨by decide +kernel, by decide +kernel,
     by decide +kernel⟩⟩,
   ⟨0, 1, (st (up.put R.CHK_STATUS_ENFORCING 1 0)), by decide +kernel⟩,
   ⟨2 ^ 30 - 2, [1, 2], (st up), by decide +kernel, by decide +kernel, ⟨by decide +kernel, by decide +kernel,
     by decide +kernel, by decide +kernel⟩⟩,
   ⟨(st up), ⟨by decide +kernel, by decide +kernel, by decide +kernel⟩⟩⟩

theorem test_meets_QueueRegisters :
    (∃ (q : Nat) (s : State), q ≤ 16 ∧ s.dev.Reaches 0x100000 ∧ s.dev.on R.Q_CTRL_ENABLE q = false ∧
      s.dev.qState q = qDisabled ∧ (s.dev.queue q).cmds = [] ∧ (s.dev.queue q).records = [] ∧ s.dev.lay.held = []) ∧
    (∃ (q : Nat) (s : State), q < 16 ∧ s.dev.Reaches 0x100000 ∧ s.dev.Alone ∧ s.dev.on R.Q_CTRL_ENABLE q = true ∧
      s.dev.qState q = qRunning ∧ ((s.dev.queue q).cmds.map (·.seq)).Nodup) ∧
    (∃ (q : Nat) (s : State), q < 16 ∧ s.dev.Reaches 0x110000 ∧ s.dev.qState q = qRunning) ∧
    (∃ (q : Nat) (s : State), q ≤ 16 ∧ s.dev.Reaches 0x110000 ∧ s.dev.qState q = qRunning ∧
      (s.dev.queue q).cmds = [] ∧ (s.dev.queue q).records = [] ∧ s.dev.lay.held = []) ∧
    (∃ (f : Nat) (s : State), f < 1024 ∧ s.dev.Reaches (R.FENCE_VAL.off f 0) ∧ s.dev.Alone) :=
  ⟨⟨16, (st up), by decide +kernel, ⟨by decide +kernel, by decide +kernel, by decide +kernel⟩, by decide +kernel⟩,
   ⟨15, (on (cmd 0 []) ((up.put R.Q_CTRL_ENABLE 1 15).put R.Q_STATUS_STATE 1 15)), by decide +kernel,
     ⟨by decide +kernel, by decide +kernel, by decide +kernel⟩, by unfold Dev.Alone; decide +kernel,
     by decide +kernel⟩,
   ⟨15, (st (up.put R.Q_STATUS_STATE 1 15)), by decide +kernel, ⟨by decide +kernel, by decide +kernel,
     by decide +kernel⟩, by decide +kernel⟩,
   ⟨16, (st (up.put R.Q_STATUS_STATE 1 16)), by decide +kernel, ⟨by decide +kernel, by decide +kernel,
     by decide +kernel⟩, by decide +kernel⟩,
   ⟨1023, (st up), by decide +kernel, ⟨by decide +kernel, by decide +kernel, by decide +kernel⟩,
     by unfold Dev.Alone; decide +kernel⟩⟩

theorem test_meets_QueueEntries :
    (∃ (q : Nat) (s : State), q < 16 ∧ s.dev.qState q = qRunning ∧
      s.dev.get R.Q_STATUS_SQ_HEAD q ≠ (s.dev.queue q).sqTail ∧ s.dev.cqFull q = false ∧ s.dev.host.busMaster = true ∧
      s.dev.queueActs = true ∧ s.dev.clockOn 6 = true ∧ s.dev.get R.Q_CTRL_SQ_LOG2 q ≤ 12) ∧
    (∃ (q : Nat) (c : Cmd) (rest : List Cmd) (o : Outcome) (s : State), q < 16 ∧ s.dev.Writes q ∧
      (s.dev.queue q).cmds = c :: rest ∧ c.st = .done ∧ c.out = some o ∧ c.awaiting = false ∧ c.entryErr = false ∧
      s.dev.qState q ≠ qDraining ∧ c.relFence < 1024 ∧ c.badField = none) :=
  ⟨⟨15,
     (st ((up.put R.Q_STATUS_STATE 1 15 |>.put R.Q_CTRL_SQ_LOG2 12 15 |>.put R.Q_CTRL_CQ_LOG2 12 15).setQueue 15 { Queue.init with sqTail := 1 })),
     by decide +kernel⟩,
   ⟨15, { cmd 0 [] with st := .done, out := some ⟨0, 0, 0, 0, 0⟩, flags := 2, relFence := 1023 }, [], ⟨0, 0, 0, 0, 0⟩,
     (on ({ cmd 0 [] with st := .done, out := some ⟨0, 0, 0, 0, 0⟩, flags := 2, relFence := 1023 }) (up.put R.Q_STATUS_STATE 1 15 |>.put R.Q_CTRL_CQ_LOG2 4 15)),
     by decide +kernel, (⟨by decide +kernel, by decide +kernel, by decide +kernel⟩), by decide +kernel⟩⟩

theorem test_meets_CommandLife :
    (∃ (t q seq : Nat) (c : Cmd) (s : State), s.dev.cmd? q seq = some c ∧ c.st = .waiting ∧
      isNext (s.dev.queue q).cmds seq = true ∧ c.badField = none ∧ c.remote = false ∧ c.opcode ∈ knownOpcodes ∧
      s.dev.phase = phaseRunning ∧ (∀ n, opDomain c.opcode = some n → s.dev.clockOn n = true) ∧ (∀ n,
      opCore c.opcode = some n → s.dev.coreState n < 2) ∧
      (c.deadline = 0 ∨ later 48 (s.dev.clock t).wt48 c.deadline = false)) ∧
    (∃ (q seq : Nat) (c : Cmd) (s : State), q < 16 ∧ (s.dev.queue q).cmds.find? (fun x => x.seq == seq) = some c ∧
      c.st = .waiting ∧ isNext (s.dev.queue q).cmds seq = true ∧ c.badField = none ∧ c.remote = false ∧
      c.opcode ∉ knownOpcodes ∧ c.acqEn = false ∧ c.deadline = 0 ∧ s.dev.Alone) ∧
    (∃ (t q seq : Nat) (c : Cmd) (s : State), q < 16 ∧ (s.dev.queue q).cmds.find? (fun x => x.seq == seq) = some c ∧
      c.st = .waiting ∧ c.deadline ≠ 0 ∧ later 48 c.deadline (s.dev.clock t).wt48 = false ∧
      s.dev.commitBusy q seq = false ∧ s.dev.Alone) ∧
    (∃ (q seq : Nat) (c : Cmd) (s : State), s.dev.Running q seq c.opcode c ∧ c.hostData = none) ∧
    (∃ (q seq : Nat) (c : Cmd) (s : State), s.dev.Running q seq c.opcode c ∧ s.dev.Alone) ∧
    (∃ (q : Nat) (s : State), q ≤ 16 ∧ s.dev.qState q = qRunning) ∧
    (∃ (q : Nat) (s : State), q ≤ 16 ∧ s.dev.qState q = qRunning) :=
  ⟨⟨0, 15, 7, { cmd 0 [] with st := .waiting }, (on ({ cmd 0 [] with st := .waiting }) up), by decide +kernel,
     by decide +kernel, by decide +kernel, by decide +kernel, by decide +kernel, by decide +kernel, by decide +kernel,
     (by intro n h; exact absurd h (by decide +revert +kernel)), (by intro n h; cases h; decide +kernel),
     by decide +kernel⟩,
   ⟨15, 7, { cmd 0xFFFF [] with st := .waiting }, (on ({ cmd 0xFFFF [] with st := .waiting }) up), by decide +kernel,
     by decide +kernel, by decide +kernel, by decide +kernel, by decide +kernel, by decide +kernel, by decide +kernel,
     by decide +kernel, by decide +kernel, by unfold Dev.Alone; decide +kernel⟩,
   ⟨40, 15, 7, { cmd 0 [] with st := .waiting, deadline := 1 },
     (on ({ cmd 0 [] with st := .waiting, deadline := 1 }) { up with time := { TimeSt.init with wt := ⟨0, 400, 0⟩ } }),
     by decide +kernel, by decide +kernel, by decide +kernel, by decide +kernel, by decide +kernel, by decide +kernel,
     by unfold Dev.Alone; decide +kernel⟩,
   ⟨15, 7, (cmd 0 []), (on (cmd 0 []) up), ⟨by decide +kernel, by decide +kernel, by decide +kernel,
     by decide +kernel⟩, by decide +kernel⟩,
   ⟨15, 7, (cmd 0 []), (on (cmd 0 []) up), ⟨by decide +kernel, by decide +kernel, by decide +kernel,
     by decide +kernel⟩, by unfold Dev.Alone; decide +kernel⟩,
   ⟨16, (st (up.put R.Q_STATUS_STATE 1 16)), by decide +kernel⟩,
   ⟨16, (st (up.put R.Q_STATUS_STATE 1 16)), by decide +kernel⟩⟩

theorem test_meets_QueueCommands :
    (∃ (q seq : Nat) (c : Cmd) (s : State), s.dev.Running q seq 0x0000 c ∧ s.dev.Alone) ∧
    (∃ (q seq : Nat) (c : Cmd) (s : State), s.dev.Running q seq 0x0001 c ∧ s.dev.Alone ∧ c.Tail 0) ∧
    (∃ (q seq : Nat) (c : Cmd) (s : State), s.dev.Running q seq 0x0002 c ∧ s.dev.Alone ∧ c.Tail 6 ∧ c.p 0 2 < 1024) ∧
    (∃ (q seq i j : Nat) (c : Cmd) (row : RegRow) (s : State), s.dev.Running q seq 0x0005 c ∧ s.dev.Alone ∧
      c.Tail 16 ∧ c.p 0 4 % 4 = 0 ∧ c.p 0 4 < 2 ^ 25 ∧ c.p 4 4 = 1 ∧ s.dev.host.busMaster = true ∧
      s.dev.queueActs = true ∧ s.dev.offClosed (c.p 0 4) = false ∧ s.dev.offDown (c.p 0 4) = false ∧
      (regAt (c.p 0 4) = some (row, i, j)) ∧ (∀ p ∈ latchPairs, row.reg ≠ p.1) ∧ row.reg ∉ latchMore) ∧
    (∃ (q seq : Nat) (c : Cmd) (s : State), s.dev.Running q seq 0x0005 c ∧ s.dev.Alone ∧ c.p 0 4 % 4 = 0 ∧
      2 ^ 25 < c.p 0 4 + 4 * c.p 4 4) ∧
    (∃ (q seq off i j : Nat) (c : Cmd) (bs : List Byte) (row : RegRow) (s : State), s.dev.Running q seq 0x0006 c ∧
      s.dev.Alone ∧ c.tailZero 12 = true ∧ c.p 8 4 = 1 ∧ (c.hostData = some (bs, [])) ∧ leAt bs 0 4 = off ∧
      off % 4 = 0 ∧ off < 2 ^ 25 ∧ s.dev.offClosed off = false ∧ s.dev.offDown off = false ∧ (regAt off = some (row,
      i, j)) ∧ row.reg ∉ ownWrites ∧ s.dev.takes row.reg i (leAt bs 4 4) = true ∧ row.reg ≠ R.PAIR_STATUS ∧
      row.reg ≠ R.PAENT_ID) ∧
    (∃ (q seq : Nat) (c : Cmd) (bs : List Byte) (s : State), s.dev.Running q seq 0x0006 c ∧ s.dev.Alone ∧
      c.tailZero 12 = true ∧ c.p 8 4 ≠ 0 ∧ (c.hostData = some (bs, [])) ∧
      (leAt bs 0 4 % 4 ≠ 0 ∨ 2 ^ 25 ≤ leAt bs 0 4)) ∧
    (∃ (origin oq : Nat) (e : List Byte) (s : State), let c := Cmd.ofEntry e s.dev.host.accepted;
      let key := if c.retry then c.origSeq else c.seq; ∃ r,
      s.dev.host.fwdKept.find? (fun r => r.origin == origin && r.queue == oq && r.seq == key) = some r) ∧
    (∃ (origin oq : Nat) (e : List Byte) (s : State), let c := Cmd.ofEntry e s.dev.host.accepted;
      let key := if c.retry then c.origSeq else c.seq;
      s.dev.host.fwdKept.find? (fun r => r.origin == origin && r.queue == oq && r.seq == key) = none) ∧
    (∃ (q seq : Nat) (c : Cmd) (s : State), q < 16 ∧ (s.dev.queue q).cmds.find? (fun x => x.seq == seq) = some c ∧
      c.st = .forwarded ∧ s.dev.Alone) :=
  ⟨⟨15, 7, (cmd 0 []), (on (cmd 0 []) up), ⟨by decide +kernel, by decide +kernel, by decide +kernel,
     by decide +kernel⟩, by unfold Dev.Alone; decide +kernel⟩,
   ⟨15, 7, (cmd 1 []), (on (cmd 1 []) up), ⟨by decide +kernel, by decide +kernel, by decide +kernel,
     by decide +kernel⟩, by unfold Dev.Alone; decide +kernel, by unfold Cmd.Tail; decide +kernel⟩,
   ⟨15, 7, (cmd 2 [0xFF, 3, 1]), (on (cmd 2 [0xFF, 3, 1]) up), ⟨by decide +kernel, by decide +kernel,
     by decide +kernel, by decide +kernel⟩, by unfold Dev.Alone; decide +kernel, by unfold Cmd.Tail; decide +kernel,
     by decide +kernel⟩,
   ⟨15, 7, 0, 0, (cmd 5 [0, 8, 16, 0, 1, 0, 0, 0, 0, 0, 0, 0, 0, 0, 0, 0]), (regRow R.FWD_TIMEOUT), (on (cmd 5 [0, 8,
     16, 0, 1, 0, 0, 0, 0, 0, 0, 0, 0, 0, 0, 0]) up), ⟨by decide +kernel, by decide +kernel, by decide +kernel,
     by decide +kernel⟩, by unfold Dev.Alone; decide +kernel, by unfold Cmd.Tail; decide +kernel, by decide +kernel⟩,
   ⟨15, 7, (cmd 5 [252, 255, 255, 1, 2, 0, 0, 0, 0, 0, 0, 0, 0, 0, 0, 0]), (on (cmd 5 [252, 255, 255, 1, 2, 0, 0, 0,
     0, 0, 0, 0, 0, 0, 0, 0]) up), ⟨by decide +kernel, by decide +kernel, by decide +kernel, by decide +kernel⟩,
     by unfold Dev.Alone; decide +kernel, by decide +kernel⟩,
   ⟨15, 7, 0x100800, 0, 0, (cmd 6 [0, 0, 0, 0, 0, 0, 0, 0, 1, 0, 0, 0] (some ([0, 8, 16, 0, 16, 39, 0, 0], []))), [0,
     8, 16, 0, 16, 39, 0, 0], (regRow R.FWD_TIMEOUT), (on (cmd 6 [0, 0, 0, 0, 0, 0, 0, 0, 1, 0, 0, 0] (some ([0, 8,
     16, 0, 16, 39, 0, 0], []))) up), ⟨by decide +kernel, by decide +kernel, by decide +kernel, by decide +kernel⟩,
     by unfold Dev.Alone; decide +kernel, by decide +kernel⟩,
   ⟨15, 7, (cmd 6 [0, 0, 0, 0, 0, 0, 0, 0, 1, 0, 0, 0] (some ([2, 0, 0, 0, 0, 0, 0, 0], []))), [2, 0, 0, 0, 0, 0, 0,
     0], (on (cmd 6 [0, 0, 0, 0, 0, 0, 0, 0, 1, 0, 0, 0] (some ([2, 0, 0, 0, 0, 0, 0, 0], []))) up),
     ⟨by decide +kernel, by decide +kernel, by decide +kernel, by decide +kernel⟩,
     by unfold Dev.Alone; decide +kernel, by decide +kernel⟩,
   ⟨511, 15, [], (st { up with host := { up.host with fwdKept := [⟨511, 15, 0, ⟨0, 0, 0, 0, 0⟩⟩] } }), ⟨511, 15, 0,
     ⟨0, 0, 0, 0, 0⟩⟩, by decide +kernel⟩,
   ⟨511, 15, [], (st up), by decide +kernel⟩,
   ⟨15, 7, { cmd 0 [] with st := .forwarded }, (on ({ cmd 0 [] with st := .forwarded }) up), by decide +kernel,
     by decide +kernel, by decide +kernel, by unfold Dev.Alone; decide +kernel⟩⟩

theorem test_meets_DmaCommands :
    (∃ (q seq : Nat) (c : Cmd) (s : State), s.dev.Running q seq 0x0004 c ∧ s.dev.Alone ∧ c.tailZero 16 = true ∧
      c.p 8 4 ≠ 0 ∧ 2 ^ 63 ≤ c.p 0 8 ∧ s.dev.boot.memoryUp = true ∧
      Writable s.dev s.mem 4 (c.p 0 8 - 2 ^ 63) (c.p 8 4)) ∧
    (∃ (q seq : Nat) (c : Cmd) (s : State), s.dev.Running q seq 0x0004 c ∧ s.dev.Alone ∧ c.tailZero 16 = true ∧
      c.p 8 4 ≠ 0 ∧ c.p 0 8 < 2 ^ 63 ∧ s.dev.host.busMaster = true ∧ s.dev.queueActs = true) ∧
    (∃ (q seq : Nat) (c : Cmd) (bs : List Byte) (s : State), s.dev.Running q seq 0x0003 c ∧ s.dev.Alone ∧
      c.tailZero 20 = true ∧ c.p 16 4 ≠ 0 ∧ c.p 0 8 < 2 ^ 63 ∧ 2 ^ 63 ≤ c.p 8 8 ∧ s.dev.boot.memoryUp = true ∧
      s.dev.host.busMaster = true ∧ (c.hostData = some (bs, [])) ∧ bs.length = c.p 16 4 ∧
      Writable s.dev s.mem 4 (c.p 8 8 - 2 ^ 63) (c.p 16 4)) ∧
    (∃ (q seq : Nat) (c : Cmd) (s : State), s.dev.Running q seq 0x0003 c ∧ s.dev.Alone ∧ c.tailZero 20 = true ∧
      c.p 16 4 ≠ 0 ∧ 2 ^ 63 ≤ c.p 0 8 ∧ c.p 8 8 < 2 ^ 63 ∧ s.dev.boot.memoryUp = true ∧ s.dev.host.busMaster = true ∧
      s.dev.queueActs = true ∧ Readable s.dev s.mem 4 (c.p 0 8 - 2 ^ 63) (c.p 16 4)) ∧
    (∃ (q seq : Nat) (c : Cmd) (s : State), s.dev.Running q seq 0x0003 c ∧ s.dev.Alone ∧ c.tailZero 20 = true ∧
      c.p 16 4 = 0) :=
  ⟨⟨15, 7, (cmd 4 [255, 255, 255, 255, 15, 0, 0, 128, 1, 0, 0, 0]), (on (cmd 4 [255, 255, 255, 255, 15, 0, 0, 128, 1,
     0, 0, 0]) up), ⟨by decide +kernel, by decide +kernel, by decide +kernel, by decide +kernel⟩,
     by unfold Dev.Alone; decide +kernel, by decide +kernel, by decide +kernel, by decide +kernel, by decide +kernel,
     ⟨by decide +kernel, by decide +kernel, by decide +kernel, by decide +kernel⟩⟩,
   ⟨15, 7, (cmd 4 [255, 255, 255, 255, 255, 255, 255, 127, 1, 0, 0, 0]), (on (cmd 4 [255, 255, 255, 255, 255, 255,
     255, 127, 1, 0, 0, 0]) up), ⟨by decide +kernel, by decide +kernel, by decide +kernel, by decide +kernel⟩,
     by unfold Dev.Alone; decide +kernel, by decide +kernel⟩,
   ⟨15, 7, (cmd 3 [0, 0, 0, 0, 0, 0, 0, 0, 0, 0, 0, 0, 0, 0, 0, 128, 1, 0, 0, 0] (some ([5], []))), [5],
     (on (cmd 3 [0, 0, 0, 0, 0, 0, 0, 0, 0, 0, 0, 0, 0, 0, 0, 128, 1, 0, 0, 0] (some ([5], []))) up),
     ⟨by decide +kernel, by decide +kernel, by decide +kernel, by decide +kernel⟩,
     by unfold Dev.Alone; decide +kernel, by decide +kernel, by decide +kernel, by decide +kernel, by decide +kernel,
     by decide +kernel, by decide +kernel, by decide +kernel, by decide +kernel, ⟨by decide +kernel,
     by decide +kernel, by decide +kernel, by decide +kernel⟩⟩,
   ⟨15, 7, (cmd 3 [0, 0, 0, 0, 0, 0, 0, 128, 0, 0, 0, 0, 0, 0, 0, 0, 1, 0, 0, 0]), (on (cmd 3 [0, 0, 0, 0, 0, 0, 0,
     128, 0, 0, 0, 0, 0, 0, 0, 0, 1, 0, 0, 0]) up), ⟨by decide +kernel, by decide +kernel, by decide +kernel,
     by decide +kernel⟩, by unfold Dev.Alone; decide +kernel, by decide +kernel, by decide +kernel, by decide +kernel,
     by decide +kernel, by decide +kernel, by decide +kernel, by decide +kernel, ⟨by decide +kernel,
     by decide +kernel, by decide +kernel⟩⟩,
   ⟨15, 7, (cmd 3 [0, 0, 0, 0, 0, 0, 0, 0, 0, 0, 0, 0, 0, 0, 0, 0, 0, 0, 0, 0]), (on (cmd 3 [0, 0, 0, 0, 0, 0, 0, 0,
     0, 0, 0, 0, 0, 0, 0, 0, 0, 0, 0, 0]) up), ⟨by decide +kernel, by decide +kernel, by decide +kernel,
     by decide +kernel⟩, by unfold Dev.Alone; decide +kernel, by decide +kernel⟩⟩

theorem test_meets_BootPhases :
    (∃ (s : State), s.dev.pwr.logicOn = true ∧ s.dev.boot.begun = false) ∧
    (∃ (s : State), s.dev.boot.begun = true ∧ s.dev.phase = 0) ∧
    (∃ (s : State), s.dev.boot.begun = true ∧ s.dev.phase = phaseFirmware) ∧
    (∃ (s : State), s.dev.phase = phaseConfigure) ∧
    (∃ (s : State), s.dev.boot.begun = true) ∧
    (∃ (s : State), s.dev.pwr.logicOn = true) ∧
    (∃ (s : State), s.dev.phase = phaseTime ∧ s.dev.wtState ≠ wtUnset ∧ s.dev.Alone) :=
  ⟨⟨(st { Dev.init with pwr := { PwrSt.init with logicOn := true } }), by decide +kernel⟩,
   ⟨(st { Dev.init with pwr := { PwrSt.init with logicOn := true }, boot := { BootSt.init with begun := true } }),
     by decide +kernel⟩,
   ⟨(st (({ Dev.init with pwr := { PwrSt.init with logicOn := true }, boot := { BootSt.init with begun := true } } : Dev).put R.BOOT_STATUS_PHASE 1)),
     by decide +kernel⟩,
   ⟨(st (up.put R.BOOT_STATUS_PHASE 3)), by decide +kernel⟩,
   ⟨(st up), by decide +kernel⟩,
   ⟨(st up), by decide +kernel⟩,
   ⟨(st (up.put R.BOOT_STATUS_PHASE 5 |>.put R.WT_STATUS_STATE 1)), by decide +kernel, by decide +kernel,
     by unfold Dev.Alone; decide +kernel⟩⟩

theorem test_meets_SlotsAndLifecycle :
    (∃ (q seq : Nat) (c : Cmd) (bs : List Byte) (s : State), s.dev.Running q seq 0x0200 c ∧ s.dev.Alone ∧ c.Tail 12 ∧
      (c.hostData = some (bs, [])) ∧ c.p 8 4 ≠ 0 ∧ min (c.p 8 4) 16777216 ≤ bs.length) ∧
    (∃ (q seq : Nat) (c : Cmd) (bs : List Byte) (s : State), s.dev.Running q seq 0x0201 c ∧ s.dev.Alone ∧ c.Tail 13 ∧
      c.p 0 1 < 4 ∧ s.dev.slotHeld (c.p 0 1) c = false ∧ (c.hostData = some (bs, [])) ∧ c.p 9 4 ≠ 0 ∧
      c.p 9 4 ≤ 16777216 ∧ c.p 9 4 ≤ bs.length ∧ s.dev.inForceSlot ≠ some (c.p 0 1)) ∧
    (∃ (q seq : Nat) (c : Cmd) (s : State), s.dev.Running q seq 0x0202 c ∧ s.dev.Alone ∧ c.Tail 1 ∧ c.p 0 1 < 4 ∧
      s.dev.slotHeld (c.p 0 1) c = false ∧ s.dev.inForceSlot ≠ some (c.p 0 1)) ∧
    (∃ (q seq : Nat) (c : Cmd) (s : State), s.dev.Running q seq 0x0203 c ∧ s.dev.Alone ∧ c.Tail 1 ∧ c.p 0 1 < 4 ∧
      s.dev.slotHeld (c.p 0 1) c = false ∧
      (sdiff 32 s.dev.boot.sel1.counter s.dev.boot.sel0.counter = 1 ∨ sdiff 32 s.dev.boot.sel1.counter s.dev.boot.sel0.counter = -1 ∨ (s.dev.boot.sel0.valid && s.dev.boot.sel1.valid) = false)) ∧
    (∃ (q seq : Nat) (c : Cmd) (s : State), s.dev.Running q seq 0x0204 c ∧ s.dev.Alone ∧ c.Tail 2 ∧ c.p 0 1 < 4 ∧
      c.p 1 1 < 2 ∧ s.dev.slotHeld (c.p 0 1) c = false ∧ s.dev.on R.PROF_STATUS_SWITCHING = false ∧
      s.dev.err.fabricRun = false) ∧
    (∃ (q seq slot : Nat) (choose : Bool) (s : State), (s.dev.boot.switch = some (q, seq, slot, choose)) ∧ slot < 4 ∧
      s.dev.enabledHeads.all s.dev.isBlank = true) ∧
    (∃ (s : State), s.dev.boot.switch = none ∧ s.dev.err.fabricRun = true) ∧
    (∃ (q seq : Nat) (c : Cmd) (bs : List Byte) (s : State), s.dev.Running q seq 0x0205 c ∧ s.dev.Alone ∧ c.Tail 9 ∧
      c.p 8 1 < 16 ∧ (c.hostData = some (bs, [])) ∧ 192 ≤ bs.length) :=
  ⟨⟨15, 7, (cmd 0x200 [0, 0, 0, 0, 0, 0, 0, 0, 1, 0, 0, 0] (some ([0], []))), [0], (on (cmd 0x200 [0, 0, 0, 0, 0, 0,
     0, 0, 1, 0, 0, 0] (some ([0], []))) up), ⟨by decide +kernel, by decide +kernel, by decide +kernel,
     by decide +kernel⟩, by unfold Dev.Alone; decide +kernel, by unfold Cmd.Tail; decide +kernel, by decide +kernel⟩,
   ⟨15, 7, (cmd 0x201 [3, 0, 0, 0, 0, 0, 0, 0, 0, 1, 0, 0, 0] (some ([0], []))), [0], (on (cmd 0x201 [3, 0, 0, 0, 0,
     0, 0, 0, 0, 1, 0, 0, 0] (some ([0], []))) up), ⟨by decide +kernel, by decide +kernel, by decide +kernel,
     by decide +kernel⟩, by unfold Dev.Alone; decide +kernel, by unfold Cmd.Tail; decide +kernel, by decide +kernel⟩,
   ⟨15, 7, (cmd 0x202 [3]), (on (cmd 0x202 [3]) up), ⟨by decide +kernel, by decide +kernel, by decide +kernel,
     by decide +kernel⟩, by unfold Dev.Alone; decide +kernel, by unfold Cmd.Tail; decide +kernel, by decide +kernel⟩,
   ⟨15, 7, (cmd 0x203 [3]), (on (cmd 0x203 [3]) up), ⟨by decide +kernel, by decide +kernel, by decide +kernel,
     by decide +kernel⟩, by unfold Dev.Alone; decide +kernel, by unfold Cmd.Tail; decide +kernel, by decide +kernel⟩,
   ⟨15, 7, (cmd 0x204 [3, 1]), (on (cmd 0x204 [3, 1]) up), ⟨by decide +kernel, by decide +kernel, by decide +kernel,
     by decide +kernel⟩, by unfold Dev.Alone; decide +kernel, by unfold Cmd.Tail; decide +kernel, by decide +kernel⟩,
   ⟨15, 7, 3, true, (st { up with boot := { up.boot with switch := some (15, 7, 3, true) } }), by decide +kernel⟩,
   ⟨(st { up with err := { up.err with fabricRun := true } }), by decide +kernel⟩,
   ⟨15, 7, (cmd 0x205 [0, 0, 0, 0, 0, 0, 0, 0, 15] (some ((List.replicate 192 0), []))), (List.replicate 192 0),
     (on (cmd 0x205 [0, 0, 0, 0, 0, 0, 0, 0, 15] (some ((List.replicate 192 0), []))) up), ⟨by decide +kernel,
     by decide +kernel, by decide +kernel, by decide +kernel⟩, by unfold Dev.Alone; decide +kernel,
     by unfold Cmd.Tail; decide +kernel, by decide +kernel⟩⟩

theorem test_meets_TimeDomains :
    (∃ (dom port : Nat) (s : State), dom < 2 ∧ s.dev.domRuns dom = true ∧ phaseTime ≤ s.dev.phase ∧
      s.dev.phase ≤ phaseRunning ∧ bit (s.dev.ptp dom).mask port = true) ∧
    (∃ (dom port : Nat) (s : State), dom < 2 ∧ s.dev.domRuns dom = true ∧ phaseTime ≤ s.dev.phase ∧
      s.dev.phase ≤ phaseRunning ∧ bit (s.dev.ptp dom).mask port = true) ∧
    (∃ (dom : Nat) (s : State), dom < 2 ∧ s.dev.domRuns dom = true) ∧
    (∃ (t : Nat) (s : State), s.dev.wtState = wtUnset ∧ s.dev.phase = phaseTime ∧
      s.dev.boot.mInst + 30 * qS ≤ max s.dev.now t ∧ s.dev.qual 0 = false ∧ s.dev.qual 1 = false) ∧
    (∃ (t : Nat) (s : State), s.dev.wtState = wtNoPtp ∧ s.dev.get R.WT_STATUS_TRUST_EXPIRED = 0 ∧
      s.dev.time.noPtpAt + s.dev.reg R.TIME_HOLDOVER_TRUST * qMs ≤ max s.dev.now t) ∧
    (∃ (t : Nat) (s : State), s.dev.get R.WT_STATUS_SLEWING = 1 ∧ (s.dev.time.freq.natAbs : Int) ≤ rateLimit ∧
      (s.dev.time.phase.natAbs : Int) ≤ slopeLimit (max s.dev.now t - s.dev.time.rateAt)) :=
  ⟨⟨0, 3, (st { up with time := { TimeSt.init with dom0 := { TimeSt.init.dom0 with mask := 8 } } }),
     by decide +kernel⟩,
   ⟨0, 3, (st { up with time := { TimeSt.init with dom0 := { TimeSt.init.dom0 with mask := 8 } } }),
     by decide +kernel⟩,
   ⟨0, (st up), by decide +kernel⟩,
   ⟨30 * qS, (st (up.put R.BOOT_STATUS_PHASE 5)), by decide +kernel⟩,
   ⟨10000 * qMs, (st (up.put R.WT_STATUS_STATE 3)), by decide +kernel⟩,
   ⟨0, (st (up.put R.WT_STATUS_SLEWING 1)), by decide +kernel⟩⟩

theorem test_meets_TimeControl :
    (∃ (q seq : Nat) (c : Cmd) (s : State), s.dev.Running q seq 0x0300 c ∧ s.dev.Alone ∧ c.Tail 1 ∧ c.p 0 1 < 2 ∧
      s.dev.domRuns (c.p 0 1) = true) ∧
    (∃ (q seq : Nat) (c : Cmd) (s : State), s.dev.Running q seq 0x0301 c ∧ s.dev.Alone ∧ c.Tail 6 ∧ c.p 0 1 < 2 ∧
      s.dev.domRuns (c.p 0 1) = true ∧ c.p 1 1 < 16 ∧ c.p 2 1 < 3 ∧ c.p 3 1 < 2 ∧
      (c.p 4 2 ≤ 4094 ∨ c.p 4 2 = 0xFFFF) ∧ transportOk s.dev.img.ptpProfile (c.p 2 1) = true ∧
      (s.dev.img.tb0Domain ≠ s.dev.img.tb1Domain ∨ s.dev.domRuns (1 - c.p 0 1) = false)) ∧
    (∃ (v : Word) (s : State), s.dev.Reaches 0x300018 ∧ bit v.toNat 0 = true) ∧
    (∃ (s : State), s.dev.Reaches 0x3000CC ∧ s.dev.Alone) ∧
    (∃ (s : State), s.dev.Reaches 0x3000B4 ∧ s.dev.Alone) ∧
    (∃ (s : State), s.dev.Reaches 0x3000D0 ∧ s.dev.Alone) :=
  ⟨⟨15, 7, (cmd 0x300 [0]), (on (cmd 0x300 [0]) up), ⟨by decide +kernel, by decide +kernel, by decide +kernel,
     by decide +kernel⟩, by unfold Dev.Alone; decide +kernel, by unfold Cmd.Tail; decide +kernel, by decide +kernel⟩,
   ⟨15, 7, (cmd 0x301 [0, 15, 2, 1, 254, 15]), (on (cmd 0x301 [0, 15, 2, 1, 254, 15]) up), ⟨by decide +kernel,
     by decide +kernel, by decide +kernel, by decide +kernel⟩, by unfold Dev.Alone; decide +kernel,
     by unfold Cmd.Tail; decide +kernel, by decide +kernel⟩,
   ⟨1, (st up), ⟨by decide +kernel, by decide +kernel, by decide +kernel⟩, by decide +kernel⟩,
   ⟨(st up), ⟨by decide +kernel, by decide +kernel, by decide +kernel⟩, by unfold Dev.Alone; decide +kernel⟩,
   ⟨(st up), ⟨by decide +kernel, by decide +kernel, by decide +kernel⟩, by unfold Dev.Alone; decide +kernel⟩,
   ⟨(st up), ⟨by decide +kernel, by decide +kernel, by decide +kernel⟩, by unfold Dev.Alone; decide +kernel⟩⟩

theorem test_meets_References :
    (∃ (r : Nat) (s : State), r < 12 ∧ s.dev.ref.forceRef < 12) ∧
    (∃ (r : Nat) (s : State), r < 12 ∧ s.dev.ref.forceRef < 12 ∧ s.dev.get R.REFSEL_STATUS_MON_BASIS = 1 ∧
      s.dev.refAlive r = true) ∧
    (∃ (t r at' : Nat) (s : State), r < 12 ∧ s.dev.ref.forceRef < 12 ∧ (s.dev.refMon r).inSince = some at' ∧
      s.dev.get R.REF_STATUS_WTR_RUNNING r = 1 ∧ s.dev.get R.REF_STATUS_ACTIVE r = 1 ∧
      at' + (s.dev.refMon r).wtr * qS ≤ max s.dev.now t) ∧
    (∃ (t : Nat) (s : State), s.dev.get R.REFSEL_STATUS_STATE = selPulling ∧ (s.dev.clock t).pullLeft = 0) ∧
    (∃ (t at' : Nat) (s : State), s.dev.get R.REFSEL_STATUS_STATE = selLocked ∧ s.dev.ref.lockedAt = some at' ∧
      s.dev.ref.warm = true ∧ s.dev.ref.ocxo = true ∧ at' + 60 * qS ≤ max s.dev.now t) ∧
    (∃ (s : State), s.dev.Reaches 0x380004 ∧ s.dev.Alone) ∧
    (∃ (r : Nat) (s : State), r < 12 ∧ s.dev.Reaches (R.REF_CFG.off r 0) ∧ s.dev.Alone ∧ s.dev.ref.forceRef < 12) :=
  ⟨⟨11, (st up), by decide +kernel⟩,
   ⟨11, (st (up.put R.REFSEL_STATUS_MON_BASIS 1 |>.put R.WT_STATUS_TB1_QUAL 1)), by decide +kernel⟩,
   ⟨10 * qS, 11, 0,
     (st { (up.put R.REF_STATUS_WTR_RUNNING 1 11).put R.REF_STATUS_ACTIVE 1 11 with ref := { RefSt.init with refs := [(11, { RefMon.init with inSince := some 0 })] } }),
     by decide +kernel⟩,
   ⟨0, (st (up.put R.REFSEL_STATUS_STATE selPulling)), by decide +kernel⟩,
   ⟨60 * qS, 0,
     (st { up.put R.REFSEL_STATUS_STATE selLocked with ref := { RefSt.init with lockedAt := some 0, warm := true, ocxo := true } }),
     by decide +kernel⟩,
   ⟨(st up), ⟨by decide +kernel, by decide +kernel, by decide +kernel⟩, by unfold Dev.Alone; decide +kernel⟩,
   ⟨11, (st up), by decide +kernel, ⟨by decide +kernel, by decide +kernel, by decide +kernel⟩,
     by unfold Dev.Alone; decide +kernel, by decide +kernel⟩⟩

theorem test_meets_IngestPortsAndTimers :
    (∃ (p : Nat) (s : State), p < 4 ∧ s.dev.Reaches 0x400000) ∧
    (∃ (p : Nat) (s : State), p < 4 ∧ s.dev.get R.ETH_CTRL_ENABLE p = 1 ∧ s.dev.get R.ETH_STATUS_LINK p = 1) ∧
    (∃ (p : Nat) (s : State), p < 4 ∧ s.dev.get R.ETH_CTRL_ENABLE p = 1 ∧ s.dev.clockAt 1 p = true) ∧
    (∃ (i : Nat) (s : State), i < 1024 ∧ s.dev.Reaches (R.FLOW_CTRL.off i 0) ∧ s.dev.Alone) ∧
    (∃ (t c ts mk w : Nat) (f : OpenFrame) (rest : List OpenFrame) (s : State), c < 256 ∧ s.dev.ctxType c < 2 ∧
      s.dev.inState c = inRunning ∧ (s.dev.ctx c).frames = f :: rest ∧ f.ts = ts ∧ f.closed = false ∧ f.slot = none ∧
      (f.marker = some (mk, w)) ∧ w + s.dev.holdTime c ≤ (s.dev.clock t).wt ∧ (∀ g ∈ rest, g.ts ≠ ts ∧
      g.closed = false) ∧ f.gap (s.dev.ctx c).endSeq = false ∧ (f.parts.filterMap (·.part)).findSome? (·.sei) = none ∧
      s.dev.dcState c = dcRunning ∧ s.dev.dcService c ≠ svDegraded ∧ (s.dev.dctx c).queue.length < 4 ∧
      let pm := s.dev.postmark c f none; (∀ a b, pm.2 = some a → (s.dev.ctx c).lastCapt = some b → 0 < sdiff 48 a b)) ∧
    (∃ (t c ts w : Nat) (f : OpenFrame) (rest : List OpenFrame) (s : State), c < 256 ∧ s.dev.ctxType c < 2 ∧
      s.dev.inState c = inRunning ∧ (s.dev.ctx c).frames = f :: rest ∧ f.ts = ts ∧ f.closed = false ∧
      f.marker = none ∧ f.laterAt = some w ∧ w + s.dev.holdTime c ≤ (s.dev.clock t).wt) ∧
    (∃ (t c ts : Nat) (f : OpenFrame) (s : State), c < 256 ∧ s.dev.inState c = inRunning ∧
      s.dev.frame? c ts = some f ∧ f.closed = false ∧
      f.stamp.wt + ceilDiv (qS * (frameRate (s.dev.get R.CTX_CFG_RATE c)).2 * s.dev.get R.CTX_CFG_ASM_TIMEOUT c) (frameRate (s.dev.get R.CTX_CFG_RATE c)).1 ≤ (s.dev.clock t).wt) ∧
    (∃ (t c leg : Nat) (s : State), c < 256 ∧ leg < 2 ∧
      let act := if leg = 0 then R.CTX_STATUS_LEG0_ACTIVE else R.CTX_STATUS_LEG1_ACTIVE;
      let last := if leg = 0 then (s.dev.ctx c).leg0 else (s.dev.ctx c).leg1; s.dev.get act c = 1 ∧
      last + 100 * qMs ≤ (s.dev.clock t).wt) :=
  ⟨⟨3, (st up), by decide +kernel, ⟨by decide +kernel, by decide +kernel, by decide +kernel⟩⟩,
   ⟨3, (st upNet), by decide +kernel⟩,
   ⟨3, (st upNet), by decide +kernel⟩,
   ⟨1023, (st up), by decide +kernel, ⟨by decide +kernel, by decide +kernel, by decide +kernel⟩,
     by unfold Dev.Alone; decide +kernel⟩,
   ⟨0, 255, 9, 5, 0, ⟨9, ⟨0, none, false⟩, [⟨5, 0, 0, false, none⟩], (some (5, 0)), none, false, 1, none, false⟩, [],
     (st { (up.put R.CTX_STATUS_STATE 2 255).put R.DCTX_STATUS_STATE 2 255 with net := { NetSt.init with ctxs := [(255, { Ctx.init with frames := [⟨9, ⟨0, none, false⟩, [⟨5, 0, 0, false, none⟩], (some (5, 0)), none, false, 1, none, false⟩] })] }, time := { TimeSt.init with wt := ⟨0, 500 * qUs, 0⟩ } }),
     by decide +kernel, by decide +kernel, by decide +kernel, by decide +kernel, by decide +kernel, by decide +kernel,
     by decide +kernel, by decide +kernel, by decide +kernel, by decide +kernel, by decide +kernel, by decide +kernel,
     by decide +kernel, by decide +kernel, by decide +kernel,
     (fun a b _ h => absurd (h.symm.trans (show _ = none by decide +kernel)) (Option.some_ne_none b))⟩,
   ⟨0, 255, 9, 0, ⟨9, ⟨0, none, false⟩, [], none, (some 0), false, 1, none, false⟩, [],
     (st { (up.put R.CTX_STATUS_STATE 2 255).put R.DCTX_STATUS_STATE 2 255 with net := { NetSt.init with ctxs := [(255, { Ctx.init with frames := [⟨9, ⟨0, none, false⟩, [], none, (some 0), false, 1, none, false⟩] })] }, time := { TimeSt.init with wt := ⟨0, 500 * qUs, 0⟩ } }),
     by decide +kernel⟩,
   ⟨0, 255, 9, ⟨9, ⟨0, none, false⟩, [], none, none, false, 1, none, false⟩,
     (st { (up.put R.CTX_STATUS_STATE 2 255).put R.DCTX_STATUS_STATE 2 255 with net := { NetSt.init with ctxs := [(255, { Ctx.init with frames := [⟨9, ⟨0, none, false⟩, [], none, none, false, 1, none, false⟩] })] }, time := { TimeSt.init with wt := ⟨0, 10 * qS, 0⟩ } }),
     by decide +kernel⟩,
   ⟨0, 255, 1,
     (st { up.put R.CTX_STATUS_LEG1_ACTIVE 1 255 with time := { TimeSt.init with wt := ⟨0, 100 * qMs, 0⟩ } }),
     by decide +kernel, by decide +kernel, by decide +kernel⟩⟩

theorem test_meets_FramesAndPackets :
    (∃ (port size : Nat) (s : State), port < 4 ∧ s.dev.get R.ETH_CTRL_ENABLE port = 1 ∧
      s.dev.get R.ETH_STATUS_LINK port = 1 ∧ s.dev.clockAt 1 port = true ∧ ∃ (f : EthFrame),
      (s.dev.get R.ETH_CTRL_MAX_FRAME port < size ∨ f = .badFcs)) ∧
    (∃ (port size : Nat) (s : State), port < 4 ∧ s.dev.get R.ETH_CTRL_ENABLE port = 1 ∧
      s.dev.get R.ETH_STATUS_LINK port = 1 ∧ s.dev.clockAt 1 port = true ∧ size ≤ s.dev.get R.ETH_CTRL_MAX_FRAME port) ∧
    (∃ (port size : Nat) (s : State), port < 4 ∧ s.dev.get R.ETH_CTRL_ENABLE port = 1 ∧
      s.dev.get R.ETH_STATUS_LINK port = 1 ∧ s.dev.clockAt 1 port = true ∧
      size ≤ s.dev.get R.ETH_CTRL_MAX_FRAME port ∧ ∃ (f : EthFrame), (f = .firmware ∨ (∃ u, f = .udp u ∧
      (u.dport = 319 ∨ u.dport = 320)))) ∧
    (∃ (port size : Nat) (s : State), port < 4 ∧ s.dev.get R.ETH_CTRL_ENABLE port = 1 ∧
      s.dev.get R.ETH_STATUS_LINK port = 1 ∧ s.dev.clockAt 1 port = true ∧
      size ≤ s.dev.get R.ETH_CTRL_MAX_FRAME port ∧ ∃ (u : UdpInfo), u.dport ≠ 319 ∧ u.dport ≠ 320 ∧
      (∀ e ∈ s.dev.net.flows, e.2.takes port u = false)) ∧
    (∃ (port size : Nat) (s : State), port < 4 ∧ s.dev.get R.ETH_CTRL_ENABLE port = 1 ∧
      s.dev.get R.ETH_STATUS_LINK port = 1 ∧ s.dev.clockAt 1 port = true ∧
      size ≤ s.dev.get R.ETH_CTRL_MAX_FRAME port ∧ ∃ (u : UdpInfo) (i : Nat) (e : Flow), u.dport ≠ 319 ∧
      u.dport ≠ 320 ∧ (s.dev.net.flows.find? (fun e => e.2.takes port u) = some (i, e)) ∧ i < 1024 ∧
      bits e.ctrl.toNat 20 19 = 2) ∧
    (∃ (port size i : Nat) (e : Flow) (u : UdpInfo) (p : RtpPacket) (a : AuPart) (s : State), port < 4 ∧
      s.dev.get R.ETH_CTRL_ENABLE port = 1 ∧ s.dev.get R.ETH_STATUS_LINK port = 1 ∧ s.dev.clockAt 1 port = true ∧
      size ≤ s.dev.get R.ETH_CTRL_MAX_FRAME port ∧ u.dport ≠ 319 ∧ u.dport ≠ 320 ∧
      (s.dev.net.flows.find? (fun e => e.2.takes port u) = some (i, e)) ∧ i < 1024 ∧ bits e.ctrl.toNat 20 19 = 0 ∧
      u.rtp = some p ∧ p.payload = .au a ∧ a.supported = true ∧ p.version = 2 ∧ b2n p.marker * 128 + p.pt < 200 ∧
      p.marker = false ∧ let c := bits e.ctrl.toNat 7 0; s.dev.inState c = inRunning ∧ s.dev.ctxType c < 2 ∧
      s.dev.get R.CTX_STATUS_DUAL c = 0 ∧ s.dev.get R.CTX_CFG_PT c = p.pt ∧ ∃ f, f ∈ (s.dev.ctx c).frames ∧ ∃ h,
      h ∈ f.pkts ∧ h.seq = p.seq) ∧
    (∃ (port size i : Nat) (e : Flow) (u : UdpInfo) (p : RtpPacket) (a : AuPart) (s : State), port < 4 ∧
      s.dev.get R.ETH_CTRL_ENABLE port = 1 ∧ s.dev.get R.ETH_STATUS_LINK port = 1 ∧ s.dev.clockAt 1 port = true ∧
      size ≤ s.dev.get R.ETH_CTRL_MAX_FRAME port ∧ u.dport ≠ 319 ∧ u.dport ≠ 320 ∧
      (s.dev.net.flows.find? (fun e => e.2.takes port u) = some (i, e)) ∧ i < 1024 ∧ bits e.ctrl.toNat 20 19 = 0 ∧
      u.rtp = some p ∧ p.payload = .au a ∧ a.supported = true ∧ p.version = 2 ∧ b2n p.marker * 128 + p.pt < 200 ∧
      p.marker = false ∧ let c := bits e.ctrl.toNat 7 0; s.dev.inState c = inRunning ∧ s.dev.ctxType c < 2 ∧
      s.dev.get R.CTX_STATUS_DUAL c = 0 ∧ s.dev.get R.CTX_CFG_PT c = p.pt ∧ (∀ f ∈ (s.dev.ctx c).frames, ∀ h ∈ f.pkts,
      h.seq ≠ p.seq) ∧ p.seq ∉ (s.dev.ctx c).seen ∧ p.ts ∉ (s.dev.ctx c).ended ∧ a.bytes ≤ 8388608 ∧
      (s.dev.ctx c).frames = [] ∧ (s.dev.ctx c).noSlotTs = none) ∧
    (∃ (port size i : Nat) (e : Flow) (u : UdpInfo) (p : RtpPacket) (a : AuPart) (s : State), port < 4 ∧
      s.dev.get R.ETH_CTRL_ENABLE port = 1 ∧ s.dev.get R.ETH_STATUS_LINK port = 1 ∧ s.dev.clockAt 1 port = true ∧
      size ≤ s.dev.get R.ETH_CTRL_MAX_FRAME port ∧ u.dport ≠ 319 ∧ u.dport ≠ 320 ∧
      (s.dev.net.flows.find? (fun e => e.2.takes port u) = some (i, e)) ∧ i < 1024 ∧ bits e.ctrl.toNat 20 19 = 0 ∧
      u.rtp = some p ∧ p.payload = .au a ∧ a.supported = true ∧ p.version = 2 ∧ b2n p.marker * 128 + p.pt < 200 ∧
      p.marker = false ∧ let c := bits e.ctrl.toNat 7 0; s.dev.inState c = inRunning ∧ s.dev.ctxType c < 2 ∧
      s.dev.get R.CTX_STATUS_DUAL c = 0 ∧ s.dev.get R.CTX_CFG_PT c = p.pt ∧ ∃ f rest,
      (s.dev.ctx c).frames = f :: rest ∧ f.ts = p.ts ∧ f.closed = false ∧ (∀ f ∈ (s.dev.ctx c).frames, ∀ h ∈ f.pkts,
      h.seq ≠ p.seq) ∧ p.seq ∉ (s.dev.ctx c).seen ∧ p.ts ∉ (s.dev.ctx c).ended ∧ f.bytes + a.bytes ≤ 8388608 ∧
      (∀ g ∈ rest, g.ts ≠ p.ts)) :=
  ⟨⟨3, 0, (st upNet), by decide +kernel, by decide +kernel, by decide +kernel, by decide +kernel, .badFcs,
     by decide +kernel⟩,
   ⟨3, 0, (st upNet), by decide +kernel⟩,
   ⟨3, 0, (st upNet), by decide +kernel, by decide +kernel, by decide +kernel, by decide +kernel, by decide +kernel,
     (.udp ⟨false, none, 0, 0, 320, none⟩), (Or.inr ⟨_, rfl, by decide +kernel⟩)⟩,
   ⟨3, 0, (st upNet), by decide +kernel, by decide +kernel, by decide +kernel, by decide +kernel, by decide +kernel,
     ⟨false, none, 1, 0, 0, none⟩, by decide +kernel⟩,
   ⟨3, 0, (st { upNet with net := { NetSt.init with flows := [(1023, ⟨0x021000FF, 0, 0, 0, 0⟩)] } }),
     by decide +kernel, by decide +kernel, by decide +kernel, by decide +kernel, by decide +kernel, ⟨false, none, 0,
     0, 0, none⟩, 1023, ⟨0x021000FF, 0, 0, 0, 0⟩, by decide +kernel⟩,
   ⟨3, 0, 1023, ⟨0x020000FF, 0, 0, 0, 0⟩, ⟨false, none, 0, 0, 0, some ⟨2, 96, false, 5, 9, 0, .au ⟨1, true, true, [],
     [], none, none⟩⟩⟩, ⟨2, 96, false, 5, 9, 0, .au ⟨1, true, true, [], [], none, none⟩⟩, ⟨1, true, true, [], [],
     none, none⟩,
     (st { (upNet.put R.CTX_STATUS_STATE 2 255).put R.CTX_CFG_PT 96 255 with net := { upNet.net with ctxs := [(255, { Ctx.init with frames := [⟨9, ⟨0, none, false⟩, [⟨5, 0, 0, false, none⟩], none, none, false, 1, none, false⟩] })] } }),
     by decide +kernel, by decide +kernel, by decide +kernel, by decide +kernel, by decide +kernel, by decide +kernel,
     by decide +kernel, by decide +kernel, by decide +kernel, by decide +kernel, by decide +kernel, by decide +kernel,
     by decide +kernel, by decide +kernel, by decide +kernel, by decide +kernel, by decide +kernel, by decide +kernel,
     by decide +kernel, by decide +kernel, ⟨9, ⟨0, none, false⟩, [⟨5, 0, 0, false, none⟩], none, none, false, 1, none,
     false⟩, by decide +kernel, ⟨5, 0, 0, false, none⟩, by decide +kernel⟩,
   ⟨3, 0, 1023, ⟨0x020000FF, 0, 0, 0, 0⟩, ⟨false, none, 0, 0, 0, some ⟨2, 96, false, 5, 9, 0, .au ⟨8388608, true,
     true, [], [], none, none⟩⟩⟩, ⟨2, 96, false, 5, 9, 0, .au ⟨8388608, true, true, [], [], none, none⟩⟩, ⟨8388608,
     true, true, [], [], none, none⟩,
     (st { (upNet.put R.CTX_STATUS_STATE 2 255).put R.CTX_CFG_PT 96 255 with net := { upNet.net with ctxs := [(255, Ctx.init)] } }),
     by decide +kernel, by decide +kernel, by decide +kernel, by decide +kernel, by decide +kernel, by decide +kernel,
     by decide +kernel, by decide +kernel, by decide +kernel, by decide +kernel, by decide +kernel, by decide +kernel,
     by decide +kernel, by decide +kernel, by decide +kernel, by decide +kernel, by decide +kernel⟩,
   ⟨3, 0, 1023, ⟨0x020000FF, 0, 0, 0, 0⟩, ⟨false, none, 0, 0, 0, some ⟨2, 96, false, 5, 9, 0, .au ⟨8388607, true,
     true, [], [], none, none⟩⟩⟩, ⟨2, 96, false, 5, 9, 0, .au ⟨8388607, true, true, [], [], none, none⟩⟩, ⟨8388607,
     true, true, [], [], none, none⟩,
     (st { (upNet.put R.CTX_STATUS_STATE 2 255).put R.CTX_CFG_PT 96 255 with net := { upNet.net with ctxs := [(255, { Ctx.init with frames := [⟨9, ⟨0, none, false⟩, [], none, none, false, 1, none, false⟩] })] } }),
     by decide +kernel, by decide +kernel, by decide +kernel, by decide +kernel, by decide +kernel, by decide +kernel,
     by decide +kernel, by decide +kernel, by decide +kernel, by decide +kernel, by decide +kernel, by decide +kernel,
     by decide +kernel, by decide +kernel, by decide +kernel, by decide +kernel, by decide +kernel, by decide +kernel,
     by decide +kernel, by decide +kernel, ⟨9, ⟨0, none, false⟩, [], none, none, false, 1, none, false⟩, [],
     by decide +kernel⟩⟩

theorem test_meets_StreamCommands :
    (∃ (q seq : Nat) (c : Cmd) (s : State), s.dev.Running q seq 0x0400 c ∧ s.dev.Alone ∧ let k := c.p 0 1;
      s.dev.inState k ≠ inClosed) ∧
    (∃ (q seq : Nat) (c : Cmd) (s : State), s.dev.Running q seq 0x0400 c ∧ s.dev.Alone ∧ let k := c.p 0 1;
      s.dev.inState k = inClosed ∧ s.dev.get R.ENC_STATUS_STATE k = 0 ∧ openBadField c = none ∧ c.p 5 1 ≠ 0 ∧
      (c.p 2 1 ≠ 1 ∨ s.dev.img.tb1Domain ≠ 0xFF)) ∧
    (∃ (q seq : Nat) (c : Cmd) (s : State), s.dev.Running q seq 0x0401 c ∧ s.dev.Alone ∧ c.Tail 1 ∧
      s.dev.inState (c.p 0 1) ≠ inClosed) ∧
    (∃ (q seq : Nat) (c : Cmd) (bs : List Byte) (s : State), s.dev.Running q seq 0x0402 c ∧ s.dev.Alone ∧ c.Tail 12 ∧
      mcastBad c = none ∧ (c.hostData = some (bs, [])) ∧ let m := memberOf c bs; (∀ p, p < 4 →
      bit (c.p 0 1) p = true → m ∉ s.dev.members p → (s.dev.members p).length < 256)) ∧
    (∃ (q seq : Nat) (c : Cmd) (bs : List Byte) (s : State), s.dev.Running q seq 0x0403 c ∧ s.dev.Alone ∧ c.Tail 12 ∧
      mcastBad c = none ∧ (c.hostData = some (bs, []))) :=
  ⟨⟨15, 7, (cmd 0x400 [255]), (on (cmd 0x400 [255]) (up.put R.CTX_STATUS_STATE 2 255)), ⟨by decide +kernel,
     by decide +kernel, by decide +kernel, by decide +kernel⟩, by unfold Dev.Alone; decide +kernel, by decide +kernel⟩,
   ⟨15, 7, (cmd 0x400 [255, 0, 0, 0, 0, 1, 0, 96]), (on (cmd 0x400 [255, 0, 0, 0, 0, 1, 0, 96]) up),
     ⟨by decide +kernel, by decide +kernel, by decide +kernel, by decide +kernel⟩,
     by unfold Dev.Alone; decide +kernel, by decide +kernel⟩,
   ⟨15, 7, (cmd 0x401 [255]), (on (cmd 0x401 [255]) (up.put R.CTX_STATUS_STATE 2 255)), ⟨by decide +kernel,
     by decide +kernel, by decide +kernel, by decide +kernel⟩, by unfold Dev.Alone; decide +kernel,
     by unfold Cmd.Tail; decide +kernel, by decide +kernel⟩,
   ⟨15, 7, (cmd 0x402 [15] (some ([], []))), [], (on (cmd 0x402 [15] (some ([], []))) up), ⟨by decide +kernel,
     by decide +kernel, by decide +kernel, by decide +kernel⟩, by unfold Dev.Alone; decide +kernel,
     by unfold Cmd.Tail; decide +kernel, by decide +kernel, by decide +kernel, by decide +kernel⟩,
   ⟨15, 7, (cmd 0x403 [15] (some ([], []))), [], (on (cmd 0x403 [15] (some ([], []))) up), ⟨by decide +kernel,
     by decide +kernel, by decide +kernel, by decide +kernel⟩, by unfold Dev.Alone; decide +kernel,
     by unfold Cmd.Tail; decide +kernel, by decide +kernel⟩⟩

theorem test_meets_DecodeRuns :
    (∃ (t e c i : Nat) (f : Queued) (rest : List Queued) (su : Setup) (s : State), e < 8 ∧ c < 256 ∧
      s.dev.get R.DEC_ENG_STATUS_FAILED e = 0 ∧ tabGet? s.dev.dec.engines e = none ∧
      (s.dev.clock t).nextDecode = some c ∧ (s.dev.dctx c).queue = f :: rest ∧ (s.dev.dctx c).setup = some su ∧
      (s.dev.dctx c).freeSlot = some i ∧ (s.dev.dctx c).saved = false) ∧
    (∃ (e : Nat) (g : Engine) (su : Setup) (p : PicInfo) (s : State), e < 8 ∧ g.ctx < 256 ∧
      tabGet? s.dev.dec.engines e = some g ∧ (s.dev.dctx g.ctx).setup = some su ∧ g.frame.pic = some p ∧
      g.slot < su.slots) ∧
    (∃ (t c : Nat) (f : Queued) (rest : List Queued) (s : State), c < 256 ∧ (s.dev.dctx c).queue = f :: rest ∧
      (s.dev.dctx c).freeSlot = none ∧ s.dev.holdOnly (.ctx c) = none ∧ s.dev.engineOf c = none ∧
      f.arrived + s.dev.ctxInterval c ≤ (s.dev.clock t).wt) ∧
    (∃ (e : Nat) (s : State), e < 8 ∧ s.dev.get R.DEC_ENG_STATUS_FAILED e = 0 ∧ (∀ g,
      tabGet? s.dev.dec.engines e = some g → g.ctx < 256)) ∧
    (∃ (t e : Nat) (s : State), e < 8 ∧ s.dev.get R.DEC_ENG_STATUS_FAILED e = 0 ∧ (∀ g,
      tabGet? s.dev.dec.engines e = some g → g.ctx < 256) ∧ ∃ g, tabGet? s.dev.dec.engines e = some g ∧
      g.start + 100 * qMs ≤ max s.dev.now t) :=
  ⟨⟨0, 7, 255, 0, ⟨.none, 0, 0, some pic, [], [], false⟩, [], pool,
     (st { (up.put R.DCTX_STATUS_STATE dcRunning 255) with dec := { DecSt.init with ctxs := [(255, { Dctx.init with setup := some pool, queue := [⟨.none, 0, 0, some pic, [], [], false⟩] })] }, time := { TimeSt.init with wt := ⟨0, 0, 0⟩ } }),
     by decide +kernel⟩,
   ⟨7, ⟨255, ⟨.none, 0, 0, some pic, [], [], false⟩, 2, 0, false⟩, pool, pic,
     (st { (up.put R.DCTX_STATUS_STATE dcRunning 255) with dec := { DecSt.init with ctxs := [(255, { Dctx.init with setup := some pool, queue := [⟨.none, 0, 0, some pic, [], [], false⟩] })], engines := [(7, ⟨255, ⟨.none, 0, 0, some pic, [], [], false⟩, 2, 0, false⟩)] }, time := { TimeSt.init with wt := ⟨0, 0, 0⟩ } }),
     by decide +kernel⟩,
   ⟨0, 255, ⟨.none, 0, 0, some pic, [], [], false⟩, [],
     (st { (up.put R.DCTX_STATUS_STATE dcRunning 255) with dec := { DecSt.init with ctxs := [(255, { Dctx.init with queue := [⟨.none, 0, 0, some pic, [], [], false⟩] })] }, time := { TimeSt.init with wt := ⟨0, qS, 0⟩ } }),
     by decide +kernel⟩,
   ⟨7, (st up), by decide +kernel, by decide +kernel, (by intro g h; cases h)⟩,
   ⟨100 * qMs, 7,
     (st { (up.put R.DCTX_STATUS_STATE dcRunning 255) with dec := { DecSt.init with ctxs := [(255, { Dctx.init with setup := some pool, queue := [⟨.none, 0, 0, some pic, [], [], false⟩] })], engines := [(7, ⟨255, ⟨.none, 0, 0, some pic, [], [], false⟩, 2, 0, false⟩)] }, time := { TimeSt.init with wt := ⟨0, 0, 0⟩ } }),
     by decide +kernel, by decide +kernel, (by intro g h; cases h; decide +kernel), ⟨255, ⟨.none, 0, 0, some pic, [],
     [], false⟩, 2, 0, false⟩, by decide +kernel⟩⟩

theorem test_meets_DecodeControl :
    (∃ (s : State), ∃ c, c < 256 ∧ (∀ k, k < 256 → (s.dev.bestEffort k = true ↔ k = c)) ∧
      s.dev.dcService c = svDegraded ∧ (s.dev.dctx c).waited = true ∧ 2 ≤ (s.dev.dctx c).degradedRun ∧
      2 ≤ s.dev.dec.since) ∧
    (∃ (s : State), ∃ c rest, c < 256 ∧ (∀ k, k < 256 → s.dev.bestEffort k = false) ∧ s.dev.dec.engines = [] ∧
      s.dev.dec.busy = 0 ∧ s.dev.dec.shedStack = c :: rest ∧ s.dev.dcState c = dcShed ∧ 9 ≤ s.dev.dec.quiet) ∧
    (∃ (q seq : Nat) (c : Cmd) (s : State), s.dev.Running q seq 0x0600 c ∧ s.dev.Alone ∧ let k := c.p 0 1;
      s.dev.inState k = inClosed ∧ s.dev.get R.ENC_STATUS_STATE k = 0) ∧
    (∃ (q seq : Nat) (c : Cmd) (s : State), s.dev.Running q seq 0x0601 c ∧ s.dev.Alone ∧ c.Tail 1 ∧
      s.dev.engineOf (c.p 0 1) = none) :=
  ⟨⟨(st { (up.put R.DCTX_STATUS_STATE dcRunning 255 |>.put R.DCTX_STATUS_SERVICE svDegraded 255) with dec := { DecSt.init with ctxs := [(255, { Dctx.init with waited := true, degradedRun := 2 })], since := 2 }, time := { TimeSt.init with wt := ⟨0, 0, 0⟩ } }),
     255, by decide +kernel⟩,
   ⟨(st { (up.put R.DCTX_STATUS_STATE dcShed 255) with dec := { DecSt.init with ctxs := [(255, Dctx.init)], shedStack := [255], quiet := 9 }, time := { TimeSt.init with wt := ⟨0, 0, 0⟩ } }),
     255, [], by decide +kernel⟩,
   ⟨15, 7, (cmd 0x600 [255]), (on (cmd 0x600 [255]) up), ⟨by decide +kernel, by decide +kernel, by decide +kernel,
     by decide +kernel⟩, by unfold Dev.Alone; decide +kernel, by decide +kernel⟩,
   ⟨15, 7, (cmd 0x601 [255]), (on (cmd 0x601 [255]) up), ⟨by decide +kernel, by decide +kernel, by decide +kernel,
     by decide +kernel⟩, by unfold Dev.Alone; decide +kernel, by unfold Cmd.Tail; decide +kernel, by decide +kernel⟩⟩

theorem test_meets_CommitsAndLeases :
    (∃ (q seq : Nat) (c : Cmd) (s : State), s.dev.Running q seq 0x0800 c ∧ s.dev.Alone ∧ c.Tail 12 ∧ c.p 0 1 < 6 ∧
      c.p 1 1 < 2 ∧ c.p 2 2 ≤ 1024 ∧ s.dev.commit? q seq = none) ∧
    (∃ (q seq : Nat) (k : Cmd) (c : Commit) (es : List (List Byte)) (s : State), s.dev.Running q seq 0x0800 k ∧
      s.dev.Alone ∧ s.dev.Validates ∧ s.dev.commit? q seq = some c ∧ c.canvas = none ∧ c.st = .queued ∧
      s.dev.orderBlocked c = false ∧ (k.acqEn = false ∨ s.dev.fenceReached k.acqFence k.acqValue = true) ∧
      ((s.dev.queue q).cmds.find? fun x => !x.running).map (·.seq) = some seq ∧ k.Updates es) ∧
    (∃ (q seq : Nat) (k : Cmd) (c : Commit) (v : Verdict) (s : State), s.dev.Running q seq 0x0800 k ∧ s.dev.Alone ∧
      s.dev.coreState 2 < 2 ∧ s.dev.commit? q seq = some c ∧ c.canvas = none ∧ c.st = .validating ∧
      c.verdict = some v ∧ v.detail < 4096 ∧ k.deadline = 0) ∧
    (∃ (e : Nat) (f : Freed) (x : LeaseEntry) (s : State), e < 2048 ∧
      s.dev.lay.freed.find? (fun f => f.entry == e) = some f ∧ tabGet? s.dev.prot.leases e = some x ∧
      (∀ h ∈ s.dev.comp.heads, ∀ fr ∈ h.2.frames, fr.2.reads (x.base, x.base + x.pages * 4096) = false)) :=
  ⟨⟨15, 7, (cmd 0x800 [5, 1, 0, 4]), (on (cmd 0x800 [5, 1, 0, 4]) up), ⟨by decide +kernel, by decide +kernel,
     by decide +kernel, by decide +kernel⟩, by unfold Dev.Alone; decide +kernel, by unfold Cmd.Tail; decide +kernel,
     by decide +kernel⟩,
   ⟨15, 7, (cmd 0x800 [5]), (Commit.start 15 7 0 [5] false none []), [],
     (on (cmd 0x800 [5]) ({ up with lay := { LaySt.init with commits := [(Commit.start 15 7 0 [5] false none [])] } })),
     ⟨by decide +kernel, by decide +kernel, by decide +kernel, by decide +kernel⟩,
     by unfold Dev.Alone; decide +kernel, (⟨by decide +kernel, by decide +kernel, by decide +kernel⟩),
     by decide +kernel, by decide +kernel, by decide +kernel, by decide +kernel, by decide +kernel, by decide +kernel,
     (by unfold Cmd.Updates; rw [if_pos (by decide +kernel)])⟩,
   ⟨15, 7, (cmd 0x800 [5]),
     { Commit.start 15 7 0 [5] false none [] with st := .validating, verdict := some ⟨0, 0, 4095, 0⟩ }, ⟨0, 0, 4095,
     0⟩,
     (on (cmd 0x800 [5]) ({ up with lay := { LaySt.init with commits := [{ Commit.start 15 7 0 [5] false none [] with st := .validating, verdict := some ⟨0, 0, 4095, 0⟩ }] } })),
     ⟨by decide +kernel, by decide +kernel, by decide +kernel, by decide +kernel⟩,
     by unfold Dev.Alone; decide +kernel, by decide +kernel⟩,
   ⟨2047, ⟨2047, 15, 7⟩, ⟨0, 1, 1⟩,
     (st { up with lay := { LaySt.init with freed := [⟨2047, 15, 7⟩] }, prot := { ProtSt.init with leases := [(2047, ⟨0, 1, 1⟩)] } }),
     by decide +kernel⟩⟩

theorem test_meets_CanvasManager :
    (∃ (q seq : Nat) (c : Cmd) (bs : List Byte) (s : State), s.dev.Running q seq 0x0801 c ∧ s.dev.Alone ∧ c.Tail 14 ∧
      c.p 0 2 < 1024 ∧ c.p 2 2 = 0 ∧ c.p 4 2 ≤ 1024 ∧ c.acqEn = false ∧ (c.hostData = some (bs, [])) ∧
      let ms := s.dev.canvasModules (c.p 0 2); s.dev.isManager = true ∧
      s.dev.lay.runs.any (fun r => r.canvas == c.p 0 2) = false ∧ ms ≠ []) ∧
    (∃ (q seq : Nat) (c : Cmd) (bs : List Byte) (s : State), s.dev.Running q seq 0x0801 c ∧ s.dev.Alone ∧ c.Tail 14 ∧
      c.p 0 2 < 1024 ∧ c.p 2 2 = 0 ∧ c.p 4 2 ≤ 1024 ∧ c.acqEn = false ∧ (c.hostData = some (bs, [])) ∧
      s.dev.isManager = false ∧ s.dev.routed (s.dev.get R.PAENT_MGR_MANAGER) = true) ∧
    (∃ (q seq module : Nat) (o : FwdOutcome) (c : Cmd) (r : CanvasRun) (s : State), s.dev.Running q seq 0x0801 c ∧
      s.dev.Alone ∧ s.dev.run? q seq = some r ∧ r.stage = .preparing ∧ module ∈ r.awaited ∧ o.status ≠ Status.success) ∧
    (∃ (q seq module : Nat) (o : FwdOutcome) (c : Cmd) (r : CanvasRun) (s : State), s.dev.Running q seq 0x0801 c ∧
      s.dev.Alone ∧ s.dev.run? q seq = some r ∧ r.stage = .preparing ∧ module ∈ r.awaited ∧
      let left := r.awaited.filter (· != module); o.status = Status.success ∧ left ≠ []) ∧
    (∃ (q seq module : Nat) (o : FwdOutcome) (c : Cmd) (r : CanvasRun) (s : State), s.dev.Running q seq 0x0801 c ∧
      s.dev.Alone ∧ s.dev.run? q seq = some r ∧ r.stage = .preparing ∧ module ∈ r.awaited ∧
      let left := r.awaited.filter (· != module); o.status = Status.success ∧ left = [] ∧ r.deadline = 0) ∧
    (∃ (q seq module : Nat) (c : Cmd) (r : CanvasRun) (s : State), s.dev.Running q seq 0x0801 c ∧ s.dev.Alone ∧
      s.dev.run? q seq = some r ∧ r.stage = .preparing ∧ module ∈ r.awaited) ∧
    (∃ (q seq module : Nat) (c : Cmd) (r : CanvasRun) (s : State), s.dev.Running q seq 0x0801 c ∧ s.dev.Alone ∧
      s.dev.run? q seq = some r ∧ r.stage = .applying ∧ module ∈ r.awaited) ∧
    (∃ (q seq : Nat) (c : Cmd) (s : State), s.dev.Running q seq 0x0900 c ∧ s.dev.Alone ∧ c.Tail 8 ∧ c.p 0 2 < 1024 ∧
      c.p 2 2 = 0 ∧ c.p 4 4 ≤ 1000000 ∧ s.dev.isManager = true ∧ s.dev.canvasModules (c.p 0 2) ≠ []) :=
  ⟨⟨15, 7, (cmd 0x801 [255, 3, 0, 0, 0, 0] (some ([], []))), [], (on (cmd 0x801 [255, 3, 0, 0, 0, 0] (some ([],
     []))) ({ (up.put R.PAENT_MGR_IS_MANAGER 1) with lay := { LaySt.init with dir := [(1023, [⟨0, 0, 0⟩])] } })),
     ⟨by decide +kernel, by decide +kernel, by decide +kernel, by decide +kernel⟩,
     by unfold Dev.Alone; decide +kernel, by unfold Cmd.Tail; decide +kernel, by decide +kernel, by decide +kernel,
     by decide +kernel, by decide +kernel, by decide +kernel, by decide +kernel⟩,
   ⟨15, 7, (cmd 0x801 [255, 3, 0, 0, 0, 0] (some ([], []))), [], (on (cmd 0x801 [255, 3, 0, 0, 0, 0] (some ([],
     []))) (up.put R.ROUTE_VALID 1 0)), ⟨by decide +kernel, by decide +kernel, by decide +kernel, by decide +kernel⟩,
     by unfold Dev.Alone; decide +kernel, by unfold Cmd.Tail; decide +kernel, by decide +kernel⟩,
   ⟨15, 7, 511, ⟨1, 0, 0, 0, 0⟩, (cmd 0x801 []), ⟨1023, 15, 7, 0, .preparing, [511], [], 0, 0, 0, false⟩,
     (on (cmd 0x801 []) ({ (up.put R.PAENT_MGR_IS_MANAGER 1) with lay := { LaySt.init with dir := [(1023, [⟨0, 0, 0⟩])], runs := [⟨1023, 15, 7, 0, .preparing, [511], [], 0, 0, 0, false⟩] } })),
     ⟨by decide +kernel, by decide +kernel, by decide +kernel, by decide +kernel⟩,
     by unfold Dev.Alone; decide +kernel, by decide +kernel⟩,
   ⟨15, 7, 511, ⟨0, 0, 0, 0, 0⟩, (cmd 0x801 []), ⟨1023, 15, 7, 0, .preparing, [511, 0], [], 0, 0, 0, false⟩,
     (on (cmd 0x801 []) ({ (up.put R.PAENT_MGR_IS_MANAGER 1) with lay := { LaySt.init with dir := [(1023, [⟨0, 0, 0⟩])], runs := [⟨1023, 15, 7, 0, .preparing, [511, 0], [], 0, 0, 0, false⟩] } })),
     ⟨by decide +kernel, by decide +kernel, by decide +kernel, by decide +kernel⟩,
     by unfold Dev.Alone; decide +kernel, by decide +kernel, by decide +kernel, by decide +kernel, by decide +kernel⟩,
   ⟨15, 7, 511, ⟨0, 0, 0, 0, 0⟩, (cmd 0x801 []), ⟨1023, 15, 7, 0, .preparing, [511], [], 0, 0, 0, false⟩,
     (on (cmd 0x801 []) ({ (up.put R.PAENT_MGR_IS_MANAGER 1) with lay := { LaySt.init with dir := [(1023, [⟨0, 0, 0⟩])], runs := [⟨1023, 15, 7, 0, .preparing, [511], [], 0, 0, 0, false⟩] } })),
     ⟨by decide +kernel, by decide +kernel, by decide +kernel, by decide +kernel⟩,
     by unfold Dev.Alone; decide +kernel, by decide +kernel, by decide +kernel, by decide +kernel, by decide +kernel⟩,
   ⟨15, 7, 511, (cmd 0x801 []), ⟨1023, 15, 7, 0, .preparing, [511], [], 0, 0, 0, false⟩,
     (on (cmd 0x801 []) ({ (up.put R.PAENT_MGR_IS_MANAGER 1) with lay := { LaySt.init with dir := [(1023, [⟨0, 0, 0⟩])], runs := [⟨1023, 15, 7, 0, .preparing, [511], [], 0, 0, 0, false⟩] } })),
     ⟨by decide +kernel, by decide +kernel, by decide +kernel, by decide +kernel⟩,
     by unfold Dev.Alone; decide +kernel, by decide +kernel⟩,
   ⟨15, 7, 511, (cmd 0x801 []), ⟨1023, 15, 7, 0, .applying, [511], [], 0, 0, 0, false⟩,
     (on (cmd 0x801 []) ({ (up.put R.PAENT_MGR_IS_MANAGER 1) with lay := { LaySt.init with dir := [(1023, [⟨0, 0, 0⟩])], runs := [⟨1023, 15, 7, 0, .applying, [511], [], 0, 0, 0, false⟩] } })),
     ⟨by decide +kernel, by decide +kernel, by decide +kernel, by decide +kernel⟩,
     by unfold Dev.Alone; decide +kernel, by decide +kernel⟩,
   ⟨15, 7, (cmd 0x900 [255, 3, 0, 0, 64, 66, 15, 0]), (on (cmd 0x900 [255, 3, 0, 0, 64, 66, 15,
     0]) ({ (up.put R.PAENT_MGR_IS_MANAGER 1) with lay := { LaySt.init with dir := [(1023, [⟨0, 0, 0⟩])] } })),
     ⟨by decide +kernel, by decide +kernel, by decide +kernel, by decide +kernel⟩,
     by unfold Dev.Alone; decide +kernel, by unfold Cmd.Tail; decide +kernel, by decide +kernel⟩⟩

theorem test_meets_CanvasMembers :
    (∃ (q seq : Nat) (others : List CanvasMember) (c : Cmd) (s : State), s.dev.Running q seq 0x0802 c ∧ s.dev.Alone ∧
      c.Tail 3 ∧ c.p 0 2 < 1024 ∧ c.p 2 1 < 64 ∧ let cv := c.p 0 2;
      let joins := (List.range 6).filter (bit (c.p 2 1));
      let row := fun g => (s.dev.groupHeads g).head?.map s.dev.modeOf;
      (s.dev.commits.any fun x => x.canvas == some cv) = false ∧ (∀ g ∈ joins, s.dev.binding g ≠ none ∧
      s.dev.groupHeads g ≠ [] ∧ (s.dev.get R.GRP_CANVAS_MEMBER g = 1 → s.dev.get R.GRP_CANVAS_CANVAS g = cv)) ∧
      (∀ g ∈ joins, ∀ a b, row g = some a →
      ((others.head?.map fun e => modeRow e.mode) <|> (joins.head?.bind row)) = some b → a.sameRate b = true)) ∧
    (∃ (p : CanvasPrepare) (s : State), s.dev.canvasGroups p.canvas ≠ [] ∧
      let q := memberQueue s.dev p.origin p.queue; s.dev.commit? q p.seq = none ∧ s.dev.get R.PAENT_MGR_TIME_LOCK = 0) ∧
    (∃ (p : CanvasPrepare) (s : State), s.dev.canvasGroups p.canvas ≠ [] ∧
      let q := memberQueue s.dev p.origin p.queue; s.dev.commit? q p.seq = none ∧
      s.dev.get R.PAENT_MGR_TIME_LOCK = 1 ∧ s.dev.Alone ∧ s.dev.Validates ∧ s.dev.commits = [] ∧
      (∀ e ∈ s.dev.host.queues, ∀ x ∈ e.2.cmds, ∀ g, x.isCommitOf g = false)) ∧
    (∃ (q seq : Nat) (c : Commit) (s : State), s.dev.commit? q seq = some c ∧ c.canvas.isSome = true ∧ c.st = .ready ∧
      c.target = none) ∧
    (∃ (q seq : Nat) (c : Commit) (s : State), s.dev.commit? q seq = some c ∧ c.canvas.isSome = true ∧ c.st = .ready ∧
      c.done = []) :=
  ⟨⟨15, 7, [], (cmd 0x802 [0xFF, 3, 32]), (on (cmd 0x802 [0xFF, 3, 32]) upHead), ⟨by decide +kernel,
     by decide +kernel, by decide +kernel, by decide +kernel⟩, by unfold Dev.Alone; decide +kernel,
     by unfold Cmd.Tail; decide +kernel, by decide +kernel, by decide +kernel, by decide +kernel, by decide +kernel,
     (by intro g hg a b ha hb; have h5 : g = 5 := (by decide +kernel : ∀ g ∈ (List.range 6).filter (bit ((cmd 0x802 [0xFF, 3, 32]).p 2 1)), g = 5) g hg; subst h5; cases ha; cases hb; decide +kernel)⟩,
   ⟨⟨1023, 511, 15, 7, []⟩, (st (upHead.put R.GRP_CANVAS_MEMBER 1 5 |>.put R.GRP_CANVAS_CANVAS 1023 5)),
     by decide +kernel, by decide +kernel⟩,
   ⟨⟨1023, 511, 15, 7, []⟩,
     (st ((upHead.put R.GRP_CANVAS_MEMBER 1 5 |>.put R.GRP_CANVAS_CANVAS 1023 5).put R.PAENT_MGR_TIME_LOCK 1)),
     by decide +kernel, by decide +kernel, by decide +kernel, by unfold Dev.Alone; decide +kernel,
     (⟨by decide +kernel, by decide +kernel, by decide +kernel⟩), by decide +kernel, (by intro e he; cases he)⟩,
   ⟨15, 7, { Commit.start 15 7 0 [5] false (some 1023) [] with st := .ready },
     (st ({ upHead with lay := { LaySt.init with commits := [{ Commit.start 15 7 0 [5] false (some 1023) [] with st := .ready }] } })),
     by decide +kernel⟩,
   ⟨15, 7, { Commit.start 15 7 0 [5] false (some 1023) [] with st := .ready },
     (st ({ upHead with lay := { LaySt.init with commits := [{ Commit.start 15 7 0 [5] false (some 1023) [] with st := .ready }] } })),
     by decide +kernel⟩⟩

theorem test_meets_FrameBoundaries :
    (∃ (h n : Nat) (s : State), h < 32 ∧ (s.dev.headEntry h).isSome = true ∧ (s.dev.head h).grid = true ∧
      (s.dev.head h).n < n ∧ (s.dev.head h).leadNext = none ∧ s.dev.Alone ∧ s.dev.err.fabricRun = true) ∧
    (∃ (h n : Nat) (s : State), h < 32 ∧ (s.dev.headEntry h).isSome = true ∧ (s.dev.head h).grid = true ∧
      (s.dev.head h).n < n ∧ (s.dev.head h).leadNext = none ∧ s.dev.Alone ∧ s.dev.err.fabricRun = false ∧
      s.dev.boot.switch = none ∧ s.dev.headGroup h ∉ s.dev.lay.reshed ∧ (∀ l ∈ s.dev.curLayers,
      ldHead (s.dev.curLd l) = h → (s.dev.layerSt l).shedNext = none) ∧ (s.dev.head h).boundary = none ∧
      (s.dev.head h).resume = none ∧ s.dev.headState h ≠ hsModeChange ∧ s.dev.mayLower h = false ∧
      s.dev.dueCommits h n = []) ∧
    (∃ (h n : Nat) (s : State), h < 32 ∧ (s.dev.headEntry h).isSome = true ∧ (s.dev.head h).grid = true ∧
      (s.dev.head h).n < n ∧ (s.dev.head h).leadNext = none ∧ s.dev.Alone ∧ s.dev.err.fabricRun = false ∧
      s.dev.boot.switch = none ∧ s.dev.headGroup h ∉ s.dev.lay.reshed ∧ (∀ l ∈ s.dev.curLayers,
      ldHead (s.dev.curLd l) = h → (s.dev.layerSt l).shedNext = none) ∧ (s.dev.head h).boundary = none ∧
      (s.dev.head h).resume = none ∧ s.dev.headState h ≠ hsModeChange ∧ s.dev.mayLower h = false ∧ ∃ c k l w,
      s.dev.dueCommits h n = [c] ∧ s.dev.Running c.q c.seq 0x0800 k ∧ c.groups = [s.dev.headGroup h] ∧
      s.dev.groupHeads (s.dev.headGroup h) = [h] ∧ c.canvas = none ∧ (c.snap.layers = [(l, w)]) ∧ c.snap.heads = [] ∧
      c.snap.tasters = [] ∧ l < 4096 ∧ w.length = 24 ∧ (∀ x ∈ w, x < 2 ^ 32) ∧ ldEnable w = true ∧ ldHead w = h ∧
      ldSurface w = false ∧ ldSurface (s.dev.curLd l) = false ∧ tabGet? c.snap.scalers l = none) :=
  ⟨⟨31, 1,
     (st { upHead with comp := { CompSt.init with heads := [(31, { HeadSt.init with grid := true })] }, err := { upHead.err with fabricRun := true } }),
     by decide +kernel, by decide +kernel, by decide +kernel, by decide +kernel, by decide +kernel,
     by unfold Dev.Alone; decide +kernel, by decide +kernel⟩,
   ⟨31, 1, (st { upHead with comp := { CompSt.init with heads := [(31, { HeadSt.init with grid := true })] } }),
     by decide +kernel, by decide +kernel, by decide +kernel, by decide +kernel, by decide +kernel,
     by unfold Dev.Alone; decide +kernel, by decide +kernel⟩,
   ⟨31, 1,
     (on (cmd 0x800 [5]) { upHead with comp := { CompSt.init with heads := [(31, { HeadSt.init with grid := true })] }, lay := { LaySt.init with commits := [{ Commit.start 15 7 0 [5] false none [] with st := .ready, target := some 1, snap := { Snap.init with layers := [(4095, (0x80001F00 :: List.replicate 23 0))] } }] } }),
     by decide +kernel, by decide +kernel, by decide +kernel, by decide +kernel, by decide +kernel,
     by unfold Dev.Alone; decide +kernel, by decide +kernel, by decide +kernel, by decide +kernel, by decide +kernel,
     by decide +kernel, by decide +kernel, by decide +kernel, by decide +kernel,
     { Commit.start 15 7 0 [5] false none [] with st := .ready, target := some 1, snap := { Snap.init with layers := [(4095, (0x80001F00 :: List.replicate 23 0))] } },
     (cmd 0x800 [5]), 4095, (0x80001F00 :: List.replicate 23 0), by decide +kernel, ⟨by decide +kernel,
     by decide +kernel, by decide +kernel, by decide +kernel⟩, by decide +kernel⟩⟩

theorem test_meets_ComposeSettingsAndSafetyPort :
    (∃ (h : Nat) (s : State), h < 32 ∧ s.dev.Reaches (R.HEAD_OUT_FMT.off h 0) ∧ s.dev.Alone) ∧
    (∃ (i : Nat) (s : State), i < 128 ∧ s.dev.get R.SCALER_STATUS_FAILED i = 0) ∧
    (∃ (t : Nat) (s : State), s.dev.comp.current = true ∧ s.dev.comp.tickAt + qMs ≤ (s.dev.clock t).wt) :=
  ⟨⟨31, (st up), by decide +kernel, ⟨by decide +kernel, by decide +kernel, by decide +kernel⟩,
     by unfold Dev.Alone; decide +kernel⟩,
   ⟨127, (st up), by decide +kernel⟩,
   ⟨0, (st { upAt qMs with comp := { CompSt.init with current := true } }), by decide +kernel⟩⟩

theorem test_meets_LinesAndFrames :
    (∃ (h n line : Nat) (f : FrameSt) (s : State), h < 32 ∧ (s.dev.head h).frame? n = some f ∧ line = f.next ∧
      line < f.row.h ∧ (∀ e ∈ f.todo, (visible e.2 f.row).yt ≠ line)) ∧
    (∃ (h n line : Nat) (f : FrameSt) (out : List Nat) (s : State), h < 32 ∧ (s.dev.head h).frame? n = some f ∧
      tabGet? f.open' line = some out ∧ s.mem.poison = [] ∧ s.mem.ue = [] ∧ s.dev.get R.MEM_STATUS_FAILED_CH = 0) ∧
    (∃ (h n line : Nat) (f : FrameSt) (s : State), h < 32 ∧ (s.dev.head h).frame? n = some f ∧ line = f.sent.length ∧
      line < f.row.h ∧ f.wb = none) ∧
    (∃ (h n : Nat) (s : State), h < 32 ∧ s.dev.headGroup h < 6 ∧ (s.dev.head h).grid = true ∧
      ((s.dev.head h).shown < n ∨ ((s.dev.head h).frame? n).isSome = true) ∧ s.dev.Alone) :=
  ⟨⟨31, 1, 479, { frame with next := 479 }, (st (upFrame { frame with next := 479 })), by decide +kernel⟩,
   ⟨31, 1, 0, { frame with open' := [(0, [])] }, [], (st (upFrame { frame with open' := [(0, [])] })),
     by decide +kernel⟩,
   ⟨31, 1, 0, frame, (st (upFrame frame)), by decide +kernel⟩,
   ⟨31, 1, (st (upFrame frame)), by decide +kernel, by decide +kernel, by decide +kernel, by decide +kernel,
     by unfold Dev.Alone; decide +kernel⟩⟩

theorem test_meets_TasterCompares :
    (∃ (k n : Nat) (f : FrameSt) (s : State), k < 1024 ∧ let w := s.dev.tstCur k;
      (s.dev.head (tsHead w)).frame? n = some f ∧ tsEnable w = true ∧ s.dev.headState (tsHead w) ≠ hsModeChange ∧
      (∀ j, j < tsF w 2 15 0 → (tabGet? f.sent (tsF w 1 15 0 + j)).isSome = true) ∧ (s.dev.taster k).fresh = true) ∧
    (∃ (k n : Nat) (f : FrameSt) (s : State), k < 1024 ∧ let w := s.dev.tstCur k;
      (s.dev.head (tsHead w)).frame? n = some f ∧ tsEnable w = true ∧ s.dev.headState (tsHead w) ≠ hsModeChange ∧
      (∀ j, j < tsF w 2 15 0 → (tabGet? f.sent (tsF w 1 15 0 + j)).isSome = true) ∧ (s.dev.taster k).fresh = false) :=
  ⟨⟨1023, 1, { frame with sent := [(0, [])] },
     (st { ((upFrame { frame with sent := [(0, [])] }).setReg R.TST_CUR 0x8F800000 1023 0).setReg R.TST_CUR 1 1023 2 with comp := { (upFrame { frame with sent := [(0, [])] }).comp with tasters := [(1023, ⟨true, none⟩)] } }),
     by decide +kernel, by decide +kernel⟩,
   ⟨1023, 1, { frame with sent := [(0, [])] },
     (st { ((upFrame { frame with sent := [(0, [])] }).setReg R.TST_CUR 0x8F800000 1023 0).setReg R.TST_CUR 1 1023 2 with comp := { (upFrame { frame with sent := [(0, [])] }).comp with tasters := [(1023, ⟨false, none⟩)] } }),
     by decide +kernel, by decide +kernel⟩⟩

theorem test_meets_LinkTraining :
    (∃ (p : Nat) (s : State), p < 16 ∧ s.dev.Alone) ∧
    (∃ (p : Nat) (s : State), p < 16 ∧ s.dev.Alone ∧ let x := s.dev.port p; x.clockOut = false ∧
      s.dev.on R.DP_STATUS_HPD p = true ∧ x.trying = none) ∧
    (∃ (p : Nat) (s : State), p < 16 ∧ s.dev.Alone ∧ let x := s.dev.port p; ∃ k at', (x.trying = some (k, at')) ∧
      k < 12) ∧
    (∃ (t p : Nat) (s : State), p < 16 ∧ s.dev.Alone ∧ let x := s.dev.port p; x.fails ≠ 0 ∧ x.trying = none ∧
      x.clockOut = false ∧ x.failAt + min 16 (2 ^ (x.fails - 1)) * qS ≤ max s.dev.now t) ∧
    (∃ (p : Nat) (s : State), p < 16 ∧ s.dev.Alone ∧ let x := s.dev.port p; x.clockOut = false) ∧
    (∃ (p : Nat) (s : State), p < 16 ∧ s.dev.Alone ∧ let x := s.dev.port p; x.clockOut = true) :=
  ⟨⟨15, (st up), by decide +kernel, by unfold Dev.Alone; decide +kernel⟩,
   ⟨15,
     (st { up.put R.DP_STATUS_HPD 1 15 with comp := { CompSt.init with ports := [(15, { PortSt.init with trained := none })] } }),
     by decide +kernel, by unfold Dev.Alone; decide +kernel, by decide +kernel⟩,
   ⟨15,
     (st { up.put R.DP_STATUS_HPD 1 15 with comp := { CompSt.init with ports := [(15, { PortSt.init with trying := some (11, 0) })] } }),
     by decide +kernel, by unfold Dev.Alone; decide +kernel, 11, 0, by decide +kernel⟩,
   ⟨16 * qS, 15,
     (st { up.put R.DP_STATUS_HPD 1 15 with comp := { CompSt.init with ports := [(15, { PortSt.init with fails := 9 })] } }),
     by decide +kernel, by unfold Dev.Alone; decide +kernel, by decide +kernel⟩,
   ⟨15, (st up), by decide +kernel, by unfold Dev.Alone; decide +kernel, by decide +kernel⟩,
   ⟨15,
     (st { up.put R.DP_STATUS_HPD 1 15 with comp := { CompSt.init with ports := [(15, { PortSt.init with clockOut := true })] } }),
     by decide +kernel, by unfold Dev.Alone; decide +kernel, by decide +kernel⟩⟩

theorem test_meets_ModesAndDisplayCommands :
    (∃ (t h b : Nat) (s : State), h < 32 ∧ (s.dev.headEntry h).isSome = true ∧ s.dev.Alone ∧
      (s.dev.head h).boundary = some b ∧ b ≤ (s.dev.clock t).wt ∧ s.dev.headState h = hsModeChange ∧
      s.dev.err.fabricRun = false ∧ s.dev.boot.switch = none) ∧
    (∃ (h : Nat) (s : State), s.dev.headState h = hsModeChange ∧ (s.dev.head h).boundary = none ∧
      (s.dev.port (s.dev.headPort h)).trying = none ∧ (s.dev.port (s.dev.headPort h)).trained ≠ none ∧
      s.dev.err.fabricRun = false ∧ s.dev.boot.switch = none) ∧
    (∃ (p : Nat) (s : State), p < 16 ∧ s.dev.Alone ∧ s.dev.Reaches (R.DP_CTRL.off p 0)) ∧
    (∃ (q seq : Nat) (c : Cmd) (s : State), s.dev.Running q seq 0x0901 c ∧ s.dev.Alone ∧ c.Tail 16 ∧ c.p 0 1 < 16 ∧
      c.p 1 1 < 4 ∧ c.p 2 1 < 16 ∧ c.p 4 4 < (if c.p 1 1 < 2 then 2 ^ 20 else 2 ^ 15) ∧ (c.p 1 1 % 2 = 1 →
      c.hostData ≠ none ∧ ∀ bs ps, c.hostData = some (bs, ps) → ps = [])) ∧
    (∃ (q seq : Nat) (c : Cmd) (s : State), s.dev.Running q seq 0x0902 c ∧ s.dev.Alone ∧ c.Tail 1 ∧ c.p 0 1 < 16 ∧
      let p := c.p 0 1; let x := s.dev.port p; x.waiting = []) :=
  ⟨⟨0, 31, 0,
     (st { upHead.put R.HEAD_DISP_STATUS_STATE hsModeChange 31 with comp := { CompSt.init with heads := [(31, { HeadSt.init with boundary := some 0 })], ports := [] } }),
     by decide +kernel, by decide +kernel, by unfold Dev.Alone; decide +kernel, by decide +kernel⟩,
   ⟨31,
     (st { upHead.put R.HEAD_DISP_STATUS_STATE hsModeChange 31 with comp := { CompSt.init with heads := [(31, { HeadSt.init with grid := true })], ports := [(15, { PortSt.init with trained := some 0 })] } }),
     by decide +kernel⟩,
   ⟨15, (st up), by decide +kernel, by unfold Dev.Alone; decide +kernel, ⟨by decide +kernel, by decide +kernel,
     by decide +kernel⟩⟩,
   ⟨15, 7, (cmd 0x901 [15, 3, 15, 0, 255, 127, 0, 0] (some ([], []))), (on (cmd 0x901 [15, 3, 15, 0, 255, 127, 0,
     0] (some ([], []))) up), ⟨by decide +kernel, by decide +kernel, by decide +kernel, by decide +kernel⟩,
     by unfold Dev.Alone; decide +kernel, by unfold Cmd.Tail; decide +kernel, by decide +kernel, by decide +kernel,
     by decide +kernel, by decide +kernel, (fun _ => ⟨by decide +kernel, fun bs ps h => by cases h; rfl⟩)⟩,
   ⟨15, 7, (cmd 0x902 [15]), (on (cmd 0x902 [15]) up), ⟨by decide +kernel, by decide +kernel, by decide +kernel,
     by decide +kernel⟩, by unfold Dev.Alone; decide +kernel, by unfold Cmd.Tail; decide +kernel, by decide +kernel,
     by decide +kernel⟩⟩

theorem test_meets_EncodeRows :
    (∃ (c n row : Nat) (o : EncOpen) (f : EncFrame) (s : State), c < 256 ∧ s.dev.encState c = enRunning ∧
      (s.dev.encCtx c).open' = some o ∧ (s.dev.encCtx c).frames.find? (fun f => f.n == n) = some f ∧
      row = f.ready.length ∧ row < o.rows ∧ s.dev.rowWritten o f row = true ∧
      (row ≠ 0 ∨ (s.dev.encCtx c).frames = [f])) ∧
    (∃ (c n row : Nat) (o : EncOpen) (f : EncFrame) (s : State), c < 256 ∧ s.dev.encState c = enRunning ∧
      (s.dev.encCtx c).open' = some o ∧ (s.dev.encCtx c).frames.find? (fun f => f.n == n) = some f ∧
      row = f.ready.length ∧ row < o.rows ∧ s.dev.rowWritten o f row = true ∧
      ∃ (g : EncFrame) (skips : List (List Byte)), row = 0 ∧ ((s.dev.encCtx c).frames = [g, f]) ∧ g.n ≠ n ∧
      let late := (List.range o.rows).filter fun r => !g.done.contains r && !s.dev.encBegun c g.n r; late ≠ [] ∧
      skips.length = late.length ∧ (∀ b ∈ skips, b.length ≤ 60)) ∧
    (∃ (t e : Nat) (s : State), e < 2 ∧ s.dev.get R.ENC_ENG_STATUS_FAILED e = 0 ∧ (∀ x ∈ s.dev.enc.ctxs, x.1 < 256) ∧
      ∃ r, tabGet? s.dev.enc.engines e = some r ∧ r.start + 10 * qMs ≤ max s.dev.now t) ∧
    (∃ (e : Nat) (s : State), e < 2 ∧ s.dev.get R.ENC_ENG_STATUS_FAILED e = 0 ∧ (∀ x ∈ s.dev.enc.ctxs, x.1 < 256)) ∧
    (∃ (e : Nat) (r : EncRow) (g : EncRun) (o : EncOpen) (f : EncFrame) (s : State), e < 2 ∧ g.ctx < 256 ∧
      tabGet? s.dev.enc.engines e = some g ∧ (s.dev.encCtx g.ctx).open' = some o ∧
      (s.dev.encCtx g.ctx).frames.find? (fun f => f.n == g.n) = some f ∧
      rowFits o f g.row (r.slice.length + 4) r.skipped = true ∧ 0 < o.ring ∧ o.ring ≤ 2 ^ 28) :=
  ⟨⟨255, 1, 0, enc, (encFrame 1), (st (upEnc [(encFrame 1)])), by decide +kernel⟩,
   ⟨255, 2, 0, enc, (encFrame 2), (st (upEnc [(encFrame 1), (encFrame 2)])), by decide +kernel, by decide +kernel,
     by decide +kernel, by decide +kernel, by decide +kernel, by decide +kernel, by decide +kernel, (encFrame 1), [[],
     [], [], []], by decide +kernel, by decide +kernel, by decide +kernel, by decide +kernel⟩,
   ⟨10 * qMs, 1,
     (st { upEnc [(encFrame 1)] with enc := { (upEnc [(encFrame 1)]).enc with engines := [(1, ⟨255, 1, 0, 0⟩)] } }),
     by decide +kernel, by decide +kernel, by decide +kernel, ⟨255, 1, 0, 0⟩, by decide +kernel⟩,
   ⟨1, (st { upEnc [(encFrame 1)] with enc := { (upEnc [(encFrame 1)]).enc with engines := [(1, ⟨255, 1, 0, 0⟩)] } }),
     by decide +kernel⟩,
   ⟨1, ⟨[], [], false⟩, ⟨255, 1, 0, 0⟩, enc, (encFrame 1),
     (st { upEnc [(encFrame 1)] with enc := { (upEnc [(encFrame 1)]).enc with engines := [(1, ⟨255, 1, 0, 0⟩)] } }),
     by decide +kernel⟩⟩

theorem test_meets_EncodeCommands :
    (∃ (q seq : Nat) (cm : Cmd) (b : List Byte) (s : State), s.dev.Running q seq 0x0610 cm ∧ s.dev.Alone ∧ cm.Tail 8 ∧
      (cm.hostData = some (b, [])) ∧ let c := leAt b 0 1; let o := encOpenOf s.dev b; s.dev.inState c = inClosed ∧
      s.dev.encState c = enClosed ∧ o.period = 0) ∧
    (∃ (q seq : Nat) (cm : Cmd) (b : List Byte) (s : State), s.dev.Running q seq 0x0610 cm ∧ s.dev.Alone ∧ cm.Tail 8 ∧
      (cm.hostData = some (b, [])) ∧ let c := leAt b 0 1; let o := encOpenOf s.dev b; s.dev.inState c = inClosed ∧
      s.dev.encState c = enClosed ∧ o.period ≠ 0 ∧ o.kbps ≠ 0 ∧ o.cap ≠ 0 ∧ encBadField b o = none ∧
      (s.dev.headEntry o.head).isSome = true ∧ (s.dev.inForce o.head).wbOn = true ∧
      (s.dev.inForce o.head).wbFmt = codecFmt o.codec ∧ encRangeBad s.dev c o = false) ∧
    (∃ (q seq : Nat) (cm : Cmd) (s : State), s.dev.Running q seq 0x0611 cm ∧ s.dev.Alone ∧ cm.Tail 1 ∧ cm.p 0 1 < 256) ∧
    (∃ (q seq : Nat) (cm : Cmd) (s : State), s.dev.Running q seq 0x0612 cm ∧ s.dev.Alone ∧ cm.Tail 2 ∧ cm.p 1 1 < 2) :=
  ⟨⟨15, 7, (cmd 0x610 [0, 0] (some ([], []))), [], (on (cmd 0x610 [0, 0] (some ([], []))) up), ⟨by decide +kernel,
     by decide +kernel, by decide +kernel, by decide +kernel⟩, by unfold Dev.Alone; decide +kernel,
     by unfold Cmd.Tail; decide +kernel, by decide +kernel, by decide +kernel⟩,
   ⟨15, 7, (cmd 0x610 [0, 0] (some ([255, 31, 0, 0, 0, 51, 1, 0, 64, 66, 15, 0, 0, 0, 0, 1, 0, 0, 0, 0, 1, 0, 0, 0, 0,
     0], []))), [255, 31, 0, 0, 0, 51, 1, 0, 64, 66, 15, 0, 0, 0, 0, 1, 0, 0, 0, 0, 1, 0, 0, 0, 0, 0],
     (on (cmd 0x610 [0, 0] (some ([255, 31, 0, 0, 0, 51, 1, 0, 64, 66, 15, 0, 0, 0, 0, 1, 0, 0, 0, 0, 1, 0, 0, 0, 0,
     0],
     []))) { upHead with comp := { CompSt.init with heads := [(31, { HeadSt.init with wbCtrl := 0x84000000 })] } }),
     ⟨by decide +kernel, by decide +kernel, by decide +kernel, by decide +kernel⟩,
     by unfold Dev.Alone; decide +kernel, by unfold Cmd.Tail; decide +kernel, by decide +kernel, by decide +kernel⟩,
   ⟨15, 7, (cmd 0x611 [255]), (on (cmd 0x611 [255]) up), ⟨by decide +kernel, by decide +kernel, by decide +kernel,
     by decide +kernel⟩, by unfold Dev.Alone; decide +kernel, by unfold Cmd.Tail; decide +kernel, by decide +kernel⟩,
   ⟨15, 7, (cmd 0x612 [255, 1]), (on (cmd 0x612 [255, 1]) up), ⟨by decide +kernel, by decide +kernel,
     by decide +kernel, by decide +kernel⟩, by unfold Dev.Alone; decide +kernel, by unfold Cmd.Tail; decide +kernel,
     by decide +kernel⟩⟩

theorem test_meets_TouchScans :
    (∃ (t p : Nat) (s : State), p < 2 ∧ s.dev.Alone ∧ s.dev.clockOn 7 = true ∧ let w := (s.dev.clock t).wt;
      let j := (scanStart w).1; let start := (scanStart w).2; let st := s.dev.touch p; s.dev.touchState p ≠ tchOff ∧
      st.lastJ ≠ some j ∧ st.scan = none ∧ w < start + 4) ∧
    (∃ (t p : Nat) (s : State), p < 2 ∧ s.dev.Alone ∧ s.dev.clockOn 7 = true ∧ let w := (s.dev.clock t).wt;
      let st := s.dev.touch p; ∃ sc, st.scan = some sc ∧ sc.simmer = false ∧ sc.done = false ∧ sc.inWindow w = true ∧
      s.dev.touchState p = tchBaseline) ∧
    (∃ (t p : Nat) (s : State), p < 2 ∧ s.dev.Alone ∧ s.dev.clockOn 7 = true ∧ let w := (s.dev.clock t).wt;
      let st := s.dev.touch p; ∃ sc, st.scan = some sc ∧ sc.simmer = false ∧ sc.done = false ∧ sc.inWindow w = true ∧
      s.dev.touchState p = tchFull) ∧
    (∃ (t p : Nat) (s : State), p < 2 ∧ s.dev.Alone ∧ s.dev.clockOn 7 = true ∧ let w := (s.dev.clock t).wt;
      let st := s.dev.touch p; ∃ sc, st.scan = some sc ∧ sc.simmer = true ∧ sc.done = false ∧ sc.inWindow w = true) ∧
    (∃ (t p : Nat) (s : State), p < 2 ∧ s.dev.Alone ∧ s.dev.clockOn 7 = true ∧ let w := (s.dev.clock t).wt;
      let st := s.dev.touch p; ∃ sc, st.scan = some sc ∧ sc.start + sc.duration + 600 * qUs ≤ w) :=
  ⟨⟨0, 1, (st (up.put R.TCH_STATUS_STATE 1 1)), by decide +kernel, by unfold Dev.Alone; decide +kernel,
     by decide +kernel, by decide +kernel⟩,
   ⟨0, 1, (st (upScan tchBaseline false 0)), by decide +kernel, by unfold Dev.Alone; decide +kernel,
     by decide +kernel, ⟨0, 0, false, .init, false, false, [], []⟩, by decide +kernel⟩,
   ⟨0, 1, (st (upScan tchFull false (600 * qUs))), by decide +kernel, by unfold Dev.Alone; decide +kernel,
     by decide +kernel, ⟨0, 0, false, .init, false, false, [], []⟩, by decide +kernel⟩,
   ⟨0, 1, (st (upScan tchSimmer true 0)), by decide +kernel, by unfold Dev.Alone; decide +kernel, by decide +kernel,
     ⟨0, 0, true, .init, false, false, [], []⟩, by decide +kernel⟩,
   ⟨0, 1, (st (upScan tchFull false (600 * qUs))), by decide +kernel, by unfold Dev.Alone; decide +kernel,
     by decide +kernel, ⟨0, 0, false, .init, false, false, [], []⟩, by decide +kernel⟩⟩

theorem test_meets_TouchCommandsAndConverters :
    (∃ (p : Nat) (v : Word) (s : State), p < 2 ∧ s.dev.Reaches (R.TCH_CTRL.off p 0) ∧ s.dev.Alone ∧ let n := v.toNat;
      bit n 30 = true ∧ s.dev.get R.TCH_CTRL_ENABLE p = 0) ∧
    (∃ (p : Nat) (v : Word) (s : State), p < 2 ∧ s.dev.Reaches (R.TCH_CTRL.off p 0) ∧ s.dev.Alone ∧ let n := v.toNat;
      bit n 30 = false ∧ s.dev.get R.TCH_CTRL_ENABLE p = 1) ∧
    (∃ (p : Nat) (v : Word) (s : State), p < 2 ∧ s.dev.Reaches (R.TCH_CTRL.off p 0) ∧ s.dev.Alone ∧ let n := v.toNat;
      bit n 31 = true ∧ b2n (bit n 30) = s.dev.get R.TCH_CTRL_ENABLE p) ∧
    (∃ (q seq : Nat) (c : Cmd) (s : State), s.dev.Running q seq 0x1002 c ∧ s.dev.Alone ∧ c.Tail 1 ∧ c.p 0 1 < 2 ∧
      let st := s.dev.touch (c.p 0 1); ((q, seq) ∉ st.rebaseCmds) ∧ (∀ sc, st.scan = some sc → (q, seq) ∉ sc.rebased)) ∧
    (∃ (t : Nat) (sq : AdcSeq) (s : State), s.dev.io.adc.seq = some sq ∧ s.dev.clockOn 8 = true ∧
      sq.start + sq.cfg.conversions * 500 * qNs ≤ (s.dev.clock t).wt ∧ sq.cfg.ch.length = 16) ∧
    (∃ (v : Word) (s : State), s.dev.Reaches 0x1004000 ∧ s.dev.Alone ∧ bit v.toNat 31 = true) ∧
    (∃ (n : Nat), n < 32) ∧
    (∃ (n : Nat) (b : Bounce) (s : State), n < 32 ∧ tabGet? s.dev.io.bounce n = some b) ∧
    (∃ (s : State), s.dev.Reaches 0x1006004 ∧ s.dev.Alone) :=
  ⟨⟨1, 0x40000000, (st up), by decide +kernel, ⟨by decide +kernel, by decide +kernel, by decide +kernel⟩,
     by unfold Dev.Alone; decide +kernel, by decide +kernel⟩,
   ⟨1, 0, (st (up.put R.TCH_CTRL_ENABLE 1 1)), by decide +kernel, ⟨by decide +kernel, by decide +kernel,
     by decide +kernel⟩, by unfold Dev.Alone; decide +kernel, by decide +kernel⟩,
   ⟨1, 0xC0000000, (st (up.put R.TCH_CTRL_ENABLE 1 1)), by decide +kernel, ⟨by decide +kernel, by decide +kernel,
     by decide +kernel⟩, by unfold Dev.Alone; decide +kernel, by decide +kernel⟩,
   ⟨15, 7, (cmd 0x1002 [1]), (on (cmd 0x1002 [1]) up), ⟨by decide +kernel, by decide +kernel, by decide +kernel,
     by decide +kernel⟩, by unfold Dev.Alone; decide +kernel, by unfold Cmd.Tail; decide +kernel, by decide +kernel,
     by decide +kernel,
     (fun sc h => absurd (h.symm.trans (show _ = none by decide +kernel)) (Option.some_ne_none sc))⟩,
   ⟨0, ⟨0, .init, []⟩, (st { up with io := { IoSt.init with adc := ⟨.init, some ⟨0, .init, []⟩⟩ } }),
     by decide +kernel⟩,
   ⟨0x80000000, (st up), ⟨by decide +kernel, by decide +kernel, by decide +kernel⟩,
     by unfold Dev.Alone; decide +kernel, by decide +kernel⟩,
   ⟨31, by decide +kernel⟩,
   ⟨31, ⟨true, 0⟩, (st { up with io := { IoSt.init with bounce := [(31, ⟨true, 0⟩)] } }), by decide +kernel⟩,
   ⟨(st up), ⟨by decide +kernel, by decide +kernel, by decide +kernel⟩, by unfold Dev.Alone; decide +kernel⟩⟩

theorem test_meets_LaunchesTriggersCaptures :
    (∃ (p at48 : Nat), p < 4 ∧ at48 < 2 ^ 48) ∧
    (∃ (t p : Nat) (l : Launch) (r : List Launch) (s : State), p < 4 ∧ s.dev.launches p = l :: r ∧
      later 48 l.at48 (s.dev.clock t).wt48 = false ∧ (∀ x, r.head? = some x →
      later 48 x.at48 (s.dev.clock t).wt48 = true) ∧ (∀ x, l.cycle = some x → x < 8)) ∧
    (∃ (u : Nat) (v : Word) (s : State), u < 16 ∧ s.dev.Reaches 0x301000 ∧ bit v.toNat 31 = true) ∧
    (∃ (t u : Nat) (s : State), u < 16 ∧ (s.dev.trig u).armed = true ∧ s.dev.wtState ≠ wtUnset ∧
      later 48 (s.dev.trig u).next (s.dev.clock t).wt48 = false) ∧
    (∃ (u : Nat), u < 16) ∧
    (∃ (u : Nat), u < 16) ∧
    (∃ (u : Nat) (s : State), u < 16 ∧ s.dev.Reaches 0x302008) :=
  ⟨⟨3, 2 ^ 48 - 1, by decide +kernel⟩,
   ⟨0, 3, ⟨1, [], true, some 7⟩, [],
     (st { up with time := { TimeSt.init with wt := ⟨0, 4, 0⟩, launch := [(3, [⟨1, [], true, some 7⟩])] } }),
     by decide +kernel, by decide +kernel, by decide +kernel, (by intro x h; cases h),
     (by intro x h; cases h; decide +kernel)⟩,
   ⟨15, 0x80000000, (st up), by decide +kernel, ⟨by decide +kernel, by decide +kernel, by decide +kernel⟩,
     by decide +kernel⟩,
   ⟨0, 15,
     (st { up.put R.WT_STATUS_STATE 1 with time := { TimeSt.init with trigs := [(15, ⟨true, false, 0, 0, 0, false⟩)] } }),
     by decide +kernel⟩,
   ⟨15, by decide +kernel⟩,
   ⟨15, by decide +kernel⟩,
   ⟨15, (st up), by decide +kernel, ⟨by decide +kernel, by decide +kernel, by decide +kernel⟩⟩⟩

theorem test_meets_ControlCycles :
    (∃ (t c : Nat) (x : CcCapture) (s : State), c < 4 ∧ (s.dev.cycle c).capture = some x ∧
      (s.dev.cycle c).running = true ∧ x.adc.isSome = true ∧ let k := s.dev.cycle c;
      let pl := (s.dev.clock t).ccPayload c k x;
      let la : Launch := ⟨(x.lk + k.offA * 1000) % 2 ^ 48, frameBytes k.hdrA pl, true, some (2 * c)⟩;
      let lb : Launch := ⟨(x.lk + k.offB * 1000) % 2 ^ 48, frameBytes k.hdrB pl, true, some (2 * c + 1)⟩; k.a < 4 ∧
      (s.dev.clock t).Launchable la.at48 ∧ (k.portB = true → k.b < 4 ∧ k.b ≠ k.a ∧
      (s.dev.clock t).Launchable lb.at48)) ∧
    (∃ (q seq : Nat) (cm : Cmd) (b : List Byte) (s : State), s.dev.Running q seq 0x1000 cm ∧ s.dev.Alone ∧ cm.Tail 8 ∧
      (cm.hostData = some (b, [])) ∧ b.length = 192) ∧
    (∃ (q seq : Nat) (cm : Cmd) (s : State), s.dev.Running q seq 0x1001 cm ∧ s.dev.Alone ∧ cm.Tail 1 ∧ cm.p 0 1 < 4 ∧
      let c := cm.p 0 1; let k := s.dev.cycle c; k.unit < 16) :=
  ⟨⟨0, 3, ⟨0, 0, 1, false, false, false, 0, 0, 0, [], some []⟩,
     (st { up with io := { IoSt.init with cycles := [(3, { Cycle.init with running := true, portB := true, a := 3, b := 2, capture := some ⟨0, 0, 1, false, false, false, 0, 0, 0, [], some []⟩ })] } }),
     by decide +kernel, by decide +kernel, by decide +kernel, by decide +kernel, by decide +kernel,
     (by unfold Dev.Launchable; decide +kernel), (fun _ => ⟨by decide +kernel, by decide +kernel,
     by unfold Dev.Launchable; decide +kernel⟩)⟩,
   ⟨15, 7, (cmd 0x1000 [] (some ((List.replicate 192 0), []))), (List.replicate 192 0),
     (on (cmd 0x1000 [] (some ((List.replicate 192 0), []))) up), ⟨by decide +kernel, by decide +kernel,
     by decide +kernel, by decide +kernel⟩, by unfold Dev.Alone; decide +kernel, by unfold Cmd.Tail; decide +kernel,
     by decide +kernel⟩,
   ⟨15, 7, (cmd 0x1001 [3]), (on (cmd 0x1001 [3]) up), ⟨by decide +kernel, by decide +kernel, by decide +kernel,
     by decide +kernel⟩, by unfold Dev.Alone; decide +kernel, by unfold Cmd.Tail; decide +kernel, by decide +kernel,
     by decide +kernel⟩⟩

theorem test_meets_PaentFlits :
    (∃ (s : State), s.dev.Reaches 0xB00000) ∧
    (∃ (p : Nat) (flit : List Byte) (s : State), p < 4 ∧ s.dev.pln p = plnUp ∧
      s.dev.get R.PLN_STATUS_RX_ASLEEP p = 0 ∧ flit.length = 64 ∧ crcOf 1 (flit.take 60) ≠ leAt flit 60 4) ∧
    (∃ (p : Nat) (flit : List Byte) (s : State), p < 4 ∧ s.dev.pln p = plnUp ∧
      s.dev.get R.PLN_STATUS_RX_ASLEEP p = 0 ∧ flit.length = 64 ∧ let w := leAt flit 56 4;
      crcOf 1 (flit.take 60) = leAt flit 60 4 ∧ bit w 7 = false) ∧
    (∃ (p : Nat) (flit : List Byte) (s : State), p < 4 ∧ s.dev.pln p = plnUp ∧
      s.dev.get R.PLN_STATUS_RX_ASLEEP p = 0 ∧ flit.length = 64 ∧ let l := s.dev.link p; let w := leAt flit 56 4;
      ∃ k ks, crcOf 1 (flit.take 60) = leAt flit 60 4 ∧ bit w 7 = true ∧ l.replay = k :: ks ∧
      l.replay.any (fun k => k.seq == bits w 19 8) = false ∧ l.tries + 1 < 8) ∧
    (∃ (t p : Nat) (k : Kept) (ks : List Kept) (s : State), p < 4 ∧ s.dev.pln p = plnUp ∧
      (s.dev.link p).replay = k :: ks ∧ (s.dev.link p).ackAt + 20 * qUs ≤ max s.dev.now t) ∧
    (∃ (t p : Nat) (s : State), p < 4 ∧ s.dev.pln p = plnUp ∧ s.dev.get R.PLN_STATUS_TX_ASLEEP p = 0 ∧
      (s.dev.lanes p).txFrom ≤ max s.dev.now t ∧ let l := s.dev.link p; ∃ k, l.resend = some k.seq ∧
      l.replay.find? (fun x => x.seq == k.seq) = some k) ∧
    (∃ (t p : Nat) (s : State), p < 4 ∧ s.dev.pln p = plnUp ∧ s.dev.get R.PLN_STATUS_TX_ASLEEP p = 0 ∧
      (s.dev.lanes p).txFrom ≤ max s.dev.now t ∧ let l := s.dev.link p; l.resend = none ∧
      (1024 ≤ l.replay.length ∨ (l.cur = none ∧ s.dev.inRouting p = false))) ∧
    (∃ (t p : Nat) (s : State), p < 4 ∧ s.dev.pln p = plnUp ∧ s.dev.get R.PLN_STATUS_TX_ASLEEP p = 0 ∧
      (s.dev.lanes p).txFrom ≤ max s.dev.now t ∧ let l := s.dev.link p; ∃ o c more, l.resend = none ∧
      l.replay.length < 1024 ∧ (o.closes = none ∨ more ≠ []) ∧ (l.cur = some (o, c :: more) ∨ (l.cur = none ∧
      s.dev.inRouting p = true ∧ s.dev.sys.sends = [] ∧ l.queue = [o] ∧ o.env.flits = c :: more ∧ o.env.cls < 4 ∧
      (o.injected = false ∨ s.dev.sys.vc1Hold = none))) ∧
      tabGetD l.spent 0 (o.env.cls * 2 + o.env.vc) < creditOf (o.env.cls * 2 + o.env.vc)) ∧
    (∃ (p : Nat) (e : Env) (rest : List Env) (s : State), p < 4 ∧ (s.dev.link p).whole = e :: rest) :=
  ⟨⟨(st up), ⟨by decide +kernel, by decide +kernel, by decide +kernel⟩⟩,
   ⟨3, (List.replicate 64 0), (st (upLink Link.init)), by decide +kernel⟩,
   ⟨3, (flitOf 0), (st (upLink Link.init)), by decide +kernel, by decide +kernel, by decide +kernel,
     by decide +kernel, by decide +kernel⟩,
   ⟨3, (flitOf 0x80), (st (upLink { Link.init with replay := [⟨5, [], 0⟩], tries := 6 })), by decide +kernel,
     by decide +kernel, by decide +kernel, by decide +kernel, ⟨5, [], 0⟩, [], by decide +kernel⟩,
   ⟨20 * qUs, 3, ⟨5, [], 0⟩, [], (st (upLink { Link.init with replay := [⟨5, [], 0⟩] })), by decide +kernel⟩,
   ⟨0, 3, (st (upLink { Link.init with replay := [⟨5, [], 0⟩], resend := some 5 })), by decide +kernel,
     by decide +kernel, by decide +kernel, by decide +kernel, ⟨5, [], 0⟩, by decide +kernel⟩,
   ⟨0, 3, (st (upLink Link.init)), by decide +kernel, by decide +kernel, by decide +kernel, by decide +kernel,
     by decide +kernel⟩,
   ⟨0, 3, (st (upLink { Link.init with cur := some (⟨⟨3, 1, false, 0, 0, 0, 0, [], []⟩, none, false, none⟩, [[]]) })),
     by decide +kernel, by decide +kernel, by decide +kernel, by decide +kernel, ⟨⟨3, 1, false, 0, 0, 0, 0, [], []⟩,
     none, false, none⟩, [], [], by decide +kernel⟩,
   ⟨3, ⟨3, 1, false, 0, 0, 0, 0, [], []⟩, [],
     (st (upLink { Link.init with whole := [⟨3, 1, false, 0, 0, 0, 0, [], []⟩] })), by decide +kernel⟩⟩

theorem test_meets_PaentCredits :
    (∃ p sel, p < 4 ∧ sel < 8) ∧
    (∃ (p sel : Nat) (s : State), p < 4 ∧ sel < 8 ∧ tabGetD (s.dev.link p).spent 0 sel ≤ 32) ∧
    (∃ (p sel : Nat) (s : State), p < 4 ∧ sel < 8 ∧ 32 ≤ tabGetD (s.dev.link p).spent 0 sel) ∧
    (∃ (t p : Nat) (o : OutEnv) (fs : List (List Byte)) (s : State), p < 4 ∧ s.dev.pln p = plnUp ∧
      s.dev.get R.PLN_STATUS_TX_ASLEEP p = 0 ∧ (s.dev.lanes p).txFrom ≤ max s.dev.now t ∧
      (s.dev.link p).resend = none ∧ (s.dev.link p).cur = some (o, fs) ∧ o.env.cls < 4 ∧ o.env.vc < 2 ∧
      32 ≤ tabGetD (s.dev.link p).spent 0 (o.env.cls * 2 + o.env.vc)) :=
  ⟨⟨3, 7, by decide +kernel⟩,
   ⟨3, 7, st (upLink { Link.init with spent := [(7, 32)] }), by decide +kernel⟩,
   ⟨3, 7, st (upLink { Link.init with spent := [(7, 32)] }), by decide +kernel⟩,
   ⟨0, 3, ⟨⟨3, 1, false, 4, 0, 0, 0, [], []⟩, none, false, none⟩, [[]],
     st (upLink { Link.init with spent := [(7, 32)], cur := some (⟨⟨3, 1, false, 4, 0, 0, 0, [], []⟩, none, false, none⟩, [[]]) }),
     by decide +kernel⟩⟩

theorem test_meets_PaentRoutesAndElection :
    (∃ (s : State), s.dev.manages = false) ∧
    (∃ (s : State), s.dev.manages = true) ∧
    (∃ (r : RouteSet), (r.routes.map (·.1)).Nodup ∧ (∀ e ∈ r.shed, e < 256)) ∧
    (∃ (a : Nat) (s : State), s.dev.sys.vc1Hold = some a) ∧
    (∃ (p : Nat) (a : Announce) (s : State), p < 4 ∧ a.module < 512 ∧ s.dev.Alone ∧ a.module = s.dev.moduleId ∧
      s.dev.get R.PAENT_MGR_ID_CONFLICT = 0) ∧
    (∃ (p : Nat) (a : Announce) (s : State), p < 4 ∧ a.module < 512 ∧ s.dev.Alone ∧ a.module ≠ s.dev.moduleId ∧
      tabGet? s.dev.sys.dir a.module = none) ∧
    (∃ (t a : Nat) (s : State), s.dev.Alone ∧ s.dev.sys.bestFrom = some a ∧ s.dev.get R.PAENT_ID_VALID = 1 ∧
      s.dev.get R.PAENT_MGR_MGR_PRIO ≠ 0 ∧ a + 500 * qMs ≤ max s.dev.now t ∧ (∀ e ∈ s.dev.sys.dir,
      e.1 = s.dev.moduleId ∨ betterCandidate (e.2.prio, e.1) s.dev.mgrCandidate = false) ∧
      s.dev.sys.manager ≠ some s.dev.moduleId) ∧
    (∃ (t m : Nat) (e : DirEntry) (s : State), s.dev.Alone ∧ s.dev.sys.manager = some m ∧ m ≠ s.dev.moduleId ∧
      tabGet? s.dev.sys.dir m = some e ∧ e.heard + 500 * qMs ≤ max s.dev.now t) :=
  ⟨⟨(st up), by decide +kernel⟩,
   ⟨(st (up.put R.PAENT_MGR_IS_MANAGER 1)), by decide +kernel⟩,
   ⟨⟨[(511, 0, 0)], [], [], [], [255], false⟩, by decide +kernel⟩,
   ⟨0, (st { up with sys := { SysSt.init with vc1Hold := some 0 } }), by decide +kernel⟩,
   ⟨3, ⟨0, 0, 0, 0, 0, 0, 0⟩, (st up), by decide +kernel, by decide +kernel, by unfold Dev.Alone; decide +kernel,
     by decide +kernel⟩,
   ⟨3, ⟨511, 0, 0, 0, 0, 0, 0⟩, (st up), by decide +kernel, by decide +kernel, by unfold Dev.Alone; decide +kernel,
     by decide +kernel⟩,
   ⟨500 * qMs, 0,
     (st { (up.put R.PAENT_ID_VALID 1).put R.PAENT_MGR_MGR_PRIO 1 with sys := { SysSt.init with bestFrom := some 0, dir := [(511, ⟨0, 0, 0, 1, 0, 0, 0⟩)] } }),
     by unfold Dev.Alone; decide +kernel, by decide +kernel⟩,
   ⟨500 * qMs, 511, ⟨0, 0, 0, 1, 0, 0, 0⟩,
     (st { up with sys := { SysSt.init with manager := some 511, dir := [(511, ⟨0, 0, 0, 1, 0, 0, 0⟩)] } }),
     by unfold Dev.Alone; decide +kernel, by decide +kernel⟩⟩

theorem test_meets_RemoteSources :
    (∃ (p : Nat), p < 4) ∧
    (∃ (p : Nat) (s : State), p < 4 ∧ s.dev.inRouting p = true) ∧
    (∃ (rs : List (Nat × Option Int)), (rs.map (·.1)).Nodup) ∧
    (∃ (port r : Nat) (e : Env) (v : Recv) (s : State), (s.dev.sys.inbox.find? (fun e => e.2.type == 4) = some (port,
      e)) ∧ (s.dev.recvOf e.src (leAt e.td 0 1) = some (r, v)) ∧ tabGet? s.dev.sys.recvs r = some v ∧ r < 256 ∧
      s.dev.get R.RX_STATUS_SHED r = 0 ∧ (∀ l ∈ s.dev.canvasOn (.recv r), l < 4096) ∧ let flags := leAt e.td 1 1; ∃ i,
      bit flags 0 = true ∧ bit flags 1 = true ∧ v.rx = none ∧ s.dev.lockOf s.dev.moduleId = true ∧
      s.dev.lockOf e.src = true ∧
      ((List.range v.count).find? fun i => (tabGetD v.slots PicSlot.free i).isFree) = some i) ∧
    (∃ (port r : Nat) (e : Env) (v : Recv) (s : State), (s.dev.sys.inbox.find? (fun e => e.2.type == 4) = some (port,
      e)) ∧ (s.dev.recvOf e.src (leAt e.td 0 1) = some (r, v)) ∧ tabGet? s.dev.sys.recvs r = some v ∧ r < 256 ∧
      s.dev.get R.RX_STATUS_SHED r = 0 ∧ (∀ l ∈ s.dev.canvasOn (.recv r), l < 4096) ∧ let flags := leAt e.td 1 1;
      bit flags 0 = true ∧ v.rx = none ∧ (s.dev.lockOf s.dev.moduleId = false ∨ s.dev.lockOf e.src = false)) ∧
    (∃ (port r : Nat) (e : Env) (v : Recv) (s : State), (s.dev.sys.inbox.find? (fun e => e.2.type == 4) = some (port,
      e)) ∧ (s.dev.recvOf e.src (leAt e.td 0 1) = some (r, v)) ∧ tabGet? s.dev.sys.recvs r = some v ∧ r < 256 ∧
      s.dev.get R.RX_STATUS_SHED r = 0 ∧ (∀ l ∈ s.dev.canvasOn (.recv r), l < 4096) ∧ let flags := leAt e.td 1 1; ∃ k,
      bit flags 0 = false ∧ v.rx = some k ∧ (k.pic ≠ leAt e.td 2 2 ∨ k.off ≠ leAt e.td 4 4)) ∧
    (∃ (q seq r : Nat) (src : RemoteSource) (su : SlotGeometry) (c : Cmd) (s : State), s.dev.Running q seq 0x0B00 c ∧
      s.dev.Alone ∧ c.Tail 16 ∧ ((List.range 256).find? fun r => (tabGet? s.dev.sys.recvs r).isNone) = some r ∧
      c.p 0 2 < 512 ∧ c.p 0 2 ≠ s.dev.moduleId ∧ c.p 3 1 ≤ 1 ∧ c.p 4 1 ≤ 7 ∧ c.p 5 1 = 0 ∧ c.p 6 1 = 0 ∧ c.p 7 1 = 0 ∧
      c.p 8 8 % 65536 = 0 ∧ src.setup = some su) ∧
    (∃ (q seq : Nat) (c : Cmd) (s : State), s.dev.Running q seq 0x0B01 c ∧ s.dev.Alone ∧ c.Tail 3 ∧ c.p 0 2 < 512 ∧
      s.dev.recvOf (c.p 0 2) (c.p 2 1) = none) ∧
    (∃ (q seq : Nat) (c : Cmd) (s : State), s.dev.Running q seq 0x0B01 c ∧ s.dev.Alone ∧ c.Tail 3 ∧ c.p 0 2 < 512 ∧
      ∃ r v, (s.dev.recvOf (c.p 0 2) (c.p 2 1) = some (r, v)) ∧ r < 256) :=
  ⟨⟨3, by decide +kernel⟩,
   ⟨3, (st (up.put R.PNT_PSTATUS_ROUTED 1 3)), by decide +kernel⟩,
   ⟨[(0, none), (511, some 0)], by decide +kernel⟩,
   ⟨3, 255, ⟨0, 0, false, 4, 0, 511, 0, [255, 3, 1, 0], []⟩, (recv none),
     (st { (upRecv 3 (recv none)).put R.PAENT_MGR_TIME_LOCK 1 with sys := { (upRecv 3 (recv none)).sys with locks := [(511, ⟨0, 0, true⟩)] } }),
     by decide +kernel, by decide +kernel, by decide +kernel, by decide +kernel, by decide +kernel, by decide +kernel,
     0, by decide +kernel⟩,
   ⟨3, 255, ⟨0, 0, false, 4, 0, 511, 0, [255, 1, 1, 0], []⟩, (recv none), (st (upRecv 1 (recv none))),
     by decide +kernel, by decide +kernel, by decide +kernel, by decide +kernel, by decide +kernel, by decide +kernel,
     by decide +kernel⟩,
   ⟨3, 255, ⟨0, 0, false, 4, 0, 511, 0, [255, 0, 1, 0], []⟩, (recv (some ⟨0, 0, 0, []⟩)),
     (st (upRecv 0 (recv (some ⟨0, 0, 0, []⟩)))), by decide +kernel, by decide +kernel, by decide +kernel,
     by decide +kernel, by decide +kernel, by decide +kernel, ⟨0, 0, 0, []⟩, by decide +kernel⟩,
   ⟨15, 7, 0, ⟨some ⟨false, 64, 64, 0, 0⟩, 25, 1, []⟩, ⟨false, 64, 64, 0, 0⟩, (cmd 0xB00 [255, 1, 255, 1, 7, 0, 0, 0,
     0, 0, 1, 0, 0, 0, 0, 0]), (on (cmd 0xB00 [255, 1, 255, 1, 7, 0, 0, 0, 0, 0, 1, 0, 0, 0, 0, 0]) up),
     ⟨by decide +kernel, by decide +kernel, by decide +kernel, by decide +kernel⟩,
     by unfold Dev.Alone; decide +kernel, by unfold Cmd.Tail; decide +kernel, by decide +kernel⟩,
   ⟨15, 7, (cmd 0xB01 [255, 1, 255]), (on (cmd 0xB01 [255, 1, 255]) up), ⟨by decide +kernel, by decide +kernel,
     by decide +kernel, by decide +kernel⟩, by unfold Dev.Alone; decide +kernel, by unfold Cmd.Tail; decide +kernel,
     by decide +kernel⟩,
   ⟨15, 7, (cmd 0xB01 [255, 1, 255]), (on (cmd 0xB01 [255, 1, 255]) (upRecv 0 (recv none))), ⟨by decide +kernel,
     by decide +kernel, by decide +kernel, by decide +kernel⟩, by unfold Dev.Alone; decide +kernel,
     by unfold Cmd.Tail; decide +kernel, by decide +kernel, 255, (recv none), by decide +kernel⟩⟩

theorem test_meets_PaentTraining :
    (∃ (p : Nat) (s : State), p < 4 ∧ s.dev.pln p = plnOff ∧ s.dev.paentRole p ≠ 0 ∧ s.dev.get R.PAENT_ID_VALID = 1 ∧
      phaseTime ≤ s.dev.phase ∧ s.dev.phase ≤ phaseRunning ∧ s.dev.clockAt 3 p = true ∧ s.dev.clockOn 4 = true) ∧
    (∃ (t p : Nat) (s : State), p < 4 ∧ let x := s.dev.lanes p; let now := max s.dev.now t;
      let step := s.dev.get R.PLN_STATUS_STEP p; ∃ t0, s.dev.pln p = plnTraining ∧ step = 2 ∧ x.t0 = some t0 ∧
      t0 + 9 * qMs ≤ now) ∧
    (∃ (p : Nat) (s : State), p < 4 ∧ let step := s.dev.get R.PLN_STATUS_STEP p; s.dev.pln p = plnTraining ∧ step = 3) ∧
    (∃ (p : Nat) (s : State), p < 4 ∧ ∃ (l : Nat) (v : Word), l < 6 ∧ s.dev.Reaches 0xB40100 ∧ bit v.toNat 31 = true) ∧
    (∃ (p : Nat) (s : State), p < 4 ∧ let x := s.dev.lanes p; let step := s.dev.get R.PLN_STATUS_STEP p;
      s.dev.pln p = plnTraining ∧ step = 5 ∧ x.go = true ∧ x.ready = true) ∧
    (∃ (t p : Nat) (s : State), p < 4 ∧ let x := s.dev.lanes p; let now := max s.dev.now t;
      s.dev.pln p = plnTraining ∧ x.stepAt + 10 * qMs < now) ∧
    (∃ (t p : Nat) (s : State), p < 4 ∧ let x := s.dev.lanes p; let now := max s.dev.now t;
      s.dev.pln p = plnTraining ∧ x.start + 200 * qMs < now) ∧
    (∃ (t p : Nat) (s : State), p < 4 ∧ let x := s.dev.lanes p; let now := max s.dev.now t;
      (s.dev.pln p = plnAbsent ∨ s.dev.pln p = plnWait) ∧ x.retryAt ≤ now) :=
  ⟨⟨3,
     (st { up.put R.PAENT_ID_VALID 1 with boot := { up.boot with image := some { Image.empty with paent := [(3, 1, 0, 0)] } } }),
     by decide +kernel⟩,
   ⟨9 * qMs, 3, (st (upTrain 2 { Train.init with t0 := some 0 })), by decide +kernel, 0, by decide +kernel⟩,
   ⟨3, (st (upTrain 3 .init)), by decide +kernel, by decide +kernel⟩,
   ⟨3, (st up), by decide +kernel, 5, 0x80000000, by decide +kernel, ⟨by decide +kernel, by decide +kernel,
     by decide +kernel⟩, by decide +kernel⟩,
   ⟨3, (st (upTrain 5 { Train.init with go := true, ready := true })), by decide +kernel, by decide +kernel⟩,
   ⟨10 * qMs + 1, 3, (st (upTrain 1 .init)), by decide +kernel, by decide +kernel⟩,
   ⟨200 * qMs + 1, 3, (st (upTrain 1 .init)), by decide +kernel, by decide +kernel⟩,
   ⟨0, 3, (st (up.put R.PLN_STATUS_STATE plnWait 3)), by decide +kernel, by decide +kernel⟩⟩

theorem test_meets_PaentLanes :
    (∃ (p : Nat) (s : State), p < 4 ∧ ∃ l region, l < 6 ∧ s.dev.get R.PLN_STATUS_RX_ASLEEP p = 0 ∧
      s.dev.clockOn 4 = true ∧ let b := (trainingData l region).1.take 16; leAt b 0 1 = 0xC5 ∧
      s.dev.pln p = plnTraining ∧ leAt b 1 1 = l) ∧
    (∃ (p : Nat) (s : State), p < 4 ∧ ∃ l region, l < 6 ∧ s.dev.get R.PLN_STATUS_RX_ASLEEP p = 0 ∧
      s.dev.clockOn 4 = true ∧ let b := (trainingData l region).1.take 16; leAt b 0 1 = 0xC5 ∧ s.dev.pln p = plnUp) ∧
    (∃ (p : Nat) (s : State), p < 4 ∧ ∃ (l : Nat), l < 6 ∧ s.dev.clockOn 4 = true) ∧
    (∃ (p : Nat) (s : State), p < 4 ∧ ∃ (v : Word), s.dev.Reaches 0xB40000 ∧ let n := v.toNat; bit n 31 = true ∧
      s.dev.pln p ≠ plnOff) ∧
    (∃ (p : Nat) (s : State), p < 4 ∧ ∃ (v : Word), s.dev.Reaches 0xB40000 ∧ let n := v.toNat; bit n 31 = false ∧
      bits n 30 30 ≠ s.dev.get R.PLN_CTRL_HOLD p) ∧
    (∃ (p : Nat) (s : State), p < 4 ∧ ∃ (v : Word), s.dev.Reaches 0xB40000 ∧ let n := v.toNat; bit n 31 = false ∧
      bit n 28 = true ∧ s.dev.pln p = plnUp ∧ bits n 30 30 = s.dev.get R.PLN_CTRL_HOLD p) ∧
    (∃ (p : Nat) (s : State), p < 4 ∧ ∃ (v : Word), s.dev.Reaches 0xB40000 ∧ let n := v.toNat; bit n 31 = false ∧
      bit n 28 = false ∧ s.dev.get R.PLN_STATUS_TX_ASLEEP p = 1) ∧
    (∃ (p : Nat) (s : State), p < 4 ∧ ∃ (v : Word), s.dev.Reaches 0xB40000 ∧ let n := v.toNat; bit n 31 = false ∧
      bit n 27 = true ∧ s.dev.pln p = plnUp ∧ bits n 30 30 = s.dev.get R.PLN_CTRL_HOLD p) ∧
    (∃ (p : Nat) (s : State), p < 4 ∧ ∃ (v : Word), s.dev.Reaches 0xB40000 ∧ let n := v.toNat; bit n 31 = false ∧
      bit n 27 = false ∧ s.dev.get R.PLN_STATUS_RX_ASLEEP p = 1) ∧
    (∃ (t p : Nat) (s : State), p < 4 ∧ let x := s.dev.lanes p; let now := max s.dev.now t; ∃ a, x.wakeRx = some a ∧
      s.dev.pln p = plnUp ∧ a + 10 * qMs ≤ now) ∧
    (∃ (p : Nat) (s : State), p < 4 ∧ ∃ (found : List (Nat × Nat × Nat)), s.dev.pln p = plnUp ∧ (∀ f ∈ found,
      f.1 < 6)) :=
  ⟨⟨3, (st (upTrain 3 .init)), by decide +kernel, 5, (region 5), by decide +kernel, by decide +kernel,
     by decide +kernel, by decide +kernel⟩,
   ⟨3, (st (upLink .init)), by decide +kernel, 5, (region 5), by decide +kernel, by decide +kernel, by decide +kernel,
     by decide +kernel⟩,
   ⟨3, (st (upLink .init)), by decide +kernel, 5, by decide +kernel⟩,
   ⟨3, (st (upLink .init)), by decide +kernel, 0x80000000, ⟨by decide +kernel, by decide +kernel, by decide +kernel⟩,
     by decide +kernel⟩,
   ⟨3, (st (upLink .init)), by decide +kernel, 0x40000000, ⟨by decide +kernel, by decide +kernel, by decide +kernel⟩,
     by decide +kernel⟩,
   ⟨3, (st (upLink .init)), by decide +kernel, 0x10000000, ⟨by decide +kernel, by decide +kernel, by decide +kernel⟩,
     by decide +kernel⟩,
   ⟨3, (st (up.put R.PLN_STATUS_TX_ASLEEP 1 3)), by decide +kernel, 0, ⟨by decide +kernel, by decide +kernel,
     by decide +kernel⟩, by decide +kernel⟩,
   ⟨3, (st (upLink .init)), by decide +kernel, 0x08000000, ⟨by decide +kernel, by decide +kernel, by decide +kernel⟩,
     by decide +kernel⟩,
   ⟨3, (st (up.put R.PLN_STATUS_RX_ASLEEP 1 3)), by decide +kernel, 0, ⟨by decide +kernel, by decide +kernel,
     by decide +kernel⟩, by decide +kernel⟩,
   ⟨10 * qMs, 3,
     (st { upLink .init with sys := { SysSt.init with trains := [(3, { Train.init with wakeRx := some 0 })] } }),
     by decide +kernel, 0, by decide +kernel⟩,
   ⟨3, (st (upLink .init)), by decide +kernel, [(5, 0, 0)], by decide +kernel⟩⟩

theorem test_meets_PairInterlockAndHandovers :
    (∃ (il1 il2 : Nat) (s : State), il1 ≤ 2 ∧ il2 ≤ 2 ∧ s.dev.FencesNamed) ∧
    (∃ (t a : Nat) (s : State), s.dev.pair.contAt = some a ∧ s.dev.on R.PAIR_STATUS_CLAIM = true ∧
      s.dev.on R.PAIR_STATUS_PREFERRED = true ∧ s.dev.ilLevel = 2 ∧ a + 10 * qMs ≤ max s.dev.now t) ∧
    (∃ (t a : Nat) (s : State), s.dev.pair.failAt = some a ∧ s.dev.on R.PAIR_STATUS_CLAIM = false ∧
      a + 10 * qMs ≤ max s.dev.now t) ∧
    (∃ (s : State), s.dev.FencesNamed) ∧
    (∃ (t : Nat) (s : State), s.dev.pst = prSeeking ∧ s.dev.pair.seekAt + 100 * qMs ≤ max s.dev.now t) ∧
    (∃ (a w n : Nat) (s : State), (s.dev.pair.wtrFrom = some (a, w, n)) ∧ s.dev.on R.PAIR_STATUS_WTR_RUNNING = true) :=
  ⟨⟨2, 2, (st up), by decide +kernel, by decide +kernel, (by unfold Dev.FencesNamed; decide +kernel)⟩,
   ⟨10 * qMs, 0,
     (st ((upPair prActive { PairSt.init with contAt := some 0, il1 := 2, il2 := 2 }).put R.PAIR_STATUS_CLAIM 1 |>.put R.PAIR_STATUS_PREFERRED 1)),
     by decide +kernel⟩,
   ⟨10 * qMs, 0, (st (upPair prStandby { PairSt.init with failAt := some 0 })), by decide +kernel⟩,
   ⟨(st up), (by unfold Dev.FencesNamed; decide +kernel)⟩,
   ⟨100 * qMs, (st (upPair prSeeking .init)), by decide +kernel⟩,
   ⟨0, 0, 0, (st ((upPair prActive { PairSt.init with wtrFrom := some (0, 0, 0) }).put R.PAIR_STATUS_WTR_RUNNING 1)),
     by decide +kernel⟩⟩

theorem test_meets_PairHeartbeats :
    (∃ (s : State), s.dev.paired = true ∧ s.dev.phase = phaseRunning ∧ s.dev.FencesNamed) ∧
    (∃ (s : State), s.dev.paired = true ∧ s.dev.phase = phaseRunning ∧ s.dev.FencesNamed ∧ ∃ (k m1 m0 n crc : Byte),
      (crcOf 3 [k, m1, m0, n] ≠ crc.toNat)) ∧
    (∃ (s : State), s.dev.paired = true ∧ s.dev.phase = phaseRunning ∧ s.dev.FencesNamed ∧ ∃ (k m1 m0 n crc : Byte),
      (crcOf 3 [k, m1, m0, n] = crc.toNat)) ∧
    (∃ (a n : Nat) (wire : Bool) (s : State), s.dev.FencesNamed ∧
      ((if wire then s.dev.pair.wire else s.dev.pair.paent) = some (a, n)) ∧
      let ok (w : Bool) := if w then R.PAIR_HB_WIRE_OK else R.PAIR_HB_PAENT_OK; s.dev.on (ok wire) = true) :=
  ⟨⟨(st (upPair prActive .init)), by decide +kernel, by decide +kernel, (by unfold Dev.FencesNamed; decide +kernel)⟩,
   ⟨(st (upPair prActive .init)), by decide +kernel, by decide +kernel, (by unfold Dev.FencesNamed; decide +kernel),
     0, 0, 0, 0, BitVec.ofNat 8 (crcOf 3 [0, 0, 0, 0] + 1), by decide +kernel⟩,
   ⟨(st (upPair prActive .init)), by decide +kernel, by decide +kernel, (by unfold Dev.FencesNamed; decide +kernel),
     0, 0, 0, 0, BitVec.ofNat 8 (crcOf 3 [0, 0, 0, 0]), by decide +kernel⟩,
   ⟨0, 3, true, (st ((upPair prActive { PairSt.init with wire := some (0, 3) }).put R.PAIR_HB_WIRE_OK 1)),
     (by unfold Dev.FencesNamed; decide +kernel), by decide +kernel, by decide +kernel⟩⟩

theorem test_meets_PairCommands :
    (∃ (v : Word) (s : State), s.dev.Reaches 0xC00000 ∧ bit v.toNat 31 = true) ∧
    (∃ (v : Word) (s : State), s.dev.Reaches 0xC00010 ∧ bit v.toNat 31 = true) ∧
    (∃ (v : Word) (s : State), s.dev.Reaches 0xC00010 ∧ bit v.toNat 31 = false ∧ bit v.toNat 30 = true) ∧
    (∃ (v : Word) (s : State), s.dev.Reaches 0xC00010 ∧ bit v.toNat 31 = false ∧ bit v.toNat 30 = false ∧
      bit v.toNat 28 = true) :=
  ⟨⟨0x80000000, (st (upPair prActive .init)), ⟨by decide +kernel, by decide +kernel, by decide +kernel⟩,
     by decide +kernel⟩,
   ⟨0x80000000, (st (upPair prActive .init)), ⟨by decide +kernel, by decide +kernel, by decide +kernel⟩,
     by decide +kernel⟩,
   ⟨0x40000000, (st (upPair prActive .init)), ⟨by decide +kernel, by decide +kernel, by decide +kernel⟩,
     by decide +kernel⟩,
   ⟨0x10000000, (st (upPair prActive .init)), ⟨by decide +kernel, by decide +kernel, by decide +kernel⟩,
     by decide +kernel⟩⟩

theorem test_meets_MirrorRecords :
    (∃ (s : State), s.dev.lay.held = [] ∧ s.dev.Alone) ∧
    (∃ (n : Nat) (s : State), s.dev.lay.held = [] ∧ s.dev.pst = prStandby ∧ s.dev.pair.next ≠ 0 ∧ n < s.dev.pair.next) ∧
    (∃ (n : Nat) (s : State), s.dev.lay.held = [] ∧ s.dev.pst = prStandby ∧ s.dev.pair.next ≠ 0 ∧
      s.dev.pair.next < n ∧ tabGet? s.dev.pair.ahead s.dev.pair.next = none) ∧
    (∃ (n : Nat) (s : State), s.dev.lay.held = [] ∧ s.dev.pst = prStandby ∧ s.dev.pair.next ≠ 0 ∧
      n = s.dev.pair.next ∧ s.dev.pair.ahead = []) ∧
    (∃ (s : State), s.dev.pst = prSyncing ∧ s.dev.lay.held = [] ∧ s.dev.pair.ahead = []) ∧
    (∃ (s : State), s.dev.FencesNamed ∧ s.dev.pst ≠ prActive) ∧
    (∃ (s : State), s.dev.FencesNamed ∧ s.dev.pst = prActive) ∧
    (∃ (s : State), s.dev.FencesNamed ∧ s.dev.pst = prActive ∧ ∃ q seq, q < 16 ∧
      ((s.dev.queue q).cmds.any fun c => c.seq == seq && c.awaiting) = false ∧
      ((s.dev.queue q).cmds.any fun c => c.seq == seq) = true) ∧
    (∃ (t a : Nat) (s : State), s.dev.pair.gapAt = some a ∧ a + qMs ≤ max s.dev.now t ∧
      (s.dev.pst = prStandby ∨ s.dev.pst = prSyncing)) :=
  ⟨⟨(st (upPair prActive .init)), by decide +kernel, by unfold Dev.Alone; decide +kernel⟩,
   ⟨0, (st (upPair prStandby { PairSt.init with next := 1 })), by decide +kernel⟩,
   ⟨2, (st (upPair prStandby { PairSt.init with next := 1 })), by decide +kernel⟩,
   ⟨1, (st (upPair prStandby { PairSt.init with next := 1 })), by decide +kernel⟩,
   ⟨(st (upPair prSyncing { PairSt.init with next := 0 })), by decide +kernel⟩,
   ⟨(st (upPair prStandby { PairSt.init with next := 1 })), (by unfold Dev.FencesNamed; decide +kernel),
     by decide +kernel⟩,
   ⟨(st (upPair prActive .init)), (by unfold Dev.FencesNamed; decide +kernel), by decide +kernel⟩,
   ⟨(on (cmd 0 []) (upPair prActive .init)), (by unfold Dev.FencesNamed; decide +kernel), by decide +kernel, 15, 7,
     by decide +kernel⟩,
   ⟨qMs, 0, (st (upPair prStandby { PairSt.init with gapAt := some 0 })), by decide +kernel⟩⟩

theorem test_meets_MemoryErrorsAndMigration :
    (∃ (line rank : Nat) (r : EccRead) (s : State), line < 2 ^ 30 ∧ rank < 2 ∧ s.dev.chFailed (chanOf line) = false ∧
      tabGet? s.mem.injected line = none ∧ (∀ x ∈ s.dev.mctl.waiting, x < 8) ∧ r = .clean) ∧
    (∃ (line rank : Nat) (r : EccRead) (s : State), line < 2 ^ 30 ∧ rank < 2 ∧ s.dev.chFailed (chanOf line) = false ∧
      tabGet? s.mem.injected line = none ∧ (∀ x ∈ s.dev.mctl.waiting, x < 8) ∧ ∃ dev, r = .corrected dev ∧ dev < 8) ∧
    (∃ (line rank : Nat) (r : EccRead) (s : State), line < 2 ^ 30 ∧ rank < 2 ∧ s.dev.chFailed (chanOf line) = false ∧
      tabGet? s.mem.injected line = none ∧ (∀ x ∈ s.dev.mctl.waiting, x < 8) ∧ r = .uncorrectable) ∧
    (∃ (line rank : Nat) (s : State), line < 2 ^ 30 ∧ rank < 2 ∧ s.dev.chFailed (chanOf line) = false ∧
      tabGet? s.mem.injected line = none ∧ (∀ x ∈ s.dev.mctl.waiting, x < 8) ∧ let d := s.dev; (∀ k, k < 2 →
      d.serves line k = decide (k = rank))) ∧
    (∃ (ch rank : Nat) (s : State), ch < 8 ∧ rank < 2 ∧ (∀ x ∈ s.dev.mctl.waiting, x < 8)) ∧
    (∃ (line rank v : Nat) (s : State), line < 2 ^ 30 ∧ rank < 2 ∧ s.dev.chFailed (chanOf line) = false ∧
      tabGet? s.mem.injected line = some (8 + v) ∧ v < 8 ∧ (∀ k, k < 2 → s.dev.serves line k = decide (k = rank))) ∧
    (∃ (t ch ptr after : Nat) (s : State), (s.dev.mctl.mig = some (ch, ptr, after)) ∧ ch < 8 ∧ ptr < 2 ^ 27 ∧
      max s.dev.now t < after) ∧
    (∃ (t ch ptr after : Nat) (r : EccRead) (s : State), (s.dev.mctl.mig = some (ch, ptr, after)) ∧ ch < 8 ∧
      ptr < 2 ^ 27 ∧ after ≤ max s.dev.now t ∧ r = .clean ∧ tabGet? s.mem.injected (lineOfRank ch ptr) = none) ∧
    (∃ (ch ptr after a : Nat) (s : State), (s.dev.mctl.mig = some (ch, ptr, after)) ∧ ch < 8 ∧ 2 ^ 27 ≤ ptr ∧ a < 2 ∧
      s.dev.rankState ch a = rkSource ∧ s.dev.rankState ch (1 - a) = rkTarget ∧ (∀ x ∈ s.dev.mctl.waiting, x < 8 ∧
      x ≠ ch)) ∧
    (∃ (s : State), s.dev.Reaches 0xD00004) :=
  ⟨⟨2 ^ 30 - 1, 1, .clean, (st up), by decide +kernel, by decide +kernel, by decide +kernel, by decide +kernel,
     by decide +kernel, (rfl)⟩,
   ⟨2 ^ 30 - 1, 1, .corrected 7, (st up), by decide +kernel, by decide +kernel, by decide +kernel, by decide +kernel,
     by decide +kernel, 7, (rfl), by decide +kernel⟩,
   ⟨2 ^ 30 - 1, 1, .uncorrectable, (st up), by decide +kernel, by decide +kernel, by decide +kernel,
     by decide +kernel, by decide +kernel, (rfl)⟩,
   ⟨2 ^ 30 - 1, 1,
     (st (up.put R.CH_STATUS_RANK0 rkSpare (chanOf (2 ^ 30 - 1)) |>.put R.CH_STATUS_RANK1 rkInService (chanOf (2 ^ 30 - 1)))),
     by decide +kernel, by decide +kernel, by decide +kernel, by decide +kernel, by decide +kernel, by decide +kernel⟩,
   ⟨7, 1, (st up), by decide +kernel⟩,
   ⟨2 ^ 30 - 1, 1, 7,
     { State.reset with dev := (up.put R.CH_STATUS_RANK0 rkSpare (chanOf (2 ^ 30 - 1)) |>.put R.CH_STATUS_RANK1 rkInService (chanOf (2 ^ 30 - 1))), mem := { Mem.init with injected := [(2 ^ 30 - 1, 15)] } },
     by decide +kernel⟩,
   ⟨0, 7, 2 ^ 27 - 1, 1, (st { up with mctl := { MemCtl.init with mig := some (7, 2 ^ 27 - 1, 1) } }),
     by decide +kernel⟩,
   ⟨1, 7, 2 ^ 27 - 1, 1, .clean, (st { up with mctl := { MemCtl.init with mig := some (7, 2 ^ 27 - 1, 1) } }),
     by decide +kernel, by decide +kernel, by decide +kernel, by decide +kernel, (rfl), by decide +kernel⟩,
   ⟨7, 2 ^ 27, 0, 1,
     (st { (up.put R.CH_STATUS_RANK1 rkSource 7).put R.CH_STATUS_RANK0 rkTarget 7 with mctl := { MemCtl.init with mig := some (7, 2 ^ 27, 0) } }),
     by decide +kernel⟩,
   ⟨(st up), ⟨by decide +kernel, by decide +kernel, by decide +kernel⟩⟩⟩

theorem test_meets_MemoryUpkeep :
    (∃ (ch rank bank : Nat), ch < 8 ∧ rank < 2 ∧ bank < 32) ∧
    (∃ (ch rank : Nat) (temps : List Int), ch < 8 ∧ rank < 2 ∧ temps ≠ []) ∧
    (∃ (ch rank : Nat), ch < 8 ∧ rank < 2) ∧
    (∃ (ch rank n last : Nat) (s : State), ch < 8 ∧ rank < 2 ∧ (tabGet? s.dev.mctl.steps (ch * 2 + rank) = some (n,
      last)) ∧ (∀ x ∈ s.dev.mctl.waiting, x < 8)) ∧
    (∃ (bank row : Nat), bank < 64 ∧ row < 4160) :=
  ⟨⟨7, 1, 31, by decide +kernel⟩,
   ⟨7, 1, [0], by decide +kernel⟩,
   ⟨7, 1, by decide +kernel⟩,
   ⟨7, 1, 15, 0, (st { up with mctl := { MemCtl.init with steps := [(15, 15, 0)] } }), by decide +kernel⟩,
   ⟨63, 4159, by decide +kernel⟩⟩

theorem test_meets_AccessCheckers :
    (∃ (k : Nat) (s : State), k ≤ 5 ∧ s.dev.Reaches 0xE00000) ∧
    (∃ (k : Nat) (s : State), k ≤ 5 ∧ s.dev.Reaches 0xE00000 ∧ s.dev.get R.CHK_STATUS_STATE k ≠ 1) ∧
    (∃ (k : Nat) (s : State), k ≤ 5 ∧ s.dev.Reaches 0xE00000 ∧
      let ends (r : Nat) := s.dev.get R.RGN_BASE_BASE k r + s.dev.get R.RGN_SIZE_PAGES k r;
      let on (r : Nat) := s.dev.get R.RGN_SIZE_PAGES k r ≠ 0; ∃ r, s.dev.get R.CHK_STATUS_STATE k = 1 ∧ r < 64 ∧
      on r ∧ 2 ^ 24 < ends r ∧ (∀ i, i < r → on i → ends i ≤ 2 ^ 24)) ∧
    (∃ (k : Nat) (s : State), k ≤ 5 ∧ s.dev.Reaches 0xE00000 ∧
      let ends (r : Nat) := s.dev.get R.RGN_BASE_BASE k r + s.dev.get R.RGN_SIZE_PAGES k r;
      let on (r : Nat) := s.dev.get R.RGN_SIZE_PAGES k r ≠ 0;
      let meet (a b : Nat) := on a ∧ on b ∧ s.dev.get R.RGN_BASE_BASE k a < ends b ∧ s.dev.get R.RGN_BASE_BASE k b < ends a;
      ∃ a b, s.dev.get R.CHK_STATUS_STATE k = 1 ∧ a < b ∧ b < 64 ∧ meet a b ∧ (∀ i, i < 64 → on i → ends i ≤ 2 ^ 24) ∧
      (∀ i j, i < j → j < 64 → i < a ∨ (i = a ∧ j < b) → ¬meet i j)) ∧
    (∃ (k : Nat) (s : State), k ≤ 5 ∧ s.dev.Reaches 0xE00000 ∧
      let ends (r : Nat) := s.dev.get R.RGN_BASE_BASE k r + s.dev.get R.RGN_SIZE_PAGES k r;
      let on (r : Nat) := s.dev.get R.RGN_SIZE_PAGES k r ≠ 0;
      let meet (a b : Nat) := on a ∧ on b ∧ s.dev.get R.RGN_BASE_BASE k a < ends b ∧ s.dev.get R.RGN_BASE_BASE k b < ends a;
      s.dev.get R.CHK_STATUS_STATE k = 1 ∧ (∀ i, i < 64 → on i → ends i ≤ 2 ^ 24) ∧ (∀ i j, i < j → j < 64 →
      ¬meet i j) ∧ (∀ w ∈ s.dev.prot.waiting, w.1 ≠ k)) ∧
    (∃ (k : Nat) (s : State), k ≤ 5 ∧ s.dev.Reaches 0xE00000 ∧ ∃ r reg, r < 64 ∧ reg < 3) ∧
    (∃ (t k a : Nat) (s : State), k ≤ 5 ∧ s.dev.chkClosed k = true ∧ s.dev.Alone ∧ a + 4 * qUs ≤ max s.dev.now t ∧
      ∃ w pa bs, (s.dev.prot.waiting.find? (fun e => e.1 == k) = some (k, a, .debug w pa bs))) ∧
    (∃ (t k a : Nat) (s : State), k ≤ 5 ∧ s.dev.chkClosed k = true ∧ s.dev.Alone ∧ a + 4 * qUs ≤ max s.dev.now t ∧
      ∃ q seq op c w pa, s.dev.Running q seq op c ∧ (s.dev.prot.waiting.find? (fun e => e.1 == k) = some (k, a,
      .cmd q seq w pa))) ∧
    (∃ (authed : Bool) (s : State), s.dev.debugAllowed authed = false) ∧
    (∃ (authed : Bool) (s : State), s.dev.debugAllowed authed = true ∧ s.dev.chkClosed 2 = true ∧
      s.dev.prot.waiting = []) ∧
    (∃ (pa : Nat) (write : Bool) (bytes : List Byte) (authed : Bool) (s : State), s.dev.debugAllowed authed = true ∧
      write = true ∧ Writable s.dev s.mem 2 pa bytes.length ∧ s.mem.armed = []) ∧
    (∃ (pa len : Nat) (write : Bool) (authed : Bool) (s : State), s.dev.debugAllowed authed = true ∧ write = false ∧
      Readable s.dev s.mem 2 pa len) :=
  ⟨⟨5, (st up), by decide +kernel, ⟨by decide +kernel, by decide +kernel, by decide +kernel⟩⟩,
   ⟨5, (st up), by decide +kernel, ⟨by decide +kernel, by decide +kernel, by decide +kernel⟩, by decide +kernel⟩,
   ⟨5, (st (upChk [(63, 2 ^ 24 - 1, 2)])), by decide +kernel, ⟨by decide +kernel, by decide +kernel,
     by decide +kernel⟩, 63, by decide +kernel, by decide +kernel, (by beta_reduce; decide +kernel),
     (by beta_reduce; decide +kernel), (by beta_reduce; decide +kernel)⟩,
   ⟨5, (st (upChk [(0, 0, 2), (1, 1, 1)])), by decide +kernel, ⟨by decide +kernel, by decide +kernel,
     by decide +kernel⟩, 0, 1, by decide +kernel, by decide +kernel, by decide +kernel,
     (by beta_reduce; decide +kernel), (by beta_reduce; decide +kernel), (by intro i j hij _ h; omega)⟩,
   ⟨5, (st (upChk [])), by decide +kernel, ⟨by decide +kernel, by decide +kernel, by decide +kernel⟩,
     by decide +kernel, (by beta_reduce; decide +kernel), (fun _ j _ hj m => m.2.1 ((by decide +kernel : ∀ j, j < 64 →
     (st (upChk [])).dev.get R.RGN_SIZE_PAGES 5 j = 0) j hj)), by decide +kernel⟩,
   ⟨5, (st up), by decide +kernel, ⟨by decide +kernel, by decide +kernel, by decide +kernel⟩, 63, 2,
     by decide +kernel⟩,
   ⟨4 * qUs, 5, 0, (st { upChk [] with prot := { ProtSt.init with waiting := [(5, 0, .debug true 0 [1])] } }),
     by decide +kernel, by decide +kernel, by unfold Dev.Alone; decide +kernel, by decide +kernel, true, 0, [1],
     by decide +kernel⟩,
   ⟨4 * qUs, 5, 0,
     (on (cmd 4 []) { upChk [] with prot := { ProtSt.init with waiting := [(5, 0, .cmd 15 7 true 0)] } }),
     by decide +kernel, by decide +kernel, by unfold Dev.Alone; decide +kernel, by decide +kernel, 15, 7, 4,
     (cmd 4 []), true, 0, ⟨by decide +kernel, by decide +kernel, by decide +kernel, by decide +kernel⟩,
     by decide +kernel⟩,
   ⟨false, (st { up with boot := { up.boot with isSealed := true } }), by decide +kernel⟩,
   ⟨false, (st (up.put R.CHK_STATUS_STATE 1 2)), by decide +kernel⟩,
   ⟨2 ^ 36 - 1, true, [1], false, (st up), by decide +kernel, by decide +kernel, ⟨by decide +kernel,
     by decide +kernel, by decide +kernel, by decide +kernel⟩, by decide +kernel⟩,
   ⟨2 ^ 36 - 1, 1, false, false, (st up), by decide +kernel, by decide +kernel, ⟨by decide +kernel, by decide +kernel,
     by decide +kernel⟩⟩⟩

theorem test_meets_CompressionAndCrc :
    (∃ (q seq : Nat) (c : Cmd) (s : State), s.dev.Running q seq 0x0F00 c ∧ s.dev.Alone ∧ c.Tail 14 ∧ c.p 2 2 = 0 ∧
      let j := c.p 0 1; j ≤ 2 ∧ c.p 1 1 ≤ 2) ∧
    (∃ (q seq : Nat) (c : Cmd) (s : State), s.dev.Running q seq 0x0F01 c ∧ s.dev.Alone ∧ c.Tail 16 ∧ c.p 2 2 = 0 ∧
      let j := c.p 0 1; j ≤ 2 ∧ c.p 1 1 ≤ 3) ∧
    (∃ (q seq : Nat) (c : Cmd) (s : State), s.dev.Running q seq 0x0F02 c ∧ s.dev.Alone ∧ c.Tail 1 ∧ let j := c.p 0 1;
      j ≤ 2) ∧
    (∃ (j q seq : Nat) (c : Cmd) (bs : List Byte) (s : State), j ≤ 2 ∧ s.dev.Running q seq 0x0F01 c ∧ s.dev.Alone ∧
      ((s.dev.job j).feed = some (q, seq)) ∧ (c.hostData = some (bs, [])) ∧ c.p 4 8 < 2 ^ 63 ∧ 0 < c.p 12 4 ∧
      bs.length = c.p 12 4 ∧ (s.dev.job j).outAddr < 2 ^ 63 ∧ s.dev.host.busMaster = true) ∧
    (∃ (u : Nat) (s : State), u < 8 ∧ s.dev.Reaches 0xF10000) ∧
    (∃ (u p : Nat) (bs : List Byte) (s : State), u < 8 ∧ s.dev.Reaches 0xF10000 ∧ p < 4 ∧ s.dev.reg R.CRC_CTRL u = p ∧
      s.dev.reg R.CRC_RESULT u = crcOf p bs) ∧
    (∃ (u : Nat) (s : State), u < 8 ∧ s.dev.Reaches 0xF10000) :=
  ⟨⟨15, 7, (cmd 0xF00 [2, 2]), (on (cmd 0xF00 [2, 2]) up), ⟨by decide +kernel, by decide +kernel, by decide +kernel,
     by decide +kernel⟩, by unfold Dev.Alone; decide +kernel, by unfold Cmd.Tail; decide +kernel, by decide +kernel,
     by decide +kernel⟩,
   ⟨15, 7, (cmd 0xF01 [2, 3]), (on (cmd 0xF01 [2, 3]) up), ⟨by decide +kernel, by decide +kernel, by decide +kernel,
     by decide +kernel⟩, by unfold Dev.Alone; decide +kernel, by unfold Cmd.Tail; decide +kernel, by decide +kernel,
     by decide +kernel⟩,
   ⟨15, 7, (cmd 0xF02 [2]), (on (cmd 0xF02 [2]) up), ⟨by decide +kernel, by decide +kernel, by decide +kernel,
     by decide +kernel⟩, by unfold Dev.Alone; decide +kernel, by unfold Cmd.Tail; decide +kernel, by decide +kernel⟩,
   ⟨2, 15, 7, (cmd 0xF01 [2, 3, 0, 0, 0, 0, 0, 0, 0, 0, 0, 0, 1, 0, 0, 0] (some ([5], []))), [5], (on (cmd 0xF01 [2,
     3, 0, 0, 0, 0, 0, 0, 0, 0, 0, 0, 1, 0, 0, 0] (some ([5],
     []))) { up with sys := { SysSt.init with jobs := [(2, { Job.idle with feed := some (15, 7) })] } }),
     by decide +kernel, ⟨by decide +kernel, by decide +kernel, by decide +kernel, by decide +kernel⟩,
     by unfold Dev.Alone; decide +kernel, by decide +kernel⟩,
   ⟨7, (st up), by decide +kernel, ⟨by decide +kernel, by decide +kernel, by decide +kernel⟩⟩,
   ⟨7, 3, [], (st (up.setReg R.CRC_CTRL 3 7 |>.setReg R.CRC_RESULT (crcOf 3 []) 7)), by decide +kernel,
     ⟨by decide +kernel, by decide +kernel, by decide +kernel⟩, by decide +kernel⟩,
   ⟨0, (st up), by decide +kernel, ⟨by decide +kernel, by decide +kernel, by decide +kernel⟩⟩⟩

theorem test_meets_FaultsOfParts :
    (∃ (dom inst : Nat) (s : State), dom < 12 ∧ s.dev.clockAt dom inst = true ∧
      bit (s.dev.get R.EDGE_CLK_STATUS_PRESENT) dom = true) ∧
    (∃ (dom inst : Nat) (s : State), (dom = 6 ∨ dom = 9 ∨ dom = 11) ∧ s.dev.clockAt dom inst = true) ∧
    (∃ (dom inst : Nat), dom < 12 ∧ inst < domainInstances dom ∧
      (dom = 0 ∨ dom = 1 ∨ dom = 3 ∨ dom = 4 ∨ dom = 5 ∨ dom = 8 ∨ dom = 9 ∨ dom = 11)) ∧
    (∃ (core : Nat) (s : State), core < 4 ∧ s.dev.get (coreStateF core) = coreRunning) ∧
    (∃ (core : Nat) (s : State), core < 4 ∧ s.dev.get (coreStateF core) = coreRestarting) ∧
    (∃ (k : Nat) (s : State), k < 6 ∧ k ∉ s.dev.lay.clustersOut) ∧
    (∃ (t : Nat) (s : State), (∀ a, s.dev.err.fabricAt = some a → a + 10 * qS < max s.dev.now t) ∧
      s.dev.boot.switch = none) ∧
    (∃ (s : State), s.dev.get R.ERR_STATUS_FATAL = 0) :=
  ⟨⟨11, 0, (st (up.put R.EDGE_CLK_STATUS_PRESENT 0xFFF)), by decide +kernel⟩,
   ⟨9, 0, (st up), by decide +kernel⟩,
   ⟨4, 23, by decide +kernel⟩,
   ⟨3, (st (up.put (coreStateF 3) coreRunning)), by decide +kernel⟩,
   ⟨3, (st (up.put (coreStateF 3) coreRestarting)), by decide +kernel⟩,
   ⟨5, (st up), by decide +kernel⟩,
   ⟨0, (st up), (by intro a h; cases h), by decide +kernel⟩,
   ⟨(st up), by decide +kernel⟩⟩

theorem test_meets_RecorderEntries :
    (∃ (k : Nat) (kind : Kind) (e : RecEvent) (s : State), kindOf e.kind = some kind ∧ e.agent = k ∧ k < 65536 ∧
      e.index < 64 ∧ e.p0 < 2 ^ 32 ∧ e.p1 < 2 ^ 32 ∧ e.p2 < 256 ∧ s.dev.boot.begun = true) ∧
    (∃ (e : RecEntry) (rest : List RecEntry) (s : State), s.dev.boot.begun = true ∧ s.dev.recd.buffer = e :: rest ∧
      s.dev.reg R.REC_FLASH_USED ≤ flashLimit) ∧
    (∃ (q seq : Nat) (c : Cmd) (s : State), s.dev.Running q seq 0x1100 c ∧ s.dev.Alone ∧ c.Tail 20 ∧ c.p 1 1 = 0 ∧
      c.p 2 1 = 0 ∧ c.p 3 1 = 0 ∧ s.dev.host.busMaster = true ∧ s.dev.queueActs = true) ∧
    (∃ (q seq : Nat) (c : Cmd) (s : State), s.dev.Running q seq 0x1101 c ∧ s.dev.Alone ∧ c.Tail 12 ∧ c.p 0 2 < 1024 ∧
      c.p 2 1 = 0 ∧ c.p 3 1 = 0 ∧ s.dev.host.busMaster = true ∧ s.dev.queueActs = true) :=
  ⟨⟨65535, .fatal, ⟨65535, 4, 63, 0, 0, 255⟩, (st up), by decide +kernel⟩,
   ⟨⟨0, 0, .info, .boot, 0, 0, 0, 1, 0, 0, 0⟩, [],
     (st { up with recd := { RecSt.init with buffer := [⟨0, 0, .info, .boot, 0, 0, 0, 1, 0, 0, 0⟩] } }),
     by decide +kernel⟩,
   ⟨15, 7, (cmd 0x1100 []), (on (cmd 0x1100 []) up), ⟨by decide +kernel, by decide +kernel, by decide +kernel,
     by decide +kernel⟩, by unfold Dev.Alone; decide +kernel, by unfold Cmd.Tail; decide +kernel, by decide +kernel⟩,
   ⟨15, 7, (cmd 0x1101 [0xFF, 3]), (on (cmd 0x1101 [0xFF, 3]) up), ⟨by decide +kernel, by decide +kernel,
     by decide +kernel, by decide +kernel⟩, by unfold Dev.Alone; decide +kernel, by unfold Cmd.Tail; decide +kernel,
     by decide +kernel⟩⟩

theorem test_meets_StateDumps :
    (∃ (n : Nat) (s : State), s.dev.recd.dumping = some n ∧ n < 4) ∧
    (∃ (q seq opcode : Nat) (c : Cmd) (s : State), s.dev.Running q seq opcode c ∧ s.dev.Alone ∧
      s.dev.recd.dumping = none ∧ s.dev.host.busMaster = true ∧ s.dev.queueActs = true ∧ opcode = 0x1110 ∧ c.Tail 20 ∧
      c.p 1 1 = 0 ∧ c.p 2 1 = 0 ∧ c.p 3 1 = 0) ∧
    (∃ (q seq opcode : Nat) (c : Cmd) (s : State), s.dev.Running q seq opcode c ∧ s.dev.Alone ∧
      s.dev.recd.dumping = none ∧ s.dev.host.busMaster = true ∧ s.dev.queueActs = true ∧ let n := c.p 0 1;
      opcode = 0x1111 ∧ c.Tail 2 ∧ n ≤ 3 ∧ c.p 1 1 ≤ 1) ∧
    (∃ (q seq opcode : Nat) (c : Cmd) (s : State), s.dev.Running q seq opcode c ∧ s.dev.Alone ∧
      s.dev.recd.dumping = none ∧ s.dev.host.busMaster = true ∧ s.dev.queueActs = true ∧ let n := c.p 0 1;
      opcode = 0x1112 ∧ c.Tail 1 ∧ n ≤ 3) :=
  ⟨⟨3, (st { up with recd := { RecSt.init with dumping := some 3 } }), by decide +kernel⟩,
   ⟨15, 7, 0x1110, (cmd 0x1110 [3]), (on (cmd 0x1110 [3]) up), ⟨by decide +kernel, by decide +kernel,
     by decide +kernel, by decide +kernel⟩, by unfold Dev.Alone; decide +kernel, by decide +kernel, by decide +kernel,
     by decide +kernel, by decide +kernel, by unfold Cmd.Tail; decide +kernel, by decide +kernel⟩,
   ⟨15, 7, 0x1111, (cmd 0x1111 [3, 1]), (on (cmd 0x1111 [3, 1]) up), ⟨by decide +kernel, by decide +kernel,
     by decide +kernel, by decide +kernel⟩, by unfold Dev.Alone; decide +kernel, by decide +kernel, by decide +kernel,
     by decide +kernel, by decide +kernel, by unfold Cmd.Tail; decide +kernel, by decide +kernel⟩,
   ⟨15, 7, 0x1112, (cmd 0x1112 [3]), (on (cmd 0x1112 [3]) up), ⟨by decide +kernel, by decide +kernel,
     by decide +kernel, by decide +kernel⟩, by unfold Dev.Alone; decide +kernel, by decide +kernel, by decide +kernel,
     by decide +kernel, by decide +kernel, by unfold Cmd.Tail; decide +kernel, by decide +kernel⟩⟩

theorem test_meets_DeviceTests :
    (∃ (q seq : Nat) (c : Cmd) (s : State), s.dev.Running q seq 0x1200 c ∧ s.dev.Alone ∧ c.Tail 5 ∧
      let target := c.p 0 1; let inst := c.p 1 2; target ≤ 6 ∧ testInstance target inst = true ∧
      c.p 3 1 < testPatterns target ∧ c.p 4 1 < 2) ∧
    (∃ (q seq : Nat) (c : Cmd) (s : State), s.dev.Running q seq 0x1201 c ∧ s.dev.Alone ∧ c.Tail 3 ∧
      let target := c.p 0 1; let inst := c.p 1 2; target ≤ 6 ∧ testInstance target inst = true) ∧
    (∃ (q seq : Nat) (c : Cmd) (s : State), s.dev.Running q seq 0x1202 c ∧ s.dev.Alone ∧ c.tailZero 10 = true ∧
      c.p 0 8 < 2 ^ 36 ∧ (c.p 8 1 = 1 ∨ c.p 8 1 = 2) ∧ c.p 9 1 ≤ 4 ∧ let line := c.p 0 8 / 64;
      (s.dev.boot.isSealed = false ∨ s.dev.img.debugPolicy ≠ 0) ∧ (s.dev.recd.inject.contains (q, seq, line) = false)) ∧
    (∃ (q seq : Nat) (c : Cmd) (s : State), s.dev.Running q seq 0x1202 c ∧ s.dev.Alone ∧ c.tailZero 10 = true ∧
      c.p 0 8 < 2 ^ 36 ∧ (c.p 8 1 = 1 ∨ c.p 8 1 = 2) ∧ c.p 9 1 ≤ 4 ∧ let line := c.p 0 8 / 64;
      s.dev.boot.isSealed = true ∧ s.dev.img.debugPolicy = 0 ∧ (s.dev.recd.inject.contains (q, seq, line) = false)) ∧
    (∃ (q seq : Nat) (c : Cmd) (s : State), s.dev.Running q seq 0x1202 c ∧ s.dev.Alone ∧ c.tailZero 10 = true ∧
      c.p 0 8 < 2 ^ 36 ∧ (c.p 8 1 = 1 ∨ c.p 8 1 = 2) ∧ c.p 9 1 ≤ 4 ∧ let line := c.p 0 8 / 64;
      (s.dev.recd.inject.contains (q, seq, line) = true)) ∧
    (∃ (q seq : Nat) (c : Cmd) (s : State), s.dev.Running q seq 0x1203 c ∧ s.dev.Alone ∧ c.tailZero 17 = true ∧
      s.dev.host.busMaster = true ∧ s.dev.queueActs = true ∧ let p := c.p 0 1;
      let nd := s.dev.get R.TCH_CTRL_USED_DRV_M1 p + 1; let ns := s.dev.get R.TCH_CTRL_USED_SNS_M1 p + 1; p ≤ 1 ∧
      Writable s.dev s.mem 5 (c.p 9 8) (2 * nd * ns)) ∧
    (∃ (q seq : Nat) (c : Cmd) (s : State), s.dev.Running q seq 0x1204 c ∧ s.dev.Alone ∧ c.Tail 0) :=
  ⟨⟨15, 7, (cmd 0x1200 [0, 0x53, 0, 3, 1]), (on (cmd 0x1200 [0, 0x53, 0, 3, 1]) up), ⟨by decide +kernel,
     by decide +kernel, by decide +kernel, by decide +kernel⟩, by unfold Dev.Alone; decide +kernel,
     by unfold Cmd.Tail; decide +kernel, by decide +kernel⟩,
   ⟨15, 7, (cmd 0x1201 [6, 0, 0]), (on (cmd 0x1201 [6, 0, 0]) up), ⟨by decide +kernel, by decide +kernel,
     by decide +kernel, by decide +kernel⟩, by unfold Dev.Alone; decide +kernel, by unfold Cmd.Tail; decide +kernel,
     by decide +kernel⟩,
   ⟨15, 7, (cmd 0x1202 [255, 255, 255, 255, 15, 0, 0, 0, 2, 4]), (on (cmd 0x1202 [255, 255, 255, 255, 15, 0, 0, 0, 2,
     4]) up), ⟨by decide +kernel, by decide +kernel, by decide +kernel, by decide +kernel⟩,
     by unfold Dev.Alone; decide +kernel, by decide +kernel, by decide +kernel, by decide +kernel, by decide +kernel,
     by decide +kernel⟩,
   ⟨15, 7, (cmd 0x1202 [255, 255, 255, 255, 15, 0, 0, 0, 2, 4]), (on (cmd 0x1202 [255, 255, 255, 255, 15, 0, 0, 0, 2,
     4]) { up with boot := { up.boot with isSealed := true } }), ⟨by decide +kernel, by decide +kernel,
     by decide +kernel, by decide +kernel⟩, by unfold Dev.Alone; decide +kernel, by decide +kernel, by decide +kernel,
     by decide +kernel, by decide +kernel, by decide +kernel⟩,
   ⟨15, 7, (cmd 0x1202 [255, 255, 255, 255, 15, 0, 0, 0, 2, 4]), (on (cmd 0x1202 [255, 255, 255, 255, 15, 0, 0, 0, 2,
     4]) { up with recd := { RecSt.init with inject := [(15, 7, 2 ^ 30 - 1)] } }), ⟨by decide +kernel,
     by decide +kernel, by decide +kernel, by decide +kernel⟩, by unfold Dev.Alone; decide +kernel, by decide +kernel,
     by decide +kernel, by decide +kernel, by decide +kernel, by decide +kernel⟩,
   ⟨15, 7, (cmd 0x1203 [1]),
     (on (cmd 0x1203 [1]) (up.put R.TCH_CTRL_USED_DRV_M1 0 1 |>.put R.TCH_CTRL_USED_SNS_M1 0 1)), ⟨by decide +kernel,
     by decide +kernel, by decide +kernel, by decide +kernel⟩, by unfold Dev.Alone; decide +kernel, by decide +kernel,
     by decide +kernel, by decide +kernel, by decide +kernel, ⟨by decide +kernel, by decide +kernel,
     by decide +kernel, by decide +kernel⟩⟩,
   ⟨15, 7, (cmd 0x1204 []), (on (cmd 0x1204 []) up), ⟨by decide +kernel, by decide +kernel, by decide +kernel,
     by decide +kernel⟩, by unfold Dev.Alone; decide +kernel, by unfold Cmd.Tail; decide +kernel⟩⟩

theorem test_meets_PowerFeeds :
    (∃ (f : Nat), f < 2) ∧
    (let feed (d : Dev) (f : Nat) := if f = 0 then d.pwr.feedA else d.pwr.feedB; ∃ (f a : Nat) (s : State), f < 2 ∧
      (feed s.dev f).rising = some a ∧ (feed s.dev f).ok = false) :=
  ⟨⟨1, by decide +kernel⟩,
   ⟨1, 0, (st { up with pwr := { PwrSt.init with feedB := ⟨some 0, false, false⟩ } }), by decide +kernel⟩⟩

theorem test_meets_ResetsAndThermal :
    (∃ (s : State), s.dev.pwr.logicOn = true ∧ s.dev.pwr.mrstLow = false) ∧
    (∃ (s : State), s.dev.pwr.logicOn = true ∧ s.dev.pwr.mrstLow = false ∧ s.dev.Alone) ∧
    (∃ (s : State), s.dev.pwr.logicOn = false ∧ s.dev.pwr.tripped = true ∧
      (s.dev.pwr.feedA.ok = true ∨ s.dev.pwr.feedB.ok = true)) ∧
    (∃ (s : State), s.dev.pwr.logicOn = true) :=
  ⟨⟨(st up), by decide +kernel⟩,
   ⟨(st up), by decide +kernel, by decide +kernel, by unfold Dev.Alone; decide +kernel⟩,
   ⟨(st { Dev.init with pwr := { PwrSt.init with tripped := true, feedB := ⟨none, true, false⟩ } }),
     by decide +kernel⟩,
   ⟨(st up), by decide +kernel⟩⟩

end Sys2Proof.Tests
end

section
/-! PROOFS. Register accesses of the host (R4, R5, R24): one equation for each way an access can go, and from them what it
answers, what it moves and what it leaves alone. -/

namespace Sys2Proof.Machine

/-! ### Where an access lands -/

theorem RegRow.off_of_find {r : RegRow} {off i j : Nat} (h : r.find off = some (i, j)) : r.reg.off i j = off := by
  unfold RegRow.find at h
  dsimp only at h
  rw [Option.ite_none_left_eq_some, Option.ite_none_right_eq_some] at h
  obtain ⟨-, hc, hij⟩ := h
  obtain ⟨rfl, rfl⟩ := Prod.mk.inj (Option.some.inj hij)
  simp only [Bool.and_eq_true, beq_iff_eq] at hc
  exact hc.2

/-- The register that the map finds at an offset is the one of that offset. -/
theorem off_of_regAt {off i j : Nat} {row : RegRow} (h : regAt off = some (row, i, j)) : row.reg.off i j = off := by
  obtain ⟨r, -, hr⟩ := List.exists_of_findSome?_eq_some h
  obtain ⟨⟨a, b⟩, hf, he⟩ := Option.map_eq_some_iff.mp hr
  cases he
  exact RegRow.off_of_find hf

theorem Dev.Reaches.clock {d : Dev} {off : Nat} (h : d.Reaches off) (t : Nat) : (d.clock t).Reaches off :=
  ⟨h.alive, h.opened, h.clocked⟩

/-- An access that is not a naturally aligned word of BAR0, as `hostRead` and `hostWrite` test for it. -/
theorem notWord_iff (off size : Nat) :
    (size ≠ 4 || off % 4 ≠ 0 || 2 ^ 25 ≤ off) = true ↔ size ≠ 4 ∨ off % 4 ≠ 0 ∨ 2 ^ 25 ≤ off := by
  simp only [Bool.or_eq_true, decide_eq_true_eq, or_assoc]

theorem not_notWord {off : Nat} (ha : off % 4 = 0) (hl : off < 2 ^ 25) :
    ¬(4 ≠ 4 || off % 4 ≠ 0 || 2 ^ 25 ≤ off) = true := by
  rw [notWord_iff]
  omega

/-! ### What the two register commands do -/

theorem exec_registerWrite (t off size : Nat) (v : Word) (s : State) :
    exec (.registerWrite t off size v) s = s.onAll t (hostWrite off size v) := rfl

theorem exec_lowWordLatchRead (t off size : Nat) (s : State) :
    exec (.lowWordLatchRead t off size) s = s.onDev t (hostRead off size) := rfl

theorem hostWrite_of_notWord {d : Dev} {off size : Nat} (m : Mem) (v : Word) (ha : d.hostAlive = true)
    (h : size ≠ 4 ∨ off % 4 ≠ 0 ∨ 2 ^ 25 ≤ off) : hostWrite off size v (d, m) = (d.respond .error, m) := by
  unfold hostWrite
  rw [if_neg (by simp [ha]), if_pos ((notWord_iff off size).mpr h)]

theorem hostRead_of_notWord {d : Dev} {off size : Nat} (ha : d.hostAlive = true)
    (h : size ≠ 4 ∨ off % 4 ≠ 0 ∨ 2 ^ 25 ≤ off) : hostRead off size d = d.respond .error := by
  unfold hostRead
  rw [if_neg (by simp [ha]), if_pos ((notWord_iff off size).mpr h)]

/-- A host write that reaches its block: through the mirror where the offset is mirrored, and otherwise straight. -/
theorem hostWrite_of_reaches {d : Dev} {off : Nat} (m : Mem) (v : Word) (hr : d.Reaches off) (ha : off % 4 = 0)
    (hl : off < 2 ^ 25) : hostWrite off 4 v (d, m) =
      if mirrored off then (d.hostEffect off v fun d => (writeAt off v (d, m)).1, m) else writeAt off v (d, m) := by
  unfold hostWrite
  rw [if_neg (by simp [hr.alive]), if_neg (not_notWord ha hl), if_neg (by simp [hr.opened]),
    if_neg (by simp [hr.clocked])]

theorem hostRead_of_reaches {d : Dev} {off : Nat} (hr : d.Reaches off) (ha : off % 4 = 0) (hl : off < 2 ^ 25) :
    hostRead off 4 d = (d.readAt off).1.respond (.data (leBytes 4 (d.readAt off).2)) := by
  unfold hostRead
  rw [if_neg (by simp [hr.alive]), if_neg (not_notWord ha hl), if_neg (by simp [hr.clocked])]

/-! ### Writes -/

/-- A register without a rule of its own takes its value by the access types of its bits (R5). -/
theorem Dev.regWrite_of_plain {d : Dev} {row : RegRow} {i : Nat} {v : Word} (j : Nat) (ho : row.reg ∉ ownWrites)
    (ht : d.takes row.reg i v.toNat = true) :
    d.regWrite row i j v = d.setReg row.reg (hostWriteValue row (d.reg row.reg i j) v.toNat) i j := by
  simp only [ownWrites, List.mem_cons, List.not_mem_nil, or_false, not_or] at ho
  simp [Dev.regWrite, Dev.plainWrite, ho, ht]

theorem writeAt_of_plain {d : Dev} {off i j : Nat} {row : RegRow} {v : Word} (m : Mem)
    (hreg : regAt off = some (row, i, j)) (ho : row.reg ∉ ownWrites) (ht : d.takes row.reg i v.toNat = true) :
    writeAt off v (d, m) = (d.setReg row.reg (hostWriteValue row (d.reg row.reg i j) v.toNat) i j, m) := by
  have hc : row.reg ≠ R.CHK_CTRL := fun e => ho (e ▸ by simp [ownWrites])
  simp only [writeAt, hreg, if_neg hc, Dev.regWrite_of_plain j ho ht]

theorem writeAt_of_unassigned {off : Nat} (d : Dev) (m : Mem) (v : Word) (hreg : regAt off = none) :
    writeAt off v (d, m) = (d.info .unassignedWrite 0x0FFF off v.toNat, m) := by
  simp only [writeAt, hreg]

/-- In a unit that follows no partner a mirrored write has its effect, and beside it moves the pair's part only (R351). -/
theorem Dev.hostEffect_of_alone {d : Dev} {off : Nat} (v : Word) (f : Dev → Dev) (hm : mirrored off = true)
    (ha : d.Alone) : ∃ x, d.hostEffect off v f = (f d).setPair x := by
  obtain ⟨x, hx⟩ := (f d).mirror_eq (.regWrite off v)
  refine ⟨x, ?_⟩
  unfold Dev.hostEffect
  rw [if_neg (by simp [hm]), if_neg (by simp [Dev.follows_of_alone ha]), hx]

/-- The two ways of a plain host write: the register alone moves, or with it the pair's part. -/
theorem hostWrite_of_plain {d : Dev} {off i j : Nat} {row : RegRow} {v : Word} (m : Mem) (hr : d.Reaches off)
    (ha : off % 4 = 0) (hl : off < 2 ^ 25) (hal : d.Alone) (hreg : regAt off = some (row, i, j))
    (ho : row.reg ∉ ownWrites) (ht : d.takes row.reg i v.toNat = true) :
    ∃ x, hostWrite off 4 v (d, m) =
      ((d.setReg row.reg (hostWriteValue row (d.reg row.reg i j) v.toNat) i j).setPair x, m) := by
  rw [hostWrite_of_reaches m v hr ha hl]
  cases hm : mirrored off with
  | true =>
    obtain ⟨x, hx⟩ := d.hostEffect_of_alone v (fun d => (writeAt off v (d, m)).1) hm hal
    exact ⟨x, by rw [if_pos rfl, hx, writeAt_of_plain m hreg ho ht]⟩
  | false =>
    rw [if_neg Bool.false_ne_true, writeAt_of_plain m hreg ho ht]
    exact ⟨d.pair, rfl⟩

/-! ### Reads -/

/-- A low word that latches nothing leaves the block as it is. -/
theorem Dev.latchOn_of_plain {r : RegDesc} (d : Dev) (i : Nat) (hp : ∀ p ∈ latchPairs, r ≠ p.1) (hm : r ∉ latchMore) :
    d.latchOn r i = d := by
  simp only [latchPairs, List.forall_mem_cons, List.not_mem_nil, false_imp_iff, implies_true, and_true] at hp
  simp only [latchMore, List.mem_cons, List.not_mem_nil, or_false, not_or] at hm
  simp [Dev.latchOn, hp, hm]

/-- A low word of a pair has its upper word take the live value, and nothing else (R4). -/
theorem Dev.latchOn_of_pair {lo hi : RegDesc} (d : Dev) (i : Nat) (h : (lo, hi) ∈ latchPairs) :
    d.latchOn lo i = d.setReg hi (d.live hi i) i := by
  simp only [latchPairs, List.mem_cons, Prod.mk.injEq, List.not_mem_nil, or_false] at h
  obtain ⟨rfl, rfl⟩ | ⟨rfl, rfl⟩ | ⟨rfl, rfl⟩ | ⟨rfl, rfl⟩ | ⟨rfl, rfl⟩ | ⟨rfl, rfl⟩ := h <;> rfl

/-- The low word of a pair is held in its register, not computed. -/
theorem Dev.readValue_of_pair {lo hi : RegDesc} (d : Dev) (i j : Nat) (h : (lo, hi) ∈ latchPairs) :
    d.readValue lo i j = d.reg lo i j := by
  simp only [latchPairs, List.mem_cons, Prod.mk.injEq, List.not_mem_nil, or_false] at h
  obtain ⟨rfl, -⟩ | ⟨rfl, -⟩ | ⟨rfl, -⟩ | ⟨rfl, -⟩ | ⟨rfl, -⟩ | ⟨rfl, -⟩ := h <;> rfl

theorem capTimeLo_not_pair {lo hi : RegDesc} (h : (lo, hi) ∈ latchPairs) : lo ≠ R.CAP_TIME_LO := by
  have hlo : lo ∈ latchPairs.map Prod.fst := List.mem_map_of_mem h
  rintro rfl
  exact absurd hlo (by decide)

/-- A read of any register but a capture unit's FIFO answers its value under its mask, and latches (R4, R5). -/
theorem Dev.readAt_of_reg {d : Dev} {off i j : Nat} {row : RegRow} (hc : d.offClosed off = false)
    (hreg : regAt off = some (row, i, j)) (hcap : row.reg ≠ R.CAP_TIME_LO) :
    d.readAt off = (d.latchOn row.reg i, d.readValue row.reg i j &&& readMask row) := by
  simp [Dev.readAt, hc, hreg, hcap]

theorem Dev.live_lt (d : Dev) (r : RegDesc) (i : Nat) : d.live r i < 2 ^ 32 := BitVec.isLt _

/-! ### The clauses of the obligation -/

theorem registerWrite_of_plain (t off i j : Nat) (row : RegRow) (v : Word) (s : State) (hr : s.dev.Reaches off)
    (ha : off % 4 = 0) (hl : off < 2 ^ 25) (hal : s.dev.Alone) (hreg : regAt off = some (row, i, j))
    (ho : row.reg ∉ ownWrites) (ht : s.dev.takes row.reg i v.toNat = true) :
    ∃ s', exec (.registerWrite t off 4 v) s = .next s' ∧
      s'.dev.reg row.reg i j = hostWriteValue row (s.dev.reg row.reg i j) v.toNat % 2 ^ 32 ∧
      s.Keeps s' t [off] [.pair] := by
  obtain ⟨x, hx⟩ := hostWrite_of_plain s.mem (hr.clock t) ha hl hal hreg ho ht
  rw [exec_registerWrite, State.onAll, hx]
  refine ⟨_, rfl, Dev.reg_setReg _ _ _ _ _, rfl, .inr rfl, ?_⟩
  exact ((Dev.Keeps.refl _ _ _).setReg _ _ _ _ (by simp [off_of_regAt hreg])).setPair _ (by simp)

theorem registerWrite_of_unassigned (t off : Nat) (v : Word) (s : State) (hr : s.dev.Reaches off) (ha : off % 4 = 0)
    (hl : off < 2 ^ 25) (hm : mirrored off = false) (hreg : regAt off = none) :
    ∃ s', exec (.registerWrite t off 4 v) s = .next s' ∧ s.Keeps s' t recOffs [.recd] := by
  rw [exec_registerWrite, State.onAll, hostWrite_of_reaches s.mem v (hr.clock t) ha hl, hm,
    if_neg Bool.false_ne_true, writeAt_of_unassigned _ _ _ hreg]
  exact ⟨_, rfl, rfl, .inr rfl, (Dev.Keeps.refl _ _ _).info _ _ _ _ _ (fun _ hx => hx) (by simp)⟩

theorem registerWrite_of_notWord (t off size : Nat) (v : Word) (s : State) (ha : s.dev.hostAlive = true)
    (h : size ≠ 4 ∨ off % 4 ≠ 0 ∨ 2 ^ 25 ≤ off) :
    ∃ s', exec (.registerWrite t off size v) s = .next s' ∧ s'.dev.host.resp = .error ∧ s.Keeps s' t [] [.host] := by
  rw [exec_registerWrite, State.onAll, hostWrite_of_notWord (d := s.dev.clock t) s.mem v ha h]
  exact ⟨_, rfl, rfl, rfl, .inr rfl, (Dev.Keeps.refl _ _ _).respond _ (by simp)⟩

theorem lowWordLatchRead_of_plain (t off i j : Nat) (row : RegRow) (s : State) (hr : s.dev.Reaches off)
    (ha : off % 4 = 0) (hl : off < 2 ^ 25) (hreg : regAt off = some (row, i, j))
    (hp : ∀ p ∈ latchPairs, row.reg ≠ p.1) (hm : row.reg ∉ latchMore) :
    ∃ s', exec (.lowWordLatchRead t off 4) s = .next s' ∧
      s'.dev.host.resp = .data (leBytes 4 ((s.dev.clock t).readValue row.reg i j &&& readMask row)) ∧
      s.Keeps s' t [] [.host] := by
  have hcap : row.reg ≠ R.CAP_TIME_LO := fun e => hm (e ▸ by simp [latchMore])
  rw [exec_lowWordLatchRead, State.onDev, hostRead_of_reaches (hr.clock t) ha hl,
    Dev.readAt_of_reg (hr.clock t).opened hreg hcap, Dev.latchOn_of_plain _ i hp hm]
  exact ⟨_, rfl, rfl, rfl, .inr rfl, (Dev.Keeps.refl _ _ _).respond _ (by simp)⟩

theorem lowWordLatchRead_of_pair (t off i j : Nat) (row : RegRow) (hi : RegDesc) (s : State) (hr : s.dev.Reaches off)
    (ha : off % 4 = 0) (hl : off < 2 ^ 25) (hreg : regAt off = some (row, i, j)) (hp : (row.reg, hi) ∈ latchPairs) :
    ∃ s', exec (.lowWordLatchRead t off 4) s = .next s' ∧ s'.dev.reg hi i = s.dev.live hi i ∧
      s'.dev.host.resp = .data (leBytes 4 (s.dev.reg row.reg i j &&& readMask row)) ∧
      s.Keeps s' t [hi.off i 0] [.host] := by
  rw [exec_lowWordLatchRead, State.onDev, hostRead_of_reaches (hr.clock t) ha hl,
    Dev.readAt_of_reg (hr.clock t).opened hreg (capTimeLo_not_pair hp), Dev.latchOn_of_pair _ i hp,
    Dev.readValue_of_pair _ i j hp]
  refine ⟨_, rfl, ?_, rfl, rfl, .inr rfl, ?_⟩
  · exact (Dev.reg_setReg _ _ _ _ _).trans (Nat.mod_eq_of_lt (s.dev.live_lt hi i))
  · exact ((Dev.Keeps.refl _ _ _).setReg _ _ _ _ (by simp)).respond _ (by simp)

theorem lowWordLatchRead_of_notWord (t off size : Nat) (s : State) (ha : s.dev.hostAlive = true)
    (h : size ≠ 4 ∨ off % 4 ≠ 0 ∨ 2 ^ 25 ≤ off) :
    ∃ s', exec (.lowWordLatchRead t off size) s = .next s' ∧ s'.dev.host.resp = .error ∧
      s.Keeps s' t [] [.host] := by
  rw [exec_lowWordLatchRead, State.onDev, hostRead_of_notWord (d := s.dev.clock t) ha h]
  exact ⟨_, rfl, rfl, rfl, .inr rfl, (Dev.Keeps.refl _ _ _).respond _ (by simp)⟩

/-- Settles O9: each way of a host access is one equation of `hostWrite` or `hostRead`, and what it leaves alone follows
from the frame rules of the operations in it. -/
theorem registerAccesses : Obligations.RegisterAccesses :=
  ⟨⟨registerWrite_of_plain, registerWrite_of_unassigned, registerWrite_of_notWord⟩,
    lowWordLatchRead_of_plain, lowWordLatchRead_of_pair, lowWordLatchRead_of_notWord⟩

end Sys2Proof.Machine
end

section
/-! PROOFS. Operations that leave EDGE_CLK_STATUS alone: every register that the loss of a clock, or a command that
ends, moves beside it lies above it in BAR0 (R11). -/

namespace Sys2Proof.Machine

/-- Every part of the state. -/
def Part.all : List Part :=
  [.mem, .latch, .host, .boot, .time, .ref, .recd, .err, .prot, .pwr, .sys, .net, .dec, .lay, .comp, .enc, .io, .pair,
    .mctl]

theorem Part.mem_all (p : Part) : p ∈ Part.all := by cases p <;> decide

/-- From `d` to `e` no register moves but those that lie above EDGE_CLK_STATUS in BAR0. -/
abbrev Dev.KeepsEdge (d e : Dev) : Prop := d.Keeps e (R.EDGE_CLK_STATUS.base < ·) Part.all

theorem RegDesc.above_edge {r : RegDesc} (h : R.EDGE_CLK_STATUS.base < r.base) (i j : Nat) :
    R.EDGE_CLK_STATUS.base < r.off i j := by
  unfold RegDesc.off
  omega

theorem recOffs_above_edge : ∀ x ∈ recOffs, R.EDGE_CLK_STATUS.base < x := by decide

theorem degradedOffs_above_edge : ∀ x ∈ degradedOffs, R.EDGE_CLK_STATUS.base < x := by decide

theorem fatalOffs_above_edge : ∀ x ∈ fatalOffs, R.EDGE_CLK_STATUS.base < x := by decide

theorem Dev.KeepsEdge.get {d e : Dev} (k : d.KeepsEdge e) (f : FldDesc) (hf : f.reg = R.EDGE_CLK_STATUS) :
    e.get f = d.get f :=
  Dev.Keeps.get k f 0 0 (by rw [hf]; decide)

section
variable {d0 d : Dev}

theorem Dev.KeepsEdge.refl (d : Dev) : d.KeepsEdge d := Dev.Keeps.refl d _ _

theorem Dev.KeepsEdge.setReg (h : d0.KeepsEdge d) (r : RegDesc) (v i j : Nat)
    (hr : R.EDGE_CLK_STATUS.base < r.base := by decide) : d0.KeepsEdge (d.setReg r v i j) :=
  Dev.Keeps.setReg h r v i j (RegDesc.above_edge hr i j)

theorem Dev.KeepsEdge.put (h : d0.KeepsEdge d) (f : FldDesc) (v i j : Nat)
    (hf : R.EDGE_CLK_STATUS.base < f.reg.base := by decide) : d0.KeepsEdge (d.put f v i j) :=
  Dev.Keeps.put h f v i j (RegDesc.above_edge hf i j)

theorem Dev.KeepsEdge.bump (h : d0.KeepsEdge d) (f : FldDesc) (i n j : Nat)
    (hf : R.EDGE_CLK_STATUS.base < f.reg.base := by decide) : d0.KeepsEdge (d.bump f i n j) :=
  Dev.Keeps.bump h f i n j (RegDesc.above_edge hf i j)

theorem Dev.KeepsEdge.info (h : d0.KeepsEdge d) (ev : Ev) (agent p0 p1 p2 : Nat) :
    d0.KeepsEdge (d.info ev agent p0 p1 p2) :=
  Dev.Keeps.info h _ _ _ _ _ recOffs_above_edge (Part.mem_all _)

theorem Dev.KeepsEdge.degradedEvent (h : d0.KeepsEdge d) (ev : Ev) (agent p0 p1 : Nat) :
    d0.KeepsEdge (d.degradedEvent ev agent p0 p1) :=
  Dev.Keeps.degradedEvent h _ _ _ _ degradedOffs_above_edge (Part.mem_all _) (Part.mem_all _) (Part.mem_all _)

theorem Dev.KeepsEdge.degraded (h : d0.KeepsEdge d) (ev : Ev) (agent p0 p1 : Nat) :
    d0.KeepsEdge (d.degraded ev agent p0 p1) :=
  Dev.Keeps.degraded h _ _ _ _ degradedOffs_above_edge (Part.mem_all _) (Part.mem_all _) (Part.mem_all _)

theorem Dev.KeepsEdge.fatal (h : d0.KeepsEdge d) (cause : Nat) : d0.KeepsEdge (d.fatal cause) :=
  Dev.Keeps.fatal h _ fatalOffs_above_edge (Part.mem_all _) (Part.mem_all _) (Part.mem_all _) (Part.mem_all _)

/-! Commands that end, whatever the pair state. -/

theorem Dev.KeepsEdge.fenceTo (h : d0.KeepsEdge d) (f v : Nat) : d0.KeepsEdge (d.fenceTo f v) :=
  Dev.Keeps.fenceTo h f v recOffs_above_edge (RegDesc.above_edge (by decide) _ _) (Part.mem_all _)

theorem Dev.KeepsEdge.resync (h : d0.KeepsEdge d) : d0.KeepsEdge d.resync := by
  unfold Dev.resync
  have hp := (h.put R.PAIR_STATUS_STATE prSyncing 0 0).put R.PAIR_STATUS_IN_SYNC 0 0 0
  exact .ite (fun _ => h) fun _ => (((hp.put R.PAIR_STATUS_WTR_RUNNING 0 0 0).setPair _ (Part.mem_all _)).reply _
    (Part.mem_all _)).reply _ (Part.mem_all _)

theorem Dev.KeepsEdge.diverged (h : d0.KeepsEdge d) : d0.KeepsEdge d.diverged := by
  unfold Dev.diverged
  exact .ite (fun _ => h) fun _ => ((h.bump _ _ _ _).info _ _ _ _ _).resync

theorem Dev.KeepsEdge.settle (h : d0.KeepsEdge d) (q seq : Nat) : d0.KeepsEdge (d.settle q seq) := by
  unfold Dev.settle
  split
  · have hp : ∀ x, d0.KeepsEdge (d.setPair x) := fun x => h.setPair x (Part.mem_all _)
    exact .ite (fun _ => ((hp _).setCmds _ _ (Part.mem_all _)).reply _ (Part.mem_all _)) fun _ => (hp _).diverged
  · exact h

theorem Dev.KeepsEdge.popWritten (n q : Nat) (h : d0.KeepsEdge d) : d0.KeepsEdge (d.popWritten n q) := by
  induction n generalizing d with
  | zero => exact h
  | succ n ih =>
    unfold Dev.popWritten
    split
    · exact h
    · have hw : ∀ (cs : List Cmd) (v : Nat) (x : PairSt),
          d0.KeepsEdge (((d.setCmds q cs).setReg R.Q_DONE_SEQ v q).setPair x) := fun cs v x =>
        (Dev.KeepsEdge.setReg (h.setCmds q cs (Part.mem_all _)) R.Q_DONE_SEQ v q 0).setPair x (Part.mem_all _)
      exact .ite (fun _ => ih (.ite (fun _ => (hw _ _ _).fenceTo _ _) fun _ => hw _ _ _)) fun _ => h

theorem Dev.KeepsEdge.finish (h : d0.KeepsEdge d) (q seq status reason result detail : Nat) :
    d0.KeepsEdge (d.finish q seq status reason result detail) := by
  unfold Dev.finish Dev.complete
  split
  · cases d.cmd? q seq with
    | none => exact h
    | some c =>
      have hk := fun o f x => ((((h.keepParams c o (Part.mem_all _)).updCmd q seq f (Part.mem_all _)).mirror x
        (Part.mem_all _)).setPair · (Part.mem_all _))
      exact .ite (fun _ => Dev.KeepsEdge.popWritten _ _ (Dev.KeepsEdge.settle (hk _ _ _ _) _ _)) fun _ => hk _ _ _ _
  · exact (h.setCmds _ _ (Part.mem_all _)).withHost _ (Part.mem_all _)

/-! Ports of DisplayPort. -/

theorem Dev.KeepsEdge.cause (h : d0.KeepsEdge d) (i : Nat) : d0.KeepsEdge (d.cause i) := h.put _ _ _ _

theorem Dev.KeepsEdge.setHeadState (h : d0.KeepsEdge d) (n st cause : Nat) :
    d0.KeepsEdge (d.setHeadState n st cause) := by
  have hi := ((h.put R.HEAD_DISP_STATUS_STATE st n 0).put R.HEAD_DISP_STATUS_CAUSE cause n 0).info .headState
    (0x5020 + n) st cause 0
  unfold Dev.setHeadState
  exact .ite (fun _ => h) fun _ => .ite (fun _ => hi.cause 0) fun _ => hi

theorem Dev.KeepsEdge.watchViews {f : Dev → Dev} (h : d0.KeepsEdge (f d)) : d0.KeepsEdge (d.watchViews f) := by
  unfold Dev.watchViews
  exact .ite (fun _ => h.cause 3) fun _ => h

theorem Dev.KeepsEdge.noSink (h : d0.KeepsEdge d) (n cause : Nat) (quiet : Bool) :
    d0.KeepsEdge (d.noSink n cause quiet) := by
  unfold Dev.noSink
  have hd : ∀ x, d0.KeepsEdge (d.setHead n x) := fun x => h.setHead n x (Part.mem_all _)
  exact .ite (fun _ => ((hd _).put _ _ _ _).put _ _ _ _) fun _ => Dev.KeepsEdge.watchViews ((hd _).setHeadState _ _ _)

theorem Dev.KeepsEdge.linkDown (h : d0.KeepsEdge d) (p : Nat) : d0.KeepsEdge (d.linkDown p) := by
  unfold Dev.linkDown
  have hp : ∀ x, d0.KeepsEdge (d.setPort p x) := fun x => h.setPort p x (Part.mem_all _)
  exact (((hp _).put _ _ _ _).put _ _ _ _).put _ _ _ _

theorem Dev.KeepsEdge.retrained (h : d0.KeepsEdge d) (p : Nat) : d0.KeepsEdge (d.retrained p) := by
  unfold Dev.retrained
  exact Dev.Keeps.foldl _ _ (h.setPort _ _ (Part.mem_all _)) fun _ _ k => Dev.KeepsEdge.finish k _ _ _ _ _ _

/-! Ports of Paent. -/

theorem Dev.KeepsEdge.freeBuffer (h : d0.KeepsEdge d) (back : Option (Nat × Nat)) (n : Nat) :
    d0.KeepsEdge (d.freeBuffer back n) := by
  cases back with
  | none => exact h
  | some _ => exact h.setLink _ _ (Part.mem_all _)

theorem Dev.KeepsEdge.routeEnv (h : d0.KeepsEdge d) (p : Nat) (o : OutEnv) : d0.KeepsEdge (d.routeEnv p o) := by
  unfold Dev.routeEnv
  have hl : ∀ e, d0.KeepsEdge (d.deliverEnv p e) := fun e => h.deliverEnv p e (Part.mem_all _)
  refine .ite (fun _ => ?_) fun _ => .ite (fun _ => (hl _).freeBuffer _ _) fun _ => ?_
  · have hd : d0.KeepsEdge
        (if (d.on R.MCAST_VALID o.env.dest && d.on R.MCAST_LOCAL o.env.dest) = true then d.deliverEnv p o.env else d) :=
      .ite (fun _ => hl _) fun _ => h
    dsimp only
    split
    · exact hd.freeBuffer _ _
    · exact Dev.Keeps.foldl _ _ hd fun _ _ k => k.enqueue _ _ (Part.mem_all _)
  · split
    · exact h.enqueue _ _ (Part.mem_all _)
    · exact .ite (fun _ => h.freeBuffer _ _) fun _ =>
        .ite (fun _ => .ite (fun _ => h.enqueue _ _ (Part.mem_all _)) fun _ => h.freeBuffer _ _) fun _ =>
        .ite (fun _ => h.enqueue _ _ (Part.mem_all _)) fun _ => h.freeBuffer _ _

theorem Dev.KeepsEdge.failoverBits (h : d0.KeepsEdge d) (p : Nat) (down : Bool) :
    d0.KeepsEdge (d.failoverBits p down) := by
  unfold Dev.failoverBits
  exact Dev.Keeps.foldl _ _ h fun _ _ k => .ite (fun _ => Dev.KeepsEdge.put k _ _ _ _) fun _ => k

theorem Dev.KeepsEdge.leaveRouting (h : d0.KeepsEdge d) (p cause : Nat) : d0.KeepsEdge (d.leaveRouting p cause) := by
  have hr := (h.put R.PNT_PSTATUS_ROUTED 0 p 0).put R.PNT_PSTATUS_CAUSE cause p 0
  unfold Dev.leaveRouting
  refine .ite (fun _ => hr) fun _ => Dev.Keeps.foldl _ _ ?_ fun _ _ k =>
    .ite (fun _ => Dev.KeepsEdge.freeBuffer k _ _) fun _ => Dev.KeepsEdge.routeEnv k _ _
  have hl : ∀ e l, d0.KeepsEdge e → d0.KeepsEdge (e.setLink p l) := fun _ _ k =>
    Dev.Keeps.setLink k _ _ (Part.mem_all _)
  have hf := Dev.Keeps.ite (p := ((d.put R.PNT_PSTATUS_ROUTED 0 p).put R.PNT_PSTATUS_CAUSE cause p).isGrid p = true)
    (fun _ => hr.failoverBits p true) fun _ => hr
  split
  · exact .ite (fun _ => (hl _ _ hf).freeBuffer _ _) fun _ => (hl _ _ hf).routeEnv _ _
  · exact hl _ _ hf

theorem Dev.KeepsEdge.tellPort (h : d0.KeepsEdge d) (p : Nat) : d0.KeepsEdge (d.tellPort p) := by
  unfold Dev.tellPort
  exact .ite (fun _ => h) fun _ => Dev.KeepsEdge.info (h.setLanes _ _ (Part.mem_all _)) _ _ _ _ _

theorem Dev.KeepsEdge.setStep (h : d0.KeepsEdge d) (p n : Nat) : d0.KeepsEdge (d.setStep p n) :=
  Dev.KeepsEdge.put (h.setLanes _ _ (Part.mem_all _)) _ _ _ _

theorem Dev.KeepsEdge.detected (h : d0.KeepsEdge d) (p : Nat) : d0.KeepsEdge (d.detected p) :=
  Dev.KeepsEdge.setStep (h.setLanes _ _ (Part.mem_all _)) _ _

theorem Dev.KeepsEdge.attempt (h : d0.KeepsEdge d) (p : Nat) : d0.KeepsEdge (d.attempt p) := by
  have h1 := ((((h.leaveRouting p 1).bump R.PLN_ATTEMPTS_COUNT p 1 0).put R.PLN_STATUS_STATE plnTraining p 0).put
    R.PLN_STATUS_TX_WIDTH 0 p 0).put R.PLN_STATUS_RX_WIDTH 0 p 0
  have h2 := Dev.Keeps.foldl (fun d l => ((d.put R.LN_STATUS_TX_LOGICAL 7 p l).put R.LN_STATUS_RX_LOGICAL 7 p l).put
    R.LN_STATUS_MATCH 0 p l) (List.range 6) (h1.put R.PLN_STATUS_NEXT_TRY 0 p 0) fun _ _ k =>
    Dev.KeepsEdge.put (Dev.KeepsEdge.put (Dev.KeepsEdge.put k _ _ _ _) _ _ _ _) _ _ _ _
  have h3 : ∀ x, d0.KeepsEdge ((Dev.setLanes _ p x).put R.PLN_STATUS_PARTNER_TX_ASLEEP 0 p 0) := fun x =>
    Dev.KeepsEdge.put (h2.setLanes p x (Part.mem_all _)) _ _ _ _
  have h4 : ∀ e, d0.KeepsEdge e → d0.KeepsEdge ((if (d.pln p == plnUp) = true then
      (e.bump R.PLN_RETRAINS_COUNT p).tellPort p else e).setStep p 1) := fun e k =>
    Dev.KeepsEdge.setStep (.ite (fun _ => (k.bump _ _ _ _).tellPort p) fun _ => k) p 1
  unfold Dev.attempt
  exact .ite (fun _ => Dev.KeepsEdge.detected (h4 _ (h3 _)) p) fun _ => h4 _ (h3 _)

theorem Dev.KeepsEdge.laneLol (h : d0.KeepsEdge d) (p l : Nat) (set : Bool) : d0.KeepsEdge (laneLol p l set d) := by
  have hs : d0.KeepsEdge (if set = true then (d.put R.LN_STATUS_LOL (b2n set) p l).put R.LN_STATUS_LOL_SEEN 1 p l
      else d.put R.LN_STATUS_LOL (b2n set) p l) :=
    .ite (fun _ => (h.put _ _ _ _).put _ _ _ _) fun _ => h.put _ _ _ _
  unfold Machine.laneLol
  exact .ite (fun _ => h) fun _ => .ite (fun _ => hs.attempt p) fun _ => hs

/-! Ethernet, touch, converters, and the OCXO. -/

theorem Dev.KeepsEdge.ethLinkLost (h : d0.KeepsEdge d) (p : Nat) : d0.KeepsEdge (ethLinkLost p d) := by
  unfold Machine.ethLinkLost
  exact .ite (fun _ => h) fun _ => (((h.put _ _ _ _).put _ _ _ _).put _ _ _ _).info _ _ _ _ _

theorem Dev.KeepsEdge.showTouch (h : d0.KeepsEdge d) (p : Nat) (es : List TouchEntry) :
    d0.KeepsEdge (d.showTouch p es) := by
  unfold Dev.showTouch
  exact Dev.Keeps.foldl _ _ (h.put _ _ _ _) fun _ _ k =>
    (Dev.Keeps.setLatch k _ _ _ _ (Part.mem_all _)).setLatch _ _ _ _ (Part.mem_all _)

theorem Dev.KeepsEdge.touchValid (h : d0.KeepsEdge d) (p : Nat) : d0.KeepsEdge (d.touchValid p) := by
  unfold Dev.touchValid
  exact .ite (fun _ => h.put _ _ _ _) fun _ =>
    Dev.KeepsEdge.showTouch (Dev.Keeps.setTouch (h.put _ _ _ _) _ _ (Part.mem_all _)) _ _

theorem Dev.KeepsEdge.touchClockLost (h : d0.KeepsEdge d) (p : Nat) : d0.KeepsEdge (d.touchClockLost p) := by
  unfold Dev.touchClockLost
  exact Dev.KeepsEdge.touchValid (.ite (fun _ => h.setTouch _ _ (Part.mem_all _)) fun _ => h) p

theorem Dev.KeepsEdge.adcClockLost (h : d0.KeepsEdge d) : d0.KeepsEdge d.adcClockLost := by
  unfold Dev.adcClockLost
  exact Dev.Keeps.foldl _ _ (Dev.KeepsEdge.put (h.withIo _ (Part.mem_all _)) _ _ _ _) fun _ _ k =>
    k.setCycle _ _ (Part.mem_all _)

theorem Dev.KeepsEdge.stopWtr (h : d0.KeepsEdge d) (r : Nat) : d0.KeepsEdge (d.stopWtr r) :=
  Dev.KeepsEdge.put (Dev.KeepsEdge.put (h.setRefMon _ _ (Part.mem_all _)) _ _ _ _) _ _ _ _

theorem Dev.KeepsEdge.ocxoLost (h : d0.KeepsEdge d) : d0.KeepsEdge (ocxoLost d) := by
  unfold Machine.ocxoLost
  exact Dev.Keeps.foldl _ _ (Dev.KeepsEdge.put (Dev.KeepsEdge.put (h.withRef _ (Part.mem_all _)) _ _ _ _) _ _ _ _)
    fun _ _ k => Dev.KeepsEdge.stopWtr k _

/-! Channels of DRAM. -/

theorem Dev.KeepsEdge.setRank (h : d0.KeepsEdge d) (ch rank v : Nat) : d0.KeepsEdge (d.setRank ch rank v) :=
  h.put _ _ _ _ (by split <;> decide)

theorem Dev.KeepsEdge.startMigration (h : d0.KeepsEdge d) (m : Mem) (ch : Nat) :
    d0.KeepsEdge (startMigration d m ch).1 := by
  unfold Machine.startMigration
  split
  · next a b _ _ =>
    have h1 := ((h.setRank ch a rkSource).setRank ch b rkTarget).put R.CH_STATUS_STATE chMigrating ch 0
    exact Dev.Keeps.setMctl (((h1.put R.CH_MIG_PTR_LINE 0 ch 0).put R.MEM_STATUS_MIGRATING 1 0 0).put
      R.MEM_STATUS_MIG_CH ch 0 0) _ (Part.mem_all _)
  · exact h

theorem Dev.KeepsEdge.nextMigration (h : d0.KeepsEdge d) (m : Mem) : d0.KeepsEdge (nextMigration d m).1 := by
  have h1 := Dev.KeepsEdge.put (h.setMctl { d.mctl with mig := none } (Part.mem_all _)) R.MEM_STATUS_MIGRATING 0 0 0
  unfold Machine.nextMigration
  dsimp only
  split
  · exact h1
  · exact Dev.KeepsEdge.startMigration (h1.setMctl _ (Part.mem_all _)) _ _

theorem Dev.KeepsEdge.memBit (h : d0.KeepsEdge d) (f : FldDesc) (ch : Nat) (on : Bool)
    (hf : R.EDGE_CLK_STATUS.base < f.reg.base := by decide) : d0.KeepsEdge (d.memBit f ch on) := h.put f _ _ _ hf

theorem Dev.KeepsEdge.channelFails (h : d0.KeepsEdge d) (ch : Nat) : d0.KeepsEdge (d.channelFails ch) := by
  have h1 := ((h.put R.CH_STATUS_STATE chFailedState ch 0).memBit R.MEM_STATUS_FAILED_CH ch true).memBit
    R.MEM_STATUS_NO_SPARE ch true
  exact (Dev.KeepsEdge.degraded (h1.setMctl _ (Part.mem_all _)) _ _ _ _).fatal _

theorem Dev.KeepsEdge.failChannel (h : d0.KeepsEdge d) (m : Mem) (ch : Nat) : d0.KeepsEdge (failChannel d m ch).1 := by
  unfold Machine.failChannel
  split
  · exact (h.channelFails ch).nextMigration _
  · exact h.channelFails ch

end

end Sys2Proof.Machine
end

section
/-! PROOFS. The clocks of the edge domains (R11): what a clock that stops or is detected does to EDGE_CLK_STATUS, and
what else moves. -/

namespace Sys2Proof.Machine

/-! ### PRESENT and LOST -/

theorem bit_eq_testBit (v i : Nat) : bit v i = v.testBit i := by
  rw [bit, Nat.testBit_eq_decide_div_mod_eq, beq_eq_decide]

/-- To take away the power of a bit that is set clears that bit alone. -/
theorem testBit_sub_two_pow_of_testBit {v k : Nat} (h : v.testBit k = true) (n : Nat) :
    (v - 2 ^ k).testBit n = (v.testBit n && decide (n ≠ k)) := by
  have hb : bits v k k = 1 := by
    simpa [bits, Nat.testBit_eq_decide_div_mod_eq] using h
  have hp : v - 2 ^ k = putBits v k k 0 := by simp [putBits, hb]
  rw [hp, testBit_putBits v k k 0 n le_rfl]
  by_cases hn : n = k
  · simp [hn]
  · have : ¬(k ≤ n ∧ n ≤ k) := by omega
    simp [hn, this]

/-- The block with a clock no longer among those that run. -/
def Dev.withoutClock (d : Dev) (dom inst : Nat) : Dev :=
  { d with err := { d.err with clocks := d.err.clocks.filter (· != dom * 64 + inst) } }

/-- The block with a clock among those that run. -/
def Dev.withClock (d : Dev) (dom inst : Nat) : Dev :=
  { d with err := { d.err with clocks := (dom * 64 + inst) :: d.err.clocks.filter (· != dom * 64 + inst) } }

theorem Dev.clockAt_withoutClock (d : Dev) (dom inst : Nat) : (d.withoutClock dom inst).clockAt dom inst = false := by
  simp [Dev.clockAt, Dev.withoutClock]

theorem Dev.clockAt_withClock (d : Dev) (dom inst : Nat) : (d.withClock dom inst).clockAt dom inst = true := by
  simp [Dev.clockAt, Dev.withClock]

theorem Dev.clockGone_eq (d : Dev) (dom inst : Nat) : d.clockGone dom inst =
    if bit (d.get R.EDGE_CLK_STATUS_PRESENT) dom then
      (((d.withoutClock dom inst).put R.EDGE_CLK_STATUS_PRESENT (d.get R.EDGE_CLK_STATUS_PRESENT - 2 ^ dom)).put
        R.EDGE_CLK_STATUS_LOST (d.get R.EDGE_CLK_STATUS_LOST ||| 2 ^ dom)).info .clockLost 0x0FFF dom
    else d.withoutClock dom inst := rfl

theorem Dev.clockBack_eq {d : Dev} {dom inst : Nat} (hd : dom < 12) (hi : inst < domainInstances dom) :
    d.clockBack dom inst =
      if (List.range (domainInstances dom)).all ((d.withClock dom inst).clockAt dom) then
        (d.withClock dom inst).put R.EDGE_CLK_STATUS_PRESENT (d.get R.EDGE_CLK_STATUS_PRESENT ||| 2 ^ dom)
      else d.withClock dom inst := by
  unfold Dev.clockBack
  rw [if_neg (by simp; omega)]
  rfl

theorem bit_put_edge (d : Dev) {f : FldDesc} (hf : f.ok = true) (hw : f.hi - f.lo + 1 = 12) (v : Nat) {n : Nat}
    (hn : n < 12) : bit ((d.put f v).get f) n = bit v n := by
  rw [Dev.get_put _ _ _ _ _ hf, hw, bit_eq_testBit, bit_eq_testBit, Nat.testBit_mod_two_pow, decide_eq_true hn,
    Bool.true_and]

/-- A clock that stops in a domain shown present moves that domain's bits of PRESENT and LOST alone. -/
theorem Dev.bit_get_clockGone {d : Dev} {dom n : Nat} (inst : Nat) (hn : n < 12)
    (h : bit (d.get R.EDGE_CLK_STATUS_PRESENT) dom = true) :
    bit ((d.clockGone dom inst).get R.EDGE_CLK_STATUS_PRESENT) n =
        (bit (d.get R.EDGE_CLK_STATUS_PRESENT) n && decide (n ≠ dom)) ∧
      bit ((d.clockGone dom inst).get R.EDGE_CLK_STATUS_LOST) n =
        (bit (d.get R.EDGE_CLK_STATUS_LOST) n || decide (n = dom)) := by
  rw [d.clockGone_eq, if_pos h, Dev.KeepsEdge.get ((Dev.KeepsEdge.refl _).info _ _ _ _ _) _ rfl,
    Dev.KeepsEdge.get ((Dev.KeepsEdge.refl _).info _ _ _ _ _) _ rfl]
  constructor
  · rw [Dev.get_put_field _ R.EDGE_CLK_STATUS_LOST R.EDGE_CLK_STATUS_PRESENT _ _ _ (by decide) (by decide) rfl
      (by decide), bit_put_edge _ (by decide) rfl _ hn,
      bit_eq_testBit, testBit_sub_two_pow_of_testBit ((bit_eq_testBit _ _).symm.trans h), ← bit_eq_testBit]
  · rw [bit_put_edge _ (by decide) rfl _ hn, bit_eq_testBit, Nat.testBit_or, ← bit_eq_testBit, Nat.testBit_two_pow]
    simp only [eq_comm]

theorem Dev.clockAt_clockGone (d : Dev) (dom inst : Nat) : (d.clockGone dom inst).clockAt dom inst = false := by
  have hk : ((d.withoutClock dom inst).err.clocks) = (d.clockGone dom inst).err.clocks := by
    rw [d.clockGone_eq]
    split
    · next h =>
      exact (((Dev.Keeps.refl _ (· ∈ recOffs) [.recd]).info _ _ _ _ _ (fun _ hx => hx) (by simp)).err.resolve_left
        (by simp)).symm ▸ rfl
    · rfl
  rw [Dev.clockAt, ← hk]
  exact d.clockAt_withoutClock dom inst

theorem Dev.Keeps.clockGone {d0 d : Dev} {ws : Nat → Prop} {ps : List Part} (h : d0.Keeps d ws ps) (dom inst : Nat)
    (hw : ws (R.EDGE_CLK_STATUS.off 0 0)) (hr : ∀ x ∈ recOffs, ws x) (he : Part.err ∈ ps) (hp : Part.recd ∈ ps) :
    d0.Keeps (d.clockGone dom inst) ws ps := by
  have hc : d0.Keeps (d.withoutClock dom inst) ws ps := h.withErr _ he
  rw [d.clockGone_eq]
  exact .ite (fun _ => ((hc.put _ _ _ _ hw).put _ _ _ _ hw).info _ _ _ _ _ hr hp) fun _ => hc

/-- PRESENT of a domain once a clock of it is back (R11). -/
theorem Dev.bit_get_clockBack {d : Dev} {dom inst : Nat} (hd : dom < 12) (hi : inst < domainInstances dom) :
    (d.clockBack dom inst).clockAt dom inst = true ∧
      (bit ((d.clockBack dom inst).get R.EDGE_CLK_STATUS_PRESENT) dom = true ↔
        (bit (d.get R.EDGE_CLK_STATUS_PRESENT) dom = true ∨
          ∀ n, n < domainInstances dom → (d.clockBack dom inst).clockAt dom n = true)) := by
  have hall : (List.range (domainInstances dom)).all ((d.withClock dom inst).clockAt dom) = true ↔
      ∀ n, n < domainInstances dom → (d.withClock dom inst).clockAt dom n = true := by simp
  rw [Dev.clockBack_eq hd hi]
  split
  · next h =>
    refine ⟨d.clockAt_withClock dom inst, iff_of_true ?_ (.inr (hall.mp h))⟩
    rw [bit_put_edge _ (by decide) rfl _ hd, bit_eq_testBit, Nat.testBit_or, Nat.testBit_two_pow_self, Bool.or_true]
  · next h => exact ⟨d.clockAt_withClock dom inst, (or_iff_left fun hn => h (hall.mpr hn)).symm⟩

theorem Dev.Keeps.clockBack {d0 d : Dev} {ws : Nat → Prop} {ps : List Part} (h : d0.Keeps d ws ps) (dom inst : Nat)
    (hw : ws (R.EDGE_CLK_STATUS.off 0 0)) (he : Part.err ∈ ps) : d0.Keeps (d.clockBack dom inst) ws ps := by
  have hc : d0.Keeps (d.withClock dom inst) ws ps := h.withErr _ he
  unfold Dev.clockBack
  exact .ite (fun _ => h) fun _ => .ite (fun _ => hc.put _ _ _ _ hw) fun _ => hc

/-- A DisplayPort port whose clock is shown absent already: EDGE_CLK_STATUS does not move again. -/
theorem Dev.KeepsEdge.portClockLost {d0 d : Dev} (h : d0.KeepsEdge d) (p : Nat)
    (hp : bit (d.get R.EDGE_CLK_STATUS_PRESENT) 2 = false) : d0.KeepsEdge (portClockLost p d) := by
  have hg : d.clockGone 2 p = d.withoutClock 2 p := by rw [d.clockGone_eq, if_neg (by simp [hp])]
  have hl : ∀ x, d0.KeepsEdge (((d.withoutClock 2 p).setPort p x).linkDown p) := fun x =>
    Dev.KeepsEdge.linkDown ((h.withErr _ (Part.mem_all _)).setPort p x (Part.mem_all _)) p
  unfold Machine.portClockLost
  rw [hg]
  exact .ite (fun _ => h) fun _ => Dev.KeepsEdge.retrained (Dev.Keeps.foldl _ _ (hl _) fun _ _ k =>
    .ite (fun _ => k) fun _ => Dev.KeepsEdge.noSink k _ _ _) p

/-- What the absence of a clock does leaves EDGE_CLK_STATUS alone (R11). -/
theorem Dev.KeepsEdge.clockAbsent (dom inst : Nat) (x : Dev × Mem)
    (hp : bit (x.1.get R.EDGE_CLK_STATUS_PRESENT) dom = false) : x.1.KeepsEdge (clockAbsent dom inst x).1 := by
  have h := Dev.KeepsEdge.refl x.1
  unfold Machine.clockAbsent
  split
  · exact h.fatal _
  · exact h.ethLinkLost _
  · exact h.portClockLost _ hp
  · exact .ite (fun _ => h.attempt _) fun _ => h
  · exact h.laneLol _ _ _
  · dsimp only
    split
    · exact h
    · exact h.failChannel _ _
  · exact (h.touchClockLost 0).touchClockLost 1
  · exact h.adcClockLost
  · exact Dev.KeepsEdge.degraded (Dev.KeepsEdge.ocxoLost (h.withBoot _ (Part.mem_all _))) _ _ _ _
  · exact h

/-! ### Clauses -/

theorem exec_domainClockLost (t dom inst : Nat) (s : State) :
    exec (.domainClockLost t dom inst) s = s.onAll t (clockLost dom inst) := rfl

theorem exec_domainClockPresent (t dom inst : Nat) (s : State) :
    exec (.domainClockPresent t dom inst) s = s.onDev t (clockPresent dom inst) := rfl

theorem clockLost_of_running {dom inst : Nat} {x : Dev × Mem} (h : x.1.clockAt dom inst = true) :
    clockLost dom inst x = clockAbsent dom inst (x.1.clockGone dom inst, x.2) := by
  unfold clockLost
  rw [if_neg (by simp [h])]

theorem domainClockLost_shows (t dom inst : Nat) (s : State) (hd : dom < 12) (hc : s.dev.clockAt dom inst = true)
    (hp : bit (s.dev.get R.EDGE_CLK_STATUS_PRESENT) dom = true) :
    ∃ s', exec (.domainClockLost t dom inst) s = .next s' ∧
      bit (s'.dev.get R.EDGE_CLK_STATUS_PRESENT) dom = false ∧ bit (s'.dev.get R.EDGE_CLK_STATUS_LOST) dom = true ∧
      (∀ n, n < 12 → n ≠ dom →
        bit (s'.dev.get R.EDGE_CLK_STATUS_PRESENT) n = bit (s.dev.get R.EDGE_CLK_STATUS_PRESENT) n ∧
        bit (s'.dev.get R.EDGE_CLK_STATUS_LOST) n = bit (s.dev.get R.EDGE_CLK_STATUS_LOST) n) := by
  have hb := fun n (hn : n < 12) => Dev.bit_get_clockGone (d := s.dev.clock t) inst hn hp
  have hk := Dev.KeepsEdge.clockAbsent dom inst ((s.dev.clock t).clockGone dom inst, s.mem)
    ((hb dom hd).1.trans (by simp))
  rw [exec_domainClockLost, State.onAll, clockLost_of_running (x := (s.dev.clock t, s.mem)) hc]
  refine ⟨_, rfl, ?_, ?_, fun n hn hne => ⟨?_, ?_⟩⟩ <;> rw [hk.get _ rfl]
  · simp [(hb dom hd).1]
  · simp [(hb dom hd).2]
  · simp [(hb n hn).1, hne]
  · simp [(hb n hn).2, hne]

theorem clockAbsent_of_quiet {dom : Nat} (hd : dom = 6 ∨ dom = 9 ∨ dom = 11) (inst : Nat) (x : Dev × Mem) :
    clockAbsent dom inst x = x := by
  obtain rfl | rfl | rfl := hd <;> rfl

theorem domainClockLost_of_quiet (t dom inst : Nat) (s : State) (hd : dom = 6 ∨ dom = 9 ∨ dom = 11)
    (hc : s.dev.clockAt dom inst = true) :
    ∃ s', exec (.domainClockLost t dom inst) s = .next s' ∧ s'.dev.clockAt dom inst = false ∧
      s.Keeps s' t (R.EDGE_CLK_STATUS.off 0 0 :: recOffs) [.err, .recd] := by
  rw [exec_domainClockLost, State.onAll, clockLost_of_running (x := (s.dev.clock t, s.mem)) hc,
    clockAbsent_of_quiet hd]
  refine ⟨_, rfl, Dev.clockAt_clockGone _ _ _, rfl, .inr rfl, ?_⟩
  exact (Dev.Keeps.refl _ _ _).clockGone _ _ (by simp) (fun _ hx => List.mem_cons_of_mem _ hx) (by simp) (by simp)

theorem clockPresent_of_plain {dom : Nat} (inst : Nat) (d : Dev)
    (hd : dom = 0 ∨ dom = 1 ∨ dom = 3 ∨ dom = 4 ∨ dom = 5 ∨ dom = 8 ∨ dom = 9 ∨ dom = 11) :
    clockPresent dom inst d = d.clockBack dom inst := by
  obtain rfl | rfl | rfl | rfl | rfl | rfl | rfl | rfl := hd <;> rfl

theorem domainClockPresent_of_plain (t dom inst : Nat) (s : State) (hd : dom < 12) (hi : inst < domainInstances dom)
    (hp : dom = 0 ∨ dom = 1 ∨ dom = 3 ∨ dom = 4 ∨ dom = 5 ∨ dom = 8 ∨ dom = 9 ∨ dom = 11) :
    ∃ s', exec (.domainClockPresent t dom inst) s = .next s' ∧ s'.dev.clockAt dom inst = true ∧
      (bit (s'.dev.get R.EDGE_CLK_STATUS_PRESENT) dom = true ↔
        (bit (s.dev.get R.EDGE_CLK_STATUS_PRESENT) dom = true ∨
          ∀ n, n < domainInstances dom → s'.dev.clockAt dom n = true)) ∧
      s.Keeps s' t [R.EDGE_CLK_STATUS.off 0 0] [.err] := by
  obtain ⟨hc, hb⟩ := Dev.bit_get_clockBack (d := s.dev.clock t) hd hi
  rw [exec_domainClockPresent, State.onDev, clockPresent_of_plain inst _ hp]
  exact ⟨_, rfl, hc, hb, rfl, .inr rfl, (Dev.Keeps.refl _ _ _).clockBack _ _ (by simp) (by simp)⟩

/-- A reference's monitor restarts its gates, as each does when the OCXO returns (R96). -/
def Dev.restartGates (d : Dev) (r : Nat) : Dev := (d.setRefMon r { d.refMon r with gates := [] }).stopWtr r

theorem Dev.setRefMon_ocxo (d : Dev) (r : Nat) (m : RefMon) : (d.setRefMon r m).ref.ocxo = d.ref.ocxo := rfl

theorem Dev.restartGates_ocxo (d : Dev) (r : Nat) : (d.restartGates r).ref.ocxo = d.ref.ocxo := by
  rw [Dev.restartGates, Dev.stopWtr, Dev.put_ref, Dev.put_ref, Dev.setRefMon_ocxo, Dev.setRefMon_ocxo]

theorem Dev.Keeps.restartGates {d0 d : Dev} (h : d0.Keeps d (R.REFSEL_STATUS.base < ·) [.ref]) (r : Nat) :
    d0.Keeps (d.restartGates r) (R.REFSEL_STATUS.base < ·) [.ref] := by
  have hr : R.REFSEL_STATUS.base < R.REF_STATUS.off r 0 := by
    simp only [RegDesc.off, R.REFSEL_STATUS, R.REF_STATUS]
    omega
  exact (((h.setRefMon _ _ (by simp)).setRefMon _ _ (by simp)).put _ _ _ _ hr).put _ _ _ _ hr

theorem Dev.foldl_restartGates_ocxo (l : List Nat) (d : Dev) : (l.foldl Dev.restartGates d).ref.ocxo = d.ref.ocxo := by
  induction l generalizing d with
  | nil => rfl
  | cons r l ih => rw [List.foldl_cons, ih, d.restartGates_ocxo]

theorem ocxoReturn_eq (d : Dev) : ocxoReturn d = (List.range 12).foldl Dev.restartGates
    ({ d with ref := { d.ref with ocxo := true } }.put R.REFSEL_STATUS_MON_BASIS 1) := rfl

/-- The OCXO's return leaves every part alone but the reference selector's, and has it present (R96). -/
theorem ocxoReturn_sets (d : Dev) : (ocxoReturn d).ref.ocxo = true ∧
    (ocxoReturn d).get R.REFSEL_STATUS_MON_BASIS = 1 ∧ d.Keeps (ocxoReturn d) (R.EDGE_CLK_STATUS.base < ·) [.ref] := by
  have h1 := ((Dev.Keeps.refl d (R.EDGE_CLK_STATUS.base < ·) [.ref]).withRef { d.ref with ocxo := true } (by simp)).put
    R.REFSEL_STATUS_MON_BASIS 1 0 0 (by decide)
  have hk : ∀ e : Dev, e.Keeps ((List.range 12).foldl Dev.restartGates e) (R.REFSEL_STATUS.base < ·) [.ref] := fun e =>
    Dev.Keeps.foldl _ _ (Dev.Keeps.refl e _ _) fun _ _ k => k.restartGates _
  rw [ocxoReturn_eq]
  refine ⟨Dev.foldl_restartGates_ocxo _ _, ?_,
    h1.trans ((hk _).mono (fun x hx => lt_trans (by decide) hx) (fun _ h => h))⟩
  rw [(hk _).get _ _ _ (by decide)]
  exact Dev.get_put _ _ _ _ _ (by decide)

theorem clockPresent_ocxo (inst : Nat) (d : Dev) : clockPresent 10 inst d =
    ocxoReturn { d.clockBack 10 inst with boot := { (d.clockBack 10 inst).boot with houseOcxo := true } } := rfl

theorem domainClockPresent_of_ocxo (t : Nat) (s : State) :
    ∃ s', exec (.domainClockPresent t 10 0) s = .next s' ∧ s'.dev.clockAt 10 0 = true ∧
      bit (s'.dev.get R.EDGE_CLK_STATUS_PRESENT) 10 = true ∧ s'.dev.boot.houseOcxo = true ∧
      s'.dev.ref.ocxo = true ∧ s'.dev.get R.REFSEL_STATUS_MON_BASIS = 1 := by
  obtain ⟨hc, hb⟩ := Dev.bit_get_clockBack (d := s.dev.clock t) (dom := 10) (inst := 0) (by decide) (by decide)
  have hall : ∀ n, n < domainInstances 10 → ((s.dev.clock t).clockBack 10 0).clockAt 10 n = true := fun n hn => by
    obtain rfl : n = 0 := Nat.lt_one_iff.mp hn
    exact hc
  rw [exec_domainClockPresent, State.onDev, clockPresent_ocxo]
  generalize (s.dev.clock t).clockBack 10 0 = e at hc hb hall
  obtain ⟨ho, hm, hk⟩ := ocxoReturn_sets { e with boot := { e.boot with houseOcxo := true } }
  refine ⟨_, rfl, ?_, ?_, ?_, ho, hm⟩
  · rw [Dev.clockAt, hk.err.resolve_left (by simp)]
    exact hc
  · rw [hk.get _ _ _ (by decide)]
    exact hb.mpr (.inr hall)
  · rw [hk.boot.resolve_left (by simp)]

end Sys2Proof.Machine
end

section
/-! PROOFS. The fields that the error reports set, and the commands of the queues, which they leave alone (R415,
R420). -/

namespace Sys2Proof.Machine

theorem Dev.queue_setQueue (d : Dev) (q r : Nat) (v : Queue) :
    (d.setQueue q v).queue r = if r = q then v else d.queue r := by
  unfold Dev.queue Dev.setQueue
  split
  · next h => subst h; exact tabGetD_set_same _ _ _ _
  · next h => exact tabGetD_set_ne _ _ _ _ _ _ h

theorem Dev.cmds_setQueue (d : Dev) {q : Nat} {v : Queue} (h : v.cmds = (d.queue q).cmds) (r : Nat) :
    ((d.setQueue q v).queue r).cmds = (d.queue r).cmds := by
  rw [d.queue_setQueue]
  split
  · next hr => rw [hr, h]
  · rfl

theorem Dev.cmds_of_host {d e : Dev} (h : e.host = d.host) (r : Nat) : (e.queue r).cmds = (d.queue r).cmds := by
  rw [Dev.queue, h, ← Dev.queue]

theorem Dev.cmds_ringPut (d : Dev) (q : Nat) (bs : List Byte) (n : Bool) (r : Nat) :
    ((d.ringPut q bs n).queue r).cmds = (d.queue r).cmds := by
  have hs : ∀ (p : Posted) (v : Queue), v.cmds = (d.queue q).cmds →
      (((d.post p).setQueue q v).queue r).cmds = (d.queue r).cmds := fun p _ hv => (d.post p).cmds_setQueue hv r
  unfold Dev.ringPut
  dsimp only
  split
  · exact hs _ _ rfl
  · exact hs _ _ rfl

theorem Dev.cmds_notify (d : Dev) (bs : List Byte) (r : Nat) : ((d.notify bs).queue r).cmds = (d.queue r).cmds := by
  unfold Dev.notify
  split
  · exact d.cmds_ringPut _ _ _ r
  · rfl

theorem Dev.cmds_errorNotify (d : Dev) (ok : Bool) (kind : Kind) (ev : Ev) (agent p0 r : Nat) :
    ((d.errorNotify ok kind ev agent p0).queue r).cmds = (d.queue r).cmds := by
  unfold Dev.errorNotify
  dsimp only
  split
  · exact Dev.cmds_notify _ _ r
  · rfl

theorem Dev.host_record (d : Dev) (ev : Ev) (kind : Kind) (agent p0 p1 p2 : Nat) :
    (d.record ev kind agent p0 p1 p2).host = d.host :=
  ((Dev.Keeps.refl d (· ∈ recOffs) [.recd]).record ev kind agent p0 p1 p2 (fun _ hx => hx) (by simp)).host.resolve_left
    (by simp)

theorem Dev.cmds_contained (d : Dev) (ev : Ev) (agent p0 p1 r : Nat) :
    ((d.contained ev agent p0 p1).queue r).cmds = (d.queue r).cmds := by
  unfold Dev.contained
  exact (Dev.cmds_errorNotify _ _ _ _ _ _ r).trans (Dev.cmds_of_host (Dev.host_record (d.bump _) _ _ _ _ _ _) r)

/-- A report of an error moves the recorder, the notifications and the host's ring. -/
theorem Dev.keeps_report (d : Dev) (ok : Bool) (kind : Kind) (ev : Ev) (agent p0 p1 : Nat) :
    d.Keeps ((d.record ev kind agent p0 p1 0).errorNotify ok kind ev agent p0) (· ∈ recOffs) [.recd, .err, .host] :=
  ((Dev.Keeps.refl d _ _).record _ _ _ _ _ _ (fun _ hx => hx) (by simp)).errorNotify _ _ _ _ _ (by simp) (by simp)

theorem Dev.keeps_contained (d : Dev) (ev : Ev) (agent p0 p1 : Nat) :
    d.Keeps (d.contained ev agent p0 p1) (· ∈ containedOffs) [.recd, .err, .host] :=
  (Dev.Keeps.refl d _ _).contained ev agent p0 p1 (fun _ hx => hx) (by simp) (by simp) (by simp)

theorem Dev.keeps_fatal (d : Dev) (cause : Nat) :
    d.Keeps (d.fatal cause) (· ∈ fatalOffs) [.recd, .err, .host, .pair] :=
  (Dev.Keeps.refl d _ _).fatal cause (fun _ hx => hx) (by simp) (by simp) (by simp) (by simp)

theorem containedOffs_subset {x : Nat} (h : x ∈ containedOffs) : x ∈ R.ERR_CONTAINED.off 0 0 :: fatalOffs := by
  simp only [containedOffs, fatalOffs, List.mem_cons] at h ⊢
  tauto

theorem Dev.get_contained_count (d : Dev) (ev : Ev) (agent p0 p1 : Nat) :
    (d.contained ev agent p0 p1).get R.ERR_CONTAINED_COUNT = min (d.get R.ERR_CONTAINED_COUNT + 1) (2 ^ 32 - 1) := by
  unfold Dev.contained
  rw [(Dev.keeps_report _ _ _ _ _ _ _).get _ _ _ (by decide)]
  exact d.get_bump _ _ _ _ (by decide)

theorem Dev.get_degraded (d : Dev) (ev : Ev) (agent p0 p1 : Nat) :
    (d.degraded ev agent p0 p1).get R.ERR_STATUS_DEGRADED = 1 ∧
      (d.degraded ev agent p0 p1).get R.ERR_DEGRADED_COUNT = min (d.get R.ERR_DEGRADED_COUNT + 1) (2 ^ 32 - 1) := by
  unfold Dev.degraded Dev.degradedEvent
  refine ⟨Dev.get_put _ _ _ _ _ (by decide), ?_⟩
  rw [Dev.get_put_ne _ _ _ _ _ _ _ _ (by decide),
    (Dev.keeps_report _ _ _ _ _ _ _).get _ _ _ (by decide)]
  exact Dev.get_bump _ _ _ _ _ (by decide)

/-- The registers that a FATAL declaration sets (R420). -/
def Dev.declareFatal (d : Dev) (cause : Nat) : Dev :=
  if (!d.on R.ERR_STATUS_FATAL) = true then
    ((d.put R.ERR_STATUS_FATAL 1).put R.PAIR_STATUS_STATE prFailed).put R.ERR_STATUS_FATAL_CAUSE cause
  else (d.put R.ERR_STATUS_FATAL 1).put R.PAIR_STATUS_STATE prFailed

/-- What a FATAL declaration reports: one event and one notification (R420). -/
def Dev.reportFatal (d : Dev) (cause : Nat) : Dev :=
  (d.record .fatal .fatal 0x0FFF cause 0 0).errorNotify true .fatal .fatal 0x0FFF cause

theorem Dev.ite_withRecd (p : Prop) [Decidable p] (e : Dev) (r : RecSt) :
    ∃ r', (if p then { e with recd := r } else e) = { e with recd := r' } := by
  split
  · exact ⟨r, rfl⟩
  · exact ⟨e.recd, rfl⟩

/-- A FATAL declaration changes the pair's part, sets its registers, reports, and marks its place in the recorder. -/
theorem Dev.fatal_eq (d : Dev) (cause : Nat) :
    ∃ x r, d.fatal cause = { ((d.setPair x).declareFatal cause).reportFatal cause with recd := r } := by
  have hp : ∃ x, (if (!d.on R.ERR_STATUS_FATAL && d.on R.PAIR_STATUS_CLAIM) = true then d.planRelease else d) =
      d.setPair x := by
    split
    · exact (d.setPair _).mirror_eq _
    · exact ⟨d.pair, rfl⟩
  obtain ⟨x, hx⟩ := hp
  unfold Dev.fatal
  dsimp only
  rw [hx]
  exact ⟨{ x with acted := (d.setPair x).queueActs, plan := none }, Dev.ite_withRecd _ _ _⟩

theorem Dev.host_declareFatal (d : Dev) (cause : Nat) : (d.declareFatal cause).host = d.host := by
  unfold Dev.declareFatal
  split
  · rw [Dev.put_host, Dev.put_host, Dev.put_host]
  · rw [Dev.put_host, Dev.put_host]

theorem Dev.cmds_fatal (d : Dev) (cause r : Nat) : ((d.fatal cause).queue r).cmds = (d.queue r).cmds := by
  obtain ⟨x, y, h⟩ := d.fatal_eq cause
  rw [h]
  exact ((Dev.cmds_errorNotify _ _ _ _ _ _ r).trans (Dev.cmds_of_host (Dev.host_record _ _ _ _ _ _ _) r)).trans
    (Dev.cmds_of_host (Dev.host_declareFatal _ _) r)

theorem Dev.get_declareFatal (d : Dev) (cause : Nat) :
    (d.declareFatal cause).get R.ERR_STATUS_FATAL = 1 ∧ (d.declareFatal cause).get R.PAIR_STATUS_STATE = prFailed ∧
      (d.get R.ERR_STATUS_FATAL = 0 → cause < 256 → (d.declareFatal cause).get R.ERR_STATUS_FATAL_CAUSE = cause) ∧
      (d.declareFatal cause).get R.ERR_STATUS_DEGRADED = d.get R.ERR_STATUS_DEGRADED := by
  let e := (d.put R.ERR_STATUS_FATAL 1).put R.PAIR_STATUS_STATE prFailed
  have hs : e.get R.PAIR_STATUS_STATE = prFailed := Dev.get_put _ _ _ _ _ (by decide)
  have hf : e.get R.ERR_STATUS_FATAL = 1 := by
    rw [Dev.get_put_ne _ _ _ _ _ _ _ _ (by decide)]
    exact Dev.get_put _ _ _ _ _ (by decide)
  have hd : e.get R.ERR_STATUS_DEGRADED = d.get R.ERR_STATUS_DEGRADED := by
    rw [Dev.get_put_ne _ _ _ _ _ _ _ _ (by decide)]
    exact Dev.get_put_field _ _ _ _ _ _ (by decide) (by decide) rfl (by decide)
  unfold Dev.declareFatal
  split
  · refine ⟨?_, ?_, fun _ hc => ?_, ?_⟩
    · exact (e.get_put_field R.ERR_STATUS_FATAL_CAUSE R.ERR_STATUS_FATAL _ 0 0 (by decide) (by decide) rfl
        (by decide)).trans hf
    · rw [Dev.get_put_ne _ _ _ _ _ _ _ _ (by decide)]
      exact hs
    · rw [Dev.get_put _ _ _ _ _ (by decide)]
      exact Nat.mod_eq_of_lt hc
    · exact (e.get_put_field R.ERR_STATUS_FATAL_CAUSE R.ERR_STATUS_DEGRADED _ 0 0 (by decide) (by decide) rfl
        (by decide)).trans hd
  · next hn => exact ⟨hf, hs, fun h0 => absurd h0 (by simp_all [Dev.on]), hd⟩

/-- The fields of ERR_STATUS and PAIR_STATUS after a FATAL declaration (R420). -/
theorem Dev.get_fatal (d : Dev) (cause : Nat) :
    (d.fatal cause).get R.ERR_STATUS_FATAL = 1 ∧ (d.fatal cause).get R.PAIR_STATUS_STATE = prFailed ∧
      (d.get R.ERR_STATUS_FATAL = 0 → cause < 256 → (d.fatal cause).get R.ERR_STATUS_FATAL_CAUSE = cause) ∧
      (d.fatal cause).get R.ERR_STATUS_DEGRADED = d.get R.ERR_STATUS_DEGRADED := by
  obtain ⟨x, y, h⟩ := d.fatal_eq cause
  have hk : ((d.setPair x).declareFatal cause).Keeps (d.fatal cause) (· ∈ recOffs) [.recd, .err, .host] := by
    rw [h]
    exact (Dev.keeps_report _ _ _ _ _ _ _).withRecd _ (by simp)
  rw [hk.get _ _ _ (by decide), hk.get _ _ _ (by decide), hk.get _ _ _ (by decide), hk.get _ _ _ (by decide)]
  exact (d.setPair x).get_declareFatal cause

end Sys2Proof.Machine
end

section
/-! PROOFS. Watchdogs of the management cores, parity errors of the compose engines, and faults of the compose fabric
(R17, R417, R430, R431). -/

namespace Sys2Proof.Machine

/-! ### Management cores -/

/-- The fields of a core lie in MGMT_CORE_STATUS, STATE below RESTARTS. -/
theorem coreFields (core : Nat) :
    (coreStateF core).reg = R.MGMT_CORE_STATUS ∧ (coreRestartsF core).reg = R.MGMT_CORE_STATUS ∧
      (coreStateF core).ok = true ∧ (coreRestartsF core).ok = true ∧
      (coreStateF core).hi < (coreRestartsF core).lo ∧ (coreStateF core).hi - (coreStateF core).lo + 1 = 2 ∧
      (coreRestartsF core).hi - (coreRestartsF core).lo + 1 = 4 := by
  match core with
  | 0 => decide
  | 1 => decide
  | 2 => decide
  | _ + 3 => exact ⟨rfl, rfl, rfl, rfl, (by decide : 7 < 20), rfl, rfl⟩

theorem Dev.get_put_coreState (d : Dev) (core v : Nat) (hv : v < 4) :
    (d.put (coreStateF core) v).get (coreStateF core) = v ∧
      (d.put (coreStateF core) v).get (coreRestartsF core) = d.get (coreRestartsF core) := by
  obtain ⟨hs, hr, hso, hro, hlt, hw, -⟩ := coreFields core
  refine ⟨?_, Dev.get_put_field _ _ _ _ _ _ hso hro (hr.trans hs.symm) (.inr hlt)⟩
  rw [Dev.get_put _ _ _ _ _ hso, hw]
  exact Nat.mod_eq_of_lt hv

theorem Dev.Keeps.put_coreState {d0 d : Dev} {ws : Nat → Prop} {ps : List Part} (h : d0.Keeps d ws ps) (core v : Nat)
    (hw : ws (R.MGMT_CORE_STATUS.off 0 0)) : d0.Keeps (d.put (coreStateF core) v) ws ps :=
  h.put _ _ _ _ ((coreFields core).1 ▸ hw)

/-- The block once an expiry of a core's watchdog is counted and reported (R17). -/
def Dev.watchdogCounted (d : Dev) (core : Nat) : Dev :=
  ({ d with err := { d.err with
      restarts := tabSet d.err.restarts [] core ((d.now :: tabGetD d.err.restarts [] core).take 3) } }.bump
    (coreRestartsF core)).contained .watchdog core core

/-- The two ways of an expiry of a running core's watchdog. -/
theorem watchdog_of_running {core : Nat} {d : Dev} (hc : core < 4) (hr : d.get (coreStateF core) = coreRunning) :
    watchdog core d = if thirdRestart d core d.now then
        ((d.watchdogCounted core).put (coreStateF core) coreHalted).fatal fatalWatchdog
      else (d.watchdogCounted core).put (coreStateF core) coreRestarting := by
  unfold watchdog thirdRestart Dev.watchdogCounted
  rw [if_neg (by simp [hr, hc])]
  dsimp only
  rw [(Dev.keeps_contained _ _ _ _ _).now, Dev.bump_now]
  rcases tabGetD d.err.restarts [] core with _ | ⟨a, _ | ⟨b, r⟩⟩ <;> rfl

theorem Dev.Keeps.watchdogCounted {d0 d : Dev} {ws : Nat → Prop} {ps : List Part} (h : d0.Keeps d ws ps) (core : Nat)
    (hm : ws (R.MGMT_CORE_STATUS.off 0 0)) (hw : ∀ x ∈ containedOffs, ws x) (hr : Part.recd ∈ ps) (he : Part.err ∈ ps)
    (hh : Part.host ∈ ps) : d0.Keeps (d.watchdogCounted core) ws ps :=
  ((h.withErr _ he).bump _ _ _ _ ((coreFields core).2.1 ▸ hm)).contained _ _ _ _ hw hr he hh

/-- What a counted expiry shows: one more restart, one more CONTAINED error, and ERR_STATUS as before. -/
theorem Dev.get_watchdogCounted (d : Dev) (core : Nat) :
    (d.watchdogCounted core).get (coreRestartsF core) = min (d.get (coreRestartsF core) + 1) 15 ∧
      (d.watchdogCounted core).get R.ERR_CONTAINED_COUNT = min (d.get R.ERR_CONTAINED_COUNT + 1) (2 ^ 32 - 1) ∧
      (d.watchdogCounted core).get R.ERR_STATUS_FATAL = d.get R.ERR_STATUS_FATAL := by
  obtain ⟨-, hreg, -, hro, -, -, hw⟩ := coreFields core
  have hk := (Dev.Keeps.refl d (· ∈ R.MGMT_CORE_STATUS.off 0 0 :: containedOffs) [.recd, .err, .host]).watchdogCounted
    core (by simp) (fun _ hx => List.mem_cons_of_mem _ hx) (by simp) (by simp) (by simp)
  refine ⟨?_, ?_, hk.get _ _ _ (by decide)⟩
  · rw [Dev.watchdogCounted, (Dev.keeps_contained _ _ _ _ _).get _ _ _ (by rw [hreg]; decide),
      Dev.get_bump _ _ _ _ _ hro, hw]
    rfl
  · rw [Dev.watchdogCounted, Dev.get_contained_count, Dev.bump, Dev.get_put_ne _ _ _ _ _ _ _ _ (by rw [hreg]; decide)]
    rfl

theorem watchdogExpiry_of_running (t core : Nat) (s : State) (hc : core < 4)
    (hr : s.dev.get (coreStateF core) = coreRunning) :
    ∃ s', exec (.watchdogExpiry t core) s = .next s' ∧
      s'.dev.get (coreRestartsF core) = min (s.dev.get (coreRestartsF core) + 1) 15 ∧
      s'.dev.get R.ERR_CONTAINED_COUNT = min (s.dev.get R.ERR_CONTAINED_COUNT + 1) (2 ^ 32 - 1) ∧
      (if thirdRestart s.dev core (max s.dev.now t) then
        s'.dev.get (coreStateF core) = coreHalted ∧ s'.dev.get R.ERR_STATUS_FATAL = 1 ∧
          s'.dev.get R.PAIR_STATUS_STATE = prFailed ∧
          (s.dev.get R.ERR_STATUS_FATAL = 0 → s'.dev.get R.ERR_STATUS_FATAL_CAUSE = fatalWatchdog)
      else s'.dev.get (coreStateF core) = coreRestarting ∧
        s'.dev.get R.ERR_STATUS_FATAL = s.dev.get R.ERR_STATUS_FATAL) ∧
      s.Keeps s' t (R.MGMT_CORE_STATUS.off 0 0 :: R.ERR_CONTAINED.off 0 0 :: fatalOffs)
        [.err, .recd, .host, .pair] := by
  obtain ⟨hs, hreg, -⟩ := coreFields core
  have hx : exec (.watchdogExpiry t core) s = .next { s with dev := watchdog core (s.dev.clock t) } := rfl
  have hw : watchdog core (s.dev.clock t) = if thirdRestart s.dev core (max s.dev.now t) then _ else _ :=
    watchdog_of_running hc hr
  obtain ⟨hn, hcount, hfatal⟩ := (s.dev.clock t).get_watchdogCounted core
  have hk := (Dev.Keeps.refl (s.dev.clock t) (· ∈ R.MGMT_CORE_STATUS.off 0 0 :: R.ERR_CONTAINED.off 0 0 :: fatalOffs)
    [.err, .recd, .host, .pair]).watchdogCounted core (by simp)
    (fun _ hx => List.mem_cons_of_mem _ (containedOffs_subset hx)) (by simp) (by simp) (by simp)
  rw [hx, hw]
  generalize (s.dev.clock t).watchdogCounted core = e at hn hcount hfatal hk
  have hput : ∀ v, ∀ f : FldDesc, f.reg.off 0 0 ≠ R.MGMT_CORE_STATUS.off 0 0 →
      (e.put (coreStateF core) v).get f = e.get f := fun v f hf => Dev.get_put_ne _ _ _ _ _ _ _ _ (by rwa [hs])
  cases thirdRestart s.dev core (max s.dev.now t) with
  | true =>
    obtain ⟨hstate, hrest⟩ := e.get_put_coreState core coreHalted (by decide)
    obtain ⟨hf, hp, hcause, -⟩ := (e.put (coreStateF core) coreHalted).get_fatal fatalWatchdog
    have hkf := (e.put (coreStateF core) coreHalted).keeps_fatal fatalWatchdog
    refine ⟨_, rfl, ?_, ?_, ⟨?_, hf, hp, fun h0 => hcause ?_ (by decide)⟩, rfl, .inr rfl, ?_⟩
    · exact (hkf.get _ _ _ (by rw [hreg]; decide)).trans (hrest.trans hn)
    · exact (hkf.get _ _ _ (by decide)).trans ((hput _ _ (by decide)).trans hcount)
    · exact (hkf.get _ _ _ (by rw [hs]; decide)).trans hstate
    · exact ((hput _ _ (by decide)).trans hfatal).trans h0
    · exact (hk.put_coreState _ _ (by simp)).fatal _ (fun _ hx => by simp [hx]) (by simp) (by simp) (by simp) (by simp)
  | false =>
    obtain ⟨hstate, hrest⟩ := e.get_put_coreState core coreRestarting (by decide)
    exact ⟨_, rfl, hrest.trans hn, (hput _ _ (by decide)).trans hcount,
      ⟨hstate, (hput _ _ (by decide)).trans hfatal⟩, rfl, .inr rfl, hk.put_coreState _ _ (by simp)⟩

theorem mgmtCoreRestartDone_of_restarting (t core : Nat) (s : State) (hc : core < 4)
    (hr : s.dev.get (coreStateF core) = coreRestarting) :
    ∃ s', exec (.mgmtCoreRestartDone t core) s = .next s' ∧ s'.dev.get (coreStateF core) = coreRunning ∧
      s'.dev.get (coreRestartsF core) = s.dev.get (coreRestartsF core) ∧
      s.Keeps s' t [R.MGMT_CORE_STATUS.off 0 0] [] := by
  have hx : exec (.mgmtCoreRestartDone t core) s = .next { s with dev := coreRestarted core (s.dev.clock t) } := rfl
  have he : coreRestarted core (s.dev.clock t) = (s.dev.clock t).put (coreStateF core) coreRunning := by
    unfold coreRestarted
    exact if_neg (by simp [hr, hc])
  obtain ⟨hstate, hrest⟩ := (s.dev.clock t).get_put_coreState core coreRunning (by decide)
  rw [hx, he]
  exact ⟨_, rfl, hstate, hrest, rfl, .inr rfl, (Dev.Keeps.refl _ _ _).put_coreState _ _ (by simp)⟩

/-! ### Compose clusters -/

theorem Dev.Keeps.groupRegs {d0 d : Dev} {ws : Nat → Prop} {ps : List Part} (h : d0.Keeps d ws ps) (g : Nat)
    (hw : ∀ x ∈ groupOffs g, ws x) : d0.Keeps (d.groupRegs g) ws ps := by
  have h1 : ws (R.GRP_DG.off g 0) := hw _ (by simp [groupOffs])
  have h2 : ws (R.GRP_DA.off g 0) := hw _ (by simp [groupOffs])
  have h3 : ws (R.GRP_CAPACITY.off g 0) := hw _ (by simp [groupOffs])
  have h4 : ws (R.GRP_FETCH.off g 0) := hw _ (by simp [groupOffs])
  exact (((h.setReg _ _ _ _ h1).setReg _ _ _ _ h2).setReg _ _ _ _ h3).setReg _ _ _ _ h4

theorem Dev.Keeps.foldl_groupRegs {d0 d : Dev} {ws : Nat → Prop} {ps : List Part} (gs : List Nat) (h : d0.Keeps d ws ps)
    (hw : ∀ g ∈ gs, ∀ x ∈ groupOffs g, ws x) : d0.Keeps (gs.foldl (fun d g => d.groupRegs g) d) ws ps := by
  induction gs generalizing d with
  | nil => exact h
  | cons g gs ih =>
    exact ih (h.groupRegs g (hw g (List.mem_cons_self ..))) fun g' hg => hw g' (List.mem_cons_of_mem _ hg)

/-- The clusters of a group depend on the image and on the clusters that are out of service. -/
theorem Dev.capacity_congr {d e : Dev} (hb : e.boot = d.boot) (hl : e.lay = d.lay) (g : Nat) :
    e.capacity g = d.capacity g := by
  unfold Dev.capacity Dev.groupClusters Dev.binding
  rw [hb, hl]

theorem Dev.groupHeads_congr {d e : Dev} (hb : e.boot = d.boot) (g : Nat) : e.groupHeads g = d.groupHeads g := by
  unfold Dev.groupHeads Dev.headGroup Dev.enabledHeads Dev.headEntry
  rw [hb]

theorem Dev.capacity_le (d : Dev) (g : Nat) : d.capacity g ≤ 18000000000 := by
  have hl : (d.groupClusters g).length ≤ 6 := by
    unfold Dev.groupClusters
    split
    · simp
    · exact (List.length_filter_le _ _).trans (by simp)
  unfold Dev.capacity
  omega

theorem Dev.reg_groupRegs (d : Dev) (g : Nat) : (d.groupRegs g).reg R.GRP_CAPACITY g = d.capacity g / 1000 := by
  have hc := d.capacity_le g
  unfold Dev.groupRegs
  dsimp only
  rw [Dev.reg_setReg_ne _ _ _ _ _ _ _ _ (by simp only [RegDesc.off, R.GRP_CAPACITY, R.GRP_FETCH]; omega),
    Dev.reg_setReg]
  exact Nat.mod_eq_of_lt (by omega)

theorem capacity_notMem_groupOffs {g g' : Nat} (h : g ≠ g') : R.GRP_CAPACITY.off g 0 ∉ groupOffs g' := by
  simp only [groupOffs, RegDesc.off, R.GRP_CAPACITY, R.GRP_DG, R.GRP_DA, R.GRP_FETCH, List.mem_cons, List.not_mem_nil,
    or_false]
  omega

theorem capacity_notMem_fatalOffs (g : Nat) : R.GRP_CAPACITY.off g 0 ∉ fatalOffs := by
  simp only [fatalOffs, recOffs, RegDesc.off, R.GRP_CAPACITY, R.ERR_STATUS, R.PAIR_STATUS, R.REC_SEQ, R.REC_STATUS,
    List.mem_cons, List.not_mem_nil, or_false]
  omega

theorem Dev.reg_foldl_groupRegs {gs : List Nat} {g : Nat} (hg : g ∈ gs) (d : Dev) :
    (gs.foldl (fun d g => d.groupRegs g) d).reg R.GRP_CAPACITY g = d.capacity g / 1000 := by
  induction gs generalizing d with
  | nil => cases hg
  | cons g' gs ih =>
    have hk := (Dev.Keeps.refl d (· ∈ groupOffs g') []).groupRegs g' fun _ hx => hx
    by_cases hm : g ∈ gs
    · rw [List.foldl_cons, ih hm, Dev.capacity_congr (hk.boot.resolve_left (by simp)) (hk.lay.resolve_left (by simp))]
    · obtain rfl : g = g' := (List.mem_cons.mp hg).resolve_right hm
      have hr := (Dev.Keeps.refl (d.groupRegs g) (∃ g' ∈ gs, · ∈ groupOffs g') []).foldl_groupRegs gs
        fun g' hg' x hx => ⟨g', hg', hx⟩
      rw [List.foldl_cons, hr.reg _ _ _ (by
        rintro ⟨g', hg', hx⟩
        exact capacity_notMem_groupOffs (ne_of_mem_of_not_mem hg' hm).symm hx), d.reg_groupRegs]

/-- A cluster of a group that leaves service takes 3.0 G layer-pixels/s of its capacity (R417). -/
theorem Dev.capacity_of_clusterOut {d e : Dev} {k : Nat} {b : BindingEntry} (hk : k < 6) (hb : e.boot = d.boot)
    (hl : e.lay.clustersOut = k :: d.lay.clustersOut) (ho : k ∉ d.lay.clustersOut) (hbind : d.binding b.group = some b)
    (hbit : bit b.clusters k = true) : e.capacity b.group + 3000000000 = d.capacity b.group := by
  have he : e.binding b.group = some b := by
    rw [← hbind, Dev.binding, Dev.binding, hb]
  have hmem : k ∈ d.groupClusters b.group := by
    simp [Dev.groupClusters, hbind, hk, hbit, ho]
  have hnodup : (d.groupClusters b.group).Nodup := by
    rw [Dev.groupClusters, hbind]
    exact List.nodup_range.filter _
  have hgroup : e.groupClusters b.group = (d.groupClusters b.group).erase k := by
    rw [hnodup.erase_eq_filter, Dev.groupClusters, he, Dev.groupClusters, hbind, hl, List.filter_filter]
    exact List.filter_congr fun x _ => by
      simp only [List.contains_cons, Bool.not_or, bne, Bool.and_left_comm]
  have hlen := List.length_erase_of_mem hmem
  have hpos := List.length_pos_of_mem hmem
  rw [Dev.capacity, Dev.capacity, hgroup, hlen]
  omega

/-- The groups bound to a cluster. -/
def Dev.clusterGroups (d : Dev) (k : Nat) : List Nat := (d.img.bindings.filter fun b => bit b.clusters k).map (·.group)

/-- The block once a cluster is out of service, reported, and shown in its groups' registers (R417). -/
def Dev.clusterLost (d : Dev) (k : Nat) : Dev :=
  (d.clusterGroups k).foldl (fun d g => d.groupRegs g) ({ d with lay := { d.lay with
    clustersOut := k :: d.lay.clustersOut, reshed := (d.clusterGroups k ++ d.lay.reshed).eraseDups } }.degraded
      .clusterFailed (0x4000 + k) k)

theorem engineParity_of_inService {d : Dev} {k : Nat} (hk : k < 6) (ho : k ∉ d.lay.clustersOut) :
    engineParity k d = if (d.clusterGroups k).any fun g =>
        !((d.clusterLost k).groupHeads g).isEmpty && (d.clusterLost k).capacity g == 0 then
      (d.clusterLost k).fatal fatalNoCluster else d.clusterLost k := by
  unfold engineParity
  rw [if_neg (by simp [hk, ho])]
  rfl

theorem clusterGroups_subset (d : Dev) (k : Nat) {g x : Nat} (hg : g ∈ d.clusterGroups k) (hx : x ∈ groupOffs g) :
    x ∈ d.img.bindings.flatMap fun b => groupOffs b.group := by
  obtain ⟨b, hb, rfl⟩ := List.mem_map.mp hg
  exact List.mem_flatMap.mpr ⟨b, (List.mem_filter.mp hb).1, hx⟩

theorem errDegraded_lt_of_groupOffs {g x : Nat} (hx : x ∈ groupOffs g) : R.ERR_DEGRADED.base < x := by
  simp only [groupOffs, RegDesc.off, R.GRP_CAPACITY, R.GRP_DG, R.GRP_DA, R.GRP_FETCH, R.ERR_DEGRADED, List.mem_cons,
    List.not_mem_nil, or_false] at hx ⊢
  omega

/-- A parity error's registers and parts before a FATAL one is declared. -/
theorem Dev.Keeps.clusterLost {d0 d : Dev} {ws : Nat → Prop} {ps : List Part} (h : d0.Keeps d ws ps) (k : Nat)
    (hd : ∀ x ∈ degradedOffs, ws x) (hg : ∀ x ∈ d.img.bindings.flatMap fun b => groupOffs b.group, ws x)
    (hl : Part.lay ∈ ps) (hr : Part.recd ∈ ps) (he : Part.err ∈ ps) (hh : Part.host ∈ ps) :
    d0.Keeps (d.clusterLost k) ws ps :=
  ((h.withLay _ hl).degraded _ _ _ _ hd hr he hh).foldl_groupRegs _ fun _ hm _ hx =>
    hg _ (clusterGroups_subset d k hm hx)

/-- What a cluster that leaves service shows: the DEGRADED error, and the clusters that are out. -/
theorem Dev.clusterLost_sets (d : Dev) (k : Nat) :
    (d.clusterLost k).lay.clustersOut = k :: d.lay.clustersOut ∧ (d.clusterLost k).boot = d.boot ∧
      (d.clusterLost k).get R.ERR_STATUS_DEGRADED = 1 ∧
      (d.clusterLost k).get R.ERR_DEGRADED_COUNT = min (d.get R.ERR_DEGRADED_COUNT + 1) (2 ^ 32 - 1) ∧
      ∀ g ∈ d.clusterGroups k, (d.clusterLost k).reg R.GRP_CAPACITY g = (d.clusterLost k).capacity g / 1000 := by
  let d1 : Dev := { d with lay := { d.lay with
    clustersOut := k :: d.lay.clustersOut, reshed := (d.clusterGroups k ++ d.lay.reshed).eraseDups } }
  obtain ⟨hd, hc⟩ := d1.get_degraded .clusterFailed (0x4000 + k) k 0
  have h1 := (Dev.Keeps.refl d1 (· ∈ degradedOffs) [.recd, .err, .host]).degraded .clusterFailed (0x4000 + k) k 0
    (fun _ hx => hx) (by simp) (by simp) (by simp)
  have h2 : (d1.degraded .clusterFailed (0x4000 + k) k).Keeps (d.clusterLost k) (R.ERR_DEGRADED.base < ·) [] :=
    (Dev.Keeps.refl _ _ _).foldl_groupRegs _ fun _ _ _ hx => errDegraded_lt_of_groupOffs hx
  have hb2 := h2.boot.resolve_left (by simp)
  have hl2 := h2.lay.resolve_left (by simp)
  refine ⟨?_, hb2.trans (h1.boot.resolve_left (by simp)), ?_, ?_, fun g hg => ?_⟩
  · rw [hl2, h1.lay.resolve_left (by simp)]
  · rw [h2.get _ _ _ (by decide), hd]
  · rw [h2.get _ _ _ (by decide), hc]
    rfl
  · rw [Dev.capacity_congr hb2 hl2]
    exact Dev.reg_foldl_groupRegs hg _

theorem composeEngineParity_of_inService (t k : Nat) (s : State) (hk : k < 6) (ho : k ∉ s.dev.lay.clustersOut) :
    ∃ s', exec (.composeEngineParity t k) s = .next s' ∧ s'.dev.lay.clustersOut = k :: s.dev.lay.clustersOut ∧
      s'.dev.get R.ERR_STATUS_DEGRADED = 1 ∧
      s'.dev.get R.ERR_DEGRADED_COUNT = min (s.dev.get R.ERR_DEGRADED_COUNT + 1) (2 ^ 32 - 1) ∧
      (∀ b ∈ s.dev.img.bindings, b.group < 6 → s.dev.binding b.group = some b → bit b.clusters k = true →
        s'.dev.capacity b.group + 3000000000 = s.dev.capacity b.group ∧
        s'.dev.reg R.GRP_CAPACITY b.group = s'.dev.capacity b.group / 1000 ∧
        ((s.dev.groupHeads b.group).isEmpty = false → s'.dev.capacity b.group = 0 →
          s'.dev.get R.ERR_STATUS_FATAL = 1)) ∧
      s.Keeps s' t (R.ERR_DEGRADED.off 0 0 :: fatalOffs ++ s.dev.img.bindings.flatMap fun b => groupOffs b.group)
        [.lay, .err, .recd, .host, .pair] := by
  have hx : exec (.composeEngineParity t k) s = .next { s with dev := engineParity k (s.dev.clock t) } := rfl
  obtain ⟨hout, hboot, hdeg, hcount, hreg⟩ := (s.dev.clock t).clusterLost_sets k
  have hkeep := (Dev.Keeps.refl (s.dev.clock t)
    (· ∈ R.ERR_DEGRADED.off 0 0 :: fatalOffs ++ s.dev.img.bindings.flatMap fun b => groupOffs b.group)
    [.lay, .err, .recd, .host, .pair]).clusterLost k
    (by simp only [degradedOffs, fatalOffs, List.mem_cons, List.mem_append]; tauto)
    (fun x hx => List.mem_append_right _ hx) (by simp) (by simp) (by simp) (by simp)
  have hgroup : ∀ b ∈ s.dev.img.bindings, bit b.clusters k = true → b.group ∈ (s.dev.clock t).clusterGroups k :=
    fun b hb hbit => List.mem_map.mpr ⟨b, List.mem_filter.mpr ⟨hb, hbit⟩, rfl⟩
  rw [hx, engineParity_of_inService (d := s.dev.clock t) hk ho]
  generalize (s.dev.clock t).clusterLost k = e at hout hboot hdeg hcount hreg hkeep
  have hcap : ∀ b : BindingEntry, s.dev.binding b.group = some b → bit b.clusters k = true →
      e.capacity b.group + 3000000000 = s.dev.capacity b.group := fun b hb hbit =>
    Dev.capacity_of_clusterOut (d := s.dev) hk hboot hout ho hb hbit
  split
  · next hany =>
    obtain ⟨hf, -, -, hd⟩ := e.get_fatal fatalNoCluster
    have hkf := e.keeps_fatal fatalNoCluster
    have hl := hkf.lay.resolve_left (by simp)
    have hc := Dev.capacity_congr (hkf.boot.resolve_left (by simp)) hl
    refine ⟨_, rfl, ?_, hd.trans hdeg, (hkf.get _ _ _ (by decide)).trans hcount,
      fun b hb _ hbind hbit => ⟨?_, ?_, fun _ _ => hf⟩, rfl, .inr rfl, ?_⟩
    · rw [hl, hout]; rfl
    · rw [hc]; exact hcap b hbind hbit
    · rw [hc, hkf.reg _ _ _ (capacity_notMem_fatalOffs _)]
      exact hreg _ (hgroup b hb hbit)
    · exact hkeep.fatal _ (fun x hx => by simp [hx]) (by simp) (by simp) (by simp) (by simp)
  · next hany =>
    refine ⟨_, rfl, hout, hdeg, hcount, fun b hb _ hbind hbit => ⟨hcap b hbind hbit, hreg _ (hgroup b hb hbit),
      fun hh hz => absurd ?_ hany⟩, rfl, .inr rfl, hkeep⟩
    refine List.any_eq_true.mpr ⟨b.group, hgroup b hb hbit, ?_⟩
    rw [Dev.groupHeads_congr (d := s.dev) hboot, hh, beq_iff_eq.mpr hz]
    rfl

/-! ### Fabric faults -/

/-- What a fabric restart makes of a commit (R431). -/
def Commit.requeued (c : Commit) : Commit :=
  if c.st == .queued || !c.done.isEmpty then c
  else { c with st := .queued, verdict := none, snap := .init, target := none }

theorem Commit.requeued_names (c : Commit) :
    c.requeued.q = c.q ∧ c.requeued.seq = c.seq ∧ c.requeued.canvas = c.canvas := by
  unfold Commit.requeued
  split <;> exact ⟨rfl, rfl, rfl⟩

theorem Commit.requeued_st (c : Commit) (h : c.requeued.done = []) : c.requeued.st = .queued := by
  unfold Commit.requeued at h ⊢
  split
  · next hc => simp_all
  · rfl

theorem Dev.cmd?_of_cmds {d e : Dev} (h : ∀ q, (e.queue q).cmds = (d.queue q).cmds) (q seq : Nat) :
    e.cmd? q seq = d.cmd? q seq := by
  rw [Dev.cmd?, h, ← Dev.cmd?]

/-- The commits that stand depend on those listed and on the commands of the queues. -/
theorem Dev.commits_congr {d e : Dev} (h : ∀ q, (e.queue q).cmds = (d.queue q).cmds) (hl : e.lay = d.lay) :
    e.commits = d.commits := by
  unfold Dev.commits
  rw [hl]
  exact List.filter_congr fun c _ => by rw [Dev.commitLive, Dev.commitLive, Dev.cmd?_of_cmds h]

/-- Commits changed but for their queue, SEQ and canvas all stand. -/
theorem Dev.commits_setCommits_map (d : Dev) (f : Commit → Commit)
    (hf : ∀ c, (f c).q = c.q ∧ (f c).seq = c.seq ∧ (f c).canvas = c.canvas) :
    (d.setCommits (d.commits.map f)).commits = d.commits.map f := by
  unfold Dev.commits
  refine List.filter_eq_self.mpr fun c hc => ?_
  obtain ⟨c', hc', rfl⟩ := List.mem_map.mp hc
  obtain ⟨hq, hs, hv⟩ := hf c'
  have hlive := (List.mem_filter.mp hc').2
  rw [Dev.commitLive] at hlive ⊢
  rw [hq, hs, hv]
  exact hlive

theorem Dev.requeueCommits_eq (d : Dev) : d.requeueCommits = d.setCommits (d.commits.map Commit.requeued) := rfl

/-- Whether a fabric fault at the present instant is the second within 10 s (R430). -/
def Dev.fabricAgain (d : Dev) : Bool :=
  match d.err.fabricAt with
  | some a => decide (d.now ≤ a + 10 * qS)
  | none => false

theorem Dev.fabricAgain_of_first {d : Dev} (h : ∀ a, d.err.fabricAt = some a → a + 10 * qS < d.now) :
    d.fabricAgain = false := by
  unfold Dev.fabricAgain
  split
  · next a ha => exact decide_eq_false (by have := h a ha; omega)
  · rfl

/-- The block once the fabric restart that begins at its present instant is under way. -/
def Dev.fabricStarts (d : Dev) : Dev :=
  { d.setCommits (d.commits.map Commit.requeued) with
    err := { d.err with fabricRun := true, fabricAt := some d.now } }

/-- A fabric fault with a readable journal, the first within 10 s and outside a switch, starts a restart. -/
theorem fabricFault_of_first {d : Dev} (h : d.fabricAgain = false) (hs : d.boot.switch = none) :
    fabricFault true d = (d.contained .fabricFault composeAgent).fabricStarts := by
  have hb : (d.contained .fabricFault composeAgent).boot.switch = none :=
    (congrArg _ ((d.keeps_contained _ _ _ _).boot.resolve_left (by simp))).trans hs
  have hf : fabricFault true d = if (!true || d.fabricAgain) = true then _ else _ := rfl
  rw [hf, h, if_neg (by decide), Dev.requeueCommits_eq, Dev.commits_setCommits_map _ _ Commit.requeued_names]
  dsimp only
  rw [show ∀ (e : Dev) cs, (e.setCommits cs).boot = e.boot from fun _ _ => rfl, hb]
  rfl

theorem fabricFault_of_unreadable (d : Dev) :
    fabricFault false d = (d.contained .fabricFault composeAgent).fatal fatalFabric := rfl

theorem Dev.fabricStarts_sets (d : Dev) :
    d.fabricStarts.commits = d.commits.map Commit.requeued ∧ d.fabricStarts.err.fabricRun = true ∧
      d.fabricStarts.err.fabricAt = some d.now :=
  ⟨d.commits_setCommits_map _ Commit.requeued_names, rfl, rfl⟩

theorem Dev.Keeps.fabricStarts {d0 d : Dev} {ws : Nat → Prop} {ps : List Part} (h : d0.Keeps d ws ps)
    (hl : Part.lay ∈ ps) (he : Part.err ∈ ps) : d0.Keeps d.fabricStarts ws ps :=
  (h.setCommits _ hl).withErr _ he

theorem commits_contained (d : Dev) (ev : Ev) (agent p0 p1 : Nat) : (d.contained ev agent p0 p1).commits = d.commits :=
  Dev.commits_congr (d.cmds_contained ev agent p0 p1) ((d.keeps_contained ev agent p0 p1).lay.resolve_left (by simp))

theorem fabricFault_of_readable (t : Nat) (s : State)
    (hf : ∀ a, s.dev.err.fabricAt = some a → a + 10 * qS < max s.dev.now t) (hs : s.dev.boot.switch = none) :
    ∃ s', exec (.fabricFault t true) s = .next s' ∧ s'.dev.err.fabricRun = true ∧
      s'.dev.err.fabricAt = some (max s.dev.now t) ∧
      s'.dev.get R.ERR_CONTAINED_COUNT = min (s.dev.get R.ERR_CONTAINED_COUNT + 1) (2 ^ 32 - 1) ∧
      s'.dev.commits.map (fun c => (c.q, c.seq)) = s.dev.commits.map (fun c => (c.q, c.seq)) ∧
      (∀ c ∈ s'.dev.commits, c.done = [] → c.st = .queued) ∧
      s.Keeps s' t containedOffs [.lay, .err, .recd, .host] := by
  have hx : exec (.fabricFault t true) s = .next { s with dev := fabricFault true (s.dev.clock t) } := rfl
  have hk := ((s.dev.clock t).keeps_contained .fabricFault composeAgent 0 0).mono (ps' := [.lay, .err, .recd, .host])
    (fun _ hx => hx) (by simp)
  have hn := hk.now
  have hcount := (s.dev.clock t).get_contained_count .fabricFault composeAgent 0 0
  have hcs : _ = s.dev.commits := commits_contained (s.dev.clock t) .fabricFault composeAgent 0 0
  rw [hx, fabricFault_of_first (d := s.dev.clock t) (Dev.fabricAgain_of_first hf) hs]
  generalize (s.dev.clock t).contained .fabricFault composeAgent = e at hk hn hcount hcs
  obtain ⟨hc, hr, ha⟩ := e.fabricStarts_sets
  refine ⟨_, rfl, hr, ha.trans (congrArg some hn), ?_, ?_, fun c hm => ?_, rfl, .inr rfl,
    hk.fabricStarts (by simp) (by simp)⟩
  · exact hcount
  · rw [hc, hcs, List.map_map]
    exact List.map_congr_left fun c _ => Prod.ext (c.requeued_names).1 (c.requeued_names).2.1
  · rw [hc] at hm
    obtain ⟨c', -, rfl⟩ := List.mem_map.mp hm
    exact c'.requeued_st

theorem fabricFault_of_noJournal (t : Nat) (s : State) (h0 : s.dev.get R.ERR_STATUS_FATAL = 0) :
    ∃ s', exec (.fabricFault t false) s = .next s' ∧ s'.dev.get R.ERR_STATUS_FATAL = 1 ∧
      s'.dev.get R.ERR_STATUS_FATAL_CAUSE = fatalFabric ∧ s'.dev.get R.PAIR_STATUS_STATE = prFailed ∧
      s'.dev.commits = s.dev.commits ∧
      s.Keeps s' t (R.ERR_CONTAINED.off 0 0 :: fatalOffs) [.err, .recd, .host, .pair] := by
  have hx : exec (.fabricFault t false) s = .next { s with dev := fabricFault false (s.dev.clock t) } := rfl
  have hcs : _ = s.dev.commits := commits_contained (s.dev.clock t) .fabricFault composeAgent 0 0
  have hk := ((s.dev.clock t).keeps_contained .fabricFault composeAgent 0 0).mono
    (ps' := [.err, .recd, .host, .pair]) (fun _ => containedOffs_subset) (by simp)
  have hz : ((s.dev.clock t).contained .fabricFault composeAgent).get R.ERR_STATUS_FATAL = 0 :=
    (((s.dev.clock t).keeps_contained _ _ _ _).get _ _ _ (by decide)).trans h0
  rw [hx, fabricFault_of_unreadable]
  generalize (s.dev.clock t).contained .fabricFault composeAgent = e at hcs hk hz
  obtain ⟨hf, hp, hc, -⟩ := e.get_fatal fatalFabric
  have hl := (e.keeps_fatal fatalFabric).lay.resolve_left (by simp)
  exact ⟨_, rfl, hf, hc hz (by decide), hp, (Dev.commits_congr (e.cmds_fatal fatalFabric) hl).trans hcs, rfl, .inr rfl,
    hk.fatal _ (fun _ hx => List.mem_cons_of_mem _ hx) (by simp) (by simp) (by simp) (by simp)⟩

/-- Settles O55: each clause is the equation of its command, and what the error reports in it set and leave alone. -/
theorem faultsOfParts : Obligations.FaultsOfParts :=
  ⟨⟨domainClockLost_shows, domainClockLost_of_quiet⟩, ⟨domainClockPresent_of_plain, domainClockPresent_of_ocxo⟩,
    ⟨watchdogExpiry_of_running, mgmtCoreRestartDone_of_restarting⟩, composeEngineParity_of_inService,
    fabricFault_of_readable, fabricFault_of_noJournal⟩

end Sys2Proof.Machine
end

section
/-! PROOFS. A step, and what every command answers (log 1). -/

namespace Sys2Proof.Machine

theorem step_of_front {c : Instr} {rest : List Instr} {s : State} (h : s.pending = c :: rest) :
    step s = exec c { s with pending := rest } := by
  unfold step
  rw [h]

theorem step_of_empty {s : State} (h : s.pending = []) : step s = .next s := by
  unfold step
  rw [h]

/-- Every command is an effect on the block and its DRAM: each arm of `exec` is `onDev` or `onAll` of one. -/
theorem exec_next (c : Instr) (s : State) : ∃ d m, exec c s = .next { s with dev := d, mem := m } := by
  cases c <;> exact ⟨_, _, rfl⟩

/-- Settles O1: the two equations of `step`. -/
theorem stepRunsFront : Obligations.StepRunsFront :=
  ⟨fun _ _ _ => step_of_front, fun _ => step_of_empty⟩

/-- Settles O2: a command answers a next state in which only the block and its DRAM differ. -/
theorem everyCommandCompletes : Obligations.EveryCommandCompletes := fun c s =>
  let ⟨_, _, h⟩ := exec_next c s
  ⟨_, h, rfl⟩

end Sys2Proof.Machine
end

section
/-! PROOFS. DRAM through the controller and the checkers: what a write that lands whole leaves in DRAM, and what an access
that the checker allows does beside (R371, R373, R388). -/

namespace Sys2Proof.Machine

/-! ### Bytes and poison of a write -/

theorem Mem.bytes_fillLine (m : Mem) (line : Nat) : (m.fillLine line).bytes = m.bytes := by
  unfold Mem.fillLine
  dsimp only
  split <;> rfl

theorem Mem.bytes_toTarget (m : Mem) (d : Dev) (line : Nat) : (m.toTarget d line).bytes = m.bytes := by
  unfold Mem.toTarget
  split <;> rfl

theorem Mem.byte_congr {m n : Mem} (h : n.bytes = m.bytes) (a : Nat) : n.byte a = m.byte a := by
  rw [Mem.byte, h, ← Mem.byte]

theorem Mem.poison_setBytes (m : Mem) (a : Nat) (bs : List Byte) :
    (m.setBytes a bs).poison = m.poison ∧ (m.setBytes a bs).ue = m.ue := by
  induction bs generalizing m a with
  | nil => exact ⟨rfl, rfl⟩
  | cons b r ih => exact ih _ _

/-- Filling a line moves the poison and the uncorrectable data of that line only. -/
theorem Mem.poison_fillLine_ne (m : Mem) {line l : Nat} (h : l ≠ line) :
    tabGet? (m.fillLine line).poison l = tabGet? m.poison l ∧ tabGet? (m.fillLine line).ue l = tabGet? m.ue l := by
  have hd : ∀ t : Tab Unit, tabGet? (tabDel t line) l = tabGet? t l := fun t => tabGet?_del_ne t line l h
  unfold Mem.fillLine
  dsimp only
  split
  · exact ⟨hd _, hd _⟩
  · refine ⟨hd _, ?_⟩
    dsimp only
    split
    · rw [tabGet?_put_ne _ _ _ _ h, hd]
    · exact hd _

theorem poisonLine_congr (d : Dev) {m n : Mem} {l : Nat} (hp : tabGet? n.poison l = tabGet? m.poison l)
    (hu : tabGet? n.ue l = tabGet? m.ue l) : poisonLine d n l = poisonLine d m l := by
  rw [poisonLine, hp, hu, ← poisonLine]

theorem Mem.toTarget_poison (m : Mem) (d : Dev) (line : Nat) :
    (m.toTarget d line).poison = m.poison ∧ (m.toTarget d line).ue = m.ue := by
  unfold Mem.toTarget
  split <;> exact ⟨rfl, rfl⟩

/-- A write to one line leaves the poison of every other as it was. -/
theorem poisonLine_writeLine_ne (d : Dev) (a : Nat) (bs : List Byte) (m : Mem) {line l : Nat} (h : l ≠ line) :
    poisonLine d (writeLine d a bs m line) l = poisonLine d m l := by
  have hs : ∀ (n : Mem) (x : Nat) (cs : List Byte),
      poisonLine d ((n.toTarget d line).setBytes x cs) l = poisonLine d n l := fun n x cs => by
    obtain ⟨h1, h2⟩ := (n.toTarget d line).poison_setBytes x cs
    obtain ⟨h3, h4⟩ := n.toTarget_poison d line
    exact poisonLine_congr d (by rw [h1, h3]) (by rw [h2, h4])
  unfold writeLine
  dsimp only
  split
  · rfl
  · split
    · obtain ⟨hp, hu⟩ := m.poison_fillLine_ne h
      rw [hs, poisonLine_congr d hp hu]
    · split
      · rfl
      · exact hs _ _ _

theorem Mem.wrote_setBytes (m : Mem) (a : Nat) (bs : List Byte) : m.Wrote (m.setBytes a bs) a bs := by
  intro x
  split
  · next h =>
    obtain ⟨k, rfl⟩ := Nat.exists_eq_add_of_le h.1
    have hk : k < bs.length := by omega
    rw [m.byte_setBytes_in a k bs hk, Nat.add_sub_cancel_left, List.getD_eq_getElem _ _ hk]
  · exact m.byte_setBytes_out a x bs (by omega)

/-! ### A write that lands whole -/

/-- The line takes its part of a write: its channel has not failed, and it is written whole or is not poisoned. -/
def LineLands (d : Dev) (m : Mem) (a n line : Nat) : Prop :=
  d.chFailed (chanOf line) = false ∧ ((a ≤ line * 64 ∧ line * 64 + 64 ≤ a + n) ∨ poisonLine d m line = false)

/-- The part of a write that lies in a line. -/
def linePart (a : Nat) (bs : List Byte) (line : Nat) : List Byte :=
  (bs.drop (max a (line * 64) - a)).take (min (a + bs.length) (line * 64 + 64) - max a (line * 64))

/-- A byte of a line after its part of a write is the write's own, and every other byte is as before. -/
theorem wrote_linePart {m n : Mem} {a : Nat} {bs : List Byte} {line : Nat} (hn : n.bytes = m.bytes) (x : Nat) :
    (n.setBytes (max a (line * 64)) (linePart a bs line)).byte x =
      if x / 64 = line ∧ a ≤ x ∧ x < a + bs.length then bs.getD (x - a) 0 else m.byte x := by
  have hlen : (linePart a bs line).length = min (a + bs.length) (line * 64 + 64) - max a (line * 64) := by
    simp only [linePart, List.length_take, List.length_drop]
    omega
  rw [n.wrote_setBytes, hlen, Mem.byte_congr hn]
  by_cases h : x / 64 = line ∧ a ≤ x ∧ x < a + bs.length
  · obtain ⟨h1, h2, h3⟩ := h
    have hx : max a (line * 64) ≤ x ∧
        x < max a (line * 64) + (min (a + bs.length) (line * 64 + 64) - max a (line * 64)) := by omega
    rw [if_pos hx, if_pos ⟨h1, h2, h3⟩, linePart, List.getD_eq_getElem?_getD, List.getD_eq_getElem?_getD,
      List.getElem?_take_of_lt (by omega), List.getElem?_drop]
    congr 2
    omega
  · rw [if_neg h, if_neg (by omega)]

theorem byte_writeLine {d : Dev} {m : Mem} {a : Nat} {bs : List Byte} {line : Nat}
    (h : LineLands d m a bs.length line) (x : Nat) :
    (writeLine d a bs m line).byte x =
      if x / 64 = line ∧ a ≤ x ∧ x < a + bs.length then bs.getD (x - a) 0 else m.byte x := by
  obtain ⟨hc, hp⟩ := h
  unfold writeLine
  dsimp only
  rw [if_neg (by simp [hc])]
  split
  · exact wrote_linePart ((Mem.bytes_toTarget _ _ _).trans (m.bytes_fillLine line)) x
  · next hw =>
    have hnp : poisonLine d m line = false := by
      rcases hp with hp | hp
      · exact absurd (by simp only [Bool.and_eq_true, decide_eq_true_eq]; omega) hw
      · exact hp
    rw [if_neg (by simp [hnp])]
    exact wrote_linePart (m.bytes_toTarget d line) x

/-- Bytes after a write to some lines, no line twice, each of which takes its part. -/
theorem byte_foldl_writeLine (d : Dev) (a : Nat) (bs : List Byte) (ls : List Nat) (m : Mem) (hn : ls.Nodup)
    (h : ∀ l ∈ ls, LineLands d m a bs.length l) (x : Nat) :
    (ls.foldl (writeLine d a bs) m).byte x =
      if x / 64 ∈ ls ∧ a ≤ x ∧ x < a + bs.length then bs.getD (x - a) 0 else m.byte x := by
  induction ls generalizing m with
  | nil => simp
  | cons l r ih =>
    obtain ⟨hl, hr⟩ := List.nodup_cons.mp hn
    have hrest : ∀ k ∈ r, LineLands d (writeLine d a bs m l) a bs.length k := fun k hk => by
      have hkl : k ≠ l := fun e => hl (e ▸ hk)
      rw [LineLands, poisonLine_writeLine_ne d a bs m hkl]
      exact h k (List.mem_cons_of_mem _ hk)
    rw [List.foldl_cons, ih _ hr hrest, byte_writeLine (h l List.mem_cons_self)]
    by_cases hx : a ≤ x ∧ x < a + bs.length
    · by_cases h1 : x / 64 = l <;> simp [hx, h1]
    · simp [hx]

theorem mem_linesOf {a n l : Nat} : l ∈ linesOf a n ↔ n ≠ 0 ∧ a / 64 ≤ l ∧ l ≤ (a + n - 1) / 64 := by
  unfold linesOf
  split
  · simp_all
  · simp only [List.mem_map, List.mem_range]
    refine ⟨fun ⟨k, hk, e⟩ => by omega, fun ⟨_, h1, h2⟩ => ⟨l - a / 64, by omega, by omega⟩⟩

theorem nodup_linesOf (a n : Nat) : (linesOf a n).Nodup := by
  unfold linesOf
  split
  · exact List.nodup_nil
  · exact List.nodup_range.map fun _ _ h => Nat.add_left_cancel h

theorem LineLands.of_whole {d : Dev} {m : Mem} {a n : Nat} (ha : ∀ l ∈ linesOf a n, d.chFailed (chanOf l) = false)
    (hw : droppedLines d m a n = []) : ∀ l ∈ linesOf a n, LineLands d m a n l := fun l hl => by
  refine ⟨ha l hl, ?_⟩
  by_contra hc
  obtain ⟨h1, h2⟩ := not_or.mp hc
  have hm : l ∈ droppedLines d m a n := by
    simp only [droppedLines, poisonedIn, List.mem_filter]
    refine ⟨⟨hl, by simpa using h2⟩, ?_⟩
    simp only [Bool.not_eq_true', Bool.and_eq_false_iff, decide_eq_false_iff_not]
    omega
  rw [hw] at hm
  exact List.not_mem_nil hm

/-- A write that nothing drops puts its bytes there, and changes no other byte. -/
theorem wrote_dramWrite {d : Dev} {m : Mem} {a : Nat} {bs : List Byte}
    (ha : ∀ l ∈ linesOf a bs.length, d.chFailed (chanOf l) = false) (hw : droppedLines d m a bs.length = []) :
    m.Wrote (dramWrite d m a bs) a bs := by
  intro x
  rw [dramWrite, byte_foldl_writeLine d a bs _ m (nodup_linesOf _ _) (LineLands.of_whole ha hw)]
  by_cases hx : a ≤ x ∧ x < a + bs.length
  · have hm : x / 64 ∈ linesOf a bs.length := mem_linesOf.mpr (by omega)
    simp [hx, hm]
  · simp [hx]

/-! ### Allowed accesses -/

/-- The bytes of an access of which none is denied are one run. -/
theorem allowedRuns_nil (i : Nat) (b : Byte) (r : List Byte) : allowedRuns i (b :: r) [] = [(i, b :: r)] := by
  induction r generalizing i b with
  | nil => rfl
  | cons c r ih =>
    rw [allowedRuns, ih (i + 1) c]
    simp

/-- A write that the checker allows leaves the block as it is, and writes DRAM. -/
theorem checkedWrite_of_allowed {d : Dev} {k pa : Nat} {bs : List Byte} (m : Mem) (master : Nat)
    (h : d.denials k true pa bs.length = []) :
    checkedWrite d m k master pa bs = (d, dramWrite d m pa bs, []) := by
  unfold checkedWrite
  rw [h]
  cases bs with
  | nil => rfl
  | cons b r => simp only [List.map_nil, allowedRuns_nil]; rfl

/-- A read that the checker allows, of bytes that are not poisoned, leaves the block as it is. -/
theorem checkedRead_of_readable {d : Dev} {m : Mem} {k pa n : Nat} (h : Readable d m k pa n) (master : Nat) :
    checkedRead d m k master pa n = (d, m.getBytes pa n, [], []) := by
  unfold checkedRead
  rw [h.allowed, h.clean]
  simp [Mem.getBytes, Dev.reportDenials, countPoison]

theorem Writable.clock {d : Dev} {m : Mem} {k pa n : Nat} (h : Writable d m k pa n) (t : Nat) :
    Writable (d.clock t) m k pa n := ⟨h.isOpen, h.allowed, h.alive, h.whole⟩

theorem Readable.clock {d : Dev} {m : Mem} {k pa n : Nat} (h : Readable d m k pa n) (t : Nat) :
    Readable (d.clock t) m k pa n := ⟨h.isOpen, h.allowed, h.clean⟩

end Sys2Proof.Machine
end

section
/-! PROOFS. Configuration requests and the BAR2 window (R21 to R23, R388, R389). -/

namespace Sys2Proof.Machine

/-! ### Configuration requests -/

theorem exec_pcieConfigRequest (t : Nat) (r : CfgRequest) (s : State) :
    exec (.pcieConfigRequest t r) s = s.onDev t (cfgRequest r) := rfl

/-- What the host interface is after a configuration request (R21, R22). -/
def HostSt.configured (h : HostSt) (r : CfgRequest) : HostSt :=
  { h with
    resp := match r with
      | .read n => .data (leBytes 4 (Config.cfgSpace n).toNat)
      | _ => .ok
    busMaster := match r with | .busMaster on => on | _ => h.busMaster
    bar2Log2 := match r with
      | .bar2Size n => if 30 ≤ n ∧ n ≤ 36 then n else h.bar2Log2
      | _ => h.bar2Log2
    d3hot := match r with | .power p => p | _ => h.d3hot }

theorem cfgRequest_of_alive {d : Dev} (r : CfgRequest) (ha : d.hostAlive = true) :
    cfgRequest r d = { d with host := d.host.configured r } := by
  unfold cfgRequest
  rw [if_neg (by simp [ha])]
  cases r with
  | bar2Size n =>
    by_cases h : 30 ≤ n ∧ n ≤ 36 <;> simp [HostSt.configured, Dev.respond, h]
  | _ => rfl

theorem pcieConfigRequest_of_alive (t : Nat) (r : CfgRequest) (s : State) (ha : s.dev.hostAlive = true) :
    ∃ s', exec (.pcieConfigRequest t r) s = .next s' ∧
      s'.dev.host.resp = (match r with
        | .read n => .data (leBytes 4 (Config.cfgSpace n).toNat)
        | _ => .ok) ∧
      s'.dev.host.busMaster = (match r with | .busMaster on => on | _ => s.dev.host.busMaster) ∧
      s'.dev.host.bar2Log2 = (match r with
        | .bar2Size n => if 30 ≤ n ∧ n ≤ 36 then n else s.dev.host.bar2Log2
        | _ => s.dev.host.bar2Log2) ∧
      s'.dev.host.d3hot = (match r with | .power h => h | _ => s.dev.host.d3hot) ∧
      s'.dev.host.queues = s.dev.host.queues ∧ s'.dev.host.posted = s.dev.host.posted ∧
      s.Keeps s' t [] [.host] := by
  rw [exec_pcieConfigRequest, State.onDev, cfgRequest_of_alive (d := s.dev.clock t) r ha]
  refine ⟨_, rfl, rfl, rfl, rfl, rfl, rfl, rfl, rfl, .inr rfl, ?_⟩
  exact (Dev.Keeps.refl _ _ _).withHost _ (by simp)

/-! ### Reads and writes through BAR2 -/

theorem exec_bar2Read (t off len : Nat) (s : State) : exec (.bar2Read t off len) s = s.onAll t (bar2Read off len) := rfl

theorem exec_bar2Write (t off : Nat) (bs : List Byte) (s : State) :
    exec (.bar2Write t off bs) s = s.onAll t (bar2Write off bs) := rfl

/-- A read inside the window, its checker open. -/
theorem bar2Read_of_open {d : Dev} {off len : Nat} (m : Mem) (ha : d.hostAlive = true)
    (hl : off + len ≤ 2 ^ d.host.bar2Log2) (hc : d.chkClosed 0 = false) :
    bar2Read off len (d, m) = bar2ReadNow off len (d, m) := by
  unfold bar2Read
  rw [if_neg (by simp [ha]), if_neg (Nat.not_lt.mpr hl), if_neg (by simp [hc])]

theorem bar2ReadNow_of_readable {d : Dev} {m : Mem} {off len : Nat} (h : Readable d m 0 (d.bar2Pa off) len) :
    bar2ReadNow off len (d, m) = (d.respond (.data (m.getBytes (d.bar2Pa off) len)), m) := by
  unfold bar2ReadNow
  dsimp only
  rw [checkedRead_of_readable h]
  rfl

theorem bar2ReadNow_of_denied {d : Dev} {off len : Nat} (m : Mem) (h : d.denials 0 false (d.bar2Pa off) len ≠ []) :
    (bar2ReadNow off len (d, m)).1.host.resp = .completerAbort ∧ (bar2ReadNow off len (d, m)).2 = m := by
  refine ⟨?_, rfl⟩
  unfold bar2ReadNow checkedRead
  dsimp only
  rw [if_pos (by simpa using h)]
  rfl

theorem bar2Read_of_readable (t off len : Nat) (s : State) (ha : s.dev.hostAlive = true)
    (hl : off + len ≤ 2 ^ s.dev.host.bar2Log2) (h : Readable s.dev s.mem 0 (s.dev.bar2Pa off) len) :
    ∃ s', exec (.bar2Read t off len) s = .next s' ∧
      s'.dev.host.resp = .data (s.mem.getBytes (s.dev.bar2Pa off) len) ∧ s.Keeps s' t [] [.host] := by
  rw [exec_bar2Read, State.onAll, bar2Read_of_open (d := s.dev.clock t) s.mem ha hl h.isOpen,
    bar2ReadNow_of_readable (h.clock t)]
  exact ⟨_, rfl, rfl, rfl, .inr rfl, (Dev.Keeps.refl _ _ _).respond _ (by simp)⟩

theorem bar2Read_of_denied (t off len : Nat) (s : State) (ha : s.dev.hostAlive = true)
    (hl : off + len ≤ 2 ^ s.dev.host.bar2Log2) (hc : s.dev.chkClosed 0 = false)
    (h : s.dev.denials 0 false (s.dev.bar2Pa off) len ≠ []) :
    ∃ s', exec (.bar2Read t off len) s = .next s' ∧ s'.dev.host.resp = .completerAbort ∧ s'.mem = s.mem := by
  rw [exec_bar2Read, State.onAll, bar2Read_of_open (d := s.dev.clock t) s.mem ha hl hc]
  exact ⟨_, rfl, bar2ReadNow_of_denied (d := s.dev.clock t) s.mem h⟩

/-- A write inside the window that nothing drops leaves the block as it is, and writes DRAM. -/
theorem bar2Write_of_writable {d : Dev} {m : Mem} {off : Nat} {bs : List Byte} (ha : d.hostAlive = true)
    (hl : off + bs.length ≤ 2 ^ d.host.bar2Log2) (h : Writable d m 0 (d.bar2Pa off) bs.length) :
    bar2Write off bs (d, m) = (d, dramWrite d m (d.bar2Pa off) bs) := by
  unfold bar2Write
  rw [if_neg (by simp [ha, hl]), if_neg (by simp [h.isOpen])]
  unfold bar2WriteNow
  dsimp only
  rw [checkedWrite_of_allowed m 0 h.allowed, h.whole]
  rfl

theorem bar2Write_puts_bytes (t off : Nat) (bs : List Byte) (s : State) (ha : s.dev.hostAlive = true)
    (hl : off + bs.length ≤ 2 ^ s.dev.host.bar2Log2) (h : Writable s.dev s.mem 0 (s.dev.bar2Pa off) bs.length) :
    ∃ s', exec (.bar2Write t off bs) s = .next s' ∧ s.mem.Wrote s'.mem (s.dev.bar2Pa off) bs ∧
      s.Keeps s' t [] [.mem] := by
  rw [exec_bar2Write, State.onAll, bar2Write_of_writable (d := s.dev.clock t) ha hl (h.clock t)]
  exact ⟨_, rfl, wrote_dramWrite h.alive h.whole, rfl, .inl (by simp), Dev.Keeps.refl _ _ _⟩

/-! ### BAR2_OFFSET -/

theorem exec_bar2OffsetWrite (t : Nat) (v : Word) (s : State) :
    exec (.bar2OffsetWrite t v) s = s.onDev t (·.gated 0x48 (bar2OffsetWrite v)) := rfl

/-- A host write that reaches its block has its effect. -/
theorem Dev.gated_of_reaches {d : Dev} {off : Nat} (h : d.Reaches off) (f : Dev → Dev) : d.gated off f = f d := by
  unfold Dev.gated
  rw [if_neg (by simp [h.alive, h.opened]), if_neg (by simp [h.clocked])]

theorem bits_offset (v : Word) : bits v.toNat 31 6 = v.toNat / 64 := by
  have := v.isLt
  simp only [bits]
  omega

theorem get_bar2OffsetWrite (v : Word) (d : Dev) :
    (bar2OffsetWrite v d).get R.BAR2_OFFSET_OFFSET =
      if v.toNat / 64 * 1024 % 2 ^ d.host.bar2Log2 = 0 then v.toNat / 64 else d.get R.BAR2_OFFSET_OFFSET := by
  have hv : v.toNat / 64 < 2 ^ 26 := by have := v.isLt; omega
  rw [bar2OffsetWrite, bits_offset]
  split
  · exact (d.get_put _ _ _ _ (by decide)).trans (Nat.mod_eq_of_lt hv)
  · rfl

theorem bar2OffsetWrite_moves (t : Nat) (v : Word) (s : State) (hr : s.dev.Reaches 0x48) :
    ∃ s', exec (.bar2OffsetWrite t v) s = .next s' ∧
      s'.dev.get R.BAR2_OFFSET_OFFSET = (if v.toNat / 64 * 1024 % 2 ^ s.dev.host.bar2Log2 = 0 then v.toNat / 64
        else s.dev.get R.BAR2_OFFSET_OFFSET) ∧
      s.Keeps s' t [R.BAR2_OFFSET.off 0 0] [] := by
  rw [exec_bar2OffsetWrite, State.onDev, Dev.gated_of_reaches (hr.clock t)]
  refine ⟨_, rfl, get_bar2OffsetWrite v (s.dev.clock t), rfl, .inr rfl, ?_⟩
  exact .ite (fun _ => (Dev.Keeps.refl _ _ _).put _ _ _ _ (by simp [R.BAR2_OFFSET_OFFSET])) fun _ => .refl _ _ _

/-- Settles O10: one equation for each way of a request or an access, and what a write that nothing drops leaves in
DRAM. -/
theorem configAndBar2 : Obligations.ConfigAndBar2 :=
  ⟨pcieConfigRequest_of_alive, bar2Read_of_readable, bar2Read_of_denied, bar2Write_puts_bytes, bar2OffsetWrite_moves⟩

end Sys2Proof.Machine
end

section
/-! PROOFS. How a command completes (R31, R33): the one equation of a completion, what it leaves in the queue, and what the
command then answers, whether it had started or not. -/

namespace Sys2Proof.Machine

/-! ### Commands of a list -/

theorem map_seq_updFirst (p : Cmd → Bool) {f : Cmd → Cmd} (hf : ∀ c, (f c).seq = c.seq) (l : List Cmd) :
    (updFirst p f l).map (·.seq) = l.map (·.seq) := by
  induction l with
  | nil => rfl
  | cons x r ih =>
    unfold updFirst
    split
    · simp [hf]
    · simp [ih]

/-- A command that is not the one to change stays. -/
theorem mem_updFirst_of_not {p : Cmd → Bool} (f : Cmd → Cmd) {c : Cmd} {l : List Cmd} (hc : c ∈ l) (hp : p c = false) :
    c ∈ updFirst p f l := by
  induction l with
  | nil => exact hc
  | cons x r ih =>
    unfold updFirst
    rcases List.mem_cons.mp hc with rfl | hr
    · simp [hp]
    · split
      · exact List.mem_cons_of_mem _ hr
      · exact List.mem_cons_of_mem _ (ih hr)

/-- The first command to change is changed. -/
theorem mem_updFirst_of_find {p : Cmd → Bool} (f : Cmd → Cmd) {c : Cmd} {l : List Cmd} (hc : l.find? p = some c) :
    f c ∈ updFirst p f l := by
  induction l with
  | nil => simp at hc
  | cons x r ih =>
    unfold updFirst
    by_cases hx : p x = true
    · obtain rfl : x = c := by simpa [hx] using hc
      simp [hx]
    · simp [hx, ih (by simpa [hx] using hc)]

theorem find?_updFirst_same {p : Cmd → Bool} {f : Cmd → Cmd} (hf : ∀ c, p c = true → p (f c) = true) {c : Cmd}
    {l : List Cmd} (hc : l.find? p = some c) : (updFirst p f l).find? p = some (f c) := by
  induction l with
  | nil => simp at hc
  | cons x r ih =>
    by_cases hx : p x = true
    · obtain rfl : x = c := by simpa [hx] using hc
      simp [updFirst, hx, hf]
    · simp [updFirst, hx, ih (by simpa [hx] using hc)]

/-- In a list that holds no SEQ twice, the search for a command's SEQ finds it. -/
theorem find?_seq_of_mem {l : List Cmd} (hn : (l.map (·.seq)).Nodup) {c : Cmd} (hc : c ∈ l) :
    l.find? (fun x => x.seq == c.seq) = some c := by
  induction l with
  | nil => simp at hc
  | cons x r ih =>
    rw [List.map_cons] at hn
    obtain ⟨hx, hr⟩ := List.nodup_cons.mp hn
    rcases List.mem_cons.mp hc with rfl | hcr
    · simp
    · have hne : x.seq ≠ c.seq := fun e => hx (List.mem_map.mpr ⟨c, hcr, e.symm⟩)
      simp [hne, ih hr hcr]

/-- The queue's first command with a SEQ, if it is not complete, is its first that is not complete. -/
theorem Dev.cmd?_of_find {d : Dev} {q seq : Nat} {c : Cmd}
    (hf : (d.queue q).cmds.find? (fun x => x.seq == seq) = some c) (hc : c.st ≠ .done) : d.cmd? q seq = some c := by
  have hp : ∀ l : List Cmd, l.find? (fun x => x.seq == seq) = some c →
      l.find? (fun x => x.seq == seq && x.st != .done) = some c := fun l hl => by
    obtain ⟨hs, as, bs, rfl, hb⟩ := List.find?_eq_some_iff_append.mp hl
    refine List.find?_eq_some_iff_append.mpr ⟨by simp_all, as, bs, rfl, fun a ha => ?_⟩
    have := hb a ha
    simp_all
  exact hp _ hf

theorem Dev.queue_setQueue_same (d : Dev) (q : Nat) (v : Queue) : (d.setQueue q v).queue q = v := by
  rw [d.queue_setQueue, if_pos rfl]

theorem Dev.queue_of_host {d e : Dev} (h : e.host = d.host) (q : Nat) : e.queue q = d.queue q := by
  rw [Dev.queue, h, ← Dev.queue]

theorem Dev.cmd?_updCmd {d : Dev} {q seq : Nat} {c : Cmd} {f : Cmd → Cmd}
    (hf : ∀ x, x.st ≠ .done → (f x).seq = x.seq ∧ (f x).st ≠ .done) (hc : d.cmd? q seq = some c) :
    (d.updCmd q seq f).cmd? q seq = some (f c) := by
  rw [Dev.cmd?, Dev.updCmd, Dev.setCmds, Dev.queue_setQueue_same]
  refine find?_updFirst_same (fun x hx => ?_) hc
  simp only [Bool.and_eq_true, beq_iff_eq, bne_iff_ne] at hx ⊢
  exact ⟨(hf x hx.2).1.trans hx.1, (hf x hx.2).2⟩

/-! ### The completion -/

/-- A command as its completion leaves it in its queue, to be written in its turn (R31). -/
def Cmd.ended (c : Cmd) (o : Outcome) (t : Nat) (w : Bool) : Cmd :=
  { c with st := .done, out := some o, ctime := t, awaiting := w }

/-- Nothing but the command itself and the pair's part changes when a unit that follows no partner completes it. -/
theorem Dev.complete_eq {d : Dev} {q seq : Nat} {c : Cmd} (o : Outcome) (hq : q < 32) (ha : d.Alone)
    (hc : d.cmd? q seq = some c) :
    ∃ x w, d.complete q seq o = (d.updCmd q seq (·.ended o d.wt48 w)).setPair x := by
  obtain ⟨x1, h1⟩ := d.keepParams_eq c o
  unfold Dev.complete
  rw [if_pos hq, hc]
  dsimp only
  rw [h1]
  generalize (d.on R.PAIR_STATUS_IN_SYNC && d.pst == prActive && !d.pair.confirmed.contains (q, seq)) = w
  generalize hu : ((d.setPair x1).updCmd q seq fun c => { c with
    st := .done, out := some o, ctime := d.wt48, awaiting := w }) = u
  obtain ⟨x2, h2⟩ := u.mirror_eq (.outcome q seq ⟨o.status, o.reason, o.detail, o.source, o.result⟩ u.wt48)
  have hf : ∀ y z, ((u.setPair y).setPair z).follows = false := fun y z => by
    subst hu
    exact Dev.follows_of_alone ha
  rw [h2, if_neg (by simp [hf])]
  subst hu
  exact ⟨_, w, rfl⟩

theorem Dev.complete_none {d : Dev} {q seq : Nat} (o : Outcome) (hq : q < 32) (hc : d.cmd? q seq = none) :
    d.complete q seq o = d := by
  unfold Dev.complete
  rw [if_pos hq, hc]

theorem Dev.Keeps.complete {d0 d : Dev} {ws : Nat → Prop} {ps : List Part} (h : d0.Keeps d ws ps) (q seq : Nat)
    (o : Outcome) (hq : q < 32) (ha : d.Alone) (hh : Part.host ∈ ps) (hp : Part.pair ∈ ps) :
    d0.Keeps (d.complete q seq o) ws ps := by
  cases hc : d.cmd? q seq with
  | none => rwa [Dev.complete_none o hq hc]
  | some c =>
    obtain ⟨x, w, e⟩ := Dev.complete_eq o hq ha hc
    rw [e]
    exact (h.updCmd _ _ _ hh).setPair _ hp

/-- The commands of a queue after one of them completed. -/
theorem Dev.cmds_complete {d : Dev} {q seq : Nat} {c : Cmd} (o : Outcome) (hq : q < 32) (ha : d.Alone)
    (hc : d.cmd? q seq = some c) : ∃ w, ((d.complete q seq o).queue q).cmds =
      updFirst (fun x => x.seq == seq && x.st != .done) (·.ended o d.wt48 w) (d.queue q).cmds := by
  obtain ⟨x, w, e⟩ := Dev.complete_eq o hq ha hc
  refine ⟨w, ?_⟩
  rw [e, Dev.setPair_queue, Dev.updCmd, Dev.setCmds, Dev.queue_setQueue_same]

/-- A command that is the first of its queue with its SEQ answers what it is completed with. -/
theorem Dev.answer_complete {d : Dev} {q seq : Nat} {c : Cmd} (o : Outcome) (hq : q < 32) (ha : d.Alone)
    (hf : (d.queue q).cmds.find? (fun x => x.seq == seq) = some c) (hc : c.st ≠ .done) :
    (d.complete q seq o).answer q seq = some o := by
  obtain ⟨w, e⟩ := Dev.cmds_complete o hq ha (Dev.cmd?_of_find hf hc)
  have hs : c.seq = seq := by simpa using List.find?_some hf
  rw [Dev.answer, e, find?_updFirst _ (·.ended o d.wt48 w) seq _ c hf (by simp [hs, hc]) (by simp +contextual) (fun _ => rfl)]
  rfl

/-- A completion issues nothing to the host, and moves no register. -/
theorem Dev.complete_posted {d : Dev} {q seq : Nat} (o : Outcome) (hq : q < 32) (ha : d.Alone) :
    (d.complete q seq o).host.posted = d.host.posted ∧ (d.complete q seq o).regs = d.regs := by
  cases hc : d.cmd? q seq with
  | none => rw [Dev.complete_none o hq hc]; exact ⟨rfl, rfl⟩
  | some c =>
    obtain ⟨x, w, e⟩ := Dev.complete_eq o hq ha hc
    rw [e]
    exact ⟨rfl, rfl⟩

theorem Dev.Running.clock {d : Dev} {q seq op : Nat} {c : Cmd} (h : d.Running q seq op c) (t : Nat) :
    (d.clock t).Running q seq op c := ⟨h.queue, h.found, h.started, h.opcode⟩

theorem Dev.Running.not_done {d : Dev} {q seq op : Nat} {c : Cmd} (h : d.Running q seq op c) : c.st ≠ .done := by
  simp [h.started]

/-- The command with the SEQ may be completed here: it is the first of a queue of this module with it, it is not yet complete,
and the unit follows no partner. -/
structure Dev.MayEnd (d : Dev) (q seq : Nat) : Prop where
  queue : q < 16
  found : ∃ c, (d.queue q).cmds.find? (fun x => x.seq == seq) = some c ∧ c.st ≠ .done
  alone : d.Alone

theorem Dev.Running.mayEnd {d : Dev} {q seq op : Nat} {c : Cmd} (h : d.Running q seq op c) (ha : d.Alone) :
    d.MayEnd q seq := ⟨h.queue, ⟨c, h.found, h.not_done⟩, ha⟩

theorem Dev.MayEnd.clock {d : Dev} {q seq : Nat} (h : d.MayEnd q seq) (t : Nat) : (d.clock t).MayEnd q seq :=
  ⟨h.queue, h.found, h.alone⟩

section
variable {d0 d : Dev} {q seq : Nat} {ws : List Nat} {ps : List Part}

/-- A completion after an effect that moves neither the queue's commands nor what names and places the unit: the command
answers it, and it moves nothing else but the host's and the pair's parts. -/
theorem Dev.MayEnd.complete (h : d0.MayEnd q seq) (k : d0.Keeps d (· ∈ ws) ps) (hqu : d.queue q = d0.queue q)
    (hp : R.PAIR_STATUS.off 0 0 ∉ ws) (hh : Part.host ∈ ps) (hpr : Part.pair ∈ ps) (o : Outcome) :
    (d.complete q seq o).answer q seq = some o ∧ d0.Keeps (d.complete q seq o) (· ∈ ws) ps := by
  obtain ⟨hq, ⟨c, hf, hc⟩, ha⟩ := h
  have hal : d.Alone := ha.of_keeps k hp
  exact ⟨Dev.answer_complete o (by omega) hal (hqu ▸ hf) hc, k.complete _ _ _ (by omega) hal hh hpr⟩

theorem Dev.MayEnd.finish (h : d0.MayEnd q seq) (k : d0.Keeps d (· ∈ ws) ps) (hqu : d.queue q = d0.queue q)
    (hp : R.PAIR_STATUS.off 0 0 ∉ ws) (hm : R.PAENT_ID.off 0 0 ∉ ws) (hh : Part.host ∈ ps) (hpr : Part.pair ∈ ps)
    (status reason result detail : Nat) :
    (d.finish q seq status reason result detail).answer q seq =
        some ⟨status, reason, detail, d0.moduleId, result % 2 ^ 64⟩ ∧
      d0.Keeps (d.finish q seq status reason result detail) (· ∈ ws) ps := by
  have hid : d.moduleId = d0.moduleId := k.get R.PAENT_ID_MODULE 0 0 hm
  rw [← hid]
  exact h.complete k hqu hp hh hpr _

/-- The same with nothing before the completion. -/
theorem Dev.MayEnd.finish_at_once (h : d.MayEnd q seq) (status reason result detail : Nat) :
    (d.finish q seq status reason result detail).answer q seq =
        some ⟨status, reason, detail, d.moduleId, result % 2 ^ 64⟩ ∧
      d.Keeps (d.finish q seq status reason result detail) (· ∈ []) [.host, .pair] :=
  h.finish (.refl _ _ _) rfl (by simp) (by simp) (by simp) (by simp) _ _ _ _

end

end Sys2Proof.Machine
end

section
/-! PROOFS. The registers of the queues and the fences (R25 to R28, R34): enabling and disabling a queue, its doorbells, and a
host write of a fence. -/

namespace Sys2Proof.Machine

/-- A put of one field leaves another field of its register as it was. -/
theorem Dev.get_put_apart (d : Dev) (f g : FldDesc) (v i j : Nat)
    (h : f.ok = true ∧ g.ok = true ∧ g.reg = f.reg ∧ (g.hi < f.lo ∨ f.hi < g.lo)) :
    (d.put f v i j).get g i j = d.get g i j :=
  d.get_put_field f g v i j h.1 h.2.1 h.2.2.1 h.2.2.2

/-! ### What is held on a queue -/

/-- With no record held on its layers, nothing is written. -/
theorem Dev.flushHeld_of_none {d : Dev} (h : d.lay.held = []) : d.flushHeld = d := by
  have hl : { d.lay with held := [] } = d.lay := by rw [← h]
  unfold Dev.flushHeld
  rw [h]
  exact congrArg (fun x => { d with lay := x }) hl

/-- A queue without commands and records has nothing to write. -/
theorem Dev.flushQueue_of_empty {d : Dev} {q : Nat} (hc : (d.queue q).cmds = []) (hr : (d.queue q).records = [])
    (hh : d.lay.held = []) : d.flushQueue q = d := by
  unfold Dev.flushQueue
  split
  · rw [hr]; rfl
  · rw [hc]; exact Dev.flushHeld_of_none hh

theorem Dev.drainCheck_of_not_draining {d : Dev} {q : Nat} (h : d.qState q ≠ qDraining) : d.drainCheck q = d := by
  unfold Dev.drainCheck
  dsimp only
  rw [if_neg (by simp [h])]

/-- A cause of ERR puts a running queue in ERROR, with its code. -/
theorem Dev.queueErr_of_running {d : Dev} {q code : Nat} (h : d.qState q = qRunning) (hc : code < 256) :
    (d.queueErr q code).qState q = qError ∧ (d.queueErr q code).get R.Q_STATUS_ERR q = code ∧
      (d.queueErr q code).host = d.host := by
  unfold Dev.queueErr
  rw [if_pos h]
  refine ⟨?_, ?_, by rw [Dev.put_host, Dev.put_host]⟩
  · rw [Dev.qState, Dev.get_put_apart _ _ R.Q_STATUS_STATE _ _ _ (by decide)]
    exact Dev.get_put _ _ _ _ _ (by decide)
  · rw [Dev.get_put _ _ _ _ _ (by decide)]
    exact Nat.mod_eq_of_lt hc

theorem qStatus_ne_qCtrl (q : Nat) : R.Q_STATUS.off q 0 ≠ R.Q_CTRL.off q 0 := by
  simp only [RegDesc.off, R.Q_STATUS, R.Q_CTRL]
  omega

/-! ### Enabling -/

theorem exec_queueEnable (t q : Nat) (v : Word) (s : State) :
    exec (.queueEnable t q v) s = s.onDev t (·.gated 0x100000 (queueEnable q v)) := rfl

/-- The bits of a Q_CTRL write that the queue takes: queue 16 has no SQ_LOG2 (R26). -/
def qCtrlKeep (q : Nat) : Nat := if q = evQ then 0x00F0FFFF else 0x0FF0FFFF

theorem Dev.qCtrlFields_of_off {d : Dev} {q : Nat} (v : Word) (h : d.on R.Q_CTRL_ENABLE q = false) :
    d.qCtrlFields q v = d.setReg R.Q_CTRL (v.toNat &&& qCtrlKeep q) q := by
  unfold Dev.qCtrlFields
  rw [if_neg (by simp [h])]
  rfl

theorem bits_and_of_ones {v keep hi lo : Nat} (h : ∀ k, k < hi - lo + 1 → keep.testBit (lo + k) = true) :
    bits (v &&& keep) hi lo = bits v hi lo := by
  apply Nat.eq_of_testBit_eq
  intro k
  rw [testBit_bits, testBit_bits, Nat.testBit_and]
  by_cases hk : k < hi - lo + 1
  · simp [h k hk]
  · simp [hk]

/-- The fields of Q_CTRL after a write to a disabled queue: its sizes, and ENABLE still 0. -/
theorem Dev.get_qCtrl (d : Dev) (q : Nat) (v : Word) :
    let e := d.setReg R.Q_CTRL (v.toNat &&& qCtrlKeep q) q
    e.get R.Q_CTRL_CQ_LOG2 q = bits v.toNat 23 20 ∧ (q ≠ 16 → e.get R.Q_CTRL_SQ_LOG2 q = bits v.toNat 27 24) ∧
      e.get R.Q_CTRL_ENABLE q = 0 := by
  intro e
  have hlt : v.toNat &&& qCtrlKeep q < 2 ^ 28 := by
    refine Nat.and_lt_two_pow _ ?_
    unfold qCtrlKeep
    split <;> decide
  have hg : ∀ f : FldDesc, f.reg = R.Q_CTRL → e.get f q = bits (v.toNat &&& qCtrlKeep q) f.hi f.lo := fun f hf => by
    rw [Dev.get, hf, Dev.reg_setReg, Nat.mod_eq_of_lt (by omega)]
  refine ⟨?_, fun hq => ?_, ?_⟩
  · rw [hg _ rfl]
    refine bits_and_of_ones ?_
    unfold qCtrlKeep
    split <;> decide
  · rw [hg _ rfl, qCtrlKeep, evQ, if_neg hq]
    exact bits_and_of_ones (by decide)
  · rw [hg _ rfl]
    simp only [bits, R.Q_CTRL_ENABLE]
    omega

/-- The registers of a queue that ENABLE has just started. -/
def Dev.startQueue (d : Dev) (q : Nat) : Dev :=
  ((d.put R.Q_CTRL_ENABLE 1 q).put R.Q_STATUS_STATE qRunning q).put R.Q_STATUS_SQ_HEAD 0 q

/-- A queue that has just started: empty rings, PHASE 1, nothing held back. -/
def Queue.started (v : Queue) : Queue :=
  { v with sqTail := 0, cqHead := 0, cqTail := 0, phase := true, coal := 0, holding := false }

theorem Dev.get_startQueue (d : Dev) (q : Nat) :
    (d.startQueue q).qState q = qRunning ∧ (d.startQueue q).get R.Q_CTRL_ENABLE q = 1 ∧
      (d.startQueue q).get R.Q_STATUS_SQ_HEAD q = 0 ∧
      (d.startQueue q).get R.Q_CTRL_CQ_LOG2 q = d.get R.Q_CTRL_CQ_LOG2 q := by
  have hs := qStatus_ne_qCtrl q
  unfold Dev.startQueue
  refine ⟨?_, ?_, ?_, ?_⟩
  · rw [Dev.qState, Dev.get_put_apart _ _ R.Q_STATUS_STATE _ _ _ (by decide)]
    exact Dev.get_put _ _ _ _ _ (by decide)
  · rw [Dev.get_put_ne _ _ _ _ _ _ _ _ hs.symm, Dev.get_put_ne _ _ _ _ _ _ _ _ hs.symm]
    exact Dev.get_put _ _ _ _ _ (by decide)
  · exact Dev.get_put _ _ _ _ _ (by decide)
  · rw [Dev.get_put_ne _ _ _ _ _ _ _ _ hs.symm, Dev.get_put_ne _ _ _ _ _ _ _ _ hs.symm]
    exact Dev.get_put_apart _ _ _ _ _ _ (by decide)

/-- What ENABLE written 1 does to a disabled queue that holds nothing back. -/
theorem queueEnable_of_disabled {d : Dev} {q : Nat} (v : Word) (hq : q ≤ 16) (he : d.on R.Q_CTRL_ENABLE q = false)
    (hs : d.qState q = qDisabled) (hc : (d.queue q).cmds = []) (hr : (d.queue q).records = []) (hh : d.lay.held = []) :
    queueEnable q v d =
      let e := d.setReg R.Q_CTRL (v.toNat &&& qCtrlKeep q) q
      if e.qConfigOk q then (e.startQueue q).setQueue q (d.queue q).started
      else (e.put R.Q_STATUS_STATE qError q).put R.Q_STATUS_ERR 1 q := by
  have hk : ∀ x, (d.setReg R.Q_CTRL x q).qState q = qDisabled := fun x =>
    (d.get_setReg_ne R.Q_CTRL R.Q_STATUS_STATE x q 0 q 0 (qStatus_ne_qCtrl q)).trans hs
  unfold queueEnable
  dsimp only
  rw [if_neg (by simp [evQ]; omega), Dev.qCtrlFields_of_off v he, if_neg (by simp [hk, he])]
  have hh' : (d.setReg R.Q_CTRL (v.toNat &&& qCtrlKeep q) q).lay.held = [] := hh
  have hq' : ∀ r, (d.setReg R.Q_CTRL (v.toNat &&& qCtrlKeep q) q).queue r = d.queue r := fun _ => rfl
  generalize d.setReg R.Q_CTRL (v.toNat &&& qCtrlKeep q) q = e at hh' hq'
  have hf : ((e.startQueue q).setQueue q (d.queue q).started).flushQueue q =
      (e.startQueue q).setQueue q (d.queue q).started :=
    Dev.flushQueue_of_empty (by rw [Dev.queue_setQueue_same]; exact hc) (by rw [Dev.queue_setQueue_same]; exact hr)
      (by rw [Dev.setQueue_lay, Dev.startQueue, Dev.put_lay, Dev.put_lay, Dev.put_lay, hh'])
  rw [Dev.put_queue, Dev.put_queue, Dev.put_queue, hq']
  exact if_congr Iff.rfl hf rfl

/-- Q_CTRL's sizes are in range (R26, R27). -/
abbrev SizesOk (q sq cq : Nat) : Prop := 4 ≤ cq ∧ cq ≤ 12 ∧ (q = 16 ∨ (4 ≤ sq ∧ sq ≤ 12 ∧ sq ≤ cq))

theorem qConfigOk_iff (d : Dev) (q : Nat) (v : Word) :
    (d.setReg R.Q_CTRL (v.toNat &&& qCtrlKeep q) q).qConfigOk q = true ↔
      SizesOk q (bits v.toNat 27 24) (bits v.toNat 23 20) := by
  obtain ⟨hc, hs, -⟩ := d.get_qCtrl q v
  unfold Dev.qConfigOk SizesOk
  rw [hc]
  by_cases hq : q = 16
  · simp [hq, evQ]
  · simp [hq, hs hq, evQ, and_assoc]

theorem Dev.Keeps.startQueue {d0 d : Dev} {ws : Nat → Prop} {ps : List Part} (h : d0.Keeps d ws ps) (q : Nat)
    (hc : ws (R.Q_CTRL.off q 0)) (hs : ws (R.Q_STATUS.off q 0)) : d0.Keeps (d.startQueue q) ws ps :=
  ((h.put _ _ _ _ hc).put _ _ _ _ hs).put _ _ _ _ hs

theorem queueEnable_of_idle (t q : Nat) (v : Word) (s : State) (hq : q ≤ 16) (hr : s.dev.Reaches 0x100000)
    (he : s.dev.on R.Q_CTRL_ENABLE q = false) (hs : s.dev.qState q = qDisabled) (hc : (s.dev.queue q).cmds = [])
    (hrec : (s.dev.queue q).records = []) (hh : s.dev.lay.held = []) :
    let sq := bits v.toNat 27 24
    let cq := bits v.toNat 23 20
    ∃ s', exec (.queueEnable t q v) s = .next s' ∧
      (if 4 ≤ cq ∧ cq ≤ 12 ∧ (q = 16 ∨ (4 ≤ sq ∧ sq ≤ 12 ∧ sq ≤ cq)) then
        s'.dev.qState q = qRunning ∧ s'.dev.get R.Q_CTRL_ENABLE q = 1 ∧ s'.dev.get R.Q_STATUS_SQ_HEAD q = 0 ∧
          s'.dev.get R.Q_CTRL_CQ_LOG2 q = cq ∧
          s'.dev.queue q = { s.dev.queue q with
            sqTail := 0, cqHead := 0, cqTail := 0, phase := true, coal := 0, holding := false }
      else s'.dev.qState q = qError ∧ s'.dev.get R.Q_STATUS_ERR q = 1 ∧ s'.dev.get R.Q_CTRL_ENABLE q = 0) ∧
      s.Keeps s' t (R.Q_CTRL.off q 0 :: R.Q_STATUS.off q 0 :: recOffs) [.host, .recd] := by
  intro sq cq
  obtain ⟨hcq, -, hen⟩ := (s.dev.clock t).get_qCtrl q v
  have hok := qConfigOk_iff (s.dev.clock t) q v
  have hk : (s.dev.clock t).Keeps ((s.dev.clock t).setReg R.Q_CTRL (v.toNat &&& qCtrlKeep q) q)
      (· ∈ R.Q_CTRL.off q 0 :: R.Q_STATUS.off q 0 :: recOffs) [.host, .recd] :=
    (Dev.Keeps.refl _ _ _).setReg _ _ _ _ (by simp)
  rw [exec_queueEnable, State.onDev, Dev.gated_of_reaches (hr.clock t),
    queueEnable_of_disabled (d := s.dev.clock t) v hq he hs hc hrec hh]
  generalize (s.dev.clock t).setReg R.Q_CTRL (v.toNat &&& qCtrlKeep q) q = e at hcq hen hok hk
  refine ⟨_, rfl, ?_, rfl, .inr rfl, ?_⟩
  · dsimp only
    by_cases h : e.qConfigOk q = true
    · rw [if_pos h, if_pos (hok.mp h), Dev.queue_setQueue_same, Dev.qState, Dev.setQueue_get, Dev.setQueue_get,
        Dev.setQueue_get, Dev.setQueue_get]
      obtain ⟨h1, h2, h3, h4⟩ := e.get_startQueue q
      exact ⟨h1, h2, h3, h4.trans hcq, rfl⟩
    · rw [if_neg h, if_neg fun x => h (hok.mpr x)]
      refine ⟨?_, Dev.get_put _ _ _ _ _ (by decide), ?_⟩
      · rw [Dev.qState, Dev.get_put_apart _ _ R.Q_STATUS_STATE _ _ _ (by decide)]
        exact Dev.get_put _ _ _ _ _ (by decide)
      · have hne := (qStatus_ne_qCtrl q).symm
        rw [Dev.get_put_ne _ _ _ _ _ _ _ _ hne, Dev.get_put_ne _ _ _ _ _ _ _ _ hne, hen]
  · refine .ite (fun _ => (hk.startQueue q ?_ ?_).setQueue _ _ ?_) fun _ => (hk.put _ _ _ _ ?_).put _ _ _ _ ?_ <;>
      simp [R.Q_STATUS_STATE, R.Q_STATUS_ERR]

/-! ### Disabling -/

theorem exec_queueDisable (t q : Nat) (v : Word) (s : State) :
    exec (.queueDisable t q v) s = s.onDev t (·.gated 0x100000 (queueDisable q v)) := rfl

/-- From `d` to `e`, completions of queue `q`: its commands keep their SEQs and their places, and no register moves. -/
structure Dev.OnlyEnds (d e : Dev) (q : Nat) : Prop where
  keeps : d.Keeps e (fun _ => False) [.host, .pair]
  seqs : (e.queue q).cmds.map (·.seq) = (d.queue q).cmds.map (·.seq)
  done : ∀ c ∈ (d.queue q).cmds, c.st = .done → c ∈ (e.queue q).cmds

theorem Dev.OnlyEnds.trans {d e f : Dev} {q : Nat} (h : d.OnlyEnds e q) (k : e.OnlyEnds f q) : d.OnlyEnds f q :=
  ⟨h.keeps.trans k.keeps, k.seqs.trans h.seqs, fun c hc hd => k.done c (h.done c hc hd) hd⟩

theorem Dev.OnlyEnds.moduleId {d e : Dev} {q : Nat} (h : d.OnlyEnds e q) : e.moduleId = d.moduleId :=
  h.keeps.get R.PAENT_ID_MODULE 0 0 id

theorem Dev.OnlyEnds.alone {d e : Dev} {q : Nat} (h : d.OnlyEnds e q) (ha : d.Alone) : e.Alone := ha.of_keeps h.keeps id

/-- One command ends: every other stays as it is, and it answers the outcome. -/
theorem Dev.finish_ends {d : Dev} {q : Nat} {c : Cmd} (status : Nat) (hq : q < 32) (ha : d.Alone)
    (hn : ((d.queue q).cmds.map (·.seq)).Nodup) (hc : c ∈ (d.queue q).cmds) (hd : c.st ≠ .done) :
    let e := d.finish q c.seq status
    d.OnlyEnds e q ∧ (∀ x ∈ (d.queue q).cmds, x.seq ≠ c.seq → x ∈ (e.queue q).cmds) ∧
      ∃ x ∈ (e.queue q).cmds, x.seq = c.seq ∧ x.st = .done ∧ x.out = some ⟨status, 0, 0, d.moduleId, 0⟩ := by
  intro e
  have hf := Dev.cmd?_of_find (find?_seq_of_mem hn hc) hd
  obtain ⟨w, hw⟩ := Dev.cmds_complete ⟨status, 0, 0, d.moduleId, 0 % 2 ^ 64⟩ hq ha hf
  have hw : (e.queue q).cmds = _ := hw
  refine ⟨⟨(Dev.Keeps.refl _ _ _).complete _ _ _ hq ha (by simp) (by simp), ?_, fun x hx hdone => ?_⟩,
    fun x hx hne => ?_, ?_⟩
  · rw [hw]; exact map_seq_updFirst _ (f := (·.ended _ _ w)) (fun _ => rfl) _
  · rw [hw]; exact mem_updFirst_of_not _ hx (by simp [hdone])
  · rw [hw]; exact mem_updFirst_of_not _ hx (by simp [hne])
  · rw [hw]; exact ⟨_, mem_updFirst_of_find _ hf, rfl, rfl, rfl⟩

/-- Several commands of a queue end, none of them twice. -/
theorem Dev.foldl_finish_ends {d : Dev} {q : Nat} (status : Nat) (ks : List Cmd) (hq : q < 32) (ha : d.Alone)
    (hn : ((d.queue q).cmds.map (·.seq)).Nodup) (hks : (ks.map (·.seq)).Nodup)
    (hm : ∀ c ∈ ks, c ∈ (d.queue q).cmds ∧ c.st ≠ .done) :
    let e := ks.foldl (fun d c => d.finish q c.seq status) d
    d.OnlyEnds e q ∧ (∀ x ∈ (d.queue q).cmds, x.seq ∉ ks.map (·.seq) → x ∈ (e.queue q).cmds) ∧
      ∀ c ∈ ks, ∃ x ∈ (e.queue q).cmds, x.seq = c.seq ∧ x.st = .done ∧ x.out = some ⟨status, 0, 0, d.moduleId, 0⟩ := by
  induction ks generalizing d with
  | nil =>
    exact ⟨⟨.refl _ _ _, rfl, fun _ hc _ => hc⟩, fun _ hx _ => hx, fun _ hc => absurd hc List.not_mem_nil⟩
  | cons k r ih =>
    intro e
    rw [List.map_cons] at hks
    obtain ⟨hkr, hr⟩ := List.nodup_cons.mp hks
    obtain ⟨hk, hkd⟩ := hm k List.mem_cons_self
    obtain ⟨h1, hs1, x, hx, hxs, hxd, hxo⟩ := Dev.finish_ends status hq ha hn hk hkd
    have hne : ∀ c ∈ r, c.seq ≠ k.seq := fun c hc he => hkr (List.mem_map.mpr ⟨c, hc, he⟩)
    obtain ⟨h2, hs2, ho2⟩ := ih (d := d.finish q k.seq status) (h1.alone ha) (by rw [h1.seqs]; exact hn) hr fun c hc =>
      ⟨hs1 c (hm c (List.mem_cons_of_mem _ hc)).1 (hne c hc), (hm c (List.mem_cons_of_mem _ hc)).2⟩
    refine ⟨h1.trans h2, fun y hy hys => ?_, fun c hc => ?_⟩
    · rw [List.map_cons, List.mem_cons, not_or] at hys
      exact hs2 y (hs1 y hy hys.1) hys.2
    · rcases List.mem_cons.mp hc with rfl | hc
      · exact ⟨x, h2.done x hx hxd, hxs, hxd, hxo⟩
      · rw [← h1.moduleId]
        exact ho2 c hc

theorem Dev.answer_of_mem {d : Dev} {q : Nat} {x : Cmd} {o : Outcome} (hn : ((d.queue q).cmds.map (·.seq)).Nodup)
    (hx : x ∈ (d.queue q).cmds) (hd : x.st = .done) (ho : x.out = some o) : d.answer q x.seq = some o := by
  rw [Dev.answer, find?_seq_of_mem hn hx, Option.bind_some, if_pos hd, ho]

theorem Cmd.not_done_of_not_running {c : Cmd} (h : c.running = false) : c.st ≠ .done := by
  intro e
  simp [Cmd.running, e] at h

/-- What a drain does with the commands of a queue (R27): those that have not started answer ABANDONED, the others stay. -/
theorem Dev.abandon_ends {d : Dev} {q : Nat} (hq : q < 32) (ha : d.Alone)
    (hn : ((d.queue q).cmds.map (·.seq)).Nodup) :
    let e := d.abandon q fun c => !c.running
    d.OnlyEnds e q ∧ (∀ c ∈ (d.queue q).cmds, c.running = true → c ∈ (e.queue q).cmds) ∧
      ∀ c ∈ (d.queue q).cmds, c.running = false →
        e.answer q c.seq = some ⟨Status.abandoned, 0, 0, d.moduleId, 0⟩ := by
  intro e
  have hsub : ((d.queue q).cmds.filter fun c => !c.running).Sublist (d.queue q).cmds := List.filter_sublist
  obtain ⟨h1, h2, h3⟩ := Dev.foldl_finish_ends Status.abandoned _ hq ha hn (hn.sublist (hsub.map _)) fun c hc =>
    ⟨hsub.subset hc, Cmd.not_done_of_not_running (by simpa using List.of_mem_filter hc)⟩
  refine ⟨h1, fun c hc hr => h2 c hc fun hm => ?_, fun c hc hr => ?_⟩
  · obtain ⟨y, hy, hys⟩ := List.mem_map.mp hm
    have hyc : y = c := List.inj_on_of_nodup_map hn (hsub.subset hy) hc hys
    have := List.of_mem_filter hy
    simp [hyc, hr] at this
  · obtain ⟨x, hx, hxs, hxd, hxo⟩ := h3 c (List.mem_filter.mpr ⟨hc, by simp [hr]⟩)
    have hne : ((e.queue q).cmds.map (·.seq)).Nodup := (congrArg List.Nodup h1.seqs).mpr hn
    rw [← hxs]
    exact Dev.answer_of_mem hne hx hxd hxo

/-- The registers of a queue that begins to drain. -/
def Dev.startDrain (d : Dev) (q : Nat) : Dev :=
  ((d.put R.Q_CTRL_ENABLE 0 q).put R.Q_STATUS_STATE qDraining q).put R.Q_STATUS_ERR 0 q

theorem Dev.get_startDrain (d : Dev) (q : Nat) :
    (d.startDrain q).qState q = qDraining ∧ (d.startDrain q).get R.Q_CTRL_ENABLE q = 0 ∧
      (d.startDrain q).get R.Q_STATUS_ERR q = 0 := by
  have hs := (qStatus_ne_qCtrl q).symm
  unfold Dev.startDrain
  refine ⟨?_, ?_, Dev.get_put _ _ _ _ _ (by decide)⟩
  · rw [Dev.qState, Dev.get_put_apart _ _ R.Q_STATUS_STATE _ _ _ (by decide)]
    exact Dev.get_put _ _ _ _ _ (by decide)
  · rw [Dev.get_put_ne _ _ _ _ _ _ _ _ hs, Dev.get_put_ne _ _ _ _ _ _ _ _ hs]
    exact Dev.get_put _ _ _ _ _ (by decide)

theorem Dev.Keeps.startDrain {d0 d : Dev} {ws : Nat → Prop} {ps : List Part} (h : d0.Keeps d ws ps) (q : Nat)
    (hc : ws (R.Q_CTRL.off q 0)) (hs : ws (R.Q_STATUS.off q 0)) : d0.Keeps (d.startDrain q) ws ps :=
  ((h.put _ _ _ _ hc).put _ _ _ _ hs).put _ _ _ _ hs

theorem Dev.startDrain_queue (d : Dev) (q r : Nat) : (d.startDrain q).queue r = d.queue r := by
  rw [Dev.startDrain, Dev.put_queue, Dev.put_queue, Dev.put_queue]

theorem Dev.startDrain_moduleId (d : Dev) (q : Nat) (hq : q ≤ 16) : (d.startDrain q).moduleId = d.moduleId := by
  have k : d.Keeps (d.startDrain q) (· ∈ [R.Q_CTRL.off q 0, R.Q_STATUS.off q 0]) [] :=
    (Dev.Keeps.refl _ _ _).startDrain q (by simp) (by simp)
  refine k.get R.PAENT_ID_MODULE 0 0 ?_
  simp only [List.mem_cons, List.not_mem_nil, or_false, RegDesc.off, R.PAENT_ID_MODULE, R.PAENT_ID, R.Q_CTRL, R.Q_STATUS]
  omega

theorem queueDisable_of_running {d : Dev} {q : Nat} (v : Word) (hq : q ≤ 16) (he : d.on R.Q_CTRL_ENABLE q = true)
    (hs : d.qState q = qRunning) :
    queueDisable q v d = ((d.startDrain q).abandon q fun c => !c.running).drainCheck q := by
  unfold queueDisable Dev.qCtrlFields
  dsimp only
  rw [if_neg (by simp [evQ]; omega), if_pos he, if_pos (by simp [hs])]
  rfl

theorem Dev.drainCheck_cmds (d : Dev) (q : Nat) : ((d.drainCheck q).queue q).cmds = (d.queue q).cmds := by
  unfold Dev.drainCheck
  dsimp only
  split
  · rw [Dev.queue_setQueue_same]
  · rfl

theorem Dev.Keeps.drainCheck {d0 d : Dev} {ws : Nat → Prop} {ps : List Part} (h : d0.Keeps d ws ps) (q : Nat)
    (hs : ws (R.Q_STATUS.off q 0)) (hp : Part.host ∈ ps) : d0.Keeps (d.drainCheck q) ws ps := by
  unfold Dev.drainCheck
  exact .ite (fun _ => (h.put _ _ _ _ hs).setQueue _ _ hp) fun _ => h

/-- The end of a drain moves STATE only. -/
theorem Dev.get_drainCheck (d : Dev) (q : Nat) :
    (d.drainCheck q).get R.Q_CTRL_ENABLE q = d.get R.Q_CTRL_ENABLE q ∧
      (d.drainCheck q).get R.Q_STATUS_ERR q = d.get R.Q_STATUS_ERR q := by
  unfold Dev.drainCheck
  dsimp only
  split
  · rw [Dev.setQueue_get, Dev.setQueue_get, Dev.get_put_ne _ _ _ _ _ _ _ _ (qStatus_ne_qCtrl q).symm,
      Dev.get_put_apart _ _ _ _ _ _ (by decide)]
    exact ⟨rfl, rfl⟩
  · exact ⟨rfl, rfl⟩

theorem Dev.drainCheck_of_none {d : Dev} {q : Nat} (h : d.qState q = qDraining) (hc : (d.queue q).cmds = []) :
    (d.drainCheck q).qState q = qDisabled := by
  unfold Dev.drainCheck
  dsimp only
  rw [if_pos (by simp [h, hc]), Dev.qState, Dev.setQueue_get]
  exact Dev.get_put _ _ _ _ _ (by decide)

/-- A drain goes on while a command is not done. -/
theorem Dev.drainCheck_of_undone {d : Dev} {q : Nat} {c : Cmd} (hc : c ∈ (d.queue q).cmds) (hd : c.st ≠ .done) :
    d.drainCheck q = d := by
  unfold Dev.drainCheck
  dsimp only
  refine if_neg fun h => ?_
  simp only [Bool.and_eq_true, Bool.or_eq_true, List.isEmpty_iff, List.all_eq_true, decide_eq_true_eq] at h
  rcases h.2 with h | h
  · simp [h] at hc
  · exact hd (by simpa using h.1 c hc)

theorem queueDisable_drains (t q : Nat) (v : Word) (s : State) (hq : q < 16) (hr : s.dev.Reaches 0x100000)
    (ha : s.dev.Alone) (he : s.dev.on R.Q_CTRL_ENABLE q = true) (hs : s.dev.qState q = qRunning)
    (hn : ((s.dev.queue q).cmds.map (·.seq)).Nodup) :
    ∃ s', exec (.queueDisable t q v) s = .next s' ∧ s'.dev.get R.Q_CTRL_ENABLE q = 0 ∧ s'.dev.get R.Q_STATUS_ERR q = 0 ∧
      (∀ c ∈ (s.dev.queue q).cmds, c.running = false →
        s'.dev.answer q c.seq = some ⟨Status.abandoned, 0, 0, s.dev.moduleId, 0⟩) ∧
      (∀ c ∈ (s.dev.queue q).cmds, c.running = true → c ∈ (s'.dev.queue q).cmds) ∧
      ((s.dev.queue q).cmds = [] → s'.dev.qState q = qDisabled) ∧
      (∀ c ∈ (s.dev.queue q).cmds, c.running = true → c.st ≠ .done → s'.dev.qState q = qDraining) ∧
      s.Keeps s' t [R.Q_CTRL.off q 0, R.Q_STATUS.off q 0] [.host, .pair] := by
  have hk : (s.dev.clock t).Keeps ((s.dev.clock t).startDrain q) (· ∈ [R.Q_CTRL.off q 0, R.Q_STATUS.off q 0])
      [.host, .pair] := (Dev.Keeps.refl _ _ _).startDrain q (by simp) (by simp)
  obtain ⟨hst, hen, her⟩ := (s.dev.clock t).get_startDrain q
  have hmod := (s.dev.clock t).startDrain_moduleId q (by omega)
  have hal : ((s.dev.clock t).startDrain q).Alone := Dev.Alone.of_keeps (d := s.dev.clock t) ha hk (by
    simp only [List.mem_cons, List.not_mem_nil, or_false, RegDesc.off, R.PAIR_STATUS, R.Q_CTRL, R.Q_STATUS]
    omega)
  have hqu : ((s.dev.clock t).startDrain q).queue q = s.dev.queue q := (s.dev.clock t).startDrain_queue q q
  rw [exec_queueDisable, State.onDev, Dev.gated_of_reaches (hr.clock t),
    queueDisable_of_running (d := s.dev.clock t) v (by omega) he hs]
  generalize (s.dev.clock t).startDrain q = e at hk hst hen her hmod hal hqu
  obtain ⟨hends, hstay, hans⟩ := Dev.abandon_ends (by omega) hal (hqu ▸ hn)
  rw [hqu] at hstay hans
  generalize e.abandon q (fun c => !c.running) = x at hends hstay hans
  have hx : ∀ f : FldDesc, x.get f q = e.get f q := fun f => hends.keeps.get f q 0 id
  obtain ⟨h1, h2⟩ := x.get_drainCheck q
  refine ⟨_, rfl, h1.trans ((hx _).trans hen), h2.trans ((hx _).trans her), fun c hc hrun => ?_, fun c hc hrun => ?_,
    fun h0 => ?_, fun c hc hrun hd => ?_, rfl, .inr rfl, ?_⟩
  · rw [Dev.answer, x.drainCheck_cmds, ← Dev.answer, hans c hc hrun, hmod]
    rfl
  · exact x.drainCheck_cmds q ▸ hstay c hc hrun
  · refine Dev.drainCheck_of_none ((hx _).trans hst) ?_
    simpa [hqu, h0] using hends.seqs
  · exact (congrArg (·.qState q) (Dev.drainCheck_of_undone (hstay c hc hrun) hd)).trans ((hx _).trans hst)
  · exact (hk.trans (hends.keeps.mono (fun _ h => h.elim) (fun _ h => h))).drainCheck q (by simp) (by simp)

/-! ### Doorbells -/

theorem exec_sqTailDoorbell (t q : Nat) (v : Word) (s : State) :
    exec (.sqTailDoorbell t q v) s = s.onDev t (·.gated 0x110000 (sqDoorbell q v)) := rfl

theorem exec_cqHeadDoorbell (t q : Nat) (v : Word) (s : State) :
    exec (.cqHeadDoorbell t q v) s = s.onDev t (·.gated 0x110000 (cqDoorbell q v)) := rfl

theorem sqDoorbell_of_running {d : Dev} {q : Nat} (v : Word) (hq : q < 16) (hs : d.qState q = qRunning) :
    sqDoorbell q v d = if v.toNat < 2 ^ d.get R.Q_CTRL_SQ_LOG2 q then d.setQueue q { d.queue q with sqTail := v.toNat }
      else d.queueErr q 2 := by
  unfold sqDoorbell
  rw [if_neg (by simp [hs, evQ]; omega)]
  by_cases h : v.toNat < 2 ^ d.get R.Q_CTRL_SQ_LOG2 q
  · rw [if_neg (by omega), if_pos h]
  · rw [if_pos (by omega), if_neg h]

theorem cqDoorbell_of_running {d : Dev} {q : Nat} (v : Word) (hq : q ≤ 16) (hs : d.qState q = qRunning)
    (hc : (d.queue q).cmds = []) (hr : (d.queue q).records = []) (hh : d.lay.held = []) :
    cqDoorbell q v d = if v.toNat < 2 ^ d.get R.Q_CTRL_CQ_LOG2 q then d.setQueue q { d.queue q with cqHead := v.toNat }
      else d.queueErr q 2 := by
  unfold cqDoorbell Dev.cqSize
  rw [if_neg (by simp [hs, evQ, qRunning, qDisabled]; omega)]
  by_cases h : v.toNat < 2 ^ d.get R.Q_CTRL_CQ_LOG2 q
  · rw [if_neg (by omega), if_pos h, Dev.flushQueue_of_empty (by rw [Dev.queue_setQueue_same]; exact hc)
      (by rw [Dev.queue_setQueue_same]; exact hr) (by rw [Dev.setQueue_lay, hh])]
    refine Dev.drainCheck_of_not_draining ?_
    rw [Dev.qState, Dev.setQueue_get, ← Dev.qState, hs]
    decide
  · rw [if_pos (by omega), if_neg h]

/-- A doorbell out of range puts the queue in ERROR (BAD_DOORBELL), and moves nothing else but the recorder. -/
theorem badDoorbell (s : State) (t q : Nat) (hs : s.dev.qState q = qRunning) :
    let e := (s.dev.clock t).queueErr q 2
    e.qState q = qError ∧ e.get R.Q_STATUS_ERR q = 2 ∧ e.queue q = s.dev.queue q ∧
      s.Keeps { s with dev := e } t (R.Q_STATUS.off q 0 :: recOffs) [.recd] := by
  obtain ⟨h1, h2, h3⟩ := Dev.queueErr_of_running (d := s.dev.clock t) (code := 2) hs (by omega)
  exact ⟨h1, h2, Dev.queue_of_host h3 q, rfl, .inr rfl, (Dev.Keeps.refl _ _ _).queueErr _ _ (by simp)⟩

theorem sqTailDoorbell_of_running (t q : Nat) (v : Word) (s : State) (hq : q < 16) (hr : s.dev.Reaches 0x110000)
    (hs : s.dev.qState q = qRunning) :
    ∃ s', exec (.sqTailDoorbell t q v) s = .next s' ∧
      (if v.toNat < 2 ^ s.dev.get R.Q_CTRL_SQ_LOG2 q then
        s'.dev.queue q = { s.dev.queue q with sqTail := v.toNat } ∧ s.Keeps s' t [] [.host]
      else s'.dev.qState q = qError ∧ s'.dev.get R.Q_STATUS_ERR q = 2 ∧ s'.dev.queue q = s.dev.queue q ∧
        s.Keeps s' t (R.Q_STATUS.off q 0 :: recOffs) [.recd]) := by
  rw [exec_sqTailDoorbell, State.onDev, Dev.gated_of_reaches (hr.clock t),
    sqDoorbell_of_running (d := s.dev.clock t) v hq hs, Dev.clock_get]
  refine ⟨_, rfl, ?_⟩
  by_cases h : v.toNat < 2 ^ s.dev.get R.Q_CTRL_SQ_LOG2 q
  · rw [if_pos h, if_pos h]
    exact ⟨Dev.queue_setQueue_same _ _ _, rfl, .inr rfl, (Dev.Keeps.refl _ _ _).setQueue _ _ (by simp)⟩
  · rw [if_neg h, if_neg h]
    exact badDoorbell s t q hs

theorem cqHeadDoorbell_of_running (t q : Nat) (v : Word) (s : State) (hq : q ≤ 16) (hr : s.dev.Reaches 0x110000)
    (hs : s.dev.qState q = qRunning) (hc : (s.dev.queue q).cmds = []) (hrec : (s.dev.queue q).records = [])
    (hh : s.dev.lay.held = []) :
    ∃ s', exec (.cqHeadDoorbell t q v) s = .next s' ∧
      (if v.toNat < 2 ^ s.dev.get R.Q_CTRL_CQ_LOG2 q then
        s'.dev.queue q = { s.dev.queue q with cqHead := v.toNat } ∧ s.Keeps s' t [] [.host]
      else s'.dev.qState q = qError ∧ s'.dev.get R.Q_STATUS_ERR q = 2 ∧ s'.dev.queue q = s.dev.queue q ∧
        s.Keeps s' t (R.Q_STATUS.off q 0 :: recOffs) [.recd]) := by
  rw [exec_cqHeadDoorbell, State.onDev, Dev.gated_of_reaches (hr.clock t),
    cqDoorbell_of_running (d := s.dev.clock t) v hq hs hc hrec hh, Dev.clock_get]
  refine ⟨_, rfl, ?_⟩
  by_cases h : v.toNat < 2 ^ s.dev.get R.Q_CTRL_CQ_LOG2 q
  · rw [if_pos h, if_pos h]
    exact ⟨Dev.queue_setQueue_same _ _ _, rfl, .inr rfl, (Dev.Keeps.refl _ _ _).setQueue _ _ (by simp)⟩
  · rw [if_neg h, if_neg h]
    exact badDoorbell s t q hs

/-! ### Fences -/

theorem exec_fenceWrite (t f : Nat) (v : Word) (s : State) :
    exec (.fenceWrite t f v) s = s.onDev t (·.gatedM (R.FENCE_VAL.off f 0) v (fenceWrite f v)) := rfl

theorem fence_notMem_recOffs {f : Nat} (hf : f < 1024) : R.FENCE_VAL.off f 0 ∉ recOffs := by
  simp only [recOffs, List.mem_cons, List.not_mem_nil, or_false, RegDesc.off, R.FENCE_VAL, R.REC_SEQ, R.REC_STATUS]
  omega

/-- A fence takes a later value, and only that moves it (R34). -/
theorem Dev.reg_fenceTo (d : Dev) {f : Nat} (v : Nat) (hf : f < 1024) :
    (d.fenceTo f v).reg R.FENCE_VAL f =
      if later 32 v (d.reg R.FENCE_VAL f) = true then v % 2 ^ 32 else d.reg R.FENCE_VAL f := by
  unfold Dev.fenceTo
  split
  · exact Dev.reg_setReg _ _ _ _ _
  · split
    · rfl
    · exact ((Dev.Keeps.refl d (· ∈ recOffs) [.recd]).info _ _ _ _ _ (fun _ hx => hx) (by simp)).reg _ _ _
        (fence_notMem_recOffs hf)

/-- The recorder hears of a fence only when its new value is an earlier one. -/
theorem Dev.recd_fenceTo {d : Dev} {f v : Nat}
    (h : later 32 v (d.reg R.FENCE_VAL f) = true ∨ v % 2 ^ 32 = d.reg R.FENCE_VAL f) :
    (d.fenceTo f v).recd = d.recd := by
  unfold Dev.fenceTo
  split
  · rfl
  · next hl => rw [if_pos (h.resolve_left hl)]

theorem mirrored_fence {f : Nat} (hf : f < 1024) : mirrored (R.FENCE_VAL.off f 0) = true := by
  have h1 : 0x180000 ≤ R.FENCE_VAL.off f 0 ∧ R.FENCE_VAL.off f 0 < 0x181000 := by
    simp only [RegDesc.off, R.FENCE_VAL]
    omega
  simp [mirrored, h1]

theorem fenceWrite_advances (t f : Nat) (v : Word) (s : State) (hf : f < 1024)
    (hr : s.dev.Reaches (R.FENCE_VAL.off f 0)) (ha : s.dev.Alone) :
    ∃ s', exec (.fenceWrite t f v) s = .next s' ∧
      s'.dev.reg R.FENCE_VAL f = (if later 32 v.toNat (s.dev.reg R.FENCE_VAL f) then v.toNat else s.dev.reg R.FENCE_VAL f) ∧
      (later 32 v.toNat (s.dev.reg R.FENCE_VAL f) = true → s'.dev.recd = s.dev.recd) ∧
      (v.toNat = s.dev.reg R.FENCE_VAL f → s'.dev.recd = s.dev.recd) ∧
      s.Keeps s' t (R.FENCE_VAL.off f 0 :: recOffs) [.pair, .recd] := by
  obtain ⟨x, hx⟩ := (s.dev.clock t).hostEffect_of_alone v (fenceWrite f v) (mirrored_fence hf) ha
  have hv : v.toNat % 2 ^ 32 = v.toNat := Nat.mod_eq_of_lt v.isLt
  have hreg := (s.dev.clock t).reg_fenceTo v.toNat hf
  rw [Dev.clock_reg, hv] at hreg
  have hlater : later 32 v.toNat (s.dev.reg R.FENCE_VAL f) = true →
      ((s.dev.clock t).fenceTo f v.toNat).recd = s.dev.recd := fun h => Dev.recd_fenceTo (d := s.dev.clock t) (.inl h)
  have hsame : v.toNat = s.dev.reg R.FENCE_VAL f → ((s.dev.clock t).fenceTo f v.toNat).recd = s.dev.recd :=
    fun h => Dev.recd_fenceTo (d := s.dev.clock t) (.inr (hv.trans h))
  have hk : (s.dev.clock t).Keeps ((s.dev.clock t).fenceTo f v.toNat) (· ∈ R.FENCE_VAL.off f 0 :: recOffs)
      [.pair, .recd] :=
    (Dev.Keeps.refl _ _ _).fenceTo _ _ (fun _ hx => List.mem_cons_of_mem _ hx) (by simp) (by simp)
  rw [exec_fenceWrite, State.onDev, Dev.gatedM, Dev.gated_of_reaches (hr.clock t), hx, fenceWrite, if_pos hf]
  exact ⟨_, rfl, (Dev.setPair_reg _ _ _ _ _).trans hreg, fun h => (Dev.setPair_recd _ _).trans (hlater h),
    fun h => (Dev.setPair_recd _ _).trans (hsame h), rfl, .inr rfl, hk.setPair _ (by simp)⟩

/-- Settles O11: one equation for each write of a queue's registers and of a fence; a drain ends the commands that have
not started one after the other. -/
theorem queueRegisters : Obligations.QueueRegisters :=
  ⟨⟨queueEnable_of_idle, queueDisable_drains⟩, ⟨sqTailDoorbell_of_running, cqHeadDoorbell_of_running⟩,
    fenceWrite_advances⟩

end Sys2Proof.Machine
end

section
/-! PROOFS. Submission entries against the expected SEQ, and the completion of the oldest accepted command (R28 to R31,
R36). -/

namespace Sys2Proof.Machine

/-! ### Entries fetched -/

theorem exec_commandEntryFetched (t q : Nat) (e : List Byte) (s : State) :
    exec (.commandEntryFetched t q e) s = s.onDev t (entryFetched q e) := rfl

/-- A fetch of the queue may act: the ring holds an entry, and nothing keeps its completion back (R22, R28, R30, R355). -/
structure Dev.Fetches (d : Dev) (q : Nat) : Prop where
  queue : q < 16
  running : d.qState q = qRunning
  entry : d.get R.Q_STATUS_SQ_HEAD q ≠ (d.queue q).sqTail
  room : d.cqFull q = false
  busMaster : d.host.busMaster = true
  acts : d.queueActs = true
  clocked : d.clockOn 6 = true
  size : d.get R.Q_CTRL_SQ_LOG2 q ≤ 12

/-- The queue's head past one more entry. -/
def Dev.headOn (d : Dev) (q : Nat) : Dev :=
  d.put R.Q_STATUS_SQ_HEAD ((d.get R.Q_STATUS_SQ_HEAD q + 1) % 2 ^ d.get R.Q_CTRL_SQ_LOG2 q) q

/-- The entry's command accepted behind the others. -/
def Dev.acceptEntry (d : Dev) (q : Nat) (e : List Byte) : Dev :=
  let x := (d.setReg R.Q_EXP_SEQ (d.reg R.Q_EXP_SEQ q + 1) q).setQueue q
    { d.queue q with cmds := (d.queue q).cmds ++ [Cmd.ofEntry e d.host.accepted] }
  { x with host := { x.host with accepted := x.host.accepted + 1 } }

/-- The command that stands for an entry error, already complete (R30). -/
def Dev.errorEntry (d : Dev) (q : Nat) (e : List Byte) : Cmd :=
  { Cmd.ofEntry e d.host.accepted with
    st := .done, entryErr := true, relFence := 0, flags := 0, ctime := d.wt48, badField := none
    out := some ⟨Status.seqError, 0, 0, d.moduleId, d.reg R.Q_EXP_SEQ q⟩ }

/-- The three ways of a fetched entry, once the head is past it. -/
theorem entryFetched_of_fetches {d : Dev} {q : Nat} (h : d.Fetches q) (e : List Byte) :
    ∃ m, entryFetched q e d =
      if sdiff 32 (leAt e 0 4) ((d.headOn q).reg R.Q_EXP_SEQ q) = 0 then ((d.headOn q).acceptEntry q e).mirror m
      else if -((2 ^ d.get R.Q_CTRL_SQ_LOG2 q : Nat) : Int) ≤ sdiff 32 (leAt e 0 4) ((d.headOn q).reg R.Q_EXP_SEQ q) ∧
        sdiff 32 (leAt e 0 4) ((d.headOn q).reg R.Q_EXP_SEQ q) < 0 then (d.headOn q).bump R.Q_DUP_COUNT_COUNT q
      else ((d.headOn q).setQueue q
        { d.queue q with cmds := (d.queue q).cmds ++ [(d.headOn q).errorEntry q e] }).queueErr q 5 := by
  refine ⟨.accepted q (d.get R.Q_STATUS_SQ_HEAD q) e, ?_⟩
  have hq := h.queue
  unfold entryFetched
  dsimp only
  rw [if_neg (by simp [h.running, h.entry, h.room, h.busMaster, h.acts, h.clocked, evQ]; omega)]
  rfl

theorem Dev.keeps_headOn (d : Dev) (q : Nat) : d.Keeps (d.headOn q) (· = R.Q_STATUS.off q 0) [] :=
  (Dev.Keeps.refl _ _ _).put _ _ _ _ rfl

theorem Dev.get_headOn {d : Dev} {q : Nat} (h : d.Fetches q) :
    (d.headOn q).get R.Q_STATUS_SQ_HEAD q =
      (d.get R.Q_STATUS_SQ_HEAD q + 1) % 2 ^ d.get R.Q_CTRL_SQ_LOG2 q ∧ (d.headOn q).qState q = qRunning := by
  have hw : 2 ^ d.get R.Q_CTRL_SQ_LOG2 q ≤ 2 ^ 12 := Nat.pow_le_pow_right (by omega) h.size
  refine ⟨?_, (Dev.get_put_apart _ _ R.Q_STATUS_STATE _ _ _ (by decide)).trans h.running⟩
  exact (Dev.get_put _ _ _ _ _ (by decide)).trans
    (Nat.mod_eq_of_lt (lt_of_lt_of_le (Nat.mod_lt _ (Nat.two_pow_pos _)) hw))

/-- What the head's move leaves of a queue's numbers. -/
theorem Dev.headOn_keeps {d : Dev} {q : Nat} (hq : q < 16) :
    (d.headOn q).reg R.Q_EXP_SEQ q = d.reg R.Q_EXP_SEQ q ∧
      (d.headOn q).get R.Q_DUP_COUNT_COUNT q = d.get R.Q_DUP_COUNT_COUNT q ∧
      (d.headOn q).moduleId = d.moduleId ∧ (d.headOn q).queue q = d.queue q := by
  have k := d.keeps_headOn q
  refine ⟨k.reg _ _ _ ?_, k.get _ _ _ ?_, k.get _ _ _ ?_, Dev.put_queue _ _ _ _ _ _⟩ <;>
    simp only [RegDesc.off, R.Q_EXP_SEQ, R.Q_STATUS, R.Q_DUP_COUNT_COUNT, R.Q_DUP_COUNT, R.PAENT_ID_MODULE,
      R.PAENT_ID] <;>
    omega

theorem Dev.keeps_acceptEntry (d : Dev) (q : Nat) (e : List Byte) (m : MirrorItem) :
    d.Keeps ((d.acceptEntry q e).mirror m) (· = R.Q_EXP_SEQ.off q 0) [.host, .pair] := by
  unfold Dev.acceptEntry
  exact ((((Dev.Keeps.refl d (· = R.Q_EXP_SEQ.off q 0) [.host, .pair]).setReg _ _ _ _ rfl).setQueue _ _ (by simp)).withHost _ (by simp)).mirror _ (by simp)

theorem Dev.queue_withAccepted (d : Dev) (n q : Nat) :
    ({ d with host := { d.host with accepted := n } } : Dev).queue q = d.queue q := rfl

theorem Dev.reg_withHost (d : Dev) (h : HostSt) (r : RegDesc) (i j : Nat) :
    ({ d with host := h } : Dev).reg r i j = d.reg r i j := rfl

/-- An accepted entry: the command stands behind the others, and the next SEQ is expected. -/
theorem Dev.acceptEntry_sets (d : Dev) (q : Nat) (e : List Byte) (m : MirrorItem) :
    let x := (d.acceptEntry q e).mirror m
    (x.queue q).cmds = (d.queue q).cmds ++ [Cmd.ofEntry e d.host.accepted] ∧
      x.reg R.Q_EXP_SEQ q = (d.reg R.Q_EXP_SEQ q + 1) % 2 ^ 32 ∧ x.host.accepted = d.host.accepted + 1 := by
  obtain ⟨p, hp⟩ := (d.acceptEntry q e).mirror_eq m
  dsimp only
  rw [hp, Dev.setPair_queue, Dev.setPair_reg, Dev.setPair_host, Dev.acceptEntry, Dev.queue_withAccepted,
    Dev.queue_setQueue_same, Dev.reg_withHost, Dev.setQueue_reg, Dev.reg_setReg]
  exact ⟨rfl, rfl, rfl⟩

theorem expSeq_ne_qStatus (q : Nat) : R.Q_STATUS.off q 0 ≠ R.Q_EXP_SEQ.off q 0 := by
  simp only [RegDesc.off, R.Q_EXP_SEQ, R.Q_STATUS]
  omega

theorem dupCount_ne_qStatus (q : Nat) : R.Q_STATUS.off q 0 ≠ R.Q_DUP_COUNT.off q 0 := by
  simp only [RegDesc.off, R.Q_DUP_COUNT, R.Q_STATUS]
  omega

/-- The registers that a fetch may move. -/
def fetchOffs (q : Nat) : List Nat := R.Q_STATUS.off q 0 :: R.Q_EXP_SEQ.off q 0 :: R.Q_DUP_COUNT.off q 0 :: recOffs

theorem Dev.Keeps.headOn {d e : Dev} {q : Nat} {ws : Nat → Prop} {ps : List Part} (k : (d.headOn q).Keeps e ws ps)
    (hw : ∀ x, ws x → x ∈ fetchOffs q) (hp : ps ⊆ [.host, .pair, .recd]) :
    d.Keeps e (· ∈ fetchOffs q) [.host, .pair, .recd] :=
  ((d.keeps_headOn q).mono (fun x hx => by simp [hx, fetchOffs]) (by simp)).trans (k.mono hw hp)

/-- A fetched entry with the expected SEQ. -/
theorem Dev.fetch_accepts {d : Dev} {q : Nat} (h : d.Fetches q) (e : List Byte) (m : MirrorItem) :
    let x := ((d.headOn q).acceptEntry q e).mirror m
    x.get R.Q_STATUS_SQ_HEAD q = (d.get R.Q_STATUS_SQ_HEAD q + 1) % 2 ^ d.get R.Q_CTRL_SQ_LOG2 q ∧
      ((x.queue q).cmds = (d.queue q).cmds ++ [Cmd.ofEntry e d.host.accepted] ∧
        x.reg R.Q_EXP_SEQ q = (d.reg R.Q_EXP_SEQ q + 1) % 2 ^ 32 ∧ x.host.accepted = d.host.accepted + 1 ∧
        x.qState q = qRunning) ∧
      d.Keeps x (· ∈ fetchOffs q) [.host, .pair, .recd] := by
  intro x
  obtain ⟨hhead, hrun⟩ := Dev.get_headOn h
  obtain ⟨hexp, -, -, hqu⟩ := Dev.headOn_keeps h.queue
  obtain ⟨hc, he, ha⟩ := (d.headOn q).acceptEntry_sets q e m
  rw [hqu] at hc
  rw [hexp] at he
  have k := (d.headOn q).keeps_acceptEntry q e m
  have hne := expSeq_ne_qStatus q
  exact ⟨(k.get _ _ _ hne).trans hhead, ⟨hc, he, ha, (k.get R.Q_STATUS_STATE _ _ hne).trans hrun⟩,
    k.headOn (fun y hy => by simp [hy, fetchOffs]) (by simp)⟩

/-- A duplicate. -/
theorem Dev.fetch_counts {d : Dev} {q : Nat} (h : d.Fetches q) :
    let x := (d.headOn q).bump R.Q_DUP_COUNT_COUNT q
    x.get R.Q_STATUS_SQ_HEAD q = (d.get R.Q_STATUS_SQ_HEAD q + 1) % 2 ^ d.get R.Q_CTRL_SQ_LOG2 q ∧
      (x.get R.Q_DUP_COUNT_COUNT q = min (d.get R.Q_DUP_COUNT_COUNT q + 1) (2 ^ 32 - 1) ∧ x.queue q = d.queue q ∧
        x.qState q = qRunning) ∧
      d.Keeps x (· ∈ fetchOffs q) [.host, .pair, .recd] := by
  intro x
  obtain ⟨hhead, hrun⟩ := Dev.get_headOn h
  obtain ⟨-, hdup, -, hqu⟩ := Dev.headOn_keeps h.queue
  have k : (d.headOn q).Keeps x (· = R.Q_DUP_COUNT.off q 0) [] := (Dev.Keeps.refl _ _ _).bump _ _ _ _ rfl
  have hne := dupCount_ne_qStatus q
  refine ⟨(k.get _ _ _ hne).trans hhead, ⟨?_, (Dev.bump_queue _ _ _ _ _ _).trans hqu,
    (k.get R.Q_STATUS_STATE _ _ hne).trans hrun⟩, k.headOn (fun y hy => by simp [hy, fetchOffs]) (by simp)⟩
  rw [← hdup]
  exact Dev.get_bump _ _ _ _ _ (by decide)

theorem Dev.get_queueErr_head (d : Dev) (q code : Nat) :
    (d.queueErr q code).get R.Q_STATUS_SQ_HEAD q = d.get R.Q_STATUS_SQ_HEAD q := by
  unfold Dev.queueErr
  split
  · rw [Dev.get_put_apart _ _ _ _ _ _ (by decide), Dev.get_put_apart _ _ _ _ _ _ (by decide)]
  · rfl

/-- An entry error. -/
theorem Dev.fetch_fails {d : Dev} {q : Nat} (h : d.Fetches q) (e : List Byte) :
    let x := ((d.headOn q).setQueue q
      { d.queue q with cmds := (d.queue q).cmds ++ [(d.headOn q).errorEntry q e] }).queueErr q 5
    x.get R.Q_STATUS_SQ_HEAD q = (d.get R.Q_STATUS_SQ_HEAD q + 1) % 2 ^ d.get R.Q_CTRL_SQ_LOG2 q ∧
      (x.qState q = qError ∧ x.get R.Q_STATUS_ERR q = 5 ∧ x.reg R.Q_EXP_SEQ q = d.reg R.Q_EXP_SEQ q ∧
        ∃ c, (x.queue q).cmds = (d.queue q).cmds ++ [c] ∧ c.entryErr = true ∧ c.st = .done ∧
          c.out = some ⟨Status.seqError, 0, 0, d.moduleId, d.reg R.Q_EXP_SEQ q⟩) ∧
      d.Keeps x (· ∈ fetchOffs q) [.host, .pair, .recd] := by
  intro x
  obtain ⟨hhead, hrun⟩ := Dev.get_headOn h
  obtain ⟨hexp, -, hmod, -⟩ := Dev.headOn_keeps h.queue
  have hrun' : ((d.headOn q).setQueue q
      { d.queue q with cmds := (d.queue q).cmds ++ [(d.headOn q).errorEntry q e] }).qState q = qRunning := by
    rw [Dev.qState, Dev.setQueue_get]
    exact hrun
  obtain ⟨hst, herr, hhost⟩ := Dev.queueErr_of_running (code := 5) hrun' (by omega)
  have k : (d.headOn q).Keeps x (· = R.Q_STATUS.off q 0) [.host] :=
    ((Dev.Keeps.refl _ _ _).setQueue _ _ (by simp)).queueErr _ _ rfl
  refine ⟨?_, ⟨hst, herr, (k.reg _ _ _ (expSeq_ne_qStatus q).symm).trans hexp,
    (d.headOn q).errorEntry q e, ?_, rfl, rfl, ?_⟩,
    k.headOn (fun y hy => by simp [hy, fetchOffs]) (by simp)⟩
  · rw [← hhead, Dev.get_queueErr_head, Dev.setQueue_get]
  · rw [Dev.queue_of_host hhost, Dev.queue_setQueue_same]
  · rw [← hexp, ← hmod]
    rfl

theorem Dev.Fetches.clock {d : Dev} {q : Nat} (h : d.Fetches q) (t : Nat) : (d.clock t).Fetches q :=
  ⟨h.queue, h.running, h.entry, h.room, h.busMaster, h.acts, h.clocked, h.size⟩

theorem commandEntryFetched_of_fetches (t q : Nat) (e : List Byte) (s : State) (h : s.dev.Fetches q) :
    let w := 2 ^ s.dev.get R.Q_CTRL_SQ_LOG2 q
    let d := sdiff 32 (leAt e 0 4) (s.dev.reg R.Q_EXP_SEQ q)
    ∃ s', exec (.commandEntryFetched t q e) s = .next s' ∧
      s'.dev.get R.Q_STATUS_SQ_HEAD q = (s.dev.get R.Q_STATUS_SQ_HEAD q + 1) % w ∧
      (if d = 0 then
        (s'.dev.queue q).cmds = (s.dev.queue q).cmds ++ [Cmd.ofEntry e s.dev.host.accepted] ∧
          s'.dev.reg R.Q_EXP_SEQ q = (s.dev.reg R.Q_EXP_SEQ q + 1) % 2 ^ 32 ∧
          s'.dev.host.accepted = s.dev.host.accepted + 1 ∧ s'.dev.qState q = qRunning
      else if -(w : Int) ≤ d ∧ d < 0 then
        s'.dev.get R.Q_DUP_COUNT_COUNT q = min (s.dev.get R.Q_DUP_COUNT_COUNT q + 1) (2 ^ 32 - 1) ∧
          s'.dev.queue q = s.dev.queue q ∧ s'.dev.qState q = qRunning
      else s'.dev.qState q = qError ∧ s'.dev.get R.Q_STATUS_ERR q = 5 ∧
        s'.dev.reg R.Q_EXP_SEQ q = s.dev.reg R.Q_EXP_SEQ q ∧
        ∃ c, (s'.dev.queue q).cmds = (s.dev.queue q).cmds ++ [c] ∧ c.entryErr = true ∧ c.st = .done ∧
          c.out = some ⟨Status.seqError, 0, 0, s.dev.moduleId, s.dev.reg R.Q_EXP_SEQ q⟩) ∧
      s.Keeps s' t (R.Q_STATUS.off q 0 :: R.Q_EXP_SEQ.off q 0 :: R.Q_DUP_COUNT.off q 0 :: recOffs)
        [.host, .pair, .recd] := by
  intro w d
  obtain ⟨m, hm⟩ := entryFetched_of_fetches (h.clock t) e
  rw [exec_commandEntryFetched, State.onDev, hm, (Dev.headOn_keeps h.queue).1, Dev.clock_reg, Dev.clock_get]
  by_cases h0 : d = 0
  · obtain ⟨h1, h2, h3⟩ := Dev.fetch_accepts (h.clock t) e m
    rw [if_pos h0]
    exact ⟨_, rfl, h1, (if_pos h0).mpr h2, rfl, .inr rfl, h3⟩
  · by_cases hd : -(w : Int) ≤ d ∧ d < 0
    · obtain ⟨h1, h2, h3⟩ := Dev.fetch_counts (h.clock t)
      rw [if_neg h0, if_pos hd]
      exact ⟨_, rfl, h1, (if_neg h0).mpr ((if_pos hd).mpr h2), rfl, .inr rfl, h3⟩
    · obtain ⟨h1, h2, h3⟩ := Dev.fetch_fails (h.clock t) e
      rw [if_neg h0, if_neg hd]
      exact ⟨_, rfl, h1, (if_neg h0).mpr ((if_neg hd).mpr h2), rfl, .inr rfl, h3⟩

/-! ### Completions written -/

theorem exec_completionWrite (t q : Nat) (s : State) :
    exec (.completionWrite t q) s = s.onDev t (completionWrite q) := rfl

/-- An entry goes to the ring's write position with the ring's PHASE, and the position moves on (R28, R29). -/
theorem Dev.ringPut_sets (d : Dev) (q : Nat) (e : List Byte) (n : Bool) :
    .write (d.cqBase q + (d.queue q).cqTail * 32) (withPhase e (d.queue q).phase) false ∈ (d.ringPut q e n).host.posted ∧
      ((d.ringPut q e n).queue q).cqTail = ((d.queue q).cqTail + 1) % d.cqSize q := by
  have hp : ∀ (p : Posted) (v : Queue), ((d.post p).setQueue q v).host.posted = p :: d.host.posted := fun _ _ => rfl
  have hpp : ∀ (x : Dev) (p : Posted), (x.post p).host.posted = p :: x.host.posted := fun _ _ => rfl
  have hpq : ∀ (x : Dev) (p : Posted), (x.post p).queue q = x.queue q := fun _ _ => rfl
  unfold Dev.ringPut
  dsimp only
  split
  · rw [hpp, hp, hpq, Dev.queue_setQueue_same]
    simp
  · rw [hp, Dev.queue_setQueue_same]
    simp

/-- The 32 bytes of a command's completion, before PHASE. -/
def Dev.completionBytes (d : Dev) (q : Nat) (c : Cmd) (o : Outcome) : List Byte :=
  entryBytes c.seq c.opcode o.status o.reason o.detail (d.get R.Q_STATUS_SQ_HEAD q) o.source c.ctime o.result

/-- The completion in the ring, and its command gone from the queue. -/
def Dev.putCompletion (d : Dev) (q : Nat) (c : Cmd) (o : Outcome) (rest : List Cmd) : Dev :=
  (d.ringPut q (d.completionBytes q c o) c.notify).setCmds q rest

/-- The completion of the oldest accepted command may be written, without a drain that it would end. -/
structure Dev.Completes (d : Dev) (q : Nat) (c : Cmd) (rest : List Cmd) (o : Outcome) : Prop where
  writes : d.Writes q
  cmds : (d.queue q).cmds = c :: rest
  done : c.st = .done
  out : c.out = some o
  free : c.awaiting = false
  command : c.entryErr = false
  noDrain : d.qState q ≠ qDraining
  fence : c.relFence < 1024
  good : c.badField = none

/-- The completion written: Q_DONE_SEQ takes the SEQ, and the release fence follows. -/
def Dev.afterWrite (d : Dev) (q : Nat) (c : Cmd) (p : PairSt) : Dev :=
  let e := (d.setPair p).setReg R.Q_DONE_SEQ c.seq q
  if c.relEn = true then e.fenceTo c.relFence c.relValue else e

theorem Dev.writeFront_of_completes {d : Dev} {q : Nat} {c : Cmd} {rest : List Cmd} {o : Outcome}
    (h : d.Completes q c rest o) :
    ∃ p, d.writeFront q = some ((d.putCompletion q c o rest).afterWrite q c p) := by
  obtain ⟨p, hp⟩ := (d.putCompletion q c o rest).mirror_eq (.written q c.seq
    ((d.putCompletion q c o rest).queue q).cqTail ((d.putCompletion q c o rest).queue q).phase)
  refine ⟨p, ?_⟩
  unfold Dev.writeFront
  rw [h.cmds]
  dsimp only
  rw [h.out]
  dsimp only
  rw [if_neg (by simp [h.done, h.free, h.writes.cqOpen]), if_neg (by simp [h.writes.busMaster])]
  simp only [h.command, h.good, Bool.false_eq_true, if_false, Nat.add_zero, ne_eq, reduceCtorEq, not_false_eq_true,
    decide_true, Bool.and_true]
  rw [← Dev.completionBytes, ← Dev.putCompletion, hp]
  rfl

theorem Dev.keeps_putCompletion (d : Dev) (q : Nat) (c : Cmd) (o : Outcome) (rest : List Cmd) :
    d.Keeps (d.putCompletion q c o rest) (fun _ => False) [.host] := by
  unfold Dev.putCompletion
  exact ((Dev.Keeps.refl _ _ _).ringPut _ _ _ (by simp)).setCmds _ _ (by simp)

theorem Dev.putCompletion_sets (d : Dev) (q : Nat) (c : Cmd) (o : Outcome) (rest : List Cmd) :
    let x := d.putCompletion q c o rest
    (x.queue q).cmds = rest ∧ (x.queue q).cqTail = ((d.queue q).cqTail + 1) % d.cqSize q ∧
      .write (d.cqBase q + (d.queue q).cqTail * 32) (withPhase (d.completionBytes q c o) (d.queue q).phase) false ∈
        x.host.posted := by
  have hp : ∀ (x : Dev) (v : Queue), (x.setQueue q v).host.posted = x.host.posted := fun _ _ => rfl
  obtain ⟨h1, h2⟩ := d.ringPut_sets q (d.completionBytes q c o) c.notify
  dsimp only
  rw [Dev.putCompletion, Dev.setCmds, Dev.queue_setQueue_same, hp]
  exact ⟨rfl, h2, h1⟩

theorem doneSeq_ne_fence {q f : Nat} (hq : q < 16) : R.Q_DONE_SEQ.off q 0 ≠ R.FENCE_VAL.off f 0 := by
  simp only [RegDesc.off, R.Q_DONE_SEQ, R.FENCE_VAL]
  omega

theorem doneSeq_notMem_recOffs {q : Nat} (hq : q < 16) : R.Q_DONE_SEQ.off q 0 ∉ recOffs := by
  simp only [recOffs, List.mem_cons, List.not_mem_nil, or_false, RegDesc.off, R.Q_DONE_SEQ, R.REC_SEQ, R.REC_STATUS]
  omega

theorem Dev.keeps_afterWrite (d : Dev) (q : Nat) (c : Cmd) (p : PairSt) :
    d.Keeps (d.afterWrite q c p) (· ∈ R.Q_DONE_SEQ.off q 0 :: R.FENCE_VAL.off c.relFence 0 :: recOffs)
      [.pair, .recd] := by
  have k : d.Keeps ((d.setPair p).setReg R.Q_DONE_SEQ c.seq q)
      (· ∈ R.Q_DONE_SEQ.off q 0 :: R.FENCE_VAL.off c.relFence 0 :: recOffs) [.pair, .recd] :=
    ((Dev.Keeps.refl _ _ _).setPair _ (by simp)).setReg _ _ _ _ (by simp)
  unfold Dev.afterWrite
  exact .ite (fun _ => k.fenceTo _ _ (fun x hx => by simp [hx]) (by simp) (by simp)) fun _ => k

theorem Dev.keeps_fenceTo (d : Dev) (f v : Nat) :
    d.Keeps (d.fenceTo f v) (· ∈ R.FENCE_VAL.off f 0 :: recOffs) [.recd] :=
  (Dev.Keeps.refl _ _ _).fenceTo _ _ (fun x hx => by simp [hx]) (by simp) (by simp)

/-- Q_DONE_SEQ and the release fence after a completion is written (R31, R36). -/
theorem Dev.afterWrite_sets (d : Dev) {q : Nat} {c : Cmd} (p : PairSt) (hq : q < 16) (hf : c.relFence < 1024) :
    let x := d.afterWrite q c p
    x.reg R.Q_DONE_SEQ q = c.seq % 2 ^ 32 ∧
      (c.relEn = true → later 32 c.relValue (d.reg R.FENCE_VAL c.relFence) = true →
        x.reg R.FENCE_VAL c.relFence = c.relValue % 2 ^ 32) ∧
      (c.relEn = false → x.reg R.FENCE_VAL c.relFence = d.reg R.FENCE_VAL c.relFence) := by
  have hd : ((d.setPair p).setReg R.Q_DONE_SEQ c.seq q).reg R.Q_DONE_SEQ q = c.seq % 2 ^ 32 := Dev.reg_setReg _ _ _ _ _
  have hv : ((d.setPair p).setReg R.Q_DONE_SEQ c.seq q).reg R.FENCE_VAL c.relFence = d.reg R.FENCE_VAL c.relFence :=
    Dev.reg_setReg_ne _ _ _ _ _ _ _ _ (doneSeq_ne_fence hq).symm
  unfold Dev.afterWrite
  dsimp only
  refine ⟨?_, fun he hl => ?_, fun he => ?_⟩
  · split
    · refine ((Dev.keeps_fenceTo _ _ _).reg _ _ _ ?_).trans hd
      simp [doneSeq_ne_fence hq, doneSeq_notMem_recOffs hq]
    · exact hd
  · rw [if_pos he, Dev.reg_fenceTo _ _ hf, hv, if_pos hl]
  · rw [if_neg (by simp [he]), hv]

theorem completionWrite_of_completes {d : Dev} {q : Nat} {c : Cmd} {rest : List Cmd} {o : Outcome} (hq : q < 16)
    (h : d.Completes q c rest o) :
    ∃ p, completionWrite q d = (d.putCompletion q c o rest).afterWrite q c p := by
  obtain ⟨p, hp⟩ := Dev.writeFront_of_completes h
  have k1 := d.keeps_putCompletion q c o rest
  have k2 := (d.putCompletion q c o rest).keeps_afterWrite q c p
  refine ⟨p, ?_⟩
  unfold completionWrite
  rw [hp]
  dsimp only
  rw [Dev.drainCheck_of_not_draining, Dev.flushHeld_of_none]
  · rw [k2.lay.resolve_left (by simp), k1.lay.resolve_left (by simp), h.writes.held]
  · have hs : R.Q_STATUS.off q 0 ∉ R.Q_DONE_SEQ.off q 0 :: R.FENCE_VAL.off c.relFence 0 :: recOffs := by
      simp only [recOffs, List.mem_cons, List.not_mem_nil, or_false, RegDesc.off, R.Q_DONE_SEQ, R.FENCE_VAL,
        R.Q_STATUS, R.REC_SEQ, R.REC_STATUS]
      omega
    exact fun e => h.noDrain ((k1.get R.Q_STATUS_STATE q 0 id).symm.trans ((k2.get R.Q_STATUS_STATE q 0 hs).symm.trans e))

theorem Dev.Completes.clock {d : Dev} {q : Nat} {c : Cmd} {rest : List Cmd} {o : Outcome} (h : d.Completes q c rest o)
    (t : Nat) : (d.clock t).Completes q c rest o :=
  ⟨⟨h.writes.cqOpen, h.writes.busMaster, h.writes.held⟩, h.cmds, h.done, h.out, h.free, h.command, h.noDrain, h.fence,
    h.good⟩

theorem completionWrite_puts (t q : Nat) (c : Cmd) (rest : List Cmd) (o : Outcome) (s : State) (hq : q < 16)
    (h : s.dev.Completes q c rest o) :
    ∃ s', exec (.completionWrite t q) s = .next s' ∧ (s'.dev.queue q).cmds = rest ∧
      s'.dev.reg R.Q_DONE_SEQ q = c.seq % 2 ^ 32 ∧
      .write (s.dev.cqBase q + (s.dev.queue q).cqTail * 32)
        (withPhase (entryBytes c.seq c.opcode o.status o.reason o.detail (s.dev.get R.Q_STATUS_SQ_HEAD q) o.source c.ctime
          o.result) (s.dev.queue q).phase) false ∈ s'.dev.host.posted ∧
      (s'.dev.queue q).cqTail = ((s.dev.queue q).cqTail + 1) % s.dev.cqSize q ∧
      (c.relEn = true → later 32 c.relValue (s.dev.reg R.FENCE_VAL c.relFence) = true →
        s'.dev.reg R.FENCE_VAL c.relFence = c.relValue % 2 ^ 32) ∧
      (c.relEn = false → s'.dev.reg R.FENCE_VAL c.relFence = s.dev.reg R.FENCE_VAL c.relFence) ∧
      s.Keeps s' t (R.Q_DONE_SEQ.off q 0 :: R.FENCE_VAL.off c.relFence 0 :: recOffs) [.host, .pair, .recd] := by
  obtain ⟨p, hp⟩ := completionWrite_of_completes hq (h.clock t)
  obtain ⟨h1, h2, h3⟩ := (s.dev.clock t).putCompletion_sets q c o rest
  have k1 := (s.dev.clock t).keeps_putCompletion q c o rest
  have hr := k1.reg R.FENCE_VAL c.relFence 0 id
  rw [exec_completionWrite, State.onDev, hp]
  generalize (s.dev.clock t).putCompletion q c o rest = e at h1 h2 h3 k1 hr
  obtain ⟨hd, hl, hn⟩ := e.afterWrite_sets p hq h.fence
  have k2 := e.keeps_afterWrite q c p
  have hh := k2.host.resolve_left (by simp)
  have hq' : (e.afterWrite q c p).queue q = e.queue q := Dev.queue_of_host hh q
  rw [hr] at hl hn
  exact ⟨_, rfl, (congrArg _ hq').trans h1, hd, hh ▸ h3, (congrArg _ hq').trans h2, hl, hn, rfl, .inr rfl,
    (k1.mono (fun _ x => x.elim) (by simp)).trans (k2.mono (fun _ x => x) (by simp))⟩

/-- Settles O12: the three ways of a fetched entry against the expected SEQ, and the write of the oldest completion. -/
theorem queueEntries : Obligations.QueueEntries :=
  ⟨fun t q e s hq hs hh hf hb ha hc hw => commandEntryFetched_of_fetches t q e s ⟨hq, hs, hh, hf, hb, ha, hc, hw⟩,
    fun t q c rest o s hq hw hc hd ho ha he hs hf hb => completionWrite_puts t q c rest o s hq
      ⟨hw, hc, hd, ho, ha, he, hs, hf, hb⟩⟩

end Sys2Proof.Machine
end

section
/-! PROOFS. When a command starts or misses its deadline (R35), and what the host's answer to a read, or its silence, does to
a started command and to a queue (R22, R490). -/

namespace Sys2Proof.Machine

/-! ### Starting -/

theorem exec_commandStart (t q seq : Nat) (s : State) :
    exec (.commandStart t q seq) s = s.onDev t (commandStart q seq) := rfl

theorem exec_commandDeadline (t q seq : Nat) (s : State) :
    exec (.commandDeadline t q seq) s = s.onDev t (commandDeadline q seq) := rfl

/-- The command whose turn it is: it waits, it is its queue's first that has not started, and its entry is sound and not
for another module. -/
structure Dev.Turn (d : Dev) (q seq : Nat) (c : Cmd) : Prop where
  found : d.cmd? q seq = some c
  waiting : c.st = .waiting
  next : isNext (d.queue q).cmds seq = true
  good : c.badField = none
  here : c.remote = false

/-- The acquire fence lets the command start: it has none, it is a commit, or the fence has its value (R34, R155). -/
abbrev Dev.FenceLets (d : Dev) (c : Cmd) : Prop :=
  c.acqEn = false ∨ isCommitOp c.opcode = true ∨ d.fenceReached c.acqFence c.acqValue = true

theorem commandStart_of_turn {d : Dev} {q seq : Nat} {c : Cmd} (h : d.Turn q seq c)
    (hd : c.deadline = 0 ∨ later 48 d.wt48 c.deadline = false) :
    commandStart q seq d = if d.FenceLets c then startNow q seq c d else d := by
  have hdl : ¬(c.deadline ≠ 0 && later 48 d.wt48 c.deadline) = true := by
    rcases hd with hd | hd <;> simp [hd]
  unfold commandStart
  rw [h.found]
  dsimp only
  rw [if_neg (by simp [h.waiting, h.next]), if_neg hdl]
  have hc : (c.badField.isNone && c.acqEn && (!isCommitOp c.opcode || (c.remote && decide (c.target ≠ d.moduleId))) &&
      !d.fenceReached c.acqFence c.acqValue) = true ↔ ¬d.FenceLets c := by
    simp only [h.good, h.here, Option.isNone_none, Bool.true_and, Bool.false_and, Bool.or_false, Bool.and_eq_true,
      Bool.not_eq_true', not_or, Bool.not_eq_true, Bool.not_eq_false, and_assoc]
  by_cases hl : d.FenceLets c
  · rw [if_neg fun x => hc.mp x hl, if_pos hl]
  · rw [if_pos (hc.mpr hl), if_neg hl]

theorem opPhase_le (op : Nat) : opPhase op ≤ phaseRunning := by
  unfold opPhase
  split <;> decide

/-- In a running module a command of a known opcode starts where its domain has its clock and its agent (R11, R12, R35). -/
theorem startNow_of_known {d : Dev} {q seq : Nat} {c : Cmd} (h : d.Turn q seq c) (hk : c.opcode ∈ knownOpcodes)
    (hp : d.phase = phaseRunning) (hdom : ∀ n, opDomain c.opcode = some n → d.clockOn n = true)
    (hcore : ∀ n, opCore c.opcode = some n → d.coreState n < 2) :
    startNow q seq c d = d.updCmd q seq fun c => { c with st := .started, ctime := d.wt48 } := by
  have hop := opPhase_le c.opcode
  unfold startNow
  rw [h.good]
  dsimp only
  rw [if_neg (by simp [h.here]), if_neg (by simp [hk]), if_neg (by simp [hp, phaseRunning, phaseMaintenance]), if_neg ?_,
    if_neg (by simp [hp]; omega), if_neg ?_]
  · split
    · next n e => simpa using hcore n e
    · simp
  · split
    · next n e => simp [hdom n e]
    · simp

theorem startNow_of_unknown {d : Dev} {q seq : Nat} {c : Cmd} (h : d.Turn q seq c) (hk : c.opcode ∉ knownOpcodes) :
    startNow q seq c d = d.finish q seq Status.invalidOpcode := by
  unfold startNow
  rw [h.good]
  dsimp only
  rw [if_neg (by simp [h.here]), if_pos (by simp [hk])]

theorem Dev.Turn.clock {d : Dev} {q seq : Nat} {c : Cmd} (h : d.Turn q seq c) (t : Nat) : (d.clock t).Turn q seq c :=
  ⟨h.found, h.waiting, h.next, h.good, h.here⟩

theorem commandStart_of_known (t q seq : Nat) (c : Cmd) (s : State) (h : s.dev.Turn q seq c)
    (hk : c.opcode ∈ knownOpcodes) (hp : s.dev.phase = phaseRunning)
    (hdom : ∀ n, opDomain c.opcode = some n → s.dev.clockOn n = true)
    (hcore : ∀ n, opCore c.opcode = some n → s.dev.coreState n < 2)
    (hd : c.deadline = 0 ∨ later 48 (s.dev.clock t).wt48 c.deadline = false) :
    ∃ s', exec (.commandStart t q seq) s = .next s' ∧
      (if c.acqEn = false ∨ isCommitOp c.opcode = true ∨ s.dev.fenceReached c.acqFence c.acqValue = true then
        s'.dev.cmd? q seq = some { c with st := .started, ctime := (s.dev.clock t).wt48 } ∧ s.Keeps s' t [] [.host]
      else s.Keeps s' t [] []) := by
  rw [exec_commandStart, State.onDev, commandStart_of_turn (h.clock t) hd,
    startNow_of_known (h.clock t) hk hp hdom hcore]
  refine ⟨_, rfl, ?_⟩
  by_cases hl : s.dev.FenceLets c
  · have hl' : (s.dev.clock t).FenceLets c := hl
    rw [if_pos hl', if_pos hl]
    refine ⟨?_, rfl, .inr rfl, (Dev.Keeps.refl _ _ _).updCmd _ _ _ (by simp)⟩
    exact Dev.cmd?_updCmd (fun _ _ => ⟨rfl, by simp⟩) (h.clock t).found
  · have hl' : ¬(s.dev.clock t).FenceLets c := hl
    rw [if_neg hl', if_neg hl]
    exact ⟨rfl, .inr rfl, .refl _ _ _⟩

theorem commandStart_of_unknown (t q seq : Nat) (c : Cmd) (s : State) (hq : q < 16)
    (hf : (s.dev.queue q).cmds.find? (fun x => x.seq == seq) = some c) (hw : c.st = .waiting)
    (hn : isNext (s.dev.queue q).cmds seq = true) (hb : c.badField = none) (hr : c.remote = false)
    (hk : c.opcode ∉ knownOpcodes) (hacq : c.acqEn = false) (hd : c.deadline = 0) (ha : s.dev.Alone) :
    ∃ s', exec (.commandStart t q seq) s = .next s' ∧
      s'.dev.answer q seq = some ⟨Status.invalidOpcode, 0, 0, s.dev.moduleId, 0⟩ ∧ s.Keeps s' t [] [.host, .pair] := by
  have hnd : c.st ≠ .done := by simp [hw]
  have h : (s.dev.clock t).Turn q seq c := ⟨Dev.cmd?_of_find hf hnd, hw, hn, hb, hr⟩
  rw [exec_commandStart, State.onDev, commandStart_of_turn h (.inl hd), if_pos (.inl hacq), startNow_of_unknown h hk]
  obtain ⟨h1, h2⟩ := (Dev.MayEnd.mk hq ⟨c, hf, hnd⟩ ha : s.dev.MayEnd q seq).clock t |>.finish_at_once _ _ _ _
  exact ⟨_, rfl, h1, rfl, .inr rfl, h2⟩

theorem commandDeadline_of_passed (t q seq : Nat) (c : Cmd) (s : State) (hq : q < 16)
    (hf : (s.dev.queue q).cmds.find? (fun x => x.seq == seq) = some c) (hw : c.st = .waiting) (hd : c.deadline ≠ 0)
    (hl : later 48 c.deadline (s.dev.clock t).wt48 = false) (hb : s.dev.commitBusy q seq = false) (ha : s.dev.Alone) :
    ∃ s', exec (.commandDeadline t q seq) s = .next s' ∧
      s'.dev.answer q seq = some ⟨Status.deadline, 0, 0, s.dev.moduleId, 0⟩ ∧ s.Keeps s' t [] [.host, .pair] := by
  have hnd : c.st ≠ .done := by simp [hw]
  have hb' : (s.dev.clock t).commitBusy q seq = false := hb
  have he : commandDeadline q seq (s.dev.clock t) = (s.dev.clock t).finish q seq Status.deadline := by
    unfold commandDeadline
    rw [Dev.cmd?_of_find (d := s.dev.clock t) hf hnd]
    dsimp only
    rw [if_pos (by simp [hd, hl, hb', Cmd.running, hw])]
  rw [exec_commandDeadline, State.onDev, he]
  obtain ⟨h1, h2⟩ := (Dev.MayEnd.mk hq ⟨c, hf, hnd⟩ ha : s.dev.MayEnd q seq).clock t |>.finish_at_once _ _ _ _
  exact ⟨_, rfl, h1, rfl, .inr rfl, h2⟩

/-! ### The host's answers, and its silence -/

theorem exec_hostReadCompletion (t q : Nat) (seq : Option Nat) (a : HostAnswer) (s : State) :
    exec (.hostReadCompletion t q seq a) s = s.onDev t (hostReadCompletion q seq a) := rfl

theorem exec_hostReadTimeout (t q : Nat) (seq : Option Nat) (s : State) :
    exec (.hostReadTimeout t q seq) s = s.onDev t (hostReadTimeout q seq) := rfl

theorem exec_hostWriteTimeout (t : Nat) (w : HostWrite) (s : State) :
    exec (.hostWriteTimeout t w) s = s.onDev t (hostWriteTimeout w) := rfl

/-- The first data of a started command's read is what it has (R22). -/
theorem hostReadCompletion_of_data (t q seq : Nat) (c : Cmd) (bs : List Byte) (ps : List Nat) (s : State)
    (h : s.dev.Running q seq c.opcode c) (hn : c.hostData = none) :
    ∃ s', exec (.hostReadCompletion t q (some seq) (.data bs ps)) s = .next s' ∧
      s'.dev.cmd? q seq = some { c with hostData := some (bs, ps) } ∧ s.Keeps s' t [] [.host, .pair] := by
  have hc := (h.clock t).cmd?
  obtain ⟨x, hx⟩ := (s.dev.clock t).mirror_eq (.params q seq bs ps)
  rw [exec_hostReadCompletion, State.onDev, hostReadCompletion, if_pos (by simp [hc, h.started]), hx]
  refine ⟨_, rfl, ?_, rfl, .inr rfl, ((Dev.Keeps.refl _ _ _).setPair _ (by simp)).updCmd _ _ _ (by simp)⟩
  refine (Dev.cmd?_updCmd (c := c) (fun y hy => ?_) ((Dev.setPair_cmd? _ _ _ _).trans hc)).trans ?_
  · split
    · exact ⟨rfl, hy⟩
    · exact ⟨rfl, hy⟩
  · simp [h.started, hn]

theorem mem_jobOffs {j : Nat} (hj : j < 3) :
    R.CMP_JOB_STATUS.off j 0 ∈ jobOffs ∧ R.CMP_PARCELS.off j 0 ∈ jobOffs ∧ R.CMP_OUT_OFFSET.off j 0 ∈ jobOffs ∧
      R.CMP_PENDING.off j 0 ∈ jobOffs := by
  have h : ∀ x ∈ [R.CMP_JOB_STATUS.off j 0, R.CMP_PARCELS.off j 0, R.CMP_OUT_OFFSET.off j 0, R.CMP_PENDING.off j 0],
      x ∈ jobOffs := fun x hx => List.mem_flatMap.mpr ⟨j, List.mem_range.mpr hj, hx⟩
  exact ⟨h _ (by simp), h _ (by simp), h _ (by simp), h _ (by simp)⟩

theorem Dev.Keeps.setJob {d0 d : Dev} {ws : Nat → Prop} {ps : List Part} (h : d0.Keeps d ws ps) {j : Nat} (v : Job)
    (reason : Nat) (hj : j < 3) (hw : ∀ x ∈ jobOffs, ws x) (hp : Part.sys ∈ ps) : d0.Keeps (d.setJob j v reason) ws ps := by
  obtain ⟨h1, h2, h3, h4⟩ := mem_jobOffs hj
  unfold Dev.setJob
  exact ((((h.withSys _ hp).setReg _ _ _ _ (hw _ h1)).setReg _ _ _ _ (hw _ h2)).setReg _ _ _ _ (hw _ h3)).setReg _ _ _ _
    (hw _ h4)

/-- A feed that fails moves its job only. -/
theorem Dev.keeps_feedFailed (d : Dev) (q seq reason : Nat) : d.Keeps (d.feedFailed q seq reason) (· ∈ jobOffs) [.sys] := by
  unfold Dev.feedFailed
  split
  · next j hj =>
    exact (Dev.Keeps.refl _ _ _).setJob _ _ (List.mem_range.mp (List.mem_of_find?_eq_some hj)) (fun _ hx => hx) (by simp)
  · exact .refl _ _ _

/-- A command whose access the host refuses, or leaves unanswered, fails, and with it the feed that it runs (R22, R407). -/
theorem State.failsFeed {s : State} {t q seq : Nat} {c : Cmd} (h : s.dev.Running q seq c.opcode c) (ha : s.dev.Alone)
    (feed status reason : Nat) :
    let e := ((s.dev.clock t).feedFailed q seq feed).finish q seq status reason
    e.answer q seq = some ⟨status, reason, 0, s.dev.moduleId, 0⟩ ∧
      s.Keeps { s with dev := e } t jobOffs [.host, .pair, .sys] := by
  have k := (s.dev.clock t).keeps_feedFailed q seq feed
  obtain ⟨h1, h2⟩ := ((h.mayEnd ha).clock t).finish (ps := [.host, .pair, .sys]) (k.mono (fun _ hx => hx) (by simp))
    (Dev.queue_of_host (k.host.resolve_left (by simp)) q) (by decide) (by decide) (by simp) (by simp) status reason 0 0
  exact ⟨h1, rfl, .inr rfl, h2⟩

theorem hostReadCompletion_of_refused (t q seq : Nat) (c : Cmd) (s : State) (h : s.dev.Running q seq c.opcode c)
    (ha : s.dev.Alone) :
    ∃ s', exec (.hostReadCompletion t q (some seq) .refused) s = .next s' ∧
      s'.dev.answer q seq = some ⟨Status.accessDenied, 0x0E06, 0, s.dev.moduleId, 0⟩ ∧
      s.Keeps s' t jobOffs [.host, .pair, .sys] := by
  rw [exec_hostReadCompletion, State.onDev, hostReadCompletion, (h.clock t).cmd?]
  dsimp only
  rw [if_pos (by simp [h.started])]
  exact ⟨_, rfl, State.failsFeed h ha _ _ _⟩

theorem hostTimeouts_of_command (t q seq : Nat) (c : Cmd) (s : State) (h : s.dev.Running q seq c.opcode c)
    (ha : s.dev.Alone) :
    (∃ s', exec (.hostReadTimeout t q (some seq)) s = .next s' ∧
      s'.dev.answer q seq = some ⟨Status.timeout, 0, 0, s.dev.moduleId, 0⟩ ∧
      s.Keeps s' t jobOffs [.host, .pair, .sys]) ∧
    (∃ s', exec (.hostWriteTimeout t (.command q seq)) s = .next s' ∧
      s'.dev.answer q seq = some ⟨Status.timeout, 0, 0, s.dev.moduleId, 0⟩ ∧
      s.Keeps s' t jobOffs [.host, .pair, .sys]) := by
  have hc := (h.clock t).cmd?
  rw [exec_hostReadTimeout, exec_hostWriteTimeout, State.onDev, State.onDev, hostReadTimeout, hostWriteTimeout, hc]
  dsimp only
  rw [if_pos (by simp [h.started])]
  exact ⟨⟨_, rfl, State.failsFeed h ha _ _ _⟩, _, rfl, State.failsFeed h ha _ _ _⟩

/-- A cause of ERR that the host gives a running queue. -/
theorem State.queueErrs {s : State} {q : Nat} (t : Nat) (hs : s.dev.qState q = qRunning) {code : Nat} (hc : code < 256) :
    let e := (s.dev.clock t).queueErr q code
    e.qState q = qError ∧ e.get R.Q_STATUS_ERR q = code ∧
      s.Keeps { s with dev := e } t (R.Q_STATUS.off q 0 :: recOffs) [.recd] := by
  obtain ⟨h1, h2, -⟩ := Dev.queueErr_of_running (d := s.dev.clock t) hs hc
  exact ⟨h1, h2, rfl, .inr rfl, (Dev.Keeps.refl _ _ _).queueErr _ _ (by simp)⟩

theorem hostRead_of_entry (t q : Nat) (s : State) (_ : q ≤ 16) (hs : s.dev.qState q = qRunning) :
    (∃ s', exec (.hostReadCompletion t q none .refused) s = .next s' ∧ s'.dev.qState q = qError ∧
      s'.dev.get R.Q_STATUS_ERR q = 4 ∧ s.Keeps s' t (R.Q_STATUS.off q 0 :: recOffs) [.recd]) ∧
    (∃ s', exec (.hostReadTimeout t q none) s = .next s' ∧ s'.dev.qState q = qError ∧
      s'.dev.get R.Q_STATUS_ERR q = 3 ∧ s.Keeps s' t (R.Q_STATUS.off q 0 :: recOffs) [.recd]) :=
  ⟨⟨_, rfl, State.queueErrs t hs (by omega)⟩, _, rfl, State.queueErrs t hs (by omega)⟩

/-- A ring's entry that the host does not take holds its queue back (R490). -/
theorem hostWriteTimeout_of_ring (t q : Nat) (denied : Bool) (s : State) (_ : q ≤ 16)
    (hs : s.dev.qState q = qRunning) :
    ∃ s', exec (.hostWriteTimeout t (.ring q denied)) s = .next s' ∧ s'.dev.qState q = qError ∧
      s'.dev.get R.Q_STATUS_ERR q = (if denied then 4 else 3) ∧
      s'.dev.queue q = { s.dev.queue q with holding := true } ∧
      s.Keeps s' t (R.Q_STATUS.off q 0 :: recOffs) [.host, .recd] := by
  have hcode : (if denied = true then 4 else 3) < 256 := by split <;> omega
  obtain ⟨h1, h2, h3⟩ := Dev.queueErr_of_running (d := s.dev.clock t) hs hcode
  have hqu : ((s.dev.clock t).queueErr q (if denied = true then 4 else 3)).queue q = s.dev.queue q :=
    Dev.queue_of_host h3 q
  rw [exec_hostWriteTimeout, State.onDev, hostWriteTimeout]
  dsimp only
  rw [hqu, Dev.drainCheck_of_not_draining]
  · exact ⟨_, rfl, (Dev.setQueue_get _ _ _ _ _ _).trans h1, (Dev.setQueue_get _ _ _ _ _ _).trans h2,
      Dev.queue_setQueue_same _ _ _, rfl, .inr rfl,
      ((Dev.Keeps.refl _ _ _).queueErr _ _ (by simp)).setQueue _ _ (by simp)⟩
  · rw [Dev.qState, Dev.setQueue_get, ← Dev.qState, h1]
    decide

/-- Settles O13: what lets the command whose turn it is start, and how each answer of the host ends a command, or stops a
queue. -/
theorem commandLife : Obligations.CommandLife :=
  ⟨⟨fun t q seq c s hf hw hn hb hr => commandStart_of_known t q seq c s ⟨hf, hw, hn, hb, hr⟩, commandStart_of_unknown,
      commandDeadline_of_passed⟩,
    hostReadCompletion_of_data, hostReadCompletion_of_refused, hostRead_of_entry, hostTimeouts_of_command,
    hostWriteTimeout_of_ring⟩

end Sys2Proof.Machine
end

section
/-! PROOFS. The common commands of the queues, the register blocks, and commands forwarded between modules (R32 to R37,
R429, R488). -/

namespace Sys2Proof.Machine

/-- The completion of a command after its effect issues nothing to the host, and moves no register. -/
theorem Dev.MayEnd.finish_issues {d0 d : Dev} {q seq : Nat} {ws : List Nat} {ps : List Part} (h : d0.MayEnd q seq)
    (k : d0.Keeps d (· ∈ ws) ps) (hp : R.PAIR_STATUS.off 0 0 ∉ ws) (status reason result detail : Nat) :
    (d.finish q seq status reason result detail).host.posted = d.host.posted ∧
      ∀ r i j, (d.finish q seq status reason result detail).reg r i j = d.reg r i j := by
  obtain ⟨h1, h2⟩ := Dev.complete_posted (seq := seq) ⟨status, reason, detail, d.moduleId, result % 2 ^ 64⟩
    (Nat.lt_of_lt_of_le h.queue (by omega)) (h.alone.of_keeps k hp)
  exact ⟨h1, fun r i j => by rw [Dev.reg, Dev.finish, h2, ← Dev.reg]⟩

/-! ### NOP, SYNC and FENCE_SIGNAL -/

theorem exec_nop (t q seq : Nat) (s : State) : exec (.nop t q seq) s = s.onDev t (nop q seq) := rfl

theorem exec_sync (t q seq : Nat) (s : State) : exec (.sync t q seq) s = s.onDev t (sync q seq) := rfl

theorem exec_fenceSignal (t q seq : Nat) (s : State) :
    exec (.fenceSignal t q seq) s = s.onDev t (fenceSignal q seq) := rfl

theorem nop_answers (t q seq : Nat) (c : Cmd) (s : State) (h : s.dev.Running q seq 0x0000 c) (ha : s.dev.Alone) :
    ∃ s', exec (.nop t q seq) s = .next s' ∧
      (match firstNonZero c.param 0 with
        | none => s'.dev.answer q seq = some ⟨Status.success, 0, 0, s.dev.moduleId, 0⟩
        | some i => s'.dev.answer q seq = some ⟨Status.invalidField, 36 + i, 0, s.dev.moduleId, 0⟩) ∧
      s.Keeps s' t [] [.host, .pair] := by
  have he := (h.mayEnd ha).clock t
  rw [exec_nop, State.onDev, nop, (h.clock t).onCmd, Dev.withTail]
  cases firstNonZero c.param 0 with
  | none =>
    obtain ⟨h1, h2⟩ := he.finish_at_once Status.success 0 0 0
    exact ⟨_, rfl, h1, rfl, .inr rfl, h2⟩
  | some i =>
    obtain ⟨h1, h2⟩ := he.finish_at_once Status.invalidField (36 + i) 0 0
    exact ⟨_, rfl, h1, rfl, .inr rfl, h2⟩

theorem sync_waits (t q seq : Nat) (c : Cmd) (s : State) (h : s.dev.Running q seq 0x0001 c) (ha : s.dev.Alone)
    (hc : c.Tail 0) :
    ∃ s', exec (.sync t q seq) s = .next s' ∧
      (if s.dev.allDoneBefore c.order = true then
        s'.dev.answer q seq = some ⟨Status.success, 0, 0, s.dev.moduleId, 0⟩ ∧ s.Keeps s' t [] [.host, .pair]
      else s.Keeps s' t [] []) := by
  have hb : (s.dev.clock t).allDoneBefore c.order = s.dev.allDoneBefore c.order := rfl
  rw [exec_sync, State.onDev, sync, (h.clock t).onCmd, Dev.withTail_of _ _ _ _ _ _ hc, hb]
  by_cases hd : s.dev.allDoneBefore c.order = true
  · obtain ⟨h1, h2⟩ := ((h.mayEnd ha).clock t).finish_at_once Status.success 0 0 0
    rw [if_pos hd]
    exact ⟨_, rfl, (if_pos hd).mpr ⟨h1, rfl, .inr rfl, h2⟩⟩
  · rw [if_neg hd]
    exact ⟨_, rfl, (if_neg hd).mpr ⟨rfl, .inr rfl, .refl _ _ _⟩⟩

theorem leNat_lt (bs : List Byte) : leNat bs < 256 ^ bs.length := by
  induction bs with
  | nil => simp [leNat]
  | cons b r ih =>
    have hb := b.isLt
    rw [leNat, List.length_cons, pow_succ]
    omega

theorem leAt_lt (bs : List Byte) (off n : Nat) : leAt bs off n < 256 ^ n :=
  lt_of_lt_of_le (leNat_lt _) (Nat.pow_le_pow_right (by omega) (List.length_take_le _ _))

theorem mod_of_word {n : Nat} (h : n < 2 ^ 32) : n % 2 ^ 64 = n := Nat.mod_eq_of_lt (by omega)

theorem fence_ne {f : Nat} (hf : f < 1024) (o : Nat) (ho : 0x181000 ≤ o) (hr : o ∉ recOffs) :
    o ∉ R.FENCE_VAL.off f 0 :: recOffs := by
  simp only [List.mem_cons, hr, or_false, RegDesc.off, R.FENCE_VAL]
  omega

theorem fenceSignal_answers (t q seq : Nat) (c : Cmd) (s : State) (h : s.dev.Running q seq 0x0002 c) (ha : s.dev.Alone)
    (hc : c.Tail 6) (hf : c.p 0 2 < 1024) :
    let f := c.p 0 2
    ∃ s', exec (.fenceSignal t q seq) s = .next s' ∧
      s'.dev.reg R.FENCE_VAL f = (if later 32 (c.p 2 4) (s.dev.reg R.FENCE_VAL f) then c.p 2 4
        else s.dev.reg R.FENCE_VAL f) ∧
      s'.dev.answer q seq = some ⟨Status.success, 0, 0, s.dev.moduleId, s'.dev.reg R.FENCE_VAL f⟩ ∧
      s.Keeps s' t (R.FENCE_VAL.off f 0 :: recOffs) [.host, .pair, .recd] := by
  intro f
  have hv : c.p 2 4 % 2 ^ 32 = c.p 2 4 := Nat.mod_eq_of_lt (leAt_lt _ _ _)
  have hreg := (s.dev.clock t).reg_fenceTo (c.p 2 4) hf
  rw [hv, Dev.clock_reg] at hreg
  have k := (s.dev.clock t).keeps_fenceTo f (c.p 2 4)
  obtain ⟨h1, h2⟩ := ((h.mayEnd ha).clock t).finish (ps := [.host, .pair, .recd])
    (k.mono (fun _ hx => hx) (by simp)) (Dev.queue_of_host (k.host.resolve_left (by simp)) q)
    (fence_ne hf _ (by decide) (by decide)) (fence_ne hf _ (by decide) (by decide)) (by simp) (by simp) Status.success 0
    (((s.dev.clock t).fenceTo f (c.p 2 4)).reg R.FENCE_VAL f) 0
  have h3 := (((h.mayEnd ha).clock t).finish_issues k (fence_ne hf _ (by decide) (by decide)) Status.success 0
    (((s.dev.clock t).fenceTo f (c.p 2 4)).reg R.FENCE_VAL f) 0).2
  rw [exec_fenceSignal, State.onDev, fenceSignal, (h.clock t).onCmd, Dev.withTail_of _ _ _ _ _ _ hc, if_neg (by omega)]
  rw [mod_of_word (Dev.reg_lt _ _ _ _)] at h1
  refine ⟨_, rfl, (h3 _ _ _).trans hreg, h1.trans ?_, rfl, .inr rfl, h2⟩
  exact congrArg (fun r => some (Outcome.mk Status.success 0 0 s.dev.moduleId r)) (h3 _ _ _).symm

/-! ### Register blocks -/

theorem exec_regReadBlock (t q seq : Nat) (s : State) :
    exec (.regReadBlock t q seq) s = s.onDev t (regReadBlock q seq) := rfl

theorem exec_regWriteBatch (t q seq : Nat) (s : State) :
    exec (.regWriteBatch t q seq) s = s.onAll t (regWriteBatch q seq) := rfl

/-- A command's write to host memory, of some bytes and by a unit that acts, is issued. -/
theorem Dev.hostPut_of_acts {d : Dev} {bs : List Byte} (a : Nat) (p : Bool) (hb : bs ≠ []) (hd : d.queueActs = true) :
    d.hostPut a bs p = d.post (.write a bs p) := by
  rw [Dev.hostPut, if_neg (by simp [hb, hd])]

theorem Dev.posted_post (d : Dev) (p : Posted) : (d.post p).host.posted = p :: d.host.posted := rfl

theorem Dev.queue_post (d : Dev) (p : Posted) (q : Nat) : (d.post p).queue q = d.queue q := rfl

theorem Dev.keeps_post (d : Dev) (p : Posted) : d.Keeps (d.post p) (· ∈ []) [.host, .pair] :=
  (Dev.Keeps.refl _ _ _).post _ (by simp)

/-- A write to host memory followed by the command's completion. -/
theorem Dev.MayEnd.post_finish {d : Dev} {q seq : Nat} (h : d.MayEnd q seq) (p : Posted) (status reason result detail : Nat) :
    let e := (d.post p).finish q seq status reason result detail
    e.host.posted = p :: d.host.posted ∧
      e.answer q seq = some ⟨status, reason, detail, d.moduleId, result % 2 ^ 64⟩ ∧
      d.Keeps e (· ∈ []) [.host, .pair] := by
  have k := d.keeps_post p
  obtain ⟨h1, h2⟩ := h.finish k (d.queue_post p q) (by simp) (by simp) (by simp) (by simp) status reason result detail
  exact ⟨((h.finish_issues k (by simp) _ _ _ _).1).trans (d.posted_post p), h1, h2⟩

theorem readBlock_one {d : Dev} {off i j : Nat} {row : RegRow} (hc : d.offClosed off = false) (hd : d.offDown off = false)
    (hr : regAt off = some (row, i, j)) (hp : ∀ p ∈ latchPairs, row.reg ≠ p.1) (hm : row.reg ∉ latchMore) :
    readBlock 1 off d [] = (d, [d.readValue row.reg i j &&& readMask row], false) := by
  have hl : row.reg ≠ R.CAP_TIME_LO := fun e => hm (e ▸ by simp [latchMore])
  rw [readBlock, if_neg (by simp [hd]), Dev.readAt_of_reg hc hr hl, Dev.latchOn_of_plain _ _ hp hm, readBlock]
  rfl

theorem regReadBlock_one (t q seq i j : Nat) (c : Cmd) (row : RegRow) (s : State) (h : s.dev.Running q seq 0x0005 c)
    (ha : s.dev.Alone) (ht : c.Tail 16) (h4 : c.p 0 4 % 4 = 0) (hb : c.p 0 4 < 2 ^ 25) (hn : c.p 4 4 = 1)
    (hm : s.dev.host.busMaster = true) (hq : s.dev.queueActs = true) (hc : s.dev.offClosed (c.p 0 4) = false)
    (hd : s.dev.offDown (c.p 0 4) = false) (hr : regAt (c.p 0 4) = some (row, i, j))
    (hp : ∀ p ∈ latchPairs, row.reg ≠ p.1) (hl : row.reg ∉ latchMore) :
    ∃ s', exec (.regReadBlock t q seq) s = .next s' ∧
      s'.dev.host.posted = .write (c.p 8 8) (leBytes 4 ((s.dev.clock t).readValue row.reg i j &&& readMask row)) false ::
        s.dev.host.posted ∧
      s'.dev.answer q seq = some ⟨Status.success, 0, 0, s.dev.moduleId, 1⟩ ∧ s.Keeps s' t [] [.host, .pair] := by
  obtain ⟨h1, h2, h3⟩ := ((h.mayEnd ha).clock t).post_finish
    (.write (c.p 8 8) (leBytes 4 ((s.dev.clock t).readValue row.reg i j &&& readMask row)) false) Status.success 0 1 0
  have hrd := readBlock_one (d := s.dev.clock t) hc hd hr hp hl
  have hqt : (s.dev.clock t).queueActs = true := hq
  rw [exec_regReadBlock, State.onDev, regReadBlock, (h.clock t).onCmd]
  dsimp only
  rw [if_neg (by simp [h4]), if_neg (by omega), Dev.withTail_of _ _ _ _ _ _ ht, hn, if_neg (by omega),
    if_neg (by simp [hm]), hrd]
  dsimp only
  rw [if_neg (by simp), Dev.hostPut_of_acts _ _ (by simp [leBytes]) hqt, List.flatMap_singleton]
  exact ⟨_, rfl, h1, h2, rfl, .inr rfl, h3⟩

theorem regReadBlock_past (t q seq : Nat) (c : Cmd) (s : State) (h : s.dev.Running q seq 0x0005 c) (ha : s.dev.Alone)
    (h4 : c.p 0 4 % 4 = 0) (hb : 2 ^ 25 < c.p 0 4 + 4 * c.p 4 4) :
    ∃ s', exec (.regReadBlock t q seq) s = .next s' ∧
      s'.dev.answer q seq = some ⟨Status.invalidField, 4, 0, s.dev.moduleId, 0⟩ ∧ s.Keeps s' t [] [.host, .pair] := by
  obtain ⟨h1, h2⟩ := ((h.mayEnd ha).clock t).finish_at_once Status.invalidField 4 0 0
  rw [exec_regReadBlock, State.onDev, regReadBlock, (h.clock t).onCmd]
  dsimp only
  rw [if_neg (by simp [h4]), if_pos hb]
  exact ⟨_, rfl, h1, rfl, .inr rfl, h2⟩

/-- A pair whose offset is that of a register with no rule of its own is applied, and the rest follow. -/
theorem writeBatch_of_plain {d : Dev} {bs : List Byte} {off i j : Nat} {row : RegRow} (m : Mem) (q seq n done : Nat)
    (ho : leAt bs 0 4 = off) (h4 : off % 4 = 0) (hb : off < 2 ^ 25) (hc : d.offClosed off = false)
    (hd : d.offDown off = false) (hr : regAt off = some (row, i, j)) (hw : row.reg ∉ ownWrites)
    (ht : d.takes row.reg i (leAt bs 4 4) = true) :
    writeBatch q seq bs (n + 1) done (d, m) = writeBatch q seq (bs.drop 8) n (done + 1)
      (d.setReg row.reg (hostWriteValue row (d.reg row.reg i j) (leAt bs 4 4)) i j, m) := by
  have hv : (BitVec.ofNat 32 (leAt bs 4 4)).toNat = leAt bs 4 4 :=
    (BitVec.toNat_ofNat _ _).trans (Nat.mod_eq_of_lt (leAt_lt _ _ _))
  rw [writeBatch]
  dsimp only
  rw [ho, if_neg (by simp [h4]; omega), if_neg (by simp [hc]), if_neg (by simp [hd]),
    writeAt_of_plain m hr hw (hv.symm ▸ ht), hv]

/-- An offset that holds another register is not that register's. -/
theorem off_ne_of_regAt {off i j i' j' : Nat} {row : RegRow} {r : RegDesc} (hr : regAt off = some (row, i, j))
    (hn : row.reg ≠ r) (h : (regAt (r.off i' j')).map (·.1.reg) = some r) : r.off i' j' ∉ [off] := by
  simp only [List.mem_singleton]
  intro e
  rw [e, hr] at h
  exact hn (Option.some_inj.mp h)

theorem regWriteBatch_one (t q seq off i j : Nat) (c : Cmd) (bs : List Byte) (row : RegRow) (s : State)
    (h : s.dev.Running q seq 0x0006 c) (ha : s.dev.Alone) (hz : c.tailZero 12 = true) (hn : c.p 8 4 = 1)
    (hh : c.hostData = some (bs, [])) (ho : leAt bs 0 4 = off) (h4 : off % 4 = 0) (hb : off < 2 ^ 25)
    (hc : s.dev.offClosed off = false) (hd : s.dev.offDown off = false) (hr : regAt off = some (row, i, j))
    (hw : row.reg ∉ ownWrites) (ht : s.dev.takes row.reg i (leAt bs 4 4) = true) (hps : row.reg ≠ R.PAIR_STATUS)
    (hid : row.reg ≠ R.PAENT_ID) :
    ∃ s', exec (.regWriteBatch t q seq) s = .next s' ∧
      s'.dev.reg row.reg i j = hostWriteValue row (s.dev.reg row.reg i j) (leAt bs 4 4) % 2 ^ 32 ∧
      s'.dev.answer q seq = some ⟨Status.success, 0, 0, s.dev.moduleId, 1⟩ ∧
      s.Keeps s' t [off] [.host, .pair] := by
  have hps' := off_ne_of_regAt hr hps (i' := 0) (j' := 0) (by decide)
  have hid' := off_ne_of_regAt hr hid (i' := 0) (j' := 0) (by decide)
  have k : (s.dev.clock t).Keeps ((s.dev.clock t).setReg row.reg
      (hostWriteValue row ((s.dev.clock t).reg row.reg i j) (leAt bs 4 4)) i j) (· ∈ [off]) [.host, .pair] :=
    (Dev.Keeps.refl _ _ _).setReg _ _ _ _ (by simp [off_of_regAt hr])
  have he := (h.mayEnd ha).clock t
  obtain ⟨h1, h2⟩ := he.finish k rfl hps' hid' (by simp) (by simp) Status.success 0 1 0
  have h3 := (he.finish_issues k hps' Status.success 0 1 0).2
  have hwb := writeBatch_of_plain s.mem q seq 0 0 (d := s.dev.clock t) ho h4 hb hc hd hr hw ht
  rw [exec_regWriteBatch, State.onAll, regWriteBatch, (h.clock t).onCmdMem]
  dsimp only
  rw [if_neg (by simp [hz]), hn, if_neg (by omega), hh]
  dsimp only
  rw [hwb]
  exact ⟨_, rfl, (h3 _ _ _).trans (Dev.reg_setReg _ _ _ _ _), h1, rfl, .inr rfl, h2⟩

theorem regWriteBatch_bad (t q seq : Nat) (c : Cmd) (bs : List Byte) (s : State) (h : s.dev.Running q seq 0x0006 c)
    (ha : s.dev.Alone) (hz : c.tailZero 12 = true) (hn : c.p 8 4 ≠ 0) (hh : c.hostData = some (bs, []))
    (hb : leAt bs 0 4 % 4 ≠ 0 ∨ 2 ^ 25 ≤ leAt bs 0 4) :
    ∃ s', exec (.regWriteBatch t q seq) s = .next s' ∧
      s'.dev.answer q seq = some ⟨Status.invalidField, 0, 0, s.dev.moduleId, 0⟩ ∧
      s.Keeps s' t [] [.host, .pair] := by
  obtain ⟨h1, h2⟩ := ((h.mayEnd ha).clock t).finish_at_once Status.invalidField 0 0 0
  obtain ⟨k, hk⟩ := Nat.exists_eq_succ_of_ne_zero hn
  rw [exec_regWriteBatch, State.onAll, regWriteBatch, (h.clock t).onCmdMem]
  dsimp only
  rw [if_neg (by simp [hz]), if_neg hn, hh, hk]
  dsimp only
  rw [writeBatch]
  dsimp only
  rw [if_pos (by simpa using hb)]
  exact ⟨_, rfl, h1, rfl, .inr rfl, h2⟩

/-! ### Forwarded commands -/

theorem exec_forwardedCommandReceived (t origin oq : Nat) (e : List Byte) (s : State) :
    exec (.forwardedCommandReceived t origin oq e) s = s.onDev t (forwardedReceived origin oq e) := rfl

theorem exec_forwardedOutcome (t q seq : Nat) (o : FwdOutcome) (s : State) :
    exec (.forwardedOutcome t q seq o) s = s.onDev t (forwardedOutcome q seq o) := rfl

theorem exec_forwardTimeout (t q seq : Nat) (s : State) :
    exec (.forwardTimeout t q seq) s = s.onDev t (forwardTimeout q seq) := rfl

/-- A retry of a command that this module has executed: its recorded outcome goes back (R429). -/
theorem forwardedReceived_kept (t origin oq : Nat) (e : List Byte) (s : State) (r : FwdRecord)
    (hr : s.dev.host.fwdKept.find? (fun r => r.origin == origin && r.queue == oq &&
      r.seq == (if (Cmd.ofEntry e s.dev.host.accepted).retry then (Cmd.ofEntry e s.dev.host.accepted).origSeq
        else (Cmd.ofEntry e s.dev.host.accepted).seq)) = some r) :
    ∃ s', exec (.forwardedCommandReceived t origin oq e) s = .next s' ∧
      s'.dev.host.replies = { r with seq := (Cmd.ofEntry e s.dev.host.accepted).seq } :: s.dev.host.replies ∧
      s'.dev.queue (fwdQueue origin oq) = s.dev.queue (fwdQueue origin oq) ∧ s.Keeps s' t [] [.host] := by
  rw [exec_forwardedCommandReceived, State.onDev, forwardedReceived]
  dsimp only
  rw [Dev.clock_host, hr]
  exact ⟨_, rfl, rfl, rfl, rfl, .inr rfl, (Dev.Keeps.refl _ _ _).withHost _ (by simp)⟩

/-- A command that this module has no outcome of is taken, unless it is here already (R32, R429). -/
theorem forwardedReceived_new (t origin oq : Nat) (e : List Byte) (s : State)
    (hr : s.dev.host.fwdKept.find? (fun r => r.origin == origin && r.queue == oq &&
      r.seq == (if (Cmd.ofEntry e s.dev.host.accepted).retry then (Cmd.ofEntry e s.dev.host.accepted).origSeq
        else (Cmd.ofEntry e s.dev.host.accepted).seq)) = none) :
    let c := Cmd.ofEntry e s.dev.host.accepted
    let q := fwdQueue origin oq
    ∃ s', exec (.forwardedCommandReceived t origin oq e) s = .next s' ∧
      s'.dev.host.replies = s.dev.host.replies ∧
      (s'.dev.queue q).cmds = (if (s.dev.queue q).cmds.any (fun x => x.seq == (if c.retry then c.origSeq else c.seq))
        then (s.dev.queue q).cmds else (s.dev.queue q).cmds ++ [{ c with flags := c.flags &&& 0x18 }]) ∧
      s.Keeps s' t [] [.host] := by
  intro c q
  have hq : (s.dev.clock t).queue q = s.dev.queue q := rfl
  rw [exec_forwardedCommandReceived, State.onDev, forwardedReceived]
  dsimp only
  rw [Dev.clock_host, hr]
  dsimp only
  rw [hq]
  by_cases ha : (s.dev.queue q).cmds.any (fun x => x.seq == (if c.retry then c.origSeq else c.seq)) = true
  · rw [if_pos ha, if_pos ha]
    exact ⟨_, rfl, rfl, rfl, rfl, .inr rfl, .refl _ _ _⟩
  · rw [if_neg ha, if_neg ha]
    exact ⟨_, rfl, rfl, congrArg Queue.cmds (Dev.queue_setQueue_same _ q _), rfl, .inr rfl,
      ((Dev.Keeps.refl _ _ _).setCmds _ _ (by simp)).withHost _ (by simp)⟩

theorem forwardedOutcome_completes (t q seq : Nat) (c : Cmd) (o : FwdOutcome) (s : State) (he : s.dev.MayEnd q seq)
    (hc : s.dev.cmd? q seq = some c) (hs : c.st = .forwarded) :
    ∃ s', exec (.forwardedOutcome t q seq o) s = .next s' ∧
      s'.dev.answer q seq = some ⟨o.status, o.reason, o.detail, o.source, o.result⟩ ∧
      s.Keeps s' t [] [.host, .pair] := by
  have hct : (s.dev.clock t).cmd? q seq = some c := hc
  obtain ⟨h1, h2⟩ := (he.clock t).complete (ws := []) (ps := [.host, .pair]) (.refl _ _ _) rfl (by simp) (by simp)
    (by simp) ⟨o.status, o.reason, o.detail, o.source, o.result⟩
  rw [exec_forwardedOutcome, State.onDev, forwardedOutcome, hct]
  dsimp only
  rw [if_pos (by simp [hs])]
  exact ⟨_, rfl, h1, rfl, .inr rfl, h2⟩

theorem forwardTimeout_ends (t q seq : Nat) (c : Cmd) (s : State) (he : s.dev.MayEnd q seq)
    (hc : s.dev.cmd? q seq = some c) (hs : c.st = .forwarded) :
    ∃ s', exec (.forwardTimeout t q seq) s = .next s' ∧
      (if (s.dev.get R.FWD_TIMEOUT_MS * 1000000 : Int) ≤ sdiff 48 (s.dev.clock t).wt48 c.ctime then
        s'.dev.answer q seq = some ⟨Status.ownerUnreachable, 0, 0, s.dev.moduleId, 0⟩ ∧ s.Keeps s' t [] [.host, .pair]
      else s.Keeps s' t [] []) := by
  have hct : (s.dev.clock t).cmd? q seq = some c := hc
  have hg : (s.dev.clock t).get R.FWD_TIMEOUT_MS = s.dev.get R.FWD_TIMEOUT_MS := rfl
  rw [exec_forwardTimeout, State.onDev, forwardTimeout, hct]
  dsimp only
  rw [hg]
  by_cases hd : (s.dev.get R.FWD_TIMEOUT_MS * 1000000 : Int) ≤ sdiff 48 (s.dev.clock t).wt48 c.ctime
  · obtain ⟨h1, h2⟩ := (he.clock t).finish_at_once Status.ownerUnreachable 0 0 0
    rw [if_pos (by simp [hs, hd])]
    exact ⟨_, rfl, (if_pos hd).mpr ⟨h1, rfl, .inr rfl, h2⟩⟩
  · rw [if_neg (by simp [hd])]
    exact ⟨_, rfl, (if_neg hd).mpr ⟨rfl, .inr rfl, .refl _ _ _⟩⟩

/-- Settles O14: each command is run on the state in which it has started, and its completion is that of `MayEnd.finish`. -/
theorem queueCommands : Obligations.QueueCommands := by
  unfold Obligations.QueueCommands
  refine ⟨⟨nop_answers, sync_waits, fenceSignal_answers⟩,
    ⟨regReadBlock_one, regReadBlock_past, regWriteBatch_one, regWriteBatch_bad⟩,
    fun t origin oq e s => ⟨forwardedReceived_kept t origin oq e s, forwardedReceived_new t origin oq e s⟩,
    fun t q seq c o s hq hf hs ha => ?_⟩
  have he : s.dev.MayEnd q seq := ⟨hq, ⟨c, hf, by simp [hs]⟩, ha⟩
  have hc := Dev.cmd?_of_find hf (by simp [hs])
  exact ⟨forwardedOutcome_completes t q seq c o s he hc hs, forwardTimeout_ends t q seq c s he hc hs⟩

end Sys2Proof.Machine
end

section
/-! PROOFS. DMA_COPY and DMA_FILL (R36, R38, R388, R425). -/

namespace Sys2Proof.Machine

theorem exec_dmaFill (t q seq : Nat) (s : State) : exec (.dmaFill t q seq) s = s.onAll t (dmaFill q seq) := rfl

theorem exec_dmaCopy (t q seq : Nat) (s : State) : exec (.dmaCopy t q seq) s = s.onAll t (dmaCopy q seq) := rfl

theorem Cmd.p_lt (c : Cmd) (i n : Nat) : c.p i n < 256 ^ n := leAt_lt _ _ _

/-- A 4-byte field as the RESULT of a command. -/
theorem Cmd.p_result (c : Cmd) (i : Nat) : c.p i 4 % 2 ^ 64 = c.p i 4 := mod_of_word (c.p_lt i 4)

/-- The commands of this module's queues pass the DMA checker (R383). -/
theorem cmdChecker_of_lt {q : Nat} (h : q < 16) : cmdChecker q = 4 := if_pos (by omega)

theorem length_fillBytes (c : Cmd) : (fillBytes c).length = c.p 8 4 := by simp [fillBytes]

theorem ne_nil_of_length {bs : List Byte} {n : Nat} (h : bs.length = n) (hn : n ≠ 0) : bs ≠ [] :=
  fun e => hn (by rw [← h, e]; rfl)

/-- A list read byte by byte to its length is the list. -/
theorem map_getD_range {bs : List Byte} {n : Nat} (h : bs.length = n) :
    ((List.range n).map fun i => bs.getD i 0) = bs := by
  subst h
  refine List.ext_getElem (by simp) fun i h1 h2 => ?_
  simp [h2]

/-- A DMA command of which nothing was denied and nothing is poisoned answers the number of its bytes. -/
theorem dmaEnd_clean (q seq n : Nat) (d : Dev) : dmaEnd q seq n [] none d = d.succeed q seq n := rfl

theorem firstOffset_nil (pa : Nat) : firstOffset pa [] = none := rfl

theorem mergeDenials_nil : mergeDenials [] [] = [] := by simp [mergeDenials]

theorem poisonTargets_nil (src dst n : Nat) (denied : List Nat) : poisonTargets src dst n [] denied = [] := by
  simp [poisonTargets]

/-- The state after a command that stored to DRAM and completed. -/
theorem State.keeps_of_mem {s : State} {t : Nat} {d : Dev} {m : Mem}
    (h : (s.dev.clock t).Keeps d (· ∈ []) [.host, .pair]) :
    s.Keeps { s with dev := d, mem := m } t [] [.mem, .host, .pair] :=
  ⟨rfl, .inl (by simp), h.mono (fun _ hx => hx) (by simp)⟩

/-! ### DMA_FILL -/

theorem dmaFill_dram (t q seq : Nat) (c : Cmd) (s : State) (h : s.dev.Running q seq 0x0004 c) (ha : s.dev.Alone)
    (hz : c.tailZero 16 = true) (hn : c.p 8 4 ≠ 0) (hd : 2 ^ 63 ≤ c.p 0 8) (hu : s.dev.boot.memoryUp = true)
    (hw : Writable s.dev s.mem 4 (c.p 0 8 - 2 ^ 63) (c.p 8 4)) :
    ∃ s', exec (.dmaFill t q seq) s = .next s' ∧ s.mem.Wrote s'.mem (c.p 0 8 - 2 ^ 63) (fillBytes c) ∧
      s'.dev.answer q seq = some ⟨Status.success, 0, 0, s.dev.moduleId, c.p 8 4⟩ ∧
      s.Keeps s' t [] [.mem, .host, .pair] := by
  have hwt := hw.clock t
  obtain ⟨h1, h2⟩ := ((h.mayEnd ha).clock t).finish_at_once Status.success 0 (c.p 8 4) 0
  rw [c.p_result] at h1
  have hcw := checkedWrite_of_allowed (bs := fillBytes c) s.mem (cmdMaster q)
    ((length_fillBytes c).symm ▸ hwt.allowed)
  have hb := wrote_dramWrite (bs := fillBytes c) ((length_fillBytes c).symm ▸ hwt.alive)
    ((length_fillBytes c).symm ▸ hwt.whole)
  rw [exec_dmaFill, State.onAll, dmaFill, (h.clock t).onCmdMem]
  dsimp only
  rw [if_neg (by simp [hz]), if_neg hn, if_neg (by omega), if_neg (by simp [hu]), cmdChecker_of_lt h.queue,
    if_neg (by simp [hwt.isOpen]), ← fillBytes, hcw, hwt.whole, firstOffset_nil]
  dsimp only
  rw [dmaEnd_clean]
  exact ⟨_, rfl, hb, h1, State.keeps_of_mem h2⟩

theorem dmaFill_host (t q seq : Nat) (c : Cmd) (s : State) (h : s.dev.Running q seq 0x0004 c) (ha : s.dev.Alone)
    (hz : c.tailZero 16 = true) (hn : c.p 8 4 ≠ 0) (hd : c.p 0 8 < 2 ^ 63) (hm : s.dev.host.busMaster = true)
    (hq : s.dev.queueActs = true) :
    ∃ s', exec (.dmaFill t q seq) s = .next s' ∧
      s'.dev.host.posted = .write (c.p 0 8) (fillBytes c) false :: s.dev.host.posted ∧
      s'.dev.answer q seq = some ⟨Status.success, 0, 0, s.dev.moduleId, c.p 8 4⟩ ∧
      s.Keeps s' t [] [.host, .pair] := by
  have hqt : (s.dev.clock t).queueActs = true := hq
  obtain ⟨h1, h2, h3⟩ := ((h.mayEnd ha).clock t).post_finish (.write (c.p 0 8) (fillBytes c) false) Status.success 0
    (c.p 8 4) 0
  rw [c.p_result] at h2
  rw [exec_dmaFill, State.onAll, dmaFill, (h.clock t).onCmdMem]
  dsimp only
  rw [if_neg (by simp [hz]), if_neg hn, if_pos hd, if_pos (by simp [hm]), ← fillBytes,
    Dev.hostPut_of_acts _ _ (ne_nil_of_length (length_fillBytes c) hn) hqt]
  exact ⟨_, rfl, h1, h2, rfl, .inr rfl, h3⟩

/-! ### DMA_COPY -/

theorem dmaCopy_toDram (t q seq : Nat) (c : Cmd) (bs : List Byte) (s : State) (h : s.dev.Running q seq 0x0003 c)
    (ha : s.dev.Alone) (hz : c.tailZero 20 = true) (hn : c.p 16 4 ≠ 0) (hs : c.p 0 8 < 2 ^ 63) (hd : 2 ^ 63 ≤ c.p 8 8)
    (hu : s.dev.boot.memoryUp = true) (hm : s.dev.host.busMaster = true) (hh : c.hostData = some (bs, []))
    (hl : bs.length = c.p 16 4) (hw : Writable s.dev s.mem 4 (c.p 8 8 - 2 ^ 63) (c.p 16 4)) :
    ∃ s', exec (.dmaCopy t q seq) s = .next s' ∧ s.mem.Wrote s'.mem (c.p 8 8 - 2 ^ 63) bs ∧
      s'.dev.answer q seq = some ⟨Status.success, 0, 0, s.dev.moduleId, c.p 16 4⟩ ∧
      s.Keeps s' t [] [.mem, .host, .pair] := by
  have hwt := hw.clock t
  obtain ⟨h1, h2⟩ := ((h.mayEnd ha).clock t).finish_at_once Status.success 0 (c.p 16 4) 0
  rw [c.p_result] at h1
  have hcw := checkedWrite_of_allowed (bs := bs) s.mem (cmdMaster q) (hl.symm ▸ hwt.allowed)
  have hb := wrote_dramWrite (bs := bs) (hl.symm ▸ hwt.alive) (hl.symm ▸ hwt.whole)
  have hsn : ¬ 2 ^ 63 ≤ c.p 0 8 := by omega
  rw [exec_dmaCopy, State.onAll, dmaCopy, (h.clock t).onCmdMem]
  dsimp only
  rw [if_neg (by simp [hz]), if_neg hn, if_neg (by simp [hu]), if_neg (by simp [hm]), cmdChecker_of_lt h.queue,
    if_neg (by simp [hwt.isOpen]), if_neg (by simp [hh]), if_neg hsn, if_neg hsn, hh]
  dsimp only
  rw [map_getD_range hl, if_neg (by omega), hcw, hwt.whole, firstOffset_nil, firstOffset_nil]
  dsimp only
  rw [List.map_nil, poisonTargets_nil, mergeDenials_nil]
  exact ⟨_, rfl, hb, h1, State.keeps_of_mem h2⟩

theorem length_getBytes (m : Mem) (a n : Nat) : (m.getBytes a n).length = n := by simp [Mem.getBytes]

theorem dmaCopy_toHost (t q seq : Nat) (c : Cmd) (s : State) (h : s.dev.Running q seq 0x0003 c) (ha : s.dev.Alone)
    (hz : c.tailZero 20 = true) (hn : c.p 16 4 ≠ 0) (hs : 2 ^ 63 ≤ c.p 0 8) (hd : c.p 8 8 < 2 ^ 63)
    (hu : s.dev.boot.memoryUp = true) (hm : s.dev.host.busMaster = true) (hq : s.dev.queueActs = true)
    (hr : Readable s.dev s.mem 4 (c.p 0 8 - 2 ^ 63) (c.p 16 4)) :
    ∃ s', exec (.dmaCopy t q seq) s = .next s' ∧
      s'.dev.host.posted =
        .write (c.p 8 8) (s.mem.getBytes (c.p 0 8 - 2 ^ 63) (c.p 16 4)) false :: s.dev.host.posted ∧
      s'.dev.answer q seq = some ⟨Status.success, 0, 0, s.dev.moduleId, c.p 16 4⟩ ∧
      s.Keeps s' t [] [.host, .pair] := by
  have hrt := hr.clock t
  have hqt : (s.dev.clock t).queueActs = true := hq
  have hcr := checkedRead_of_readable hrt (cmdMaster q)
  obtain ⟨h1, h2, h3⟩ := ((h.mayEnd ha).clock t).post_finish
    (.write (c.p 8 8) (s.mem.getBytes (c.p 0 8 - 2 ^ 63) (c.p 16 4)) false) Status.success 0 (c.p 16 4) 0
  rw [c.p_result] at h2
  rw [exec_dmaCopy, State.onAll, dmaCopy, (h.clock t).onCmdMem]
  dsimp only
  rw [if_neg (by simp [hz]), if_neg hn, if_neg (by simp [hu]), if_neg (by simp [hm]), cmdChecker_of_lt h.queue,
    if_neg (by simp [hrt.isOpen]), if_neg (by simp; omega), if_pos hs, if_pos hs, hcr]
  dsimp only
  rw [if_pos hd, firstOffset_nil, dmaEnd_clean, List.isEmpty_nil, Bool.not_true,
    Dev.hostPut_of_acts _ _ (ne_nil_of_length (length_getBytes _ _ _) hn) hqt]
  exact ⟨_, rfl, h1, h2, rfl, .inr rfl, h3⟩

theorem dmaCopy_empty (t q seq : Nat) (c : Cmd) (s : State) (h : s.dev.Running q seq 0x0003 c) (ha : s.dev.Alone)
    (hz : c.tailZero 20 = true) (hn : c.p 16 4 = 0) :
    ∃ s', exec (.dmaCopy t q seq) s = .next s' ∧
      s'.dev.answer q seq = some ⟨Status.success, 0, 0, s.dev.moduleId, 0⟩ ∧ s.Keeps s' t [] [.host, .pair] := by
  obtain ⟨h1, h2⟩ := ((h.mayEnd ha).clock t).finish_at_once Status.success 0 0 0
  rw [exec_dmaCopy, State.onAll, dmaCopy, (h.clock t).onCmdMem]
  dsimp only
  rw [if_neg (by simp [hz]), if_pos hn]
  exact ⟨_, rfl, h1, rfl, .inr rfl, h2⟩

/-- Settles O15: an access that the checker allows whole is one write to DRAM, or one write issued to the host. -/
theorem dmaCommands : Obligations.DmaCommands :=
  ⟨dmaFill_dram, dmaFill_host, dmaCopy_toDram, dmaCopy_toHost, dmaCopy_empty⟩

end Sys2Proof.Machine
end

section
/-! PROOFS. What leaves the state of boot, profiles and lifecycle alone. Few functions of the model write it; each of the
others has its rule here, which goes from a block whose boot is that of `d0` to what the function makes of it. -/

namespace Sys2Proof.Machine

/-- From `d` to `e` the state of boot, profiles and lifecycle does not move. -/
def Dev.SameBoot (d e : Dev) : Prop := e.boot = d.boot

variable {d0 d : Dev}

theorem Dev.SameBoot.refl (d : Dev) : d.SameBoot d := rfl

/-- What is so of `d` may be used more than once to show it of `e`. -/
theorem Dev.SameBoot.share {e : Dev} (k : d0.SameBoot d → d0.SameBoot e) (h : d0.SameBoot d) : d0.SameBoot e := k h

theorem Dev.SameBoot.ite {a b : Dev} {p : Prop} [Decidable p] (ha : d0.SameBoot a) (hb : d0.SameBoot b) :
    d0.SameBoot (if p then a else b) := by
  split
  · exact ha
  · exact hb

theorem Dev.SameBoot.ite_fst {α : Type} {a b : Dev × α} {p : Prop} [Decidable p] (ha : d0.SameBoot a.1)
    (hb : d0.SameBoot b.1) : d0.SameBoot (if p then a else b).1 := by
  split
  · exact ha
  · exact hb

theorem Dev.SameBoot.ite_fst_fst {α β : Type} {a b : (Dev × α) × β} {p : Prop} [Decidable p] (ha : d0.SameBoot a.1.1)
    (hb : d0.SameBoot b.1.1) : d0.SameBoot (if p then a else b).1.1 := by
  split
  · exact ha
  · exact hb

theorem Dev.SameBoot.foldl {α : Type} {f : Dev → α → Dev} {l : List α} (h : d0.SameBoot d)
    (hf : ∀ e x, d0.SameBoot e → d0.SameBoot (f e x)) : d0.SameBoot (l.foldl f d) := by
  induction l generalizing d with
  | nil => exact h
  | cons x r ih => exact ih (hf d x h)

theorem Dev.SameBoot.withNow {x : Nat} (h : d0.SameBoot d) : d0.SameBoot { d with now := x } := h

theorem Dev.SameBoot.withRegs {x : Tab Word} (h : d0.SameBoot d) : d0.SameBoot { d with regs := x } := h

theorem Dev.SameBoot.withLatch {x : Tab Word} (h : d0.SameBoot d) : d0.SameBoot { d with latch := x } := h

theorem Dev.SameBoot.withHostSt {x : HostSt} (h : d0.SameBoot d) : d0.SameBoot { d with host := x } := h

theorem Dev.SameBoot.withTime {x : TimeSt} (h : d0.SameBoot d) : d0.SameBoot { d with time := x } := h

theorem Dev.SameBoot.withRef {x : RefSt} (h : d0.SameBoot d) : d0.SameBoot { d with ref := x } := h

theorem Dev.SameBoot.withRecd {x : RecSt} (h : d0.SameBoot d) : d0.SameBoot { d with recd := x } := h

theorem Dev.SameBoot.withErr {x : ErrSt} (h : d0.SameBoot d) : d0.SameBoot { d with err := x } := h

theorem Dev.SameBoot.withProt {x : ProtSt} (h : d0.SameBoot d) : d0.SameBoot { d with prot := x } := h

theorem Dev.SameBoot.withPwr {x : PwrSt} (h : d0.SameBoot d) : d0.SameBoot { d with pwr := x } := h

theorem Dev.SameBoot.withSys {x : SysSt} (h : d0.SameBoot d) : d0.SameBoot { d with sys := x } := h

theorem Dev.SameBoot.withNet {x : NetSt} (h : d0.SameBoot d) : d0.SameBoot { d with net := x } := h

theorem Dev.SameBoot.withDec {x : DecSt} (h : d0.SameBoot d) : d0.SameBoot { d with dec := x } := h

theorem Dev.SameBoot.withLay {x : LaySt} (h : d0.SameBoot d) : d0.SameBoot { d with lay := x } := h

theorem Dev.SameBoot.withComp {x : CompSt} (h : d0.SameBoot d) : d0.SameBoot { d with comp := x } := h

theorem Dev.SameBoot.withEnc {x : EncSt} (h : d0.SameBoot d) : d0.SameBoot { d with enc := x } := h

theorem Dev.SameBoot.withIo {x : IoSt} (h : d0.SameBoot d) : d0.SameBoot { d with io := x } := h

theorem Dev.SameBoot.withPair {x : PairSt} (h : d0.SameBoot d) : d0.SameBoot { d with pair := x } := h

theorem Dev.SameBoot.withMctl {x : MemCtl} (h : d0.SameBoot d) : d0.SameBoot { d with mctl := x } := h

/-- The parts of the block but boot may all be others. -/
theorem Dev.SameBoot.withParts {now : Nat} {regs latch : Tab Word} {host : HostSt} {time : TimeSt} {ref : RefSt}
    {recd : RecSt} {err : ErrSt} {prot : ProtSt} {pwr : PwrSt} {sys : SysSt} {net : NetSt} {dec : DecSt} {lay : LaySt}
    {comp : CompSt} {enc : EncSt} {io : IoSt} {pair : PairSt} {mctl : MemCtl} (h : d0.SameBoot d) :
    d0.SameBoot ⟨now, regs, latch, host, d.boot, time, ref, recd, err, prot, pwr, sys, net, dec, lay, comp, enc, io,
      pair, mctl⟩ := h

/-- `Dev.SameBoot` of a block with its DRAM. -/
def Dev.SameBootPair (d : Dev) (x : Dev × Mem) : Prop := d.SameBoot x.1

theorem Dev.SameBootPair.ite {a b : Dev × Mem} {p : Prop} [Decidable p] (ha : d0.SameBootPair a)
    (hb : d0.SameBootPair b) : d0.SameBootPair (if p then a else b) := by
  split
  · exact ha
  · exact hb

/-! ### Flags and counters -/

theorem Dev.SameBoot.setReg {r : RegDesc} {v i j : Nat} (h : d0.SameBoot d) : d0.SameBoot (d.setReg r v i j) :=
  h.withRegs

theorem Dev.SameBoot.put {f : FldDesc} {v i j : Nat} (h : d0.SameBoot d) : d0.SameBoot (d.put f v i j) := h.setReg

theorem Dev.SameBoot.bump {f : FldDesc} {i n j : Nat} (h : d0.SameBoot d) : d0.SameBoot (d.bump f i n j) := h.put

theorem Dev.SameBoot.bumpWrap {f : FldDesc} {i n : Nat} (h : d0.SameBoot d) : d0.SameBoot (d.bumpWrap f i n) := h.put

theorem Dev.SameBoot.setLatch {r : RegDesc} {v i j : Nat} (h : d0.SameBoot d) : d0.SameBoot (d.setLatch r v i j) :=
  h.withLatch

/-! ### Registers, entries, completions and other shared operations -/

theorem Dev.SameBoot.clock {t : Nat} (h : d0.SameBoot d) : d0.SameBoot (d.clock t) := h.withNow

theorem Dev.SameBoot.storeEntry {kind : Kind} {ev : Ev} {agent p0 p1 p2 : Nat} (h : d0.SameBoot d) :
    d0.SameBoot (d.storeEntry kind ev agent p0 p1 p2) :=
  .share (fun l0 => .ite l0 (.ite l0.withRecd.setReg.put (.ite l0.withRecd.put l0.withRecd.put))) h.withRecd.setReg

theorem Dev.SameBoot.record {ev : Ev} {kind : Kind} {agent p0 p1 p2 : Nat} (h : d0.SameBoot d) :
    d0.SameBoot (d.record ev kind agent p0 p1 p2) :=
  .ite h.storeEntry (.ite (.storeEntry (.ite h.withRecd h.withRecd.storeEntry)) h.withRecd)

theorem Dev.SameBoot.info {ev : Ev} {agent p0 p1 p2 : Nat} (h : d0.SameBoot d) :
    d0.SameBoot (d.info ev agent p0 p1 p2) :=
  h.record

theorem Dev.SameBoot.clockGone {dom inst : Nat} (h : d0.SameBoot d) : d0.SameBoot (d.clockGone dom inst) :=
  .ite h.withErr.put.put.info h.withErr

theorem Dev.SameBoot.clockBack {dom inst : Nat} (h : d0.SameBoot d) : d0.SameBoot (d.clockBack dom inst) :=
  .ite h (.ite h.withErr.put h.withErr)

theorem Dev.SameBoot.setPair {x : PairSt} (h : d0.SameBoot d) : d0.SameBoot (d.setPair x) := h.withPair

theorem Dev.SameBoot.mirror {x : MirrorItem} (h : d0.SameBoot d) : d0.SameBoot (d.mirror x) := .ite h.setPair h

theorem Dev.SameBoot.reply {r : MirrorReply} (h : d0.SameBoot d) : d0.SameBoot (d.reply r) := h.setPair

theorem Dev.SameBoot.planRelease (h : d0.SameBoot d) : d0.SameBoot d.planRelease := h.setPair.mirror

theorem Dev.SameBoot.setQueue {q : Nat} {v : Queue} (h : d0.SameBoot d) : d0.SameBoot (d.setQueue q v) := h.withHostSt

theorem Dev.SameBoot.queueErr {q code : Nat} (h : d0.SameBoot d) : d0.SameBoot (d.queueErr q code) := .ite h.put.put h

theorem Dev.SameBoot.post {p : Posted} (h : d0.SameBoot d) : d0.SameBoot (d.post p) := h.withHostSt

theorem Dev.SameBoot.ringPut {q : Nat} {entry : List Byte} {notify : Bool} (h : d0.SameBoot d) :
    d0.SameBoot (d.ringPut q entry notify) :=
  .ite h.post.setQueue.post h.post.setQueue

theorem Dev.SameBoot.notify {entry : List Byte} (h : d0.SameBoot d) : d0.SameBoot (d.notify entry) := .ite h.ringPut h

theorem Dev.SameBoot.flushRecords {n : Nat} (h : d0.SameBoot d) : d0.SameBoot (Dev.flushRecords n d) := by
  induction n generalizing d with
  | zero => exact h
  | succ n ih =>
    unfold Dev.flushRecords
    split
    · exact h.put
    · exact .ite h.queueErr.setQueue (.ite (ih h.ringPut.setQueue.put.mirror) h)

theorem Dev.SameBoot.postRecord {entry : List Byte} {commitSeq : Nat} (h : d0.SameBoot d) :
    d0.SameBoot (d.postRecord entry commitSeq) := by
  unfold Dev.postRecord
  dsimp only
  split
  · exact h.setPair
  · exact .ite h.bump.info h.setQueue.put.flushRecords

theorem Dev.SameBoot.errorNotify {accepted : Bool} {kind : Kind} {ev : Ev} {agent p0 : Nat} (h : d0.SameBoot d) :
    d0.SameBoot (d.errorNotify accepted kind ev agent p0) :=
  .ite h.withErr.withErr.notify h.withErr

theorem Dev.SameBoot.corrected {ev : Ev} {agent p0 p1 : Nat} (h : d0.SameBoot d) :
    d0.SameBoot (d.corrected ev agent p0 p1) :=
  h.bump.record

theorem Dev.SameBoot.contained {ev : Ev} {agent p0 p1 : Nat} (h : d0.SameBoot d) :
    d0.SameBoot (d.contained ev agent p0 p1) :=
  h.bump.record.errorNotify

theorem Dev.SameBoot.degradedEvent {ev : Ev} {agent p0 p1 : Nat} (h : d0.SameBoot d) :
    d0.SameBoot (d.degradedEvent ev agent p0 p1) :=
  h.bump.record.errorNotify.put

theorem Dev.SameBoot.degraded {ev : Ev} {agent p0 p1 : Nat} (h : d0.SameBoot d) :
    d0.SameBoot (d.degraded ev agent p0 p1) :=
  h.withErr.degradedEvent

theorem Dev.SameBoot.fatal {cause : Nat} (h : d0.SameBoot d) : d0.SameBoot (d.fatal cause) :=
  .share (fun l0 => .share (fun l1 => .ite l1.record.errorNotify.withRecd l1.record.errorNotify) (.ite
    l0.put.put.put l0.put.put)) (.setPair (.ite h.planRelease h))

theorem Dev.SameBoot.setCmds {q : Nat} {cs : List Cmd} (h : d0.SameBoot d) : d0.SameBoot (d.setCmds q cs) :=
  h.setQueue

theorem Dev.SameBoot.updCmd {q seq : Nat} {f : Cmd → Cmd} (h : d0.SameBoot d) : d0.SameBoot (d.updCmd q seq f) :=
  h.setCmds

theorem Dev.SameBoot.fenceTo {f v : Nat} (h : d0.SameBoot d) : d0.SameBoot (d.fenceTo f v) :=
  .ite h.setReg (.ite h h.info)

theorem Dev.SameBoot.resync (h : d0.SameBoot d) : d0.SameBoot d.resync := .ite h h.put.put.put.setPair.reply.reply

theorem Dev.SameBoot.diverged (h : d0.SameBoot d) : d0.SameBoot d.diverged := .ite h h.bump.info.resync

theorem Dev.SameBoot.settle {q seq : Nat} (h : d0.SameBoot d) : d0.SameBoot (d.settle q seq) := by
  unfold Dev.settle
  split
  · exact .ite h.setPair.setCmds.reply h.setPair.diverged
  · exact h

theorem Dev.SameBoot.popWritten {n q : Nat} (h : d0.SameBoot d) : d0.SameBoot (Dev.popWritten n d q) := by
  induction n generalizing d with
  | zero => exact h
  | succ n ih =>
    unfold Dev.popWritten
    split
    · exact h
    · exact .ite (ih (.share (fun l => .ite l.fenceTo l) h.setCmds.setReg.setPair)) h

theorem Dev.SameBoot.keepParams {c : Cmd} {o : Outcome} (h : d0.SameBoot d) : d0.SameBoot (d.keepParams c o) :=
  .ite h (.ite h.setPair (.ite h.setPair h))

theorem Dev.SameBoot.complete {q seq : Nat} {o : Outcome} (h : d0.SameBoot d) : d0.SameBoot (d.complete q seq o) := by
  unfold Dev.complete
  refine .ite ?_ h.setCmds.withHostSt
  split
  · exact h
  · exact .share (fun l0 => .ite l0.setPair.settle.popWritten l0.setPair) h.keepParams.updCmd.mirror

theorem Dev.SameBoot.finish {q seq status reason result detail : Nat} (h : d0.SameBoot d) :
    d0.SameBoot (d.finish q seq status reason result detail) :=
  h.complete

theorem Dev.SameBoot.succeed {q seq result : Nat} (h : d0.SameBoot d) : d0.SameBoot (d.succeed q seq result) :=
  h.finish

theorem Dev.SameBoot.bad {q seq i : Nat} (h : d0.SameBoot d) : d0.SameBoot (d.bad q seq i) := h.finish

theorem Dev.SameBoot.reject {q seq reason : Nat} (h : d0.SameBoot d) : d0.SameBoot (d.reject q seq reason) := h.finish

theorem Dev.SameBoot.refuse {q seq reason : Nat} (h : d0.SameBoot d) : d0.SameBoot (d.refuse q seq reason) := h.finish

theorem Dev.SameBoot.withTail {q seq n : Nat} {c : Cmd} {f : Dev → Dev} (h : d0.SameBoot d) (hf : d0.SameBoot (f d)) :
    d0.SameBoot (d.withTail q seq c n f) := by
  unfold Dev.withTail
  split
  · exact h.finish
  · exact hf

theorem Dev.SameBoot.setJob {j : Nat} {v : Job} {reason : Nat} (h : d0.SameBoot d) :
    d0.SameBoot (d.setJob j v reason) :=
  h.withSys.setReg.setReg.setReg.setReg

theorem Dev.SameBoot.feedFailed {q seq reason : Nat} (h : d0.SameBoot d) :
    d0.SameBoot (d.feedFailed q seq reason) := by
  unfold Dev.feedFailed
  split
  · exact h.setJob
  · exact h

theorem Dev.SameBoot.onCmd {q seq opcode : Nat} {f : Cmd → Dev → Dev} (h : d0.SameBoot d)
    (hf : ∀ c, d0.SameBoot (f c d)) : d0.SameBoot (d.onCmd q seq opcode f) := by
  unfold Dev.onCmd
  split
  · exact .ite (hf _) h
  · exact h

theorem Dev.SameBoot.onCmdMem {m : Mem} {q seq opcode : Nat} {f : Cmd → Dev → Mem → Dev × Mem} (h : d0.SameBoot d)
    (hf : ∀ c, d0.SameBoot (f c d m).1) : d0.SameBoot (Machine.onCmdMem d m q seq opcode f).1 := by
  unfold Machine.onCmdMem
  split
  · exact .ite_fst (hf _) h
  · exact h

theorem Dev.SameBoot.withHost {q seq : Nat} {c : Cmd} {f : List Byte → Dev → Dev} (h : d0.SameBoot d)
    (hf : ∀ bs, d0.SameBoot (f bs d)) : d0.SameBoot (d.withHost q seq c f) := by
  unfold Dev.withHost
  split
  · exact hf _
  · exact h.finish
  · exact .ite h h.finish

theorem Dev.SameBoot.hostPut {addr : Nat} {bs : List Byte} {poisoned : Bool} (h : d0.SameBoot d) :
    d0.SameBoot (d.hostPut addr bs poisoned) :=
  .ite h h.post

theorem Dev.SameBoot.writeRecord {r : HeldRec} (h : d0.SameBoot d) : d0.SameBoot (d.writeRecord r) :=
  .ite h.postRecord h.withSys

theorem Dev.SameBoot.flushHeld (h : d0.SameBoot d) : d0.SameBoot d.flushHeld :=
  h.withLay.foldl (fun _ _ k => k.writeRecord)

theorem Dev.SameBoot.countPoison {ls : List Nat} (h : d0.SameBoot d) : d0.SameBoot (Machine.countPoison d ls) := by
  induction ls generalizing d with
  | nil => exact h
  | cons l r ih => exact ih h.bump

theorem Dev.SameBoot.accessNotify {reason agent : Nat} {write : Bool} {master pa : Nat} (h : d0.SameBoot d) :
    d0.SameBoot (d.accessNotify reason agent write master pa) :=
  h.notify

theorem Dev.SameBoot.checkerFault {k : Nat} {write : Bool} {master pa code : Nat} (h : d0.SameBoot d) :
    d0.SameBoot (d.checkerFault k write master pa code) :=
  .share (fun l0 => .share (fun l1 => .ite l1.accessNotify l1) (.info (.ite l0.bump l0.bump)))
    h.withProt.setReg.setLatch

theorem Dev.SameBoot.leaseDrop {k entry pa : Nat} (h : d0.SameBoot d) : d0.SameBoot (d.leaseDrop k entry pa) :=
  .share (fun l0 => .ite l0.info.accessNotify l0.info) h.withProt.setReg.setLatch.bump

theorem Dev.SameBoot.reportDenials {k : Nat} {write : Bool} {master pa : Nat} {ds : List (Nat × Denial)}
    (h : d0.SameBoot d) :
    d0.SameBoot (d.reportDenials k write master pa ds) := by
  unfold Dev.reportDenials
  dsimp only
  split
  · refine .leaseDrop ?_
    split
    · exact h.checkerFault
    · exact h
  · split
    · exact h.checkerFault
    · exact h

theorem Dev.SameBoot.checkedWrite {m : Mem} {k master pa : Nat} {bs : List Byte} (h : d0.SameBoot d) :
    d0.SameBoot (Machine.checkedWrite d m k master pa bs).1 :=
  h.reportDenials

theorem Dev.SameBoot.checkedRead {m : Mem} {k master pa n : Nat} (h : d0.SameBoot d) :
    d0.SameBoot (Machine.checkedRead d m k master pa n).1 :=
  h.reportDenials.countPoison

theorem Dev.SameBoot.waitAt {k : Nat} {a : WaitAccess} (h : d0.SameBoot d) : d0.SameBoot (d.waitAt k a) :=
  .ite h h.withProt

/-! ### Shared descriptions -/

theorem Dev.SameBoot.setShadow {l : Nat} {w : List Nat} (h : d0.SameBoot d) : d0.SameBoot (d.setShadow l w) :=
  h.foldl (fun _ _ k => k.setReg)

theorem Dev.SameBoot.setCurLd {l : Nat} {w : List Nat} (h : d0.SameBoot d) : d0.SameBoot (d.setCurLd l w) :=
  h.foldl (fun _ _ k => k.setReg)

theorem Dev.SameBoot.setLayerSt {l : Nat} {v : LayerSt} (h : d0.SameBoot d) : d0.SameBoot (d.setLayerSt l v) :=
  h.withLay

theorem Dev.SameBoot.setHead {hd : Nat} {v : HeadSt} (h : d0.SameBoot d) : d0.SameBoot (d.setHead hd v) := h.withComp

theorem Dev.SameBoot.setDctx {c : Nat} {x : Dctx} (h : d0.SameBoot d) : d0.SameBoot (d.setDctx c x) := by
  unfold Dev.setDctx
  refine .put ?_
  split
  · exact h.withDec.setReg.setReg.setReg.put.put
  · exact h.withDec.setReg.setReg.setReg.put.put

theorem Dev.SameBoot.updSlot {p : Pool} {i : Nat} {f : PicSlot → PicSlot} (h : d0.SameBoot d) :
    d0.SameBoot (d.updSlot p i f) := by
  unfold Dev.updSlot
  split
  · exact h.setDctx
  · split
    · exact h
    · exact h.withSys
  · exact h.setHead

theorem Dev.SameBoot.unlease {p : Pool} {i : Nat} (h : d0.SameBoot d) : d0.SameBoot (d.unlease p i) := h.updSlot

theorem Dev.SameBoot.dropLease {p : Pool} {i : Nat} (h : d0.SameBoot d) : d0.SameBoot (d.dropLease p i) := by
  unfold Dev.dropLease
  dsimp only
  split
  · exact .ite h.unlease.setHead h.unlease
  · split
    · exact .ite h.unlease.withSys h.unlease
    · exact h.unlease
  · exact h.unlease

theorem Dev.SameBoot.skewed {l : Nat} (h : d0.SameBoot d) : d0.SameBoot (d.skewed l) := h.setLayerSt.bump.put.info

theorem Dev.SameBoot.canvasPicture {p : Pool} {i : Nat} (h : d0.SameBoot d) : d0.SameBoot (d.canvasPicture p i) := by
  unfold Dev.canvasPicture
  refine .ite h (h.updSlot.withComp.foldl (fun _ _ k => ?_))
  split
  · exact .ite k.skewed k
  · exact k

theorem Dev.SameBoot.endHold {hd : Hold} (h : d0.SameBoot d) : d0.SameBoot (d.endHold hd) := h.withComp.unlease

theorem Dev.SameBoot.makeRoom {p : Pool} {full : Bool} (h : d0.SameBoot d) : d0.SameBoot (d.makeRoom p full) := by
  unfold Dev.makeRoom
  refine .ite h ?_
  split
  · exact h
  · exact .endHold (h.foldl (fun _ _ k => k.setLayerSt))

/-! ### Host interface and queues -/

theorem Dev.SameBoot.respond {r : Response} (h : d0.SameBoot d) : d0.SameBoot (d.respond r) := h.withHostSt

theorem Dev.SameBoot.gated {off : Nat} {f : Dev → Dev} (h : d0.SameBoot d) (hf : d0.SameBoot (f d)) :
    d0.SameBoot (d.gated off f) := .ite h (.ite h.respond hf)

theorem Dev.SameBoot.hostEffect {off : Nat} {v : Word} {f : Dev → Dev} (h : d0.SameBoot d) (hf : d0.SameBoot (f d)) :
    d0.SameBoot (d.hostEffect off v f) := .ite hf (.ite h.info hf.mirror)

theorem Dev.SameBoot.gatedM {off : Nat} {v : Word} {f : Dev → Dev} (h : d0.SameBoot d) (hf : d0.SameBoot (f d)) :
    d0.SameBoot (d.gatedM off v f) := h.gated (h.hostEffect hf)

theorem Dev.SameBoot.cfgRequest {r : CfgRequest} (h : d0.SameBoot d) : d0.SameBoot (Machine.cfgRequest r d) := by
  unfold Machine.cfgRequest
  refine .ite h ?_
  split
  · exact h.respond
  · exact h.withHostSt
  · exact .ite h.withHostSt h.respond
  · exact h.withHostSt
  · exact h.respond

theorem Dev.SameBoot.bar2ReadNow {off len : Nat} {x : Dev × Mem} (h : d0.SameBoot x.1) :
    d0.SameBoot (Machine.bar2ReadNow off len x).1 :=
  h.checkedRead.respond

theorem Dev.SameBoot.bar2Read {off len : Nat} {x : Dev × Mem} (h : d0.SameBoot x.1) :
    d0.SameBoot (Machine.bar2Read off len x).1 :=
  .ite_fst h (.ite_fst h.respond (.ite_fst h.respond.waitAt h.bar2ReadNow))

theorem Dev.SameBoot.bar2WriteNow {off : Nat} {bytes : List Byte} {x : Dev × Mem} (h : d0.SameBoot x.1) :
    d0.SameBoot (Machine.bar2WriteNow off bytes x).1 := by
  have k := h.checkedWrite (m := x.2) (k := 0) (master := 0) (pa := x.1.bar2Pa off) (bs := bytes)
  exact .ite k k.info

theorem Dev.SameBoot.bar2Write {off : Nat} {bytes : List Byte} {x : Dev × Mem} (h : d0.SameBoot x.1) :
    d0.SameBoot (Machine.bar2Write off bytes x).1 :=
  .ite_fst h (.ite_fst h.waitAt h.bar2WriteNow)

theorem Dev.SameBoot.bar2OffsetWrite {v : Word} (h : d0.SameBoot d) : d0.SameBoot (Machine.bar2OffsetWrite v d) :=
  .ite h.put h

theorem Dev.SameBoot.drainCheck {q : Nat} (h : d0.SameBoot d) : d0.SameBoot (d.drainCheck q) := .ite h.put.setQueue h

theorem Dev.SameBoot.writeFront {q : Nat} {e : Dev} (h : d0.SameBoot d) (he : d.writeFront q = some e) :
    d0.SameBoot e := by
  unfold Dev.writeFront at he
  split at he
  · cases he
  split at he
  · cases he
  rw [Option.ite_none_left_eq_some] at he
  split at he
  · cases he.2
    exact h.queueErr.setQueue
  · cases he.2
    exact .share (fun l => .ite l.fenceTo l) (.share (fun l => .ite l l.setReg) h.ringPut.setCmds.mirror)

theorem Dev.SameBoot.flush {n q : Nat} (h : d0.SameBoot d) : d0.SameBoot (Dev.flush n d q) := by
  induction n generalizing d with
  | zero => exact h
  | succ n ih =>
    unfold Dev.flush
    split
    · next he => exact ih (h.writeFront he)
    · exact h

theorem Dev.SameBoot.flushQueue {q : Nat} (h : d0.SameBoot d) : d0.SameBoot (d.flushQueue q) :=
  .ite h.flushRecords h.flush.flushHeld

theorem Dev.SameBoot.qCtrlFields {q : Nat} {v : Word} (h : d0.SameBoot d) : d0.SameBoot (d.qCtrlFields q v) :=
  .ite h h.setReg

theorem Dev.SameBoot.queueEnable {q : Nat} {v : Word} (h : d0.SameBoot d) : d0.SameBoot (Machine.queueEnable q v d) :=
  .ite h (.share (fun l0 => .ite l0 (.ite l0.put.put.put.setQueue.flushQueue l0.put.put)) h.qCtrlFields)

theorem Dev.SameBoot.abandon {q : Nat} {p : Cmd → Bool} (h : d0.SameBoot d) : d0.SameBoot (d.abandon q p) :=
  h.foldl (fun _ _ k => k.finish)

theorem Dev.SameBoot.queueDisable {q : Nat} {v : Word} (h : d0.SameBoot d) :
    d0.SameBoot (Machine.queueDisable q v d) :=
  .ite h (.share (fun l0 => .ite l0.put.put.put.abandon.drainCheck (.ite l0.put l0)) h.qCtrlFields)

theorem Dev.SameBoot.sqDoorbell {q : Nat} {v : Word} (h : d0.SameBoot d) : d0.SameBoot (Machine.sqDoorbell q v d) :=
  .ite h (.ite h.queueErr h.setQueue)

theorem Dev.SameBoot.cqDoorbell {q : Nat} {v : Word} (h : d0.SameBoot d) : d0.SameBoot (Machine.cqDoorbell q v d) :=
  .ite h (.ite h.queueErr h.setQueue.flushQueue.drainCheck)

theorem Dev.SameBoot.hostReadCompletion {q : Nat} {seq : Option Nat} {a : HostAnswer} (h : d0.SameBoot d) :
    d0.SameBoot (Machine.hostReadCompletion q seq a d) := by
  unfold Machine.hostReadCompletion
  split
  · exact h.queueErr
  · exact h
  · split
    · exact .ite h.feedFailed.finish h
    · exact h
  · exact .updCmd (.ite h.mirror h)

theorem Dev.SameBoot.hostReadTimeout {q : Nat} {seq : Option Nat} (h : d0.SameBoot d) :
    d0.SameBoot (Machine.hostReadTimeout q seq d) := by
  unfold Machine.hostReadTimeout
  split
  · exact h.queueErr
  · split
    · exact .ite h.feedFailed.finish h
    · exact h

theorem Dev.SameBoot.hostWriteTimeout {w : HostWrite} (h : d0.SameBoot d) :
    d0.SameBoot (Machine.hostWriteTimeout w d) := by
  unfold Machine.hostWriteTimeout
  split
  · split
    · exact .ite h.feedFailed.finish h
    · exact h
  · exact h.queueErr.setQueue.drainCheck

theorem Dev.SameBoot.entryFetched {q : Nat} {e : List Byte} (h : d0.SameBoot d) :
    d0.SameBoot (Machine.entryFetched q e d) :=
  .ite h (.ite h.put.setReg.setQueue.withHostSt.mirror (.ite h.put.bump h.put.setQueue.queueErr))

theorem Dev.SameBoot.startNow {q seq : Nat} {c : Cmd} (h : d0.SameBoot d) :
    d0.SameBoot (Machine.startNow q seq c d) := by
  unfold Machine.startNow
  split
  · exact h.finish
  · exact .ite (.ite h.finish (.ite h h.updCmd.withHostSt)) (.ite h.finish (.ite h.finish (.ite h.finish (.ite h (.ite
      h h.updCmd)))))

theorem Dev.SameBoot.commandStart {q seq : Nat} (h : d0.SameBoot d) : d0.SameBoot (Machine.commandStart q seq d) := by
  unfold Machine.commandStart
  split
  · exact h
  · exact .ite h (.ite h (.ite h h.startNow))

theorem Dev.SameBoot.commandDeadline {q seq : Nat} (h : d0.SameBoot d) :
    d0.SameBoot (Machine.commandDeadline q seq d) := by
  unfold Machine.commandDeadline
  split
  · exact h
  · exact .ite h.finish h

theorem Dev.SameBoot.completionWrite {q : Nat} (h : d0.SameBoot d) : d0.SameBoot (Machine.completionWrite q d) := by
  unfold Machine.completionWrite
  split
  · next he => exact (h.writeFront he).drainCheck.flushHeld
  · exact h.drainCheck

theorem Dev.SameBoot.fenceWrite {f : Nat} {v : Word} (h : d0.SameBoot d) : d0.SameBoot (Machine.fenceWrite f v d) :=
  .ite h.fenceTo h

theorem Dev.SameBoot.nop {q seq : Nat} (h : d0.SameBoot d) : d0.SameBoot (Machine.nop q seq d) :=
  h.onCmd (fun _ => h.withTail h.succeed)

theorem Dev.SameBoot.sync {q seq : Nat} (h : d0.SameBoot d) : d0.SameBoot (Machine.sync q seq d) :=
  h.onCmd (fun _ => h.withTail (.ite h.succeed h))

theorem Dev.SameBoot.fenceSignal {q seq : Nat} (h : d0.SameBoot d) : d0.SameBoot (Machine.fenceSignal q seq d) :=
  h.onCmd (fun _ => h.withTail (.ite h.bad h.fenceTo.succeed))

theorem Dev.SameBoot.dmaEnd {q seq n : Nat} {ds : List (Nat × Denial)} {poison : Option Nat} (h : d0.SameBoot d) :
    d0.SameBoot (Machine.dmaEnd q seq n ds poison d) := by
  unfold Machine.dmaEnd
  split
  · exact h.succeed
  · exact h.finish
  · exact h.finish
  · exact .ite h.finish h.finish

theorem Dev.SameBoot.dmaFill {q seq : Nat} {x : Dev × Mem} (h : d0.SameBoot x.1) :
    d0.SameBoot (Machine.dmaFill q seq x).1 :=
  h.onCmdMem (fun _ => .ite_fst (h.withTail h) (.ite_fst h.succeed (.ite_fst (.ite h.hostPut.succeed h.finish)
    (.ite_fst (.ite h.finish h) (.ite_fst h.waitAt h.checkedWrite.dmaEnd)))))

theorem Dev.SameBoot.dmaCopy {q seq : Nat} {x : Dev × Mem} (h : d0.SameBoot x.1) :
    d0.SameBoot (Machine.dmaCopy q seq x).1 := by
  unfold Machine.dmaCopy
  refine h.onCmdMem (fun _ => .ite_fst (h.withTail h) (.ite_fst h.succeed (.ite_fst (.ite h.finish h) (.ite_fst
    h.finish (.ite_fst h.waitAt (.ite_fst h (.ite_fst (.dmaEnd (.hostPut (.ite_fst h.checkedRead ?_))) (.dmaEnd
    (.checkedWrite (.ite_fst h.checkedRead ?_))))))))))
  · split
    · exact h
    · exact h
  · split
    · exact h
    · exact h

theorem Dev.SameBoot.forwardedReceived {origin oq : Nat} {entry : List Byte} (h : d0.SameBoot d) :
    d0.SameBoot (Machine.forwardedReceived origin oq entry d) := by
  unfold Machine.forwardedReceived
  dsimp only
  split
  · exact h.withHostSt
  · exact .ite h h.setCmds.withHostSt

theorem Dev.SameBoot.forwardedOutcome {q seq : Nat} {o : FwdOutcome} (h : d0.SameBoot d) :
    d0.SameBoot (Machine.forwardedOutcome q seq o d) := by
  unfold Machine.forwardedOutcome
  split
  · exact .ite h.complete h
  · exact h

theorem Dev.SameBoot.forwardTimeout {q seq : Nat} (h : d0.SameBoot d) :
    d0.SameBoot (Machine.forwardTimeout q seq d) := by
  unfold Machine.forwardTimeout
  split
  · exact .ite h.finish h
  · exact h

/-! ### Reference selection -/

theorem Dev.SameBoot.setRefMon {r : Nat} {m : RefMon} (h : d0.SameBoot d) : d0.SameBoot (d.setRefMon r m) := h.withRef

theorem Dev.SameBoot.bwLimited {r : Nat} (h : d0.SameBoot d) : d0.SameBoot (d.bwLimited r) := h.put

theorem Dev.SameBoot.startPull {r : Nat} (h : d0.SameBoot d) : d0.SameBoot (d.startPull r) :=
  h.put.bump.info.put.bwLimited.setReg.withRef

theorem Dev.SameBoot.loseAll (h : d0.SameBoot d) : d0.SameBoot d.loseAll :=
  .ite h.put.put.withRef.put.setReg.info h.put.put.withRef.put.setReg.info

theorem Dev.SameBoot.select (h : d0.SameBoot d) : d0.SameBoot d.select := by
  unfold Dev.select
  dsimp only
  split
  · exact .ite h.put h.put.startPull
  · exact .ite h.put.loseAll h.put

theorem Dev.SameBoot.stopWtr {r : Nat} (h : d0.SameBoot d) : d0.SameBoot (d.stopWtr r) := h.setRefMon.put.put

theorem Dev.SameBoot.refActivityLost {r : Nat} (h : d0.SameBoot d) : d0.SameBoot (Machine.refActivityLost r d) :=
  .ite h h.put.put.stopWtr.select

theorem Dev.SameBoot.gateMeasured {r : Nat} {g : List Int} {mean slope : Int} (h : d0.SameBoot d) :
    d0.SameBoot (d.gateMeasured r g mean slope) :=
  h.setRefMon.put.setReg.setReg

theorem Dev.SameBoot.gateDrift {r warn : Nat} {slope : Int} (h : d0.SameBoot d) :
    d0.SameBoot (d.gateDrift r warn slope) :=
  .ite h.put.info h

theorem Dev.SameBoot.gateFollowed {r : Nat} {mean : Int} (h : d0.SameBoot d) : d0.SameBoot (d.gateFollowed r mean) :=
  .ite h.setReg h

theorem Dev.SameBoot.gateWaits {r : Nat} {m : RefMon} (h : d0.SameBoot d) : d0.SameBoot (d.gateWaits r m) := by
  unfold Dev.gateWaits
  split
  · exact h.setRefMon.put.put
  · exact h.put

theorem Dev.SameBoot.gateJudged {r : Nat} {m : RefMon} {mean : Int} {acc : Bool} (h : d0.SameBoot d) :
    d0.SameBoot (d.gateJudged r m mean acc) :=
  .ite (.ite h.put.put.select h) (.ite h.gateWaits h.stopWtr)

theorem Dev.SameBoot.refFreqGate {r : Nat} {gate : Int} (h : d0.SameBoot d) :
    d0.SameBoot (Machine.refFreqGate r gate d) :=
  .ite h h.gateMeasured.gateDrift.put.gateFollowed.gateJudged

theorem Dev.SameBoot.refWtrExpiry {r : Nat} (h : d0.SameBoot d) : d0.SameBoot (Machine.refWtrExpiry r d) := by
  unfold Machine.refWtrExpiry
  dsimp only
  split
  · exact h
  · exact .ite h.stopWtr.put.select h

theorem Dev.SameBoot.pullComplete (h : d0.SameBoot d) : d0.SameBoot (Machine.pullComplete d) := .ite h.withRef.put h

theorem Dev.SameBoot.holdoverReady (h : d0.SameBoot d) : d0.SameBoot (Machine.holdoverReady d) := by
  unfold Machine.holdoverReady
  split
  · exact .ite h.put h
  · exact h

theorem Dev.SameBoot.ocxoLost (h : d0.SameBoot d) : d0.SameBoot (Machine.ocxoLost d) :=
  h.withRef.put.put.foldl (fun _ _ k => k.stopWtr)

theorem Dev.SameBoot.ocxoReturn (h : d0.SameBoot d) : d0.SameBoot (Machine.ocxoReturn d) :=
  h.withRef.put.foldl (fun _ _ k => k.setRefMon.stopWtr)

theorem Dev.SameBoot.refselApply {v : Word} (h : d0.SameBoot d) : d0.SameBoot (Machine.refselApply v d) :=
  .ite h.setReg (.ite h.setReg.put h.setReg.withRef.bwLimited.select)

theorem Dev.SameBoot.refCfgApply {r : Nat} {v : Word} (h : d0.SameBoot d) : d0.SameBoot (Machine.refCfgApply r v d) :=
  .ite h (.ite h.setReg (.ite h.setReg.put (.select (.ite h.setReg.setRefMon.put.stopWtr h.setReg.setRefMon))))

/-! ### Time -/

theorem Dev.SameBoot.setTb {dom : Nat} {a : Anchor} (h : d0.SameBoot d) : d0.SameBoot (d.setTb dom a) :=
  .ite h.withTime h.withTime

theorem Dev.SameBoot.setPtp {dom : Nat} {p : PtpDomain} (h : d0.SameBoot d) : d0.SameBoot (d.setPtp dom p) :=
  .ite h.withTime h.withTime

theorem Dev.SameBoot.setQual {dom : Nat} {q : Bool} (h : d0.SameBoot d) : d0.SameBoot (d.setQual dom q) := h.put.put

theorem Dev.SameBoot.setRate {freq phase : Int} (h : d0.SameBoot d) : d0.SameBoot (d.setRate freq phase) :=
  h.withTime.setReg.put

theorem Dev.SameBoot.steer {freq phase : Int} (h : d0.SameBoot d) : d0.SameBoot (d.steer freq phase) := h.setRate

theorem Dev.SameBoot.measure (h : d0.SameBoot d) : d0.SameBoot d.measure := h.withTime

theorem Dev.SameBoot.follow {dom : Nat} {held : Bool} (h : d0.SameBoot d) : d0.SameBoot (d.follow dom held) :=
  .ite h.setRate.put.put.put.withTime h.setRate.put.put.put

theorem Dev.SameBoot.initialStep {dom : Nat} (h : d0.SameBoot d) : d0.SameBoot (d.initialStep dom) :=
  h.withTime.setReg.put.put

theorem Dev.SameBoot.qualify {dom : Nat} (h : d0.SameBoot d) : d0.SameBoot (d.qualify dom) :=
  .ite h (.share (fun l0 => .ite (.ite l0.initialStep l0) (.ite l0.follow.info.withTime (.ite (.ite l0.follow
    l0.initialStep) l0))) h.setQual)

theorem Dev.SameBoot.switchTo {dom : Nat} (h : d0.SameBoot d) : d0.SameBoot (d.switchTo dom) := h.follow.bump.info

theorem Dev.SameBoot.trustNow (h : d0.SameBoot d) : d0.SameBoot d.trustNow := .ite h.put.info h

theorem Dev.SameBoot.enterNoPtp (h : d0.SameBoot d) : d0.SameBoot d.enterNoPtp :=
  h.measure.put.put.withTime.info.trustNow

theorem Dev.SameBoot.disqualify {dom : Nat} (h : d0.SameBoot d) : d0.SameBoot (d.disqualify dom) :=
  .share (fun l0 => .ite (.ite l0.switchTo l0.enterNoPtp) l0) (.ite h.setPtp.setQual.refActivityLost h.setPtp.setQual)

theorem Dev.SameBoot.toHold {dom : Nat} (h : d0.SameBoot d) : d0.SameBoot (d.toHold dom) := .ite h h.withTime.put

theorem Dev.SameBoot.servo {dom portState : Nat} {offset rate phase : Int} (h : d0.SameBoot d) :
    d0.SameBoot (d.servo dom portState offset rate phase) :=
  .ite h.setTb.bump.disqualify (.share (fun l0 => .ite (.ite l0.steer l0.toHold.steer) l0) (.ite
    h.setTb.setReg.setPtp.qualify h.setTb.setReg.setPtp))

theorem Dev.SameBoot.ptpMessage {dom port : Nat} {m : PtpMessage} (h : d0.SameBoot d) :
    d0.SameBoot (Machine.ptpMessage dom port m d) := by
  unfold Machine.ptpMessage
  refine .ite h ?_
  split
  · exact .ite h.put.put.put.setPtp.disqualify h.put.put.put.setPtp
  · exact h.put.put.servo
  · exact h
  · exact h

theorem Dev.SameBoot.ptpTimeout {dom : Nat} (h : d0.SameBoot d) : d0.SameBoot (Machine.ptpTimeout dom d) :=
  .ite h.setPtp.disqualify h

theorem Dev.SameBoot.wtUnsetTimeout (h : d0.SameBoot d) : d0.SameBoot (Machine.wtUnsetTimeout d) :=
  .ite (.ite h.initialStep (.ite h.initialStep h.withTime.enterNoPtp)) h

theorem Dev.SameBoot.trustExpiry (h : d0.SameBoot d) : d0.SameBoot (Machine.trustExpiry d) := .ite h.put.info h

theorem Dev.SameBoot.wtSlewEnd (h : d0.SameBoot d) : d0.SameBoot (Machine.wtSlewEnd d) :=
  .ite (.ite h.steer.withTime h.steer) h

theorem Dev.SameBoot.wtFollow {q seq : Nat} (h : d0.SameBoot d) : d0.SameBoot (Machine.wtFollow q seq d) :=
  h.onCmd (fun _ => h.withTail (.ite h.bad (.ite h.finish (.ite h.succeed (.ite h.finish h.switchTo.succeed)))))

theorem Dev.SameBoot.ptpPorts {q seq : Nat} (h : d0.SameBoot d) : d0.SameBoot (Machine.ptpPorts q seq d) :=
  h.onCmd (fun _ => h.withTail (.ite h.bad (.ite h.bad (.ite h.bad (.ite h.bad (.ite h.bad (.ite h.finish (.ite
    h.finish (.ite h.finish (.share (fun l0 => .succeed (.ite l0.put (.ite l0.put l0))) (.ite h.setPtp.disqualify
    h.setPtp)))))))))))

theorem Dev.SameBoot.snapBase {b v : Nat} (h : d0.SameBoot d) : d0.SameBoot (d.snapBase b v) :=
  h.setReg.setReg.setReg.setReg

theorem Dev.SameBoot.timeSnap {v : Word} (h : d0.SameBoot d) : d0.SameBoot (Machine.timeSnap v d) :=
  .ite h.snapBase.snapBase.snapBase.snapBase.snapBase.put h

theorem Dev.SameBoot.tb3Apply {v : Word} (h : d0.SameBoot d) : d0.SameBoot (Machine.tb3Apply v d) := .ite h.withTime h

theorem Dev.SameBoot.tb3Rate {v : Word} (h : d0.SameBoot d) : d0.SameBoot (Machine.tb3Rate v d) :=
  .ite h.withTime.setReg h

theorem Dev.SameBoot.ppsCtrl {v : Word} (h : d0.SameBoot d) : d0.SameBoot (Machine.ppsCtrl v d) := h.put

theorem Dev.SameBoot.ppsRise (h : d0.SameBoot d) : d0.SameBoot (Machine.ppsRise d) := .ite h.withTime h

theorem Dev.SameBoot.ppsFall (h : d0.SameBoot d) : d0.SameBoot (Machine.ppsFall d) := h.withTime

theorem Dev.SameBoot.setTrig {u : Nat} {g : Trig} (h : d0.SameBoot d) : d0.SameBoot (d.setTrig u g) := h.withTime.put

theorem Dev.SameBoot.trigWrite {u : Nat} {v : Word} {busy : Bool} (h : d0.SameBoot d) :
    d0.SameBoot (Machine.trigWrite u v busy d) :=
  .ite h (.ite h.put (.ite h.setReg (.share (fun l0 => .ite l0.put (.ite l0.put (.ite l0.setTrig (.ite (.ite l0.put
    l0.setTrig) (.ite l0.setTrig.put.info l0.setTrig))))) h.setReg)))

theorem Dev.SameBoot.trigPulseEnd {u : Nat} (h : d0.SameBoot d) : d0.SameBoot (Machine.trigPulseEnd u d) := h.setTrig

theorem Dev.SameBoot.captureEdge {u : Nat} {fall : Bool} (h : d0.SameBoot d) :
    d0.SameBoot (Machine.captureEdge u fall d) :=
  .ite h (.ite h.bump.put (.ite h.withTime.put.notify h.withTime.put))

theorem Dev.SameBoot.capRead {u : Nat} (h : d0.SameBoot d) : d0.SameBoot (Machine.capRead u d).1 := by
  unfold Machine.capRead
  split
  · exact h.setReg
  · exact h.withTime.put.setReg

theorem Dev.SameBoot.capReadRow {u : Nat} (h : d0.SameBoot d) : d0.SameBoot (Machine.capReadRow u d) :=
  h.gated h.capRead.respond

/-! ### Fabric routing and time -/

theorem Dev.SameBoot.setLink {p : Nat} {l : Link} (h : d0.SameBoot d) : d0.SameBoot (d.setLink p l) := h.withSys

theorem Dev.SameBoot.setLanes {p : Nat} {x : Train} (h : d0.SameBoot d) : d0.SameBoot (d.setLanes p x) := h.withSys

theorem Dev.SameBoot.freeBuffer {back : Option (Nat × Nat)} {flits : Nat} (h : d0.SameBoot d) :
    d0.SameBoot (d.freeBuffer back flits) := by
  unfold Dev.freeBuffer
  split
  · exact h
  · exact h.setLink

theorem Dev.SameBoot.enqueue {p : Nat} {o : OutEnv} (h : d0.SameBoot d) : d0.SameBoot (d.enqueue p o) := h.setLink

theorem Dev.SameBoot.deliverEnv {port : Nat} {e : Env} (h : d0.SameBoot d) : d0.SameBoot (d.deliverEnv port e) :=
  h.withSys

theorem Dev.SameBoot.takeInbox {type : Nat} (h : d0.SameBoot d) : d0.SameBoot (d.takeInbox type) := by
  unfold Dev.takeInbox
  split
  · exact h.withSys
  · exact h

theorem Dev.SameBoot.routeEnv {port : Nat} {o : OutEnv} (h : d0.SameBoot d) : d0.SameBoot (d.routeEnv port o) := by
  unfold Dev.routeEnv
  refine .ite ?_ (.ite h.deliverEnv.freeBuffer ?_)
  · dsimp only
    split
    · exact .freeBuffer (.ite h.deliverEnv h)
    · exact .foldl (.ite h.deliverEnv h) (fun _ _ k => k.enqueue)
  · split
    · exact h.enqueue
    · exact .ite h.freeBuffer (.ite (.ite h.enqueue h.freeBuffer) (.ite h.enqueue h.freeBuffer))

theorem Dev.SameBoot.updSend {id : Nat} {f : PicSend → Option PicSend} (h : d0.SameBoot d) :
    d0.SameBoot (d.updSend id f) :=
  h.withSys

theorem Dev.SameBoot.beginSend {c dest : Nat} {mcast : Bool} {slot : Nat} (h : d0.SameBoot d) :
    d0.SameBoot (d.beginSend c dest mcast slot) :=
  h.withSys.updSlot

theorem Dev.SameBoot.offerPicture {c slot : Nat} (h : d0.SameBoot d) : d0.SameBoot (d.offerPicture c slot) := by
  unfold Dev.offerPicture
  refine h.foldl (fun _ _ k => ?_)
  split
  · exact k.updSend
  · exact k.beginSend

theorem Dev.SameBoot.failoverBits {p : Nat} {down : Bool} (h : d0.SameBoot d) : d0.SameBoot (d.failoverBits p down) :=
  h.foldl (fun _ _ k => .ite k.put k)

theorem Dev.SameBoot.leaveRouting {p cause : Nat} (h : d0.SameBoot d) : d0.SameBoot (d.leaveRouting p cause) := by
  unfold Dev.leaveRouting
  refine .ite h.put.put (.foldl ?_ (fun _ _ k => .ite k.freeBuffer k.routeEnv))
  split
  · exact .ite (.freeBuffer (.setLink (.ite h.put.put.failoverBits h.put.put))) (.routeEnv (.setLink (.ite
      h.put.put.failoverBits h.put.put)))
  · exact .setLink (.ite h.put.put.failoverBits h.put.put)

theorem Dev.SameBoot.identify {p : Nat} (h : d0.SameBoot d) : d0.SameBoot (d.identify p) := by
  unfold Dev.identify
  split
  · exact h
  · exact .ite h.leaveRouting (.ite h.put.leaveRouting (.ite h.put.put.put h.put.put.put.failoverBits))

theorem Dev.SameBoot.tellPort {p : Nat} (h : d0.SameBoot d) : d0.SameBoot (d.tellPort p) := .ite h h.setLanes.info

theorem Dev.SameBoot.setLaneCause {p l : Nat} {failed : Bool} {cause : Nat} (h : d0.SameBoot d) :
    d0.SameBoot (d.setLaneCause p l failed cause) :=
  .share (fun l0 => .ite l0 (.ite l0.setLanes.withErr.degradedEvent (.info (.ite l0.setLanes.withErr.put
    l0.setLanes.withErr)))) h.put.put

theorem Dev.SameBoot.setStep {p n : Nat} (h : d0.SameBoot d) : d0.SameBoot (d.setStep p n) := h.setLanes.put

theorem Dev.SameBoot.detected {p : Nat} (h : d0.SameBoot d) : d0.SameBoot (d.detected p) := h.setLanes.setStep

theorem Dev.SameBoot.attempt {p : Nat} (h : d0.SameBoot d) : d0.SameBoot (d.attempt p) :=
  .share (fun l0 => .share (fun l1 => .ite l1.setStep.detected l1.setStep) (.ite l0.setLanes.put.bump.tellPort
    l0.setLanes.put)) (h.leaveRouting.bump.put.put.put.put.foldl (fun _ _ k => k.put.put.put))

theorem Dev.SameBoot.paentDown {p : Nat} (h : d0.SameBoot d) : d0.SameBoot (d.paentDown p) := h.setLink

theorem Dev.SameBoot.failAttempt {p fail : Nat} (h : d0.SameBoot d) : d0.SameBoot (d.failAttempt p fail) :=
  h.bump.put.put.put.put.put.setLanes.paentDown.tellPort

/-! ### Codec -/

theorem Dev.SameBoot.setCtx {c : Nat} {x : Ctx} (h : d0.SameBoot d) : d0.SameBoot (d.setCtx c x) := h.withNet.put

theorem Dev.SameBoot.endFrame {c : Nat} {f : OpenFrame} (h : d0.SameBoot d) : d0.SameBoot (d.endFrame c f) := by
  unfold Dev.endFrame
  dsimp only
  split
  · exact h.setCtx.setDctx
  · exact h.setCtx

theorem Dev.SameBoot.discardFrames {c : Nat} (h : d0.SameBoot d) : d0.SameBoot (d.discardFrames c) :=
  h.setCtx.foldl (fun _ _ k => k.endFrame)

theorem Dev.SameBoot.ingestResync {c : Nat} (h : d0.SameBoot d) : d0.SameBoot (d.ingestResync c) :=
  .ite h.discardFrames.put h

theorem Dev.SameBoot.engineStop {e : Nat} (h : d0.SameBoot d) : d0.SameBoot (d.engineStop e) := by
  unfold Dev.engineStop
  split
  · exact h
  · exact h.withDec.put

theorem Dev.SameBoot.abortEngine {c : Nat} (h : d0.SameBoot d) : d0.SameBoot (d.abortEngine c) := by
  unfold Dev.abortEngine
  split
  · exact h
  · exact h.engineStop.setDctx

theorem Dev.SameBoot.ctxReset {c : Nat} {dropSets : Bool} {agent : Nat} (h : d0.SameBoot d) :
    d0.SameBoot (d.ctxReset c dropSets agent) :=
  h.abortEngine.setDctx.put.bump.contained.ingestResync

theorem Dev.SameBoot.pictureDone {c i : Nat} {pm : Postmark} {order : Int} {isRef : Bool} {w hd : Nat} {x : Dev × Mem}
    (h : d0.SameBoot x.1) :
    d0.SameBoot (Machine.pictureDone c i pm order isRef w hd x).1 := by
  unfold Machine.pictureDone
  dsimp only
  split
  · exact h
  · exact .share (fun l0 => .ite l0.bump l0) h.setDctx.bump.canvasPicture.offerPicture

theorem Dev.SameBoot.noSlot {c : Nat} (h : d0.SameBoot d) : d0.SameBoot (d.noSlot c) := h.bumpWrap

theorem Dev.SameBoot.deliver {c : Nat} {f : Queued} (h : d0.SameBoot d) : d0.SameBoot (d.deliver c f) := by
  unfold Dev.deliver
  refine .ite h.bump (.ite h (.ite h.bump ?_))
  dsimp only
  split
  · exact .ite h.put.setDctx (.ite h.put.setDctx.bumpWrap.ctxReset h.put.setDctx.bumpWrap.setDctx)
  · exact h.put.setDctx

theorem Dev.SameBoot.decRegs (h : d0.SameBoot d) : d0.SameBoot d.decRegs := h.setReg.setReg

theorem Dev.SameBoot.shedCtx {c reason : Nat} (h : d0.SameBoot d) : d0.SameBoot (d.shedCtx c reason) :=
  h.setDctx.put.put.put.info.decRegs

theorem Dev.SameBoot.shedToFit {cs : List Nat} (h : d0.SameBoot d) : d0.SameBoot (Machine.shedToFit cs d) := by
  induction cs generalizing d with
  | nil => exact h
  | cons c r ih => exact .ite h (ih h.shedCtx)

theorem Dev.SameBoot.engineFail {e : Nat} (h : d0.SameBoot d) : d0.SameBoot (d.engineFail e) := by
  unfold Dev.engineFail
  refine .ite h (.decRegs (.shedToFit ?_))
  split
  · refine .ite (.ctxReset (.degraded (.put ?_))) (.ite (.setDctx (.degraded (.put ?_))) (.degraded (.put ?_)))
    · split
      · exact h.engineStop.setDctx
      · exact h
    · split
      · exact h.engineStop.setDctx
      · exact h
    · split
      · exact h.engineStop.setDctx
      · exact h
  · refine .degraded (.put ?_)
    split
    · exact h.engineStop.setDctx
    · exact h

theorem Dev.SameBoot.decodeEngineTimeout {e : Nat} (h : d0.SameBoot d) :
    d0.SameBoot (Machine.decodeEngineTimeout e d) := by
  unfold Machine.decodeEngineTimeout
  split
  · exact .ite h.engineFail h
  · exact h

theorem Dev.SameBoot.unsupported {c cause agent : Nat} (h : d0.SameBoot d) :
    d0.SameBoot (d.unsupported c cause agent) :=
  .ite h.put h.put.info

theorem Dev.SameBoot.decodeStart {e : Nat} {x : Dev × Mem} (h : d0.SameBoot x.1) :
    d0.SameBoot (Machine.decodeStart e x).1 := by
  unfold Machine.decodeStart
  refine .ite_fst h ?_
  split
  · exact h
  · dsimp only
    split
    · exact .share (fun l0 => .ite_fst l0.ctxReset (.ite_fst l0.unsupported.ctxReset l0.setDctx.withDec.put.put))
        h.makeRoom.setDctx
    · exact h

theorem Dev.SameBoot.decodedPicture {c i : Nat} {f : Queued} {r : DecodeResult} {p : PicInfo} {su : Setup}
    {x : Dev × Mem}
    (h : d0.SameBoot x.1) :
    d0.SameBoot (Machine.decodedPicture c i f r p su x).1 :=
  .share (fun l0 => .pictureDone (.ite (.info (.ite l0.contained l0)) (.ite l0.contained l0))) h.setDctx.put

theorem Dev.SameBoot.decodeComplete {e : Nat} {r : DecodeResult} {x : Dev × Mem} (h : d0.SameBoot x.1) :
    d0.SameBoot (Machine.decodeComplete e r x).1 := by
  unfold Machine.decodeComplete
  split
  · exact h
  · dsimp only
    split
    · exact .ite_fst h.engineStop.bumpWrap.setDctx (.ite (.setDctx (.decodedPicture (h.engineStop.bumpWrap)))
        (.decodedPicture (h.engineStop.bumpWrap)))
    · exact h.engineStop.bumpWrap.setDctx

theorem Dev.SameBoot.decodeNoSlot {c : Nat} (h : d0.SameBoot d) : d0.SameBoot (Machine.decodeNoSlot c d) := by
  unfold Machine.decodeNoSlot
  dsimp only
  split
  · exact .ite h.noSlot.ctxReset h
  · exact h

theorem Dev.SameBoot.windowCtx {c : Nat} (h : d0.SameBoot d) : d0.SameBoot (d.windowCtx c) :=
  .ite h.setDctx h.setDctx.put.info

theorem Dev.SameBoot.restoreOne {cs : List Nat} (h : d0.SameBoot d) : d0.SameBoot (Machine.restoreOne cs d) := by
  induction cs generalizing d with
  | nil => exact h.withDec
  | cons c r ih => exact .ite h.withDec.put.put.info.ctxReset (ih h)

theorem Dev.SameBoot.decodeWindow (h : d0.SameBoot d) : d0.SameBoot (Machine.decodeWindow d) := by
  unfold Machine.decodeWindow
  refine .ite ?_ (.ite (.restoreOne (.withDec (h.withDec.put.foldl (fun _ _ k => k.windowCtx)))) (.withDec
    (h.withDec.put.foldl (fun _ _ k => k.windowCtx))))
  split
  · exact .withDec (.shedCtx (.withDec (h.withDec.put.foldl (fun _ _ k => k.windowCtx))))
  · exact .withDec (h.withDec.put.foldl (fun _ _ k => k.windowCtx))

theorem Dev.SameBoot.decodeSetup {q seq : Nat} (h : d0.SameBoot d) : d0.SameBoot (Machine.decodeSetup q seq d) := by
  unfold Machine.decodeSetup
  refine h.onCmd (fun _ => .ite h.reject ?_)
  split
  · exact h.finish
  · exact .ite h.reject h.setDctx.setReg.setReg.setReg.setReg.setReg.succeed

theorem Dev.SameBoot.decodeResetCmd {q seq : Nat} (h : d0.SameBoot d) :
    d0.SameBoot (Machine.decodeResetCmd q seq d) :=
  h.onCmd (fun _ => h.withTail (.succeed (.ite h.ctxReset h)))

/-! ### Ingest and decoding -/

theorem Dev.SameBoot.ingestRegs (h : d0.SameBoot d) : d0.SameBoot d.ingestRegs := h.setReg.setReg

theorem Dev.SameBoot.ethCtrl {p : Nat} {v : Word} (h : d0.SameBoot d) : d0.SameBoot (Machine.ethCtrl p v d) :=
  .ite h (.ingestRegs (.ite h.setReg h.setReg.put.put))

theorem Dev.SameBoot.ethLinkLost {p : Nat} (h : d0.SameBoot d) : d0.SameBoot (Machine.ethLinkLost p d) :=
  .ite h h.put.put.put.info

theorem Dev.SameBoot.ethLinkUp {p : Nat} (h : d0.SameBoot d) : d0.SameBoot (Machine.ethLinkUp p d) := .ite h h.put.put

theorem Dev.SameBoot.flowApply {i : Nat} {v : Word} (h : d0.SameBoot d) : d0.SameBoot (Machine.flowApply i v d) :=
  .ite h (.ite h.setReg h.setReg.withNet)

theorem Dev.SameBoot.stOpen {c : Nat} {x : Dev × Mem} (h : d0.SameBoot x.1) :
    d0.SameBoot (Machine.stOpen c x).1.1 := by
  unfold Machine.stOpen
  dsimp only
  split
  · refine .ite_fst_fst h.makeRoom.unsupported.noSlot (.ite_fst_fst h.makeRoom.noSlot ?_)
    split
    · exact h.makeRoom.setDctx
    · exact h.makeRoom.noSlot
  · exact h.makeRoom.unsupported.noSlot

theorem Dev.SameBoot.toResync {c : Nat} (h : d0.SameBoot d) : d0.SameBoot (d.toResync c) :=
  .ite h.discardFrames.put.info h

theorem Dev.SameBoot.countSei {c : Nat} {sei : Option (List Byte)} (h : d0.SameBoot d) :
    d0.SameBoot (d.countSei c sei) := by
  unfold Dev.countSei
  split
  · exact h
  · exact .ite h.bump h.bump

theorem Dev.SameBoot.deliverFrame {c : Nat} {f : OpenFrame} {pm : Postmark} {capt : Option Nat} {gap : Bool}
    {x : Dev × Mem}
    (h : d0.SameBoot x.1) :
    d0.SameBoot (Machine.deliverFrame c f pm capt gap x).1 := by
  unfold Machine.deliverFrame
  refine .ite_fst ?_ (.deliver (.setLatch (.setReg (.put (.ite h.setCtx.bump h.setCtx.bump)))))
  split
  · exact .ite_fst (.pictureDone (.setDctx (.put (.setLatch (.setReg (.put (.ite h.setCtx.bump h.setCtx.bump)))))))
      (.setDctx (.setLatch (.setReg (.put (.ite h.setCtx.bump h.setCtx.bump)))))
  · exact .setLatch (.setReg (.put (.ite h.setCtx.bump h.setCtx.bump)))

theorem Dev.SameBoot.finishFrame {c : Nat} {f : OpenFrame} {x : Dev × Mem} (h : d0.SameBoot x.1) :
    d0.SameBoot (Machine.finishFrame c f x).1 :=
  .ite_fst h.endFrame.bump.toResync (.ite_fst h.endFrame.bump (.ite_fst (.ite h.countSei.endFrame.bump
    h.countSei.endFrame.bump.toResync) (.deliverFrame (h.countSei))))

theorem Dev.SameBoot.emitFrames {c n : Nat} {x : Dev × Mem} (h : d0.SameBoot x.1) :
    d0.SameBoot (Machine.emitFrames c n x).1 := by
  induction n generalizing x with
  | zero => exact h
  | succ n ih =>
    unfold Machine.emitFrames
    split
    · exact .ite_fst (ih (.finishFrame h.setCtx)) h
    · exact h

theorem Dev.SameBoot.updFrame {c ts : Nat} {f : OpenFrame → OpenFrame} (h : d0.SameBoot d) :
    d0.SameBoot (d.updFrame c ts f) :=
  h.setCtx

theorem Dev.SameBoot.closeFrame {c ts : Nat} {x : Dev × Mem} (h : d0.SameBoot x.1) :
    d0.SameBoot (Machine.closeFrame c ts x).1 :=
  .emitFrames (h.updFrame)

theorem Dev.SameBoot.openFrame {c ts : Nat} {x : Dev × Mem} (h : d0.SameBoot x.1) :
    d0.SameBoot (Machine.openFrame c ts x).1 := by
  unfold Machine.openFrame
  extract_lets opened oldest y st
  have hy : d0.SameBoot y.1 := by
    refine .ite_fst ?_ h
    cases oldest with
    | none => exact h
    | some f => exact h.closeFrame
  have hs : d0.SameBoot (if st then Machine.stOpen c y else (y, none)).1.1 := .ite_fst_fst hy.stOpen hy
  exact .ite_fst hs.setCtx hs.setCtx

theorem Dev.SameBoot.dropFrame {c : Nat} {f : OpenFrame} {count : FldDesc} {x : Dev × Mem} (h : d0.SameBoot x.1) :
    d0.SameBoot (Machine.dropFrame c f count x).1 :=
  .emitFrames (h.setCtx.endFrame.bump.toResync)

theorem Dev.SameBoot.legAlive {c leg : Nat} (h : d0.SameBoot d) : d0.SameBoot (d.legAlive c leg) :=
  .ite h.setCtx.put.info h.setCtx.put

theorem Dev.SameBoot.joinFrame {c leg : Nat} {p : RtpPacket} {x : Dev × Mem} (h : d0.SameBoot x.1) :
    d0.SameBoot (Machine.joinFrame c leg p x).1 := by
  unfold Machine.joinFrame
  split
  · exact h
  · refine .ite_fst h.dropFrame (.ite_fst (.closeFrame ?_) ?_)
    · split
      · exact h.updFrame.setCtx
      · exact h.updFrame
    · split
      · exact h.updFrame.setCtx
      · exact h.updFrame

theorem Dev.SameBoot.rtpPacket {c leg : Nat} {p : RtpPacket} {x : Dev × Mem} (h : d0.SameBoot x.1) :
    d0.SameBoot (Machine.rtpPacket c leg p x).1 := by
  unfold Machine.rtpPacket
  refine .ite_fst h.legAlive.bumpWrap ?_
  dsimp only
  split
  · exact .bumpWrap (.ite h.legAlive.updFrame h.legAlive)
  · exact .ite_fst h.legAlive.bumpWrap (.ite_fst h.legAlive.bumpWrap (.joinFrame (.ite_fst (.openFrame (h.legAlive))
      h.legAlive)))

theorem Dev.SameBoot.udpFrame {port : Nat} {u : UdpInfo} {f : EthFrame} {x : Dev × Mem} (h : d0.SameBoot x.1) :
    d0.SameBoot (Machine.udpFrame port u f x).1 := by
  unfold Machine.udpFrame
  refine .ite_fst h.bump.withNet ?_
  split
  · exact h.bump
  · dsimp only
    split
    · exact h.bump.withNet.bumpWrap.withNet
    · exact h.bumpWrap
    · refine .ite_fst ?_ h.bumpWrap.bump
      split
      · exact .rtpPacket (h.bumpWrap)
      · exact h.bumpWrap.bumpWrap

theorem Dev.SameBoot.ethFrame {port size : Nat} {f : EthFrame} {x : Dev × Mem} (h : d0.SameBoot x.1) :
    d0.SameBoot (Machine.ethFrame port size f x).1 := by
  unfold Machine.ethFrame
  refine .ite_fst h (.ite_fst h.bump ?_)
  split
  · exact h.bump
  · exact h.bump.bump
  · exact h.bump.bump.withNet
  · exact h.bump.bump
  · exact .udpFrame (h.bump)

theorem Dev.SameBoot.holdExpiry {c ts : Nat} {x : Dev × Mem} (h : d0.SameBoot x.1) :
    d0.SameBoot (Machine.holdExpiry c ts x).1 := by
  unfold Machine.holdExpiry
  split
  · exact h
  · exact .ite_fst h.closeFrame h

theorem Dev.SameBoot.assemblyTimeout {c ts : Nat} {x : Dev × Mem} (h : d0.SameBoot x.1) :
    d0.SameBoot (Machine.assemblyTimeout c ts x).1 := by
  unfold Machine.assemblyTimeout
  split
  · exact h
  · exact .ite_fst h.dropFrame h

theorem Dev.SameBoot.legInactive {c leg : Nat} (h : d0.SameBoot d) : d0.SameBoot (Machine.legInactive c leg d) :=
  .ite h (.ite h.put.setCtx.info h.put)

theorem Dev.SameBoot.openCtx {c : Cmd} (h : d0.SameBoot d) : d0.SameBoot (d.openCtx c) :=
  .decRegs (.ingestRegs (.setReg (.setDctx (.setReg (.setCtx (h.setReg.setReg.setReg.setReg.foldl (fun _ _ k =>
    k.setReg)))))))

theorem Dev.SameBoot.streamOpen {q seq : Nat} (h : d0.SameBoot d) : d0.SameBoot (Machine.streamOpen q seq d) := by
  unfold Machine.streamOpen
  refine h.onCmd (fun _ => .ite h.finish (.ite h.finish ?_))
  split
  · exact h.finish
  · exact .ite h.reject (.ite h.setReg.setReg.info.finish h.openCtx.succeed)

theorem Dev.SameBoot.closeCtx {c : Nat} (h : d0.SameBoot d) : d0.SameBoot (d.closeCtx c) :=
  h.discardFrames.setCtx.setReg.withDec.setDctx.setReg.setReg.ingestRegs.decRegs

theorem Dev.SameBoot.streamClose {q seq : Nat} (h : d0.SameBoot d) : d0.SameBoot (Machine.streamClose q seq d) :=
  h.onCmd (fun _ => h.withTail (.ite h.succeed h.closeCtx.succeed))

theorem Dev.SameBoot.setMembers {p : Nat} {ms : List Membership} (h : d0.SameBoot d) :
    d0.SameBoot (d.setMembers p ms) :=
  h.withNet

theorem Dev.SameBoot.mcastJoin {q seq : Nat} (h : d0.SameBoot d) : d0.SameBoot (Machine.mcastJoin q seq d) := by
  unfold Machine.mcastJoin
  refine h.onCmd (fun _ => ?_)
  split
  · exact h.bad
  · exact h.withTail (h.withHost (fun _ => .ite h.reject (.succeed (h.foldl (fun _ _ k => .ite k k.setMembers)))))

theorem Dev.SameBoot.mcastLeave {q seq : Nat} (h : d0.SameBoot d) : d0.SameBoot (Machine.mcastLeave q seq d) := by
  unfold Machine.mcastLeave
  refine h.onCmd (fun _ => ?_)
  split
  · exact h.bad
  · exact h.withTail (h.withHost (fun _ => .succeed (h.foldl (fun _ _ k => k.setMembers))))

/-! ### Layers, commits and canvases -/

theorem Dev.SameBoot.setFrame {hd n : Nat} {f : FrameSt} (h : d0.SameBoot d) : d0.SameBoot (d.setFrame hd n f) :=
  h.setHead

theorem Dev.SameBoot.setCommits {cs : List Commit} (h : d0.SameBoot d) : d0.SameBoot (d.setCommits cs) := h.withLay

theorem Dev.SameBoot.dropCommit {q seq : Nat} (h : d0.SameBoot d) : d0.SameBoot (d.dropCommit q seq) := h.setCommits

theorem Dev.SameBoot.updCommit {q seq : Nat} {f : Commit → Commit} (h : d0.SameBoot d) :
    d0.SameBoot (d.updCommit q seq f) :=
  h.setCommits

theorem Dev.SameBoot.grpPending (h : d0.SameBoot d) : d0.SameBoot d.grpPending := h.foldl (fun _ _ k => k.put)

theorem Dev.SameBoot.commitQueue {q seq : Nat} (h : d0.SameBoot d) : d0.SameBoot (Machine.commitQueue q seq d) := by
  unfold Machine.commitQueue
  refine h.onCmd (fun _ => ?_)
  split
  · exact h.bad
  · exact h.withTail (.ite h h.setCommits.grpPending)

theorem Dev.SameBoot.writeEntries {es : List (List Byte)} (h : d0.SameBoot d) : d0.SameBoot (d.writeEntries es) :=
  h.foldl (fun _ _ k => k.setShadow)

theorem Dev.SameBoot.runValidation {c : Commit} {es : List (List Byte)} (h : d0.SameBoot d) :
    d0.SameBoot (Machine.runValidation d c es).1 := by
  unfold Machine.runValidation
  dsimp only
  split
  · exact h
  · split <;> exact .ite h h.writeEntries

theorem Dev.SameBoot.commitSnapshot {q seq : Nat} (h : d0.SameBoot d) :
    d0.SameBoot (Machine.commitSnapshot q seq d) := by
  unfold Machine.commitSnapshot
  split
  · exact h
  extract_lets go
  have hgo : ∀ es, d0.SameBoot (go es d) := fun _ => h.runValidation.updCommit
  clear_value go
  refine .ite h ?_
  split
  · exact hgo _
  · exact h
  · refine .ite h (.ite (hgo _) ?_)
    split
    · exact .ite h h.finish.dropCommit
    · exact h.finish.dropCommit
    · exact hgo _

theorem Dev.SameBoot.commitValidate {q seq : Nat} (h : d0.SameBoot d) :
    d0.SameBoot (Machine.commitValidate q seq d) :=
  .ite h (.ite h.commitSnapshot.mirror h.commitSnapshot)

theorem Dev.SameBoot.deadLetter {seq : Nat} {v : Verdict} (h : d0.SameBoot d) : d0.SameBoot (d.deadLetter seq v) :=
  .ite h.setReg h

theorem Dev.SameBoot.send {m : Nat} {msg : PaentMsg} (h : d0.SameBoot d) : d0.SameBoot (d.send m msg) := h.withSys

theorem Dev.SameBoot.settleReady {q seq : Nat} (h : d0.SameBoot d) : d0.SameBoot (d.settleReady q seq) := by
  unfold Dev.settleReady
  split
  · exact .ite h (.ite h.setPair.reply h.setPair.diverged)
  · exact h

theorem Dev.SameBoot.commitValidated {q seq : Nat} (h : d0.SameBoot d) :
    d0.SameBoot (Machine.commitValidated q seq d) := by
  unfold Machine.commitValidated
  split
  · exact h
  · split
    · refine .ite h (.ite (.ite h.send.updCommit h.send.deadLetter.dropCommit.grpPending) (.ite h.finish.dropCommit
        (.ite h.deadLetter.finish.dropCommit.grpPending ?_)))
      dsimp only
      split
      · exact h
      · exact .ite h.finish.dropCommit.grpPending h.updCommit.mirror.settleReady
    · exact h

theorem Dev.SameBoot.leaseRegs {e : Nat} (h : d0.SameBoot d) : d0.SameBoot (d.leaseRegs e) := by
  unfold Dev.leaseRegs
  refine .put (.put ?_)
  split
  · exact h.setReg.setReg
  · exact h.setReg.setReg

theorem Dev.SameBoot.setLeases {t : Tab LeaseEntry} {e : Nat} (h : d0.SameBoot d) : d0.SameBoot (d.setLeases t e) :=
  h.withProt.leaseRegs

theorem Dev.SameBoot.leaseAdd {r : Nat × Nat} (h : d0.SameBoot d) : d0.SameBoot (d.leaseAdd r) := by
  unfold Dev.leaseAdd
  split
  · exact h.setLeases.withLay
  · split
    · exact h.setLeases
    · exact h

theorem Dev.SameBoot.leaseDropHolder {q seq : Nat} {r : Nat × Nat} (h : d0.SameBoot d) :
    d0.SameBoot (d.leaseDropHolder q seq r) := by
  unfold Dev.leaseDropHolder
  split
  · exact h
  · exact .ite h.setLeases.withLay h.setLeases

theorem Dev.SameBoot.leaseEnd {e : Nat} (h : d0.SameBoot d) : d0.SameBoot (Machine.leaseEnd e d) := by
  unfold Machine.leaseEnd
  split
  · exact .ite h h.withLay.setLeases.flushHeld
  · exact h

theorem Dev.SameBoot.toManager {q seq : Nat} {c : Cmd} (h : d0.SameBoot d) : d0.SameBoot (d.toManager q seq c) :=
  .ite h.finish h.updCmd.withHostSt

theorem Dev.SameBoot.canvasCommit {q seq : Nat} (h : d0.SameBoot d) : d0.SameBoot (Machine.canvasCommit q seq d) := by
  unfold Machine.canvasCommit
  refine h.onCmd (fun _ => ?_)
  split
  · exact h.bad
  · exact h.withTail (.ite h (.ite h.toManager (.ite h (.ite (.ite h.reject (h.withLay.foldl (fun _ _ k => k.send)))
      (h.withHost (fun _ => .ite h.reject (h.withLay.foldl (fun _ _ k => k.send))))))))

theorem Dev.SameBoot.canvasJoin {q seq : Nat} {others : List CanvasMember} (h : d0.SameBoot d) :
    d0.SameBoot (Machine.canvasJoin q seq others d) := by
  unfold Machine.canvasJoin
  refine h.onCmd (fun _ => ?_)
  split
  · exact h.bad
  · refine h.withTail (.ite h ?_)
    split
    · exact h.finish
    · split
      · exact h.finish
      · dsimp only
        split
        · exact h.finish
        · exact .succeed (.withLay (h.foldl (fun _ _ k => .ite k.setReg.setReg k.setReg.setReg)))

theorem Dev.SameBoot.canvasPrepare {p : CanvasPrepare} (h : d0.SameBoot d) :
    d0.SameBoot (Machine.canvasPrepare p d) :=
  .ite h (.ite h.send h.setCommits.withHostSt.commitValidate.commitValidated.grpPending)

theorem Dev.SameBoot.updRun {q seq : Nat} {f : CanvasRun → CanvasRun} (h : d0.SameBoot d) :
    d0.SameBoot (d.updRun q seq f) :=
  h.withLay

theorem Dev.SameBoot.endRun {q seq : Nat} (h : d0.SameBoot d) : d0.SameBoot (d.endRun q seq) := h.withLay

theorem Dev.SameBoot.canvasRecord {q seq cv n : Nat} (h : d0.SameBoot d) : d0.SameBoot (d.canvasRecord q seq cv n) :=
  h.withLay

theorem Dev.SameBoot.canvasDone {r : CanvasRun} {status reason result detail : Nat} (h : d0.SameBoot d) :
    d0.SameBoot (d.canvasDone r status reason result detail) :=
  .ite h.endRun.finish.canvasRecord.flushHeld h.endRun.finish

theorem Dev.SameBoot.canvasAccept {q seq module lead : Nat} {o : FwdOutcome} (h : d0.SameBoot d) :
    d0.SameBoot (Machine.canvasAccept q seq module lead o d) := by
  unfold Machine.canvasAccept
  split
  · exact h
  · exact .ite h (.ite (.canvasDone (h.foldl (fun _ _ k => k.send))) (.ite h.updRun (.ite (.canvasDone (h.foldl (fun _
      _ k => k.send))) (h.updRun.foldl (fun _ _ k => k.send)))))

theorem Dev.SameBoot.canvasApply {q seq n ta : Nat} (h : d0.SameBoot d) :
    d0.SameBoot (Machine.canvasApply q seq n ta d) := by
  unfold Machine.canvasApply
  split
  · exact h
  · exact .ite h h.updCommit

theorem Dev.SameBoot.canvasDrop {q seq : Nat} (h : d0.SameBoot d) : d0.SameBoot (Machine.canvasDrop q seq d) := by
  unfold Machine.canvasDrop
  split
  · exact .ite h.dropCommit.grpPending h
  · exact h

theorem Dev.SameBoot.canvasReport {q seq module layers : Nat} {late : Bool} (h : d0.SameBoot d) :
    d0.SameBoot (Machine.canvasReport q seq module layers late d) := by
  unfold Machine.canvasReport
  split
  · exact h
  · exact .ite h (.ite h.updRun h.canvasDone)

theorem Dev.SameBoot.canvasMemberTimeout {q seq module : Nat} (h : d0.SameBoot d) :
    d0.SameBoot (Machine.canvasMemberTimeout q seq module d) := by
  unfold Machine.canvasMemberTimeout
  split
  · exact h
  · exact .ite h (.canvasDone (h.foldl (fun _ _ k => k.send)))

theorem Dev.SameBoot.canvasReadyTimeout {q seq : Nat} (h : d0.SameBoot d) :
    d0.SameBoot (Machine.canvasReadyTimeout q seq d) := by
  unfold Machine.canvasReadyTimeout
  split
  · exact .ite h.dropCommit.info.grpPending h
  · exact h

theorem Dev.SameBoot.canvasReportTimeout {q seq module : Nat} (h : d0.SameBoot d) :
    d0.SameBoot (Machine.canvasReportTimeout q seq module d) := by
  unfold Machine.canvasReportTimeout
  split
  · exact h
  · exact .ite h h.canvasDone

theorem Dev.SameBoot.canvasTransit {q seq : Nat} (h : d0.SameBoot d) :
    d0.SameBoot (Machine.canvasTransit q seq d) := by
  unfold Machine.canvasTransit
  refine h.onCmd (fun _ => ?_)
  split
  · exact h.bad
  · exact h.withTail (.ite h.toManager (.ite h.finish h.withLay.succeed))

/-! ### Encoding -/

theorem Dev.SameBoot.setEnc {c : Nat} {x : EncCtx} (h : d0.SameBoot d) : d0.SameBoot (d.setEnc c x) := h.withEnc

theorem Dev.SameBoot.encRegs (h : d0.SameBoot d) : d0.SameBoot d.encRegs := h.foldl (fun _ _ k => k.setReg.setReg.put)

theorem Dev.SameBoot.encDispatch {e : Nat} (h : d0.SameBoot d) : d0.SameBoot (d.encDispatch e) := by
  unfold Dev.encDispatch
  refine .ite h.encRegs ?_
  dsimp only
  split
  · exact h.put.encRegs
  · exact h.withEnc.put.put.encRegs

theorem Dev.SameBoot.encUnlease {c : Nat} (h : d0.SameBoot d) : d0.SameBoot (d.encUnlease c) := by
  unfold Dev.encUnlease
  split
  · exact h
  · exact h.setEnc.foldl (fun _ _ k => k.dropLease)

theorem Dev.SameBoot.encStop {c : Nat} (h : d0.SameBoot d) : d0.SameBoot (d.encStop c) := by
  unfold Dev.encStop
  refine h.foldl (fun _ _ k => ?_)
  split
  · exact .ite k.withEnc.put k
  · exact k

theorem Dev.SameBoot.encBegin {c : Nat} {o : EncOpen} {n start key : Nat} (h : d0.SameBoot d) :
    d0.SameBoot (d.encBegin c o n start key) :=
  h.updSlot.setEnc.put

theorem Dev.SameBoot.encLost {hd : Nat} (h : d0.SameBoot d) : d0.SameBoot (d.encLost hd) := by
  unfold Dev.encLost
  refine h.foldl (fun _ _ k => ?_)
  split
  · exact k
  · exact .ite k k.encStop.encUnlease.put.put.info

theorem Dev.SameBoot.encStart {hd n start key : Nat} (h : d0.SameBoot d) :
    d0.SameBoot (d.encStart hd n start key) := by
  unfold Dev.encStart
  refine h.foldl (fun _ _ k => ?_)
  split
  · exact k
  · exact .ite k (.ite k.setEnc.put.put.encBegin (.ite k.encBegin k))

theorem Dev.SameBoot.encRing {c n : Nat} {o : EncOpen} {nals : List (List Byte)} {x : Dev × Mem}
    (h : d0.SameBoot x.1) :
    d0.SameBoot (Machine.encRing c n o nals x).1 :=
  .ite_fst (.ite h.setEnc h.setEnc.bump) h.put

theorem Dev.SameBoot.encSend {c : Nat} {o : EncOpen} {f : EncFrame} {nals : List (List Byte)} {last : Bool}
    (h : d0.SameBoot d) :
    d0.SameBoot (d.encSend c o f nals last) :=
  .ite h (.ite h.setEnc h.setEnc.withEnc)

theorem Dev.SameBoot.updEnc {c n : Nat} {f : EncFrame → EncFrame} (h : d0.SameBoot d) :
    d0.SameBoot (d.updEnc c n f) :=
  h.setEnc

theorem Dev.SameBoot.encFrameDone {c : Nat} {o : EncOpen} {f : EncFrame} {pm : Postmark} {lateLines : Bool}
    {x : Dev × Mem}
    (h : d0.SameBoot x.1) :
    d0.SameBoot (Machine.encFrameDone c o f pm lateLines x).1 :=
  .share (fun l0 => .dropLease (.ite (.put (.ite l0 l0.put)) (.ite l0 l0.put)))
    h.encRing.encSend.setEnc.setReg.bump.setReg

theorem Dev.SameBoot.encRow {c : Nat} {o : EncOpen} {n row : Nat} {nals : List (List Byte)} {slice : List Byte}
    {f' : EncFrame → EncFrame} {x : Dev × Mem}
    (h : d0.SameBoot x.1) :
    d0.SameBoot (Machine.encRow c o n row nals slice f' x).1 := by
  unfold Machine.encRow
  dsimp only
  split
  · exact .encRing (h.updEnc)
  · exact .share (fun l0 => .ite_fst (.encFrameDone l0) l0) (.encSend (.encRing (h.updEnc)))

theorem Dev.SameBoot.encSkipRows {c n : Nat} {o : EncOpen} {rs : List Nat} {bs : List (List Byte)} {x : Dev × Mem}
    (h : d0.SameBoot x.1) :
    d0.SameBoot (Machine.encSkipRows c o n rs bs x).1 := by
  induction rs generalizing bs x with
  | nil => cases bs <;> exact h
  | cons r rs ih =>
    cases bs with
    | nil => exact h
    | cons b bs => exact ih h.encRow

theorem Dev.SameBoot.encodeRowReady {c n row : Nat} {skips : List (List Byte)} {x : Dev × Mem} (h : d0.SameBoot x.1) :
    d0.SameBoot (Machine.encodeRowReady c n row skips x).1 := by
  unfold Machine.encodeRowReady
  dsimp only
  split
  · refine .ite_fst h (.encDispatch ?_)
    split
    · exact .encSkipRows (.ite h.updEnc h.updEnc.bump.put)
    · exact h.updEnc
  · exact h

theorem Dev.SameBoot.encodeRowCoded {e : Nat} {r : EncRow} {x : Dev × Mem} (h : d0.SameBoot x.1) :
    d0.SameBoot (Machine.encodeRowCoded e r x).1 := by
  unfold Machine.encodeRowCoded
  dsimp only
  split
  · exact h
  split
  · refine .ite_fst h (.encDispatch (.encRow ?_))
    exact .share (fun l => .ite l.setEnc l) (.share (fun l => .ite l.bump l) h.withEnc.put)
  · exact h.withEnc.encDispatch

theorem Dev.SameBoot.encEngineFail {e : Nat} (h : d0.SameBoot d) : d0.SameBoot (Machine.encEngineFail e d) := by
  unfold Machine.encEngineFail
  refine .ite h (.encRegs (h.put.put.degraded.withEnc.foldl (fun _ _ k => ?_)))
  split
  · exact k
  · dsimp only
    split
    · exact k.encUnlease.put.setEnc
    · exact k.encUnlease.put.put.put

theorem Dev.SameBoot.encodeEngineTimeout {e : Nat} (h : d0.SameBoot d) :
    d0.SameBoot (Machine.encodeEngineTimeout e d) := by
  unfold Machine.encodeEngineTimeout
  split
  · exact .ite h.encEngineFail h
  · exact h

theorem Dev.SameBoot.encodeOpen {q seq : Nat} (h : d0.SameBoot d) : d0.SameBoot (Machine.encodeOpen q seq d) := by
  unfold Machine.encodeOpen
  refine h.onCmd (fun _ => h.withTail (h.withHost (fun _ => .ite h.reject ?_)))
  split
  · exact h.finish
  · split
    · exact h.finish
    · refine .ite h.reject (.ite h.reject ?_)
      dsimp only
      split
      · exact h.setReg.info.refuse
      · exact h.setEnc.setReg.setReg.setReg.encRegs.succeed

theorem Dev.SameBoot.encodeClose {q seq : Nat} (h : d0.SameBoot d) : d0.SameBoot (Machine.encodeClose q seq d) :=
  h.onCmd (fun _ => h.withTail (.ite h.succeed h.encStop.encUnlease.setEnc.setReg.setReg.encDispatch.succeed))

theorem Dev.SameBoot.encodeRefresh {q seq : Nat} (h : d0.SameBoot d) : d0.SameBoot (Machine.encodeRefresh q seq d) :=
  h.onCmd (fun _ => .ite h.bad (h.withTail (.succeed (.ite h h.setEnc))))

/-! ### Freshness and latching -/

theorem Dev.SameBoot.cause {i : Nat} (h : d0.SameBoot d) : d0.SameBoot (d.cause i) := h.put

theorem Dev.SameBoot.watchViews {f : Dev → Dev} (_h : d0.SameBoot d) (hf : d0.SameBoot (f d)) :
    d0.SameBoot (d.watchViews f) := .ite hf.cause hf

theorem Dev.SameBoot.setHeadState {hd st cause : Nat} (h : d0.SameBoot d) :
    d0.SameBoot (d.setHeadState hd st cause) :=
  .ite h (.ite h.put.put.info.cause h.put.put.info)

theorem Dev.SameBoot.setTaster {k : Nat} {v : TasterSt} (h : d0.SameBoot d) : d0.SameBoot (d.setTaster k v) :=
  h.withComp

theorem Dev.SameBoot.setMismatch {k : Nat} {w : List Nat} {v : Bool} (h : d0.SameBoot d) :
    d0.SameBoot (d.setMismatch k w v) :=
  .ite h (h.watchViews (.share (fun l0 => .ite (.notify (.ite l0.cause l0)) (.ite l0.cause l0)) (.ite h.put.info.put
    h.put.info)))

theorem Dev.SameBoot.tasterCompare {k n : Nat} (h : d0.SameBoot d) : d0.SameBoot (Machine.tasterCompare k n d) := by
  unfold Machine.tasterCompare
  dsimp only
  split
  · exact h
  · exact .ite h (.ite h.setTaster (.share (fun l0 => .ite l0.setMismatch (.ite l0.setMismatch (.ite l0.setMismatch
      l0))) h.setTaster.setReg.setReg.put))

theorem Dev.SameBoot.sspRead {a : Nat} (h : d0.SameBoot d) : d0.SameBoot (Machine.sspRead a d) := h.bump.withComp

theorem Dev.SameBoot.sspBankSwitch (h : d0.SameBoot d) : d0.SameBoot (Machine.sspBankSwitch d) := h.withComp

theorem Dev.SameBoot.imageTick (h : d0.SameBoot d) : d0.SameBoot (Machine.imageTick d) := .ite h h.withComp

theorem Dev.SameBoot.imageTimeout (h : d0.SameBoot d) : d0.SameBoot (Machine.imageTimeout d) :=
  .ite h h.withComp.cause

/-! ### Heads and frames -/

theorem Dev.SameBoot.canvasLatch {l : Nat} {w : List Nat} {p : Pool} {hd n : Nat} {m : ModeRow}
    {took : Option (Nat × PicSlot)}
    (h : d0.SameBoot d) :
    d0.SameBoot (d.canvasLatch l w p hd n m took) :=
  .ite h (.ite h.setLayerSt.put.skewed h.setLayerSt.put)

theorem Dev.SameBoot.publish {l : Nat} {pm : Option Postmark} {age : Option Int} {fresh : Nat} (h : d0.SameBoot d) :
    d0.SameBoot (d.publish l pm age fresh) := by
  unfold Dev.publish
  refine h.watchViews (.ite (.setLayerSt (.setReg ?_)) (.info (.put (.setLayerSt (.setReg ?_)))))
  · split
    · exact h.setReg.setLatch
    · exact h
  · split
    · exact h.setReg.setLatch
    · exact h

theorem Dev.SameBoot.latchLayer {hd n : Nat} {f : FrameSt} {l : Nat} {w : List Nat} (h : d0.SameBoot d) :
    d0.SameBoot (d.latchLayer hd n f l w) := by
  unfold Dev.latchLayer
  extract_lets m v top bot put late stale missing
  have hput : ∀ {e s}, d0.SameBoot e → d0.SameBoot (put e s) := fun {e s} k => by
    change d0.SameBoot (match (e.head hd).frame? n with | none => e | some f => _)
    split
    · exact k
    · exact k.setFrame
  have hmissing : ∀ {e}, d0.SameBoot e → d0.SameBoot (missing e) := fun k => hput k.publish
  clear_value put missing
  refine .ite (hmissing h) ?_
  split
  · exact hput h.publish
  · split
    · exact hmissing h
    · exact .ite (hmissing h) (hput h.publish)
  · exact hput h.publish
  · exact hput h.publish
  · split
    · exact hmissing h
    next p _ =>
    extract_lets took e
    have he : d0.SameBoot e := h.canvasLatch
    clear_value e took
    rcases took with _ | ⟨i, s⟩
    · exact hmissing he
    · dsimp only
      split
      · exact hmissing he
      · exact hput he.updSlot.publish

theorem Dev.SameBoot.noteMargin {hd n : Nat} (h : d0.SameBoot d) : d0.SameBoot (d.noteMargin hd n) := by
  unfold Dev.noteMargin
  split
  · exact h
  · exact h.setHead.setFrame

theorem Dev.SameBoot.endLeases {hd n : Nat} (h : d0.SameBoot d) : d0.SameBoot (d.endLeases hd n) := by
  unfold Dev.endLeases
  split
  · exact h
  · refine h.setFrame.foldl (fun _ _ k => ?_)
    split
    · exact k.dropLease
    · exact k

theorem Dev.SameBoot.lineRelease {hd n line : Nat} (h : d0.SameBoot d) :
    d0.SameBoot (Machine.lineRelease hd n line d) := by
  unfold Machine.lineRelease
  split
  · exact h
  · refine .ite h ?_
    dsimp only
    split
    · exact h.foldl (fun _ _ k => k.latchLayer)
    · exact .share (fun l0 => .noteMargin (.ite l0.bump.put l0)) (.setHead (h.foldl (fun _ _ k => k.latchLayer)))

theorem Dev.SameBoot.ladleMeets {m : Mem} {hd n line : Nat} {s : Scene} (h : d0.SameBoot d) :
    d0.SameBoot (d.ladleMeets m hd n line s) := by
  unfold Dev.ladleMeets
  split
  · refine .ite h (.ite ?_ h.countPoison.contained)
    split
    · exact h.countPoison.contained
    · exact .share (fun l0 => l0.watchViews l0.put.info) h.countPoison.contained.setFrame
  · exact h

theorem Dev.SameBoot.lineComposed {hd n line : Nat} {x : Dev × Mem} (h : d0.SameBoot x.1) :
    d0.SameBoot (Machine.lineComposed hd n line x).1 := by
  unfold Machine.lineComposed
  dsimp only
  split
  · exact h
  split
  · exact h
  have k : ∀ l : List Scene, d0.SameBoot (l.foldl (fun d s => d.ladleMeets x.2 hd n line s) x.1) := fun _ =>
    h.foldl fun _ _ k => k.ladleMeets
  split
  · exact k _
  · exact (k _).setHead.endLeases

theorem Dev.SameBoot.wbFinish {hd n : Nat} {f : FrameSt} {key addr ctrl : Nat} {x : Dev × Mem} (h : d0.SameBoot x.1) :
    d0.SameBoot (Machine.wbFinish hd n f key addr ctrl x).1 :=
  .ite_fst h.put.setHead h.put.setHead.put.put

theorem Dev.SameBoot.wbFlush {g n k : Nat} {x : Dev × Mem} (h : d0.SameBoot x.1) :
    d0.SameBoot (Machine.wbFlush g n k x).1 := by
  induction k generalizing x with
  | zero => exact h
  | succ k ih =>
    unfold Machine.wbFlush
    split
    · exact h
    split
    · exact h
    dsimp only
    split
    · exact h
    · exact .ite_fst (.wbFinish h.put.setFrame) (ih (x := (_, _)) h.put)

theorem Dev.SameBoot.wbTake {hd n : Nat} (h : d0.SameBoot d) : d0.SameBoot (Machine.wbTake hd n d) := by
  unfold Machine.wbTake
  split
  · exact h
  · refine .ite h ?_
    dsimp only
    split
    · exact h.bump
    · exact h.setHead.setFrame.put.put.setReg.encStart

theorem Dev.SameBoot.lineRead {hd n line : Nat} {ecc : Bool} {z : Dev × Mem} (h : d0.SameBoot z.1) :
    d0.SameBoot (Machine.lineRead hd n line ecc z).1 := by
  unfold Machine.lineRead
  dsimp only
  split
  · exact h
  · exact .ite_fst h (.wbFlush (.endLeases (.noteMargin (.ite h.setHead (.cause (.setReg (.ite
      h.setHead.bump.put.put.bump h.setHead.bump.put)))))))

theorem Dev.SameBoot.frameEnd {hd n : Nat} {f : FrameSt} (h : d0.SameBoot d) : d0.SameBoot (d.frameEnd hd n f) := by
  unfold Dev.frameEnd
  refine h.watchViews (.foldl (.setHead (.put ?_)) (fun _ _ k => .share (fun l1 => .ite (.ite l1.put l1) (.ite l1.put
    l1)) k.setLayerSt))
  split
  · exact h
  · exact h.info

theorem Dev.SameBoot.endHolds {hd n : Nat} {m : ModeRow} (h : d0.SameBoot d) : d0.SameBoot (d.endHolds hd n m) :=
  h.foldl (fun _ _ k => k.endHold)

theorem Dev.SameBoot.blankHeld {g : Nat} (h : d0.SameBoot d) : d0.SameBoot (d.blankHeld g) := h.withLay

/-! ### Clock sync -/

theorem Dev.SameBoot.wtrBit (h : d0.SameBoot d) : d0.SameBoot d.wtrBit := h.put

theorem Dev.SameBoot.enterStandby (h : d0.SameBoot d) : d0.SameBoot d.enterStandby := h.put.put.setPair.wtrBit

theorem Dev.SameBoot.syncCheck (h : d0.SameBoot d) : d0.SameBoot d.syncCheck :=
  .ite h.put (.ite h.put.setPair.enterStandby h.put.setPair)

theorem Dev.SameBoot.syncBoundary {g n : Nat} (h : d0.SameBoot d) : d0.SameBoot (d.syncBoundary g n) :=
  .syncCheck (.ite h.diverged h)

/-! ### Frame boundaries -/

theorem Dev.SameBoot.groupRegs {g : Nat} (h : d0.SameBoot d) : d0.SameBoot (d.groupRegs g) :=
  h.setReg.setReg.setReg.setReg

theorem Dev.SameBoot.shedLayer {l reason : Nat} (h : d0.SameBoot d) : d0.SameBoot (d.shedLayer l reason) :=
  h.setLayerSt

theorem Dev.SameBoot.shedGroup {g : Nat} {ls : Tab (List Nat)} (h : d0.SameBoot d) :
    d0.SameBoot (Machine.shedGroup g ls d) := by
  induction ls generalizing d with
  | nil => exact h
  | cons e r ih => exact .ite h (ih h.shedLayer)

theorem Dev.SameBoot.applySheds {hd : Nat} (h : d0.SameBoot d) : d0.SameBoot (d.applySheds hd) := by
  unfold Dev.applySheds
  refine h.foldl (fun _ _ k => ?_)
  split
  · exact k
  · exact k.watchViews k.setLayerSt.put.put.publish

theorem Dev.SameBoot.applyLayer {c : Commit} {l : Nat} {w : List Nat} (h : d0.SameBoot d) :
    d0.SameBoot (d.applyLayer c l w) := by
  unfold Dev.applyLayer
  refine .setReg (.setReg (.setReg (.ite (.ite (.put (.ite (.put (.put (.put (.ite (.setLayerSt (.setCurLd ?_))
    (.setLayerSt (.setCurLd ?_)))))) (.put (.put (.put (.put (.put (.ite (.setLayerSt (.setCurLd ?_)) (.setLayerSt
    (.setCurLd ?_)))))))))) (.ite (.put (.put (.put (.ite (.setLayerSt (.setCurLd ?_)) (.setLayerSt (.setCurLd
    ?_)))))) (.put (.put (.put (.put (.put (.ite (.setLayerSt (.setCurLd ?_)) (.setLayerSt (.setCurLd ?_))))))))))
    (.setReg (.ite (.setLayerSt (.setCurLd ?_)) (.setLayerSt (.setCurLd ?_)))))))
  · split
    · exact .ite (.put (.put (.put (.foldl (.ite (.leaseDropHolder (.ite h.leaseAdd h)) (.ite h.leaseAdd h)) (fun _ _
        k => k.put.put))))) (.foldl (.ite (.leaseDropHolder (.ite h.leaseAdd h)) (.ite h.leaseAdd h)) (fun _ _ k =>
        k.put.put))
    · exact .foldl (.ite (.leaseDropHolder (.ite h.leaseAdd h)) (.ite h.leaseAdd h)) (fun _ _ k => k.put.put)
  · split
    · exact .ite (.put (.put (.put (.foldl (.ite (.leaseDropHolder (.ite h.leaseAdd h)) (.ite h.leaseAdd h)) (fun _ _
        k => k.put.put))))) (.foldl (.ite (.leaseDropHolder (.ite h.leaseAdd h)) (.ite h.leaseAdd h)) (fun _ _ k =>
        k.put.put))
    · exact .foldl (.ite (.leaseDropHolder (.ite h.leaseAdd h)) (.ite h.leaseAdd h)) (fun _ _ k => k.put.put)
  · split
    · exact .ite (.put (.put (.put (.foldl (.ite (.leaseDropHolder (.ite h.leaseAdd h)) (.ite h.leaseAdd h)) (fun _ _
        k => k.put.put))))) (.foldl (.ite (.leaseDropHolder (.ite h.leaseAdd h)) (.ite h.leaseAdd h)) (fun _ _ k =>
        k.put.put))
    · exact .foldl (.ite (.leaseDropHolder (.ite h.leaseAdd h)) (.ite h.leaseAdd h)) (fun _ _ k => k.put.put)
  · split
    · exact .ite (.put (.put (.put (.foldl (.ite (.leaseDropHolder (.ite h.leaseAdd h)) (.ite h.leaseAdd h)) (fun _ _
        k => k.put.put))))) (.foldl (.ite (.leaseDropHolder (.ite h.leaseAdd h)) (.ite h.leaseAdd h)) (fun _ _ k =>
        k.put.put))
    · exact .foldl (.ite (.leaseDropHolder (.ite h.leaseAdd h)) (.ite h.leaseAdd h)) (fun _ _ k => k.put.put)
  · split
    · exact .ite (.put (.put (.put (.foldl (.ite (.leaseDropHolder (.ite h.leaseAdd h)) (.ite h.leaseAdd h)) (fun _ _
        k => k.put.put))))) (.foldl (.ite (.leaseDropHolder (.ite h.leaseAdd h)) (.ite h.leaseAdd h)) (fun _ _ k =>
        k.put.put))
    · exact .foldl (.ite (.leaseDropHolder (.ite h.leaseAdd h)) (.ite h.leaseAdd h)) (fun _ _ k => k.put.put)
  · split
    · exact .ite (.put (.put (.put (.foldl (.ite (.leaseDropHolder (.ite h.leaseAdd h)) (.ite h.leaseAdd h)) (fun _ _
        k => k.put.put))))) (.foldl (.ite (.leaseDropHolder (.ite h.leaseAdd h)) (.ite h.leaseAdd h)) (fun _ _ k =>
        k.put.put))
    · exact .foldl (.ite (.leaseDropHolder (.ite h.leaseAdd h)) (.ite h.leaseAdd h)) (fun _ _ k => k.put.put)
  · split
    · exact .ite (.put (.put (.put (.foldl (.ite (.leaseDropHolder (.ite h.leaseAdd h)) (.ite h.leaseAdd h)) (fun _ _
        k => k.put.put))))) (.foldl (.ite (.leaseDropHolder (.ite h.leaseAdd h)) (.ite h.leaseAdd h)) (fun _ _ k =>
        k.put.put))
    · exact .foldl (.ite (.leaseDropHolder (.ite h.leaseAdd h)) (.ite h.leaseAdd h)) (fun _ _ k => k.put.put)
  · split
    · exact .ite (.put (.put (.put (.foldl (.ite (.leaseDropHolder (.ite h.leaseAdd h)) (.ite h.leaseAdd h)) (fun _ _
        k => k.put.put))))) (.foldl (.ite (.leaseDropHolder (.ite h.leaseAdd h)) (.ite h.leaseAdd h)) (fun _ _ k =>
        k.put.put))
    · exact .foldl (.ite (.leaseDropHolder (.ite h.leaseAdd h)) (.ite h.leaseAdd h)) (fun _ _ k => k.put.put)
  · split
    · exact .ite (.put (.put (.put (.foldl (.ite (.leaseDropHolder (.ite h.leaseAdd h)) (.ite h.leaseAdd h)) (fun _ _
        k => k.put.put))))) (.foldl (.ite (.leaseDropHolder (.ite h.leaseAdd h)) (.ite h.leaseAdd h)) (fun _ _ k =>
        k.put.put))
    · exact .foldl (.ite (.leaseDropHolder (.ite h.leaseAdd h)) (.ite h.leaseAdd h)) (fun _ _ k => k.put.put)
  · split
    · exact .ite (.put (.put (.put (.foldl (.ite (.leaseDropHolder (.ite h.leaseAdd h)) (.ite h.leaseAdd h)) (fun _ _
        k => k.put.put))))) (.foldl (.ite (.leaseDropHolder (.ite h.leaseAdd h)) (.ite h.leaseAdd h)) (fun _ _ k =>
        k.put.put))
    · exact .foldl (.ite (.leaseDropHolder (.ite h.leaseAdd h)) (.ite h.leaseAdd h)) (fun _ _ k => k.put.put)

theorem Dev.SameBoot.applySet {hd : Nat} {s : HeadSet} (h : d0.SameBoot d) : d0.SameBoot (d.applySet hd s) :=
  .ite h.setReg.setHead h.setReg.setHead.put.setReg

theorem Dev.SameBoot.applyTaster {k : Nat} {w : List Nat} (h : d0.SameBoot d) : d0.SameBoot (d.applyTaster k w) :=
  .share (fun l0 => .ite l0.setTaster l0) (h.foldl (fun _ _ k => k.setReg))

theorem Dev.SameBoot.applyHead {c : Commit} {hd : Nat} (h : d0.SameBoot d) : d0.SameBoot (d.applyHead c hd) := by
  unfold Dev.applyHead
  refine h.watchViews (?_)
  dsimp only
  split
  · exact .applySet (.foldl (h.foldl (fun _ _ k => k.applyLayer)) (fun _ _ k => k.applyTaster))
  · exact .foldl (h.foldl (fun _ _ k => k.applyLayer)) (fun _ _ k => k.applyTaster)

theorem Dev.SameBoot.holdRecord {r : HeldRec} (h : d0.SameBoot d) : d0.SameBoot (d.holdRecord r) := h.withLay

theorem Dev.SameBoot.commitApplied {c : Commit} {n s0 : Nat} (h : d0.SameBoot d) :
    d0.SameBoot (d.commitApplied c n s0) := by
  unfold Dev.commitApplied
  refine .grpPending ?_
  split
  · refine .send (.dropCommit (h.foldl (fun _ _ k => .groupRegs ?_)))
    split
    · exact k.withLay.mirror.setReg
    · exact k.withLay.mirror
  · refine .holdRecord (.succeed (.dropCommit (h.foldl (fun _ _ k => .groupRegs ?_))))
    split
    · exact k.withLay.mirror.setReg
    · exact k.withLay.mirror

theorem Dev.SameBoot.changeMode {hd n : Nat} {s : HeadSet} (h : d0.SameBoot d) : d0.SameBoot (d.changeMode hd n s) :=
  .share (fun l0 => .ite l0.setHead (l0.setHead.withComp.watchViews l0.setHead.withComp.setHeadState))
    h.setReg.setReg.put

theorem Dev.SameBoot.retarget {g : Nat} (h : d0.SameBoot d) : d0.SameBoot (d.retarget g) :=
  h.foldl (fun _ _ k => .ite k.finish.dropCommit.grpPending k.updCommit)

theorem Dev.SameBoot.applyAt {hd n : Nat} {c : Commit} (h : d0.SameBoot d) : d0.SameBoot (d.applyAt hd n c) :=
  .share (fun l0 => .ite (.share (fun l1 => .ite (l1.foldl (fun _ _ k2 => k2.retarget)) l1)
    l0.updCommit.commitApplied) l0.updCommit) (.ite h.applyHead.changeMode (.ite h.applyHead.setHead h.applyHead))

theorem Dev.SameBoot.pruneHolds (h : d0.SameBoot d) : d0.SameBoot d.pruneHolds := h.foldl (fun _ _ k => k.endHold)

theorem Dev.SameBoot.beginFrame {hd n : Nat} (h : d0.SameBoot d) : d0.SameBoot (d.beginFrame hd n) :=
  .lineRelease (h.setHead.foldl (fun _ _ k => k.latchLayer))

theorem Dev.SameBoot.headBoundary {hd n : Nat} (h : d0.SameBoot d) : d0.SameBoot (Machine.headBoundary hd n d) := by
  unfold Machine.headBoundary
  refine .ite h (.ite (.ite (.encLost (.watchViews (.setHead ?_) (.setHeadState (.setHead ?_)))) (.setHead ?_)) (.ite
    (.syncBoundary (.encLost (.pruneHolds (.foldl (.ite (.groupRegs (.applySheds (.ite (.shedGroup (.withLay ?_))
    ?_))) (.applySheds (.ite (.shedGroup (.withLay ?_)) ?_))) (fun _ _ k => k.applyAt))))) (.ite (.syncBoundary
    (.encLost (.pruneHolds (.foldl (.ite (.groupRegs (.applySheds (.ite (.shedGroup (.withLay ?_)) ?_))) (.applySheds
    (.ite (.shedGroup (.withLay ?_)) ?_))) (fun _ _ k => k.applyAt))))) (.ite (.put (.syncBoundary (.encLost
    (.pruneHolds (.foldl (.ite (.groupRegs (.applySheds (.ite (.shedGroup (.withLay ?_)) ?_))) (.applySheds (.ite
    (.shedGroup (.withLay ?_)) ?_))) (fun _ _ k => k.applyAt)))))) (.beginFrame (.put (.syncBoundary (.encLost
    (.pruneHolds (.foldl (.ite (.groupRegs (.applySheds (.ite (.shedGroup (.withLay ?_)) ?_))) (.applySheds (.ite
    (.shedGroup (.withLay ?_)) ?_))) (fun _ _ k => k.applyAt)))))))))))
  · split
    · exact h.setHead.put.put.setHead
    · exact h.setHead
  · split
    · exact h.setHead.put.put.setHead
    · exact h.setHead
  · split
    · exact h.setHead.put.put.setHead
    · exact h.setHead
  · split
    · exact h.setHead.put.put.setHead
    · exact h.setHead
  · split
    · exact h.setHead.put.put.setHead
    · exact h.setHead
  · split
    · exact h.setHead.put.put.setHead
    · exact h.setHead
  · split
    · exact h.setHead.put.put.setHead
    · exact h.setHead
  · split
    · exact h.setHead.put.put.setHead
    · exact h.setHead
  · split
    · exact h.setHead.put.put.setHead
    · exact h.setHead
  · split
    · exact h.setHead.put.put.setHead
    · exact h.setHead
  · split
    · exact h.setHead.put.put.setHead
    · exact h.setHead
  · split
    · exact h.setHead.put.put.setHead
    · exact h.setHead
  · split
    · exact h.setHead.put.put.setHead
    · exact h.setHead
  · split
    · exact h.setHead.put.put.setHead
    · exact h.setHead
  · split
    · exact h.setHead.put.put.setHead
    · exact h.setHead
  · split
    · exact h.setHead.put.put.setHead
    · exact h.setHead
  · split
    · exact h.setHead.put.put.setHead
    · exact h.setHead
  · split
    · exact h.setHead.put.put.setHead
    · exact h.setHead
  · split
    · exact h.setHead.put.put.setHead
    · exact h.setHead

theorem Dev.SameBoot.scalerParity {i : Nat} (h : d0.SameBoot d) : d0.SameBoot (Machine.scalerParity i d) :=
  .ite h (.ite h.put.degraded.shedLayer h.put.degraded)

theorem Dev.SameBoot.outFmtWrite {hd : Nat} {v : Word} (h : d0.SameBoot d) :
    d0.SameBoot (Machine.outFmtWrite hd v d) :=
  .ite h h.setReg

theorem Dev.SameBoot.governorWindow {hottest : Int} (h : d0.SameBoot d) :
    d0.SameBoot (Machine.governorWindow hottest d) := by
  unfold Machine.governorWindow
  refine .ite h (.ite ?_ (.put (.put (.put (.put (.put (h.withComp.foldl (fun _ _ k => k.setHead))))))))
  split
  · exact .info (.bump (.shedLayer (.put (.put (.put (.put (.put (h.withComp.foldl (fun _ _ k => k.setHead)))))))))
  · exact .put (.put (.put (.put (.put (h.withComp.foldl (fun _ _ k => k.setHead))))))

/-! ### Parcels and CRC units -/

theorem Dev.SameBoot.parcelOpen {q seq : Nat} (h : d0.SameBoot d) : d0.SameBoot (Machine.parcelOpen q seq d) := by
  unfold Machine.parcelOpen
  refine h.onCmd (fun _ => ?_)
  split
  · exact h.bad
  · exact h.withTail (.ite h.reject h.setJob.succeed)

theorem Dev.SameBoot.parcelFeed {q seq : Nat} (h : d0.SameBoot d) : d0.SameBoot (Machine.parcelFeed q seq d) := by
  unfold Machine.parcelFeed
  refine h.onCmd (fun _ => ?_)
  split
  · exact h.bad
  · exact h.withTail (.ite h.reject (.ite h.reject (.ite h.reject (.ite h h.setJob))))

theorem Dev.SameBoot.feedInput {q : Nat} {c : Cmd} {m : Mem} (h : d0.SameBoot d) :
    d0.SameBoot (Machine.feedInput q c d m).1 := by
  unfold Machine.feedInput
  refine .ite_fst h (.ite_fst ?_ ?_)
  · split
    · split
      · exact h
      · exact h
    · exact h
  · dsimp only
    split
    · exact h.checkedRead
    · exact h.checkedRead
    · exact h.checkedRead
    · exact .ite_fst h.checkedRead h.checkedRead

theorem Dev.SameBoot.feedEnd {q seq j : Nat} {last : Bool} {r : FeedRun} (h : d0.SameBoot r.dev) :
    d0.SameBoot (Machine.feedEnd q seq j last r) := by
  unfold Machine.feedEnd
  split
  · exact .finish (.setJob (.ite h.bump.contained h))
  · exact h.setJob.succeed

/-- The same of the block in a feed's run. -/
def FeedRun.SameBoot (d : Dev) (r : FeedRun) : Prop := d.SameBoot r.dev

theorem FeedRun.SameBoot.ite {a b : FeedRun} {p : Prop} [Decidable p] (ha : FeedRun.SameBoot d0 a)
    (hb : FeedRun.SameBoot d0 b) : FeedRun.SameBoot d0 (if p then a else b) := by
  split
  · exact ha
  · exact hb

theorem FeedRun.SameBoot.put {r : FeedRun} {q : Nat} {bs : List Byte} (h : FeedRun.SameBoot d0 r) :
    FeedRun.SameBoot d0 (r.put q bs) := by
  have hr : d0.SameBoot r.dev := h
  unfold FeedRun.put
  refine .ite h (.ite (.ite hr.hostPut h) ?_)
  have k := hr.checkedWrite (m := r.mem) (k := cmdChecker q) (master := cmdMaster q)
    (pa := r.job.outAddr + r.job.offset - 2 ^ 63) (bs := bs)
  dsimp only
  split
  · exact k
  · exact k

theorem FeedRun.SameBoot.emit {r : FeedRun} {q : Nat} {bs : List Byte} (h : FeedRun.SameBoot d0 r) :
    FeedRun.SameBoot d0 (r.emit q bs) :=
  .ite h.put (.ite h.put h.put)

theorem FeedRun.SameBoot.close {r : FeedRun} {q : Nat} {selfFail flushed last : Bool} {n : Nat}
    (h : FeedRun.SameBoot d0 r) :
    FeedRun.SameBoot d0 (r.close q selfFail flushed last n) :=
  .ite h (.ite h.emit h.emit)

theorem FeedRun.SameBoot.closeFull {r : FeedRun} {q : Nat} {selfFail : Bool} {n : Nat} (h : FeedRun.SameBoot d0 r) :
    FeedRun.SameBoot d0 (FeedRun.closeFull q selfFail n r) := by
  induction n generalizing r with
  | zero => exact h
  | succ n ih => exact .ite h (ih h.close)

theorem FeedRun.SameBoot.compress {r : FeedRun} {q : Nat} {selfFail flush last : Bool} (h : FeedRun.SameBoot d0 r) :
    FeedRun.SameBoot d0 (r.compress q selfFail flush last) := by
  have k := h.closeFull (q := q) (selfFail := selfFail) (n := r.job.pending.length / parcelMax)
  exact .ite k (.ite (.ite k.close k) (.ite k.close k))

theorem FeedRun.SameBoot.unpackAll {r : FeedRun} {q : Nat} {j n : Nat} (h : FeedRun.SameBoot d0 r) :
    FeedRun.SameBoot d0 (FeedRun.unpackAll q j n r) := by
  induction n generalizing r with
  | zero => exact h
  | succ n ih =>
    unfold FeedRun.unpackAll
    split
    · exact h
    · exact .ite h.put h.put
    · next out _ _ _ =>
      have k : d0.SameBoot (r.emit q out).dev := h.emit
      exact .ite k (ih (Dev.SameBoot.ite k (Dev.SameBoot.bump k)))

theorem Dev.SameBoot.feedComplete {j : Nat} {selfFail : Bool} {x : Dev × Mem} (h : d0.SameBoot x.1) :
    d0.SameBoot (Machine.feedComplete j selfFail x).1 := by
  suffices d0.SameBootPair (Machine.feedComplete j selfFail x) from this
  unfold Machine.feedComplete
  split
  · exact h
  split
  · exact h
  next q seq _ _ c _ =>
  extract_lets e host n flags out
  refine .ite (.ite h h.feedFailed.finish) (.ite h.waitAt ?_)
  have he : d0.SameBoot (Machine.feedInput q c e x.2).1 := h.feedInput
  generalize Machine.feedInput q c e x.2 = z at he
  obtain ⟨g, bs, bad⟩ := z
  dsimp -zeta only at he ⊢
  extract_lets +onlyGivenNames b r flush last r1 r2
  have hr : FeedRun.SameBoot d0 r := he
  have h1 : FeedRun.SameBoot d0 r1 := .ite hr.unpackAll hr.compress
  have h2 : FeedRun.SameBoot d0 r2 := .ite h1 (.ite h1 (.ite h1 h1))
  exact .feedEnd h2

theorem Dev.SameBoot.parcelAbort {q seq : Nat} (h : d0.SameBoot d) : d0.SameBoot (Machine.parcelAbort q seq d) :=
  h.onCmd (fun _ => .ite h.bad (h.withTail (.ite h.succeed (.ite h.reject (.ite h h.setJob.succeed)))))

theorem Dev.SameBoot.crcCtrl {u : Nat} {v : Word} (h : d0.SameBoot d) : d0.SameBoot (Machine.crcCtrl u v d) :=
  .ite h h.setReg.setReg.setReg

theorem Dev.SameBoot.crcByte {u : Nat} {b : Byte} (h : d0.SameBoot d) : d0.SameBoot (Machine.crcByte u d b) :=
  h.setReg.setReg

theorem Dev.SameBoot.crcData {n u : Nat} {v : Word} (h : d0.SameBoot d) : d0.SameBoot (Machine.crcData n u v d) :=
  .ite h (h.foldl (fun _ _ k => k.crcByte))

theorem Dev.SameBoot.crcRead {u : Nat} {count : Bool} (h : d0.SameBoot d) : d0.SameBoot (Machine.crcRead u count d) :=
  .ite h h.respond

/-! ### Display ports -/

theorem Dev.SameBoot.setPort {p : Nat} {v : PortSt} (h : d0.SameBoot d) : d0.SameBoot (d.setPort p v) := h.withComp

theorem Dev.SameBoot.noSink {hd cause : Nat} {quiet : Bool} (h : d0.SameBoot d) :
    d0.SameBoot (d.noSink hd cause quiet) :=
  .ite h.setHead.put.put (h.setHead.watchViews h.setHead.setHeadState)

theorem Dev.SameBoot.retrained {p : Nat} (h : d0.SameBoot d) : d0.SameBoot (d.retrained p) :=
  h.setPort.foldl (fun _ _ k => k.succeed)

theorem Dev.SameBoot.linkDown {p : Nat} (h : d0.SameBoot d) : d0.SameBoot (d.linkDown p) := h.setPort.put.put.put

theorem Dev.SameBoot.trainEnds {p cause : Nat} (h : d0.SameBoot d) : d0.SameBoot (d.trainEnds p cause) :=
  .retrained (h.linkDown.setPort.foldl (fun _ _ k => .ite k k.noSink))

theorem Dev.SameBoot.tryFrom {p k : Nat} (h : d0.SameBoot d) : d0.SameBoot (d.tryFrom p k) := by
  unfold Dev.tryFrom
  dsimp only
  split
  · exact h.trainEnds
  · split
    · exact h.setPort
    · exact h.trainEnds

theorem Dev.SameBoot.train {p k : Nat} {retry : Bool} (h : d0.SameBoot d) : d0.SameBoot (d.train p k retry) :=
  .tryFrom (h.linkDown.bump.setPort.put.put.foldl (fun _ _ k => .ite k (.ite k.noSink (.share (fun l1 => .ite l1
    (.ite l1.put.put (l1.watchViews l1.setHeadState))) k.setHead))))

theorem Dev.SameBoot.readAndTrain {p : Nat} {caps : Option SinkCaps} {retry : Bool} (h : d0.SameBoot d) :
    d0.SameBoot (d.readAndTrain p caps retry) := by
  unfold Dev.readAndTrain
  refine .ite h.setPort.retrained ?_
  split
  · exact h.setPort.trainEnds
  · exact h.setPort.train

theorem Dev.SameBoot.freshBackoff {p : Nat} (h : d0.SameBoot d) : d0.SameBoot (d.freshBackoff p) := h.setPort

theorem Dev.SameBoot.hpdRise {p : Nat} {caps : Option SinkCaps} (h : d0.SameBoot d) :
    d0.SameBoot (Machine.hpdRise p caps d) :=
  .ite h.put.freshBackoff.setPort h.put.freshBackoff.readAndTrain

theorem Dev.SameBoot.hpdIrq {p : Nat} {lost : Bool} {caps : Option SinkCaps} (h : d0.SameBoot d) :
    d0.SameBoot (Machine.hpdIrq p lost caps d) := by
  unfold Machine.hpdIrq
  refine .ite h.freshBackoff ?_
  split
  · exact .ite h.freshBackoff.train h.freshBackoff
  · exact .ite h.freshBackoff.readAndTrain h.freshBackoff

theorem Dev.SameBoot.hpdUnplug {p : Nat} (h : d0.SameBoot d) : d0.SameBoot (Machine.hpdUnplug p d) :=
  .share (fun l0 => .ite l0.put.retrained (.retrained (l0.put.foldl (fun _ _ k1 => .ite k1 k1.noSink))))
    h.put.put.linkDown.setPort.put

theorem Dev.SameBoot.linkReady {hd : Nat} (h : d0.SameBoot d) : d0.SameBoot (d.linkReady hd) := h.setHead

theorem Dev.SameBoot.configPasses {p k : Nat} (h : d0.SameBoot d) : d0.SameBoot (d.configPasses p k) :=
  .retrained (h.setPort.put.put.put.foldl (fun _ _ k => .ite k.info.linkReady k.linkReady))

theorem Dev.SameBoot.configFails {p k : Nat} (h : d0.SameBoot d) : d0.SameBoot (d.configFails p k) := h.bump.tryFrom

theorem Dev.SameBoot.configDone {p : Nat} {pass : Bool} (h : d0.SameBoot d) :
    d0.SameBoot (Machine.configDone p pass d) := by
  unfold Machine.configDone
  split
  · exact h
  · exact .ite h.configPasses h.configFails

theorem Dev.SameBoot.configTimeout {p : Nat} (h : d0.SameBoot d) : d0.SameBoot (Machine.configTimeout p d) := by
  unfold Machine.configTimeout
  split
  · exact .ite h.configFails h
  · exact h

theorem Dev.SameBoot.trainRetry {p : Nat} {caps : Option SinkCaps} (h : d0.SameBoot d) :
    d0.SameBoot (Machine.trainRetry p caps d) :=
  .ite h h.readAndTrain

theorem Dev.SameBoot.portClockLost {p : Nat} (h : d0.SameBoot d) : d0.SameBoot (Machine.portClockLost p d) :=
  .ite h (.retrained (h.clockGone.setPort.linkDown.foldl (fun _ _ k => .ite k k.noSink)))

theorem Dev.SameBoot.portClockReturn {p : Nat} {caps : Option SinkCaps} (h : d0.SameBoot d) :
    d0.SameBoot (Machine.portClockReturn p caps d) :=
  .ite h (.share (fun l0 => .ite l0.readAndTrain (l0.foldl (fun _ _ k1 => .ite k1 k1.noSink)))
    h.clockBack.setPort.freshBackoff)

theorem Dev.SameBoot.modeBoundary {hd : Nat} (h : d0.SameBoot d) : d0.SameBoot (Machine.modeBoundary hd d) := by
  unfold Machine.modeBoundary
  split
  · exact h
  · refine .ite h (.ite (.train (.setHead (h.foldl (fun _ _ k => k.frameEnd)))) (.ite (.setHead (h.foldl (fun _ _ k =>
      k.frameEnd))) ?_))
    split
    · exact .ite (.setHead (h.foldl (fun _ _ k => k.frameEnd))) (.train (.setHead (h.foldl (fun _ _ k =>
        k.frameEnd))))
    · exact .ite (.noSink (.setHead (h.foldl (fun _ _ k => k.frameEnd)))) (.ite (.setHead (h.foldl (fun _ _ k =>
        k.frameEnd))) (.train (.setHead (h.foldl (fun _ _ k => k.frameEnd)))))

theorem Dev.SameBoot.modeLinkReady {hd : Nat} (h : d0.SameBoot d) : d0.SameBoot (Machine.modeLinkReady hd d) :=
  .ite h h.linkReady

theorem Dev.SameBoot.dpCtrlApply {p : Nat} {v : Word} {caps : Option SinkCaps} (h : d0.SameBoot d) :
    d0.SameBoot (Machine.dpCtrlApply p v caps d) :=
  .ite h (.ite h.setReg.setPort h.setReg.setPort.readAndTrain)

theorem Dev.SameBoot.dpAux {q seq : Nat} {reply : AuxReply} (h : d0.SameBoot d) :
    d0.SameBoot (Machine.dpAux q seq reply d) := by
  unfold Machine.dpAux
  refine h.onCmd (fun _ => ?_)
  dsimp only
  split
  · exact h.bad
  · refine h.withTail (.ite h.finish (.ite h.finish (.ite (h.withHost (fun _ => ?_)) ?_)))
    · split
      · exact h.finish
      · exact h.finish
      · exact .ite h.succeed (.ite h.finish h.hostPut.succeed)
    · split
      · exact h.finish
      · exact h.finish
      · exact .ite h.succeed (.ite h.finish h.hostPut.succeed)

theorem Dev.SameBoot.dpRetrain {q seq : Nat} {caps : Option SinkCaps} (h : d0.SameBoot d) :
    d0.SameBoot (Machine.dpRetrain q seq caps d) :=
  h.onCmd (fun _ => .ite h.bad (h.withTail (.ite h.finish (.ite h (.ite h.setPort.freshBackoff.retrained
    h.setPort.freshBackoff.readAndTrain)))))

/-! ### Fabric lanes -/

theorem Dev.SameBoot.attemptStart {p : Nat} (h : d0.SameBoot d) : d0.SameBoot (Machine.attemptStart p d) :=
  .ite h h.put.attempt.tellPort

theorem Dev.SameBoot.sweepDone {p : Nat} {masks : List Nat} (h : d0.SameBoot d) :
    d0.SameBoot (Machine.sweepDone p masks d) := by
  unfold Machine.sweepDone
  split
  · exact h
  · refine .ite h (.setStep (h.foldl (fun _ _ k => .ite k.put.put.setLaneCause (.ite k.put.put.setLaneCause ?_))))
    split
    · exact k.put.put.setLaneCause
    · exact k.put.put.put.put.put.setLanes

theorem Dev.SameBoot.alignDone {p : Nat} {found : List (Nat × Nat × Nat)} (h : d0.SameBoot d) :
    d0.SameBoot (Machine.alignDone p found d) := by
  unfold Machine.alignDone
  refine .ite h (.ite (h.setLanes.foldl (fun _ _ k => k.put.put)) (.ite h (.ite (.failAttempt (.setLanes (h.foldl (fun
    _ _ k => ?_)))) (.setStep (.setLanes (h.foldl (fun _ _ k => ?_)))))))
  · split
    · exact k.put.setLaneCause
    · exact .share (fun l1 => .share (fun l2 => .ite l2.setLaneCause (.ite l2 l2.setLaneCause)) (.ite l1 l1.put))
        k.put.put
  · split
    · exact k.put.setLaneCause
    · exact .share (fun l1 => .share (fun l2 => .ite l2.setLaneCause (.ite l2 l2.setLaneCause)) (.ite l1 l1.put))
        k.put.put

theorem Dev.SameBoot.laneCtrl {p l : Nat} {v : Word} (h : d0.SameBoot d) : d0.SameBoot (Machine.laneCtrl p l v d) :=
  .ite h (.ite (.put (.put (.setLanes (.ite h.put h.put.put)))) (.ite h.put h.put.put))

theorem Dev.SameBoot.laneSlip {p l : Nat} {v : Word} (h : d0.SameBoot d) : d0.SameBoot (Machine.laneSlip p l v d) :=
  .ite h.laneCtrl h

theorem Dev.SameBoot.trainBlock {p l : Nat} {b : List Byte} (h : d0.SameBoot d) : d0.SameBoot (d.trainBlock p l b) :=
  .share (fun l0 => .share (fun l1 => .ite (.ite l1.setLanes.setLaneCause.failAttempt l1.setLanes.setLaneCause) l1)
    (.ite l0.put l0)) h.setLanes

theorem Dev.SameBoot.trainingFrame {p l : Nat} {region : List Bool} (h : d0.SameBoot d) :
    d0.SameBoot (Machine.trainingFrame p l region d) :=
  .ite h (.share (fun l0 => .ite l0 (.ite l0.trainBlock (.ite l0 (.ite l0.setLanes (.ite (.ite l0.setLanes.put
    l0.setLanes) (.ite l0.attempt l0.setLanes)))))) h.put)

theorem Dev.SameBoot.goReceived {p : Nat} {n : Neighbour} (h : d0.SameBoot d) :
    d0.SameBoot (Machine.goReceived p n d) :=
  .ite h (.ite h.failAttempt (.identify (.setLink (.tellPort (.setLanes (.put (.put (.put (.put (.bump (h.foldl (fun
    _ _ k => k.put.put))))))))))))

theorem Dev.SameBoot.stepTimeout {p : Nat} (h : d0.SameBoot d) : d0.SameBoot (Machine.stepTimeout p d) :=
  .ite h h.failAttempt

theorem Dev.SameBoot.attemptTimeout {p : Nat} (h : d0.SameBoot d) : d0.SameBoot (Machine.attemptTimeout p d) :=
  .ite h h.failAttempt

theorem Dev.SameBoot.retryTimer {p : Nat} (h : d0.SameBoot d) : d0.SameBoot (Machine.retryTimer p d) :=
  .ite h h.attempt

theorem Dev.SameBoot.laneLos {p l : Nat} {set : Bool} (h : d0.SameBoot d) : d0.SameBoot (Machine.laneLos p l set d) :=
  .ite h (.share (fun l0 => .ite (.ite l0.put (.ite l0.attempt l0)) (.ite l0.setLanes.attempt (.ite l0.detected
    l0))) (.ite h.put.put h.put))

theorem Dev.SameBoot.laneLol {p l : Nat} {set : Bool} (h : d0.SameBoot d) : d0.SameBoot (Machine.laneLol p l set d) :=
  .ite h (.ite (.attempt (.ite h.put.put h.put)) (.ite h.put.put h.put))

theorem Dev.SameBoot.laneLoa {p l n : Nat} (h : d0.SameBoot d) : d0.SameBoot (Machine.laneLoa p l n d) :=
  .ite h (.ite h.bump (.ite h.bump.put.put.attempt h.bump.put.put))

theorem Dev.SameBoot.wakeTx {p : Nat} (h : d0.SameBoot d) : d0.SameBoot (d.wakeTx p) := .ite h h.setLanes.put.put

theorem Dev.SameBoot.wakeRx {p : Nat} (h : d0.SameBoot d) : d0.SameBoot (d.wakeRx p) := .ite h h.setLanes.put.put

theorem Dev.SameBoot.writeHold {p : Nat} {hold : Bool} (h : d0.SameBoot d) : d0.SameBoot (d.writeHold p hold) :=
  .ite h.put (.ite h.put.leaveRouting (.ite h.put.wakeTx.wakeRx.identify h.put))

theorem Dev.SameBoot.writeTxSleep {p : Nat} {v : Bool} (h : d0.SameBoot d) : d0.SameBoot (d.writeTxSleep p v) :=
  .ite (.ite h.put.put h) h.wakeTx

theorem Dev.SameBoot.writeRxSleep {p : Nat} {v : Bool} (h : d0.SameBoot d) : d0.SameBoot (d.writeRxSleep p v) :=
  .ite (.ite h.put.put h) h.wakeRx

theorem Dev.SameBoot.retrain {p : Nat} (h : d0.SameBoot d) : d0.SameBoot (d.retrain p) :=
  .ite h h.setLanes.put.put.put.put.attempt

theorem Dev.SameBoot.plnCtrl {p : Nat} {v : Word} (h : d0.SameBoot d) : d0.SameBoot (Machine.plnCtrl p v d) :=
  .ite h (.share (fun l0 => .ite l0.retrain l0) h.put.writeHold.writeTxSleep.writeRxSleep)

theorem Dev.SameBoot.paentRetrain {p : Nat} {v : Word} (h : d0.SameBoot d) :
    d0.SameBoot (Machine.paentRetrain p v d) :=
  .ite h.plnCtrl h

theorem Dev.SameBoot.paentHold {p : Nat} {v : Word} (h : d0.SameBoot d) : d0.SameBoot (Machine.paentHold p v d) :=
  .ite h.plnCtrl h

theorem Dev.SameBoot.paentTxSleep {p : Nat} {v : Word} (h : d0.SameBoot d) :
    d0.SameBoot (Machine.paentTxSleep p v d) :=
  .ite h.plnCtrl h

theorem Dev.SameBoot.paentTxWake {p : Nat} {v : Word} (h : d0.SameBoot d) : d0.SameBoot (Machine.paentTxWake p v d) :=
  .ite h.plnCtrl h

theorem Dev.SameBoot.paentRxSleep {p : Nat} {v : Word} (h : d0.SameBoot d) :
    d0.SameBoot (Machine.paentRxSleep p v d) :=
  .ite h.plnCtrl h

theorem Dev.SameBoot.paentRxWake {p : Nat} {v : Word} (h : d0.SameBoot d) : d0.SameBoot (Machine.paentRxWake p v d) :=
  .ite h.plnCtrl h

theorem Dev.SameBoot.wakeTimeout {p : Nat} (h : d0.SameBoot d) : d0.SameBoot (Machine.wakeTimeout p d) := by
  unfold Machine.wakeTimeout
  split
  · exact .ite h.attempt h
  · exact h

/-! ### DRAM -/

theorem Dev.SameBoot.setMctl {x : MemCtl} (h : d0.SameBoot d) : d0.SameBoot (d.setMctl x) := h.withMctl

theorem Dev.SameBoot.setRank {ch rank v : Nat} (h : d0.SameBoot d) : d0.SameBoot (d.setRank ch rank v) := h.put

theorem Dev.SameBoot.memBit {f : FldDesc} {ch : Nat} {on : Bool} (h : d0.SameBoot d) :
    d0.SameBoot (d.memBit f ch on) :=
  h.put

theorem Dev.SameBoot.startMigration {m : Mem} {ch : Nat} (h : d0.SameBoot d) :
    d0.SameBoot (Machine.startMigration d m ch).1 := by
  unfold Machine.startMigration
  split
  · exact h.setRank.setRank.put.put.put.put.setMctl
  · exact h

theorem Dev.SameBoot.nextMigration {m : Mem} (h : d0.SameBoot d) : d0.SameBoot (Machine.nextMigration d m).1 := by
  unfold Machine.nextMigration
  dsimp only
  split
  · exact h.setMctl.put
  · exact h.setMctl.put.setMctl.startMigration

theorem Dev.SameBoot.channelFails {ch : Nat} (h : d0.SameBoot d) : d0.SameBoot (d.channelFails ch) :=
  h.put.memBit.memBit.setMctl.degraded.fatal

theorem Dev.SameBoot.failChannel {m : Mem} {ch : Nat} (h : d0.SameBoot d) :
    d0.SameBoot (Machine.failChannel d m ch).1 :=
  .ite_fst h.channelFails.nextMigration h.channelFails

theorem Dev.SameBoot.rankFault {m : Mem} {ch rank cause : Nat} (h : d0.SameBoot d) :
    d0.SameBoot (Machine.rankFault d m ch rank cause).1 :=
  .ite_fst h (.share (fun l0 => .ite_fst l0.failChannel (.ite_fst (.ite_fst l0.setRank.failChannel
    l0.setRank.put.memBit.info) (.ite_fst l0 (.ite_fst l0.failChannel (.ite_fst l0.degraded.startMigration
    l0.degraded.put.setMctl))))) h.put)

theorem Dev.SameBoot.chErr {line : Nat} {ue poison : Bool} {device : Nat} (h : d0.SameBoot d) :
    d0.SameBoot (d.chErr line ue poison device) :=
  h.setReg.setLatch

theorem Dev.SameBoot.eccRead {line rank : Nat} {r : EccRead} {m : Mem} (h : d0.SameBoot d) :
    d0.SameBoot (Machine.eccRead line rank r d m).1 := by
  unfold Machine.eccRead
  extract_lets ch r'
  clear_value r' ch
  refine .ite_fst h ?_
  cases r' with
  | clean => exact h
  | corrected => exact .share (fun l => .ite_fst l.setMctl.rankFault l) h.bump.chErr.corrected.setMctl
  | uncorrectable => exact h.bump.chErr.contained.rankFault

theorem Dev.SameBoot.dramReadError {line rank : Nat} {r : EccRead} {x : Dev × Mem} (h : d0.SameBoot x.1) :
    d0.SameBoot (Machine.dramReadError line rank r x).1 :=
  h.eccRead

theorem Dev.SameBoot.wcrcAlert {ch rank retry : Nat} {x : Dev × Mem} (h : d0.SameBoot x.1) :
    d0.SameBoot (Machine.wcrcAlert ch rank retry x).1 :=
  .ite_fst h (.ite_fst h.bump h.bump.rankFault)

theorem Dev.SameBoot.copyLine {r : EccRead} {x : Dev × Mem} (h : d0.SameBoot x.1) :
    d0.SameBoot (Machine.copyLine r x).1 := by
  unfold Machine.copyLine
  split
  · exact h
  · exact .ite_fst h (.setMctl (.put (.ite_fst h.eccRead (.ite_fst h.eccRead h.eccRead.bump))))

theorem Dev.SameBoot.migrationDone {x : Dev × Mem} (h : d0.SameBoot x.1) :
    d0.SameBoot (Machine.migrationDone x).1 := by
  unfold Machine.migrationDone
  split
  · exact h
  · refine .ite_fst h ?_
    split
    · exact h.setRank.setRank.put.memBit.info.nextMigration
    · exact h

theorem Dev.SameBoot.throttleWrite {v : Word} (h : d0.SameBoot d) : d0.SameBoot (Machine.throttleWrite v d) :=
  .ite h.put h

theorem Dev.SameBoot.dramRefresh {ch rank bank : Nat} {postponed : Bool} (h : d0.SameBoot d) :
    d0.SameBoot (Machine.dramRefresh ch rank bank postponed d) :=
  .ite h h.setMctl

theorem Dev.SameBoot.tempRead {ch rank : Nat} {temps : List Int} (h : d0.SameBoot d) :
    d0.SameBoot (Machine.tempRead ch rank temps d) :=
  .ite h h.setMctl.put.put.memBit

theorem Dev.SameBoot.driftCheck {ch rank drift : Nat} (h : d0.SameBoot d) :
    d0.SameBoot (Machine.driftCheck ch rank drift d) :=
  .ite h h.bump

theorem Dev.SameBoot.retrainStep {ch rank : Nat} {ok : Bool} {x : Dev × Mem} (h : d0.SameBoot x.1) :
    d0.SameBoot (Machine.retrainStep ch rank ok x).1 := by
  unfold Machine.retrainStep
  dsimp only
  split
  · exact h
  · exact .ite_fst h (.ite_fst h.setMctl.bump.rankFault (.ite_fst h.setMctl h.setMctl.bump))

theorem Dev.SameBoot.patrolScrub {line : Nat} {r : EccRead} {x : Dev × Mem} (h : d0.SameBoot x.1) :
    d0.SameBoot (Machine.patrolScrub line r x).1 := by
  unfold Machine.patrolScrub
  dsimp only
  split
  · exact .ite_fst h h.eccRead
  · exact h

theorem Dev.SameBoot.fsRefresh (h : d0.SameBoot d) : d0.SameBoot (Machine.fsRefresh d) := h.setMctl

theorem Dev.SameBoot.fsReplace {bank row : Nat} (h : d0.SameBoot d) : d0.SameBoot (d.fsReplace bank row) :=
  .ite h.setMctl.put.put.info (.ite h.setMctl h.setMctl.put.setMctl.degraded)

theorem Dev.SameBoot.fsScrub {bank row ce ue : Nat} (h : d0.SameBoot d) :
    d0.SameBoot (Machine.fsScrub bank row ce ue d) :=
  .ite h (.ite h.bump.bump.setMctl.fsReplace h.bump.bump.setMctl)

/-! ### Touch, converter, pins and Ethernet output -/

theorem Dev.SameBoot.setTouch {p : Nat} {x : TouchSt} (h : d0.SameBoot d) : d0.SameBoot (d.setTouch p x) := h.withIo

theorem Dev.SameBoot.setCycle {c : Nat} {x : Cycle} (h : d0.SameBoot d) : d0.SameBoot (d.setCycle c x) := h.withIo

theorem Dev.SameBoot.showTouch {p : Nat} {es : List TouchEntry} (h : d0.SameBoot d) :
    d0.SameBoot (d.showTouch p es) :=
  h.put.foldl (fun _ _ k => k.setLatch.setLatch)

theorem Dev.SameBoot.touchValid {p : Nat} (h : d0.SameBoot d) : d0.SameBoot (d.touchValid p) :=
  .ite h.put h.put.setTouch.showTouch

theorem Dev.SameBoot.touchApply {p : Nat} (h : d0.SameBoot d) : d0.SameBoot (d.touchApply p) := .ite h.put h.setTouch

theorem Dev.SameBoot.touchOn {p : Nat} (h : d0.SameBoot d) : d0.SameBoot (d.touchOn p) := h.setTouch.put.touchValid

theorem Dev.SameBoot.touchOff {p : Nat} (h : d0.SameBoot d) : d0.SameBoot (d.touchOff p) :=
  h.setTouch.put.touchValid.foldl (fun _ _ k => k.succeed)

theorem Dev.SameBoot.touchCtrl {p : Nat} {v : Word} (h : d0.SameBoot d) : d0.SameBoot (Machine.touchCtrl p v d) :=
  .ite h (.share (fun l0 => .share (fun l1 => .share (fun l2 => .ite l2.touchOn (.ite l2.touchOff l2)) (.ite
    l1.put.touchApply l1.put)) (.ite l0 (.put (.ite (.put (.ite l0.put l0)) (.ite l0.put l0))))) h.put.put)

theorem Dev.SameBoot.touchEnable {p : Nat} {v : Word} (h : d0.SameBoot d) : d0.SameBoot (Machine.touchEnable p v d) :=
  .ite h.touchCtrl h

theorem Dev.SameBoot.touchDisable {p : Nat} {v : Word} (h : d0.SameBoot d) :
    d0.SameBoot (Machine.touchDisable p v d) :=
  .ite h.touchCtrl h

theorem Dev.SameBoot.touchApplyWrite {p : Nat} {v : Word} (h : d0.SameBoot d) :
    d0.SameBoot (Machine.touchApplyWrite p v d) :=
  .ite h.touchCtrl h

theorem Dev.SameBoot.touchBegin {p start j : Nat} {simmer : Bool} (h : d0.SameBoot d) :
    d0.SameBoot (d.touchBegin p start j simmer) :=
  h.setTouch

theorem Dev.SameBoot.touchScanStart {p : Nat} (h : d0.SameBoot d) : d0.SameBoot (Machine.touchScanStart p d) :=
  .ite h (.ite h (.ite h.setTouch.touchValid (.ite h.setTouch.put.touchBegin h.touchBegin)))

theorem Dev.SameBoot.touchProcessed {p : Nat} {raw : Grid} (h : d0.SameBoot d) :
    d0.SameBoot (Machine.touchProcessed p raw d) := by
  unfold Machine.touchProcessed
  dsimp only
  split
  · exact h
  · exact .ite h (.ite h.setTouch (.foldl (.bump (.ite h.setTouch.bump h.setTouch)) (fun _ _ k => k.bump.info)))

theorem Dev.SameBoot.touchSimmer {p : Nat} {sums : List Nat} (h : d0.SameBoot d) :
    d0.SameBoot (Machine.touchSimmer p sums d) := by
  unfold Machine.touchSimmer
  dsimp only
  split
  · exact h
  · refine .ite h ?_
    split <;> exact h.setTouch

theorem Dev.SameBoot.ccEnded {p : Nat} {es : List TouchEntry} (h : d0.SameBoot d) : d0.SameBoot (d.ccEnded p es) :=
  .ite h (h.foldl (fun _ _ k => .ite k.setCycle k))

theorem Dev.SameBoot.touchMove {p : Nat} (h : d0.SameBoot d) : d0.SameBoot (d.touchMove p) :=
  .ite (.ite h h.setTouch.put) (.ite (.ite h.setTouch (.ite h.setTouch.put h)) h)

theorem Dev.SameBoot.touchRelease {p : Nat} (h : d0.SameBoot d) : d0.SameBoot (Machine.touchRelease p d) := by
  unfold Machine.touchRelease
  dsimp only
  split
  · exact h
  · exact .ite h (.ite h.setTouch.bump.touchValid
      (h.setTouch.bumpWrap.put.showTouch.setReg.setLatch.ccEnded.touchMove.touchValid.foldl (fun _ _ k => k.succeed)))

theorem Dev.SameBoot.touchRebaseDue {p : Nat} (h : d0.SameBoot d) : d0.SameBoot (d.touchRebaseDue p) :=
  .ite h h.setTouch

theorem Dev.SameBoot.touchRebase {q seq : Nat} (h : d0.SameBoot d) : d0.SameBoot (Machine.touchRebase q seq d) :=
  h.onCmd (fun _ => h.withTail (.ite h.bad (.ite h.succeed (.ite h h.setTouch))))

theorem Dev.SameBoot.adcStart {w : Nat} {cycle : Option Nat} (h : d0.SameBoot d) :
    d0.SameBoot (d.adcStart w cycle) := by
  unfold Dev.adcStart
  refine .ite ?_ ?_
  · split
    · exact h.setCycle
    · exact h
  · split
    · refine .ite h.withIo ?_
      split
      · exact h.bump.setCycle
      · exact h.bump
    · exact h.withIo.put

theorem Dev.SameBoot.adcDone {samples : List (List Int)} (h : d0.SameBoot d) :
    d0.SameBoot (Machine.adcDone samples d) := by
  unfold Machine.adcDone
  split
  · exact h
  · exact .ite h (.foldl (h.withIo.put.setReg.setLatch.foldl (fun _ _ k => k.setLatch)) (fun _ _ k => k.setCycle))

theorem Dev.SameBoot.adcCtrl {v : Word} (h : d0.SameBoot d) : d0.SameBoot (Machine.adcCtrl v d) :=
  .ite h.setReg (.ite h.setReg.put h.setReg.withIo)

theorem Dev.SameBoot.adcApply {v : Word} (h : d0.SameBoot d) : d0.SameBoot (Machine.adcApply v d) := .ite h.adcCtrl h

theorem Dev.SameBoot.gpioAccept {n : Nat} {level : Bool} (h : d0.SameBoot d) : d0.SameBoot (d.gpioAccept n level) :=
  h.setReg.withIo

theorem Dev.SameBoot.gpioChange {n : Nat} {level : Bool} (h : d0.SameBoot d) :
    d0.SameBoot (Machine.gpioChange n level d) :=
  .ite h (.ite h.withIo.gpioAccept (.ite h.withIo.withIo h.withIo.withIo))

theorem Dev.SameBoot.gpioExpiry {n : Nat} (h : d0.SameBoot d) : d0.SameBoot (Machine.gpioExpiry n d) := by
  unfold Machine.gpioExpiry
  split
  · exact .ite h.gpioAccept h
  · exact h

theorem Dev.SameBoot.gpioOut {v : Word} (h : d0.SameBoot d) : d0.SameBoot (Machine.gpioOut v d) :=
  h.foldl (fun _ _ k => .ite k k.setReg.withIo.gpioAccept)

theorem Dev.SameBoot.ccLate {l : Launch} (h : d0.SameBoot d) : d0.SameBoot (d.ccLate l) := by
  unfold Dev.ccLate
  split
  · exact h
  · exact .setCycle (.ite h.bump.put h.bump.put.info)

theorem Dev.SameBoot.setLaunches {p : Nat} {ls : List Launch} (h : d0.SameBoot d) :
    d0.SameBoot (d.setLaunches p ls) :=
  h.withTime

theorem Dev.SameBoot.dropLate {n p : Nat} (h : d0.SameBoot d) : d0.SameBoot (Dev.dropLate n d p) := by
  induction n generalizing d with
  | zero => exact h
  | succ n ih =>
    unfold Dev.dropLate
    split
    · exact .ite h (ih h.setLaunches.bump.ccLate)
    · exact h

theorem Dev.SameBoot.launch {p : Nat} {l : Launch} (h : d0.SameBoot d) : d0.SameBoot (d.launch p l) :=
  .ite h.bump.ccLate (.ite h.setLaunches.dropLate h.setLaunches)

theorem Dev.SameBoot.launchSubmit {p at48 : Nat} {bytes : List Byte} {gated : Bool} (h : d0.SameBoot d) :
    d0.SameBoot (Machine.launchSubmit p at48 bytes gated d) :=
  .ite h h.launch

theorem Dev.SameBoot.leave {p : Nat} {l : Launch} (h : d0.SameBoot d) : d0.SameBoot (d.leave p l) := by
  unfold Dev.leave
  refine .ite ?_ (.ite ?_ ?_)
  · split
    · exact h.bump
    · exact h
  · split
    · exact h.bump
    · exact h
  · dsimp only
    split
    · exact .setCycle (.ite h.withTime.bump h.withTime.bump)
    · exact h.withTime

theorem Dev.SameBoot.launchReached {p : Nat} (h : d0.SameBoot d) : d0.SameBoot (Machine.launchReached p d) := by
  unfold Machine.launchReached
  split
  · exact .ite h h.setLaunches.leave.dropLate
  · exact h

theorem Dev.SameBoot.trigApply {u : Nat} {v : Word} (h : d0.SameBoot d) : d0.SameBoot (Machine.trigApply u v d) :=
  .ite h.trigWrite h

theorem Dev.SameBoot.ccCapture {c ts : Nat} (h : d0.SameBoot d) : d0.SameBoot (d.ccCapture c ts) :=
  h.setCycle.setReg.setLatch.adcStart

theorem Dev.SameBoot.triggerEvent {u : Nat} (h : d0.SameBoot d) : d0.SameBoot (Machine.triggerEvent u d) :=
  .ite h (.share (fun l0 => .ite l0.adcStart l0) (h.setTrig.bumpWrap.foldl (fun _ _ k => .ite k.ccCapture k)))

theorem Dev.SameBoot.frameBuilt {c : Nat} (h : d0.SameBoot d) : d0.SameBoot (Machine.frameBuilt c d) := by
  unfold Machine.frameBuilt
  dsimp only
  split
  · exact h
  · exact .ite h (.ite h.setCycle.put.launch.launch h.setCycle.put.launch)

theorem Dev.SameBoot.ccSetupBlock {q seq : Nat} {b : List Byte} (h : d0.SameBoot d) :
    d0.SameBoot (Machine.ccSetupBlock q seq b d) := by
  unfold Machine.ccSetupBlock
  refine .ite h.reject (.ite h.finish ?_)
  split
  · exact h.finish
  · exact .ite h.reject (.ite h.reject (.ite h.reject
      h.setReg.setReg.setReg.setReg.setTrig.setCycle.setReg.setReg.setReg.setReg.setLatch.succeed))

theorem Dev.SameBoot.ccSetup {q seq : Nat} (h : d0.SameBoot d) : d0.SameBoot (Machine.ccSetup q seq d) :=
  h.onCmd (fun _ => h.withTail (h.withHost (fun _ => h.ccSetupBlock)))

theorem Dev.SameBoot.ccStop {q seq : Nat} (h : d0.SameBoot d) : d0.SameBoot (Machine.ccStop q seq d) :=
  h.onCmd (fun _ => h.withTail (.ite h.bad (.ite h.succeed h.setTrig.put.setCycle.put.succeed)))

/-! ### Pair and interlock -/

theorem Dev.SameBoot.ilShow (h : d0.SameBoot d) : d0.SameBoot d.ilShow := h.put.put

theorem Dev.SameBoot.setClaim {on : Bool} (h : d0.SameBoot d) : d0.SameBoot (d.setClaim on) := h.put.setPair.ilShow

theorem Dev.SameBoot.planClaim {from' : Nat} {planned : Bool} {why : Nat} (h : d0.SameBoot d) :
    d0.SameBoot (d.planClaim from' planned why) :=
  .ite h h.setPair

theorem Dev.SameBoot.seek {barred : Bool} (h : d0.SameBoot d) : d0.SameBoot (d.seek barred) := h.put.put.setPair

theorem Dev.SameBoot.pairFault {cause : Nat} (h : d0.SameBoot d) : d0.SameBoot (d.pairFault cause) :=
  .ite h h.setClaim.put.put.put.setPair.wtrBit.info

theorem Dev.SameBoot.ackAlone (h : d0.SameBoot d) : d0.SameBoot d.ackAlone :=
  h.put.foldl (fun _ _ k => k.setCmds.flushQueue)

theorem Dev.SameBoot.syncBit (h : d0.SameBoot d) : d0.SameBoot d.syncBit := .ite h (.ite h.put (.ite h.ackAlone h))

theorem Dev.SameBoot.takeOver (h : d0.SameBoot d) : d0.SameBoot d.takeOver :=
  .ite h (.share (fun l0 => .share (fun l1 => .ite l1 (.ite l1.bump.info l1.bump.info)) (.foldl (.ackAlone (.ite
    l0.wtrBit (l0.wtrBit.foldl (fun _ _ k1 => .ite k1.touchRebaseDue k1)))) (fun _ _ k1 => k1.flushQueue)))
    h.put.put.put.put.setPair)

theorem Dev.SameBoot.levelChange {il1 il2 : Nat} (h : d0.SameBoot d) : d0.SameBoot (Machine.levelChange il1 il2 d) :=
  .ite h (.share (fun l0 => .ite l0 (.ite l0.setPair.takeOver (.ite (.ite l0.setPair (.ite l0.setClaim.ackAlone.seek
    l0.setClaim.setPair)) l0.setPair))) (.ilShow (.ite h.setPair h.setPair.setPair)))

theorem Dev.SameBoot.contentionTimeout (h : d0.SameBoot d) : d0.SameBoot (Machine.contentionTimeout d) := by
  unfold Machine.contentionTimeout
  split
  · exact .ite h.pairFault h
  · exact h

theorem Dev.SameBoot.interlockFault (h : d0.SameBoot d) : d0.SameBoot (Machine.interlockFault d) := .ite h h.pairFault

theorem Dev.SameBoot.releaseDue (h : d0.SameBoot d) : d0.SameBoot d.releaseDue := by
  unfold Dev.releaseDue
  split
  · exact .ite h (.ite h.setClaim.setPair.enterStandby h.setClaim.setPair)
  · exact h

theorem Dev.SameBoot.claimDue (h : d0.SameBoot d) : d0.SameBoot d.claimDue := by
  unfold Dev.claimDue
  split
  · exact .ite h (.ite h.setClaim.setPair (.setPair (.ite h.put h)))
  · exact h

theorem Dev.SameBoot.handoverInstant (h : d0.SameBoot d) : d0.SameBoot (Machine.handoverInstant d) :=
  .ite h.releaseDue.claimDue.takeOver h.releaseDue.claimDue

theorem Dev.SameBoot.retryTimeout (h : d0.SameBoot d) : d0.SameBoot (Machine.retryTimeout d) := by
  unfold Machine.retryTimeout
  split
  · exact .ite h.pairFault h
  · exact h

theorem Dev.SameBoot.pairRun (h : d0.SameBoot d) : d0.SameBoot d.pairRun := .ite h (.ite h.seek h.put.planClaim)

theorem Dev.SameBoot.seekTimeout (h : d0.SameBoot d) : d0.SameBoot (Machine.seekTimeout d) :=
  .ite h (.ite h.planClaim (.ite h.put h))

theorem Dev.SameBoot.heartbeatSend {wire : Bool} (h : d0.SameBoot d) : d0.SameBoot (Machine.heartbeatSend wire d) :=
  .ite h (.share (fun l0 => .ite l0 (.ite l0.setPair l0.setPair.routeEnv)) (.ite h.setPair.mirror h))

theorem Dev.SameBoot.pathHeard {wire : Bool} (h : d0.SameBoot d) : d0.SameBoot (d.pathHeard wire) :=
  .share (fun l0 => .ite (.info (.put (.ite l0.put.info l0))) (.ite l0.put.info l0)) (.put (.ite h.setPair h.setPair))

theorem Dev.SameBoot.heed {b : Heartbeat} (h : d0.SameBoot d) : d0.SameBoot (d.heed b) :=
  .share (fun l0 => .ite l0.pairFault (.ite l0.put.setPair.reply (.ite (.ite l0.planClaim (.ite l0.planClaim (.ite
    l0.planClaim l0))) l0.syncBit))) h.put.put.put.put.setPair

theorem Dev.SameBoot.heartbeatReceived {b : Heartbeat} (h : d0.SameBoot d) :
    d0.SameBoot (Machine.heartbeatReceived b d) :=
  .ite h.takeInbox h.takeInbox.pathHeard.heed

theorem Dev.SameBoot.wireReceived {frame : List Byte} (h : d0.SameBoot d) :
    d0.SameBoot (Machine.wireReceived frame d) :=
  .ite h (.ite h.bump h.pathHeard.heed)

theorem Dev.SameBoot.pathSilent {wire : Bool} (h : d0.SameBoot d) : d0.SameBoot (Machine.pathSilent wire d) := by
  unfold Machine.pathSilent
  dsimp only
  split
  · exact .ite h (.ite h.put.put.info (.ite h.put.put.info.planClaim h.put.put.info.syncBit))
  · exact .ite h (.info (.put (.ite h.setPair h.setPair)))

theorem Dev.SameBoot.wtrExpiry (h : d0.SameBoot d) : d0.SameBoot (Machine.wtrExpiry d) := by
  unfold Machine.wtrExpiry
  split
  · exact .ite h h.setPair.reply.wtrBit
  · exact h

theorem Dev.SameBoot.pairCtrl {v : Word} (h : d0.SameBoot d) : d0.SameBoot (Machine.pairCtrl v d) :=
  .ite h.setReg (.ite h.setReg.put h.setReg.setPair.wtrBit)

theorem Dev.SameBoot.pairApply {v : Word} (h : d0.SameBoot d) : d0.SameBoot (Machine.pairApply v d) :=
  .ite h.pairCtrl h

theorem Dev.SameBoot.cmdErr {code : Nat} {f : Dev → Dev} (h : d0.SameBoot d)
    (hf : ∀ e, d0.SameBoot e → d0.SameBoot (f e)) : d0.SameBoot (d.cmdErr code f) := .ite (hf _ h.put) h.put

theorem Dev.SameBoot.switchover (h : d0.SameBoot d) : d0.SameBoot (Machine.switchover d) :=
  h.cmdErr (fun _ k => k.planRelease)

theorem Dev.SameBoot.takeover {force : Bool} (h : d0.SameBoot d) : d0.SameBoot (Machine.takeover force d) :=
  h.cmdErr (fun _ k => k.setPair.planClaim)

theorem Dev.SameBoot.pairClearCmd (h : d0.SameBoot d) : d0.SameBoot (Machine.pairClearCmd d) :=
  h.cmdErr (fun _ k => k.put.seek)

theorem Dev.SameBoot.pairCmd {v : Word} (h : d0.SameBoot d) : d0.SameBoot (Machine.pairCmd v d) :=
  .ite h.switchover (.ite h.takeover (.ite h.pairClearCmd h))

theorem Dev.SameBoot.pairSwitchover {v : Word} (h : d0.SameBoot d) : d0.SameBoot (Machine.pairSwitchover v d) :=
  .ite h.pairCmd h

theorem Dev.SameBoot.pairTakeover {v : Word} (h : d0.SameBoot d) : d0.SameBoot (Machine.pairTakeover v d) :=
  .ite h.pairCmd h

theorem Dev.SameBoot.pairClear {v : Word} (h : d0.SameBoot d) : d0.SameBoot (Machine.pairClear v d) :=
  .ite h.pairCmd h

/-! ### Errors and fault paths -/

theorem Dev.SameBoot.touchClockLost {p : Nat} (h : d0.SameBoot d) : d0.SameBoot (d.touchClockLost p) :=
  .touchValid (.ite h.setTouch h)

theorem Dev.SameBoot.adcClockLost (h : d0.SameBoot d) : d0.SameBoot d.adcClockLost :=
  h.withIo.put.foldl (fun _ _ k => k.setCycle)

theorem Dev.SameBoot.watchdog {core : Nat} (h : d0.SameBoot d) : d0.SameBoot (Machine.watchdog core d) :=
  .ite h (.ite h.withErr.bump.contained.put.fatal h.withErr.bump.contained.put)

theorem Dev.SameBoot.coreRestarted {core : Nat} (h : d0.SameBoot d) : d0.SameBoot (Machine.coreRestarted core d) :=
  .ite h h.put

theorem Dev.SameBoot.engineParity {k : Nat} (h : d0.SameBoot d) : d0.SameBoot (Machine.engineParity k d) :=
  .ite h (.share (fun l0 => .ite l0.fatal l0) (h.withLay.degraded.foldl (fun _ _ k => k.groupRegs)))

theorem Dev.SameBoot.fabricFault {journalOk : Bool} (h : d0.SameBoot d) :
    d0.SameBoot (Machine.fabricFault journalOk d) :=
  .ite h.contained.fatal h.contained.setCommits.withErr

theorem Dev.SameBoot.restoreJournal (h : d0.SameBoot d) : d0.SameBoot d.restoreJournal :=
  .foldl (.foldl (.foldl (h.foldl (fun _ _ k => k.setShadow)) (fun _ _ k => k.setShadow)) (fun _ _ k =>
    k.setReg.setReg.setReg.setReg.setReg.setReg.setReg)) (fun _ _ k => k.setReg.setReg.setReg.foldl (fun _ _ k1 =>
    k1.setReg))

theorem Dev.SameBoot.headResumes {hd : Nat} (h : d0.SameBoot d) : d0.SameBoot (d.headResumes hd) :=
  .ite (.modeLinkReady (.ite h.setHead.modeBoundary h)) (.ite h (.setHead (h.foldl (fun _ _ k => k.frameEnd))))

/-! ### Fabric links -/

theorem Dev.SameBoot.paentId {v : Word} (h : d0.SameBoot d) : d0.SameBoot (Machine.paentId v d) :=
  .ite h h.setReg.put.withSys.put

theorem Dev.SameBoot.resendAll {p : Nat} (h : d0.SameBoot d) : d0.SameBoot (d.resendAll p) := by
  unfold Dev.resendAll
  dsimp only
  split
  · exact h
  · exact .ite h.bump.corrected.setLink.attempt h.bump.corrected.setLink

theorem Dev.SameBoot.takeAck {p ack : Nat} (h : d0.SameBoot d) : d0.SameBoot (d.takeAck p ack) := .ite h.setLink h

theorem Dev.SameBoot.nak {p : Nat} (h : d0.SameBoot d) : d0.SameBoot (d.nak p) := .ite h h.setLink

theorem Dev.SameBoot.flitReceived {p : Nat} {flit : List Byte} (h : d0.SameBoot d) :
    d0.SameBoot (Machine.flitReceived p flit d) :=
  .ite h (.ite h.bump.nak (.share (fun l0 => .ite l0 (.ite l0.nak l0.setLink)) (.ite h.setLanes.takeAck.resendAll
    h.setLanes.takeAck)))

theorem Dev.SameBoot.replayTimeout {p : Nat} (h : d0.SameBoot d) : d0.SameBoot (Machine.replayTimeout p d) :=
  .ite h h.resendAll

theorem Dev.SameBoot.endSend {id : Nat} (h : d0.SameBoot d) : d0.SameBoot (d.endSend id) := by
  unfold Dev.endSend
  split
  · exact h
  · dsimp only
    split
    · exact .ite h.updSend.dropLease.beginSend h.updSend.dropLease
    · exact h.updSend.dropLease

theorem Dev.SameBoot.feedSends {p : Nat} {x : Dev × Mem} (h : d0.SameBoot x.1) :
    d0.SameBoot (Machine.feedSends p x) := by
  unfold Machine.feedSends
  refine h.foldl (fun _ _ k => ?_)
  split
  · exact .ite k k.endSend
  · exact k.updSend.routeEnv

theorem Dev.SameBoot.emit {p : Nat} {data : Option (List Byte)} (h : d0.SameBoot d) :
    d0.SameBoot (d.emit p data) := by
  unfold Dev.emit
  dsimp only
  split
  · exact h.setLink
  · exact h.setLink

theorem Dev.SameBoot.emitNext {p : Nat} {o : OutEnv} {rest : List (List Byte)} (h : d0.SameBoot d) :
    d0.SameBoot (d.emitNext p o rest) := by
  unfold Dev.emitNext
  split
  · exact h
  · refine .ite h.emit ?_
    dsimp only
    split
    · exact h.setLink.emit.freeBuffer.endSend
    · exact h.setLink.emit.freeBuffer

theorem Dev.SameBoot.flitSend {p pick : Nat} {x : Dev × Mem} (h : d0.SameBoot x.1) :
    d0.SameBoot (Machine.flitSend p pick x).1 := by
  suffices d0.SameBootPair (Machine.flitSend p pick x) from this
  unfold Machine.flitSend
  refine .ite h ?_
  extract_lets +onlyGivenNames l e
  have he : d0.SameBoot e := h.setLink
  clear_value e l
  split
  · split
    · exact he.setLink
    · exact he.setLink.emit
  · refine .ite he.emit ?_
    split
    · exact he.emitNext
    · refine .ite he.emit ?_
      extract_lets +onlyGivenNames g k
      have hg : d0.SameBoot g := Dev.SameBoot.feedSends (x := (e, x.2)) he
      clear_value g k
      split
      · exact hg.emit
      · dsimp only
        split
        · exact hg.emit
        · exact hg.setLink.emitNext

theorem Dev.SameBoot.envelopeReceived {p : Nat} (h : d0.SameBoot d) : d0.SameBoot (Machine.envelopeReceived p d) := by
  unfold Machine.envelopeReceived
  dsimp only
  split
  · exact h
  · exact .ite h.setLink.freeBuffer.bump (.ite h.setLink.freeBuffer.bump h.setLink.routeEnv)

theorem Dev.SameBoot.shedRecv {r : Nat} (h : d0.SameBoot d) : d0.SameBoot (d.shedRecv r) := .ite h h.put.setReg

theorem Dev.SameBoot.setRoutes {rs : List (Nat × Nat × Nat)} (h : d0.SameBoot d) : d0.SameBoot (d.setRoutes rs) :=
  h.foldl (fun _ _ k => .ite k.setReg k)

theorem Dev.SameBoot.setMcasts {gs : List (Nat × McastEntry)} (h : d0.SameBoot d) : d0.SameBoot (d.setMcasts gs) :=
  h.foldl (fun _ _ k => .ite k.setReg k)

theorem Dev.SameBoot.requeue (h : d0.SameBoot d) : d0.SameBoot d.requeue :=
  h.foldl (fun _ _ k => k.setLink.foldl (fun _ _ k1 => .ite k1.enqueue k1.routeEnv))

theorem Dev.SameBoot.routeRecompute {ls : List PaentLink} {groups : List McastGroup} {resv : List Resv}
    (h : d0.SameBoot d) :
    d0.SameBoot (Machine.routeRecompute ls groups resv d) :=
  .ite h (.requeue (.withSys (.foldl (.foldl (.foldl (.setMcasts (.setRoutes (h.foldl (fun _ _ k => .ite k.setReg
    k)))) (fun _ _ k => .ite k.shedRecv k.send)) (fun _ _ k => k.setReg)) (fun _ _ k => .ite k k.send))))

theorem Dev.SameBoot.routeInstall {r : RouteSet} (h : d0.SameBoot d) : d0.SameBoot (Machine.routeInstall r d) := by
  unfold Machine.routeInstall
  refine .requeue (.withSys (.foldl (h.takeInbox.setRoutes.setMcasts.foldl (fun _ _ k => ?_)) (fun _ _ k =>
    k.shedRecv)))
  split
  · exact k.setReg
  · exact k

theorem Dev.SameBoot.vc1HoldEnd {confirmed : Bool} (h : d0.SameBoot d) :
    d0.SameBoot (Machine.vc1HoldEnd confirmed d) := by
  unfold Machine.vc1HoldEnd
  split
  · exact .ite h.withSys h
  · exact h

theorem Dev.SameBoot.setRecv {r : Nat} {x : Recv} (h : d0.SameBoot d) : d0.SameBoot (d.setRecv r x) := h.withSys

theorem Dev.SameBoot.dropRx {r : Nat} {x : Recv} {k : RxPic} {count : FldDesc} (h : d0.SameBoot d) :
    d0.SameBoot (d.dropRx r x k count) :=
  h.setRecv.bump

theorem Dev.SameBoot.rxDone {r : Nat} {x : Recv} {k : RxPic} (h : d0.SameBoot d) : d0.SameBoot (d.rxDone r x k) :=
  h.setRecv.bump.setReg.canvasPicture

theorem Dev.SameBoot.pictureEnvelope {x : Dev × Mem} (h : d0.SameBoot x.1) :
    d0.SameBoot (Machine.pictureEnvelope x).1 := by
  suffices d0.SameBootPair (Machine.pictureEnvelope x) from this
  unfold Machine.pictureEnvelope
  extract_lets +onlyGivenNames d
  split
  · exact h
  extract_lets +onlyGivenNames e d
  have hd : d0.SameBoot d := h.takeInbox
  clear_value d
  split
  · exact hd
  next r v _ =>
  refine .ite hd ?_
  extract_lets +onlyGivenNames first last pic off locked step
  have hstep : ∀ {a v k}, d0.SameBoot a → d0.SameBootPair (step a v k) := fun ha =>
    Dev.SameBoot.ite ha.rxDone ha.setRecv
  clear_value step
  refine .ite ?_ ?_
  · extract_lets +onlyGivenNames g v'
    have hg : d0.SameBoot g := by
      change d0.SameBoot (match v.rx with | some k => _ | none => d)
      split
      · exact hd.dropRx
      · exact hd
    clear_value g v'
    refine .ite hg.bump ?_
    extract_lets +onlyGivenNames full g'
    have hg' : d0.SameBoot g' := hg.makeRoom
    clear_value g'
    dsimp only
    split
    · exact hg'.bump
    · exact hstep hg'
  · split
    · exact hd
    · exact .ite hd.dropRx (.ite hd.dropRx (hstep hd))

theorem Dev.SameBoot.remoteSetup {q seq : Nat} {src : RemoteSource} (h : d0.SameBoot d) :
    d0.SameBoot (Machine.remoteSetup q seq src d) := by
  unfold Machine.remoteSetup
  refine h.onCmd (fun _ => h.withTail (?_))
  dsimp only
  split
  · exact h.reject
  · refine .ite h.reject ?_
    split
    · exact h.finish
    · refine .ite h.finish ?_
      split
      · exact h.reject
      · exact .ite h.reject (.ite h.reject (.ite h.refuse (.succeed (.send (h.setRecv.setReg.setReg.setReg.foldl (fun
          _ _ k => k.setReg))))))

theorem Dev.SameBoot.remoteClear {q seq : Nat} (h : d0.SameBoot d) : d0.SameBoot (Machine.remoteClear q seq d) := by
  unfold Machine.remoteClear
  refine h.onCmd (fun _ => h.withTail (.ite h.bad ?_))
  split
  · exact h.succeed
  · exact .succeed (.send (.setReg (.setReg (.setReg (.ite h.withSys h.setRecv)))))

theorem Dev.SameBoot.managerLost (h : d0.SameBoot d) : d0.SameBoot d.managerLost :=
  h.withLay.foldl (fun _ _ k => k.foldl (fun _ _ k1 => k1.finish))

theorem Dev.SameBoot.setManager {m : Option Nat} (h : d0.SameBoot d) : d0.SameBoot (d.setManager m) :=
  .ite h (.info (.managerLost (h.withSys.put.put.foldl (fun _ _ k => .ite k.endRun.finish k.endRun))))

theorem Dev.SameBoot.countModules (h : d0.SameBoot d) : d0.SameBoot d.countModules := h.put

theorem Dev.SameBoot.announceTimer (h : d0.SameBoot d) : d0.SameBoot (Machine.announceTimer d) :=
  .ite h (.countModules (.withSys (h.withSys.foldl (fun _ _ k => .ite k.enqueue k))))

theorem Dev.SameBoot.announceReceived {p : Nat} {a : Announce} (h : d0.SameBoot d) :
    d0.SameBoot (Machine.announceReceived p a d) := by
  unfold Machine.announceReceived
  refine .ite h.takeInbox (.ite (.ite h.takeInbox (h.takeInbox.put.info.foldl (fun _ _ k => .ite k.leaveRouting k)))
    (.ite h.takeInbox (.ite ?_ (.ite (.withSys (.countModules (h.takeInbox.withSys.foldl (fun _ _ k => .ite k.enqueue
    k)))) (.countModules (h.takeInbox.withSys.foldl (fun _ _ k => .ite k.enqueue k)))))))
  split
  · exact .setManager (.ite (.withSys (.countModules (h.takeInbox.withSys.foldl (fun _ _ k => .ite k.enqueue k))))
      (.countModules (h.takeInbox.withSys.foldl (fun _ _ k => .ite k.enqueue k))))
  · exact .ite (.setManager (.ite (.withSys (.countModules (h.takeInbox.withSys.foldl (fun _ _ k => .ite k.enqueue
      k)))) (.countModules (h.takeInbox.withSys.foldl (fun _ _ k => .ite k.enqueue k))))) (.ite (.withSys
      (.countModules (h.takeInbox.withSys.foldl (fun _ _ k => .ite k.enqueue k)))) (.countModules
      (h.takeInbox.withSys.foldl (fun _ _ k => .ite k.enqueue k))))

theorem Dev.SameBoot.electionTimer (h : d0.SameBoot d) : d0.SameBoot (Machine.electionTimer d) := by
  unfold Machine.electionTimer
  split
  · exact .ite h.setManager h
  · exact h

theorem Dev.SameBoot.managerSilence (h : d0.SameBoot d) : d0.SameBoot (Machine.managerSilence d) := by
  unfold Machine.managerSilence
  split
  · split
    · exact .ite (.share (fun l0 => .setManager (.countModules (.ite l0.put.info l0))) h.withSys.withSys.withSys) h
    · exact h
  · exact h

theorem Dev.SameBoot.timeExchange {p : Nat} (h : d0.SameBoot d) : d0.SameBoot (Machine.timeExchange p d) :=
  .ite h h.enqueue

theorem Dev.SameBoot.timeEnvelope {p : Nat} {t1 t2 t3 t4 : Int} (h : d0.SameBoot d) :
    d0.SameBoot (Machine.timeEnvelope p t1 t2 t3 t4 d) :=
  .ite h.takeInbox h.takeInbox.setLink.setReg.setReg.syncCheck

theorem Dev.SameBoot.timeReport {rs : List (Nat × Option Int)} (h : d0.SameBoot d) :
    d0.SameBoot (Machine.timeReport rs d) := by
  unfold Machine.timeReport
  refine h.foldl (fun _ _ k => .ite k.withSys (.ite ?_ (.info (.put ?_))))
  · split
    · exact k.withSys.setReg
    · exact k.withSys
  · split
    · exact k.withSys.setReg
    · exact k.withSys

/-! ### Access checkers -/

theorem Dev.SameBoot.takeLocks {k : Nat} (h : d0.SameBoot d) : d0.SameBoot (d.takeLocks k) := h.withProt

theorem Dev.SameBoot.debugRespond {r : Response} (h : d0.SameBoot d) : d0.SameBoot (d.debugRespond r) := h.withProt

theorem Dev.SameBoot.debugNow {write : Bool} {pa : Nat} {bytes : List Byte} {len : Nat} {x : Dev × Mem}
    (h : d0.SameBoot x.1) :
    d0.SameBoot (Machine.debugNow write pa bytes len x).1 :=
  .ite_fst h.checkedWrite.debugRespond h.checkedRead.debugRespond

theorem Dev.SameBoot.debugAccess {write : Bool} {pa len : Nat} {bytes : List Byte} {authed : Bool} {x : Dev × Mem} (h
    : d0.SameBoot x.1) : d0.SameBoot (Machine.debugAccess write pa len bytes authed x).1 :=
  .ite_fst h.debugRespond (.ite_fst h.debugRespond.waitAt h.debugNow)

theorem Dev.SameBoot.updateEnter {k : Nat} {v : Word} (h : d0.SameBoot d) : d0.SameBoot (Machine.updateEnter k v d) :=
  .ite h h.put.put.put

theorem Dev.SameBoot.runWaiting {l : List WaitAccess} {x : Dev × Mem} (h : d0.SameBoot x.1) :
    d0.SameBoot (Machine.runWaiting l x).1 := by
  induction l generalizing x with
  | nil => exact h
  | cons a r ih =>
    cases a with
    | bar2Read => exact ih h.bar2ReadNow
    | bar2Write => exact ih h.bar2WriteNow
    | debug => exact ih h.debugNow
    | cmd => exact ih h

theorem Dev.SameBoot.releaseWaiting {k : Nat} {x : Dev × Mem} (h : d0.SameBoot x.1) :
    d0.SameBoot (Machine.releaseWaiting k x).1 :=
  .runWaiting (h.withProt)

theorem Dev.SameBoot.exitFail {k cause a b : Nat} (h : d0.SameBoot d) : d0.SameBoot (d.exitFail k cause a b) :=
  h.put.put.put.put.info

theorem Dev.SameBoot.exitPass {k : Nat} (h : d0.SameBoot d) : d0.SameBoot (d.exitPass k) :=
  .share (fun l0 => .ite l0.put l0) h.put.put.takeLocks.put.put

theorem Dev.SameBoot.updateExit {k : Nat} {v : Word} {x : Dev × Mem} (h : d0.SameBoot x.1) :
    d0.SameBoot (Machine.updateExit k v x).1 := by
  suffices d0.SameBootPair (Machine.updateExit k v x) from this
  unfold Machine.updateExit
  refine .ite h ?_
  extract_lets e
  have he : d0.SameBoot e := h.put.put
  clear_value e
  refine .ite he ?_
  generalize e.rangeFault k = o
  generalize e.overlapFault k = p
  cases o with
  | some r => exact he.exitFail
  | none =>
    cases p with
    | some r => exact he.exitFail
    | none => exact .releaseWaiting he.exitPass

theorem Dev.SameBoot.failClosed {k : Nat} {a : WaitAccess} (h : d0.SameBoot d) : d0.SameBoot (d.failClosed k a) := by
  unfold Dev.failClosed
  split
  · exact h.checkerFault.respond
  · exact h.checkerFault
  · exact h.checkerFault.debugRespond
  · exact h.checkerFault.feedFailed.finish

theorem Dev.SameBoot.closedTimeout {k : Nat} (h : d0.SameBoot d) : d0.SameBoot (Machine.closedTimeout k d) := by
  unfold Machine.closedTimeout
  split
  · exact .ite h.withProt.failClosed h
  · exact h

theorem Dev.SameBoot.regionWrite {k r reg : Nat} {v : Word} (h : d0.SameBoot d) :
    d0.SameBoot (Machine.regionWrite k r reg v d) := by
  unfold Machine.regionWrite
  refine .ite h (.ite h.info (.ite h ?_))
  split
  · exact h.setReg
  · exact h.setReg
  · exact h.setReg
  · exact h

/-! ### Register accesses -/

theorem Dev.SameBoot.latchOn {r : RegDesc} {i : Nat} (h : d0.SameBoot d) : d0.SameBoot (d.latchOn r i) :=
  .ite h.setReg (.ite h.setReg (.ite h.setReg (.ite (h.setReg.foldl (fun _ _ k => k.setReg)) (.ite (h.setReg.foldl
    (fun _ _ k => k.setReg)) (.ite h.setReg (.ite h.setReg (.ite h.setReg (.ite h.setReg h))))))))

theorem Dev.SameBoot.readAt {off : Nat} (h : d0.SameBoot d) : d0.SameBoot (d.readAt off).1 := by
  unfold Dev.readAt
  refine .ite_fst h ?_
  split
  · exact h
  · exact .ite_fst h.capRead h.latchOn

theorem Dev.SameBoot.hostRead {off size : Nat} (h : d0.SameBoot d) : d0.SameBoot (Machine.hostRead off size d) :=
  .ite h (.ite h.respond (.ite h.respond h.readAt.respond))

theorem Dev.SameBoot.plainWrite {row : RegRow} {i j : Nat} {v : Word} (h : d0.SameBoot d) :
    d0.SameBoot (d.plainWrite row i j v) :=
  .ite h (.ite h.put (.ite (.ite h.put.put h) (.ite h.setReg h.setReg)))

theorem Dev.SameBoot.faultClear {r : RegDesc} {key i : Nat} {v : Word} (h : d0.SameBoot d) :
    d0.SameBoot (d.faultClear r key i v) :=
  h.setReg.setLatch.withProt

theorem Dev.SameBoot.adcStatus {v : Word} (h : d0.SameBoot d) : d0.SameBoot (d.adcStatus v) :=
  .ite (.put (.ite h.put h)) (.ite h.put h)

theorem Dev.SameBoot.regWrite {row : RegRow} {i j : Nat} {v : Word} (h : d0.SameBoot d) :
    d0.SameBoot (d.regWrite row i j v) :=
  .ite h.bar2OffsetWrite (.ite (.ite h.queueEnable h.queueDisable) (.ite h.sqDoorbell (.ite h.cqDoorbell (.ite
    h.fenceWrite (.ite h.timeSnap (.ite (.ite h.tb3Rate h) (.ite h.tb3Apply (.ite h.ppsCtrl (.ite h.trigWrite (.ite
    h.refselApply (.ite h.refCfgApply (.ite h.ethCtrl (.ite h.flowApply (.ite h.outFmtWrite (.ite (.ite
    h.dpCtrlApply h.setReg) (.ite h.touchCtrl (.ite h.adcCtrl (.ite h.adcStatus (.ite h.gpioOut (.ite h.paentId
    (.ite h.plnCtrl (.ite h.laneCtrl (.ite h.pairCtrl (.ite h.pairCmd (.ite h.throttleWrite (.ite h.faultClear (.ite
    h.faultClear (.ite h.regionWrite (.ite h.regionWrite (.ite h.regionWrite (.ite h.crcCtrl (.ite h.crcData (.ite
    h.crcData (.ite h.crcData h.plainWrite))))))))))))))))))))))))))))))))))

theorem Dev.SameBoot.writeAt {off : Nat} {v : Word} {x : Dev × Mem} (h : d0.SameBoot x.1) :
    d0.SameBoot (Machine.writeAt off v x).1 := by
  unfold Machine.writeAt
  split
  · exact h.info
  · exact .ite_fst (.ite_fst h.updateEnter h.updateExit) h.regWrite

theorem Dev.SameBoot.hostWrite {off size : Nat} {v : Word} {x : Dev × Mem} (h : d0.SameBoot x.1) :
    d0.SameBoot (Machine.hostWrite off size v x).1 := by
  suffices d0.SameBootPair (Machine.hostWrite off size v x) from this
  obtain ⟨d, m⟩ := x
  unfold Machine.hostWrite
  refine .ite h (.ite h.respond (.ite h (.ite h.respond (.ite ?_ h.writeAt))))
  have hw : d0.SameBoot (Machine.writeAt off v (d, m)).1 := Dev.SameBoot.writeAt (x := (d, m)) h
  have he := Dev.SameBoot.hostEffect (off := off) (v := v) (f := fun d => (Machine.writeAt off v (d, m)).1) (d := d) h hw
  exact he

theorem Dev.SameBoot.readBlock {n off : Nat} {vs : List Nat} (h : d0.SameBoot d) :
    d0.SameBoot (Machine.readBlock n off d vs).1 := by
  induction n generalizing off d vs with
  | zero => exact h
  | succ n ih => exact .ite_fst h (ih h.readAt)

theorem Dev.SameBoot.regReadBlock {q seq : Nat} (h : d0.SameBoot d) : d0.SameBoot (Machine.regReadBlock q seq d) :=
  h.onCmd (fun _ => .ite h.finish (.ite h.finish (h.withTail (.ite h.succeed (.ite h.finish (.ite
    h.readBlock.hostPut.finish h.readBlock.hostPut.succeed))))))

theorem Dev.SameBoot.writeBatch {q seq n done : Nat} {bs : List Byte} {x : Dev × Mem} (h : d0.SameBoot x.1) :
    d0.SameBoot (Machine.writeBatch q seq bs n done x).1 := by
  induction n generalizing bs done x with
  | zero => exact h.succeed
  | succ n ih => exact .ite_fst h.finish (.ite_fst (ih h) (.ite_fst h.finish (ih h.writeAt)))

theorem Dev.SameBoot.regWriteBatch {q seq : Nat} {x : Dev × Mem} (h : d0.SameBoot x.1) :
    d0.SameBoot (Machine.regWriteBatch q seq x).1 := by
  unfold Machine.regWriteBatch
  refine h.onCmdMem (fun _ => .ite_fst (h.withTail h) (.ite_fst h.succeed ?_))
  split
  · exact .writeBatch h
  · exact h.withHost (fun _ => h)

/-! ### Mirror -/

theorem Dev.SameBoot.sendSnapshot (h : d0.SameBoot d) : d0.SameBoot d.sendSnapshot := h.foldl (fun _ _ k => k.setPair)

theorem Dev.SameBoot.asCommand {opcode : Nat} {param : List Byte} {f : Nat → Nat → Dev → Dev} (h : d0.SameBoot d)
    (hf : ∀ e, d0.SameBoot e → d0.SameBoot (f snapQ 0 e)) : d0.SameBoot (d.asCommand opcode param f) :=
  (hf _ h.setCmds).setCmds

theorem Dev.SameBoot.takeParams {opcode : Nat} {param : List Byte} (h : d0.SameBoot d) :
    d0.SameBoot (d.takeParams opcode param) :=
  .share (fun l0 => .ite l0 (.ite (.asCommand (l0.asCommand (fun _ k => k.streamClose)) (fun _ k => k.streamOpen))
    (.ite (l0.asCommand (fun _ k => k.decodeSetup)) l0))) h.setPair

theorem Dev.SameBoot.takeReception {r : Reception} (h : d0.SameBoot d) : d0.SameBoot (d.takeReception r) := by
  unfold Dev.takeReception
  dsimp only
  split
  · exact .ite h.setPair h.setPair.setRecv
  · exact h.setPair.setRecv.setReg.setReg.setReg

theorem Dev.SameBoot.snapStart (h : d0.SameBoot d) : d0.SameBoot d.snapStart := by
  unfold Dev.snapStart
  exact .setPair (.foldl h.withParts fun _ _ k => k.setCmds)

theorem Dev.SameBoot.snapFinish (h : d0.SameBoot d) : d0.SameBoot d.snapFinish :=
  .setPair (.foldl (h.foldl (fun _ _ k => k.asCommand (fun _ k => k.streamClose))) (fun _ _ k => k.asCommand (fun _
    k => k.remoteClear)))

theorem Dev.SameBoot.recordGone {entry : List Byte} (h : d0.SameBoot d) : d0.SameBoot (d.recordGone entry) := by
  unfold Dev.recordGone
  dsimp only
  split
  · exact h.setQueue.put
  · exact h.setPair

theorem Dev.SameBoot.applyItem {i : MirrorItem} {x : Dev × Mem} (h : d0.SameBoot x.1) :
    d0.SameBoot (Machine.applyItem i x).1 := by
  unfold Machine.applyItem
  dsimp only
  split
  · exact h
  · exact h.snapFinish
  · exact .ite_fst h h.setReg.put.setReg.setQueue
  · exact h.takeParams
  · exact h.takeReception
  · exact .ite_fst h h.put.setReg.setCmds.withHostSt
  · exact h.updCmd
  · exact h.commandStart.commitQueue.commitSnapshot
  · exact h.setPair.settleReady
  · exact h.setPair.settle.popWritten
  · exact h.setPair.setQueue.popWritten
  · exact h.recordGone.setQueue
  · exact .ite_fst h.setReg h.writeAt
  · exact h.setPair
  · exact .ite h.planClaim h
  · exact h.setPair

theorem Dev.SameBoot.applyRecord {n : Nat} {i : MirrorItem} {x : Dev × Mem} (h : d0.SameBoot x.1) :
    d0.SameBoot (Machine.applyRecord n i x).1 := by
  exact .share (fun l => .ite_fst l.setPair.reply l) (.applyItem (.ite h.setPair.snapStart h.setPair))

theorem Dev.SameBoot.applyAhead {k : Nat} {x : Dev × Mem} (h : d0.SameBoot x.1) :
    d0.SameBoot (Machine.applyAhead k x).1 := by
  induction k generalizing x with
  | zero => exact h
  | succ k ih =>
    unfold Machine.applyAhead
    dsimp only
    split
    · exact ih (.applyRecord h.setPair)
    · exact h

theorem Dev.SameBoot.mirrorRecord {n : Nat} {i : MirrorItem} {x : Dev × Mem} (h : d0.SameBoot x.1) :
    d0.SameBoot (Machine.mirrorRecord n i x).1 :=
  .ite_fst h (.syncCheck (.flushHeld (.setPair (.applyAhead (.ite_fst (.applyRecord (h.setPair)) h.setPair)))))

theorem Dev.SameBoot.mirrorGap (h : d0.SameBoot d) : d0.SameBoot (Machine.mirrorGap d) := by
  unfold Machine.mirrorGap
  split
  · exact .ite h (.ite h.resync (.ite h.setPair.reply h))
  · exact h

theorem Dev.SameBoot.confirm {q seq : Nat} (h : d0.SameBoot d) : d0.SameBoot (d.confirm q seq) :=
  .ite h.setCmds.flushQueue (.ite h.setPair h)

theorem Dev.SameBoot.mirrorReply {r : MirrorReply} (h : d0.SameBoot d) : d0.SameBoot (Machine.mirrorReply r d) := by
  unfold Machine.mirrorReply
  refine .ite h ?_
  split
  · exact h.setPair
  · exact .ite h.confirm h
  · exact h.ackAlone
  · exact h.ackAlone.sendSnapshot
  · exact .ite h h.planRelease

/-! ### Boot and profiles -/

theorem Dev.SameBoot.setDump {s : Nat} {v : DumpSlot} (h : d0.SameBoot d) : d0.SameBoot (d.setDump s v) :=
  h.withRecd.setReg

theorem Dev.SameBoot.openRecorder (h : d0.SameBoot d) : d0.SameBoot d.openRecorder :=
  h.setReg.setReg.setReg.put.put.foldl (fun _ _ k => k.setDump)

theorem Dev.SameBoot.firmwareLoaded {okA okB : Bool} (h : d0.SameBoot d) :
    d0.SameBoot (Machine.firmwareLoaded okA okB d) :=
  .ite h (.ite h.put.put h.put)

theorem Dev.SameBoot.maintenance {reason : Nat} (h : d0.SameBoot d) : d0.SameBoot (d.maintenance reason) := h.put.put

theorem Dev.SameBoot.loadRegions {im : Image} {k : Nat} (h : d0.SameBoot d) : d0.SameBoot (d.loadRegions im k) := by
  unfold Dev.loadRegions
  refine h.foldl (fun _ _ k => .ite k ?_)
  split
  · exact k.setReg.setReg.setReg
  · exact k.setReg.setReg.setReg

theorem Dev.SameBoot.loadCheckers {im : Image} (h : d0.SameBoot d) : d0.SameBoot (d.loadCheckers im) :=
  h.foldl (fun _ _ k => .ite k.loadRegions.takeLocks.put k.loadRegions.takeLocks)

theorem Dev.SameBoot.loadLead {hd lead : Nat} (h : d0.SameBoot d) : d0.SameBoot (d.loadLead hd lead) :=
  h.setReg.setReg.put

theorem Dev.SameBoot.loadMode {hd mode : Nat} (h : d0.SameBoot d) : d0.SameBoot (d.loadMode hd mode) :=
  h.setReg.setReg

theorem Dev.SameBoot.loadHead {e : HeadEntry} (h : d0.SameBoot d) : d0.SameBoot (d.loadHead e) :=
  h.loadLead.loadMode.put.put

theorem Dev.SameBoot.loadPaent {e : Nat × Nat × Nat × Nat} (h : d0.SameBoot d) : d0.SameBoot (d.loadPaent e) :=
  h.put.foldl (fun _ _ k => k.put)

theorem Dev.SameBoot.loadRef {r priority wtr : Nat} (h : d0.SameBoot d) : d0.SameBoot (d.loadRef r priority wtr) :=
  .ite h.setRefMon.put.put.put.stopWtr h.setRefMon.put.put

theorem Dev.SameBoot.loadLoop {bw : Nat} (h : d0.SameBoot d) : d0.SameBoot (d.loadLoop bw) := h.withRef.put.bwLimited

theorem Dev.SameBoot.reloadRefs {im : Image} (h : d0.SameBoot d) : d0.SameBoot (d.reloadRefs im) := by
  unfold Dev.reloadRefs
  refine .loadLoop (h.foldl (fun _ _ k => ?_))
  split
  · exact k.loadRef
  · exact k.loadRef

theorem Dev.SameBoot.loadTime {im : Image} (h : d0.SameBoot d) : d0.SameBoot (d.loadTime im) :=
  .setPtp (.setPtp (.setReg (.loadLoop (h.foldl (fun _ _ k => k.loadRef)))))

theorem Dev.SameBoot.bootEntry {imageId : Nat} (h : d0.SameBoot d) : d0.SameBoot (d.bootEntry imageId) := h.storeEntry

theorem Dev.SameBoot.trainChannel {bad : List Nat} {ch : Nat} (h : d0.SameBoot d) :
    d0.SameBoot (d.trainChannel bad ch) :=
  .ite h.setRank.setRank h.setRank.setRank.put.memBit.put

theorem Dev.SameBoot.bistBank {e : Nat × Nat} (h : d0.SameBoot d) : d0.SameBoot (d.bistBank e) := h.put.put.put

theorem Dev.SameBoot.ocxoReady (h : d0.SameBoot d) : d0.SameBoot (Machine.ocxoReady d) := .ite h h.withRef.put

theorem Dev.SameBoot.startGrid {hd : Nat} (h : d0.SameBoot d) : d0.SameBoot (d.startGrid hd) := h.setHead

theorem Dev.SameBoot.startPort {p : Nat} (h : d0.SameBoot d) : d0.SameBoot (d.startPort p) :=
  .share (fun l0 => .ite (l0.foldl (fun _ _ k1 => k1.noSink)) (.ite (.readAndTrain (l0.foldl (fun _ _ k1 => .ite
    k1.put.put k1))) (l0.foldl (fun _ _ k1 => .ite k1.setHeadState k1)))) (.ite h h.setPort)

theorem Dev.SameBoot.bootOutputs (h : d0.SameBoot d) : d0.SameBoot (Machine.bootOutputs d) :=
  .ite h (.pairRun (.put (.foldl (h.put.foldl (fun _ _ k => k.startGrid)) (fun _ _ k => k.startPort))))

theorem Dev.SameBoot.rejectImage {q seq : Nat} {f : ImgFail} (h : d0.SameBoot d) :
    d0.SameBoot (d.rejectImage q seq f) :=
  h.finish

theorem Dev.SameBoot.withImage {q seq len : Nat} {c : Cmd} {f : List Byte → Dev → Dev} (h : d0.SameBoot d)
    (hf : ∀ bs, d0.SameBoot (f bs d)) : d0.SameBoot (d.withImage q seq c len f) :=
  .ite (hf _) (h.withHost fun _ => .ite h (hf _))

theorem Dev.SameBoot.imageCheck {q seq : Nat} (h : d0.SameBoot d) : d0.SameBoot (Machine.imageCheck q seq d) := by
  unfold Machine.imageCheck
  refine h.onCmd (fun _ => h.withTail (h.withImage (fun _ => ?_)))
  split
  · exact h.rejectImage
  · exact h.succeed

theorem Dev.SameBoot.withSlot {q seq tail : Nat} {c : Cmd} {f : Nat → Dev → Dev} (h : d0.SameBoot d)
    (hf : ∀ n, d0.SameBoot (f n d)) : d0.SameBoot (d.withSlot q seq c tail f) :=
  .ite h.bad (h.withTail (.ite h (hf _)))

theorem Dev.SameBoot.abandonCommits (h : d0.SameBoot d) : d0.SameBoot d.abandonCommits :=
  .grpPending (.setCommits (h.foldl (fun _ _ k => k.abandon)))

theorem Dev.SameBoot.stopHead {hd : Nat} (h : d0.SameBoot d) : d0.SameBoot (d.stopHead hd) :=
  .setHead (h.foldl (fun _ _ k => k.frameEnd))

theorem Dev.SameBoot.clearFabric (h : d0.SameBoot d) : d0.SameBoot d.clearFabric := by
  unfold Dev.clearFabric
  exact .foldl (.foldl (.foldl h.withParts fun _ _ k => k.setLeases) fun _ _ k => k.put.put) fun _ _ k => k.put

theorem Dev.SameBoot.newRates {im : Image} (h : d0.SameBoot d) : d0.SameBoot (d.newRates im) := h.withRecd

theorem Dev.SameBoot.swapRegions {im : Image} (h : d0.SameBoot d) : d0.SameBoot (d.swapRegions im) :=
  h.foldl (fun _ _ k => .ite k.loadRegions.takeLocks.put k.loadRegions.takeLocks)

theorem Dev.SameBoot.switchHead {im : Image} {hd : Nat} (h : d0.SameBoot d) : d0.SameBoot (d.switchHead im hd) := by
  unfold Dev.switchHead
  dsimp only
  split
  · exact .ite h.setHead.setReg h
  · exact .share (fun l0 => .ite l0.setHead (.setHead (.ite l0.setHead l0.setHead.startGrid)))
      h.loadMode.loadLead.put.put

theorem Dev.SameBoot.switchPort {old : List Nat} {p : Nat} (h : d0.SameBoot d) : d0.SameBoot (d.switchPort old p) :=
  .ite (.ite h h.linkDown) (.ite (h.foldl (fun _ _ k => k.linkReady)) h.startPort)

/-! ### Recorder -/

theorem Dev.SameBoot.recorderEvent {e : RecEvent} (h : d0.SameBoot d) : d0.SameBoot (Machine.recorderEvent e d) := by
  unfold Machine.recorderEvent
  split
  · exact .ite h.record h
  · exact h

theorem Dev.SameBoot.flashProgram (h : d0.SameBoot d) : d0.SameBoot (Machine.flashProgram d) := by
  unfold Machine.flashProgram
  split
  · exact h
  · exact .ite h (.share (fun l0 => .ite (.ite l0.put l0) (.storeEntry (.put (.withRecd (.ite l0.put l0))))) (.ite
      h.withRecd.setReg.put.setReg h.withRecd.setReg.put))

theorem Dev.SameBoot.giveHost {q seq addr : Nat} {bs : List Byte} {result : Nat} (h : d0.SameBoot d) :
    d0.SameBoot (d.giveHost q seq addr bs result) :=
  .ite h.succeed (.ite h.finish h.hostPut.succeed)

theorem Dev.SameBoot.recRead {q seq : Nat} (h : d0.SameBoot d) : d0.SameBoot (Machine.recRead q seq d) := by
  unfold Machine.recRead
  refine h.onCmd (fun _ => ?_)
  split
  · exact h.bad
  · exact h.withTail (.ite h.reject (.ite h.bad h.giveHost))

theorem Dev.SameBoot.recCatalogue {q seq : Nat} (h : d0.SameBoot d) : d0.SameBoot (Machine.recCatalogue q seq d) := by
  unfold Machine.recCatalogue
  refine h.onCmd (fun _ => ?_)
  split
  · exact h.bad
  · refine h.withTail (?_)
    split
    · exact h.giveHost
    · exact h.succeed

theorem Dev.SameBoot.dumpWrite {x : Dev × Mem} (h : d0.SameBoot x.1) : d0.SameBoot (Machine.dumpWrite x).1 := by
  suffices d0.SameBootPair (Machine.dumpWrite x) from this
  unfold Machine.dumpWrite
  refine .ite h ?_
  extract_lets +onlyGivenNames src e ring m
  have he : d0.SameBoot e := h
  clear_value e m ring
  generalize e.packDump ring 1024 0 [] = z
  obtain ⟨body, n, cut⟩ := z
  generalize e.dumpSlot = o
  cases o with
  | none => exact he.info
  | some s => exact he.setDump.withRecd

theorem Dev.SameBoot.dumpComplete (h : d0.SameBoot d) : d0.SameBoot (Machine.dumpComplete d) := by
  unfold Machine.dumpComplete
  split
  · exact h
  · exact h.withRecd.setDump

theorem Dev.SameBoot.withDump {q seq tail : Nat} {c : Cmd} {f : Nat → Dev → Dev} (h : d0.SameBoot d)
    (hf : ∀ n, d0.SameBoot (f n d)) : d0.SameBoot (d.withDump q seq c tail f) :=
  h.withTail (.ite h (.ite h.reject (hf _)))

theorem Dev.SameBoot.dumpRead {q seq : Nat} (h : d0.SameBoot d) : d0.SameBoot (Machine.dumpRead q seq d) := by
  unfold Machine.dumpRead
  refine h.onCmd (fun _ => ?_)
  split
  · exact h.bad
  · exact h.withDump (fun _ => .ite h.reject h.giveHost)

theorem Dev.SameBoot.dumpKeep {q seq : Nat} (h : d0.SameBoot d) : d0.SameBoot (Machine.dumpKeep q seq d) :=
  h.onCmd (fun _ => .ite h.bad (h.withDump (fun _ => h.setDump.succeed)))

theorem Dev.SameBoot.dumpErase {q seq : Nat} (h : d0.SameBoot d) : d0.SameBoot (Machine.dumpErase q seq d) :=
  h.onCmd (fun _ => h.withDump (fun _ => h.setDump.succeed))

theorem Dev.SameBoot.badTest {q seq i : Nat} (h : d0.SameBoot d) : d0.SameBoot (d.badTest q seq i) := h.finish

theorem Dev.SameBoot.testStart {q seq : Nat} (h : d0.SameBoot d) : d0.SameBoot (Machine.testStart q seq d) := by
  unfold Machine.testStart
  refine h.onCmd (fun _ => h.withTail (?_))
  dsimp only
  split
  · exact h.badTest
  · exact .ite h.reject (.ite h.reject h.withRecd.setReg.setReg.succeed)

theorem Dev.SameBoot.testStop {q seq errors bits : Nat} (h : d0.SameBoot d) :
    d0.SameBoot (Machine.testStop q seq errors bits d) := by
  unfold Machine.testStop
  refine h.onCmd (fun _ => h.withTail (?_))
  dsimp only
  split
  · exact h.badTest
  · exact .succeed (.ite h.bump.bumpWrap.withRecd h)

theorem Dev.SameBoot.memInject {q seq : Nat} {x : Dev × Mem} (h : d0.SameBoot x.1) :
    d0.SameBoot (Machine.memInject q seq x).1 := by
  unfold Machine.memInject
  refine h.onCmdMem (fun _ => .ite_fst (h.withTail h) ?_)
  split
  · exact h.badTest
  · exact .ite_fst (.ite_fst h h.withRecd.succeed) (.ite_fst h.reject h.withRecd)

theorem Dev.SameBoot.touchTest {q seq : Nat} {raw : List (List Nat)} {side : List Nat} {x : Dev × Mem}
    (h : d0.SameBoot x.1) :
    d0.SameBoot (Machine.touchTest q seq raw side x).1 := by
  unfold Machine.touchTest
  refine h.onCmdMem (fun _ => .ite_fst (h.withTail h) (.ite_fst h.badTest (.ite_fst h.reject (.ite_fst h.finish
    (.ite_fst h.waitAt ?_)))))
  dsimp only
  split
  · exact h.checkedWrite.hostPut.finish
  · exact h.checkedWrite.hostPut.succeed

theorem Dev.SameBoot.adcSelfCheck {q seq : Nat} {codes : List (List Int)} (h : d0.SameBoot d) :
    d0.SameBoot (Machine.adcSelfCheck q seq codes d) :=
  h.onCmd (fun _ => h.withTail (.ite h.reject h.succeed))

/-! ### Power and resets -/

theorem Dev.SameBoot.setPwr {x : PwrSt} (h : d0.SameBoot d) : d0.SameBoot (d.setPwr x) := h.withPwr

theorem Dev.SameBoot.setFeed {f : Nat} {v : Feed} (h : d0.SameBoot d) : d0.SameBoot (d.setFeed f v) :=
  .ite h.setPwr h.setPwr

theorem Dev.SameBoot.feedAbove {f : Nat} (h : d0.SameBoot d) : d0.SameBoot (Machine.feedAbove f d) := .ite h h.setFeed

theorem Dev.SameBoot.feedAccepted {f : Nat} (h : d0.SameBoot d) : d0.SameBoot (Machine.feedAccepted f d) := by
  unfold Machine.feedAccepted
  dsimp only
  split
  · exact .ite h h.setFeed.put.put
  · exact h

theorem Dev.SameBoot.stageLost (h : d0.SameBoot d) : d0.SameBoot d.stageLost := .ite h h.withRegs.setPwr

theorem Dev.SameBoot.feedLost {f : Nat} {v : Feed} (h : d0.SameBoot d) : d0.SameBoot (d.feedLost f v) :=
  .share (fun l0 => .ite l0.put.stageLost (.ite (.ite l0.put.info l0.put) (.ite l0.put.put.info l0.put.put)))
    h.setFeed.put

theorem Dev.SameBoot.feedTurnOff {f : Nat} (h : d0.SameBoot d) : d0.SameBoot (Machine.feedTurnOff f d) :=
  .ite h (.ite h.feedLost h.setFeed)

theorem Dev.SameBoot.feedOvervoltage {f : Nat} (h : d0.SameBoot d) : d0.SameBoot (Machine.feedOvervoltage f d) :=
  .ite h (.ite h.put.feedLost h.setFeed)

theorem Dev.SameBoot.powerGood (h : d0.SameBoot d) : d0.SameBoot (Machine.powerGood d) := .ite h h.setPwr

theorem Dev.SameBoot.resetQueue {cut : List (Nat × Nat)} {q : Nat} (h : d0.SameBoot d) :
    d0.SameBoot (d.resetQueue cut q) :=
  .setQueue (.foldl (h.foldl (fun _ _ k => k.feedFailed.finish)) (fun _ _ k => k.setReg))

theorem Dev.SameBoot.hostInterfaceReset {cut : List (Nat × Nat)} (h : d0.SameBoot d) :
    d0.SameBoot (Machine.hostInterfaceReset cut d) :=
  .ite h (h.withHostSt.setReg.setReg.foldl (fun _ _ k => k.resetQueue))

theorem Dev.SameBoot.thermalRestart (h : d0.SameBoot d) : d0.SameBoot (Machine.thermalRestart d) :=
  .ite h h.put.bump.put.setPwr.powerGood

theorem Dev.SameBoot.plateHigh {plate : Int} (h : d0.SameBoot d) : d0.SameBoot (Machine.plateHigh plate d) :=
  .ite h (.ite (.ite h (.ite h.put.info h.put)) h.put)

end Sys2Proof.Machine
end

section
/-! PROOFS. The fuses (R58, R59): what each function that writes the state of boot leaves of them, and every command. -/

namespace Sys2Proof.Machine

/-- The fuses (R58): SEALED, the key hashes and the revocations. -/
def BootSt.fuses (b : BootSt) : Bool × Tab Nat × List Nat := (b.isSealed, b.keys, b.revoked)

/-- From `d` to `e` no fuse moves. -/
def Dev.SameFuses (d e : Dev) : Prop := e.boot.fuses = d.boot.fuses

variable {d0 d e : Dev}

theorem Dev.SameBoot.fuses (k : d.SameBoot e) : d.SameFuses e := congrArg BootSt.fuses k

/-- After a step that leaves the fuses alone, one that leaves boot alone. -/
theorem Dev.SameFuses.andThen (h : d0.SameFuses d) (k : d.SameBoot d → d.SameBoot e) : d0.SameFuses e :=
  Eq.trans (k (.refl d)).fuses h

theorem Dev.SameFuses.ite {a b : Dev} {p : Prop} [Decidable p] (ha : d0.SameFuses a) (hb : d0.SameFuses b) :
    d0.SameFuses (if p then a else b) := by
  split
  · exact ha
  · exact hb

theorem Dev.SameFuses.ite_fst {a b : Dev × Mem} {p : Prop} [Decidable p] (ha : d0.SameFuses a.1)
    (hb : d0.SameFuses b.1) : d0.SameFuses (if p then a else b).1 := by
  split
  · exact ha
  · exact hb

theorem Dev.SameFuses.withBoot {b : BootSt} (hb : b.fuses = d.boot.fuses) (h : d0.SameFuses d) :
    d0.SameFuses { d with boot := b } := Eq.trans hb h

theorem BootSt.fuses_select (b : BootSt) (c : SelCopy) : (b.select c).fuses = b.fuses := by
  unfold BootSt.select
  split <;> rfl

theorem Dev.SameFuses.onCmd {q seq opcode : Nat} {f : Cmd → Dev → Dev} (h : d0.SameFuses d)
    (hf : ∀ c, d0.SameFuses (f c d)) : d0.SameFuses (d.onCmd q seq opcode f) := by
  unfold Dev.onCmd
  split
  · exact .ite (hf _) h
  · exact h

theorem Dev.SameFuses.withTail {q seq n : Nat} {c : Cmd} {f : Dev → Dev} (h : d0.SameFuses d)
    (hf : d0.SameFuses (f d)) : d0.SameFuses (d.withTail q seq c n f) := by
  unfold Dev.withTail
  split
  · exact h.andThen fun k => k.finish
  · exact hf

theorem Dev.SameFuses.withHost {q seq : Nat} {c : Cmd} {f : List Byte → Dev → Dev} (h : d0.SameFuses d)
    (hf : ∀ bs, d0.SameFuses (f bs d)) : d0.SameFuses (d.withHost q seq c f) := by
  unfold Dev.withHost
  split
  · exact hf _
  · exact h.andThen fun k => k.finish
  · exact .ite h (h.andThen fun k => k.finish)

theorem Dev.SameFuses.withSlot {q seq tail : Nat} {c : Cmd} {f : Nat → Dev → Dev} (h : d0.SameFuses d)
    (hf : ∀ n, d0.SameFuses (f n d)) : d0.SameFuses (d.withSlot q seq c tail f) :=
  .ite (h.andThen fun k => k.bad) (h.withTail (.ite h (hf _)))

theorem Dev.SameFuses.withImage {q seq len : Nat} {c : Cmd} {f : List Byte → Dev → Dev} (h : d0.SameFuses d)
    (hf : ∀ bs, d0.SameFuses (f bs d)) : d0.SameFuses (d.withImage q seq c len f) :=
  .ite (hf _) (h.withHost fun _ => .ite h (hf _))

/-! ### The functions that move boot -/

theorem Dev.SameFuses.setSlot {n : Nat} {v : Slot} (h : d0.SameFuses d) : d0.SameFuses (d.setSlot n v) := by
  unfold Dev.setSlot
  refine .andThen ?_ fun k => k.put
  exact h.withBoot rfl

theorem Dev.SameFuses.choose {slot : Nat} (h : d0.SameFuses d) : d0.SameFuses (d.choose slot) := by
  unfold Dev.choose
  refine .andThen ?_ fun k => k.put
  exact h.withBoot (d.boot.fuses_select _)

theorem Dev.SameFuses.firstScanned {g n : Nat} (h : d0.SameFuses d) : d0.SameFuses (d.firstScanned g n) := by
  unfold Dev.firstScanned
  split
  · exact h
  · refine .andThen ?_ fun k => k.put.succeed
    exact h.withBoot rfl

theorem Dev.SameFuses.headFrameStart {i n : Nat} {x : Dev × Mem} (h : d0.SameFuses x.1) :
    d0.SameFuses (Machine.headFrameStart i n x).1 := by
  unfold Machine.headFrameStart
  refine .ite_fst h ?_
  extract_lets +onlyGivenNames a hd b c st comes e f g
  have hc : d0.SameFuses c := h.andThen fun k => (k.foldl fun _ _ k => k.frameEnd).setHead.setReg
  have he : d0.SameFuses e := hc.andThen fun k => .ite (k.watchViews k.setHead.setHeadState) k
  have hf : d0.SameFuses f := .ite he.firstScanned he
  have hg : d0.SameFuses g := hf.andThen fun k => k.blankHeld.endHolds.flushHeld
  clear_value g
  exact hg.andThen fun k => .wbFlush (x := (_, x.2)) k.wbTake

theorem Dev.SameFuses.clockAbsent {dom inst : Nat} {x : Dev × Mem} (h : d0.SameFuses x.1) :
    d0.SameFuses (Machine.clockAbsent dom inst x).1 := by
  unfold Machine.clockAbsent
  dsimp only
  split
  · exact h.andThen fun k => k.fatal
  · exact h.andThen fun k => k.ethLinkLost
  · exact h.andThen fun k => k.portClockLost
  · exact h.andThen fun k => .ite k.attempt k
  · exact h.andThen fun k => k.laneLol
  · exact h.andThen fun k => .ite_fst k k.failChannel
  · exact h.andThen fun k => k.touchClockLost.touchClockLost
  · exact h.andThen fun k => k.adcClockLost
  · refine .andThen ?_ fun k => k.ocxoLost.degraded
    exact h.withBoot rfl
  · exact h

theorem Dev.SameFuses.clockLost {dom inst : Nat} {x : Dev × Mem} (h : d0.SameFuses x.1) :
    d0.SameFuses (Machine.clockLost dom inst x).1 :=
  .ite_fst h (.clockAbsent (h.andThen fun k => k.clockGone))

theorem Dev.SameFuses.clockPresent {dom inst : Nat} (h : d0.SameFuses d) :
    d0.SameFuses (Machine.clockPresent dom inst d) := by
  have hb : d0.SameFuses (d.clockBack dom inst) := h.andThen fun k => k.clockBack
  unfold Machine.clockPresent
  dsimp only
  split
  · exact hb.andThen fun k => k.foldl fun _ _ k => k.flushQueue
  · exact hb.andThen fun k => k.portClockReturn
  · exact hb.andThen fun k => k.touchValid.touchValid
  · refine .andThen ?_ fun k => k.ocxoReturn
    exact hb.withBoot rfl
  · exact hb

theorem Dev.SameFuses.bootStart {profsel : Nat} {preferred : Bool} (h : d0.SameFuses d) :
    d0.SameFuses (Machine.bootStart profsel preferred d) := by
  unfold Machine.bootStart
  refine .ite h (.andThen ?_ fun k => k.put.put.put.openRecorder)
  exact h

theorem Dev.SameFuses.configure {slot : Nat} {bytes : List Byte} {im : Image} (h : d0.SameFuses d) :
    d0.SameFuses (d.configure slot bytes im) := by
  unfold Dev.configure
  refine .andThen (.withBoot (d := d) (b := { d.boot with image := some im, imageBytes := bytes }) rfl h) fun k => ?_
  refine .withPwr (.foldl (.decRegs (.foldl (.foldl ?_ ?_) ?_)) ?_)
  · exact k.put.put.setReg.put.loadCheckers.bootEntry
  · exact fun _ _ k => k.loadPaent
  · exact fun _ _ k => k.loadHead
  · exact fun _ _ k => k.groupRegs

theorem Dev.SameFuses.imageValidated (h : d0.SameFuses d) : d0.SameFuses (Machine.imageValidated d) := by
  unfold Machine.imageValidated
  refine .ite h ?_
  extract_lets +onlyGivenNames a v b c slot stop
  have hc : d0.SameFuses c := h.andThen fun k => k.put.put.put.put.put.put.put
  have hs : ∀ r, d0.SameFuses (stop r) := fun r => hc.andThen fun k => k.bootEntry.maintenance
  clear_value c stop
  refine .ite (hs _) ?_
  split
  · exact hs _
  · exact hc.configure

theorem Dev.SameFuses.memoryTrained {badRanks : List Nat} {repairs : List (Nat × Nat)} (h : d0.SameFuses d) :
    d0.SameFuses (Machine.memoryTrained badRanks repairs d) := by
  unfold Machine.memoryTrained
  refine .ite h ?_
  extract_lets +onlyGivenNames lost a b c e
  have ha : d0.SameFuses a := h.andThen fun k => k.foldl fun _ _ k => k.trainChannel
  have hc : d0.SameFuses c := ha.andThen fun k => (k.foldl fun _ _ k => k.bistBank).put.put
  refine .ite (ha.andThen fun k => k.maintenance) (.andThen ?_ fun k => k.put.loadTime.put)
  exact hc.withBoot rfl

theorem Dev.SameFuses.ocxoSteady (h : d0.SameFuses d) : d0.SameFuses (Machine.ocxoSteady d) := by
  unfold Machine.ocxoSteady
  refine .ite h (.andThen ?_ fun k => k.ocxoReturn)
  exact h

theorem Dev.SameFuses.imageWrite {q seq : Nat} {flashOk : Bool} (h : d0.SameFuses d) :
    d0.SameFuses (Machine.imageWrite q seq flashOk d) := by
  refine h.onCmd fun c => h.withSlot fun slot => h.withImage fun bs => ?_
  split
  · exact h.andThen fun k => k.rejectImage
  · exact .ite (h.andThen fun k => k.reject) (.ite (h.setSlot.andThen fun k => k.reject)
      (h.setSlot.andThen fun k => k.succeed))

theorem Dev.SameFuses.slotErase {q seq : Nat} {flashOk : Bool} (h : d0.SameFuses d) :
    d0.SameFuses (Machine.slotErase q seq flashOk d) :=
  h.onCmd fun _ => h.withSlot fun _ => .ite (h.andThen fun k => k.reject)
    (h.setSlot.andThen fun k => .ite k.succeed k.reject)

theorem Dev.SameFuses.slotChoose {q seq : Nat} {flashOk : Bool} (h : d0.SameFuses d) :
    d0.SameFuses (Machine.slotChoose q seq flashOk d) := by
  refine h.onCmd fun _ => h.withSlot fun _ => .ite (h.choose.andThen fun k => k.succeed) (.andThen ?_ fun k => k.reject)
  exact h.withBoot (d.boot.fuses_select _)

theorem Dev.SameFuses.profileSwitch {q seq : Nat} (h : d0.SameFuses d) :
    d0.SameFuses (Machine.profileSwitch q seq d) := by
  refine h.onCmd fun c => .ite (h.andThen fun k => k.bad) (h.withSlot fun slot =>
    .ite h (.ite (h.andThen fun k => k.reject) ?_))
  split
  · exact h.andThen fun k => k.rejectImage
  · exact .withBoot rfl (h.andThen fun k => k.abandonCommits.put)

theorem Dev.SameFuses.setImage {im : Option Image} {bs : List Byte} {sw : Option (Nat × Nat × Nat × Bool)}
    (h : d0.SameFuses d) :
    d0.SameFuses (d.setBoot { d.boot with image := im, imageBytes := bs, switch := sw }) := h.withBoot rfl

theorem Dev.SameFuses.switchImage {slot : Nat} (h : d0.SameFuses d) : d0.SameFuses (d.switchImage slot) := by
  unfold Dev.switchImage
  extract_lets +onlyGivenNames bs old parsed im ports a b b' c
  have hb : d0.SameFuses b := h.andThen fun k => .newRates
    (.share (fun k => k.watchViews (f := Dev.clearFabric) k.clearFabric) (k.foldl fun _ _ k => k.stopHead))
  clear_value b
  have hc : d0.SameFuses c := hb.setImage
  clear_value c
  exact hc.andThen fun k => .share (fun k => .encRegs (.foldl (.ite (k.foldl fun _ _ k => k.switchPort) k)
    fun _ _ k => k.groupRegs)) (.select (.foldl k.put.setReg.swapRegions.reloadRefs fun _ _ k => k.switchHead))

theorem Dev.SameFuses.fabricRestartDone (h : d0.SameFuses d) : d0.SameFuses (Machine.fabricRestartDone d) := by
  unfold Machine.fabricRestartDone
  split
  · refine .ite h ?_
    extract_lets +onlyGivenNames a b
    have hb : d0.SameFuses b := .ite h.switchImage.choose h.switchImage
    exact .ite (hb.withBoot rfl) (hb.andThen fun k => k.put.succeed)
  · exact .ite h (h.andThen fun k => k.withErr.restoreJournal.foldl fun _ _ k => k.headResumes)

theorem Dev.SameFuses.lifecycleSeal {q seq : Nat} (h : d0.SameFuses d) (hs : d.boot.isSealed = true) :
    d0.SameFuses (Machine.lifecycleSeal q seq d) := by
  refine h.onCmd fun c => .ite (h.andThen fun k => k.bad) (h.withTail (h.withHost fun bs => .ite h ?_))
  dsimp only
  rw [if_pos (by simp [hs])]
  exact h.andThen fun k => k.reject

/-! ### Resets and the loss of power -/

theorem Dev.SameFuses.interrupted {cut : CutOff} (h : d0.SameFuses d) : d0.SameFuses (d.interrupted cut) := by
  unfold Dev.interrupted
  extract_lets +onlyGivenNames busy cutBoot a b used
  have ha : d0.SameFuses a := by
    change d0.SameFuses (match cut.slot with | some n => _ | none => d)
    split
    · exact .ite (h.withBoot rfl) h
    · exact h
  have hb : d0.SameFuses b := .ite (.andThen (ha.withBoot (a.boot.fuses_select _)) id) ha
  exact hb.andThen fun k => .ite k.withRecd k

theorem Dev.SameFuses.resetLogic {cold : Bool} (h : d0.SameFuses d) : d0.SameFuses (d.resetLogic cold) := by
  unfold Dev.resetLogic
  extract_lets b rb rr rf rc rp a
  have ha : d0.SameFuses a := h
  exact ha.andThen fun k => .ite k.put k

theorem Dev.SameFuses.powerOff {cut : CutOff} {x : Dev × Mem} (h : d0.SameFuses x.1) :
    d0.SameFuses (Machine.powerOff cut x).1 :=
  h.interrupted.resetLogic.andThen fun k => k.setPwr

theorem Dev.SameFuses.holdupEnd {cut : CutOff} {x : Dev × Mem} (h : d0.SameFuses x.1) :
    d0.SameFuses (Machine.holdupEnd cut x).1 :=
  .ite_fst h (h.powerOff.andThen fun k => k.stageLost)

theorem Dev.SameFuses.moduleReset {cut : CutOff} {x : Dev × Mem} (h : d0.SameFuses x.1) :
    d0.SameFuses (Machine.moduleReset cut x).1 :=
  .ite_fst h (h.interrupted.resetLogic.andThen fun k => k.put.bump.setPwr)

theorem Dev.SameFuses.thermalTrip {cut : CutOff} {x : Dev × Mem} (h : d0.SameFuses x.1) :
    d0.SameFuses (Machine.thermalTrip cut x).1 :=
  .ite_fst h (h.powerOff.andThen fun k => k.setPwr.stageLost)

/-! ### Every command -/

/-- No fuse moves from `s` to what a command answers. -/
def State.FusesStay (s : State) (o : Host.Outcome State Fault Refusal) : Prop :=
  ∀ s', o = .next s' → s.dev.SameFuses s'.dev

section
variable {s : State} {t : Nat} {f : Dev → Dev} {g : Dev × Mem → Dev × Mem}

theorem State.FusesStay.devFuses (h : s.dev.SameFuses (f (s.dev.clock t))) : s.FusesStay (s.onDev t f) := by
  intro s' he
  cases he
  exact h

theorem State.FusesStay.allFuses (h : s.dev.SameFuses (g (s.dev.clock t, s.mem)).1) : s.FusesStay (s.onAll t g) := by
  intro s' he
  cases he
  exact h

theorem State.FusesStay.dev (h : s.dev.SameBoot (f (s.dev.clock t))) : s.FusesStay (s.onDev t f) := .devFuses h.fuses

theorem State.FusesStay.all (h : s.dev.SameBoot (g (s.dev.clock t, s.mem)).1) : s.FusesStay (s.onAll t g) :=
  .allFuses h.fuses

theorem State.FusesStay.gated {off : Nat} (h : s.dev.SameBoot (f (s.dev.clock t))) :
    s.FusesStay (s.onDev t (·.gated off f)) :=
  .dev (.gated (d := s.dev.clock t) rfl h)

theorem State.FusesStay.gatedM {off : Nat} {v : Word} (h : s.dev.SameBoot (f (s.dev.clock t))) :
    s.FusesStay (s.onDev t (·.gatedM off v f)) :=
  .dev (.gatedM (d := s.dev.clock t) rfl h)

end

theorem fusesStay_exec (c : Instr) (s : State) (hs : s.dev.boot.isSealed = true) : s.FusesStay (exec c s) := by
  have k : ∀ t, s.dev.SameBoot (s.dev.clock t) := fun t => rfl
  have h : ∀ t, s.dev.SameFuses (s.dev.clock t) := fun t => rfl
  cases c with
  | domainClockLost t => exact .allFuses (.clockLost (h t))
  | domainClockPresent t => exact .devFuses (.clockPresent (h t))
  | watchdogExpiry t => exact .dev (.watchdog (k t))
  | mgmtCoreRestartDone t => exact .dev (.coreRestarted (k t))
  | registerWrite t => exact .all (.hostWrite (k t))
  | lowWordLatchRead t => exact .dev (.hostRead (k t))
  | pcieConfigRequest t => exact .dev (.cfgRequest (k t))
  | bar2Read t => exact .all (.bar2Read (k t))
  | bar2Write t => exact .all (.bar2Write (k t))
  | bar2OffsetWrite t => exact .gated (.bar2OffsetWrite (k t))
  | hostReadCompletion t => exact .dev (.hostReadCompletion (k t))
  | hostReadTimeout t => exact .dev (.hostReadTimeout (k t))
  | hostWriteTimeout t => exact .dev (.hostWriteTimeout (k t))
  | queueEnable t => exact .gated (.queueEnable (k t))
  | queueDisable t => exact .gated (.queueDisable (k t))
  | sqTailDoorbell t => exact .gated (.sqDoorbell (k t))
  | cqHeadDoorbell t => exact .gated (.cqDoorbell (k t))
  | commandEntryFetched t => exact .dev (.entryFetched (k t))
  | commandStart t => exact .dev (.commandStart (k t))
  | commandDeadline t => exact .dev (.commandDeadline (k t))
  | completionWrite t => exact .dev (.completionWrite (k t))
  | fenceWrite t => exact .gatedM (.fenceWrite (k t))
  | nop t => exact .dev (.nop (k t))
  | sync t => exact .dev (.sync (k t))
  | fenceSignal t => exact .dev (.fenceSignal (k t))
  | dmaCopy t => exact .all (.dmaCopy (k t))
  | dmaFill t => exact .all (.dmaFill (k t))
  | regReadBlock t => exact .dev (.regReadBlock (k t))
  | regWriteBatch t => exact .all (.regWriteBatch (k t))
  | forwardedCommandReceived t => exact .dev (.forwardedReceived (k t))
  | forwardedOutcome t => exact .dev (.forwardedOutcome (k t))
  | forwardTimeout t => exact .dev (.forwardTimeout (k t))
  | bootStart t => exact .devFuses (.bootStart (h t))
  | bootFirmwareLoaded t => exact .dev (.firmwareLoaded (k t))
  | bootImageValidated t => exact .devFuses (.imageValidated (h t))
  | bootMemoryTrained t => exact .devFuses (.memoryTrained (h t))
  | ocxoSteady t => exact .devFuses (.ocxoSteady (h t))
  | ocxoReady t => exact .dev (.ocxoReady (k t))
  | bootOutputs t => exact .dev (.bootOutputs (k t))
  | imageCheck t => exact .dev (.imageCheck (k t))
  | imageWrite t => exact .devFuses (.imageWrite (h t))
  | slotErase t => exact .devFuses (.slotErase (h t))
  | slotChoose t => exact .devFuses (.slotChoose (h t))
  | profileSwitch t => exact .devFuses (.profileSwitch (h t))
  | fabricRestartDone t => exact .devFuses (.fabricRestartDone (h t))
  | lifecycleSeal t => exact .devFuses (.lifecycleSeal (h t) hs)
  | wtUnsetTimeout t => exact .dev (.wtUnsetTimeout (k t))
  | ptpMessageReceived t => exact .dev (.ptpMessage (k t))
  | ptpReceiptTimeout t => exact .dev (.ptpTimeout (k t))
  | holdoverTrustExpiry t => exact .dev (.trustExpiry (k t))
  | wtFollow t => exact .dev (.wtFollow (k t))
  | ptpPorts t => exact .dev (.ptpPorts (k t))
  | timeSnap t => exact .gated (.timeSnap (k t))
  | tb3Apply t => exact .gatedM (.tb3Apply (k t))
  | tb3RateAdjWrite t => exact .gatedM (.tb3Rate (k t))
  | ppsCtrlWrite t => exact .gatedM (.ppsCtrl (k t))
  | ppsOutRise t => exact .dev (.ppsRise (k t))
  | ppsOutFall t => exact .dev (.ppsFall (k t))
  | ethFrameReceived t => exact .all (.ethFrame (k t))
  | launchFrameSubmit t => exact .dev (.launchSubmit (k t))
  | launchTimeReached t => exact .dev (.launchReached (k t))
  | trigApply t => exact .gated (.trigApply (k t))
  | triggerEvent t => exact .dev (.triggerEvent (k t))
  | triggerPulseEnd t => exact .dev (.trigPulseEnd (k t))
  | captureEdge t => exact .dev (.captureEdge (k t))
  | capTimeLoRead t => exact .dev (.capReadRow (k t))
  | refActivityLost t => exact .dev (.refActivityLost (k t))
  | refFreqGate t => exact .dev (.refFreqGate (k t))
  | refWtrExpiry t => exact .dev (.refWtrExpiry (k t))
  | pullComplete t => exact .dev (.pullComplete (k t))
  | holdoverReadyTimer t => exact .dev (.holdoverReady (k t))
  | ocxoLost t => exact .dev (.ocxoLost (k t))
  | ocxoReturn t => exact .dev (.ocxoReturn (k t))
  | refselApply t => exact .gatedM (.refselApply (k t))
  | refCfgApply t => exact .gatedM (.refCfgApply (k t))
  | ethCtrlWrite t => exact .gated (.ethCtrl (k t))
  | ethLinkLost t => exact .dev (.ethLinkLost (k t))
  | ethLinkUp t => exact .dev (.ethLinkUp (k t))
  | flowApply t => exact .gatedM (.flowApply (k t))
  | frameHoldExpiry t => exact .all (.holdExpiry (k t))
  | assemblyTimeout t => exact .all (.assemblyTimeout (k t))
  | legInactive t => exact .dev (.legInactive (k t))
  | streamOpen t => exact .dev (.streamOpen (k t))
  | streamClose t => exact .dev (.streamClose (k t))
  | mcastJoin t => exact .dev (.mcastJoin (k t))
  | mcastLeave t => exact .dev (.mcastLeave (k t))
  | decodeStart t => exact .all (.decodeStart (k t))
  | decodeComplete t => exact .all (.decodeComplete (k t))
  | decodeNoSlotTimeout t => exact .dev (.decodeNoSlot (k t))
  | decodeEngineTimeout t => exact .dev (.decodeEngineTimeout (k t))
  | decodeEngineParity t => exact .dev (f := (·.engineFail _)) (.engineFail (k t))
  | decodeWindowEnd t => exact .dev (.decodeWindow (k t))
  | decodeSetup t => exact .dev (.decodeSetup (k t))
  | decodeReset t => exact .dev (.decodeResetCmd (k t))
  | commit t => exact .dev (.commitQueue (k t))
  | canvasCommit t => exact .dev (.canvasCommit (k t))
  | canvasJoin t => exact .dev (.canvasJoin (k t))
  | commitValidate t => exact .dev (.commitValidate (k t))
  | commitValidationDone t => exact .dev (.commitValidated (k t))
  | headFrameBoundary t => exact .dev (.headBoundary (k t))
  | headFrameStart t => exact .allFuses (.headFrameStart (h t))
  | leaseEnd t => exact .dev (.leaseEnd (k t))
  | canvasPrepare t => exact .dev (.canvasPrepare (k t))
  | canvasAccept t => exact .dev (.canvasAccept (k t))
  | canvasApply t => exact .dev (.canvasApply (k t))
  | canvasDrop t => exact .dev (.canvasDrop (k t))
  | canvasAppliedReport t => exact .dev (.canvasReport (k t))
  | canvasMemberTimeout t => exact .dev (.canvasMemberTimeout (k t))
  | canvasReadyTimeout t => exact .dev (.canvasReadyTimeout (k t))
  | canvasReportTimeout t => exact .dev (.canvasReportTimeout (k t))
  | canvasTransit t => exact .dev (.canvasTransit (k t))
  | scalerParityError t => exact .dev (.scalerParity (k t))
  | headOutFmtWrite t => exact .gatedM (.outFmtWrite (k t))
  | lineRelease t => exact .dev (.lineRelease (k t))
  | lineComposed t => exact .all (.lineComposed (k t))
  | lineRead t => exact .all (.lineRead (k t))
  | governorWindow t => exact .dev (.governorWindow (k t))
  | hpdRise t => exact .dev (.hpdRise (k t))
  | hpdIrq t => exact .dev (.hpdIrq (k t))
  | hpdUnplug t => exact .dev (.hpdUnplug (k t))
  | trainingConfigDone t => exact .dev (.configDone (k t))
  | trainingConfigTimeout t => exact .dev (.configTimeout (k t))
  | trainRetryTimer t => exact .dev (.trainRetry (k t))
  | dpPortClockLost t => exact .dev (.portClockLost (k t))
  | dpPortClockReturn t => exact .dev (.portClockReturn (k t))
  | modeChangeBoundary t => exact .dev (.modeBoundary (k t))
  | modeChangeLinkReady t => exact .dev (.modeLinkReady (k t))
  | dpCtrlApply t => exact .gated (.dpCtrlApply (k t))
  | dpAux t => exact .dev (.dpAux (k t))
  | dpRetrain t => exact .dev (.dpRetrain (k t))
  | tasterCompare t => exact .dev (.tasterCompare (k t))
  | sspRead t => exact .dev (.sspRead (k t))
  | imageTickAdvance t => exact .dev (.imageTick (k t))
  | imageTickTimeout t => exact .dev (.imageTimeout (k t))
  | encodeOpen t => exact .dev (.encodeOpen (k t))
  | encodeClose t => exact .dev (.encodeClose (k t))
  | encodeRefresh t => exact .dev (.encodeRefresh (k t))
  | encodeRowReady t => exact .all (.encodeRowReady (k t))
  | encodeRowCoded t => exact .all (.encodeRowCoded (k t))
  | encodeEngineTimeout t => exact .dev (.encodeEngineTimeout (k t))
  | encodeEngineParity t => exact .dev (.encEngineFail (k t))
  | touchScanStart t => exact .dev (.touchScanStart (k t))
  | touchScanProcessed t => exact .dev (.touchProcessed (k t))
  | touchScanRelease t => exact .dev (.touchRelease (k t))
  | touchSimmerScan t => exact .dev (.touchSimmer (k t))
  | touchPortEnable t => exact .gatedM (.touchEnable (k t))
  | touchPortDisable t => exact .gatedM (.touchDisable (k t))
  | touchApply t => exact .gatedM (.touchApplyWrite (k t))
  | adcSequenceDone t => exact .dev (.adcDone (k t))
  | adcApply t => exact .gatedM (.adcApply (k t))
  | gpioInputChange t => exact .dev (.gpioChange (k t))
  | gpioDebounceExpiry t => exact .dev (.gpioExpiry (k t))
  | gpioOutWrite t => exact .gatedM (.gpioOut (k t))
  | commandFrameBuilt t => exact .dev (.frameBuilt (k t))
  | ccSetup t => exact .dev (.ccSetup (k t))
  | ccStop t => exact .dev (.ccStop (k t))
  | touchRebase t => exact .dev (.touchRebase (k t))
  | paentIdWrite t => exact .gated (.paentId (k t))
  | flitReceived t => exact .dev (.flitReceived (k t))
  | replayTimeout t => exact .dev (.replayTimeout (k t))
  | envelopeReceived t => exact .dev (.envelopeReceived (k t))
  | routeRecompute t => exact .dev (.routeRecompute (k t))
  | routeInstall t => exact .dev (.routeInstall (k t))
  | vc1HoldTimeout t => exact .dev (.vc1HoldEnd (k t))
  | pictureEnvelope t => exact .all (.pictureEnvelope (k t))
  | announceTimer t => exact .dev (.announceTimer (k t))
  | announceReceived t => exact .dev (.announceReceived (k t))
  | electionTimer t => exact .dev (.electionTimer (k t))
  | managerSilenceTimeout t => exact .dev (.managerSilence (k t))
  | timeExchangeTimer t => exact .dev (.timeExchange (k t))
  | timeEnvelopeReceived t => exact .dev (.timeEnvelope (k t))
  | timeOffsetReport t => exact .dev (.timeReport (k t))
  | remoteSetup t => exact .dev (.remoteSetup (k t))
  | remoteClear t => exact .dev (.remoteClear (k t))
  | paentAttemptStart t => exact .dev (.attemptStart (k t))
  | paentSweepDone t => exact .dev (.sweepDone (k t))
  | paentAlignDone t => exact .dev (.alignDone (k t))
  | laneSlip t => exact .gated (.laneSlip (k t))
  | paentTrainingFrame t => exact .dev (.trainingFrame (k t))
  | paentGoReceived t => exact .dev (.goReceived (k t))
  | paentStepTimeout t => exact .dev (.stepTimeout (k t))
  | paentAttemptTimeout t => exact .dev (.attemptTimeout (k t))
  | paentRetryTimer t => exact .dev (.retryTimer (k t))
  | laneLos t => exact .dev (.laneLos (k t))
  | laneLol t => exact .dev (.laneLol (k t))
  | laneLoa t => exact .dev (.laneLoa (k t))
  | paentRetrain t => exact .gated (.paentRetrain (k t))
  | paentHold t => exact .gated (.paentHold (k t))
  | paentTxSleep t => exact .gated (.paentTxSleep (k t))
  | paentTxWake t => exact .gated (.paentTxWake (k t))
  | paentRxSleep t => exact .gated (.paentRxSleep (k t))
  | paentRxWake t => exact .gated (.paentRxWake (k t))
  | paentWakeTimeout t => exact .dev (.wakeTimeout (k t))
  | heartbeatSend t => exact .dev (.heartbeatSend (k t))
  | heartbeatReceived t => exact .dev (.heartbeatReceived (k t))
  | heartbeatWireFrame t => exact .dev (.wireReceived (k t))
  | heartbeatPathSilent t => exact .dev (.pathSilent (k t))
  | pairSeekTimeout t => exact .dev (.seekTimeout (k t))
  | pairHandoverInstant t => exact .dev (.handoverInstant (k t))
  | interlockLevelChange t => exact .dev (.levelChange (k t))
  | contentionTimeout t => exact .dev (.contentionTimeout (k t))
  | handoverRetryTimeout t => exact .dev (.retryTimeout (k t))
  | interlockFault t => exact .dev (.interlockFault (k t))
  | mirrorRecord t => exact .all (.mirrorRecord (k t))
  | mirrorConfirmation t => exact .dev (.mirrorReply (k t))
  | mirrorGapTimeout t => exact .dev (.mirrorGap (k t))
  | pairWtrExpiry t => exact .dev (.wtrExpiry (k t))
  | pairApply t => exact .gated (.pairApply (k t))
  | pairSwitchover t => exact .gated (.pairSwitchover (k t))
  | pairTakeover t => exact .gated (.pairTakeover (k t))
  | pairClear t => exact .gated (.pairClear (k t))
  | dramReadError t => exact .all (.dramReadError (k t))
  | dramWcrcAlert t => exact .all (.wcrcAlert (k t))
  | migrationCopyLine t => exact .all (.copyLine (k t))
  | migrationDone t => exact .all (.migrationDone (k t))
  | dramRefresh t => exact .dev (.dramRefresh (k t))
  | dramTempRead t => exact .dev (.tempRead (k t))
  | dramDriftCheck t => exact .dev (.driftCheck (k t))
  | dramRetrainStep t => exact .all (.retrainStep (k t))
  | dramPatrolScrub t => exact .all (.patrolScrub (k t))
  | migThrottleWrite t => exact .gated (.throttleWrite (k t))
  | fsRefresh t => exact .dev (.fsRefresh (k t))
  | fsScrub t => exact .dev (.fsScrub (k t))
  | checkerUpdateEnter t => exact .gated (.updateEnter (k t))
  | checkerUpdateExit t => exact .all (.updateExit (k t))
  | checkerClosedTimeout t => exact .dev (.closedTimeout (k t))
  | regionRegisterWrite t => exact .gated (.regionWrite (k t))
  | parcelOpen t => exact .dev (.parcelOpen (k t))
  | parcelFeed t => exact .dev (.parcelFeed (k t))
  | parcelFeedComplete t => exact .all (.feedComplete (k t))
  | parcelAbort t => exact .dev (.parcelAbort (k t))
  | crcCtrlWrite t => exact .gated (.crcCtrl (k t))
  | crcData8 t => exact .gated (.crcData (k t))
  | crcData16 t => exact .gated (.crcData (k t))
  | crcData32 t => exact .gated (.crcData (k t))
  | crcResultRead t => exact .gated (.crcRead (k t))
  | composeEngineParity t => exact .dev (.engineParity (k t))
  | fabricFault t => exact .dev (.fabricFault (k t))
  | dumpWrite t => exact .all (.dumpWrite (k t))
  | dumpComplete t => exact .dev (.dumpComplete (k t))
  | recorderEvent t => exact .dev (.recorderEvent (k t))
  | recorderFlashProgram t => exact .dev (.flashProgram (k t))
  | recRead t => exact .dev (.recRead (k t))
  | recCatalogue t => exact .dev (.recCatalogue (k t))
  | dumpRead t => exact .dev (.dumpRead (k t))
  | dumpKeep t => exact .dev (.dumpKeep (k t))
  | dumpErase t => exact .dev (.dumpErase (k t))
  | testStart t => exact .dev (.testStart (k t))
  | testStop t => exact .dev (.testStop (k t))
  | memInject t => exact .all (.memInject (k t))
  | touchTest t => exact .all (.touchTest (k t))
  | adcSelfCheck t => exact .dev (.adcSelfCheck (k t))
  | feedAboveTurnOn t => exact .dev (.feedAbove (k t))
  | feedAccepted t => exact .dev (.feedAccepted (k t))
  | feedTurnOff t => exact .dev (.feedTurnOff (k t))
  | feedOvervoltage t => exact .dev (.feedOvervoltage (k t))
  | holdupEnd t => exact .allFuses (.holdupEnd (h t))
  | powerGood t => exact .dev (.powerGood (k t))
  | moduleReset t => exact .allFuses (.moduleReset (h t))
  | hostInterfaceReset t => exact .dev (.hostInterfaceReset (k t))
  | thermalTrip t => exact .allFuses (.thermalTrip (h t))
  | thermalRestart t => exact .dev (.thermalRestart (k t))
  | wtSlewEnd t => exact .dev (.wtSlewEnd (k t))
  | sspBankSwitch t => exact .dev (.sspBankSwitch (k t))
  | debugAccess t => exact .all (.debugAccess (k t))
  | plateHigh t => exact .dev (.plateHigh (k t))
  | flitSend t => exact .all (.flitSend (k t))

/-- Settles O7: every command leaves the fuses of a sealed module alone, LIFECYCLE_SEAL because it is REJECTED. -/
theorem sealedStaysSealed : Obligations.SealedStaysSealed := by
  intro s s' hs h
  have k : s.dev.boot.fuses = s'.dev.boot.fuses := by
    cases hp : s.pending with
    | nil =>
      rw [step_of_empty hp] at h
      cases h
      rfl
    | cons c rest =>
      rw [step_of_front hp] at h
      exact (fusesStay_exec c { s with pending := rest } hs s' h).symm
  obtain ⟨h1, h2⟩ := Prod.mk.inj k
  obtain ⟨h2, h3⟩ := Prod.mk.inj h2
  exact ⟨h1 ▸ hs, h2.symm, h3.symm⟩

end Sys2Proof.Machine
end

section
/-! PROOFS. The phases of boot (R361, R104): a state in which the loading of the references moves a rank. The statement does
not ask that the references of the image in force exist; one of them lies so far past the last that its REF_CFG has the
offset of CH_STATUS of channel 0, whose RANK0 lies where a reference has its PRIORITY. -/

namespace Sys2Proof.Machine

/-- An image with one reference, of priority 0, for which REF_CFG has the offset of channel 0's CH_STATUS. -/
def strayRefImage : Image := { Image.empty with refs := [(0x4C078, 0, 0)] }

/-- A unit in phase CONFIGURE with that image in force. -/
def strayConfigured : Dev :=
  { Dev.init with
    regs := [(R.BOOT_STATUS.off 0 0, BitVec.ofNat 32 phaseConfigure)]
    boot := { BootSt.init with image := some strayRefImage } }

theorem dev_of_bootMemoryTrained {t : Nat} {bad : List Nat} {repairs : List (Nat × Nat)} {s s' : State}
    (h : exec (.bootMemoryTrained t bad repairs) s = .next s') :
    s'.dev = memoryTrained bad repairs (s.dev.clock t) := by
  cases h
  rfl

theorem strayConfigured_rank0 : (memoryTrained [] [] (strayConfigured.clock 0)).rankState 0 0 = rkSpare := by
  decide +kernel

/-- Refutes O16: every rank trains, but rank 0 of channel 0 is not in service, because the load of an image's reference has
written the channel's CH_STATUS. -/
theorem not_bootPhases : ¬ Obligations.BootPhases := by
  intro h
  obtain ⟨-, -, htrained, -⟩ := h
  obtain ⟨s', hx, -, hok, -⟩ := htrained 0 [] [] ⟨strayConfigured, .init, []⟩ (by decide +kernel)
  obtain ⟨-, -, -, hranks⟩ := hok (by simp) (by simp)
  obtain ⟨hrank, -⟩ := hranks 0 (by decide)
  rw [dev_of_bootMemoryTrained hx, strayConfigured_rank0] at hrank
  exact absurd hrank (by decide)

end Sys2Proof.Machine
end

section
/-! PROOFS. Profile switches (R67): a state in which the end of a switch moves PROF_STATUS. The statement does not ask that
the release fences of waiting commands exist (`Dev.FencesNamed`, R34). The unit is a standby, so its completion of the
switch writes the release fence as soon as the partner's record is written; the fence lies so far past the last that its
FENCE_VAL has the offset of PROF_STATUS. -/

namespace Sys2Proof.Machine

/-- A switch of a module without a head, before it is RUNNING (R67, R68). -/
theorem Dev.switchImage_of_noHead {d a b c : Dev} {im : Image} {slot : Nat} (hn : d.enabledHeads = [])
    (hi : { imgParse (d.slot slot).bytes with
      tb0Domain := d.img.tb0Domain, tb1Domain := d.img.tb1Domain, ptpProfile := d.img.ptpProfile
      holdoverTrust := d.img.holdoverTrust } = im)
    (ha : (d.watchViews Dev.clearFabric).newRates im = a)
    (hb : (((((a.setBoot { a.boot with image := some im, imageBytes := (d.slot slot).bytes, switch := none }).put
      R.PROF_STATUS_SLOT slot).setReg R.PROF_IMAGE_ID (imgParse (d.slot slot).bytes).imageId).swapRegions im).reloadRefs
      im) = b)
    (hc : ((List.range 32).foldl (fun d h => d.switchHead im h) b).select = c) (hp : c.phase ≠ phaseRunning) :
    d.switchImage slot = ((List.range 6).foldl (fun d g => d.groupRegs g) c).encRegs := by
  simp only [Dev.switchImage, hn, List.foldl_nil, hi, ha, hb, hc, if_neg hp]

/-- A switch that ends at once because no head waits for a frame of the new profile. -/
theorem fabricRestartDone_of_noHead {d e : Dev} {q seq slot : Nat} (hs : d.boot.switch = some (q, seq, slot, false))
    (hn : d.enabledHeads = []) (he : d.switchImage slot = e) (hp : e.phase ≠ phaseRunning) :
    fabricRestartDone d = (e.put R.PROF_STATUS_SWITCHING 0).succeed q seq (slot + e.wt48 * 2 ^ 16) := by
  simp [fabricRestartDone, hs, hn, he, hp]

theorem dev_of_fabricRestartDone {t : Nat} {s s' : State} (h : exec (.fabricRestartDone t) s = .next s') :
    s'.dev = fabricRestartDone (s.dev.clock t) := by
  cases h
  rfl

/-- A command with a release fence for which FENCE_VAL has the offset of PROF_STATUS. -/
def strayFence : Cmd :=
  { Cmd.ofEntry [] 0 with
    seq := 1, flags := 2, relFence := 0x20000, relValue := 0x100, badField := none, st := .started }

/-- A standby that ends a switch to the empty slot 0, without a head: the switch is that command, its record written. -/
def strayDev : Dev :=
  { Dev.init with
    regs := [(R.PAIR_STATUS.off 0 0, BitVec.ofNat 32 (prStandby * 2 ^ 29))]
    host := { HostSt.init with queues := [(0, { Queue.init with cmds := [strayFence] })] }
    pair := { PairSt.init with notices := [(0, 1)] }
    boot := { BootSt.init with switch := some (0, 1, 0, false) } }

/-- The image that its switch takes into force. -/
def strayImage : Image :=
  { imgParse [] with
    tb0Domain := strayDev.img.tb0Domain, tb1Domain := strayDev.img.tb1Domain, ptpProfile := strayDev.img.ptpProfile
    holdoverTrust := strayDev.img.holdoverTrust }

/-- The unit with that image in force, and its references as the image has them. -/
def strayAfter : Dev :=
  (strayDev.setBoot { strayDev.boot with image := some strayImage, imageBytes := [], switch := none }).reloadRefs
    strayImage

theorem strayDev_enabledHeads : strayDev.enabledHeads = [] := by decide +kernel

theorem strayDev_image :
    { imgParse (strayDev.slot 0).bytes with
      tb0Domain := strayDev.img.tb0Domain, tb1Domain := strayDev.img.tb1Domain, ptpProfile := strayDev.img.ptpProfile
      holdoverTrust := strayDev.img.holdoverTrust } = strayImage := by decide +kernel

theorem strayDev_cleared : (strayDev.watchViews Dev.clearFabric).newRates strayImage = strayDev := by decide +kernel

theorem strayDev_loaded :
    (((((strayDev.setBoot { strayDev.boot with
        image := some strayImage, imageBytes := (strayDev.slot 0).bytes, switch := none }).put
      R.PROF_STATUS_SLOT 0).setReg R.PROF_IMAGE_ID (imgParse (strayDev.slot 0).bytes).imageId).swapRegions
      strayImage).reloadRefs strayImage) = strayAfter := by decide +kernel

theorem strayAfter_heads :
    ((List.range 32).foldl (fun d h => d.switchHead strayImage h) strayAfter).select = strayAfter := by decide +kernel

theorem strayAfter_phase : strayAfter.phase ≠ phaseRunning := by decide +kernel

theorem strayAfter_groups : ((List.range 6).foldl (fun d g => d.groupRegs g) strayAfter).encRegs = strayAfter := by
  decide +kernel

/-- The completion of the switch writes the fence, and so SLOT. -/
theorem strayAfter_completed :
    ((strayAfter.put R.PROF_STATUS_SWITCHING 0).succeed 0 1 (0 + strayAfter.wt48 * 2 ^ 16)).get R.PROF_STATUS_SLOT =
      1 := by decide +kernel

theorem strayDev_switchImage : strayDev.switchImage 0 = strayAfter :=
  (Dev.switchImage_of_noHead strayDev_enabledHeads strayDev_image strayDev_cleared strayDev_loaded strayAfter_heads
    strayAfter_phase).trans strayAfter_groups

theorem strayDev_restarted : (fabricRestartDone strayDev).get R.PROF_STATUS_SLOT = 1 := by
  rw [fabricRestartDone_of_noHead rfl strayDev_enabledHeads strayDev_switchImage strayAfter_phase]
  exact strayAfter_completed

/-- Refutes O17: a standby's switch to slot 0 ends with SLOT 1, because the fence that its completion writes has the offset
of PROF_STATUS. -/
theorem not_slotsAndLifecycle : ¬ Obligations.SlotsAndLifecycle := by
  intro h
  obtain ⟨-, ⟨-, hswitch, -⟩, -⟩ := h
  obtain ⟨s', hx, -, hslot, -⟩ := hswitch 0 0 1 0 false ⟨strayDev, .init, []⟩ rfl (by decide) (by decide +kernel)
  have hclock : strayDev.clock 0 = strayDev := by decide +kernel
  rw [dev_of_fabricRestartDone hx, hclock, strayDev_restarted] at hslot
  exact absurd hslot (by decide)

end Sys2Proof.Machine
end

section
/-! PROOFS. Working time (R70 to R77, R84): the bases read on through a change of their rate, and what steers working time
leaves the PTP domains alone. -/

namespace Sys2Proof.Machine

/-! ### Bases -/

theorem Anchor.read_tick (a : Anchor) : a.read a.tick = a.val := by
  simp [Anchor.read, advance]

/-- A base goes on from its value when its rate changes (R71). -/
theorem Anchor.read_retime (a : Anchor) (now : Nat) (rate : Int) : (a.retime now rate).read now = a.read now :=
  Anchor.read_tick _

theorem Dev.tb_setTb (d : Dev) (dom : Nat) (a : Anchor) : (d.setTb dom a).tb dom = a := by
  unfold Dev.tb Dev.setTb
  split <;> rfl

theorem Dev.ptp_setPtp (d : Dev) (dom : Nat) (p : PtpDomain) : (d.setPtp dom p).ptp dom = p := by
  unfold Dev.ptp Dev.setPtp
  split <;> rfl

theorem Dev.tb_setPtp (d : Dev) (dom n : Nat) (p : PtpDomain) : (d.setPtp dom p).tb n = d.tb n := by
  unfold Dev.setPtp
  split <;> rfl

theorem Dev.ptp_setTb (d : Dev) (dom n : Nat) (a : Anchor) : (d.setTb dom a).ptp n = d.ptp n := by
  unfold Dev.setTb
  split <;> rfl

theorem Dev.get_setTb (d : Dev) (dom : Nat) (a : Anchor) (f : FldDesc) (i j : Nat) :
    (d.setTb dom a).get f i j = d.get f i j := by
  unfold Dev.setTb
  split <;> rfl

theorem Dev.get_setPtp (d : Dev) (dom : Nat) (p : PtpDomain) (f : FldDesc) (i j : Nat) :
    (d.setPtp dom p).get f i j = d.get f i j := by
  unfold Dev.setPtp
  split <;> rfl

theorem Dev.wtAnchor_setPtp (d : Dev) (dom : Nat) (p : PtpDomain) : (d.setPtp dom p).time.wt = d.time.wt := by
  unfold Dev.setPtp
  split <;> rfl

theorem Dev.tb_of_time {d e : Dev} (h : e.time = d.time) (dom : Nat) : e.tb dom = d.tb dom := by
  rw [Dev.tb, h, ← Dev.tb]

theorem Dev.ptp_of_time {d e : Dev} (h : e.time = d.time) (dom : Nat) : e.ptp dom = d.ptp dom := by
  rw [Dev.ptp, h, ← Dev.ptp]

theorem Dev.wt_withTime (d : Dev) {x : TimeSt} (h : x.wt = d.time.wt) : Dev.wt { d with time := x } = d.wt := by
  rw [Dev.wt, Dev.wt, h]

theorem Dev.get_withTime (d : Dev) (x : TimeSt) (f : FldDesc) (i j : Nat) :
    Dev.get { d with time := x } f i j = d.get f i j := rfl

theorem Dev.reg_withTime (d : Dev) (x : TimeSt) (r : RegDesc) (i j : Nat) :
    Dev.reg { d with time := x } r i j = d.reg r i j := rfl

theorem Dev.Keeps.wt {d e : Dev} {ws : Nat → Prop} {ps : List Part} (k : d.Keeps e ws ps) (hp : Part.time ∉ ps) :
    e.wt = d.wt := by
  rw [Dev.wt, Dev.wt, k.time.resolve_left hp, k.now]

/-! ### Steering -/

/-- The registers that the steering of working time moves. -/
def wtOffs : List Nat := R.WT_STATUS.off 0 0 :: R.WT_RATE.off 0 0 :: recOffs

/-- The field of WT_STATUS that shows whether a domain is qualified. -/
def qualField (dom : Nat) : FldDesc := if dom = 0 then R.WT_STATUS_TB0_QUAL else R.WT_STATUS_TB1_QUAL

theorem qualField_cases (dom : Nat) : qualField dom = R.WT_STATUS_TB0_QUAL ∨ qualField dom = R.WT_STATUS_TB1_QUAL := by
  unfold qualField
  split
  · exact .inl rfl
  · exact .inr rfl

/-- A field of WT_STATUS that shows no domain's qualification. -/
def FldDesc.steered (f : FldDesc) : Prop :=
  f.ok = true ∧ f.reg = R.WT_STATUS ∧ (f.hi < 24 ∨ 25 < f.lo)

/-- From `d` to `e` working time was steered: no PTP domain moved, neither its base nor its state nor its qualification. -/
structure Dev.Steers (d e : Dev) : Prop where
  keeps : d.Keeps e (· ∈ wtOffs) [.time, .recd]
  tb : ∀ n, e.tb n = d.tb n
  ptp : ∀ n, e.ptp n = d.ptp n
  qual : ∀ n, e.qual n = d.qual n

section
variable {d0 d : Dev}

theorem Dev.Steers.refl (d : Dev) : d.Steers d := ⟨.refl _ _ _, fun _ => rfl, fun _ => rfl, fun _ => rfl⟩

theorem Dev.Steers.ite {a b : Dev} {p : Prop} [Decidable p] (ha : d0.Steers a) (hb : d0.Steers b) :
    d0.Steers (if p then a else b) := by
  split
  · exact ha
  · exact hb

theorem Dev.Steers.withTime (h : d0.Steers d) (x : TimeSt)
    (hx : (x.tb0 = d.time.tb0 ∧ x.tb1 = d.time.tb1) ∧ x.dom0 = d.time.dom0 ∧ x.dom1 = d.time.dom1 := by
      exact ⟨⟨rfl, rfl⟩, rfl, rfl⟩) : d0.Steers { d with time := x } where
  keeps := h.keeps.withTime x (by simp)
  tb := fun n => by rw [← h.tb n, Dev.tb, Dev.tb, hx.1.1, hx.1.2]
  ptp := fun n => by rw [← h.ptp n, Dev.ptp, Dev.ptp, hx.2.1, hx.2.2]
  qual := h.qual

theorem Dev.qual_put (d : Dev) (f : FldDesc) (v n : Nat) (hf : f.steered) : (d.put f v).qual n = d.qual n := by
  have hq : (qualField n).ok = true ∧ (qualField n).reg = R.WT_STATUS ∧ 24 ≤ (qualField n).lo ∧ (qualField n).hi ≤ 25 := by
    obtain h | h := qualField_cases n <;> rw [h] <;> decide
  obtain ⟨hok, hreg, hlo, hhi⟩ := hq
  exact congrArg (· == 1) (d.get_put_field f (qualField n) v 0 0 hf.1 hok (hreg.trans hf.2.1.symm)
    (by have := hf.2.2; omega))

theorem Dev.Steers.put (h : d0.Steers d) (f : FldDesc) (v : Nat)
    (hf : f.ok = true ∧ f.reg = R.WT_STATUS ∧ (f.hi < 24 ∨ 25 < f.lo) := by decide) : d0.Steers (d.put f v) where
  keeps := h.keeps.put f v 0 0 (by rw [hf.2.1]; simp [wtOffs])
  tb := h.tb
  ptp := h.ptp
  qual := fun n => (d.qual_put f v n hf).trans (h.qual n)

theorem Dev.Steers.of_keeps {e : Dev} {ws : Nat → Prop} (h : d0.Steers d) (k : d.Keeps e ws [.recd])
    (hw : ∀ x, ws x → x ∈ wtOffs) (hs : ¬ws (R.WT_STATUS.off 0 0)) : d0.Steers e where
  keeps := h.keeps.trans (k.mono hw (by simp))
  tb := fun n => (Dev.tb_of_time (k.time.resolve_left (by simp)) n).trans (h.tb n)
  ptp := fun n => (Dev.ptp_of_time (k.time.resolve_left (by simp)) n).trans (h.ptp n)
  qual := fun n => by
    rw [← h.qual n]
    refine congrArg (· == 1) (k.get (qualField n) 0 0 ?_)
    obtain e | e := qualField_cases n <;> rw [e] <;> exact hs

theorem Dev.Steers.setWtRate (h : d0.Steers d) (v : Nat) : d0.Steers (d.setReg R.WT_RATE v) :=
  h.of_keeps ((Dev.Keeps.refl _ (· = R.WT_RATE.off 0 0) _).setReg _ _ _ _ rfl) (by simp [wtOffs]) (by decide)

theorem Dev.Steers.info (h : d0.Steers d) (ev : Ev) (agent p0 p1 p2 : Nat) : d0.Steers (d.info ev agent p0 p1 p2) :=
  h.of_keeps ((Dev.Keeps.refl _ (· ∈ recOffs) _).info _ _ _ _ _ (fun _ hx => hx) (by simp))
    (fun _ hx => by simp [wtOffs, hx]) (by decide)

theorem Dev.Steers.setRate (h : d0.Steers d) (freq phase : Int) : d0.Steers (d.setRate freq phase) :=
  ((h.withTime _).setWtRate _).put _ _

theorem Dev.Steers.steer (h : d0.Steers d) (freq phase : Int) : d0.Steers (d.steer freq phase) := h.setRate _ _

theorem Dev.Steers.measure (h : d0.Steers d) : d0.Steers d.measure := h.withTime _

theorem Dev.Steers.follow (h : d0.Steers d) (dom : Nat) (held : Bool) : d0.Steers (d.follow dom held) := by
  have k : ∀ rate st, d0.Steers ((((d.setRate (d.tb dom).rate rate).put R.WT_STATUS_FOLLOWS (dom + 1)).put
      R.WT_STATUS_STATE st).put R.WT_STATUS_TRUST_EXPIRED 0) := fun _ _ => (((h.setRate _ _).put _ _).put _ _).put _ _
  exact .ite ((k _ _).withTime _) (k _ _)

theorem Dev.Steers.initialStep (h : d0.Steers d) (dom : Nat) : d0.Steers (d.initialStep dom) :=
  (((h.withTime _).setWtRate _).put _ _).put _ _

theorem Dev.Steers.switchTo (h : d0.Steers d) (dom : Nat) : d0.Steers (d.switchTo dom) :=
  ((h.follow _ _).put _ _).info _ _ _ _ _

theorem Dev.Steers.trustNow (h : d0.Steers d) : d0.Steers d.trustNow := .ite ((h.put _ _).info _ _ _ _ _) h

theorem Dev.Steers.enterNoPtp (h : d0.Steers d) : d0.Steers d.enterNoPtp :=
  .trustNow (((((h.measure.put _ _).put _ _).withTime _)).info _ _ _ _ _)

theorem Dev.Steers.toHold (h : d0.Steers d) (dom : Nat) : d0.Steers (d.toHold dom) :=
  .ite h ((h.withTime _).put _ _)

end

end Sys2Proof.Machine
end

section
/-! PROOFS. The selector of the references (R94 to R101): what it moves when a reference loses its activity. -/

namespace Sys2Proof.Machine

/-- The registers that a choice of the selector may move. -/
def selectOffs : List Nat := R.REFSEL_STATUS.off 0 0 :: R.REFSEL_FREQ.off 0 0 :: recOffs

section
variable {d0 d : Dev} {ws : Nat → Prop} {ps : List Part} (hw : ∀ x ∈ selectOffs, ws x) (hr : Part.ref ∈ ps)
  (hc : Part.recd ∈ ps)
include hw hr hc

theorem Dev.Keeps.startPull (h : d0.Keeps d ws ps) (r : Nat) : d0.Keeps (d.startPull r) ws ps := by
  have hs : ws (R.REFSEL_STATUS.off 0 0) := hw _ (by simp [selectOffs])
  have hf : ws (R.REFSEL_FREQ.off 0 0) := hw _ (by simp [selectOffs])
  have hrec : ∀ x ∈ recOffs, ws x := fun x hx => hw x (by simp [selectOffs, hx])
  unfold Dev.startPull
  extract_lets e old a st b c
  have ha : d0.Keeps a ws ps := ((h.put _ _ _ _ hs).bump _ _ _ _ hs).info _ _ _ _ _ hrec hc
  have hb : d0.Keeps b ws ps := (ha.put _ _ _ _ hs).put _ _ _ _ hs
  exact (hb.setReg _ _ _ _ hf).withRef _ hr

theorem Dev.Keeps.loseAll (h : d0.Keeps d ws ps) : d0.Keeps d.loseAll ws ps := by
  have hs : ws (R.REFSEL_STATUS.off 0 0) := hw _ (by simp [selectOffs])
  have hf : ws (R.REFSEL_FREQ.off 0 0) := hw _ (by simp [selectOffs])
  have hrec : ∀ x ∈ recOffs, ws x := fun x hx => hw x (by simp [selectOffs, hx])
  unfold Dev.loseAll
  extract_lets +onlyGivenNames sel a held ref b
  have k : d0.Keeps b ws ps := ((h.put _ _ _ _ hs).put _ _ _ _ hs).withRef _ hr
  clear_value b held
  exact .ite (fun _ => ((k.put _ _ _ _ hs).setReg _ _ _ _ hf).info _ _ _ _ _ hrec hc)
    fun _ => ((k.put _ _ _ _ hs).setReg _ _ _ _ hf).info _ _ _ _ _ hrec hc

theorem Dev.Keeps.select (h : d0.Keeps d ws ps) : d0.Keeps d.select ws ps := by
  unfold Dev.select
  extract_lets e st active
  have k : d0.Keeps e ws ps := h.put _ _ _ _ (hw _ (by simp [selectOffs, R.REFSEL_STATUS_FORCE_LOST]))
  clear_value e
  split
  · exact .ite (fun _ => k) fun _ => k.startPull hw hr hc _
  · exact .ite (fun _ => k.loseAll hw hr hc) fun _ => k

omit hw hc in
theorem Dev.Keeps.stopWtr (h : d0.Keeps d ws ps) (r : Nat) (hs : ws (R.REF_STATUS.off r 0)) :
    d0.Keeps (d.stopWtr r) ws ps :=
  ((h.setRefMon _ _ hr).put _ _ _ _ hs).put _ _ _ _ hs

theorem Dev.Keeps.refActivityLost (h : d0.Keeps d ws ps) (r : Nat) (hs : ws (R.REF_STATUS.off r 0)) :
    d0.Keeps (refActivityLost r d) ws ps :=
  .ite (fun _ => h) fun _ => (((h.put _ _ _ _ hs).put _ _ _ _ hs).stopWtr hr r hs).select hw hr hc

end

/-- The loss of a reference's activity moves its own registers, the selector's and those of the recorder. -/
theorem keeps_refActivityLost (r : Nat) (d : Dev) :
    d.Keeps (refActivityLost r d) (· ∈ refOffs r ++ recOffs) [.ref, .recd] :=
  (Dev.Keeps.refl _ _ _).refActivityLost (fun x hx => by
    simp only [selectOffs, refOffs, List.mem_cons, List.mem_append] at hx ⊢
    tauto) (by simp) (by simp) r (by simp [refOffs])

end Sys2Proof.Machine
end

section
/-! PROOFS. PTP domains and working time (R64, R70 to R75, R84). -/

namespace Sys2Proof.Machine

/-! ### What steering sets -/

/-- Two fields that lie in WT_STATUS, apart from each other. -/
theorem Dev.get_put_wt (d : Dev) (f g : FldDesc) (v : Nat)
    (h : f.ok = true ∧ g.ok = true ∧ g.reg = f.reg ∧ (g.hi < f.lo ∨ f.hi < g.lo)) :
    (d.put f v).get g = d.get g := d.get_put_apart f g v 0 0 h

/-- A counter with its largest value written out. -/
theorem Dev.get_bump_le (d : Dev) (f : FldDesc) (i m : Nat) (h : f.ok = true ∧ 2 ^ (f.hi - f.lo + 1) - 1 = m) :
    (d.bump f i).get f i = min (d.get f i + 1) m := by
  rw [d.get_bump f i 1 0 h.1, h.2]

/-- A field with its width's limit written out. -/
theorem Dev.get_put_lt (d : Dev) (f : FldDesc) (v i j m : Nat) (h : f.ok = true ∧ 2 ^ (f.hi - f.lo + 1) = m) (hv : v < m) :
    (d.put f v i j).get f i j = v := by
  rw [d.get_put f v i j h.1, h.2, Nat.mod_eq_of_lt hv]

theorem Dev.get_of_info (d : Dev) (ev : Ev) (agent p0 p1 p2 : Nat) (f : FldDesc) (i j : Nat)
    (hf : f.reg.off i j ∉ recOffs) : (d.info ev agent p0 p1 p2).get f i j = d.get f i j :=
  ((Dev.Keeps.refl _ (· ∈ recOffs) [.recd]).info _ _ _ _ _ (fun _ hx => hx) (by simp)).get f i j hf

theorem Dev.time_info (d : Dev) (ev : Ev) (agent p0 p1 p2 : Nat) : (d.info ev agent p0 p1 p2).time = d.time :=
  ((Dev.Keeps.refl _ (· ∈ recOffs) [.recd]).info _ _ _ _ _ (fun _ hx => hx) (by simp)).time.resolve_left (by simp)

theorem Dev.wt_info (d : Dev) (ev : Ev) (agent p0 p1 p2 : Nat) : (d.info ev agent p0 p1 p2).wt = d.wt :=
  ((Dev.Keeps.refl _ (· ∈ recOffs) [.recd]).info _ _ _ _ _ (fun _ hx => hx) (by simp)).wt (by simp)

theorem Dev.now_setRate (d : Dev) (freq phase : Int) : (d.setRate freq phase).now = d.now := by
  rw [Dev.setRate, Dev.put_now, Dev.setReg_now]

theorem Dev.time_setRate (d : Dev) (freq phase : Int) : (d.setRate freq phase).time =
    { d.time with wt := d.time.wt.retime d.now (freq + phase), freq := freq, phase := phase, rateAt := d.now } := by
  rw [Dev.setRate, Dev.put_time, Dev.setReg_time]

/-- Working time goes on from its value when its rate changes (R74). -/
theorem Dev.wt_setRate (d : Dev) (freq phase : Int) : (d.setRate freq phase).wt = d.wt := by
  rw [Dev.wt, Dev.time_setRate, Dev.now_setRate, Anchor.read_retime, ← Dev.wt]

/-- A change of the rate leaves every field of WT_STATUS but SLEWING alone. -/
theorem Dev.get_setRate (d : Dev) (freq phase : Int) (f : FldDesc)
    (hf : f.ok = true ∧ f.reg = R.WT_STATUS ∧ (f.hi < 27 ∨ 27 < f.lo)) : (d.setRate freq phase).get f = d.get f := by
  rw [Dev.setRate, Dev.get_put_field _ _ f _ 0 0 (by decide) hf.1 hf.2.1 hf.2.2,
    Dev.get_setReg_ne _ _ _ _ _ _ _ _ (by rw [hf.2.1]; decide), Dev.get_withTime]

/-- Following a domain is never a step (R72). -/
theorem Dev.wt_follow (d : Dev) (dom : Nat) (held : Bool) : (d.follow dom held).wt = d.wt := by
  unfold Dev.follow
  extract_lets +onlyGivenNames off hold rate fr a b c
  have hc : c.wt = d.wt := by rw [Dev.put_wt, Dev.put_wt, Dev.put_wt, Dev.wt_setRate]
  clear_value c
  split
  · exact (Dev.wt_withTime _ rfl).trans hc
  · exact hc

theorem Dev.wt_switchTo (d : Dev) (dom : Nat) : (d.switchTo dom).wt = d.wt := by
  rw [Dev.switchTo, Dev.wt_info, Dev.bump, Dev.put_wt, Dev.wt_follow]

/-- A domain that is followed is named, and no switch is counted for that (R72). -/
theorem Dev.get_follow (d : Dev) (dom : Nat) (held : Bool) (hd : dom < 2) :
    (d.follow dom held).get R.WT_STATUS_FOLLOWS = dom + 1 ∧
      (d.follow dom held).get R.WT_STATUS_SWITCHES = d.get R.WT_STATUS_SWITCHES := by
  unfold Dev.follow
  extract_lets +onlyGivenNames off hold rate fr a b c
  have hf : c.get R.WT_STATUS_FOLLOWS = dom + 1 := by
    rw [Dev.get_put_wt _ _ _ _ (by decide), Dev.get_put_wt _ _ _ _ (by decide),
      Dev.get_put_lt _ _ _ _ _ 4 (by decide) (by omega)]
  have hs : c.get R.WT_STATUS_SWITCHES = d.get R.WT_STATUS_SWITCHES := by
    rw [Dev.get_put_wt _ _ _ _ (by decide), Dev.get_put_wt _ _ _ _ (by decide), Dev.get_put_wt _ _ _ _ (by decide),
      Dev.get_setRate _ _ _ _ (by decide)]
  clear_value c
  split
  · exact ⟨(Dev.get_withTime _ _ _ _ _).trans hf, (Dev.get_withTime _ _ _ _ _).trans hs⟩
  · exact ⟨hf, hs⟩

/-- A switch of the followed domain names it and counts (R76). -/
theorem Dev.get_switchTo (d : Dev) (dom : Nat) (hd : dom < 2) :
    (d.switchTo dom).get R.WT_STATUS_FOLLOWS = dom + 1 ∧
      (d.switchTo dom).get R.WT_STATUS_SWITCHES = min (d.get R.WT_STATUS_SWITCHES + 1) 255 := by
  obtain ⟨hf, hs⟩ := d.get_follow dom (d.wtState = wtOffsetHold) hd
  constructor
  · rw [Dev.switchTo, Dev.get_of_info _ _ _ _ _ _ _ _ _ (by decide), Dev.bump, Dev.get_put_wt _ _ _ _ (by decide)]
    exact hf
  · rw [Dev.switchTo, Dev.get_of_info _ _ _ _ _ _ _ _ _ (by decide), Dev.get_bump_le _ _ _ 255 (by decide), hs]

theorem Dev.get_trustNow (d : Dev) (f : FldDesc) (hr : f.reg = R.WT_STATUS)
    (hf : f.ok = true ∧ (f.hi < 26 ∨ 26 < f.lo)) : d.trustNow.get f = d.get f := by
  unfold Dev.trustNow
  split
  · rw [Dev.get_of_info _ _ _ _ _ _ _ _ _ (by rw [hr]; decide)]
    exact d.get_put_field _ f _ 0 0 (by decide) hf.1 hr hf.2
  · rfl

theorem Dev.time_trustNow (d : Dev) : d.trustNow.time = d.time := by
  unfold Dev.trustNow
  split
  · rw [Dev.time_info, Dev.put_time]
  · rfl

/-- Working time without a domain goes on as it was (R72). -/
theorem Dev.enterNoPtp_sets (d : Dev) :
    d.enterNoPtp.wtState = wtNoPtp ∧ d.enterNoPtp.get R.WT_STATUS_FOLLOWS = 0 ∧ d.enterNoPtp.time.wt = d.time.wt := by
  unfold Dev.enterNoPtp
  extract_lets +onlyGivenNames a b
  have hs : a.get R.WT_STATUS_STATE = wtNoPtp := by
    rw [Dev.get_put_wt _ _ _ _ (by decide), Dev.get_put _ _ _ _ _ (by decide)]
    rfl
  have hf : a.get R.WT_STATUS_FOLLOWS = 0 := Dev.get_put _ _ _ _ _ (by decide)
  have ht : a.time.wt = d.time.wt := by rw [Dev.put_time, Dev.put_time, Dev.measure]
  clear_value a
  refine ⟨?_, ?_, ?_⟩
  · rw [Dev.wtState, Dev.get_trustNow _ _ rfl (by decide), Dev.get_of_info _ _ _ _ _ _ _ _ _ (by decide),
      Dev.get_withTime, hs]
  · rw [Dev.get_trustNow _ _ rfl (by decide), Dev.get_of_info _ _ _ _ _ _ _ _ _ (by decide), Dev.get_withTime, hf]
  · rw [Dev.time_trustNow, Dev.time_info, ht]


/-! ### Domains -/

theorem Dev.qual_eq (d : Dev) (dom : Nat) : d.qual dom = d.on (qualField dom) := rfl

theorem Dev.setQual_eq (d : Dev) (dom : Nat) (q : Bool) :
    d.setQual dom q = (d.put R.TB_STATUS_QUAL (b2n q) dom).put (qualField dom) (b2n q) := rfl

theorem qualField_apart {dom : Nat} (hd : dom < 2) :
    (qualField (1 - dom)).hi < (qualField dom).lo ∨ (qualField dom).hi < (qualField (1 - dom)).lo := by
  interval_cases dom <;> decide

theorem qualField_ok (dom : Nat) : (qualField dom).ok = true ∧ (qualField dom).reg = R.WT_STATUS := by
  obtain h | h := qualField_cases dom <;> rw [h] <;> decide

theorem Dev.qual_setQual (d : Dev) (dom : Nat) (q : Bool) : (d.setQual dom q).qual dom = q := by
  have h : (d.setQual dom q).get (qualField dom) = b2n q := by
    rw [Dev.setQual_eq, Dev.get_put_lt _ _ _ _ _ 2 (by obtain h | h := qualField_cases dom <;> rw [h] <;> decide)
      (by cases q <;> decide)]
  rw [Dev.qual_eq, Dev.on, h]
  cases q <;> rfl

theorem tbStatus_ne_wtStatus (dom : Nat) : R.TB_STATUS.off dom 0 ≠ R.WT_STATUS.off 0 0 := by
  simp only [RegDesc.off, R.TB_STATUS, R.WT_STATUS]
  omega

/-- The qualification of one domain is not that of the other. -/
theorem Dev.qual_setQual_other (d : Dev) {dom : Nat} (hd : dom < 2) (q : Bool) :
    (d.setQual dom q).qual (1 - dom) = d.qual (1 - dom) := by
  rw [Dev.qual_eq, Dev.on, Dev.setQual_eq, Dev.get_put_field _ (qualField dom) (qualField (1 - dom)) _ 0 0
      (qualField_ok dom).1 (qualField_ok _).1 ((qualField_ok _).2.trans (qualField_ok dom).2.symm) (qualField_apart hd),
    Dev.get_put_ne _ _ _ _ _ _ _ _ (by rw [(qualField_ok (1 - dom)).2]; exact (tbStatus_ne_wtStatus dom).symm)]
  rfl

/-- The other fields of TBn_STATUS and WT_STATUS stay when a domain's qualification is set. -/
theorem Dev.get_setQual (d : Dev) (dom : Nat) (q : Bool) (f : FldDesc) (i : Nat) (hf : f.ok = true)
    (h : (f.reg = R.TB_STATUS ∧ i = dom ∧ f.hi < 31) ∨ (f.reg = R.WT_STATUS ∧ i = 0 ∧ (f.hi < 24 ∨ 25 < f.lo))) :
    (d.setQual dom q).get f i = d.get f i := by
  have hq := qualField_ok dom
  rw [Dev.setQual_eq]
  obtain ⟨hr, rfl, hhi⟩ | ⟨hr, rfl, hb⟩ := h
  · rw [Dev.get_put_ne _ _ _ _ _ _ _ _ (by rw [hr, hq.2]; exact tbStatus_ne_wtStatus _)]
    exact d.get_put_field _ f _ _ 0 (by decide) hf hr (.inl hhi)
  · have hb' : f.hi < (qualField dom).lo ∨ (qualField dom).hi < f.lo := by
      obtain h | h := qualField_cases dom <;> rw [h] <;> simp only [R.WT_STATUS_TB0_QUAL, R.WT_STATUS_TB1_QUAL] <;> omega
    rw [Dev.get_put_field _ _ f _ 0 0 hq.1 hf (hr.trans hq.2.symm) hb',
      Dev.get_put_ne _ _ _ _ _ _ _ _ (by rw [hr]; exact (tbStatus_ne_wtStatus _).symm)]

/-- What the time of domain `dom` may move: its own registers, those of working time, and those of its reference. -/
abbrev Dev.KeepsDomain (d e : Dev) (dom : Nat) : Prop := d.Keeps e (· ∈ timeOffs dom) [.time, .ref, .recd]

section
variable {d0 d : Dev} {dom : Nat}

theorem Dev.KeepsDomain.status (h : d0.KeepsDomain d dom) (f : FldDesc) (v : Nat) (hf : f.reg = R.TB_STATUS) :
    d0.KeepsDomain (d.put f v dom) dom :=
  Dev.Keeps.put h f v dom 0 (by rw [hf]; simp [timeOffs])

theorem Dev.KeepsDomain.setQual (h : d0.KeepsDomain d dom) (q : Bool) : d0.KeepsDomain (d.setQual dom q) dom :=
  Dev.Keeps.put (h.status R.TB_STATUS_QUAL _ rfl) (qualField dom) _ _ _ (by rw [(qualField_ok dom).2]; simp [timeOffs])

theorem Dev.KeepsDomain.steers {e : Dev} (h : d0.KeepsDomain d dom) (k : d.Steers e) : d0.KeepsDomain e dom :=
  h.trans (k.keeps.mono (fun x hx => by
    simp only [wtOffs, timeOffs, List.mem_cons, List.mem_append] at hx ⊢
    tauto) (by simp))

end

/-- A domain without its good intervals and its qualification. -/
def Dev.unqualified (d : Dev) (dom : Nat) : Dev := (d.setPtp dom { d.ptp dom with good := 0 }).setQual dom false

theorem Dev.time_setQual (d : Dev) (dom : Nat) (q : Bool) : (d.setQual dom q).time = d.time := by
  rw [Dev.setQual_eq, Dev.put_time, Dev.put_time]

theorem Dev.unqualified_sets (d : Dev) (dom : Nat) :
    (∀ n, (d.unqualified dom).tb n = d.tb n) ∧ (d.unqualified dom).ptp dom = { d.ptp dom with good := 0 } ∧
      (d.unqualified dom).qual dom = false :=
  ⟨fun n => (Dev.tb_of_time (Dev.time_setQual _ _ _) n).trans (d.tb_setPtp dom n _),
    (Dev.ptp_of_time (Dev.time_setQual _ _ _) dom).trans (d.ptp_setPtp dom _), Dev.qual_setQual _ _ _⟩

theorem Dev.get_unqualified (d : Dev) (dom : Nat) (f : FldDesc) (i : Nat) (hf : f.ok = true)
    (h : (f.reg = R.TB_STATUS ∧ i = dom ∧ f.hi < 31) ∨ (f.reg = R.WT_STATUS ∧ i = 0 ∧ (f.hi < 24 ∨ 25 < f.lo))) :
    (d.unqualified dom).get f i = d.get f i :=
  (Dev.get_setQual _ dom false f i hf h).trans (d.get_setPtp dom _ f i 0)

/-- A domain loses its qualification, its numeric reference then its activity, and last working time is steered (R72, R75,
R94). -/
theorem Dev.disqualify_goes (d : Dev) (dom : Nat) :
    ∃ e, (d.unqualified dom).Keeps e (· ∈ refOffs (10 + dom) ++ recOffs) [.ref, .recd] ∧ e.Steers (d.disqualify dom) := by
  refine ⟨if d.qual dom = true then refActivityLost (10 + dom) (d.unqualified dom) else d.unqualified dom, ?_, ?_⟩
  · exact .ite (fun _ => keeps_refActivityLost _ _) fun _ => .refl _ _ _
  · exact .ite (.ite ((Dev.Steers.refl _).switchTo _) (Dev.Steers.refl _).enterNoPtp) (.refl _)

/-- The one that is followed, with no other to follow, leaves working time in NO_PTP (R72). -/
theorem Dev.disqualify_of_last {d : Dev} {dom : Nat} (hd : dom < 2) (hq : d.qual dom = true)
    (hf : d.get R.WT_STATUS_FOLLOWS = dom + 1) (ho : d.qual (1 - dom) = false) :
    d.disqualify dom = (refActivityLost (10 + dom) (d.unqualified dom)).enterNoPtp := by
  have k := keeps_refActivityLost (10 + dom) (d.unqualified dom)
  have hn : R.WT_STATUS.off 0 0 ∉ refOffs (10 + dom) ++ recOffs := by interval_cases dom <;> decide
  have hf' : (refActivityLost (10 + dom) (d.unqualified dom)).get R.WT_STATUS_FOLLOWS = dom + 1 :=
    (k.get R.WT_STATUS_FOLLOWS 0 0 hn).trans ((d.get_unqualified dom _ 0 (by decide) (.inr (by decide))).trans hf)
  have ho' : (refActivityLost (10 + dom) (d.unqualified dom)).qual (1 - dom) = false := by
    rw [← ho, Dev.qual_eq, Dev.on, k.get (qualField (1 - dom)) 0 0 (by rw [(qualField_ok _).2]; exact hn)]
    exact (Dev.qual_setQual_other _ hd _).trans (congrArg (· == 1) (d.get_setPtp dom _ _ 0 0))
  unfold Dev.disqualify
  extract_lets +onlyGivenNames was p a b
  have hb : b = refActivityLost (10 + dom) (d.unqualified dom) := if_pos hq
  rw [hb, if_pos (by simp [was, hq, hf']), if_neg (by simp [ho'])]

theorem tbStatus_notMem_refOffs {dom : Nat} (hd : dom < 2) : R.TB_STATUS.off dom 0 ∉ refOffs (10 + dom) ++ recOffs := by
  interval_cases dom <;> decide

theorem wtStatus_notMem_refOffs {dom : Nat} (hd : dom < 2) : R.WT_STATUS.off 0 0 ∉ refOffs (10 + dom) ++ recOffs := by
  interval_cases dom <;> decide

theorem tbStatus_notMem_wtOffs {dom : Nat} (hd : dom < 2) : R.TB_STATUS.off dom 0 ∉ wtOffs := by
  interval_cases dom <;> decide

/-- What is so of a domain that has lost its qualification. -/
theorem Dev.disqualify_sets (d : Dev) {dom : Nat} (hd : dom < 2) :
    (∀ n, (d.disqualify dom).tb n = d.tb n) ∧ (d.disqualify dom).ptp dom = { d.ptp dom with good := 0 } ∧
      (d.disqualify dom).qual dom = false := by
  obtain ⟨e, k, h⟩ := d.disqualify_goes dom
  obtain ⟨htb, hptp, hq⟩ := d.unqualified_sets dom
  have ht : e.time = (d.unqualified dom).time := k.time.resolve_left (by simp)
  refine ⟨fun n => ?_, ?_, ?_⟩
  · rw [h.tb, Dev.tb_of_time ht, htb]
  · rw [h.ptp, Dev.ptp_of_time ht, hptp]
  · rw [h.qual, ← hq]
    exact congrArg (· == 1) (k.get (qualField dom) 0 0 (by rw [(qualField_ok _).2]; exact wtStatus_notMem_refOffs hd))

theorem Dev.get_disqualify (d : Dev) {dom : Nat} (hd : dom < 2) (f : FldDesc) (hf : f.ok = true) (hr : f.reg = R.TB_STATUS)
    (hq : f.hi < 31) : (d.disqualify dom).get f dom = d.get f dom := by
  obtain ⟨e, k, h⟩ := d.disqualify_goes dom
  rw [h.keeps.get f dom 0 (by rw [hr]; exact tbStatus_notMem_wtOffs hd),
    k.get f dom 0 (by rw [hr]; exact tbStatus_notMem_refOffs hd), d.get_unqualified dom f dom hf (.inl ⟨hr, rfl, hq⟩)]

theorem Dev.KeepsDomain.disqualify {d0 d : Dev} {dom : Nat} (h : d0.KeepsDomain d dom) :
    d0.KeepsDomain (d.disqualify dom) dom := by
  obtain ⟨e, k, hs⟩ := d.disqualify_goes dom
  have h1 : d0.KeepsDomain (d.unqualified dom) dom := Dev.KeepsDomain.setQual (Dev.Keeps.setPtp h _ _ (by simp)) _
  exact Dev.KeepsDomain.steers (h1.trans (k.mono (fun x hx => by
    simp only [timeOffs, List.mem_append] at hx ⊢
    tauto) (by simp))) hs

/-- A domain qualifies unless it is, and last working time is steered (R72). -/
theorem Dev.qualify_goes (d : Dev) (dom : Nat) :
    ∃ e, (e = d ∧ d.qual dom = true ∨ e = d.setQual dom true) ∧ e.Steers (d.qualify dom) := by
  by_cases hq : d.qual dom = true
  · exact ⟨d, .inl ⟨rfl, hq⟩, by rw [Dev.qualify, if_pos hq]; exact .refl d⟩
  · refine ⟨d.setQual dom true, .inr rfl, ?_⟩
    rw [Dev.qualify, if_neg hq]
    have h := Dev.Steers.refl (d.setQual dom true)
    extract_lets +onlyGivenNames e st f
    have hf : e.Steers f := (h.follow _ _).info _ _ _ _ _
    clear_value f
    split
    · exact .ite (h.initialStep _) h
    · split
      · exact hf.withTime _
      · split
        · exact .ite (h.follow _ _) (h.initialStep _)
        · exact h

theorem Dev.qualify_sets (d : Dev) (dom : Nat) :
    (∀ n, (d.qualify dom).tb n = d.tb n) ∧ (∀ n, (d.qualify dom).ptp n = d.ptp n) ∧ (d.qualify dom).qual dom = true := by
  obtain ⟨e, he, h⟩ := d.qualify_goes dom
  obtain ⟨rfl, hq⟩ | rfl := he
  · exact ⟨h.tb, h.ptp, (h.qual _).trans hq⟩
  · exact ⟨fun n => (h.tb n).trans (Dev.tb_of_time (Dev.time_setQual _ _ _) n),
      fun n => (h.ptp n).trans (Dev.ptp_of_time (Dev.time_setQual _ _ _) n), (h.qual _).trans (Dev.qual_setQual _ _ _)⟩

theorem Dev.KeepsDomain.qualify {d0 d : Dev} {dom : Nat} (h : d0.KeepsDomain d dom) :
    d0.KeepsDomain (d.qualify dom) dom := by
  obtain ⟨e, he, hs⟩ := d.qualify_goes dom
  obtain ⟨rfl, -⟩ | rfl := he
  · exact h.steers hs
  · exact (h.setQual true).steers hs

/-- A qualification leaves the other fields of TBn_STATUS alone, and the base's rate. -/
theorem Dev.get_qualify (d : Dev) {dom : Nat} (hd : dom < 2) :
    (∀ f, f.reg = R.TB_STATUS → f.ok = true ∧ f.hi < 31 → (d.qualify dom).get f dom = d.get f dom) ∧
      (d.qualify dom).reg R.TB_RATE_ADJ dom = d.reg R.TB_RATE_ADJ dom := by
  obtain ⟨e, he, h⟩ := d.qualify_goes dom
  have hr : R.TB_RATE_ADJ.off dom 0 ∉ wtOffs := by interval_cases dom <;> decide
  have h1 : (d.qualify dom).reg R.TB_RATE_ADJ dom = e.reg R.TB_RATE_ADJ dom := h.keeps.reg _ _ _ hr
  have h2 : ∀ f, f.reg = R.TB_STATUS → (d.qualify dom).get f dom = e.get f dom := fun f hf =>
    h.keeps.get f dom 0 (by rw [hf]; exact tbStatus_notMem_wtOffs hd)
  obtain ⟨rfl, -⟩ | rfl := he
  · exact ⟨fun f hf _ => h2 f hf, h1⟩
  · refine ⟨fun f hf hk => (h2 f hf).trans (d.get_setQual dom true f dom hk.1 (.inl ⟨hf, rfl, hk.2⟩)), h1.trans ?_⟩
    rw [Dev.setQual_eq, Dev.reg_put_ne _ _ _ _ _ _ _ _ (by rw [(qualField_ok dom).2]; interval_cases dom <;> decide),
      Dev.reg_put_ne _ _ _ _ _ _ _ _ (by interval_cases dom <;> decide)]

/-! ### The servo -/

/-- A sync message more than 10 µs from the base steps it (R70). -/
theorem Dev.servo_far {d : Dev} {off : Int} (h : 40000 < off.natAbs) (dom st : Nat) (rate phase : Int) :
    d.servo dom st off rate phase =
      ((d.setTb dom ⟨d.now, (((d.tb dom).read d.now : Int) - off).toNat, (d.tb dom).rate⟩).bump R.TB_STATUS_STEPS
        dom).disqualify dom := by
  unfold Dev.servo
  rw [if_pos (by omega)]

/-- What a sync message within 10 µs makes of the base's domain: its rate, and the good intervals (R70, R75). -/
def Dev.served (d : Dev) (dom : Nat) (rate : Int) (good : Nat) : Dev :=
  ((d.setTb dom ((d.tb dom).retime d.now rate)).setReg R.TB_RATE_ADJ (ofSigned 32 rate) dom).setPtp dom
    { d.ptp dom with good := good }

/-- A sync message within 10 µs: the 16th good interval qualifies the domain, and last working time is steered. -/
theorem Dev.servo_near {d : Dev} {off : Int} (h : ¬40000 < off.natAbs) (dom st : Nat) (rate phase : Int) {good : Nat}
    (hg : (if st = 9 ∧ off.natAbs ≤ 4000 then min 16 ((d.ptp dom).good + 1) else 0) = good) {e : Dev}
    (he : (if good = 16 ∧ (d.served dom rate good).get R.TB_STATUS_GM_CLASS dom < 248 then
      (d.served dom rate good).qualify dom else d.served dom rate good) = e) :
    e.Steers (d.servo dom st off rate phase) := by
  unfold Dev.servo
  rw [if_neg (by omega)]
  extract_lets +onlyGivenNames a p g b c
  have hp : p = d.ptp dom := by
    simp only [p, a]
    exact d.ptp_setTb dom dom _
  have hgg : g = good := by
    rw [← hg, ← hp]
    simp only [g, Bool.and_eq_true, decide_eq_true_eq]
  have hb : b = d.served dom rate good := by
    rw [Dev.served, ← hgg, ← hp]
  have hc : c = e := by
    rw [← he, ← hb, ← hgg]
    simp only [c, Bool.and_eq_true, decide_eq_true_eq]
  rw [hc]
  split
  · exact .ite ((Dev.Steers.refl e).steer _ _) (((Dev.Steers.refl e).toHold _).steer _ _)
  · exact .refl e

theorem Dev.KeepsDomain.served {d0 d : Dev} {dom : Nat} (h : d0.KeepsDomain d dom) (rate : Int) (good : Nat) :
    d0.KeepsDomain (d.served dom rate good) dom :=
  ((Dev.Keeps.setTb h _ _ (by simp)).setReg _ _ _ _ (by simp [timeOffs])).setPtp _ _ (by simp)

theorem tbStatus_ne_rateAdj (dom : Nat) : R.TB_STATUS.off dom 0 ≠ R.TB_RATE_ADJ.off dom 0 := by
  simp only [RegDesc.off, R.TB_STATUS, R.TB_RATE_ADJ]
  omega

theorem ofSigned_lt (w : Nat) (v : Int) : ofSigned w v < 2 ^ w := by
  have hp : (0 : Int) < 2 ^ w := by positivity
  have h := Int.emod_lt_of_pos v hp
  unfold ofSigned
  rw [← Int.ofNat_lt, Int.toNat_of_nonneg (Int.emod_nonneg _ hp.ne')]
  exact_mod_cast h

theorem Dev.served_sets (d : Dev) (dom : Nat) (rate : Int) (good : Nat) :
    (d.served dom rate good).tb dom = (d.tb dom).retime d.now rate ∧ ((d.served dom rate good).ptp dom).good = good ∧
      (d.served dom rate good).reg R.TB_RATE_ADJ dom = ofSigned 32 rate ∧
      ∀ f, f.reg = R.TB_STATUS → (d.served dom rate good).get f dom = d.get f dom := by
  have hreg : ∀ (e : Dev) p, (e.setPtp dom p).reg R.TB_RATE_ADJ dom = e.reg R.TB_RATE_ADJ dom := fun e p => by
    unfold Dev.setPtp
    split <;> rfl
  refine ⟨?_, ?_, ?_, fun f hf => ?_⟩
  · rw [Dev.served, Dev.tb_setPtp, Dev.tb_of_time (Dev.setReg_time _ _ _ _ _), Dev.tb_setTb]
  · rw [Dev.served, Dev.ptp_setPtp]
  · rw [Dev.served, hreg, Dev.reg_setReg, Nat.mod_eq_of_lt (ofSigned_lt 32 rate)]
  · rw [Dev.served, Dev.get_setPtp, Dev.get_setReg_ne _ _ _ _ _ _ _ _ (by rw [hf]; exact tbStatus_ne_rateAdj dom),
      Dev.get_setTb]

/-! ### Messages -/

theorem exec_ptpMessageReceived (t dom port : Nat) (m : PtpMessage) (s : State) :
    exec (.ptpMessageReceived t dom port m) s = s.onDev t (ptpMessage dom port m) := rfl

/-- A message that its domain takes: the domain runs, in a phase that has time, and the port is one of its ports. -/
structure Dev.TakesPtp (d : Dev) (dom port : Nat) : Prop where
  runs : d.domRuns dom = true
  begun : phaseTime ≤ d.phase
  lasts : d.phase ≤ phaseRunning
  port : bit (d.ptp dom).mask port = true

theorem Dev.TakesPtp.not_dropped {d : Dev} {dom port : Nat} (h : d.TakesPtp dom port) :
    ¬(d.phase < phaseTime || phaseRunning < d.phase || !d.domRuns dom || !bit (d.ptp dom).mask port) = true := by
  have h1 := h.begun
  have h2 := h.lasts
  simp [h.runs, h.port, h1, h2]

/-- The state and the port of a message's domain (R75, R78). -/
def Dev.heard (d : Dev) (dom port st : Nat) : Dev := (d.put R.TB_STATUS_PORT_STATE st dom).put R.TB_STATUS_PORT port dom

theorem Dev.keepsDomain_heard (d : Dev) (dom port st : Nat) : d.KeepsDomain (d.heard dom port st) dom :=
  Dev.KeepsDomain.status (Dev.KeepsDomain.status (Dev.Keeps.refl _ _ _) _ _ rfl) _ _ rfl

theorem Dev.time_heard (d : Dev) (dom port st : Nat) : (d.heard dom port st).time = d.time := by
  rw [Dev.heard, Dev.put_time, Dev.put_time]

theorem Dev.now_heard (d : Dev) (dom port st : Nat) : (d.heard dom port st).now = d.now := by
  rw [Dev.heard, Dev.put_now, Dev.put_now]

theorem Dev.get_heard_portState (d : Dev) (dom port st : Nat) :
    (d.heard dom port st).get R.TB_STATUS_PORT_STATE dom = st % 16 := by
  rw [Dev.heard, Dev.get_put_apart _ _ _ _ _ _ (by decide), Dev.get_put _ _ _ _ _ (by decide)]
  rfl

theorem Dev.get_heard (d : Dev) (dom port st : Nat) (f : FldDesc) (hr : f.reg = R.TB_STATUS)
    (hf : f.ok = true ∧ f.hi < 20) : (d.heard dom port st).get f dom = d.get f dom := by
  rw [Dev.heard, Dev.get_put_apart _ _ f _ _ _ ⟨by decide, hf.1, hr, .inl hf.2⟩,
    Dev.get_put_apart _ _ f _ _ _ ⟨by decide, hf.1, hr, .inl (lt_trans hf.2 (by decide))⟩]

theorem ptpMessage_sync {d : Dev} {dom port : Nat} (h : d.TakesPtp dom port) (st : Nat) (off rate phase : Int) :
    ptpMessage dom port (.sync st off rate phase) d = (d.heard dom port st).servo dom st off rate phase := by
  unfold ptpMessage
  rw [if_neg h.not_dropped]
  rfl

/-- A sync message more than 10 µs from its base steps the base and disqualifies its domain (R70, R75). -/
theorem sync_far_sets {d : Dev} {dom port : Nat} (hd : dom < 2) (h : d.TakesPtp dom port) (st : Nat) {off : Int}
    (rate phase : Int) (ho : 40000 < off.natAbs) {e : Dev} (he : ptpMessage dom port (.sync st off rate phase) d = e) :
    e.tb dom = ⟨d.now, (((d.tb dom).read d.now : Int) - off).toNat, (d.tb dom).rate⟩ ∧
      e.get R.TB_STATUS_STEPS dom = min (d.get R.TB_STATUS_STEPS dom + 1) 255 ∧ e.qual dom = false ∧
      (e.ptp dom).good = 0 ∧ e.get R.TB_STATUS_PORT_STATE dom = st % 16 ∧ d.KeepsDomain e dom := by
  rw [ptpMessage_sync h, Dev.servo_far ho, Dev.now_heard, Dev.tb_of_time (Dev.time_heard _ _ _ _)] at he
  generalize ha : Anchor.mk d.now (((d.tb dom).read d.now : Int) - off).toNat (d.tb dom).rate = a at he ⊢
  generalize hb : ((d.heard dom port st).setTb dom a).bump R.TB_STATUS_STEPS dom = b at he
  subst he
  obtain ⟨htb, hptp, hq⟩ := b.disqualify_sets hd
  have hk : d.KeepsDomain b dom := by
    rw [← hb]
    exact Dev.KeepsDomain.status (Dev.Keeps.setTb (d.keepsDomain_heard dom port st) _ _ (by simp)) _ _ rfl
  refine ⟨?_, ?_, hq, by rw [hptp], ?_, hk.disqualify⟩
  · rw [htb, ← hb, Dev.tb_of_time (Dev.bump_time _ _ _ _ _), Dev.tb_setTb]
  · rw [b.get_disqualify hd _ (by decide) rfl (by decide), ← hb, Dev.get_bump_le _ _ _ 255 (by decide), Dev.get_setTb,
      d.get_heard _ _ _ _ rfl (by decide)]
  · rw [b.get_disqualify hd _ (by decide) rfl (by decide), ← hb, Dev.bump, Dev.get_put_apart _ _ _ _ _ _ (by decide),
      Dev.get_setTb, d.get_heard_portState]

/-- A sync message within 10 µs of its base sets the base's rate, and its 16th good interval qualifies the domain (R70,
R75). -/
theorem sync_near_sets {d : Dev} {dom port : Nat} (hd : dom < 2) (h : d.TakesPtp dom port) (st : Nat) {off : Int}
    (rate phase : Int) (ho : ¬40000 < off.natAbs) {good : Nat}
    (hg : (if st = 9 ∧ off.natAbs ≤ 4000 then min 16 ((d.ptp dom).good + 1) else 0) = good) {e : Dev}
    (he : ptpMessage dom port (.sync st off rate phase) d = e) :
    e.tb dom = (d.tb dom).retime d.now rate ∧ (e.ptp dom).good = good ∧
      e.reg R.TB_RATE_ADJ dom = ofSigned 32 rate ∧
      (good = 16 → d.get R.TB_STATUS_GM_CLASS dom < 248 → e.qual dom = true) ∧
      e.get R.TB_STATUS_PORT_STATE dom = st % 16 ∧ d.KeepsDomain e dom := by
  have hp : (d.heard dom port st).ptp dom = d.ptp dom := Dev.ptp_of_time (Dev.time_heard _ _ _ _) dom
  rw [ptpMessage_sync h] at he
  rw [← hp] at hg
  generalize hc : (if good = 16 ∧ ((d.heard dom port st).served dom rate good).get R.TB_STATUS_GM_CLASS dom < 248 then
    ((d.heard dom port st).served dom rate good).qualify dom else (d.heard dom port st).served dom rate good) = c
  have hs : c.Steers e := he ▸ Dev.servo_near ho dom st rate phase hg hc
  obtain ⟨htb, hgood, hreg, hget⟩ := (d.heard dom port st).served_sets dom rate good
  have hk := (d.keepsDomain_heard dom port st).served rate good
  have hgm := (hget R.TB_STATUS_GM_CLASS rfl).trans (d.get_heard dom port st _ rfl (by decide))
  have hst := (hget R.TB_STATUS_PORT_STATE rfl).trans (d.get_heard_portState dom port st)
  rw [Dev.tb_of_time (Dev.time_heard _ _ _ _), Dev.now_heard] at htb
  rw [hgm] at hc
  generalize hb : (d.heard dom port st).served dom rate good = b at *
  have hc' : c.tb dom = b.tb dom ∧ (c.ptp dom).good = (b.ptp dom).good ∧
      c.reg R.TB_RATE_ADJ dom = b.reg R.TB_RATE_ADJ dom ∧
      (good = 16 → d.get R.TB_STATUS_GM_CLASS dom < 248 → c.qual dom = true) ∧
      c.get R.TB_STATUS_PORT_STATE dom = b.get R.TB_STATUS_PORT_STATE dom ∧ d.KeepsDomain c dom := by
    by_cases hq : good = 16 ∧ d.get R.TB_STATUS_GM_CLASS dom < 248
    · rw [if_pos hq] at hc
      subst hc
      obtain ⟨qtb, qptp, qual⟩ := b.qualify_sets dom
      obtain ⟨qget, qreg⟩ := b.get_qualify hd
      exact ⟨qtb dom, by rw [qptp], qreg, fun _ _ => qual, qget _ rfl (by decide), hk.qualify⟩
    · rw [if_neg hq] at hc
      subst hc
      exact ⟨rfl, rfl, rfl, fun h1 h2 => absurd ⟨h1, h2⟩ hq, rfl, hk⟩
  obtain ⟨ctb, cgood, creg, cqual, cst, ck⟩ := hc'
  refine ⟨(hs.tb dom).trans (ctb.trans htb), ?_, ?_, fun h1 h2 => (hs.qual dom).trans (cqual h1 h2), ?_, ck.steers hs⟩
  · rw [hs.ptp, cgood, hgood]
  · exact (hs.keeps.reg _ _ _ (by interval_cases dom <;> decide)).trans (creg.trans hreg)
  · exact (hs.keeps.get _ _ _ (tbStatus_notMem_wtOffs hd)).trans (cst.trans hst)


/-- An announcement sets the port state, the class and the grandmaster; a new grandmaster, or a class from 248 on,
disqualifies (R75). -/
theorem announce_sets {d : Dev} {dom port : Nat} (hd : dom < 2) (h : d.TakesPtp dom port) (st cls gm : Nat) {e : Dev}
    (he : ptpMessage dom port (.announce st cls gm) d = e) :
    e.get R.TB_STATUS_PORT_STATE dom = st % 16 ∧ e.get R.TB_STATUS_GM_CLASS dom = cls % 256 ∧
      (e.ptp dom).gm = some gm ∧ e.tb dom = d.tb dom ∧
      (248 ≤ cls ∨ (∃ g, (d.ptp dom).gm = some g ∧ g ≠ gm) → e.qual dom = false) ∧ d.KeepsDomain e dom := by
  unfold ptpMessage at he
  rw [if_neg h.not_dropped] at he
  generalize hb : ((d.heard dom port st).put R.TB_STATUS_GM_CLASS cls dom).setPtp dom { d.ptp dom with gm := some gm } = b
  have hst : b.get R.TB_STATUS_PORT_STATE dom = st % 16 := by
    rw [← hb, Dev.get_setPtp, Dev.get_put_apart _ _ _ _ _ _ (by decide), d.get_heard_portState]
  have hcl : b.get R.TB_STATUS_GM_CLASS dom = cls % 256 := by
    rw [← hb, Dev.get_setPtp, Dev.get_put _ _ _ _ _ (by decide)]
    rfl
  have hgm : b.ptp dom = { d.ptp dom with gm := some gm } := by rw [← hb, Dev.ptp_setPtp]
  have htb : b.tb dom = d.tb dom := by
    rw [← hb, Dev.tb_setPtp, Dev.tb_of_time (Dev.put_time _ _ _ _ _), Dev.tb_of_time (Dev.time_heard _ _ _ _)]
  have hk : d.KeepsDomain b dom := by
    rw [← hb]
    exact Dev.Keeps.setPtp (Dev.KeepsDomain.status (d.keepsDomain_heard dom port st) _ _ rfl) _ _ (by simp)
  have hbe : (if (decide (248 ≤ cls) || ((d.ptp dom).gm.isSome && decide ((d.ptp dom).gm ≠ some gm))) = true then
      b.disqualify dom else b) = e := by
    rw [← hb, ← he]
    rfl
  split at hbe
  · subst hbe
    obtain ⟨qtb, qptp, qual⟩ := b.disqualify_sets hd
    refine ⟨?_, ?_, by rw [qptp, hgm], (qtb dom).trans htb, fun _ => qual, hk.disqualify⟩
    · exact (b.get_disqualify hd _ (by decide) rfl (by decide)).trans hst
    · exact (b.get_disqualify hd _ (by decide) rfl (by decide)).trans hcl
  · next hn =>
    subst hbe
    refine ⟨hst, hcl, by rw [hgm], htb, fun hq => absurd ?_ hn, hk⟩
    obtain hq | ⟨g, hg, hne⟩ := hq
    · simp [hq]
    · simp [hg, hne]

/-! ### Timeouts -/

theorem exec_ptpReceiptTimeout (t dom : Nat) (s : State) :
    exec (.ptpReceiptTimeout t dom) s = s.onDev t (ptpTimeout dom) := rfl

theorem exec_wtUnsetTimeout (t : Nat) (s : State) : exec (.wtUnsetTimeout t) s = s.onDev t wtUnsetTimeout := rfl

theorem exec_holdoverTrustExpiry (t : Nat) (s : State) : exec (.holdoverTrustExpiry t) s = s.onDev t trustExpiry := rfl

theorem exec_wtSlewEnd (t : Nat) (s : State) : exec (.wtSlewEnd t) s = s.onDev t wtSlewEnd := rfl

/-- A receipt timeout disqualifies its domain; the last one leaves working time in NO_PTP, without a step (R72, R75). -/
theorem ptpTimeout_sets {d : Dev} {dom : Nat} (hd : dom < 2) (hr : d.domRuns dom = true) {e : Dev}
    (he : ptpTimeout dom d = e) :
    e.qual dom = false ∧ (e.ptp dom).gm = none ∧
      (d.qual dom = true → d.get R.WT_STATUS_FOLLOWS = dom + 1 → d.qual (1 - dom) = false →
        e.wtState = wtNoPtp ∧ e.get R.WT_STATUS_FOLLOWS = 0 ∧ e.time.wt = d.time.wt) ∧
      d.KeepsDomain e dom := by
  unfold ptpTimeout at he
  rw [if_pos (by simp [hr]; omega)] at he
  generalize hb : d.setPtp dom { d.ptp dom with gm := none } = b at he
  have hget : ∀ f, b.get f = d.get f := fun f => by rw [← hb, Dev.get_setPtp]
  have hq : ∀ n, b.qual n = d.qual n := fun n => congrArg (· == 1) (hget _)
  have hwt : b.time.wt = d.time.wt := by rw [← hb, Dev.wtAnchor_setPtp]
  have hk : d.KeepsDomain b dom := by
    rw [← hb]
    exact (Dev.Keeps.refl _ _ _).setPtp _ _ (by simp)
  subst he
  obtain ⟨-, qptp, qual⟩ := b.disqualify_sets hd
  refine ⟨qual, by rw [qptp, ← hb, Dev.ptp_setPtp], fun h1 h2 h3 => ?_, hk.disqualify⟩
  rw [Dev.disqualify_of_last hd ((hq _).trans h1) ((hget _).trans h2) ((hq _).trans h3)]
  obtain ⟨n1, n2, n3⟩ := (refActivityLost (10 + dom) (b.unqualified dom)).enterNoPtp_sets
  refine ⟨n1, n2, n3.trans ?_⟩
  rw [(keeps_refActivityLost _ _).time.resolve_left (by simp), Dev.unqualified, Dev.time_setQual,
    Dev.wtAnchor_setPtp, hwt]

section
variable {d0 d : Dev} {ws : Nat → Prop} {ps : List Part} (hw : ∀ x ∈ R.WT_STATUS.off 0 0 :: recOffs, ws x)
  (hc : Part.recd ∈ ps)
include hw hc

theorem Dev.Keeps.trustNow (h : d0.Keeps d ws ps) : d0.Keeps d.trustNow ws ps :=
  .ite (fun _ => (h.put _ _ _ _ (hw _ (by simp [R.WT_STATUS_TRUST_EXPIRED]))).info _ _ _ _ _
    (fun x hx => hw x (by simp [hx])) hc) fun _ => h

theorem Dev.Keeps.enterNoPtp (h : d0.Keeps d ws ps) (ht : Part.time ∈ ps) : d0.Keeps d.enterNoPtp ws ps := by
  have hs : ws (R.WT_STATUS.off 0 0) := hw _ (by simp)
  unfold Dev.enterNoPtp
  extract_lets +onlyGivenNames a src b
  have ha : d0.Keeps a ws ps := ((h.withTime _ ht).put _ _ _ _ hs).put _ _ _ _ hs
  have hb : d0.Keeps b ws ps := ha.withTime _ ht
  exact (hb.info _ _ _ _ _ (fun x hx => hw x (by simp [hx])) hc).trustNow hw hc

end

/-- M + 30 s without a qualified domain: working time starts from TB2, in NO_PTP (R64, R72, R73). -/
theorem wtUnset_starts (t : Nat) (s : State) (hs : s.dev.wtState = wtUnset) (hp : s.dev.phase = phaseTime)
    (hm : s.dev.boot.mInst + 30 * qS ≤ max s.dev.now t) (h0 : s.dev.qual 0 = false) (h1 : s.dev.qual 1 = false) :
    ∃ s', exec (.wtUnsetTimeout t) s = .next s' ∧ s'.dev.wtState = wtNoPtp ∧ s'.dev.get R.WT_STATUS_FOLLOWS = 0 ∧
      s'.dev.wt = s'.dev.tb2 ∧ s.Keeps s' t (R.WT_STATUS.off 0 0 :: recOffs) [.time, .recd] := by
  generalize hd : s.dev.clock t = d
  have hs' : d.wtState = wtUnset := by rw [← hd]; exact hs
  have hp' : d.phase = phaseTime := by rw [← hd]; exact hp
  have hm' : d.boot.mInst + 30 * qS ≤ d.now := by rw [← hd]; exact hm
  have h0' : d.qual 0 = false := by rw [← hd]; exact h0
  have h1' : d.qual 1 = false := by rw [← hd]; exact h1
  generalize hb : ({ d with time := { d.time with wt := ⟨d.now, d.tb2, 0⟩ } } : Dev) = b
  have hwt : b.time.wt = ⟨d.now, d.tb2, 0⟩ := by rw [← hb]
  have he : wtUnsetTimeout d = b.enterNoPtp := by
    rw [wtUnsetTimeout, if_pos (by simp [hs', hp', hm']), if_neg (by simp [h0']), if_neg (by simp [h1']), ← hb]
  have hk : d.Keeps b.enterNoPtp (· ∈ R.WT_STATUS.off 0 0 :: recOffs) [.time, .recd] := by
    rw [← hb]
    exact Dev.Keeps.enterNoPtp (fun _ hx => hx) (by simp) ((Dev.Keeps.refl d _ _).withTime _ (by simp)) (by simp)
  obtain ⟨n1, n2, n3⟩ := b.enterNoPtp_sets
  rw [exec_wtUnsetTimeout, State.onDev, hd, he]
  refine ⟨_, rfl, n1, n2, ?_, rfl, .inr rfl, by rw [hd]; exact hk⟩
  change b.enterNoPtp.wt = b.enterNoPtp.tb2
  rw [Dev.wt, n3, hwt, hk.now, Anchor.read_tick ⟨d.now, d.tb2, 0⟩, Dev.tb2, Dev.tb2, hk.now, hk.boot.resolve_left (by simp)]

/-- NO_PTP has lasted HOLDOVER_TRUST (R84). -/
theorem holdoverTrust_expires (t : Nat) (s : State) (hs : s.dev.wtState = wtNoPtp)
    (he : s.dev.get R.WT_STATUS_TRUST_EXPIRED = 0)
    (hm : s.dev.time.noPtpAt + s.dev.reg R.TIME_HOLDOVER_TRUST * qMs ≤ max s.dev.now t) :
    ∃ s', exec (.holdoverTrustExpiry t) s = .next s' ∧ s'.dev.get R.WT_STATUS_TRUST_EXPIRED = 1 ∧
      s.Keeps s' t (R.WT_STATUS.off 0 0 :: recOffs) [.recd] := by
  have hx : trustExpiry (s.dev.clock t) = ((s.dev.clock t).put R.WT_STATUS_TRUST_EXPIRED 1).info .trustExpired 0x1002 := by
    have ho : s.dev.on R.WT_STATUS_TRUST_EXPIRED = false := by simp [Dev.on, he]
    rw [trustExpiry, if_pos (by
      simp only [Bool.and_eq_true, decide_eq_true_eq, Bool.not_eq_true']
      exact ⟨⟨hs, ho⟩, hm⟩)]
  rw [exec_holdoverTrustExpiry, State.onDev, hx]
  refine ⟨_, rfl, ?_, rfl, .inr rfl, ?_⟩
  · exact (Dev.get_of_info _ _ _ _ _ _ _ _ _ (by decide)).trans (Dev.get_put_lt _ _ _ _ _ 2 (by decide) (by decide))
  · exact ((Dev.Keeps.refl _ _ _).put _ _ _ _ (by simp [R.WT_STATUS_TRUST_EXPIRED])).info _ _ _ _ _
      (fun x hx => by simp [hx]) (by simp)

/-- Where both limits of R74 allow it, the phase term goes to 0 at once and the frequency term stays. -/
theorem Dev.steer_of_reached {d : Dev} (hf : (d.time.freq.natAbs : Int) ≤ rateLimit)
    (hp : (d.time.phase.natAbs : Int) ≤ slopeLimit (d.now - d.time.rateAt)) :
    d.steer d.time.freq 0 = d.setRate d.time.freq 0 := by
  unfold Dev.steer
  extract_lets old want new
  have hw : want = d.time.freq := by
    simp only [want, clampInt]
    omega
  have hn : new = d.time.freq := by
    simp only [new, hw, old, clampInt]
    omega
  rw [hn, sub_self]

theorem Dev.setRate_sets (d : Dev) (freq : Int) :
    (d.setRate freq 0).get R.WT_STATUS_SLEWING = 0 ∧ (d.setRate freq 0).reg R.WT_RATE = ofSigned 32 freq := by
  constructor
  · rw [Dev.setRate, Dev.get_put_lt _ _ _ _ _ 2 (by decide) (by decide)]
    rfl
  · rw [Dev.setRate, Dev.reg_put_ne _ _ _ _ _ _ _ _ (by decide), Dev.reg_setReg, Nat.mod_eq_of_lt (ofSigned_lt 32 _),
      add_zero]

theorem Dev.keeps_setRate (d : Dev) (freq phase : Int) :
    d.Keeps (d.setRate freq phase) (· ∈ [R.WT_STATUS.off 0 0, R.WT_RATE.off 0 0]) [.time] :=
  (((Dev.Keeps.refl _ _ _).withTime _ (by simp)).setReg _ _ _ _ (by simp)).put _ _ _ _ (by simp [R.WT_STATUS_SLEWING])

theorem Dev.tbNow_withTime (d : Dev) {x : TimeSt} (h : x.tb0 = d.time.tb0 ∧ x.tb1 = d.time.tb1) (dom : Nat) :
    Dev.tbNow { d with time := x } dom = d.tbNow dom := by
  have hr : Dev.domRuns { d with time := x } dom = d.domRuns dom := rfl
  rw [Dev.tbNow, Dev.tbNow, hr, Dev.tb, Dev.tb, h.1, h.2]

/-- The difference of working time and a base is that of their anchors. -/
theorem Dev.diff_withTime (d : Dev) {x : TimeSt} (h : x.wt = d.time.wt ∧ x.tb0 = d.time.tb0 ∧ x.tb1 = d.time.tb1)
    (dom : Nat) : Dev.diff { d with time := x } dom = d.diff dom := by
  rw [Dev.diff, Dev.diff, Dev.wt_withTime _ h.1, Dev.tbNow_withTime _ h.2]

/-- In OFFSET_HOLD the end of the slew takes the offset of this instant (R74). -/
theorem wtSlewEnd_of_reached {d : Dev} (hs : d.get R.WT_STATUS_SLEWING = 1) (hf : (d.time.freq.natAbs : Int) ≤ rateLimit)
    (hp : (d.time.phase.natAbs : Int) ≤ slopeLimit (d.now - d.time.rateAt)) {b : Dev}
    (hb : d.setRate d.time.freq 0 = b) (hw : b.get R.WT_STATUS_SLEWING = 0) :
    wtSlewEnd d = if b.wtState = wtOffsetHold then
      { b with time := { b.time with offset := b.diff (b.get R.WT_STATUS_FOLLOWS - 1) } } else b := by
  unfold wtSlewEnd
  rw [if_pos (by simp [Dev.on, hs]), Dev.steer_of_reached hf hp, hb]
  simp [Dev.on, hw]

/-- The phase term has ramped to 0: SLEWING clears, the frequency term stays, and in OFFSET_HOLD the offset is that of this
instant (R74). -/
theorem wtSlewEnd_sets {d : Dev} (hs : d.get R.WT_STATUS_SLEWING = 1) (hf : (d.time.freq.natAbs : Int) ≤ rateLimit)
    (hp : (d.time.phase.natAbs : Int) ≤ slopeLimit (d.now - d.time.rateAt)) {e : Dev} (he : wtSlewEnd d = e) :
    e.time.phase = 0 ∧ e.time.freq = d.time.freq ∧ e.get R.WT_STATUS_SLEWING = 0 ∧
      e.reg R.WT_RATE = ofSigned 32 d.time.freq ∧ e.wt = d.wt ∧
      (d.wtState = wtOffsetHold → e.time.offset = e.diff (d.get R.WT_STATUS_FOLLOWS - 1)) ∧
      d.Keeps e (· ∈ [R.WT_STATUS.off 0 0, R.WT_RATE.off 0 0]) [.time] := by
  obtain ⟨h1, h2⟩ := d.setRate_sets d.time.freq
  have ht := d.time_setRate d.time.freq 0
  have hw := d.wt_setRate d.time.freq 0
  have hst := d.get_setRate d.time.freq 0 R.WT_STATUS_STATE (by decide)
  have hfo := d.get_setRate d.time.freq 0 R.WT_STATUS_FOLLOWS (by decide)
  have hk := d.keeps_setRate d.time.freq 0
  rw [wtSlewEnd_of_reached hs hf hp rfl h1] at he
  generalize d.setRate d.time.freq 0 = b at *
  have hph : b.time.phase = 0 := by rw [ht]
  have hfr : b.time.freq = d.time.freq := by rw [ht]
  by_cases ho : b.wtState = wtOffsetHold
  · rw [if_pos ho, hfo] at he
    have hg : ∀ f, e.get f = b.get f := fun f => by rw [← he, Dev.get_withTime]
    have hr : e.reg R.WT_RATE = b.reg R.WT_RATE := by rw [← he, Dev.reg_withTime]
    have hwe : e.wt = b.wt := by
      rw [← he]
      refine b.wt_withTime ?_
      rfl
    have hde : ∀ n, e.diff n = b.diff n := fun n => by
      rw [← he]
      refine b.diff_withTime ⟨?_, ?_, ?_⟩ n <;> rfl
    have hke : d.Keeps e (· ∈ [R.WT_STATUS.off 0 0, R.WT_RATE.off 0 0]) [.time] := he ▸ hk.withTime _ (by simp)
    have hte : e.time = { b.time with offset := b.diff (d.get R.WT_STATUS_FOLLOWS - 1) } := by rw [← he]
    refine ⟨by rw [hte, ← hph], by rw [hte, ← hfr], (hg _).trans h1, hr.trans h2, hwe.trans hw, fun _ => ?_, hke⟩
    rw [hde, hte]
  · rw [if_neg ho] at he
    subst he
    exact ⟨hph, hfr, h1, h2, hw, fun hn => absurd (hst.trans hn) ho, hk⟩

end Sys2Proof.Machine
end

section
/-! PROOFS. What the messages, the timeouts and the slew's end make of a state's device (R64, R70 to R75, R84). -/

namespace Sys2Proof.Machine

theorem Dev.TakesPtp.clock {d : Dev} {dom port : Nat} (h : d.TakesPtp dom port) (t : Nat) : (d.clock t).TakesPtp dom port :=
  ⟨h.runs, h.begun, h.lasts, h.port⟩

theorem ptpMessageReceived_sync (t : Nat) {dom port : Nat} (st : Nat) (off rate phase : Int) (s : State) (hd : dom < 2)
    (h : s.dev.TakesPtp dom port) {good : Nat}
    (hg : (if st = 9 ∧ off.natAbs ≤ 4000 then min 16 ((s.dev.ptp dom).good + 1) else 0) = good) :
    ∃ s', exec (.ptpMessageReceived t dom port (.sync st off rate phase)) s = .next s' ∧
      (if 40000 < off.natAbs then
        s'.dev.tb dom = ⟨max s.dev.now t, (((s.dev.tb dom).read (max s.dev.now t) : Int) - off).toNat, (s.dev.tb dom).rate⟩ ∧
          s'.dev.get R.TB_STATUS_STEPS dom = min (s.dev.get R.TB_STATUS_STEPS dom + 1) 255 ∧
          s'.dev.qual dom = false ∧ (s'.dev.ptp dom).good = 0
      else s'.dev.tb dom = (s.dev.tb dom).retime (max s.dev.now t) rate ∧ (s'.dev.ptp dom).good = good ∧
        s'.dev.reg R.TB_RATE_ADJ dom = ofSigned 32 rate ∧
        (good = 16 → s.dev.get R.TB_STATUS_GM_CLASS dom < 248 → s'.dev.qual dom = true)) ∧
      s'.dev.get R.TB_STATUS_PORT_STATE dom = st % 16 ∧ s.Keeps s' t (timeOffs dom) [.time, .ref, .recd] := by
  generalize he : ptpMessage dom port (.sync st off rate phase) (s.dev.clock t) = e
  refine ⟨{ s with dev := e }, ?_, ?_⟩
  · rw [exec_ptpMessageReceived, State.onDev, he]
  · by_cases ho : 40000 < off.natAbs
    · rw [if_pos ho]
      obtain ⟨htb, hsteps, hq, hgood, hst, hk⟩ := sync_far_sets hd (h.clock t) st rate phase ho he
      exact ⟨⟨htb, hsteps, hq, hgood⟩, hst, rfl, .inr rfl, hk⟩
    · rw [if_neg ho]
      obtain ⟨htb, hgood, hrate, hq, hst, hk⟩ := sync_near_sets hd (h.clock t) st rate phase ho hg he
      exact ⟨⟨htb, hgood, hrate, hq⟩, hst, rfl, .inr rfl, hk⟩

theorem ptpMessageReceived_announce (t : Nat) {dom port : Nat} (st cls gm : Nat) (s : State) (hd : dom < 2)
    (h : s.dev.TakesPtp dom port) :
    ∃ s', exec (.ptpMessageReceived t dom port (.announce st cls gm)) s = .next s' ∧
      s'.dev.get R.TB_STATUS_PORT_STATE dom = st % 16 ∧ s'.dev.get R.TB_STATUS_GM_CLASS dom = cls % 256 ∧
      (s'.dev.ptp dom).gm = some gm ∧ s'.dev.tb dom = s.dev.tb dom ∧
      (248 ≤ cls ∨ (∃ g, (s.dev.ptp dom).gm = some g ∧ g ≠ gm) → s'.dev.qual dom = false) ∧
      s.Keeps s' t (timeOffs dom) [.time, .ref, .recd] := by
  generalize he : ptpMessage dom port (.announce st cls gm) (s.dev.clock t) = e
  obtain ⟨hst, hcls, hgm, htb, hq, hk⟩ := announce_sets hd (h.clock t) st cls gm he
  refine ⟨{ s with dev := e }, ?_, hst, hcls, hgm, htb, hq, rfl, .inr rfl, hk⟩
  rw [exec_ptpMessageReceived, State.onDev, he]

theorem ptpReceiptTimeout_disqualifies (t : Nat) {dom : Nat} (s : State) (hd : dom < 2) (hr : s.dev.domRuns dom = true) :
    ∃ s', exec (.ptpReceiptTimeout t dom) s = .next s' ∧ s'.dev.qual dom = false ∧ (s'.dev.ptp dom).gm = none ∧
      (s.dev.qual dom = true → s.dev.get R.WT_STATUS_FOLLOWS = dom + 1 → s.dev.qual (1 - dom) = false →
        s'.dev.wtState = wtNoPtp ∧ s'.dev.get R.WT_STATUS_FOLLOWS = 0 ∧ s'.dev.time.wt = s.dev.time.wt) ∧
      s.Keeps s' t (timeOffs dom) [.time, .ref, .recd] := by
  generalize he : ptpTimeout dom (s.dev.clock t) = e
  obtain ⟨hq, hgm, hlast, hk⟩ := ptpTimeout_sets (d := s.dev.clock t) hd hr he
  refine ⟨{ s with dev := e }, ?_, hq, hgm, hlast, rfl, .inr rfl, hk⟩
  rw [exec_ptpReceiptTimeout, State.onDev, he]

theorem wtSlewEnd_ends (t : Nat) (s : State) (hs : s.dev.get R.WT_STATUS_SLEWING = 1)
    (hf : (s.dev.time.freq.natAbs : Int) ≤ rateLimit)
    (hp : (s.dev.time.phase.natAbs : Int) ≤ slopeLimit (max s.dev.now t - s.dev.time.rateAt)) :
    ∃ s', exec (.wtSlewEnd t) s = .next s' ∧ s'.dev.time.phase = 0 ∧ s'.dev.time.freq = s.dev.time.freq ∧
      s'.dev.get R.WT_STATUS_SLEWING = 0 ∧ s'.dev.reg R.WT_RATE = ofSigned 32 s.dev.time.freq ∧
      s'.dev.wt = (s.dev.clock t).wt ∧
      (s.dev.wtState = wtOffsetHold → s'.dev.time.offset = s'.dev.diff (s.dev.get R.WT_STATUS_FOLLOWS - 1)) ∧
      s.Keeps s' t [R.WT_STATUS.off 0 0, R.WT_RATE.off 0 0] [.time] := by
  generalize he : Machine.wtSlewEnd (s.dev.clock t) = e
  obtain ⟨hphase, hfreq, hslew, hrate, hwt, hoff, hk⟩ := wtSlewEnd_sets (d := s.dev.clock t) hs hf hp he
  refine ⟨{ s with dev := e }, ?_, hphase, hfreq, hslew, hrate, hwt, hoff, rfl, .inr rfl, hk⟩
  rw [exec_wtSlewEnd, State.onDev, he]

/-- Settles O18: the far and the near sync message by what the servo makes of the base (a step and `disqualify`, or a rate and
`qualify`), and the loss of the last domain by `enterNoPtp`; steering working time after that moves no domain. -/
theorem timeDomains : Obligations.TimeDomains := by
  unfold Obligations.TimeDomains
  refine ⟨⟨?_, ?_⟩, ?_, wtUnset_starts, holdoverTrust_expires, wtSlewEnd_ends⟩
  · intro t dom port st off rate phase s hd hr hb hl hp
    exact ptpMessageReceived_sync t st off rate phase s hd ⟨hr, hb, hl, hp⟩ rfl
  · intro t dom port st cls gm s hd hr hb hl hp
    exact ptpMessageReceived_announce t st cls gm s hd ⟨hr, hb, hl, hp⟩
  · exact fun t dom s hd hr => ptpReceiptTimeout_disqualifies t s hd hr

end Sys2Proof.Machine
end

section
/-! PROOFS. Time commands and time registers (R70, R71, R76, R78, R86, R87, R90, R91). -/

namespace Sys2Proof.Machine

theorem exec_wtFollow (t q seq : Nat) (s : State) : exec (.wtFollow t q seq) s = s.onDev t (wtFollow q seq) := rfl

theorem exec_ptpPorts (t q seq : Nat) (s : State) : exec (.ptpPorts t q seq) s = s.onDev t (ptpPorts q seq) := rfl

theorem exec_timeSnap (t : Nat) (v : Word) (s : State) :
    exec (.timeSnap t v) s = s.onDev t (·.gated 0x300018 (timeSnap v)) := rfl

theorem exec_tb3Apply (t : Nat) (v : Word) (s : State) :
    exec (.tb3Apply t v) s = s.onDev t (·.gatedM 0x3000CC v (tb3Apply v)) := rfl

theorem exec_tb3RateAdjWrite (t : Nat) (v : Word) (s : State) :
    exec (.tb3RateAdjWrite t v) s = s.onDev t (·.gatedM 0x3000B4 v (tb3Rate v)) := rfl

theorem exec_ppsCtrlWrite (t : Nat) (v : Word) (s : State) :
    exec (.ppsCtrlWrite t v) s = s.onDev t (·.gatedM 0x3000D0 v (ppsCtrl v)) := rfl

theorem exec_ppsOutRise (t : Nat) (s : State) : exec (.ppsOutRise t) s = s.onDev t ppsRise := rfl

theorem exec_ppsOutFall (t : Nat) (s : State) : exec (.ppsOutFall t) s = s.onDev t ppsFall := rfl

/-! ### WT_FOLLOW -/

/-- The end of a command moves no working time. -/
theorem Dev.wt_finish {d : Dev} {q : Nat} (hq : q < 16) (ha : d.Alone) (seq status reason result detail : Nat) :
    (d.finish q seq status reason result detail).wt = d.wt :=
  ((Dev.Keeps.refl d (· ∈ []) [.host, .pair]).finish q seq status reason result detail (by omega) ha (by simp)
    (by simp)).wt (by simp)

theorem byte_mod (c : Cmd) (i : Nat) : c.p i 1 % 2 ^ 64 = c.p i 1 :=
  Nat.mod_eq_of_lt (lt_trans (leAt_lt _ _ _) (by decide))

/-- A followed domain, a domain that cannot be followed, and a switch (R76, R91). -/
theorem wtFollow_follows (t q seq : Nat) (c : Cmd) (s : State) (h : s.dev.Running q seq 0x0300 c) (ha : s.dev.Alone)
    (hc : c.Tail 1) (hd : c.p 0 1 < 2) (hr : s.dev.domRuns (c.p 0 1) = true) :
    ∃ s', exec (.wtFollow t q seq) s = .next s' ∧ s'.dev.wt = (s.dev.clock t).wt ∧
      (if s.dev.get R.WT_STATUS_FOLLOWS = c.p 0 1 + 1 then
        s'.dev.answer q seq = some ⟨Status.success, 0, 0, s.dev.moduleId, c.p 0 1⟩ ∧ s.Keeps s' t [] [.host, .pair]
      else if s.dev.qual (c.p 0 1) = false ∨ s.dev.get R.WT_STATUS_FOLLOWS = 0 then
        s'.dev.answer q seq = some ⟨Status.rejected, 0x0301, 0, s.dev.moduleId, 0⟩ ∧ s.Keeps s' t [] [.host, .pair]
      else s'.dev.get R.WT_STATUS_FOLLOWS = c.p 0 1 + 1 ∧
        s'.dev.get R.WT_STATUS_SWITCHES = min (s.dev.get R.WT_STATUS_SWITCHES + 1) 255 ∧
        s'.dev.answer q seq = some ⟨Status.success, 0, 0, s.dev.moduleId, c.p 0 1⟩ ∧
        s.Keeps s' t ([R.WT_STATUS.off 0 0, R.WT_RATE.off 0 0] ++ recOffs) [.time, .recd, .host, .pair]) := by
  have he := (h.mayEnd ha).clock t
  have hr' : (s.dev.clock t).domRuns (c.p 0 1) = true := hr
  rw [exec_wtFollow, State.onDev, wtFollow, (h.clock t).onCmd, Dev.withTail_of _ _ _ _ _ _ hc]
  dsimp only
  rw [if_neg (by omega), if_neg (by simp [hr']), Dev.clock_get]
  by_cases hf : s.dev.get R.WT_STATUS_FOLLOWS = c.p 0 1 + 1
  · rw [if_pos hf]
    obtain ⟨h1, h2⟩ := he.finish_at_once Status.success 0 (c.p 0 1) 0
    rw [byte_mod] at h1
    exact ⟨_, rfl, Dev.wt_finish he.queue he.alone _ _ _ _ _, (if_pos hf).mpr ⟨h1, rfl, .inr rfl, h2⟩⟩
  · rw [if_neg hf]
    have hq : (s.dev.clock t).qual (c.p 0 1) = s.dev.qual (c.p 0 1) := rfl
    by_cases hn : s.dev.qual (c.p 0 1) = false ∨ s.dev.get R.WT_STATUS_FOLLOWS = 0
    · rw [if_pos (by simpa [hq] using hn)]
      obtain ⟨h1, h2⟩ := he.finish_at_once Status.rejected 0x0301 0 0
      exact ⟨_, rfl, Dev.wt_finish he.queue he.alone _ _ _ _ _,
        (if_neg hf).mpr ((if_pos hn).mpr ⟨h1, rfl, .inr rfl, h2⟩)⟩
    · rw [if_neg (by simpa [hq] using hn)]
      have k := ((Dev.Steers.refl (s.dev.clock t)).switchTo (c.p 0 1)).keeps
      have hp : R.PAIR_STATUS.off 0 0 ∉ wtOffs := by decide
      obtain ⟨g1, g2⟩ := (s.dev.clock t).get_switchTo (c.p 0 1) hd
      have hw := (s.dev.clock t).wt_switchTo (c.p 0 1)
      generalize (s.dev.clock t).switchTo (c.p 0 1) = b at *
      obtain ⟨h1, h2⟩ := he.finish (ps := [.time, .recd, .host, .pair]) (k.mono (fun _ hx => hx) (by simp))
        (Dev.queue_of_host (k.host.resolve_left (by simp)) q) hp (by decide) (by simp) (by simp) Status.success 0
        (c.p 0 1) 0
      have h3 := (he.finish_issues k hp Status.success 0 (c.p 0 1) 0).2
      rw [byte_mod] at h1
      refine ⟨_, rfl, (Dev.wt_finish he.queue (he.alone.of_keeps k hp) _ _ _ _ _).trans hw,
        (if_neg hf).mpr ((if_neg hn).mpr ⟨?_, ?_, h1, rfl, .inr rfl, h2⟩)⟩
      · exact (congrArg (bits · _ _) (h3 _ _ _)).trans g1
      · exact (congrArg (bits · _ _) (h3 _ _ _)).trans g2

/-! ### PTP_PORTS -/

/-- What PTP_PORTS makes of a domain: its ports, its transport, its step mode and its VLAN; without the best port it is no
longer qualified (R78, R91). -/
def Dev.setPorts (d : Dev) (dom mask transport vlan : Nat) (step : Bool) : Dev :=
  let left := bit (d.ptp dom).mask (d.get R.TB_STATUS_PORT dom) && !bit mask (d.get R.TB_STATUS_PORT dom)
  let e := d.setPtp dom { d.ptp dom with mask := mask, transport := transport, step := step, vlan := vlan }
  let e := if left then e.disqualify dom else e
  if mask = 0 then e.put R.TB_STATUS_PORT_STATE 0 dom
  else if left || e.get R.TB_STATUS_PORT_STATE dom = 0 then e.put R.TB_STATUS_PORT_STATE 4 dom else e

theorem Dev.setPorts_sets (d : Dev) {dom : Nat} (hd : dom < 2) (mask transport vlan : Nat) (step : Bool) {e : Dev}
    (he : d.setPorts dom mask transport vlan step = e) :
    (e.ptp dom).mask = mask ∧ (e.ptp dom).transport = transport ∧ (e.ptp dom).step = step ∧ (e.ptp dom).vlan = vlan ∧
      d.KeepsDomain e dom := by
  unfold Dev.setPorts at he
  generalize hb : d.setPtp dom { d.ptp dom with mask := mask, transport := transport, step := step, vlan := vlan } = b at he
  have hp : b.ptp dom = { d.ptp dom with mask := mask, transport := transport, step := step, vlan := vlan } := by
    rw [← hb, Dev.ptp_setPtp]
  have hk : d.KeepsDomain b dom := by
    rw [← hb]
    exact (Dev.Keeps.refl _ _ _).setPtp _ _ (by simp)
  generalize (bit (d.ptp dom).mask (d.get R.TB_STATUS_PORT dom) && !bit mask (d.get R.TB_STATUS_PORT dom)) = left at he
  dsimp only at he
  generalize hg : (if left = true then b.disqualify dom else b) = g at he
  have hgp : (∃ n, g.ptp dom = { b.ptp dom with good := n }) ∧ d.KeepsDomain g dom := by
    cases left with
    | true =>
      subst hg
      exact ⟨⟨0, (b.disqualify_sets hd).2.1⟩, hk.disqualify⟩
    | false =>
      subst hg
      exact ⟨⟨_, rfl⟩, hk⟩
  obtain ⟨⟨n, hgp⟩, hgk⟩ := hgp
  have hep : e.ptp dom = g.ptp dom ∧ d.KeepsDomain e dom := by
    have hput : ∀ v, (g.put R.TB_STATUS_PORT_STATE v dom).ptp dom = g.ptp dom := fun v => Dev.ptp_of_time (Dev.put_time _ _ _ _ _) dom
    subst he
    split
    · exact ⟨hput _, hgk.status _ _ rfl⟩
    · split
      · exact ⟨hput _, hgk.status _ _ rfl⟩
      · exact ⟨rfl, hgk⟩
  rw [hep.1, hgp, hp]
  exact ⟨rfl, rfl, rfl, rfl, hep.2⟩

theorem ptpPorts_of_free {d : Dev} {q seq : Nat} {c : Cmd} (h : d.Running q seq 0x0301 c) (hc : c.Tail 6)
    (hd : c.p 0 1 < 2) (hr : d.domRuns (c.p 0 1) = true) (hm : c.p 1 1 < 16) (ht : c.p 2 1 < 3) (hs : c.p 3 1 < 2)
    (hv : c.p 4 2 ≤ 4094 ∨ c.p 4 2 = 0xFFFF) (hto : transportOk d.img.ptpProfile (c.p 2 1) = true)
    (ho : d.img.tb0Domain ≠ d.img.tb1Domain ∨ d.domRuns (1 - c.p 0 1) = false) :
    ptpPorts q seq d =
      (d.setPorts (c.p 0 1) (c.p 1 1) (c.p 2 1) (c.p 4 2) (bit (c.p 3 1) 0)).succeed q seq (c.p 1 1) := by
  have hv' : ¬(decide (4094 < c.p 4 2) && decide (c.p 4 2 ≠ 0xFFFF)) = true := by
    simp only [Bool.and_eq_true, decide_eq_true_eq]
    omega
  have ho' : ¬(d.domRuns (1 - c.p 0 1) && decide (d.img.tb0Domain = d.img.tb1Domain) &&
      decide ((d.ptp (1 - c.p 0 1)).transport = c.p 2 1) &&
      decide (((d.ptp (1 - c.p 0 1)).mask &&& c.p 1 1) ≠ 0)) = true := by
    obtain ho | ho := ho <;> simp [ho]
  rw [ptpPorts, h.onCmd, Dev.withTail_of _ _ _ _ _ _ hc]
  dsimp only
  rw [if_neg (by omega), if_neg (by omega), if_neg (by omega), if_neg (by omega), if_neg hv', if_neg (by simp [hr]),
    if_neg (by simp [hto]), if_neg ho']
  rfl

theorem ptpPorts_takes (t q seq : Nat) (c : Cmd) (s : State) (h : s.dev.Running q seq 0x0301 c) (ha : s.dev.Alone)
    (hc : c.Tail 6) (hd : c.p 0 1 < 2) (hr : s.dev.domRuns (c.p 0 1) = true) (hm : c.p 1 1 < 16) (ht : c.p 2 1 < 3)
    (hs : c.p 3 1 < 2) (hv : c.p 4 2 ≤ 4094 ∨ c.p 4 2 = 0xFFFF)
    (hto : transportOk s.dev.img.ptpProfile (c.p 2 1) = true)
    (ho : s.dev.img.tb0Domain ≠ s.dev.img.tb1Domain ∨ s.dev.domRuns (1 - c.p 0 1) = false) :
    ∃ s', exec (.ptpPorts t q seq) s = .next s' ∧ (s'.dev.ptp (c.p 0 1)).mask = c.p 1 1 ∧
      (s'.dev.ptp (c.p 0 1)).transport = c.p 2 1 ∧ (s'.dev.ptp (c.p 0 1)).step = bit (c.p 3 1) 0 ∧
      (s'.dev.ptp (c.p 0 1)).vlan = c.p 4 2 ∧
      s'.dev.answer q seq = some ⟨Status.success, 0, 0, s.dev.moduleId, c.p 1 1⟩ ∧
      s.Keeps s' t (timeOffs (c.p 0 1)) [.time, .ref, .recd, .host, .pair] := by
  have he := (h.mayEnd ha).clock t
  rw [exec_ptpPorts, State.onDev, ptpPorts_of_free (h.clock t) hc hd hr hm ht hs hv hto ho, Dev.succeed]
  generalize hb : (s.dev.clock t).setPorts (c.p 0 1) (c.p 1 1) (c.p 2 1) (c.p 4 2) (bit (c.p 3 1) 0) = b
  obtain ⟨p1, p2, p3, p4, k⟩ := Dev.setPorts_sets _ hd _ _ _ _ hb
  have hp : R.PAIR_STATUS.off 0 0 ∉ timeOffs (c.p 0 1) := by
    generalize c.p 0 1 = dom at hd
    interval_cases dom <;> decide
  have hi : R.PAENT_ID.off 0 0 ∉ timeOffs (c.p 0 1) := by
    generalize c.p 0 1 = dom at hd
    interval_cases dom <;> decide
  obtain ⟨h1, h2⟩ := he.finish (ps := [.time, .ref, .recd, .host, .pair]) (k.mono (fun _ hx => hx) (by simp))
    (Dev.queue_of_host (k.host.resolve_left (by simp)) q) hp hi (by simp) (by simp) Status.success 0 (c.p 1 1) 0
  have hq := he.queue
  have kf := (Dev.Keeps.refl b (· ∈ []) [.host, .pair]).finish q seq Status.success 0 (c.p 1 1) 0 (by omega)
    (he.alone.of_keeps k hp) (by simp) (by simp)
  have hpt : (b.finish q seq Status.success 0 (c.p 1 1)).ptp (c.p 0 1) = b.ptp (c.p 0 1) :=
    Dev.ptp_of_time (kf.time.resolve_left (by simp)) _
  rw [byte_mod] at h1
  refine ⟨_, rfl, ?_, ?_, ?_, ?_, h1, rfl, .inr rfl, h2⟩
  · exact (congrArg PtpDomain.mask hpt).trans p1
  · exact (congrArg PtpDomain.transport hpt).trans p2
  · exact (congrArg PtpDomain.step hpt).trans p3
  · exact (congrArg PtpDomain.vlan hpt).trans p4

/-! ### SNAP -/

/-- The registers of a base in the snapshot. -/
def snapOffs (b : Nat) : List Nat := [R.SNAP_SEC_HI.off b 0, R.SNAP_SEC_LO.off b 0, R.SNAP_NS.off b 0, R.SNAP_FRAC.off b 0]

/-- The snapshot registers of a base show a value. -/
def Dev.Snapped (d : Dev) (b v : Nat) : Prop :=
  d.reg R.SNAP_SEC_HI b = v / qS / 2 ^ 32 % 2 ^ 16 ∧ d.reg R.SNAP_SEC_LO b = v / qS % 2 ^ 32 ∧
    d.reg R.SNAP_NS b = v % qS / 4 ∧ d.reg R.SNAP_FRAC b = v % 4 * 16384

theorem Dev.Keeps.snapBase {d0 d : Dev} {ws : Nat → Prop} {ps : List Part} {b : Nat} (h : d0.Keeps d ws ps) (v : Nat)
    (hw : ∀ x ∈ snapOffs b, ws x) : d0.Keeps (d.snapBase b v) ws ps := by
  have hw' : ws (R.SNAP_SEC_HI.off b 0) ∧ ws (R.SNAP_SEC_LO.off b 0) ∧ ws (R.SNAP_NS.off b 0) ∧
      ws (R.SNAP_FRAC.off b 0) := by
    simpa [snapOffs] using hw
  obtain ⟨h1, h2, h3, h4⟩ := hw'
  exact (((h.setReg _ _ _ _ h1).setReg _ _ _ _ h2).setReg _ _ _ _ h3).setReg _ _ _ _ h4

theorem snapOffs_apart {b c : Nat} (h : b ≠ c) : ∀ x ∈ snapOffs b, x ∉ snapOffs c := by
  simp only [snapOffs, RegDesc.off, R.SNAP_SEC_HI, R.SNAP_SEC_LO, R.SNAP_NS, R.SNAP_FRAC, List.mem_cons,
    List.not_mem_nil, or_false]
  omega

theorem Dev.snapped_snapBase (d : Dev) (b v : Nat) : (d.snapBase b v).Snapped b v := by
  have hns : v % qS / 4 < 2 ^ 32 := by
    have := Nat.mod_lt v (show 0 < qS by decide)
    simp only [qS] at *
    omega
  have hoff : R.SNAP_SEC_HI.off b 0 = 0x300020 + 16 * b ∧ R.SNAP_SEC_LO.off b 0 = 0x300024 + 16 * b ∧
      R.SNAP_NS.off b 0 = 0x300028 + 16 * b ∧ R.SNAP_FRAC.off b 0 = 0x30002C + 16 * b := by
    simp only [RegDesc.off, R.SNAP_SEC_HI, R.SNAP_SEC_LO, R.SNAP_NS, R.SNAP_FRAC]
    omega
  obtain ⟨o1, o2, o3, o4⟩ := hoff
  refine ⟨?_, ?_, ?_, ?_⟩
  · rw [Dev.snapBase, Dev.reg_setReg_ne _ _ _ _ _ _ _ _ (by omega), Dev.reg_setReg_ne _ _ _ _ _ _ _ _ (by omega),
      Dev.reg_setReg_ne _ _ _ _ _ _ _ _ (by omega), Dev.reg_setReg]
    omega
  · rw [Dev.snapBase, Dev.reg_setReg_ne _ _ _ _ _ _ _ _ (by omega), Dev.reg_setReg_ne _ _ _ _ _ _ _ _ (by omega),
      Dev.reg_setReg]
  · rw [Dev.snapBase, Dev.reg_setReg_ne _ _ _ _ _ _ _ _ (by omega), Dev.reg_setReg, Nat.mod_eq_of_lt hns]
  · rw [Dev.snapBase, Dev.reg_setReg]
    omega

/-- Registers of a base that nothing moves go on showing its value. -/
theorem Dev.Snapped.keeps {d e : Dev} {b v : Nat} {ws : Nat → Prop} {ps : List Part} (h : d.Snapped b v)
    (k : d.Keeps e ws ps) (hw : ∀ x ∈ snapOffs b, ¬ws x) : e.Snapped b v := by
  have hw' : ¬ws (R.SNAP_SEC_HI.off b 0) ∧ ¬ws (R.SNAP_SEC_LO.off b 0) ∧ ¬ws (R.SNAP_NS.off b 0) ∧
      ¬ws (R.SNAP_FRAC.off b 0) := by
    simpa [snapOffs] using hw
  obtain ⟨h1, h2, h3, h4⟩ := hw'
  rw [Dev.Snapped, k.reg _ _ _ h1, k.reg _ _ _ h2, k.reg _ _ _ h3, k.reg _ _ _ h4]
  exact h

theorem Dev.Snapped.snapBase {d : Dev} {b v : Nat} (h : d.Snapped b v) {c : Nat} (hc : b ≠ c) (w : Nat) :
    (d.snapBase c w).Snapped b v :=
  h.keeps ((Dev.Keeps.refl _ (· ∈ snapOffs c) []).snapBase w fun _ hx => hx) (snapOffs_apart hc)

/-- The snapshot of the five bases (R71, R86). -/
theorem timeSnap_snaps {d : Dev} {v : Word} (hv : bit v.toNat 0 = true) {e : Dev} (he : timeSnap v d = e) :
    e.get R.TIME_SNAP_DONE = 1 ∧ (∀ b, b < 5 → e.Snapped b (snapValue d b)) ∧
      d.Keeps e (· ∈ R.TIME_SNAP.off 0 0 :: (List.range 5).flatMap snapOffs) [] := by
  rw [timeSnap, if_pos hv] at he
  generalize h0 : d.snapBase 0 d.wt = d0 at he
  generalize h1 : d0.snapBase 1 (d.tbNow 0) = d1 at he
  generalize h2 : d1.snapBase 2 (d.tbNow 1) = d2 at he
  generalize h3 : d2.snapBase 3 d.tb2 = d3 at he
  generalize h4 : d3.snapBase 4 d.tb3Now = d4 at he
  have s0 : d4.Snapped 0 d.wt := by
    subst h4 h3 h2 h1 h0
    exact ((((d.snapped_snapBase 0 _).snapBase (by decide) _).snapBase (by decide) _).snapBase (by decide) _).snapBase
      (by decide) _
  have s1 : d4.Snapped 1 (d.tbNow 0) := by
    subst h4 h3 h2 h1
    exact (((d0.snapped_snapBase 1 _).snapBase (by decide) _).snapBase (by decide) _).snapBase (by decide) _
  have s2 : d4.Snapped 2 (d.tbNow 1) := by
    subst h4 h3 h2
    exact ((d1.snapped_snapBase 2 _).snapBase (by decide) _).snapBase (by decide) _
  have s3 : d4.Snapped 3 d.tb2 := by
    subst h4 h3
    exact (d2.snapped_snapBase 3 _).snapBase (by decide) _
  have s4 : d4.Snapped 4 d.tb3Now := by
    subst h4
    exact d3.snapped_snapBase 4 _
  have hk : d4.Keeps e (· = R.TIME_SNAP.off 0 0) [] := by
    subst he
    exact (Dev.Keeps.refl _ _ _).put _ _ _ _ rfl
  have hw : ∀ b, b < 5 → ∀ x ∈ snapOffs b, x ∈ R.TIME_SNAP.off 0 0 :: (List.range 5).flatMap snapOffs := fun b hb x hx =>
    List.mem_cons_of_mem _ (List.mem_flatMap.mpr ⟨b, List.mem_range.mpr hb, hx⟩)
  refine ⟨?_, fun b hb => ?_, ?_⟩
  · subst he
    exact Dev.get_put_lt _ _ _ _ _ 2 (by decide) (by decide)
  · have hb4 : d4.Snapped b (snapValue d b) := by
      interval_cases b
      · exact s0
      · exact s1
      · exact s2
      · exact s3
      · exact s4
    exact hb4.keeps hk (by interval_cases b <;> decide)
  · subst he h4 h3 h2 h1 h0
    exact ((((((Dev.Keeps.refl d _ _).snapBase _ (hw 0 (by decide))).snapBase _ (hw 1 (by decide))).snapBase _
      (hw 2 (by decide))).snapBase _ (hw 3 (by decide))).snapBase _ (hw 4 (by decide))).put _ _ _ _ (by
        simp [R.TIME_SNAP_DONE])

theorem timeSnap_latches (t : Nat) (v : Word) (s : State) (hr : s.dev.Reaches 0x300018) (hv : bit v.toNat 0 = true) :
    ∃ s', exec (.timeSnap t v) s = .next s' ∧ s'.dev.get R.TIME_SNAP_DONE = 1 ∧
      (∀ b, b < 5 → s'.dev.Snapped b (snapValue (s.dev.clock t) b)) ∧
      s.Keeps s' t (R.TIME_SNAP.off 0 0 :: (List.range 5).flatMap snapOffs) [] := by
  generalize he : timeSnap v (s.dev.clock t) = e
  obtain ⟨h1, h2, h3⟩ := timeSnap_snaps hv he
  refine ⟨{ s with dev := e }, ?_, h1, h2, rfl, .inr rfl, h3⟩
  rw [exec_timeSnap, State.onDev, Dev.gated_of_reaches (hr.clock t), he]

/-! ### TB3 and PPS_OUT -/

theorem Dev.tb3Now_withTime (d : Dev) {x : TimeSt} (h : x.wt = d.time.wt) :
    Dev.tb3Now { d with time := x } = x.tb3.read d.wt := by
  rw [Dev.tb3Now, Dev.wt_withTime _ h]

/-- TB3 takes the staged value, or ignores it (R87). -/
theorem tb3Apply_sets {d : Dev} {v : Word} {ns sec : Nat} (hns : d.reg R.TB3_SET_NS = ns)
    (hsec : d.get R.TB3_SET_SEC_HI_SEC * 2 ^ 32 + d.reg R.TB3_SET_SEC_LO = sec) {e : Dev} (he : tb3Apply v d = e) :
    e.tb3Now = (if bit v.toNat 0 = true ∧ ns < 1000000000 then (sec * 1000000000 + ns) * 4 else d.tb3Now) ∧
      e.time.tb3.rate = d.time.tb3.rate ∧ d.Keeps e (· ∈ []) [.time, .pair] := by
  rw [tb3Apply, hns, hsec] at he
  dsimp only at he
  by_cases h : bit v.toNat 0 = true ∧ ns < 1000000000
  · rw [if_pos (by simpa using h)] at he
    subst he
    refine ⟨?_, rfl, (Dev.Keeps.refl _ _ _).withTime _ (by simp)⟩
    rw [if_pos h]
    refine (d.tb3Now_withTime ?_).trans (Anchor.read_tick ⟨d.wt, (sec * 1000000000 + ns) * 4, d.time.tb3.rate⟩)
    rfl
  · rw [if_neg (by simpa using h)] at he
    subst he
    exact ⟨(if_neg h).symm, rfl, .refl _ _ _⟩

theorem tb3Apply_takes (t : Nat) (v : Word) (s : State) (hr : s.dev.Reaches 0x3000CC) (ha : s.dev.Alone) :
    let ns := s.dev.reg R.TB3_SET_NS
    let sec := s.dev.get R.TB3_SET_SEC_HI_SEC * 2 ^ 32 + s.dev.reg R.TB3_SET_SEC_LO
    ∃ s', exec (.tb3Apply t v) s = .next s' ∧
      s'.dev.tb3Now = (if bit v.toNat 0 = true ∧ ns < 1000000000 then (sec * 1000000000 + ns) * 4
        else (s.dev.clock t).tb3Now) ∧
      s'.dev.time.tb3.rate = s.dev.time.tb3.rate ∧ s.Keeps s' t [] [.time, .pair] := by
  intro ns sec
  obtain ⟨x, hx⟩ := (s.dev.clock t).hostEffect_of_alone v (tb3Apply v) (by decide : mirrored 0x3000CC = true) ha
  generalize he : tb3Apply v (s.dev.clock t) = e at hx
  obtain ⟨h1, h2, h3⟩ := tb3Apply_sets (d := s.dev.clock t) rfl rfl he
  rw [exec_tb3Apply, State.onDev, Dev.gatedM, Dev.gated_of_reaches (hr.clock t), hx]
  refine ⟨_, rfl, Eq.trans ?_ h1, h2, rfl, .inr rfl, h3.setPair _ (by simp)⟩
  rw [Dev.tb3Now, Dev.setPair_wt, Dev.setPair_time, ← Dev.tb3Now]

/-- TB3 goes on at a new rate, or ignores it (R87). -/
theorem tb3Rate_sets {d : Dev} {v : Word} {r : Int} (hr : toSigned 32 v.toNat = r) {e : Dev} (he : tb3Rate v d = e) :
    e.tb3Now = d.tb3Now ∧ e.time.tb3.rate = (if r.natAbs ≤ 32767 * 65536 then r else d.time.tb3.rate) ∧
      e.reg R.TB_RATE_ADJ 3 = (if r.natAbs ≤ 32767 * 65536 then v.toNat else d.reg R.TB_RATE_ADJ 3) ∧
      d.Keeps e (· ∈ [R.TB_RATE_ADJ.off 3 0]) [.time, .pair] := by
  rw [tb3Rate, hr] at he
  dsimp only at he
  by_cases h : r.natAbs ≤ 32767 * 65536
  · rw [if_pos h] at he ⊢
    rw [if_pos h]
    generalize hx : ({ d.time with tb3 := d.time.tb3.retime d.wt r } : TimeSt) = x at he
    have hwt : x.wt = d.time.wt := by rw [← hx]
    have htb : x.tb3 = d.time.tb3.retime d.wt r := by rw [← hx]
    subst he
    refine ⟨?_, ?_, ?_, ((Dev.Keeps.refl _ _ _).withTime _ (by simp)).setReg _ _ _ _ (by simp)⟩
    · rw [Dev.tb3Now, Dev.setReg_wt, Dev.setReg_time, ← Dev.tb3Now, Dev.tb3Now_withTime _ hwt, htb, Anchor.read_retime,
        ← Dev.tb3Now]
    · rw [Dev.setReg_time, htb]
      rfl
    · rw [Dev.reg_setReg, Nat.mod_eq_of_lt v.isLt]
  · rw [if_neg h] at he ⊢
    rw [if_neg h]
    subst he
    exact ⟨rfl, rfl, rfl, .refl _ _ _⟩

theorem tb3RateAdjWrite_takes (t : Nat) (v : Word) (s : State) (hr : s.dev.Reaches 0x3000B4) (ha : s.dev.Alone) :
    let r := toSigned 32 v.toNat
    ∃ s', exec (.tb3RateAdjWrite t v) s = .next s' ∧ s'.dev.tb3Now = (s.dev.clock t).tb3Now ∧
      s'.dev.time.tb3.rate = (if r.natAbs ≤ 32767 * 65536 then r else s.dev.time.tb3.rate) ∧
      s'.dev.reg R.TB_RATE_ADJ 3 = (if r.natAbs ≤ 32767 * 65536 then v.toNat else s.dev.reg R.TB_RATE_ADJ 3) ∧
      s.Keeps s' t [R.TB_RATE_ADJ.off 3 0] [.time, .pair] := by
  intro r
  obtain ⟨x, hx⟩ := (s.dev.clock t).hostEffect_of_alone v (tb3Rate v) (by decide : mirrored 0x3000B4 = true) ha
  generalize he : tb3Rate v (s.dev.clock t) = e at hx
  obtain ⟨h1, h2, h3, h4⟩ := tb3Rate_sets (d := s.dev.clock t) rfl he
  rw [exec_tb3RateAdjWrite, State.onDev, Dev.gatedM, Dev.gated_of_reaches (hr.clock t), hx]
  refine ⟨_, rfl, Eq.trans ?_ h1, h2, h3, rfl, .inr rfl, h4.setPair _ (by simp)⟩
  rw [Dev.tb3Now, Dev.setPair_wt, Dev.setPair_time, ← Dev.tb3Now]

theorem ppsCtrlWrite_takes (t : Nat) (v : Word) (s : State) (hr : s.dev.Reaches 0x3000D0) (ha : s.dev.Alone) :
    ∃ s', exec (.ppsCtrlWrite t v) s = .next s' ∧ s'.dev.get R.PPS_CTRL_ENABLE = v.toNat % 2 ∧
      s.Keeps s' t [R.PPS_CTRL.off 0 0] [.pair] := by
  obtain ⟨x, hx⟩ := (s.dev.clock t).hostEffect_of_alone v (ppsCtrl v) (by decide : mirrored 0x3000D0 = true) ha
  rw [exec_ppsCtrlWrite, State.onDev, Dev.gatedM, Dev.gated_of_reaches (hr.clock t), hx, ppsCtrl]
  refine ⟨_, rfl, ?_, rfl, .inr rfl, ((Dev.Keeps.refl _ _ _).put _ _ _ _ (by simp [R.PPS_CTRL_ENABLE])).setPair _
    (by simp)⟩
  rw [Dev.setPair_get, Dev.get_put_lt _ _ _ _ _ 2 (by decide) (Nat.mod_lt _ (by decide))]

/-- PPS_OUT rises at the whole seconds of working time while it is enabled (R90). -/
theorem ppsOutRise_rises (t : Nat) (s : State) :
    ∃ s', exec (.ppsOutRise t) s = .next s' ∧
      (s'.dev.time.ppsHigh = true ↔ s.dev.time.ppsHigh = true ∨ (s.dev.get R.PPS_CTRL_ENABLE = 1 ∧
        s.dev.wtState ≠ wtUnset ∧ (s.dev.clock t).wt / 4 % 1000000000 = 0)) ∧ s.Keeps s' t [] [.time] := by
  have hx : ppsRise (s.dev.clock t) = if s.dev.get R.PPS_CTRL_ENABLE = 1 ∧ s.dev.wtState ≠ wtUnset ∧
      (s.dev.clock t).wt / 4 % 1000000000 = 0 then
        { s.dev.clock t with time := { (s.dev.clock t).time with ppsHigh := true } } else s.dev.clock t := by
    unfold ppsRise
    refine if_congr ?_ rfl rfl
    simp only [Bool.and_eq_true, Dev.on_iff, Dev.clock_get, decide_eq_true_eq, and_assoc]
    rfl
  rw [exec_ppsOutRise, State.onDev, hx]
  split
  · next h => exact ⟨_, rfl, ⟨fun _ => .inr h, fun _ => rfl⟩, rfl, .inr rfl, (Dev.Keeps.refl _ _ _).withTime _ (by simp)⟩
  · next h => exact ⟨_, rfl, ⟨fun hp => .inl hp, fun hp => hp.resolve_right h⟩, rfl, .inr rfl, .refl _ _ _⟩

theorem ppsOutFall_falls (t : Nat) (s : State) :
    ∃ s', exec (.ppsOutFall t) s = .next s' ∧ s'.dev.time = { s.dev.time with ppsHigh := false } ∧
      s.Keeps s' t [] [.time] := by
  rw [exec_ppsOutFall, State.onDev, ppsFall]
  exact ⟨_, rfl, rfl, rfl, .inr rfl, (Dev.Keeps.refl _ _ _).withTime _ (by simp)⟩

/-- Settles O19: a switch never steps working time, an anchor reads on through a change of its rate, and the five snapshot
writes take their values from one and the same device. -/
theorem timeControl : Obligations.TimeControl := by
  unfold Obligations.TimeControl
  refine ⟨⟨wtFollow_follows, ptpPorts_takes⟩, ?_, tb3Apply_takes, tb3RateAdjWrite_takes, ppsCtrlWrite_takes,
    fun t s => ⟨ppsOutRise_rises t s, ppsOutFall_falls t s⟩⟩
  intro t v s hr hv
  obtain ⟨s', hs, hdone, hsnap, hk⟩ := timeSnap_latches t v s hr hv
  exact ⟨s', hs, hdone, hsnap, hk⟩

end Sys2Proof.Machine
end

section
/-! PROOFS. Launch-timed frames (R80, R293). -/

namespace Sys2Proof.Machine

theorem exec_launchFrameSubmit (t p at48 : Nat) (bytes : List Byte) (gated : Bool) (s : State) :
    exec (.launchFrameSubmit t p at48 bytes gated) s = s.onDev t (launchSubmit p at48 bytes gated) := rfl

theorem exec_launchTimeReached (t p : Nat) (s : State) :
    exec (.launchTimeReached t p) s = s.onDev t (launchReached p) := rfl

theorem mem_launchOffs {p : Nat} (hp : p < 4) : R.LAUNCH_LATE.off p 0 ∈ launchOffs ∧ R.LAUNCH_FAR.off p 0 ∈ launchOffs ∧
    R.CC_SENT_A.off p 0 ∈ launchOffs ∧ R.CC_SENT_B.off p 0 ∈ launchOffs ∧ R.CC_GATED.off p 0 ∈ launchOffs ∧
    R.CC_PORT_DOWN.off p 0 ∈ launchOffs := by
  interval_cases p <;> decide

theorem Dev.launches_setLaunches (d : Dev) (p : Nat) (ls : List Launch) : (d.setLaunches p ls).launches p = ls :=
  tabGetD_set_same _ _ _ _

theorem Dev.launches_of_time {d e : Dev} (h : e.time = d.time) (p : Nat) : e.launches p = d.launches p := by
  rw [Dev.launches, h, ← Dev.launches]

theorem Dev.wt48_withTime (d : Dev) {x : TimeSt} (h : x.wt = d.time.wt) : Dev.wt48 { d with time := x } = d.wt48 :=
  congrArg (· / 4 % 2 ^ 48) (d.wt_withTime h)

theorem Dev.wt48_setLaunches (d : Dev) (p : Nat) (ls : List Launch) : (d.setLaunches p ls).wt48 = d.wt48 := by
  refine d.wt48_withTime ?_
  rfl

/-- A counter whose value goes up by 1. -/
theorem Dev.counts_bump (d : Dev) (f : FldDesc) (i : Nat) (hf : f.ok = true) : d.Counts (d.bump f i) f i :=
  d.get_bump f i 1 0 hf

/-- A port of which the frame at the head waits drops nothing. -/
theorem Dev.dropLate_of_waiting {d : Dev} {p : Nat}
    (h : ∀ x, (d.launches p).head? = some x → later 48 x.at48 d.wt48 = true) (n : Nat) : Dev.dropLate n d p = d := by
  cases n with
  | zero => rfl
  | succ n =>
    unfold Dev.dropLate
    split
    · next l r hl => rw [if_pos (h l (by rw [hl]; rfl))]
    · rfl

/-- A frame with a launch time is dropped when it is far or late, and waits otherwise (R80). -/
theorem launch_sets {d : Dev} {p : Nat} (hp : p < 4) (l : Launch) (hc : l.cycle = none) {e : Dev} (he : d.launch p l = e) :
    (if (1000000000 : Int) < sdiff 48 l.at48 d.wt48 then d.Counts e R.LAUNCH_FAR_COUNT p ∧ e.launches p = d.launches p
      else if d.launches p = [] ∧ later 48 l.at48 d.wt48 = false then d.Counts e R.LAUNCH_LATE_COUNT p ∧ e.launches p = []
      else e.launches p = d.launches p ++ [l]) ∧ d.Keeps e (· ∈ launchOffs) [.time] := by
  obtain ⟨hlate, hfar, -⟩ := mem_launchOffs hp
  have hcc : ∀ b : Dev, b.ccLate l = b := fun b => by
    unfold Dev.ccLate
    rw [hc]
  rw [Dev.launch, hcc] at he
  dsimp only at he
  by_cases hf : (1000000000 : Int) < sdiff 48 l.at48 d.wt48
  · rw [if_pos hf] at he ⊢
    subst he
    exact ⟨⟨d.counts_bump _ _ (by decide), Dev.launches_of_time (Dev.bump_time _ _ _ _ _) p⟩,
      (Dev.Keeps.refl _ _ _).bump _ _ _ _ hfar⟩
  rw [if_neg hf] at he ⊢
  have hk : ∀ ls, d.Keeps (d.setLaunches p ls) (· ∈ launchOffs) [.time] := fun ls =>
    (Dev.Keeps.refl _ _ _).setLaunches _ _ (by simp)
  have hw := d.wt48_setLaunches p (d.launches p ++ [l])
  have hl := d.launches_setLaunches p (d.launches p ++ [l])
  cases hq : d.launches p with
  | cons x r =>
    rw [hq] at he hl
    rw [if_neg (by simp)]
    subst he
    exact ⟨hl, hk _⟩
  | nil =>
    rw [hq] at he hl hw
    rw [List.isEmpty_nil, if_pos rfl] at he
    by_cases hn : later 48 l.at48 d.wt48 = false
    · rw [Dev.dropLate, hl, List.nil_append] at he
      dsimp only at he
      rw [if_neg (by rw [← List.nil_append [l], hw]; simp [hn]), hcc, Dev.dropLate] at he
      rw [if_pos ⟨rfl, hn⟩]
      subst he
      refine ⟨⟨?_, ?_⟩, ((hk _).setLaunches _ _ (by simp)).bump _ _ _ _ hlate⟩
      · rw [Dev.Counts, Dev.get_bump _ _ _ _ _ (by decide), Dev.setLaunches_get, Dev.setLaunches_get]
      · exact (Dev.launches_of_time (Dev.bump_time _ _ _ _ _) p).trans (Dev.launches_setLaunches _ _ _)
    · rw [if_neg (fun h => hn h.2)]
      rw [Dev.dropLate_of_waiting (fun x hx => by
        rw [hl] at hx
        cases hx
        rw [hw]
        simpa using hn)] at he
      subst he
      exact ⟨hl, hk _⟩

theorem launchFrameSubmit_launches (t p at48 : Nat) (bytes : List Byte) (gated : Bool) (s : State) (hp : p < 4)
    (ha : at48 < 2 ^ 48) :
    let w := (s.dev.clock t).wt48
    ∃ s', exec (.launchFrameSubmit t p at48 bytes gated) s = .next s' ∧
      (if (1000000000 : Int) < sdiff 48 at48 w then s.dev.Counts s'.dev R.LAUNCH_FAR_COUNT p ∧
          s'.dev.launches p = s.dev.launches p
        else if s.dev.launches p = [] ∧ later 48 at48 w = false then s.dev.Counts s'.dev R.LAUNCH_LATE_COUNT p ∧
          s'.dev.launches p = []
        else s'.dev.launches p = s.dev.launches p ++ [⟨at48, bytes, gated, none⟩]) ∧
      s.Keeps s' t launchOffs [.time] := by
  intro w
  generalize he : launchSubmit p at48 bytes gated (s.dev.clock t) = e
  have he' := he
  rw [launchSubmit, if_neg (by omega), Nat.mod_eq_of_lt ha] at he'
  obtain ⟨h1, h2⟩ := launch_sets hp ⟨at48, bytes, gated, none⟩ rfl he'
  refine ⟨{ s with dev := e }, ?_, h1, rfl, .inr rfl, h2⟩
  rw [exec_launchFrameSubmit, State.onDev, he]

/-! ### The launch -/

theorem Dev.wt48_bump (d : Dev) (f : FldDesc) (i : Nat) : (d.bump f i).wt48 = d.wt48 :=
  congrArg (· / 4 % 2 ^ 48) (Dev.put_wt _ _ _ _ _)

/-- Count a copy of a command frame in its cycle's counter `f`; other frames are not counted. -/
def Dev.countCopy (d : Dev) (l : Launch) (f : Nat → FldDesc) : Dev :=
  (l.cycle.map fun x => d.bump (f x) (x / 2)).getD d

/-- A counter of each cycle, among those that a launch may move. -/
def CopyCounter (f : FldDesc) : Prop := f.ok = true ∧ ∀ c, c < 4 → f.reg.off c 0 ∈ launchOffs

theorem Dev.countCopy_sets (d : Dev) {l : Launch} (hl : ∀ x, l.cycle = some x → x < 8) {f : Nat → FldDesc}
    (hf : ∀ x, CopyCounter (f x)) {e : Dev} (he : d.countCopy l f = e) :
    e.time = d.time ∧ e.wt48 = d.wt48 ∧ (∀ x, l.cycle = some x → d.Counts e (f x) (x / 2)) ∧
      d.Keeps e (· ∈ launchOffs) [.time, .io] := by
  unfold Dev.countCopy at he
  cases hx : l.cycle with
  | none =>
    rw [hx] at he
    subst he
    exact ⟨rfl, rfl, fun _ h => absurd h (by simp), .refl _ _ _⟩
  | some x =>
    rw [hx] at he
    subst he
    have := hl x hx
    refine ⟨Dev.bump_time _ _ _ _ _, d.wt48_bump _ _, fun y hy => ?_,
      (Dev.Keeps.refl _ _ _).bump _ _ _ _ ((hf x).2 _ (by omega))⟩
    cases hy
    exact d.counts_bump _ _ (hf x).1

theorem copyCounters : CopyCounter R.CC_PORT_DOWN_COUNT ∧ CopyCounter R.CC_GATED_COUNT ∧ CopyCounter R.CC_SENT_A_COUNT ∧
    CopyCounter R.CC_SENT_B_COUNT := by
  refine ⟨⟨by decide, fun c hc => ?_⟩, ⟨by decide, fun c hc => ?_⟩, ⟨by decide, fun c hc => ?_⟩,
    ⟨by decide, fun c hc => ?_⟩⟩ <;> obtain ⟨-, -, hA, hB, hG, hD⟩ := mem_launchOffs hc
  · exact hD
  · exact hG
  · exact hA
  · exact hB

/-- A sent copy is counted for its port. -/
def sentCount (x : Nat) : FldDesc := if x % 2 = 0 then R.CC_SENT_A_COUNT else R.CC_SENT_B_COUNT

theorem Dev.leave_of_down {d : Dev} {p : Nat} (h : d.portUp p = false) (l : Launch) :
    d.leave p l = d.countCopy l fun _ => R.CC_PORT_DOWN_COUNT := by
  rw [Dev.leave, if_pos (by simp [h]), Dev.countCopy]
  cases l.cycle <;> rfl

theorem Dev.leave_of_gated {d : Dev} {p : Nat} (h : d.portUp p = true) {l : Launch}
    (hg : l.gated = true ∧ d.on R.PAIR_STATUS_OWNS = false) :
    d.leave p l = d.countCopy l fun _ => R.CC_GATED_COUNT := by
  rw [Dev.leave, if_neg (by simp [h]), if_pos (by simp [hg]), Dev.countCopy]
  cases l.cycle <;> rfl

/-- A frame that is sent: besides the count, its cycle is no longer late. -/
theorem Dev.leave_of_sent {d : Dev} {p : Nat} (h : d.portUp p = true) {l : Launch}
    (hg : ¬(l.gated = true ∧ d.on R.PAIR_STATUS_OWNS = false)) {b : Dev}
    (hb : ({ d with time := { d.time with sent := (p, l.bytes) :: d.time.sent } } : Dev) = b) :
    d.leave p l = (b.countCopy l sentCount) ∨
      ∃ c x, d.leave p l = (b.countCopy l sentCount).setCycle c x := by
  rw [Dev.leave, if_neg (by simp [h]), if_neg (by simpa using hg), hb, Dev.countCopy]
  cases l.cycle with
  | none => exact .inl rfl
  | some x =>
    refine .inr ⟨x / 2, _, congrArg (Dev.setCycle · _ _) ?_⟩
    simp only [Option.map_some, Option.getD_some, sentCount]
    split <;> rfl

/-- What becomes of a frame at its launch time: it is sent by a port that is up, unless it is gated while another owns the
outputs (R293). -/
theorem leave_sets (d : Dev) (p : Nat) {l : Launch} (hl : ∀ x, l.cycle = some x → x < 8) {e : Dev} (he : d.leave p l = e) :
    e.launches p = d.launches p ∧ e.wt48 = d.wt48 ∧
      e.time.sent = (if d.portUp p = true ∧ (l.gated = false ∨ d.on R.PAIR_STATUS_OWNS = true) then
        (p, l.bytes) :: d.time.sent else d.time.sent) ∧
      (∀ x, l.cycle = some x →
        if d.portUp p = false then d.Counts e R.CC_PORT_DOWN_COUNT (x / 2)
        else if l.gated = true ∧ d.on R.PAIR_STATUS_OWNS = false then d.Counts e R.CC_GATED_COUNT (x / 2)
        else if x % 2 = 0 then d.Counts e R.CC_SENT_A_COUNT (x / 2)
        else d.Counts e R.CC_SENT_B_COUNT (x / 2)) ∧ d.Keeps e (· ∈ launchOffs) [.time, .io] := by
  obtain ⟨hdown, hgated, hsentA, hsentB⟩ := copyCounters
  by_cases hu : d.portUp p = false
  · obtain ⟨ht, hw, hc, hk⟩ := d.countCopy_sets hl (fun _ => hdown) ((Dev.leave_of_down hu l).symm.trans he)
    rw [if_neg (by simp [hu])]
    exact ⟨Dev.launches_of_time ht p, hw, by rw [ht], fun x hx => (if_pos hu).mpr (hc x hx), hk⟩
  have hu' : d.portUp p = true := by simpa using hu
  by_cases hg : l.gated = true ∧ d.on R.PAIR_STATUS_OWNS = false
  · obtain ⟨ht, hw, hc, hk⟩ := d.countCopy_sets hl (fun _ => hgated) ((Dev.leave_of_gated hu' hg).symm.trans he)
    rw [if_neg (by simp [hg])]
    exact ⟨Dev.launches_of_time ht p, hw, by rw [ht], fun x hx => (if_neg hu).mpr ((if_pos hg).mpr (hc x hx)), hk⟩
  have hs : d.portUp p = true ∧ (l.gated = false ∨ d.on R.PAIR_STATUS_OWNS = true) := by
    refine ⟨hu', ?_⟩
    cases hgd : l.gated with
    | false => exact .inl rfl
    | true => exact .inr (by simpa [hgd] using hg)
  rw [if_pos hs]
  generalize hb : ({ d with time := { d.time with sent := (p, l.bytes) :: d.time.sent } } : Dev) = b
  have hbl : b.launches p = d.launches p := by rw [← hb, Dev.launches, Dev.launches]
  have hbw : b.wt48 = d.wt48 := by
    rw [← hb]
    refine d.wt48_withTime ?_
    rfl
  have hbs : b.time.sent = (p, l.bytes) :: d.time.sent := by rw [← hb]
  have hbg : ∀ f i, b.get f i = d.get f i := fun f i => by rw [← hb, Dev.get_withTime]
  have hbk : d.Keeps b (· ∈ launchOffs) [.time, .io] := by
    rw [← hb]
    exact (Dev.Keeps.refl _ _ _).withTime _ (by simp)
  generalize hcc : b.countCopy l sentCount = g
  obtain ⟨ht, hw, hc, hk⟩ := b.countCopy_sets hl (fun x => by
    unfold sentCount
    split
    · exact hsentA
    · exact hsentB) hcc
  have hge : e.time = g.time ∧ e.wt48 = g.wt48 ∧ (∀ f i, e.get f i = g.get f i) ∧
      g.Keeps e (· ∈ launchOffs) [.time, .io] := by
    obtain h | ⟨c, x, h⟩ := Dev.leave_of_sent hu' hg hb <;> rw [he, hcc] at h <;> subst h
    · exact ⟨rfl, rfl, fun _ _ => rfl, .refl _ _ _⟩
    · refine ⟨Dev.setCycle_time _ _ _, ?_, fun f i => Dev.setCycle_get _ _ _ _ _ _,
        (Dev.Keeps.refl _ _ _).setCycle _ _ (by simp)⟩
      rw [Dev.wt48, Dev.setCycle_wt, ← Dev.wt48]
  obtain ⟨hte, hwe, hgete, hke⟩ := hge
  refine ⟨(Dev.launches_of_time (hte.trans ht) p).trans hbl, (hwe.trans hw).trans hbw, by rw [hte, ht, hbs],
    fun x hx => (if_neg hu).mpr ((if_neg hg).mpr ?_), (hbk.trans hk).trans hke⟩
  have hcx := hc x hx
  rw [Dev.Counts, hbg, ← hgete, sentCount] at hcx
  split
  · next h0 => rwa [if_pos h0] at hcx
  · next h0 => rwa [if_neg h0] at hcx

theorem launchTimeReached_leaves (t p : Nat) (l : Launch) (r : List Launch) (s : State)
    (hq : s.dev.launches p = l :: r) (hl : later 48 l.at48 (s.dev.clock t).wt48 = false)
    (hr : ∀ x, r.head? = some x → later 48 x.at48 (s.dev.clock t).wt48 = true) (hc : ∀ x, l.cycle = some x → x < 8) :
    ∃ s', exec (.launchTimeReached t p) s = .next s' ∧ s'.dev.launches p = r ∧
      s'.dev.time.sent = (if s.dev.portUp p = true ∧ (l.gated = false ∨ s.dev.on R.PAIR_STATUS_OWNS = true) then
        (p, l.bytes) :: s.dev.time.sent else s.dev.time.sent) ∧
      (∀ x, l.cycle = some x →
        if s.dev.portUp p = false then s.dev.Counts s'.dev R.CC_PORT_DOWN_COUNT (x / 2)
        else if l.gated = true ∧ s.dev.on R.PAIR_STATUS_OWNS = false then s.dev.Counts s'.dev R.CC_GATED_COUNT (x / 2)
        else if x % 2 = 0 then s.dev.Counts s'.dev R.CC_SENT_A_COUNT (x / 2)
        else s.dev.Counts s'.dev R.CC_SENT_B_COUNT (x / 2)) ∧ s.Keeps s' t launchOffs [.time, .io] := by
  have hq' : (s.dev.clock t).launches p = l :: r := hq
  have hb1 := (s.dev.clock t).launches_setLaunches p r
  have hb2 := (s.dev.clock t).wt48_setLaunches p r
  have hb3 : ((s.dev.clock t).setLaunches p r).portUp p = s.dev.portUp p := rfl
  have hb4 : ((s.dev.clock t).setLaunches p r).on R.PAIR_STATUS_OWNS = s.dev.on R.PAIR_STATUS_OWNS := rfl
  have hb5 : ((s.dev.clock t).setLaunches p r).time.sent = s.dev.time.sent := rfl
  have hb6 : ∀ f i, ((s.dev.clock t).setLaunches p r).get f i = s.dev.get f i := fun f i => by
    rw [Dev.setLaunches_get, Dev.clock_get]
  have hb7 : (s.dev.clock t).Keeps ((s.dev.clock t).setLaunches p r) (· ∈ launchOffs) [.time, .io] :=
    (Dev.Keeps.refl _ _ _).setLaunches _ _ (by simp)
  have hx : launchReached p (s.dev.clock t) = Dev.dropLate r.length (((s.dev.clock t).setLaunches p r).leave p l) p := by
    unfold launchReached
    rw [hq']
    dsimp only
    rw [if_neg (by simp [hl])]
  rw [exec_launchTimeReached, State.onDev, hx]
  generalize (s.dev.clock t).setLaunches p r = b at *
  generalize he : b.leave p l = e
  obtain ⟨h1, h2, h3, h4, h5⟩ := leave_sets b p hc he
  rw [Dev.dropLate_of_waiting (fun x hx => by
    rw [h1, hb1] at hx
    rw [h2, hb2]
    exact hr x hx)]
  refine ⟨_, rfl, h1.trans hb1, ?_, ?_, rfl, .inr rfl, hb7.trans h5⟩
  · rw [h3, hb3, hb4, hb5]
  · intro x hx
    have := h4 x hx
    simp only [Dev.Counts, hb3, hb4, hb6] at this ⊢
    exact this

end Sys2Proof.Machine
end

section
/-! PROOFS. Trigger units and what their events start (R88, R292). -/

namespace Sys2Proof.Machine

theorem exec_trigApply (t u : Nat) (v : Word) (s : State) :
    exec (.trigApply t u v) s = s.onDev t (·.gated 0x301000 (trigApply u v)) := rfl

theorem exec_triggerEvent (t u : Nat) (s : State) : exec (.triggerEvent t u) s = s.onDev t (triggerEvent u) := rfl

theorem exec_triggerPulseEnd (t u : Nat) (s : State) : exec (.triggerPulseEnd t u) s = s.onDev t (trigPulseEnd u) := rfl

theorem Dev.trig_of_time {d e : Dev} (h : e.time = d.time) (u : Nat) : e.trig u = d.trig u := by
  rw [Dev.trig, h, ← Dev.trig]

theorem Dev.trig_setTrig (d : Dev) (u : Nat) (g : Trig) : (d.setTrig u g).trig u = g := by
  rw [Dev.setTrig, Dev.trig_of_time (Dev.put_time _ _ _ _ _)]
  exact tabGetD_set_same _ _ _ _

theorem Dev.armed_setTrig (d : Dev) (u : Nat) (g : Trig) : (d.setTrig u g).get R.TRIG_STATUS_ARMED u = b2n g.armed :=
  Dev.get_put_lt _ _ _ _ _ 2 (by decide) (by cases g.armed <;> decide)

/-- A schedule leaves the fields below ARMED, and every other register. -/
theorem Dev.get_setTrig (d : Dev) (u : Nat) (g : Trig) (f : FldDesc)
    (hf : f.ok = true ∧ f.reg = R.TRIG_STATUS ∧ f.hi < 31) : (d.setTrig u g).get f u = d.get f u :=
  (Dev.get_put_field _ _ f _ u 0 (by decide) hf.1 hf.2.1 (.inl hf.2.2)).trans (Dev.get_withTime _ _ _ _ _)

theorem Dev.Keeps.setTrig {d0 d : Dev} {ws : Nat → Prop} {ps : List Part} (h : d0.Keeps d ws ps) (u : Nat) (g : Trig)
    (hp : Part.time ∈ ps) (hw : ws (R.TRIG_STATUS.off u 0)) : d0.Keeps (d.setTrig u g) ws ps :=
  (h.withTime _ hp).put _ _ _ _ hw

/-! ### Configuration -/

/-- What a write with APPLY makes of a unit that no control cycle holds, after TRIG_CTRL has taken it: `n` the value, `w`
working time. -/
def Trig.Configured (d e : Dev) (u n at48 period width w : Nat) : Prop :=
  if d.wtState = wtUnset then e.get R.TRIG_STATUS_UNSET u = 1 ∧ e.trig u = d.trig u
  else if 2 ≤ bits n 29 28 ∨ (bits n 29 28 = 1 ∧ bit n 30 = true ∧ period ≤ width) then
    e.get R.TRIG_STATUS_BAD_CONFIG u = 1 ∧ e.trig u = d.trig u
  else if bit n 30 = false then e.trig u = { d.trig u with armed := false } ∧ e.get R.TRIG_STATUS_ARMED u = 0
  else if bits n 29 28 = 1 then e.trig u = { d.trig u with
      armed := true, periodic := true, next := firstPeriodic w at48 period, period := period, width := width } ∧
    e.get R.TRIG_STATUS_ARMED u = 1
  else if sdiff 48 at48 w < 1000 then e.get R.TRIG_STATUS_MISSED u = 1 ∧ e.get R.TRIG_STATUS_ARMED u = 0
  else e.trig u = { d.trig u with
      armed := true, periodic := false, next := at48, period := 0, width := width } ∧
    e.get R.TRIG_STATUS_ARMED u = 1

/-- What a configuration of a trigger unit may move, once TRIG_CTRL has taken it. -/
abbrev Dev.KeepsTrig (d e : Dev) (u : Nat) : Prop := d.Keeps e (· ∈ R.TRIG_STATUS.off u 0 :: recOffs) [.time, .recd]

theorem trigStatus_notMem {u : Nat} (hu : u < 16) : R.TRIG_CTRL.off u 0 ∉ R.TRIG_STATUS.off u 0 :: recOffs := by
  interval_cases u <;> decide

theorem trigStatus_notMem_recOffs {u : Nat} (hu : u < 16) : R.TRIG_STATUS.off u 0 ∉ recOffs := by
  interval_cases u <;> decide

/-- A status bit of a unit is set, and its schedule stays. -/
theorem Dev.putTrigStatus_sets (d : Dev) (u : Nat) (f : FldDesc)
    (hf : f.ok = true ∧ f.reg = R.TRIG_STATUS ∧ 2 ^ (f.hi - f.lo + 1) = 2) :
    (d.put f 1 u).get f u = 1 ∧ (d.put f 1 u).trig u = d.trig u ∧ d.KeepsTrig (d.put f 1 u) u :=
  ⟨Dev.get_put_lt _ _ _ _ _ 2 ⟨hf.1, hf.2.2⟩ (by decide), Dev.trig_of_time (Dev.put_time _ _ _ _ _) u,
    (Dev.Keeps.refl _ _ _).put _ _ _ _ (by rw [hf.2.1]; simp)⟩

theorem Dev.setTrig_sets (d : Dev) (u : Nat) (g : Trig) :
    (d.setTrig u g).trig u = g ∧ (d.setTrig u g).get R.TRIG_STATUS_ARMED u = b2n g.armed ∧ d.KeepsTrig (d.setTrig u g) u :=
  ⟨d.trig_setTrig u g, d.armed_setTrig u g, (Dev.Keeps.refl _ _ _).setTrig _ _ (by simp) (by simp)⟩

/-- An event that has passed arms nothing, and sets MISSED (R88). -/
theorem Dev.missTrig_sets (d : Dev) {u : Nat} (hu : u < 16) (g : Trig) (hg : g.armed = false) {e : Dev}
    (he : ((d.setTrig u g).put R.TRIG_STATUS_MISSED 1 u).info .trigMissed (0x1040 + u) u = e) :
    e.get R.TRIG_STATUS_MISSED u = 1 ∧ e.get R.TRIG_STATUS_ARMED u = 0 ∧ d.KeepsTrig e u := by
  subst he
  have hn := trigStatus_notMem_recOffs hu
  have hs : R.TRIG_STATUS.off u 0 ∈ R.TRIG_STATUS.off u 0 :: recOffs := by simp
  refine ⟨?_, ?_, (((Dev.Keeps.refl _ _ _).setTrig _ _ (by simp) hs).put _ _ _ _ hs).info _ _ _ _ _
    (fun x hx => List.mem_cons_of_mem _ hx) (by simp)⟩
  · rw [Dev.get_of_info _ _ _ _ _ _ _ _ _ hn, Dev.get_put_lt _ _ _ _ _ 2 (by decide) (by decide)]
  · rw [Dev.get_of_info _ _ _ _ _ _ _ _ _ hn, Dev.get_put_apart _ _ _ _ _ _ (by decide), Dev.armed_setTrig, hg]
    rfl

theorem trigWrite_configures {d : Dev} {u : Nat} (hu : u < 16) {v : Word} (hv : bit v.toNat 31 = true) {e b : Dev}
    (hb : d.setReg R.TRIG_CTRL (v.toNat &&& 0x7000FFFF) u = b) (he : trigWrite u v false d = e) :
    Trig.Configured b e u v.toNat (b.get R.TRIG_AT_HI_AT u * 2 ^ 32 + b.reg R.TRIG_AT_LO u)
      (b.reg R.TRIG_PERIOD_M1 u + 1) ((bits v.toNat 15 0 + 1) * 8) b.wt48 ∧ b.KeepsTrig e u := by
  rw [trigWrite, if_neg (by omega), if_neg (by decide), if_neg (by simp [hv])] at he
  dsimp only at he
  rw [hb] at he
  generalize b.get R.TRIG_AT_HI_AT u * 2 ^ 32 + b.reg R.TRIG_AT_LO u = at48 at *
  generalize b.reg R.TRIG_PERIOD_M1 u + 1 = period at *
  generalize (bits v.toNat 15 0 + 1) * 8 = width at *
  generalize b.wt48 = w at *
  generalize v.toNat = n at *
  unfold Trig.Configured
  by_cases h1 : b.wtState = wtUnset
  · rw [if_pos h1] at he ⊢
    subst he
    obtain ⟨g1, g2, g3⟩ := b.putTrigStatus_sets u R.TRIG_STATUS_UNSET (by decide)
    exact ⟨⟨g1, g2⟩, g3⟩
  rw [if_neg h1] at he ⊢
  by_cases h2 : 2 ≤ bits n 29 28
  · rw [if_pos h2] at he
    rw [if_pos (.inl h2)]
    subst he
    obtain ⟨g1, g2, g3⟩ := b.putTrigStatus_sets u R.TRIG_STATUS_BAD_CONFIG (by decide)
    exact ⟨⟨g1, g2⟩, g3⟩
  rw [if_neg h2] at he
  by_cases h3 : bit n 30 = false
  · rw [if_pos (by simp [h3])] at he
    rw [if_neg (by simp [h3, h2]), if_pos h3]
    subst he
    obtain ⟨g1, g2, g3⟩ := b.setTrig_sets u { b.trig u with armed := false }
    exact ⟨⟨g1, g2⟩, g3⟩
  rw [if_neg (by simpa using h3)] at he
  have h3' : bit n 30 = true := by simpa using h3
  by_cases h4 : bits n 29 28 = 1
  · rw [if_pos h4] at he
    by_cases h5 : period ≤ width
    · rw [if_pos h5] at he
      rw [if_pos (.inr ⟨h4, h3', h5⟩)]
      subst he
      obtain ⟨g1, g2, g3⟩ := b.putTrigStatus_sets u R.TRIG_STATUS_BAD_CONFIG (by decide)
      exact ⟨⟨g1, g2⟩, g3⟩
    · rw [if_neg h5] at he
      rw [if_neg (by simp [h2, h5]), if_neg h3, if_pos h4]
      subst he
      obtain ⟨g1, g2, g3⟩ := b.setTrig_sets u { b.trig u with
        armed := true, periodic := true, next := firstPeriodic w at48 period, period := period, width := width }
      exact ⟨⟨g1, g2⟩, g3⟩
  rw [if_neg h4] at he
  rw [if_neg (by simp [h2, h4]), if_neg h3, if_neg h4]
  by_cases h6 : sdiff 48 at48 w < 1000
  · rw [if_pos h6] at he ⊢
    obtain ⟨g1, g2, g3⟩ := b.missTrig_sets hu _ rfl he
    exact ⟨⟨g1, g2⟩, g3⟩
  · rw [if_neg h6] at he ⊢
    subst he
    obtain ⟨g1, g2, g3⟩ := b.setTrig_sets u { b.trig u with
      armed := true, periodic := false, next := at48, period := 0, width := width }
    exact ⟨⟨g1, g2⟩, g3⟩

theorem Dev.trigCtrl_ne {u : Nat} (hu : u < 16) :
    R.TRIG_AT_HI.off u 0 ≠ R.TRIG_CTRL.off u 0 ∧ R.TRIG_AT_LO.off u 0 ≠ R.TRIG_CTRL.off u 0 ∧
      R.TRIG_PERIOD_M1.off u 0 ≠ R.TRIG_CTRL.off u 0 ∧ R.WT_STATUS.off 0 0 ≠ R.TRIG_CTRL.off u 0 := by
  interval_cases u <;> decide

/-- A trigger unit takes a good configuration, unless a control cycle holds it (R88, R291). -/
theorem trigApply_takes (t u : Nat) (v : Word) (s : State) (hu : u < 16) (hr : s.dev.Reaches 0x301000)
    (hv : bit v.toNat 31 = true) :
    ∃ s', exec (.trigApply t u v) s = .next s' ∧
      (if s.dev.trigHeld u = true then s'.dev.get R.TRIG_STATUS_BAD_CONFIG u = 1 ∧ s'.dev.trig u = s.dev.trig u ∧
          s'.dev.reg R.TRIG_CTRL u = s.dev.reg R.TRIG_CTRL u
        else s'.dev.reg R.TRIG_CTRL u = v.toNat &&& 0x7000FFFF ∧
          Trig.Configured s.dev s'.dev u v.toNat (s.dev.get R.TRIG_AT_HI_AT u * 2 ^ 32 + s.dev.reg R.TRIG_AT_LO u)
            (s.dev.reg R.TRIG_PERIOD_M1 u + 1) ((bits v.toNat 15 0 + 1) * 8) (s.dev.clock t).wt48) ∧
      s.Keeps s' t ([R.TRIG_CTRL.off u 0, R.TRIG_STATUS.off u 0] ++ recOffs) [.time, .recd] := by
  have hh : (s.dev.clock t).trigHeld u = s.dev.trigHeld u := rfl
  rw [exec_trigApply, State.onDev, Dev.gated_of_reaches (hr.clock t), Machine.trigApply, if_pos hv, hh]
  by_cases hb : s.dev.trigHeld u = true
  · rw [hb, trigWrite, if_neg (by omega), if_pos rfl]
    obtain ⟨g1, g2, g3⟩ := (s.dev.clock t).putTrigStatus_sets u R.TRIG_STATUS_BAD_CONFIG (by decide)
    have g4 := g3.reg R.TRIG_CTRL u 0 (trigStatus_notMem hu)
    generalize (s.dev.clock t).put R.TRIG_STATUS_BAD_CONFIG 1 u = e at *
    exact ⟨_, rfl, (if_pos rfl).mpr ⟨g1, g2, g4⟩, rfl, .inr rfl, g3.mono (fun x hx => List.mem_cons_of_mem _ hx) (by simp)⟩
  · have hb' : s.dev.trigHeld u = false := by simpa using hb
    rw [hb']
    generalize he : trigWrite u v false (s.dev.clock t) = e
    generalize hx : (s.dev.clock t).setReg R.TRIG_CTRL (v.toNat &&& 0x7000FFFF) u = b
    obtain ⟨hc, hk⟩ := trigWrite_configures hu hv hx he
    obtain ⟨n1, n2, n3, n4⟩ := Dev.trigCtrl_ne hu
    have e1 : b.get R.TRIG_AT_HI_AT u = s.dev.get R.TRIG_AT_HI_AT u := by
      rw [← hx, Dev.get_setReg_ne _ _ _ _ _ _ _ _ n1, Dev.clock_get]
    have e2 : b.reg R.TRIG_AT_LO u = s.dev.reg R.TRIG_AT_LO u := by
      rw [← hx, Dev.reg_setReg_ne _ _ _ _ _ _ _ _ n2, Dev.clock_reg]
    have e3 : b.reg R.TRIG_PERIOD_M1 u = s.dev.reg R.TRIG_PERIOD_M1 u := by
      rw [← hx, Dev.reg_setReg_ne _ _ _ _ _ _ _ _ n3, Dev.clock_reg]
    have e4 : b.wtState = s.dev.wtState := by
      rw [Dev.wtState, ← hx, Dev.get_setReg_ne _ _ _ _ _ _ _ _ n4, Dev.clock_get, ← Dev.wtState]
    have e5 : b.wt48 = (s.dev.clock t).wt48 := by rw [Dev.wt48, ← hx, Dev.setReg_wt, ← Dev.wt48]
    have e6 : b.trig u = s.dev.trig u := by rw [← hx, Dev.trig_of_time (Dev.setReg_time _ _ _ _ _)]; rfl
    have e7 : b.reg R.TRIG_CTRL u = v.toNat &&& 0x7000FFFF := by
      rw [← hx, Dev.reg_setReg]
      exact Nat.mod_eq_of_lt (lt_of_le_of_lt Nat.and_le_right (by decide))
    have e8 : (s.dev.clock t).Keeps b (· ∈ [R.TRIG_CTRL.off u 0, R.TRIG_STATUS.off u 0] ++ recOffs) [.time, .recd] :=
      hx ▸ (Dev.Keeps.refl _ _ _).setReg _ _ _ _ (by simp)
    have e9 := hk.reg R.TRIG_CTRL u 0 (trigStatus_notMem hu)
    rw [Trig.Configured, e1, e2, e3, e4, e5, e6, ← Trig.Configured] at hc
    refine ⟨{ s with dev := e }, rfl, (if_neg (by decide)).mpr ⟨e9.trans e7, hc⟩, rfl, .inr rfl,
      e8.trans (hk.mono (fun x hx => List.mem_cons_of_mem _ hx) (by simp))⟩

theorem triggerPulseEnd_ends (t u : Nat) (s : State) :
    ∃ s', exec (.triggerPulseEnd t u) s = .next s' ∧ s'.dev.trig u = { s.dev.trig u with pulse := false } ∧
      s.Keeps s' t [R.TRIG_STATUS.off u 0] [.time] := by
  rw [exec_triggerPulseEnd, State.onDev, trigPulseEnd]
  exact ⟨_, rfl, Dev.trig_setTrig _ _ _, rfl, .inr rfl, (Dev.Keeps.refl _ _ _).setTrig _ _ (by simp) (by simp)⟩

end Sys2Proof.Machine
end

section
/-! PROOFS. The event of a trigger unit: each control cycle that it serves samples, and the converter may start (R88,
R287, R292). -/

namespace Sys2Proof.Machine

theorem Dev.cycle_of_io {d e : Dev} (h : e.io = d.io) (c : Nat) : e.cycle c = d.cycle c := by
  rw [Dev.cycle, h, ← Dev.cycle]

theorem Dev.cycle_setCycle (d : Dev) (c : Nat) (x : Cycle) : (d.setCycle c x).cycle c = x := tabGetD_set_same _ _ _ _

theorem Dev.cycle_setCycle_ne (d : Dev) {c n : Nat} (x : Cycle) (h : n ≠ c) : (d.setCycle c x).cycle n = d.cycle n :=
  tabGetD_set_ne _ _ _ _ _ _ h

/-! ### The converter -/

/-- The registers and the parts that the start of a converter sequence may move. -/
abbrev Dev.KeepsAdc (d e : Dev) : Prop := d.Keeps e (· ∈ [R.ADC_STATUS.off 0 0]) [.io]

/-- The cycle `cycle`, if one, has missed the converter's sequence. -/
def Dev.adcMissed (d : Dev) (cycle : Option Nat) : Dev :=
  match cycle with
  | some c => d.setCycle c { d.cycle c with capture := (d.cycle c).capture.map fun k => { k with adc := some [] } }
  | none => d

/-- Between `d` and `e` no cycle changed but for the converter's words of the capture of `cycle`. -/
def Dev.AdcOnly (d e : Dev) (cycle : Option Nat) : Prop :=
  (∀ n, cycle ≠ some n → e.cycle n = d.cycle n) ∧
    ∀ c x, cycle = some c → (d.cycle c).capture = some x → ∃ a, (e.cycle c).capture = some { x with adc := a }

theorem Dev.adcOnly_of_cycles {d e : Dev} (h : ∀ n, e.cycle n = d.cycle n) (cycle : Option Nat) : d.AdcOnly e cycle :=
  ⟨fun n _ => h n, fun c x _ hx => ⟨x.adc, by rw [h, hx]⟩⟩

theorem Dev.adcMissed_sets (d : Dev) (cycle : Option Nat) :
    d.AdcOnly (d.adcMissed cycle) cycle ∧ d.KeepsAdc (d.adcMissed cycle) := by
  cases cycle with
  | none => exact ⟨d.adcOnly_of_cycles (fun _ => rfl) none, .refl _ _ _⟩
  | some c =>
    refine ⟨⟨fun n hn => Dev.cycle_setCycle_ne _ _ (fun h => hn (h ▸ rfl)), fun c' x hc hx => ?_⟩,
      (Dev.Keeps.refl _ _ _).setCycle _ _ (by simp)⟩
    cases hc
    refine ⟨some [], ?_⟩
    rw [Dev.adcMissed, Dev.cycle_setCycle, hx]
    rfl

theorem Dev.adcStart_sets (d : Dev) (w : Nat) (cycle : Option Nat) :
    d.AdcOnly (d.adcStart w cycle) cycle ∧ d.KeepsAdc (d.adcStart w cycle) := by
  unfold Dev.adcStart
  extract_lets +onlyGivenNames a miss
  have hm : ∀ b : Dev, miss b = b.adcMissed cycle := fun b => by cases cycle <;> rfl
  clear_value miss
  split
  · rw [hm]
    exact d.adcMissed_sets cycle
  · split
    · split
      · exact ⟨d.adcOnly_of_cycles (fun _ => rfl) cycle, (Dev.Keeps.refl _ _ _).withIo _ (by simp)⟩
      · rw [hm]
        have hk : d.KeepsAdc (d.bump R.ADC_STATUS_MISSED) := (Dev.Keeps.refl _ _ _).bump _ _ _ _ (by
          simp [R.ADC_STATUS_MISSED])
        have hc : ∀ n, (d.bump R.ADC_STATUS_MISSED).cycle n = d.cycle n := Dev.cycle_of_io (Dev.bump_io _ _ _ _ _)
        generalize d.bump R.ADC_STATUS_MISSED = b at *
        obtain ⟨⟨h1, h2⟩, h3⟩ := b.adcMissed_sets cycle
        exact ⟨⟨fun n hn => (h1 n hn).trans (hc n), fun c x he hx => h2 c x he ((congrArg Cycle.capture (hc c)).trans hx)⟩,
          hk.trans h3⟩
    · refine ⟨d.adcOnly_of_cycles (fun n => ?_) cycle, ((Dev.Keeps.refl _ _ _).withIo _ (by simp)).put _ _ _ _ (by
        simp [R.ADC_STATUS_BUSY])⟩
      rw [Dev.cycle, Dev.put_io, Dev.cycle]

/-! ### The sample of a control cycle -/

/-- What the samples of the event of a trigger unit may move. -/
abbrev Dev.KeepsSample (d e : Dev) (cs : List Nat) : Prop :=
  d.Keeps e (· ∈ R.ADC_STATUS.off 0 0 :: cs.map (R.CC_NEXT_LO.off · 0)) [.io, .latch]

/-- A cycle's capture of the sample instant `ts`: that instant, GPIO_IN, and the launch time `lead` µs later (R292). -/
def Cycle.Sampled (k : Cycle) (ts gpio lead : Nat) : Prop :=
  ∃ x, k.capture = some x ∧ x.ts = ts ∧ x.gpio = gpio ∧ x.lk = (ts + lead * 1000) % 2 ^ 48

theorem Dev.ccCapture_sets (d : Dev) (c ts : Nat) :
    ((d.ccCapture c ts).cycle c).Sampled ts (d.reg R.GPIO_IN) (d.cycle c).lead ∧
      (∀ n, n ≠ c → (d.ccCapture c ts).cycle n = d.cycle n) ∧ d.KeepsSample (d.ccCapture c ts) [c] := by
  unfold Dev.ccCapture
  extract_lets +onlyGivenNames k full lk n st synced cap next b
  have hcap : cap.ts = ts ∧ cap.gpio = d.reg R.GPIO_IN ∧ cap.lk = (ts + (d.cycle c).lead * 1000) % 2 ^ 48 :=
    ⟨rfl, rfl, rfl⟩
  have hb : (b.cycle c).capture = some cap := congrArg Cycle.capture (Dev.cycle_setCycle _ _ _)
  have hbn : ∀ m, m ≠ c → b.cycle m = d.cycle m := fun m hm => Dev.cycle_setCycle_ne _ _ hm
  have hbk : d.KeepsSample b [c] := (Dev.Keeps.refl _ _ _).setCycle _ _ (by simp)
  generalize (full * 4).toNat = w
  clear_value b cap next
  generalize hg : (b.setReg R.CC_NEXT_LO next c).setLatch R.CC_NEXT_HI (next / 2 ^ 32) c = g
  have hgc : ∀ m, g.cycle m = b.cycle m := Dev.cycle_of_io (by rw [← hg]; rfl)
  have hgk : d.KeepsSample g [c] := hg ▸ (hbk.setReg _ _ _ _ (by simp)).setLatch _ _ _ _ (by simp)
  obtain ⟨⟨h1, h2⟩, h3⟩ := g.adcStart_sets w (some c)
  obtain ⟨a, ha⟩ := h2 c cap rfl ((congrArg Cycle.capture (hgc c)).trans hb)
  exact ⟨⟨_, ha, hcap⟩, fun m hm => (h1 m (by simpa using Ne.symm hm)).trans ((hgc m).trans (hbn m hm)),
    hgk.trans (h3.mono (by simp) (by simp))⟩

/-- The sample of one cycle, if the unit `u` serves it. -/
def sampleCycle (u ts : Nat) (d : Dev) (c : Nat) : Dev :=
  if (d.cycle c).running && (d.cycle c).unit = u then d.ccCapture c ts else d

/-- A cycle that another unit serves, or another cycle, is not sampled. -/
theorem sampleCycle_other {d : Dev} {u ts c n : Nat} (h : n ≠ c ∨ (d.cycle n).unit ≠ u) :
    (sampleCycle u ts d c).cycle n = d.cycle n := by
  unfold sampleCycle
  split
  · next hs =>
    refine (d.ccCapture_sets c ts).2.1 n fun hn => ?_
    subst hn
    simp only [Bool.and_eq_true, decide_eq_true_eq] at hs
    exact h.elim (fun h => h rfl) fun h => h hs.2
  · rfl

theorem keepsSample_sampleCycle (d : Dev) (u ts c : Nat) : d.KeepsSample (sampleCycle u ts d c) [c] :=
  .ite (fun _ => (d.ccCapture_sets c ts).2.2) fun _ => .refl _ _ _

theorem keepsSample_foldl (u ts : Nat) (cs : List Nat) (d : Dev) :
    d.KeepsSample (cs.foldl (sampleCycle u ts) d) cs := by
  induction cs generalizing d with
  | nil => exact .refl _ _ _
  | cons c cs ih =>
    exact ((keepsSample_sampleCycle d u ts c).mono (by simp) (by simp)).trans
      ((ih (sampleCycle u ts d c)).mono (by simp +contextual) (by simp))

theorem nextLo_inj {a b : Nat} (h : R.CC_NEXT_LO.off a 0 = R.CC_NEXT_LO.off b 0) : a = b := by
  simp only [RegDesc.off, R.CC_NEXT_LO] at h
  omega

theorem nextLo_ne_adcStatus (c : Nat) : R.CC_NEXT_LO.off c 0 ≠ R.ADC_STATUS.off 0 0 := by
  simp only [RegDesc.off, R.CC_NEXT_LO, R.ADC_STATUS]
  omega

/-- A cycle that is not among those to sample, or that another unit serves, stays, as does its CC_NEXT_LO. -/
theorem foldl_sampleCycle_other {u ts n : Nat} (cs : List Nat) {d : Dev} (h : n ∉ cs ∨ (d.cycle n).unit ≠ u) :
    (cs.foldl (sampleCycle u ts) d).cycle n = d.cycle n ∧
      (cs.foldl (sampleCycle u ts) d).reg R.CC_NEXT_LO n = d.reg R.CC_NEXT_LO n := by
  induction cs generalizing d with
  | nil => exact ⟨rfl, rfl⟩
  | cons c cs ih =>
    have hc : n ≠ c ∨ (d.cycle n).unit ≠ u := h.imp_left fun h => fun e => h (e ▸ List.mem_cons_self ..)
    have h1 := sampleCycle_other (ts := ts) hc
    have h2 : (sampleCycle u ts d c).reg R.CC_NEXT_LO n = d.reg R.CC_NEXT_LO n := by
      by_cases hn : n = c
      · subst hn
        have hu : (d.cycle n).unit ≠ u := hc.resolve_left (by simp)
        rw [sampleCycle, if_neg (by simp [hu])]
      · refine (keepsSample_sampleCycle d u ts c).reg _ _ _ ?_
        simp only [List.map_cons, List.map_nil, List.mem_cons, List.not_mem_nil, or_false, not_or]
        exact ⟨nextLo_ne_adcStatus n, fun e => hn (nextLo_inj e)⟩
    obtain ⟨i1, i2⟩ := ih (d := sampleCycle u ts d c) (h.imp (fun h e => h (List.mem_cons_of_mem _ e)) fun h => h1 ▸ h)
    exact ⟨i1.trans h1, i2.trans h2⟩

/-- Each of the cycles that the unit serves is sampled. -/
theorem foldl_sampleCycle_samples {u ts n : Nat} {cs : List Nat} (hn : n ∈ cs) (hd : cs.Nodup) {d : Dev}
    (hr : (d.cycle n).running = true) (hu : (d.cycle n).unit = u) :
    ((cs.foldl (sampleCycle u ts) d).cycle n).Sampled ts (d.reg R.GPIO_IN) (d.cycle n).lead := by
  induction cs generalizing d with
  | nil => exact absurd hn (by simp)
  | cons c cs ih =>
    rw [List.foldl_cons]
    by_cases hc : n = c
    · subst hc
      rw [(foldl_sampleCycle_other cs (.inl (List.nodup_cons.mp hd).1)).1, sampleCycle, if_pos (by simp [hr, hu])]
      exact (d.ccCapture_sets n ts).1
    · have h1 : (sampleCycle u ts d c).cycle n = d.cycle n := sampleCycle_other (.inl hc)
      have h2 : (sampleCycle u ts d c).reg R.GPIO_IN = d.reg R.GPIO_IN := by
        refine (keepsSample_sampleCycle d u ts c).reg _ _ _ ?_
        simp only [List.map_cons, List.map_nil, List.mem_cons, List.not_mem_nil, or_false, not_or, RegDesc.off, R.CC_NEXT_LO,
          R.ADC_STATUS, R.GPIO_IN]
        omega
      rw [← h1, ← h2]
      exact ih ((List.mem_cons.mp hn).resolve_left hc) (List.nodup_cons.mp hd).2 (h1 ▸ hr) (h1 ▸ hu)

/-! ### The event -/

/-- A trigger unit whose event has come: it is armed for the next one, if periodic, and counts (R88). -/
def Dev.fired (d : Dev) (u : Nat) (pin : Bool) : Dev :=
  (d.setTrig u { d.trig u with
    armed := (d.trig u).periodic, next := ((d.trig u).next + (d.trig u).period) % 2 ^ 48
    pulse := (d.trig u).pulse || pin }).bumpWrap R.TRIG_STATUS_FIRES u

theorem Dev.fired_sets (d : Dev) (u : Nat) (pin : Bool) {e : Dev} (he : d.fired u pin = e) :
    d.Wraps e R.TRIG_STATUS_FIRES u ∧ (e.trig u).armed = (d.trig u).periodic ∧
      (e.trig u).next = ((d.trig u).next + (d.trig u).period) % 2 ^ 48 ∧
      e.get R.TRIG_STATUS_ARMED u = b2n (d.trig u).periodic ∧ (∀ c, e.cycle c = d.cycle c) ∧
      d.Keeps e (· ∈ [R.TRIG_STATUS.off u 0]) [.time] := by
  unfold Dev.fired at he
  generalize hg : ({ d.trig u with
    armed := (d.trig u).periodic, next := ((d.trig u).next + (d.trig u).period) % 2 ^ 48
    pulse := (d.trig u).pulse || pin } : Trig) = g at he
  have hga : g.armed = (d.trig u).periodic := by rw [← hg]
  have hgn : g.next = ((d.trig u).next + (d.trig u).period) % 2 ^ 48 := by rw [← hg]
  obtain ⟨h1, h2, -⟩ := d.setTrig_sets u g
  have h3 := d.get_setTrig u g R.TRIG_STATUS_FIRES (by decide)
  have h4 : ∀ c, (d.setTrig u g).cycle c = d.cycle c := Dev.cycle_of_io (Dev.put_io _ _ _ _ _)
  have h5 : d.Keeps (d.setTrig u g) (· ∈ [R.TRIG_STATUS.off u 0]) [.time] :=
    (Dev.Keeps.refl _ _ _).setTrig _ _ (by simp) (by simp)
  generalize d.setTrig u g = b at *
  subst he
  have ht : (b.bumpWrap R.TRIG_STATUS_FIRES u).trig u = g := (Dev.trig_of_time (Dev.put_time _ _ _ _ _) u).trans h1
  refine ⟨?_, by rw [ht, hga], by rw [ht, hgn], ?_, fun c => (Dev.cycle_of_io (Dev.put_io _ _ _ _ _) c).trans (h4 c),
    h5.bumpWrap _ _ _ (by simp [R.TRIG_STATUS_FIRES])⟩
  · rw [Dev.Wraps, Dev.bumpWrap, Dev.get_put _ _ _ _ _ (by decide), h3]
  · rw [Dev.bumpWrap, Dev.get_put_apart _ _ _ _ _ _ (by decide), h2, hga]

theorem triggerEvent_of_due {d : Dev} {u : Nat} (hu : u < 16) (ha : (d.trig u).armed = true) (hs : d.wtState ≠ wtUnset)
    (hl : later 48 (d.trig u).next d.wt48 = false) :
    ∃ pin e, (List.range 4).foldl (sampleCycle u (d.trig u).next) (d.fired u pin) = e ∧
      (triggerEvent u d = e ∨ ∃ w, triggerEvent u d = e.adcStart w none) := by
  refine ⟨d.img.pins.any fun p => p.2.1 == 3 && p.2.2.1 == u, _, rfl, ?_⟩
  unfold triggerEvent
  dsimp only
  rw [if_neg (by simp [ha, hs, hl]; omega)]
  split
  · exact .inr ⟨_, rfl⟩
  · exact .inl rfl

/-- The event of a trigger unit (R88): its schedule goes on, and the control cycles that it serves sample (R292). -/
theorem triggerEvent_fires (t u : Nat) (s : State) (hu : u < 16) (ha : (s.dev.trig u).armed = true)
    (hs : s.dev.wtState ≠ wtUnset) (hl : later 48 (s.dev.trig u).next (s.dev.clock t).wt48 = false) :
    let g := s.dev.trig u
    ∃ s', exec (.triggerEvent t u) s = .next s' ∧ s.dev.Wraps s'.dev R.TRIG_STATUS_FIRES u ∧
      (s'.dev.trig u).armed = g.periodic ∧ (s'.dev.trig u).next = (g.next + g.period) % 2 ^ 48 ∧
      s'.dev.get R.TRIG_STATUS_ARMED u = b2n g.periodic ∧
      (∀ c, c < 4 → (s.dev.cycle c).running = true → (s.dev.cycle c).unit = u →
        (s'.dev.cycle c).Sampled g.next (s.dev.reg R.GPIO_IN) (s.dev.cycle c).lead) ∧
      (∀ c, c < 4 → (s.dev.cycle c).unit ≠ u → (s'.dev.cycle c).running = (s.dev.cycle c).running ∧
        s'.dev.reg R.CC_NEXT_LO c = s.dev.reg R.CC_NEXT_LO c) ∧
      s.Keeps s' t ([R.TRIG_STATUS.off u 0, R.ADC_STATUS.off 0 0] ++ (List.range 4).map (R.CC_NEXT_LO.off · 0))
        [.time, .io, .latch] := by
  intro g
  obtain ⟨pin, e, he, hx⟩ := triggerEvent_of_due (d := s.dev.clock t) hu ha hs hl
  generalize hb : (s.dev.clock t).fired u pin = b at he
  obtain ⟨f1, f2, f3, f4, f5, f6⟩ := Dev.fired_sets _ _ _ hb
  have hk : b.KeepsSample e (List.range 4) := he ▸ keepsSample_foldl u g.next (List.range 4) b
  have hsample : ∀ c, c < 4 → (s.dev.cycle c).running = true → (s.dev.cycle c).unit = u →
      (e.cycle c).Sampled g.next (s.dev.reg R.GPIO_IN) (s.dev.cycle c).lead := fun c hc hr hu' => by
    have h5 : b.cycle c = s.dev.cycle c := f5 c
    have h6 : b.reg R.GPIO_IN = s.dev.reg R.GPIO_IN := f6.reg R.GPIO_IN 0 0 (by interval_cases u <;> decide)
    have := foldl_sampleCycle_samples (ts := g.next) (List.mem_range.mpr hc) List.nodup_range (d := b) (h5 ▸ hr) (h5 ▸ hu')
    rw [← h5, ← h6, ← he]
    exact this
  have hother : ∀ c, c < 4 → (s.dev.cycle c).unit ≠ u → e.cycle c = s.dev.cycle c ∧
      e.reg R.CC_NEXT_LO c = s.dev.reg R.CC_NEXT_LO c := fun c hc hu' => by
    have h5 : b.cycle c = s.dev.cycle c := f5 c
    have h6 : b.reg R.CC_NEXT_LO c = s.dev.reg R.CC_NEXT_LO c :=
      f6.reg R.CC_NEXT_LO c 0 (by interval_cases u <;> interval_cases c <;> decide)
    obtain ⟨o1, o2⟩ := foldl_sampleCycle_other (u := u) (ts := g.next) (List.range 4) (d := b) (.inr (h5.symm ▸ hu'))
    exact ⟨(he ▸ o1).trans h5, (he ▸ o2).trans h6⟩
  have hn : R.TRIG_STATUS.off u 0 ∉ R.ADC_STATUS.off 0 0 :: (List.range 4).map (R.CC_NEXT_LO.off · 0) := by
    interval_cases u <;> decide
  have hfin : ∃ x, triggerEvent u (s.dev.clock t) = x ∧ (∀ n, x.cycle n = e.cycle n) ∧ e.KeepsAdc x := by
    obtain hx | ⟨w, hx⟩ := hx
    · exact ⟨e, hx, fun _ => rfl, .refl _ _ _⟩
    · obtain ⟨⟨h1, -⟩, h2⟩ := e.adcStart_sets w none
      exact ⟨_, hx, fun n => h1 n (by simp), h2⟩
  obtain ⟨x, hx, hxc, hxk⟩ := hfin
  have hkx : b.KeepsSample x (List.range 4) := hk.trans (hxk.mono (by simp) (by simp))
  have hreg : ∀ c, x.reg R.CC_NEXT_LO c = e.reg R.CC_NEXT_LO c := fun c => hxk.reg _ _ _ (by
    simpa using nextLo_ne_adcStatus c)
  have htx : x.trig u = b.trig u := Dev.trig_of_time (hkx.time.resolve_left (by simp)) u
  have hst : ∀ f : FldDesc, f.reg = R.TRIG_STATUS → x.get f u = b.get f u := fun f hf => hkx.get f u 0 (by rw [hf]; exact hn)
  rw [exec_triggerEvent, State.onDev, hx]
  refine ⟨{ s with dev := x }, rfl, (hst _ rfl).trans f1, (congrArg Trig.armed htx).trans f2,
    (congrArg Trig.next htx).trans f3, (hst _ rfl).trans f4, fun c hc hr hu' => ?_, fun c hc hu' => ?_, rfl, .inr rfl, ?_⟩
  · exact (hxc c).symm ▸ hsample c hc hr hu'
  · obtain ⟨o1, o2⟩ := hother c hc hu'
    exact ⟨congrArg Cycle.running ((hxc c).trans o1), (hreg c).trans o2⟩
  · exact (f6.mono (by simp) (by simp)).trans (hkx.mono (by simp +contextual) (by simp +contextual))

end Sys2Proof.Machine
end

section
/-! PROOFS. Capture units (R89). -/

namespace Sys2Proof.Machine

theorem exec_captureEdge (t u : Nat) (fall : Bool) (s : State) :
    exec (.captureEdge t u fall) s = s.onDev t (captureEdge u fall) := rfl

theorem exec_capTimeLoRead (t u : Nat) (s : State) : exec (.capTimeLoRead t u) s = s.onDev t (capReadRow u) := rfl

/-- The FIFO of a capture unit. -/
def Dev.caps (d : Dev) (u : Nat) : List CapEntry := tabGetD d.time.caps [] u

theorem Dev.caps_of_time {d e : Dev} (h : e.time = d.time) (u : Nat) : e.caps u = d.caps u := by
  rw [Dev.caps, h, ← Dev.caps]

/-- An edge that a unit loses: its FIFO is full, or the edge follows the last accepted one by less than 20 ns. -/
def Dev.LosesEdge (d : Dev) (u : Nat) : Prop :=
  16 ≤ (d.caps u).length ∨ ∃ l, tabGet? d.time.capLast u = some l ∧ d.now < l + 20 * qNs

theorem captureEdge_ignored {d : Dev} {u : Nat} {fall : Bool} (h : d.capTakes u fall = false) : captureEdge u fall d = d := by
  rw [captureEdge, if_pos (by simp [h])]

theorem captureEdge_lost {d : Dev} {u : Nat} {fall : Bool} (hu : u < 16) (h : d.capTakes u fall = true)
    (hl : d.LosesEdge u) : captureEdge u fall d = (d.bump R.CAP_STATUS_LOST u).put R.CAP_STATUS_OVERRUN 1 u := by
  rw [captureEdge, if_neg (by simp [h, hu])]
  dsimp only
  refine if_pos ?_
  obtain hl | ⟨l, hl, hn⟩ := hl
  · simp [show 16 ≤ (tabGetD d.time.caps [] u).length from hl]
  · rw [hl]
    simp [hn]

/-- An edge that a unit accepts goes into its FIFO; the host may be told (R89). -/
theorem captureEdge_stamped {d : Dev} {u : Nat} {fall : Bool} (hu : u < 16) (h : d.capTakes u fall = true)
    (hl : ¬d.LosesEdge u) {e : Dev} (he : captureEdge u fall d = e) :
    e.caps u = d.caps u ++ [⟨d.wt48, fall, d.wtState⟩] ∧ e.get R.CAP_STATUS_LEVEL u = (d.caps u).length + 1 ∧
      d.Keeps e (· ∈ [R.CAP_STATUS.off u 0]) [.time, .host] := by
  have hfull : (d.caps u).length < 16 := by
    by_contra hn
    exact hl (.inl (by omega))
  have hnear : (match tabGet? d.time.capLast u with | some l => decide (d.now < l + 20 * qNs) | none => false) = false := by
    split
    · next l hq => exact decide_eq_false fun hn => hl (.inr ⟨l, hq, hn⟩)
    · rfl
  rw [captureEdge, if_neg (by simp [h, hu])] at he
  dsimp only at he
  rw [if_neg (by
    rw [Bool.or_eq_true, not_or]
    exact ⟨by simpa [Dev.caps] using hfull, fun hn => Bool.false_ne_true (hnear.symm.trans hn)⟩)] at he
  generalize hq : tabGetD d.time.caps [] u ++ [⟨d.wt48, fall, d.wtState⟩] = q at he
  have hlen : q.length = (d.caps u).length + 1 := by
    rw [← hq, List.length_append, List.length_singleton, Dev.caps]
  generalize hb : ({ d with time := { d.time with
    caps := tabSet d.time.caps [] u q, capLast := tabPut d.time.capLast u d.now } } : Dev) = b at he
  have hbc : b.caps u = q := by
    rw [← hb]
    exact tabGetD_set_same _ _ _ _
  have hbk : d.Keeps b (· ∈ [R.CAP_STATUS.off u 0]) [.time, .host] := hb ▸ (Dev.Keeps.refl _ _ _).withTime _ (by simp)
  generalize hg : b.put R.CAP_STATUS_LEVEL q.length u = g at he
  have hgc : g.caps u = q := by rw [← hg, Dev.caps_of_time (Dev.put_time _ _ _ _ _), hbc]
  have hgl : g.get R.CAP_STATUS_LEVEL u = q.length := by
    rw [← hg, Dev.get_put_lt _ _ _ _ _ 32 (by decide) (by omega)]
  have hgk : d.Keeps g (· ∈ [R.CAP_STATUS.off u 0]) [.time, .host] :=
    hg ▸ hbk.put _ _ _ _ (by simp [R.CAP_STATUS_LEVEL])
  have hge : g.Keeps e (· ∈ []) [.host] := by
    rw [← he]
    exact .ite (fun _ => (Dev.Keeps.refl _ _ _).notify _ (by simp)) fun _ => .refl _ _ _
  refine ⟨?_, ?_, hgk.trans (hge.mono (by simp) (by simp))⟩
  · rw [Dev.caps_of_time (hge.time.resolve_left (by simp)), hgc, ← hq, Dev.caps]
  · rw [hge.get _ _ _ (by simp), hgl, hlen]

theorem Dev.losesEdge_clock (d : Dev) (t u : Nat) : (d.clock t).LosesEdge u ↔
    16 ≤ (tabGetD d.time.caps [] u).length ∨ ∃ l, tabGet? d.time.capLast u = some l ∧ max d.now t < l + 20 * qNs :=
  Iff.rfl

theorem captureEdge_captures (t u : Nat) (fall : Bool) (s : State) (hu : u < 16) :
    let q := tabGetD s.dev.time.caps [] u
    let lost := 16 ≤ q.length ∨ ∃ l, tabGet? s.dev.time.capLast u = some l ∧ max s.dev.now t < l + 20 * qNs
    ∃ s', exec (.captureEdge t u fall) s = .next s' ∧
      (s.dev.capTakes u fall = false → s.Keeps s' t [] []) ∧
      (s.dev.capTakes u fall = true → lost → s.dev.Counts s'.dev R.CAP_STATUS_LOST u ∧
        s'.dev.get R.CAP_STATUS_OVERRUN u = 1 ∧ s'.dev.time = s.dev.time) ∧
      (s.dev.capTakes u fall = true → ¬lost →
        tabGetD s'.dev.time.caps [] u = q ++ [⟨(s.dev.clock t).wt48, fall, s.dev.wtState⟩] ∧
        s'.dev.get R.CAP_STATUS_LEVEL u = q.length + 1) ∧
      s.Keeps s' t [R.CAP_STATUS.off u 0] [.time, .host] := by
  intro q lost
  have hlost : (s.dev.clock t).LosesEdge u ↔ lost := s.dev.losesEdge_clock t u
  have htakes : (s.dev.clock t).capTakes u fall = s.dev.capTakes u fall := rfl
  rw [exec_captureEdge, State.onDev]
  by_cases ht : s.dev.capTakes u fall = false
  · rw [captureEdge_ignored (htakes.trans ht)]
    exact ⟨_, rfl, fun _ => ⟨rfl, .inr rfl, .refl _ _ _⟩, fun hc => absurd (ht.symm.trans hc) (by decide),
      fun hc => absurd (ht.symm.trans hc) (by decide), rfl, .inr rfl, .refl _ _ _⟩
  have ht' : s.dev.capTakes u fall = true := by simpa using ht
  by_cases hl : lost
  · rw [captureEdge_lost hu (htakes.trans ht') (hlost.mpr hl)]
    have h1 : (s.dev.clock t).Counts (((s.dev.clock t).bump R.CAP_STATUS_LOST u).put R.CAP_STATUS_OVERRUN 1 u)
        R.CAP_STATUS_LOST u := by
      rw [Dev.Counts, Dev.get_put_apart _ _ _ _ _ _ (by decide)]
      exact Dev.counts_bump _ _ _ (by decide)
    have h2 : (((s.dev.clock t).bump R.CAP_STATUS_LOST u).put R.CAP_STATUS_OVERRUN 1 u).get R.CAP_STATUS_OVERRUN u = 1 :=
      Dev.get_put_lt _ _ _ _ _ 2 (by decide) (by decide)
    have h3 : (s.dev.clock t).Keeps (((s.dev.clock t).bump R.CAP_STATUS_LOST u).put R.CAP_STATUS_OVERRUN 1 u)
        (· ∈ [R.CAP_STATUS.off u 0]) [] :=
      ((Dev.Keeps.refl _ _ _).bump _ _ _ _ (by simp [R.CAP_STATUS_LOST])).put _ _ _ _ (by simp [R.CAP_STATUS_OVERRUN])
    generalize ((s.dev.clock t).bump R.CAP_STATUS_LOST u).put R.CAP_STATUS_OVERRUN 1 u = e at *
    exact ⟨_, rfl, fun hc => absurd hc ht, fun _ _ => ⟨h1, h2, h3.time.resolve_left (by simp)⟩, fun _ hc => absurd hl hc,
      rfl, .inr rfl, h3.mono (fun _ hx => hx) (by simp)⟩
  · generalize he : captureEdge u fall (s.dev.clock t) = e
    obtain ⟨h1, h2, h3⟩ := captureEdge_stamped hu (htakes.trans ht') (fun hc => hl (hlost.mp hc)) he
    exact ⟨_, rfl, fun hc => absurd hc ht, fun _ hc => absurd hc hl, fun _ _ => ⟨h1, h2⟩, rfl, .inr rfl, h3⟩

/-! ### The read -/

/-- The word CAP_TIME_HI that goes with an entry. -/
def CapEntry.hi (e : CapEntry) : Nat := 2 ^ 31 + b2n e.fall * 2 ^ 30 + e.state * 2 ^ 28 + e.time / 2 ^ 32

/-- What a read of CAP_TIME_LO may move. -/
abbrev Dev.KeepsCapRead (d e : Dev) (u : Nat) : Prop :=
  d.Keeps e (· ∈ [R.CAP_STATUS.off u 0, R.CAP_TIME_HI.off u 0]) [.time, .host]

theorem Dev.resp_respond (d : Dev) (r : Response) : (d.respond r).host.resp = r := rfl

theorem capReadRow_empty {d : Dev} {u : Nat} (hr : d.Reaches 0x302008) (hq : d.caps u = []) {e : Dev}
    (he : capReadRow u d = e) :
    e.host.resp = .data (leBytes 4 0) ∧ e.reg R.CAP_TIME_HI u = 0 ∧ d.KeepsCapRead e u := by
  have hx : capRead u d = (d.setReg R.CAP_TIME_HI 0 u, 0) := by
    rw [Dev.caps] at hq
    unfold capRead
    rw [hq]
  rw [capReadRow, Dev.gated_of_reaches hr, hx] at he
  subst he
  refine ⟨Dev.resp_respond _ _, ?_, ((Dev.Keeps.refl _ _ _).setReg _ _ _ _ (by simp)).respond _ (by simp)⟩
  rw [Dev.respond_reg, Dev.reg_setReg, Nat.zero_mod]

/-- The oldest entry is read, and leaves the FIFO (R89). -/
theorem capReadRow_oldest {d : Dev} {u : Nat} (hr : d.Reaches 0x302008) {x : CapEntry} {r : List CapEntry}
    (hq : d.caps u = x :: r) {e : Dev} (he : capReadRow u d = e) :
    e.host.resp = .data (leBytes 4 (x.time % 2 ^ 32)) ∧ e.caps u = r ∧ e.get R.CAP_STATUS_LEVEL u = r.length % 32 ∧
      e.reg R.CAP_TIME_HI u = x.hi % 2 ^ 32 ∧ d.KeepsCapRead e u := by
  generalize hb : ({ d with time := { d.time with caps := tabSet d.time.caps [] u r } } : Dev) = b
  have hbc : b.caps u = r := by
    rw [← hb]
    exact tabGetD_set_same _ _ _ _
  have hbk : d.KeepsCapRead b u := hb ▸ (Dev.Keeps.refl _ _ _).withTime _ (by simp)
  have hx : capRead u d = ((b.put R.CAP_STATUS_LEVEL r.length u).setReg R.CAP_TIME_HI x.hi u, x.time % 2 ^ 32) := by
    rw [Dev.caps] at hq
    unfold capRead
    rw [hq, ← hb]
    rfl
  have hne : R.CAP_STATUS.off u 0 ≠ R.CAP_TIME_HI.off u 0 := by
    simp only [RegDesc.off, R.CAP_STATUS, R.CAP_TIME_HI]
    omega
  rw [capReadRow, Dev.gated_of_reaches hr, hx] at he
  subst he
  refine ⟨Dev.resp_respond _ _, ?_, ?_, ?_,
    ((hbk.put _ _ _ _ (by simp [R.CAP_STATUS_LEVEL])).setReg _ _ _ _ (by simp)).respond _ (by simp)⟩
  · rw [Dev.caps_of_time (Dev.respond_time _ _), Dev.caps_of_time (Dev.setReg_time _ _ _ _ _),
      Dev.caps_of_time (Dev.put_time _ _ _ _ _), hbc]
  · rw [Dev.respond_get, Dev.get_setReg_ne _ _ _ _ _ _ _ _ hne, Dev.get_put _ _ _ _ _ (by decide)]
    rfl
  · rw [Dev.respond_reg, Dev.reg_setReg]

/-- Settles O39: a port's queue drops and sends from its head; a configuration by the branches of TRIG_CTRL; the event by
induction on the cycles that it may serve; and a capture unit's FIFO takes entries at its end and yields them at its head. -/
theorem launchesTriggersCaptures : Obligations.LaunchesTriggersCaptures := by
  unfold Obligations.LaunchesTriggersCaptures
  refine ⟨launchFrameSubmit_launches, fun t p l r s _ => launchTimeReached_leaves t p l r s, ?_, ?_,
    fun t u s _ => triggerPulseEnd_ends t u s, captureEdge_captures, ?_⟩
  · intro t u v s hu hr hv
    obtain ⟨s', hx, hc, hk⟩ := trigApply_takes t u v s hu hr hv
    exact ⟨s', hx, hc, hk⟩
  · intro t u s hu ha hs hl
    obtain ⟨s', hx, h1, h2, h3, h4, h5, h6, hk⟩ := triggerEvent_fires t u s hu ha hs hl
    exact ⟨s', hx, h1, h2, h3, h4, h5, h6, hk⟩
  · intro t u s _ hr
    generalize he : capReadRow u (s.dev.clock t) = e
    refine ⟨{ s with dev := e }, by rw [exec_capTimeLoRead, State.onDev, he], ?_⟩
    cases hq : tabGetD s.dev.time.caps [] u with
    | nil =>
      obtain ⟨h1, h2, hk⟩ := capReadRow_empty (hr.clock t) hq he
      exact ⟨⟨h1, h2⟩, rfl, .inr rfl, hk⟩
    | cons x r =>
      obtain ⟨h1, h2, h3, h4, hk⟩ := capReadRow_oldest (hr.clock t) hq he
      exact ⟨⟨h1, h2, h3, h4⟩, rfl, .inr rfl, hk⟩

end Sys2Proof.Machine
end

section
/-! PROOFS. Time (R71; log 1): the present instant is written where a command's own instant is taken (`Dev.clock`) and
nowhere else. Each function of the model has its rule here, which goes from a block at the instant of `d0` to what the
function makes of it. -/

namespace Sys2Proof.Machine

/-- From `d` to `e` the present instant does not move. -/
def Dev.SameNow (d e : Dev) : Prop := e.now = d.now

variable {d0 d : Dev}

theorem Dev.SameNow.refl (d : Dev) : d.SameNow d := rfl

/-- What is so of `d` may be used more than once to show it of `e`. -/
theorem Dev.SameNow.share {e : Dev} (k : d0.SameNow d → d0.SameNow e) (h : d0.SameNow d) : d0.SameNow e := k h

theorem Dev.SameNow.ite {a b : Dev} {p : Prop} [Decidable p] (ha : d0.SameNow a) (hb : d0.SameNow b) :
    d0.SameNow (if p then a else b) := by
  split
  · exact ha
  · exact hb

theorem Dev.SameNow.ite_fst {α : Type} {a b : Dev × α} {p : Prop} [Decidable p] (ha : d0.SameNow a.1)
    (hb : d0.SameNow b.1) : d0.SameNow (if p then a else b).1 := by
  split
  · exact ha
  · exact hb

theorem Dev.SameNow.ite_fst_fst {α β : Type} {a b : (Dev × α) × β} {p : Prop} [Decidable p] (ha : d0.SameNow a.1.1)
    (hb : d0.SameNow b.1.1) : d0.SameNow (if p then a else b).1.1 := by
  split
  · exact ha
  · exact hb

theorem Dev.SameNow.foldl {α : Type} {f : Dev → α → Dev} {l : List α} (h : d0.SameNow d)
    (hf : ∀ e x, d0.SameNow e → d0.SameNow (f e x)) : d0.SameNow (l.foldl f d) := by
  induction l generalizing d with
  | nil => exact h
  | cons x r ih => exact ih (hf d x h)

theorem Dev.SameNow.withRegs {x : Tab Word} (h : d0.SameNow d) : d0.SameNow { d with regs := x } := h

theorem Dev.SameNow.withLatch {x : Tab Word} (h : d0.SameNow d) : d0.SameNow { d with latch := x } := h

theorem Dev.SameNow.withHostSt {x : HostSt} (h : d0.SameNow d) : d0.SameNow { d with host := x } := h

theorem Dev.SameNow.withBoot {x : BootSt} (h : d0.SameNow d) : d0.SameNow { d with boot := x } := h

theorem Dev.SameNow.withTime {x : TimeSt} (h : d0.SameNow d) : d0.SameNow { d with time := x } := h

theorem Dev.SameNow.withRef {x : RefSt} (h : d0.SameNow d) : d0.SameNow { d with ref := x } := h

theorem Dev.SameNow.withRecd {x : RecSt} (h : d0.SameNow d) : d0.SameNow { d with recd := x } := h

theorem Dev.SameNow.withErr {x : ErrSt} (h : d0.SameNow d) : d0.SameNow { d with err := x } := h

theorem Dev.SameNow.withProt {x : ProtSt} (h : d0.SameNow d) : d0.SameNow { d with prot := x } := h

theorem Dev.SameNow.withPwr {x : PwrSt} (h : d0.SameNow d) : d0.SameNow { d with pwr := x } := h

theorem Dev.SameNow.withSys {x : SysSt} (h : d0.SameNow d) : d0.SameNow { d with sys := x } := h

theorem Dev.SameNow.withNet {x : NetSt} (h : d0.SameNow d) : d0.SameNow { d with net := x } := h

theorem Dev.SameNow.withDec {x : DecSt} (h : d0.SameNow d) : d0.SameNow { d with dec := x } := h

theorem Dev.SameNow.withLay {x : LaySt} (h : d0.SameNow d) : d0.SameNow { d with lay := x } := h

theorem Dev.SameNow.withComp {x : CompSt} (h : d0.SameNow d) : d0.SameNow { d with comp := x } := h

theorem Dev.SameNow.withEnc {x : EncSt} (h : d0.SameNow d) : d0.SameNow { d with enc := x } := h

theorem Dev.SameNow.withIo {x : IoSt} (h : d0.SameNow d) : d0.SameNow { d with io := x } := h

theorem Dev.SameNow.withPair {x : PairSt} (h : d0.SameNow d) : d0.SameNow { d with pair := x } := h

theorem Dev.SameNow.withMctl {x : MemCtl} (h : d0.SameNow d) : d0.SameNow { d with mctl := x } := h

/-- The parts of the block may all be others. -/
theorem Dev.SameNow.withParts {regs latch : Tab Word} {host : HostSt} {boot : BootSt} {time : TimeSt} {ref : RefSt}
    {recd : RecSt} {err : ErrSt} {prot : ProtSt} {pwr : PwrSt} {sys : SysSt} {net : NetSt} {dec : DecSt} {lay : LaySt}
    {comp : CompSt} {enc : EncSt} {io : IoSt} {pair : PairSt} {mctl : MemCtl} (h : d0.SameNow d) :
    d0.SameNow ⟨d.now, regs, latch, host, boot, time, ref, recd, err, prot, pwr, sys, net, dec, lay, comp, enc, io,
      pair, mctl⟩ := h

/-- `Dev.SameNow` of a block with its DRAM. -/
def Dev.SameNowPair (d : Dev) (x : Dev × Mem) : Prop := d.SameNow x.1

theorem Dev.SameNowPair.ite {a b : Dev × Mem} {p : Prop} [Decidable p] (ha : d0.SameNowPair a)
    (hb : d0.SameNowPair b) : d0.SameNowPair (if p then a else b) := by
  split
  · exact ha
  · exact hb

/-! ### Flags and counters -/

theorem Dev.SameNow.setReg {r : RegDesc} {v i j : Nat} (h : d0.SameNow d) : d0.SameNow (d.setReg r v i j) :=
  h.withRegs

theorem Dev.SameNow.put {f : FldDesc} {v i j : Nat} (h : d0.SameNow d) : d0.SameNow (d.put f v i j) := h.setReg

theorem Dev.SameNow.bump {f : FldDesc} {i n j : Nat} (h : d0.SameNow d) : d0.SameNow (d.bump f i n j) := h.put

theorem Dev.SameNow.bumpWrap {f : FldDesc} {i n : Nat} (h : d0.SameNow d) : d0.SameNow (d.bumpWrap f i n) := h.put

theorem Dev.SameNow.setLatch {r : RegDesc} {v i j : Nat} (h : d0.SameNow d) : d0.SameNow (d.setLatch r v i j) :=
  h.withLatch

/-! ### Registers, entries, completions and other shared operations -/

theorem Dev.SameNow.storeEntry {kind : Kind} {ev : Ev} {agent p0 p1 p2 : Nat} (h : d0.SameNow d) :
    d0.SameNow (d.storeEntry kind ev agent p0 p1 p2) :=
  .share (fun l0 => .ite l0 (.ite l0.withRecd.setReg.put (.ite l0.withRecd.put l0.withRecd.put))) h.withRecd.setReg

theorem Dev.SameNow.record {ev : Ev} {kind : Kind} {agent p0 p1 p2 : Nat} (h : d0.SameNow d) :
    d0.SameNow (d.record ev kind agent p0 p1 p2) :=
  .ite h.storeEntry (.ite (.storeEntry (.ite h.withRecd h.withRecd.storeEntry)) h.withRecd)

theorem Dev.SameNow.info {ev : Ev} {agent p0 p1 p2 : Nat} (h : d0.SameNow d) :
    d0.SameNow (d.info ev agent p0 p1 p2) :=
  h.record

theorem Dev.SameNow.clockGone {dom inst : Nat} (h : d0.SameNow d) : d0.SameNow (d.clockGone dom inst) :=
  .ite h.withErr.put.put.info h.withErr

theorem Dev.SameNow.clockBack {dom inst : Nat} (h : d0.SameNow d) : d0.SameNow (d.clockBack dom inst) :=
  .ite h (.ite h.withErr.put h.withErr)

theorem Dev.SameNow.setPair {x : PairSt} (h : d0.SameNow d) : d0.SameNow (d.setPair x) := h.withPair

theorem Dev.SameNow.mirror {x : MirrorItem} (h : d0.SameNow d) : d0.SameNow (d.mirror x) := .ite h.setPair h

theorem Dev.SameNow.reply {r : MirrorReply} (h : d0.SameNow d) : d0.SameNow (d.reply r) := h.setPair

theorem Dev.SameNow.planRelease (h : d0.SameNow d) : d0.SameNow d.planRelease := h.setPair.mirror

theorem Dev.SameNow.setQueue {q : Nat} {v : Queue} (h : d0.SameNow d) : d0.SameNow (d.setQueue q v) := h.withHostSt

theorem Dev.SameNow.queueErr {q code : Nat} (h : d0.SameNow d) : d0.SameNow (d.queueErr q code) := .ite h.put.put h

theorem Dev.SameNow.post {p : Posted} (h : d0.SameNow d) : d0.SameNow (d.post p) := h.withHostSt

theorem Dev.SameNow.ringPut {q : Nat} {entry : List Byte} {notify : Bool} (h : d0.SameNow d) :
    d0.SameNow (d.ringPut q entry notify) :=
  .ite h.post.setQueue.post h.post.setQueue

theorem Dev.SameNow.notify {entry : List Byte} (h : d0.SameNow d) : d0.SameNow (d.notify entry) := .ite h.ringPut h

theorem Dev.SameNow.flushRecords {n : Nat} (h : d0.SameNow d) : d0.SameNow (Dev.flushRecords n d) := by
  induction n generalizing d with
  | zero => exact h
  | succ n ih =>
    unfold Dev.flushRecords
    split
    · exact h.put
    · exact .ite h.queueErr.setQueue (.ite (ih h.ringPut.setQueue.put.mirror) h)

theorem Dev.SameNow.postRecord {entry : List Byte} {commitSeq : Nat} (h : d0.SameNow d) :
    d0.SameNow (d.postRecord entry commitSeq) := by
  unfold Dev.postRecord
  dsimp only
  split
  · exact h.setPair
  · exact .ite h.bump.info h.setQueue.put.flushRecords

theorem Dev.SameNow.errorNotify {accepted : Bool} {kind : Kind} {ev : Ev} {agent p0 : Nat} (h : d0.SameNow d) :
    d0.SameNow (d.errorNotify accepted kind ev agent p0) :=
  .ite h.withErr.withErr.notify h.withErr

theorem Dev.SameNow.corrected {ev : Ev} {agent p0 p1 : Nat} (h : d0.SameNow d) :
    d0.SameNow (d.corrected ev agent p0 p1) :=
  h.bump.record

theorem Dev.SameNow.contained {ev : Ev} {agent p0 p1 : Nat} (h : d0.SameNow d) :
    d0.SameNow (d.contained ev agent p0 p1) :=
  h.bump.record.errorNotify

theorem Dev.SameNow.degradedEvent {ev : Ev} {agent p0 p1 : Nat} (h : d0.SameNow d) :
    d0.SameNow (d.degradedEvent ev agent p0 p1) :=
  h.bump.record.errorNotify.put

theorem Dev.SameNow.degraded {ev : Ev} {agent p0 p1 : Nat} (h : d0.SameNow d) :
    d0.SameNow (d.degraded ev agent p0 p1) :=
  h.withErr.degradedEvent

theorem Dev.SameNow.fatal {cause : Nat} (h : d0.SameNow d) : d0.SameNow (d.fatal cause) :=
  .share (fun l0 => .share (fun l1 => .ite l1.record.errorNotify.withRecd l1.record.errorNotify) (.ite
    l0.put.put.put l0.put.put)) (.setPair (.ite h.planRelease h))

theorem Dev.SameNow.setCmds {q : Nat} {cs : List Cmd} (h : d0.SameNow d) : d0.SameNow (d.setCmds q cs) :=
  h.setQueue

theorem Dev.SameNow.updCmd {q seq : Nat} {f : Cmd → Cmd} (h : d0.SameNow d) : d0.SameNow (d.updCmd q seq f) :=
  h.setCmds

theorem Dev.SameNow.fenceTo {f v : Nat} (h : d0.SameNow d) : d0.SameNow (d.fenceTo f v) :=
  .ite h.setReg (.ite h h.info)

theorem Dev.SameNow.resync (h : d0.SameNow d) : d0.SameNow d.resync := .ite h h.put.put.put.setPair.reply.reply

theorem Dev.SameNow.diverged (h : d0.SameNow d) : d0.SameNow d.diverged := .ite h h.bump.info.resync

theorem Dev.SameNow.settle {q seq : Nat} (h : d0.SameNow d) : d0.SameNow (d.settle q seq) := by
  unfold Dev.settle
  split
  · exact .ite h.setPair.setCmds.reply h.setPair.diverged
  · exact h

theorem Dev.SameNow.popWritten {n q : Nat} (h : d0.SameNow d) : d0.SameNow (Dev.popWritten n d q) := by
  induction n generalizing d with
  | zero => exact h
  | succ n ih =>
    unfold Dev.popWritten
    split
    · exact h
    · exact .ite (ih (.share (fun l => .ite l.fenceTo l) h.setCmds.setReg.setPair)) h

theorem Dev.SameNow.keepParams {c : Cmd} {o : Outcome} (h : d0.SameNow d) : d0.SameNow (d.keepParams c o) :=
  .ite h (.ite h.setPair (.ite h.setPair h))

theorem Dev.SameNow.complete {q seq : Nat} {o : Outcome} (h : d0.SameNow d) : d0.SameNow (d.complete q seq o) := by
  unfold Dev.complete
  refine .ite ?_ h.setCmds.withHostSt
  split
  · exact h
  · exact .share (fun l0 => .ite l0.setPair.settle.popWritten l0.setPair) h.keepParams.updCmd.mirror

theorem Dev.SameNow.finish {q seq status reason result detail : Nat} (h : d0.SameNow d) :
    d0.SameNow (d.finish q seq status reason result detail) :=
  h.complete

theorem Dev.SameNow.succeed {q seq result : Nat} (h : d0.SameNow d) : d0.SameNow (d.succeed q seq result) :=
  h.finish

theorem Dev.SameNow.bad {q seq i : Nat} (h : d0.SameNow d) : d0.SameNow (d.bad q seq i) := h.finish

theorem Dev.SameNow.reject {q seq reason : Nat} (h : d0.SameNow d) : d0.SameNow (d.reject q seq reason) := h.finish

theorem Dev.SameNow.refuse {q seq reason : Nat} (h : d0.SameNow d) : d0.SameNow (d.refuse q seq reason) := h.finish

theorem Dev.SameNow.withTail {q seq n : Nat} {c : Cmd} {f : Dev → Dev} (h : d0.SameNow d) (hf : d0.SameNow (f d)) :
    d0.SameNow (d.withTail q seq c n f) := by
  unfold Dev.withTail
  split
  · exact h.finish
  · exact hf

theorem Dev.SameNow.setJob {j : Nat} {v : Job} {reason : Nat} (h : d0.SameNow d) :
    d0.SameNow (d.setJob j v reason) :=
  h.withSys.setReg.setReg.setReg.setReg

theorem Dev.SameNow.feedFailed {q seq reason : Nat} (h : d0.SameNow d) :
    d0.SameNow (d.feedFailed q seq reason) := by
  unfold Dev.feedFailed
  split
  · exact h.setJob
  · exact h

theorem Dev.SameNow.onCmd {q seq opcode : Nat} {f : Cmd → Dev → Dev} (h : d0.SameNow d)
    (hf : ∀ c, d0.SameNow (f c d)) : d0.SameNow (d.onCmd q seq opcode f) := by
  unfold Dev.onCmd
  split
  · exact .ite (hf _) h
  · exact h

theorem Dev.SameNow.onCmdMem {m : Mem} {q seq opcode : Nat} {f : Cmd → Dev → Mem → Dev × Mem} (h : d0.SameNow d)
    (hf : ∀ c, d0.SameNow (f c d m).1) : d0.SameNow (Machine.onCmdMem d m q seq opcode f).1 := by
  unfold Machine.onCmdMem
  split
  · exact .ite_fst (hf _) h
  · exact h

theorem Dev.SameNow.withHost {q seq : Nat} {c : Cmd} {f : List Byte → Dev → Dev} (h : d0.SameNow d)
    (hf : ∀ bs, d0.SameNow (f bs d)) : d0.SameNow (d.withHost q seq c f) := by
  unfold Dev.withHost
  split
  · exact hf _
  · exact h.finish
  · exact .ite h h.finish

theorem Dev.SameNow.hostPut {addr : Nat} {bs : List Byte} {poisoned : Bool} (h : d0.SameNow d) :
    d0.SameNow (d.hostPut addr bs poisoned) :=
  .ite h h.post

theorem Dev.SameNow.writeRecord {r : HeldRec} (h : d0.SameNow d) : d0.SameNow (d.writeRecord r) :=
  .ite h.postRecord h.withSys

theorem Dev.SameNow.flushHeld (h : d0.SameNow d) : d0.SameNow d.flushHeld :=
  h.withLay.foldl (fun _ _ k => k.writeRecord)

theorem Dev.SameNow.countPoison {ls : List Nat} (h : d0.SameNow d) : d0.SameNow (Machine.countPoison d ls) := by
  induction ls generalizing d with
  | nil => exact h
  | cons l r ih => exact ih h.bump

theorem Dev.SameNow.accessNotify {reason agent : Nat} {write : Bool} {master pa : Nat} (h : d0.SameNow d) :
    d0.SameNow (d.accessNotify reason agent write master pa) :=
  h.notify

theorem Dev.SameNow.checkerFault {k : Nat} {write : Bool} {master pa code : Nat} (h : d0.SameNow d) :
    d0.SameNow (d.checkerFault k write master pa code) :=
  .share (fun l0 => .share (fun l1 => .ite l1.accessNotify l1) (.info (.ite l0.bump l0.bump)))
    h.withProt.setReg.setLatch

theorem Dev.SameNow.leaseDrop {k entry pa : Nat} (h : d0.SameNow d) : d0.SameNow (d.leaseDrop k entry pa) :=
  .share (fun l0 => .ite l0.info.accessNotify l0.info) h.withProt.setReg.setLatch.bump

theorem Dev.SameNow.reportDenials {k : Nat} {write : Bool} {master pa : Nat} {ds : List (Nat × Denial)}
    (h : d0.SameNow d) :
    d0.SameNow (d.reportDenials k write master pa ds) := by
  unfold Dev.reportDenials
  dsimp only
  split
  · refine .leaseDrop ?_
    split
    · exact h.checkerFault
    · exact h
  · split
    · exact h.checkerFault
    · exact h

theorem Dev.SameNow.checkedWrite {m : Mem} {k master pa : Nat} {bs : List Byte} (h : d0.SameNow d) :
    d0.SameNow (Machine.checkedWrite d m k master pa bs).1 :=
  h.reportDenials

theorem Dev.SameNow.checkedRead {m : Mem} {k master pa n : Nat} (h : d0.SameNow d) :
    d0.SameNow (Machine.checkedRead d m k master pa n).1 :=
  h.reportDenials.countPoison

theorem Dev.SameNow.waitAt {k : Nat} {a : WaitAccess} (h : d0.SameNow d) : d0.SameNow (d.waitAt k a) :=
  .ite h h.withProt

/-! ### Shared descriptions -/

theorem Dev.SameNow.setShadow {l : Nat} {w : List Nat} (h : d0.SameNow d) : d0.SameNow (d.setShadow l w) :=
  h.foldl (fun _ _ k => k.setReg)

theorem Dev.SameNow.setCurLd {l : Nat} {w : List Nat} (h : d0.SameNow d) : d0.SameNow (d.setCurLd l w) :=
  h.foldl (fun _ _ k => k.setReg)

theorem Dev.SameNow.setLayerSt {l : Nat} {v : LayerSt} (h : d0.SameNow d) : d0.SameNow (d.setLayerSt l v) :=
  h.withLay

theorem Dev.SameNow.setHead {hd : Nat} {v : HeadSt} (h : d0.SameNow d) : d0.SameNow (d.setHead hd v) := h.withComp

theorem Dev.SameNow.setDctx {c : Nat} {x : Dctx} (h : d0.SameNow d) : d0.SameNow (d.setDctx c x) := by
  unfold Dev.setDctx
  refine .put ?_
  split
  · exact h.withDec.setReg.setReg.setReg.put.put
  · exact h.withDec.setReg.setReg.setReg.put.put

theorem Dev.SameNow.updSlot {p : Pool} {i : Nat} {f : PicSlot → PicSlot} (h : d0.SameNow d) :
    d0.SameNow (d.updSlot p i f) := by
  unfold Dev.updSlot
  split
  · exact h.setDctx
  · split
    · exact h
    · exact h.withSys
  · exact h.setHead

theorem Dev.SameNow.unlease {p : Pool} {i : Nat} (h : d0.SameNow d) : d0.SameNow (d.unlease p i) := h.updSlot

theorem Dev.SameNow.dropLease {p : Pool} {i : Nat} (h : d0.SameNow d) : d0.SameNow (d.dropLease p i) := by
  unfold Dev.dropLease
  dsimp only
  split
  · exact .ite h.unlease.setHead h.unlease
  · split
    · exact .ite h.unlease.withSys h.unlease
    · exact h.unlease
  · exact h.unlease

theorem Dev.SameNow.skewed {l : Nat} (h : d0.SameNow d) : d0.SameNow (d.skewed l) := h.setLayerSt.bump.put.info

theorem Dev.SameNow.canvasPicture {p : Pool} {i : Nat} (h : d0.SameNow d) : d0.SameNow (d.canvasPicture p i) := by
  unfold Dev.canvasPicture
  refine .ite h (h.updSlot.withComp.foldl (fun _ _ k => ?_))
  split
  · exact .ite k.skewed k
  · exact k

theorem Dev.SameNow.endHold {hd : Hold} (h : d0.SameNow d) : d0.SameNow (d.endHold hd) := h.withComp.unlease

theorem Dev.SameNow.makeRoom {p : Pool} {full : Bool} (h : d0.SameNow d) : d0.SameNow (d.makeRoom p full) := by
  unfold Dev.makeRoom
  refine .ite h ?_
  split
  · exact h
  · exact .endHold (h.foldl (fun _ _ k => k.setLayerSt))

/-! ### Host interface and queues -/

theorem Dev.SameNow.respond {r : Response} (h : d0.SameNow d) : d0.SameNow (d.respond r) := h.withHostSt

theorem Dev.SameNow.gated {off : Nat} {f : Dev → Dev} (h : d0.SameNow d) (hf : d0.SameNow (f d)) :
    d0.SameNow (d.gated off f) := .ite h (.ite h.respond hf)

theorem Dev.SameNow.hostEffect {off : Nat} {v : Word} {f : Dev → Dev} (h : d0.SameNow d) (hf : d0.SameNow (f d)) :
    d0.SameNow (d.hostEffect off v f) := .ite hf (.ite h.info hf.mirror)

theorem Dev.SameNow.gatedM {off : Nat} {v : Word} {f : Dev → Dev} (h : d0.SameNow d) (hf : d0.SameNow (f d)) :
    d0.SameNow (d.gatedM off v f) := h.gated (h.hostEffect hf)

theorem Dev.SameNow.cfgRequest {r : CfgRequest} (h : d0.SameNow d) : d0.SameNow (Machine.cfgRequest r d) := by
  unfold Machine.cfgRequest
  refine .ite h ?_
  split
  · exact h.respond
  · exact h.withHostSt
  · exact .ite h.withHostSt h.respond
  · exact h.withHostSt
  · exact h.respond

theorem Dev.SameNow.bar2ReadNow {off len : Nat} {x : Dev × Mem} (h : d0.SameNow x.1) :
    d0.SameNow (Machine.bar2ReadNow off len x).1 :=
  h.checkedRead.respond

theorem Dev.SameNow.bar2Read {off len : Nat} {x : Dev × Mem} (h : d0.SameNow x.1) :
    d0.SameNow (Machine.bar2Read off len x).1 :=
  .ite_fst h (.ite_fst h.respond (.ite_fst h.respond.waitAt h.bar2ReadNow))

theorem Dev.SameNow.bar2WriteNow {off : Nat} {bytes : List Byte} {x : Dev × Mem} (h : d0.SameNow x.1) :
    d0.SameNow (Machine.bar2WriteNow off bytes x).1 := by
  have k := h.checkedWrite (m := x.2) (k := 0) (master := 0) (pa := x.1.bar2Pa off) (bs := bytes)
  exact .ite k k.info

theorem Dev.SameNow.bar2Write {off : Nat} {bytes : List Byte} {x : Dev × Mem} (h : d0.SameNow x.1) :
    d0.SameNow (Machine.bar2Write off bytes x).1 :=
  .ite_fst h (.ite_fst h.waitAt h.bar2WriteNow)

theorem Dev.SameNow.bar2OffsetWrite {v : Word} (h : d0.SameNow d) : d0.SameNow (Machine.bar2OffsetWrite v d) :=
  .ite h.put h

theorem Dev.SameNow.drainCheck {q : Nat} (h : d0.SameNow d) : d0.SameNow (d.drainCheck q) := .ite h.put.setQueue h

theorem Dev.SameNow.writeFront {q : Nat} {e : Dev} (h : d0.SameNow d) (he : d.writeFront q = some e) :
    d0.SameNow e := by
  unfold Dev.writeFront at he
  split at he
  · cases he
  split at he
  · cases he
  rw [Option.ite_none_left_eq_some] at he
  split at he
  · cases he.2
    exact h.queueErr.setQueue
  · cases he.2
    exact .share (fun l => .ite l.fenceTo l) (.share (fun l => .ite l l.setReg) h.ringPut.setCmds.mirror)

theorem Dev.SameNow.flush {n q : Nat} (h : d0.SameNow d) : d0.SameNow (Dev.flush n d q) := by
  induction n generalizing d with
  | zero => exact h
  | succ n ih =>
    unfold Dev.flush
    split
    · next he => exact ih (h.writeFront he)
    · exact h

theorem Dev.SameNow.flushQueue {q : Nat} (h : d0.SameNow d) : d0.SameNow (d.flushQueue q) :=
  .ite h.flushRecords h.flush.flushHeld

theorem Dev.SameNow.qCtrlFields {q : Nat} {v : Word} (h : d0.SameNow d) : d0.SameNow (d.qCtrlFields q v) :=
  .ite h h.setReg

theorem Dev.SameNow.queueEnable {q : Nat} {v : Word} (h : d0.SameNow d) : d0.SameNow (Machine.queueEnable q v d) :=
  .ite h (.share (fun l0 => .ite l0 (.ite l0.put.put.put.setQueue.flushQueue l0.put.put)) h.qCtrlFields)

theorem Dev.SameNow.abandon {q : Nat} {p : Cmd → Bool} (h : d0.SameNow d) : d0.SameNow (d.abandon q p) :=
  h.foldl (fun _ _ k => k.finish)

theorem Dev.SameNow.queueDisable {q : Nat} {v : Word} (h : d0.SameNow d) :
    d0.SameNow (Machine.queueDisable q v d) :=
  .ite h (.share (fun l0 => .ite l0.put.put.put.abandon.drainCheck (.ite l0.put l0)) h.qCtrlFields)

theorem Dev.SameNow.sqDoorbell {q : Nat} {v : Word} (h : d0.SameNow d) : d0.SameNow (Machine.sqDoorbell q v d) :=
  .ite h (.ite h.queueErr h.setQueue)

theorem Dev.SameNow.cqDoorbell {q : Nat} {v : Word} (h : d0.SameNow d) : d0.SameNow (Machine.cqDoorbell q v d) :=
  .ite h (.ite h.queueErr h.setQueue.flushQueue.drainCheck)

theorem Dev.SameNow.hostReadCompletion {q : Nat} {seq : Option Nat} {a : HostAnswer} (h : d0.SameNow d) :
    d0.SameNow (Machine.hostReadCompletion q seq a d) := by
  unfold Machine.hostReadCompletion
  split
  · exact h.queueErr
  · exact h
  · split
    · exact .ite h.feedFailed.finish h
    · exact h
  · exact .updCmd (.ite h.mirror h)

theorem Dev.SameNow.hostReadTimeout {q : Nat} {seq : Option Nat} (h : d0.SameNow d) :
    d0.SameNow (Machine.hostReadTimeout q seq d) := by
  unfold Machine.hostReadTimeout
  split
  · exact h.queueErr
  · split
    · exact .ite h.feedFailed.finish h
    · exact h

theorem Dev.SameNow.hostWriteTimeout {w : HostWrite} (h : d0.SameNow d) :
    d0.SameNow (Machine.hostWriteTimeout w d) := by
  unfold Machine.hostWriteTimeout
  split
  · split
    · exact .ite h.feedFailed.finish h
    · exact h
  · exact h.queueErr.setQueue.drainCheck

theorem Dev.SameNow.entryFetched {q : Nat} {e : List Byte} (h : d0.SameNow d) :
    d0.SameNow (Machine.entryFetched q e d) :=
  .ite h (.ite h.put.setReg.setQueue.withHostSt.mirror (.ite h.put.bump h.put.setQueue.queueErr))

theorem Dev.SameNow.startNow {q seq : Nat} {c : Cmd} (h : d0.SameNow d) :
    d0.SameNow (Machine.startNow q seq c d) := by
  unfold Machine.startNow
  split
  · exact h.finish
  · exact .ite (.ite h.finish (.ite h h.updCmd.withHostSt)) (.ite h.finish (.ite h.finish (.ite h.finish (.ite h (.ite
      h h.updCmd)))))

theorem Dev.SameNow.commandStart {q seq : Nat} (h : d0.SameNow d) : d0.SameNow (Machine.commandStart q seq d) := by
  unfold Machine.commandStart
  split
  · exact h
  · exact .ite h (.ite h (.ite h h.startNow))

theorem Dev.SameNow.commandDeadline {q seq : Nat} (h : d0.SameNow d) :
    d0.SameNow (Machine.commandDeadline q seq d) := by
  unfold Machine.commandDeadline
  split
  · exact h
  · exact .ite h.finish h

theorem Dev.SameNow.completionWrite {q : Nat} (h : d0.SameNow d) : d0.SameNow (Machine.completionWrite q d) := by
  unfold Machine.completionWrite
  split
  · next he => exact (h.writeFront he).drainCheck.flushHeld
  · exact h.drainCheck

theorem Dev.SameNow.fenceWrite {f : Nat} {v : Word} (h : d0.SameNow d) : d0.SameNow (Machine.fenceWrite f v d) :=
  .ite h.fenceTo h

theorem Dev.SameNow.nop {q seq : Nat} (h : d0.SameNow d) : d0.SameNow (Machine.nop q seq d) :=
  h.onCmd (fun _ => h.withTail h.succeed)

theorem Dev.SameNow.sync {q seq : Nat} (h : d0.SameNow d) : d0.SameNow (Machine.sync q seq d) :=
  h.onCmd (fun _ => h.withTail (.ite h.succeed h))

theorem Dev.SameNow.fenceSignal {q seq : Nat} (h : d0.SameNow d) : d0.SameNow (Machine.fenceSignal q seq d) :=
  h.onCmd (fun _ => h.withTail (.ite h.bad h.fenceTo.succeed))

theorem Dev.SameNow.dmaEnd {q seq n : Nat} {ds : List (Nat × Denial)} {poison : Option Nat} (h : d0.SameNow d) :
    d0.SameNow (Machine.dmaEnd q seq n ds poison d) := by
  unfold Machine.dmaEnd
  split
  · exact h.succeed
  · exact h.finish
  · exact h.finish
  · exact .ite h.finish h.finish

theorem Dev.SameNow.dmaFill {q seq : Nat} {x : Dev × Mem} (h : d0.SameNow x.1) :
    d0.SameNow (Machine.dmaFill q seq x).1 :=
  h.onCmdMem (fun _ => .ite_fst (h.withTail h) (.ite_fst h.succeed (.ite_fst (.ite h.hostPut.succeed h.finish)
    (.ite_fst (.ite h.finish h) (.ite_fst h.waitAt h.checkedWrite.dmaEnd)))))

theorem Dev.SameNow.dmaCopy {q seq : Nat} {x : Dev × Mem} (h : d0.SameNow x.1) :
    d0.SameNow (Machine.dmaCopy q seq x).1 := by
  unfold Machine.dmaCopy
  refine h.onCmdMem (fun _ => .ite_fst (h.withTail h) (.ite_fst h.succeed (.ite_fst (.ite h.finish h) (.ite_fst
    h.finish (.ite_fst h.waitAt (.ite_fst h (.ite_fst (.dmaEnd (.hostPut (.ite_fst h.checkedRead ?_))) (.dmaEnd
    (.checkedWrite (.ite_fst h.checkedRead ?_))))))))))
  · split
    · exact h
    · exact h
  · split
    · exact h
    · exact h

theorem Dev.SameNow.forwardedReceived {origin oq : Nat} {entry : List Byte} (h : d0.SameNow d) :
    d0.SameNow (Machine.forwardedReceived origin oq entry d) := by
  unfold Machine.forwardedReceived
  dsimp only
  split
  · exact h.withHostSt
  · exact .ite h h.setCmds.withHostSt

theorem Dev.SameNow.forwardedOutcome {q seq : Nat} {o : FwdOutcome} (h : d0.SameNow d) :
    d0.SameNow (Machine.forwardedOutcome q seq o d) := by
  unfold Machine.forwardedOutcome
  split
  · exact .ite h.complete h
  · exact h

theorem Dev.SameNow.forwardTimeout {q seq : Nat} (h : d0.SameNow d) :
    d0.SameNow (Machine.forwardTimeout q seq d) := by
  unfold Machine.forwardTimeout
  split
  · exact .ite h.finish h
  · exact h

/-! ### Reference selection -/

theorem Dev.SameNow.setRefMon {r : Nat} {m : RefMon} (h : d0.SameNow d) : d0.SameNow (d.setRefMon r m) := h.withRef

theorem Dev.SameNow.bwLimited {r : Nat} (h : d0.SameNow d) : d0.SameNow (d.bwLimited r) := h.put

theorem Dev.SameNow.startPull {r : Nat} (h : d0.SameNow d) : d0.SameNow (d.startPull r) :=
  h.put.bump.info.put.bwLimited.setReg.withRef

theorem Dev.SameNow.loseAll (h : d0.SameNow d) : d0.SameNow d.loseAll :=
  .ite h.put.put.withRef.put.setReg.info h.put.put.withRef.put.setReg.info

theorem Dev.SameNow.select (h : d0.SameNow d) : d0.SameNow d.select := by
  unfold Dev.select
  dsimp only
  split
  · exact .ite h.put h.put.startPull
  · exact .ite h.put.loseAll h.put

theorem Dev.SameNow.stopWtr {r : Nat} (h : d0.SameNow d) : d0.SameNow (d.stopWtr r) := h.setRefMon.put.put

theorem Dev.SameNow.refActivityLost {r : Nat} (h : d0.SameNow d) : d0.SameNow (Machine.refActivityLost r d) :=
  .ite h h.put.put.stopWtr.select

theorem Dev.SameNow.gateMeasured {r : Nat} {g : List Int} {mean slope : Int} (h : d0.SameNow d) :
    d0.SameNow (d.gateMeasured r g mean slope) :=
  h.setRefMon.put.setReg.setReg

theorem Dev.SameNow.gateDrift {r warn : Nat} {slope : Int} (h : d0.SameNow d) :
    d0.SameNow (d.gateDrift r warn slope) :=
  .ite h.put.info h

theorem Dev.SameNow.gateFollowed {r : Nat} {mean : Int} (h : d0.SameNow d) : d0.SameNow (d.gateFollowed r mean) :=
  .ite h.setReg h

theorem Dev.SameNow.gateWaits {r : Nat} {m : RefMon} (h : d0.SameNow d) : d0.SameNow (d.gateWaits r m) := by
  unfold Dev.gateWaits
  split
  · exact h.setRefMon.put.put
  · exact h.put

theorem Dev.SameNow.gateJudged {r : Nat} {m : RefMon} {mean : Int} {acc : Bool} (h : d0.SameNow d) :
    d0.SameNow (d.gateJudged r m mean acc) :=
  .ite (.ite h.put.put.select h) (.ite h.gateWaits h.stopWtr)

theorem Dev.SameNow.refFreqGate {r : Nat} {gate : Int} (h : d0.SameNow d) :
    d0.SameNow (Machine.refFreqGate r gate d) :=
  .ite h h.gateMeasured.gateDrift.put.gateFollowed.gateJudged

theorem Dev.SameNow.refWtrExpiry {r : Nat} (h : d0.SameNow d) : d0.SameNow (Machine.refWtrExpiry r d) := by
  unfold Machine.refWtrExpiry
  dsimp only
  split
  · exact h
  · exact .ite h.stopWtr.put.select h

theorem Dev.SameNow.pullComplete (h : d0.SameNow d) : d0.SameNow (Machine.pullComplete d) := .ite h.withRef.put h

theorem Dev.SameNow.holdoverReady (h : d0.SameNow d) : d0.SameNow (Machine.holdoverReady d) := by
  unfold Machine.holdoverReady
  split
  · exact .ite h.put h
  · exact h

theorem Dev.SameNow.ocxoLost (h : d0.SameNow d) : d0.SameNow (Machine.ocxoLost d) :=
  h.withRef.put.put.foldl (fun _ _ k => k.stopWtr)

theorem Dev.SameNow.ocxoReturn (h : d0.SameNow d) : d0.SameNow (Machine.ocxoReturn d) :=
  h.withRef.put.foldl (fun _ _ k => k.setRefMon.stopWtr)

theorem Dev.SameNow.refselApply {v : Word} (h : d0.SameNow d) : d0.SameNow (Machine.refselApply v d) :=
  .ite h.setReg (.ite h.setReg.put h.setReg.withRef.bwLimited.select)

theorem Dev.SameNow.refCfgApply {r : Nat} {v : Word} (h : d0.SameNow d) : d0.SameNow (Machine.refCfgApply r v d) :=
  .ite h (.ite h.setReg (.ite h.setReg.put (.select (.ite h.setReg.setRefMon.put.stopWtr h.setReg.setRefMon))))

/-! ### Time -/

theorem Dev.SameNow.setTb {dom : Nat} {a : Anchor} (h : d0.SameNow d) : d0.SameNow (d.setTb dom a) :=
  .ite h.withTime h.withTime

theorem Dev.SameNow.setPtp {dom : Nat} {p : PtpDomain} (h : d0.SameNow d) : d0.SameNow (d.setPtp dom p) :=
  .ite h.withTime h.withTime

theorem Dev.SameNow.setQual {dom : Nat} {q : Bool} (h : d0.SameNow d) : d0.SameNow (d.setQual dom q) := h.put.put

theorem Dev.SameNow.setRate {freq phase : Int} (h : d0.SameNow d) : d0.SameNow (d.setRate freq phase) :=
  h.withTime.setReg.put

theorem Dev.SameNow.steer {freq phase : Int} (h : d0.SameNow d) : d0.SameNow (d.steer freq phase) := h.setRate

theorem Dev.SameNow.measure (h : d0.SameNow d) : d0.SameNow d.measure := h.withTime

theorem Dev.SameNow.follow {dom : Nat} {held : Bool} (h : d0.SameNow d) : d0.SameNow (d.follow dom held) :=
  .ite h.setRate.put.put.put.withTime h.setRate.put.put.put

theorem Dev.SameNow.initialStep {dom : Nat} (h : d0.SameNow d) : d0.SameNow (d.initialStep dom) :=
  h.withTime.setReg.put.put

theorem Dev.SameNow.qualify {dom : Nat} (h : d0.SameNow d) : d0.SameNow (d.qualify dom) :=
  .ite h (.share (fun l0 => .ite (.ite l0.initialStep l0) (.ite l0.follow.info.withTime (.ite (.ite l0.follow
    l0.initialStep) l0))) h.setQual)

theorem Dev.SameNow.switchTo {dom : Nat} (h : d0.SameNow d) : d0.SameNow (d.switchTo dom) := h.follow.bump.info

theorem Dev.SameNow.trustNow (h : d0.SameNow d) : d0.SameNow d.trustNow := .ite h.put.info h

theorem Dev.SameNow.enterNoPtp (h : d0.SameNow d) : d0.SameNow d.enterNoPtp :=
  h.measure.put.put.withTime.info.trustNow

theorem Dev.SameNow.disqualify {dom : Nat} (h : d0.SameNow d) : d0.SameNow (d.disqualify dom) :=
  .share (fun l0 => .ite (.ite l0.switchTo l0.enterNoPtp) l0) (.ite h.setPtp.setQual.refActivityLost h.setPtp.setQual)

theorem Dev.SameNow.toHold {dom : Nat} (h : d0.SameNow d) : d0.SameNow (d.toHold dom) := .ite h h.withTime.put

theorem Dev.SameNow.servo {dom portState : Nat} {offset rate phase : Int} (h : d0.SameNow d) :
    d0.SameNow (d.servo dom portState offset rate phase) :=
  .ite h.setTb.bump.disqualify (.share (fun l0 => .ite (.ite l0.steer l0.toHold.steer) l0) (.ite
    h.setTb.setReg.setPtp.qualify h.setTb.setReg.setPtp))

theorem Dev.SameNow.ptpMessage {dom port : Nat} {m : PtpMessage} (h : d0.SameNow d) :
    d0.SameNow (Machine.ptpMessage dom port m d) := by
  unfold Machine.ptpMessage
  refine .ite h ?_
  split
  · exact .ite h.put.put.put.setPtp.disqualify h.put.put.put.setPtp
  · exact h.put.put.servo
  · exact h
  · exact h

theorem Dev.SameNow.ptpTimeout {dom : Nat} (h : d0.SameNow d) : d0.SameNow (Machine.ptpTimeout dom d) :=
  .ite h.setPtp.disqualify h

theorem Dev.SameNow.wtUnsetTimeout (h : d0.SameNow d) : d0.SameNow (Machine.wtUnsetTimeout d) :=
  .ite (.ite h.initialStep (.ite h.initialStep h.withTime.enterNoPtp)) h

theorem Dev.SameNow.trustExpiry (h : d0.SameNow d) : d0.SameNow (Machine.trustExpiry d) := .ite h.put.info h

theorem Dev.SameNow.wtSlewEnd (h : d0.SameNow d) : d0.SameNow (Machine.wtSlewEnd d) :=
  .ite (.ite h.steer.withTime h.steer) h

theorem Dev.SameNow.wtFollow {q seq : Nat} (h : d0.SameNow d) : d0.SameNow (Machine.wtFollow q seq d) :=
  h.onCmd (fun _ => h.withTail (.ite h.bad (.ite h.finish (.ite h.succeed (.ite h.finish h.switchTo.succeed)))))

theorem Dev.SameNow.ptpPorts {q seq : Nat} (h : d0.SameNow d) : d0.SameNow (Machine.ptpPorts q seq d) :=
  h.onCmd (fun _ => h.withTail (.ite h.bad (.ite h.bad (.ite h.bad (.ite h.bad (.ite h.bad (.ite h.finish (.ite
    h.finish (.ite h.finish (.share (fun l0 => .succeed (.ite l0.put (.ite l0.put l0))) (.ite h.setPtp.disqualify
    h.setPtp)))))))))))

theorem Dev.SameNow.snapBase {b v : Nat} (h : d0.SameNow d) : d0.SameNow (d.snapBase b v) :=
  h.setReg.setReg.setReg.setReg

theorem Dev.SameNow.timeSnap {v : Word} (h : d0.SameNow d) : d0.SameNow (Machine.timeSnap v d) :=
  .ite h.snapBase.snapBase.snapBase.snapBase.snapBase.put h

theorem Dev.SameNow.tb3Apply {v : Word} (h : d0.SameNow d) : d0.SameNow (Machine.tb3Apply v d) := .ite h.withTime h

theorem Dev.SameNow.tb3Rate {v : Word} (h : d0.SameNow d) : d0.SameNow (Machine.tb3Rate v d) :=
  .ite h.withTime.setReg h

theorem Dev.SameNow.ppsCtrl {v : Word} (h : d0.SameNow d) : d0.SameNow (Machine.ppsCtrl v d) := h.put

theorem Dev.SameNow.ppsRise (h : d0.SameNow d) : d0.SameNow (Machine.ppsRise d) := .ite h.withTime h

theorem Dev.SameNow.ppsFall (h : d0.SameNow d) : d0.SameNow (Machine.ppsFall d) := h.withTime

theorem Dev.SameNow.setTrig {u : Nat} {g : Trig} (h : d0.SameNow d) : d0.SameNow (d.setTrig u g) := h.withTime.put

theorem Dev.SameNow.trigWrite {u : Nat} {v : Word} {busy : Bool} (h : d0.SameNow d) :
    d0.SameNow (Machine.trigWrite u v busy d) :=
  .ite h (.ite h.put (.ite h.setReg (.share (fun l0 => .ite l0.put (.ite l0.put (.ite l0.setTrig (.ite (.ite l0.put
    l0.setTrig) (.ite l0.setTrig.put.info l0.setTrig))))) h.setReg)))

theorem Dev.SameNow.trigPulseEnd {u : Nat} (h : d0.SameNow d) : d0.SameNow (Machine.trigPulseEnd u d) := h.setTrig

theorem Dev.SameNow.captureEdge {u : Nat} {fall : Bool} (h : d0.SameNow d) :
    d0.SameNow (Machine.captureEdge u fall d) :=
  .ite h (.ite h.bump.put (.ite h.withTime.put.notify h.withTime.put))

theorem Dev.SameNow.capRead {u : Nat} (h : d0.SameNow d) : d0.SameNow (Machine.capRead u d).1 := by
  unfold Machine.capRead
  split
  · exact h.setReg
  · exact h.withTime.put.setReg

theorem Dev.SameNow.capReadRow {u : Nat} (h : d0.SameNow d) : d0.SameNow (Machine.capReadRow u d) :=
  h.gated h.capRead.respond

/-! ### Fabric routing and time -/

theorem Dev.SameNow.setLink {p : Nat} {l : Link} (h : d0.SameNow d) : d0.SameNow (d.setLink p l) := h.withSys

theorem Dev.SameNow.setLanes {p : Nat} {x : Train} (h : d0.SameNow d) : d0.SameNow (d.setLanes p x) := h.withSys

theorem Dev.SameNow.freeBuffer {back : Option (Nat × Nat)} {flits : Nat} (h : d0.SameNow d) :
    d0.SameNow (d.freeBuffer back flits) := by
  unfold Dev.freeBuffer
  split
  · exact h
  · exact h.setLink

theorem Dev.SameNow.enqueue {p : Nat} {o : OutEnv} (h : d0.SameNow d) : d0.SameNow (d.enqueue p o) := h.setLink

theorem Dev.SameNow.deliverEnv {port : Nat} {e : Env} (h : d0.SameNow d) : d0.SameNow (d.deliverEnv port e) :=
  h.withSys

theorem Dev.SameNow.takeInbox {type : Nat} (h : d0.SameNow d) : d0.SameNow (d.takeInbox type) := by
  unfold Dev.takeInbox
  split
  · exact h.withSys
  · exact h

theorem Dev.SameNow.routeEnv {port : Nat} {o : OutEnv} (h : d0.SameNow d) : d0.SameNow (d.routeEnv port o) := by
  unfold Dev.routeEnv
  refine .ite ?_ (.ite h.deliverEnv.freeBuffer ?_)
  · dsimp only
    split
    · exact .freeBuffer (.ite h.deliverEnv h)
    · exact .foldl (.ite h.deliverEnv h) (fun _ _ k => k.enqueue)
  · split
    · exact h.enqueue
    · exact .ite h.freeBuffer (.ite (.ite h.enqueue h.freeBuffer) (.ite h.enqueue h.freeBuffer))

theorem Dev.SameNow.updSend {id : Nat} {f : PicSend → Option PicSend} (h : d0.SameNow d) :
    d0.SameNow (d.updSend id f) :=
  h.withSys

theorem Dev.SameNow.beginSend {c dest : Nat} {mcast : Bool} {slot : Nat} (h : d0.SameNow d) :
    d0.SameNow (d.beginSend c dest mcast slot) :=
  h.withSys.updSlot

theorem Dev.SameNow.offerPicture {c slot : Nat} (h : d0.SameNow d) : d0.SameNow (d.offerPicture c slot) := by
  unfold Dev.offerPicture
  refine h.foldl (fun _ _ k => ?_)
  split
  · exact k.updSend
  · exact k.beginSend

theorem Dev.SameNow.failoverBits {p : Nat} {down : Bool} (h : d0.SameNow d) : d0.SameNow (d.failoverBits p down) :=
  h.foldl (fun _ _ k => .ite k.put k)

theorem Dev.SameNow.leaveRouting {p cause : Nat} (h : d0.SameNow d) : d0.SameNow (d.leaveRouting p cause) := by
  unfold Dev.leaveRouting
  refine .ite h.put.put (.foldl ?_ (fun _ _ k => .ite k.freeBuffer k.routeEnv))
  split
  · exact .ite (.freeBuffer (.setLink (.ite h.put.put.failoverBits h.put.put))) (.routeEnv (.setLink (.ite
      h.put.put.failoverBits h.put.put)))
  · exact .setLink (.ite h.put.put.failoverBits h.put.put)

theorem Dev.SameNow.identify {p : Nat} (h : d0.SameNow d) : d0.SameNow (d.identify p) := by
  unfold Dev.identify
  split
  · exact h
  · exact .ite h.leaveRouting (.ite h.put.leaveRouting (.ite h.put.put.put h.put.put.put.failoverBits))

theorem Dev.SameNow.tellPort {p : Nat} (h : d0.SameNow d) : d0.SameNow (d.tellPort p) := .ite h h.setLanes.info

theorem Dev.SameNow.setLaneCause {p l : Nat} {failed : Bool} {cause : Nat} (h : d0.SameNow d) :
    d0.SameNow (d.setLaneCause p l failed cause) :=
  .share (fun l0 => .ite l0 (.ite l0.setLanes.withErr.degradedEvent (.info (.ite l0.setLanes.withErr.put
    l0.setLanes.withErr)))) h.put.put

theorem Dev.SameNow.setStep {p n : Nat} (h : d0.SameNow d) : d0.SameNow (d.setStep p n) := h.setLanes.put

theorem Dev.SameNow.detected {p : Nat} (h : d0.SameNow d) : d0.SameNow (d.detected p) := h.setLanes.setStep

theorem Dev.SameNow.attempt {p : Nat} (h : d0.SameNow d) : d0.SameNow (d.attempt p) :=
  .share (fun l0 => .share (fun l1 => .ite l1.setStep.detected l1.setStep) (.ite l0.setLanes.put.bump.tellPort
    l0.setLanes.put)) (h.leaveRouting.bump.put.put.put.put.foldl (fun _ _ k => k.put.put.put))

theorem Dev.SameNow.paentDown {p : Nat} (h : d0.SameNow d) : d0.SameNow (d.paentDown p) := h.setLink

theorem Dev.SameNow.failAttempt {p fail : Nat} (h : d0.SameNow d) : d0.SameNow (d.failAttempt p fail) :=
  h.bump.put.put.put.put.put.setLanes.paentDown.tellPort

/-! ### Codec -/

theorem Dev.SameNow.setCtx {c : Nat} {x : Ctx} (h : d0.SameNow d) : d0.SameNow (d.setCtx c x) := h.withNet.put

theorem Dev.SameNow.endFrame {c : Nat} {f : OpenFrame} (h : d0.SameNow d) : d0.SameNow (d.endFrame c f) := by
  unfold Dev.endFrame
  dsimp only
  split
  · exact h.setCtx.setDctx
  · exact h.setCtx

theorem Dev.SameNow.discardFrames {c : Nat} (h : d0.SameNow d) : d0.SameNow (d.discardFrames c) :=
  h.setCtx.foldl (fun _ _ k => k.endFrame)

theorem Dev.SameNow.ingestResync {c : Nat} (h : d0.SameNow d) : d0.SameNow (d.ingestResync c) :=
  .ite h.discardFrames.put h

theorem Dev.SameNow.engineStop {e : Nat} (h : d0.SameNow d) : d0.SameNow (d.engineStop e) := by
  unfold Dev.engineStop
  split
  · exact h
  · exact h.withDec.put

theorem Dev.SameNow.abortEngine {c : Nat} (h : d0.SameNow d) : d0.SameNow (d.abortEngine c) := by
  unfold Dev.abortEngine
  split
  · exact h
  · exact h.engineStop.setDctx

theorem Dev.SameNow.ctxReset {c : Nat} {dropSets : Bool} {agent : Nat} (h : d0.SameNow d) :
    d0.SameNow (d.ctxReset c dropSets agent) :=
  h.abortEngine.setDctx.put.bump.contained.ingestResync

theorem Dev.SameNow.pictureDone {c i : Nat} {pm : Postmark} {order : Int} {isRef : Bool} {w hd : Nat} {x : Dev × Mem}
    (h : d0.SameNow x.1) :
    d0.SameNow (Machine.pictureDone c i pm order isRef w hd x).1 := by
  unfold Machine.pictureDone
  dsimp only
  split
  · exact h
  · exact .share (fun l0 => .ite l0.bump l0) h.setDctx.bump.canvasPicture.offerPicture

theorem Dev.SameNow.noSlot {c : Nat} (h : d0.SameNow d) : d0.SameNow (d.noSlot c) := h.bumpWrap

theorem Dev.SameNow.deliver {c : Nat} {f : Queued} (h : d0.SameNow d) : d0.SameNow (d.deliver c f) := by
  unfold Dev.deliver
  refine .ite h.bump (.ite h (.ite h.bump ?_))
  dsimp only
  split
  · exact .ite h.put.setDctx (.ite h.put.setDctx.bumpWrap.ctxReset h.put.setDctx.bumpWrap.setDctx)
  · exact h.put.setDctx

theorem Dev.SameNow.decRegs (h : d0.SameNow d) : d0.SameNow d.decRegs := h.setReg.setReg

theorem Dev.SameNow.shedCtx {c reason : Nat} (h : d0.SameNow d) : d0.SameNow (d.shedCtx c reason) :=
  h.setDctx.put.put.put.info.decRegs

theorem Dev.SameNow.shedToFit {cs : List Nat} (h : d0.SameNow d) : d0.SameNow (Machine.shedToFit cs d) := by
  induction cs generalizing d with
  | nil => exact h
  | cons c r ih => exact .ite h (ih h.shedCtx)

theorem Dev.SameNow.engineFail {e : Nat} (h : d0.SameNow d) : d0.SameNow (d.engineFail e) := by
  unfold Dev.engineFail
  refine .ite h (.decRegs (.shedToFit ?_))
  split
  · refine .ite (.ctxReset (.degraded (.put ?_))) (.ite (.setDctx (.degraded (.put ?_))) (.degraded (.put ?_)))
    · split
      · exact h.engineStop.setDctx
      · exact h
    · split
      · exact h.engineStop.setDctx
      · exact h
    · split
      · exact h.engineStop.setDctx
      · exact h
  · refine .degraded (.put ?_)
    split
    · exact h.engineStop.setDctx
    · exact h

theorem Dev.SameNow.decodeEngineTimeout {e : Nat} (h : d0.SameNow d) :
    d0.SameNow (Machine.decodeEngineTimeout e d) := by
  unfold Machine.decodeEngineTimeout
  split
  · exact .ite h.engineFail h
  · exact h

theorem Dev.SameNow.unsupported {c cause agent : Nat} (h : d0.SameNow d) :
    d0.SameNow (d.unsupported c cause agent) :=
  .ite h.put h.put.info

theorem Dev.SameNow.decodeStart {e : Nat} {x : Dev × Mem} (h : d0.SameNow x.1) :
    d0.SameNow (Machine.decodeStart e x).1 := by
  unfold Machine.decodeStart
  refine .ite_fst h ?_
  split
  · exact h
  · dsimp only
    split
    · exact .share (fun l0 => .ite_fst l0.ctxReset (.ite_fst l0.unsupported.ctxReset l0.setDctx.withDec.put.put))
        h.makeRoom.setDctx
    · exact h

theorem Dev.SameNow.decodedPicture {c i : Nat} {f : Queued} {r : DecodeResult} {p : PicInfo} {su : Setup}
    {x : Dev × Mem}
    (h : d0.SameNow x.1) :
    d0.SameNow (Machine.decodedPicture c i f r p su x).1 :=
  .share (fun l0 => .pictureDone (.ite (.info (.ite l0.contained l0)) (.ite l0.contained l0))) h.setDctx.put

theorem Dev.SameNow.decodeComplete {e : Nat} {r : DecodeResult} {x : Dev × Mem} (h : d0.SameNow x.1) :
    d0.SameNow (Machine.decodeComplete e r x).1 := by
  unfold Machine.decodeComplete
  split
  · exact h
  · dsimp only
    split
    · exact .ite_fst h.engineStop.bumpWrap.setDctx (.ite (.setDctx (.decodedPicture (h.engineStop.bumpWrap)))
        (.decodedPicture (h.engineStop.bumpWrap)))
    · exact h.engineStop.bumpWrap.setDctx

theorem Dev.SameNow.decodeNoSlot {c : Nat} (h : d0.SameNow d) : d0.SameNow (Machine.decodeNoSlot c d) := by
  unfold Machine.decodeNoSlot
  dsimp only
  split
  · exact .ite h.noSlot.ctxReset h
  · exact h

theorem Dev.SameNow.windowCtx {c : Nat} (h : d0.SameNow d) : d0.SameNow (d.windowCtx c) :=
  .ite h.setDctx h.setDctx.put.info

theorem Dev.SameNow.restoreOne {cs : List Nat} (h : d0.SameNow d) : d0.SameNow (Machine.restoreOne cs d) := by
  induction cs generalizing d with
  | nil => exact h.withDec
  | cons c r ih => exact .ite h.withDec.put.put.info.ctxReset (ih h)

theorem Dev.SameNow.decodeWindow (h : d0.SameNow d) : d0.SameNow (Machine.decodeWindow d) := by
  unfold Machine.decodeWindow
  refine .ite ?_ (.ite (.restoreOne (.withDec (h.withDec.put.foldl (fun _ _ k => k.windowCtx)))) (.withDec
    (h.withDec.put.foldl (fun _ _ k => k.windowCtx))))
  split
  · exact .withDec (.shedCtx (.withDec (h.withDec.put.foldl (fun _ _ k => k.windowCtx))))
  · exact .withDec (h.withDec.put.foldl (fun _ _ k => k.windowCtx))

theorem Dev.SameNow.decodeSetup {q seq : Nat} (h : d0.SameNow d) : d0.SameNow (Machine.decodeSetup q seq d) := by
  unfold Machine.decodeSetup
  refine h.onCmd (fun _ => .ite h.reject ?_)
  split
  · exact h.finish
  · exact .ite h.reject h.setDctx.setReg.setReg.setReg.setReg.setReg.succeed

theorem Dev.SameNow.decodeResetCmd {q seq : Nat} (h : d0.SameNow d) :
    d0.SameNow (Machine.decodeResetCmd q seq d) :=
  h.onCmd (fun _ => h.withTail (.succeed (.ite h.ctxReset h)))

/-! ### Ingest and decoding -/

theorem Dev.SameNow.ingestRegs (h : d0.SameNow d) : d0.SameNow d.ingestRegs := h.setReg.setReg

theorem Dev.SameNow.ethCtrl {p : Nat} {v : Word} (h : d0.SameNow d) : d0.SameNow (Machine.ethCtrl p v d) :=
  .ite h (.ingestRegs (.ite h.setReg h.setReg.put.put))

theorem Dev.SameNow.ethLinkLost {p : Nat} (h : d0.SameNow d) : d0.SameNow (Machine.ethLinkLost p d) :=
  .ite h h.put.put.put.info

theorem Dev.SameNow.ethLinkUp {p : Nat} (h : d0.SameNow d) : d0.SameNow (Machine.ethLinkUp p d) := .ite h h.put.put

theorem Dev.SameNow.flowApply {i : Nat} {v : Word} (h : d0.SameNow d) : d0.SameNow (Machine.flowApply i v d) :=
  .ite h (.ite h.setReg h.setReg.withNet)

theorem Dev.SameNow.stOpen {c : Nat} {x : Dev × Mem} (h : d0.SameNow x.1) :
    d0.SameNow (Machine.stOpen c x).1.1 := by
  unfold Machine.stOpen
  dsimp only
  split
  · refine .ite_fst_fst h.makeRoom.unsupported.noSlot (.ite_fst_fst h.makeRoom.noSlot ?_)
    split
    · exact h.makeRoom.setDctx
    · exact h.makeRoom.noSlot
  · exact h.makeRoom.unsupported.noSlot

theorem Dev.SameNow.toResync {c : Nat} (h : d0.SameNow d) : d0.SameNow (d.toResync c) :=
  .ite h.discardFrames.put.info h

theorem Dev.SameNow.countSei {c : Nat} {sei : Option (List Byte)} (h : d0.SameNow d) :
    d0.SameNow (d.countSei c sei) := by
  unfold Dev.countSei
  split
  · exact h
  · exact .ite h.bump h.bump

theorem Dev.SameNow.deliverFrame {c : Nat} {f : OpenFrame} {pm : Postmark} {capt : Option Nat} {gap : Bool}
    {x : Dev × Mem}
    (h : d0.SameNow x.1) :
    d0.SameNow (Machine.deliverFrame c f pm capt gap x).1 := by
  unfold Machine.deliverFrame
  refine .ite_fst ?_ (.deliver (.setLatch (.setReg (.put (.ite h.setCtx.bump h.setCtx.bump)))))
  split
  · exact .ite_fst (.pictureDone (.setDctx (.put (.setLatch (.setReg (.put (.ite h.setCtx.bump h.setCtx.bump)))))))
      (.setDctx (.setLatch (.setReg (.put (.ite h.setCtx.bump h.setCtx.bump)))))
  · exact .setLatch (.setReg (.put (.ite h.setCtx.bump h.setCtx.bump)))

theorem Dev.SameNow.finishFrame {c : Nat} {f : OpenFrame} {x : Dev × Mem} (h : d0.SameNow x.1) :
    d0.SameNow (Machine.finishFrame c f x).1 :=
  .ite_fst h.endFrame.bump.toResync (.ite_fst h.endFrame.bump (.ite_fst (.ite h.countSei.endFrame.bump
    h.countSei.endFrame.bump.toResync) (.deliverFrame (h.countSei))))

theorem Dev.SameNow.emitFrames {c n : Nat} {x : Dev × Mem} (h : d0.SameNow x.1) :
    d0.SameNow (Machine.emitFrames c n x).1 := by
  induction n generalizing x with
  | zero => exact h
  | succ n ih =>
    unfold Machine.emitFrames
    split
    · exact .ite_fst (ih (.finishFrame h.setCtx)) h
    · exact h

theorem Dev.SameNow.updFrame {c ts : Nat} {f : OpenFrame → OpenFrame} (h : d0.SameNow d) :
    d0.SameNow (d.updFrame c ts f) :=
  h.setCtx

theorem Dev.SameNow.closeFrame {c ts : Nat} {x : Dev × Mem} (h : d0.SameNow x.1) :
    d0.SameNow (Machine.closeFrame c ts x).1 :=
  .emitFrames (h.updFrame)

theorem Dev.SameNow.openFrame {c ts : Nat} {x : Dev × Mem} (h : d0.SameNow x.1) :
    d0.SameNow (Machine.openFrame c ts x).1 := by
  unfold Machine.openFrame
  extract_lets opened oldest y st
  have hy : d0.SameNow y.1 := by
    refine .ite_fst ?_ h
    cases oldest with
    | none => exact h
    | some f => exact h.closeFrame
  have hs : d0.SameNow (if st then Machine.stOpen c y else (y, none)).1.1 := .ite_fst_fst hy.stOpen hy
  exact .ite_fst hs.setCtx hs.setCtx

theorem Dev.SameNow.dropFrame {c : Nat} {f : OpenFrame} {count : FldDesc} {x : Dev × Mem} (h : d0.SameNow x.1) :
    d0.SameNow (Machine.dropFrame c f count x).1 :=
  .emitFrames (h.setCtx.endFrame.bump.toResync)

theorem Dev.SameNow.legAlive {c leg : Nat} (h : d0.SameNow d) : d0.SameNow (d.legAlive c leg) :=
  .ite h.setCtx.put.info h.setCtx.put

theorem Dev.SameNow.joinFrame {c leg : Nat} {p : RtpPacket} {x : Dev × Mem} (h : d0.SameNow x.1) :
    d0.SameNow (Machine.joinFrame c leg p x).1 := by
  unfold Machine.joinFrame
  split
  · exact h
  · refine .ite_fst h.dropFrame (.ite_fst (.closeFrame ?_) ?_)
    · split
      · exact h.updFrame.setCtx
      · exact h.updFrame
    · split
      · exact h.updFrame.setCtx
      · exact h.updFrame

theorem Dev.SameNow.rtpPacket {c leg : Nat} {p : RtpPacket} {x : Dev × Mem} (h : d0.SameNow x.1) :
    d0.SameNow (Machine.rtpPacket c leg p x).1 := by
  unfold Machine.rtpPacket
  refine .ite_fst h.legAlive.bumpWrap ?_
  dsimp only
  split
  · exact .bumpWrap (.ite h.legAlive.updFrame h.legAlive)
  · exact .ite_fst h.legAlive.bumpWrap (.ite_fst h.legAlive.bumpWrap (.joinFrame (.ite_fst (.openFrame (h.legAlive))
      h.legAlive)))

theorem Dev.SameNow.udpFrame {port : Nat} {u : UdpInfo} {f : EthFrame} {x : Dev × Mem} (h : d0.SameNow x.1) :
    d0.SameNow (Machine.udpFrame port u f x).1 := by
  unfold Machine.udpFrame
  refine .ite_fst h.bump.withNet ?_
  split
  · exact h.bump
  · dsimp only
    split
    · exact h.bump.withNet.bumpWrap.withNet
    · exact h.bumpWrap
    · refine .ite_fst ?_ h.bumpWrap.bump
      split
      · exact .rtpPacket (h.bumpWrap)
      · exact h.bumpWrap.bumpWrap

theorem Dev.SameNow.ethFrame {port size : Nat} {f : EthFrame} {x : Dev × Mem} (h : d0.SameNow x.1) :
    d0.SameNow (Machine.ethFrame port size f x).1 := by
  unfold Machine.ethFrame
  refine .ite_fst h (.ite_fst h.bump ?_)
  split
  · exact h.bump
  · exact h.bump.bump
  · exact h.bump.bump.withNet
  · exact h.bump.bump
  · exact .udpFrame (h.bump)

theorem Dev.SameNow.holdExpiry {c ts : Nat} {x : Dev × Mem} (h : d0.SameNow x.1) :
    d0.SameNow (Machine.holdExpiry c ts x).1 := by
  unfold Machine.holdExpiry
  split
  · exact h
  · exact .ite_fst h.closeFrame h

theorem Dev.SameNow.assemblyTimeout {c ts : Nat} {x : Dev × Mem} (h : d0.SameNow x.1) :
    d0.SameNow (Machine.assemblyTimeout c ts x).1 := by
  unfold Machine.assemblyTimeout
  split
  · exact h
  · exact .ite_fst h.dropFrame h

theorem Dev.SameNow.legInactive {c leg : Nat} (h : d0.SameNow d) : d0.SameNow (Machine.legInactive c leg d) :=
  .ite h (.ite h.put.setCtx.info h.put)

theorem Dev.SameNow.openCtx {c : Cmd} (h : d0.SameNow d) : d0.SameNow (d.openCtx c) :=
  .decRegs (.ingestRegs (.setReg (.setDctx (.setReg (.setCtx (h.setReg.setReg.setReg.setReg.foldl (fun _ _ k =>
    k.setReg)))))))

theorem Dev.SameNow.streamOpen {q seq : Nat} (h : d0.SameNow d) : d0.SameNow (Machine.streamOpen q seq d) := by
  unfold Machine.streamOpen
  refine h.onCmd (fun _ => .ite h.finish (.ite h.finish ?_))
  split
  · exact h.finish
  · exact .ite h.reject (.ite h.setReg.setReg.info.finish h.openCtx.succeed)

theorem Dev.SameNow.closeCtx {c : Nat} (h : d0.SameNow d) : d0.SameNow (d.closeCtx c) :=
  h.discardFrames.setCtx.setReg.withDec.setDctx.setReg.setReg.ingestRegs.decRegs

theorem Dev.SameNow.streamClose {q seq : Nat} (h : d0.SameNow d) : d0.SameNow (Machine.streamClose q seq d) :=
  h.onCmd (fun _ => h.withTail (.ite h.succeed h.closeCtx.succeed))

theorem Dev.SameNow.setMembers {p : Nat} {ms : List Membership} (h : d0.SameNow d) :
    d0.SameNow (d.setMembers p ms) :=
  h.withNet

theorem Dev.SameNow.mcastJoin {q seq : Nat} (h : d0.SameNow d) : d0.SameNow (Machine.mcastJoin q seq d) := by
  unfold Machine.mcastJoin
  refine h.onCmd (fun _ => ?_)
  split
  · exact h.bad
  · exact h.withTail (h.withHost (fun _ => .ite h.reject (.succeed (h.foldl (fun _ _ k => .ite k k.setMembers)))))

theorem Dev.SameNow.mcastLeave {q seq : Nat} (h : d0.SameNow d) : d0.SameNow (Machine.mcastLeave q seq d) := by
  unfold Machine.mcastLeave
  refine h.onCmd (fun _ => ?_)
  split
  · exact h.bad
  · exact h.withTail (h.withHost (fun _ => .succeed (h.foldl (fun _ _ k => k.setMembers))))

/-! ### Layers, commits and canvases -/

theorem Dev.SameNow.setFrame {hd n : Nat} {f : FrameSt} (h : d0.SameNow d) : d0.SameNow (d.setFrame hd n f) :=
  h.setHead

theorem Dev.SameNow.setCommits {cs : List Commit} (h : d0.SameNow d) : d0.SameNow (d.setCommits cs) := h.withLay

theorem Dev.SameNow.dropCommit {q seq : Nat} (h : d0.SameNow d) : d0.SameNow (d.dropCommit q seq) := h.setCommits

theorem Dev.SameNow.updCommit {q seq : Nat} {f : Commit → Commit} (h : d0.SameNow d) :
    d0.SameNow (d.updCommit q seq f) :=
  h.setCommits

theorem Dev.SameNow.grpPending (h : d0.SameNow d) : d0.SameNow d.grpPending := h.foldl (fun _ _ k => k.put)

theorem Dev.SameNow.commitQueue {q seq : Nat} (h : d0.SameNow d) : d0.SameNow (Machine.commitQueue q seq d) := by
  unfold Machine.commitQueue
  refine h.onCmd (fun _ => ?_)
  split
  · exact h.bad
  · exact h.withTail (.ite h h.setCommits.grpPending)

theorem Dev.SameNow.writeEntries {es : List (List Byte)} (h : d0.SameNow d) : d0.SameNow (d.writeEntries es) :=
  h.foldl (fun _ _ k => k.setShadow)

theorem Dev.SameNow.runValidation {c : Commit} {es : List (List Byte)} (h : d0.SameNow d) :
    d0.SameNow (Machine.runValidation d c es).1 := by
  unfold Machine.runValidation
  dsimp only
  split
  · exact h
  · split <;> exact .ite h h.writeEntries

theorem Dev.SameNow.commitSnapshot {q seq : Nat} (h : d0.SameNow d) :
    d0.SameNow (Machine.commitSnapshot q seq d) := by
  unfold Machine.commitSnapshot
  split
  · exact h
  extract_lets go
  have hgo : ∀ es, d0.SameNow (go es d) := fun _ => h.runValidation.updCommit
  clear_value go
  refine .ite h ?_
  split
  · exact hgo _
  · exact h
  · refine .ite h (.ite (hgo _) ?_)
    split
    · exact .ite h h.finish.dropCommit
    · exact h.finish.dropCommit
    · exact hgo _

theorem Dev.SameNow.commitValidate {q seq : Nat} (h : d0.SameNow d) :
    d0.SameNow (Machine.commitValidate q seq d) :=
  .ite h (.ite h.commitSnapshot.mirror h.commitSnapshot)

theorem Dev.SameNow.deadLetter {seq : Nat} {v : Verdict} (h : d0.SameNow d) : d0.SameNow (d.deadLetter seq v) :=
  .ite h.setReg h

theorem Dev.SameNow.send {m : Nat} {msg : PaentMsg} (h : d0.SameNow d) : d0.SameNow (d.send m msg) := h.withSys

theorem Dev.SameNow.settleReady {q seq : Nat} (h : d0.SameNow d) : d0.SameNow (d.settleReady q seq) := by
  unfold Dev.settleReady
  split
  · exact .ite h (.ite h.setPair.reply h.setPair.diverged)
  · exact h

theorem Dev.SameNow.commitValidated {q seq : Nat} (h : d0.SameNow d) :
    d0.SameNow (Machine.commitValidated q seq d) := by
  unfold Machine.commitValidated
  split
  · exact h
  · split
    · refine .ite h (.ite (.ite h.send.updCommit h.send.deadLetter.dropCommit.grpPending) (.ite h.finish.dropCommit
        (.ite h.deadLetter.finish.dropCommit.grpPending ?_)))
      dsimp only
      split
      · exact h
      · exact .ite h.finish.dropCommit.grpPending h.updCommit.mirror.settleReady
    · exact h

theorem Dev.SameNow.leaseRegs {e : Nat} (h : d0.SameNow d) : d0.SameNow (d.leaseRegs e) := by
  unfold Dev.leaseRegs
  refine .put (.put ?_)
  split
  · exact h.setReg.setReg
  · exact h.setReg.setReg

theorem Dev.SameNow.setLeases {t : Tab LeaseEntry} {e : Nat} (h : d0.SameNow d) : d0.SameNow (d.setLeases t e) :=
  h.withProt.leaseRegs

theorem Dev.SameNow.leaseAdd {r : Nat × Nat} (h : d0.SameNow d) : d0.SameNow (d.leaseAdd r) := by
  unfold Dev.leaseAdd
  split
  · exact h.setLeases.withLay
  · split
    · exact h.setLeases
    · exact h

theorem Dev.SameNow.leaseDropHolder {q seq : Nat} {r : Nat × Nat} (h : d0.SameNow d) :
    d0.SameNow (d.leaseDropHolder q seq r) := by
  unfold Dev.leaseDropHolder
  split
  · exact h
  · exact .ite h.setLeases.withLay h.setLeases

theorem Dev.SameNow.leaseEnd {e : Nat} (h : d0.SameNow d) : d0.SameNow (Machine.leaseEnd e d) := by
  unfold Machine.leaseEnd
  split
  · exact .ite h h.withLay.setLeases.flushHeld
  · exact h

theorem Dev.SameNow.toManager {q seq : Nat} {c : Cmd} (h : d0.SameNow d) : d0.SameNow (d.toManager q seq c) :=
  .ite h.finish h.updCmd.withHostSt

theorem Dev.SameNow.canvasCommit {q seq : Nat} (h : d0.SameNow d) : d0.SameNow (Machine.canvasCommit q seq d) := by
  unfold Machine.canvasCommit
  refine h.onCmd (fun _ => ?_)
  split
  · exact h.bad
  · exact h.withTail (.ite h (.ite h.toManager (.ite h (.ite (.ite h.reject (h.withLay.foldl (fun _ _ k => k.send)))
      (h.withHost (fun _ => .ite h.reject (h.withLay.foldl (fun _ _ k => k.send))))))))

theorem Dev.SameNow.canvasJoin {q seq : Nat} {others : List CanvasMember} (h : d0.SameNow d) :
    d0.SameNow (Machine.canvasJoin q seq others d) := by
  unfold Machine.canvasJoin
  refine h.onCmd (fun _ => ?_)
  split
  · exact h.bad
  · refine h.withTail (.ite h ?_)
    split
    · exact h.finish
    · split
      · exact h.finish
      · dsimp only
        split
        · exact h.finish
        · exact .succeed (.withLay (h.foldl (fun _ _ k => .ite k.setReg.setReg k.setReg.setReg)))

theorem Dev.SameNow.canvasPrepare {p : CanvasPrepare} (h : d0.SameNow d) :
    d0.SameNow (Machine.canvasPrepare p d) :=
  .ite h (.ite h.send h.setCommits.withHostSt.commitValidate.commitValidated.grpPending)

theorem Dev.SameNow.updRun {q seq : Nat} {f : CanvasRun → CanvasRun} (h : d0.SameNow d) :
    d0.SameNow (d.updRun q seq f) :=
  h.withLay

theorem Dev.SameNow.endRun {q seq : Nat} (h : d0.SameNow d) : d0.SameNow (d.endRun q seq) := h.withLay

theorem Dev.SameNow.canvasRecord {q seq cv n : Nat} (h : d0.SameNow d) : d0.SameNow (d.canvasRecord q seq cv n) :=
  h.withLay

theorem Dev.SameNow.canvasDone {r : CanvasRun} {status reason result detail : Nat} (h : d0.SameNow d) :
    d0.SameNow (d.canvasDone r status reason result detail) :=
  .ite h.endRun.finish.canvasRecord.flushHeld h.endRun.finish

theorem Dev.SameNow.canvasAccept {q seq module lead : Nat} {o : FwdOutcome} (h : d0.SameNow d) :
    d0.SameNow (Machine.canvasAccept q seq module lead o d) := by
  unfold Machine.canvasAccept
  split
  · exact h
  · exact .ite h (.ite (.canvasDone (h.foldl (fun _ _ k => k.send))) (.ite h.updRun (.ite (.canvasDone (h.foldl (fun _
      _ k => k.send))) (h.updRun.foldl (fun _ _ k => k.send)))))

theorem Dev.SameNow.canvasApply {q seq n ta : Nat} (h : d0.SameNow d) :
    d0.SameNow (Machine.canvasApply q seq n ta d) := by
  unfold Machine.canvasApply
  split
  · exact h
  · exact .ite h h.updCommit

theorem Dev.SameNow.canvasDrop {q seq : Nat} (h : d0.SameNow d) : d0.SameNow (Machine.canvasDrop q seq d) := by
  unfold Machine.canvasDrop
  split
  · exact .ite h.dropCommit.grpPending h
  · exact h

theorem Dev.SameNow.canvasReport {q seq module layers : Nat} {late : Bool} (h : d0.SameNow d) :
    d0.SameNow (Machine.canvasReport q seq module layers late d) := by
  unfold Machine.canvasReport
  split
  · exact h
  · exact .ite h (.ite h.updRun h.canvasDone)

theorem Dev.SameNow.canvasMemberTimeout {q seq module : Nat} (h : d0.SameNow d) :
    d0.SameNow (Machine.canvasMemberTimeout q seq module d) := by
  unfold Machine.canvasMemberTimeout
  split
  · exact h
  · exact .ite h (.canvasDone (h.foldl (fun _ _ k => k.send)))

theorem Dev.SameNow.canvasReadyTimeout {q seq : Nat} (h : d0.SameNow d) :
    d0.SameNow (Machine.canvasReadyTimeout q seq d) := by
  unfold Machine.canvasReadyTimeout
  split
  · exact .ite h.dropCommit.info.grpPending h
  · exact h

theorem Dev.SameNow.canvasReportTimeout {q seq module : Nat} (h : d0.SameNow d) :
    d0.SameNow (Machine.canvasReportTimeout q seq module d) := by
  unfold Machine.canvasReportTimeout
  split
  · exact h
  · exact .ite h h.canvasDone

theorem Dev.SameNow.canvasTransit {q seq : Nat} (h : d0.SameNow d) :
    d0.SameNow (Machine.canvasTransit q seq d) := by
  unfold Machine.canvasTransit
  refine h.onCmd (fun _ => ?_)
  split
  · exact h.bad
  · exact h.withTail (.ite h.toManager (.ite h.finish h.withLay.succeed))

/-! ### Encoding -/

theorem Dev.SameNow.setEnc {c : Nat} {x : EncCtx} (h : d0.SameNow d) : d0.SameNow (d.setEnc c x) := h.withEnc

theorem Dev.SameNow.encRegs (h : d0.SameNow d) : d0.SameNow d.encRegs := h.foldl (fun _ _ k => k.setReg.setReg.put)

theorem Dev.SameNow.encDispatch {e : Nat} (h : d0.SameNow d) : d0.SameNow (d.encDispatch e) := by
  unfold Dev.encDispatch
  refine .ite h.encRegs ?_
  dsimp only
  split
  · exact h.put.encRegs
  · exact h.withEnc.put.put.encRegs

theorem Dev.SameNow.encUnlease {c : Nat} (h : d0.SameNow d) : d0.SameNow (d.encUnlease c) := by
  unfold Dev.encUnlease
  split
  · exact h
  · exact h.setEnc.foldl (fun _ _ k => k.dropLease)

theorem Dev.SameNow.encStop {c : Nat} (h : d0.SameNow d) : d0.SameNow (d.encStop c) := by
  unfold Dev.encStop
  refine h.foldl (fun _ _ k => ?_)
  split
  · exact .ite k.withEnc.put k
  · exact k

theorem Dev.SameNow.encBegin {c : Nat} {o : EncOpen} {n start key : Nat} (h : d0.SameNow d) :
    d0.SameNow (d.encBegin c o n start key) :=
  h.updSlot.setEnc.put

theorem Dev.SameNow.encLost {hd : Nat} (h : d0.SameNow d) : d0.SameNow (d.encLost hd) := by
  unfold Dev.encLost
  refine h.foldl (fun _ _ k => ?_)
  split
  · exact k
  · exact .ite k k.encStop.encUnlease.put.put.info

theorem Dev.SameNow.encStart {hd n start key : Nat} (h : d0.SameNow d) :
    d0.SameNow (d.encStart hd n start key) := by
  unfold Dev.encStart
  refine h.foldl (fun _ _ k => ?_)
  split
  · exact k
  · exact .ite k (.ite k.setEnc.put.put.encBegin (.ite k.encBegin k))

theorem Dev.SameNow.encRing {c n : Nat} {o : EncOpen} {nals : List (List Byte)} {x : Dev × Mem}
    (h : d0.SameNow x.1) :
    d0.SameNow (Machine.encRing c n o nals x).1 :=
  .ite_fst (.ite h.setEnc h.setEnc.bump) h.put

theorem Dev.SameNow.encSend {c : Nat} {o : EncOpen} {f : EncFrame} {nals : List (List Byte)} {last : Bool}
    (h : d0.SameNow d) :
    d0.SameNow (d.encSend c o f nals last) :=
  .ite h (.ite h.setEnc h.setEnc.withEnc)

theorem Dev.SameNow.updEnc {c n : Nat} {f : EncFrame → EncFrame} (h : d0.SameNow d) :
    d0.SameNow (d.updEnc c n f) :=
  h.setEnc

theorem Dev.SameNow.encFrameDone {c : Nat} {o : EncOpen} {f : EncFrame} {pm : Postmark} {lateLines : Bool}
    {x : Dev × Mem}
    (h : d0.SameNow x.1) :
    d0.SameNow (Machine.encFrameDone c o f pm lateLines x).1 :=
  .share (fun l0 => .dropLease (.ite (.put (.ite l0 l0.put)) (.ite l0 l0.put)))
    h.encRing.encSend.setEnc.setReg.bump.setReg

theorem Dev.SameNow.encRow {c : Nat} {o : EncOpen} {n row : Nat} {nals : List (List Byte)} {slice : List Byte}
    {f' : EncFrame → EncFrame} {x : Dev × Mem}
    (h : d0.SameNow x.1) :
    d0.SameNow (Machine.encRow c o n row nals slice f' x).1 := by
  unfold Machine.encRow
  dsimp only
  split
  · exact .encRing (h.updEnc)
  · exact .share (fun l0 => .ite_fst (.encFrameDone l0) l0) (.encSend (.encRing (h.updEnc)))

theorem Dev.SameNow.encSkipRows {c n : Nat} {o : EncOpen} {rs : List Nat} {bs : List (List Byte)} {x : Dev × Mem}
    (h : d0.SameNow x.1) :
    d0.SameNow (Machine.encSkipRows c o n rs bs x).1 := by
  induction rs generalizing bs x with
  | nil => cases bs <;> exact h
  | cons r rs ih =>
    cases bs with
    | nil => exact h
    | cons b bs => exact ih h.encRow

theorem Dev.SameNow.encodeRowReady {c n row : Nat} {skips : List (List Byte)} {x : Dev × Mem} (h : d0.SameNow x.1) :
    d0.SameNow (Machine.encodeRowReady c n row skips x).1 := by
  unfold Machine.encodeRowReady
  dsimp only
  split
  · refine .ite_fst h (.encDispatch ?_)
    split
    · exact .encSkipRows (.ite h.updEnc h.updEnc.bump.put)
    · exact h.updEnc
  · exact h

theorem Dev.SameNow.encodeRowCoded {e : Nat} {r : EncRow} {x : Dev × Mem} (h : d0.SameNow x.1) :
    d0.SameNow (Machine.encodeRowCoded e r x).1 := by
  unfold Machine.encodeRowCoded
  dsimp only
  split
  · exact h
  split
  · refine .ite_fst h (.encDispatch (.encRow ?_))
    exact .share (fun l => .ite l.setEnc l) (.share (fun l => .ite l.bump l) h.withEnc.put)
  · exact h.withEnc.encDispatch

theorem Dev.SameNow.encEngineFail {e : Nat} (h : d0.SameNow d) : d0.SameNow (Machine.encEngineFail e d) := by
  unfold Machine.encEngineFail
  refine .ite h (.encRegs (h.put.put.degraded.withEnc.foldl (fun _ _ k => ?_)))
  split
  · exact k
  · dsimp only
    split
    · exact k.encUnlease.put.setEnc
    · exact k.encUnlease.put.put.put

theorem Dev.SameNow.encodeEngineTimeout {e : Nat} (h : d0.SameNow d) :
    d0.SameNow (Machine.encodeEngineTimeout e d) := by
  unfold Machine.encodeEngineTimeout
  split
  · exact .ite h.encEngineFail h
  · exact h

theorem Dev.SameNow.encodeOpen {q seq : Nat} (h : d0.SameNow d) : d0.SameNow (Machine.encodeOpen q seq d) := by
  unfold Machine.encodeOpen
  refine h.onCmd (fun _ => h.withTail (h.withHost (fun _ => .ite h.reject ?_)))
  split
  · exact h.finish
  · split
    · exact h.finish
    · refine .ite h.reject (.ite h.reject ?_)
      dsimp only
      split
      · exact h.setReg.info.refuse
      · exact h.setEnc.setReg.setReg.setReg.encRegs.succeed

theorem Dev.SameNow.encodeClose {q seq : Nat} (h : d0.SameNow d) : d0.SameNow (Machine.encodeClose q seq d) :=
  h.onCmd (fun _ => h.withTail (.ite h.succeed h.encStop.encUnlease.setEnc.setReg.setReg.encDispatch.succeed))

theorem Dev.SameNow.encodeRefresh {q seq : Nat} (h : d0.SameNow d) : d0.SameNow (Machine.encodeRefresh q seq d) :=
  h.onCmd (fun _ => .ite h.bad (h.withTail (.succeed (.ite h h.setEnc))))

/-! ### Freshness and latching -/

theorem Dev.SameNow.cause {i : Nat} (h : d0.SameNow d) : d0.SameNow (d.cause i) := h.put

theorem Dev.SameNow.watchViews {f : Dev → Dev} (_h : d0.SameNow d) (hf : d0.SameNow (f d)) :
    d0.SameNow (d.watchViews f) := .ite hf.cause hf

theorem Dev.SameNow.setHeadState {hd st cause : Nat} (h : d0.SameNow d) :
    d0.SameNow (d.setHeadState hd st cause) :=
  .ite h (.ite h.put.put.info.cause h.put.put.info)

theorem Dev.SameNow.setTaster {k : Nat} {v : TasterSt} (h : d0.SameNow d) : d0.SameNow (d.setTaster k v) :=
  h.withComp

theorem Dev.SameNow.setMismatch {k : Nat} {w : List Nat} {v : Bool} (h : d0.SameNow d) :
    d0.SameNow (d.setMismatch k w v) :=
  .ite h (h.watchViews (.share (fun l0 => .ite (.notify (.ite l0.cause l0)) (.ite l0.cause l0)) (.ite h.put.info.put
    h.put.info)))

theorem Dev.SameNow.tasterCompare {k n : Nat} (h : d0.SameNow d) : d0.SameNow (Machine.tasterCompare k n d) := by
  unfold Machine.tasterCompare
  dsimp only
  split
  · exact h
  · exact .ite h (.ite h.setTaster (.share (fun l0 => .ite l0.setMismatch (.ite l0.setMismatch (.ite l0.setMismatch
      l0))) h.setTaster.setReg.setReg.put))

theorem Dev.SameNow.sspRead {a : Nat} (h : d0.SameNow d) : d0.SameNow (Machine.sspRead a d) := h.bump.withComp

theorem Dev.SameNow.sspBankSwitch (h : d0.SameNow d) : d0.SameNow (Machine.sspBankSwitch d) := h.withComp

theorem Dev.SameNow.imageTick (h : d0.SameNow d) : d0.SameNow (Machine.imageTick d) := .ite h h.withComp

theorem Dev.SameNow.imageTimeout (h : d0.SameNow d) : d0.SameNow (Machine.imageTimeout d) :=
  .ite h h.withComp.cause

/-! ### Heads and frames -/

theorem Dev.SameNow.canvasLatch {l : Nat} {w : List Nat} {p : Pool} {hd n : Nat} {m : ModeRow}
    {took : Option (Nat × PicSlot)}
    (h : d0.SameNow d) :
    d0.SameNow (d.canvasLatch l w p hd n m took) :=
  .ite h (.ite h.setLayerSt.put.skewed h.setLayerSt.put)

theorem Dev.SameNow.publish {l : Nat} {pm : Option Postmark} {age : Option Int} {fresh : Nat} (h : d0.SameNow d) :
    d0.SameNow (d.publish l pm age fresh) := by
  unfold Dev.publish
  refine h.watchViews (.ite (.setLayerSt (.setReg ?_)) (.info (.put (.setLayerSt (.setReg ?_)))))
  · split
    · exact h.setReg.setLatch
    · exact h
  · split
    · exact h.setReg.setLatch
    · exact h

theorem Dev.SameNow.latchLayer {hd n : Nat} {f : FrameSt} {l : Nat} {w : List Nat} (h : d0.SameNow d) :
    d0.SameNow (d.latchLayer hd n f l w) := by
  unfold Dev.latchLayer
  extract_lets m v top bot put late stale missing
  have hput : ∀ {e s}, d0.SameNow e → d0.SameNow (put e s) := fun {e s} k => by
    change d0.SameNow (match (e.head hd).frame? n with | none => e | some f => _)
    split
    · exact k
    · exact k.setFrame
  have hmissing : ∀ {e}, d0.SameNow e → d0.SameNow (missing e) := fun k => hput k.publish
  clear_value put missing
  refine .ite (hmissing h) ?_
  split
  · exact hput h.publish
  · split
    · exact hmissing h
    · exact .ite (hmissing h) (hput h.publish)
  · exact hput h.publish
  · exact hput h.publish
  · split
    · exact hmissing h
    next p _ =>
    extract_lets took e
    have he : d0.SameNow e := h.canvasLatch
    clear_value e took
    rcases took with _ | ⟨i, s⟩
    · exact hmissing he
    · dsimp only
      split
      · exact hmissing he
      · exact hput he.updSlot.publish

theorem Dev.SameNow.noteMargin {hd n : Nat} (h : d0.SameNow d) : d0.SameNow (d.noteMargin hd n) := by
  unfold Dev.noteMargin
  split
  · exact h
  · exact h.setHead.setFrame

theorem Dev.SameNow.endLeases {hd n : Nat} (h : d0.SameNow d) : d0.SameNow (d.endLeases hd n) := by
  unfold Dev.endLeases
  split
  · exact h
  · refine h.setFrame.foldl (fun _ _ k => ?_)
    split
    · exact k.dropLease
    · exact k

theorem Dev.SameNow.lineRelease {hd n line : Nat} (h : d0.SameNow d) :
    d0.SameNow (Machine.lineRelease hd n line d) := by
  unfold Machine.lineRelease
  split
  · exact h
  · refine .ite h ?_
    dsimp only
    split
    · exact h.foldl (fun _ _ k => k.latchLayer)
    · exact .share (fun l0 => .noteMargin (.ite l0.bump.put l0)) (.setHead (h.foldl (fun _ _ k => k.latchLayer)))

theorem Dev.SameNow.ladleMeets {m : Mem} {hd n line : Nat} {s : Scene} (h : d0.SameNow d) :
    d0.SameNow (d.ladleMeets m hd n line s) := by
  unfold Dev.ladleMeets
  split
  · refine .ite h (.ite ?_ h.countPoison.contained)
    split
    · exact h.countPoison.contained
    · exact .share (fun l0 => l0.watchViews l0.put.info) h.countPoison.contained.setFrame
  · exact h

theorem Dev.SameNow.lineComposed {hd n line : Nat} {x : Dev × Mem} (h : d0.SameNow x.1) :
    d0.SameNow (Machine.lineComposed hd n line x).1 := by
  unfold Machine.lineComposed
  dsimp only
  split
  · exact h
  split
  · exact h
  have k : ∀ l : List Scene, d0.SameNow (l.foldl (fun d s => d.ladleMeets x.2 hd n line s) x.1) := fun _ =>
    h.foldl fun _ _ k => k.ladleMeets
  split
  · exact k _
  · exact (k _).setHead.endLeases

theorem Dev.SameNow.wbFinish {hd n : Nat} {f : FrameSt} {key addr ctrl : Nat} {x : Dev × Mem} (h : d0.SameNow x.1) :
    d0.SameNow (Machine.wbFinish hd n f key addr ctrl x).1 :=
  .ite_fst h.put.setHead h.put.setHead.put.put

theorem Dev.SameNow.wbFlush {g n k : Nat} {x : Dev × Mem} (h : d0.SameNow x.1) :
    d0.SameNow (Machine.wbFlush g n k x).1 := by
  induction k generalizing x with
  | zero => exact h
  | succ k ih =>
    unfold Machine.wbFlush
    split
    · exact h
    split
    · exact h
    dsimp only
    split
    · exact h
    · exact .ite_fst (.wbFinish h.put.setFrame) (ih (x := (_, _)) h.put)

theorem Dev.SameNow.wbTake {hd n : Nat} (h : d0.SameNow d) : d0.SameNow (Machine.wbTake hd n d) := by
  unfold Machine.wbTake
  split
  · exact h
  · refine .ite h ?_
    dsimp only
    split
    · exact h.bump
    · exact h.setHead.setFrame.put.put.setReg.encStart

theorem Dev.SameNow.lineRead {hd n line : Nat} {ecc : Bool} {z : Dev × Mem} (h : d0.SameNow z.1) :
    d0.SameNow (Machine.lineRead hd n line ecc z).1 := by
  unfold Machine.lineRead
  dsimp only
  split
  · exact h
  · exact .ite_fst h (.wbFlush (.endLeases (.noteMargin (.ite h.setHead (.cause (.setReg (.ite
      h.setHead.bump.put.put.bump h.setHead.bump.put)))))))

theorem Dev.SameNow.frameEnd {hd n : Nat} {f : FrameSt} (h : d0.SameNow d) : d0.SameNow (d.frameEnd hd n f) := by
  unfold Dev.frameEnd
  refine h.watchViews (.foldl (.setHead (.put ?_)) (fun _ _ k => .share (fun l1 => .ite (.ite l1.put l1) (.ite l1.put
    l1)) k.setLayerSt))
  split
  · exact h
  · exact h.info

theorem Dev.SameNow.endHolds {hd n : Nat} {m : ModeRow} (h : d0.SameNow d) : d0.SameNow (d.endHolds hd n m) :=
  h.foldl (fun _ _ k => k.endHold)

theorem Dev.SameNow.blankHeld {g : Nat} (h : d0.SameNow d) : d0.SameNow (d.blankHeld g) := h.withLay

/-! ### Clock sync -/

theorem Dev.SameNow.wtrBit (h : d0.SameNow d) : d0.SameNow d.wtrBit := h.put

theorem Dev.SameNow.enterStandby (h : d0.SameNow d) : d0.SameNow d.enterStandby := h.put.put.setPair.wtrBit

theorem Dev.SameNow.syncCheck (h : d0.SameNow d) : d0.SameNow d.syncCheck :=
  .ite h.put (.ite h.put.setPair.enterStandby h.put.setPair)

theorem Dev.SameNow.syncBoundary {g n : Nat} (h : d0.SameNow d) : d0.SameNow (d.syncBoundary g n) :=
  .syncCheck (.ite h.diverged h)

/-! ### Frame boundaries -/

theorem Dev.SameNow.groupRegs {g : Nat} (h : d0.SameNow d) : d0.SameNow (d.groupRegs g) :=
  h.setReg.setReg.setReg.setReg

theorem Dev.SameNow.shedLayer {l reason : Nat} (h : d0.SameNow d) : d0.SameNow (d.shedLayer l reason) :=
  h.setLayerSt

theorem Dev.SameNow.shedGroup {g : Nat} {ls : Tab (List Nat)} (h : d0.SameNow d) :
    d0.SameNow (Machine.shedGroup g ls d) := by
  induction ls generalizing d with
  | nil => exact h
  | cons e r ih => exact .ite h (ih h.shedLayer)

theorem Dev.SameNow.applySheds {hd : Nat} (h : d0.SameNow d) : d0.SameNow (d.applySheds hd) := by
  unfold Dev.applySheds
  refine h.foldl (fun _ _ k => ?_)
  split
  · exact k
  · exact k.watchViews k.setLayerSt.put.put.publish

theorem Dev.SameNow.applyLayer {c : Commit} {l : Nat} {w : List Nat} (h : d0.SameNow d) :
    d0.SameNow (d.applyLayer c l w) := by
  unfold Dev.applyLayer
  refine .setReg (.setReg (.setReg (.ite (.ite (.put (.ite (.put (.put (.put (.ite (.setLayerSt (.setCurLd ?_))
    (.setLayerSt (.setCurLd ?_)))))) (.put (.put (.put (.put (.put (.ite (.setLayerSt (.setCurLd ?_)) (.setLayerSt
    (.setCurLd ?_)))))))))) (.ite (.put (.put (.put (.ite (.setLayerSt (.setCurLd ?_)) (.setLayerSt (.setCurLd
    ?_)))))) (.put (.put (.put (.put (.put (.ite (.setLayerSt (.setCurLd ?_)) (.setLayerSt (.setCurLd ?_))))))))))
    (.setReg (.ite (.setLayerSt (.setCurLd ?_)) (.setLayerSt (.setCurLd ?_)))))))
  · split
    · exact .ite (.put (.put (.put (.foldl (.ite (.leaseDropHolder (.ite h.leaseAdd h)) (.ite h.leaseAdd h)) (fun _ _
        k => k.put.put))))) (.foldl (.ite (.leaseDropHolder (.ite h.leaseAdd h)) (.ite h.leaseAdd h)) (fun _ _ k =>
        k.put.put))
    · exact .foldl (.ite (.leaseDropHolder (.ite h.leaseAdd h)) (.ite h.leaseAdd h)) (fun _ _ k => k.put.put)
  · split
    · exact .ite (.put (.put (.put (.foldl (.ite (.leaseDropHolder (.ite h.leaseAdd h)) (.ite h.leaseAdd h)) (fun _ _
        k => k.put.put))))) (.foldl (.ite (.leaseDropHolder (.ite h.leaseAdd h)) (.ite h.leaseAdd h)) (fun _ _ k =>
        k.put.put))
    · exact .foldl (.ite (.leaseDropHolder (.ite h.leaseAdd h)) (.ite h.leaseAdd h)) (fun _ _ k => k.put.put)
  · split
    · exact .ite (.put (.put (.put (.foldl (.ite (.leaseDropHolder (.ite h.leaseAdd h)) (.ite h.leaseAdd h)) (fun _ _
        k => k.put.put))))) (.foldl (.ite (.leaseDropHolder (.ite h.leaseAdd h)) (.ite h.leaseAdd h)) (fun _ _ k =>
        k.put.put))
    · exact .foldl (.ite (.leaseDropHolder (.ite h.leaseAdd h)) (.ite h.leaseAdd h)) (fun _ _ k => k.put.put)
  · split
    · exact .ite (.put (.put (.put (.foldl (.ite (.leaseDropHolder (.ite h.leaseAdd h)) (.ite h.leaseAdd h)) (fun _ _
        k => k.put.put))))) (.foldl (.ite (.leaseDropHolder (.ite h.leaseAdd h)) (.ite h.leaseAdd h)) (fun _ _ k =>
        k.put.put))
    · exact .foldl (.ite (.leaseDropHolder (.ite h.leaseAdd h)) (.ite h.leaseAdd h)) (fun _ _ k => k.put.put)
  · split
    · exact .ite (.put (.put (.put (.foldl (.ite (.leaseDropHolder (.ite h.leaseAdd h)) (.ite h.leaseAdd h)) (fun _ _
        k => k.put.put))))) (.foldl (.ite (.leaseDropHolder (.ite h.leaseAdd h)) (.ite h.leaseAdd h)) (fun _ _ k =>
        k.put.put))
    · exact .foldl (.ite (.leaseDropHolder (.ite h.leaseAdd h)) (.ite h.leaseAdd h)) (fun _ _ k => k.put.put)
  · split
    · exact .ite (.put (.put (.put (.foldl (.ite (.leaseDropHolder (.ite h.leaseAdd h)) (.ite h.leaseAdd h)) (fun _ _
        k => k.put.put))))) (.foldl (.ite (.leaseDropHolder (.ite h.leaseAdd h)) (.ite h.leaseAdd h)) (fun _ _ k =>
        k.put.put))
    · exact .foldl (.ite (.leaseDropHolder (.ite h.leaseAdd h)) (.ite h.leaseAdd h)) (fun _ _ k => k.put.put)
  · split
    · exact .ite (.put (.put (.put (.foldl (.ite (.leaseDropHolder (.ite h.leaseAdd h)) (.ite h.leaseAdd h)) (fun _ _
        k => k.put.put))))) (.foldl (.ite (.leaseDropHolder (.ite h.leaseAdd h)) (.ite h.leaseAdd h)) (fun _ _ k =>
        k.put.put))
    · exact .foldl (.ite (.leaseDropHolder (.ite h.leaseAdd h)) (.ite h.leaseAdd h)) (fun _ _ k => k.put.put)
  · split
    · exact .ite (.put (.put (.put (.foldl (.ite (.leaseDropHolder (.ite h.leaseAdd h)) (.ite h.leaseAdd h)) (fun _ _
        k => k.put.put))))) (.foldl (.ite (.leaseDropHolder (.ite h.leaseAdd h)) (.ite h.leaseAdd h)) (fun _ _ k =>
        k.put.put))
    · exact .foldl (.ite (.leaseDropHolder (.ite h.leaseAdd h)) (.ite h.leaseAdd h)) (fun _ _ k => k.put.put)
  · split
    · exact .ite (.put (.put (.put (.foldl (.ite (.leaseDropHolder (.ite h.leaseAdd h)) (.ite h.leaseAdd h)) (fun _ _
        k => k.put.put))))) (.foldl (.ite (.leaseDropHolder (.ite h.leaseAdd h)) (.ite h.leaseAdd h)) (fun _ _ k =>
        k.put.put))
    · exact .foldl (.ite (.leaseDropHolder (.ite h.leaseAdd h)) (.ite h.leaseAdd h)) (fun _ _ k => k.put.put)
  · split
    · exact .ite (.put (.put (.put (.foldl (.ite (.leaseDropHolder (.ite h.leaseAdd h)) (.ite h.leaseAdd h)) (fun _ _
        k => k.put.put))))) (.foldl (.ite (.leaseDropHolder (.ite h.leaseAdd h)) (.ite h.leaseAdd h)) (fun _ _ k =>
        k.put.put))
    · exact .foldl (.ite (.leaseDropHolder (.ite h.leaseAdd h)) (.ite h.leaseAdd h)) (fun _ _ k => k.put.put)

theorem Dev.SameNow.applySet {hd : Nat} {s : HeadSet} (h : d0.SameNow d) : d0.SameNow (d.applySet hd s) :=
  .ite h.setReg.setHead h.setReg.setHead.put.setReg

theorem Dev.SameNow.applyTaster {k : Nat} {w : List Nat} (h : d0.SameNow d) : d0.SameNow (d.applyTaster k w) :=
  .share (fun l0 => .ite l0.setTaster l0) (h.foldl (fun _ _ k => k.setReg))

theorem Dev.SameNow.applyHead {c : Commit} {hd : Nat} (h : d0.SameNow d) : d0.SameNow (d.applyHead c hd) := by
  unfold Dev.applyHead
  refine h.watchViews (?_)
  dsimp only
  split
  · exact .applySet (.foldl (h.foldl (fun _ _ k => k.applyLayer)) (fun _ _ k => k.applyTaster))
  · exact .foldl (h.foldl (fun _ _ k => k.applyLayer)) (fun _ _ k => k.applyTaster)

theorem Dev.SameNow.holdRecord {r : HeldRec} (h : d0.SameNow d) : d0.SameNow (d.holdRecord r) := h.withLay

theorem Dev.SameNow.commitApplied {c : Commit} {n s0 : Nat} (h : d0.SameNow d) :
    d0.SameNow (d.commitApplied c n s0) := by
  unfold Dev.commitApplied
  refine .grpPending ?_
  split
  · refine .send (.dropCommit (h.foldl (fun _ _ k => .groupRegs ?_)))
    split
    · exact k.withLay.mirror.setReg
    · exact k.withLay.mirror
  · refine .holdRecord (.succeed (.dropCommit (h.foldl (fun _ _ k => .groupRegs ?_))))
    split
    · exact k.withLay.mirror.setReg
    · exact k.withLay.mirror

theorem Dev.SameNow.changeMode {hd n : Nat} {s : HeadSet} (h : d0.SameNow d) : d0.SameNow (d.changeMode hd n s) :=
  .share (fun l0 => .ite l0.setHead (l0.setHead.withComp.watchViews l0.setHead.withComp.setHeadState))
    h.setReg.setReg.put

theorem Dev.SameNow.retarget {g : Nat} (h : d0.SameNow d) : d0.SameNow (d.retarget g) :=
  h.foldl (fun _ _ k => .ite k.finish.dropCommit.grpPending k.updCommit)

theorem Dev.SameNow.applyAt {hd n : Nat} {c : Commit} (h : d0.SameNow d) : d0.SameNow (d.applyAt hd n c) :=
  .share (fun l0 => .ite (.share (fun l1 => .ite (l1.foldl (fun _ _ k2 => k2.retarget)) l1)
    l0.updCommit.commitApplied) l0.updCommit) (.ite h.applyHead.changeMode (.ite h.applyHead.setHead h.applyHead))

theorem Dev.SameNow.pruneHolds (h : d0.SameNow d) : d0.SameNow d.pruneHolds := h.foldl (fun _ _ k => k.endHold)

theorem Dev.SameNow.beginFrame {hd n : Nat} (h : d0.SameNow d) : d0.SameNow (d.beginFrame hd n) :=
  .lineRelease (h.setHead.foldl (fun _ _ k => k.latchLayer))

theorem Dev.SameNow.headBoundary {hd n : Nat} (h : d0.SameNow d) : d0.SameNow (Machine.headBoundary hd n d) := by
  unfold Machine.headBoundary
  refine .ite h (.ite (.ite (.encLost (.watchViews (.setHead ?_) (.setHeadState (.setHead ?_)))) (.setHead ?_)) (.ite
    (.syncBoundary (.encLost (.pruneHolds (.foldl (.ite (.groupRegs (.applySheds (.ite (.shedGroup (.withLay ?_))
    ?_))) (.applySheds (.ite (.shedGroup (.withLay ?_)) ?_))) (fun _ _ k => k.applyAt))))) (.ite (.syncBoundary
    (.encLost (.pruneHolds (.foldl (.ite (.groupRegs (.applySheds (.ite (.shedGroup (.withLay ?_)) ?_))) (.applySheds
    (.ite (.shedGroup (.withLay ?_)) ?_))) (fun _ _ k => k.applyAt))))) (.ite (.put (.syncBoundary (.encLost
    (.pruneHolds (.foldl (.ite (.groupRegs (.applySheds (.ite (.shedGroup (.withLay ?_)) ?_))) (.applySheds (.ite
    (.shedGroup (.withLay ?_)) ?_))) (fun _ _ k => k.applyAt)))))) (.beginFrame (.put (.syncBoundary (.encLost
    (.pruneHolds (.foldl (.ite (.groupRegs (.applySheds (.ite (.shedGroup (.withLay ?_)) ?_))) (.applySheds (.ite
    (.shedGroup (.withLay ?_)) ?_))) (fun _ _ k => k.applyAt)))))))))))
  · split
    · exact h.setHead.put.put.setHead
    · exact h.setHead
  · split
    · exact h.setHead.put.put.setHead
    · exact h.setHead
  · split
    · exact h.setHead.put.put.setHead
    · exact h.setHead
  · split
    · exact h.setHead.put.put.setHead
    · exact h.setHead
  · split
    · exact h.setHead.put.put.setHead
    · exact h.setHead
  · split
    · exact h.setHead.put.put.setHead
    · exact h.setHead
  · split
    · exact h.setHead.put.put.setHead
    · exact h.setHead
  · split
    · exact h.setHead.put.put.setHead
    · exact h.setHead
  · split
    · exact h.setHead.put.put.setHead
    · exact h.setHead
  · split
    · exact h.setHead.put.put.setHead
    · exact h.setHead
  · split
    · exact h.setHead.put.put.setHead
    · exact h.setHead
  · split
    · exact h.setHead.put.put.setHead
    · exact h.setHead
  · split
    · exact h.setHead.put.put.setHead
    · exact h.setHead
  · split
    · exact h.setHead.put.put.setHead
    · exact h.setHead
  · split
    · exact h.setHead.put.put.setHead
    · exact h.setHead
  · split
    · exact h.setHead.put.put.setHead
    · exact h.setHead
  · split
    · exact h.setHead.put.put.setHead
    · exact h.setHead
  · split
    · exact h.setHead.put.put.setHead
    · exact h.setHead
  · split
    · exact h.setHead.put.put.setHead
    · exact h.setHead

theorem Dev.SameNow.scalerParity {i : Nat} (h : d0.SameNow d) : d0.SameNow (Machine.scalerParity i d) :=
  .ite h (.ite h.put.degraded.shedLayer h.put.degraded)

theorem Dev.SameNow.outFmtWrite {hd : Nat} {v : Word} (h : d0.SameNow d) :
    d0.SameNow (Machine.outFmtWrite hd v d) :=
  .ite h h.setReg

theorem Dev.SameNow.governorWindow {hottest : Int} (h : d0.SameNow d) :
    d0.SameNow (Machine.governorWindow hottest d) := by
  unfold Machine.governorWindow
  refine .ite h (.ite ?_ (.put (.put (.put (.put (.put (h.withComp.foldl (fun _ _ k => k.setHead))))))))
  split
  · exact .info (.bump (.shedLayer (.put (.put (.put (.put (.put (h.withComp.foldl (fun _ _ k => k.setHead)))))))))
  · exact .put (.put (.put (.put (.put (h.withComp.foldl (fun _ _ k => k.setHead))))))

/-! ### Parcels and CRC units -/

theorem Dev.SameNow.parcelOpen {q seq : Nat} (h : d0.SameNow d) : d0.SameNow (Machine.parcelOpen q seq d) := by
  unfold Machine.parcelOpen
  refine h.onCmd (fun _ => ?_)
  split
  · exact h.bad
  · exact h.withTail (.ite h.reject h.setJob.succeed)

theorem Dev.SameNow.parcelFeed {q seq : Nat} (h : d0.SameNow d) : d0.SameNow (Machine.parcelFeed q seq d) := by
  unfold Machine.parcelFeed
  refine h.onCmd (fun _ => ?_)
  split
  · exact h.bad
  · exact h.withTail (.ite h.reject (.ite h.reject (.ite h.reject (.ite h h.setJob))))

theorem Dev.SameNow.feedInput {q : Nat} {c : Cmd} {m : Mem} (h : d0.SameNow d) :
    d0.SameNow (Machine.feedInput q c d m).1 := by
  unfold Machine.feedInput
  refine .ite_fst h (.ite_fst ?_ ?_)
  · split
    · split
      · exact h
      · exact h
    · exact h
  · dsimp only
    split
    · exact h.checkedRead
    · exact h.checkedRead
    · exact h.checkedRead
    · exact .ite_fst h.checkedRead h.checkedRead

theorem Dev.SameNow.feedEnd {q seq j : Nat} {last : Bool} {r : FeedRun} (h : d0.SameNow r.dev) :
    d0.SameNow (Machine.feedEnd q seq j last r) := by
  unfold Machine.feedEnd
  split
  · exact .finish (.setJob (.ite h.bump.contained h))
  · exact h.setJob.succeed

/-- The same of the block in a feed's run. -/
def FeedRun.SameNow (d : Dev) (r : FeedRun) : Prop := d.SameNow r.dev

theorem FeedRun.SameNow.ite {a b : FeedRun} {p : Prop} [Decidable p] (ha : FeedRun.SameNow d0 a)
    (hb : FeedRun.SameNow d0 b) : FeedRun.SameNow d0 (if p then a else b) := by
  split
  · exact ha
  · exact hb

theorem FeedRun.SameNow.put {r : FeedRun} {q : Nat} {bs : List Byte} (h : FeedRun.SameNow d0 r) :
    FeedRun.SameNow d0 (r.put q bs) := by
  have hr : d0.SameNow r.dev := h
  unfold FeedRun.put
  refine .ite h (.ite (.ite hr.hostPut h) ?_)
  have k := hr.checkedWrite (m := r.mem) (k := cmdChecker q) (master := cmdMaster q)
    (pa := r.job.outAddr + r.job.offset - 2 ^ 63) (bs := bs)
  dsimp only
  split
  · exact k
  · exact k

theorem FeedRun.SameNow.emit {r : FeedRun} {q : Nat} {bs : List Byte} (h : FeedRun.SameNow d0 r) :
    FeedRun.SameNow d0 (r.emit q bs) :=
  .ite h.put (.ite h.put h.put)

theorem FeedRun.SameNow.close {r : FeedRun} {q : Nat} {selfFail flushed last : Bool} {n : Nat}
    (h : FeedRun.SameNow d0 r) :
    FeedRun.SameNow d0 (r.close q selfFail flushed last n) :=
  .ite h (.ite h.emit h.emit)

theorem FeedRun.SameNow.closeFull {r : FeedRun} {q : Nat} {selfFail : Bool} {n : Nat} (h : FeedRun.SameNow d0 r) :
    FeedRun.SameNow d0 (FeedRun.closeFull q selfFail n r) := by
  induction n generalizing r with
  | zero => exact h
  | succ n ih => exact .ite h (ih h.close)

theorem FeedRun.SameNow.compress {r : FeedRun} {q : Nat} {selfFail flush last : Bool} (h : FeedRun.SameNow d0 r) :
    FeedRun.SameNow d0 (r.compress q selfFail flush last) := by
  have k := h.closeFull (q := q) (selfFail := selfFail) (n := r.job.pending.length / parcelMax)
  exact .ite k (.ite (.ite k.close k) (.ite k.close k))

theorem FeedRun.SameNow.unpackAll {r : FeedRun} {q : Nat} {j n : Nat} (h : FeedRun.SameNow d0 r) :
    FeedRun.SameNow d0 (FeedRun.unpackAll q j n r) := by
  induction n generalizing r with
  | zero => exact h
  | succ n ih =>
    unfold FeedRun.unpackAll
    split
    · exact h
    · exact .ite h.put h.put
    · next out _ _ _ =>
      have k : d0.SameNow (r.emit q out).dev := h.emit
      exact .ite k (ih (Dev.SameNow.ite k (Dev.SameNow.bump k)))

theorem Dev.SameNow.feedComplete {j : Nat} {selfFail : Bool} {x : Dev × Mem} (h : d0.SameNow x.1) :
    d0.SameNow (Machine.feedComplete j selfFail x).1 := by
  suffices d0.SameNowPair (Machine.feedComplete j selfFail x) from this
  unfold Machine.feedComplete
  split
  · exact h
  split
  · exact h
  next q seq _ _ c _ =>
  extract_lets e host n flags out
  refine .ite (.ite h h.feedFailed.finish) (.ite h.waitAt ?_)
  have he : d0.SameNow (Machine.feedInput q c e x.2).1 := h.feedInput
  generalize Machine.feedInput q c e x.2 = z at he
  obtain ⟨g, bs, bad⟩ := z
  dsimp -zeta only at he ⊢
  extract_lets +onlyGivenNames b r flush last r1 r2
  have hr : FeedRun.SameNow d0 r := he
  have h1 : FeedRun.SameNow d0 r1 := .ite hr.unpackAll hr.compress
  have h2 : FeedRun.SameNow d0 r2 := .ite h1 (.ite h1 (.ite h1 h1))
  exact .feedEnd h2

theorem Dev.SameNow.parcelAbort {q seq : Nat} (h : d0.SameNow d) : d0.SameNow (Machine.parcelAbort q seq d) :=
  h.onCmd (fun _ => .ite h.bad (h.withTail (.ite h.succeed (.ite h.reject (.ite h h.setJob.succeed)))))

theorem Dev.SameNow.crcCtrl {u : Nat} {v : Word} (h : d0.SameNow d) : d0.SameNow (Machine.crcCtrl u v d) :=
  .ite h h.setReg.setReg.setReg

theorem Dev.SameNow.crcByte {u : Nat} {b : Byte} (h : d0.SameNow d) : d0.SameNow (Machine.crcByte u d b) :=
  h.setReg.setReg

theorem Dev.SameNow.crcData {n u : Nat} {v : Word} (h : d0.SameNow d) : d0.SameNow (Machine.crcData n u v d) :=
  .ite h (h.foldl (fun _ _ k => k.crcByte))

theorem Dev.SameNow.crcRead {u : Nat} {count : Bool} (h : d0.SameNow d) : d0.SameNow (Machine.crcRead u count d) :=
  .ite h h.respond

/-! ### Display ports -/

theorem Dev.SameNow.setPort {p : Nat} {v : PortSt} (h : d0.SameNow d) : d0.SameNow (d.setPort p v) := h.withComp

theorem Dev.SameNow.noSink {hd cause : Nat} {quiet : Bool} (h : d0.SameNow d) :
    d0.SameNow (d.noSink hd cause quiet) :=
  .ite h.setHead.put.put (h.setHead.watchViews h.setHead.setHeadState)

theorem Dev.SameNow.retrained {p : Nat} (h : d0.SameNow d) : d0.SameNow (d.retrained p) :=
  h.setPort.foldl (fun _ _ k => k.succeed)

theorem Dev.SameNow.linkDown {p : Nat} (h : d0.SameNow d) : d0.SameNow (d.linkDown p) := h.setPort.put.put.put

theorem Dev.SameNow.trainEnds {p cause : Nat} (h : d0.SameNow d) : d0.SameNow (d.trainEnds p cause) :=
  .retrained (h.linkDown.setPort.foldl (fun _ _ k => .ite k k.noSink))

theorem Dev.SameNow.tryFrom {p k : Nat} (h : d0.SameNow d) : d0.SameNow (d.tryFrom p k) := by
  unfold Dev.tryFrom
  dsimp only
  split
  · exact h.trainEnds
  · split
    · exact h.setPort
    · exact h.trainEnds

theorem Dev.SameNow.train {p k : Nat} {retry : Bool} (h : d0.SameNow d) : d0.SameNow (d.train p k retry) :=
  .tryFrom (h.linkDown.bump.setPort.put.put.foldl (fun _ _ k => .ite k (.ite k.noSink (.share (fun l1 => .ite l1
    (.ite l1.put.put (l1.watchViews l1.setHeadState))) k.setHead))))

theorem Dev.SameNow.readAndTrain {p : Nat} {caps : Option SinkCaps} {retry : Bool} (h : d0.SameNow d) :
    d0.SameNow (d.readAndTrain p caps retry) := by
  unfold Dev.readAndTrain
  refine .ite h.setPort.retrained ?_
  split
  · exact h.setPort.trainEnds
  · exact h.setPort.train

theorem Dev.SameNow.freshBackoff {p : Nat} (h : d0.SameNow d) : d0.SameNow (d.freshBackoff p) := h.setPort

theorem Dev.SameNow.hpdRise {p : Nat} {caps : Option SinkCaps} (h : d0.SameNow d) :
    d0.SameNow (Machine.hpdRise p caps d) :=
  .ite h.put.freshBackoff.setPort h.put.freshBackoff.readAndTrain

theorem Dev.SameNow.hpdIrq {p : Nat} {lost : Bool} {caps : Option SinkCaps} (h : d0.SameNow d) :
    d0.SameNow (Machine.hpdIrq p lost caps d) := by
  unfold Machine.hpdIrq
  refine .ite h.freshBackoff ?_
  split
  · exact .ite h.freshBackoff.train h.freshBackoff
  · exact .ite h.freshBackoff.readAndTrain h.freshBackoff

theorem Dev.SameNow.hpdUnplug {p : Nat} (h : d0.SameNow d) : d0.SameNow (Machine.hpdUnplug p d) :=
  .share (fun l0 => .ite l0.put.retrained (.retrained (l0.put.foldl (fun _ _ k1 => .ite k1 k1.noSink))))
    h.put.put.linkDown.setPort.put

theorem Dev.SameNow.linkReady {hd : Nat} (h : d0.SameNow d) : d0.SameNow (d.linkReady hd) := h.setHead

theorem Dev.SameNow.configPasses {p k : Nat} (h : d0.SameNow d) : d0.SameNow (d.configPasses p k) :=
  .retrained (h.setPort.put.put.put.foldl (fun _ _ k => .ite k.info.linkReady k.linkReady))

theorem Dev.SameNow.configFails {p k : Nat} (h : d0.SameNow d) : d0.SameNow (d.configFails p k) := h.bump.tryFrom

theorem Dev.SameNow.configDone {p : Nat} {pass : Bool} (h : d0.SameNow d) :
    d0.SameNow (Machine.configDone p pass d) := by
  unfold Machine.configDone
  split
  · exact h
  · exact .ite h.configPasses h.configFails

theorem Dev.SameNow.configTimeout {p : Nat} (h : d0.SameNow d) : d0.SameNow (Machine.configTimeout p d) := by
  unfold Machine.configTimeout
  split
  · exact .ite h.configFails h
  · exact h

theorem Dev.SameNow.trainRetry {p : Nat} {caps : Option SinkCaps} (h : d0.SameNow d) :
    d0.SameNow (Machine.trainRetry p caps d) :=
  .ite h h.readAndTrain

theorem Dev.SameNow.portClockLost {p : Nat} (h : d0.SameNow d) : d0.SameNow (Machine.portClockLost p d) :=
  .ite h (.retrained (h.clockGone.setPort.linkDown.foldl (fun _ _ k => .ite k k.noSink)))

theorem Dev.SameNow.portClockReturn {p : Nat} {caps : Option SinkCaps} (h : d0.SameNow d) :
    d0.SameNow (Machine.portClockReturn p caps d) :=
  .ite h (.share (fun l0 => .ite l0.readAndTrain (l0.foldl (fun _ _ k1 => .ite k1 k1.noSink)))
    h.clockBack.setPort.freshBackoff)

theorem Dev.SameNow.modeBoundary {hd : Nat} (h : d0.SameNow d) : d0.SameNow (Machine.modeBoundary hd d) := by
  unfold Machine.modeBoundary
  split
  · exact h
  · refine .ite h (.ite (.train (.setHead (h.foldl (fun _ _ k => k.frameEnd)))) (.ite (.setHead (h.foldl (fun _ _ k =>
      k.frameEnd))) ?_))
    split
    · exact .ite (.setHead (h.foldl (fun _ _ k => k.frameEnd))) (.train (.setHead (h.foldl (fun _ _ k =>
        k.frameEnd))))
    · exact .ite (.noSink (.setHead (h.foldl (fun _ _ k => k.frameEnd)))) (.ite (.setHead (h.foldl (fun _ _ k =>
        k.frameEnd))) (.train (.setHead (h.foldl (fun _ _ k => k.frameEnd)))))

theorem Dev.SameNow.modeLinkReady {hd : Nat} (h : d0.SameNow d) : d0.SameNow (Machine.modeLinkReady hd d) :=
  .ite h h.linkReady

theorem Dev.SameNow.dpCtrlApply {p : Nat} {v : Word} {caps : Option SinkCaps} (h : d0.SameNow d) :
    d0.SameNow (Machine.dpCtrlApply p v caps d) :=
  .ite h (.ite h.setReg.setPort h.setReg.setPort.readAndTrain)

theorem Dev.SameNow.dpAux {q seq : Nat} {reply : AuxReply} (h : d0.SameNow d) :
    d0.SameNow (Machine.dpAux q seq reply d) := by
  unfold Machine.dpAux
  refine h.onCmd (fun _ => ?_)
  dsimp only
  split
  · exact h.bad
  · refine h.withTail (.ite h.finish (.ite h.finish (.ite (h.withHost (fun _ => ?_)) ?_)))
    · split
      · exact h.finish
      · exact h.finish
      · exact .ite h.succeed (.ite h.finish h.hostPut.succeed)
    · split
      · exact h.finish
      · exact h.finish
      · exact .ite h.succeed (.ite h.finish h.hostPut.succeed)

theorem Dev.SameNow.dpRetrain {q seq : Nat} {caps : Option SinkCaps} (h : d0.SameNow d) :
    d0.SameNow (Machine.dpRetrain q seq caps d) :=
  h.onCmd (fun _ => .ite h.bad (h.withTail (.ite h.finish (.ite h (.ite h.setPort.freshBackoff.retrained
    h.setPort.freshBackoff.readAndTrain)))))

/-! ### Fabric lanes -/

theorem Dev.SameNow.attemptStart {p : Nat} (h : d0.SameNow d) : d0.SameNow (Machine.attemptStart p d) :=
  .ite h h.put.attempt.tellPort

theorem Dev.SameNow.sweepDone {p : Nat} {masks : List Nat} (h : d0.SameNow d) :
    d0.SameNow (Machine.sweepDone p masks d) := by
  unfold Machine.sweepDone
  split
  · exact h
  · refine .ite h (.setStep (h.foldl (fun _ _ k => .ite k.put.put.setLaneCause (.ite k.put.put.setLaneCause ?_))))
    split
    · exact k.put.put.setLaneCause
    · exact k.put.put.put.put.put.setLanes

theorem Dev.SameNow.alignDone {p : Nat} {found : List (Nat × Nat × Nat)} (h : d0.SameNow d) :
    d0.SameNow (Machine.alignDone p found d) := by
  unfold Machine.alignDone
  refine .ite h (.ite (h.setLanes.foldl (fun _ _ k => k.put.put)) (.ite h (.ite (.failAttempt (.setLanes (h.foldl (fun
    _ _ k => ?_)))) (.setStep (.setLanes (h.foldl (fun _ _ k => ?_)))))))
  · split
    · exact k.put.setLaneCause
    · exact .share (fun l1 => .share (fun l2 => .ite l2.setLaneCause (.ite l2 l2.setLaneCause)) (.ite l1 l1.put))
        k.put.put
  · split
    · exact k.put.setLaneCause
    · exact .share (fun l1 => .share (fun l2 => .ite l2.setLaneCause (.ite l2 l2.setLaneCause)) (.ite l1 l1.put))
        k.put.put

theorem Dev.SameNow.laneCtrl {p l : Nat} {v : Word} (h : d0.SameNow d) : d0.SameNow (Machine.laneCtrl p l v d) :=
  .ite h (.ite (.put (.put (.setLanes (.ite h.put h.put.put)))) (.ite h.put h.put.put))

theorem Dev.SameNow.laneSlip {p l : Nat} {v : Word} (h : d0.SameNow d) : d0.SameNow (Machine.laneSlip p l v d) :=
  .ite h.laneCtrl h

theorem Dev.SameNow.trainBlock {p l : Nat} {b : List Byte} (h : d0.SameNow d) : d0.SameNow (d.trainBlock p l b) :=
  .share (fun l0 => .share (fun l1 => .ite (.ite l1.setLanes.setLaneCause.failAttempt l1.setLanes.setLaneCause) l1)
    (.ite l0.put l0)) h.setLanes

theorem Dev.SameNow.trainingFrame {p l : Nat} {region : List Bool} (h : d0.SameNow d) :
    d0.SameNow (Machine.trainingFrame p l region d) :=
  .ite h (.share (fun l0 => .ite l0 (.ite l0.trainBlock (.ite l0 (.ite l0.setLanes (.ite (.ite l0.setLanes.put
    l0.setLanes) (.ite l0.attempt l0.setLanes)))))) h.put)

theorem Dev.SameNow.goReceived {p : Nat} {n : Neighbour} (h : d0.SameNow d) :
    d0.SameNow (Machine.goReceived p n d) :=
  .ite h (.ite h.failAttempt (.identify (.setLink (.tellPort (.setLanes (.put (.put (.put (.put (.bump (h.foldl (fun
    _ _ k => k.put.put))))))))))))

theorem Dev.SameNow.stepTimeout {p : Nat} (h : d0.SameNow d) : d0.SameNow (Machine.stepTimeout p d) :=
  .ite h h.failAttempt

theorem Dev.SameNow.attemptTimeout {p : Nat} (h : d0.SameNow d) : d0.SameNow (Machine.attemptTimeout p d) :=
  .ite h h.failAttempt

theorem Dev.SameNow.retryTimer {p : Nat} (h : d0.SameNow d) : d0.SameNow (Machine.retryTimer p d) :=
  .ite h h.attempt

theorem Dev.SameNow.laneLos {p l : Nat} {set : Bool} (h : d0.SameNow d) : d0.SameNow (Machine.laneLos p l set d) :=
  .ite h (.share (fun l0 => .ite (.ite l0.put (.ite l0.attempt l0)) (.ite l0.setLanes.attempt (.ite l0.detected
    l0))) (.ite h.put.put h.put))

theorem Dev.SameNow.laneLol {p l : Nat} {set : Bool} (h : d0.SameNow d) : d0.SameNow (Machine.laneLol p l set d) :=
  .ite h (.ite (.attempt (.ite h.put.put h.put)) (.ite h.put.put h.put))

theorem Dev.SameNow.laneLoa {p l n : Nat} (h : d0.SameNow d) : d0.SameNow (Machine.laneLoa p l n d) :=
  .ite h (.ite h.bump (.ite h.bump.put.put.attempt h.bump.put.put))

theorem Dev.SameNow.wakeTx {p : Nat} (h : d0.SameNow d) : d0.SameNow (d.wakeTx p) := .ite h h.setLanes.put.put

theorem Dev.SameNow.wakeRx {p : Nat} (h : d0.SameNow d) : d0.SameNow (d.wakeRx p) := .ite h h.setLanes.put.put

theorem Dev.SameNow.writeHold {p : Nat} {hold : Bool} (h : d0.SameNow d) : d0.SameNow (d.writeHold p hold) :=
  .ite h.put (.ite h.put.leaveRouting (.ite h.put.wakeTx.wakeRx.identify h.put))

theorem Dev.SameNow.writeTxSleep {p : Nat} {v : Bool} (h : d0.SameNow d) : d0.SameNow (d.writeTxSleep p v) :=
  .ite (.ite h.put.put h) h.wakeTx

theorem Dev.SameNow.writeRxSleep {p : Nat} {v : Bool} (h : d0.SameNow d) : d0.SameNow (d.writeRxSleep p v) :=
  .ite (.ite h.put.put h) h.wakeRx

theorem Dev.SameNow.retrain {p : Nat} (h : d0.SameNow d) : d0.SameNow (d.retrain p) :=
  .ite h h.setLanes.put.put.put.put.attempt

theorem Dev.SameNow.plnCtrl {p : Nat} {v : Word} (h : d0.SameNow d) : d0.SameNow (Machine.plnCtrl p v d) :=
  .ite h (.share (fun l0 => .ite l0.retrain l0) h.put.writeHold.writeTxSleep.writeRxSleep)

theorem Dev.SameNow.paentRetrain {p : Nat} {v : Word} (h : d0.SameNow d) :
    d0.SameNow (Machine.paentRetrain p v d) :=
  .ite h.plnCtrl h

theorem Dev.SameNow.paentHold {p : Nat} {v : Word} (h : d0.SameNow d) : d0.SameNow (Machine.paentHold p v d) :=
  .ite h.plnCtrl h

theorem Dev.SameNow.paentTxSleep {p : Nat} {v : Word} (h : d0.SameNow d) :
    d0.SameNow (Machine.paentTxSleep p v d) :=
  .ite h.plnCtrl h

theorem Dev.SameNow.paentTxWake {p : Nat} {v : Word} (h : d0.SameNow d) : d0.SameNow (Machine.paentTxWake p v d) :=
  .ite h.plnCtrl h

theorem Dev.SameNow.paentRxSleep {p : Nat} {v : Word} (h : d0.SameNow d) :
    d0.SameNow (Machine.paentRxSleep p v d) :=
  .ite h.plnCtrl h

theorem Dev.SameNow.paentRxWake {p : Nat} {v : Word} (h : d0.SameNow d) : d0.SameNow (Machine.paentRxWake p v d) :=
  .ite h.plnCtrl h

theorem Dev.SameNow.wakeTimeout {p : Nat} (h : d0.SameNow d) : d0.SameNow (Machine.wakeTimeout p d) := by
  unfold Machine.wakeTimeout
  split
  · exact .ite h.attempt h
  · exact h

/-! ### DRAM -/

theorem Dev.SameNow.setMctl {x : MemCtl} (h : d0.SameNow d) : d0.SameNow (d.setMctl x) := h.withMctl

theorem Dev.SameNow.setRank {ch rank v : Nat} (h : d0.SameNow d) : d0.SameNow (d.setRank ch rank v) := h.put

theorem Dev.SameNow.memBit {f : FldDesc} {ch : Nat} {on : Bool} (h : d0.SameNow d) :
    d0.SameNow (d.memBit f ch on) :=
  h.put

theorem Dev.SameNow.startMigration {m : Mem} {ch : Nat} (h : d0.SameNow d) :
    d0.SameNow (Machine.startMigration d m ch).1 := by
  unfold Machine.startMigration
  split
  · exact h.setRank.setRank.put.put.put.put.setMctl
  · exact h

theorem Dev.SameNow.nextMigration {m : Mem} (h : d0.SameNow d) : d0.SameNow (Machine.nextMigration d m).1 := by
  unfold Machine.nextMigration
  dsimp only
  split
  · exact h.setMctl.put
  · exact h.setMctl.put.setMctl.startMigration

theorem Dev.SameNow.channelFails {ch : Nat} (h : d0.SameNow d) : d0.SameNow (d.channelFails ch) :=
  h.put.memBit.memBit.setMctl.degraded.fatal

theorem Dev.SameNow.failChannel {m : Mem} {ch : Nat} (h : d0.SameNow d) :
    d0.SameNow (Machine.failChannel d m ch).1 :=
  .ite_fst h.channelFails.nextMigration h.channelFails

theorem Dev.SameNow.rankFault {m : Mem} {ch rank cause : Nat} (h : d0.SameNow d) :
    d0.SameNow (Machine.rankFault d m ch rank cause).1 :=
  .ite_fst h (.share (fun l0 => .ite_fst l0.failChannel (.ite_fst (.ite_fst l0.setRank.failChannel
    l0.setRank.put.memBit.info) (.ite_fst l0 (.ite_fst l0.failChannel (.ite_fst l0.degraded.startMigration
    l0.degraded.put.setMctl))))) h.put)

theorem Dev.SameNow.chErr {line : Nat} {ue poison : Bool} {device : Nat} (h : d0.SameNow d) :
    d0.SameNow (d.chErr line ue poison device) :=
  h.setReg.setLatch

theorem Dev.SameNow.eccRead {line rank : Nat} {r : EccRead} {m : Mem} (h : d0.SameNow d) :
    d0.SameNow (Machine.eccRead line rank r d m).1 := by
  unfold Machine.eccRead
  extract_lets ch r'
  clear_value r' ch
  refine .ite_fst h ?_
  cases r' with
  | clean => exact h
  | corrected => exact .share (fun l => .ite_fst l.setMctl.rankFault l) h.bump.chErr.corrected.setMctl
  | uncorrectable => exact h.bump.chErr.contained.rankFault

theorem Dev.SameNow.dramReadError {line rank : Nat} {r : EccRead} {x : Dev × Mem} (h : d0.SameNow x.1) :
    d0.SameNow (Machine.dramReadError line rank r x).1 :=
  h.eccRead

theorem Dev.SameNow.wcrcAlert {ch rank retry : Nat} {x : Dev × Mem} (h : d0.SameNow x.1) :
    d0.SameNow (Machine.wcrcAlert ch rank retry x).1 :=
  .ite_fst h (.ite_fst h.bump h.bump.rankFault)

theorem Dev.SameNow.copyLine {r : EccRead} {x : Dev × Mem} (h : d0.SameNow x.1) :
    d0.SameNow (Machine.copyLine r x).1 := by
  unfold Machine.copyLine
  split
  · exact h
  · exact .ite_fst h (.setMctl (.put (.ite_fst h.eccRead (.ite_fst h.eccRead h.eccRead.bump))))

theorem Dev.SameNow.migrationDone {x : Dev × Mem} (h : d0.SameNow x.1) :
    d0.SameNow (Machine.migrationDone x).1 := by
  unfold Machine.migrationDone
  split
  · exact h
  · refine .ite_fst h ?_
    split
    · exact h.setRank.setRank.put.memBit.info.nextMigration
    · exact h

theorem Dev.SameNow.throttleWrite {v : Word} (h : d0.SameNow d) : d0.SameNow (Machine.throttleWrite v d) :=
  .ite h.put h

theorem Dev.SameNow.dramRefresh {ch rank bank : Nat} {postponed : Bool} (h : d0.SameNow d) :
    d0.SameNow (Machine.dramRefresh ch rank bank postponed d) :=
  .ite h h.setMctl

theorem Dev.SameNow.tempRead {ch rank : Nat} {temps : List Int} (h : d0.SameNow d) :
    d0.SameNow (Machine.tempRead ch rank temps d) :=
  .ite h h.setMctl.put.put.memBit

theorem Dev.SameNow.driftCheck {ch rank drift : Nat} (h : d0.SameNow d) :
    d0.SameNow (Machine.driftCheck ch rank drift d) :=
  .ite h h.bump

theorem Dev.SameNow.retrainStep {ch rank : Nat} {ok : Bool} {x : Dev × Mem} (h : d0.SameNow x.1) :
    d0.SameNow (Machine.retrainStep ch rank ok x).1 := by
  unfold Machine.retrainStep
  dsimp only
  split
  · exact h
  · exact .ite_fst h (.ite_fst h.setMctl.bump.rankFault (.ite_fst h.setMctl h.setMctl.bump))

theorem Dev.SameNow.patrolScrub {line : Nat} {r : EccRead} {x : Dev × Mem} (h : d0.SameNow x.1) :
    d0.SameNow (Machine.patrolScrub line r x).1 := by
  unfold Machine.patrolScrub
  dsimp only
  split
  · exact .ite_fst h h.eccRead
  · exact h

theorem Dev.SameNow.fsRefresh (h : d0.SameNow d) : d0.SameNow (Machine.fsRefresh d) := h.setMctl

theorem Dev.SameNow.fsReplace {bank row : Nat} (h : d0.SameNow d) : d0.SameNow (d.fsReplace bank row) :=
  .ite h.setMctl.put.put.info (.ite h.setMctl h.setMctl.put.setMctl.degraded)

theorem Dev.SameNow.fsScrub {bank row ce ue : Nat} (h : d0.SameNow d) :
    d0.SameNow (Machine.fsScrub bank row ce ue d) :=
  .ite h (.ite h.bump.bump.setMctl.fsReplace h.bump.bump.setMctl)

/-! ### Touch, converter, pins and Ethernet output -/

theorem Dev.SameNow.setTouch {p : Nat} {x : TouchSt} (h : d0.SameNow d) : d0.SameNow (d.setTouch p x) := h.withIo

theorem Dev.SameNow.setCycle {c : Nat} {x : Cycle} (h : d0.SameNow d) : d0.SameNow (d.setCycle c x) := h.withIo

theorem Dev.SameNow.showTouch {p : Nat} {es : List TouchEntry} (h : d0.SameNow d) :
    d0.SameNow (d.showTouch p es) :=
  h.put.foldl (fun _ _ k => k.setLatch.setLatch)

theorem Dev.SameNow.touchValid {p : Nat} (h : d0.SameNow d) : d0.SameNow (d.touchValid p) :=
  .ite h.put h.put.setTouch.showTouch

theorem Dev.SameNow.touchApply {p : Nat} (h : d0.SameNow d) : d0.SameNow (d.touchApply p) := .ite h.put h.setTouch

theorem Dev.SameNow.touchOn {p : Nat} (h : d0.SameNow d) : d0.SameNow (d.touchOn p) := h.setTouch.put.touchValid

theorem Dev.SameNow.touchOff {p : Nat} (h : d0.SameNow d) : d0.SameNow (d.touchOff p) :=
  h.setTouch.put.touchValid.foldl (fun _ _ k => k.succeed)

theorem Dev.SameNow.touchCtrl {p : Nat} {v : Word} (h : d0.SameNow d) : d0.SameNow (Machine.touchCtrl p v d) :=
  .ite h (.share (fun l0 => .share (fun l1 => .share (fun l2 => .ite l2.touchOn (.ite l2.touchOff l2)) (.ite
    l1.put.touchApply l1.put)) (.ite l0 (.put (.ite (.put (.ite l0.put l0)) (.ite l0.put l0))))) h.put.put)

theorem Dev.SameNow.touchEnable {p : Nat} {v : Word} (h : d0.SameNow d) : d0.SameNow (Machine.touchEnable p v d) :=
  .ite h.touchCtrl h

theorem Dev.SameNow.touchDisable {p : Nat} {v : Word} (h : d0.SameNow d) :
    d0.SameNow (Machine.touchDisable p v d) :=
  .ite h.touchCtrl h

theorem Dev.SameNow.touchApplyWrite {p : Nat} {v : Word} (h : d0.SameNow d) :
    d0.SameNow (Machine.touchApplyWrite p v d) :=
  .ite h.touchCtrl h

theorem Dev.SameNow.touchBegin {p start j : Nat} {simmer : Bool} (h : d0.SameNow d) :
    d0.SameNow (d.touchBegin p start j simmer) :=
  h.setTouch

theorem Dev.SameNow.touchScanStart {p : Nat} (h : d0.SameNow d) : d0.SameNow (Machine.touchScanStart p d) :=
  .ite h (.ite h (.ite h.setTouch.touchValid (.ite h.setTouch.put.touchBegin h.touchBegin)))

theorem Dev.SameNow.touchProcessed {p : Nat} {raw : Grid} (h : d0.SameNow d) :
    d0.SameNow (Machine.touchProcessed p raw d) := by
  unfold Machine.touchProcessed
  dsimp only
  split
  · exact h
  · exact .ite h (.ite h.setTouch (.foldl (.bump (.ite h.setTouch.bump h.setTouch)) (fun _ _ k => k.bump.info)))

theorem Dev.SameNow.touchSimmer {p : Nat} {sums : List Nat} (h : d0.SameNow d) :
    d0.SameNow (Machine.touchSimmer p sums d) := by
  unfold Machine.touchSimmer
  dsimp only
  split
  · exact h
  · refine .ite h ?_
    split <;> exact h.setTouch

theorem Dev.SameNow.ccEnded {p : Nat} {es : List TouchEntry} (h : d0.SameNow d) : d0.SameNow (d.ccEnded p es) :=
  .ite h (h.foldl (fun _ _ k => .ite k.setCycle k))

theorem Dev.SameNow.touchMove {p : Nat} (h : d0.SameNow d) : d0.SameNow (d.touchMove p) :=
  .ite (.ite h h.setTouch.put) (.ite (.ite h.setTouch (.ite h.setTouch.put h)) h)

theorem Dev.SameNow.touchRelease {p : Nat} (h : d0.SameNow d) : d0.SameNow (Machine.touchRelease p d) := by
  unfold Machine.touchRelease
  dsimp only
  split
  · exact h
  · exact .ite h (.ite h.setTouch.bump.touchValid
      (h.setTouch.bumpWrap.put.showTouch.setReg.setLatch.ccEnded.touchMove.touchValid.foldl (fun _ _ k => k.succeed)))

theorem Dev.SameNow.touchRebaseDue {p : Nat} (h : d0.SameNow d) : d0.SameNow (d.touchRebaseDue p) :=
  .ite h h.setTouch

theorem Dev.SameNow.touchRebase {q seq : Nat} (h : d0.SameNow d) : d0.SameNow (Machine.touchRebase q seq d) :=
  h.onCmd (fun _ => h.withTail (.ite h.bad (.ite h.succeed (.ite h h.setTouch))))

theorem Dev.SameNow.adcStart {w : Nat} {cycle : Option Nat} (h : d0.SameNow d) :
    d0.SameNow (d.adcStart w cycle) := by
  unfold Dev.adcStart
  refine .ite ?_ ?_
  · split
    · exact h.setCycle
    · exact h
  · split
    · refine .ite h.withIo ?_
      split
      · exact h.bump.setCycle
      · exact h.bump
    · exact h.withIo.put

theorem Dev.SameNow.adcDone {samples : List (List Int)} (h : d0.SameNow d) :
    d0.SameNow (Machine.adcDone samples d) := by
  unfold Machine.adcDone
  split
  · exact h
  · exact .ite h (.foldl (h.withIo.put.setReg.setLatch.foldl (fun _ _ k => k.setLatch)) (fun _ _ k => k.setCycle))

theorem Dev.SameNow.adcCtrl {v : Word} (h : d0.SameNow d) : d0.SameNow (Machine.adcCtrl v d) :=
  .ite h.setReg (.ite h.setReg.put h.setReg.withIo)

theorem Dev.SameNow.adcApply {v : Word} (h : d0.SameNow d) : d0.SameNow (Machine.adcApply v d) := .ite h.adcCtrl h

theorem Dev.SameNow.gpioAccept {n : Nat} {level : Bool} (h : d0.SameNow d) : d0.SameNow (d.gpioAccept n level) :=
  h.setReg.withIo

theorem Dev.SameNow.gpioChange {n : Nat} {level : Bool} (h : d0.SameNow d) :
    d0.SameNow (Machine.gpioChange n level d) :=
  .ite h (.ite h.withIo.gpioAccept (.ite h.withIo.withIo h.withIo.withIo))

theorem Dev.SameNow.gpioExpiry {n : Nat} (h : d0.SameNow d) : d0.SameNow (Machine.gpioExpiry n d) := by
  unfold Machine.gpioExpiry
  split
  · exact .ite h.gpioAccept h
  · exact h

theorem Dev.SameNow.gpioOut {v : Word} (h : d0.SameNow d) : d0.SameNow (Machine.gpioOut v d) :=
  h.foldl (fun _ _ k => .ite k k.setReg.withIo.gpioAccept)

theorem Dev.SameNow.ccLate {l : Launch} (h : d0.SameNow d) : d0.SameNow (d.ccLate l) := by
  unfold Dev.ccLate
  split
  · exact h
  · exact .setCycle (.ite h.bump.put h.bump.put.info)

theorem Dev.SameNow.setLaunches {p : Nat} {ls : List Launch} (h : d0.SameNow d) :
    d0.SameNow (d.setLaunches p ls) :=
  h.withTime

theorem Dev.SameNow.dropLate {n p : Nat} (h : d0.SameNow d) : d0.SameNow (Dev.dropLate n d p) := by
  induction n generalizing d with
  | zero => exact h
  | succ n ih =>
    unfold Dev.dropLate
    split
    · exact .ite h (ih h.setLaunches.bump.ccLate)
    · exact h

theorem Dev.SameNow.launch {p : Nat} {l : Launch} (h : d0.SameNow d) : d0.SameNow (d.launch p l) :=
  .ite h.bump.ccLate (.ite h.setLaunches.dropLate h.setLaunches)

theorem Dev.SameNow.launchSubmit {p at48 : Nat} {bytes : List Byte} {gated : Bool} (h : d0.SameNow d) :
    d0.SameNow (Machine.launchSubmit p at48 bytes gated d) :=
  .ite h h.launch

theorem Dev.SameNow.leave {p : Nat} {l : Launch} (h : d0.SameNow d) : d0.SameNow (d.leave p l) := by
  unfold Dev.leave
  refine .ite ?_ (.ite ?_ ?_)
  · split
    · exact h.bump
    · exact h
  · split
    · exact h.bump
    · exact h
  · dsimp only
    split
    · exact .setCycle (.ite h.withTime.bump h.withTime.bump)
    · exact h.withTime

theorem Dev.SameNow.launchReached {p : Nat} (h : d0.SameNow d) : d0.SameNow (Machine.launchReached p d) := by
  unfold Machine.launchReached
  split
  · exact .ite h h.setLaunches.leave.dropLate
  · exact h

theorem Dev.SameNow.trigApply {u : Nat} {v : Word} (h : d0.SameNow d) : d0.SameNow (Machine.trigApply u v d) :=
  .ite h.trigWrite h

theorem Dev.SameNow.ccCapture {c ts : Nat} (h : d0.SameNow d) : d0.SameNow (d.ccCapture c ts) :=
  h.setCycle.setReg.setLatch.adcStart

theorem Dev.SameNow.triggerEvent {u : Nat} (h : d0.SameNow d) : d0.SameNow (Machine.triggerEvent u d) :=
  .ite h (.share (fun l0 => .ite l0.adcStart l0) (h.setTrig.bumpWrap.foldl (fun _ _ k => .ite k.ccCapture k)))

theorem Dev.SameNow.frameBuilt {c : Nat} (h : d0.SameNow d) : d0.SameNow (Machine.frameBuilt c d) := by
  unfold Machine.frameBuilt
  dsimp only
  split
  · exact h
  · exact .ite h (.ite h.setCycle.put.launch.launch h.setCycle.put.launch)

theorem Dev.SameNow.ccSetupBlock {q seq : Nat} {b : List Byte} (h : d0.SameNow d) :
    d0.SameNow (Machine.ccSetupBlock q seq b d) := by
  unfold Machine.ccSetupBlock
  refine .ite h.reject (.ite h.finish ?_)
  split
  · exact h.finish
  · exact .ite h.reject (.ite h.reject (.ite h.reject
      h.setReg.setReg.setReg.setReg.setTrig.setCycle.setReg.setReg.setReg.setReg.setLatch.succeed))

theorem Dev.SameNow.ccSetup {q seq : Nat} (h : d0.SameNow d) : d0.SameNow (Machine.ccSetup q seq d) :=
  h.onCmd (fun _ => h.withTail (h.withHost (fun _ => h.ccSetupBlock)))

theorem Dev.SameNow.ccStop {q seq : Nat} (h : d0.SameNow d) : d0.SameNow (Machine.ccStop q seq d) :=
  h.onCmd (fun _ => h.withTail (.ite h.bad (.ite h.succeed h.setTrig.put.setCycle.put.succeed)))

/-! ### Pair and interlock -/

theorem Dev.SameNow.ilShow (h : d0.SameNow d) : d0.SameNow d.ilShow := h.put.put

theorem Dev.SameNow.setClaim {on : Bool} (h : d0.SameNow d) : d0.SameNow (d.setClaim on) := h.put.setPair.ilShow

theorem Dev.SameNow.planClaim {from' : Nat} {planned : Bool} {why : Nat} (h : d0.SameNow d) :
    d0.SameNow (d.planClaim from' planned why) :=
  .ite h h.setPair

theorem Dev.SameNow.seek {barred : Bool} (h : d0.SameNow d) : d0.SameNow (d.seek barred) := h.put.put.setPair

theorem Dev.SameNow.pairFault {cause : Nat} (h : d0.SameNow d) : d0.SameNow (d.pairFault cause) :=
  .ite h h.setClaim.put.put.put.setPair.wtrBit.info

theorem Dev.SameNow.ackAlone (h : d0.SameNow d) : d0.SameNow d.ackAlone :=
  h.put.foldl (fun _ _ k => k.setCmds.flushQueue)

theorem Dev.SameNow.syncBit (h : d0.SameNow d) : d0.SameNow d.syncBit := .ite h (.ite h.put (.ite h.ackAlone h))

theorem Dev.SameNow.takeOver (h : d0.SameNow d) : d0.SameNow d.takeOver :=
  .ite h (.share (fun l0 => .share (fun l1 => .ite l1 (.ite l1.bump.info l1.bump.info)) (.foldl (.ackAlone (.ite
    l0.wtrBit (l0.wtrBit.foldl (fun _ _ k1 => .ite k1.touchRebaseDue k1)))) (fun _ _ k1 => k1.flushQueue)))
    h.put.put.put.put.setPair)

theorem Dev.SameNow.levelChange {il1 il2 : Nat} (h : d0.SameNow d) : d0.SameNow (Machine.levelChange il1 il2 d) :=
  .ite h (.share (fun l0 => .ite l0 (.ite l0.setPair.takeOver (.ite (.ite l0.setPair (.ite l0.setClaim.ackAlone.seek
    l0.setClaim.setPair)) l0.setPair))) (.ilShow (.ite h.setPair h.setPair.setPair)))

theorem Dev.SameNow.contentionTimeout (h : d0.SameNow d) : d0.SameNow (Machine.contentionTimeout d) := by
  unfold Machine.contentionTimeout
  split
  · exact .ite h.pairFault h
  · exact h

theorem Dev.SameNow.interlockFault (h : d0.SameNow d) : d0.SameNow (Machine.interlockFault d) := .ite h h.pairFault

theorem Dev.SameNow.releaseDue (h : d0.SameNow d) : d0.SameNow d.releaseDue := by
  unfold Dev.releaseDue
  split
  · exact .ite h (.ite h.setClaim.setPair.enterStandby h.setClaim.setPair)
  · exact h

theorem Dev.SameNow.claimDue (h : d0.SameNow d) : d0.SameNow d.claimDue := by
  unfold Dev.claimDue
  split
  · exact .ite h (.ite h.setClaim.setPair (.setPair (.ite h.put h)))
  · exact h

theorem Dev.SameNow.handoverInstant (h : d0.SameNow d) : d0.SameNow (Machine.handoverInstant d) :=
  .ite h.releaseDue.claimDue.takeOver h.releaseDue.claimDue

theorem Dev.SameNow.retryTimeout (h : d0.SameNow d) : d0.SameNow (Machine.retryTimeout d) := by
  unfold Machine.retryTimeout
  split
  · exact .ite h.pairFault h
  · exact h

theorem Dev.SameNow.pairRun (h : d0.SameNow d) : d0.SameNow d.pairRun := .ite h (.ite h.seek h.put.planClaim)

theorem Dev.SameNow.seekTimeout (h : d0.SameNow d) : d0.SameNow (Machine.seekTimeout d) :=
  .ite h (.ite h.planClaim (.ite h.put h))

theorem Dev.SameNow.heartbeatSend {wire : Bool} (h : d0.SameNow d) : d0.SameNow (Machine.heartbeatSend wire d) :=
  .ite h (.share (fun l0 => .ite l0 (.ite l0.setPair l0.setPair.routeEnv)) (.ite h.setPair.mirror h))

theorem Dev.SameNow.pathHeard {wire : Bool} (h : d0.SameNow d) : d0.SameNow (d.pathHeard wire) :=
  .share (fun l0 => .ite (.info (.put (.ite l0.put.info l0))) (.ite l0.put.info l0)) (.put (.ite h.setPair h.setPair))

theorem Dev.SameNow.heed {b : Heartbeat} (h : d0.SameNow d) : d0.SameNow (d.heed b) :=
  .share (fun l0 => .ite l0.pairFault (.ite l0.put.setPair.reply (.ite (.ite l0.planClaim (.ite l0.planClaim (.ite
    l0.planClaim l0))) l0.syncBit))) h.put.put.put.put.setPair

theorem Dev.SameNow.heartbeatReceived {b : Heartbeat} (h : d0.SameNow d) :
    d0.SameNow (Machine.heartbeatReceived b d) :=
  .ite h.takeInbox h.takeInbox.pathHeard.heed

theorem Dev.SameNow.wireReceived {frame : List Byte} (h : d0.SameNow d) :
    d0.SameNow (Machine.wireReceived frame d) :=
  .ite h (.ite h.bump h.pathHeard.heed)

theorem Dev.SameNow.pathSilent {wire : Bool} (h : d0.SameNow d) : d0.SameNow (Machine.pathSilent wire d) := by
  unfold Machine.pathSilent
  dsimp only
  split
  · exact .ite h (.ite h.put.put.info (.ite h.put.put.info.planClaim h.put.put.info.syncBit))
  · exact .ite h (.info (.put (.ite h.setPair h.setPair)))

theorem Dev.SameNow.wtrExpiry (h : d0.SameNow d) : d0.SameNow (Machine.wtrExpiry d) := by
  unfold Machine.wtrExpiry
  split
  · exact .ite h h.setPair.reply.wtrBit
  · exact h

theorem Dev.SameNow.pairCtrl {v : Word} (h : d0.SameNow d) : d0.SameNow (Machine.pairCtrl v d) :=
  .ite h.setReg (.ite h.setReg.put h.setReg.setPair.wtrBit)

theorem Dev.SameNow.pairApply {v : Word} (h : d0.SameNow d) : d0.SameNow (Machine.pairApply v d) :=
  .ite h.pairCtrl h

theorem Dev.SameNow.cmdErr {code : Nat} {f : Dev → Dev} (h : d0.SameNow d)
    (hf : ∀ e, d0.SameNow e → d0.SameNow (f e)) : d0.SameNow (d.cmdErr code f) := .ite (hf _ h.put) h.put

theorem Dev.SameNow.switchover (h : d0.SameNow d) : d0.SameNow (Machine.switchover d) :=
  h.cmdErr (fun _ k => k.planRelease)

theorem Dev.SameNow.takeover {force : Bool} (h : d0.SameNow d) : d0.SameNow (Machine.takeover force d) :=
  h.cmdErr (fun _ k => k.setPair.planClaim)

theorem Dev.SameNow.pairClearCmd (h : d0.SameNow d) : d0.SameNow (Machine.pairClearCmd d) :=
  h.cmdErr (fun _ k => k.put.seek)

theorem Dev.SameNow.pairCmd {v : Word} (h : d0.SameNow d) : d0.SameNow (Machine.pairCmd v d) :=
  .ite h.switchover (.ite h.takeover (.ite h.pairClearCmd h))

theorem Dev.SameNow.pairSwitchover {v : Word} (h : d0.SameNow d) : d0.SameNow (Machine.pairSwitchover v d) :=
  .ite h.pairCmd h

theorem Dev.SameNow.pairTakeover {v : Word} (h : d0.SameNow d) : d0.SameNow (Machine.pairTakeover v d) :=
  .ite h.pairCmd h

theorem Dev.SameNow.pairClear {v : Word} (h : d0.SameNow d) : d0.SameNow (Machine.pairClear v d) :=
  .ite h.pairCmd h

/-! ### Errors and fault paths -/

theorem Dev.SameNow.touchClockLost {p : Nat} (h : d0.SameNow d) : d0.SameNow (d.touchClockLost p) :=
  .touchValid (.ite h.setTouch h)

theorem Dev.SameNow.adcClockLost (h : d0.SameNow d) : d0.SameNow d.adcClockLost :=
  h.withIo.put.foldl (fun _ _ k => k.setCycle)

theorem Dev.SameNow.watchdog {core : Nat} (h : d0.SameNow d) : d0.SameNow (Machine.watchdog core d) :=
  .ite h (.ite h.withErr.bump.contained.put.fatal h.withErr.bump.contained.put)

theorem Dev.SameNow.coreRestarted {core : Nat} (h : d0.SameNow d) : d0.SameNow (Machine.coreRestarted core d) :=
  .ite h h.put

theorem Dev.SameNow.engineParity {k : Nat} (h : d0.SameNow d) : d0.SameNow (Machine.engineParity k d) :=
  .ite h (.share (fun l0 => .ite l0.fatal l0) (h.withLay.degraded.foldl (fun _ _ k => k.groupRegs)))

theorem Dev.SameNow.fabricFault {journalOk : Bool} (h : d0.SameNow d) :
    d0.SameNow (Machine.fabricFault journalOk d) :=
  .ite h.contained.fatal h.contained.setCommits.withErr

theorem Dev.SameNow.restoreJournal (h : d0.SameNow d) : d0.SameNow d.restoreJournal :=
  .foldl (.foldl (.foldl (h.foldl (fun _ _ k => k.setShadow)) (fun _ _ k => k.setShadow)) (fun _ _ k =>
    k.setReg.setReg.setReg.setReg.setReg.setReg.setReg)) (fun _ _ k => k.setReg.setReg.setReg.foldl (fun _ _ k1 =>
    k1.setReg))

theorem Dev.SameNow.headResumes {hd : Nat} (h : d0.SameNow d) : d0.SameNow (d.headResumes hd) :=
  .ite (.modeLinkReady (.ite h.setHead.modeBoundary h)) (.ite h (.setHead (h.foldl (fun _ _ k => k.frameEnd))))

/-! ### Fabric links -/

theorem Dev.SameNow.paentId {v : Word} (h : d0.SameNow d) : d0.SameNow (Machine.paentId v d) :=
  .ite h h.setReg.put.withSys.put

theorem Dev.SameNow.resendAll {p : Nat} (h : d0.SameNow d) : d0.SameNow (d.resendAll p) := by
  unfold Dev.resendAll
  dsimp only
  split
  · exact h
  · exact .ite h.bump.corrected.setLink.attempt h.bump.corrected.setLink

theorem Dev.SameNow.takeAck {p ack : Nat} (h : d0.SameNow d) : d0.SameNow (d.takeAck p ack) := .ite h.setLink h

theorem Dev.SameNow.nak {p : Nat} (h : d0.SameNow d) : d0.SameNow (d.nak p) := .ite h h.setLink

theorem Dev.SameNow.flitReceived {p : Nat} {flit : List Byte} (h : d0.SameNow d) :
    d0.SameNow (Machine.flitReceived p flit d) :=
  .ite h (.ite h.bump.nak (.share (fun l0 => .ite l0 (.ite l0.nak l0.setLink)) (.ite h.setLanes.takeAck.resendAll
    h.setLanes.takeAck)))

theorem Dev.SameNow.replayTimeout {p : Nat} (h : d0.SameNow d) : d0.SameNow (Machine.replayTimeout p d) :=
  .ite h h.resendAll

theorem Dev.SameNow.endSend {id : Nat} (h : d0.SameNow d) : d0.SameNow (d.endSend id) := by
  unfold Dev.endSend
  split
  · exact h
  · dsimp only
    split
    · exact .ite h.updSend.dropLease.beginSend h.updSend.dropLease
    · exact h.updSend.dropLease

theorem Dev.SameNow.feedSends {p : Nat} {x : Dev × Mem} (h : d0.SameNow x.1) :
    d0.SameNow (Machine.feedSends p x) := by
  unfold Machine.feedSends
  refine h.foldl (fun _ _ k => ?_)
  split
  · exact .ite k k.endSend
  · exact k.updSend.routeEnv

theorem Dev.SameNow.emit {p : Nat} {data : Option (List Byte)} (h : d0.SameNow d) :
    d0.SameNow (d.emit p data) := by
  unfold Dev.emit
  dsimp only
  split
  · exact h.setLink
  · exact h.setLink

theorem Dev.SameNow.emitNext {p : Nat} {o : OutEnv} {rest : List (List Byte)} (h : d0.SameNow d) :
    d0.SameNow (d.emitNext p o rest) := by
  unfold Dev.emitNext
  split
  · exact h
  · refine .ite h.emit ?_
    dsimp only
    split
    · exact h.setLink.emit.freeBuffer.endSend
    · exact h.setLink.emit.freeBuffer

theorem Dev.SameNow.flitSend {p pick : Nat} {x : Dev × Mem} (h : d0.SameNow x.1) :
    d0.SameNow (Machine.flitSend p pick x).1 := by
  suffices d0.SameNowPair (Machine.flitSend p pick x) from this
  unfold Machine.flitSend
  refine .ite h ?_
  extract_lets +onlyGivenNames l e
  have he : d0.SameNow e := h.setLink
  clear_value e l
  split
  · split
    · exact he.setLink
    · exact he.setLink.emit
  · refine .ite he.emit ?_
    split
    · exact he.emitNext
    · refine .ite he.emit ?_
      extract_lets +onlyGivenNames g k
      have hg : d0.SameNow g := Dev.SameNow.feedSends (x := (e, x.2)) he
      clear_value g k
      split
      · exact hg.emit
      · dsimp only
        split
        · exact hg.emit
        · exact hg.setLink.emitNext

theorem Dev.SameNow.envelopeReceived {p : Nat} (h : d0.SameNow d) : d0.SameNow (Machine.envelopeReceived p d) := by
  unfold Machine.envelopeReceived
  dsimp only
  split
  · exact h
  · exact .ite h.setLink.freeBuffer.bump (.ite h.setLink.freeBuffer.bump h.setLink.routeEnv)

theorem Dev.SameNow.shedRecv {r : Nat} (h : d0.SameNow d) : d0.SameNow (d.shedRecv r) := .ite h h.put.setReg

theorem Dev.SameNow.setRoutes {rs : List (Nat × Nat × Nat)} (h : d0.SameNow d) : d0.SameNow (d.setRoutes rs) :=
  h.foldl (fun _ _ k => .ite k.setReg k)

theorem Dev.SameNow.setMcasts {gs : List (Nat × McastEntry)} (h : d0.SameNow d) : d0.SameNow (d.setMcasts gs) :=
  h.foldl (fun _ _ k => .ite k.setReg k)

theorem Dev.SameNow.requeue (h : d0.SameNow d) : d0.SameNow d.requeue :=
  h.foldl (fun _ _ k => k.setLink.foldl (fun _ _ k1 => .ite k1.enqueue k1.routeEnv))

theorem Dev.SameNow.routeRecompute {ls : List PaentLink} {groups : List McastGroup} {resv : List Resv}
    (h : d0.SameNow d) :
    d0.SameNow (Machine.routeRecompute ls groups resv d) :=
  .ite h (.requeue (.withSys (.foldl (.foldl (.foldl (.setMcasts (.setRoutes (h.foldl (fun _ _ k => .ite k.setReg
    k)))) (fun _ _ k => .ite k.shedRecv k.send)) (fun _ _ k => k.setReg)) (fun _ _ k => .ite k k.send))))

theorem Dev.SameNow.routeInstall {r : RouteSet} (h : d0.SameNow d) : d0.SameNow (Machine.routeInstall r d) := by
  unfold Machine.routeInstall
  refine .requeue (.withSys (.foldl (h.takeInbox.setRoutes.setMcasts.foldl (fun _ _ k => ?_)) (fun _ _ k =>
    k.shedRecv)))
  split
  · exact k.setReg
  · exact k

theorem Dev.SameNow.vc1HoldEnd {confirmed : Bool} (h : d0.SameNow d) :
    d0.SameNow (Machine.vc1HoldEnd confirmed d) := by
  unfold Machine.vc1HoldEnd
  split
  · exact .ite h.withSys h
  · exact h

theorem Dev.SameNow.setRecv {r : Nat} {x : Recv} (h : d0.SameNow d) : d0.SameNow (d.setRecv r x) := h.withSys

theorem Dev.SameNow.dropRx {r : Nat} {x : Recv} {k : RxPic} {count : FldDesc} (h : d0.SameNow d) :
    d0.SameNow (d.dropRx r x k count) :=
  h.setRecv.bump

theorem Dev.SameNow.rxDone {r : Nat} {x : Recv} {k : RxPic} (h : d0.SameNow d) : d0.SameNow (d.rxDone r x k) :=
  h.setRecv.bump.setReg.canvasPicture

theorem Dev.SameNow.pictureEnvelope {x : Dev × Mem} (h : d0.SameNow x.1) :
    d0.SameNow (Machine.pictureEnvelope x).1 := by
  suffices d0.SameNowPair (Machine.pictureEnvelope x) from this
  unfold Machine.pictureEnvelope
  extract_lets +onlyGivenNames d
  split
  · exact h
  extract_lets +onlyGivenNames e d
  have hd : d0.SameNow d := h.takeInbox
  clear_value d
  split
  · exact hd
  next r v _ =>
  refine .ite hd ?_
  extract_lets +onlyGivenNames first last pic off locked step
  have hstep : ∀ {a v k}, d0.SameNow a → d0.SameNowPair (step a v k) := fun ha =>
    Dev.SameNow.ite ha.rxDone ha.setRecv
  clear_value step
  refine .ite ?_ ?_
  · extract_lets +onlyGivenNames g v'
    have hg : d0.SameNow g := by
      change d0.SameNow (match v.rx with | some k => _ | none => d)
      split
      · exact hd.dropRx
      · exact hd
    clear_value g v'
    refine .ite hg.bump ?_
    extract_lets +onlyGivenNames full g'
    have hg' : d0.SameNow g' := hg.makeRoom
    clear_value g'
    dsimp only
    split
    · exact hg'.bump
    · exact hstep hg'
  · split
    · exact hd
    · exact .ite hd.dropRx (.ite hd.dropRx (hstep hd))

theorem Dev.SameNow.remoteSetup {q seq : Nat} {src : RemoteSource} (h : d0.SameNow d) :
    d0.SameNow (Machine.remoteSetup q seq src d) := by
  unfold Machine.remoteSetup
  refine h.onCmd (fun _ => h.withTail (?_))
  dsimp only
  split
  · exact h.reject
  · refine .ite h.reject ?_
    split
    · exact h.finish
    · refine .ite h.finish ?_
      split
      · exact h.reject
      · exact .ite h.reject (.ite h.reject (.ite h.refuse (.succeed (.send (h.setRecv.setReg.setReg.setReg.foldl (fun
          _ _ k => k.setReg))))))

theorem Dev.SameNow.remoteClear {q seq : Nat} (h : d0.SameNow d) : d0.SameNow (Machine.remoteClear q seq d) := by
  unfold Machine.remoteClear
  refine h.onCmd (fun _ => h.withTail (.ite h.bad ?_))
  split
  · exact h.succeed
  · exact .succeed (.send (.setReg (.setReg (.setReg (.ite h.withSys h.setRecv)))))

theorem Dev.SameNow.managerLost (h : d0.SameNow d) : d0.SameNow d.managerLost :=
  h.withLay.foldl (fun _ _ k => k.foldl (fun _ _ k1 => k1.finish))

theorem Dev.SameNow.setManager {m : Option Nat} (h : d0.SameNow d) : d0.SameNow (d.setManager m) :=
  .ite h (.info (.managerLost (h.withSys.put.put.foldl (fun _ _ k => .ite k.endRun.finish k.endRun))))

theorem Dev.SameNow.countModules (h : d0.SameNow d) : d0.SameNow d.countModules := h.put

theorem Dev.SameNow.announceTimer (h : d0.SameNow d) : d0.SameNow (Machine.announceTimer d) :=
  .ite h (.countModules (.withSys (h.withSys.foldl (fun _ _ k => .ite k.enqueue k))))

theorem Dev.SameNow.announceReceived {p : Nat} {a : Announce} (h : d0.SameNow d) :
    d0.SameNow (Machine.announceReceived p a d) := by
  unfold Machine.announceReceived
  refine .ite h.takeInbox (.ite (.ite h.takeInbox (h.takeInbox.put.info.foldl (fun _ _ k => .ite k.leaveRouting k)))
    (.ite h.takeInbox (.ite ?_ (.ite (.withSys (.countModules (h.takeInbox.withSys.foldl (fun _ _ k => .ite k.enqueue
    k)))) (.countModules (h.takeInbox.withSys.foldl (fun _ _ k => .ite k.enqueue k)))))))
  split
  · exact .setManager (.ite (.withSys (.countModules (h.takeInbox.withSys.foldl (fun _ _ k => .ite k.enqueue k))))
      (.countModules (h.takeInbox.withSys.foldl (fun _ _ k => .ite k.enqueue k))))
  · exact .ite (.setManager (.ite (.withSys (.countModules (h.takeInbox.withSys.foldl (fun _ _ k => .ite k.enqueue
      k)))) (.countModules (h.takeInbox.withSys.foldl (fun _ _ k => .ite k.enqueue k))))) (.ite (.withSys
      (.countModules (h.takeInbox.withSys.foldl (fun _ _ k => .ite k.enqueue k)))) (.countModules
      (h.takeInbox.withSys.foldl (fun _ _ k => .ite k.enqueue k))))

theorem Dev.SameNow.electionTimer (h : d0.SameNow d) : d0.SameNow (Machine.electionTimer d) := by
  unfold Machine.electionTimer
  split
  · exact .ite h.setManager h
  · exact h

theorem Dev.SameNow.managerSilence (h : d0.SameNow d) : d0.SameNow (Machine.managerSilence d) := by
  unfold Machine.managerSilence
  split
  · split
    · exact .ite (.share (fun l0 => .setManager (.countModules (.ite l0.put.info l0))) h.withSys.withSys.withSys) h
    · exact h
  · exact h

theorem Dev.SameNow.timeExchange {p : Nat} (h : d0.SameNow d) : d0.SameNow (Machine.timeExchange p d) :=
  .ite h h.enqueue

theorem Dev.SameNow.timeEnvelope {p : Nat} {t1 t2 t3 t4 : Int} (h : d0.SameNow d) :
    d0.SameNow (Machine.timeEnvelope p t1 t2 t3 t4 d) :=
  .ite h.takeInbox h.takeInbox.setLink.setReg.setReg.syncCheck

theorem Dev.SameNow.timeReport {rs : List (Nat × Option Int)} (h : d0.SameNow d) :
    d0.SameNow (Machine.timeReport rs d) := by
  unfold Machine.timeReport
  refine h.foldl (fun _ _ k => .ite k.withSys (.ite ?_ (.info (.put ?_))))
  · split
    · exact k.withSys.setReg
    · exact k.withSys
  · split
    · exact k.withSys.setReg
    · exact k.withSys

/-! ### Access checkers -/

theorem Dev.SameNow.takeLocks {k : Nat} (h : d0.SameNow d) : d0.SameNow (d.takeLocks k) := h.withProt

theorem Dev.SameNow.debugRespond {r : Response} (h : d0.SameNow d) : d0.SameNow (d.debugRespond r) := h.withProt

theorem Dev.SameNow.debugNow {write : Bool} {pa : Nat} {bytes : List Byte} {len : Nat} {x : Dev × Mem}
    (h : d0.SameNow x.1) :
    d0.SameNow (Machine.debugNow write pa bytes len x).1 :=
  .ite_fst h.checkedWrite.debugRespond h.checkedRead.debugRespond

theorem Dev.SameNow.debugAccess {write : Bool} {pa len : Nat} {bytes : List Byte} {authed : Bool} {x : Dev × Mem} (h
    : d0.SameNow x.1) : d0.SameNow (Machine.debugAccess write pa len bytes authed x).1 :=
  .ite_fst h.debugRespond (.ite_fst h.debugRespond.waitAt h.debugNow)

theorem Dev.SameNow.updateEnter {k : Nat} {v : Word} (h : d0.SameNow d) : d0.SameNow (Machine.updateEnter k v d) :=
  .ite h h.put.put.put

theorem Dev.SameNow.runWaiting {l : List WaitAccess} {x : Dev × Mem} (h : d0.SameNow x.1) :
    d0.SameNow (Machine.runWaiting l x).1 := by
  induction l generalizing x with
  | nil => exact h
  | cons a r ih =>
    cases a with
    | bar2Read => exact ih h.bar2ReadNow
    | bar2Write => exact ih h.bar2WriteNow
    | debug => exact ih h.debugNow
    | cmd => exact ih h

theorem Dev.SameNow.releaseWaiting {k : Nat} {x : Dev × Mem} (h : d0.SameNow x.1) :
    d0.SameNow (Machine.releaseWaiting k x).1 :=
  .runWaiting (h.withProt)

theorem Dev.SameNow.exitFail {k cause a b : Nat} (h : d0.SameNow d) : d0.SameNow (d.exitFail k cause a b) :=
  h.put.put.put.put.info

theorem Dev.SameNow.exitPass {k : Nat} (h : d0.SameNow d) : d0.SameNow (d.exitPass k) :=
  .share (fun l0 => .ite l0.put l0) h.put.put.takeLocks.put.put

theorem Dev.SameNow.updateExit {k : Nat} {v : Word} {x : Dev × Mem} (h : d0.SameNow x.1) :
    d0.SameNow (Machine.updateExit k v x).1 := by
  suffices d0.SameNowPair (Machine.updateExit k v x) from this
  unfold Machine.updateExit
  refine .ite h ?_
  extract_lets e
  have he : d0.SameNow e := h.put.put
  clear_value e
  refine .ite he ?_
  generalize e.rangeFault k = o
  generalize e.overlapFault k = p
  cases o with
  | some r => exact he.exitFail
  | none =>
    cases p with
    | some r => exact he.exitFail
    | none => exact .releaseWaiting he.exitPass

theorem Dev.SameNow.failClosed {k : Nat} {a : WaitAccess} (h : d0.SameNow d) : d0.SameNow (d.failClosed k a) := by
  unfold Dev.failClosed
  split
  · exact h.checkerFault.respond
  · exact h.checkerFault
  · exact h.checkerFault.debugRespond
  · exact h.checkerFault.feedFailed.finish

theorem Dev.SameNow.closedTimeout {k : Nat} (h : d0.SameNow d) : d0.SameNow (Machine.closedTimeout k d) := by
  unfold Machine.closedTimeout
  split
  · exact .ite h.withProt.failClosed h
  · exact h

theorem Dev.SameNow.regionWrite {k r reg : Nat} {v : Word} (h : d0.SameNow d) :
    d0.SameNow (Machine.regionWrite k r reg v d) := by
  unfold Machine.regionWrite
  refine .ite h (.ite h.info (.ite h ?_))
  split
  · exact h.setReg
  · exact h.setReg
  · exact h.setReg
  · exact h

/-! ### Register accesses -/

theorem Dev.SameNow.latchOn {r : RegDesc} {i : Nat} (h : d0.SameNow d) : d0.SameNow (d.latchOn r i) :=
  .ite h.setReg (.ite h.setReg (.ite h.setReg (.ite (h.setReg.foldl (fun _ _ k => k.setReg)) (.ite (h.setReg.foldl
    (fun _ _ k => k.setReg)) (.ite h.setReg (.ite h.setReg (.ite h.setReg (.ite h.setReg h))))))))

theorem Dev.SameNow.readAt {off : Nat} (h : d0.SameNow d) : d0.SameNow (d.readAt off).1 := by
  unfold Dev.readAt
  refine .ite_fst h ?_
  split
  · exact h
  · exact .ite_fst h.capRead h.latchOn

theorem Dev.SameNow.hostRead {off size : Nat} (h : d0.SameNow d) : d0.SameNow (Machine.hostRead off size d) :=
  .ite h (.ite h.respond (.ite h.respond h.readAt.respond))

theorem Dev.SameNow.plainWrite {row : RegRow} {i j : Nat} {v : Word} (h : d0.SameNow d) :
    d0.SameNow (d.plainWrite row i j v) :=
  .ite h (.ite h.put (.ite (.ite h.put.put h) (.ite h.setReg h.setReg)))

theorem Dev.SameNow.faultClear {r : RegDesc} {key i : Nat} {v : Word} (h : d0.SameNow d) :
    d0.SameNow (d.faultClear r key i v) :=
  h.setReg.setLatch.withProt

theorem Dev.SameNow.adcStatus {v : Word} (h : d0.SameNow d) : d0.SameNow (d.adcStatus v) :=
  .ite (.put (.ite h.put h)) (.ite h.put h)

theorem Dev.SameNow.regWrite {row : RegRow} {i j : Nat} {v : Word} (h : d0.SameNow d) :
    d0.SameNow (d.regWrite row i j v) :=
  .ite h.bar2OffsetWrite (.ite (.ite h.queueEnable h.queueDisable) (.ite h.sqDoorbell (.ite h.cqDoorbell (.ite
    h.fenceWrite (.ite h.timeSnap (.ite (.ite h.tb3Rate h) (.ite h.tb3Apply (.ite h.ppsCtrl (.ite h.trigWrite (.ite
    h.refselApply (.ite h.refCfgApply (.ite h.ethCtrl (.ite h.flowApply (.ite h.outFmtWrite (.ite (.ite
    h.dpCtrlApply h.setReg) (.ite h.touchCtrl (.ite h.adcCtrl (.ite h.adcStatus (.ite h.gpioOut (.ite h.paentId
    (.ite h.plnCtrl (.ite h.laneCtrl (.ite h.pairCtrl (.ite h.pairCmd (.ite h.throttleWrite (.ite h.faultClear (.ite
    h.faultClear (.ite h.regionWrite (.ite h.regionWrite (.ite h.regionWrite (.ite h.crcCtrl (.ite h.crcData (.ite
    h.crcData (.ite h.crcData h.plainWrite))))))))))))))))))))))))))))))))))

theorem Dev.SameNow.writeAt {off : Nat} {v : Word} {x : Dev × Mem} (h : d0.SameNow x.1) :
    d0.SameNow (Machine.writeAt off v x).1 := by
  unfold Machine.writeAt
  split
  · exact h.info
  · exact .ite_fst (.ite_fst h.updateEnter h.updateExit) h.regWrite

theorem Dev.SameNow.hostWrite {off size : Nat} {v : Word} {x : Dev × Mem} (h : d0.SameNow x.1) :
    d0.SameNow (Machine.hostWrite off size v x).1 := by
  suffices d0.SameNowPair (Machine.hostWrite off size v x) from this
  obtain ⟨d, m⟩ := x
  unfold Machine.hostWrite
  refine .ite h (.ite h.respond (.ite h (.ite h.respond (.ite ?_ h.writeAt))))
  have hw : d0.SameNow (Machine.writeAt off v (d, m)).1 := Dev.SameNow.writeAt (x := (d, m)) h
  have he := Dev.SameNow.hostEffect (off := off) (v := v) (f := fun d => (Machine.writeAt off v (d, m)).1) (d := d) h hw
  exact he

theorem Dev.SameNow.readBlock {n off : Nat} {vs : List Nat} (h : d0.SameNow d) :
    d0.SameNow (Machine.readBlock n off d vs).1 := by
  induction n generalizing off d vs with
  | zero => exact h
  | succ n ih => exact .ite_fst h (ih h.readAt)

theorem Dev.SameNow.regReadBlock {q seq : Nat} (h : d0.SameNow d) : d0.SameNow (Machine.regReadBlock q seq d) :=
  h.onCmd (fun _ => .ite h.finish (.ite h.finish (h.withTail (.ite h.succeed (.ite h.finish (.ite
    h.readBlock.hostPut.finish h.readBlock.hostPut.succeed))))))

theorem Dev.SameNow.writeBatch {q seq n done : Nat} {bs : List Byte} {x : Dev × Mem} (h : d0.SameNow x.1) :
    d0.SameNow (Machine.writeBatch q seq bs n done x).1 := by
  induction n generalizing bs done x with
  | zero => exact h.succeed
  | succ n ih => exact .ite_fst h.finish (.ite_fst (ih h) (.ite_fst h.finish (ih h.writeAt)))

theorem Dev.SameNow.regWriteBatch {q seq : Nat} {x : Dev × Mem} (h : d0.SameNow x.1) :
    d0.SameNow (Machine.regWriteBatch q seq x).1 := by
  unfold Machine.regWriteBatch
  refine h.onCmdMem (fun _ => .ite_fst (h.withTail h) (.ite_fst h.succeed ?_))
  split
  · exact .writeBatch h
  · exact h.withHost (fun _ => h)

/-! ### Mirror -/

theorem Dev.SameNow.sendSnapshot (h : d0.SameNow d) : d0.SameNow d.sendSnapshot := h.foldl (fun _ _ k => k.setPair)

theorem Dev.SameNow.asCommand {opcode : Nat} {param : List Byte} {f : Nat → Nat → Dev → Dev} (h : d0.SameNow d)
    (hf : ∀ e, d0.SameNow e → d0.SameNow (f snapQ 0 e)) : d0.SameNow (d.asCommand opcode param f) :=
  (hf _ h.setCmds).setCmds

theorem Dev.SameNow.takeParams {opcode : Nat} {param : List Byte} (h : d0.SameNow d) :
    d0.SameNow (d.takeParams opcode param) :=
  .share (fun l0 => .ite l0 (.ite (.asCommand (l0.asCommand (fun _ k => k.streamClose)) (fun _ k => k.streamOpen))
    (.ite (l0.asCommand (fun _ k => k.decodeSetup)) l0))) h.setPair

theorem Dev.SameNow.takeReception {r : Reception} (h : d0.SameNow d) : d0.SameNow (d.takeReception r) := by
  unfold Dev.takeReception
  dsimp only
  split
  · exact .ite h.setPair h.setPair.setRecv
  · exact h.setPair.setRecv.setReg.setReg.setReg

theorem Dev.SameNow.snapStart (h : d0.SameNow d) : d0.SameNow d.snapStart := by
  unfold Dev.snapStart
  exact .setPair (.foldl h.withParts fun _ _ k => k.setCmds)

theorem Dev.SameNow.snapFinish (h : d0.SameNow d) : d0.SameNow d.snapFinish :=
  .setPair (.foldl (h.foldl (fun _ _ k => k.asCommand (fun _ k => k.streamClose))) (fun _ _ k => k.asCommand (fun _
    k => k.remoteClear)))

theorem Dev.SameNow.recordGone {entry : List Byte} (h : d0.SameNow d) : d0.SameNow (d.recordGone entry) := by
  unfold Dev.recordGone
  dsimp only
  split
  · exact h.setQueue.put
  · exact h.setPair

theorem Dev.SameNow.applyItem {i : MirrorItem} {x : Dev × Mem} (h : d0.SameNow x.1) :
    d0.SameNow (Machine.applyItem i x).1 := by
  unfold Machine.applyItem
  dsimp only
  split
  · exact h
  · exact h.snapFinish
  · exact .ite_fst h h.setReg.put.setReg.setQueue
  · exact h.takeParams
  · exact h.takeReception
  · exact .ite_fst h h.put.setReg.setCmds.withHostSt
  · exact h.updCmd
  · exact h.commandStart.commitQueue.commitSnapshot
  · exact h.setPair.settleReady
  · exact h.setPair.settle.popWritten
  · exact h.setPair.setQueue.popWritten
  · exact h.recordGone.setQueue
  · exact .ite_fst h.setReg h.writeAt
  · exact h.setPair
  · exact .ite h.planClaim h
  · exact h.setPair

theorem Dev.SameNow.applyRecord {n : Nat} {i : MirrorItem} {x : Dev × Mem} (h : d0.SameNow x.1) :
    d0.SameNow (Machine.applyRecord n i x).1 := by
  exact .share (fun l => .ite_fst l.setPair.reply l) (.applyItem (.ite h.setPair.snapStart h.setPair))

theorem Dev.SameNow.applyAhead {k : Nat} {x : Dev × Mem} (h : d0.SameNow x.1) :
    d0.SameNow (Machine.applyAhead k x).1 := by
  induction k generalizing x with
  | zero => exact h
  | succ k ih =>
    unfold Machine.applyAhead
    dsimp only
    split
    · exact ih (.applyRecord h.setPair)
    · exact h

theorem Dev.SameNow.mirrorRecord {n : Nat} {i : MirrorItem} {x : Dev × Mem} (h : d0.SameNow x.1) :
    d0.SameNow (Machine.mirrorRecord n i x).1 :=
  .ite_fst h (.syncCheck (.flushHeld (.setPair (.applyAhead (.ite_fst (.applyRecord (h.setPair)) h.setPair)))))

theorem Dev.SameNow.mirrorGap (h : d0.SameNow d) : d0.SameNow (Machine.mirrorGap d) := by
  unfold Machine.mirrorGap
  split
  · exact .ite h (.ite h.resync (.ite h.setPair.reply h))
  · exact h

theorem Dev.SameNow.confirm {q seq : Nat} (h : d0.SameNow d) : d0.SameNow (d.confirm q seq) :=
  .ite h.setCmds.flushQueue (.ite h.setPair h)

theorem Dev.SameNow.mirrorReply {r : MirrorReply} (h : d0.SameNow d) : d0.SameNow (Machine.mirrorReply r d) := by
  unfold Machine.mirrorReply
  refine .ite h ?_
  split
  · exact h.setPair
  · exact .ite h.confirm h
  · exact h.ackAlone
  · exact h.ackAlone.sendSnapshot
  · exact .ite h h.planRelease

/-! ### Boot and profiles -/

theorem Dev.SameNow.setDump {s : Nat} {v : DumpSlot} (h : d0.SameNow d) : d0.SameNow (d.setDump s v) :=
  h.withRecd.setReg

theorem Dev.SameNow.openRecorder (h : d0.SameNow d) : d0.SameNow d.openRecorder :=
  h.setReg.setReg.setReg.put.put.foldl (fun _ _ k => k.setDump)

theorem Dev.SameNow.firmwareLoaded {okA okB : Bool} (h : d0.SameNow d) :
    d0.SameNow (Machine.firmwareLoaded okA okB d) :=
  .ite h (.ite h.put.put h.put)

theorem Dev.SameNow.maintenance {reason : Nat} (h : d0.SameNow d) : d0.SameNow (d.maintenance reason) := h.put.put

theorem Dev.SameNow.loadRegions {im : Image} {k : Nat} (h : d0.SameNow d) : d0.SameNow (d.loadRegions im k) := by
  unfold Dev.loadRegions
  refine h.foldl (fun _ _ k => .ite k ?_)
  split
  · exact k.setReg.setReg.setReg
  · exact k.setReg.setReg.setReg

theorem Dev.SameNow.loadCheckers {im : Image} (h : d0.SameNow d) : d0.SameNow (d.loadCheckers im) :=
  h.foldl (fun _ _ k => .ite k.loadRegions.takeLocks.put k.loadRegions.takeLocks)

theorem Dev.SameNow.loadLead {hd lead : Nat} (h : d0.SameNow d) : d0.SameNow (d.loadLead hd lead) :=
  h.setReg.setReg.put

theorem Dev.SameNow.loadMode {hd mode : Nat} (h : d0.SameNow d) : d0.SameNow (d.loadMode hd mode) :=
  h.setReg.setReg

theorem Dev.SameNow.loadHead {e : HeadEntry} (h : d0.SameNow d) : d0.SameNow (d.loadHead e) :=
  h.loadLead.loadMode.put.put

theorem Dev.SameNow.loadPaent {e : Nat × Nat × Nat × Nat} (h : d0.SameNow d) : d0.SameNow (d.loadPaent e) :=
  h.put.foldl (fun _ _ k => k.put)

theorem Dev.SameNow.loadRef {r priority wtr : Nat} (h : d0.SameNow d) : d0.SameNow (d.loadRef r priority wtr) :=
  .ite h.setRefMon.put.put.put.stopWtr h.setRefMon.put.put

theorem Dev.SameNow.loadLoop {bw : Nat} (h : d0.SameNow d) : d0.SameNow (d.loadLoop bw) := h.withRef.put.bwLimited

theorem Dev.SameNow.reloadRefs {im : Image} (h : d0.SameNow d) : d0.SameNow (d.reloadRefs im) := by
  unfold Dev.reloadRefs
  refine .loadLoop (h.foldl (fun _ _ k => ?_))
  split
  · exact k.loadRef
  · exact k.loadRef

theorem Dev.SameNow.loadTime {im : Image} (h : d0.SameNow d) : d0.SameNow (d.loadTime im) :=
  .setPtp (.setPtp (.setReg (.loadLoop (h.foldl (fun _ _ k => k.loadRef)))))

theorem Dev.SameNow.bootEntry {imageId : Nat} (h : d0.SameNow d) : d0.SameNow (d.bootEntry imageId) := h.storeEntry

theorem Dev.SameNow.trainChannel {bad : List Nat} {ch : Nat} (h : d0.SameNow d) :
    d0.SameNow (d.trainChannel bad ch) :=
  .ite h.setRank.setRank h.setRank.setRank.put.memBit.put

theorem Dev.SameNow.bistBank {e : Nat × Nat} (h : d0.SameNow d) : d0.SameNow (d.bistBank e) := h.put.put.put

theorem Dev.SameNow.ocxoReady (h : d0.SameNow d) : d0.SameNow (Machine.ocxoReady d) := .ite h h.withRef.put

theorem Dev.SameNow.startGrid {hd : Nat} (h : d0.SameNow d) : d0.SameNow (d.startGrid hd) := h.setHead

theorem Dev.SameNow.startPort {p : Nat} (h : d0.SameNow d) : d0.SameNow (d.startPort p) :=
  .share (fun l0 => .ite (l0.foldl (fun _ _ k1 => k1.noSink)) (.ite (.readAndTrain (l0.foldl (fun _ _ k1 => .ite
    k1.put.put k1))) (l0.foldl (fun _ _ k1 => .ite k1.setHeadState k1)))) (.ite h h.setPort)

theorem Dev.SameNow.bootOutputs (h : d0.SameNow d) : d0.SameNow (Machine.bootOutputs d) :=
  .ite h (.pairRun (.put (.foldl (h.put.foldl (fun _ _ k => k.startGrid)) (fun _ _ k => k.startPort))))

theorem Dev.SameNow.rejectImage {q seq : Nat} {f : ImgFail} (h : d0.SameNow d) :
    d0.SameNow (d.rejectImage q seq f) :=
  h.finish

theorem Dev.SameNow.withImage {q seq len : Nat} {c : Cmd} {f : List Byte → Dev → Dev} (h : d0.SameNow d)
    (hf : ∀ bs, d0.SameNow (f bs d)) : d0.SameNow (d.withImage q seq c len f) :=
  .ite (hf _) (h.withHost fun _ => .ite h (hf _))

theorem Dev.SameNow.imageCheck {q seq : Nat} (h : d0.SameNow d) : d0.SameNow (Machine.imageCheck q seq d) := by
  unfold Machine.imageCheck
  refine h.onCmd (fun _ => h.withTail (h.withImage (fun _ => ?_)))
  split
  · exact h.rejectImage
  · exact h.succeed

theorem Dev.SameNow.withSlot {q seq tail : Nat} {c : Cmd} {f : Nat → Dev → Dev} (h : d0.SameNow d)
    (hf : ∀ n, d0.SameNow (f n d)) : d0.SameNow (d.withSlot q seq c tail f) :=
  .ite h.bad (h.withTail (.ite h (hf _)))

theorem Dev.SameNow.abandonCommits (h : d0.SameNow d) : d0.SameNow d.abandonCommits :=
  .grpPending (.setCommits (h.foldl (fun _ _ k => k.abandon)))

theorem Dev.SameNow.stopHead {hd : Nat} (h : d0.SameNow d) : d0.SameNow (d.stopHead hd) :=
  .setHead (h.foldl (fun _ _ k => k.frameEnd))

theorem Dev.SameNow.clearFabric (h : d0.SameNow d) : d0.SameNow d.clearFabric := by
  unfold Dev.clearFabric
  exact .foldl (.foldl (.foldl h.withParts fun _ _ k => k.setLeases) fun _ _ k => k.put.put) fun _ _ k => k.put

theorem Dev.SameNow.newRates {im : Image} (h : d0.SameNow d) : d0.SameNow (d.newRates im) := h.withRecd

theorem Dev.SameNow.swapRegions {im : Image} (h : d0.SameNow d) : d0.SameNow (d.swapRegions im) :=
  h.foldl (fun _ _ k => .ite k.loadRegions.takeLocks.put k.loadRegions.takeLocks)

theorem Dev.SameNow.switchHead {im : Image} {hd : Nat} (h : d0.SameNow d) : d0.SameNow (d.switchHead im hd) := by
  unfold Dev.switchHead
  dsimp only
  split
  · exact .ite h.setHead.setReg h
  · exact .share (fun l0 => .ite l0.setHead (.setHead (.ite l0.setHead l0.setHead.startGrid)))
      h.loadMode.loadLead.put.put

theorem Dev.SameNow.switchPort {old : List Nat} {p : Nat} (h : d0.SameNow d) : d0.SameNow (d.switchPort old p) :=
  .ite (.ite h h.linkDown) (.ite (h.foldl (fun _ _ k => k.linkReady)) h.startPort)

/-! ### Recorder -/

theorem Dev.SameNow.recorderEvent {e : RecEvent} (h : d0.SameNow d) : d0.SameNow (Machine.recorderEvent e d) := by
  unfold Machine.recorderEvent
  split
  · exact .ite h.record h
  · exact h

theorem Dev.SameNow.flashProgram (h : d0.SameNow d) : d0.SameNow (Machine.flashProgram d) := by
  unfold Machine.flashProgram
  split
  · exact h
  · exact .ite h (.share (fun l0 => .ite (.ite l0.put l0) (.storeEntry (.put (.withRecd (.ite l0.put l0))))) (.ite
      h.withRecd.setReg.put.setReg h.withRecd.setReg.put))

theorem Dev.SameNow.giveHost {q seq addr : Nat} {bs : List Byte} {result : Nat} (h : d0.SameNow d) :
    d0.SameNow (d.giveHost q seq addr bs result) :=
  .ite h.succeed (.ite h.finish h.hostPut.succeed)

theorem Dev.SameNow.recRead {q seq : Nat} (h : d0.SameNow d) : d0.SameNow (Machine.recRead q seq d) := by
  unfold Machine.recRead
  refine h.onCmd (fun _ => ?_)
  split
  · exact h.bad
  · exact h.withTail (.ite h.reject (.ite h.bad h.giveHost))

theorem Dev.SameNow.recCatalogue {q seq : Nat} (h : d0.SameNow d) : d0.SameNow (Machine.recCatalogue q seq d) := by
  unfold Machine.recCatalogue
  refine h.onCmd (fun _ => ?_)
  split
  · exact h.bad
  · refine h.withTail (?_)
    split
    · exact h.giveHost
    · exact h.succeed

theorem Dev.SameNow.dumpWrite {x : Dev × Mem} (h : d0.SameNow x.1) : d0.SameNow (Machine.dumpWrite x).1 := by
  suffices d0.SameNowPair (Machine.dumpWrite x) from this
  unfold Machine.dumpWrite
  refine .ite h ?_
  extract_lets +onlyGivenNames src e ring m
  have he : d0.SameNow e := h
  clear_value e m ring
  generalize e.packDump ring 1024 0 [] = z
  obtain ⟨body, n, cut⟩ := z
  generalize e.dumpSlot = o
  cases o with
  | none => exact he.info
  | some s => exact he.setDump.withRecd

theorem Dev.SameNow.dumpComplete (h : d0.SameNow d) : d0.SameNow (Machine.dumpComplete d) := by
  unfold Machine.dumpComplete
  split
  · exact h
  · exact h.withRecd.setDump

theorem Dev.SameNow.withDump {q seq tail : Nat} {c : Cmd} {f : Nat → Dev → Dev} (h : d0.SameNow d)
    (hf : ∀ n, d0.SameNow (f n d)) : d0.SameNow (d.withDump q seq c tail f) :=
  h.withTail (.ite h (.ite h.reject (hf _)))

theorem Dev.SameNow.dumpRead {q seq : Nat} (h : d0.SameNow d) : d0.SameNow (Machine.dumpRead q seq d) := by
  unfold Machine.dumpRead
  refine h.onCmd (fun _ => ?_)
  split
  · exact h.bad
  · exact h.withDump (fun _ => .ite h.reject h.giveHost)

theorem Dev.SameNow.dumpKeep {q seq : Nat} (h : d0.SameNow d) : d0.SameNow (Machine.dumpKeep q seq d) :=
  h.onCmd (fun _ => .ite h.bad (h.withDump (fun _ => h.setDump.succeed)))

theorem Dev.SameNow.dumpErase {q seq : Nat} (h : d0.SameNow d) : d0.SameNow (Machine.dumpErase q seq d) :=
  h.onCmd (fun _ => h.withDump (fun _ => h.setDump.succeed))

theorem Dev.SameNow.badTest {q seq i : Nat} (h : d0.SameNow d) : d0.SameNow (d.badTest q seq i) := h.finish

theorem Dev.SameNow.testStart {q seq : Nat} (h : d0.SameNow d) : d0.SameNow (Machine.testStart q seq d) := by
  unfold Machine.testStart
  refine h.onCmd (fun _ => h.withTail (?_))
  dsimp only
  split
  · exact h.badTest
  · exact .ite h.reject (.ite h.reject h.withRecd.setReg.setReg.succeed)

theorem Dev.SameNow.testStop {q seq errors bits : Nat} (h : d0.SameNow d) :
    d0.SameNow (Machine.testStop q seq errors bits d) := by
  unfold Machine.testStop
  refine h.onCmd (fun _ => h.withTail (?_))
  dsimp only
  split
  · exact h.badTest
  · exact .succeed (.ite h.bump.bumpWrap.withRecd h)

theorem Dev.SameNow.memInject {q seq : Nat} {x : Dev × Mem} (h : d0.SameNow x.1) :
    d0.SameNow (Machine.memInject q seq x).1 := by
  unfold Machine.memInject
  refine h.onCmdMem (fun _ => .ite_fst (h.withTail h) ?_)
  split
  · exact h.badTest
  · exact .ite_fst (.ite_fst h h.withRecd.succeed) (.ite_fst h.reject h.withRecd)

theorem Dev.SameNow.touchTest {q seq : Nat} {raw : List (List Nat)} {side : List Nat} {x : Dev × Mem}
    (h : d0.SameNow x.1) :
    d0.SameNow (Machine.touchTest q seq raw side x).1 := by
  unfold Machine.touchTest
  refine h.onCmdMem (fun _ => .ite_fst (h.withTail h) (.ite_fst h.badTest (.ite_fst h.reject (.ite_fst h.finish
    (.ite_fst h.waitAt ?_)))))
  dsimp only
  split
  · exact h.checkedWrite.hostPut.finish
  · exact h.checkedWrite.hostPut.succeed

theorem Dev.SameNow.adcSelfCheck {q seq : Nat} {codes : List (List Int)} (h : d0.SameNow d) :
    d0.SameNow (Machine.adcSelfCheck q seq codes d) :=
  h.onCmd (fun _ => h.withTail (.ite h.reject h.succeed))

/-! ### Power and resets -/

theorem Dev.SameNow.setPwr {x : PwrSt} (h : d0.SameNow d) : d0.SameNow (d.setPwr x) := h.withPwr

theorem Dev.SameNow.setFeed {f : Nat} {v : Feed} (h : d0.SameNow d) : d0.SameNow (d.setFeed f v) :=
  .ite h.setPwr h.setPwr

theorem Dev.SameNow.feedAbove {f : Nat} (h : d0.SameNow d) : d0.SameNow (Machine.feedAbove f d) := .ite h h.setFeed

theorem Dev.SameNow.feedAccepted {f : Nat} (h : d0.SameNow d) : d0.SameNow (Machine.feedAccepted f d) := by
  unfold Machine.feedAccepted
  dsimp only
  split
  · exact .ite h h.setFeed.put.put
  · exact h

theorem Dev.SameNow.stageLost (h : d0.SameNow d) : d0.SameNow d.stageLost := .ite h h.withRegs.setPwr

theorem Dev.SameNow.feedLost {f : Nat} {v : Feed} (h : d0.SameNow d) : d0.SameNow (d.feedLost f v) :=
  .share (fun l0 => .ite l0.put.stageLost (.ite (.ite l0.put.info l0.put) (.ite l0.put.put.info l0.put.put)))
    h.setFeed.put

theorem Dev.SameNow.feedTurnOff {f : Nat} (h : d0.SameNow d) : d0.SameNow (Machine.feedTurnOff f d) :=
  .ite h (.ite h.feedLost h.setFeed)

theorem Dev.SameNow.feedOvervoltage {f : Nat} (h : d0.SameNow d) : d0.SameNow (Machine.feedOvervoltage f d) :=
  .ite h (.ite h.put.feedLost h.setFeed)

theorem Dev.SameNow.powerGood (h : d0.SameNow d) : d0.SameNow (Machine.powerGood d) := .ite h h.setPwr

theorem Dev.SameNow.resetQueue {cut : List (Nat × Nat)} {q : Nat} (h : d0.SameNow d) :
    d0.SameNow (d.resetQueue cut q) :=
  .setQueue (.foldl (h.foldl (fun _ _ k => k.feedFailed.finish)) (fun _ _ k => k.setReg))

theorem Dev.SameNow.hostInterfaceReset {cut : List (Nat × Nat)} (h : d0.SameNow d) :
    d0.SameNow (Machine.hostInterfaceReset cut d) :=
  .ite h (h.withHostSt.setReg.setReg.foldl (fun _ _ k => k.resetQueue))

theorem Dev.SameNow.thermalRestart (h : d0.SameNow d) : d0.SameNow (Machine.thermalRestart d) :=
  .ite h h.put.bump.put.setPwr.powerGood

theorem Dev.SameNow.plateHigh {plate : Int} (h : d0.SameNow d) : d0.SameNow (Machine.plateHigh plate d) :=
  .ite h (.ite (.ite h (.ite h.put.info h.put)) h.put)

end Sys2Proof.Machine
end

section
/-! PROOFS. Time (log 1): the functions that move boot, and the resets, keep the present instant too. -/

namespace Sys2Proof.Machine

variable {d0 d : Dev}

/-! ### Boot and profiles -/

theorem Dev.SameNow.setBoot {b : BootSt} (h : d0.SameNow d) : d0.SameNow (d.setBoot b) := h.withBoot

theorem Dev.SameNow.setSlot {n : Nat} {v : Slot} (h : d0.SameNow d) : d0.SameNow (d.setSlot n v) := h.setBoot.put

theorem Dev.SameNow.choose {slot : Nat} (h : d0.SameNow d) : d0.SameNow (d.choose slot) := h.setBoot.put

theorem Dev.SameNow.firstScanned {g n : Nat} (h : d0.SameNow d) : d0.SameNow (d.firstScanned g n) := by
  unfold Dev.firstScanned
  split
  · exact h
  · exact h.setBoot.put.succeed

theorem Dev.SameNow.headFrameStart {i n : Nat} {x : Dev × Mem} (h : d0.SameNow x.1) :
    d0.SameNow (Machine.headFrameStart i n x).1 := by
  unfold Machine.headFrameStart
  refine .ite_fst h ?_
  extract_lets +onlyGivenNames a hd b c st comes e f g
  have hc : d0.SameNow c := (h.foldl fun _ _ k => k.frameEnd).setHead.setReg
  have he : d0.SameNow e := .ite (hc.watchViews hc.setHead.setHeadState) hc
  have hf : d0.SameNow f := .ite he.firstScanned he
  have hg : d0.SameNow g := hf.blankHeld.endHolds.flushHeld
  clear_value g
  exact .wbFlush (x := (_, x.2)) hg.wbTake

theorem Dev.SameNow.clockAbsent {dom inst : Nat} {x : Dev × Mem} (h : d0.SameNow x.1) :
    d0.SameNow (Machine.clockAbsent dom inst x).1 := by
  unfold Machine.clockAbsent
  dsimp only
  split
  · exact h.fatal
  · exact h.ethLinkLost
  · exact h.portClockLost
  · exact .ite h.attempt h
  · exact h.laneLol
  · exact .ite_fst h h.failChannel
  · exact h.touchClockLost.touchClockLost
  · exact h.adcClockLost
  · exact h.setBoot.ocxoLost.degraded
  · exact h

theorem Dev.SameNow.clockLost {dom inst : Nat} {x : Dev × Mem} (h : d0.SameNow x.1) :
    d0.SameNow (Machine.clockLost dom inst x).1 :=
  .ite_fst h (.clockAbsent h.clockGone)

theorem Dev.SameNow.clockPresent {dom inst : Nat} (h : d0.SameNow d) : d0.SameNow (Machine.clockPresent dom inst d) := by
  have hb : d0.SameNow (d.clockBack dom inst) := h.clockBack
  unfold Machine.clockPresent
  dsimp only
  split
  · exact hb.foldl fun _ _ k => k.flushQueue
  · exact hb.portClockReturn
  · exact hb.touchValid.touchValid
  · exact hb.setBoot.ocxoReturn
  · exact hb

theorem Dev.SameNow.bootStart {profsel : Nat} {preferred : Bool} (h : d0.SameNow d) :
    d0.SameNow (Machine.bootStart profsel preferred d) := by
  unfold Machine.bootStart
  refine .ite h (.openRecorder (.put (.put (.put ?_))))
  exact h

theorem Dev.SameNow.configure {slot : Nat} {bytes : List Byte} {im : Image} (h : d0.SameNow d) :
    d0.SameNow (d.configure slot bytes im) := by
  unfold Dev.configure
  refine .withPwr (.foldl (.decRegs (.foldl (.foldl ?_ ?_) ?_)) ?_)
  · exact h.setBoot.put.put.setReg.put.loadCheckers.bootEntry
  · exact fun _ _ k => k.loadPaent
  · exact fun _ _ k => k.loadHead
  · exact fun _ _ k => k.groupRegs

theorem Dev.SameNow.imageValidated (h : d0.SameNow d) : d0.SameNow (Machine.imageValidated d) := by
  unfold Machine.imageValidated
  refine .ite h ?_
  extract_lets +onlyGivenNames a v b c slot stop
  have hc : d0.SameNow c := h.put.put.put.put.put.put.put
  have hs : ∀ r, d0.SameNow (stop r) := fun r => hc.bootEntry.maintenance
  clear_value c stop
  refine .ite (hs _) ?_
  split
  · exact hs _
  · exact hc.configure

theorem Dev.SameNow.memoryTrained {badRanks : List Nat} {repairs : List (Nat × Nat)} (h : d0.SameNow d) :
    d0.SameNow (Machine.memoryTrained badRanks repairs d) := by
  unfold Machine.memoryTrained
  refine .ite h ?_
  extract_lets +onlyGivenNames lost a b c e
  have ha : d0.SameNow a := h.foldl fun _ _ k => k.trainChannel
  have hc : d0.SameNow c := (ha.foldl fun _ _ k => k.bistBank).put.put
  exact .ite ha.maintenance hc.setBoot.put.loadTime.put

theorem Dev.SameNow.ocxoSteady (h : d0.SameNow d) : d0.SameNow (Machine.ocxoSteady d) := by
  unfold Machine.ocxoSteady
  refine .ite h (.ocxoReturn ?_)
  exact h

theorem Dev.SameNow.imageWrite {q seq : Nat} {flashOk : Bool} (h : d0.SameNow d) :
    d0.SameNow (Machine.imageWrite q seq flashOk d) := by
  refine h.onCmd fun c => h.withSlot fun slot => h.withImage fun bs => ?_
  split
  · exact h.rejectImage
  · exact .ite h.reject (.ite h.setSlot.reject h.setSlot.succeed)

theorem Dev.SameNow.slotErase {q seq : Nat} {flashOk : Bool} (h : d0.SameNow d) :
    d0.SameNow (Machine.slotErase q seq flashOk d) :=
  h.onCmd fun _ => h.withSlot fun _ => .ite h.reject (.ite h.setSlot.succeed h.setSlot.reject)

theorem Dev.SameNow.slotChoose {q seq : Nat} {flashOk : Bool} (h : d0.SameNow d) :
    d0.SameNow (Machine.slotChoose q seq flashOk d) :=
  h.onCmd fun _ => h.withSlot fun _ => .ite h.choose.succeed h.setBoot.reject

theorem Dev.SameNow.profileSwitch {q seq : Nat} (h : d0.SameNow d) : d0.SameNow (Machine.profileSwitch q seq d) := by
  refine h.onCmd fun c => .ite h.bad (h.withSlot fun slot => .ite h (.ite h.reject ?_))
  split
  · exact h.rejectImage
  · exact h.abandonCommits.put.setBoot

theorem Dev.SameNow.switchImage {slot : Nat} (h : d0.SameNow d) : d0.SameNow (d.switchImage slot) := by
  unfold Dev.switchImage
  extract_lets +onlyGivenNames bs old parsed im ports a b b' c
  have hb : d0.SameNow b := .newRates
    (.share (fun k => k.watchViews (f := Dev.clearFabric) k.clearFabric) (h.foldl fun _ _ k => k.stopHead))
  clear_value b
  have hc : d0.SameNow c := hb.setBoot
  clear_value c
  exact .share (fun k => .encRegs (.foldl (.ite (k.foldl fun _ _ k => k.switchPort) k) fun _ _ k => k.groupRegs))
    (.select (.foldl hc.put.setReg.swapRegions.reloadRefs fun _ _ k => k.switchHead))

theorem Dev.SameNow.fabricRestartDone (h : d0.SameNow d) : d0.SameNow (Machine.fabricRestartDone d) := by
  unfold Machine.fabricRestartDone
  split
  · refine .ite h ?_
    extract_lets +onlyGivenNames a b
    have hb : d0.SameNow b := .ite h.switchImage.choose h.switchImage
    exact .ite hb.setBoot hb.put.succeed
  · exact .ite h (h.withErr.restoreJournal.foldl fun _ _ k => k.headResumes)

theorem Dev.SameNow.lifecycleSeal {q seq : Nat} (h : d0.SameNow d) : d0.SameNow (Machine.lifecycleSeal q seq d) :=
  h.onCmd fun _ => .ite h.bad (h.withTail (h.withHost fun _ => .ite h (.ite h.reject h.setBoot.put.succeed)))

/-! ### Resets and the loss of power -/

theorem Dev.SameNow.interrupted {cut : CutOff} (h : d0.SameNow d) : d0.SameNow (d.interrupted cut) := by
  unfold Dev.interrupted
  extract_lets +onlyGivenNames busy cutBoot a b used
  have ha : d0.SameNow a := by
    change d0.SameNow (match cut.slot with | some n => _ | none => d)
    split
    · exact .ite h.setBoot h
    · exact h
  have hb : d0.SameNow b := .ite ha.setBoot ha
  exact .ite hb.withRecd hb

/-- The logic after a reset goes on at the instant of the reset. -/
theorem Dev.SameNow.resetLogic {cold : Bool} (h : d0.SameNow d) : d0.SameNow (d.resetLogic cold) := by
  unfold Dev.resetLogic
  extract_lets b rb rr rf rc rp a
  have ha : d0.SameNow a := h
  exact .ite ha.put ha

theorem Dev.SameNow.powerOff {cut : CutOff} {x : Dev × Mem} (h : d0.SameNow x.1) :
    d0.SameNow (Machine.powerOff cut x).1 :=
  h.interrupted.resetLogic.setPwr

theorem Dev.SameNow.holdupEnd {cut : CutOff} {x : Dev × Mem} (h : d0.SameNow x.1) :
    d0.SameNow (Machine.holdupEnd cut x).1 :=
  .ite_fst h h.powerOff.stageLost

theorem Dev.SameNow.moduleReset {cut : CutOff} {x : Dev × Mem} (h : d0.SameNow x.1) :
    d0.SameNow (Machine.moduleReset cut x).1 :=
  .ite_fst h h.interrupted.resetLogic.put.bump.setPwr

theorem Dev.SameNow.thermalTrip {cut : CutOff} {x : Dev × Mem} (h : d0.SameNow x.1) :
    d0.SameNow (Machine.thermalTrip cut x).1 :=
  .ite_fst h h.powerOff.setPwr.stageLost

/-! ### Every command -/

/-- A command answers a state at its own instant, or at the one before if that is later. -/
def State.AtInstant (s : State) (t : Nat) (o : Host.Outcome State Fault Refusal) : Prop :=
  ∀ s', o = .next s' → s'.dev.now = max s.dev.now t

section
variable {s : State} {t : Nat} {f : Dev → Dev} {g : Dev × Mem → Dev × Mem}

theorem State.AtInstant.dev (h : (s.dev.clock t).SameNow (f (s.dev.clock t))) : s.AtInstant t (s.onDev t f) := by
  intro s' he
  cases he
  exact h

theorem State.AtInstant.all (h : (s.dev.clock t).SameNow (g (s.dev.clock t, s.mem)).1) : s.AtInstant t (s.onAll t g) := by
  intro s' he
  cases he
  exact h

theorem State.AtInstant.gated {off : Nat} (h : (s.dev.clock t).SameNow (f (s.dev.clock t))) :
    s.AtInstant t (s.onDev t (·.gated off f)) :=
  .dev (.gated (.refl _) h)

theorem State.AtInstant.gatedM {off : Nat} {v : Word} (h : (s.dev.clock t).SameNow (f (s.dev.clock t))) :
    s.AtInstant t (s.onDev t (·.gatedM off v f)) :=
  .dev (.gatedM (.refl _) h)

end

theorem atInstant_exec (c : Instr) (s : State) : ∃ t, s.AtInstant t (exec c s) := by
  have k : ∀ t, (s.dev.clock t).SameNow (s.dev.clock t) := fun _ => .refl _
  cases c with
  | domainClockLost t => exact ⟨t, .all (.clockLost (k t))⟩
  | domainClockPresent t => exact ⟨t, .dev (.clockPresent (k t))⟩
  | watchdogExpiry t => exact ⟨t, .dev (.watchdog (k t))⟩
  | mgmtCoreRestartDone t => exact ⟨t, .dev (.coreRestarted (k t))⟩
  | registerWrite t => exact ⟨t, .all (.hostWrite (k t))⟩
  | lowWordLatchRead t => exact ⟨t, .dev (.hostRead (k t))⟩
  | pcieConfigRequest t => exact ⟨t, .dev (.cfgRequest (k t))⟩
  | bar2Read t => exact ⟨t, .all (.bar2Read (k t))⟩
  | bar2Write t => exact ⟨t, .all (.bar2Write (k t))⟩
  | bar2OffsetWrite t => exact ⟨t, .gated (.bar2OffsetWrite (k t))⟩
  | hostReadCompletion t => exact ⟨t, .dev (.hostReadCompletion (k t))⟩
  | hostReadTimeout t => exact ⟨t, .dev (.hostReadTimeout (k t))⟩
  | hostWriteTimeout t => exact ⟨t, .dev (.hostWriteTimeout (k t))⟩
  | queueEnable t => exact ⟨t, .gated (.queueEnable (k t))⟩
  | queueDisable t => exact ⟨t, .gated (.queueDisable (k t))⟩
  | sqTailDoorbell t => exact ⟨t, .gated (.sqDoorbell (k t))⟩
  | cqHeadDoorbell t => exact ⟨t, .gated (.cqDoorbell (k t))⟩
  | commandEntryFetched t => exact ⟨t, .dev (.entryFetched (k t))⟩
  | commandStart t => exact ⟨t, .dev (.commandStart (k t))⟩
  | commandDeadline t => exact ⟨t, .dev (.commandDeadline (k t))⟩
  | completionWrite t => exact ⟨t, .dev (.completionWrite (k t))⟩
  | fenceWrite t => exact ⟨t, .gatedM (.fenceWrite (k t))⟩
  | nop t => exact ⟨t, .dev (.nop (k t))⟩
  | sync t => exact ⟨t, .dev (.sync (k t))⟩
  | fenceSignal t => exact ⟨t, .dev (.fenceSignal (k t))⟩
  | dmaCopy t => exact ⟨t, .all (.dmaCopy (k t))⟩
  | dmaFill t => exact ⟨t, .all (.dmaFill (k t))⟩
  | regReadBlock t => exact ⟨t, .dev (.regReadBlock (k t))⟩
  | regWriteBatch t => exact ⟨t, .all (.regWriteBatch (k t))⟩
  | forwardedCommandReceived t => exact ⟨t, .dev (.forwardedReceived (k t))⟩
  | forwardedOutcome t => exact ⟨t, .dev (.forwardedOutcome (k t))⟩
  | forwardTimeout t => exact ⟨t, .dev (.forwardTimeout (k t))⟩
  | bootStart t => exact ⟨t, .dev (.bootStart (k t))⟩
  | bootFirmwareLoaded t => exact ⟨t, .dev (.firmwareLoaded (k t))⟩
  | bootImageValidated t => exact ⟨t, .dev (.imageValidated (k t))⟩
  | bootMemoryTrained t => exact ⟨t, .dev (.memoryTrained (k t))⟩
  | ocxoSteady t => exact ⟨t, .dev (.ocxoSteady (k t))⟩
  | ocxoReady t => exact ⟨t, .dev (.ocxoReady (k t))⟩
  | bootOutputs t => exact ⟨t, .dev (.bootOutputs (k t))⟩
  | imageCheck t => exact ⟨t, .dev (.imageCheck (k t))⟩
  | imageWrite t => exact ⟨t, .dev (.imageWrite (k t))⟩
  | slotErase t => exact ⟨t, .dev (.slotErase (k t))⟩
  | slotChoose t => exact ⟨t, .dev (.slotChoose (k t))⟩
  | profileSwitch t => exact ⟨t, .dev (.profileSwitch (k t))⟩
  | fabricRestartDone t => exact ⟨t, .dev (.fabricRestartDone (k t))⟩
  | lifecycleSeal t => exact ⟨t, .dev (.lifecycleSeal (k t))⟩
  | wtUnsetTimeout t => exact ⟨t, .dev (.wtUnsetTimeout (k t))⟩
  | ptpMessageReceived t => exact ⟨t, .dev (.ptpMessage (k t))⟩
  | ptpReceiptTimeout t => exact ⟨t, .dev (.ptpTimeout (k t))⟩
  | holdoverTrustExpiry t => exact ⟨t, .dev (.trustExpiry (k t))⟩
  | wtFollow t => exact ⟨t, .dev (.wtFollow (k t))⟩
  | ptpPorts t => exact ⟨t, .dev (.ptpPorts (k t))⟩
  | timeSnap t => exact ⟨t, .gated (.timeSnap (k t))⟩
  | tb3Apply t => exact ⟨t, .gatedM (.tb3Apply (k t))⟩
  | tb3RateAdjWrite t => exact ⟨t, .gatedM (.tb3Rate (k t))⟩
  | ppsCtrlWrite t => exact ⟨t, .gatedM (.ppsCtrl (k t))⟩
  | ppsOutRise t => exact ⟨t, .dev (.ppsRise (k t))⟩
  | ppsOutFall t => exact ⟨t, .dev (.ppsFall (k t))⟩
  | ethFrameReceived t => exact ⟨t, .all (.ethFrame (k t))⟩
  | launchFrameSubmit t => exact ⟨t, .dev (.launchSubmit (k t))⟩
  | launchTimeReached t => exact ⟨t, .dev (.launchReached (k t))⟩
  | trigApply t => exact ⟨t, .gated (.trigApply (k t))⟩
  | triggerEvent t => exact ⟨t, .dev (.triggerEvent (k t))⟩
  | triggerPulseEnd t => exact ⟨t, .dev (.trigPulseEnd (k t))⟩
  | captureEdge t => exact ⟨t, .dev (.captureEdge (k t))⟩
  | capTimeLoRead t => exact ⟨t, .dev (.capReadRow (k t))⟩
  | refActivityLost t => exact ⟨t, .dev (.refActivityLost (k t))⟩
  | refFreqGate t => exact ⟨t, .dev (.refFreqGate (k t))⟩
  | refWtrExpiry t => exact ⟨t, .dev (.refWtrExpiry (k t))⟩
  | pullComplete t => exact ⟨t, .dev (.pullComplete (k t))⟩
  | holdoverReadyTimer t => exact ⟨t, .dev (.holdoverReady (k t))⟩
  | ocxoLost t => exact ⟨t, .dev (.ocxoLost (k t))⟩
  | ocxoReturn t => exact ⟨t, .dev (.ocxoReturn (k t))⟩
  | refselApply t => exact ⟨t, .gatedM (.refselApply (k t))⟩
  | refCfgApply t => exact ⟨t, .gatedM (.refCfgApply (k t))⟩
  | ethCtrlWrite t => exact ⟨t, .gated (.ethCtrl (k t))⟩
  | ethLinkLost t => exact ⟨t, .dev (.ethLinkLost (k t))⟩
  | ethLinkUp t => exact ⟨t, .dev (.ethLinkUp (k t))⟩
  | flowApply t => exact ⟨t, .gatedM (.flowApply (k t))⟩
  | frameHoldExpiry t => exact ⟨t, .all (.holdExpiry (k t))⟩
  | assemblyTimeout t => exact ⟨t, .all (.assemblyTimeout (k t))⟩
  | legInactive t => exact ⟨t, .dev (.legInactive (k t))⟩
  | streamOpen t => exact ⟨t, .dev (.streamOpen (k t))⟩
  | streamClose t => exact ⟨t, .dev (.streamClose (k t))⟩
  | mcastJoin t => exact ⟨t, .dev (.mcastJoin (k t))⟩
  | mcastLeave t => exact ⟨t, .dev (.mcastLeave (k t))⟩
  | decodeStart t => exact ⟨t, .all (.decodeStart (k t))⟩
  | decodeComplete t => exact ⟨t, .all (.decodeComplete (k t))⟩
  | decodeNoSlotTimeout t => exact ⟨t, .dev (.decodeNoSlot (k t))⟩
  | decodeEngineTimeout t => exact ⟨t, .dev (.decodeEngineTimeout (k t))⟩
  | decodeEngineParity t => exact ⟨t, .dev (f := (·.engineFail _)) (.engineFail (k t))⟩
  | decodeWindowEnd t => exact ⟨t, .dev (.decodeWindow (k t))⟩
  | decodeSetup t => exact ⟨t, .dev (.decodeSetup (k t))⟩
  | decodeReset t => exact ⟨t, .dev (.decodeResetCmd (k t))⟩
  | commit t => exact ⟨t, .dev (.commitQueue (k t))⟩
  | canvasCommit t => exact ⟨t, .dev (.canvasCommit (k t))⟩
  | canvasJoin t => exact ⟨t, .dev (.canvasJoin (k t))⟩
  | commitValidate t => exact ⟨t, .dev (.commitValidate (k t))⟩
  | commitValidationDone t => exact ⟨t, .dev (.commitValidated (k t))⟩
  | headFrameBoundary t => exact ⟨t, .dev (.headBoundary (k t))⟩
  | headFrameStart t => exact ⟨t, .all (.headFrameStart (k t))⟩
  | leaseEnd t => exact ⟨t, .dev (.leaseEnd (k t))⟩
  | canvasPrepare t => exact ⟨t, .dev (.canvasPrepare (k t))⟩
  | canvasAccept t => exact ⟨t, .dev (.canvasAccept (k t))⟩
  | canvasApply t => exact ⟨t, .dev (.canvasApply (k t))⟩
  | canvasDrop t => exact ⟨t, .dev (.canvasDrop (k t))⟩
  | canvasAppliedReport t => exact ⟨t, .dev (.canvasReport (k t))⟩
  | canvasMemberTimeout t => exact ⟨t, .dev (.canvasMemberTimeout (k t))⟩
  | canvasReadyTimeout t => exact ⟨t, .dev (.canvasReadyTimeout (k t))⟩
  | canvasReportTimeout t => exact ⟨t, .dev (.canvasReportTimeout (k t))⟩
  | canvasTransit t => exact ⟨t, .dev (.canvasTransit (k t))⟩
  | scalerParityError t => exact ⟨t, .dev (.scalerParity (k t))⟩
  | headOutFmtWrite t => exact ⟨t, .gatedM (.outFmtWrite (k t))⟩
  | lineRelease t => exact ⟨t, .dev (.lineRelease (k t))⟩
  | lineComposed t => exact ⟨t, .all (.lineComposed (k t))⟩
  | lineRead t => exact ⟨t, .all (.lineRead (k t))⟩
  | governorWindow t => exact ⟨t, .dev (.governorWindow (k t))⟩
  | hpdRise t => exact ⟨t, .dev (.hpdRise (k t))⟩
  | hpdIrq t => exact ⟨t, .dev (.hpdIrq (k t))⟩
  | hpdUnplug t => exact ⟨t, .dev (.hpdUnplug (k t))⟩
  | trainingConfigDone t => exact ⟨t, .dev (.configDone (k t))⟩
  | trainingConfigTimeout t => exact ⟨t, .dev (.configTimeout (k t))⟩
  | trainRetryTimer t => exact ⟨t, .dev (.trainRetry (k t))⟩
  | dpPortClockLost t => exact ⟨t, .dev (.portClockLost (k t))⟩
  | dpPortClockReturn t => exact ⟨t, .dev (.portClockReturn (k t))⟩
  | modeChangeBoundary t => exact ⟨t, .dev (.modeBoundary (k t))⟩
  | modeChangeLinkReady t => exact ⟨t, .dev (.modeLinkReady (k t))⟩
  | dpCtrlApply t => exact ⟨t, .gated (.dpCtrlApply (k t))⟩
  | dpAux t => exact ⟨t, .dev (.dpAux (k t))⟩
  | dpRetrain t => exact ⟨t, .dev (.dpRetrain (k t))⟩
  | tasterCompare t => exact ⟨t, .dev (.tasterCompare (k t))⟩
  | sspRead t => exact ⟨t, .dev (.sspRead (k t))⟩
  | imageTickAdvance t => exact ⟨t, .dev (.imageTick (k t))⟩
  | imageTickTimeout t => exact ⟨t, .dev (.imageTimeout (k t))⟩
  | encodeOpen t => exact ⟨t, .dev (.encodeOpen (k t))⟩
  | encodeClose t => exact ⟨t, .dev (.encodeClose (k t))⟩
  | encodeRefresh t => exact ⟨t, .dev (.encodeRefresh (k t))⟩
  | encodeRowReady t => exact ⟨t, .all (.encodeRowReady (k t))⟩
  | encodeRowCoded t => exact ⟨t, .all (.encodeRowCoded (k t))⟩
  | encodeEngineTimeout t => exact ⟨t, .dev (.encodeEngineTimeout (k t))⟩
  | encodeEngineParity t => exact ⟨t, .dev (.encEngineFail (k t))⟩
  | touchScanStart t => exact ⟨t, .dev (.touchScanStart (k t))⟩
  | touchScanProcessed t => exact ⟨t, .dev (.touchProcessed (k t))⟩
  | touchScanRelease t => exact ⟨t, .dev (.touchRelease (k t))⟩
  | touchSimmerScan t => exact ⟨t, .dev (.touchSimmer (k t))⟩
  | touchPortEnable t => exact ⟨t, .gatedM (.touchEnable (k t))⟩
  | touchPortDisable t => exact ⟨t, .gatedM (.touchDisable (k t))⟩
  | touchApply t => exact ⟨t, .gatedM (.touchApplyWrite (k t))⟩
  | adcSequenceDone t => exact ⟨t, .dev (.adcDone (k t))⟩
  | adcApply t => exact ⟨t, .gatedM (.adcApply (k t))⟩
  | gpioInputChange t => exact ⟨t, .dev (.gpioChange (k t))⟩
  | gpioDebounceExpiry t => exact ⟨t, .dev (.gpioExpiry (k t))⟩
  | gpioOutWrite t => exact ⟨t, .gatedM (.gpioOut (k t))⟩
  | commandFrameBuilt t => exact ⟨t, .dev (.frameBuilt (k t))⟩
  | ccSetup t => exact ⟨t, .dev (.ccSetup (k t))⟩
  | ccStop t => exact ⟨t, .dev (.ccStop (k t))⟩
  | touchRebase t => exact ⟨t, .dev (.touchRebase (k t))⟩
  | paentIdWrite t => exact ⟨t, .gated (.paentId (k t))⟩
  | flitReceived t => exact ⟨t, .dev (.flitReceived (k t))⟩
  | replayTimeout t => exact ⟨t, .dev (.replayTimeout (k t))⟩
  | envelopeReceived t => exact ⟨t, .dev (.envelopeReceived (k t))⟩
  | routeRecompute t => exact ⟨t, .dev (.routeRecompute (k t))⟩
  | routeInstall t => exact ⟨t, .dev (.routeInstall (k t))⟩
  | vc1HoldTimeout t => exact ⟨t, .dev (.vc1HoldEnd (k t))⟩
  | pictureEnvelope t => exact ⟨t, .all (.pictureEnvelope (k t))⟩
  | announceTimer t => exact ⟨t, .dev (.announceTimer (k t))⟩
  | announceReceived t => exact ⟨t, .dev (.announceReceived (k t))⟩
  | electionTimer t => exact ⟨t, .dev (.electionTimer (k t))⟩
  | managerSilenceTimeout t => exact ⟨t, .dev (.managerSilence (k t))⟩
  | timeExchangeTimer t => exact ⟨t, .dev (.timeExchange (k t))⟩
  | timeEnvelopeReceived t => exact ⟨t, .dev (.timeEnvelope (k t))⟩
  | timeOffsetReport t => exact ⟨t, .dev (.timeReport (k t))⟩
  | remoteSetup t => exact ⟨t, .dev (.remoteSetup (k t))⟩
  | remoteClear t => exact ⟨t, .dev (.remoteClear (k t))⟩
  | paentAttemptStart t => exact ⟨t, .dev (.attemptStart (k t))⟩
  | paentSweepDone t => exact ⟨t, .dev (.sweepDone (k t))⟩
  | paentAlignDone t => exact ⟨t, .dev (.alignDone (k t))⟩
  | laneSlip t => exact ⟨t, .gated (.laneSlip (k t))⟩
  | paentTrainingFrame t => exact ⟨t, .dev (.trainingFrame (k t))⟩
  | paentGoReceived t => exact ⟨t, .dev (.goReceived (k t))⟩
  | paentStepTimeout t => exact ⟨t, .dev (.stepTimeout (k t))⟩
  | paentAttemptTimeout t => exact ⟨t, .dev (.attemptTimeout (k t))⟩
  | paentRetryTimer t => exact ⟨t, .dev (.retryTimer (k t))⟩
  | laneLos t => exact ⟨t, .dev (.laneLos (k t))⟩
  | laneLol t => exact ⟨t, .dev (.laneLol (k t))⟩
  | laneLoa t => exact ⟨t, .dev (.laneLoa (k t))⟩
  | paentRetrain t => exact ⟨t, .gated (.paentRetrain (k t))⟩
  | paentHold t => exact ⟨t, .gated (.paentHold (k t))⟩
  | paentTxSleep t => exact ⟨t, .gated (.paentTxSleep (k t))⟩
  | paentTxWake t => exact ⟨t, .gated (.paentTxWake (k t))⟩
  | paentRxSleep t => exact ⟨t, .gated (.paentRxSleep (k t))⟩
  | paentRxWake t => exact ⟨t, .gated (.paentRxWake (k t))⟩
  | paentWakeTimeout t => exact ⟨t, .dev (.wakeTimeout (k t))⟩
  | heartbeatSend t => exact ⟨t, .dev (.heartbeatSend (k t))⟩
  | heartbeatReceived t => exact ⟨t, .dev (.heartbeatReceived (k t))⟩
  | heartbeatWireFrame t => exact ⟨t, .dev (.wireReceived (k t))⟩
  | heartbeatPathSilent t => exact ⟨t, .dev (.pathSilent (k t))⟩
  | pairSeekTimeout t => exact ⟨t, .dev (.seekTimeout (k t))⟩
  | pairHandoverInstant t => exact ⟨t, .dev (.handoverInstant (k t))⟩
  | interlockLevelChange t => exact ⟨t, .dev (.levelChange (k t))⟩
  | contentionTimeout t => exact ⟨t, .dev (.contentionTimeout (k t))⟩
  | handoverRetryTimeout t => exact ⟨t, .dev (.retryTimeout (k t))⟩
  | interlockFault t => exact ⟨t, .dev (.interlockFault (k t))⟩
  | mirrorRecord t => exact ⟨t, .all (.mirrorRecord (k t))⟩
  | mirrorConfirmation t => exact ⟨t, .dev (.mirrorReply (k t))⟩
  | mirrorGapTimeout t => exact ⟨t, .dev (.mirrorGap (k t))⟩
  | pairWtrExpiry t => exact ⟨t, .dev (.wtrExpiry (k t))⟩
  | pairApply t => exact ⟨t, .gated (.pairApply (k t))⟩
  | pairSwitchover t => exact ⟨t, .gated (.pairSwitchover (k t))⟩
  | pairTakeover t => exact ⟨t, .gated (.pairTakeover (k t))⟩
  | pairClear t => exact ⟨t, .gated (.pairClear (k t))⟩
  | dramReadError t => exact ⟨t, .all (.dramReadError (k t))⟩
  | dramWcrcAlert t => exact ⟨t, .all (.wcrcAlert (k t))⟩
  | migrationCopyLine t => exact ⟨t, .all (.copyLine (k t))⟩
  | migrationDone t => exact ⟨t, .all (.migrationDone (k t))⟩
  | dramRefresh t => exact ⟨t, .dev (.dramRefresh (k t))⟩
  | dramTempRead t => exact ⟨t, .dev (.tempRead (k t))⟩
  | dramDriftCheck t => exact ⟨t, .dev (.driftCheck (k t))⟩
  | dramRetrainStep t => exact ⟨t, .all (.retrainStep (k t))⟩
  | dramPatrolScrub t => exact ⟨t, .all (.patrolScrub (k t))⟩
  | migThrottleWrite t => exact ⟨t, .gated (.throttleWrite (k t))⟩
  | fsRefresh t => exact ⟨t, .dev (.fsRefresh (k t))⟩
  | fsScrub t => exact ⟨t, .dev (.fsScrub (k t))⟩
  | checkerUpdateEnter t => exact ⟨t, .gated (.updateEnter (k t))⟩
  | checkerUpdateExit t => exact ⟨t, .all (.updateExit (k t))⟩
  | checkerClosedTimeout t => exact ⟨t, .dev (.closedTimeout (k t))⟩
  | regionRegisterWrite t => exact ⟨t, .gated (.regionWrite (k t))⟩
  | parcelOpen t => exact ⟨t, .dev (.parcelOpen (k t))⟩
  | parcelFeed t => exact ⟨t, .dev (.parcelFeed (k t))⟩
  | parcelFeedComplete t => exact ⟨t, .all (.feedComplete (k t))⟩
  | parcelAbort t => exact ⟨t, .dev (.parcelAbort (k t))⟩
  | crcCtrlWrite t => exact ⟨t, .gated (.crcCtrl (k t))⟩
  | crcData8 t => exact ⟨t, .gated (.crcData (k t))⟩
  | crcData16 t => exact ⟨t, .gated (.crcData (k t))⟩
  | crcData32 t => exact ⟨t, .gated (.crcData (k t))⟩
  | crcResultRead t => exact ⟨t, .gated (.crcRead (k t))⟩
  | composeEngineParity t => exact ⟨t, .dev (.engineParity (k t))⟩
  | fabricFault t => exact ⟨t, .dev (.fabricFault (k t))⟩
  | dumpWrite t => exact ⟨t, .all (.dumpWrite (k t))⟩
  | dumpComplete t => exact ⟨t, .dev (.dumpComplete (k t))⟩
  | recorderEvent t => exact ⟨t, .dev (.recorderEvent (k t))⟩
  | recorderFlashProgram t => exact ⟨t, .dev (.flashProgram (k t))⟩
  | recRead t => exact ⟨t, .dev (.recRead (k t))⟩
  | recCatalogue t => exact ⟨t, .dev (.recCatalogue (k t))⟩
  | dumpRead t => exact ⟨t, .dev (.dumpRead (k t))⟩
  | dumpKeep t => exact ⟨t, .dev (.dumpKeep (k t))⟩
  | dumpErase t => exact ⟨t, .dev (.dumpErase (k t))⟩
  | testStart t => exact ⟨t, .dev (.testStart (k t))⟩
  | testStop t => exact ⟨t, .dev (.testStop (k t))⟩
  | memInject t => exact ⟨t, .all (.memInject (k t))⟩
  | touchTest t => exact ⟨t, .all (.touchTest (k t))⟩
  | adcSelfCheck t => exact ⟨t, .dev (.adcSelfCheck (k t))⟩
  | feedAboveTurnOn t => exact ⟨t, .dev (.feedAbove (k t))⟩
  | feedAccepted t => exact ⟨t, .dev (.feedAccepted (k t))⟩
  | feedTurnOff t => exact ⟨t, .dev (.feedTurnOff (k t))⟩
  | feedOvervoltage t => exact ⟨t, .dev (.feedOvervoltage (k t))⟩
  | holdupEnd t => exact ⟨t, .all (.holdupEnd (k t))⟩
  | powerGood t => exact ⟨t, .dev (.powerGood (k t))⟩
  | moduleReset t => exact ⟨t, .all (.moduleReset (k t))⟩
  | hostInterfaceReset t => exact ⟨t, .dev (.hostInterfaceReset (k t))⟩
  | thermalTrip t => exact ⟨t, .all (.thermalTrip (k t))⟩
  | thermalRestart t => exact ⟨t, .dev (.thermalRestart (k t))⟩
  | wtSlewEnd t => exact ⟨t, .dev (.wtSlewEnd (k t))⟩
  | sspBankSwitch t => exact ⟨t, .dev (.sspBankSwitch (k t))⟩
  | debugAccess t => exact ⟨t, .all (.debugAccess (k t))⟩
  | plateHigh t => exact ⟨t, .dev (.plateHigh (k t))⟩
  | flitSend t => exact ⟨t, .all (.flitSend (k t))⟩
/-- Settles O6: every command takes its instant first (`Dev.clock`), and no function of the model writes it after that. -/
theorem timeNeverRunsBack : Obligations.TimeNeverRunsBack := by
  intro s s' h
  cases hp : s.pending with
  | nil =>
    rw [step_of_empty hp] at h
    cases h
    exact le_rfl
  | cons c rest =>
    rw [step_of_front hp] at h
    obtain ⟨t, ht⟩ := atInstant_exec c { s with pending := rest }
    rw [ht s' h]
    exact le_max_left _ _

end Sys2Proof.Machine
end

section
/-! PROOFS. Reference monitors and the selector (R94 to R105): each time the selector chooses it then follows the choice of
R97, and what the events of the monitors, the OCXO and the settings leave in force. -/

namespace Sys2Proof.Machine

/-! ### Where the registers lie -/

/-- The registers of the references lie between those of the selector and those of the recorder. -/
theorem notMem_selectOffs {x : Nat} (hl : 0x380100 ≤ x) (hu : x < 0x380280) : x ∉ selectOffs := by
  simp only [selectOffs, recOffs, List.mem_cons, List.not_mem_nil, or_false, RegDesc.off, R.REFSEL_STATUS, R.REFSEL_FREQ,
    R.REC_SEQ, R.REC_STATUS]
  omega

theorem refStatus_notMem_selectOffs {r : Nat} (hr : r < 12) : R.REF_STATUS.off r 0 ∉ selectOffs :=
  notMem_selectOffs (by simp only [RegDesc.off, R.REF_STATUS]; omega) (by simp only [RegDesc.off, R.REF_STATUS]; omega)

theorem refStatus_ne {n r : Nat} (h : n ≠ r) : R.REF_STATUS.off r 0 ≠ R.REF_STATUS.off n 0 := by
  simp only [RegDesc.off, R.REF_STATUS]
  omega

/-- What an event of reference `r` may move beside its own monitors: its status, and what a choice of the selector moves. -/
def judgeOffs (r : Nat) : List Nat := R.REF_STATUS.off r 0 :: selectOffs

theorem notMem_judgeOffs {r x : Nat} (hs : x ≠ R.REF_STATUS.off r 0) (hl : 0x380100 ≤ x) (hu : x < 0x380280) :
    x ∉ judgeOffs r := by
  rw [judgeOffs, List.mem_cons, not_or]
  exact ⟨hs, notMem_selectOffs hl hu⟩

theorem refFreq_notMem_judgeOffs {r : Nat} (hr : r < 12) : R.REF_FREQ.off r 0 ∉ judgeOffs r := by
  apply notMem_judgeOffs <;> simp only [RegDesc.off, R.REF_FREQ, R.REF_STATUS] <;> omega

theorem refCfg_ne_refStatus (r : Nat) : R.REF_CFG.off r 0 ≠ R.REF_STATUS.off r 0 := by
  simp only [RegDesc.off, R.REF_CFG, R.REF_STATUS]
  omega

theorem refCfg_notMem_judgeOffs {r : Nat} (hr : r < 12) : R.REF_CFG.off r 0 ∉ judgeOffs r := by
  apply notMem_judgeOffs (refCfg_ne_refStatus r) <;> simp only [RegDesc.off, R.REF_CFG] <;> omega

theorem judgeOffs_subset (r : Nat) : ∀ x ∈ judgeOffs r, x ∈ refOffs r ++ recOffs := by
  intro x hx
  simp only [judgeOffs, selectOffs, refOffs, List.mem_cons, List.mem_append] at hx ⊢
  tauto

theorem selectOffs_subset_judgeOffs (r : Nat) : ∀ x ∈ selectOffs, x ∈ judgeOffs r := fun _ hx =>
  List.mem_cons_of_mem _ hx

/-! ### The selector's choice -/

theorem Dev.info_ref (d : Dev) (ev : Ev) (agent p0 p1 p2 : Nat) : (d.info ev agent p0 p1 p2).ref = d.ref :=
  ((Dev.Keeps.refl _ (· ∈ recOffs) [.recd]).info _ _ _ _ _ (fun _ hx => hx) (by simp)).ref.resolve_left (by simp)

/-- The monitors and the settings in force of the selector are the same; its pull and its lock may differ. -/
structure RefSt.SameSettings (x y : RefSt) : Prop where
  refs : y.refs = x.refs
  forceEn : y.forceEn = x.forceEn
  forceRef : y.forceRef = x.forceRef
  loopBw : y.loopBw = x.loopBw
  pullSlope : y.pullSlope = x.pullSlope

theorem RefSt.SameSettings.of_eq {x y : RefSt} (h : y = x) : x.SameSettings y := by
  subst h
  exact ⟨rfl, rfl, rfl, rfl, rfl⟩

theorem RefSt.SameSettings.trans {x y z : RefSt} (h : x.SameSettings y) (k : y.SameSettings z) : x.SameSettings z :=
  ⟨k.refs.trans h.refs, k.forceEn.trans h.forceEn, k.forceRef.trans h.forceRef, k.loopBw.trans h.loopBw,
    k.pullSlope.trans h.pullSlope⟩

theorem RefSt.SameSettings.ite {x : RefSt} {a b : Dev} {p : Prop} [Decidable p] (ha : x.SameSettings a.ref)
    (hb : x.SameSettings b.ref) : x.SameSettings (if p then a else b).ref := by
  split
  · exact ha
  · exact hb

/-- A pull or its end moves nothing else of the selector. -/
theorem RefSt.SameSettings.withPull {x y : RefSt} (h : x.SameSettings y) (p : Int) (a : Nat) (l : Option Nat) :
    x.SameSettings { y with pull := p, pullAt := a, lockedAt := l } :=
  ⟨h.refs, h.forceEn, h.forceRef, h.loopBw, h.pullSlope⟩

theorem Dev.bwLimited_ref (d : Dev) (r : Nat) : (d.bwLimited r).ref = d.ref := by
  rw [Dev.bwLimited, Dev.put_ref]

theorem Dev.get_bwLimited (d : Dev) (r : Nat) (f : FldDesc) (hf : f.ok = true ∧ f.reg = R.REFSEL_STATUS ∧
    (f.hi < 20 ∨ 20 < f.lo)) : (d.bwLimited r).get f = d.get f := by
  rw [Dev.bwLimited, Dev.get_put_apart _ _ f _ _ _ ⟨by decide, hf⟩]

theorem Dev.startPull_settings (d : Dev) (r : Nat) : d.ref.SameSettings (d.startPull r).ref := by
  unfold Dev.startPull
  extract_lets err old a st b c
  have ha : a.ref = d.ref := (Dev.info_ref _ _ _ _ _ _).trans (by rw [Dev.bump_ref, Dev.put_ref])
  have hb : b.ref = d.ref := by rw [Dev.bwLimited_ref, Dev.put_ref, ha]
  have hc : c.ref = d.ref := (Dev.setReg_ref _ _ _ _ _).trans hb
  exact (RefSt.SameSettings.of_eq hc).withPull _ _ _

theorem Dev.loseAll_settings (d : Dev) : d.ref.SameSettings d.loseAll.ref := by
  unfold Dev.loseAll
  extract_lets +onlyGivenNames sel a held ref b
  have ha : a.ref = d.ref := by rw [Dev.put_ref, Dev.put_ref]
  have hb : d.ref.SameSettings b.ref :=
    (RefSt.SameSettings.of_eq ha).withPull _ _ _
  have hi : ∀ v w st, d.ref.SameSettings (((b.put R.REFSEL_STATUS_STATE v).setReg R.REFSEL_FREQ w).info .refHoldover
      0x1010 st).ref := fun v w st => by
    rw [Dev.info_ref, Dev.setReg_ref, Dev.put_ref]
    exact hb
  clear_value b held
  exact .ite (hi _ _ _) (hi _ _ _)

/-- A choice leaves every setting and every monitor alone. -/
theorem Dev.select_settings (d : Dev) : d.ref.SameSettings d.select.ref := by
  unfold Dev.select
  extract_lets e st active
  have he : d.ref.SameSettings e.ref := .of_eq (Dev.put_ref _ _ _ _ _)
  clear_value e
  split
  · exact .ite he (he.trans (e.startPull_settings _))
  · exact .ite (he.trans e.loseAll_settings) he

theorem Dev.keeps_select (d : Dev) : d.Keeps d.select (· ∈ selectOffs) [.ref, .recd] :=
  (Dev.Keeps.refl _ _ _).select (fun _ hx => hx) (by simp) (by simp)

theorem Dev.get_select (d : Dev) {r : Nat} (hr : r < 12) (f : FldDesc) (hf : f.reg = R.REF_STATUS) :
    d.select.get f r = d.get f r :=
  d.keeps_select.get f r 0 (by rw [hf]; exact refStatus_notMem_selectOffs hr)

theorem Dev.refMon_of_refs {d e : Dev} (h : e.ref.refs = d.ref.refs) (r : Nat) : e.refMon r = d.refMon r := by
  rw [Dev.refMon, h, ← Dev.refMon]

theorem Dev.refMon_select (d : Dev) (r : Nat) : d.select.refMon r = d.refMon r :=
  Dev.refMon_of_refs d.select_settings.refs r

/-- The choice depends on the settings, the monitors and the qualification of the references alone (R97). -/
theorem Dev.choice_of_settings {d e : Dev} (hs : d.ref.SameSettings e.ref) (hf : d.ref.forceRef < 12)
    (hq : ∀ r, r < 12 → e.get R.REF_STATUS_QUALIFIED r = d.get R.REF_STATUS_QUALIFIED r) : e.choice = d.choice := by
  have hm : e.refMon = d.refMon := funext (Dev.refMon_of_refs hs.refs)
  have hc : ∀ r, r < 12 → e.candidate r = d.candidate r := fun r hr => by
    rw [Dev.candidate, Dev.on, hq r hr, hm, ← Dev.on, ← Dev.candidate]
  have hl : (List.range 12).filter e.candidate = (List.range 12).filter d.candidate :=
    List.filter_congr fun r hr => hc r (List.mem_range.mp hr)
  unfold Dev.choice
  rw [hs.forceEn, hs.forceRef, hc _ hf, hl, hm]

/-- The choice is one of the 12 references. -/
theorem Dev.choice_lt {d : Dev} {r : Nat} (hf : d.ref.forceRef < 12) (h : d.choice = some r) : r < 12 := by
  unfold Dev.choice at h
  split at h
  · cases h
    exact hf
  · refine List.foldlRecOn (motive := fun best : Option Nat => ∀ b, best = some b → b < 12) _ _ (by simp) ?_ r h
    intro best hb a ha b hab
    have ha' : a < 12 := List.mem_range.mp (List.mem_of_mem_filter ha)
    split at hab
    · cases hab
      exact ha'
    · split at hab
      · cases hab
        exact ha'
      · exact hb _ hab

theorem Dev.get_withRef (d : Dev) (x : RefSt) (f : FldDesc) (i j : Nat) :
    Dev.get { d with ref := x } f i j = d.get f i j := rfl

theorem Dev.startPull_follows (d : Dev) {r : Nat} (hr : r < 12) : (d.startPull r).get R.REFSEL_STATUS_SELECTED = r ∧
    ((d.startPull r).get R.REFSEL_STATUS_STATE = selLocked ∨ (d.startPull r).get R.REFSEL_STATUS_STATE = selPulling) := by
  unfold Dev.startPull
  extract_lets err old a st b c
  have ha : a.get R.REFSEL_STATUS_SELECTED = r := by
    rw [Dev.get_of_info _ _ _ _ _ _ _ _ _ (by decide), Dev.bump, Dev.get_put_apart _ _ _ _ _ _ (by decide),
      Dev.get_put_lt _ _ _ _ _ 16 (by decide) (by omega)]
  have hs : b.get R.REFSEL_STATUS_SELECTED = r := by
    rw [Dev.get_bwLimited _ _ _ (by decide), Dev.get_put_apart _ _ _ _ _ _ (by decide), ha]
  have ht : b.get R.REFSEL_STATUS_STATE = st := by
    rw [Dev.get_bwLimited _ _ _ (by decide), Dev.get_put_lt _ _ _ _ _ 8 (by decide) (by simp only [st]; split <;> decide)]
  have hst : st = selLocked ∨ st = selPulling := ite_eq_or_eq _ _ _
  have hc : ∀ (x : RefSt) f, f.reg = R.REFSEL_STATUS → Dev.get { c with ref := x } f = b.get f := fun x f hf =>
    (c.get_withRef x f 0 0).trans (Dev.get_setReg_ne _ _ _ _ _ _ _ _ (by rw [hf]; decide))
  clear_value c b st
  rw [hc _ _ rfl, hc _ _ rfl, ht]
  exact ⟨hs, hst⟩

theorem Dev.loseAll_follows_nothing (d : Dev) :
    d.loseAll.get R.REFSEL_STATUS_STATE ≠ selLocked ∧ d.loseAll.get R.REFSEL_STATUS_STATE ≠ selPulling := by
  have hst : ∀ (e : Dev) (v w st : Nat), (((e.put R.REFSEL_STATUS_STATE v).setReg R.REFSEL_FREQ w).info .refHoldover 0x1010
      st).get R.REFSEL_STATUS_STATE = v % 8 := fun e v w st => by
    rw [Dev.get_of_info _ _ _ _ _ _ _ _ _ (by decide), Dev.get_setReg_ne _ _ _ _ _ _ _ _ (by decide),
      Dev.get_put _ _ _ _ _ (by decide)]
    rfl
  unfold Dev.loseAll
  extract_lets +onlyGivenNames sel a held ref b
  clear_value b held
  split
  · rw [hst]
    decide
  · rw [hst]
    decide

/-- After a choice the selector follows it (R97, R99). -/
theorem Dev.followsChoice_select (d : Dev) (hf : d.ref.forceRef < 12) : d.select.FollowsChoice := by
  have hc : d.select.choice = d.choice :=
    Dev.choice_of_settings d.select_settings hf fun r hr => d.get_select hr _ rfl
  unfold Dev.FollowsChoice
  rw [hc]
  generalize hs : d.select = s
  unfold Dev.select at hs
  extract_lets e st active at hs
  have he : e.choice = d.choice := Dev.choice_of_settings (.of_eq (Dev.put_ref _ _ _ _ _)) hf fun r hr =>
    Dev.get_put_ne _ _ _ _ _ _ _ _ fun h => refStatus_notMem_selectOffs hr (h ▸ by decide)
  have hact : active ↔ e.get R.REFSEL_STATUS_STATE = selLocked ∨ e.get R.REFSEL_STATUS_STATE = selPulling := by
    simp only [active, st, Bool.or_eq_true, decide_eq_true_eq]
  clear_value e active
  rw [he] at hs
  cases hd : d.choice with
  | none =>
    rw [hd] at hs
    dsimp only at hs ⊢
    split at hs
    · subst hs
      exact e.loseAll_follows_nothing
    · next hn =>
      subst hs
      exact not_or.mp (hact.not.mp hn)
  | some r =>
    rw [hd] at hs
    dsimp only at hs ⊢
    split at hs
    · next hy =>
      subst hs
      simp only [Bool.and_eq_true, decide_eq_true_eq] at hy
      exact ⟨hy.2, hact.mp hy.1⟩
    · subst hs
      exact e.startPull_follows (d.choice_lt hf hd)

/-! ### The monitors of one reference -/

theorem Dev.refMon_setRefMon (d : Dev) (r : Nat) (m : RefMon) : (d.setRefMon r m).refMon r = m :=
  tabGetD_set_same _ _ _ _

theorem Dev.refMon_setRefMon_ne (d : Dev) {n r : Nat} (m : RefMon) (h : r ≠ n) :
    (d.setRefMon n m).refMon r = d.refMon r := tabGetD_set_ne _ _ _ _ _ _ h

theorem Dev.refMon_put (d : Dev) (f : FldDesc) (v i j r : Nat) : (d.put f v i j).refMon r = d.refMon r :=
  Dev.refMon_of_refs (congrArg RefSt.refs (Dev.put_ref d f v i j)) r

theorem Dev.setRefMon_forceRef (d : Dev) (r : Nat) (m : RefMon) :
    (d.setRefMon r m).ref.forceRef = d.ref.forceRef := rfl

theorem Dev.refMon_stopWtr (d : Dev) (r : Nat) : (d.stopWtr r).refMon r = { d.refMon r with inSince := none } := by
  rw [Dev.stopWtr, Dev.refMon_put, Dev.refMon_put, Dev.refMon_setRefMon]

theorem Dev.refMon_stopWtr_ne (d : Dev) {n r : Nat} (h : r ≠ n) : (d.stopWtr n).refMon r = d.refMon r := by
  rw [Dev.stopWtr, Dev.refMon_put, Dev.refMon_put, Dev.refMon_setRefMon_ne _ _ h]

theorem Dev.gates_stopWtr (d : Dev) (n r : Nat) : ((d.stopWtr n).refMon r).gates = (d.refMon r).gates := by
  obtain rfl | h := eq_or_ne r n
  · rw [Dev.refMon_stopWtr]
  · rw [d.refMon_stopWtr_ne h]

theorem Dev.stopWtr_forceRef (d : Dev) (r : Nat) : (d.stopWtr r).ref.forceRef = d.ref.forceRef := by
  rw [Dev.stopWtr, Dev.put_ref, Dev.put_ref, Dev.setRefMon_forceRef]

theorem Dev.get_stopWtr_running (d : Dev) (r : Nat) : (d.stopWtr r).get R.REF_STATUS_WTR_RUNNING r = 0 := by
  rw [Dev.stopWtr, Dev.get_put_apart _ _ _ _ _ _ (by decide), Dev.get_put _ _ _ _ _ (by decide), Nat.zero_mod]

/-- The fields above WTR_RUNNING stay when a wait stops. -/
theorem Dev.get_stopWtr (d : Dev) (r : Nat) (f : FldDesc) (hf : f.ok = true ∧ f.reg = R.REF_STATUS ∧ 28 < f.lo) :
    (d.stopWtr r).get f r = d.get f r := by
  obtain ⟨hok, hreg, hlo⟩ := hf
  rw [Dev.stopWtr, Dev.get_put_apart _ _ f _ _ _ ⟨by decide, hok, hreg, .inr (lt_trans (by decide) hlo)⟩,
    Dev.get_put_apart _ _ f _ _ _ ⟨by decide, hok, hreg, .inr hlo⟩, Dev.setRefMon_get]

theorem Dev.get_stopWtr_ne (d : Dev) {n r : Nat} (h : r ≠ n) (f : FldDesc) (hf : f.reg = R.REF_STATUS) :
    (d.stopWtr n).get f r = d.get f r := by
  have ho : f.reg.off r 0 ≠ R.REF_STATUS.off n 0 := by
    rw [hf]
    exact refStatus_ne h.symm
  rw [Dev.stopWtr, Dev.get_put_ne _ _ _ _ _ _ _ _ ho, Dev.get_put_ne _ _ _ _ _ _ _ _ ho, Dev.setRefMon_get]

theorem Dev.keeps_stopWtr (d : Dev) (r : Nat) : d.Keeps (d.stopWtr r) (· = R.REF_STATUS.off r 0) [.ref] :=
  (Dev.Keeps.refl _ _ _).stopWtr (by simp) r rfl

/-- From `d` to `e` reference `r` was judged: its gates and what they showed of its activity stay, and beside its status
and its settings only a choice of the selector moved anything. -/
structure Dev.Judges (d e : Dev) (r : Nat) : Prop where
  keeps : d.Keeps e (· ∈ judgeOffs r) [.ref, .recd]
  gates : (e.refMon r).gates = (d.refMon r).gates
  shown : ∀ f, f.ok = true → f.reg = R.REF_STATUS → 28 < f.lo → f.hi < 31 → e.get f r = d.get f r

section
variable {d0 d : Dev} {r : Nat}

theorem Dev.Judges.refl (d : Dev) (r : Nat) : d.Judges d r := ⟨.refl _ _ _, rfl, fun _ _ _ _ _ => rfl⟩

theorem Dev.Judges.ite {a b : Dev} {p : Prop} [Decidable p] (ha : d0.Judges a r) (hb : d0.Judges b r) :
    d0.Judges (if p then a else b) r := by
  split
  · exact ha
  · exact hb

theorem Dev.Judges.put (h : d0.Judges d r) (f : FldDesc) (v : Nat)
    (hf : f.ok = true ∧ f.reg = R.REF_STATUS ∧ (f.hi ≤ 28 ∨ 31 ≤ f.lo) := by decide) : d0.Judges (d.put f v r) r where
  keeps := h.keeps.put _ _ _ _ (by rw [hf.2.1]; simp [judgeOffs])
  gates := by rw [Dev.refMon_put, h.gates]
  shown := fun g hok hreg hlo hhi => by
    rw [Dev.get_put_apart _ _ g _ _ _ ⟨hf.1, hok, hreg.trans hf.2.1.symm, by have := hf.2.2; omega⟩,
      h.shown g hok hreg hlo hhi]

theorem Dev.Judges.setRefMon (h : d0.Judges d r) (m : RefMon) (hm : m.gates = (d.refMon r).gates) :
    d0.Judges (d.setRefMon r m) r where
  keeps := h.keeps.setRefMon _ _ (by simp)
  gates := by rw [Dev.refMon_setRefMon, hm, h.gates]
  shown := h.shown

theorem Dev.Judges.stopWtr (h : d0.Judges d r) : d0.Judges (d.stopWtr r) r :=
  ((h.setRefMon { d.refMon r with inSince := none } rfl).put R.REF_STATUS_WTR_RUNNING 0).put R.REF_STATUS_WTR_LEFT 0

theorem Dev.Judges.select (h : d0.Judges d r) (hr : r < 12) : d0.Judges d.select r where
  keeps := h.keeps.trans (d.keeps_select.mono (selectOffs_subset_judgeOffs r) (by simp))
  gates := by rw [Dev.refMon_select, h.gates]
  shown := fun g hok hreg hlo hhi => by rw [d.get_select hr g hreg, h.shown g hok hreg hlo hhi]

theorem Dev.Judges.gateWaits (h : d0.Judges d r) (m : RefMon) : d0.Judges (d.gateWaits r m) r := by
  unfold Dev.gateWaits
  split
  · exact ((h.setRefMon { d.refMon r with inSince := some d.now } rfl).put R.REF_STATUS_WTR_RUNNING 1).put
      R.REF_STATUS_WTR_LEFT m.wtr
  · exact h.put R.REF_STATUS_WTR_LEFT _

theorem Dev.Judges.gateJudged (h : d0.Judges d r) (hr : r < 12) (m : RefMon) (mean : Int) (acc : Bool) :
    d0.Judges (d.gateJudged r m mean acc) r :=
  .ite (.ite (((h.put R.REF_STATUS_QUALIFIED 0).put R.REF_STATUS_REJECTED 1).select hr) h) (.ite (h.gateWaits m) h.stopWtr)

end

/-! ### Activity -/

theorem exec_refActivityLost (t r : Nat) (s : State) : exec (.refActivityLost t r) s = s.onDev t (refActivityLost r) := rfl

theorem refActivityLost_sets {d : Dev} {r : Nat} (hr : r < 12) (hf : d.ref.forceRef < 12) {e : Dev}
    (he : refActivityLost r d = e) : e.get R.REF_STATUS_ACTIVE r = 0 ∧ e.get R.REF_STATUS_QUALIFIED r = 0 ∧
      e.get R.REF_STATUS_WTR_RUNNING r = 0 ∧ (e.refMon r).inSince = none ∧ e.FollowsChoice := by
  rw [refActivityLost, if_neg (not_le.mpr hr)] at he
  generalize ha : (d.put R.REF_STATUS_ACTIVE 0 r).put R.REF_STATUS_QUALIFIED 0 r = a at he
  have hact : a.get R.REF_STATUS_ACTIVE r = 0 := by
    rw [← ha, Dev.get_put_apart _ _ _ _ _ _ (by decide), Dev.get_put _ _ _ _ _ (by decide), Nat.zero_mod]
  have hqual : a.get R.REF_STATUS_QUALIFIED r = 0 := by
    rw [← ha, Dev.get_put _ _ _ _ _ (by decide), Nat.zero_mod]
  have hforce : (a.stopWtr r).ref.forceRef < 12 := by
    rw [Dev.stopWtr_forceRef, ← ha, Dev.put_ref, Dev.put_ref]
    exact hf
  subst he
  refine ⟨?_, ?_, ?_, ?_, Dev.followsChoice_select _ hforce⟩
  · rw [Dev.get_select _ hr _ rfl, Dev.get_stopWtr _ _ _ (by decide), hact]
  · rw [Dev.get_select _ hr _ rfl, Dev.get_stopWtr _ _ _ (by decide), hqual]
  · rw [Dev.get_select _ hr _ rfl, Dev.get_stopWtr_running]
  · rw [Dev.refMon_select, Dev.refMon_stopWtr]

/-- A reference without activity is out of the choice at once (R94). -/
theorem refActivityLost_disqualifies (t r : Nat) (s : State) (hr : r < 12) (hf : s.dev.ref.forceRef < 12) :
    ∃ s', exec (.refActivityLost t r) s = .next s' ∧ s'.dev.get R.REF_STATUS_ACTIVE r = 0 ∧
      s'.dev.get R.REF_STATUS_QUALIFIED r = 0 ∧ s'.dev.get R.REF_STATUS_WTR_RUNNING r = 0 ∧
      (s'.dev.refMon r).inSince = none ∧ s'.dev.FollowsChoice ∧
      s.Keeps s' t (refOffs r ++ recOffs) [.ref, .recd] := by
  have hk := keeps_refActivityLost r (s.dev.clock t)
  generalize he : refActivityLost r (s.dev.clock t) = e at hk
  obtain ⟨h1, h2, h3, h4, h5⟩ := refActivityLost_sets (d := s.dev.clock t) hr hf he
  rw [exec_refActivityLost, State.onDev, he]
  exact ⟨_, rfl, h1, h2, h3, h4, h5, rfl, .inr rfl, hk⟩

/-! ### Gates -/

theorem exec_refFreqGate (t r : Nat) (gate : Int) (s : State) :
    exec (.refFreqGate t r gate) s = s.onDev t (refFreqGate r gate) := rfl

/-- How a gate's mean and slope are marked before the reference is judged: DRIFT, IN_ACCEPT and REFSEL_FREQ (R94). -/
def Dev.gateMarked (d : Dev) (r warn : Nat) (mean slope : Int) (acc : Bool) : Dev :=
  ((d.gateDrift r warn slope).put R.REF_STATUS_IN_ACCEPT (b2n acc) r).gateFollowed r mean

/-- A gate of a reference that can be active measures, marks and judges (R94, R95). -/
theorem refFreqGate_of_alive {d : Dev} {r : Nat} (gate : Int) (hr : r < 12) (hb : d.get R.REFSEL_STATUS_MON_BASIS = 1)
    (ha : d.refAlive r = true) {g : List Int} (hg : (gate :: (d.refMon r).gates).take 64 = g) {mean : Int}
    (hm : meanOf (g.take 8) = mean) {acc : Bool} (hacc : decide (mean.natAbs ≤ (d.refMon r).accept * 1000) = acc) :
    refFreqGate r gate d = ((d.gateMeasured r g mean (gateSlope g)).gateMarked r (d.refMon r).driftWarn mean
      (gateSlope g) acc).gateJudged r (d.refMon r) mean acc := by
  subst hg hm hacc
  rw [refFreqGate, if_neg (by simp [Dev.on, hb, ha, hr])]
  rfl

theorem Dev.gateMeasured_sets (d : Dev) (r : Nat) (g : List Int) (mean slope : Int) {e : Dev}
    (he : d.gateMeasured r g mean slope = e) :
    e.refMon r = { d.refMon r with gates := g } ∧ e.ref.forceRef = d.ref.forceRef ∧ e.get R.REF_STATUS_ACTIVE r = 1 ∧
      e.get R.REF_STATUS_QUALIFIED r = d.get R.REF_STATUS_QUALIFIED r ∧ e.reg R.REF_FREQ r = ofSigned 32 mean ∧
      d.Keeps e (· ∈ refOffs r) [.ref] := by
  have hsd : R.REF_STATUS.off r 0 ≠ R.REF_DRIFT.off r 0 := by simp only [RegDesc.off, R.REF_STATUS, R.REF_DRIFT]; omega
  have hsf : R.REF_STATUS.off r 0 ≠ R.REF_FREQ.off r 0 := by simp only [RegDesc.off, R.REF_STATUS, R.REF_FREQ]; omega
  have hfd : R.REF_FREQ.off r 0 ≠ R.REF_DRIFT.off r 0 := by simp only [RegDesc.off, R.REF_FREQ, R.REF_DRIFT]; omega
  rw [Dev.gateMeasured] at he
  generalize ha : d.setRefMon r { d.refMon r with gates := g } = a at he
  have hmon : a.refMon r = { d.refMon r with gates := g } := by rw [← ha, Dev.refMon_setRefMon]
  have hforce : a.ref.forceRef = d.ref.forceRef := by rw [← ha, Dev.setRefMon_forceRef]
  have hqual : a.get R.REF_STATUS_QUALIFIED r = d.get R.REF_STATUS_QUALIFIED r := by rw [← ha, Dev.setRefMon_get]
  have hk : d.Keeps a (· ∈ refOffs r) [.ref] := by
    rw [← ha]
    exact (Dev.Keeps.refl _ _ _).setRefMon _ _ (by simp)
  subst he
  refine ⟨?_, ?_, ?_, ?_, ?_, ?_⟩
  · rw [← hmon]
    exact Dev.refMon_of_refs (congrArg RefSt.refs (by rw [Dev.setReg_ref, Dev.setReg_ref, Dev.put_ref])) r
  · rw [Dev.setReg_ref, Dev.setReg_ref, Dev.put_ref, hforce]
  · rw [Dev.get_setReg_ne _ _ _ _ _ _ _ _ hsd, Dev.get_setReg_ne _ _ _ _ _ _ _ _ hsf,
      Dev.get_put_lt _ _ _ _ _ 2 (by decide) (by decide)]
  · rw [Dev.get_setReg_ne _ _ _ _ _ _ _ _ hsd, Dev.get_setReg_ne _ _ _ _ _ _ _ _ hsf,
      Dev.get_put_apart _ _ _ _ _ _ (by decide), hqual]
  · rw [Dev.reg_setReg_ne _ _ _ _ _ _ _ _ hfd, Dev.reg_setReg, Nat.mod_eq_of_lt (ofSigned_lt 32 mean)]
  · exact ((hk.put _ _ _ _ (by simp [refOffs, R.REF_STATUS_ACTIVE])).setReg _ _ _ _ (by simp [refOffs])).setReg _ _ _ _
      (by simp [refOffs])

theorem Dev.keeps_gateDrift (d : Dev) (r warn : Nat) (slope : Int) :
    d.Keeps (d.gateDrift r warn slope) (· ∈ judgeOffs r) [.recd] :=
  .ite (fun _ => ((Dev.Keeps.refl _ _ _).put _ _ _ _ (by simp [judgeOffs, R.REF_STATUS_DRIFT])).info _ _ _ _ _
    (fun _ hx => by simp [judgeOffs, selectOffs, hx]) (by simp)) fun _ => .refl _ _ _

/-- A gate's warning moves DRIFT alone of a reference's status. -/
theorem Dev.get_gateDrift (d : Dev) {r : Nat} (hr : r < 12) (warn : Nat) (slope : Int) (f : FldDesc)
    (hf : f.ok = true ∧ f.reg = R.REF_STATUS ∧ 27 < f.lo) : (d.gateDrift r warn slope).get f r = d.get f r := by
  obtain ⟨hok, hreg, hlo⟩ := hf
  have hrec : f.reg.off r 0 ∉ recOffs := fun h => refStatus_notMem_selectOffs hr (by
    rw [hreg] at h
    simp [selectOffs, h])
  unfold Dev.gateDrift
  split
  · rw [Dev.get_of_info _ _ _ _ _ _ _ _ _ hrec, Dev.get_put_apart _ _ f _ _ _ ⟨by decide, hok, hreg, .inr hlo⟩]
  · rfl

theorem Dev.keeps_gateFollowed (d : Dev) (r : Nat) (mean : Int) :
    d.Keeps (d.gateFollowed r mean) (· ∈ selectOffs) [.recd] :=
  .ite (fun _ => (Dev.Keeps.refl _ _ _).setReg _ _ _ _ (by simp [selectOffs])) fun _ => .refl _ _ _

/-- The marks of a gate leave activity and qualification alone. -/
theorem Dev.gateMarked_sets (d : Dev) {r : Nat} (hr : r < 12) (warn : Nat) (mean slope : Int) (acc : Bool) {e : Dev}
    (he : d.gateMarked r warn mean slope acc = e) :
    e.get R.REF_STATUS_IN_ACCEPT r = b2n acc ∧
      (∀ f, f.ok = true ∧ f.reg = R.REF_STATUS ∧ 29 < f.lo → e.get f r = d.get f r) ∧
      d.Keeps e (· ∈ judgeOffs r) [.recd] := by
  rw [Dev.gateMarked] at he
  generalize ha : (d.gateDrift r warn slope).put R.REF_STATUS_IN_ACCEPT (b2n acc) r = a at he
  have hk : d.Keeps a (· ∈ judgeOffs r) [.recd] := by
    rw [← ha]
    exact (d.keeps_gateDrift r warn slope).put _ _ _ _ (by simp [judgeOffs, R.REF_STATUS_IN_ACCEPT])
  have hget : ∀ f, f.reg = R.REF_STATUS → e.get f r = a.get f r := fun f hf => by
    rw [← he]
    exact (a.keeps_gateFollowed r mean).get f r 0 (by rw [hf]; exact refStatus_notMem_selectOffs hr)
  refine ⟨?_, fun f ⟨hok, hreg, hlo⟩ => ?_, ?_⟩
  · rw [hget _ rfl, ← ha, Dev.get_put_lt _ _ _ _ _ 2 (by decide) (by cases acc <;> decide)]
  · rw [hget _ hreg, ← ha, Dev.get_put_apart _ _ f _ _ _ ⟨by decide, hok, hreg, .inr hlo⟩,
      d.get_gateDrift hr _ _ f ⟨hok, hreg, by omega⟩]
  · rw [← he]
    exact hk.trans ((a.keeps_gateFollowed r mean).mono (selectOffs_subset_judgeOffs r) (fun _ h => h))

/-- A qualified reference beyond its reject limit is rejected, and the selector chooses again (R95). -/
theorem Dev.gateJudged_of_beyond {d : Dev} {r : Nat} {m : RefMon} {mean : Int} (acc : Bool)
    (hq : d.get R.REF_STATUS_QUALIFIED r = 1) (hm : m.reject * 1000 < mean.natAbs) :
    d.gateJudged r m mean acc = ((d.put R.REF_STATUS_QUALIFIED 0 r).put R.REF_STATUS_REJECTED 1 r).select := by
  rw [Dev.gateJudged, if_pos ((d.on_iff _ _ _).mpr hq), if_pos hm]

/-- A qualified reference within its reject limit stays so (R95). -/
theorem Dev.gateJudged_of_within {d : Dev} {r : Nat} {m : RefMon} {mean : Int} (acc : Bool)
    (hq : d.get R.REF_STATUS_QUALIFIED r = 1) (hm : mean.natAbs ≤ m.reject * 1000) : d.gateJudged r m mean acc = d := by
  rw [Dev.gateJudged, if_pos ((d.on_iff _ _ _).mpr hq), if_neg (not_lt.mpr hm)]

/-- A reference that comes within its accept limit starts its wait-to-restore (R95). -/
theorem Dev.gateJudged_starts_wait {d : Dev} {r : Nat} {m : RefMon} (mean : Int)
    (hq : d.get R.REF_STATUS_QUALIFIED r = 0) (hp : m.priority ≠ 0) (hs : m.inSince = none) {e : Dev}
    (he : d.gateJudged r m mean true = e) :
    e.get R.REF_STATUS_WTR_RUNNING r = 1 ∧ (e.refMon r).inSince = some d.now := by
  have hon : ¬d.on R.REF_STATUS_QUALIFIED r = true := fun h => by
    rw [Dev.on_iff, hq] at h
    exact absurd h (by decide)
  rw [Dev.gateJudged, if_neg hon, if_pos (by simp [hp]), Dev.gateWaits, hs] at he
  dsimp only at he
  subst he
  constructor
  · rw [Dev.get_put_apart _ _ _ _ _ _ (by decide), Dev.get_put_lt _ _ _ _ _ 2 (by decide) (by decide)]
  · rw [Dev.refMon_put, Dev.refMon_put, Dev.refMon_setRefMon]

theorem refFreqGate_sets {d : Dev} {r : Nat} {gate : Int} (hr : r < 12) (hf : d.ref.forceRef < 12)
    (hb : d.get R.REFSEL_STATUS_MON_BASIS = 1) (ha : d.refAlive r = true) {m : RefMon} (hmon : d.refMon r = m)
    {g : List Int} (hg : (gate :: m.gates).take 64 = g) {mean : Int} (hm : meanOf (g.take 8) = mean) {e : Dev}
    (he : refFreqGate r gate d = e) :
    (e.refMon r).gates = g ∧ e.get R.REF_STATUS_ACTIVE r = 1 ∧ e.reg R.REF_FREQ r = ofSigned 32 mean ∧
      e.get R.REF_STATUS_IN_ACCEPT r = b2n (decide (mean.natAbs ≤ m.accept * 1000)) ∧
      (d.get R.REF_STATUS_QUALIFIED r = 1 → m.reject * 1000 < mean.natAbs →
        e.get R.REF_STATUS_QUALIFIED r = 0 ∧ e.get R.REF_STATUS_REJECTED r = 1 ∧ e.FollowsChoice) ∧
      (d.get R.REF_STATUS_QUALIFIED r = 1 → mean.natAbs ≤ m.reject * 1000 → e.get R.REF_STATUS_QUALIFIED r = 1) ∧
      (d.get R.REF_STATUS_QUALIFIED r = 0 → mean.natAbs ≤ m.accept * 1000 → m.priority ≠ 0 → m.inSince = none →
        e.get R.REF_STATUS_WTR_RUNNING r = 1 ∧ (e.refMon r).inSince = some d.now) ∧
      d.Keeps e (· ∈ refOffs r ++ recOffs) [.ref, .recd] := by
  subst hmon
  generalize hacc : decide (mean.natAbs ≤ (d.refMon r).accept * 1000) = acc
  rw [refFreqGate_of_alive gate hr hb ha hg hm hacc] at he
  generalize hM : d.gateMeasured r g mean (gateSlope g) = a at he
  obtain ⟨amon, aforce, aact, aqual, afreq, ak⟩ := d.gateMeasured_sets r g mean _ hM
  generalize hB : a.gateMarked r (d.refMon r).driftWarn mean (gateSlope g) acc = b at he
  obtain ⟨bacc, bget, bk⟩ := a.gateMarked_sets hr _ _ _ _ hB
  have bref : b.ref = a.ref := bk.ref.resolve_left (by simp)
  have bqual : b.get R.REF_STATUS_QUALIFIED r = d.get R.REF_STATUS_QUALIFIED r := (bget _ (by decide)).trans aqual
  have bforce : b.ref.forceRef < 12 := by rw [bref, aforce]; exact hf
  have hj : b.Judges e r := he ▸ (Dev.Judges.refl b r).gateJudged hr _ _ _
  have hfree := refFreq_notMem_judgeOffs hr
  refine ⟨?_, ?_, ?_, ?_, fun hq hrej => ?_, fun hq hin => ?_, fun hq hin hp hs => ?_, ?_⟩
  · rw [hj.gates, Dev.refMon_of_refs (congrArg RefSt.refs bref), amon]
  · rw [hj.shown _ (by decide) rfl (by decide) (by decide), bget _ (by decide), aact]
  · rw [hj.keeps.reg _ _ _ hfree, bk.reg _ _ _ hfree, afreq]
  · rw [hj.shown _ (by decide) rfl (by decide) (by decide), bacc]
  · rw [Dev.gateJudged_of_beyond acc (bqual.trans hq) hrej] at he
    subst he
    refine ⟨?_, ?_, Dev.followsChoice_select _ (by rw [Dev.put_ref, Dev.put_ref]; exact bforce)⟩
    · rw [Dev.get_select _ hr _ rfl, Dev.get_put_apart _ _ _ _ _ _ (by decide), Dev.get_put _ _ _ _ _ (by decide),
        Nat.zero_mod]
    · rw [Dev.get_select _ hr _ rfl, Dev.get_put_lt _ _ _ _ _ 2 (by decide) (by decide)]
  · rw [Dev.gateJudged_of_within acc (bqual.trans hq) hin] at he
    rw [← he, bqual, hq]
  · obtain rfl : true = acc := by rw [← hacc, decide_eq_true hin]
    rw [← ak.now, ← bk.now]
    exact Dev.gateJudged_starts_wait mean (bqual.trans hq) hp hs he
  · have hsub : ∀ x ∈ refOffs r, x ∈ refOffs r ++ recOffs := fun _ hx => List.mem_append_left _ hx
    exact ((ak.mono hsub (by simp)).trans (bk.mono (judgeOffs_subset r) (by simp))).trans
      (hj.keeps.mono (judgeOffs_subset r) (by simp))

/-- The end of a 1 s gate renews the mean over 8 gates, and judges the reference by it (R94, R95). -/
theorem refFreqGate_judges (t r : Nat) (gate : Int) (s : State) (hr : r < 12) (hf : s.dev.ref.forceRef < 12)
    (hb : s.dev.get R.REFSEL_STATUS_MON_BASIS = 1) (ha : s.dev.refAlive r = true) :
    let m := s.dev.refMon r
    let g := (gate :: m.gates).take 64
    let mean := meanOf (g.take 8)
    ∃ s', exec (.refFreqGate t r gate) s = .next s' ∧ (s'.dev.refMon r).gates = g ∧
      s'.dev.get R.REF_STATUS_ACTIVE r = 1 ∧ s'.dev.reg R.REF_FREQ r = ofSigned 32 mean ∧
      s'.dev.get R.REF_STATUS_IN_ACCEPT r = b2n (decide (mean.natAbs ≤ m.accept * 1000)) ∧
      (s.dev.get R.REF_STATUS_QUALIFIED r = 1 → m.reject * 1000 < mean.natAbs →
        s'.dev.get R.REF_STATUS_QUALIFIED r = 0 ∧ s'.dev.get R.REF_STATUS_REJECTED r = 1 ∧ s'.dev.FollowsChoice) ∧
      (s.dev.get R.REF_STATUS_QUALIFIED r = 1 → mean.natAbs ≤ m.reject * 1000 →
        s'.dev.get R.REF_STATUS_QUALIFIED r = 1) ∧
      (s.dev.get R.REF_STATUS_QUALIFIED r = 0 → mean.natAbs ≤ m.accept * 1000 → m.priority ≠ 0 → m.inSince = none →
        s'.dev.get R.REF_STATUS_WTR_RUNNING r = 1 ∧ (s'.dev.refMon r).inSince = some (max s.dev.now t)) ∧
      s.Keeps s' t (refOffs r ++ recOffs) [.ref, .recd] := by
  intro m g mean
  generalize he : refFreqGate r gate (s.dev.clock t) = e
  obtain ⟨h1, h2, h3, h4, h5, h6, h7, h8⟩ := refFreqGate_sets (d := s.dev.clock t) hr hf hb ha (m := m) rfl (g := g) rfl
    (mean := mean) rfl he
  rw [exec_refFreqGate, State.onDev, he]
  exact ⟨_, rfl, h1, h2, h3, h4, h5, h6, h7, rfl, .inr rfl, h8⟩

/-! ### Wait-to-restore -/

theorem exec_refWtrExpiry (t r : Nat) (s : State) : exec (.refWtrExpiry t r) s = s.onDev t (refWtrExpiry r) := rfl

theorem refWtrExpiry_sets {d : Dev} {r at' : Nat} (hr : r < 12) (hf : d.ref.forceRef < 12)
    (hs : (d.refMon r).inSince = some at') (hw : d.get R.REF_STATUS_WTR_RUNNING r = 1)
    (ha : d.get R.REF_STATUS_ACTIVE r = 1) (ht : at' + (d.refMon r).wtr * qS ≤ d.now) {e : Dev}
    (he : refWtrExpiry r d = e) :
    e.get R.REF_STATUS_QUALIFIED r = 1 ∧ e.get R.REF_STATUS_WTR_RUNNING r = 0 ∧ e.FollowsChoice ∧
      d.Keeps e (· ∈ refOffs r ++ recOffs) [.ref, .recd] := by
  rw [refWtrExpiry, hs] at he
  dsimp only at he
  rw [if_pos (by simp [Dev.on, hr, hw, ha, ht])] at he
  have hj : d.Judges e r := he ▸ ((Dev.Judges.refl d r).stopWtr.put R.REF_STATUS_QUALIFIED 1).select hr
  have hforce : ((d.stopWtr r).put R.REF_STATUS_QUALIFIED 1 r).ref.forceRef < 12 := by
    rw [Dev.put_ref, Dev.stopWtr_forceRef]
    exact hf
  subst he
  refine ⟨?_, ?_, Dev.followsChoice_select _ hforce, hj.keeps.mono (judgeOffs_subset r) (by simp)⟩
  · rw [Dev.get_select _ hr _ rfl, Dev.get_put_lt _ _ _ _ _ 2 (by decide) (by decide)]
  · rw [Dev.get_select _ hr _ rfl, Dev.get_put_apart _ _ _ _ _ _ (by decide), Dev.get_stopWtr_running]

/-- The end of the wait-to-restore qualifies the reference (R95). -/
theorem refWtrExpiry_qualifies (t r at' : Nat) (s : State) (hr : r < 12) (hf : s.dev.ref.forceRef < 12)
    (hs : (s.dev.refMon r).inSince = some at') (hw : s.dev.get R.REF_STATUS_WTR_RUNNING r = 1)
    (ha : s.dev.get R.REF_STATUS_ACTIVE r = 1) (ht : at' + (s.dev.refMon r).wtr * qS ≤ max s.dev.now t) :
    ∃ s', exec (.refWtrExpiry t r) s = .next s' ∧ s'.dev.get R.REF_STATUS_QUALIFIED r = 1 ∧
      s'.dev.get R.REF_STATUS_WTR_RUNNING r = 0 ∧ s'.dev.FollowsChoice ∧
      s.Keeps s' t (refOffs r ++ recOffs) [.ref, .recd] := by
  generalize he : refWtrExpiry r (s.dev.clock t) = e
  obtain ⟨h1, h2, h3, h4⟩ := refWtrExpiry_sets (d := s.dev.clock t) hr hf hs hw ha ht he
  rw [exec_refWtrExpiry, State.onDev, he]
  exact ⟨_, rfl, h1, h2, h3, rfl, .inr rfl, h4⟩

/-! ### Pull and holdover -/

theorem exec_pullComplete (t : Nat) (s : State) : exec (.pullComplete t) s = s.onDev t pullComplete := rfl

/-- The end of a pull is LOCKED (R99, R100). -/
theorem pullComplete_locks (t : Nat) (s : State) (hs : s.dev.get R.REFSEL_STATUS_STATE = selPulling)
    (hp : (s.dev.clock t).pullLeft = 0) :
    ∃ s', exec (.pullComplete t) s = .next s' ∧ s'.dev.get R.REFSEL_STATUS_STATE = selLocked ∧
      s'.dev.ref = { s.dev.ref with pull := 0, lockedAt := some (max s.dev.now t) } ∧
      s.Keeps s' t [R.REFSEL_STATUS.off 0 0] [.ref] := by
  rw [exec_pullComplete, State.onDev, pullComplete, if_pos (by simp [hs, hp])]
  refine ⟨_, rfl, Dev.get_put_lt _ _ _ _ _ 8 (by decide) (by decide), Dev.put_ref _ _ _ _ _, rfl, .inr rfl, ?_⟩
  exact ((Dev.Keeps.refl _ _ _).withRef _ (by simp)).put _ _ _ _ (by simp [R.REFSEL_STATUS_STATE])

theorem exec_holdoverReadyTimer (t : Nat) (s : State) :
    exec (.holdoverReadyTimer t) s = s.onDev t holdoverReady := rfl

/-- 60 s of LOCKED with a warm OCXO make holdover ready (R99). -/
theorem holdoverReadyTimer_readies (t at' : Nat) (s : State) (hs : s.dev.get R.REFSEL_STATUS_STATE = selLocked)
    (hl : s.dev.ref.lockedAt = some at') (hw : s.dev.ref.warm = true) (ho : s.dev.ref.ocxo = true)
    (ht : at' + 60 * qS ≤ max s.dev.now t) :
    ∃ s', exec (.holdoverReadyTimer t) s = .next s' ∧ s'.dev.get R.REFSEL_STATUS_HOLDOVER_READY = 1 ∧
      s'.dev.get R.REFSEL_STATUS_STATE = selLocked ∧ s.Keeps s' t [R.REFSEL_STATUS.off 0 0] [] := by
  have hd : holdoverReady (s.dev.clock t) = (s.dev.clock t).put R.REFSEL_STATUS_HOLDOVER_READY 1 := by
    unfold holdoverReady
    rw [Dev.clock_ref, hl]
    dsimp only
    rw [if_pos (by simpa [hs, hw, ho] using ht)]
  rw [exec_holdoverReadyTimer, State.onDev, hd]
  refine ⟨_, rfl, Dev.get_put_lt _ _ _ _ _ 2 (by decide) (by decide), ?_, rfl, .inr rfl, ?_⟩
  · exact (Dev.get_put_apart _ _ _ _ _ _ (by decide)).trans hs
  · exact (Dev.Keeps.refl _ _ _).put _ _ _ _ (by simp [R.REFSEL_STATUS_HOLDOVER_READY])

/-! ### The OCXO -/

/-- What one element of a list establishes, and every element keeps, holds after the fold. -/
theorem foldl_of_mem {α β : Type} {f : β → α → β} {P : β → Prop} {a : α} {l : List α} (ha : a ∈ l)
    (hset : ∀ b, P (f b a)) (hkeep : ∀ b x, P b → P (f b x)) (b : β) : P (l.foldl f b) := by
  obtain ⟨l1, l2, rfl⟩ := List.append_of_mem ha
  rw [List.foldl_append, List.foldl_cons]
  exact List.foldlRecOn l2 f (hset _) fun b hb x _ => hkeep b x hb

/-- The registers of the selector's status and of the references' (R96). -/
def ocxoOffs : List Nat := R.REFSEL_STATUS.off 0 0 :: (List.range 12).map fun r => R.REF_STATUS.off r 0

theorem refStatus_mem_ocxoOffs {r : Nat} (hr : r ∈ List.range 12) : R.REF_STATUS.off r 0 ∈ ocxoOffs :=
  List.mem_cons_of_mem _ (List.mem_map_of_mem hr)

/-- Once a reference's wait has stopped it stays so while others stop. -/
theorem Dev.get_stopWtr_stays {d : Dev} {r : Nat} (n : Nat) (h : d.get R.REF_STATUS_WTR_RUNNING r = 0) :
    (d.stopWtr n).get R.REF_STATUS_WTR_RUNNING r = 0 := by
  obtain rfl | hn := eq_or_ne r n
  · exact d.get_stopWtr_running r
  · rw [d.get_stopWtr_ne hn _ rfl, h]

theorem Dev.get_stopWtr_qualified (d : Dev) (n r : Nat) :
    (d.stopWtr n).get R.REF_STATUS_QUALIFIED r = d.get R.REF_STATUS_QUALIFIED r := by
  obtain rfl | hn := eq_or_ne r n
  · exact d.get_stopWtr r _ (by decide)
  · exact d.get_stopWtr_ne hn _ rfl

theorem exec_ocxoLost (t : Nat) (s : State) : exec (.ocxoLost t) s = s.onDev t ocxoLost := rfl

/-- The monitors without the OCXO as their basis, before their waits stop (R96). -/
def Dev.withoutOcxo (d : Dev) : Dev :=
  ({ d with ref := { d.ref with ocxo := false } }.put R.REFSEL_STATUS_MON_BASIS 0).put R.REFSEL_STATUS_HOLDOVER_READY 0

theorem ocxoLost_eq (d : Dev) : ocxoLost d = (List.range 12).foldl Dev.stopWtr d.withoutOcxo := rfl

theorem Dev.withoutOcxo_sets (d : Dev) : d.withoutOcxo.ref.ocxo = false ∧
    d.withoutOcxo.get R.REFSEL_STATUS_MON_BASIS = 0 ∧ d.withoutOcxo.get R.REFSEL_STATUS_HOLDOVER_READY = 0 := by
  refine ⟨?_, ?_, ?_⟩
  · rw [Dev.withoutOcxo, Dev.put_ref, Dev.put_ref]
  · rw [Dev.withoutOcxo, Dev.get_put_apart _ _ _ _ _ _ (by decide), Dev.get_put _ _ _ _ _ (by decide), Nat.zero_mod]
  · rw [Dev.withoutOcxo, Dev.get_put _ _ _ _ _ (by decide), Nat.zero_mod]

theorem Dev.refMon_withoutOcxo (d : Dev) (r : Nat) : d.withoutOcxo.refMon r = d.refMon r := by
  rw [Dev.withoutOcxo, Dev.refMon_put, Dev.refMon_put]
  exact Dev.refMon_of_refs rfl r

theorem Dev.keeps_withoutOcxo (d : Dev) : d.Keeps d.withoutOcxo (· = R.REFSEL_STATUS.off 0 0) [.ref] := by
  unfold Dev.withoutOcxo
  exact (((Dev.Keeps.refl _ _ _).withRef _ (by simp)).put _ _ _ _ (by simp [R.REFSEL_STATUS_MON_BASIS])).put _ _ _ _
    (by simp [R.REFSEL_STATUS_HOLDOVER_READY])

theorem refStatus_ne_selector (r : Nat) : R.REF_STATUS.off r 0 ≠ R.REFSEL_STATUS.off 0 0 := by
  simp only [RegDesc.off, R.REFSEL_STATUS, R.REF_STATUS]
  omega

/-- What the waits' stop leaves of the selector. -/
theorem Dev.foldl_stopWtr_selector (l : List Nat) (d : Dev) : (l.foldl Dev.stopWtr d).ref.ocxo = d.ref.ocxo ∧
    ∀ f, f.reg = R.REFSEL_STATUS → (l.foldl Dev.stopWtr d).get f = d.get f := by
  refine List.foldlRecOn (motive := fun e : Dev => e.ref.ocxo = d.ref.ocxo ∧ ∀ f, f.reg = R.REFSEL_STATUS →
    e.get f = d.get f) l _ ⟨rfl, fun _ _ => rfl⟩ fun e ⟨ho, hs⟩ n _ => ⟨?_, fun f hf => ?_⟩
  · rw [Dev.stopWtr, Dev.put_ref, Dev.put_ref, Dev.setRefMon_ocxo, ho]
  · rw [← hs f hf]
    exact (e.keeps_stopWtr n).get f 0 0 (by rw [hf]; exact (refStatus_ne_selector n).symm)

/-- What the waits' stop leaves of a reference. -/
theorem Dev.foldl_stopWtr_monitor (l : List Nat) (d : Dev) (r : Nat) :
    ((l.foldl Dev.stopWtr d).refMon r).gates = (d.refMon r).gates ∧
      (l.foldl Dev.stopWtr d).get R.REF_STATUS_QUALIFIED r = d.get R.REF_STATUS_QUALIFIED r := by
  refine List.foldlRecOn (motive := fun e : Dev => (e.refMon r).gates = (d.refMon r).gates ∧
    e.get R.REF_STATUS_QUALIFIED r = d.get R.REF_STATUS_QUALIFIED r) l _ ⟨rfl, rfl⟩ fun e ⟨hg, hq⟩ n _ => ?_
  rw [e.gates_stopWtr, e.get_stopWtr_qualified]
  exact ⟨hg, hq⟩

/-- Without the OCXO the monitors have no basis: they hold, and every wait stops (R96). -/
theorem ocxoLost_holds (t : Nat) (s : State) :
    ∃ s', exec (.ocxoLost t) s = .next s' ∧ s'.dev.ref.ocxo = false ∧ s'.dev.get R.REFSEL_STATUS_MON_BASIS = 0 ∧
      s'.dev.get R.REFSEL_STATUS_HOLDOVER_READY = 0 ∧
      (∀ r, r < 12 → s'.dev.get R.REF_STATUS_WTR_RUNNING r = 0 ∧ (s'.dev.refMon r).gates = (s.dev.refMon r).gates ∧
        s'.dev.get R.REF_STATUS_QUALIFIED r = s.dev.get R.REF_STATUS_QUALIFIED r) ∧
      s.Keeps s' t (R.REFSEL_STATUS.off 0 0 :: (List.range 12).map fun r => R.REF_STATUS.off r 0) [.ref] := by
  rw [exec_ocxoLost, State.onDev, ocxoLost_eq]
  generalize ha : (s.dev.clock t).withoutOcxo = a
  obtain ⟨hocxo, hbasis, hready⟩ := (s.dev.clock t).withoutOcxo_sets
  have hmon := (s.dev.clock t).refMon_withoutOcxo
  have hk := (s.dev.clock t).keeps_withoutOcxo
  rw [ha] at hocxo hbasis hready hk
  obtain ⟨fo, fs⟩ := Dev.foldl_stopWtr_selector (List.range 12) a
  refine ⟨_, rfl, fo.trans hocxo, (fs _ rfl).trans hbasis, (fs _ rfl).trans hready, fun r hr => ?_, rfl, .inr rfl, ?_⟩
  · obtain ⟨fg, fq⟩ := Dev.foldl_stopWtr_monitor (List.range 12) a r
    refine ⟨?_, fg.trans ?_, fq.trans (hk.get _ r 0 (refStatus_ne_selector r))⟩
    · exact foldl_of_mem (P := fun e : Dev => e.get R.REF_STATUS_WTR_RUNNING r = 0) (List.mem_range.mpr hr)
        (fun e => e.get_stopWtr_running r) (fun _ n he => Dev.get_stopWtr_stays n he) a
    · rw [← ha, hmon]
      rfl
  · exact List.foldlRecOn (motive := fun e : Dev => (s.dev.clock t).Keeps e (· ∈ ocxoOffs) [.ref]) _ _
      (hk.mono (fun x hx => hx ▸ List.mem_cons_self) (by simp)) fun e he n hn =>
        he.stopWtr (by simp) n (refStatus_mem_ocxoOffs hn)

theorem exec_ocxoReturn (t : Nat) (s : State) : exec (.ocxoReturn t) s = s.onDev t ocxoReturn := rfl

theorem Dev.gates_restartGates (d : Dev) (r : Nat) : ((d.restartGates r).refMon r).gates = [] := by
  rw [Dev.restartGates, Dev.gates_stopWtr, Dev.refMon_setRefMon]

/-- Once a reference's gates have restarted they stay empty while others restart. -/
theorem Dev.gates_restartGates_stays {d : Dev} {r : Nat} (n : Nat) (h : (d.refMon r).gates = []) :
    ((d.restartGates n).refMon r).gates = [] := by
  obtain rfl | hn := eq_or_ne r n
  · exact d.gates_restartGates r
  · rw [Dev.restartGates, Dev.gates_stopWtr, Dev.refMon_setRefMon_ne _ _ hn, h]

theorem Dev.get_restartGates_running (d : Dev) (r : Nat) :
    (d.restartGates r).get R.REF_STATUS_WTR_RUNNING r = 0 := by
  rw [Dev.restartGates, Dev.get_stopWtr_running]

theorem Dev.get_restartGates_stays {d : Dev} {r : Nat} (n : Nat) (h : d.get R.REF_STATUS_WTR_RUNNING r = 0) :
    (d.restartGates n).get R.REF_STATUS_WTR_RUNNING r = 0 := by
  rw [Dev.restartGates, Dev.get_stopWtr_stays]
  rw [Dev.setRefMon_get, h]

/-- With the OCXO's return every monitor starts its gates anew (R96). -/
theorem ocxoReturn_restarts (t : Nat) (s : State) :
    ∃ s', exec (.ocxoReturn t) s = .next s' ∧ s'.dev.ref.ocxo = true ∧ s'.dev.get R.REFSEL_STATUS_MON_BASIS = 1 ∧
      (∀ r, r < 12 → (s'.dev.refMon r).gates = [] ∧ s'.dev.get R.REF_STATUS_WTR_RUNNING r = 0) ∧
      s.Keeps s' t (R.REFSEL_STATUS.off 0 0 :: (List.range 12).map fun r => R.REF_STATUS.off r 0) [.ref] := by
  obtain ⟨hocxo, hbasis, -⟩ := ocxoReturn_sets (s.dev.clock t)
  rw [exec_ocxoReturn, State.onDev]
  refine ⟨_, rfl, hocxo, hbasis, fun r hr => ⟨?_, ?_⟩, rfl, .inr rfl, ?_⟩
  · rw [ocxoReturn_eq]
    exact foldl_of_mem (P := fun e : Dev => (e.refMon r).gates = []) (List.mem_range.mpr hr)
      (fun e => e.gates_restartGates r) (fun _ n he => Dev.gates_restartGates_stays n he) _
  · rw [ocxoReturn_eq]
    exact foldl_of_mem (P := fun e : Dev => e.get R.REF_STATUS_WTR_RUNNING r = 0) (List.mem_range.mpr hr)
      (fun e => e.get_restartGates_running r) (fun _ n he => Dev.get_restartGates_stays n he) _
  · rw [ocxoReturn_eq]
    refine List.foldlRecOn (motive := fun e : Dev => (s.dev.clock t).Keeps e (· ∈ ocxoOffs) [.ref]) _ _ ?_
      fun e he n hn => (he.setRefMon _ _ (by simp)).stopWtr (by simp) n (refStatus_mem_ocxoOffs hn)
    exact ((Dev.Keeps.refl _ _ _).withRef _ (by simp)).put _ _ _ _ (by simp [ocxoOffs, R.REFSEL_STATUS_MON_BASIS])

/-! ### Settings -/

theorem exec_refselApply (t : Nat) (v : Word) (s : State) :
    exec (.refselApply t v) s = s.onDev t (·.gatedM 0x380004 v (refselApply v)) := rfl

/-- A register keeps the bits of a word that it has. -/
theorem and_mod_word (v : Word) (mask : Nat) : (v.toNat &&& mask) % 2 ^ 32 = v.toNat &&& mask :=
  Nat.mod_eq_of_lt (lt_of_le_of_lt Nat.and_le_left v.isLt)

theorem Dev.refMon_setPair (d : Dev) (x : PairSt) (r : Nat) : (d.setPair x).refMon r = d.refMon r := rfl

theorem Dev.followsChoice_setPair (d : Dev) (x : PairSt) : (d.setPair x).FollowsChoice ↔ d.FollowsChoice := Iff.rfl

/-- A write of REFSEL_CTRL before APPLY (R105). -/
def Dev.selStaged (d : Dev) (n : Nat) : Dev := d.setReg R.REFSEL_CTRL (n &&& 0x4F0F3FFF)

/-- The settings of a write of REFSEL_CTRL come into force (R105). -/
def Dev.selInForce (d : Dev) (n : Nat) : Dev :=
  { d with ref := { d.ref with
      forceEn := bit n 30, forceRef := bits n 27 24, loopBw := bits n 19 16, pull := d.pullLeft, pullAt := d.now
      pullSlope := bits n 13 0 } }

/-- The three ways of a write of REFSEL_CTRL: it stages only, it is applied, or its values are out of range. -/
theorem refselApply_eq (d : Dev) (v : Word) {n : Nat} (hn : v.toNat = n) :
    refselApply v d = if bit n 31 = false then d.selStaged n
      else if bits n 27 24 < 12 ∧ bits n 19 16 < 12 ∧ bits n 13 0 ≤ 9999 then
        (((d.selStaged n).selInForce n).bwLimited ((d.selStaged n).get R.REFSEL_STATUS_SELECTED)).select
      else (d.selStaged n).put R.REFSEL_STATUS_BAD_CONFIG 1 := by
  subst hn
  rw [refselApply]
  by_cases hb : bit v.toNat 31 = false
  · rw [if_pos (by simp [hb]), if_pos hb, Dev.selStaged]
  · rw [if_neg (by simpa using hb), if_neg hb]
    by_cases hi : bits v.toNat 27 24 < 12 ∧ bits v.toNat 19 16 < 12 ∧ bits v.toNat 13 0 ≤ 9999
    · rw [if_neg (by simp; omega), if_pos hi]
      rfl
    · rw [if_pos (by simp; omega), if_neg hi, Dev.selStaged]

theorem Dev.reg_selStaged (d : Dev) (v : Word) :
    (d.selStaged v.toNat).reg R.REFSEL_CTRL = v.toNat &&& 0x4F0F3FFF := by
  rw [Dev.selStaged, Dev.reg_setReg, and_mod_word]

theorem Dev.selStaged_ref (d : Dev) (n : Nat) : (d.selStaged n).ref = d.ref := Dev.setReg_ref _ _ _ _ _

theorem Dev.keeps_selStaged (d : Dev) (n : Nat) :
    d.Keeps (d.selStaged n) (· ∈ R.REFSEL_CTRL.off 0 0 :: selectOffs) [.ref, .recd] := by
  unfold Dev.selStaged
  exact (Dev.Keeps.refl _ _ _).setReg _ _ _ _ (by simp)

/-- The settings of REFSEL_CTRL in force, with the choice that the selector then makes (R105). -/
theorem Dev.selInForce_sets (d : Dev) {n : Nat} (hr : bits n 27 24 < 12) (sel : Nat) {e : Dev}
    (he : ((d.selInForce n).bwLimited sel).select = e) :
    e.ref.forceEn = bit n 30 ∧ e.ref.forceRef = bits n 27 24 ∧ e.ref.loopBw = bits n 19 16 ∧
      e.ref.pullSlope = bits n 13 0 ∧ e.ref.refs = d.ref.refs ∧ e.FollowsChoice ∧
      d.Keeps e (· ∈ selectOffs) [.ref, .recd] := by
  generalize hb : (d.selInForce n).bwLimited sel = b at he
  have href : b.ref = (d.selInForce n).ref := by rw [← hb, Dev.bwLimited_ref]
  have hk : d.Keeps b (· ∈ selectOffs) [.ref, .recd] := by
    rw [← hb, Dev.bwLimited, Dev.selInForce]
    exact ((Dev.Keeps.refl _ _ _).withRef _ (by simp)).put _ _ _ _ (by simp [selectOffs, R.REFSEL_STATUS_BW_LIMITED])
  have hs := b.select_settings
  have hf : b.select.FollowsChoice := b.followsChoice_select (by rw [href]; exact hr)
  have hks := b.keeps_select
  rw [he, href] at hs
  rw [he] at hf hks
  exact ⟨hs.forceEn, hs.forceRef, hs.loopBw, hs.pullSlope, hs.refs, hf, hk.trans hks⟩

theorem refselApply_sets {d : Dev} {v : Word} {n : Nat} (hn : v.toNat = n) {e : Dev} (he : refselApply v d = e) :
    e.reg R.REFSEL_CTRL = n &&& 0x4F0F3FFF ∧
      (if bit n 31 = false then e.ref = d.ref
      else if bits n 27 24 < 12 ∧ bits n 19 16 < 12 ∧ bits n 13 0 ≤ 9999 then
        e.ref.forceEn = bit n 30 ∧ e.ref.forceRef = bits n 27 24 ∧ e.ref.loopBw = bits n 19 16 ∧
          e.ref.pullSlope = bits n 13 0 ∧ e.ref.refs = d.ref.refs ∧ e.FollowsChoice
      else e.get R.REFSEL_STATUS_BAD_CONFIG = 1 ∧ e.ref = d.ref) ∧
      d.Keeps e (· ∈ R.REFSEL_CTRL.off 0 0 :: selectOffs) [.ref, .recd] := by
  have hreg := d.reg_selStaged v
  have href := d.selStaged_ref n
  have hk := d.keeps_selStaged n
  rw [refselApply_eq d v hn] at he
  rw [hn] at hreg
  generalize d.selStaged n = a at he hreg href hk
  split
  · next hb =>
    rw [if_pos hb] at he
    subst he
    exact ⟨hreg, href, hk⟩
  · next hb =>
    rw [if_neg hb] at he
    split
    · next hi =>
      rw [if_pos hi] at he
      obtain ⟨h1, h2, h3, h4, h5, h6, h7⟩ := a.selInForce_sets hi.1 _ he
      exact ⟨(h7.reg _ _ _ (by decide)).trans hreg, ⟨h1, h2, h3, h4, h5.trans (congrArg RefSt.refs href), h6⟩,
        hk.trans (h7.mono (fun _ hx => List.mem_cons_of_mem _ hx) (fun _ hx => hx))⟩
    · next hi =>
      rw [if_neg hi] at he
      subst he
      refine ⟨?_, ⟨?_, ?_⟩, ?_⟩
      · rw [Dev.reg_put_ne _ _ _ _ _ _ _ _ (by decide), hreg]
      · exact Dev.get_put_lt _ _ _ _ _ 2 (by decide) (by decide)
      · rw [Dev.put_ref, href]
      · exact hk.put _ _ _ _ (by simp [selectOffs, R.REFSEL_STATUS_BAD_CONFIG])

/-- A write of REFSEL_CTRL stages its values, applies them, or sets BAD_CONFIG (R105). -/
theorem refselApply_takes (t : Nat) (v : Word) (s : State) (hr : s.dev.Reaches 0x380004) (ha : s.dev.Alone) :
    let n := v.toNat
    ∃ s', exec (.refselApply t v) s = .next s' ∧ s'.dev.reg R.REFSEL_CTRL = n &&& 0x4F0F3FFF ∧
      (if bit n 31 = false then s'.dev.ref = s.dev.ref
      else if bits n 27 24 < 12 ∧ bits n 19 16 < 12 ∧ bits n 13 0 ≤ 9999 then
        s'.dev.ref.forceEn = bit n 30 ∧ s'.dev.ref.forceRef = bits n 27 24 ∧ s'.dev.ref.loopBw = bits n 19 16 ∧
          s'.dev.ref.pullSlope = bits n 13 0 ∧ s'.dev.ref.refs = s.dev.ref.refs ∧ s'.dev.FollowsChoice
      else s'.dev.get R.REFSEL_STATUS_BAD_CONFIG = 1 ∧ s'.dev.ref = s.dev.ref) ∧
      s.Keeps s' t ([R.REFSEL_CTRL.off 0 0, R.REFSEL_STATUS.off 0 0, R.REFSEL_FREQ.off 0 0] ++ recOffs)
        [.ref, .recd, .pair] := by
  intro n
  obtain ⟨x, hx⟩ := (s.dev.clock t).hostEffect_of_alone v (refselApply v) (by decide : mirrored 0x380004 = true) ha
  generalize he : refselApply v (s.dev.clock t) = e at hx
  obtain ⟨h1, h2, h3⟩ := refselApply_sets (d := s.dev.clock t) (n := n) rfl he
  rw [exec_refselApply, State.onDev, Dev.gatedM, Dev.gated_of_reaches (hr.clock t), hx]
  refine ⟨_, rfl, h1, ?_, rfl, .inr rfl, (h3.mono (fun _ hx => hx) (by simp)).setPair _ (by simp)⟩
  rw [Dev.clock_ref] at h2
  simp only [Dev.setPair_ref, Dev.setPair_get, Dev.followsChoice_setPair]
  exact h2

/-! ### Settings of one reference -/

theorem exec_refCfgApply (t r : Nat) (v : Word) (s : State) :
    exec (.refCfgApply t r v) s = s.onDev t (·.gatedM (R.REF_CFG.off r 0) v (refCfgApply r v)) := rfl

theorem mirrored_refCfg {r : Nat} (hr : r < 12) : mirrored (R.REF_CFG.off r 0) = true := by
  have h : (0x380100 ≤ R.REF_CFG.off r 0 ∧ R.REF_CFG.off r 0 < 0x380280) ∧ R.REF_CFG.off r 0 % 0x20 ≤ 4 := by
    simp only [RegDesc.off, R.REF_CFG]
    omega
  simp [mirrored, h]

/-- A write of REF_CFG before APPLY (R105). -/
def Dev.cfgStaged (d : Dev) (r n : Nat) : Dev := d.setReg R.REF_CFG (n &&& 0x6FFFFFFF) r

/-- The settings of a write of REF_CFG and of REF_LIMITS: a running wait starts anew (R105). -/
def RefMon.applied (m : RefMon) (n acc rej now : Nat) : RefMon :=
  { m with
    lockout := bit n 30, ppsReq := bit n 29, priority := bits n 27 24, wtr := bits n 23 16, driftWarn := bits n 15 0
    accept := acc, reject := rej, inSince := m.inSince.map fun _ => now }

/-- Those settings come into force; PRIORITY 0 takes the reference out of the choice (R105). -/
def Dev.cfgInForce (d : Dev) (r n acc rej : Nat) : Dev :=
  let d := d.setRefMon r ((d.refMon r).applied n acc rej d.now)
  if bits n 27 24 = 0 then (d.put R.REF_STATUS_QUALIFIED 0 r).stopWtr r else d

theorem Dev.get_cfgStaged (d : Dev) (r n : Nat) (f : FldDesc) (hf : f.reg = R.REF_LIMITS) :
    (d.cfgStaged r n).get f r = d.get f r :=
  Dev.get_setReg_ne _ _ _ _ _ _ _ _ (by
    rw [hf]
    simp only [RegDesc.off, R.REF_LIMITS, R.REF_CFG]
    omega)

/-- The test of a write of REF_CFG, in the terms of R105. -/
theorem cfgOutOfRange_iff (wtr r acc rej : Nat) (pps : Bool) :
    (decide (wtr = 0) || (pps && decide (r ≠ 0)) || decide (acc = 0) || decide (rej ≤ acc)) = true ↔
      ¬(wtr ≠ 0 ∧ (pps = false ∨ r = 0) ∧ acc ≠ 0 ∧ acc < rej) := by
  cases pps with
  | false =>
    simp only [Bool.false_and, Bool.or_false, Bool.or_eq_true, decide_eq_true_eq, true_or, true_and]
    omega
  | true =>
    simp only [Bool.true_and, Bool.or_eq_true, decide_eq_true_eq, Bool.true_eq_false, false_or]
    omega

/-- The three ways of a write of REF_CFG: it stages only, it is applied, or its values are out of range. -/
theorem refCfgApply_eq (d : Dev) (v : Word) {r n acc rej : Nat} (hr : r < 12) (hn : v.toNat = n)
    (ha : d.get R.REF_LIMITS_ACCEPT_PPB r = acc) (hj : d.get R.REF_LIMITS_REJECT_PPB r = rej) :
    refCfgApply r v d = if bit n 31 = false then d.cfgStaged r n
      else if bits n 23 16 ≠ 0 ∧ (bit n 29 = false ∨ r = 0) ∧ acc ≠ 0 ∧ acc < rej then
        ((d.cfgStaged r n).cfgInForce r n acc rej).select
      else (d.cfgStaged r n).put R.REF_STATUS_BAD_CONFIG 1 r := by
  rw [← d.get_cfgStaged r n _ rfl] at ha hj
  subst hn
  rw [refCfgApply, if_neg (not_le.mpr hr)]
  dsimp only
  rw [← Dev.cfgStaged, ha, hj]
  by_cases hb : bit v.toNat 31 = false
  · rw [if_pos (by simp [hb]), if_pos hb]
  · rw [if_neg (by simpa using hb), if_neg hb]
    have hout := cfgOutOfRange_iff (bits v.toNat 23 16) r acc rej (bit v.toNat 29)
    by_cases hi : bits v.toNat 23 16 ≠ 0 ∧ (bit v.toNat 29 = false ∨ r = 0) ∧ acc ≠ 0 ∧ acc < rej
    · rw [if_neg fun h => hout.mp h hi, if_pos hi]
      rfl
    · rw [if_pos (hout.mpr hi), if_neg hi]

theorem Dev.reg_cfgStaged (d : Dev) (r : Nat) (v : Word) :
    (d.cfgStaged r v.toNat).reg R.REF_CFG r = v.toNat &&& 0x6FFFFFFF := by
  rw [Dev.cfgStaged, Dev.reg_setReg, and_mod_word]

theorem Dev.cfgStaged_ref (d : Dev) (r n : Nat) : (d.cfgStaged r n).ref = d.ref := Dev.setReg_ref _ _ _ _ _

theorem Dev.keeps_cfgStaged (d : Dev) (r n : Nat) :
    d.Keeps (d.cfgStaged r n) (· ∈ R.REF_CFG.off r 0 :: judgeOffs r) [.ref, .recd] := by
  unfold Dev.cfgStaged
  exact (Dev.Keeps.refl _ _ _).setReg _ _ _ _ (by simp)

theorem Dev.refMon_cfgInForce (d : Dev) (r n acc rej : Nat) :
    ∃ i, (d.cfgInForce r n acc rej).refMon r = { (d.refMon r).applied n acc rej d.now with inSince := i } := by
  unfold Dev.cfgInForce
  dsimp only
  by_cases hp : bits n 27 24 = 0
  · rw [if_pos hp, Dev.refMon_stopWtr, Dev.refMon_put, Dev.refMon_setRefMon]
    exact ⟨_, rfl⟩
  · rw [if_neg hp, Dev.refMon_setRefMon]
    exact ⟨_, rfl⟩

theorem Dev.cfgInForce_forceRef (d : Dev) (r n acc rej : Nat) :
    (d.cfgInForce r n acc rej).ref.forceRef = d.ref.forceRef := by
  unfold Dev.cfgInForce
  dsimp only
  by_cases hp : bits n 27 24 = 0
  · rw [if_pos hp, Dev.stopWtr_forceRef, Dev.put_ref, Dev.setRefMon_forceRef]
  · rw [if_neg hp, Dev.setRefMon_forceRef]

/-- A reference of PRIORITY 0 is not qualified (R97). -/
theorem Dev.cfgInForce_unqualified (d : Dev) (r acc rej : Nat) {n : Nat} (hp : bits n 27 24 = 0) :
    (d.cfgInForce r n acc rej).get R.REF_STATUS_QUALIFIED r = 0 := by
  unfold Dev.cfgInForce
  dsimp only
  rw [if_pos hp, Dev.get_stopWtr _ _ _ (by decide), Dev.get_put _ _ _ _ _ (by decide), Nat.zero_mod]

theorem Dev.judges_cfgInForce (d : Dev) (r n acc rej : Nat) : d.Judges (d.cfgInForce r n acc rej) r := by
  unfold Dev.cfgInForce
  have h := (Dev.Judges.refl d r).setRefMon ((d.refMon r).applied n acc rej d.now) rfl
  exact .ite (h.put R.REF_STATUS_QUALIFIED 0).stopWtr h

theorem refCfgApply_sets {d : Dev} {v : Word} {r n acc rej : Nat} (hr : r < 12) (hf : d.ref.forceRef < 12)
    (hn : v.toNat = n) (ha : d.get R.REF_LIMITS_ACCEPT_PPB r = acc) (hj : d.get R.REF_LIMITS_REJECT_PPB r = rej)
    {e : Dev} (he : refCfgApply r v d = e) :
    e.reg R.REF_CFG r = n &&& 0x6FFFFFFF ∧
      (if bit n 31 = false then e.ref = d.ref
      else if bits n 23 16 ≠ 0 ∧ (bit n 29 = false ∨ r = 0) ∧ acc ≠ 0 ∧ acc < rej then
        (e.refMon r).lockout = bit n 30 ∧ (e.refMon r).priority = bits n 27 24 ∧
          (e.refMon r).wtr = bits n 23 16 ∧ (e.refMon r).accept = acc ∧ (e.refMon r).reject = rej ∧
          (bits n 27 24 = 0 → e.get R.REF_STATUS_QUALIFIED r = 0) ∧ e.FollowsChoice
      else e.get R.REF_STATUS_BAD_CONFIG r = 1 ∧ e.ref = d.ref) ∧
      d.Keeps e (· ∈ R.REF_CFG.off r 0 :: judgeOffs r) [.ref, .recd] := by
  have hreg := d.reg_cfgStaged r v
  have href := d.cfgStaged_ref r n
  have hk := d.keeps_cfgStaged r n
  rw [refCfgApply_eq d v hr hn ha hj] at he
  rw [hn] at hreg
  generalize d.cfgStaged r n = a at he hreg href hk
  split
  · next hb =>
    rw [if_pos hb] at he
    subst he
    exact ⟨hreg, href, hk⟩
  · next hb =>
    rw [if_neg hb] at he
    split
    · next hi =>
      rw [if_pos hi] at he
      have hje : a.Judges e r := he ▸ (a.judges_cfgInForce r n acc rej).select hr
      obtain ⟨i, hm⟩ := a.refMon_cfgInForce r n acc rej
      rw [← Dev.refMon_select, he] at hm
      have hq : bits n 27 24 = 0 → e.get R.REF_STATUS_QUALIFIED r = 0 := fun hp => by
        rw [← he, Dev.get_select _ hr _ rfl, a.cfgInForce_unqualified r acc rej hp]
      have hfc : e.FollowsChoice := he ▸ Dev.followsChoice_select _ (by rw [Dev.cfgInForce_forceRef, href]; exact hf)
      refine ⟨(hje.keeps.reg _ _ _ (refCfg_notMem_judgeOffs hr)).trans hreg, ?_,
        hk.trans (hje.keeps.mono (fun _ hx => List.mem_cons_of_mem _ hx) (fun _ hx => hx))⟩
      rw [hm]
      exact ⟨rfl, rfl, rfl, rfl, rfl, hq, hfc⟩
    · next hi =>
      rw [if_neg hi] at he
      subst he
      refine ⟨?_, ⟨?_, ?_⟩, ?_⟩
      · rw [Dev.reg_put_ne _ _ _ _ _ _ _ _ (refCfg_ne_refStatus r), hreg]
      · exact Dev.get_put_lt _ _ _ _ _ 2 (by decide) (by decide)
      · rw [Dev.put_ref, href]
      · exact hk.put _ _ _ _ (by simp [judgeOffs, R.REF_STATUS_BAD_CONFIG])

/-- A write of REF_CFG stages its values, applies them with REF_LIMITS, or sets BAD_CONFIG (R105). -/
theorem refCfgApply_takes (t r : Nat) (v : Word) (s : State) (hr : r < 12) (hb : s.dev.Reaches (R.REF_CFG.off r 0))
    (ha : s.dev.Alone) (hf : s.dev.ref.forceRef < 12) :
    let n := v.toNat
    let acc := s.dev.get R.REF_LIMITS_ACCEPT_PPB r
    let rej := s.dev.get R.REF_LIMITS_REJECT_PPB r
    ∃ s', exec (.refCfgApply t r v) s = .next s' ∧ s'.dev.reg R.REF_CFG r = n &&& 0x6FFFFFFF ∧
      (if bit n 31 = false then s'.dev.ref = s.dev.ref
      else if bits n 23 16 ≠ 0 ∧ (bit n 29 = false ∨ r = 0) ∧ acc ≠ 0 ∧ acc < rej then
        (s'.dev.refMon r).lockout = bit n 30 ∧ (s'.dev.refMon r).priority = bits n 27 24 ∧
          (s'.dev.refMon r).wtr = bits n 23 16 ∧ (s'.dev.refMon r).accept = acc ∧ (s'.dev.refMon r).reject = rej ∧
          (bits n 27 24 = 0 → s'.dev.get R.REF_STATUS_QUALIFIED r = 0) ∧ s'.dev.FollowsChoice
      else s'.dev.get R.REF_STATUS_BAD_CONFIG r = 1 ∧ s'.dev.ref = s.dev.ref) ∧
      s.Keeps s' t (R.REF_CFG.off r 0 :: refOffs r ++ recOffs) [.ref, .recd, .pair] := by
  intro n acc rej
  obtain ⟨x, hx⟩ := (s.dev.clock t).hostEffect_of_alone v (refCfgApply r v) (mirrored_refCfg hr) ha
  generalize he : refCfgApply r v (s.dev.clock t) = e at hx
  obtain ⟨h1, h2, h3⟩ := refCfgApply_sets (d := s.dev.clock t) (n := n) (acc := acc) (rej := rej) hr hf rfl rfl rfl he
  have hsub : ∀ y ∈ R.REF_CFG.off r 0 :: judgeOffs r, y ∈ R.REF_CFG.off r 0 :: refOffs r ++ recOffs := by
    rw [List.cons_append]
    exact fun y hy => List.mem_cons.mpr ((List.mem_cons.mp hy).imp_right (judgeOffs_subset r y))
  rw [exec_refCfgApply, State.onDev, Dev.gatedM, Dev.gated_of_reaches (hb.clock t), hx]
  refine ⟨_, rfl, h1, ?_, rfl, .inr rfl, (h3.mono hsub (by simp)).setPair _ (by simp)⟩
  rw [Dev.clock_ref] at h2
  simp only [Dev.setPair_ref, Dev.setPair_get, Dev.refMon_setPair, Dev.followsChoice_setPair]
  exact h2

/-- Settles O20: whatever qualifies or disqualifies a reference, or brings settings into force, ends with a choice of the
selector, and after a choice it follows it (`followsChoice_select`); the frame rules give what the events leave alone. -/
theorem references : Obligations.References :=
  ⟨⟨refActivityLost_disqualifies, refFreqGate_judges, refWtrExpiry_qualifies⟩,
    ⟨pullComplete_locks, holdoverReadyTimer_readies, fun t s => ⟨ocxoLost_holds t s, ocxoReturn_restarts t s⟩⟩,
    refselApply_takes, refCfgApply_takes⟩

end Sys2Proof.Machine
end

section
/-! PROOFS. Ethernet ports and flow entries (R107 to R110, R126). -/

namespace Sys2Proof.Machine

theorem exec_ethCtrlWrite (t p : Nat) (v : Word) (s : State) :
    exec (.ethCtrlWrite t p v) s = s.onDev t (·.gated 0x400000 (ethCtrl p v)) := rfl
theorem exec_ethLinkLost (t p : Nat) (s : State) : exec (.ethLinkLost t p) s = s.onDev t (ethLinkLost p) := rfl
theorem exec_ethLinkUp (t p : Nat) (s : State) : exec (.ethLinkUp t p) s = s.onDev t (ethLinkUp p) := rfl
theorem exec_flowApply (t i : Nat) (v : Word) (s : State) :
    exec (.flowApply t i v) s = s.onDev t (·.gatedM (R.FLOW_CTRL.off i 0) v (flowApply i v)) := rfl

/-! ### Where the registers lie -/

/-- Two arrays with the same strides: the registers of one entry lie apart. -/
theorem RegDesc.off_ne {r r' : RegDesc} (h : r.s1 = r'.s1 ∧ r.s2 = r'.s2 ∧ r.base ≠ r'.base) (i j : Nat) :
    r.off i j ≠ r'.off i j := by
  obtain ⟨h1, h2, hb⟩ := h
  rw [RegDesc.off, RegDesc.off, h1, h2]
  omega

/-- The entries of an array that ends below another's first register. -/
theorem RegDesc.off_lt {r : RegDesc} {n m i : Nat} (hi : i < n) (h : r.base + n * r.s1 ≤ m) (hs : 0 < r.s1) :
    r.off i 0 < m := by
  have := Nat.mul_lt_mul_of_pos_right hi hs
  rw [RegDesc.off]
  omega

theorem notMem_recOffs_of_lt {x : Nat} (h : x < 0x1100000) : x ∉ recOffs := by
  simp only [recOffs, RegDesc.off, R.REC_SEQ, R.REC_STATUS, List.mem_cons, List.not_mem_nil, or_false]
  omega

theorem ethStatus_notMem_recOffs {p : Nat} (hp : p < 4) : R.ETH_STATUS.off p 0 ∉ recOffs :=
  notMem_recOffs_of_lt (RegDesc.off_lt hp (by decide) (by decide))

theorem b2n_lt (b : Bool) : b2n b < 2 := by cases b <;> decide

theorem bits_one (v i : Nat) : bits v i i = b2n (bit v i) := by
  have := Nat.mod_two_eq_zero_or_one (v / 2 ^ i)
  rcases this with h | h <;> simp [bits, bit, b2n, h]

/-! ### ETH_CTRL -/

/-- A write of ETH_CTRL that no port takes (R108). -/
theorem ethCtrl_refused_iff {p w : Nat} (hp : p < 4) :
    (p > 3 || (bit w 29 && !bit w 30) || bits w 13 0 < 1518 || 9216 < bits w 13 0) = true ↔
      (bit w 29 = true ∧ bit w 30 = false ∨ bits w 13 0 < 1518 ∨ 9216 < bits w 13 0) := by
  have h3 : ¬p > 3 := by omega
  simp [h3, or_assoc]

/-- ETH_CTRL after a write: all of it on a disabled port, ENABLE alone on an enabled one (R108). -/
def Dev.ethSet (d : Dev) (p w : Nat) : Dev :=
  d.setReg R.ETH_CTRL (if !d.on R.ETH_CTRL_ENABLE p then w &&& 0xE0003FFF
    else putBits (d.reg R.ETH_CTRL p) 31 31 (b2n (bit w 31))) p

theorem Dev.reg_ethSet_of_off {d : Dev} {p : Nat} (h : d.get R.ETH_CTRL_ENABLE p = 0) (w : Nat) :
    (d.ethSet p w).reg R.ETH_CTRL p = w &&& 0xE0003FFF := by
  have hon : d.on R.ETH_CTRL_ENABLE p = false := by simp [Dev.on, h]
  rw [Dev.ethSet, if_pos (by simp [hon]), Dev.reg_setReg]
  exact Nat.mod_eq_of_lt (Nat.and_lt_two_pow _ (by decide))

theorem Dev.ethSet_of_on {d : Dev} {p : Nat} (h : d.get R.ETH_CTRL_ENABLE p = 1) (w : Nat) :
    d.ethSet p w = d.put R.ETH_CTRL_ENABLE (b2n (bit w 31)) p := by
  rw [Dev.ethSet, if_neg (by simp [(d.on_iff _ _ _).mpr h])]
  rfl

theorem Dev.get_ethSet_enable (d : Dev) (p w : Nat) : (d.ethSet p w).get R.ETH_CTRL_ENABLE p = b2n (bit w 31) := by
  have h2 : d.get R.ETH_CTRL_ENABLE p < 2 := d.get_lt _ _ _
  rcases Nat.lt_succ_iff_lt_or_eq.mp h2 with h | h
  · rw [Dev.get, show R.ETH_CTRL_ENABLE.reg = R.ETH_CTRL from rfl, Dev.reg_ethSet_of_off (by omega)]
    refine (bits_and_of_ones fun k hk => ?_).trans (bits_one w 31)
    rw [show k = 0 by simpa [R.ETH_CTRL_ENABLE] using hk]
    decide
  · rw [Dev.ethSet_of_on h]
    exact Dev.get_put_lt _ _ _ _ _ 2 (by decide) (b2n_lt _)

/-- The link of a port is down (R108). -/
def Dev.ethDown (d : Dev) (p : Nat) : Dev := (d.put R.ETH_STATUS_LINK 0 p).put R.ETH_STATUS_FEC_ACTIVE 0 p

theorem Dev.ethDown_sets (d : Dev) (p : Nat) :
    (d.ethDown p).get R.ETH_STATUS_LINK p = 0 ∧ (d.ethDown p).get R.ETH_STATUS_FEC_ACTIVE p = 0 :=
  ⟨(Dev.get_put_apart _ _ _ _ _ _ (by decide)).trans (Dev.get_put_lt _ _ _ _ _ 2 (by decide) (by decide)),
    Dev.get_put_lt _ _ _ _ _ 2 (by decide) (by decide)⟩

theorem Dev.Keeps.ethDown {d0 d : Dev} {ws : Nat → Prop} {ps : List Part} (h : d0.Keeps d ws ps) (p : Nat)
    (hw : ws (R.ETH_STATUS.off p 0)) : d0.Keeps (d.ethDown p) ws ps := (h.put _ _ _ _ hw).put _ _ _ _ hw

/-! ### The admission figures -/

theorem Dev.ingestBudget_congr {d e : Dev} (h : ∀ p, p < 4 → e.reg R.ETH_CTRL p = d.reg R.ETH_CTRL p) :
    e.ingestBudget = d.ingestBudget := by
  have hf : ∀ f : FldDesc, f.reg = R.ETH_CTRL → ∀ p, p < 4 → e.on f p = d.on f p := fun f hr p hp => by
    rw [Dev.on, Dev.on, Dev.get, Dev.get, hr, h p hp]
  unfold Dev.ingestBudget
  congr 2
  refine List.foldl_ext _ _ _ fun n p hp => ?_
  have hp := List.mem_range.mp hp
  rw [hf R.ETH_CTRL_ENABLE rfl p hp, hf R.ETH_CTRL_RATE rfl p hp]

theorem foldl_add_le {α : Type} (f : Nat → α → Nat) (m : Nat) (h : ∀ n x, f n x ≤ n + m) (l : List α) (n : Nat) :
    l.foldl f n ≤ n + m * l.length := by
  induction l generalizing n with
  | nil => simp
  | cons x r ih =>
    have h1 := ih (f n x)
    have h2 := h n x
    rw [List.length_cons, Nat.mul_succ, List.foldl_cons]
    omega

theorem Dev.ingestBudget_lt (d : Dev) : d.ingestBudget < 2 ^ 32 := by
  have h := foldl_add_le (fun n p => if d.on R.ETH_CTRL_ENABLE p then
    n + (if d.on R.ETH_CTRL_RATE p then 25000 else 10000) else n) 25000
    (fun n p => by split <;> [split; skip] <;> omega) (List.range 4) 0
  rw [List.length_range] at h
  unfold Dev.ingestBudget
  omega

theorem Dev.reg_ingestRegs (d : Dev) : d.ingestRegs.reg R.INGEST_BUDGET = d.ingestRegs.ingestBudget := by
  have hc : d.ingestRegs.ingestBudget = d.ingestBudget := Dev.ingestBudget_congr fun p hp => by
    have hl : R.ETH_CTRL.off p 0 < 0x400800 := RegDesc.off_lt hp (by decide) (by decide)
    have h1 : R.ETH_CTRL.off p 0 ≠ R.INGEST_BUDGET.off 0 0 := by simp only [RegDesc.off, R.INGEST_BUDGET] at hl ⊢; omega
    have h2 : R.ETH_CTRL.off p 0 ≠ R.INGEST_LOAD.off 0 0 := by simp only [RegDesc.off, R.INGEST_LOAD] at hl ⊢; omega
    rw [Dev.ingestRegs, Dev.reg_setReg_ne _ _ _ _ _ _ _ _ h1, Dev.reg_setReg_ne _ _ _ _ _ _ _ _ h2]
  rw [hc, Dev.ingestRegs, Dev.reg_setReg, Nat.mod_eq_of_lt d.ingestBudget_lt]

/-- The registers that a write of ETH_CTRL moves beside it. -/
def ethMore (p : Nat) : List Nat := [R.ETH_STATUS.off p 0, R.INGEST_LOAD.off 0 0, R.INGEST_BUDGET.off 0 0]

theorem ethCtrl_notMem_ethMore {p : Nat} (hp : p < 4) : R.ETH_CTRL.off p 0 ∉ ethMore p := by
  simp only [ethMore, RegDesc.off, R.ETH_CTRL, R.ETH_STATUS, R.INGEST_LOAD, R.INGEST_BUDGET, List.mem_cons,
    List.not_mem_nil, or_false]
  omega

theorem Dev.Keeps.ingestRegs {d0 d : Dev} {ws : Nat → Prop} {ps : List Part} (h : d0.Keeps d ws ps)
    (hl : ws (R.INGEST_LOAD.off 0 0)) (hb : ws (R.INGEST_BUDGET.off 0 0)) : d0.Keeps d.ingestRegs ws ps :=
  (h.setReg _ _ _ _ hl).setReg _ _ _ _ hb

/-- What follows a port's ENABLE: its link where it is off, and the admission figures (R108, R126). -/
def Dev.ethFollow (d : Dev) (p : Nat) (on : Bool) : Dev := (if on then d else d.ethDown p).ingestRegs

theorem Dev.keeps_ethFollow (d : Dev) (p : Nat) (on : Bool) : d.Keeps (d.ethFollow p on) (· ∈ ethMore p) [] :=
  Dev.Keeps.ingestRegs (.ite (fun _ => .refl _ _ _) fun _ => Dev.Keeps.ethDown (.refl _ _ _) p (by simp [ethMore]))
    (by simp [ethMore]) (by simp [ethMore])

theorem Dev.get_ethFollow_link (d : Dev) {p : Nat} (hp : p < 4) : (d.ethFollow p false).get R.ETH_STATUS_LINK p = 0 := by
  have hl : R.ETH_STATUS.off p 0 < 0x400800 := RegDesc.off_lt hp (by decide) (by decide)
  have hk : (d.ethDown p).Keeps (d.ethDown p).ingestRegs (· ∈ [R.INGEST_LOAD.off 0 0, R.INGEST_BUDGET.off 0 0]) [] :=
    (Dev.Keeps.refl _ _ _).ingestRegs (by simp) (by simp)
  refine (hk.get R.ETH_STATUS_LINK p 0 ?_).trans (d.ethDown_sets p).1
  simp only [RegDesc.off, R.ETH_STATUS_LINK, R.INGEST_LOAD, R.INGEST_BUDGET, List.mem_cons, List.not_mem_nil,
    or_false] at hl ⊢
  omega

/-- A write of ETH_CTRL within its limits (R108, R126). -/
theorem ethCtrl_of_taken {p : Nat} {v : Word} (d : Dev)
    (h : ¬(p > 3 || (bit v.toNat 29 && !bit v.toNat 30) || bits v.toNat 13 0 < 1518 || 9216 < bits v.toNat 13 0) = true) :
    ethCtrl p v d = (d.ethSet p v.toNat).ethFollow p (bit v.toNat 31) := by
  rw [ethCtrl, if_neg h]
  rfl

theorem ethCtrl_sets {d e : Dev} {p w : Nat} (hp : p < 4) (he : (d.ethSet p w).ethFollow p (bit w 31) = e) :
    (e.get R.ETH_CTRL_ENABLE p = b2n (bit w 31) ∧
      (d.get R.ETH_CTRL_ENABLE p = 0 → e.reg R.ETH_CTRL p = w &&& 0xE0003FFF) ∧
      (d.get R.ETH_CTRL_ENABLE p = 1 → e.get R.ETH_CTRL_RATE p = d.get R.ETH_CTRL_RATE p ∧
        e.get R.ETH_CTRL_FEC p = d.get R.ETH_CTRL_FEC p ∧
        e.get R.ETH_CTRL_MAX_FRAME p = d.get R.ETH_CTRL_MAX_FRAME p) ∧
      (bit w 31 = false → e.get R.ETH_STATUS_LINK p = 0) ∧ e.reg R.INGEST_BUDGET = e.ingestBudget) ∧
    d.Keeps e (· ∈ R.ETH_CTRL.off p 0 :: ethMore p) [] := by
  subst he
  have hk := (d.ethSet p w).keeps_ethFollow p (bit w 31)
  have hn := ethCtrl_notMem_ethMore hp
  have hset : d.Keeps (d.ethSet p w) (· ∈ R.ETH_CTRL.off p 0 :: ethMore p) [] :=
    (Dev.Keeps.refl _ _ _).setReg _ _ _ _ (by simp)
  refine ⟨⟨?_, fun h0 => ?_, fun h1 => ?_, fun hw => ?_, Dev.reg_ingestRegs _⟩,
    hset.trans (hk.mono (fun _ hx => List.mem_cons_of_mem _ hx) (fun _ hx => hx))⟩
  · exact (hk.get R.ETH_CTRL_ENABLE p 0 hn).trans (d.get_ethSet_enable p w)
  · exact (hk.reg R.ETH_CTRL p 0 hn).trans (Dev.reg_ethSet_of_off h0 w)
  · have hput : ∀ f : FldDesc, R.ETH_CTRL_ENABLE.ok = true ∧ f.ok = true ∧ f.reg = R.ETH_CTRL ∧
        (f.hi < 31 ∨ 31 < f.lo) → ((d.ethSet p w).ethFollow p (bit w 31)).get f p = d.get f p := fun f hf => by
      rw [hk.get f p 0 (hf.2.2.1 ▸ hn), Dev.ethSet_of_on h1]
      exact Dev.get_put_apart _ _ _ _ _ _ hf
    exact ⟨hput _ (by decide), hput _ (by decide), hput _ (by decide)⟩
  · rw [hw]
    exact Dev.get_ethFollow_link _ hp

theorem ethCtrlWrite_takes (t p : Nat) (v : Word) (s : State) (hp : p < 4) (hb : s.dev.Reaches 0x400000) :
    let w := v.toNat
    ∃ s', exec (.ethCtrlWrite t p v) s = .next s' ∧
      (if bit w 29 = true ∧ bit w 30 = false ∨ bits w 13 0 < 1518 ∨ 9216 < bits w 13 0 then
        s'.dev.reg R.ETH_CTRL p = s.dev.reg R.ETH_CTRL p
      else s'.dev.get R.ETH_CTRL_ENABLE p = b2n (bit w 31) ∧
        (s.dev.get R.ETH_CTRL_ENABLE p = 0 → s'.dev.reg R.ETH_CTRL p = w &&& 0xE0003FFF) ∧
        (s.dev.get R.ETH_CTRL_ENABLE p = 1 → s'.dev.get R.ETH_CTRL_RATE p = s.dev.get R.ETH_CTRL_RATE p ∧
          s'.dev.get R.ETH_CTRL_FEC p = s.dev.get R.ETH_CTRL_FEC p ∧
          s'.dev.get R.ETH_CTRL_MAX_FRAME p = s.dev.get R.ETH_CTRL_MAX_FRAME p) ∧
        (bit w 31 = false → s'.dev.get R.ETH_STATUS_LINK p = 0) ∧ s'.dev.reg R.INGEST_BUDGET = s'.dev.ingestBudget) ∧
      s.Keeps s' t [R.ETH_CTRL.off p 0, R.ETH_STATUS.off p 0, R.INGEST_LOAD.off 0 0, R.INGEST_BUDGET.off 0 0] [] := by
  intro w
  rw [exec_ethCtrlWrite, State.onDev, Dev.gated_of_reaches (hb.clock t)]
  refine ⟨_, rfl, ?_⟩
  by_cases h : bit w 29 = true ∧ bit w 30 = false ∨ bits w 13 0 < 1518 ∨ 9216 < bits w 13 0
  · rw [if_pos h, ethCtrl, if_pos ((ethCtrl_refused_iff hp).mpr h)]
    exact ⟨rfl, rfl, .inr rfl, .refl _ _ _⟩
  · rw [if_neg h, ethCtrl_of_taken _ (fun hx => h ((ethCtrl_refused_iff hp).mp hx))]
    obtain ⟨hsets, hk⟩ := ethCtrl_sets (d := s.dev.clock t) (w := w) hp rfl
    exact ⟨hsets, rfl, .inr rfl, hk⟩

/-! ### Links -/

theorem ethLinkLost_loses (t p : Nat) (s : State) (hp : p < 4) (he : s.dev.get R.ETH_CTRL_ENABLE p = 1)
    (hl : s.dev.get R.ETH_STATUS_LINK p = 1) :
    ∃ s', exec (.ethLinkLost t p) s = .next s' ∧ s'.dev.get R.ETH_STATUS_LINK p = 0 ∧
      s'.dev.get R.ETH_STATUS_FEC_ACTIVE p = 0 ∧ s'.dev.get R.ETH_STATUS_LINK_LOST p = 1 ∧
      s.Keeps s' t (R.ETH_STATUS.off p 0 :: recOffs) [.recd] := by
  have hrun : ethLinkLost p (s.dev.clock t) =
      (((s.dev.clock t).ethDown p).put R.ETH_STATUS_LINK_LOST 1 p).info .linkFall (0x2000 + p) p := by
    have h3 : ¬p > 3 := by omega
    rw [ethLinkLost, if_neg (by simp [h3, (Dev.on_iff _ _ _ _).mpr he, (Dev.on_iff _ _ _ _).mpr hl])]
    rfl
  have hn := ethStatus_notMem_recOffs hp
  have hs : R.ETH_STATUS.off p 0 ∈ R.ETH_STATUS.off p 0 :: recOffs := List.mem_cons_self
  rw [exec_ethLinkLost, State.onDev, hrun]
  refine ⟨_, rfl, ?_, ?_, ?_, rfl, .inr rfl, (((Dev.Keeps.refl _ _ _).ethDown p hs).put _ _ _ _ hs).info _ _ _ _ _
    (fun x hx => List.mem_cons_of_mem _ hx) (by simp)⟩
  · rw [Dev.get_of_info _ _ _ _ _ _ _ _ _ hn, Dev.get_put_apart _ _ _ _ _ _ (by decide)]
    exact (Dev.ethDown_sets _ _).1
  · rw [Dev.get_of_info _ _ _ _ _ _ _ _ _ hn, Dev.get_put_apart _ _ _ _ _ _ (by decide)]
    exact (Dev.ethDown_sets _ _).2
  · rw [Dev.get_of_info _ _ _ _ _ _ _ _ _ hn]
    exact Dev.get_put_lt _ _ _ _ _ 2 (by decide) (by decide)

theorem ethLinkUp_links (t p : Nat) (s : State) (hp : p < 4) (he : s.dev.get R.ETH_CTRL_ENABLE p = 1)
    (hc : s.dev.clockAt 1 p = true) :
    ∃ s', exec (.ethLinkUp t p) s = .next s' ∧ s'.dev.get R.ETH_STATUS_LINK p = 1 ∧
      s'.dev.get R.ETH_STATUS_FEC_ACTIVE p = b2n (s.dev.on R.ETH_CTRL_FEC p && s.dev.on R.ETH_CTRL_RATE p) ∧
      s.Keeps s' t [R.ETH_STATUS.off p 0] [] := by
  have hrun : ethLinkUp p (s.dev.clock t) = ((s.dev.clock t).put R.ETH_STATUS_LINK 1 p).put R.ETH_STATUS_FEC_ACTIVE
      (b2n (s.dev.on R.ETH_CTRL_FEC p && s.dev.on R.ETH_CTRL_RATE p)) p := by
    have h3 : ¬p > 3 := by omega
    have hc' : (s.dev.clock t).clockAt 1 p = true := hc
    rw [ethLinkUp, if_neg (by simp [h3, (Dev.on_iff _ _ _ _).mpr he, hc'])]
    rfl
  have hs : R.ETH_STATUS.off p 0 ∈ [R.ETH_STATUS.off p 0] := List.mem_cons_self
  rw [exec_ethLinkUp, State.onDev, hrun]
  refine ⟨_, rfl, ?_, Dev.get_put_lt _ _ _ _ _ 2 (by decide) (b2n_lt _), rfl, .inr rfl,
    ((Dev.Keeps.refl _ _ _).put _ _ _ _ hs).put _ _ _ _ hs⟩
  exact (Dev.get_put_apart _ _ _ _ _ _ (by decide)).trans (Dev.get_put_lt _ _ _ _ _ 2 (by decide) (by decide))

/-! ### Flow entries -/

/-- The staged registers of a flow entry lie apart from its FLOW_CTRL. -/
theorem Dev.flowAddr_setCtrl (d : Dev) (v i : Nat) (b : Bool) :
    (d.setReg R.FLOW_CTRL v i).flowAddr R.FLOW_DST i b = d.flowAddr R.FLOW_DST i b ∧
      (d.setReg R.FLOW_CTRL v i).flowAddr R.FLOW_SRC i b = d.flowAddr R.FLOW_SRC i b := by
  have hdst : ∀ j, (d.setReg R.FLOW_CTRL v i).reg R.FLOW_DST i j = d.reg R.FLOW_DST i j := fun j =>
    Dev.reg_setReg_ne _ _ _ _ _ _ _ _ (by simp only [RegDesc.off, R.FLOW_DST, R.FLOW_CTRL]; omega)
  have hsrc : ∀ j, (d.setReg R.FLOW_CTRL v i).reg R.FLOW_SRC i j = d.reg R.FLOW_SRC i j := fun j =>
    Dev.reg_setReg_ne _ _ _ _ _ _ _ _ (by simp only [RegDesc.off, R.FLOW_SRC, R.FLOW_CTRL]; omega)
  constructor
  · simp only [Dev.flowAddr, hdst]
  · simp only [Dev.flowAddr, hsrc]

/-- The entry that the staged registers make with a value of FLOW_CTRL (R110). -/
def Dev.stagedFlow (d : Dev) (i w : Nat) : Flow :=
  ⟨BitVec.ofNat 32 (w &&& 0x7FF800FF), BitVec.ofNat 32 (d.reg R.FLOW_PORT i), BitVec.ofNat 32 (d.reg R.FLOW_SSRC i),
    d.flowAddr R.FLOW_DST i (bit w 29), d.flowAddr R.FLOW_SRC i (bit w 29)⟩

theorem Dev.stagedFlow_setCtrl (d : Dev) (v i w : Nat) : (d.setReg R.FLOW_CTRL v i).stagedFlow i w = d.stagedFlow i w := by
  obtain ⟨hdst, hsrc⟩ := d.flowAddr_setCtrl v i (bit w 29)
  rw [Dev.stagedFlow, Dev.stagedFlow, hdst, hsrc, Dev.reg_setReg_ne _ _ _ _ _ _ _ _ (RegDesc.off_ne (by decide) _ _),
    Dev.reg_setReg_ne _ _ _ _ _ _ _ _ (RegDesc.off_ne (by decide) _ _)]

/-- The flow table after an APPLY (R110). -/
def flowsAfter (fs : Tab Flow) (i : Nat) (valid : Bool) (f : Flow) : Tab Flow :=
  if valid then tabPut fs i f else tabDel fs i

theorem tabGet?_flowsAfter (fs : Tab Flow) (i : Nat) (valid : Bool) (f : Flow) :
    tabGet? (flowsAfter fs i valid f) i = (if valid then some f else none) ∧
      ∀ j, j ≠ i → tabGet? (flowsAfter fs i valid f) j = tabGet? fs j := by
  cases valid with
  | false => exact ⟨tabGet?_del_same _ _, fun j hj => tabGet?_del_ne _ _ _ hj⟩
  | true => exact ⟨tabGet?_put_same _ _ _, fun j hj => tabGet?_put_ne _ _ _ _ hj⟩

theorem flowApply_stages {i : Nat} {v : Word} (d : Dev) (hi : i < 1024)
    (h : ¬(bit v.toNat 31 = true ∧ bits v.toNat 20 19 ≠ 3)) :
    flowApply i v d = d.setReg R.FLOW_CTRL (v.toNat &&& 0x7FF800FF) i := by
  simp only [not_and_or, ne_eq, not_not, Bool.not_eq_true] at h
  rw [flowApply, if_neg (by omega)]
  exact if_pos (by simpa using h)

theorem flowApply_applies {i : Nat} {v : Word} (d : Dev) (hi : i < 1024)
    (h : bit v.toNat 31 = true ∧ bits v.toNat 20 19 ≠ 3) :
    flowApply i v d = { d.setReg R.FLOW_CTRL (v.toNat &&& 0x7FF800FF) i with net := { d.net with
      flows := flowsAfter d.net.flows i (bit v.toNat 30) (d.stagedFlow i v.toNat) } } := by
  rw [← d.stagedFlow_setCtrl (v.toNat &&& 0x7FF800FF), flowApply, if_neg (by omega)]
  exact if_neg (by simp [h.1, h.2])

theorem mirrored_flowCtrl {i : Nat} (hi : i < 1024) : mirrored (R.FLOW_CTRL.off i 0) = true := by
  have h1 : 0x410000 ≤ R.FLOW_CTRL.off i 0 := by simp only [RegDesc.off, R.FLOW_CTRL]; omega
  have h2 : R.FLOW_CTRL.off i 0 < 0x420000 := RegDesc.off_lt hi (by decide) (by decide)
  simp [mirrored, h1, h2]

theorem flowApply_takes (t i : Nat) (v : Word) (s : State) (hi : i < 1024) (hb : s.dev.Reaches (R.FLOW_CTRL.off i 0))
    (ha : s.dev.Alone) :
    let w := v.toNat
    ∃ s', exec (.flowApply t i v) s = .next s' ∧ s'.dev.reg R.FLOW_CTRL i = w &&& 0x7FF800FF ∧
      (if bit w 31 = true ∧ bits w 20 19 ≠ 3 then
        tabGet? s'.dev.net.flows i = (if bit w 30 then some ⟨BitVec.ofNat 32 (w &&& 0x7FF800FF),
          BitVec.ofNat 32 (s.dev.reg R.FLOW_PORT i), BitVec.ofNat 32 (s.dev.reg R.FLOW_SSRC i),
          s.dev.flowAddr R.FLOW_DST i (bit w 29), s.dev.flowAddr R.FLOW_SRC i (bit w 29)⟩ else none) ∧
        (∀ j, j ≠ i → tabGet? s'.dev.net.flows j = tabGet? s.dev.net.flows j) ∧
        s'.dev.net = { s.dev.net with flows := s'.dev.net.flows }
      else s'.dev.net = s.dev.net) ∧ s.Keeps s' t [R.FLOW_CTRL.off i 0] [.net, .pair] := by
  intro w
  obtain ⟨x, hx⟩ := (s.dev.clock t).hostEffect_of_alone v (flowApply i v) (mirrored_flowCtrl hi) ha
  have hreg : ((s.dev.clock t).setReg R.FLOW_CTRL (w &&& 0x7FF800FF) i).reg R.FLOW_CTRL i = w &&& 0x7FF800FF :=
    (Dev.reg_setReg _ _ _ _ _).trans (Nat.mod_eq_of_lt (Nat.and_lt_two_pow _ (by decide)))
  have hk : (s.dev.clock t).Keeps ((s.dev.clock t).setReg R.FLOW_CTRL (w &&& 0x7FF800FF) i)
      (· ∈ [R.FLOW_CTRL.off i 0]) [.net, .pair] := (Dev.Keeps.refl _ _ _).setReg _ _ _ _ (by simp)
  rw [exec_flowApply, State.onDev, Dev.gatedM, Dev.gated_of_reaches (hb.clock t), hx]
  refine ⟨_, rfl, ?_⟩
  by_cases h : bit w 31 = true ∧ bits w 20 19 ≠ 3
  · obtain ⟨hsame, hother⟩ := tabGet?_flowsAfter s.dev.net.flows i (bit w 30) (s.dev.stagedFlow i w)
    rw [if_pos h, flowApply_applies _ hi h]
    exact ⟨hreg, ⟨hsame, hother, rfl⟩, rfl, .inr rfl, (hk.withNet _ (by simp)).setPair _ (by simp)⟩
  · rw [if_neg h, flowApply_stages _ hi h]
    exact ⟨hreg, rfl, rfl, .inr rfl, hk.setPair _ (by simp)⟩

end Sys2Proof.Machine
end

section
/-! PROOFS. Ethernet frames received (R106, R107, R109). -/

namespace Sys2Proof.Machine

theorem exec_ethFrameReceived (t port size : Nat) (f : EthFrame) (s : State) :
    exec (.ethFrameReceived t port size f) s = s.onAll t (ethFrame port size f) := rfl

/-- A port that receives: enabled, its link up, its clock present (R106, R108). -/
structure Dev.EthUp (d : Dev) (port : Nat) : Prop where
  port_lt : port < 4
  enabled : d.get R.ETH_CTRL_ENABLE port = 1
  link : d.get R.ETH_STATUS_LINK port = 1
  clocked : d.clockAt 1 port = true

theorem Dev.EthUp.clock {d : Dev} {port : Nat} (h : d.EthUp port) (t : Nat) : (d.clock t).EthUp port :=
  ⟨h.port_lt, h.enabled, h.link, h.clocked⟩

section
variable {d : Dev} {port size : Nat} (h : d.EthUp port) (m : Mem)
include h

theorem Dev.EthUp.not_down : ¬(port > 3 || !d.on R.ETH_STATUS_LINK port || !d.on R.ETH_CTRL_ENABLE port ||
    !d.clockAt 1 port) = true := by
  have hp : ¬port > 3 := by have := h.port_lt; omega
  simp [hp, (d.on_iff _ _ _).mpr h.enabled, (d.on_iff _ _ _).mpr h.link, h.clocked]

theorem Dev.EthUp.ethFrame_bad {f : EthFrame} (hf : d.get R.ETH_CTRL_MAX_FRAME port < size ∨ f = .badFcs) :
    ethFrame port size f (d, m) = (d.bump R.ETH_RX_FCS_COUNT port, m) := by
  unfold ethFrame
  rw [if_neg h.not_down]
  by_cases hs : d.get R.ETH_CTRL_MAX_FRAME port < size
  · exact if_pos hs
  · rw [if_neg hs, hf.resolve_left hs]

variable (hs : size ≤ d.get R.ETH_CTRL_MAX_FRAME port)
include hs

theorem Dev.EthUp.ethFrame_fragment : ethFrame port size .fragment (d, m) =
    ((d.bump R.ETH_RX_OK_COUNT port).bump R.ETH_RX_FRAG_COUNT port, m) := by
  rw [ethFrame, if_neg h.not_down, if_neg (Nat.not_lt.mpr hs)]

theorem Dev.EthUp.ethFrame_other : ethFrame port size .other (d, m) =
    ((d.bump R.ETH_RX_OK_COUNT port).bump R.ETH_RX_UNUSED_COUNT port, m) := by
  rw [ethFrame, if_neg h.not_down, if_neg (Nat.not_lt.mpr hs)]

theorem Dev.EthUp.ethFrame_udp (u : UdpInfo) : ethFrame port size (.udp u) (d, m) =
    udpFrame port u (.udp u) (d.bump R.ETH_RX_OK_COUNT port, m) := by
  rw [ethFrame, if_neg h.not_down, if_neg (Nat.not_lt.mpr hs)]

/-- A frame of firmware's, and a datagram to a PTP port (R107). -/
theorem Dev.EthUp.ethFrame_toFw {f : EthFrame}
    (hf : f = .firmware ∨ (∃ u, f = .udp u ∧ (u.dport = 319 ∨ u.dport = 320))) :
    ethFrame port size f (d, m) =
      ({ (d.bump R.ETH_RX_OK_COUNT port).bump R.ETH_RX_TOFW_COUNT port with
        net := { d.net with toFw := (port, f) :: d.net.toFw } }, m) := by
  rcases hf with rfl | ⟨u, rfl, hu⟩
  · rw [ethFrame, if_neg h.not_down, if_neg (Nat.not_lt.mpr hs)]
    rfl
  · rw [h.ethFrame_udp m hs, udpFrame, if_pos (by simpa using hu)]
    rfl

variable {u : UdpInfo} (hu : u.dport ≠ 319) (hv : u.dport ≠ 320)
include hu hv

theorem Dev.EthUp.ethFrame_noFlow (hf : ∀ e ∈ d.net.flows, e.2.takes port u = false) :
    ethFrame port size (.udp u) (d, m) = ((d.bump R.ETH_RX_OK_COUNT port).bump R.ETH_RX_UNUSED_COUNT port, m) := by
  have hn : d.net.flows.find? (fun e => e.2.takes port u) = none :=
    List.find?_eq_none.mpr fun e he => by simp [hf e he]
  rw [h.ethFrame_udp m hs, udpFrame, if_neg (by simp [hu, hv]), Dev.bump_net, hn]

theorem Dev.EthUp.ethFrame_discard {i : Nat} {e : Flow}
    (hf : d.net.flows.find? (fun e => e.2.takes port u) = some (i, e)) (ha : bits e.ctrl.toNat 20 19 = 2) :
    ethFrame port size (.udp u) (d, m) = ((d.bump R.ETH_RX_OK_COUNT port).bumpWrap R.FLOW_HITS_HITS i, m) := by
  rw [h.ethFrame_udp m hs, udpFrame, if_neg (by simp [hu, hv]), Dev.bump_net, hf]
  simp only [ha]

/-- A datagram that its flow hands to an open context (R109, R123). -/
theorem Dev.EthUp.ethFrame_packet {i : Nat} {e : Flow} {p : RtpPacket}
    (hf : d.net.flows.find? (fun e => e.2.takes port u) = some (i, e)) (ha : bits e.ctrl.toNat 20 19 = 0)
    (hp : u.rtp = some p) {b : Dev} (hb : (d.bump R.ETH_RX_OK_COUNT port).bumpWrap R.FLOW_HITS_HITS i = b)
    (hr : b.inState (bits e.ctrl.toNat 7 0) = inRunning) (hl : b.get R.CTX_STATUS_DUAL (bits e.ctrl.toNat 7 0) = 0) :
    ethFrame port size (.udp u) (d, m) = rtpPacket (bits e.ctrl.toNat 7 0) 0 p (b, m) := by
  rw [h.ethFrame_udp m hs, udpFrame, if_neg (by simp [hu, hv]), Dev.bump_net, hf]
  simp only [ha, hb, hp]
  rw [if_pos (by simp [hr]), if_neg (by simp [Dev.on, hl])]

end

/-! ### The counters of a frame -/

/-- Two counters of a port. -/
theorem Dev.bump_two (d : Dev) (f g : FldDesc) (i : Nat)
    (h : f.ok = true ∧ g.ok = true ∧ f.reg.s1 = g.reg.s1 ∧ f.reg.s2 = g.reg.s2 ∧ f.reg.base ≠ g.reg.base) :
    d.Counts ((d.bump f i).bump g i) f i ∧ d.Counts ((d.bump f i).bump g i) g i ∧
      d.Keeps ((d.bump f i).bump g i) (· ∈ [f.reg.off i 0, g.reg.off i 0]) [] := by
  obtain ⟨hf, hg, hoff⟩ := h
  have hne := RegDesc.off_ne hoff i 0
  refine ⟨?_, ?_, ((Dev.Keeps.refl _ _ _).bump _ _ _ _ (by simp)).bump _ _ _ _ (by simp)⟩
  · rw [Dev.Counts, Dev.bump, Dev.get_put_ne _ _ _ _ _ _ _ _ hne]
    exact d.counts_bump f i hf
  · rw [Dev.Counts, Dev.get_bump _ _ _ _ _ hg, Dev.bump, Dev.get_put_ne _ _ _ _ _ _ _ _ hne.symm]

theorem Dev.wraps_bumpWrap (d : Dev) (f : FldDesc) (i : Nat) (h : f.ok = true) : d.Wraps (d.bumpWrap f i) f i :=
  d.get_put f _ i 0 h

theorem rxOk_ne_hits {port i : Nat} (hp : port < 4) : R.ETH_RX_OK.off port 0 ≠ R.FLOW_HITS.off i 0 := by
  have hl : R.ETH_RX_OK.off port 0 < 0x410000 := RegDesc.off_lt hp (by decide) (by decide)
  simp only [RegDesc.off, R.FLOW_HITS] at hl ⊢
  omega

/-- A datagram that its flow discards is counted and hits the flow (R106, R110). -/
theorem Dev.bump_hits (d : Dev) {port : Nat} (hp : port < 4) (i : Nat) {e : Dev}
    (he : (d.bump R.ETH_RX_OK_COUNT port).bumpWrap R.FLOW_HITS_HITS i = e) :
    d.Counts e R.ETH_RX_OK_COUNT port ∧ d.Wraps e R.FLOW_HITS_HITS i ∧
      d.Keeps e (· ∈ [R.ETH_RX_OK.off port 0, R.FLOW_HITS.off i 0]) [] := by
  subst he
  have hne := rxOk_ne_hits (i := i) hp
  refine ⟨?_, ?_, ((Dev.Keeps.refl _ _ _).bump _ _ _ _ (by simp [R.ETH_RX_OK_COUNT])).bumpWrap _ _ _
    (by simp [R.FLOW_HITS_HITS])⟩
  · rw [Dev.Counts, Dev.bumpWrap, Dev.get_put_ne _ _ _ _ _ _ _ _ hne]
    exact d.counts_bump _ _ (by decide)
  · rw [Dev.Wraps, Dev.wraps_bumpWrap _ _ _ (by decide), Dev.bump, Dev.get_put_ne _ _ _ _ _ _ _ _ hne.symm]

/-! ### What becomes of a frame -/

/-- The clause of one port: each kind of frame that no context takes (R106, R107, R109). -/
theorem ethFrameReceived_counts (t port size : Nat) (s : State) (h : s.dev.EthUp port) :
    (∀ f, s.dev.get R.ETH_CTRL_MAX_FRAME port < size ∨ f = .badFcs →
      ∃ s', exec (.ethFrameReceived t port size f) s = .next s' ∧ s.dev.Counts s'.dev R.ETH_RX_FCS_COUNT port ∧
        s.Keeps s' t [R.ETH_RX_FCS.off port 0] []) ∧
    (size ≤ s.dev.get R.ETH_CTRL_MAX_FRAME port →
      (∃ s', exec (.ethFrameReceived t port size .fragment) s = .next s' ∧ s.dev.Counts s'.dev R.ETH_RX_OK_COUNT port ∧
        s.dev.Counts s'.dev R.ETH_RX_FRAG_COUNT port ∧
        s.Keeps s' t [R.ETH_RX_OK.off port 0, R.ETH_RX_FRAG.off port 0] []) ∧
      (∃ s', exec (.ethFrameReceived t port size .other) s = .next s' ∧ s.dev.Counts s'.dev R.ETH_RX_OK_COUNT port ∧
        s.dev.Counts s'.dev R.ETH_RX_UNUSED_COUNT port ∧
        s.Keeps s' t [R.ETH_RX_OK.off port 0, R.ETH_RX_UNUSED.off port 0] []) ∧
      (∀ f, f = .firmware ∨ (∃ u, f = .udp u ∧ (u.dport = 319 ∨ u.dport = 320)) →
        ∃ s', exec (.ethFrameReceived t port size f) s = .next s' ∧ s.dev.Counts s'.dev R.ETH_RX_OK_COUNT port ∧
          s.dev.Counts s'.dev R.ETH_RX_TOFW_COUNT port ∧
          s'.dev.net = { s.dev.net with toFw := (port, f) :: s.dev.net.toFw } ∧
          s.Keeps s' t [R.ETH_RX_OK.off port 0, R.ETH_RX_TOFW.off port 0] [.net]) ∧
      (∀ u, u.dport ≠ 319 → u.dport ≠ 320 → (∀ e ∈ s.dev.net.flows, e.2.takes port u = false) →
        ∃ s', exec (.ethFrameReceived t port size (.udp u)) s = .next s' ∧ s.dev.Counts s'.dev R.ETH_RX_OK_COUNT port ∧
          s.dev.Counts s'.dev R.ETH_RX_UNUSED_COUNT port ∧
          s.Keeps s' t [R.ETH_RX_OK.off port 0, R.ETH_RX_UNUSED.off port 0] []) ∧
      (∀ u i e, u.dport ≠ 319 → u.dport ≠ 320 → s.dev.net.flows.find? (fun e => e.2.takes port u) = some (i, e) →
        i < 1024 → bits e.ctrl.toNat 20 19 = 2 →
        ∃ s', exec (.ethFrameReceived t port size (.udp u)) s = .next s' ∧ s.dev.Counts s'.dev R.ETH_RX_OK_COUNT port ∧
          s.dev.Wraps s'.dev R.FLOW_HITS_HITS i ∧ s.Keeps s' t [R.ETH_RX_OK.off port 0, R.FLOW_HITS.off i 0] [])) := by
  have hu := h.clock t
  have hrx := fun g hg => (s.dev.clock t).bump_two R.ETH_RX_OK_COUNT g port hg
  simp only [exec_ethFrameReceived, State.onAll]
  refine ⟨fun f hf => ?_, fun hs => ⟨?_, ?_, fun f hf => ?_, fun u h1 h2 hn => ?_, fun u i e h1 h2 hf _ ha => ?_⟩⟩
  · rw [hu.ethFrame_bad _ hf]
    exact ⟨_, rfl, Dev.counts_bump _ _ _ (by decide), rfl, .inr rfl,
      (Dev.Keeps.refl _ _ _).bump _ _ _ _ (by simp [R.ETH_RX_FCS_COUNT])⟩
  · rw [hu.ethFrame_fragment _ hs]
    obtain ⟨hok, hfrag, hk⟩ := hrx R.ETH_RX_FRAG_COUNT (by decide)
    exact ⟨_, rfl, hok, hfrag, rfl, .inr rfl, hk⟩
  · rw [hu.ethFrame_other _ hs]
    obtain ⟨hok, hun, hk⟩ := hrx R.ETH_RX_UNUSED_COUNT (by decide)
    exact ⟨_, rfl, hok, hun, rfl, .inr rfl, hk⟩
  · rw [hu.ethFrame_toFw _ hs hf]
    obtain ⟨hok, hfw, hk⟩ := hrx R.ETH_RX_TOFW_COUNT (by decide)
    exact ⟨_, rfl, hok, hfw, rfl, rfl, .inr rfl, (hk.mono (fun _ hx => hx) (by simp)).withNet _ (by simp)⟩
  · rw [hu.ethFrame_noFlow _ hs h1 h2 hn]
    obtain ⟨hok, hun, hk⟩ := hrx R.ETH_RX_UNUSED_COUNT (by decide)
    exact ⟨_, rfl, hok, hun, rfl, .inr rfl, hk⟩
  · rw [hu.ethFrame_discard _ hs h1 h2 hf ha]
    obtain ⟨hok, hhit, hk⟩ := (s.dev.clock t).bump_hits h.port_lt i rfl
    exact ⟨_, rfl, hok, hhit, rfl, .inr rfl, hk⟩

end Sys2Proof.Machine
end

section
/-! PROOFS. The open frames of a stream context, and packets that join them (R111, R113, R116 to R118, R122). -/

namespace Sys2Proof.Machine

/-! ### A context's part and its registers -/

theorem Dev.ctx_of_net {d e : Dev} (h : e.net = d.net) (c : Nat) : e.ctx c = d.ctx c := by rw [Dev.ctx, h, ← Dev.ctx]

@[simp] theorem Dev.ctx_setCtx (d : Dev) (c : Nat) (x : Ctx) : (d.setCtx c x).ctx c = x := tabGetD_set_same _ _ _ _

/-- The fields of CTX_STATUS beside OPEN_FRAMES. -/
theorem Dev.get_setCtx (d : Dev) (c : Nat) (x : Ctx) (f : FldDesc)
    (h : R.CTX_STATUS_OPEN_FRAMES.ok = true ∧ f.ok = true ∧ f.reg = R.CTX_STATUS ∧ (f.hi < 20 ∨ 24 < f.lo)) :
    (d.setCtx c x).get f c = d.get f c := Dev.get_put_apart _ _ _ _ _ _ h

theorem Dev.wt_setCtx (d : Dev) (c : Nat) (x : Ctx) : (d.setCtx c x).wt = d.wt := by
  rw [Dev.setCtx, Dev.put_wt]
  rfl

theorem ctxStatus_notMem_recOffs {c : Nat} (hc : c < 256) : R.CTX_STATUS.off c 0 ∉ recOffs :=
  notMem_recOffs_of_lt (RegDesc.off_lt hc (by decide) (by decide))

/-! ### The stamp of a frame -/

/-- The working-time state at a stamp rests on the time part, the image and WT_STATUS (R84, R85). -/
theorem Dev.stampState_congr {d e : Dev} {c : Nat} (hcls : e.get R.CTX_CFG_CLASS c = d.get R.CTX_CFG_CLASS c)
    (hwt : e.reg R.WT_STATUS = d.reg R.WT_STATUS) (ht : e.time = d.time) (hn : e.now = d.now) (hb : e.boot = d.boot) :
    e.stampState c = d.stampState c := by
  have hg : ∀ f : FldDesc, f.reg = R.WT_STATUS → e.get f = d.get f := fun f hf => by rw [Dev.get, Dev.get, hf, hwt]
  have h1 : e.wt = d.wt := by rw [Dev.wt, ht, hn, ← Dev.wt]
  have h2 : e.wtState = d.wtState := hg _ rfl
  have h3 : e.on R.WT_STATUS_TRUST_EXPIRED = d.on R.WT_STATUS_TRUST_EXPIRED := by rw [Dev.on, hg _ rfl, ← Dev.on]
  have h4 : ∀ x, e.domRuns x = d.domRuns x := fun x => by rw [Dev.domRuns, Dev.img, hb, ← Dev.img, ← Dev.domRuns]
  have h5 : ∀ x, e.qual x = d.qual x := fun x => by
    rw [Dev.qual, Dev.qual, Dev.on, Dev.on]
    split <;> rw [hg _ rfl]
  have h6 : ∀ x, e.diff x = d.diff x := fun x => by
    rw [Dev.diff, Dev.diff, h1, Dev.tbNow, Dev.tbNow, h4, Dev.tb, Dev.tb, ht, hn]
  simp only [Dev.stampState, hcls, h1, h2, h3, h4, h5, h6, ht, hn]

/-! ### Legs -/

/-- A packet on the only leg of a context (R122). -/
theorem Dev.legAlive_sets (d : Dev) {c : Nat} (hc : c < 256) {e : Dev} (he : d.legAlive c 0 = e) :
    e.ctx c = { d.ctx c with leg0 := d.wt, alarm0 := false } ∧ e.get R.CTX_STATUS_LEG0_ACTIVE c = 1 ∧
      d.Keeps e (· ∈ R.CTX_STATUS.off c 0 :: recOffs) [.net, .recd] := by
  have hs : R.CTX_STATUS.off c 0 ∈ R.CTX_STATUS.off c 0 :: recOffs := List.mem_cons_self
  simp only [Dev.legAlive, if_true] at he
  generalize ({ d.ctx c with leg0 := d.wt, alarm0 := false } : Ctx) = x at he ⊢
  generalize hb : (d.setCtx c x).put R.CTX_STATUS_LEG0_ACTIVE 1 c = b at he
  have hctx : b.ctx c = x := by
    rw [← hb, Dev.ctx_of_net (Dev.put_net _ _ _ _ _), Dev.ctx_setCtx]
  have hleg : b.get R.CTX_STATUS_LEG0_ACTIVE c = 1 := by
    rw [← hb]
    exact Dev.get_put_lt _ _ _ _ _ 2 (by decide) (by decide)
  have hk : d.Keeps b (· ∈ R.CTX_STATUS.off c 0 :: recOffs) [.net, .recd] := by
    rw [← hb]
    exact ((Dev.Keeps.refl _ _ _).setCtx _ _ hs (by simp)).put _ _ _ _ hs
  have hinfo : b.Keeps (b.info .legAlarm (asmAgent c) c 0) (· ∈ recOffs) [.recd] :=
    (Dev.Keeps.refl _ _ _).info _ _ _ _ _ (fun _ hx => hx) (by simp)
  subst he
  split
  · refine ⟨(Dev.ctx_of_net (hinfo.net.resolve_left (by simp)) c).trans hctx, ?_,
      hk.trans (hinfo.mono (fun _ hx => List.mem_cons_of_mem _ hx) (by simp))⟩
    rw [hinfo.get _ _ _ (ctxStatus_notMem_recOffs hc), hleg]
  · exact ⟨hctx, hleg, hk⟩

/-! ### Frames that packets open and join -/

/-- A frame at its first packet, in a context that holds no other. -/
def OpenFrame.opened (ts : Nat) (st : StampState) : OpenFrame := ⟨ts, st, [], none, none, false, 0, none, false⟩

/-- A frame with one more packet of an access unit, which is not its marker. -/
def OpenFrame.joined (f : OpenFrame) (seq leg wt : Nat) (a : AuPart) : OpenFrame :=
  { f with pkts := f.pkts ++ [⟨seq, leg, wt, false, some a⟩], bytes := f.bytes + a.bytes }

/-- The first frame that a compressed context opens (R113). -/
theorem openFrame_of_empty {d : Dev} {c : Nat} (m : Mem) (ts : Nat) (hf : (d.ctx c).frames = [])
    (hn : (d.ctx c).noSlotTs = none) (ht : d.ctxType c < 2) :
    openFrame c ts (d, m) = (d.setCtx c { d.ctx c with frames := [.opened ts (d.stampState c)] }, m) := by
  have hst : (d.ctxType c == 2) = false := by simp; omega
  simp [openFrame, hf, hn, hst, insertFrame, OpenFrame.opened]

/-- What the context is then: that frame alone. -/
theorem openFrame_sets {d : Dev} {c : Nat} (m : Mem) (ts : Nat) (hf : (d.ctx c).frames = [])
    (hn : (d.ctx c).noSlotTs = none) (ht : d.ctxType c < 2) :
    ∃ b, openFrame c ts (d, m) = (b, m) ∧ (b.ctx c).frames = [.opened ts (d.stampState c)] ∧ b.wt = d.wt ∧
      b.get R.CTX_STATUS_LEG0_ACTIVE c = d.get R.CTX_STATUS_LEG0_ACTIVE c ∧
      d.Keeps b (· ∈ [R.CTX_STATUS.off c 0]) [.net] :=
  ⟨_, openFrame_of_empty m ts hf hn ht, by rw [Dev.ctx_setCtx], Dev.wt_setCtx _ _ _, Dev.get_setCtx _ _ _ _ (by decide),
    (Dev.Keeps.refl _ _ _).setCtx _ _ (by simp) (by simp)⟩

theorem Dev.frames_updFrame (d : Dev) (c ts : Nat) (g : OpenFrame → OpenFrame) :
    ((d.updFrame c ts g).ctx c).frames = (d.ctx c).frames.map fun x => if x.ts = ts then g x else x := by
  rw [Dev.updFrame, Dev.ctx_setCtx]

theorem Dev.Keeps.updFrame {d0 d : Dev} {ws : Nat → Prop} {ps : List Part} (h : d0.Keeps d ws ps) (c ts : Nat)
    (g : OpenFrame → OpenFrame) (hw : ws (R.CTX_STATUS.off c 0)) (hp : Part.net ∈ ps) :
    d0.Keeps (d.updFrame c ts g) ws ps := h.setCtx _ _ hw hp

/-- A packet that is not a marker joins its frame (R113, R117). -/
theorem joinFrame_of_au {d : Dev} {c leg : Nat} {p : RtpPacket} {a : AuPart} {f : OpenFrame} (m : Mem)
    (hf : d.frame? c p.ts = some f) (hp : p.payload = .au a) (hm : p.marker = false)
    (hs : f.bytes + a.bytes ≤ 8388608) : ∃ x, joinFrame c leg p (d, m) =
      ((d.updFrame c p.ts fun _ => f.joined p.seq leg d.wt a).setCtx c
        { (d.updFrame c p.ts fun _ => f.joined p.seq leg d.wt a).ctx c with sets := x }, m) := by
  refine ⟨(((d.updFrame c p.ts fun _ => f.joined p.seq leg d.wt a).ctx c).sets ++ a.carries).eraseDups, ?_⟩
  simp only [joinFrame, hf, hp, hm, Bool.false_and, Bool.or_false]
  rw [if_neg (by simp; omega)]
  rfl

/-- What the context is then: its frames with the packet in its own, and OPEN_FRAMES. -/
theorem joinFrame_sets {d : Dev} {c leg : Nat} {p : RtpPacket} {a : AuPart} {f : OpenFrame} (m : Mem)
    (hf : d.frame? c p.ts = some f) (hp : p.payload = .au a) (hm : p.marker = false)
    (hs : f.bytes + a.bytes ≤ 8388608) {fs : List OpenFrame}
    (hfs : ((d.ctx c).frames.map fun x => if x.ts = p.ts then f.joined p.seq leg d.wt a else x) = fs) :
    ∃ b, joinFrame c leg p (d, m) = (b, m) ∧ (b.ctx c).frames = fs ∧
      b.get R.CTX_STATUS_OPEN_FRAMES c = (fs.countP fun f => !f.closed) % 32 ∧
      b.get R.CTX_STATUS_LEG0_ACTIVE c = d.get R.CTX_STATUS_LEG0_ACTIVE c ∧
      d.Keeps b (· ∈ [R.CTX_STATUS.off c 0]) [.net] := by
  obtain ⟨x, hx⟩ := joinFrame_of_au (leg := leg) m hf hp hm hs
  have hu : ((d.updFrame c p.ts fun _ => f.joined p.seq leg d.wt a).ctx c).frames = fs :=
    (d.frames_updFrame _ _ _).trans hfs
  have hleg : (d.updFrame c p.ts fun _ => f.joined p.seq leg d.wt a).get R.CTX_STATUS_LEG0_ACTIVE c =
    d.get R.CTX_STATUS_LEG0_ACTIVE c := Dev.get_setCtx _ _ _ _ (by decide)
  have hk : d.Keeps (d.updFrame c p.ts fun _ => f.joined p.seq leg d.wt a) (· ∈ [R.CTX_STATUS.off c 0]) [.net] :=
    (Dev.Keeps.refl _ _ _).updFrame _ _ _ (by simp) (by simp)
  generalize (d.updFrame c p.ts fun _ => f.joined p.seq leg d.wt a) = e at *
  refine ⟨_, hx, ?_, ?_, ?_, hk.setCtx _ _ (by simp) (by simp)⟩
  · rw [Dev.ctx_setCtx, hu]
  · rw [← hu]
    exact Dev.get_put _ _ _ _ _ (by decide)
  · rw [Dev.get_setCtx _ _ _ _ (by decide), hleg]

end Sys2Proof.Machine
end

section
/-! PROOFS. RTP packets that a flow hands to an open context (R111, R113, R118). -/

namespace Sys2Proof.Machine

/-! ### What a packet does -/

/-- A packet that carries part of an access unit and no marker, in a form that ingest supports (R111). -/
structure CarriesPart (p : RtpPacket) (a : AuPart) : Prop where
  payload : p.payload = .au a
  supported : a.supported = true
  version : p.version = 2
  notRtcp : b2n p.marker * 128 + p.pt < 200
  notLast : p.marker = false

/-- The compressed context whose payload type a packet has (R111). -/
structure Dev.Expects (d : Dev) (c : Nat) (p : RtpPacket) : Prop where
  compressed : d.ctxType c < 2
  pt : d.get R.CTX_CFG_PT c = p.pt

/-- The packet's sequence number in an open frame. -/
def OpenFrame.holds (f : OpenFrame) (seq : Nat) : Bool := f.pkts.any fun h => h.seq == seq

/-- A duplicate on leg 0 gives its leg to a packet of leg 1 with the same stamp (R118). -/
def OpenFrame.credited (g : OpenFrame) (seq wt : Nat) : OpenFrame :=
  { g with pkts := g.pkts.map fun h => if h.seq = seq && h.leg = 1 && h.stamp = wt then { h with leg := 0 } else h }

theorem OpenFrame.seqs_credited (g : OpenFrame) (seq wt : Nat) :
    (g.credited seq wt).pkts.map (·.seq) = g.pkts.map (·.seq) := by
  simp only [OpenFrame.credited, List.map_map]
  refine List.map_congr_left fun h _ => ?_
  simp only [Function.comp]
  split <;> rfl

section
variable {d e : Dev} {c : Nat} {p : RtpPacket} {a : AuPart} (hp : CarriesPart p a) (he : d.legAlive c 0 = e)
  (hx : e.Expects c p) (m : Mem)
include hp he hx

/-- A packet whose sequence number an open frame holds (R118). -/
theorem rtpPacket_held {g : OpenFrame} (hg : (e.ctx c).frames.find? (·.holds p.seq) = some g) :
    rtpPacket c 0 p (d, m) =
      ((e.updFrame c g.ts fun g => g.credited p.seq e.wt).bumpWrap R.PKT_COUNTS_DUP c, m) := by
  have hct : (e.ctxType c != 2) = true := by have := hx.compressed; simp; omega
  have hrt := hp.notRtcp
  unfold rtpPacket
  simp only [he, hp.payload, hp.supported, hct, hp.version, hx.pt]
  rw [if_neg (by simp; omega)]
  simp only [OpenFrame.holds] at hg
  simp only [hg]
  rfl

/-- A packet that is new goes to the frame of its timestamp, which opens for it where there is none (R113). -/
theorem rtpPacket_new (hg : (e.ctx c).frames.find? (·.holds p.seq) = none) (hs : p.seq ∉ (e.ctx c).seen)
    (ht : p.ts ∉ (e.ctx c).ended) (ho : ∀ f, e.frame? c p.ts = some f → f.closed = false) :
    rtpPacket c 0 p (d, m) =
      joinFrame c 0 p (if (e.frame? c p.ts).isNone then openFrame c p.ts (e, m) else (e, m)) := by
  have hct : (e.ctxType c != 2) = true := by have := hx.compressed; simp; omega
  have hrt := hp.notRtcp
  have hcl : ((e.frame? c p.ts).map (·.closed)).getD false = false := by
    cases hf : e.frame? c p.ts with
    | none => rfl
    | some f => exact ho f hf
  unfold rtpPacket
  simp only [he, hp.payload, hp.supported, hct, hp.version, hx.pt]
  rw [if_neg (by simp; omega)]
  simp only [OpenFrame.holds] at hg
  simp only [hg]
  rw [Dev.frame?] at hcl
  rw [if_neg (by simpa using hs), if_neg (by simp [ht, hcl])]
  rfl

end

/-! ### Packets of a flow -/

/-- The registers that a frame moves before its packet is judged: RX_OK, the flow's HITS and the context's leg. -/
def heardOffs (port i c : Nat) : List Nat :=
  R.ETH_RX_OK.off port 0 :: R.FLOW_HITS.off i 0 :: R.CTX_STATUS.off c 0 :: recOffs

/-- Those that it may move in all. -/
def packetOffs (port i c : Nat) : List Nat :=
  R.ETH_RX_OK.off port 0 :: R.FLOW_HITS.off i 0 :: R.CTX_STATUS.off c 0 :: R.PKT_COUNTS.off c 0 :: recOffs

theorem heardOffs_subset (port i c x : Nat) (h : x ∈ heardOffs port i c) : x ∈ packetOffs port i c := by
  simp only [heardOffs, packetOffs, List.mem_cons] at h ⊢
  tauto

theorem notMem_heardOffs {port i c x : Nat} (hp : port < 4) (hi : i < 1024)
    (hx : x < 0x400000 ∨ 0x420000 ≤ x ∧ x < 0x1100000) (hc : x ≠ R.CTX_STATUS.off c 0) : x ∉ heardOffs port i c := by
  have h1 : R.ETH_RX_OK.off port 0 < 0x410000 := RegDesc.off_lt hp (by decide) (by decide)
  have h2 : R.FLOW_HITS.off i 0 < 0x420000 + 0x30 := RegDesc.off_lt hi (by decide) (by decide)
  have h3 : 0x400000 ≤ R.ETH_RX_OK.off port 0 := by simp only [RegDesc.off, R.ETH_RX_OK]; omega
  have h4 : 0x400000 ≤ R.FLOW_HITS.off i 0 := by simp only [RegDesc.off, R.FLOW_HITS]; omega
  have h5 : x ≠ R.FLOW_HITS.off i 0 := by simp only [RegDesc.off, R.FLOW_HITS] at h2 h4 ⊢; omega
  simp only [heardOffs, List.mem_cons, not_or]
  exact ⟨by omega, h5, hc, notMem_recOffs_of_lt (by omega)⟩

/-- A datagram that its flow hands to an open compressed context of one leg (R109, R111). -/
structure Dev.Hands (d : Dev) (port size i : Nat) (e : Flow) (u : UdpInfo) (p : RtpPacket) (a : AuPart) : Prop where
  up : d.EthUp port
  fits : size ≤ d.get R.ETH_CTRL_MAX_FRAME port
  notEvent : u.dport ≠ 319
  notGeneral : u.dport ≠ 320
  flow : d.net.flows.find? (fun e => e.2.takes port u) = some (i, e)
  index : i < 1024
  action : bits e.ctrl.toNat 20 19 = 0
  rtp : u.rtp = some p
  carries : CarriesPart p a
  running : d.inState (bits e.ctrl.toNat 7 0) = inRunning
  single : d.get R.CTX_STATUS_DUAL (bits e.ctrl.toNat 7 0) = 0
  expects : d.Expects (bits e.ctrl.toNat 7 0) p

/-- From `d` to `b`, the packet has been heard on the context's leg, and is yet to be judged. -/
structure Dev.Heard (d b : Dev) (port i c : Nat) : Prop where
  ctx : b.ctx c = { d.ctx c with leg0 := d.wt, alarm0 := false }
  leg : b.get R.CTX_STATUS_LEG0_ACTIVE c = 1
  keeps : d.Keeps b (· ∈ heardOffs port i c) [.net, .recd]

section
variable {d b : Dev} {port size i c : Nat} {e : Flow} {u : UdpInfo} {p : RtpPacket} {a : AuPart}

theorem Dev.Hands.context_lt (_ : d.Hands port size i e u p a) : bits e.ctrl.toNat 7 0 < 256 := bits_lt _ 7 0

theorem Dev.Hands.heard (h : d.Hands port size i e u p a) (m : Mem) : ∃ r b,
    ethFrame port size (.udp u) (d, m) = rtpPacket (bits e.ctrl.toNat 7 0) 0 p (r, m) ∧
      r.legAlive (bits e.ctrl.toNat 7 0) 0 = b ∧ d.Heard b port i (bits e.ctrl.toNat 7 0) := by
  generalize hc : bits e.ctrl.toNat 7 0 = c
  have hlt : c < 256 := hc ▸ h.context_lt
  obtain ⟨r, hr⟩ : ∃ r, (d.bump R.ETH_RX_OK_COUNT port).bumpWrap R.FLOW_HITS_HITS i = r := ⟨_, rfl⟩
  obtain ⟨-, -, hk⟩ := d.bump_hits h.up.port_lt i hr
  have hs : R.CTX_STATUS.off c 0 ∉ [R.ETH_RX_OK.off port 0, R.FLOW_HITS.off i 0] := by
    have h1 : R.ETH_RX_OK.off port 0 < 0x410000 := RegDesc.off_lt h.up.port_lt (by decide) (by decide)
    have h2 : R.FLOW_HITS.off i 0 < 0x420000 + 0x30 := RegDesc.off_lt h.index (by decide) (by decide)
    simp only [RegDesc.off, R.ETH_RX_OK, R.FLOW_HITS, R.CTX_STATUS, List.mem_cons, List.not_mem_nil, or_false] at h1 h2 ⊢
    omega
  obtain ⟨b, hb⟩ : ∃ b, r.legAlive c 0 = b := ⟨_, rfl⟩
  obtain ⟨hctx, hleg, hk'⟩ := r.legAlive_sets hlt hb
  have hwt : r.wt = d.wt := hk.wt (by simp)
  have hrc : r.ctx c = d.ctx c := Dev.ctx_of_net (hk.net.resolve_left (by simp)) c
  refine ⟨r, b, hc ▸ h.up.ethFrame_packet m h.fits h.notEvent h.notGeneral h.flow h.action h.rtp hr ?_ ?_, hb,
    ⟨hrc ▸ hwt ▸ hctx, hleg, (hk.mono (fun x hx => ?_) (by simp)).trans (hk'.mono (fun x hx => ?_) (fun _ hx => hx))⟩⟩
  · rw [hc]
    exact (hk.get R.CTX_STATUS_STATE c 0 hs).trans (hc ▸ h.running)
  · rw [hc]
    exact (hk.get R.CTX_STATUS_DUAL c 0 hs).trans (hc ▸ h.single)
  · simp only [heardOffs, List.mem_cons, List.not_mem_nil, or_false] at hx ⊢
    tauto
  · exact List.mem_cons_of_mem _ (List.mem_cons_of_mem _ hx)

theorem Dev.Heard.expects (h : d.Heard b port i c) (hp : port < 4) (hi : i < 1024) (hc : c < 256)
    (hx : d.Expects c p) : b.Expects c p := by
  have hn : R.CTX_CFG.off c 0 ∉ heardOffs port i c := notMem_heardOffs hp hi
    (.inr ⟨by simp only [RegDesc.off, R.CTX_CFG]; omega, RegDesc.off_lt hc (by decide) (by decide)⟩) (RegDesc.off_ne (by decide) _ _)
  exact ⟨(h.keeps.get R.CTX_CFG_TYPE c 0 hn).trans_lt hx.compressed, (h.keeps.get R.CTX_CFG_PT c 0 hn).trans hx.pt⟩

end

end Sys2Proof.Machine
end

section
/-! PROOFS. The three fates of a packet of an open context (R113, R118), and the statement of the frames and packets received. -/

namespace Sys2Proof.Machine

/-- The sequence numbers of the packets that the open frames of a context hold. -/
def Dev.heldSeqs (d : Dev) (c : Nat) : List (List Nat) := (d.ctx c).frames.map fun g => g.pkts.map (·.seq)

theorem Dev.heldSeqs_updFrame (d : Dev) (c ts : Nat) (g : OpenFrame → OpenFrame)
    (h : ∀ x, (g x).pkts.map (·.seq) = x.pkts.map (·.seq)) : (d.updFrame c ts g).heldSeqs c = d.heldSeqs c := by
  rw [Dev.heldSeqs, Dev.frames_updFrame, List.map_map, Dev.heldSeqs]
  refine List.map_congr_left fun x _ => ?_
  simp only [Function.comp]
  split
  · exact h x
  · rfl

theorem find?_holds_none {fs : List OpenFrame} {seq : Nat} (h : ∀ f ∈ fs, ∀ x ∈ f.pkts, x.seq ≠ seq) :
    fs.find? (·.holds seq) = none :=
  List.find?_eq_none.mpr fun f hf => by
    simp only [OpenFrame.holds, List.any_eq_true, beq_iff_eq, not_exists, not_and]
    exact h f hf

theorem pktCounts_notMem_heardOffs {port i c : Nat} (hp : port < 4) (hi : i < 1024) (hc : c < 256) :
    R.PKT_COUNTS.off c 0 ∉ heardOffs port i c :=
  notMem_heardOffs hp hi (.inr ⟨by simp only [RegDesc.off, R.PKT_COUNTS]; omega, RegDesc.off_lt hc (by decide) (by decide)⟩)
    (RegDesc.off_ne (by decide) _ _)

section
variable {d : Dev} {port size i : Nat} {e : Flow} {u : UdpInfo} {p : RtpPacket} {a : AuPart}

/-- A duplicate counts, and changes no frame's packets (R118). -/
theorem Dev.Hands.duplicate (h : d.Hands port size i e u p a) (m : Mem) {f : OpenFrame} {x : HeldPkt}
    (hf : f ∈ (d.ctx (bits e.ctrl.toNat 7 0)).frames) (hx : x ∈ f.pkts) (hs : x.seq = p.seq) :
    ∃ b, ethFrame port size (.udp u) (d, m) = (b, m) ∧ d.Wraps b R.PKT_COUNTS_DUP (bits e.ctrl.toNat 7 0) ∧
      b.heldSeqs (bits e.ctrl.toNat 7 0) = d.heldSeqs (bits e.ctrl.toNat 7 0) ∧
      d.Keeps b (· ∈ packetOffs port i (bits e.ctrl.toNat 7 0)) [.net, .recd] := by
  obtain ⟨r, b, hrun, hb, hd⟩ := h.heard m
  have hc := h.context_lt
  have hex := h.expects
  generalize bits e.ctrl.toNat 7 0 = c at *
  have hfs : (b.ctx c).frames = (d.ctx c).frames := by rw [hd.ctx]
  obtain ⟨g, hg⟩ : ∃ g, (b.ctx c).frames.find? (·.holds p.seq) = some g :=
    Option.isSome_iff_exists.mp (List.find?_isSome.mpr ⟨f, hfs ▸ hf, List.any_eq_true.mpr ⟨x, hx, by simp [hs]⟩⟩)
  rw [hrun, rtpPacket_held h.carries hb (hd.expects h.up.port_lt h.index hc hex) m hg]
  have hk : b.Keeps (b.updFrame c g.ts fun g => g.credited p.seq b.wt) (· ∈ [R.CTX_STATUS.off c 0]) [.net, .recd] :=
    (Dev.Keeps.refl _ _ _).updFrame _ _ _ (by simp) (by simp)
  have hseq : (b.updFrame c g.ts fun g => g.credited p.seq b.wt).heldSeqs c = b.heldSeqs c :=
    b.heldSeqs_updFrame c g.ts _ fun x => x.seqs_credited _ _
  generalize (b.updFrame c g.ts fun g => g.credited p.seq b.wt) = n at *
  refine ⟨_, rfl, ?_, ?_, ?_⟩
  · have h1 : n.get R.PKT_COUNTS_DUP c = b.get R.PKT_COUNTS_DUP c :=
      hk.get _ _ _ fun hm => RegDesc.off_ne (by decide) c 0 (List.mem_singleton.mp hm)
    have h2 : b.get R.PKT_COUNTS_DUP c = d.get R.PKT_COUNTS_DUP c :=
      hd.keeps.get _ _ _ (pktCounts_notMem_heardOffs h.up.port_lt h.index hc)
    rw [Dev.Wraps, n.wraps_bumpWrap _ _ (by decide), h1, h2]
  · rw [Dev.heldSeqs, Dev.ctx_of_net (Dev.bumpWrap_net _ _ _ _), ← Dev.heldSeqs, hseq, Dev.heldSeqs, hfs, ← Dev.heldSeqs]
  · refine ((hd.keeps.mono (heardOffs_subset _ _ _) (fun _ hx => hx)).trans
      (hk.mono (fun y hy => ?_) (fun _ hx => hx))).bumpWrap _ _ _ (by simp [packetOffs, R.PKT_COUNTS_DUP])
    simp [packetOffs, List.mem_singleton.mp hy]

/-- A packet that is new to a context without open frames opens the frame of its timestamp (R113). -/
theorem Dev.Hands.opens (h : d.Hands port size i e u p a) (m : Mem) (hs : p.seq ∉ (d.ctx (bits e.ctrl.toNat 7 0)).seen)
    (ht : p.ts ∉ (d.ctx (bits e.ctrl.toNat 7 0)).ended) (ha : a.bytes ≤ 8388608)
    (hf : (d.ctx (bits e.ctrl.toNat 7 0)).frames = []) (hn : (d.ctx (bits e.ctrl.toNat 7 0)).noSlotTs = none) :
    ∃ b, ethFrame port size (.udp u) (d, m) = (b, m) ∧ (b.ctx (bits e.ctrl.toNat 7 0)).frames =
        [⟨p.ts, d.stampState (bits e.ctrl.toNat 7 0), [⟨p.seq, 0, d.wt, false, some a⟩], none, none, false, a.bytes, none,
          false⟩] ∧
      b.get R.CTX_STATUS_OPEN_FRAMES (bits e.ctrl.toNat 7 0) = 1 ∧
      b.get R.CTX_STATUS_LEG0_ACTIVE (bits e.ctrl.toNat 7 0) = 1 ∧
      d.Keeps b (· ∈ packetOffs port i (bits e.ctrl.toNat 7 0)) [.net, .recd] := by
  obtain ⟨r, b, hrun, hb, hd⟩ := h.heard m
  have hc := h.context_lt
  have hex := h.expects
  generalize bits e.ctrl.toNat 7 0 = c at *
  have hex' := hd.expects h.up.port_lt h.index hc hex
  have hfs : (b.ctx c).frames = [] := by rw [hd.ctx]; exact hf
  have hno : b.frame? c p.ts = none := by rw [Dev.frame?, hfs]; rfl
  have hst : b.stampState c = d.stampState c := by
    have hwt : R.WT_STATUS.off 0 0 ∉ heardOffs port i c := notMem_heardOffs h.up.port_lt h.index (.inl (by decide))
      (by simp only [RegDesc.off, R.WT_STATUS, R.CTX_STATUS]; omega)
    have hcfg : R.CTX_CFG.off c 0 ∉ heardOffs port i c := notMem_heardOffs h.up.port_lt h.index
      (.inr ⟨by simp only [RegDesc.off, R.CTX_CFG]; omega, RegDesc.off_lt hc (by decide) (by decide)⟩)
      (RegDesc.off_ne (by decide) _ _)
    exact Dev.stampState_congr (hd.keeps.get _ _ _ hcfg) (hd.keeps.reg _ _ _ hwt) (hd.keeps.time.resolve_left (by simp))
      hd.keeps.now (hd.keeps.boot.resolve_left (by simp))
  have hwt : b.wt = d.wt := hd.keeps.wt (by simp)
  rw [hrun, rtpPacket_new h.carries hb hex' m (by rw [hfs]; rfl) (by rw [hd.ctx]; exact hs) (by rw [hd.ctx]; exact ht)
    (fun f hf => by rw [hno] at hf; cases hf), if_pos (by rw [hno]; rfl)]
  obtain ⟨o, ho, hof, how, hol, hok⟩ := openFrame_sets m p.ts hfs (by rw [hd.ctx]; exact hn) hex'.compressed
  rw [hst] at hof
  have hres : ((o.ctx c).frames.map fun x => if x.ts = p.ts then
      (OpenFrame.opened p.ts (d.stampState c)).joined p.seq 0 o.wt a else x) =
      [⟨p.ts, d.stampState c, [⟨p.seq, 0, d.wt, false, some a⟩], none, none, false, a.bytes, none, false⟩] := by
    simp [hof, how, hwt, OpenFrame.opened, OpenFrame.joined]
  obtain ⟨n, hj, hnf, hopen, hnl, hnk⟩ := joinFrame_sets (leg := 0) m (by simp [Dev.frame?, hof, OpenFrame.opened])
    h.carries.payload h.carries.notLast (by simpa [OpenFrame.opened] using ha) hres
  have hone : ∀ y ∈ [R.CTX_STATUS.off c 0], y ∈ packetOffs port i c := by simp [packetOffs]
  rw [ho]
  exact ⟨n, hj, hnf, hopen, hnl.trans (hol.trans hd.leg), ((hd.keeps.mono (heardOffs_subset _ _ _) (fun _ hx => hx)).trans
    (hok.mono hone (by simp))).trans (hnk.mono hone (by simp))⟩

/-- A packet that is new joins the first open frame where that has its timestamp (R113). -/
theorem Dev.Hands.joins (h : d.Hands port size i e u p a) (m : Mem) {f : OpenFrame} {rest : List OpenFrame}
    (hf : (d.ctx (bits e.ctrl.toNat 7 0)).frames = f :: rest) (hts : f.ts = p.ts) (hcl : f.closed = false)
    (hnew : ∀ f ∈ (d.ctx (bits e.ctrl.toNat 7 0)).frames, ∀ x ∈ f.pkts, x.seq ≠ p.seq)
    (hs : p.seq ∉ (d.ctx (bits e.ctrl.toNat 7 0)).seen) (ht : p.ts ∉ (d.ctx (bits e.ctrl.toNat 7 0)).ended)
    (ha : f.bytes + a.bytes ≤ 8388608) (hr : ∀ g ∈ rest, g.ts ≠ p.ts) :
    ∃ b, ethFrame port size (.udp u) (d, m) = (b, m) ∧
      (b.ctx (bits e.ctrl.toNat 7 0)).frames = f.joined p.seq 0 d.wt a :: rest ∧
      d.Keeps b (· ∈ packetOffs port i (bits e.ctrl.toNat 7 0)) [.net, .recd] := by
  obtain ⟨r, b, hrun, hb, hd⟩ := h.heard m
  have hc := h.context_lt
  have hex := h.expects
  generalize bits e.ctrl.toNat 7 0 = c at *
  have hex' := hd.expects h.up.port_lt h.index hc hex
  have hfs : (b.ctx c).frames = f :: rest := by rw [hd.ctx]; exact hf
  have hfr : b.frame? c p.ts = some f := by simp [Dev.frame?, hfs, hts]
  have hwt : b.wt = d.wt := hd.keeps.wt (by simp)
  rw [hrun, rtpPacket_new h.carries hb hex' m (find?_holds_none (by rw [hd.ctx]; exact hnew)) (by rw [hd.ctx]; exact hs)
    (by rw [hd.ctx]; exact ht) (fun g hg => by rw [hfr] at hg; cases hg; exact hcl), if_neg (by rw [hfr]; simp)]
  have hmap : ((b.ctx c).frames.map fun x => if x.ts = p.ts then f.joined p.seq 0 b.wt a else x) =
      f.joined p.seq 0 d.wt a :: rest := by
    rw [hfs, List.map_cons, if_pos hts, hwt]
    exact congrArg _ ((List.map_congr_left fun g hg => if_neg (hr g hg)).trans (List.map_id _))
  obtain ⟨n, hj, hnf, -, -, hnk⟩ := joinFrame_sets (leg := 0) m hfr h.carries.payload h.carries.notLast ha hmap
  exact ⟨n, hj, hnf, (hd.keeps.mono (heardOffs_subset _ _ _) (fun _ hx => hx)).trans
    (hnk.mono (by simp [packetOffs]) (by simp))⟩

end

/-- Settles O22: frames that no context takes by the counter of each kind, and a packet that a flow hands to an open context
as a duplicate, as the first of its frame, or as one more of the first open frame. -/
theorem framesAndPackets : Obligations.FramesAndPackets := by
  refine ⟨fun t port size s h1 h2 h3 h4 => ethFrameReceived_counts t port size s ⟨h1, h2, h3, h4⟩, ?_⟩
  intro t port size i e u p a s h1 h2 h3 h4 h5 h6 h7 h8 h9 h10 h11 h12 h13 h14 h15 h16 c h17 h18 h19 h20 offs
  have h : (s.dev.clock t).Hands port size i e u p a :=
    ⟨⟨h1, h2, h3, h4⟩, h5, h6, h7, h8, h9, h10, h11, ⟨h12, h13, h14, h15, h16⟩, h17, h19, ⟨h18, h20⟩⟩
  simp only [exec_ethFrameReceived, State.onAll]
  refine ⟨fun f hf x hx hs => ?_, fun _ hs ht ha hf hn => ?_, fun f rest hf hts hcl hnew hs ht ha hr => ?_⟩
  · obtain ⟨b, hb, hdup, hseq, hk⟩ := h.duplicate s.mem hf hx hs
    rw [hb]
    exact ⟨_, rfl, hdup, hseq, rfl, .inr rfl, hk⟩
  · obtain ⟨b, hb, hfs, hopen, hleg, hk⟩ := h.opens s.mem hs ht ha hf hn
    rw [hb]
    exact ⟨_, rfl, hfs, hopen, hleg, rfl, .inr rfl, hk⟩
  · obtain ⟨b, hb, hfs, hk⟩ := h.joins s.mem hf hts hcl hnew hs ht ha hr
    rw [hb]
    exact ⟨_, rfl, hfs, rfl, .inr rfl, hk⟩

end Sys2Proof.Machine
end

section
/-! PROOFS. The timers of open frames (R113, R114, R116, R119, R122, R123). -/

namespace Sys2Proof.Machine

theorem exec_frameHoldExpiry (t c ts : Nat) (s : State) :
    exec (.frameHoldExpiry t c ts) s = s.onAll t (holdExpiry c ts) := rfl
theorem exec_assemblyTimeout (t c ts : Nat) (s : State) :
    exec (.assemblyTimeout t c ts) s = s.onAll t (assemblyTimeout c ts) := rfl
theorem exec_legInactive (t c leg : Nat) (s : State) : exec (.legInactive t c leg) s = s.onDev t (legInactive c leg) := rfl

/-! ### Where the registers lie -/

/-- A register of a stream context that does not show its decoding. -/
theorem notMem_dctxOffs {r : RegDesc} (h : r.s1 = 0x40 ∧ r.s2 = 0 ∧ r.base < 0x610000) (c : Nat) :
    r.off c 0 ∉ dctxOffs c := by
  obtain ⟨h1, h2, hb⟩ := h
  simp only [dctxOffs, RegDesc.off, R.DCTX_STATUS, R.DCTX_REF_MASK, R.DCTX_LEASE_MASK, R.DCTX_OUT, h1, List.mem_cons,
    List.not_mem_nil, or_false]
  omega

/-! ### Frames that end -/

/-- From `d` to `e`, open frames of a context have ended: no frame was delivered, and its state is what it was. -/
structure Dev.Ends (d e : Dev) (c : Nat) : Prop where
  delivered : (e.ctx c).delivered = (d.ctx c).delivered
  state : e.inState c = d.inState c
  keeps : d.Keeps e (· ∈ R.CTX_STATUS.off c 0 :: dctxOffs c) [.net, .dec]

theorem Dev.Ends.refl (d : Dev) (c : Nat) : d.Ends d c := ⟨rfl, rfl, .refl _ _ _⟩

theorem Dev.Ends.trans {d e f : Dev} {c : Nat} (h : d.Ends e c) (k : e.Ends f c) : d.Ends f c :=
  ⟨k.delivered.trans h.delivered, k.state.trans h.state, h.keeps.trans k.keeps⟩

theorem Dev.ends_setCtx (d : Dev) (c : Nat) (x : Ctx) (hx : x.delivered = (d.ctx c).delivered) : d.Ends (d.setCtx c x) c :=
  ⟨by rw [Dev.ctx_setCtx, hx], Dev.get_setCtx _ _ _ _ (by decide), (Dev.Keeps.refl _ _ _).setCtx _ _ (by simp) (by simp)⟩

theorem Dev.keeps_setDctx (d : Dev) (c : Nat) (x : Dctx) : d.Keeps (d.setDctx c x) (· ∈ dctxOffs c) [.dec] :=
  (Dev.Keeps.refl _ _ _).setDctx _ _ (fun _ hy => hy) (by simp)

theorem Dev.ends_setDctx (d : Dev) (c : Nat) (x : Dctx) : d.Ends (d.setDctx c x) c :=
  have hk := d.keeps_setDctx c x
  ⟨congrArg Ctx.delivered (Dev.ctx_of_net (hk.net.resolve_left (by simp)) c),
    hk.get _ _ _ (notMem_dctxOffs (by decide) c), hk.mono (fun _ hy => List.mem_cons_of_mem _ hy) (by simp)⟩

theorem Dev.frames_setDctx (d : Dev) (c : Nat) (x : Dctx) : ((d.setDctx c x).ctx c).frames = (d.ctx c).frames :=
  congrArg Ctx.frames (Dev.ctx_of_net ((d.keeps_setDctx c x).net.resolve_left (by simp)) c)

theorem Dev.endFrame_ends (d : Dev) (c : Nat) (f : OpenFrame) :
    d.Ends (d.endFrame c f) c ∧ ((d.endFrame c f).ctx c).frames = (d.ctx c).frames := by
  have key : ∀ x : Ctx, x.delivered = (d.ctx c).delivered → x.frames = (d.ctx c).frames →
      d.Ends (d.setCtx c x) c ∧ ((d.setCtx c x).ctx c).frames = (d.ctx c).frames := fun x hd hf =>
    ⟨d.ends_setCtx c x hd, by rw [Dev.ctx_setCtx, hf]⟩
  unfold Dev.endFrame
  cases f.slot with
  | none => exact key _ rfl rfl
  | some i =>
    obtain ⟨he, hf⟩ := key { d.ctx c with
      ended := f.ts :: (d.ctx c).ended.filter (fun t => t != f.ts && decide (sdiff 32 f.ts t < 2 ^ 30))
      endSeq := f.marker.map (·.1) } rfl rfl
    exact ⟨he.trans (Dev.ends_setDctx _ _ _), (Dev.frames_setDctx _ _ _).trans hf⟩

theorem Dev.foldl_endFrame_ends (c : Nat) (fs : List OpenFrame) (d : Dev) :
    d.Ends (fs.foldl (fun d f => d.endFrame c f) d) c ∧
      ((fs.foldl (fun d f => d.endFrame c f) d).ctx c).frames = (d.ctx c).frames := by
  induction fs generalizing d with
  | nil => exact ⟨.refl _ _, rfl⟩
  | cons f r ih =>
    obtain ⟨h1, h2⟩ := d.endFrame_ends c f
    obtain ⟨h3, h4⟩ := ih (d.endFrame c f)
    exact ⟨h1.trans h3, h4.trans h2⟩

theorem Dev.discardFrames_ends (d : Dev) (c : Nat) : d.Ends (d.discardFrames c) c ∧ ((d.discardFrames c).ctx c).frames = [] := by
  obtain ⟨h1, h2⟩ := Dev.foldl_endFrame_ends c (d.ctx c).frames (d.setCtx c { d.ctx c with frames := [] })
  exact ⟨(d.ends_setCtx c { d.ctx c with frames := [] } rfl).trans h1, h2.trans (by rw [Dev.ctx_setCtx])⟩

/-! ### A discard that makes the context resynchronise -/

/-- The registers that such a discard moves beside its counter. -/
def discardOffs (c : Nat) : List Nat := R.CTX_STATUS.off c 0 :: dctxOffs c ++ recOffs

/-- A running context that resynchronises holds no frame (R123). -/
theorem Dev.toResync_of_running {d : Dev} {c : Nat} (hc : c < 256) (h : d.inState c = inRunning) :
    ((d.toResync c).ctx c).frames = [] ∧ ((d.toResync c).ctx c).delivered = (d.ctx c).delivered ∧
      (d.toResync c).inState c = inResync ∧ d.Keeps (d.toResync c) (· ∈ discardOffs c) [.net, .dec, .recd] := by
  obtain ⟨he, hf⟩ := d.discardFrames_ends c
  rw [Dev.toResync, if_pos h]
  generalize d.discardFrames c = b at *
  have hinfo := (Dev.Keeps.refl (b.put R.CTX_STATUS_STATE inResync c) (· ∈ recOffs) [.recd]).info .ctxResync (asmAgent c) c 0 0
    (fun _ hx => hx) (by simp)
  have hctx := (Dev.ctx_of_net (hinfo.net.resolve_left (by simp)) c).trans (Dev.ctx_of_net (Dev.put_net b _ _ _ _) c)
  refine ⟨(congrArg Ctx.frames hctx).trans hf, (congrArg Ctx.delivered hctx).trans he.delivered, ?_, ?_⟩
  · exact (hinfo.get _ _ _ (ctxStatus_notMem_recOffs hc)).trans (Dev.get_put_lt _ _ _ _ _ 8 (by decide) (by decide))
  · refine ((he.keeps.mono (fun x hx => ?_) (by simp)).put _ _ _ _ ?_).trans (hinfo.mono (fun x hx => ?_) (by simp))
    · exact List.mem_append_left _ hx
    · exact List.mem_cons_self
    · exact List.mem_append_right _ hx

/-- From `d` to `e`, a frame of a context was discarded under a counter, and the context resynchronises (R116, R123). -/
structure Dev.Discards (d e : Dev) (c : Nat) (count : FldDesc) : Prop where
  frames : (e.ctx c).frames = []
  counts : d.Counts e count c
  state : e.inState c = inResync
  delivered : (e.ctx c).delivered = (d.ctx c).delivered
  keeps : d.Keeps e (· ∈ R.CTX_STATUS.off c 0 :: count.reg.off c 0 :: dctxOffs c ++ recOffs) [.net, .dec, .recd]

/-- A counter of a stream context. -/
abbrev FldDesc.counter (f : FldDesc) : Prop :=
  f.ok = true ∧ f.reg.s1 = 0x40 ∧ f.reg.s2 = 0 ∧ R.CTX_STATUS.base < f.reg.base ∧ f.reg.base < 0x420040

theorem FldDesc.counter.ne_ctxStatus {f : FldDesc} (h : f.counter) (c : Nat) : R.CTX_STATUS.off c 0 ≠ f.reg.off c 0 := by
  obtain ⟨-, h1, h2, hb, -⟩ := h
  exact RegDesc.off_ne ⟨h1.symm, h2.symm, Nat.ne_of_lt hb⟩ c 0

theorem FldDesc.counter.notMem_discardOffs {f : FldDesc} (h : f.counter) {c : Nat} (hc : c < 256) :
    f.reg.off c 0 ∉ discardOffs c := by
  obtain ⟨-, h1, h2, -, hb⟩ := id h
  have hlt : f.reg.off c 0 < 0x1100000 := RegDesc.off_lt hc (by rw [h1]; omega) (by rw [h1]; omega)
  simp only [discardOffs, List.cons_append, List.mem_cons, List.mem_append, not_or]
  exact ⟨(h.ne_ctxStatus c).symm, notMem_dctxOffs ⟨h1, h2, by omega⟩ c, notMem_recOffs_of_lt hlt⟩

theorem Dev.Ends.discards {d b : Dev} {c : Nat} (h : d.Ends b c) (hc : c < 256) (hr : d.inState c = inRunning)
    {count : FldDesc} (hcount : count.counter) : d.Discards ((b.bump count c).toResync c) c count := by
  have hn := hcount.notMem_discardOffs hc
  have hbr : (b.bump count c).inState c = inRunning :=
    (Dev.get_put_ne _ _ _ _ _ _ _ _ (hcount.ne_ctxStatus c)).trans (h.state.trans hr)
  have hbc : (b.bump count c).get count c = min (d.get count c + 1) (2 ^ (count.hi - count.lo + 1) - 1) := by
    rw [Dev.get_bump _ _ _ _ _ hcount.1, h.keeps.get count c 0 fun hx => hn (List.mem_append_left _ hx)]
  have hk : d.Keeps (b.bump count c) (· ∈ R.CTX_STATUS.off c 0 :: count.reg.off c 0 :: dctxOffs c ++ recOffs)
      [.net, .dec, .recd] := by
    refine (h.keeps.mono (fun x hx => ?_) (by simp)).bump _ _ _ _ (by simp)
    simp only [List.cons_append, List.mem_cons, List.mem_append] at hx ⊢
    tauto
  have hctx : (b.bump count c).ctx c = b.ctx c := Dev.ctx_of_net (Dev.bump_net _ _ _ _ _) c
  obtain ⟨hf, hd, hs, hk'⟩ := Dev.toResync_of_running hc hbr
  refine ⟨hf, (hk'.get _ _ _ hn).trans hbc, hs, hd.trans (hctx ▸ h.delivered), hk.trans (hk'.mono (fun x hx => ?_) (by simp))⟩
  simp only [discardOffs, List.cons_append, List.mem_cons, List.mem_append] at hx ⊢
  tauto

/-! ### Frames that close -/

/-- Nothing leaves a context whose first frame is open (R114). -/
theorem emitFrames_of_open {d : Dev} {c : Nat} (m : Mem) (h : ∀ f ∈ (d.ctx c).frames, f.closed = false) (n : Nat) :
    emitFrames c n (d, m) = (d, m) := by
  cases n with
  | zero => rfl
  | succ n =>
    unfold emitFrames
    cases hf : (d.ctx c).frames with
    | nil => rfl
    | cons f rest => exact if_neg (by simp [h f (by simp [hf])])

/-- From `d` to `e`, only the open frames of a context, and OPEN_FRAMES, moved. -/
structure Dev.Reframed (d e : Dev) (c : Nat) (fs : List OpenFrame) : Prop where
  ctx : e.ctx c = { d.ctx c with frames := fs }
  state : e.inState c = d.inState c
  keeps : d.Keeps e (· ∈ [R.CTX_STATUS.off c 0]) [.net]

theorem Dev.reframed_setCtx (d : Dev) (c : Nat) (fs : List OpenFrame) :
    d.Reframed (d.setCtx c { d.ctx c with frames := fs }) c fs :=
  ⟨Dev.ctx_setCtx _ _ _, Dev.get_setCtx _ _ _ _ (by decide), (Dev.Keeps.refl _ _ _).setCtx _ _ (by simp) (by simp)⟩

theorem Dev.Reframed.trans {d e f : Dev} {c : Nat} {fs gs : List OpenFrame} (h : d.Reframed e c fs)
    (k : e.Reframed f c gs) : d.Reframed f c gs :=
  ⟨by rw [k.ctx, h.ctx], k.state.trans h.state, h.keeps.trans k.keeps⟩

theorem Dev.Reframed.ends {d e : Dev} {c : Nat} {fs : List OpenFrame} (h : d.Reframed e c fs) : d.Ends e c :=
  ⟨by rw [h.ctx], h.state, h.keeps.mono (by simp) (by simp)⟩

/-- The first frame closes: it is judged, and then what stands behind it (R113, R114). -/
theorem closeFrame_of_first {d : Dev} {c : Nat} (m : Mem) {f : OpenFrame} {rest fs : List OpenFrame}
    (hf : (d.ctx c).frames = f :: rest)
    (hfs : (rest.map fun x => if x.ts = f.ts then { x with closed := true } else x) = fs) :
    ∃ e, d.Reframed e c fs ∧ closeFrame c f.ts (d, m) =
      emitFrames c (rest.length + 1) (finishFrame c { f with closed := true } (e, m)) := by
  have hu : ((d.updFrame c f.ts fun f => { f with closed := true }).ctx c).frames = { f with closed := true } :: fs := by
    rw [Dev.frames_updFrame, hf, List.map_cons, if_pos rfl, hfs]
  have hr : d.Reframed (d.updFrame c f.ts fun f => { f with closed := true }) c _ := d.reframed_setCtx c _
  refine ⟨_, hr.trans (Dev.reframed_setCtx _ c fs), ?_⟩
  simp only [closeFrame, hf, List.length_cons]
  rw [emitFrames]
  simp only [hu, if_true]

/-! ### Gaps and timeouts -/

/-- A compressed frame with a gap (R114). -/
theorem finishFrame_of_gap {d : Dev} {c : Nat} {f : OpenFrame} (m : Mem) (ht : d.ctxType c < 2)
    (hg : f.gap (d.ctx c).endSeq = true) :
    finishFrame c f (d, m) = (((d.endFrame c f).bump R.DISCARD_GAP_COUNT c).toResync c, m) := by
  have hst : (d.ctxType c == 2) = false := by simp; omega
  simp only [finishFrame, hst, hg]
  rfl

theorem ctxType_of_reframed {d e : Dev} {c : Nat} {fs : List OpenFrame} (h : d.Reframed e c fs) :
    e.ctxType c = d.ctxType c :=
  h.keeps.get _ _ _ fun hx => RegDesc.off_ne (by decide) c 0 (List.mem_singleton.mp hx)

/-- The first frame of a running compressed context closes with a gap. -/
theorem closeFrame_discards {d : Dev} {c : Nat} (m : Mem) (hc : c < 256) (ht : d.ctxType c < 2)
    (hr : d.inState c = inRunning) {f : OpenFrame} {rest : List OpenFrame} (hf : (d.ctx c).frames = f :: rest)
    (hg : f.gap (d.ctx c).endSeq = true) :
    ∃ e, closeFrame c f.ts (d, m) = (e, m) ∧ d.Discards e c R.DISCARD_GAP_COUNT := by
  obtain ⟨b, hb, hrun⟩ := closeFrame_of_first m hf rfl
  have hbg : { f with closed := true }.gap (b.ctx c).endSeq = true := by rw [hb.ctx]; exact hg
  have hd := (hb.ends.trans (b.endFrame_ends c { f with closed := true }).1).discards hc hr
    (count := R.DISCARD_GAP_COUNT) (by decide)
  refine ⟨_, ?_, hd⟩
  rw [hrun, finishFrame_of_gap m (ctxType_of_reframed hb ▸ ht) hbg, emitFrames_of_open m (by simp [hd.frames])]

/-- A frame that is dropped from a running context (R116). -/
theorem dropFrame_discards {d : Dev} {c : Nat} (m : Mem) (hc : c < 256) (hr : d.inState c = inRunning) (f : OpenFrame)
    {count : FldDesc} (hcount : count.counter) :
    ∃ e, dropFrame c f count (d, m) = (e, m) ∧ d.Discards e c count := by
  have hb := (d.reframed_setCtx c ((d.ctx c).frames.filter fun g => g.ts != f.ts)).ends
  have hd := (hb.trans (Dev.endFrame_ends _ c f).1).discards hc hr hcount
  exact ⟨_, emitFrames_of_open m (by simp [hd.frames]) _, hd⟩

/-- The hold time has passed since the first frame's marker, or since a later frame began (R113). -/
theorem holdExpiry_of_first {d : Dev} {c w : Nat} (m : Mem) {f : OpenFrame} {rest : List OpenFrame}
    (hf : (d.ctx c).frames = f :: rest) (hcl : f.closed = false)
    (hm : (∃ mk, f.marker = some (mk, w)) ∨ f.marker = none ∧ f.laterAt = some w) (hw : w + d.holdTime c ≤ d.wt) :
    holdExpiry c f.ts (d, m) = closeFrame c f.ts (d, m) := by
  have hfr : d.frame? c f.ts = some f := by simp [Dev.frame?, hf]
  rcases hm with ⟨mk, hm⟩ | ⟨hm, hl⟩
  · simp only [holdExpiry, hfr, hm]
    exact if_pos (by simpa [hcl] using hw)
  · simp only [holdExpiry, hfr, hm, hl]
    exact if_pos (by simpa [hcl] using hw)

theorem frameHoldExpiry_gap (t c ts w : Nat) (f : OpenFrame) (rest : List OpenFrame) (s : State) (hc : c < 256)
    (ht : s.dev.ctxType c < 2) (hr : s.dev.inState c = inRunning) (hf : (s.dev.ctx c).frames = f :: rest) (hts : f.ts = ts)
    (hcl : f.closed = false) (hm : f.marker = none) (hl : f.laterAt = some w)
    (hw : w + s.dev.holdTime c ≤ (s.dev.clock t).wt) :
    ∃ s', exec (.frameHoldExpiry t c ts) s = .next s' ∧ (s'.dev.ctx c).frames = [] ∧
      s.dev.Counts s'.dev R.DISCARD_GAP_COUNT c ∧ s'.dev.inState c = inResync ∧
      (s'.dev.ctx c).delivered = (s.dev.ctx c).delivered ∧
      s.Keeps s' t (R.CTX_STATUS.off c 0 :: R.DISCARD_GAP.off c 0 :: dctxOffs c ++ recOffs) [.net, .dec, .recd] := by
  subst hts
  obtain ⟨e, he, hd⟩ := closeFrame_discards (d := s.dev.clock t) s.mem hc ht hr hf (by simp [OpenFrame.gap, hm])
  have hrun := (holdExpiry_of_first (d := s.dev.clock t) s.mem hf hcl (.inr ⟨hm, hl⟩) hw).trans he
  rw [exec_frameHoldExpiry, State.onAll, hrun]
  exact ⟨_, rfl, hd.frames, hd.counts, hd.state, hd.delivered, rfl, .inr rfl, hd.keeps⟩

theorem assemblyTimeout_discards (t c ts : Nat) (f : OpenFrame) (s : State) (hc : c < 256)
    (hr : s.dev.inState c = inRunning) (hf : s.dev.frame? c ts = some f) (hcl : f.closed = false)
    (hw : f.stamp.wt + ceilDiv (qS * (frameRate (s.dev.get R.CTX_CFG_RATE c)).2 *
      s.dev.get R.CTX_CFG_ASM_TIMEOUT c) (frameRate (s.dev.get R.CTX_CFG_RATE c)).1 ≤ (s.dev.clock t).wt) :
    ∃ s', exec (.assemblyTimeout t c ts) s = .next s' ∧ (s'.dev.ctx c).frames = [] ∧
      s.dev.Counts s'.dev R.DISCARD_PARTIAL_COUNT c ∧ s'.dev.inState c = inResync ∧
      (s'.dev.ctx c).delivered = (s.dev.ctx c).delivered ∧
      s.Keeps s' t (R.CTX_STATUS.off c 0 :: R.DISCARD_PARTIAL.off c 0 :: dctxOffs c ++ recOffs) [.net, .dec, .recd] := by
  obtain ⟨e, he, hd⟩ := dropFrame_discards (d := s.dev.clock t) s.mem hc hr f (count := R.DISCARD_PARTIAL_COUNT) (by decide)
  have hfr : (s.dev.clock t).frame? c ts = some f := hf
  have hrun : assemblyTimeout c ts (s.dev.clock t, s.mem) = (e, s.mem) := by
    rw [← he]
    simp only [assemblyTimeout, hfr]
    refine if_pos ?_
    rw [hcl]
    exact decide_eq_true hw
  rw [exec_assemblyTimeout, State.onAll, hrun]
  exact ⟨_, rfl, hd.frames, hd.counts, hd.state, hd.delivered, rfl, .inr rfl, hd.keeps⟩

end Sys2Proof.Machine
end

section
/-! PROOFS. The delivery of a whole frame, and legs that fall silent (R113, R114, R119, R122, R136). -/

namespace Sys2Proof.Machine

/-! ### The decode queue -/

theorem Dev.dctx_of_dec {d e : Dev} (h : e.dec = d.dec) (c : Nat) : e.dctx c = d.dctx c := by rw [Dev.dctx, h, ← Dev.dctx]

theorem Dev.dctx_setDctx (d : Dev) (c : Nat) (x : Dctx) : (d.setDctx c x).dctx c = x := by
  have hdec : (d.setDctx c x).dec = { d.dec with ctxs := tabSet d.dec.ctxs Dctx.init c x } := by
    unfold Dev.setDctx
    split <;> rfl
  rw [Dev.dctx, hdec]
  exact tabGetD_set_same _ _ _ _

/-- A frame reaches the queue of a context that decodes and has room (R136). -/
theorem Dev.deliver_of_running {d : Dev} {c : Nat} (f : Queued) (hr : d.dcState c = dcRunning)
    (hs : d.dcService c ≠ svDegraded) (hl : (d.dctx c).queue.length < 4) :
    d.deliver c f = (d.put R.DCTX_STATUS_STATE dcRunning c).setDctx c
      { d.dctx c with queue := (d.dctx c).queue ++ [f] } := by
  have hx : (d.put R.DCTX_STATUS_STATE dcRunning c).dctx c = d.dctx c := Dev.dctx_of_dec (Dev.put_dec _ _ _ _ _) c
  unfold Dev.deliver
  rw [if_neg (by rw [hr]; decide), if_neg (by rw [hr]; decide), if_neg (by simp [hs])]
  simp only [hx]
  cases hq : (d.dctx c).queue with
  | nil => rfl
  | cons old rest =>
    rw [hq] at hl
    exact if_pos hl

theorem Dev.deliver_sets {d e : Dev} {c : Nat} {f : Queued} (hr : d.dcState c = dcRunning)
    (hs : d.dcService c ≠ svDegraded) (hl : (d.dctx c).queue.length < 4) (he : d.deliver c f = e) :
    (e.dctx c).queue = (d.dctx c).queue ++ [f] ∧ d.Keeps e (· ∈ dctxOffs c) [.dec] := by
  rw [← he, Dev.deliver_of_running f hr hs hl, Dev.dctx_setDctx]
  exact ⟨rfl, ((Dev.Keeps.refl _ _ _).put _ _ _ _ (by simp [dctxOffs, R.DCTX_STATUS_STATE])).trans
    ((Dev.keeps_setDctx _ _ _).mono (fun _ hx => hx) (by simp))⟩

/-! ### The postmark of a frame that leaves -/

/-- Without a freshness SEI it rests on CLASS and ALLOW (R84, R85). -/
theorem Dev.postmark_congr {d e : Dev} {c : Nat} (hcls : e.get R.CTX_CFG_CLASS c = d.get R.CTX_CFG_CLASS c)
    (ha : e.reg R.CTX_ALLOW c = d.reg R.CTX_ALLOW c) (f : OpenFrame) : e.postmark c f none = d.postmark c f none := by
  simp only [Dev.postmark, hcls, ha]

/-- A context, its counter, STATE and postmark as a whole frame leaves them (R114, R119). -/
def Dev.frameOk (d : Dev) (c : Nat) (x : Ctx) (pm : Postmark) : Dev :=
  ((((d.setCtx c x).bump R.FRAMES_OK_COUNT c).put R.CTX_STATUS_STATE inRunning c).setReg R.CTX_PM_LO
    (pm.word % 2 ^ 32) c).setLatch R.CTX_PM_HI (pm.word / 2 ^ 32) c

/-- The registers that it moves. -/
def frameOkOffs (c : Nat) : List Nat := [R.CTX_STATUS.off c 0, R.FRAMES_OK.off c 0, R.CTX_PM_LO.off c 0]

theorem Dev.frameOk_sets (d : Dev) (c : Nat) (x : Ctx) (pm : Postmark) :
    (d.frameOk c x pm).ctx c = x ∧ d.Counts (d.frameOk c x pm) R.FRAMES_OK_COUNT c ∧
      (d.frameOk c x pm).inState c = inRunning ∧ (d.frameOk c x pm).reg R.CTX_PM_LO c = pm.word % 2 ^ 32 ∧
      (d.frameOk c x pm).live R.CTX_PM_HI c = pm.word / 2 ^ 32 % 2 ^ 32 ∧
      d.Keeps (d.frameOk c x pm) (· ∈ frameOkOffs c) [.net, .latch] := by
  have hok : R.FRAMES_OK.off c 0 ≠ R.CTX_STATUS.off c 0 := RegDesc.off_ne (by decide) c 0
  have hpm : R.FRAMES_OK.off c 0 ≠ R.CTX_PM_LO.off c 0 := RegDesc.off_ne (by decide) c 0
  have hst : R.CTX_STATUS.off c 0 ≠ R.CTX_PM_LO.off c 0 := RegDesc.off_ne (by decide) c 0
  have hk : d.Keeps (d.setCtx c x) (· ∈ frameOkOffs c) [.net, .latch] :=
    (Dev.Keeps.refl _ _ _).setCtx _ _ (by simp [frameOkOffs]) (by simp)
  have hn : (d.setCtx c x).get R.FRAMES_OK_COUNT c = d.get R.FRAMES_OK_COUNT c := Dev.get_put_ne _ _ _ _ _ _ _ _ hok
  have hx : (d.setCtx c x).ctx c = x := Dev.ctx_setCtx _ _ _
  unfold Dev.frameOk
  generalize d.setCtx c x = b at hk hn hx
  refine ⟨(Dev.ctx_of_net (by simp only [Dev.setLatch_net, Dev.setReg_net, Dev.put_net, Dev.bump_net]) c).trans hx, ?_, ?_, ?_,
    ?_, ?_⟩
  · rw [Dev.Counts, Dev.setLatch_get, Dev.get_setReg_ne _ _ _ _ _ _ _ _ hpm, Dev.get_put_ne _ _ _ _ _ _ _ _ hok,
      Dev.get_bump _ _ _ _ _ (by decide), hn]
  · rw [Dev.inState, Dev.setLatch_get, Dev.get_setReg_ne _ _ _ _ _ _ _ _ hst]
    exact Dev.get_put_lt _ _ _ _ _ 8 (by decide) (by decide)
  · rw [Dev.setLatch_reg, Dev.reg_setReg, Nat.mod_mod]
  · rw [Dev.live, Dev.setLatch, tabGetD_put_same, BitVec.toNat_ofNat]
  · exact (((hk.bump _ _ _ _ (by simp [frameOkOffs, R.FRAMES_OK_COUNT])).put _ _ _ _
      (by simp [frameOkOffs, R.CTX_STATUS_STATE])).setReg _ _ _ _ (by simp [frameOkOffs])).setLatch _ _ _ _ (by simp)

/-- What the decode queue receives of a frame without a freshness SEI (R136). -/
def OpenFrame.queued (f : OpenFrame) (pm : Postmark) (wt : Nat) : Queued :=
  let ps := f.parts.filterMap (·.part)
  ⟨pm, wt, f.stamp.wt, ps.findSome? (·.pic), ps.flatMap (·.carries), ps.flatMap (·.uses), false⟩

/-- A compressed frame without a gap, in a running context (R114). -/
theorem finishFrame_of_whole {d : Dev} {c : Nat} {f : OpenFrame} (m : Mem) (ht : d.ctxType c < 2)
    (hr : d.inState c = inRunning) (hg : f.gap (d.ctx c).endSeq = false)
    (hs : (f.parts.filterMap (·.part)).findSome? (·.sei) = none)
    (hcapt : ∀ a b, (d.postmark c f none).2 = some a → (d.ctx c).lastCapt = some b → 0 < sdiff 48 a b) :
    finishFrame c f (d, m) = deliverFrame c f (d.postmark c f none).1 (d.postmark c f none).2 false (d, m) := by
  have hst : (d.ctxType c == 2) = false := by simp; omega
  simp only [finishFrame, hst, hg, hs, hr, Dev.countSei, Bool.not_false, Bool.and_false]
  rw [if_neg (by simp), if_neg (by simp [inRunning, inResync])]
  refine if_neg ?_
  split
  next a b ha hb =>
    have := hcapt a b ha hb
    simpa using this
  · decide

/-- Its delivery (R119, R136). -/
theorem deliverFrame_of_running {d : Dev} {c : Nat} {f : OpenFrame} (m : Mem) (pm : Postmark) (capt : Option Nat)
    (ht : d.ctxType c < 2) (hr : d.inState c = inRunning)
    (hs : (f.parts.filterMap (·.part)).findSome? (·.sei) = none) :
    ∃ x : Ctx, x.frames = (d.ctx c).frames ∧ x.delivered = (d.ctx c).delivered + 1 ∧
      deliverFrame c f pm capt false (d, m) =
        ((d.frameOk c x pm).deliver c (f.queued pm (d.frameOk c x pm).wt), m) := by
  have hst : (d.ctxType c == 2) = false := by simp; omega
  have hpm : { pm with flags := pm.flags ||| (if d.inState c = inResync then pmResync else 0) ||| b2n false } = pm := by
    rw [hr, if_neg (by decide)]
    simp [b2n]
  refine ⟨{ (d.ctx c).take f with
    lastCapt := (match capt with | some v => some v | none => ((d.ctx c).take f).lastCapt)
    delivered := ((d.ctx c).take f).delivered + 1
    endSeq := f.marker.map (·.1)
    ended := f.ts :: ((d.ctx c).take f).ended.filter (fun t => t != f.ts && decide (sdiff 32 f.ts t < 2 ^ 30)) },
    rfl, rfl, ?_⟩
  simp only [deliverFrame, hpm, hst, hs]
  rfl

/-- From `d` to `e`, a context delivered its first frame with a postmark to its decode queue (R114, R119, R136). -/
structure Dev.Delivers (d e : Dev) (c : Nat) (rest : List OpenFrame) (pm : Postmark) (q : Queued) : Prop where
  frames : (e.ctx c).frames = rest
  delivered : (e.ctx c).delivered = (d.ctx c).delivered + 1
  counts : d.Counts e R.FRAMES_OK_COUNT c
  state : e.inState c = inRunning
  pmLo : e.reg R.CTX_PM_LO c = pm.word % 2 ^ 32
  pmHi : e.live R.CTX_PM_HI c = pm.word / 2 ^ 32 % 2 ^ 32
  queue : (e.dctx c).queue = (d.dctx c).queue ++ [q]
  keeps : d.Keeps e (· ∈ frameOkOffs c ++ dctxOffs c) [.net, .dec, .latch]

theorem dctxStatus_notMem_frameOkOffs (c : Nat) : R.DCTX_STATUS.off c 0 ∉ frameOkOffs c := by
  have h : ∀ r : RegDesc, R.DCTX_STATUS.s1 = r.s1 ∧ R.DCTX_STATUS.s2 = r.s2 ∧ R.DCTX_STATUS.base ≠ r.base →
      R.DCTX_STATUS.off c 0 ≠ r.off c 0 := fun _ hr => RegDesc.off_ne hr c 0
  simp only [frameOkOffs, List.mem_cons, List.not_mem_nil, or_false, not_or]
  exact ⟨h _ (by decide), h _ (by decide), h _ (by decide)⟩

/-- A context whose decoding runs, not degraded, with room in its queue (R136). -/
structure Dev.Decodes (d : Dev) (c : Nat) : Prop where
  state : d.dcState c = dcRunning
  service : d.dcService c ≠ svDegraded
  room : (d.dctx c).queue.length < 4

theorem Dev.Decodes.congr {d e : Dev} {c : Nat} (h : d.Decodes c) (hr : e.reg R.DCTX_STATUS c = d.reg R.DCTX_STATUS c)
    (hd : e.dec = d.dec) : e.Decodes c := by
  have hg : ∀ f : FldDesc, f.reg = R.DCTX_STATUS → e.get f c = d.get f c := fun f hf => by rw [Dev.get, Dev.get, hf, hr]
  refine ⟨(hg _ rfl).trans h.state, ?_, by rw [Dev.dctx_of_dec hd]; exact h.room⟩
  rw [Dev.dcService, hg _ rfl]
  exact h.service

theorem deliverFrame_delivers {d : Dev} {c : Nat} {f : OpenFrame} (m : Mem) (pm : Postmark) (capt : Option Nat)
    (ht : d.ctxType c < 2) (hr : d.inState c = inRunning)
    (hs : (f.parts.filterMap (·.part)).findSome? (·.sei) = none) (hd : d.Decodes c) :
    ∃ e, deliverFrame c f pm capt false (d, m) = (e, m) ∧
      d.Delivers e c (d.ctx c).frames pm (f.queued pm d.wt) := by
  obtain ⟨x, hxf, hxd, hrun⟩ := deliverFrame_of_running m pm capt ht hr hs
  obtain ⟨hx, hcount, hstate, hlo, hhi, hk⟩ := d.frameOk_sets c x pm
  have hdec := hk.dec.resolve_left (by decide)
  have hb := hd.congr (hk.reg _ _ _ (dctxStatus_notMem_frameOkOffs c)) hdec
  rw [hk.wt (by decide)] at hrun
  generalize d.frameOk c x pm = b at *
  obtain ⟨hq, he⟩ := Dev.deliver_sets (f := f.queued pm d.wt) hb.state hb.service hb.room rfl
  have hctx := (Dev.ctx_of_net (he.net.resolve_left (by decide)) c).trans hx
  refine ⟨_, hrun, by rw [hctx, hxf], by rw [hctx, hxd], ?_, ?_, ?_, ?_, ?_, ?_⟩
  · exact (he.get _ _ _ (notMem_dctxOffs (by decide) c)).trans hcount
  · exact (he.get _ _ _ (notMem_dctxOffs (by decide) c)).trans hstate
  · exact (he.reg _ _ _ (notMem_dctxOffs (by decide) c)).trans hlo
  · rw [Dev.live, he.latch.resolve_left (by decide)]
    exact hhi
  · rw [hq, Dev.dctx_of_dec hdec]
  · exact (hk.mono (fun _ h => List.mem_append_left _ h) (by simp)).trans
      (he.mono (fun _ h => List.mem_append_right _ h) (by simp))

theorem Dev.Reframed.delivers {d b e : Dev} {c : Nat} {fs rest : List OpenFrame} {pm : Postmark} {q : Queued}
    (h : d.Reframed b c fs) (k : b.Delivers e c rest pm q) : d.Delivers e c rest pm q where
  frames := k.frames
  delivered := by rw [k.delivered, h.ctx]
  counts := k.counts.trans (by
    rw [h.keeps.get R.FRAMES_OK_COUNT c 0 fun hx =>
      RegDesc.off_ne (by decide) c 0 (List.mem_singleton.mp hx)])
  state := k.state
  pmLo := k.pmLo
  pmHi := k.pmHi
  queue := by rw [k.queue, Dev.dctx_of_dec (h.keeps.dec.resolve_left (by decide))]
  keeps := (h.keeps.mono (fun x hx => List.mem_append_left _ (by
    rw [List.mem_singleton.mp hx]
    exact List.mem_cons_self)) (by simp)).trans k.keeps

/-- The registers that a delivery moves lie in ingest's and the decoder's blocks. -/
theorem mem_deliverOffs {c x : Nat} (hc : c < 256) (h : x ∈ frameOkOffs c ++ dctxOffs c) : 0x400000 ≤ x ∧ x < 0x614000 := by
  simp only [frameOkOffs, dctxOffs, List.mem_append, List.mem_cons, List.not_mem_nil, or_false, RegDesc.off, R.CTX_STATUS,
    R.FRAMES_OK, R.CTX_PM_LO, R.DCTX_STATUS, R.DCTX_REF_MASK, R.DCTX_LEASE_MASK, R.DCTX_OUT] at h
  omega

/-- The first frame of a running compressed context closes without a gap (R113, R114). -/
theorem closeFrame_delivers {d : Dev} {c : Nat} (m : Mem) (ht : d.ctxType c < 2) (hr : d.inState c = inRunning)
    {f : OpenFrame} {rest : List OpenFrame} (hf : (d.ctx c).frames = f :: rest)
    (hrest : ∀ g ∈ rest, g.ts ≠ f.ts ∧ g.closed = false) (hg : f.gap (d.ctx c).endSeq = false)
    (hs : (f.parts.filterMap (·.part)).findSome? (·.sei) = none) (hd : d.Decodes c) {pm : Postmark × Option Nat}
    (hpm : d.postmark c f none = pm)
    (hcapt : ∀ a b, pm.2 = some a → (d.ctx c).lastCapt = some b → 0 < sdiff 48 a b) :
    ∃ e, closeFrame c f.ts (d, m) = (e, m) ∧ d.Delivers e c rest pm.1 (f.queued pm.1 d.wt) := by
  obtain ⟨b, hb, hrun⟩ := closeFrame_of_first m hf
    ((List.map_congr_left fun g hg => if_neg (hrest g hg).1).trans (List.map_id _))
  have hbt : b.ctxType c < 2 := ctxType_of_reframed hb ▸ ht
  have hbr : b.inState c = inRunning := hb.state.trans hr
  have hbp : b.postmark c { f with closed := true } none = pm := by
    have hkeep : ∀ r : RegDesc, r.s1 = R.CTX_STATUS.s1 ∧ r.s2 = R.CTX_STATUS.s2 ∧ r.base ≠ R.CTX_STATUS.base →
        r.off c 0 ∉ [R.CTX_STATUS.off c 0] := fun r h => by simpa using RegDesc.off_ne h c 0
    rw [Dev.postmark_congr (hb.keeps.get _ _ _ (hkeep _ (by decide))) (hb.keeps.reg _ _ _ (hkeep _ (by decide)))]
    exact hpm
  have hbd : b.Decodes c := hd.congr (hb.keeps.reg _ _ _ (by simpa using RegDesc.off_ne (by decide) c 0))
    (hb.keeps.dec.resolve_left (by decide))
  have hfin := finishFrame_of_whole (f := { f with closed := true }) m hbt hbr (by rw [hb.ctx]; exact hg) hs
    (by rw [hbp, hb.ctx]; exact hcapt)
  obtain ⟨e, he, hdel⟩ := deliverFrame_delivers (f := { f with closed := true }) m pm.1 pm.2 hbt hbr hs hbd
  rw [hb.keeps.wt (by decide), show (b.ctx c).frames = rest by rw [hb.ctx]] at hdel
  refine ⟨e, ?_, hb.delivers hdel⟩
  rw [hrun, hfin, hbp, he, emitFrames_of_open m fun g hg => ?_]
  rw [hdel.frames] at hg
  exact (hrest g hg).2

theorem frameHoldExpiry_whole (t c ts mk w : Nat) (f : OpenFrame) (rest : List OpenFrame) (s : State) (hc : c < 256)
    (ht : s.dev.ctxType c < 2) (hr : s.dev.inState c = inRunning) (hf : (s.dev.ctx c).frames = f :: rest) (hts : f.ts = ts)
    (hcl : f.closed = false) (_ : f.slot = none) (hm : f.marker = some (mk, w))
    (hw : w + s.dev.holdTime c ≤ (s.dev.clock t).wt) (hrest : ∀ g ∈ rest, g.ts ≠ ts ∧ g.closed = false)
    (hg : f.gap (s.dev.ctx c).endSeq = false) (hs : (f.parts.filterMap (·.part)).findSome? (·.sei) = none)
    (hdc : s.dev.dcState c = dcRunning) (hsv : s.dev.dcService c ≠ svDegraded) (hl : (s.dev.dctx c).queue.length < 4) :
    let pm := s.dev.postmark c f none
    (∀ a b, pm.2 = some a → (s.dev.ctx c).lastCapt = some b → 0 < sdiff 48 a b) →
    let ps := f.parts.filterMap (·.part)
    ∃ s', exec (.frameHoldExpiry t c ts) s = .next s' ∧ (s'.dev.ctx c).frames = rest ∧
      (s'.dev.ctx c).delivered = (s.dev.ctx c).delivered + 1 ∧ s.dev.Counts s'.dev R.FRAMES_OK_COUNT c ∧
      s'.dev.inState c = inRunning ∧ s'.dev.reg R.CTX_PM_LO c = pm.1.word % 2 ^ 32 ∧
      s'.dev.live R.CTX_PM_HI c = pm.1.word / 2 ^ 32 % 2 ^ 32 ∧
      (s'.dev.dctx c).queue = (s.dev.dctx c).queue ++ [⟨pm.1, (s.dev.clock t).wt, f.stamp.wt, ps.findSome? (·.pic),
        ps.flatMap (·.carries), ps.flatMap (·.uses), false⟩] ∧
      s.KeepsBut s' t (fun off => 0x400000 ≤ off ∧ off < 0x614000) [.net, .dec, .latch] := by
  intro pm hcapt ps
  subst hts
  obtain ⟨e, he, hd⟩ := closeFrame_delivers (d := s.dev.clock t) s.mem ht hr hf hrest hg hs ⟨hdc, hsv, hl⟩
    (Dev.postmark_congr rfl rfl f) hcapt
  have hrun := (holdExpiry_of_first (d := s.dev.clock t) s.mem hf hcl (.inl ⟨mk, hm⟩) hw).trans he
  rw [exec_frameHoldExpiry, State.onAll, hrun]
  exact ⟨_, rfl, hd.frames, hd.delivered, hd.counts, hd.state, hd.pmLo, hd.pmHi, hd.queue, rfl, .inr rfl,
    hd.keeps.mono (fun _ hx => mem_deliverOffs hc hx) fun _ hx => hx⟩

/-! ### Legs that fall silent -/

/-- The path alarm of a leg stands (R122). -/
def Ctx.alarmed (x : Ctx) (leg : Nat) : Ctx := if leg = 0 then { x with alarm0 := true } else { x with alarm1 := true }

theorem Ctx.alarmed_sets (x : Ctx) (leg : Nat) : (x.alarmed leg).frames = x.frames ∧
    (if leg = 0 then (x.alarmed leg).alarm0 else (x.alarmed leg).alarm1) = true := by
  by_cases h : leg = 0 <;> simp [Ctx.alarmed, h]

/-- A leg of a context loses its ACTIVE bit; where the other leg of a DUAL context stands, the alarm does too (R122). -/
def Dev.legSilent (d : Dev) (c leg : Nat) (act other : FldDesc) (x : Ctx) : Dev :=
  let e := d.put act 0 c
  if e.on R.CTX_STATUS_DUAL c && e.on other c then (e.setCtx c x).info .legAlarm (asmAgent c) c leg else e

/-- The ACTIVE bits of two legs: apart from each other, between OPEN_FRAMES and DUAL. -/
abbrev FldDesc.legs (act other : FldDesc) : Prop :=
  (act.ok = true ∧ act.reg = R.CTX_STATUS ∧ 24 < act.lo ∧ act.hi < 27) ∧
    (other.ok = true ∧ other.reg = R.CTX_STATUS ∧ 24 < other.lo) ∧ (other.hi < act.lo ∨ act.hi < other.lo)

theorem Dev.legSilent_sets (d : Dev) {c leg : Nat} (hc : c < 256) {act other : FldDesc} (h : act.legs other) {x : Ctx}
    (hx : x.frames = (d.ctx c).frames) {e : Dev} (he : d.legSilent c leg act other x = e) :
    e.get act c = 0 ∧ e.get other c = d.get other c ∧ (e.ctx c).frames = (d.ctx c).frames ∧
      (d.get R.CTX_STATUS_DUAL c = 1 → d.get other c = 1 → e.ctx c = x) ∧
      d.Keeps e (· ∈ R.CTX_STATUS.off c 0 :: recOffs) [.net, .recd] := by
  obtain ⟨⟨hao, har, hal, hah⟩, ⟨hoo, hor, hol⟩, hap⟩ := h
  have hs : R.CTX_STATUS.off c 0 ∈ R.CTX_STATUS.off c 0 :: recOffs := List.mem_cons_self
  have hact : (d.put act 0 c).get act c = 0 := (d.get_put act 0 c 0 hao).trans (Nat.zero_mod _)
  have hother : (d.put act 0 c).get other c = d.get other c := Dev.get_put_apart _ _ _ _ _ _ ⟨hao, hoo, hor.trans har.symm, hap⟩
  have hdual : (d.put act 0 c).get R.CTX_STATUS_DUAL c = d.get R.CTX_STATUS_DUAL c :=
    Dev.get_put_apart _ _ _ _ _ _ ⟨hao, by decide, har.symm, .inr hah⟩
  have hk : d.Keeps (d.put act 0 c) (· ∈ R.CTX_STATUS.off c 0 :: recOffs) [.net, .recd] :=
    (Dev.Keeps.refl _ _ _).put _ _ _ _ (har ▸ hs)
  have hctx : (d.put act 0 c).ctx c = d.ctx c := Dev.ctx_of_net (Dev.put_net _ _ _ _ _) c
  rw [Dev.legSilent] at he
  generalize d.put act 0 c = b at *
  subst he
  by_cases ha : (b.on R.CTX_STATUS_DUAL c && b.on other c) = true
  · have hinfo := (Dev.Keeps.refl (b.setCtx c x) (· ∈ recOffs) [.recd]).info .legAlarm (asmAgent c) c leg 0
      (fun _ hx => hx) (by simp)
    have hget : ∀ f : FldDesc, f.ok = true ∧ f.reg = R.CTX_STATUS ∧ 24 < f.lo →
        ((b.setCtx c x).info .legAlarm (asmAgent c) c leg).get f c = b.get f c := fun f hf =>
      (hinfo.get _ _ _ (hf.2.1 ▸ ctxStatus_notMem_recOffs hc)).trans
        (Dev.get_setCtx _ _ _ _ ⟨by decide, hf.1, hf.2.1, .inr hf.2.2⟩)
    have hix : ((b.setCtx c x).info .legAlarm (asmAgent c) c leg).ctx c = x :=
      (Dev.ctx_of_net (hinfo.net.resolve_left (by simp)) c).trans (Dev.ctx_setCtx _ _ _)
    simp only [if_pos ha]
    exact ⟨(hget _ ⟨hao, har, hal⟩).trans hact, (hget _ ⟨hoo, hor, hol⟩).trans hother, (congrArg Ctx.frames hix).trans hx,
      fun _ _ => hix, (hk.setCtx _ _ hs (by simp)).trans (hinfo.mono (fun _ hx => List.mem_cons_of_mem _ hx) (by simp))⟩
  · simp only [if_neg ha]
    refine ⟨hact, hother, congrArg Ctx.frames hctx, fun h1 h2 => absurd ?_ ha, hk⟩
    rw [Bool.and_eq_true, Dev.on_iff, Dev.on_iff, hdual, hother]
    exact ⟨h1, h2⟩

theorem legInactive_silences (t c leg : Nat) (s : State) (hc : c < 256) (hleg : leg < 2) :
    let act := if leg = 0 then R.CTX_STATUS_LEG0_ACTIVE else R.CTX_STATUS_LEG1_ACTIVE
    let other := if leg = 0 then R.CTX_STATUS_LEG1_ACTIVE else R.CTX_STATUS_LEG0_ACTIVE
    let last := if leg = 0 then (s.dev.ctx c).leg0 else (s.dev.ctx c).leg1
    s.dev.get act c = 1 → last + 100 * qMs ≤ (s.dev.clock t).wt →
    ∃ s', exec (.legInactive t c leg) s = .next s' ∧ s'.dev.get act c = 0 ∧ s'.dev.get other c = s.dev.get other c ∧
      (s'.dev.ctx c).frames = (s.dev.ctx c).frames ∧
      (s.dev.get R.CTX_STATUS_DUAL c = 1 → s.dev.get other c = 1 →
        (if leg = 0 then (s'.dev.ctx c).alarm0 else (s'.dev.ctx c).alarm1) = true) ∧
      s.Keeps s' t (R.CTX_STATUS.off c 0 :: recOffs) [.net, .recd] := by
  intro act other last ha hl
  have hlegs : act.legs other := by
    rcases (by omega : leg = 0 ∨ leg = 1) with rfl | rfl <;> decide
  obtain ⟨hxf, hxa⟩ := (s.dev.ctx c).alarmed_sets leg
  have hrun : legInactive c leg (s.dev.clock t) = (s.dev.clock t).legSilent c leg act other ((s.dev.ctx c).alarmed leg) := by
    have hact : (s.dev.clock t).on act c = true := ((s.dev.clock t).on_iff _ _ _).mpr ha
    refine if_neg ?_
    rw [Bool.or_eq_true, Bool.or_eq_true, decide_eq_true_eq, decide_eq_true_eq, Bool.not_eq_true']
    rintro ((h | h) | h)
    · omega
    · exact absurd (hact.symm.trans h) (by decide)
    · exact absurd h (Nat.not_lt.mpr hl)
  obtain ⟨h1, h2, h3, h4, hk⟩ := (s.dev.clock t).legSilent_sets (leg := leg) hc hlegs hxf rfl
  rw [exec_legInactive, State.onDev, hrun]
  refine ⟨_, rfl, h1, h2, h3, fun hd ho => ?_, rfl, .inr rfl, hk⟩
  rw [h4 hd ho]
  exact hxa

/-- Settles O21: each port and flow write by the registers that it sets; each timer by what it makes of the open frames. -/
theorem ingestPortsAndTimers : Obligations.IngestPortsAndTimers :=
  ⟨⟨ethCtrlWrite_takes, ethLinkLost_loses, ethLinkUp_links, flowApply_takes⟩, frameHoldExpiry_whole, frameHoldExpiry_gap,
    assemblyTimeout_discards, legInactive_silences⟩

end Sys2Proof.Machine
end

section
/-! PROOFS. Multicast memberships (R127): a state in which the answer of MCAST_LEAVE is not the number of memberships left.
The statement does not bound the memberships of a port. -/

namespace Sys2Proof.Machine

theorem exec_mcastLeave (t q seq : Nat) (s : State) : exec (.mcastLeave t q seq) s = s.onDev t (mcastLeave q seq) := rfl

/-- The block with a membership taken from some ports. -/
def Dev.leaving (d : Dev) (m : Membership) (ps : List Nat) : Dev :=
  ps.foldl (fun d p => d.setMembers p ((d.members p).filter (· != m))) d

theorem Dev.keeps_leaving (d : Dev) (m : Membership) (ps : List Nat) : d.Keeps (d.leaving m ps) (· ∈ []) [.net] :=
  .foldl _ _ (.refl _ _ _) fun _ _ k => k.setMembers _ _ (by simp)

/-- RESULT is a field of 64 bits: what MCAST_LEAVE answers is the number of memberships left modulo 2⁶⁴. -/
theorem mcastLeave_answers_mod {d : Dev} {q seq : Nat} {c : Cmd} {bs : List Byte} (h : d.Running q seq 0x0403 c)
    (ha : d.Alone) (ht : c.Tail 12) (hb : mcastBad c = none) (hd : c.hostData = some (bs, [])) :
    (mcastLeave q seq d).answer q seq = some ⟨Status.success, 0, 0, d.moduleId,
      ((d.leaving (memberOf c bs) (maskPorts (c.p 0 1))).members ((maskPorts (c.p 0 1)).headD 0)).length % 2 ^ 64⟩ := by
  have hk := d.keeps_leaving (memberOf c bs) (maskPorts (c.p 0 1))
  have he : mcastLeave q seq d = (d.leaving (memberOf c bs) (maskPorts (c.p 0 1))).succeed q seq
      ((d.leaving (memberOf c bs) (maskPorts (c.p 0 1))).members ((maskPorts (c.p 0 1)).headD 0)).length := by
    rw [mcastLeave, h.onCmd]
    simp only [hb, d.withTail_of q seq c 12 _ ht, Dev.withHost, hd, Dev.leaving]
  have hid : (d.leaving (memberOf c bs) (maskPorts (c.p 0 1))).moduleId = d.moduleId := hk.get _ _ _ (by simp)
  rw [he, Dev.succeed, Dev.finish_answer (h.of_host (hk.host.resolve_left (by simp))) (ha.of_keeps hk (by simp)), hid]

/-- A started MCAST_LEAVE of the IPv4 group 0 on port 0, whose host data has come. -/
def leaveCmd : Cmd :=
  { Cmd.ofEntry [] 0 with
    seq := 1, opcode := 0x0403, param := [1], hostData := some ([], []), badField := none, st := .started }

/-- A unit that runs it, with `n` memberships of an IPv6 group on port 0. -/
def crowdedDev (n : Nat) : Dev :=
  { Dev.init with
    host := { HostSt.init with queues := [(0, { Queue.init with cmds := [leaveCmd] })] }
    net := { NetSt.init with members := [(0, List.replicate n ⟨true, false, 0, 0⟩)] } }

theorem crowdedDev_running (n : Nat) : (crowdedDev n).Running 0 1 0x0403 leaveCmd := ⟨by decide, rfl, rfl, rfl⟩

theorem crowdedDev_alone (n : Nat) : (crowdedDev n).Alone := by
  rw [Dev.Alone, show (crowdedDev n).pst = Dev.init.pst from rfl]
  decide

/-- None of them is the membership left. -/
theorem crowdedDev_members (n : Nat) :
    ((crowdedDev n).members 0).filter (· != memberOf leaveCmd []) = List.replicate n ⟨true, false, 0, 0⟩ := by
  rw [show (crowdedDev n).members 0 = List.replicate n ⟨true, false, 0, 0⟩ from rfl, List.filter_eq_self]
  intro x hx
  rw [List.eq_of_mem_replicate hx]
  decide

/-- The statement has MCAST_LEAVE answer how many memberships are left, so that they would always be fewer than 2⁶⁴. -/
theorem length_lt_of_streamCommands (h : Obligations.StreamCommands) (n : Nat) : n < 2 ^ 64 := by
  obtain ⟨-, -, -, hleave⟩ := h
  have ht : leaveCmd.Tail 12 := rfl
  have hb : mcastBad leaveCmd = none := by decide
  obtain ⟨s', hx, hmem, hans, -⟩ := hleave 0 0 1 leaveCmd [] ⟨crowdedDev n, .init, []⟩ (crowdedDev_running n)
    (crowdedDev_alone n) ht hb rfl
  have hmod := mcastLeave_answers_mod (d := (crowdedDev n).clock 0) (bs := []) (crowdedDev_running n) (crowdedDev_alone n)
    ht hb rfl
  have hleft := hmem 0
  rw [exec_mcastLeave, State.onDev] at hx
  cases hx
  rw [if_pos ⟨by decide, by decide⟩, crowdedDev_members] at hleft
  rw [show (maskPorts (leaveCmd.p 0 1)).headD 0 = 0 by decide, hleft, List.length_replicate] at hans
  have hres := congrArg (fun o => (o.map Outcome.result).getD 0) (hans.symm.trans hmod)
  exact hres.trans_lt (Nat.mod_lt _ (by decide))

/-- Refutes O23: where 2⁶⁴ memberships stay on a port, MCAST_LEAVE answers 0, because RESULT has 64 bits. -/
theorem not_streamCommands : ¬ Obligations.StreamCommands := fun h =>
  absurd (length_lt_of_streamCommands h (2 ^ 64)) (lt_irrefl _)

end Sys2Proof.Machine
end
